-- ==== Sys2Proof/Word.lean ====
section
/-!
DEFINITION. The word types of the model and the part numbers (chapter 0).
-/
namespace Sys2Proof

/-- A byte. -/
abbrev Byte := BitVec 8

/-- A register value; a 32-bit register uses the low half. -/
abbrev Word := BitVec 64

/-- A line: 64 data bytes, byte `k` in bits `[8k+7:8k]` (R11, Table 0.5). -/
abbrev Line := BitVec 512

/-- A byte mask over a line: bit `k` for byte `k`. -/
abbrev Mask := BitVec 64

/-- The three parts of Table 0.1. -/
inductive Part where
  | mhl8080
  | mhl8082
  | mhl4040
deriving DecidableEq, Repr

end Sys2Proof
end

