-- ==== Sys2Proof/Syntax.lean ====
section
/-!
DEFINITION. The commands of the block: one constructor of `Instr` for each row of spec/opcode_table.json,
with the operands that the rule of the row names, and the types of those operands.
-/
namespace Sys2Proof

/-- The units that hold launch slots (Table 2.3): the hub, media die `d`, Hazel core `h`. -/
inductive LaunchUnit where
  | hub
  | die (d : Nat)
  | core (h : Nat)
deriving DecidableEq, Repr
/-- Return codes of the CXL mailbox and the FM API that the specification names. -/
inductive MboxCode where
  | success
  | unsupported
  | invalidInput
deriving DecidableEq, Repr
/-- How a range operation is issued (R142): by a write of LC_RANGE_OP_CTL of a slot with Start, or by a descriptor. -/
inductive RangeIssue where
  | slot (slot : Nat)
  | descriptor (ring handle : Nat)
deriving DecidableEq, Repr
/-- What the light code makes of a line read from the media (R182, R183): every word good, with the words corrected;
uncorrectable; or an error outside the code's properties, and the bits that come out. -/
inductive LightDecode where
  | good (words : List Nat)
  | uncorrectable
  | wrong (words : List Nat) (data : BitVec 512)
deriving DecidableEq, Repr
/-- How a retirement is commanded (R215): by a write of MT_RETIRE_CTL with Start, or by an admin retire descriptor. -/
inductive RetireIssue where
  | register
  | descriptor (ring handle : Nat)
deriving DecidableEq, Repr
/-- The atomic memory operations (R384). -/
inductive AmoOp where
  | swap
  | add
  | xor
  | and
  | or
  | min
  | max
  | minu
  | maxu
deriving DecidableEq, Repr

/-- Exceptions of a kernel that no memory access raises (Table 12.7). -/
inductive HazelCause where
  | fetchOutside
  | illegal
  | ebreak
  | misalignedLoad
  | misalignedStore
  | unknownService
deriving DecidableEq, Repr

/-- Where an Early store came from (R344, ESP_EARLY_FAULT_ADDR.SourceKind). -/
inductive DropSource where
  | core (h : Nat)
  | mover (ring : Nat)
  | agent (k : Nat)
  | network (qp : Nat)
deriving DecidableEq, Repr
/-- Why the Malhild or its peer sends a NAK (Table 13.4), or an RNR NAK. -/
inductive NakKind where
  | sequence
  | invalidRequest
  | accessError
  | operationalError
  | notReady
deriving DecidableEq, Repr
/-- A received Ethernet frame, as far as its port looks at it (R412). -/
inductive Frame where
  /-- RoCEv2 to a GID: destination QPN, PSN, whether its ICRC and form are good, whether its opcode and transport are
  supported, and ECN CE. -/
  | roce (gid : BitVec 128) (qpn psn : Nat) (sound supported congested : Bool)
  /-- An ARP request, or an IPv6 neighbour solicitation, for an address. -/
  | resolve (gid : BitVec 128)
  /-- A PTP event or general message. -/
  | ptp (event : Bool)
  | pfc
  | other
deriving DecidableEq, Repr

/-- A flit that has passed its CRC, but for its slots' bytes (Tables 15.6 to 15.8): the four slot descriptors, the four
cumulative credit counts, and the sequence and acknowledge word. -/
structure Flit where
  flitType : Nat
  version : Nat
  descs : List Nat
  crd : List Nat
  ctlOp : Nat
  ctlArg : Nat
  seq : Nat
  seqValid : Bool
  replay : Bool
  ackSeq : Nat
  ackValid : Bool
  nak : Bool
deriving DecidableEq, Repr

/-- What the lane tests of a training or retraining find (R460): lanes that fail toward the partner and toward the hub, and
whether a clock, track or valid lane of each direction is repaired. -/
structure LaneTest where
  tx : List Nat
  rx : List Nat
  txCtl : Bool
  rxCtl : Bool
deriving DecidableEq, Repr
/-- What Privet finds at the start of a bank of the firmware flash, which is an external device (R517, Table 17.3): the header's
numbers, the component table as (type, digest), and whether the key hash, the signature and the digest of the Privet
component are good. -/
structure FlashBank where
  magic : Nat
  formatVersion : Nat
  svn : Nat
  flags : Nat
  version : Nat
  keyIndex : Nat
  components : List (Nat × BitVec 384)
  keyMatches : Bool
  signatureValid : Bool
  privetDigest : Bool
deriving DecidableEq, Repr
/-- The clocks of Table 1.8 that have a monitor (R44): the hub PLL and its system reference, the HBM PLL of a stack, the PLL of a
Kilius port, the PLLs of a media die for its M-channels, its F-channels and its cluster, the CXL and Ethernet references, and
the 25 MHz crystal. -/
inductive ClockSource where
  | hub
  | hbm (stack : Nat)
  | port (k : Nat)
  | dorfoad (die : Nat)
  | nand (die : Nat)
  | cluster (die : Nat)
  | cxl
  | ethernet
  | crystal
deriving DecidableEq, Repr
/-- What the training of an F-channel finds (R221): its number, the trained rate and interface, the identity as FT_CH_ID holds
it, and the dies that answered with it, one bit each. -/
structure FchanFound where
  chan : Nat
  rate : Nat
  toggle : Bool
  id : BitVec 64
  dies : Nat
deriving DecidableEq, Repr
/-- What a start-up finds (R612): the F-channels that train; the HBM3E stacks and the Hazel clusters that fail; and the XTS and
GCM cores that pass their self-check, one bit each. -/
structure StartFindings where
  fchans : List FchanFound
  lostStacks : List Nat
  lostClusters : List Nat
  xts : Nat
  gcm : Nat
deriving DecidableEq, Repr

/-- The commands: every row of the table of operations and events. -/
inductive Instr where
  /-- REGISTER_WRITE (R13). -/
  | registerWrite (dom addr width : Nat) (value : BitVec 64)
  /-- REGISTER_ACCESS_BAD_WIDTH (R15). -/
  | registerAccessBadWidth (dom addr width : Nat) (read : Bool)
  /-- POWER_ON (R604). -/
  | powerOn
  /-- PORST_N_ASSERT (R554). -/
  | porstNAssert
  /-- HBM_STACK_FAILURE (R26). -/
  | hbmStackFailure (stack : Nat)
  /-- CLOCK_MONITOR_LOSS (R44). -/
  | clockMonitorLoss (clock : ClockSource)
  /-- MEDIA_DIE_LOSS (R45). -/
  | mediaDieLoss (die : Nat)
  /-- PTP_MESSAGE_RECEIVE (R56). -/
  | ptpMessageReceive (port sourceTime : Nat)
  /-- PTP_SOURCE_LOSS (R53). -/
  | ptpSourceLoss
  /-- PPS_IN_EDGE (R57). -/
  | ppsInEdge
  /-- TB_SET_WRITE (R53). -/
  | tbSetWrite (value : BitVec 64)
  /-- TB_CTL_WRITE (R54). -/
  | tbCtlWrite (value : BitVec 32)
  /-- HOLDOVER_EXPIRY (R58). -/
  | holdoverExpiry
  /-- TCXO_FAILURE (R59). -/
  | tcxoFailure
  /-- PPS_OUT_PULSE (R60). -/
  | ppsOutPulse
  /-- TIME_MESSAGE_SEND (R490). -/
  | timeMessageSend
  /-- TIME_MESSAGE_RECEIVE (R61). -/
  | timeMessageReceive (port hubTime delayNs : Nat)
  /-- DIE_TIME_LOST (R62). -/
  | dieTimeLost (die : Nat)
  /-- DIE_LAUNCH_HOLD (R62). -/
  | dieLaunchHold (die : Nat)
  /-- AGENT_TIME_LOST (R491). -/
  | agentTimeLost (agent : Nat)
  /-- LAUNCH_SLOT_ARM (R73). -/
  | launchSlotArm (unit : LaunchUnit) (slot : Nat) (value : BitVec 32)
  /-- LAUNCH_SLOT_CANCEL (R73). -/
  | launchSlotCancel (unit : LaunchUnit) (slot : Nat) (value : BitVec 32)
  /-- LAUNCH_SLOT_FIRE (R70). -/
  | launchSlotFire (unit : LaunchUnit) (slot : Nat)
  /-- LAUNCH_ARM_SEND (R492). -/
  | launchArmSend (agent slot : Nat)
  /-- CXL_LINK_TRAINED (R76). -/
  | cxlLinkTrained (link width rate : Nat)
  /-- CXL_LINK_DOWN (R122). -/
  | cxlLinkDown (link : Nat)
  /-- CXL_LINK_RESET (R608). -/
  | cxlLinkReset (link : Nat)
  /-- LD_RESET (R608). -/
  | ldReset (ld : Nat)
  /-- WIN_LD_BIND_WRITE (R78). -/
  | winLdBindWrite (ld : Nat) (value : BitVec 32)
  /-- WIN_LD_EXTENT_WRITE (R79). -/
  | winLdExtentWrite (ld extent : Nat) (value : BitVec 64)
  /-- HDM_DECODER_COMMIT (R84). -/
  | hdmDecoderCommit (ld decoder base size ways granularity skip position : Nat) (bi biEnabled : Bool)
  /-- CXL_MEM_READ (R91). -/
  | cxlMemRead (link ld tag hpa : Nat) (cacheable : Bool)
  /-- MEMWR (R29). -/
  | memwr (link ld tag hpa : Nat) (data : BitVec 512) (poison : Bool)
  /-- MEMWRPTL (R105). -/
  | memwrptl (link ld tag hpa : Nat) (data : BitVec 512) (mask : BitVec 64) (poison : Bool)
  /-- BIRSP (R87). -/
  | birsp (link line : Nat) (dirty : Option (BitVec 512))
  /-- BI_TIMEOUT (R89). -/
  | biTimeout (link line : Nat)
  /-- SF_EVICTION_COMPLETE (R90). -/
  | sfEvictionComplete (sector : Nat)
  /-- ADMISSION_RELEASE (R96). -/
  | admissionRelease (read : Nat)
  /-- READ_DEADLINE (R100). -/
  | readDeadline (read : Nat)
  /-- CLEARENTRY (R116). -/
  | clearentry
  /-- CLEARALL (R116). -/
  | clearall
  /-- CLEAROVERFLOW (R116). -/
  | clearoverflow
  /-- GPF_PHASE_1 (R117). -/
  | gpfPhase1 (link : Nat)
  /-- GPF_PHASE_2 (R117). -/
  | gpfPhase2 (link : Nat)
  /-- GET_EVENT_RECORDS (R118). -/
  | getEventRecords (ld log : Nat)
  /-- CLEAR_EVENT_RECORDS (R118). -/
  | clearEventRecords (ld log : Nat) (handles : List Nat) (all : Bool)
  /-- GET_EVENT_INTERRUPT_POLICY (R118). -/
  | getEventInterruptPolicy (ld : Nat)
  /-- SET_EVENT_INTERRUPT_POLICY (R118). -/
  | setEventInterruptPolicy (ld : Nat) (policy : BitVec 32)
  /-- GET_FW_INFO (R118). -/
  | getFwInfo (ld : Nat)
  /-- TRANSFER_FW (R516). -/
  | transferFw (ld action offset : Nat) (data : List (BitVec 8))
  /-- ACTIVATE_FW (R518). -/
  | activateFw (ld action slot : Nat)
  /-- GET_TIMESTAMP (R118). -/
  | getTimestamp (ld : Nat)
  /-- SET_TIMESTAMP (R118). -/
  | setTimestamp (ld : Nat) (value : BitVec 64)
  /-- GET_SUPPORTED_LOGS (R118). -/
  | getSupportedLogs (ld : Nat)
  /-- GET_LOG (R118). -/
  | getLog (ld log offset length : Nat)
  /-- IDENTIFY_MEMORY_DEVICE (R118). -/
  | identifyMemoryDevice (ld : Nat)
  /-- GET_PARTITION_INFO (R118). -/
  | getPartitionInfo (ld : Nat)
  /-- GET_HEALTH_INFO (R119). -/
  | getHealthInfo (ld : Nat)
  /-- GET_ALERT_CONFIGURATION (R118). -/
  | getAlertConfiguration (ld : Nat)
  /-- SET_ALERT_CONFIGURATION (R118). -/
  | setAlertConfiguration (ld : Nat) (alerts : BitVec 64)
  /-- GET_POISON_LIST (R111). -/
  | getPoisonList (ld dpa length limit : Nat)
  /-- INJECT_POISON (R111). -/
  | injectPoison (ld dpa : Nat)
  /-- CLEAR_POISON (R111). -/
  | clearPoison (ld dpa : Nat) (data : BitVec 512)
  /-- SANITIZE (R617). -/
  | sanitize (ld : Nat)
  /-- UNSUPPORTED_MAILBOX_COMMAND (R118). -/
  | unsupportedMailboxCommand (ld opcode : Nat)
  /-- GET_LD_INFO (R82). -/
  | getLdInfo (link : Nat)
  /-- GET_LD_ALLOCATIONS (R82). -/
  | getLdAllocations (link start limit : Nat)
  /-- SET_LD_ALLOCATIONS (R82). -/
  | setLdAllocations (link : Nat) (payload : List Nat)
  /-- QUICKSET_MERGE (R129). -/
  | quicksetMerge (line : Nat)
  /-- MEDIA_WRITE_COMPLETE (R130). -/
  | mediaWriteComplete (write : Nat)
  /-- LC_ENABLE (R140). -/
  | lcEnable (value : BitVec 32)
  /-- LC_DISABLE (R137). -/
  | lcDisable (value : BitVec 32)
  /-- CLEAN (R141). -/
  | clean (issue : RangeIssue)
  /-- INVALIDATE (R141). -/
  | invalidate (issue : RangeIssue)
  /-- PREFETCH (R141). -/
  | prefetch (issue : RangeIssue)
  /-- LOCK (R134). -/
  | lockRange (issue : RangeIssue)
  /-- UNLOCK (R141). -/
  | unlock (issue : RangeIssue)
  /-- INVALIDATEALL (R141). -/
  | invalidateall (issue : RangeIssue)
  /-- RANGE_OP_TURN (R148). -/
  | rangeOpTurn
  /-- RANGE_OP_COMPLETE (R149). -/
  | rangeOpComplete (slot : Nat)
  /-- HBM_UNCORRECTABLE (R151). -/
  | hbmUncorrectable (line : Nat)
  /-- TAG_UNCORRECTABLE (R152). -/
  | tagUncorrectable (set way : Nat) (mayHoldDirty : Bool)
  /-- CHANNEL_TRAINING_STEP (R171). -/
  | channelTrainingStep (chan step : Nat) (fail0 fail1 : Bool) (id0 id1 : BitVec 64) (margin : Nat)
  /-- BANK_READ_ARRIVAL (R169). -/
  | bankReadArrival (read : Nat)
  /-- ARRAY_READ_COMPLETE (R189). -/
  | arrayReadComplete (read : Nat) (decode : LightDecode)
  /-- PAGE_READ_COMPLETE (R169). -/
  | pageReadComplete (read : Nat) (corrected : List (Nat × Nat)) (uncorrectable : List Nat)
  /-- STRONG_DECODE_COMPLETE (R189). -/
  | strongDecodeComplete (read : Nat) (corrected : List (Nat × Nat)) (success : Bool)
  /-- WRITE_TOKEN_GRANT (R174). -/
  | writeTokenGrant (write : Nat)
  /-- COMPARISON_READ_COMPLETE (R165). -/
  | comparisonReadComplete (chan lane : Nat)
  /-- SEGMENT_END (R169). -/
  | segmentEnd (chan lane : Nat) (failing : BitVec 64)
  /-- FORCED_SEGMENT (R94). -/
  | forcedSegment (chan lane : Nat)
  /-- CA_ALERT (R173). -/
  | caAlert (chan rank command : Nat) (again : Bool)
  /-- RETRAINNOW (R172). -/
  | retrainnow (chan : Nat)
  /-- RETRAIN_PERIOD_EXPIRY (R172). -/
  | retrainPeriodExpiry (chan : Nat)
  /-- RETRAIN_SLICE_COMPLETE (R172). -/
  | retrainSliceComplete (chan margin : Nat)
  /-- INTERNAL_REWRITE_START (R191). -/
  | internalRewriteStart (rewrite : Nat) (corrected : List (Nat × Nat)) (uncorrectable : List Nat)
  /-- AGE_MAP_RECOMPUTE (R202). -/
  | ageMapRecompute
  /-- DRIFT_REFRESH_TILE (R206). -/
  | driftRefreshTile (tile : Nat)
  /-- REFRESH_BEHIND (R207). -/
  | refreshBehind
  /-- SCRUB_PAGE_READ (R208). -/
  | scrubPageRead (chan : Nat) (corrected : List (Nat × Nat)) (uncorrectable : List Nat) (strongCorrected : List (Nat × Nat)) (success recordGood : Bool)
  /-- SCRUB_STARVED (R210). -/
  | scrubStarved (chan : Nat)
  /-- SCRUB_LAP_OVER_LIMIT (R210). -/
  | scrubLapOverLimit (chan : Nat)
  /-- RETIRE_PAGE_BY_ADDRESS (R215). -/
  | retirePageByAddress (issue : RetireIssue)
  /-- RETIRE_PAGE_BY_LOCATION (R215). -/
  | retirePageByLocation (issue : RetireIssue)
  /-- RETIRE_RANK (R215). -/
  | retireRank (issue : RetireIssue)
  /-- RETIREMENT_COPY_COMPLETE (R217). -/
  | retirementCopyComplete
  /-- NAND_DIE_OFFLINE (R221). -/
  | nandDieOffline (chan die : Nat)
  /-- NAND_PAGE_READ_COMPLETE (R236). -/
  | nandPageReadComplete (read : Nat) (decoded rebuilt : List Nat)
  /-- PROGRAM_RESUME (R223). -/
  | programResume (chan die : Nat)
  /-- DESTAGE (R233). -/
  | destage (slot : Nat)
  /-- PROGRAM_GROUP_COMPLETE (R233). -/
  | programGroupComplete (band : Nat)
  /-- PAD_TIMER (R245). -/
  | padTimer (stream : Nat)
  /-- RELOCATION (R242). -/
  | relocation (band : Nat)
  /-- DIE_CALIBRATION (R243). -/
  | dieCalibration (chan die : Nat)
  /-- CALIBRATION_COMPLETE (R243). -/
  | calibrationComplete (chan die : Nat)
  /-- COPPICE_RECLAIM (R249). -/
  | coppiceReclaim
  /-- BAND_ERASE_COMPLETE (R249). -/
  | bandEraseComplete (band : Nat)
  /-- PROGRAM_FAILURE (R250). -/
  | programFailure (chan die plane : Nat)
  /-- ERASE_FAILURE (R251). -/
  | eraseFailure (chan die plane : Nat)
  /-- FT_GRANT_ENTRY_WRITE (R227). -/
  | ftGrantEntryWrite (value : BitVec 64)
  /-- FT_STREAM_CFG_WRITE (R244). -/
  | ftStreamCfgWrite (stream : Nat) (value : BitVec 32)
  /-- HEAT (R262). -/
  | heat (ring handle : Nat)
  /-- PIN (R260). -/
  | pin (ring handle : Nat)
  /-- GROUP (R260). -/
  | group (ring handle : Nat)
  /-- COLOCATE (R260). -/
  | colocate (ring handle : Nat)
  /-- HAZELOWN (R280). -/
  | hazelown (ring handle : Nat)
  /-- TOP_GROUP_CFG_WRITE (R260). -/
  | topGroupCfgWrite (value : BitVec 64)
  /-- HEAT_RANKING (R261). -/
  | heatRanking
  /-- HEAT_HALVING (R261). -/
  | heatHalving
  /-- BALANCE_MOVE (R266). -/
  | balanceMove
  /-- READ_ONLY_PLOT_MIGRATION (R272). -/
  | readOnlyPlotMigration (plot : Nat)
  /-- MIGRATION_START (R270). -/
  | migrationStart
  /-- MIGRATION_PAGE_COPY (R270). -/
  | migrationPageCopy (plot : Nat)
  /-- MIGRATION_RELEASE (R270). -/
  | migrationRelease (plot : Nat)
  /-- SLOT_DESTAGE_DECISION (R275). -/
  | slotDestageDecision
  /-- PAGE_CAPTURE_COMPLETE (R277). -/
  | pageCaptureComplete (page : Nat)
  /-- QUICKSET_ENTRY_ERROR (R291). -/
  | quicksetEntryError (line : Nat)
  /-- JOURNAL_COPY_WRITE_COMPLETE (R293). -/
  | journalCopyWriteComplete (count : Nat)
  /-- CHECKPOINT_TIMER (R297). -/
  | checkpointTimer (ftier : Bool)
  /-- CHECKPOINTNOW (R297). -/
  | checkpointnow
  /-- CHECKPOINT_IMAGE_WRITTEN (R299). -/
  | checkpointImageWritten (ftier : Bool)
  /-- CHECKPOINT_END_DURABLE (R299). -/
  | checkpointEndDurable (ftier : Bool)
  /-- CHECKPOINT_FAILURE (R301). -/
  | checkpointFailure
  /-- SHUTDOWNNOW (R302). -/
  | shutdownnow
  /-- FLUSH_STEP_COMPLETE (R304). -/
  | flushStepComplete
  /-- RECOVERY_PHASE_COMPLETE (R314). -/
  | recoveryPhaseComplete (badBlocks : List Nat)
  /-- CHECK_REBUILD_PAGE (R316). -/
  | checkRebuildPage (loc : Nat) (bad : List Nat) (decoded : Bool)
  /-- SNAPSHOT_UNIT_FREE (R323). -/
  | snapshotUnitFree (slot : Nat)
  /-- MIRROR_LINES (R426). -/
  | mirrorLines (qp epoch seq : Nat) (lines : List (Nat × BitVec 512)) (opens : Bool)
  /-- MIRROR_END_OF_EPOCH (R325). -/
  | mirrorEndOfEpoch (qp epoch seq : Nat) (opens : Bool)
  /-- MIRROR_APPLY_COMPLETE (R325). -/
  | mirrorApplyComplete
  /-- MIRROR_ACKNOWLEDGEMENT (R325). -/
  | mirrorAcknowledgement (qp epoch seq : Nat) (opens : Bool)
  /-- MIRROR_REQUEST_EPOCH_AGAIN (R327). -/
  | mirrorRequestEpochAgain (qp epoch seq : Nat) (opens : Bool)
  /-- MIRROR_END_MARKER_SEND (R324). -/
  | mirrorEndMarkerSend
  /-- MIRROR_ENABLE (R327). -/
  | mirrorEnable (value : BitVec 64)
  /-- MIRROR_DISABLE (R327). -/
  | mirrorDisable (value : BitVec 64)
  /-- HAZEL_LOAD (R332). -/
  | hazelLoad (core pc addr size : Nat) (signed : Bool) (dst : Nat) (outside : List (BitVec 8))
  /-- HAZEL_STORE (R332). -/
  | hazelStore (core pc addr : Nat) (bytes : List (BitVec 8))
  /-- HAZEL_NT_STORE (R338). -/
  | hazelNtStore (core pc addr : Nat) (bytes : List (BitVec 8))
  /-- HAZEL_AMO (R337). -/
  | hazelAmo (core pc : Nat) (op : AmoOp) (addr : Nat) (wide : Bool) (operand : BitVec 64) (dst : Nat) (outside : List (BitVec 8))
  /-- HAZEL_LR (R337). -/
  | hazelLr (core pc addr : Nat) (wide : Bool) (dst : Nat) (outside : List (BitVec 8))
  /-- HAZEL_SC (R337). -/
  | hazelSc (core pc addr : Nat) (wide : Bool) (operand : BitVec 64) (dst : Nat)
  /-- FENCE (R340). -/
  | fence (core pc : Nat)
  /-- FENCE_I (R385). -/
  | fenceI (core pc : Nat)
  /-- COMBINING_BUFFER_IDLE (R338). -/
  | combiningBufferIdle (core line : Nat)
  /-- STORE_ACK (R340). -/
  | storeAck (core : Nat)
  /-- STORE_TIMEOUT (R349). -/
  | storeTimeout (core : Nat)
  /-- EARLY_STORE_DROP (R344). -/
  | earlyStoreDrop (src : DropSource) (addr dom : Nat)
  /-- HAZEL_EXCEPTION (R403). -/
  | hazelException (core pc : Nat) (cause : HazelCause) (addr : Nat)
  /-- RING_SQ_TAIL_DOORBELL (R362). -/
  | ringSqTailDoorbell (ring dom : Nat) (value : BitVec 16)
  /-- RING_CQ_HEAD_DOORBELL (R362). -/
  | ringCqHeadDoorbell (ring dom : Nat) (value : BitVec 16)
  /-- RING_ENABLE (R361). -/
  | ringEnable (ring : Nat)
  /-- RING_DISABLE (R364). -/
  | ringDisable (ring : Nat)
  /-- ABORT (R364). -/
  | abort (ring : Nat)
  /-- RING_BIND_WRITE (R356). -/
  | ringBindWrite (ring : Nat) (value : BitVec 32)
  /-- DESCRIPTOR_FETCH (R365). -/
  | descriptorFetch (ring count : Nat)
  /-- DESCRIPTOR_READ_COMPLETE (R366). -/
  | descriptorReadComplete (ring : Nat) (words : Option (List (BitVec 64)))
  /-- DESCRIPTOR_COMPLETE (R369). -/
  | descriptorComplete (ring handle : Nat) (fails : Bool)
  /-- RING_NOP (R373). -/
  | ringNop (ring handle : Nat)
  /-- FT_READ (R235). -/
  | ftRead (ring handle : Nat)
  /-- FT_WRITE (R231). -/
  | ftWrite (ring handle : Nat) (outside : List (BitVec 8))
  /-- FT_TRIM (R232). -/
  | ftTrim (ring handle : Nat)
  /-- FT_FLUSH (R373). -/
  | ftFlush (ring handle : Nat)
  /-- MOVE (R373). -/
  | move (ring handle : Nat) (outside : List (BitVec 8))
  /-- MOVE_PEER_WRITE (R425). -/
  | movePeerWrite (ring handle : Nat) (outside : List (BitVec 8))
  /-- MOVE_PEER_READ (R425). -/
  | movePeerRead (ring handle : Nat)
  /-- HZ_LAUNCH (R396). -/
  | hzLaunch (ring handle : Nat)
  /-- GCM_SEAL (R447). -/
  | gcmSeal (ring handle : Nat) (outside : List (BitVec 8))
  /-- GCM_OPEN (R447). -/
  | gcmOpen (ring handle : Nat) (outside : List (BitVec 8))
  /-- EPOCH_CUT (R317). -/
  | epochCut (ring handle : Nat)
  /-- SNAPSHOT_CUT (R319). -/
  | snapshotCut (ring handle : Nat)
  /-- SNAPSHOT_DELETE (R323). -/
  | snapshotDelete (ring handle : Nat)
  /-- SNAPSHOT_READ (R321). -/
  | snapshotRead (ring handle : Nat)
  /-- ADMIN_SHUTDOWN (R302). -/
  | adminShutdown (ring handle : Nat)
  /-- ADMIN_SANITIZE (R617). -/
  | adminSanitize (ring handle : Nat)
  /-- ADMIN_SELFTEST (R621). -/
  | adminSelftest (ring handle : Nat)
  /-- ADMIN_CHECKPOINT (R373). -/
  | adminCheckpoint (ring handle : Nat)
  /-- PROGRESS_RECORD (R374). -/
  | progressRecord (ring handle permille position : Nat)
  /-- NOTIFICATION_COALESCE_TIMER (R375). -/
  | notificationCoalesceTimer (ring : Nat)
  /-- REMOTE_SUBMISSION (R376). -/
  | remoteSubmission (ring : Nat)
  /-- Q_FLUSH (R380). -/
  | qFlush (queue : Nat)
  /-- SPILL_QUOTA_WRITE (R381). -/
  | spillQuotaWrite (queue : Nat) (quotaMiB : Nat)
  /-- KERNEL_START (R396). -/
  | kernelStart (die : Nat) (image args : List (BitVec 8))
  /-- EXIT (R399). -/
  | exit (core pc : Nat)
  /-- CORES_SYNC (R399). -/
  | coresSync (core pc : Nat)
  /-- HANDLER_RETURN (R399). -/
  | handlerReturn (core : Nat)
  /-- KERNEL_COMPLETION (R400). -/
  | kernelCompletion (kernel : Nat)
  /-- KERNEL_DEADLINE (R401). -/
  | kernelDeadline (kernel : Nat)
  /-- HZ_CORE_RESET (R405). -/
  | hzCoreReset (core : Nat)
  /-- CORE_DRAIN_COMPLETE (R405). -/
  | coreDrainComplete (core : Nat)
  /-- IMAGEFLUSH (R395). -/
  | imageflush (die : Nat)
  /-- HZ_SHM_GRANT_WRITE (R388). -/
  | hzShmGrantWrite (unit : Nat) (value : BitVec 32)
  /-- ETH_FRAME_RECEIVE (R412). -/
  | ethFrameReceive (port bytes : Nat) (mac : BitVec 48) (fcsGood : Bool) (frame : Frame)
  /-- NET_QP_CTX0_COMMIT (R415). -/
  | netQpCtx0Commit (qp : Nat) (value : BitVec 64)
  /-- NET_MR_CTL_COMMIT (R418). -/
  | netMrCtlCommit (region : Nat) (value : BitVec 32)
  /-- NET_GID_CTL_COMMIT (R433). -/
  | netGidCtlCommit (index : Nat) (value : BitVec 32)
  /-- SEND (R428). -/
  | send (qp psn : Nat) (first last : Bool) (bytes : List (BitVec 8))
  /-- RDMA_WRITE (R421). -/
  | rdmaWrite (qp psn : Nat) (first last : Bool) (addr rkey len : Nat) (bytes : List (BitVec 8))
  /-- RDMA_WRITE_ACK_SEND (R421). -/
  | rdmaWriteAckSend (qp : Nat)
  /-- RDMA_READ (R423). -/
  | rdmaRead (qp psn addr rkey len : Nat)
  /-- READ_RESPONSE_SEND (R423). -/
  | readResponseSend (qp : Nat)
  /-- COMPARE_AND_SWAP (R422). -/
  | compareAndSwap (qp psn addr rkey : Nat) (compare swap : BitVec 64)
  /-- FETCH_AND_ADD (R422). -/
  | fetchAndAdd (qp psn addr rkey : Nat) (add : BitVec 64)
  /-- QP_RETRY_TIMEOUT (R415). -/
  | qpRetryTimeout (qp : Nat)
  /-- ACK_RECEIVE (R425). -/
  | ackReceive (qp psn : Nat) (bytes : List (BitVec 8))
  /-- NAK_RECEIVE (R415). -/
  | nakReceive (qp psn : Nat) (kind : NakKind)
  /-- PFC_PAUSE_RECEIVE (R429). -/
  | pfcPauseReceive (port : Nat) (pause : Bool)
  /-- PORT_PAUSED_100MS (R429). -/
  | portPaused100ms (port : Nat)
  /-- CNP_RECEIVE (R430). -/
  | cnpReceive (qp : Nat)
  /-- CC_ALPHA_TIMER (R430). -/
  | ccAlphaTimer (qp : Nat)
  /-- CC_INCREASE_TIMER (R430). -/
  | ccIncreaseTimer (qp : Nat)
  /-- PORT_LINK_UP (R432). -/
  | portLinkUp (port : Nat)
  /-- PORT_LINK_DOWN (R432). -/
  | portLinkDown (port : Nat)
  /-- LOAD_GCM_SLOT (R440). -/
  | loadGcmSlot (dom slot : Nat)
  /-- CLEAR_GCM_SLOT (R440). -/
  | clearGcmSlot (dom slot : Nat)
  /-- REPLACE_XTS_KEY (R441). -/
  | replaceXtsKey (dom issuer : Nat)
  /-- KEY_COMMAND_COMPLETE (R440). -/
  | keyCommandComplete (dom : Nat)
  /-- XTS_KEY_SWITCH (R441). -/
  | xtsKeySwitch (dom : Nat)
  /-- KEY_PIN_RELEASE (R442). -/
  | keyPinRelease (dom : Nat)
  /-- KEY_REPLICA_LOAD (R443). -/
  | keyReplicaLoad (dom : Nat)
  /-- CIPHER_CORE_OFFLINE (R445). -/
  | cipherCoreOffline (gcm : Bool) (core : Nat)
  /-- NEAR_PATH_LANE_FAILURE (R446). -/
  | nearPathLaneFailure (die : Nat)
  /-- KILIUS_TRAINING_START (R458). -/
  | kiliusTrainingStart (port : Nat)
  /-- KILIUS_TRAINING_STEP (R458). -/
  | kiliusTrainingStep (port : Nat) (id : BitVec 64) (lanes : LaneTest)
  /-- KILIUS_TRAINING_STEP_FAIL (R459). -/
  | kiliusTrainingStepFail (port : Nat)
  /-- TRAINING_BACKOFF (R459). -/
  | trainingBackoff (port : Nat)
  /-- ALIGN (R465). -/
  | align (port : Nat) (flit : Flit)
  /-- DELAYPROBE (R461). -/
  | delayprobe (port : Nat) (flit : Flit)
  /-- DELAYECHO (R461). -/
  | delayecho (port : Nat) (flit : Flit) (roundTripPs : Nat)
  /-- PMREQ (R475). -/
  | pmreq (port : Nat) (flit : Flit)
  /-- PMACK (R475). -/
  | pmack (port : Nat) (flit : Flit)
  /-- PMNAK (R475). -/
  | pmnak (port : Nat) (flit : Flit)
  /-- DOWNNOTICE (R472). -/
  | downnotice (port : Nat) (flit : Flit)
  /-- PMREQ_RETRY (R465). -/
  | pmreqRetry (port : Nat)
  /-- PAYLOAD_FLIT (R469). -/
  | payloadFlit (port : Nat) (flit : Flit)
  /-- IDLE_FLIT (R466). -/
  | idleFlit (port : Nat) (flit : Flit)
  /-- FLIT_CRC_ERROR (R469). -/
  | flitCrcError (port : Nat) (bytes : List (BitVec 8))
  /-- ACK_TIMEOUT (R470). -/
  | ackTimeout (port : Nat)
  /-- KL_RETRAIN (R472). -/
  | klRetrain (port : Nat)
  /-- KL_DISABLE (R472). -/
  | klDisable (port : Nat) (disable : Bool)
  /-- RETRAINING_COMPLETE (R472). -/
  | retrainingComplete (port : Nat) (success : Bool) (id : BitVec 64) (lanes : LaneTest)
  /-- L1_IDLE_TIMER (R475). -/
  | l1IdleTimer (port : Nat)
  /-- L1_EXIT (R475). -/
  | l1Exit (port : Nat) (asked success : Bool)
  /-- L2_TIMEOUT (R476). -/
  | l2Timeout
  /-- SIDEBAND_LOSS (R456). -/
  | sidebandLoss (port : Nat)
  /-- KILIUS_READ (R485). -/
  | kiliusRead (agent tag addr lenM1 : Nat) (host : Option (List (BitVec 8)))
  /-- WRITENP (R485). -/
  | writenp (agent tag addr lenM1 poison : Nat) (bytes : List (BitVec 8)) (hostDone : Bool)
  /-- FETCHADD (R485). -/
  | fetchadd (agent tag addr lenM1 : Nat) (addend : BitVec 64)
  /-- SWAP (R485). -/
  | swap (agent tag addr lenM1 : Nat) (value : BitVec 64)
  /-- COMPARESWAP (R485). -/
  | compareswap (agent tag addr lenM1 : Nat) (compare value : BitVec 64)
  /-- KILIUS_WRITE (R496). -/
  | kiliusWrite (agent addr lenM1 poison : Nat) (bytes : List (BitVec 8))
  /-- CMP (R488). -/
  | cmp (agent tag status : Nat)
  /-- READDATA (R488). -/
  | readdata (agent tag status poison : Nat) (bytes : List (BitVec 8))
  /-- ATOMICDATA (R488). -/
  | atomicdata (agent tag status : Nat) (old : BitVec 64)
  /-- BARRIER (R494). -/
  | barrier (agent tag posted requests : Nat)
  /-- BARRIER_COMPLETE (R494). -/
  | barrierComplete (agent tag : Nat)
  /-- HOSTINTERRUPT (R493). -/
  | hostinterrupt (agent ld vector : Nat)
  /-- POSTEDERROR (R494). -/
  | postederror (agent addr status index : Nat)
  /-- LAUNCHFIRED (R492). -/
  | launchfired (agent slot state lateness : Nat) (late : Bool)
  /-- EVENT (R495). -/
  | event (agent severity code : Nat) (data : List (BitVec 8))
  /-- ADMIT (R498). -/
  | admitAgent (agent : Nat) (value : BitVec 32)
  /-- REVOKE (R498). -/
  | revoke (agent : Nat) (value : BitVec 32)
  /-- AGENT_REQUEST_TIMEOUT (R500). -/
  | agentRequestTimeout (agent tag : Nat)
  /-- KL_APT_COMMIT (R513). -/
  | klAptCommit (agent entry : Nat) (value : BitVec 64)
  /-- MESH_FLIT_ERROR (R510). -/
  | meshFlitError (die router direction : Nat) (again : Bool)
  /-- PRIVET_BOOT (R518). -/
  | privetBoot (bankA bankB : FlashBank) (badKeys : List Nat) (udsBad : Bool)
  /-- COMPONENT_CHECK_FAILURE (R520). -/
  | componentCheckFailure (component : Nat)
  /-- COMMIT (R518). -/
  | commit
  /-- REVERT (R518). -/
  | revert
  /-- GET_VERSION (R523). -/
  | getVersion (ld : Nat)
  /-- GET_CAPABILITIES (R523). -/
  | getCapabilities (ld : Nat)
  /-- NEGOTIATE_ALGORITHMS (R523). -/
  | negotiateAlgorithms (ld : Nat) (offered : Bool)
  /-- GET_DIGESTS (R523). -/
  | getDigests (ld : Nat)
  /-- GET_CERTIFICATE (R523). -/
  | getCertificate (ld slot offset length : Nat)
  /-- CHALLENGE (R523). -/
  | challenge (ld slot : Nat) (nonce : BitVec 256)
  /-- GET_MEASUREMENTS (R523). -/
  | getMeasurements (ld index : Nat)
  /-- SPDM_UNSUPPORTED_REQUEST (R523). -/
  | spdmUnsupportedRequest (ld request : Nat)
  /-- IMPORT_KEK (R526). -/
  | importKek (dom : Nat) (outside : List (BitVec 8))
  /-- ERASE_KEK (R526). -/
  | eraseKek (dom : Nat)
  /-- KEK_COMMAND_COMPLETE (R526). -/
  | kekCommandComplete (onCurve : Bool)
  /-- IDCODE (R527). -/
  | idcode
  /-- BYPASS (R527). -/
  | bypass (bit : Bool)
  /-- NONCE (R527). -/
  | nonce
  /-- PV_DEBUG_UNLOCK_START (R527). -/
  | pvDebugUnlockStart (outside : List (BitVec 8)) (keyMatches signatureValid : Bool)
  /-- DEBUG_OPENING_STEP (R528). -/
  | debugOpeningStep
  /-- PS_WRITE (R531). -/
  | psWrite
  /-- PS_PAGE_WRITE_COMPLETE (R531). -/
  | psPageWriteComplete
  /-- PS_READ (R532). -/
  | psRead (bad : Option Nat)
  /-- MARGIN_REFRESH (R535). -/
  | marginRefresh (page : Nat) (fails : Bool)
  /-- SEQUENCE_STEP_COMPLETE (R545). -/
  | sequenceStepComplete
  /-- SEQ_PG_DROP (R545). -/
  | seqPgDrop (rail : Nat)
  /-- SEQUENCE_WINDOW_EXPIRY (R546). -/
  | sequenceWindowExpiry (rail : Nat)
  /-- POWER_DOWN_STEP (R546). -/
  | powerDownStep (late : Option Nat)
  /-- BACKOFF_EXPIRY (R547). -/
  | backoffExpiry
  /-- ATTEMPT_COUNT_RESET (R547). -/
  | attemptCountReset
  /-- RUNNING_RAIL_FAULT (R549). -/
  | runningRailFault (rail lowNs : Nat)
  /-- PF_WARN_N_TRIGGER (R550). -/
  | pfWarnNTrigger (lowUs : Nat)
  /-- FLUSH_LIMIT_EXPIRY (R552). -/
  | flushLimitExpiry
  /-- INPUT_RETURN (R553). -/
  | inputReturn
  /-- HOLDUPTEST (R557). -/
  | holduptest (v0Mv : Nat)
  /-- HOLDUP_INTERVAL (R557). -/
  | holdupInterval (v0Mv : Nat)
  /-- HOLDUP_TEST_COMPLETE (R556). -/
  | holdupTestComplete (v1Mv : Nat)
  /-- SENSOR_SAMPLE (R559). -/
  | sensorSample (sensor : Nat) (raw : Int) (fault : Nat)
  /-- THROTTLE_FALL (R563). -/
  | throttleFall (loop : Nat)
  /-- POWER_ESTIMATE (R564). -/
  | powerEstimate (watts : Nat)
  /-- HARDWARE_TRIP (R567). -/
  | hardwareTrip (sensor : Nat)
  /-- TRIP_RESET_RELEASE (R567). -/
  | tripResetRelease
  /-- START_HOLD_TIMEOUT (R567). -/
  | startHoldTimeout
  /-- EVENT_INTAKE (R575). -/
  | eventIntake
  /-- EVENT_RECORD_WRITE (R579). -/
  | eventRecordWrite
  /-- ROUTE_HOLD_EXPIRY (R587). -/
  | routeHoldExpiry (route : Nat)
  /-- PERSISTENT_COPY_WRITE (R584). -/
  | persistentCopyWrite
  /-- REPEAT_REWRITE (R584). -/
  | repeatRewrite (seq : Nat)
  /-- EVR_CURSOR_WRITE (R583). -/
  | evrCursorWrite (value : BitVec 64)
  /-- NEXT (R583). -/
  | next
  /-- CLEARRAM (R585). -/
  | clearram
  /-- CLEARPERSIST (R585). -/
  | clearpersist
  /-- COUNTER_WRAP (R591). -/
  | counterWrap (counter : Nat)
  /-- PMC_CNT_WRITE (R594). -/
  | pmcCntWrite (counter : Nat) (value : BitVec 64)
  /-- PMC_FREEZE (R593). -/
  | pmcFreeze (groups : BitVec 64)
  /-- PMC_THAW (R593). -/
  | pmcThaw (groups : BitVec 64)
  /-- BW_WINDOW_OPEN (R595). -/
  | bwWindowOpen (index : Nat) (value : BitVec 32)
  /-- BW_WINDOW_CLOSE (R595). -/
  | bwWindowClose (index : Nat)
  /-- SAMPLE_TAKE (R597). -/
  | sampleTake (counter pc dataAddr latencyNs : Nat) (addrValid latencyValid : Bool)
  /-- SAMPLE_ARRIVAL (R600). -/
  | sampleArrival (cluster : Nat)
  /-- PMC_SAMPLE_ENABLE (R600). -/
  | pmcSampleEnable (value : BitVec 32)
  /-- PMC_SAMPLE_RD_WRITE (R600). -/
  | pmcSampleRdWrite (value : BitVec 64)
  /-- COLDRESET (R605). -/
  | coldreset
  /-- COLD_RESET_STEP (R605). -/
  | coldResetStep (bankA bankB : FlashBank) (badKeys : List Nat) (udsBad : Bool)
  /-- STARTUP_MILESTONE (R609). -/
  | startupMilestone (milestone : Nat) (found : StartFindings)
  /-- SANITIZE_PHASE (R617). -/
  | sanitizePhase
  /-- SANITIZE_OVERWRITE_BATCH (R617). -/
  | sanitizeOverwriteBatch
  /-- SELFTEST_CLASS_COMPLETE (R621). -/
  | selftestClassComplete (failed : Bool) (units : BitVec 64)
  /-- PPS_IN_SOURCE_LOSS (R53). -/
  | ppsInSourceLoss
  /-- STANDBY_RAIL_LOSS (R547). -/
  | standbyRailLoss
  /-- DEBUG_UNLOCK_INSTRUCTION (R527). -/
  | debugUnlockInstruction (token : List (BitVec 8)) (keyMatches signatureValid : Bool)
  /-- PHYRETRAIN_REQUEST (R472). -/
  | phyretrainRequest (port : Nat)
  /-- RECOVERY_BOUND_EXPIRY (R314). -/
  | recoveryBoundExpiry
  /-- HOST_APERTURE_TIMEOUT (R501). -/
  | hostApertureTimeout (agent tag : Nat)
  /-- HBM_INTERFACE_RECALIBRATION (R620). -/
  | hbmInterfaceRecalibration
  /-- POWERED_HOURS_INCREMENT (R540). -/
  | poweredHoursIncrement
deriving DecidableEq, Repr

end Sys2Proof
end

