-- ==== Sys2Proof/Config.lean ====
section
/-!
DEFINITION. The free values: what the specification leaves open, as constants without a body.  Nothing
in Lean evaluates them, so a claim holds whatever they are.
-/
namespace Sys2Proof.Config

/-- A value that the specification does not state, one for each draw. Assumption 4 (DESIGN CHOICE). -/
opaque freeWord : Nat → Word

/-- A line whose content the specification does not state, one for each draw. -/
opaque freeLine : Nat → Line

/-- The XTS key pairs that Privet's random source gives a key domain, one after another (R438, R441, R524, R529). -/
opaque xtsKey : Nat → Nat → BitVec 512

/-- The fuses (Table 17.1): serial number, revoked image keys. Assumption 11 (DESIGN CHOICE). -/
opaque fuseSerial : Word
opaque fuseRevoked : BitVec 4

/-- The public key of the Import pair of a UDS, and the wrap key that it agrees with an ephemeral key for a key domain
(R522, R526). Assumption 11 (DESIGN CHOICE). -/
opaque importPub : Nat → BitVec 768
opaque kekWrapKey : Nat → Nat → BitVec 768 → BitVec 256

/-- SHA-384 of bytes; the digest of the boot ROM (Table 17.5). Assumption 11 (DESIGN CHOICE). -/
opaque sha384 : List Byte → BitVec 384
opaque romDigest : BitVec 384

/-- What Privet signs or sends of its certificate chain for a UDS, an image and a request (R522, R523).
Assumption 11 (DESIGN CHOICE). -/
opaque spdmBytes : Nat → Nat → Nat → Nat

/-- The device identifier that IDCODE shifts out (R527). Assumption 11 (DESIGN CHOICE). -/
opaque idcode : BitVec 32

/-- Entries of a GCM core's key cache (R444 gives no number). Assumption 74 (DESIGN CHOICE). -/
opaque gcmEntries : Nat

/-- The set of a set-associative structure that a key falls into, where the specification gives no index function:
0 the snoop filter (R86), 1 the page-check cache (R188), 2 the image cache. Assumption 15 (DESIGN CHOICE). -/
opaque setOf : Nat → Nat → Nat

/-- The number by which event data names an item of a list that the specification does not number (list, item).  Lists: 0
sources of window accesses, 1 stages of a read, 2 triggers of a retraining, 3 kinds of rewrite, 4 decoder refusals, 5 clearings
of the lost-write list, 6 kinds of checkpoint, 7 checkpoint phases, 8 causes of an Incomplete snapshot, 9 launch units, 10 ring
refusals, 11 causes of a mirror state, 12 work-completion statuses, 13 refused network commits, 14 dropped frames, 15 refused
remote requests, 16 kinds of cipher core, 17 bank refusals, 18 key-store entries, 19 token refusals, 20 directions of a lane,
21 an agent's refused commands, 22 causes of a lost cluster, 23 components, 24 configuration entries.
Assumption 16 (DESIGN CHOICE). -/
opaque codeOf : Nat → Nat → Nat

/-- The event within its group that reports the loss of a clock (R44 gives its group and severity, and no number): 0 the hub
clocks, 1 the CXL reference, 2 the Ethernet reference. Assumption 119 (DESIGN CHOICE). -/
opaque clockEvent : Nat → Nat

/-- Whether domain 0 has enabled a host translation window (R35): the specification gives no register for it.
Assumption 39 (DESIGN CHOICE). -/
opaque hostWindow : Nat → Bool

/-- Whether a Vendor, Device and Revision name a Genhoren die that the firmware image lists (R462).
Assumption 11 (DESIGN CHOICE). -/
opaque genhorenDie : Nat → Bool

end Sys2Proof.Config
end

