-- ==== Sys2Proof/Machine/Regs.lean ====
section
/-!
DEFINITION. The register map: the address of every register of the block tables of chapters 2 to 20
(each at its Espalier address, Table 1.6), the place of every field of the field tables, and the access
codes and reset values of R13.  Addresses, offsets, widths, masks and reset values are the tables' own.
-/
namespace Sys2Proof.Machine

/-- A register field: its register's Espalier address, its lowest bit and its width. -/
structure Fld where
  reg : Nat
  lo : Nat
  w : Nat
deriving DecidableEq, Repr

/-- How a register row gives its reset value. -/
inductive Rst where
  | const (v : Nat)
  /-- The MHL-8080 and MHL-8082 value, and the MHL-4040 value. -/
  | byPart (v v4040 : Nat)
  /-- WIN_LD_BIND (Table 3.11): 0x400 for n = 0. -/
  | ldBind
  /-- KL_LINK_CFG (Table 15.13), by port. -/
  | klLinkCfg
  /-- PWR_SEQ_TABLE (Table 18.1, with StableMs 2 and WindowMs 20). -/
  | seqTable
  /-- THM_LIMIT (the text under Table 18.11). -/
  | thmLimit
  /-- FT_STREAM_CFG (Table 7.10). -/
  | ftStream
  /-- Q_CFG (Tables 11.15 and 11.18). -/
  | qCfg
deriving DecidableEq, Repr

/-- One row of a block table: the registers `off + stride * i + stride2 * e`, their width in bits, their
reset value, and the bits under each access code of Table 0.3 (bits under none read as maintained and
ignore writes).  `lock` is one more than the number of the bit that locks the RWL bits (0: none), in the
register `lockReg`, or in the register itself where `lockReg` is 0. -/
structure RegRow where
  off : Nat
  width : Nat
  stride : Nat := 0
  count : Nat := 1
  stride2 : Nat := 0
  count2 : Nat := 1
  rst : Rst := .const 0
  rw : Nat := 0
  rwl : Nat := 0
  w1c : Nat := 0
  w1s : Nat := 0
  wo : Nat := 0
  rc : Nat := 0
  lock : Nat := 0
  lockReg : Nat := 0
deriving DecidableEq, Repr

/-- A register block, repeated `c1` times at stride `s1` and within each `c2` times at stride `s2`. -/
structure RegBlock where
  base : Nat
  size : Nat
  s1 : Nat := 0
  c1 : Nat := 1
  s2 : Nat := 0
  c2 : Nat := 1
  rows : List RegRow
deriving DecidableEq, Repr

/-- TB_NOW: Current DTB (offset 0x000 of its block, chapter 02). -/
def R.tbNow : Nat := 0xF00000020000
def F.tbNowValue : Fld := ⟨R.tbNow, 0, 64⟩
/-- TB_CTL: Source and servo control (offset 0x008 of its block, chapter 02). -/
def R.tbCtl : Nat := 0xF00000020008
def F.tbCtlPtpEnable : Fld := ⟨R.tbCtl, 0, 1⟩
def F.tbCtlPpsEnable : Fld := ⟨R.tbCtl, 1, 1⟩
def F.tbCtlHostEnable : Fld := ⟨R.tbCtl, 2, 1⟩
def F.tbCtlPtpPort : Fld := ⟨R.tbCtl, 3, 4⟩
def F.tbCtlStepEnable : Fld := ⟨R.tbCtl, 7, 1⟩
def F.tbCtlMaxSlew : Fld := ⟨R.tbCtl, 8, 8⟩
def F.tbCtlStepLimit : Fld := ⟨R.tbCtl, 16, 4⟩
def F.tbCtlPpsOutEnable : Fld := ⟨R.tbCtl, 20, 1⟩
def F.tbCtlPpsOutInHoldover : Fld := ⟨R.tbCtl, 21, 1⟩
def F.tbCtlPpsOutWidth : Fld := ⟨R.tbCtl, 22, 8⟩
def F.tbCtlPpsInEdge : Fld := ⟨R.tbCtl, 30, 1⟩
/-- TB_STATUS: Servo and distribution status (offset 0x00C of its block, chapter 02). -/
def R.tbStatus : Nat := 0xF0000002000C
def F.tbStatusState : Fld := ⟨R.tbStatus, 0, 3⟩
def F.tbStatusActiveSrc : Fld := ⟨R.tbStatus, 3, 2⟩
def F.tbStatusEverSynced : Fld := ⟨R.tbStatus, 5, 1⟩
def F.tbStatusTcxoFail : Fld := ⟨R.tbStatus, 6, 1⟩
def F.tbStatusSourceRefused : Fld := ⟨R.tbStatus, 7, 1⟩
def F.tbStatusDieTimeLost : Fld := ⟨R.tbStatus, 8, 8⟩
def F.tbStatusAgentTimeLost : Fld := ⟨R.tbStatus, 16, 2⟩
def F.tbStatusGapValid : Fld := ⟨R.tbStatus, 18, 1⟩
def F.tbStatusStampFixUsed : Fld := ⟨R.tbStatus, 24, 5⟩
/-- TB_OFFSET: Last measured offset (offset 0x010 of its block, chapter 02). -/
def R.tbOffset : Nat := 0xF00000020010
def F.tbOffsetValue : Fld := ⟨R.tbOffset, 0, 64⟩
/-- TB_RATE: Current rate correction (offset 0x018 of its block, chapter 02). -/
def R.tbRate : Nat := 0xF00000020018
def F.tbRateValue : Fld := ⟨R.tbRate, 0, 32⟩
/-- TB_HOLD_LIMIT: Holdover limit in seconds (offset 0x01C of its block, chapter 02). -/
def R.tbHoldLimit : Nat := 0xF0000002001C
def F.tbHoldLimitSeconds : Fld := ⟨R.tbHoldLimit, 0, 32⟩
/-- TB_SET: Host time set (offset 0x020 of its block, chapter 02). -/
def R.tbSet : Nat := 0xF00000020020
def F.tbSetValue : Fld := ⟨R.tbSet, 0, 64⟩
/-- TB_TOD_NEXT: Time of the next PPS_IN edge (offset 0x028 of its block, chapter 02). -/
def R.tbTodNext : Nat := 0xF00000020028
def F.tbTodNextValue : Fld := ⟨R.tbTodNext, 0, 64⟩
/-- TB_PPS_CAPTURE: DTB at the last PPS_IN edge (offset 0x030 of its block, chapter 02). -/
def R.tbPpsCapture : Nat := 0xF00000020030
def F.tbPpsCaptureValue : Fld := ⟨R.tbPpsCapture, 0, 64⟩
/-- TB_SYNC_OFFSET: Offset at the first synchronisation (offset 0x038 of its block, chapter 02). -/
def R.tbSyncOffset : Nat := 0xF00000020038
def F.tbSyncOffsetValue : Fld := ⟨R.tbSyncOffset, 0, 64⟩
/-- TB_PROV: Provisional base and gap mark (offset 0x040 of its block, chapter 02). -/
def R.tbProv : Nat := 0xF00000020040
def F.tbProvBase : Fld := ⟨R.tbProv, 0, 32⟩
def F.tbProvGapMark : Fld := ⟨R.tbProv, 32, 32⟩
/-- TB_STEP_COUNT: Forward steps since power-on (offset 0x048 of its block, chapter 02). -/
def R.tbStepCount : Nat := 0xF00000020048
def F.tbStepCountSteps : Fld := ⟨R.tbStepCount, 0, 32⟩
/-- TB_STAMP_FIX_A[0..15]: Range of correction entry i (offset 0x100 + 16i of its block, chapter 02). -/
def R.tbStampFixA (i : Nat) : Nat := 0xF00000020100 + 16 * i
def F.tbStampFixAG (i : Nat) : Fld := ⟨R.tbStampFixA i, 0, 32⟩
def F.tbStampFixAS (i : Nat) : Fld := ⟨R.tbStampFixA i, 32, 32⟩
/-- TB_STAMP_FIX_B[0..15]: Offset of correction entry i (offset 0x108 + 16i of its block, chapter 02). -/
def R.tbStampFixB (i : Nat) : Nat := 0xF00000020108 + 16 * i
def F.tbStampFixBO (i : Nat) : Fld := ⟨R.tbStampFixB i, 0, 32⟩
def F.tbStampFixBValid (i : Nat) : Fld := ⟨R.tbStampFixB i, 63, 1⟩
/-- TB_LAUNCH_TIME[0..127]: Fire time of slot n (offset 0x1000 + 32n of its block, chapter 02). -/
def R.tbLaunchTime (i : Nat) : Nat := 0xF00000021000 + 32 * i
def F.tbLaunchTimeValue (i : Nat) : Fld := ⟨R.tbLaunchTime i, 0, 64⟩
/-- TB_LAUNCH_ARG[0..127]: Argument of slot n (offset 0x1008 + 32n of its block, chapter 02). -/
def R.tbLaunchArg (i : Nat) : Nat := 0xF00000021008 + 32 * i
def F.tbLaunchArgValue (i : Nat) : Fld := ⟨R.tbLaunchArg i, 0, 64⟩
/-- TB_LAUNCH_CTL[0..127]: Action and arm control of slot n (offset 0x1010 + 32n of its block, chapter 02). -/
def R.tbLaunchCtl (i : Nat) : Nat := 0xF00000021010 + 32 * i
def F.tbLaunchCtlAction (i : Nat) : Fld := ⟨R.tbLaunchCtl i, 0, 8⟩
def F.tbLaunchCtlArm (i : Nat) : Fld := ⟨R.tbLaunchCtl i, 8, 1⟩
def F.tbLaunchCtlCancel (i : Nat) : Fld := ⟨R.tbLaunchCtl i, 9, 1⟩
def F.tbLaunchCtlLatePolicy (i : Nat) : Fld := ⟨R.tbLaunchCtl i, 10, 1⟩
def F.tbLaunchCtlOwner (i : Nat) : Fld := ⟨R.tbLaunchCtl i, 11, 1⟩
def F.tbLaunchCtlOwnerDomain (i : Nat) : Fld := ⟨R.tbLaunchCtl i, 12, 10⟩
/-- TB_LAUNCH_STAT[0..127]: State of slot n (offset 0x1014 + 32n of its block, chapter 02). -/
def R.tbLaunchStat (i : Nat) : Nat := 0xF00000021014 + 32 * i
def F.tbLaunchStatState (i : Nat) : Fld := ⟨R.tbLaunchStat i, 0, 2⟩
def F.tbLaunchStatLate (i : Nat) : Fld := ⟨R.tbLaunchStat i, 2, 1⟩
def F.tbLaunchStatLateness (i : Nat) : Fld := ⟨R.tbLaunchStat i, 16, 16⟩
/-- WIN_CTL: Window control (offset 0x000 of its block, chapter 03). -/
def R.winCtl : Nat := 0xF00000030000
def F.winCtlInjectPoisonEnable : Fld := ⟨R.winCtl, 0, 1⟩
def F.winCtlCxlEventMap : Fld := ⟨R.winCtl, 1, 1⟩
def F.winCtlSfEvictMark : Fld := ⟨R.winCtl, 2, 4⟩
def F.winCtlBankDepth : Fld := ⟨R.winCtl, 8, 4⟩
/-- WIN_STATUS: Window and link status (offset 0x004 of its block, chapter 03). -/
def R.winStatus : Nat := 0xF00000030004
def F.winStatusWindowState : Fld := ⟨R.winStatus, 0, 2⟩
def F.winStatusAnyReadOnlyPlot : Fld := ⟨R.winStatus, 2, 1⟩
def F.winStatusLwlOverflow : Fld := ⟨R.winStatus, 3, 1⟩
def F.winStatusQsThrottle : Fld := ⟨R.winStatus, 4, 1⟩
def F.winStatusAdmitHold : Fld := ⟨R.winStatus, 5, 1⟩
def F.winStatusLinkUp : Fld := ⟨R.winStatus, 8, 4⟩
def F.winStatusLinkDegraded : Fld := ⟨R.winStatus, 12, 4⟩
/-- WIN_SIZE: Window size in plots (offset 0x008 of its block, chapter 03). -/
def R.winSize : Nat := 0xF00000030008
def F.winSizePlots : Fld := ⟨R.winSize, 0, 16⟩
def F.winSizeLock : Fld := ⟨R.winSize, 31, 1⟩
/-- WIN_PORT_CFG: Link split, LD counts, rate (offset 0x00C of its block, chapter 03). -/
def R.winPortCfg : Nat := 0xF0000003000C
def F.winPortCfgSplitP0 : Fld := ⟨R.winPortCfg, 0, 1⟩
def F.winPortCfgSplitP1 : Fld := ⟨R.winPortCfg, 1, 1⟩
def F.winPortCfgLdCount : Fld := ⟨R.winPortCfg, 4, 16⟩
def F.winPortCfgMaxRate : Fld := ⟨R.winPortCfg, 20, 2⟩
def F.winPortCfgLock : Fld := ⟨R.winPortCfg, 31, 1⟩
/-- WIN_DEADLINE: Read deadline (offset 0x010 of its block, chapter 03). -/
def R.winDeadline : Nat := 0xF00000030010
def F.winDeadlineNs : Fld := ⟨R.winDeadline, 0, 16⟩
/-- WIN_BI_TIMEOUT: Back-invalidate timeout (offset 0x014 of its block, chapter 03). -/
def R.winBiTimeout : Nat := 0xF00000030014
def F.winBiTimeoutUnits : Fld := ⟨R.winBiTimeout, 0, 16⟩
/-- WIN_QS_LEVEL: Quickset occupancy (offset 0x018 of its block, chapter 03). -/
def R.winQsLevel : Nat := 0xF00000030018
def F.winQsLevelUsed : Fld := ⟨R.winQsLevel, 0, 16⟩
def F.winQsLevelReserved : Fld := ⟨R.winQsLevel, 16, 16⟩
/-- WIN_DEADLINE_COUNT: Deadline poisons (offset 0x020 of its block, chapter 03). -/
def R.winDeadlineCount : Nat := 0xF00000030020
def F.winDeadlineCountCount : Fld := ⟨R.winDeadlineCount, 0, 32⟩
/-- WIN_ADMIT_COUNT: Reads held for admission (offset 0x024 of its block, chapter 03). -/
def R.winAdmitCount : Nat := 0xF00000030024
def F.winAdmitCountCount : Fld := ⟨R.winAdmitCount, 0, 32⟩
/-- WIN_SF_STALL_COUNT: Snoop-filter stalls (offset 0x028 of its block, chapter 03). -/
def R.winSfStallCount : Nat := 0xF00000030028
def F.winSfStallCountCount : Fld := ⟨R.winSfStallCount, 0, 32⟩
/-- WIN_BI_TIMEOUT_COUNT: BI timeouts (offset 0x02C of its block, chapter 03). -/
def R.winBiTimeoutCount : Nat := 0xF0000003002C
def F.winBiTimeoutCountCount : Fld := ⟨R.winBiTimeoutCount, 0, 32⟩
/-- WIN_LWL_STATUS: Lost-write list status (offset 0x030 of its block, chapter 03). -/
def R.winLwlStatus : Nat := 0xF00000030030
def F.winLwlStatusCount : Fld := ⟨R.winLwlStatus, 0, 13⟩
def F.winLwlStatusOverflow : Fld := ⟨R.winLwlStatus, 13, 1⟩
/-- WIN_LWL_CTL: Lost-write list commands (offset 0x034 of its block, chapter 03). -/
def R.winLwlCtl : Nat := 0xF00000030034
def F.winLwlCtlClearEntry : Fld := ⟨R.winLwlCtl, 0, 1⟩
def F.winLwlCtlClearAll : Fld := ⟨R.winLwlCtl, 1, 1⟩
def F.winLwlCtlClearOverflow : Fld := ⟨R.winLwlCtl, 2, 1⟩
/-- WIN_LWL_CURSOR: Lost-write entry selector (offset 0x038 of its block, chapter 03). -/
def R.winLwlCursor : Nat := 0xF00000030038
def F.winLwlCursorIndex : Fld := ⟨R.winLwlCursor, 0, 12⟩
/-- WIN_LWL_ENTRY_LO: Selected entry, address part (offset 0x040 of its block, chapter 03). -/
def R.winLwlEntryLo : Nat := 0xF00000030040
def F.winLwlEntryLoLine : Fld := ⟨R.winLwlEntryLo, 0, 38⟩
def F.winLwlEntryLoDomain : Fld := ⟨R.winLwlEntryLo, 38, 10⟩
def F.winLwlEntryLoCount : Fld := ⟨R.winLwlEntryLo, 48, 8⟩
def F.winLwlEntryLoValid : Fld := ⟨R.winLwlEntryLo, 63, 1⟩
/-- WIN_LWL_ENTRY_HI: Selected entry, stamp (offset 0x048 of its block, chapter 03). -/
def R.winLwlEntryHi : Nat := 0xF00000030048
def F.winLwlEntryHiStamp : Fld := ⟨R.winLwlEntryHi, 0, 64⟩
/-- WIN_PLOT_QUERY: Plot to query (offset 0x050 of its block, chapter 03). -/
def R.winPlotQuery : Nat := 0xF00000030050
def F.winPlotQueryPlot : Fld := ⟨R.winPlotQuery, 0, 16⟩
/-- WIN_PLOT_RESULT: State of the queried plot (offset 0x054 of its block, chapter 03). -/
def R.winPlotResult : Nat := 0xF00000030054
def F.winPlotResultInWindow : Fld := ⟨R.winPlotResult, 0, 1⟩
def F.winPlotResultReadOnly : Fld := ⟨R.winPlotResult, 1, 1⟩
def F.winPlotResultHazelOwned : Fld := ⟨R.winPlotResult, 2, 1⟩
def F.winPlotResultMigrating : Fld := ⟨R.winPlotResult, 3, 1⟩
def F.winPlotResultLostLines : Fld := ⟨R.winPlotResult, 4, 1⟩
/-- WIN_LD_BIND[0..63]: LD enable and domain (offset 0x1000 + 4n of its block, chapter 03). -/
def R.winLdBind (i : Nat) : Nat := 0xF00000031000 + 4 * i
def F.winLdBindDomain (i : Nat) : Fld := ⟨R.winLdBind i, 0, 10⟩
def F.winLdBindEnable (i : Nat) : Fld := ⟨R.winLdBind i, 10, 1⟩
def F.winLdBindDbAllowed (i : Nat) : Fld := ⟨R.winLdBind i, 11, 1⟩
/-- WIN_LD_EXTENT[0..63][0..7]: Extent e of LD n (offset 0x2000 + 64n + 8e of its block, chapter 03). -/
def R.winLdExtent (i e : Nat) : Nat := 0xF00000032000 + 64 * i + 8 * e
def F.winLdExtentBasePlot (i e : Nat) : Fld := ⟨R.winLdExtent i e, 0, 16⟩
def F.winLdExtentPlots (i e : Nat) : Fld := ⟨R.winLdExtent i e, 16, 16⟩
def F.winLdExtentValid (i e : Nat) : Fld := ⟨R.winLdExtent i e, 63, 1⟩
/-- LC_CTL: Enable and cleaning control (offset 0x000 of its block, chapter 04). -/
def R.lcCtl : Nat := 0xF00000040000
def F.lcCtlEnable : Fld := ⟨R.lcCtl, 0, 1⟩
def F.lcCtlWriteThrough : Fld := ⟨R.lcCtl, 1, 1⟩
def F.lcCtlCleanStart : Fld := ⟨R.lcCtl, 8, 7⟩
def F.lcCtlCleanStop : Fld := ⟨R.lcCtl, 16, 7⟩
/-- LC_STATUS: Dirty count and state (offset 0x008 of its block, chapter 04). -/
def R.lcStatus : Nat := 0xF00000040008
def F.lcStatusDirtyCount : Fld := ⟨R.lcStatus, 0, 27⟩
def F.lcStatusStaleRisk : Fld := ⟨R.lcStatus, 27, 1⟩
def F.lcStatusBudgetFull : Fld := ⟨R.lcStatus, 28, 1⟩
def F.lcStatusDisableRefused : Fld := ⟨R.lcStatus, 29, 1⟩
def F.lcStatusTagLoss : Fld := ⟨R.lcStatus, 30, 1⟩
def F.lcStatusEnabled : Fld := ⟨R.lcStatus, 31, 1⟩
def F.lcStatusRangeBusy : Fld := ⟨R.lcStatus, 32, 8⟩
/-- LC_BUDGET: Dirty budget in lines (offset 0x010 of its block, chapter 04). -/
def R.lcBudget : Nat := 0xF00000040010
def F.lcBudgetLines : Fld := ⟨R.lcBudget, 0, 27⟩
/-- LC_LOCKED: Locked ways (offset 0x014 of its block, chapter 04). -/
def R.lcLocked : Nat := 0xF00000040014
def F.lcLockedWays : Fld := ⟨R.lcLocked, 0, 23⟩
/-- LC_WRITEAROUND_COUNT: Write-arounds (offset 0x018 of its block, chapter 04). -/
def R.lcWritearoundCount : Nat := 0xF00000040018
def F.lcWritearoundCountCount : Fld := ⟨R.lcWritearoundCount, 0, 32⟩
/-- LC_BYPASS_COUNT: Reads served without allocation (offset 0x01C of its block, chapter 04). -/
def R.lcBypassCount : Nat := 0xF0000004001C
def F.lcBypassCountCount : Fld := ⟨R.lcBypassCount, 0, 32⟩
/-- LC_HBM_ERR_COUNT: HBM3E uncorrectable line errors (offset 0x020 of its block, chapter 04). -/
def R.lcHbmErrCount : Nat := 0xF00000040020
def F.lcHbmErrCountCount : Fld := ⟨R.lcHbmErrCount, 0, 32⟩
/-- LC_TAG_ERR_COUNT: Tag entries taken out of use (offset 0x024 of its block, chapter 04). -/
def R.lcTagErrCount : Nat := 0xF00000040024
def F.lcTagErrCountCount : Fld := ⟨R.lcTagErrCount, 0, 32⟩
/-- LC_RANGE_OP_ADDR[0..7]: Range start (offset 0x100 + 32i of its block, chapter 04). -/
def R.lcRangeOpAddr (i : Nat) : Nat := 0xF00000040100 + 32 * i
def F.lcRangeOpAddrSector (i : Nat) : Fld := ⟨R.lcRangeOpAddr i, 12, 32⟩
/-- LC_RANGE_OP_LEN[0..7]: Range length (offset 0x108 + 32i of its block, chapter 04). -/
def R.lcRangeOpLen (i : Nat) : Nat := 0xF00000040108 + 32 * i
def F.lcRangeOpLenSectors (i : Nat) : Fld := ⟨R.lcRangeOpLen i, 0, 32⟩
/-- LC_RANGE_OP_CTL[0..7]: Operation and start (offset 0x10C + 32i of its block, chapter 04). -/
def R.lcRangeOpCtl (i : Nat) : Nat := 0xF0000004010C + 32 * i
def F.lcRangeOpCtlOp (i : Nat) : Fld := ⟨R.lcRangeOpCtl i, 0, 4⟩
def F.lcRangeOpCtlStart (i : Nat) : Fld := ⟨R.lcRangeOpCtl i, 4, 1⟩
def F.lcRangeOpCtlOwner (i : Nat) : Fld := ⟨R.lcRangeOpCtl i, 6, 2⟩
def F.lcRangeOpCtlDomain (i : Nat) : Fld := ⟨R.lcRangeOpCtl i, 16, 10⟩
/-- LC_RANGE_OP_STAT[0..7]: Progress and status (offset 0x110 + 32i of its block, chapter 04). -/
def R.lcRangeOpStat (i : Nat) : Nat := 0xF00000040110 + 32 * i
def F.lcRangeOpStatProgress (i : Nat) : Fld := ⟨R.lcRangeOpStat i, 0, 32⟩
def F.lcRangeOpStatStatus (i : Nat) : Fld := ⟨R.lcRangeOpStat i, 32, 16⟩
def F.lcRangeOpStatBusy (i : Nat) : Fld := ⟨R.lcRangeOpStat i, 48, 1⟩
def F.lcRangeOpStatQueued (i : Nat) : Fld := ⟨R.lcRangeOpStat i, 49, 1⟩
def F.lcRangeOpStatTagWalk (i : Nat) : Fld := ⟨R.lcRangeOpStat i, 50, 1⟩
def F.lcRangeOpStatSkipped (i : Nat) : Fld := ⟨R.lcRangeOpStat i, 52, 12⟩
/-- LC_RANGE_OP_CUT[0..7]: Cut point (offset 0x118 + 32i of its block, chapter 04). -/
def R.lcRangeOpCut (i : Nat) : Nat := 0xF00000040118 + 32 * i
def F.lcRangeOpCutStamp (i : Nat) : Fld := ⟨R.lcRangeOpCut i, 0, 64⟩
/-- MT_MEDIA_POWER: Media write power budget (offset 0x000 of its block, chapter 05). -/
def R.mtMediaPower : Nat := 0xF00000050000
def F.mtMediaPowerWatts : Fld := ⟨R.mtMediaPower, 0, 8⟩
def F.mtMediaPowerLock : Fld := ⟨R.mtMediaPower, 31, 1⟩
/-- MT_WRITE_RATE: Token refill rate (offset 0x004 of its block, chapter 05). -/
def R.mtWriteRate : Nat := 0xF00000050004
def F.mtWriteRateLinesPerUs : Fld := ⟨R.mtWriteRate, 0, 16⟩
/-- MT_THROTTLE_COUNT: Time writes waited for tokens (offset 0x008 of its block, chapter 05). -/
def R.mtThrottleCount : Nat := 0xF00000050008
def F.mtThrottleCountUs : Fld := ⟨R.mtThrottleCount, 0, 32⟩
/-- MT_TALLY_CFG: Tally threshold and rank limit (offset 0x000 of its block, chapter 06). -/
def R.mtTallyCfg : Nat := 0xF00000051000
def F.mtTallyCfgThreshold : Fld := ⟨R.mtTallyCfg, 0, 16⟩
def F.mtTallyCfgRankLimit : Fld := ⟨R.mtTallyCfg, 16, 16⟩
/-- MT_TALLY_STATUS: Tally entries in use (offset 0x004 of its block, chapter 06). -/
def R.mtTallyStatus : Nat := 0xF00000051004
def F.mtTallyStatusUsed : Fld := ⟨R.mtTallyStatus, 0, 21⟩
/-- MT_TALLY_DROP: Untallied corrections (offset 0x008 of its block, chapter 06). -/
def R.mtTallyDrop : Nat := 0xF00000051008
def F.mtTallyDropCount : Fld := ⟨R.mtTallyDrop, 0, 32⟩
/-- MT_TALLY_CURSOR: Tally entry selector (offset 0x00C of its block, chapter 06). -/
def R.mtTallyCursor : Nat := 0xF0000005100C
def F.mtTallyCursorIndex : Fld := ⟨R.mtTallyCursor, 0, 20⟩
/-- MT_TALLY_ENTRY: Selected entry (offset 0x010 of its block, chapter 06). -/
def R.mtTallyEntry : Nat := 0xF00000051010
def F.mtTallyEntryLocation : Fld := ⟨R.mtTallyEntry, 0, 32⟩
def F.mtTallyEntryCount : Fld := ⟨R.mtTallyEntry, 32, 16⟩
def F.mtTallyEntryLine : Fld := ⟨R.mtTallyEntry, 48, 6⟩
def F.mtTallyEntryWord : Fld := ⟨R.mtTallyEntry, 54, 3⟩
def F.mtTallyEntryValid : Fld := ⟨R.mtTallyEntry, 63, 1⟩
/-- MT_TALLY_TIME: Selected entry, times (offset 0x018 of its block, chapter 06). -/
def R.mtTallyTime : Nat := 0xF00000051018
def F.mtTallyTimeFirst : Fld := ⟨R.mtTallyTime, 0, 32⟩
def F.mtTallyTimeLatest : Fld := ⟨R.mtTallyTime, 32, 32⟩
/-- MT_DRIFT_CFG: Refresh parameters (offset 0x020 of its block, chapter 06). -/
def R.mtDriftCfg : Nat := 0xF00000051020
def F.mtDriftCfgRefreshAge : Fld := ⟨R.mtDriftCfg, 0, 10⟩
def F.mtDriftCfgRefreshFloor : Fld := ⟨R.mtDriftCfg, 10, 10⟩
def F.mtDriftCfgOffTemp : Fld := ⟨R.mtDriftCfg, 20, 8⟩
def F.mtDriftCfgRefreshShare : Fld := ⟨R.mtDriftCfg, 28, 4⟩
/-- MT_DRIFT_STATUS: Refresh queue state (offset 0x024 of its block, chapter 06). -/
def R.mtDriftStatus : Nat := 0xF00000051024
def F.mtDriftStatusDue : Fld := ⟨R.mtDriftStatus, 0, 24⟩
def F.mtDriftStatusBehind : Fld := ⟨R.mtDriftStatus, 24, 1⟩
/-- MT_DRIFT_OVERDUE: Tiles that reached class 7 (offset 0x028 of its block, chapter 06). -/
def R.mtDriftOverdue : Nat := 0xF00000051028
def F.mtDriftOverdueCount : Fld := ⟨R.mtDriftOverdue, 0, 32⟩
/-- MT_AGING[0..7]: Aging clock of die d (offset 0x030 + 8d of its block, chapter 06). -/
def R.mtAging (i : Nat) : Nat := 0xF00000051030 + 8 * i
def F.mtAgingSeconds (i : Nat) : Fld := ⟨R.mtAging i, 0, 64⟩
/-- MT_EXC_STATUS: Exception table use (offset 0x070 of its block, chapter 06). -/
def R.mtExcStatus : Nat := 0xF00000051070
def F.mtExcStatusUsed : Fld := ⟨R.mtExcStatus, 0, 21⟩
def F.mtExcStatusInsertFailed : Fld := ⟨R.mtExcStatus, 21, 1⟩
/-- MT_RETIRE_ADDR: Retirement target (offset 0x078 of its block, chapter 06). -/
def R.mtRetireAddr : Nat := 0xF00000051078
def F.mtRetireAddrTarget : Fld := ⟨R.mtRetireAddr, 0, 44⟩
/-- MT_RETIRE_CTL: Retirement command (offset 0x080 of its block, chapter 06). -/
def R.mtRetireCtl : Nat := 0xF00000051080
def F.mtRetireCtlOp : Fld := ⟨R.mtRetireCtl, 0, 2⟩
def F.mtRetireCtlStart : Fld := ⟨R.mtRetireCtl, 4, 1⟩
/-- MT_RETIRE_STAT: Retirement progress (offset 0x088 of its block, chapter 06). -/
def R.mtRetireStat : Nat := 0xF00000051088
def F.mtRetireStatStatus : Fld := ⟨R.mtRetireStat, 0, 16⟩
def F.mtRetireStatBusy : Fld := ⟨R.mtRetireStat, 16, 1⟩
def F.mtRetireStatState : Fld := ⟨R.mtRetireStat, 17, 2⟩
def F.mtRetireStatProgress : Fld := ⟨R.mtRetireStat, 32, 16⟩
/-- MT_SCRUB_CFG: Scrub pace and lap limit (offset 0x090 of its block, chapter 06). -/
def R.mtScrubCfg : Nat := 0xF00000051090
def F.mtScrubCfgInterval : Fld := ⟨R.mtScrubCfg, 0, 10⟩
def F.mtScrubCfgLapLimit : Fld := ⟨R.mtScrubCfg, 10, 8⟩
/-- MT_HEALTH_CFG: Device-failure detection (offset 0x094 of its block, chapter 06). -/
def R.mtHealthCfg : Nat := 0xF00000051094
def F.mtHealthCfgDeadPages : Fld := ⟨R.mtHealthCfg, 0, 8⟩
/-- FT_CTL: Read and write control (offset 0x000 of its block, chapter 07). -/
def R.ftCtl : Nat := 0xF00000060000
def F.ftCtlSoftEnable : Fld := ⟨R.ftCtl, 0, 1⟩
def F.ftCtlLadderMax : Fld := ⟨R.ftCtl, 1, 4⟩
def F.ftCtlPadUs : Fld := ⟨R.ftCtl, 8, 8⟩
def F.ftCtlRebuildShare : Fld := ⟨R.ftCtl, 16, 4⟩
def F.ftCtlDirectAllowed : Fld := ⟨R.ftCtl, 20, 1⟩
/-- FT_STATUS: F-tier state (offset 0x004 of its block, chapter 07). -/
def R.ftStatus : Nat := 0xF00000060004
def F.ftStatusState : Fld := ⟨R.ftStatus, 0, 3⟩
def F.ftStatusUrgent : Fld := ⟨R.ftStatus, 3, 1⟩
def F.ftStatusDestageHold : Fld := ⟨R.ftStatus, 4, 1⟩
def F.ftStatusSpareLow : Fld := ⟨R.ftStatus, 5, 1⟩
def F.ftStatusOpenBands : Fld := ⟨R.ftStatus, 8, 8⟩
def F.ftStatusDegradedBands : Fld := ⟨R.ftStatus, 16, 16⟩
/-- FT_NS_SIZE: Namespace size (offset 0x008 of its block, chapter 07). -/
def R.ftNsSize : Nat := 0xF00000060008
def F.ftNsSizeUnits : Fld := ⟨R.ftNsSize, 0, 34⟩
def F.ftNsSizeLock : Fld := ⟨R.ftNsSize, 63, 1⟩
/-- FT_SNAP_SIZE: Snapshot space size (offset 0x010 of its block, chapter 07). -/
def R.ftSnapSize : Nat := 0xF00000060010
def F.ftSnapSizeUnits : Fld := ⟨R.ftSnapSize, 0, 30⟩
def F.ftSnapSizeLock : Fld := ⟨R.ftSnapSize, 31, 1⟩
/-- FT_FREE: Member-set counts (offset 0x018 of its block, chapter 07). -/
def R.ftFree : Nat := 0xF00000060018
def F.ftFreeFree : Fld := ⟨R.ftFree, 0, 21⟩
def F.ftFreeGood : Fld := ⟨R.ftFree, 21, 21⟩
/-- FT_GC_CFG: Reclaim thresholds (offset 0x020 of its block, chapter 07). -/
def R.ftGcCfg : Nat := 0xF00000060020
def F.ftGcCfgStartPermille : Fld := ⟨R.ftGcCfg, 0, 8⟩
def F.ftGcCfgUrgentPermille : Fld := ⟨R.ftGcCfg, 8, 8⟩
def F.ftGcCfgFloorPermille : Fld := ⟨R.ftGcCfg, 16, 8⟩
/-- FT_GC_STATUS: Reclaim state (offset 0x024 of its block, chapter 07). -/
def R.ftGcStatus : Nat := 0xF00000060024
def F.ftGcStatusVictimBand : Fld := ⟨R.ftGcStatus, 0, 16⟩
def F.ftGcStatusActive : Fld := ⟨R.ftGcStatus, 16, 1⟩
def F.ftGcStatusUrgent : Fld := ⟨R.ftGcStatus, 17, 1⟩
def F.ftGcStatusRemainingK : Fld := ⟨R.ftGcStatus, 18, 14⟩
/-- FT_HOST_PAGES: Host pages programmed (offset 0x028 of its block, chapter 07). -/
def R.ftHostPages : Nat := 0xF00000060028
def F.ftHostPagesCount : Fld := ⟨R.ftHostPages, 0, 48⟩
/-- FT_PROG_PAGES: All data pages programmed (offset 0x030 of its block, chapter 07). -/
def R.ftProgPages : Nat := 0xF00000060030
def F.ftProgPagesCount : Fld := ⟨R.ftProgPages, 0, 48⟩
/-- FT_SPARE: Bad blocks and budget (offset 0x038 of its block, chapter 07). -/
def R.ftSpare : Nat := 0xF00000060038
def F.ftSpareBadBlocks : Fld := ⟨R.ftSpare, 0, 24⟩
def F.ftSpareBudget : Fld := ⟨R.ftSpare, 24, 24⟩
/-- FT_LOST_COUNT: Lost host blocks (offset 0x040 of its block, chapter 07). -/
def R.ftLostCount : Nat := 0xF00000060040
def F.ftLostCountCount : Fld := ⟨R.ftLostCount, 0, 32⟩
/-- FT_DISTURB_CFG: Read-disturb limit (offset 0x044 of its block, chapter 07). -/
def R.ftDisturbCfg : Nat := 0xF00000060044
def F.ftDisturbCfgLimit : Fld := ⟨R.ftDisturbCfg, 0, 16⟩
/-- FT_CAL_CFG: Calibration triggers (offset 0x048 of its block, chapter 07). -/
def R.ftCalCfg : Nat := 0xF00000060048
def F.ftCalCfgPeriodHours : Fld := ⟨R.ftCalCfg, 0, 8⟩
def F.ftCalCfgTempDelta : Fld := ⟨R.ftCalCfg, 8, 8⟩
/-- FT_GRANT_CURSOR: Grant selector (offset 0x04C of its block, chapter 07). -/
def R.ftGrantCursor : Nat := 0xF0000006004C
def F.ftGrantCursorIndex : Fld := ⟨R.ftGrantCursor, 0, 12⟩
/-- FT_GRANT_ENTRY: Selected grant (offset 0x050 of its block, chapter 07). -/
def R.ftGrantEntry : Nat := 0xF00000060050
def F.ftGrantEntryBaseGiB : Fld := ⟨R.ftGrantEntry, 0, 18⟩
def F.ftGrantEntryGiBs : Fld := ⟨R.ftGrantEntry, 18, 18⟩
def F.ftGrantEntryDomain : Fld := ⟨R.ftGrantEntry, 36, 10⟩
def F.ftGrantEntryValid : Fld := ⟨R.ftGrantEntry, 63, 1⟩
/-- FT_STREAM_CFG[0..7]: Open bands per stream (offset 0x060 + 4i of its block, chapter 07). -/
def R.ftStreamCfg (i : Nat) : Nat := 0xF00000060060 + 4 * i
def F.ftStreamCfgBands (i : Nat) : Fld := ⟨R.ftStreamCfg i, 0, 6⟩
def F.ftStreamCfgSlc (i : Nat) : Fld := ⟨R.ftStreamCfg i, 6, 1⟩
/-- FT_RETRY_MAP[0..7]: Start entries of retention class k (offset 0x080 + 4k of its block, chapter 07). -/
def R.ftRetryMap (i : Nat) : Nat := 0xF00000060080 + 4 * i
def F.ftRetryMapStart (i : Nat) : Fld := ⟨R.ftRetryMap i, 0, 20⟩
def F.ftRetryMapLock (i : Nat) : Fld := ⟨R.ftRetryMap i, 31, 1⟩
/-- TOP_CTL: Enables, migration limits (offset 0x000 of its block, chapter 08). -/
def R.topCtl : Nat := 0xF00000070000
def F.topCtlBalanceEnable : Fld := ⟨R.topCtl, 0, 1⟩
def F.topCtlHazelGrantEnable : Fld := ⟨R.topCtl, 1, 1⟩
def F.topCtlMaxMigrations : Fld := ⟨R.topCtl, 8, 4⟩
def F.topCtlMigrateShare : Fld := ⟨R.topCtl, 16, 5⟩
/-- TOP_STATUS: Engine state (offset 0x004 of its block, chapter 08). -/
def R.topStatus : Nat := 0xF00000070004
def F.topStatusMigrating : Fld := ⟨R.topStatus, 0, 4⟩
def F.topStatusPaused : Fld := ⟨R.topStatus, 4, 1⟩
def F.topStatusFcacheFull : Fld := ⟨R.topStatus, 5, 1⟩
def F.topStatusStagingFull : Fld := ⟨R.topStatus, 6, 1⟩
def F.topStatusSnapFull : Fld := ⟨R.topStatus, 7, 1⟩
def F.topStatusPendingMoves : Fld := ⟨R.topStatus, 16, 16⟩
/-- TOP_HEAT_CFG: Heat and balance (offset 0x008 of its block, chapter 08). -/
def R.topHeatCfg : Nat := 0xF00000070008
def F.topHeatCfgHalfLife : Fld := ⟨R.topHeatCfg, 0, 8⟩
def F.topHeatCfgBalanceMargin : Fld := ⟨R.topHeatCfg, 8, 8⟩
def F.topHeatCfgBalanceMinutes : Fld := ⟨R.topHeatCfg, 16, 8⟩
/-- TOP_WEAR_CFG: Rotation and span wear (offset 0x00C of its block, chapter 08). -/
def R.topWearCfg : Nat := 0xF0000007000C
def F.topWearCfgBaseInterval : Fld := ⟨R.topWearCfg, 0, 17⟩
def F.topWearCfgWearMargin : Fld := ⟨R.topWearCfg, 24, 8⟩
/-- TOP_FCACHE_CFG: F-cache size and marks (offset 0x010 of its block, chapter 08). -/
def R.topFcacheCfg : Nat := 0xF00000070010
def F.topFcacheCfgPlots : Fld := ⟨R.topFcacheCfg, 0, 14⟩
def F.topFcacheCfgHighMark : Fld := ⟨R.topFcacheCfg, 16, 7⟩
def F.topFcacheCfgLowMark : Fld := ⟨R.topFcacheCfg, 24, 7⟩
def F.topFcacheCfgLock : Fld := ⟨R.topFcacheCfg, 31, 1⟩
/-- TOP_FCACHE_HOLD: Destage hold time (offset 0x014 of its block, chapter 08). -/
def R.topFcacheHold : Nat := 0xF00000070014
def F.topFcacheHoldSeconds : Fld := ⟨R.topFcacheHold, 0, 16⟩
/-- TOP_FCACHE_STATUS: Slots (offset 0x018 of its block, chapter 08). -/
def R.topFcacheStatus : Nat := 0xF00000070018
def F.topFcacheStatusUsed : Fld := ⟨R.topFcacheStatus, 0, 26⟩
def F.topFcacheStatusTotal : Fld := ⟨R.topFcacheStatus, 26, 26⟩
/-- TOP_SNAP_CFG: Snapshot staging size (offset 0x020 of its block, chapter 08). -/
def R.topSnapCfg : Nat := 0xF00000070020
def F.topSnapCfgPlots : Fld := ⟨R.topSnapCfg, 0, 14⟩
def F.topSnapCfgLock : Fld := ⟨R.topSnapCfg, 31, 1⟩
/-- TOP_SNAP_STATUS: Snapshot staging use (offset 0x028 of its block, chapter 08). -/
def R.topSnapStatus : Nat := 0xF00000070028
def F.topSnapStatusStagedPages : Fld := ⟨R.topSnapStatus, 0, 32⟩
def F.topSnapStatusUnitsUsed : Fld := ⟨R.topSnapStatus, 32, 30⟩
/-- TOP_PLOT_QUERY: Plot to query (offset 0x030 of its block, chapter 08). -/
def R.topPlotQuery : Nat := 0xF00000070030
def F.topPlotQueryPlot : Fld := ⟨R.topPlotQuery, 0, 14⟩
/-- TOP_PLOT_INFO: Placement of the queried plot (offset 0x038 of its block, chapter 08). -/
def R.topPlotInfo : Nat := 0xF00000070038
def F.topPlotInfoPlaced : Fld := ⟨R.topPlotInfo, 0, 1⟩
def F.topPlotInfoDie : Fld := ⟨R.topPlotInfo, 1, 3⟩
def F.topPlotInfoChanMask : Fld := ⟨R.topPlotInfo, 4, 4⟩
def F.topPlotInfoBaseRowK : Fld := ⟨R.topPlotInfo, 8, 12⟩
def F.topPlotInfoPinned : Fld := ⟨R.topPlotInfo, 20, 1⟩
def F.topPlotInfoHazelOwned : Fld := ⟨R.topPlotInfo, 21, 1⟩
def F.topPlotInfoMigrating : Fld := ⟨R.topPlotInfo, 22, 1⟩
def F.topPlotInfoReborn : Fld := ⟨R.topPlotInfo, 23, 1⟩
def F.topPlotInfoHeat : Fld := ⟨R.topPlotInfo, 24, 2⟩
def F.topPlotInfoGroup : Fld := ⟨R.topPlotInfo, 26, 8⟩
def F.topPlotInfoGroupValid : Fld := ⟨R.topPlotInfo, 34, 1⟩
def F.topPlotInfoMoveInterval : Fld := ⟨R.topPlotInfo, 35, 17⟩
def F.topPlotInfoProgress : Fld := ⟨R.topPlotInfo, 52, 11⟩
/-- TOP_GROUP_CURSOR: Group selector (offset 0x040 of its block, chapter 08). -/
def R.topGroupCursor : Nat := 0xF00000070040
def F.topGroupCursorGroup : Fld := ⟨R.topGroupCursor, 0, 8⟩
/-- TOP_GROUP_CFG: Selected group (offset 0x048 of its block, chapter 08). -/
def R.topGroupCfg : Nat := 0xF00000070048
def F.topGroupCfgDomain : Fld := ⟨R.topGroupCfg, 0, 10⟩
def F.topGroupCfgValid : Fld := ⟨R.topGroupCfg, 10, 1⟩
def F.topGroupCfgHazelAllowed : Fld := ⟨R.topGroupCfg, 11, 1⟩
def F.topGroupCfgColocate : Fld := ⟨R.topGroupCfg, 12, 1⟩
def F.topGroupCfgHazelRequested : Fld := ⟨R.topGroupCfg, 13, 1⟩
def F.topGroupCfgHazelGranted : Fld := ⟨R.topGroupCfg, 14, 1⟩
def F.topGroupCfgHazelDie : Fld := ⟨R.topGroupCfg, 15, 3⟩
def F.topGroupCfgSplit : Fld := ⟨R.topGroupCfg, 18, 1⟩
def F.topGroupCfgPlots : Fld := ⟨R.topGroupCfg, 32, 16⟩
/-- TOP_DECISION_SEQ: Placement decisions (offset 0x050 of its block, chapter 08). -/
def R.topDecisionSeq : Nat := 0xF00000070050
def F.topDecisionSeqSeq : Fld := ⟨R.topDecisionSeq, 0, 48⟩
/-- TOP_MIGRATE_COUNT: Migrations completed (offset 0x058 of its block, chapter 08). -/
def R.topMigrateCount : Nat := 0xF00000070058
def F.topMigrateCountCount : Fld := ⟨R.topMigrateCount, 0, 32⟩
/-- TOP_HINT_REFUSED_COUNT: Hints refused (offset 0x05C of its block, chapter 08). -/
def R.topHintRefusedCount : Nat := 0xF0000007005C
def F.topHintRefusedCountCount : Fld := ⟨R.topHintRefusedCount, 0, 32⟩
/-- PER_CTL: Commands (offset 0x000 of its block, chapter 09). -/
def R.perCtl : Nat := 0xF00000080000
def F.perCtlShutdownNow : Fld := ⟨R.perCtl, 0, 1⟩
def F.perCtlCheckpointNow : Fld := ⟨R.perCtl, 1, 1⟩
/-- PER_STATUS: Manager state (offset 0x004 of its block, chapter 09). -/
def R.perStatus : Nat := 0xF00000080004
def F.perStatusState : Fld := ⟨R.perStatus, 0, 3⟩
def F.perStatusLastClean : Fld := ⟨R.perStatus, 3, 1⟩
def F.perStatusJournalTorn : Fld := ⟨R.perStatus, 4, 1⟩
def F.perStatusHoldupVerified : Fld := ⟨R.perStatus, 5, 1⟩
def F.perStatusJournalSingle : Fld := ⟨R.perStatus, 6, 1⟩
def F.perStatusCheckSuspect : Fld := ⟨R.perStatus, 7, 1⟩
def F.perStatusRoCause : Fld := ⟨R.perStatus, 8, 4⟩
/-- PER_DIRTY_BUDGET: Effective dirty budget (offset 0x008 of its block, chapter 09). -/
def R.perDirtyBudget : Nat := 0xF00000080008
def F.perDirtyBudgetBytes : Fld := ⟨R.perDirtyBudget, 0, 33⟩
/-- PER_BUDGET_REQ: Requested dirty budget (offset 0x010 of its block, chapter 09). -/
def R.perBudgetReq : Nat := 0xF00000080010
def F.perBudgetReqUnits : Fld := ⟨R.perBudgetReq, 0, 7⟩
def F.perBudgetReqLock : Fld := ⟨R.perBudgetReq, 31, 1⟩
/-- PER_HOLDUP: Hold-up energy (offset 0x018 of its block, chapter 09). -/
def R.perHoldup : Nat := 0xF00000080018
def F.perHoldupVerifiedMj : Fld := ⟨R.perHoldup, 0, 24⟩
def F.perHoldupDeclaredMj : Fld := ⟨R.perHoldup, 24, 24⟩
def F.perHoldupCustomerWatts : Fld := ⟨R.perHoldup, 48, 8⟩
def F.perHoldupVerified : Fld := ⟨R.perHoldup, 63, 1⟩
/-- PER_FLUSH_LAST: Last flush (offset 0x020 of its block, chapter 09). -/
def R.perFlushLast : Nat := 0xF00000080020
def F.perFlushLastDurationUs : Fld := ⟨R.perFlushLast, 0, 32⟩
def F.perFlushLastTrigger : Fld := ⟨R.perFlushLast, 32, 4⟩
def F.perFlushLastStepReached : Fld := ⟨R.perFlushLast, 36, 4⟩
def F.perFlushLastComplete : Fld := ⟨R.perFlushLast, 40, 1⟩
/-- PER_DSC: Dirty shutdowns (offset 0x028 of its block, chapter 09). -/
def R.perDsc : Nat := 0xF00000080028
def F.perDscCount : Fld := ⟨R.perDsc, 0, 32⟩
/-- PER_CKPT_CFG: Checkpoint triggers (offset 0x02C of its block, chapter 09). -/
def R.perCkptCfg : Nat := 0xF0000008002C
def F.perCkptCfgMinutes : Fld := ⟨R.perCkptCfg, 0, 8⟩
def F.perCkptCfgGiB : Fld := ⟨R.perCkptCfg, 8, 8⟩
/-- PER_JOURNAL_SEQ: Next sequence (offset 0x030 of its block, chapter 09). -/
def R.perJournalSeq : Nat := 0xF00000080030
def F.perJournalSeqNext : Fld := ⟨R.perJournalSeq, 0, 64⟩
/-- PER_JOURNAL_STATUS: Journal use (offset 0x038 of its block, chapter 09). -/
def R.perJournalStatus : Nat := 0xF00000080038
def F.perJournalStatusSinceCkptMiB : Fld := ⟨R.perJournalStatus, 0, 16⟩
def F.perJournalStatusTailMiB : Fld := ⟨R.perJournalStatus, 16, 8⟩
def F.perJournalStatusChanA : Fld := ⟨R.perJournalStatus, 24, 5⟩
def F.perJournalStatusChanB : Fld := ⟨R.perJournalStatus, 29, 5⟩
/-- PER_CKPT_STATUS: Last checkpoints (offset 0x040 of its block, chapter 09). -/
def R.perCkptStatus : Nat := 0xF00000080040
def F.perCkptStatusWindowTime : Fld := ⟨R.perCkptStatus, 0, 32⟩
def F.perCkptStatusFtierTime : Fld := ⟨R.perCkptStatus, 32, 32⟩
/-- PER_RECOVERY: Recovery progress (offset 0x048 of its block, chapter 09). -/
def R.perRecovery : Nat := 0xF00000080048
def F.perRecoveryPhase : Fld := ⟨R.perRecovery, 0, 4⟩
def F.perRecoveryPercent : Fld := ⟨R.perRecovery, 4, 7⟩
def F.perRecoveryPosition : Fld := ⟨R.perRecovery, 12, 52⟩
/-- PER_EPOCH: Open epoch (offset 0x050 of its block, chapter 09). -/
def R.perEpoch : Nat := 0xF00000080050
def F.perEpochOpen : Fld := ⟨R.perEpoch, 0, 32⟩
/-- PER_EPOCH_CUT: Last cut time (offset 0x058 of its block, chapter 09). -/
def R.perEpochCut : Nat := 0xF00000080058
def F.perEpochCutTime : Fld := ⟨R.perEpochCut, 0, 64⟩
/-- PER_CHECK_REBUILD: Check rebuild progress (offset 0x060 of its block, chapter 09). -/
def R.perCheckRebuild : Nat := 0xF00000080060
def F.perCheckRebuildTilesLeft : Fld := ⟨R.perCheckRebuild, 0, 32⟩
def F.perCheckRebuildTilesTotal : Fld := ⟨R.perCheckRebuild, 32, 32⟩
/-- PER_SNAP_CURSOR: Snapshot selector (offset 0x068 of its block, chapter 09). -/
def R.perSnapCursor : Nat := 0xF00000080068
def F.perSnapCursorIndex : Fld := ⟨R.perSnapCursor, 0, 4⟩
/-- PER_SNAP_INFO: Selected snapshot (offset 0x070 of its block, chapter 09). -/
def R.perSnapInfo : Nat := 0xF00000080070
def F.perSnapInfoEpoch : Fld := ⟨R.perSnapInfo, 0, 32⟩
def F.perSnapInfoState : Fld := ⟨R.perSnapInfo, 32, 2⟩
def F.perSnapInfoUnitsUsed : Fld := ⟨R.perSnapInfo, 34, 30⟩
/-- PER_MIRROR_CFG: Mirror role and peer (offset 0x078 of its block, chapter 09). -/
def R.perMirrorCfg : Nat := 0xF00000080078
def F.perMirrorCfgRole : Fld := ⟨R.perMirrorCfg, 0, 2⟩
def F.perMirrorCfgEnable : Fld := ⟨R.perMirrorCfg, 2, 1⟩
def F.perMirrorCfgEpochUnits : Fld := ⟨R.perMirrorCfg, 8, 8⟩
def F.perMirrorCfgPeerQp : Fld := ⟨R.perMirrorCfg, 32, 16⟩
/-- PER_MIRROR_STATUS: Mirror state (offset 0x080 of its block, chapter 09). -/
def R.perMirrorStatus : Nat := 0xF00000080080
def F.perMirrorStatusState : Fld := ⟨R.perMirrorStatus, 0, 3⟩
def F.perMirrorStatusQueueMiB : Fld := ⟨R.perMirrorStatus, 8, 12⟩
def F.perMirrorStatusAckedEpoch : Fld := ⟨R.perMirrorStatus, 32, 32⟩
/-- PER_MIRROR_RANGE[0..15]: Mirrored plots (offset 0x100 + 8i of its block, chapter 09). -/
def R.perMirrorRange (i : Nat) : Nat := 0xF00000080100 + 8 * i
def F.perMirrorRangeBasePlot (i : Nat) : Fld := ⟨R.perMirrorRange i, 0, 16⟩
def F.perMirrorRangePlots (i : Nat) : Fld := ⟨R.perMirrorRange i, 16, 16⟩
def F.perMirrorRangeValid (i : Nat) : Fld := ⟨R.perMirrorRange i, 63, 1⟩
/-- RING_ENGINE_STATUS: Engine use (offset 0x000 of its block, chapter 11). -/
def R.ringEngineStatus : Nat := 0xF00000090000
def F.ringEngineStatusContexts : Fld := ⟨R.ringEngineStatus, 0, 15⟩
def F.ringEngineStatusEnabled : Fld := ⟨R.ringEngineStatus, 15, 13⟩
/-- RING_HALT_COUNT: Ring halts (offset 0x004 of its block, chapter 11). -/
def R.ringHaltCount : Nat := 0xF00000090004
def F.ringHaltCountCount : Fld := ⟨R.ringHaltCount, 0, 32⟩
/-- RING_BIND[0..4095]: Binding of ring pair n (offset 0x1000 + 4n of its block, chapter 11). -/
def R.ringBind (i : Nat) : Nat := 0xF00000091000 + 4 * i
def F.ringBindDomain (i : Nat) : Fld := ⟨R.ringBind i, 0, 10⟩
def F.ringBindValid (i : Nat) : Fld := ⟨R.ringBind i, 10, 1⟩
def F.ringBindRemoteAllowed (i : Nat) : Fld := ⟨R.ringBind i, 11, 1⟩
def F.ringBindWeight (i : Nat) : Fld := ⟨R.ringBind i, 12, 4⟩
def F.ringBindInFlightMax (i : Nat) : Fld := ⟨R.ringBind i, 16, 8⟩
/-- ESP_EARLY_HOST[0..3]: Early mode per host translation window (offset 0x000 + 8i of its block, chapter 10). -/
def R.espEarlyHost (i : Nat) : Nat := 0xF000000A0000 + 8 * i
def F.espEarlyHostEarly (i : Nat) : Fld := ⟨R.espEarlyHost i, 0, 64⟩
/-- ESP_EARLY_CUST: Early mode per customer aperture (offset 0x020 of its block, chapter 10). -/
def R.espEarlyCust : Nat := 0xF000000A0020
def F.espEarlyCustEarly : Fld := ⟨R.espEarlyCust, 0, 2⟩
/-- ESP_EARLY_FAULT_COUNT: Dropped stores (offset 0x028 of its block, chapter 10). -/
def R.espEarlyFaultCount : Nat := 0xF000000A0028
def F.espEarlyFaultCountCount : Fld := ⟨R.espEarlyFaultCount, 0, 32⟩
/-- ESP_EARLY_FAULT_ADDR: Last dropped store (offset 0x030 of its block, chapter 10). -/
def R.espEarlyFaultAddr : Nat := 0xF000000A0030
def F.espEarlyFaultAddrAddress : Fld := ⟨R.espEarlyFaultAddr, 0, 48⟩
def F.espEarlyFaultAddrDomain : Fld := ⟨R.espEarlyFaultAddr, 48, 10⟩
def F.espEarlyFaultAddrSourceKind : Fld := ⟨R.espEarlyFaultAddr, 58, 4⟩
def F.espEarlyFaultAddrEarlyMode : Fld := ⟨R.espEarlyFaultAddr, 62, 1⟩
def F.espEarlyFaultAddrValid : Fld := ⟨R.espEarlyFaultAddr, 63, 1⟩
/-- ESP_EARLY_FAULT_SRC: Source of the last dropped store (offset 0x038 of its block, chapter 10). -/
def R.espEarlyFaultSrc : Nat := 0xF000000A0038
def F.espEarlyFaultSrcIndex : Fld := ⟨R.espEarlyFaultSrc, 0, 16⟩
/-- HZ_STATUS: Clusters and kernels (offset 0x000 of its block, chapter 12). -/
def R.hzStatus : Nat := 0xF000000B0000
def F.hzStatusClusterOnline : Fld := ⟨R.hzStatus, 0, 8⟩
def F.hzStatusRunning : Fld := ⟨R.hzStatus, 8, 9⟩
/-- HZ_LAUNCH_COUNT: Kernels started (offset 0x004 of its block, chapter 12). -/
def R.hzLaunchCount : Nat := 0xF000000B0004
def F.hzLaunchCountCount : Fld := ⟨R.hzLaunchCount, 0, 32⟩
/-- HZ_FAULT_COUNT: Kernels ended other than by EXIT (offset 0x008 of its block, chapter 12). -/
def R.hzFaultCount : Nat := 0xF000000B0008
def F.hzFaultCountCount : Fld := ⟨R.hzFaultCount, 0, 32⟩
/-- HZ_SHM_GRANT[0..255]: Grant of shared-memory unit u (offset 0x400 + 4u of its block, chapter 12). -/
def R.hzShmGrant (i : Nat) : Nat := 0xF000000B0400 + 4 * i
def F.hzShmGrantDomain (i : Nat) : Fld := ⟨R.hzShmGrant i, 0, 10⟩
def F.hzShmGrantValid (i : Nat) : Fld := ⟨R.hzShmGrant i, 10, 1⟩
/-- NET_LANE_CFG: Lane group modes (offset 0x000 of its block, chapter 13). -/
def R.netLaneCfg : Nat := 0xF000000C0000
def F.netLaneCfgMode0 : Fld := ⟨R.netLaneCfg, 0, 2⟩
def F.netLaneCfgIface0 : Fld := ⟨R.netLaneCfg, 2, 2⟩
def F.netLaneCfgMode1 : Fld := ⟨R.netLaneCfg, 4, 2⟩
def F.netLaneCfgIface1 : Fld := ⟨R.netLaneCfg, 6, 2⟩
def F.netLaneCfgLock : Fld := ⟨R.netLaneCfg, 31, 1⟩
/-- NET_STATUS: Ports up and paused (offset 0x004 of its block, chapter 13). -/
def R.netStatus : Nat := 0xF000000C0004
def F.netStatusPortUp : Fld := ⟨R.netStatus, 0, 16⟩
def F.netStatusPaused : Fld := ⟨R.netStatus, 16, 16⟩
/-- NET_CC_CFG: Rate control (offset 0x008 of its block, chapter 13). -/
def R.netCcCfg : Nat := 0xF000000C0008
def F.netCcCfgEnable : Fld := ⟨R.netCcCfg, 0, 1⟩
def F.netCcCfgG : Fld := ⟨R.netCcCfg, 4, 4⟩
def F.netCcCfgAlphaUs : Fld := ⟨R.netCcCfg, 8, 8⟩
def F.netCcCfgIncUs : Fld := ⟨R.netCcCfg, 16, 8⟩
def F.netCcCfgRai : Fld := ⟨R.netCcCfg, 24, 8⟩
def F.netCcCfgMinRate : Fld := ⟨R.netCcCfg, 32, 8⟩
/-- NET_PTP_CFG: PTP transport (offset 0x010 of its block, chapter 13). -/
def R.netPtpCfg : Nat := 0xF000000C0010
def F.netPtpCfgDomainNumber : Fld := ⟨R.netPtpCfg, 0, 8⟩
def F.netPtpCfgTransport : Fld := ⟨R.netPtpCfg, 8, 2⟩
/-- NET_CTL: Message and flow limits (offset 0x014 of its block, chapter 13). -/
def R.netCtl : Nat := 0xF000000C0014
def F.netCtlMaxWriteMiB : Fld := ⟨R.netCtl, 0, 5⟩
def F.netCtlCnpIntervalUs : Fld := ⟨R.netCtl, 8, 8⟩
def F.netCtlXoffMiB : Fld := ⟨R.netCtl, 16, 8⟩
def F.netCtlXonMiB : Fld := ⟨R.netCtl, 24, 8⟩
/-- NET_DROP_COUNT: Frames discarded (offset 0x018 of its block, chapter 13). -/
def R.netDropCount : Nat := 0xF000000C0018
def F.netDropCountCount : Fld := ⟨R.netDropCount, 0, 32⟩
/-- NET_NAK_COUNT: NAKs sent (offset 0x01C of its block, chapter 13). -/
def R.netNakCount : Nat := 0xF000000C001C
def F.netNakCountCount : Fld := ⟨R.netNakCount, 0, 32⟩
/-- NET_GID_CURSOR: GID selector (offset 0x020 of its block, chapter 13). -/
def R.netGidCursor : Nat := 0xF000000C0020
def F.netGidCursorIndex : Fld := ⟨R.netGidCursor, 0, 8⟩
/-- NET_GID_ADDR_LO: GID bits [63:0] (offset 0x028 of its block, chapter 13). -/
def R.netGidAddrLo : Nat := 0xF000000C0028
def F.netGidAddrLoGid : Fld := ⟨R.netGidAddrLo, 0, 64⟩
/-- NET_GID_ADDR_HI: GID bits [127:64] (offset 0x030 of its block, chapter 13). -/
def R.netGidAddrHi : Nat := 0xF000000C0030
def F.netGidAddrHiGid : Fld := ⟨R.netGidAddrHi, 0, 64⟩
/-- NET_GID_CTL: GID port and commit (offset 0x038 of its block, chapter 13). -/
def R.netGidCtl : Nat := 0xF000000C0038
def F.netGidCtlPort : Fld := ⟨R.netGidCtl, 0, 4⟩
def F.netGidCtlVlan : Fld := ⟨R.netGidCtl, 4, 12⟩
def F.netGidCtlVlanEnable : Fld := ⟨R.netGidCtl, 16, 1⟩
def F.netGidCtlValid : Fld := ⟨R.netGidCtl, 17, 1⟩
/-- NET_QP_CURSOR: Queue pair selector (offset 0x040 of its block, chapter 13). -/
def R.netQpCursor : Nat := 0xF000000C0040
def F.netQpCursorQp : Fld := ⟨R.netQpCursor, 0, 16⟩
/-- NET_QP_CTX0: State and binding (offset 0x048 of its block, chapter 13). -/
def R.netQpCtx0 : Nat := 0xF000000C0048
def F.netQpCtx0State : Fld := ⟨R.netQpCtx0, 0, 3⟩
def F.netQpCtx0Domain : Fld := ⟨R.netQpCtx0, 3, 10⟩
def F.netQpCtx0Port : Fld := ⟨R.netQpCtx0, 13, 4⟩
def F.netQpCtx0GidIndex : Fld := ⟨R.netQpCtx0, 17, 8⟩
def F.netQpCtx0RxQueue : Fld := ⟨R.netQpCtx0, 25, 6⟩
def F.netQpCtx0RxEnable : Fld := ⟨R.netQpCtx0, 31, 1⟩
def F.netQpCtx0Priority : Fld := ⟨R.netQpCtx0, 32, 3⟩
/-- NET_QP_CTX1: Destination QPN, send PSN (offset 0x050 of its block, chapter 13). -/
def R.netQpCtx1 : Nat := 0xF000000C0050
def F.netQpCtx1DestQpn : Fld := ⟨R.netQpCtx1, 0, 24⟩
def F.netQpCtx1SqPsn : Fld := ⟨R.netQpCtx1, 24, 24⟩
/-- NET_QP_CTX2: Destination MAC and VLAN (offset 0x058 of its block, chapter 13). -/
def R.netQpCtx2 : Nat := 0xF000000C0058
def F.netQpCtx2DestMac : Fld := ⟨R.netQpCtx2, 0, 48⟩
def F.netQpCtx2Vlan : Fld := ⟨R.netQpCtx2, 48, 12⟩
def F.netQpCtx2VlanEnable : Fld := ⟨R.netQpCtx2, 60, 1⟩
/-- NET_QP_CTX3: Transport parameters (offset 0x060 of its block, chapter 13). -/
def R.netQpCtx3 : Nat := 0xF000000C0060
def F.netQpCtx3RqPsn : Fld := ⟨R.netQpCtx3, 0, 24⟩
def F.netQpCtx3MaxRdAtomic : Fld := ⟨R.netQpCtx3, 24, 5⟩
def F.netQpCtx3MaxDestRdAtomic : Fld := ⟨R.netQpCtx3, 29, 5⟩
def F.netQpCtx3MinRnrTimer : Fld := ⟨R.netQpCtx3, 34, 5⟩
def F.netQpCtx3RnrRetry : Fld := ⟨R.netQpCtx3, 39, 3⟩
def F.netQpCtx3RetryCnt : Fld := ⟨R.netQpCtx3, 42, 3⟩
def F.netQpCtx3Timeout : Fld := ⟨R.netQpCtx3, 45, 5⟩
def F.netQpCtx3PathMtu : Fld := ⟨R.netQpCtx3, 50, 3⟩
def F.netQpCtx3Dscp : Fld := ⟨R.netQpCtx3, 53, 6⟩
/-- NET_QP_DGID_LO: Destination GID [63:0] (offset 0x068 of its block, chapter 13). -/
def R.netQpDgidLo : Nat := 0xF000000C0068
def F.netQpDgidLoDgid : Fld := ⟨R.netQpDgidLo, 0, 64⟩
/-- NET_QP_DGID_HI: Destination GID [127:64] (offset 0x070 of its block, chapter 13). -/
def R.netQpDgidHi : Nat := 0xF000000C0070
def F.netQpDgidHiDgid : Fld := ⟨R.netQpDgidHi, 0, 64⟩
/-- NET_MR_CURSOR: Region selector (offset 0x078 of its block, chapter 13). -/
def R.netMrCursor : Nat := 0xF000000C0078
def F.netMrCursorIndex : Fld := ⟨R.netMrCursor, 0, 17⟩
/-- NET_MR_BASE: Region base (offset 0x080 of its block, chapter 13). -/
def R.netMrBase : Nat := 0xF000000C0080
def F.netMrBaseBase : Fld := ⟨R.netMrBase, 0, 48⟩
/-- NET_MR_LEN: Region length (offset 0x088 of its block, chapter 13). -/
def R.netMrLen : Nat := 0xF000000C0088
def F.netMrLenBytes : Fld := ⟨R.netMrLen, 0, 48⟩
/-- NET_MR_CTL: Region control and commit (offset 0x090 of its block, chapter 13). -/
def R.netMrCtl : Nat := 0xF000000C0090
def F.netMrCtlVariant : Fld := ⟨R.netMrCtl, 0, 8⟩
def F.netMrCtlDomain : Fld := ⟨R.netMrCtl, 8, 10⟩
def F.netMrCtlRemoteRead : Fld := ⟨R.netMrCtl, 18, 1⟩
def F.netMrCtlRemoteWrite : Fld := ⟨R.netMrCtl, 19, 1⟩
def F.netMrCtlRemoteAtomic : Fld := ⟨R.netMrCtl, 20, 1⟩
def F.netMrCtlValid : Fld := ⟨R.netMrCtl, 21, 1⟩
/-- NET_PORT_CFG[0..15]: Port p settings (offset 0x100 + 8p of its block, chapter 13). -/
def R.netPortCfg (i : Nat) : Nat := 0xF000000C0100 + 8 * i
def F.netPortCfgMac (i : Nat) : Fld := ⟨R.netPortCfg i, 0, 48⟩
def F.netPortCfgRocePriority (i : Nat) : Fld := ⟨R.netPortCfg i, 48, 3⟩
def F.netPortCfgPfcEnable (i : Nat) : Fld := ⟨R.netPortCfg i, 51, 1⟩
def F.netPortCfgEcnEnable (i : Nat) : Fld := ⟨R.netPortCfg i, 52, 1⟩
def F.netPortCfgLock (i : Nat) : Fld := ⟨R.netPortCfg i, 63, 1⟩
/-- NET_PORT_STATUS[0..15]: Port p state (offset 0x180 + 4p of its block, chapter 13). -/
def R.netPortStatus (i : Nat) : Nat := 0xF000000C0180 + 4 * i
def F.netPortStatusPresent (i : Nat) : Fld := ⟨R.netPortStatus i, 0, 1⟩
def F.netPortStatusUp (i : Nat) : Fld := ⟨R.netPortStatus i, 1, 1⟩
def F.netPortStatusSpeed (i : Nat) : Fld := ⟨R.netPortStatus i, 2, 2⟩
def F.netPortStatusPauseRx (i : Nat) : Fld := ⟨R.netPortStatus i, 4, 1⟩
def F.netPortStatusPauseTx (i : Nat) : Fld := ⟨R.netPortStatus i, 5, 1⟩
def F.netPortStatusLinkDowns (i : Nat) : Fld := ⟨R.netPortStatus i, 16, 16⟩
/-- NET_PTP_RX_TS[0..15]: Last received event timestamp (offset 0x200 + 16p of its block, chapter 13). -/
def R.netPtpRxTs (i : Nat) : Nat := 0xF000000C0200 + 16 * i
def F.netPtpRxTsTime (i : Nat) : Fld := ⟨R.netPtpRxTs i, 0, 64⟩
/-- NET_PTP_TX_TS[0..15]: Last sent event timestamp (offset 0x208 + 16p of its block, chapter 13). -/
def R.netPtpTxTs (i : Nat) : Nat := 0xF000000C0208 + 16 * i
def F.netPtpTxTsTime (i : Nat) : Fld := ⟨R.netPtpTxTs i, 0, 64⟩
/-- CIP_CTL: Replica control (offset 0x000 of its block, chapter 14). -/
def R.cipCtl : Nat := 0xF000000D0000
def F.cipCtlReplicaEnable : Fld := ⟨R.cipCtl, 0, 1⟩
def F.cipCtlReplicaLoad : Fld := ⟨R.cipCtl, 4, 7⟩
/-- CIP_STATUS: Cores online (offset 0x004 of its block, chapter 14). -/
def R.cipStatus : Nat := 0xF000000D0004
def F.cipStatusXtsOnline : Fld := ⟨R.cipStatus, 0, 16⟩
def F.cipStatusGcmOnline : Fld := ⟨R.cipStatus, 16, 15⟩
def F.cipStatusKeyThrash : Fld := ⟨R.cipStatus, 31, 1⟩
/-- CIP_KEYS: Key residence (offset 0x008 of its block, chapter 14). -/
def R.cipKeys : Nat := 0xF000000D0008
def F.cipKeysActive : Fld := ⟨R.cipKeys, 0, 11⟩
def F.cipKeysFreeEntries : Fld := ⟨R.cipKeys, 11, 11⟩
def F.cipKeysGcmCore15 : Fld := ⟨R.cipKeys, 22, 7⟩
/-- CIP_XTS_SWITCH_COUNT: XTS key loads (offset 0x00C of its block, chapter 14). -/
def R.cipXtsSwitchCount : Nat := 0xF000000D000C
def F.cipXtsSwitchCountCount : Fld := ⟨R.cipXtsSwitchCount, 0, 32⟩
/-- CIP_GCM_SWITCH_COUNT: GCM key loads (offset 0x010 of its block, chapter 14). -/
def R.cipGcmSwitchCount : Nat := 0xF000000D0010
def F.cipGcmSwitchCountCount : Fld := ⟨R.cipGcmSwitchCount, 0, 32⟩
/-- KL_LINK_CTL: Retrain and disable (offset 0x000 of its block, chapter 15). -/
def R.klLinkCtl (k : Nat) : Nat := 0xF000000E0000 + 0x400 * k
def F.klLinkCtlRetrain (k : Nat) : Fld := ⟨R.klLinkCtl k, 0, 1⟩
def F.klLinkCtlDisable (k : Nat) : Fld := ⟨R.klLinkCtl k, 1, 1⟩
/-- KL_LINK_STATUS: State, rate, width, cause (offset 0x004 of its block, chapter 15). -/
def R.klLinkStatus (k : Nat) : Nat := 0xF000000E0004 + 0x400 * k
def F.klLinkStatusState (k : Nat) : Fld := ⟨R.klLinkStatus k, 0, 3⟩
def F.klLinkStatusRate (k : Nat) : Fld := ⟨R.klLinkStatus k, 3, 2⟩
def F.klLinkStatusWidth (k : Nat) : Fld := ⟨R.klLinkStatus k, 5, 2⟩
def F.klLinkStatusDegraded (k : Nat) : Fld := ⟨R.klLinkStatus k, 7, 1⟩
def F.klLinkStatusTrainStep (k : Nat) : Fld := ⟨R.klLinkStatus k, 8, 4⟩
def F.klLinkStatusDownCause (k : Nat) : Fld := ⟨R.klLinkStatus k, 12, 4⟩
def F.klLinkStatusTxCtlRepaired (k : Nat) : Fld := ⟨R.klLinkStatus k, 16, 1⟩
def F.klLinkStatusRxCtlRepaired (k : Nat) : Fld := ⟨R.klLinkStatus k, 17, 1⟩
/-- KL_LINK_CFG: Rate, repair and L1 settings (offset 0x008 of its block, chapter 15). -/
def R.klLinkCfg (k : Nat) : Nat := 0xF000000E0008 + 0x400 * k
def F.klLinkCfgMaxRate (k : Nat) : Fld := ⟨R.klLinkCfg k, 0, 2⟩
def F.klLinkCfgDegradeAllowed (k : Nat) : Fld := ⟨R.klLinkCfg k, 2, 1⟩
def F.klLinkCfgTrainRetries (k : Nat) : Fld := ⟨R.klLinkCfg k, 3, 3⟩
def F.klLinkCfgL1Enable (k : Nat) : Fld := ⟨R.klLinkCfg k, 6, 1⟩
def F.klLinkCfgL1IdleUs (k : Nat) : Fld := ⟨R.klLinkCfg k, 8, 8⟩
def F.klLinkCfgLock (k : Nat) : Fld := ⟨R.klLinkCfg k, 31, 1⟩
/-- KL_REPLAY_CFG: Acknowledgement timeout and replay limit (offset 0x00C of its block, chapter 15). -/
def R.klReplayCfg (k : Nat) : Nat := 0xF000000E000C + 0x400 * k
def F.klReplayCfgAckTimeoutNs (k : Nat) : Fld := ⟨R.klReplayCfg k, 0, 10⟩
def F.klReplayCfgReplayLimit (k : Nat) : Fld := ⟨R.klReplayCfg k, 10, 3⟩
/-- KL_ERR_CFG: CRC limit and lane margin (offset 0x010 of its block, chapter 15). -/
def R.klErrCfg (k : Nat) : Nat := 0xF000000E0010 + 0x400 * k
def F.klErrCfgCrcLimit (k : Nat) : Fld := ⟨R.klErrCfg k, 0, 16⟩
def F.klErrCfgMarginPct (k : Nat) : Fld := ⟨R.klErrCfg k, 16, 7⟩
/-- KL_PARTNER_ID: Partner identity (offset 0x018 of its block, chapter 15). -/
def R.klPartnerId (k : Nat) : Nat := 0xF000000E0018 + 0x400 * k
def F.klPartnerIdVendor (k : Nat) : Fld := ⟨R.klPartnerId k, 0, 16⟩
def F.klPartnerIdDevice (k : Nat) : Fld := ⟨R.klPartnerId k, 16, 16⟩
def F.klPartnerIdRevision (k : Nat) : Fld := ⟨R.klPartnerId k, 32, 8⟩
def F.klPartnerIdKiliusVersion (k : Nat) : Fld := ⟨R.klPartnerId k, 40, 8⟩
def F.klPartnerIdNative64 (k : Nat) : Fld := ⟨R.klPartnerId k, 48, 1⟩
def F.klPartnerIdL1Capable (k : Nat) : Fld := ⟨R.klPartnerId k, 49, 1⟩
def F.klPartnerIdAgentClass (k : Nat) : Fld := ⟨R.klPartnerId k, 50, 2⟩
def F.klPartnerIdValid (k : Nat) : Fld := ⟨R.klPartnerId k, 63, 1⟩
/-- KL_REPAIR: Repaired data lanes (offset 0x020 of its block, chapter 15). -/
def R.klRepair (k : Nat) : Nat := 0xF000000E0020 + 0x400 * k
def F.klRepairTxLanes (k : Nat) : Fld := ⟨R.klRepair k, 0, 32⟩
def F.klRepairRxLanes (k : Nat) : Fld := ⟨R.klRepair k, 32, 32⟩
/-- KL_DELAY: One-way delay (offset 0x028 of its block, chapter 15). -/
def R.klDelay (k : Nat) : Nat := 0xF000000E0028 + 0x400 * k
def F.klDelayDelayPs (k : Nat) : Fld := ⟨R.klDelay k, 0, 24⟩
/-- KL_LAST_TRAIN: DTB at the last Up (offset 0x030 of its block, chapter 15). -/
def R.klLastTrain (k : Nat) : Nat := 0xF000000E0030 + 0x400 * k
def F.klLastTrainTime (k : Nat) : Fld := ⟨R.klLastTrain k, 0, 64⟩
/-- KL_CRC_ERR_COUNT: Flits received with CRC errors (offset 0x038 of its block, chapter 15). -/
def R.klCrcErrCount (k : Nat) : Nat := 0xF000000E0038 + 0x400 * k
def F.klCrcErrCountCount (k : Nat) : Fld := ⟨R.klCrcErrCount k, 0, 32⟩
/-- KL_REPLAY_COUNT: Replays sent by the hub (offset 0x03C of its block, chapter 15). -/
def R.klReplayCount (k : Nat) : Nat := 0xF000000E003C + 0x400 * k
def F.klReplayCountCount (k : Nat) : Fld := ⟨R.klReplayCount k, 0, 32⟩
/-- KL_NAK_COUNT: Replays requested by the hub (offset 0x040 of its block, chapter 15). -/
def R.klNakCount (k : Nat) : Nat := 0xF000000E0040 + 0x400 * k
def F.klNakCountCount (k : Nat) : Fld := ⟨R.klNakCount k, 0, 32⟩
/-- KL_RETRAIN_COUNT: Retrainings (offset 0x044 of its block, chapter 15). -/
def R.klRetrainCount (k : Nat) : Nat := 0xF000000E0044 + 0x400 * k
def F.klRetrainCountCount (k : Nat) : Fld := ⟨R.klRetrainCount k, 0, 32⟩
/-- KL_LINKDOWN_COUNT: Entries to Down (offset 0x048 of its block, chapter 15). -/
def R.klLinkdownCount (k : Nat) : Nat := 0xF000000E0048 + 0x400 * k
def F.klLinkdownCountCount (k : Nat) : Fld := ⟨R.klLinkdownCount k, 0, 32⟩
/-- KL_CTL_DISCARD_COUNT: Control flits ignored (R465) (offset 0x04C of its block, chapter 15). -/
def R.klCtlDiscardCount (k : Nat) : Nat := 0xF000000E004C + 0x400 * k
def F.klCtlDiscardCountCount (k : Nat) : Fld := ⟨R.klCtlDiscardCount k, 0, 32⟩
/-- KL_AGENT_CTL: Domain, permissions, admission (offset 0x000 of its block, chapter 16). -/
def R.klAgentCtl (a : Nat) : Nat := 0xF000000F0000 + 0x1000 * a
def F.klAgentCtlDomain (a : Nat) : Fld := ⟨R.klAgentCtl a, 0, 10⟩
def F.klAgentCtlDoorbellAllow (a : Nat) : Fld := ⟨R.klAgentCtl a, 10, 1⟩
def F.klAgentCtlHostIrqAllow (a : Nat) : Fld := ⟨R.klAgentCtl a, 11, 1⟩
def F.klAgentCtlEventAllow (a : Nat) : Fld := ⟨R.klAgentCtl a, 12, 1⟩
def F.klAgentCtlAdmit (a : Nat) : Fld := ⟨R.klAgentCtl a, 16, 1⟩
def F.klAgentCtlRevoke (a : Nat) : Fld := ⟨R.klAgentCtl a, 17, 1⟩
/-- KL_AGENT_STATUS: Agent state (offset 0x004 of its block, chapter 16). -/
def R.klAgentStatus (a : Nat) : Nat := 0xF000000F0004 + 0x1000 * a
def F.klAgentStatusState (a : Nat) : Fld := ⟨R.klAgentStatus a, 0, 2⟩
def F.klAgentStatusSlotsArmed (a : Nat) : Fld := ⟨R.klAgentStatus a, 8, 4⟩
def F.klAgentStatusBarriersWaiting (a : Nat) : Fld := ⟨R.klAgentStatus a, 12, 4⟩
/-- KL_AGENT_CFG: Timeout, outstanding limit, QoS (offset 0x008 of its block, chapter 16). -/
def R.klAgentCfg (a : Nat) : Nat := 0xF000000F0008 + 0x1000 * a
def F.klAgentCfgTimeoutUs (a : Nat) : Fld := ⟨R.klAgentCfg a, 0, 10⟩
def F.klAgentCfgMaxOut (a : Nat) : Fld := ⟨R.klAgentCfg a, 12, 10⟩
def F.klAgentCfgQos (a : Nat) : Fld := ⟨R.klAgentCfg a, 24, 2⟩
/-- KL_AGENT_CREDITS: Credits held from the agent (offset 0x00C of its block, chapter 16). -/
def R.klAgentCredits (a : Nat) : Nat := 0xF000000F000C + 0x1000 * a
def F.klAgentCreditsReq (a : Nat) : Fld := ⟨R.klAgentCredits a, 0, 8⟩
def F.klAgentCreditsResp (a : Nat) : Fld := ⟨R.klAgentCredits a, 8, 8⟩
def F.klAgentCreditsPosted (a : Nat) : Fld := ⟨R.klAgentCredits a, 16, 8⟩
def F.klAgentCreditsMsg (a : Nat) : Fld := ⟨R.klAgentCredits a, 24, 8⟩
/-- KL_AGENT_OUT: Requests waiting (offset 0x010 of its block, chapter 16). -/
def R.klAgentOut (a : Nat) : Nat := 0xF000000F0010 + 0x1000 * a
def F.klAgentOutHubOut (a : Nat) : Fld := ⟨R.klAgentOut a, 0, 11⟩
def F.klAgentOutAgentOut (a : Nat) : Fld := ⟨R.klAgentOut a, 16, 11⟩
/-- KL_AGENT_DENY_ADDR: Last refused request (offset 0x018 of its block, chapter 16). -/
def R.klAgentDenyAddr (a : Nat) : Nat := 0xF000000F0018 + 0x1000 * a
def F.klAgentDenyAddrAddress (a : Nat) : Fld := ⟨R.klAgentDenyAddr a, 0, 48⟩
def F.klAgentDenyAddrOpcode (a : Nat) : Fld := ⟨R.klAgentDenyAddr a, 48, 8⟩
def F.klAgentDenyAddrValid (a : Nat) : Fld := ⟨R.klAgentDenyAddr a, 63, 1⟩
/-- KL_AGENT_DENY_COUNT: Refusals and last status (offset 0x020 of its block, chapter 16). -/
def R.klAgentDenyCount (a : Nat) : Nat := 0xF000000F0020 + 0x1000 * a
def F.klAgentDenyCountCount (a : Nat) : Fld := ⟨R.klAgentDenyCount a, 0, 16⟩
def F.klAgentDenyCountLastStatus (a : Nat) : Fld := ⟨R.klAgentDenyCount a, 16, 16⟩
/-- KL_AGENT_TIMEOUT_COUNT: Hub requests timed out (offset 0x024 of its block, chapter 16). -/
def R.klAgentTimeoutCount (a : Nat) : Nat := 0xF000000F0024 + 0x1000 * a
def F.klAgentTimeoutCountCount (a : Nat) : Fld := ⟨R.klAgentTimeoutCount a, 0, 32⟩
/-- KL_AGENT_LATE_COUNT: Responses discarded (offset 0x028 of its block, chapter 16). -/
def R.klAgentLateCount (a : Nat) : Nat := 0xF000000F0028 + 0x1000 * a
def F.klAgentLateCountCount (a : Nat) : Fld := ⟨R.klAgentLateCount a, 0, 32⟩
/-- KL_AGENT_DROP_COUNT: Posted Writes and PostedErrors discarded (offset 0x02C of its block, chapter 16). -/
def R.klAgentDropCount (a : Nat) : Nat := 0xF000000F002C + 0x1000 * a
def F.klAgentDropCountCount (a : Nat) : Fld := ⟨R.klAgentDropCount a, 0, 32⟩
/-- KL_AGENT_EVT_DROP_COUNT: Event messages discarded (offset 0x030 of its block, chapter 16). -/
def R.klAgentEvtDropCount (a : Nat) : Nat := 0xF000000F0030 + 0x1000 * a
def F.klAgentEvtDropCountCount (a : Nat) : Fld := ⟨R.klAgentEvtDropCount a, 0, 32⟩
/-- KL_APT_BASE[0..15]: Base of entry i (offset 0x100 + 16i of its block, chapter 16). -/
def R.klAptBase (a i : Nat) : Nat := 0xF000000F0100 + 0x1000 * a + 16 * i
def F.klAptBaseBase (a i : Nat) : Fld := ⟨R.klAptBase a i, 12, 36⟩
/-- KL_APT_CTL[0..15]: Size, rights and commit of entry i (offset 0x108 + 16i of its block, chapter 16). -/
def R.klAptCtl (a i : Nat) : Nat := 0xF000000F0108 + 0x1000 * a + 16 * i
def F.klAptCtlPages (a i : Nat) : Fld := ⟨R.klAptCtl a i, 0, 32⟩
def F.klAptCtlRead (a i : Nat) : Fld := ⟨R.klAptCtl a i, 32, 1⟩
def F.klAptCtlWrite (a i : Nat) : Fld := ⟨R.klAptCtl a i, 33, 1⟩
def F.klAptCtlAtomic (a i : Nat) : Fld := ⟨R.klAptCtl a i, 34, 1⟩
def F.klAptCtlValid (a i : Nat) : Fld := ⟨R.klAptCtl a i, 63, 1⟩
/-- ESP_CTL: QoS arbitration (offset 0x000 of its block, chapter 16). -/
def R.espCtl : Nat := 0xF00000100000
def F.espCtlLatencyCap : Fld := ⟨R.espCtl, 0, 7⟩
def F.espCtlNormalWeight : Fld := ⟨R.espCtl, 8, 4⟩
def F.espCtlBulkWeight : Fld := ⟨R.espCtl, 12, 4⟩
/-- ESP_STATUS: Mesh state (offset 0x004 of its block, chapter 16). -/
def R.espStatus : Nat := 0xF00000100004
def F.espStatusMeshOk : Fld := ⟨R.espStatus, 0, 1⟩
/-- ESP_LINK_RETRY_COUNT: Flit retries (offset 0x008 of its block, chapter 16). -/
def R.espLinkRetryCount : Nat := 0xF00000100008
def F.espLinkRetryCountCount : Fld := ⟨R.espLinkRetryCount, 0, 32⟩
/-- ESP_LINK_FAIL: Lost link (offset 0x00C of its block, chapter 16). -/
def R.espLinkFail : Nat := 0xF0000010000C
def F.espLinkFailRouter : Fld := ⟨R.espLinkFail, 0, 6⟩
def F.espLinkFailDirection : Fld := ⟨R.espLinkFail, 6, 2⟩
def F.espLinkFailDie : Fld := ⟨R.espLinkFail, 8, 4⟩
def F.espLinkFailValid : Fld := ⟨R.espLinkFail, 31, 1⟩
/-- PMC_FREEZE: Freeze groups (offset 0x000 of its block, chapter 19). -/
def R.pmcFreeze : Nat := 0xF00000110000
def F.pmcFreezeGroups : Fld := ⟨R.pmcFreeze, 0, 64⟩
/-- PMC_THAW: Thaw groups (offset 0x008 of its block, chapter 19). -/
def R.pmcThaw : Nat := 0xF00000110008
def F.pmcThawGroups : Fld := ⟨R.pmcThaw, 0, 64⟩
/-- PMC_FROZEN: Frozen groups (offset 0x010 of its block, chapter 19). -/
def R.pmcFrozen : Nat := 0xF00000110010
def F.pmcFrozenGroups : Fld := ⟨R.pmcFrozen, 0, 64⟩
/-- PMC_OVF_SUM: Blocks with a wrap (offset 0x018 of its block, chapter 19). -/
def R.pmcOvfSum : Nat := 0xF00000110018
def F.pmcOvfSumBlocks : Fld := ⟨R.pmcOvfSum, 0, 50⟩
/-- PMC_OVF[0..49]: Wrap bits of counters 64i to 64i + 63 (offset 0x100 + 8i of its block, chapter 19). -/
def R.pmcOvf (i : Nat) : Nat := 0xF00000110100 + 8 * i
def F.pmcOvfWrapped (i : Nat) : Fld := ⟨R.pmcOvf i, 0, 64⟩
/-- PMC_SAMPLE_BASE: Sample buffer (offset 0x400 of its block, chapter 19). -/
def R.pmcSampleBase : Nat := 0xF00000110400
def F.pmcSampleBaseBase : Fld := ⟨R.pmcSampleBase, 0, 48⟩
/-- PMC_SAMPLE_CTL: Sampling control (offset 0x408 of its block, chapter 19). -/
def R.pmcSampleCtl : Nat := 0xF00000110408
def F.pmcSampleCtlEnable : Fld := ⟨R.pmcSampleCtl, 0, 1⟩
def F.pmcSampleCtlWrap : Fld := ⟨R.pmcSampleCtl, 1, 1⟩
def F.pmcSampleCtlDomainOnly : Fld := ⟨R.pmcSampleCtl, 2, 1⟩
def F.pmcSampleCtlFull : Fld := ⟨R.pmcSampleCtl, 3, 1⟩
def F.pmcSampleCtlWrapped : Fld := ⟨R.pmcSampleCtl, 4, 1⟩
def F.pmcSampleCtlSizeLog2 : Fld := ⟨R.pmcSampleCtl, 8, 5⟩
def F.pmcSampleCtlDomain : Fld := ⟨R.pmcSampleCtl, 16, 10⟩
/-- PMC_SAMPLE_DROP: Samples dropped at clusters (offset 0x40C of its block, chapter 19). -/
def R.pmcSampleDrop : Nat := 0xF0000011040C
def F.pmcSampleDropCount : Fld := ⟨R.pmcSampleDrop, 0, 32⟩
/-- PMC_SAMPLE_WR: Samples written (offset 0x410 of its block, chapter 19). -/
def R.pmcSampleWr : Nat := 0xF00000110410
def F.pmcSampleWrCount : Fld := ⟨R.pmcSampleWr, 0, 64⟩
/-- PMC_SAMPLE_RD: Samples consumed (offset 0x418 of its block, chapter 19). -/
def R.pmcSampleRd : Nat := 0xF00000110418
def F.pmcSampleRdCount : Fld := ⟨R.pmcSampleRd, 0, 64⟩
/-- PMC_BW_CTL[0..63]: Window p control (offset 0x1000 + 64p of its block, chapter 19). -/
def R.pmcBwCtl (i : Nat) : Nat := 0xF00000111000 + 64 * i
def F.pmcBwCtlStart (i : Nat) : Fld := ⟨R.pmcBwCtl i, 0, 1⟩
def F.pmcBwCtlEventOnDone (i : Nat) : Fld := ⟨R.pmcBwCtl i, 1, 1⟩
def F.pmcBwCtlRefused (i : Nat) : Fld := ⟨R.pmcBwCtl i, 2, 1⟩
def F.pmcBwCtlPresent (i : Nat) : Fld := ⟨R.pmcBwCtl i, 3, 1⟩
/-- PMC_BW_LEN[0..63]: Length (offset 0x1004 + 64p of its block, chapter 19). -/
def R.pmcBwLen (i : Nat) : Nat := 0xF00000111004 + 64 * i
def F.pmcBwLenUs (i : Nat) : Fld := ⟨R.pmcBwLen i, 0, 32⟩
/-- PMC_BW_IN[0..63]: Bytes in (offset 0x1008 + 64p of its block, chapter 19). -/
def R.pmcBwIn (i : Nat) : Nat := 0xF00000111008 + 64 * i
def F.pmcBwInCount (i : Nat) : Fld := ⟨R.pmcBwIn i, 0, 48⟩
/-- PMC_BW_OUT[0..63]: Bytes out (offset 0x1010 + 64p of its block, chapter 19). -/
def R.pmcBwOut (i : Nat) : Nat := 0xF00000111010 + 64 * i
def F.pmcBwOutCount (i : Nat) : Fld := ⟨R.pmcBwOut i, 0, 48⟩
/-- PMC_BW_PEAK[0..63]: Peak per µs (offset 0x1018 + 64p of its block, chapter 19). -/
def R.pmcBwPeak (i : Nat) : Nat := 0xF00000111018 + 64 * i
def F.pmcBwPeakIn (i : Nat) : Fld := ⟨R.pmcBwPeak i, 0, 16⟩
def F.pmcBwPeakOut (i : Nat) : Fld := ⟨R.pmcBwPeak i, 16, 16⟩
/-- PMC_BW_START[0..63]: Opening time (offset 0x1020 + 64p of its block, chapter 19). -/
def R.pmcBwStart (i : Nat) : Nat := 0xF00000111020 + 64 * i
def F.pmcBwStartTime (i : Nat) : Fld := ⟨R.pmcBwStart i, 0, 64⟩
/-- Q_CTL: Flush (offset 0x00 of its block, chapter 11). -/
def R.qCtl (q : Nat) : Nat := 0xF00000600000 + 0x20 * q
def F.qCtlFlush (q : Nat) : Fld := ⟨R.qCtl q, 0, 1⟩
/-- Q_STATUS: Occupancy (offset 0x04 of its block, chapter 11). -/
def R.qStatus (q : Nat) : Nat := 0xF00000600004 + 0x20 * q
def F.qStatusCount (q : Nat) : Fld := ⟨R.qStatus q, 0, 16⟩
def F.qStatusEmpty (q : Nat) : Fld := ⟨R.qStatus q, 16, 1⟩
def F.qStatusFull (q : Nat) : Fld := ⟨R.qStatus q, 17, 1⟩
def F.qStatusFlushed (q : Nat) : Fld := ⟨R.qStatus q, 18, 1⟩
def F.qStatusSpilling (q : Nat) : Fld := ⟨R.qStatus q, 19, 1⟩
def F.qStatusClass (q : Nat) : Fld := ⟨R.qStatus q, 20, 1⟩
/-- Q_PTR: Pointers (offset 0x08 of its block, chapter 11). -/
def R.qPtr (q : Nat) : Nat := 0xF00000600008 + 0x20 * q
def F.qPtrWrite (q : Nat) : Fld := ⟨R.qPtr q, 0, 32⟩
def F.qPtrRead (q : Nat) : Fld := ⟨R.qPtr q, 32, 32⟩
/-- Q_CFG: Class parameters (offset 0x10 of its block, chapter 11). -/
def R.qCfg (q : Nat) : Nat := 0xF00000600010 + 0x20 * q
def F.qCfgDepthLog2 (q : Nat) : Fld := ⟨R.qCfg q, 0, 4⟩
def F.qCfgPolicy (q : Nat) : Fld := ⟨R.qCfg q, 4, 2⟩
def F.qCfgSpillQuotaMiB (q : Nat) : Fld := ⟨R.qCfg q, 8, 16⟩
/-- Q_DROP: Items or packets dropped (offset 0x14 of its block, chapter 11). -/
def R.qDrop (q : Nat) : Nat := 0xF00000600014 + 0x20 * q
def F.qDropCount (q : Nat) : Fld := ⟨R.qDrop q, 0, 32⟩
/-- Q_FLUSH_COUNT: Flushes (offset 0x18 of its block, chapter 11). -/
def R.qFlushCount (q : Nat) : Nat := 0xF00000600018 + 0x20 * q
def F.qFlushCountCount (q : Nat) : Fld := ⟨R.qFlushCount q, 0, 32⟩
/-- PMC_CNT[n]: Count (offset 0x0 of its block, chapter 19). -/
def R.pmcCnt (n : Nat) : Nat := 0xF00003000000 + 0x10 * n
def F.pmcCntCount (n : Nat) : Fld := ⟨R.pmcCnt n, 0, 48⟩
/-- PMC_SEL[n]: Event selection (offset 0x8 of its block, chapter 19). -/
def R.pmcSel (n : Nat) : Nat := 0xF00003000008 + 0x10 * n
def F.pmcSelEvent (n : Nat) : Fld := ⟨R.pmcSel n, 0, 8⟩
def F.pmcSelEnable (n : Nat) : Fld := ⟨R.pmcSel n, 8, 1⟩
def F.pmcSelSample (n : Nat) : Fld := ⟨R.pmcSel n, 9, 1⟩
def F.pmcSelQual (n : Nat) : Fld := ⟨R.pmcSel n, 12, 20⟩
/-- CIP_DOM_STATUS: Slots and command state (offset 0x000 of its block, chapter 14). -/
def R.cipDomStatus (n : Nat) : Nat := 0xF0000C000000 + 0x1000 * n
def F.cipDomStatusSlotValid (n : Nat) : Fld := ⟨R.cipDomStatus n, 0, 8⟩
def F.cipDomStatusBusy (n : Nat) : Fld := ⟨R.cipDomStatus n, 8, 1⟩
def F.cipDomStatusLastStatus (n : Nat) : Fld := ⟨R.cipDomStatus n, 16, 16⟩
/-- CIP_DOM_XTS: XTS key state (offset 0x004 of its block, chapter 14). -/
def R.cipDomXts (n : Nat) : Nat := 0xF0000C000004 + 0x1000 * n
def F.cipDomXtsGeneration (n : Nat) : Fld := ⟨R.cipDomXts n, 0, 16⟩
def F.cipDomXtsCopies (n : Nat) : Fld := ⟨R.cipDomXts n, 16, 5⟩
def F.cipDomXtsActive (n : Nat) : Fld := ⟨R.cipDomXts n, 21, 1⟩
/-- CIP_DOM_WRAP[0..4]: Wrapped key (offset 0x010 + 8i of its block, chapter 14). -/
def R.cipDomWrap (n i : Nat) : Nat := 0xF0000C000010 + 0x1000 * n + 8 * i
def F.cipDomWrapWrapped (n i : Nat) : Fld := ⟨R.cipDomWrap n i, 0, 64⟩
/-- CIP_DOM_CMD: Key command (offset 0x040 of its block, chapter 14). -/
def R.cipDomCmd (n : Nat) : Nat := 0xF0000C000040 + 0x1000 * n
def F.cipDomCmdOp (n : Nat) : Fld := ⟨R.cipDomCmd n, 0, 2⟩
def F.cipDomCmdSlot (n : Nat) : Fld := ⟨R.cipDomCmd n, 2, 3⟩
/-- CIP_DOM_LINES: Lines through XTS (offset 0x048 of its block, chapter 14). -/
def R.cipDomLines (n : Nat) : Nat := 0xF0000C000048 + 0x1000 * n
def F.cipDomLinesCount (n : Nat) : Fld := ⟨R.cipDomLines n, 0, 48⟩
/-- CIP_DOM_GCM_BYTES: GCM text processed (offset 0x050 of its block, chapter 14). -/
def R.cipDomGcmBytes (n : Nat) : Nat := 0xF0000C000050 + 0x1000 * n
def F.cipDomGcmBytesCount (n : Nat) : Fld := ⟨R.cipDomGcmBytes n, 0, 48⟩
/-- CIP_DOM_AUTH_FAIL: GCM tag failures (offset 0x058 of its block, chapter 14). -/
def R.cipDomAuthFail (n : Nat) : Nat := 0xF0000C000058 + 0x1000 * n
def F.cipDomAuthFailCount (n : Nat) : Fld := ⟨R.cipDomAuthFail n, 0, 32⟩
/-- RING_DB_SQ_TAIL: Submission tail doorbell (offset 0x000 of its block, chapter 11). -/
def R.ringDbSqTail (n : Nat) : Nat := 0xF00010000000 + 0x1000 * n
def F.ringDbSqTailTail (n : Nat) : Fld := ⟨R.ringDbSqTail n, 0, 16⟩
/-- RING_DB_CQ_HEAD: Completion head doorbell (offset 0x004 of its block, chapter 11). -/
def R.ringDbCqHead (n : Nat) : Nat := 0xF00010000004 + 0x1000 * n
def F.ringDbCqHeadHead (n : Nat) : Fld := ⟨R.ringDbCqHead n, 0, 16⟩
/-- RING_SQ_BASE: Submission ring address (offset 0x100 of its block, chapter 11). -/
def R.ringSqBase (n : Nat) : Nat := 0xF00010000100 + 0x1000 * n
def F.ringSqBaseBase (n : Nat) : Fld := ⟨R.ringSqBase n, 12, 36⟩
/-- RING_CQ_BASE: Completion ring address (offset 0x108 of its block, chapter 11). -/
def R.ringCqBase (n : Nat) : Nat := 0xF00010000108 + 0x1000 * n
def F.ringCqBaseBase (n : Nat) : Fld := ⟨R.ringCqBase n, 12, 36⟩
/-- RING_SIZE: Ring sizes (offset 0x110 of its block, chapter 11). -/
def R.ringSize (n : Nat) : Nat := 0xF00010000110 + 0x1000 * n
def F.ringSizeSqLog2 (n : Nat) : Fld := ⟨R.ringSize n, 0, 4⟩
def F.ringSizeCqLog2 (n : Nat) : Fld := ⟨R.ringSize n, 4, 4⟩
/-- RING_NOTIFY: Notification target (offset 0x114 of its block, chapter 11). -/
def R.ringNotify (n : Nat) : Nat := 0xF00010000114 + 0x1000 * n
def F.ringNotifyKind (n : Nat) : Fld := ⟨R.ringNotify n, 0, 2⟩
def F.ringNotifyLd (n : Nat) : Fld := ⟨R.ringNotify n, 2, 6⟩
def F.ringNotifyVector (n : Nat) : Fld := ⟨R.ringNotify n, 8, 11⟩
/-- RING_COALESCE: Coalescing and progress period (offset 0x118 of its block, chapter 11). -/
def R.ringCoalesce (n : Nat) : Nat := 0xF00010000118 + 0x1000 * n
def F.ringCoalesceCount (n : Nat) : Fld := ⟨R.ringCoalesce n, 0, 8⟩
def F.ringCoalesceUs (n : Nat) : Fld := ⟨R.ringCoalesce n, 8, 8⟩
def F.ringCoalesceProgressPeriod (n : Nat) : Fld := ⟨R.ringCoalesce n, 16, 8⟩
/-- RING_REMOTE: Remote submission (offset 0x11C of its block, chapter 11). -/
def R.ringRemote (n : Nat) : Nat := 0xF0001000011C + 0x1000 * n
def F.ringRemoteQp (n : Nat) : Fld := ⟨R.ringRemote n, 0, 16⟩
def F.ringRemoteEnable (n : Nat) : Fld := ⟨R.ringRemote n, 16, 1⟩
/-- RING_CTL: Enable and abort (offset 0x120 of its block, chapter 11). -/
def R.ringCtl (n : Nat) : Nat := 0xF00010000120 + 0x1000 * n
def F.ringCtlEnable (n : Nat) : Fld := ⟨R.ringCtl n, 0, 1⟩
def F.ringCtlAbort (n : Nat) : Fld := ⟨R.ringCtl n, 1, 1⟩
/-- RING_STATUS: Ring state (offset 0x124 of its block, chapter 11). -/
def R.ringStatus (n : Nat) : Nat := 0xF00010000124 + 0x1000 * n
def F.ringStatusState (n : Nat) : Fld := ⟨R.ringStatus n, 0, 3⟩
def F.ringStatusHaltCause (n : Nat) : Fld := ⟨R.ringStatus n, 4, 3⟩
def F.ringStatusEnableRefused (n : Nat) : Fld := ⟨R.ringStatus n, 7, 1⟩
def F.ringStatusPhase (n : Nat) : Fld := ⟨R.ringStatus n, 8, 1⟩
def F.ringStatusInFlight (n : Nat) : Fld := ⟨R.ringStatus n, 16, 8⟩
/-- RING_INDEX: Current indices (offset 0x128 of its block, chapter 11). -/
def R.ringIndex (n : Nat) : Nat := 0xF00010000128 + 0x1000 * n
def F.ringIndexSqHead (n : Nat) : Fld := ⟨R.ringIndex n, 0, 16⟩
def F.ringIndexSqTail (n : Nat) : Fld := ⟨R.ringIndex n, 16, 16⟩
def F.ringIndexCqHead (n : Nat) : Fld := ⟨R.ringIndex n, 32, 16⟩
def F.ringIndexCqTail (n : Nat) : Fld := ⟨R.ringIndex n, 48, 16⟩
/-- RING_PROG_SKIP: Progress records skipped (offset 0x130 of its block, chapter 11). -/
def R.ringProgSkip (n : Nat) : Nat := 0xF00010000130 + 0x1000 * n
def F.ringProgSkipCount (n : Nat) : Fld := ⟨R.ringProgSkip n, 0, 32⟩
/-- TB_NOW: Current DTB (offset 0x000 of its block, chapter 02). -/
def R.dieTbNow (d : Nat) : Nat := 0xF00040020000 + 0x4000000 * d
def F.dieTbNowValue (d : Nat) : Fld := ⟨R.dieTbNow d, 0, 64⟩
/-- TB_LAUNCH_TIME[0..127]: Fire time of slot n (offset 0x1000 + 32n of its block, chapter 02). -/
def R.dieTbLaunchTime (d i : Nat) : Nat := 0xF00040021000 + 0x4000000 * d + 32 * i
def F.dieTbLaunchTimeValue (d i : Nat) : Fld := ⟨R.dieTbLaunchTime d i, 0, 64⟩
/-- TB_LAUNCH_ARG[0..127]: Argument of slot n (offset 0x1008 + 32n of its block, chapter 02). -/
def R.dieTbLaunchArg (d i : Nat) : Nat := 0xF00040021008 + 0x4000000 * d + 32 * i
def F.dieTbLaunchArgValue (d i : Nat) : Fld := ⟨R.dieTbLaunchArg d i, 0, 64⟩
/-- TB_LAUNCH_CTL[0..127]: Action and arm control of slot n (offset 0x1010 + 32n of its block, chapter 02). -/
def R.dieTbLaunchCtl (d i : Nat) : Nat := 0xF00040021010 + 0x4000000 * d + 32 * i
def F.dieTbLaunchCtlAction (d i : Nat) : Fld := ⟨R.dieTbLaunchCtl d i, 0, 8⟩
def F.dieTbLaunchCtlArm (d i : Nat) : Fld := ⟨R.dieTbLaunchCtl d i, 8, 1⟩
def F.dieTbLaunchCtlCancel (d i : Nat) : Fld := ⟨R.dieTbLaunchCtl d i, 9, 1⟩
def F.dieTbLaunchCtlLatePolicy (d i : Nat) : Fld := ⟨R.dieTbLaunchCtl d i, 10, 1⟩
def F.dieTbLaunchCtlOwner (d i : Nat) : Fld := ⟨R.dieTbLaunchCtl d i, 11, 1⟩
def F.dieTbLaunchCtlOwnerDomain (d i : Nat) : Fld := ⟨R.dieTbLaunchCtl d i, 12, 10⟩
/-- TB_LAUNCH_STAT[0..127]: State of slot n (offset 0x1014 + 32n of its block, chapter 02). -/
def R.dieTbLaunchStat (d i : Nat) : Nat := 0xF00040021014 + 0x4000000 * d + 32 * i
def F.dieTbLaunchStatState (d i : Nat) : Fld := ⟨R.dieTbLaunchStat d i, 0, 2⟩
def F.dieTbLaunchStatLate (d i : Nat) : Fld := ⟨R.dieTbLaunchStat d i, 2, 1⟩
def F.dieTbLaunchStatLateness (d i : Nat) : Fld := ⟨R.dieTbLaunchStat d i, 16, 16⟩
/-- MT_CH_CTL: Channel control (offset 0x000 of its block, chapter 05). -/
def R.mtChCtl (c : Nat) : Nat := 0xF00040100000 + 0x4000000 * (c / 4) + 0x1000 * (c % 4)
def F.mtChCtlEnable (c : Nat) : Fld := ⟨R.mtChCtl c, 0, 1⟩
def F.mtChCtlMaxSegments (c : Nat) : Fld := ⟨R.mtChCtl c, 4, 4⟩
def F.mtChCtlRetrainPeriod (c : Nat) : Fld := ⟨R.mtChCtl c, 8, 8⟩
def F.mtChCtlRetrainTempDelta (c : Nat) : Fld := ⟨R.mtChCtl c, 16, 4⟩
def F.mtChCtlRetrainNow (c : Nat) : Fld := ⟨R.mtChCtl c, 20, 1⟩
def F.mtChCtlLock (c : Nat) : Fld := ⟨R.mtChCtl c, 31, 1⟩
/-- MT_CH_STATUS: Channel state (offset 0x004 of its block, chapter 05). -/
def R.mtChStatus (c : Nat) : Nat := 0xF00040100004 + 0x4000000 * (c / 4) + 0x1000 * (c % 4)
def F.mtChStatusState (c : Nat) : Fld := ⟨R.mtChStatus c, 0, 3⟩
def F.mtChStatusRankOnline (c : Nat) : Fld := ⟨R.mtChStatus c, 3, 2⟩
def F.mtChStatusThrottled (c : Nat) : Fld := ⟨R.mtChStatus c, 5, 1⟩
def F.mtChStatusMarginMin (c : Nat) : Fld := ⟨R.mtChStatus c, 8, 8⟩
def F.mtChStatusCause (c : Nat) : Fld := ⟨R.mtChStatus c, 16, 4⟩
/-- MT_CH_ID0: Rank 0 identity (offset 0x008 of its block, chapter 05). -/
def R.mtChId0 (c : Nat) : Nat := 0xF00040100008 + 0x4000000 * (c / 4) + 0x1000 * (c % 4)
def F.mtChId0Vendor (c : Nat) : Fld := ⟨R.mtChId0 c, 0, 16⟩
def F.mtChId0Density (c : Nat) : Fld := ⟨R.mtChId0 c, 16, 8⟩
def F.mtChId0Revision (c : Nat) : Fld := ⟨R.mtChId0 c, 24, 8⟩
def F.mtChId0Qualification (c : Nat) : Fld := ⟨R.mtChId0 c, 32, 8⟩
def F.mtChId0Valid (c : Nat) : Fld := ⟨R.mtChId0 c, 63, 1⟩
/-- MT_CH_ID1: Rank 1 identity (offset 0x010 of its block, chapter 05). -/
def R.mtChId1 (c : Nat) : Nat := 0xF00040100010 + 0x4000000 * (c / 4) + 0x1000 * (c % 4)
def F.mtChId1Vendor (c : Nat) : Fld := ⟨R.mtChId1 c, 0, 16⟩
def F.mtChId1Density (c : Nat) : Fld := ⟨R.mtChId1 c, 16, 8⟩
def F.mtChId1Revision (c : Nat) : Fld := ⟨R.mtChId1 c, 24, 8⟩
def F.mtChId1Qualification (c : Nat) : Fld := ⟨R.mtChId1 c, 32, 8⟩
def F.mtChId1Valid (c : Nat) : Fld := ⟨R.mtChId1 c, 63, 1⟩
/-- MT_CH_LAST_TRAIN: DTB at end of last training (offset 0x018 of its block, chapter 05). -/
def R.mtChLastTrain (c : Nat) : Nat := 0xF00040100018 + 0x4000000 * (c / 4) + 0x1000 * (c % 4)
def F.mtChLastTrainValue (c : Nat) : Fld := ⟨R.mtChLastTrain c, 0, 64⟩
/-- MT_CH_CA_ERR_COUNT: Commands that drew ALERT_N (offset 0x020 of its block, chapter 05). -/
def R.mtChCaErrCount (c : Nat) : Nat := 0xF00040100020 + 0x4000000 * (c / 4) + 0x1000 * (c % 4)
def F.mtChCaErrCountCount (c : Nat) : Fld := ⟨R.mtChCaErrCount c, 0, 32⟩
/-- MT_CH_WRFAIL_COUNT: Writes with verify failures (offset 0x024 of its block, chapter 05). -/
def R.mtChWrfailCount (c : Nat) : Nat := 0xF00040100024 + 0x4000000 * (c / 4) + 0x1000 * (c % 4)
def F.mtChWrfailCountCount (c : Nat) : Fld := ⟨R.mtChWrfailCount c, 0, 32⟩
/-- MT_CH_PREEMPT_COUNT: Writes paused for reads (offset 0x028 of its block, chapter 05). -/
def R.mtChPreemptCount (c : Nat) : Nat := 0xF00040100028 + 0x4000000 * (c / 4) + 0x1000 * (c % 4)
def F.mtChPreemptCountCount (c : Nat) : Fld := ⟨R.mtChPreemptCount c, 0, 32⟩
/-- MT_CH_FORCED_COUNT: Forced segments (offset 0x02C of its block, chapter 05). -/
def R.mtChForcedCount (c : Nat) : Nat := 0xF0004010002C + 0x4000000 * (c / 4) + 0x1000 * (c % 4)
def F.mtChForcedCountCount (c : Nat) : Fld := ⟨R.mtChForcedCount c, 0, 32⟩
/-- MT_CH_RETRAIN_COUNT: Online retrainings (offset 0x030 of its block, chapter 05). -/
def R.mtChRetrainCount (c : Nat) : Nat := 0xF00040100030 + 0x4000000 * (c / 4) + 0x1000 * (c % 4)
def F.mtChRetrainCountCount (c : Nat) : Fld := ⟨R.mtChRetrainCount c, 0, 32⟩
/-- MT_CH_SCRUB_STATUS: Scrubber state (offset 0x800 of its block, chapter 06). -/
def R.mtChScrubStatus (c : Nat) : Nat := 0xF00040100800 + 0x4000000 * (c / 4) + 0x1000 * (c % 4)
def F.mtChScrubStatusStarved (c : Nat) : Fld := ⟨R.mtChScrubStatus c, 0, 1⟩
def F.mtChScrubStatusOverLimit (c : Nat) : Fld := ⟨R.mtChScrubStatus c, 1, 1⟩
def F.mtChScrubStatusLaps (c : Nat) : Fld := ⟨R.mtChScrubStatus c, 16, 16⟩
/-- MT_CH_SCRUB_LAP: Lap times (offset 0x808 of its block, chapter 06). -/
def R.mtChScrubLap (c : Nat) : Nat := 0xF00040100808 + 0x4000000 * (c / 4) + 0x1000 * (c % 4)
def F.mtChScrubLapLast (c : Nat) : Fld := ⟨R.mtChScrubLap c, 0, 32⟩
def F.mtChScrubLapCurrent (c : Nat) : Fld := ⟨R.mtChScrubLap c, 32, 32⟩
/-- MT_CH_SCRUB_POS: Lap progress (offset 0x810 of its block, chapter 06). -/
def R.mtChScrubPos (c : Nat) : Nat := 0xF00040100810 + 0x4000000 * (c / 4) + 0x1000 * (c % 4)
def F.mtChScrubPosDone (c : Nat) : Fld := ⟨R.mtChScrubPos c, 0, 32⟩
def F.mtChScrubPosTotal (c : Nat) : Fld := ⟨R.mtChScrubPos c, 32, 32⟩
/-- MT_CH_CORR[0..1]: Corrections in rank r (offset 0x818 + 4r of its block, chapter 06). -/
def R.mtChCorr (c i : Nat) : Nat := 0xF00040100818 + 0x4000000 * (c / 4) + 0x1000 * (c % 4) + 4 * i
def F.mtChCorrCount (c i : Nat) : Fld := ⟨R.mtChCorr c i, 0, 32⟩
/-- MT_CH_RATE[0..1]: Corrections in rank r, last 60 min (offset 0x820 + 4r of its block, chapter 06). -/
def R.mtChRate (c i : Nat) : Nat := 0xF00040100820 + 0x4000000 * (c / 4) + 0x1000 * (c % 4) + 4 * i
def F.mtChRateCount (c i : Nat) : Fld := ⟨R.mtChRate c i, 0, 32⟩
/-- MT_CH_UNCORR_COUNT: Uncorrectable lines (offset 0x828 of its block, chapter 06). -/
def R.mtChUncorrCount (c : Nat) : Nat := 0xF00040100828 + 0x4000000 * (c / 4) + 0x1000 * (c % 4)
def F.mtChUncorrCountCount (c : Nat) : Fld := ⟨R.mtChUncorrCount c, 0, 32⟩
/-- MT_CH_SPARE: Spare pool (offset 0x82C of its block, chapter 06). -/
def R.mtChSpare (c : Nat) : Nat := 0xF0004010082C + 0x4000000 * (c / 4) + 0x1000 * (c % 4)
def F.mtChSpareFree (c : Nat) : Fld := ⟨R.mtChSpare c, 0, 23⟩
def F.mtChSpareLow (c : Nat) : Fld := ⟨R.mtChSpare c, 23, 1⟩
def F.mtChSpareRankRetired (c : Nat) : Fld := ⟨R.mtChSpare c, 24, 2⟩
/-- FT_CH_CTL: Channel control (offset 0x000 of its block, chapter 07). -/
def R.ftChCtl (c : Nat) : Nat := 0xF00040200000 + 0x4000000 * (c / 8) + 0x1000 * (c % 8)
def F.ftChCtlEnable (c : Nat) : Fld := ⟨R.ftChCtl c, 0, 1⟩
def F.ftChCtlMaxRate (c : Nat) : Fld := ⟨R.ftChCtl c, 1, 2⟩
def F.ftChCtlLock (c : Nat) : Fld := ⟨R.ftChCtl c, 31, 1⟩
/-- FT_CH_STATUS: Channel state (offset 0x004 of its block, chapter 07). -/
def R.ftChStatus (c : Nat) : Nat := 0xF00040200004 + 0x4000000 * (c / 8) + 0x1000 * (c % 8)
def F.ftChStatusState (c : Nat) : Fld := ⟨R.ftChStatus c, 0, 3⟩
def F.ftChStatusToggle (c : Nat) : Fld := ⟨R.ftChStatus c, 3, 1⟩
def F.ftChStatusRate (c : Nat) : Fld := ⟨R.ftChStatus c, 4, 2⟩
def F.ftChStatusDieOnline (c : Nat) : Fld := ⟨R.ftChStatus c, 8, 16⟩
def F.ftChStatusCause (c : Nat) : Fld := ⟨R.ftChStatus c, 24, 4⟩
/-- FT_CH_CAL: Dies calibrating (offset 0x008 of its block, chapter 07). -/
def R.ftChCal (c : Nat) : Nat := 0xF00040200008 + 0x4000000 * (c / 8) + 0x1000 * (c % 8)
def F.ftChCalCalibrating (c : Nat) : Fld := ⟨R.ftChCal c, 0, 16⟩
/-- FT_CH_ID: Profile identity (offset 0x010 of its block, chapter 07). -/
def R.ftChId (c : Nat) : Nat := 0xF00040200010 + 0x4000000 * (c / 8) + 0x1000 * (c % 8)
def F.ftChIdVendor (c : Nat) : Fld := ⟨R.ftChId c, 0, 16⟩
def F.ftChIdType (c : Nat) : Fld := ⟨R.ftChId c, 16, 8⟩
def F.ftChIdRevision (c : Nat) : Fld := ⟨R.ftChId c, 24, 8⟩
def F.ftChIdProfile (c : Nat) : Fld := ⟨R.ftChId c, 32, 8⟩
def F.ftChIdValid (c : Nat) : Fld := ⟨R.ftChId c, 63, 1⟩
/-- FT_CH_PROG_FAIL_COUNT: Program failures (offset 0x018 of its block, chapter 07). -/
def R.ftChProgFailCount (c : Nat) : Nat := 0xF00040200018 + 0x4000000 * (c / 8) + 0x1000 * (c % 8)
def F.ftChProgFailCountCount (c : Nat) : Fld := ⟨R.ftChProgFailCount c, 0, 32⟩
/-- FT_CH_ERASE_FAIL_COUNT: Erase failures (offset 0x01C of its block, chapter 07). -/
def R.ftChEraseFailCount (c : Nat) : Nat := 0xF0004020001C + 0x4000000 * (c / 8) + 0x1000 * (c % 8)
def F.ftChEraseFailCountCount (c : Nat) : Fld := ⟨R.ftChEraseFailCount c, 0, 32⟩
/-- FT_CH_RETRY_COUNT: Reads beyond the start entry (offset 0x020 of its block, chapter 07). -/
def R.ftChRetryCount (c : Nat) : Nat := 0xF00040200020 + 0x4000000 * (c / 8) + 0x1000 * (c % 8)
def F.ftChRetryCountCount (c : Nat) : Fld := ⟨R.ftChRetryCount c, 0, 32⟩
/-- FT_CH_REBUILD_COUNT: Codewords rebuilt (offset 0x024 of its block, chapter 07). -/
def R.ftChRebuildCount (c : Nat) : Nat := 0xF00040200024 + 0x4000000 * (c / 8) + 0x1000 * (c % 8)
def F.ftChRebuildCountCount (c : Nat) : Fld := ⟨R.ftChRebuildCount c, 0, 32⟩
/-- HZ_CL_CTL: Cluster control (offset 0x000 of its block, chapter 12). -/
def R.hzClCtl (d : Nat) : Nat := 0xF00040300000 + 0x4000000 * d
def F.hzClCtlEnable (d : Nat) : Fld := ⟨R.hzClCtl d, 0, 1⟩
def F.hzClCtlImageFlush (d : Nat) : Fld := ⟨R.hzClCtl d, 1, 1⟩
def F.hzClCtlLock (d : Nat) : Fld := ⟨R.hzClCtl d, 31, 1⟩
/-- HZ_CL_STATUS: Cluster state (offset 0x008 of its block, chapter 12). -/
def R.hzClStatus (d : Nat) : Nat := 0xF00040300008 + 0x4000000 * d
def F.hzClStatusState (d : Nat) : Fld := ⟨R.hzClStatus d, 0, 2⟩
def F.hzClStatusCoresBusy (d : Nat) : Fld := ⟨R.hzClStatus d, 8, 32⟩
def F.hzClStatusQueued (d : Nat) : Fld := ⟨R.hzClStatus d, 40, 7⟩
def F.hzClStatusPoolFreeKiB (d : Nat) : Fld := ⟨R.hzClStatus d, 48, 13⟩
/-- HZ_CL_KERNEL_COUNT: Kernels completed (offset 0x010 of its block, chapter 12). -/
def R.hzClKernelCount (d : Nat) : Nat := 0xF00040300010 + 0x4000000 * d
def F.hzClKernelCountCount (d : Nat) : Fld := ⟨R.hzClKernelCount d, 0, 32⟩
/-- HZ_CL_FAULT_COUNT: Kernels ended other than by EXIT (offset 0x014 of its block, chapter 12). -/
def R.hzClFaultCount (d : Nat) : Nat := 0xF00040300014 + 0x4000000 * d
def F.hzClFaultCountCount (d : Nat) : Fld := ⟨R.hzClFaultCount d, 0, 32⟩
/-- HZ_CORE_CTL: Core reset (offset 0x00 of its block, chapter 12). -/
def R.hzCoreCtl (h : Nat) : Nat := 0xF00040310000 + 0x4000000 * (h / 32) + 0x100 * (h % 32)
def F.hzCoreCtlReset (h : Nat) : Fld := ⟨R.hzCoreCtl h, 0, 1⟩
/-- HZ_CORE_STATUS: Core state (offset 0x04 of its block, chapter 12). -/
def R.hzCoreStatus (h : Nat) : Nat := 0xF00040310004 + 0x4000000 * (h / 32) + 0x100 * (h % 32)
def F.hzCoreStatusState (h : Nat) : Fld := ⟨R.hzCoreStatus h, 0, 3⟩
def F.hzCoreStatusRank (h : Nat) : Fld := ⟨R.hzCoreStatus h, 3, 5⟩
def F.hzCoreStatusDomain (h : Nat) : Fld := ⟨R.hzCoreStatus h, 8, 10⟩
/-- HZ_CORE_KERNEL: Launch being served (offset 0x08 of its block, chapter 12). -/
def R.hzCoreKernel (h : Nat) : Nat := 0xF00040310008 + 0x4000000 * (h / 32) + 0x100 * (h % 32)
def F.hzCoreKernelRingPair (h : Nat) : Fld := ⟨R.hzCoreKernel h, 0, 12⟩
def F.hzCoreKernelTag (h : Nat) : Fld := ⟨R.hzCoreKernel h, 16, 32⟩
/-- HZ_CORE_FAULT_PC: Fault record: pc (offset 0x10 of its block, chapter 12). -/
def R.hzCoreFaultPc (h : Nat) : Nat := 0xF00040310010 + 0x4000000 * (h / 32) + 0x100 * (h % 32)
def F.hzCoreFaultPcPc (h : Nat) : Fld := ⟨R.hzCoreFaultPc h, 0, 64⟩
/-- HZ_CORE_FAULT_ADDR: Fault record: address (offset 0x18 of its block, chapter 12). -/
def R.hzCoreFaultAddr (h : Nat) : Nat := 0xF00040310018 + 0x4000000 * (h / 32) + 0x100 * (h % 32)
def F.hzCoreFaultAddrAddress (h : Nat) : Fld := ⟨R.hzCoreFaultAddr h, 0, 48⟩
def F.hzCoreFaultAddrValid (h : Nat) : Fld := ⟨R.hzCoreFaultAddr h, 63, 1⟩
/-- HZ_CORE_FAULT_INFO: Fault record: cause (offset 0x20 of its block, chapter 12). -/
def R.hzCoreFaultInfo (h : Nat) : Nat := 0xF00040310020 + 0x4000000 * (h / 32) + 0x100 * (h % 32)
def F.hzCoreFaultInfoCode (h : Nat) : Fld := ⟨R.hzCoreFaultInfo h, 0, 8⟩
def F.hzCoreFaultInfoStatus (h : Nat) : Fld := ⟨R.hzCoreFaultInfo h, 8, 16⟩
def F.hzCoreFaultInfoStoreDropped (h : Nat) : Fld := ⟨R.hzCoreFaultInfo h, 24, 1⟩
/-- HZ_CORE_LAUNCH_TIME[0..3]: Fire time of slot s (offset 0x40 + 32s of its block, chapter 12). -/
def R.hzCoreLaunchTime (h i : Nat) : Nat := 0xF00040310040 + 0x4000000 * (h / 32) + 0x100 * (h % 32) + 32 * i
def F.hzCoreLaunchTimeValue (h i : Nat) : Fld := ⟨R.hzCoreLaunchTime h i, 0, 64⟩
/-- HZ_CORE_LAUNCH_ARG[0..3]: Argument of slot s (offset 0x48 + 32s of its block, chapter 12). -/
def R.hzCoreLaunchArg (h i : Nat) : Nat := 0xF00040310048 + 0x4000000 * (h / 32) + 0x100 * (h % 32) + 32 * i
def F.hzCoreLaunchArgValue (h i : Nat) : Fld := ⟨R.hzCoreLaunchArg h i, 0, 64⟩
/-- HZ_CORE_LAUNCH_CTL[0..3]: Action and arm control of slot s (offset 0x50 + 32s of its block, chapter 12). -/
def R.hzCoreLaunchCtl (h i : Nat) : Nat := 0xF00040310050 + 0x4000000 * (h / 32) + 0x100 * (h % 32) + 32 * i
def F.hzCoreLaunchCtlAction (h i : Nat) : Fld := ⟨R.hzCoreLaunchCtl h i, 0, 8⟩
def F.hzCoreLaunchCtlArm (h i : Nat) : Fld := ⟨R.hzCoreLaunchCtl h i, 8, 1⟩
def F.hzCoreLaunchCtlCancel (h i : Nat) : Fld := ⟨R.hzCoreLaunchCtl h i, 9, 1⟩
def F.hzCoreLaunchCtlLatePolicy (h i : Nat) : Fld := ⟨R.hzCoreLaunchCtl h i, 10, 1⟩
def F.hzCoreLaunchCtlOwner (h i : Nat) : Fld := ⟨R.hzCoreLaunchCtl h i, 11, 1⟩
def F.hzCoreLaunchCtlOwnerDomain (h i : Nat) : Fld := ⟨R.hzCoreLaunchCtl h i, 12, 10⟩
/-- HZ_CORE_LAUNCH_STAT[0..3]: State of slot s (offset 0x54 + 32s of its block, chapter 12). -/
def R.hzCoreLaunchStat (h i : Nat) : Nat := 0xF00040310054 + 0x4000000 * (h / 32) + 0x100 * (h % 32) + 32 * i
def F.hzCoreLaunchStatState (h i : Nat) : Fld := ⟨R.hzCoreLaunchStat h i, 0, 2⟩
def F.hzCoreLaunchStatLate (h i : Nat) : Fld := ⟨R.hzCoreLaunchStat h i, 2, 1⟩
def F.hzCoreLaunchStatLateness (h i : Nat) : Fld := ⟨R.hzCoreLaunchStat h i, 16, 16⟩
/-- PV_STATUS: Boot and identity state (offset 0x000 of its block, chapter 17). -/
def R.pvStatus : Nat := 0xF00080000000
def F.pvStatusBootBank : Fld := ⟨R.pvStatus, 0, 1⟩
def F.pvStatusTrial : Fld := ⟨R.pvStatus, 1, 1⟩
def F.pvStatusFellBack : Fld := ⟨R.pvStatus, 2, 1⟩
def F.pvStatusPending : Fld := ⟨R.pvStatus, 3, 2⟩
def F.pvStatusTrialCount : Fld := ⟨R.pvStatus, 5, 2⟩
def F.pvStatusKeyStoreOk : Fld := ⟨R.pvStatus, 7, 1⟩
def F.pvStatusEndorsed : Fld := ⟨R.pvStatus, 8, 1⟩
def F.pvStatusSafeMode : Fld := ⟨R.pvStatus, 9, 1⟩
/-- PV_BOOT_CTL: Commit and revert (offset 0x004 of its block, chapter 17). -/
def R.pvBootCtl : Nat := 0xF00080000004
def F.pvBootCtlCommit : Fld := ⟨R.pvBootCtl, 0, 1⟩
def F.pvBootCtlRevert : Fld := ⟨R.pvBootCtl, 1, 1⟩
/-- PV_SERIAL: Serial number (offset 0x008 of its block, chapter 17). -/
def R.pvSerial : Nat := 0xF00080000008
def F.pvSerialSerial : Fld := ⟨R.pvSerial, 0, 64⟩
/-- PV_FW_VERSION: Running Version (offset 0x010 of its block, chapter 17). -/
def R.pvFwVersion : Nat := 0xF00080000010
def F.pvFwVersionVersion : Fld := ⟨R.pvFwVersion, 0, 64⟩
/-- PV_SVN: Security version and keys (offset 0x018 of its block, chapter 17). -/
def R.pvSvn : Nat := 0xF00080000018
def F.pvSvnFused : Fld := ⟨R.pvSvn, 0, 7⟩
def F.pvSvnRevoked : Fld := ⟨R.pvSvn, 8, 4⟩
def F.pvSvnKeyIndex : Fld := ⟨R.pvSvn, 12, 2⟩
def F.pvSvnImageSvn : Fld := ⟨R.pvSvn, 14, 7⟩
/-- PV_DEBUG_STATUS: Debug state (offset 0x01C of its block, chapter 17). -/
def R.pvDebugStatus : Nat := 0xF0008000001C
def F.pvDebugStatusState : Fld := ⟨R.pvDebugStatus, 0, 2⟩
def F.pvDebugStatusLockedOut : Fld := ⟨R.pvDebugStatus, 2, 1⟩
def F.pvDebugStatusRefusals : Fld := ⟨R.pvDebugStatus, 3, 4⟩
def F.pvDebugStatusLastStatus : Fld := ⟨R.pvDebugStatus, 16, 16⟩
/-- PV_DEBUG_NONCE[0..3]: Current nonce (offset 0x020 + 8i of its block, chapter 17). -/
def R.pvDebugNonce (i : Nat) : Nat := 0xF00080000020 + 8 * i
def F.pvDebugNonceNonce (i : Nat) : Fld := ⟨R.pvDebugNonce i, 0, 64⟩
/-- PV_DEBUG_UNLOCK: Token address and start (offset 0x040 of its block, chapter 17). -/
def R.pvDebugUnlock : Nat := 0xF00080000040
def F.pvDebugUnlockTokenAddr : Fld := ⟨R.pvDebugUnlock, 6, 42⟩
def F.pvDebugUnlockStart : Fld := ⟨R.pvDebugUnlock, 63, 1⟩
/-- PV_KEY_CTL: KEK command (offset 0x048 of its block, chapter 17). -/
def R.pvKeyCtl : Nat := 0xF00080000048
def F.pvKeyCtlOp : Fld := ⟨R.pvKeyCtl, 0, 2⟩
def F.pvKeyCtlDomain : Fld := ⟨R.pvKeyCtl, 2, 10⟩
def F.pvKeyCtlStart : Fld := ⟨R.pvKeyCtl, 12, 1⟩
/-- PV_KEY_STATUS: KEK command state (offset 0x04C of its block, chapter 17). -/
def R.pvKeyStatus : Nat := 0xF0008000004C
def F.pvKeyStatusLastStatus : Fld := ⟨R.pvKeyStatus, 0, 16⟩
def F.pvKeyStatusBusy : Fld := ⟨R.pvKeyStatus, 16, 1⟩
def F.pvKeyStatusKeks : Fld := ⟨R.pvKeyStatus, 17, 11⟩
/-- PV_KEY_ADDR: Import block address (offset 0x050 of its block, chapter 17). -/
def R.pvKeyAddr : Nat := 0xF00080000050
def F.pvKeyAddrAddr : Fld := ⟨R.pvKeyAddr, 6, 42⟩
/-- PV_KEY_PUB[0..11]: Import public key (offset 0x060 + 8i of its block, chapter 17). -/
def R.pvKeyPub (i : Nat) : Nat := 0xF00080000060 + 8 * i
def F.pvKeyPubKey (i : Nat) : Fld := ⟨R.pvKeyPub i, 0, 64⟩
/-- PS_STATUS: Engine state (offset 0x000 of its block, chapter 17). -/
def R.psStatus : Nat := 0xF00080010000
def F.psStatusBusy : Fld := ⟨R.psStatus, 0, 1⟩
def F.psStatusRdBusy : Fld := ⟨R.psStatus, 1, 1⟩
def F.psStatusRdStalled : Fld := ⟨R.psStatus, 2, 1⟩
def F.psStatusWrQueued : Fld := ⟨R.psStatus, 3, 1⟩
def F.psStatusWritePage : Fld := ⟨R.psStatus, 4, 11⟩
/-- PS_PROTECT: Block protection (offset 0x004 of its block, chapter 17). -/
def R.psProtect : Nat := 0xF00080010004
def F.psProtectProtect : Fld := ⟨R.psProtect, 0, 2⟩
def F.psProtectLock : Fld := ⟨R.psProtect, 31, 1⟩
/-- PS_RD_CTL: Read command (offset 0x008 of its block, chapter 17). -/
def R.psRdCtl : Nat := 0xF00080010008
def F.psRdCtlLength : Fld := ⟨R.psRdCtl, 0, 11⟩
def F.psRdCtlStart : Fld := ⟨R.psRdCtl, 16, 1⟩
def F.psRdCtlStatus : Fld := ⟨R.psRdCtl, 32, 16⟩
/-- PS_WR_CTL: Write command (offset 0x010 of its block, chapter 17). -/
def R.psWrCtl : Nat := 0xF00080010010
def F.psWrCtlLength : Fld := ⟨R.psWrCtl, 0, 11⟩
def F.psWrCtlStart : Fld := ⟨R.psWrCtl, 16, 1⟩
def F.psWrCtlStatus : Fld := ⟨R.psWrCtl, 32, 16⟩
/-- PS_RD_ADDR: Read address (offset 0x018 of its block, chapter 17). -/
def R.psRdAddr : Nat := 0xF00080010018
def F.psRdAddrAddress : Fld := ⟨R.psRdAddr, 0, 18⟩
/-- PS_WR_ADDR: Write address (offset 0x01C of its block, chapter 17). -/
def R.psWrAddr : Nat := 0xF0008001001C
def F.psWrAddrAddress : Fld := ⟨R.psWrAddr, 0, 18⟩
/-- PS_REFRESH_COUNT: Pages refreshed (offset 0x020 of its block, chapter 17). -/
def R.psRefreshCount : Nat := 0xF00080010020
def F.psRefreshCountCount : Fld := ⟨R.psRefreshCount, 0, 32⟩
/-- PS_ECC_COUNT: Uncorrectable words (offset 0x024 of its block, chapter 17). -/
def R.psEccCount : Nat := 0xF00080010024
def F.psEccCountCount : Fld := ⟨R.psEccCount, 0, 32⟩
/-- PS_RD_BUF[0..127]: Read data (offset 0x400 + 8i of its block, chapter 17). -/
def R.psRdBuf (i : Nat) : Nat := 0xF00080010400 + 8 * i
def F.psRdBufData (i : Nat) : Fld := ⟨R.psRdBuf i, 0, 64⟩
/-- PS_WR_BUF[0..127]: Write data (offset 0x800 + 8i of its block, chapter 17). -/
def R.psWrBuf (i : Nat) : Nat := 0xF00080010800 + 8 * i
def F.psWrBufData (i : Nat) : Fld := ⟨R.psWrBuf i, 0, 64⟩
/-- PWR_CTL: Test and lock (offset 0x000 of its block, chapter 18). -/
def R.pwrCtl : Nat := 0xF00080020000
def F.pwrCtlHoldupTest : Fld := ⟨R.pwrCtl, 0, 1⟩
def F.pwrCtlSeqLock : Fld := ⟨R.pwrCtl, 31, 1⟩
/-- PWR_STATUS: Supervisor state (offset 0x004 of its block, chapter 18). -/
def R.pwrStatus : Nat := 0xF00080020004
def F.pwrStatusState : Fld := ⟨R.pwrStatus, 0, 4⟩
def F.pwrStatusStep : Fld := ⟨R.pwrStatus, 4, 4⟩
def F.pwrStatusAttempt : Fld := ⟨R.pwrStatus, 8, 2⟩
def F.pwrStatusPfWarn : Fld := ⟨R.pwrStatus, 10, 1⟩
def F.pwrStatusTripSeen : Fld := ⟨R.pwrStatus, 11, 1⟩
def F.pwrStatusLastTrigger : Fld := ⟨R.pwrStatus, 12, 4⟩
/-- PWR_RAIL_EN: SEQ_EN levels (offset 0x008 of its block, chapter 18). -/
def R.pwrRailEn : Nat := 0xF00080020008
def F.pwrRailEnRails : Fld := ⟨R.pwrRailEn, 0, 24⟩
/-- PWR_RAIL_PG: SEQ_PG levels (offset 0x00C of its block, chapter 18). -/
def R.pwrRailPg : Nat := 0xF0008002000C
def F.pwrRailPgRails : Fld := ⟨R.pwrRailPg, 0, 24⟩
/-- PWR_PF_CFG: PF_WARN_N handling (offset 0x010 of its block, chapter 18). -/
def R.pwrPfCfg : Nat := 0xF00080020010
def F.pwrPfCfgFilterUs : Fld := ⟨R.pwrPfCfg, 0, 8⟩
def F.pwrPfCfgLimitMs : Fld := ⟨R.pwrPfCfg, 8, 8⟩
def F.pwrPfCfgVector : Fld := ⟨R.pwrPfCfg, 16, 11⟩
def F.pwrPfCfgVectorEnable : Fld := ⟨R.pwrPfCfg, 27, 1⟩
/-- PWR_PF_GLITCH_COUNT: Filtered lows (offset 0x014 of its block, chapter 18). -/
def R.pwrPfGlitchCount : Nat := 0xF00080020014
def F.pwrPfGlitchCountCount : Fld := ⟨R.pwrPfGlitchCount, 0, 32⟩
/-- PWR_FAULT: Last rail fault (offset 0x018 of its block, chapter 18). -/
def R.pwrFault : Nat := 0xF00080020018
def F.pwrFaultRail : Fld := ⟨R.pwrFault, 0, 5⟩
def F.pwrFaultKind : Fld := ⟨R.pwrFault, 5, 3⟩
def F.pwrFaultAttempt : Fld := ⟨R.pwrFault, 8, 2⟩
def F.pwrFaultTime : Fld := ⟨R.pwrFault, 16, 32⟩
def F.pwrFaultValid : Fld := ⟨R.pwrFault, 63, 1⟩
/-- PWR_HOLDUP_CFG: Hold-up test parameters (offset 0x020 of its block, chapter 18). -/
def R.pwrHoldupCfg : Nat := 0xF00080020020
def F.pwrHoldupCfgTestMa : Fld := ⟨R.pwrHoldupCfg, 0, 16⟩
def F.pwrHoldupCfgVminMv : Fld := ⟨R.pwrHoldupCfg, 16, 16⟩
def F.pwrHoldupCfgDividerX100 : Fld := ⟨R.pwrHoldupCfg, 32, 12⟩
def F.pwrHoldupCfgEffPct : Fld := ⟨R.pwrHoldupCfg, 44, 7⟩
def F.pwrHoldupCfgIntervalHours : Fld := ⟨R.pwrHoldupCfg, 56, 8⟩
/-- PWR_HOLDUP_STATUS: Last test (offset 0x028 of its block, chapter 18). -/
def R.pwrHoldupStatus : Nat := 0xF00080020028
def F.pwrHoldupStatusCapMf : Fld := ⟨R.pwrHoldupStatus, 0, 16⟩
def F.pwrHoldupStatusV0Mv : Fld := ⟨R.pwrHoldupStatus, 16, 16⟩
def F.pwrHoldupStatusResultMj : Fld := ⟨R.pwrHoldupStatus, 32, 24⟩
def F.pwrHoldupStatusFailed : Fld := ⟨R.pwrHoldupStatus, 56, 1⟩
def F.pwrHoldupStatusAborted : Fld := ⟨R.pwrHoldupStatus, 57, 1⟩
/-- PWR_POWER: Power limit and estimate (offset 0x030 of its block, chapter 18). -/
def R.pwrPower : Nat := 0xF00080020030
def F.pwrPowerLimitW : Fld := ⟨R.pwrPower, 0, 10⟩
def F.pwrPowerEstimateW : Fld := ⟨R.pwrPower, 16, 10⟩
/-- PWR_SEQ_TABLE[0..23]: Rail n (offset 0x100 + 4n of its block, chapter 18). -/
def R.pwrSeqTable (i : Nat) : Nat := 0xF00080020100 + 4 * i
def F.pwrSeqTableStep (i : Nat) : Fld := ⟨R.pwrSeqTable i, 0, 4⟩
def F.pwrSeqTableOnFault (i : Nat) : Fld := ⟨R.pwrSeqTable i, 4, 2⟩
def F.pwrSeqTableUsed (i : Nat) : Fld := ⟨R.pwrSeqTable i, 6, 1⟩
def F.pwrSeqTableStableMs (i : Nat) : Fld := ⟨R.pwrSeqTable i, 8, 5⟩
def F.pwrSeqTableWindowMs (i : Nat) : Fld := ⟨R.pwrSeqTable i, 16, 8⟩
/-- THM_CTL: Hysteresis, board sensors, lock (offset 0x000 of its block, chapter 18). -/
def R.thmCtl : Nat := 0xF00080030000
def F.thmCtlHysteresis : Fld := ⟨R.thmCtl, 0, 4⟩
def F.thmCtlBoardUsed : Fld := ⟨R.thmCtl, 8, 8⟩
def F.thmCtlLock : Fld := ⟨R.thmCtl, 31, 1⟩
/-- THM_STATUS: Hottest sensor and loop levels (offset 0x004 of its block, chapter 18). -/
def R.thmStatus : Nat := 0xF00080030004
def F.thmStatusMaxTemp : Fld := ⟨R.thmStatus, 0, 8⟩
def F.thmStatusMaxSensor : Fld := ⟨R.thmStatus, 8, 7⟩
def F.thmStatusAnyFailed : Fld := ⟨R.thmStatus, 15, 1⟩
def F.thmStatusPackageLevel : Fld := ⟨R.thmStatus, 16, 3⟩
def F.thmStatusMtierMax : Fld := ⟨R.thmStatus, 19, 3⟩
def F.thmStatusNandMax : Fld := ⟨R.thmStatus, 22, 3⟩
def F.thmStatusNoNeighbour : Fld := ⟨R.thmStatus, 25, 1⟩
/-- THM_MTIER_LEVEL: M-tier loop levels (offset 0x008 of its block, chapter 18). -/
def R.thmMtierLevel : Nat := 0xF00080030008
def F.thmMtierLevelLevels : Fld := ⟨R.thmMtierLevel, 0, 24⟩
/-- THM_NAND_LEVEL: NAND loop levels (offset 0x010 of its block, chapter 18). -/
def R.thmNandLevel : Nat := 0xF00080030010
def F.thmNandLevelLevels : Fld := ⟨R.thmNandLevel, 0, 48⟩
/-- THM_FAILED_LO: Failed sensors 0–63 (offset 0x018 of its block, chapter 18). -/
def R.thmFailedLo : Nat := 0xF00080030018
def F.thmFailedLoFailed : Fld := ⟨R.thmFailedLo, 0, 64⟩
/-- THM_FAILED_HI: Failed sensors 64–95 (offset 0x020 of its block, chapter 18). -/
def R.thmFailedHi : Nat := 0xF00080030020
def F.thmFailedHiFailed : Fld := ⟨R.thmFailedHi, 0, 32⟩
/-- THM_SENSOR[0..95]: Reading of sensor n (offset 0x400 + 4n of its block, chapter 18). -/
def R.thmSensor (i : Nat) : Nat := 0xF00080030400 + 4 * i
def F.thmSensorTemp (i : Nat) : Fld := ⟨R.thmSensor i, 0, 12⟩
def F.thmSensorRaw (i : Nat) : Fld := ⟨R.thmSensor i, 12, 12⟩
def F.thmSensorFailed (i : Nat) : Fld := ⟨R.thmSensor i, 24, 1⟩
def F.thmSensorSubstituted (i : Nat) : Fld := ⟨R.thmSensor i, 25, 1⟩
def F.thmSensorCause (i : Nat) : Fld := ⟨R.thmSensor i, 26, 2⟩
def F.thmSensorPeriod (i : Nat) : Fld := ⟨R.thmSensor i, 28, 2⟩
def F.thmSensorPresent (i : Nat) : Fld := ⟨R.thmSensor i, 30, 1⟩
/-- THM_LIMIT[0..95]: Thresholds of sensor n (offset 0x600 + 4n of its block, chapter 18). -/
def R.thmLimit (i : Nat) : Nat := 0xF00080030600 + 4 * i
def F.thmLimitThrottleAt (i : Nat) : Fld := ⟨R.thmLimit i, 0, 8⟩
def F.thmLimitStopAt (i : Nat) : Fld := ⟨R.thmLimit i, 8, 8⟩
def F.thmLimitTripAt (i : Nat) : Fld := ⟨R.thmLimit i, 16, 8⟩
def F.thmLimitNbMask (i : Nat) : Fld := ⟨R.thmLimit i, 24, 8⟩
/-- EVR_CTL: Filters and clears (offset 0x000 of its block, chapter 19). -/
def R.evrCtl : Nat := 0xF00080040000
def F.evrCtlRecordMin : Fld := ⟨R.evrCtl, 0, 3⟩
def F.evrCtlPersistMin : Fld := ⟨R.evrCtl, 4, 3⟩
def F.evrCtlClearRam : Fld := ⟨R.evrCtl, 8, 1⟩
def F.evrCtlClearPersist : Fld := ⟨R.evrCtl, 9, 1⟩
/-- EVR_STATUS: Log levels (offset 0x004 of its block, chapter 19). -/
def R.evrStatus : Nat := 0xF00080040004
def F.evrStatusRamCount : Fld := ⟨R.evrStatus, 0, 15⟩
def F.evrStatusPersistCount : Fld := ⟨R.evrStatus, 15, 11⟩
def F.evrStatusClearBusy : Fld := ⟨R.evrStatus, 26, 1⟩
def F.evrStatusLost : Fld := ⟨R.evrStatus, 27, 1⟩
/-- EVR_CURSOR: Log and record selector (offset 0x008 of its block, chapter 19). -/
def R.evrCursor : Nat := 0xF00080040008
def F.evrCursorSeq : Fld := ⟨R.evrCursor, 0, 48⟩
def F.evrCursorLog : Fld := ⟨R.evrCursor, 48, 1⟩
def F.evrCursorFound : Fld := ⟨R.evrCursor, 49, 1⟩
def F.evrCursorNext : Fld := ⟨R.evrCursor, 50, 1⟩
/-- EVR_NEXT_SEQ: Next sequence (offset 0x010 of its block, chapter 19). -/
def R.evrNextSeq : Nat := 0xF00080040010
def F.evrNextSeqSeq : Fld := ⟨R.evrNextSeq, 0, 48⟩
/-- EVR_DROP: Intake drops (offset 0x018 of its block, chapter 19). -/
def R.evrDrop : Nat := 0xF00080040018
def F.evrDropCount : Fld := ⟨R.evrDrop, 0, 32⟩
/-- EVR_FULL_DROP: Records dropped by a full log (offset 0x01C of its block, chapter 19). -/
def R.evrFullDrop : Nat := 0xF0008004001C
def F.evrFullDropCount : Fld := ⟨R.evrFullDrop, 0, 32⟩
/-- EVR_PDROP: Persistent copies dropped (offset 0x020 of its block, chapter 19). -/
def R.evrPdrop : Nat := 0xF00080040020
def F.evrPdropCount : Fld := ⟨R.evrPdrop, 0, 32⟩
/-- EVR_WINDOW[0..7]: Selected record (offset 0x040 + 8i of its block, chapter 19). -/
def R.evrWindow (i : Nat) : Nat := 0xF00080040040 + 8 * i
def F.evrWindowBytes (i : Nat) : Fld := ⟨R.evrWindow i, 0, 64⟩
/-- EVR_MASK[0..7]: Routing mask (offset 0x080 + 8i of its block, chapter 19). -/
def R.evrMask (i : Nat) : Nat := 0xF00080040080 + 8 * i
def F.evrMaskMask (i : Nat) : Fld := ⟨R.evrMask i, 0, 64⟩
/-- EVR_ROUTE[0..7]: Route r (offset 0x100 + 8r of its block, chapter 19). -/
def R.evrRoute (i : Nat) : Nat := 0xF00080040100 + 8 * i
def F.evrRouteMinSeverity (i : Nat) : Fld := ⟨R.evrRoute i, 0, 3⟩
def F.evrRouteEnable (i : Nat) : Fld := ⟨R.evrRoute i, 3, 1⟩
def F.evrRouteKind (i : Nat) : Fld := ⟨R.evrRoute i, 4, 2⟩
def F.evrRouteLd (i : Nat) : Fld := ⟨R.evrRoute i, 6, 6⟩
def F.evrRouteVector (i : Nat) : Fld := ⟨R.evrRoute i, 12, 11⟩
def F.evrRouteHoldUs (i : Nat) : Fld := ⟨R.evrRoute i, 23, 8⟩
def F.evrRouteGroupMask (i : Nat) : Fld := ⟨R.evrRoute i, 32, 32⟩
/-- PV_RESET_CTL: Reset request (offset 0x000 of its block, chapter 20). -/
def R.pvResetCtl : Nat := 0xF00080050000
def F.pvResetCtlColdReset : Fld := ⟨R.pvResetCtl, 0, 1⟩
/-- PV_MODE: Service mode (offset 0x004 of its block, chapter 20). -/
def R.pvMode : Nat := 0xF00080050004
def F.pvModeMode : Fld := ⟨R.pvMode, 0, 3⟩
def F.pvModeMaintenance : Fld := ⟨R.pvMode, 3, 1⟩
def F.pvModeCause : Fld := ⟨R.pvMode, 4, 4⟩
def F.pvModeStartPhase : Fld := ⟨R.pvMode, 8, 4⟩
/-- PV_RESET_STATUS: Last reset (offset 0x008 of its block, chapter 20). -/
def R.pvResetStatus : Nat := 0xF00080050008
def F.pvResetStatusKind : Fld := ⟨R.pvResetStatus, 0, 4⟩
def F.pvResetStatusRefused : Fld := ⟨R.pvResetStatus, 4, 1⟩
def F.pvResetStatusFlushComplete : Fld := ⟨R.pvResetStatus, 5, 1⟩
def F.pvResetStatusTime : Fld := ⟨R.pvResetStatus, 32, 32⟩
/-- PV_UNITS_LOST: Units offline (offset 0x010 of its block, chapter 20). -/
def R.pvUnitsLost : Nat := 0xF00080050010
def F.pvUnitsLostMediaDie : Fld := ⟨R.pvUnitsLost, 0, 8⟩
def F.pvUnitsLostCxlLink : Fld := ⟨R.pvUnitsLost, 8, 4⟩
def F.pvUnitsLostHbmStack : Fld := ⟨R.pvUnitsLost, 12, 4⟩
def F.pvUnitsLostKiliusPort : Fld := ⟨R.pvUnitsLost, 16, 11⟩
def F.pvUnitsLostEthPort : Fld := ⟨R.pvUnitsLost, 28, 16⟩
def F.pvUnitsLostHazelCluster : Fld := ⟨R.pvUnitsLost, 44, 8⟩
def F.pvUnitsLostCipherCore : Fld := ⟨R.pvUnitsLost, 52, 1⟩
/-- PV_SANITIZE: Sanitize state (offset 0x018 of its block, chapter 20). -/
def R.pvSanitize : Nat := 0xF00080050018
def F.pvSanitizeState : Fld := ⟨R.pvSanitize, 0, 3⟩
def F.pvSanitizeScope : Fld := ⟨R.pvSanitize, 3, 2⟩
def F.pvSanitizePercent : Fld := ⟨R.pvSanitize, 5, 7⟩
def F.pvSanitizePosition : Fld := ⟨R.pvSanitize, 16, 32⟩
def F.pvSanitizeLastStatus : Fld := ⟨R.pvSanitize, 48, 16⟩
/-- PV_SELFTEST: Last self-test (offset 0x020 of its block, chapter 20). -/
def R.pvSelftest : Nat := 0xF00080050020
def F.pvSelftestRun : Fld := ⟨R.pvSelftest, 0, 16⟩
def F.pvSelftestFailed : Fld := ⟨R.pvSelftest, 16, 16⟩
def F.pvSelftestBusy : Fld := ⟨R.pvSelftest, 32, 1⟩
/-- PV_MILESTONE[0..7]: DTB at milestone i (offset 0x040 + 8i of its block, chapter 20). -/
def R.pvMilestone (i : Nat) : Nat := 0xF00080050040 + 8 * i
def F.pvMilestoneTime (i : Nat) : Fld := ⟨R.pvMilestone i, 0, 64⟩

def blockTb : RegBlock :=
  { base := 0xF00000020000, size := 0x2000, rows := [
    { off := 0x0, width := 64 },
    { off := 0x8, width := 32, rst := .const 0x2821405, rw := 0x7FFFFFFF },
    { off := 0xC, width := 32, w1c := 0x80 },
    { off := 0x10, width := 64 },
    { off := 0x18, width := 32 },
    { off := 0x1C, width := 32, rst := .const 0x15180, rw := 0xFFFFFFFF },
    { off := 0x20, width := 64, wo := 0xFFFFFFFFFFFFFFFF },
    { off := 0x28, width := 64, rw := 0xFFFFFFFFFFFFFFFF },
    { off := 0x30, width := 64 },
    { off := 0x38, width := 64 },
    { off := 0x40, width := 64 },
    { off := 0x48, width := 32 },
    { off := 0x100, width := 64, stride := 16, count := 16 },
    { off := 0x108, width := 64, stride := 16, count := 16 },
    { off := 0x1000, width := 64, stride := 32, count := 128, rw := 0xFFFFFFFFFFFFFFFF },
    { off := 0x1008, width := 64, stride := 32, count := 128, rw := 0xFFFFFFFFFFFFFFFF },
    { off := 0x1010, width := 32, stride := 32, count := 128, rw := 0x4FF, w1s := 0x100, wo := 0x200 },
    { off := 0x1014, width := 32, stride := 32, count := 128 }] }

def blockWin : RegBlock :=
  { base := 0xF00000030000, size := 0x4000, rows := [
    { off := 0x0, width := 32, rst := .const 0x83A, rw := 0xF3F },
    { off := 0x4, width := 32 },
    { off := 0x8, width := 32, rwl := 0xFFFF, w1s := 0x80000000, lock := 32 },
    { off := 0xC, width := 32, rwl := 0x3FFFF3, w1s := 0x80000000, lock := 32 },
    { off := 0x10, width := 32, rst := .const 0xFA0 },
    { off := 0x14, width := 32, rst := .const 0x14, rw := 0xFFFF },
    { off := 0x18, width := 32 },
    { off := 0x20, width := 32 },
    { off := 0x24, width := 32 },
    { off := 0x28, width := 32 },
    { off := 0x2C, width := 32 },
    { off := 0x30, width := 32 },
    { off := 0x34, width := 32, wo := 0x7 },
    { off := 0x38, width := 32, rw := 0xFFF },
    { off := 0x40, width := 64 },
    { off := 0x48, width := 64 },
    { off := 0x50, width := 32, rw := 0xFFFF },
    { off := 0x54, width := 32 },
    { off := 0x1000, width := 32, stride := 4, count := 64, rst := .ldBind, rw := 0xFFF },
    { off := 0x2000, width := 64, stride := 64, count := 64, stride2 := 8, count2 := 8, rw := 0x80000000FFFFFFFF }] }

def blockLc : RegBlock :=
  { base := 0xF00000040000, size := 0x1000, rows := [
    { off := 0x0, width := 32, rst := .const 0x324B00, rw := 0x7F7F03 },
    { off := 0x8, width := 64, w1c := 0x20000000 },
    { off := 0x10, width := 32 },
    { off := 0x14, width := 32 },
    { off := 0x18, width := 32 },
    { off := 0x1C, width := 32 },
    { off := 0x20, width := 32 },
    { off := 0x24, width := 32 },
    { off := 0x100, width := 64, stride := 32, count := 8, rw := 0xFFFFFFFF000 },
    { off := 0x108, width := 32, stride := 32, count := 8, rw := 0xFFFFFFFF },
    { off := 0x10C, width := 32, stride := 32, count := 8, rw := 0xF, w1s := 0x10 },
    { off := 0x110, width := 64, stride := 32, count := 8 },
    { off := 0x118, width := 64, stride := 32, count := 8 }] }

def blockMtMeter : RegBlock :=
  { base := 0xF00000050000, size := 0x1000, rows := [
    { off := 0x0, width := 32, rst := .byPart 0x3C 0x1E, rwl := 0xFF, w1s := 0x80000000, lock := 32 },
    { off := 0x4, width := 32, rst := .byPart 0x5DC 0x2EE },
    { off := 0x8, width := 32 }] }

def blockMtInt : RegBlock :=
  { base := 0xF00000051000, size := 0x1000, rows := [
    { off := 0x0, width := 32, rst := .const 0x1000040, rw := 0xFFFFFFFF },
    { off := 0x4, width := 32 },
    { off := 0x8, width := 32 },
    { off := 0xC, width := 32, rw := 0xFFFFF },
    { off := 0x10, width := 64 },
    { off := 0x18, width := 64 },
    { off := 0x20, width := 32, rst := .const 0x2770F05A, rw := 0xFFFFFFFF },
    { off := 0x24, width := 32 },
    { off := 0x28, width := 32 },
    { off := 0x30, width := 64, stride := 8, count := 8 },
    { off := 0x70, width := 32, w1c := 0x200000 },
    { off := 0x78, width := 64, rw := 0xFFFFFFFFFFF },
    { off := 0x80, width := 32, rw := 0x3, w1s := 0x10 },
    { off := 0x88, width := 64 },
    { off := 0x90, width := 32, rst := .const 0x1C32, rw := 0x3FFFF },
    { off := 0x94, width := 32, rst := .const 0x10, rw := 0xFF }] }

def blockFt : RegBlock :=
  { base := 0xF00000060000, size := 0x1000, rows := [
    { off := 0x0, width := 32, rst := .const 0x150511, rw := 0x1FFF1F },
    { off := 0x4, width := 32 },
    { off := 0x8, width := 64, rwl := 0x3FFFFFFFF, w1s := 0x8000000000000000, lock := 64 },
    { off := 0x10, width := 32, rwl := 0x3FFFFFFF, w1s := 0x80000000, lock := 32 },
    { off := 0x18, width := 64 },
    { off := 0x20, width := 32, rst := .const 0x50F1E, rw := 0xFFFFFF },
    { off := 0x24, width := 32 },
    { off := 0x28, width := 64 },
    { off := 0x30, width := 64 },
    { off := 0x38, width := 64 },
    { off := 0x40, width := 32 },
    { off := 0x44, width := 32, rst := .const 0x32, rw := 0xFFFF },
    { off := 0x48, width := 32, rst := .const 0xF18, rw := 0xFFFF },
    { off := 0x4C, width := 32, rw := 0xFFF },
    { off := 0x50, width := 64, rw := 0x80003FFFFFFFFFFF },
    { off := 0x60, width := 32, stride := 4, count := 8, rst := .ftStream, rw := 0x3F },
    { off := 0x80, width := 32, stride := 4, count := 8, rwl := 0xFFFFF, w1s := 0x80000000, lock := 32 }] }

def blockTop : RegBlock :=
  { base := 0xF00000070000, size := 0x1000, rows := [
    { off := 0x0, width := 32, rst := .const 0x20403, rw := 0x1F0F03 },
    { off := 0x4, width := 32 },
    { off := 0x8, width := 32, rst := .const 0xA191E, rw := 0xFFFFFF },
    { off := 0xC, width := 32, rst := .const 0x14000080, rw := 0xFF01FFFF },
    { off := 0x10, width := 32, rst := .const 0x465A0000, rw := 0x7F7F0000, rwl := 0x3FFF, w1s := 0x80000000, lock := 32 },
    { off := 0x14, width := 32, rst := .const 0x3C, rw := 0xFFFF },
    { off := 0x18, width := 64 },
    { off := 0x20, width := 32, rwl := 0x3FFF, w1s := 0x80000000, lock := 32 },
    { off := 0x28, width := 64 },
    { off := 0x30, width := 32, rw := 0x3FFF },
    { off := 0x38, width := 64 },
    { off := 0x40, width := 32, rw := 0xFF },
    { off := 0x48, width := 64, rw := 0xFFF },
    { off := 0x50, width := 64 },
    { off := 0x58, width := 32 },
    { off := 0x5C, width := 32 }] }

def blockPer : RegBlock :=
  { base := 0xF00000080000, size := 0x1000, rows := [
    { off := 0x0, width := 32, wo := 0x3 },
    { off := 0x4, width := 32 },
    { off := 0x8, width := 64 },
    { off := 0x10, width := 32, rst := .byPart 0x10 0x8, rwl := 0x7F, w1s := 0x80000000, lock := 32 },
    { off := 0x18, width := 64 },
    { off := 0x20, width := 64 },
    { off := 0x28, width := 32 },
    { off := 0x2C, width := 32, rst := .const 0x400A, rw := 0xFFFF },
    { off := 0x30, width := 64 },
    { off := 0x38, width := 64 },
    { off := 0x40, width := 64 },
    { off := 0x48, width := 64 },
    { off := 0x50, width := 32 },
    { off := 0x58, width := 64 },
    { off := 0x60, width := 64 },
    { off := 0x68, width := 32, rw := 0xF },
    { off := 0x70, width := 64 },
    { off := 0x78, width := 64, rw := 0xFFFF0000FF07 },
    { off := 0x80, width := 64 },
    { off := 0x100, width := 64, stride := 8, count := 16, rw := 0x80000000FFFFFFFF }] }

def blockRing : RegBlock :=
  { base := 0xF00000090000, size := 0x5000, rows := [
    { off := 0x0, width := 32 },
    { off := 0x4, width := 32 },
    { off := 0x1000, width := 32, stride := 4, count := 4096, rw := 0xFFFFFF }] }

def blockEspEarly : RegBlock :=
  { base := 0xF000000A0000, size := 0x100, rows := [
    { off := 0x0, width := 64, stride := 8, count := 4, rw := 0xFFFFFFFFFFFFFFFF },
    { off := 0x20, width := 32, rw := 0x3 },
    { off := 0x28, width := 32 },
    { off := 0x30, width := 64, w1c := 0x8000000000000000 },
    { off := 0x38, width := 32 }] }

def blockHz : RegBlock :=
  { base := 0xF000000B0000, size := 0x1000, rows := [
    { off := 0x0, width := 32 },
    { off := 0x4, width := 32 },
    { off := 0x8, width := 32 },
    { off := 0x400, width := 32, stride := 4, count := 256, rw := 0x7FF }] }

def blockNet : RegBlock :=
  { base := 0xF000000C0000, size := 0x1000, rows := [
    { off := 0x0, width := 32, rwl := 0xFF, w1s := 0x80000000, lock := 32 },
    { off := 0x4, width := 32 },
    { off := 0x8, width := 64, rst := .const 0x132323781, rw := 0xFFFFFFFFF1 },
    { off := 0x10, width := 32, rw := 0x3FF },
    { off := 0x14, width := 32, rst := .const 0x10200404, rw := 0xFFFFFF1F },
    { off := 0x18, width := 32 },
    { off := 0x1C, width := 32 },
    { off := 0x20, width := 32, rw := 0xFF },
    { off := 0x28, width := 64, rw := 0xFFFFFFFFFFFFFFFF },
    { off := 0x30, width := 64, rw := 0xFFFFFFFFFFFFFFFF },
    { off := 0x38, width := 32, rw := 0x3FFFF },
    { off := 0x40, width := 32, rw := 0xFFFF },
    { off := 0x48, width := 64, rw := 0x7FFFFFFFF },
    { off := 0x50, width := 64, rw := 0xFFFFFFFFFFFF },
    { off := 0x58, width := 64, rw := 0x1FFFFFFFFFFFFFFF },
    { off := 0x60, width := 64, rw := 0x7FFFFFFFFFFFFFF },
    { off := 0x68, width := 64, rw := 0xFFFFFFFFFFFFFFFF },
    { off := 0x70, width := 64, rw := 0xFFFFFFFFFFFFFFFF },
    { off := 0x78, width := 32, rw := 0x1FFFF },
    { off := 0x80, width := 64, rw := 0xFFFFFFFFFFFF },
    { off := 0x88, width := 64, rw := 0xFFFFFFFFFFFF },
    { off := 0x90, width := 32, rw := 0x3FFF00 },
    { off := 0x100, width := 64, stride := 8, count := 16, rw := 0x1F000000000000, rwl := 0xFFFFFFFFFFFF, w1s := 0x8000000000000000, lock := 64 },
    { off := 0x180, width := 32, stride := 4, count := 16 },
    { off := 0x200, width := 64, stride := 16, count := 16 },
    { off := 0x208, width := 64, stride := 16, count := 16 }] }

def blockCip : RegBlock :=
  { base := 0xF000000D0000, size := 0x100, rows := [
    { off := 0x0, width := 32, rst := .const 0x4B1, rw := 0x7F1 },
    { off := 0x4, width := 32 },
    { off := 0x8, width := 32 },
    { off := 0xC, width := 32 },
    { off := 0x10, width := 32 }] }

def blockKlLink : RegBlock :=
  { base := 0xF000000E0000, size := 0x400, s1 := 0x400, c1 := 11, rows := [
    { off := 0x0, width := 32, rw := 0x2, wo := 0x1 },
    { off := 0x4, width := 32 },
    { off := 0x8, width := 32, rst := .klLinkCfg, rw := 0xFF7C, rwl := 0x3, w1s := 0x80000000, lock := 32 },
    { off := 0xC, width := 32, rst := .const 0x1200, rw := 0x1FFF },
    { off := 0x10, width := 32, rst := .const 0xA03E8, rw := 0x7FFFFF },
    { off := 0x18, width := 64 },
    { off := 0x20, width := 64 },
    { off := 0x28, width := 32 },
    { off := 0x30, width := 64 },
    { off := 0x38, width := 32 },
    { off := 0x3C, width := 32 },
    { off := 0x40, width := 32 },
    { off := 0x44, width := 32 },
    { off := 0x48, width := 32 },
    { off := 0x4C, width := 32 }] }

def blockKlAgent : RegBlock :=
  { base := 0xF000000F0000, size := 0x1000, s1 := 0x1000, c1 := 2, rows := [
    { off := 0x0, width := 32, rw := 0x1FFF, wo := 0x30000 },
    { off := 0x4, width := 32 },
    { off := 0x8, width := 32, rst := .const 0x1100014, rw := 0x33FF3FF },
    { off := 0xC, width := 32 },
    { off := 0x10, width := 32 },
    { off := 0x18, width := 64, w1c := 0x8000000000000000 },
    { off := 0x20, width := 32 },
    { off := 0x24, width := 32 },
    { off := 0x28, width := 32 },
    { off := 0x2C, width := 32 },
    { off := 0x30, width := 32 },
    { off := 0x100, width := 64, stride := 16, count := 16, rw := 0xFFFFFFFFF000 },
    { off := 0x108, width := 64, stride := 16, count := 16, rw := 0x80000007FFFFFFFF }] }

def blockEsp : RegBlock :=
  { base := 0xF00000100000, size := 0x100, rows := [
    { off := 0x0, width := 32, rst := .const 0x1330, rw := 0xFF7F },
    { off := 0x4, width := 32 },
    { off := 0x8, width := 32 },
    { off := 0xC, width := 32 }] }

def blockPmc : RegBlock :=
  { base := 0xF00000110000, size := 0x3000, rows := [
    { off := 0x0, width := 64, wo := 0xFFFFFFFFFFFFFFFF },
    { off := 0x8, width := 64, wo := 0xFFFFFFFFFFFFFFFF },
    { off := 0x10, width := 64 },
    { off := 0x18, width := 64 },
    { off := 0x100, width := 64, stride := 8, count := 50, w1c := 0xFFFFFFFFFFFFFFFF },
    { off := 0x400, width := 64, rw := 0xFFFFFFFFFFFF },
    { off := 0x408, width := 32, rst := .const 0x1000, rw := 0x3FF1F07 },
    { off := 0x40C, width := 32 },
    { off := 0x410, width := 64 },
    { off := 0x418, width := 64, rw := 0xFFFFFFFFFFFFFFFF },
    { off := 0x1000, width := 32, stride := 64, count := 64, rw := 0x2, w1c := 0x4, w1s := 0x1 },
    { off := 0x1004, width := 32, stride := 64, count := 64, rw := 0xFFFFFFFF },
    { off := 0x1008, width := 64, stride := 64, count := 64 },
    { off := 0x1010, width := 64, stride := 64, count := 64 },
    { off := 0x1018, width := 32, stride := 64, count := 64 },
    { off := 0x1020, width := 64, stride := 64, count := 64 }] }

def blockQ : RegBlock :=
  { base := 0xF00000600000, size := 0x20, s1 := 0x20, c1 := 640, rows := [
    { off := 0x0, width := 32, wo := 0x1 },
    { off := 0x4, width := 32, rst := .const 0x10000, w1c := 0x40000 },
    { off := 0x8, width := 64 },
    { off := 0x10, width := 32, rst := .qCfg, rw := 0xFFFF00 },
    { off := 0x14, width := 32 },
    { off := 0x18, width := 32 }] }

def blockPmcCnt : RegBlock :=
  { base := 0xF00003000000, size := 0x10, s1 := 0x10, c1 := 3200, rows := [
    { off := 0x0, width := 64, rw := 0xFFFFFFFFFFFF },
    { off := 0x8, width := 32, rw := 0xFFFFF3FF }] }

def blockCipDom : RegBlock :=
  { base := 0xF0000C000000, size := 0x1000, s1 := 0x1000, c1 := 1024, rows := [
    { off := 0x0, width := 32 },
    { off := 0x4, width := 32 },
    { off := 0x10, width := 64, stride := 8, count := 5, wo := 0xFFFFFFFFFFFFFFFF },
    { off := 0x40, width := 32, wo := 0x1F },
    { off := 0x48, width := 64 },
    { off := 0x50, width := 64 },
    { off := 0x58, width := 32 }] }

def blockRingDb : RegBlock :=
  { base := 0xF00010000000, size := 0x1000, s1 := 0x1000, c1 := 4096, rows := [
    { off := 0x0, width := 32, rw := 0xFFFF },
    { off := 0x4, width := 32, rw := 0xFFFF },
    { off := 0x100, width := 64, rw := 0xFFFFFFFFF000 },
    { off := 0x108, width := 64, rw := 0xFFFFFFFFF000 },
    { off := 0x110, width := 32, rst := .const 0x44, rw := 0xFF },
    { off := 0x114, width := 32, rw := 0x7FFFF },
    { off := 0x118, width := 32, rst := .const 0xA0000, rw := 0xFFFFFF },
    { off := 0x11C, width := 32, rw := 0x1FFFF },
    { off := 0x120, width := 32, rw := 0x1, wo := 0x2 },
    { off := 0x124, width := 32, w1c := 0x80 },
    { off := 0x128, width := 64 },
    { off := 0x130, width := 32 }] }

def blockDieTb : RegBlock :=
  { base := 0xF00040020000, size := 0x2000, s1 := 0x4000000, c1 := 8, rows := [
    { off := 0x0, width := 64 },
    { off := 0x1000, width := 64, stride := 32, count := 32, rw := 0xFFFFFFFFFFFFFFFF },
    { off := 0x1008, width := 64, stride := 32, count := 32, rw := 0xFFFFFFFFFFFFFFFF },
    { off := 0x1010, width := 32, stride := 32, count := 32, rw := 0x4FF, w1s := 0x100, wo := 0x200 },
    { off := 0x1014, width := 32, stride := 32, count := 32 }] }

def blockMtCh : RegBlock :=
  { base := 0xF00040100000, size := 0x800, s1 := 0x4000000, c1 := 8, s2 := 0x1000, c2 := 4, rows := [
    { off := 0x0, width := 32, rst := .const 0x50A41, rw := 0xFFFF0, rwl := 0x1, w1s := 0x80000000, wo := 0x100000, lock := 32 },
    { off := 0x4, width := 32 },
    { off := 0x8, width := 64 },
    { off := 0x10, width := 64 },
    { off := 0x18, width := 64 },
    { off := 0x20, width := 32 },
    { off := 0x24, width := 32 },
    { off := 0x28, width := 32 },
    { off := 0x2C, width := 32 },
    { off := 0x30, width := 32 }] }

def blockMtChInt : RegBlock :=
  { base := 0xF00040100800, size := 0x800, s1 := 0x4000000, c1 := 8, s2 := 0x1000, c2 := 4, rows := [
    { off := 0x0, width := 32 },
    { off := 0x8, width := 64 },
    { off := 0x10, width := 64 },
    { off := 0x18, width := 32, stride := 4, count := 2 },
    { off := 0x20, width := 32, stride := 4, count := 2 },
    { off := 0x28, width := 32 },
    { off := 0x2C, width := 32 }] }

def blockFtCh : RegBlock :=
  { base := 0xF00040200000, size := 0x1000, s1 := 0x4000000, c1 := 8, s2 := 0x1000, c2 := 8, rows := [
    { off := 0x0, width := 32, rst := .const 0x1, rwl := 0x7, w1s := 0x80000000, lock := 32 },
    { off := 0x4, width := 32 },
    { off := 0x8, width := 32 },
    { off := 0x10, width := 64 },
    { off := 0x18, width := 32 },
    { off := 0x1C, width := 32 },
    { off := 0x20, width := 32 },
    { off := 0x24, width := 32 }] }

def blockHzCl : RegBlock :=
  { base := 0xF00040300000, size := 0x1000, s1 := 0x4000000, c1 := 8, rows := [
    { off := 0x0, width := 32, rst := .const 0x1, rwl := 0x1, w1s := 0x80000000, wo := 0x2, lock := 32 },
    { off := 0x8, width := 64 },
    { off := 0x10, width := 32 },
    { off := 0x14, width := 32 }] }

def blockHzCore : RegBlock :=
  { base := 0xF00040310000, size := 0x100, s1 := 0x4000000, c1 := 8, s2 := 0x100, c2 := 32, rows := [
    { off := 0x0, width := 32, wo := 0x1 },
    { off := 0x4, width := 32 },
    { off := 0x8, width := 64 },
    { off := 0x10, width := 64 },
    { off := 0x18, width := 64, w1c := 0x8000000000000000 },
    { off := 0x20, width := 32 },
    { off := 0x40, width := 64, stride := 32, count := 4, rw := 0xFFFFFFFFFFFFFFFF },
    { off := 0x48, width := 64, stride := 32, count := 4, rw := 0xFFFFFFFFFFFFFFFF },
    { off := 0x50, width := 32, stride := 32, count := 4, rw := 0x4FF, w1s := 0x100, wo := 0x200 },
    { off := 0x54, width := 32, stride := 32, count := 4 }] }

def blockPv : RegBlock :=
  { base := 0xF00080000000, size := 0x10000, rows := [
    { off := 0x0, width := 32 },
    { off := 0x4, width := 32, wo := 0x3 },
    { off := 0x8, width := 64 },
    { off := 0x10, width := 64 },
    { off := 0x18, width := 32 },
    { off := 0x1C, width := 32 },
    { off := 0x20, width := 64, stride := 8, count := 4 },
    { off := 0x40, width := 64, rw := 0xFFFFFFFFFFC0, w1s := 0x8000000000000000 },
    { off := 0x48, width := 32, rw := 0xFFF, w1s := 0x1000 },
    { off := 0x4C, width := 32 },
    { off := 0x50, width := 64, rw := 0xFFFFFFFFFFC0 },
    { off := 0x60, width := 64, stride := 8, count := 12 }] }

def blockPs : RegBlock :=
  { base := 0xF00080010000, size := 0x10000, rows := [
    { off := 0x0, width := 32 },
    { off := 0x4, width := 32, rst := .const 0x1, rwl := 0x3, w1s := 0x80000000, lock := 32 },
    { off := 0x8, width := 64, rw := 0x7FF, w1s := 0x10000 },
    { off := 0x10, width := 64, rw := 0x7FF, w1s := 0x10000 },
    { off := 0x18, width := 32, rw := 0x3FFFF },
    { off := 0x1C, width := 32, rw := 0x3FFFF },
    { off := 0x20, width := 32 },
    { off := 0x24, width := 32 },
    { off := 0x400, width := 64, stride := 8, count := 128 },
    { off := 0x800, width := 64, stride := 8, count := 128, rw := 0xFFFFFFFFFFFFFFFF }] }

def blockPwr : RegBlock :=
  { base := 0xF00080020000, size := 0x10000, rows := [
    { off := 0x0, width := 32, w1s := 0x80000000, wo := 0x1 },
    { off := 0x4, width := 32 },
    { off := 0x8, width := 32 },
    { off := 0xC, width := 32 },
    { off := 0x10, width := 32, rst := .const 0x1902, rwl := 0xFFFFFFF, lock := 32, lockReg := 0xF00080020000 },
    { off := 0x14, width := 32 },
    { off := 0x18, width := 64, w1c := 0x8000000000000000 },
    { off := 0x20, width := 64, rst := .const 0x1800000000000000, rwl := 0xFF07FFFFFFFFFFFF, lock := 32, lockReg := 0xF00080020000 },
    { off := 0x28, width := 64 },
    { off := 0x30, width := 32, rst := .byPart 0x17C 0xD2 },
    { off := 0x100, width := 32, stride := 4, count := 24, rst := .seqTable, rwl := 0xFF1F7F, lock := 32, lockReg := 0xF00080020000 }] }

def blockThm : RegBlock :=
  { base := 0xF00080030000, size := 0x10000, rows := [
    { off := 0x0, width := 32, rst := .const 0xFF03, rw := 0xF, rwl := 0xFF00, w1s := 0x80000000, lock := 32 },
    { off := 0x4, width := 32 },
    { off := 0x8, width := 32 },
    { off := 0x10, width := 64 },
    { off := 0x18, width := 64 },
    { off := 0x20, width := 32 },
    { off := 0x400, width := 32, stride := 4, count := 96 },
    { off := 0x600, width := 32, stride := 4, count := 96, rst := .thmLimit, rwl := 0xFFFFFFFF, lock := 32, lockReg := 0xF00080030000 }] }

def blockEvr : RegBlock :=
  { base := 0xF00080040000, size := 0x10000, rows := [
    { off := 0x0, width := 32, rst := .const 0x41, rw := 0x77, wo := 0x300 },
    { off := 0x4, width := 32, rc := 0x8000000 },
    { off := 0x8, width := 64, rw := 0x1FFFFFFFFFFFF, wo := 0x4000000000000 },
    { off := 0x10, width := 64 },
    { off := 0x18, width := 32 },
    { off := 0x1C, width := 32 },
    { off := 0x20, width := 32 },
    { off := 0x40, width := 64, stride := 8, count := 8 },
    { off := 0x80, width := 64, stride := 8, count := 8, rw := 0xFFFFFFFFFFFFFFFF },
    { off := 0x100, width := 64, stride := 8, count := 8, rw := 0xFFFFFFFF7FFFFFFF }] }

def blockLife : RegBlock :=
  { base := 0xF00080050000, size := 0x1000, rows := [
    { off := 0x0, width := 32, wo := 0x1 },
    { off := 0x4, width := 32 },
    { off := 0x8, width := 64, w1c := 0x10 },
    { off := 0x10, width := 64 },
    { off := 0x18, width := 64 },
    { off := 0x20, width := 64 },
    { off := 0x40, width := 64, stride := 8, count := 8 }] }

/-- Every register block. -/
def regBlocks : List RegBlock := [
  blockTb,
  blockWin,
  blockLc,
  blockMtMeter,
  blockMtInt,
  blockFt,
  blockTop,
  blockPer,
  blockRing,
  blockEspEarly,
  blockHz,
  blockNet,
  blockCip,
  blockKlLink,
  blockKlAgent,
  blockEsp,
  blockPmc,
  blockQ,
  blockPmcCnt,
  blockCipDom,
  blockRingDb,
  blockDieTb,
  blockMtCh,
  blockMtChInt,
  blockFtCh,
  blockHzCl,
  blockHzCore,
  blockPv,
  blockPs,
  blockPwr,
  blockThm,
  blockEvr,
  blockLife]

end Sys2Proof.Machine
end

