-- ==== Sys2Proof/Machine/State.lean ====
section
/-!
DEFINITION. The state of the block: every register, buffer, table, counter, mode and pin the specification
gives it, as plain data, and the queue of commands that wait.
-/
namespace Sys2Proof.Machine

/-- A stop with a fault. -/
inductive Fault where
  /-- REGISTER_WRITE and REGISTER_ACCESS_BAD_WIDTH raise it for an address of more than 48 bits, which the
  Espalier address space does not have (R32).  Safe: the machine stops where no access exists. -/
  | outsideAddressSpace
deriving DecidableEq, Repr

/-- A stop without a meaning. -/
inductive Refusal where
  /-- An arm of `exec` whose command has no meaning yet.  Safe: nothing is claimed of it. -/
  | notModelled (mnemonic : String)
deriving DecidableEq, Repr

/-- The mirror's messages (R426, R427). -/
inductive MirrorMsg where
  | lines (epoch : Nat) (l : List (Nat × Line × Bool))
  | endMarker (epoch : Nat)
  | ack (epoch : Nat)
  | again (epoch : Nat)
deriving DecidableEq, Repr

/-- What the hub sends on a Kilius port (Tables 16.3 and 16.4). -/
inductive KlTx where
  | read (tag dom space addr len : Nat)
  | writeNp (tag dom space addr poison : Nat) (bytes : List Byte)
  /-- FetchAdd, Swap or CompareSwap by its opcode, with its operands. -/
  | atomic (opcode tag dom addr : Nat) (a b : Word)
  | write (dom space addr poison : Nat) (bytes : List Byte)
  | cmp (tag status : Nat)
  | readData (tag status poison : Nat) (bytes : List Byte)
  | atomicData (tag status : Nat) (old : Word)
  | time (seq dtb delayPs : Nat) (synced locked stepped : Bool)
  | barrierDone (tag status : Nat)
  | interrupt (vector ringPair : Nat)
  | postedError (addr status index : Nat)
  | launchArm (slot fireTime action arg : Nat) (dropLate : Bool)
  | launchCancel (slot : Nat)
deriving DecidableEq, Repr

/-- What leaves the block: a response, a message on a port, an interrupt or a pin edge (the model keeps them in `State.out`). -/
inductive Msg where
  /-- What a register read of the wrong width or alignment returns (R15), to the function of a domain. -/
  | registerValue (dom addr width value : Nat)
  /-- PPS_OUT rises for `widthMs` ms (R60). -/
  | ppsOut (widthMs : Nat)
  /-- A CXL.mem data response, with poison or not (R91, R109). -/
  | cxlData (link tag : Nat) (data : Line) (poison : Bool)
  /-- A CXL.mem completion of a write (R29). -/
  | cxlCmp (link tag : Nat)
  /-- BISnpInv, or BISnpData, for a line to a link (R87). -/
  | biSnp (link line : Nat) (inval : Bool)
  /-- The response to GPF Phase 1 or 2 (R117). -/
  | gpfRsp (link phase : Nat)
  /-- The answer to a mailbox command of an LD: opcode, return code, payload fields in order (R118). -/
  | mailbox (ld opcode : Nat) (code : MboxCode) (payload : List Nat)
  /-- The answer to an FM API command (R82). -/
  | fmApi (link : Nat) (code : MboxCode) (payload : List Nat)
  /-- A commit of an HDM decoder is answered: committed, or Error Not Committed (R84). -/
  | decoderCommit (ld decoder : Nat) (committed : Bool)
  /-- A write credit is returned on a link (R102, R103). -/
  | writeCredit (link : Nat)

  /-- A mirror message on a queue pair, with its PSN and its sequence (R426, R427). -/
  | mirror (qp psn seq : Nat) (m : MirrorMsg)
  /-- A RoCEv2 packet, or a message of several packets, on a queue pair: an RDMA WRITE, a READ request, a SEND. -/
  | roceWrite (qp psn addr rkey : Nat) (bytes : List Byte)
  | roceRead (qp psn addr rkey len : Nat)
  | roceSend (qp psn : Nat) (bytes : List Byte)
  /-- An acknowledgement, an atomic acknowledgement, a READ response packet, a NAK, a CNP. -/
  | roceAck (qp psn : Nat)
  | roceAtomicAck (qp psn : Nat) (value : Word)
  | roceReadResponse (qp psn : Nat) (bytes : List Byte)
  | roceNak (qp psn : Nat) (kind : NakKind)
  | roceCnp (qp : Nat)
  /-- The answer to an ARP request or a neighbour solicitation for an address (R412). -/
  | resolved (port : Nat) (gid : BitVec 128)
  /-- PFC pause, or its end, on a port's RoCE priority (R428). -/
  | pfcPause (port : Nat) (pause : Bool)
  /-- A Payload flit on a Kilius port, with its sequence and what it carries (R463, R468, R470). -/
  | kilius (port seq : Nat) (replay : Bool) (t : KlTx)
  /-- A Control flit on a Kilius port (Table 15.9). -/
  | klControl (port op arg : Nat)
  /-- A write of the partner's KL_SB_CTL over the sideband (Table 15.4). -/
  | sideband (port value : Nat)
  /-- A write of bytes to the firmware flash at a flash address (R516). -/
  | flashWrite (addr : Nat) (bytes : List Byte)
  /-- An SPDM answer of a function: the response code (0x7F: error) and its fields in order (R523). -/
  | spdm (ld code : Nat) (fields : List Nat)
  /-- Bits shifted out of the debug access port, lowest byte first (R527). -/
  | debugPort (bytes : List Byte)
  /-- MSI-X vector `vector` of the function of LD index `ld` (R77, R375, R493, R586). -/
  | msix (ld vector : Nat)
  /-- A write of `bytes` (little-endian, lowest byte first) to host memory at an Espalier address of the host aperture. -/
  | hostWrite (addr : Nat) (bytes : List Byte)
deriving DecidableEq, Repr

/-- How a line of an encrypted memory was written: the key domain and key generation (R27, R435), and whether it
was written poisoned (R183). -/
structure LineTag where
  dom : Nat
  gen : Nat
  poison : Bool
deriving DecidableEq, Repr

/-- An addressed memory: its bytes (unlisted: 0) and, by line, how the line was written (unlisted: never). -/
structure Mem where
  cells : List Host.Cell
  tags : List (Nat × LineTag)
deriving DecidableEq, Repr

def Mem.empty : Mem := { cells := [], tags := [] }
/-- An event as its source raises it (R573 to R575).  `data` holds (size in bytes, value) fields in order. -/
structure Event where
  src : Nat
  sev : Nat
  code : Nat
  dom : Nat
  time : Nat
  unsynced : Bool
  data : List (Nat × Nat)
  /-- The window address it concerns, if any (R120). -/
  addr : Option Nat
deriving DecidableEq, Repr

/-- An event record of Table 19.3; an intake entry is one without its sequence number. -/
structure Record where
  seq : Nat
  ev : Event
  synthetic : Bool
  persisted : Bool
  repeats : Nat
  /-- DTB seconds of the latest repeat. -/
  lastRepeat : Nat
  /-- The model clock at the last write of its persistent copy, and whether the copy is out of date (R584). -/
  copied : Nat
  stale : Bool
deriving DecidableEq, Repr

/-- The drops that the next synthetic record gathers (R578). -/
structure Drops where
  count : Nat
  first : Nat
  last : Nat
  sev : Nat
deriving DecidableEq, Repr

/-- A performance counter that software has touched (R589); the others are zero and not selected. -/
structure Counter where
  idx : Nat
  cnt : Nat
  sel : Nat
  ovf : Bool
deriving DecidableEq, Repr

/-- An open bandwidth window (R595). -/
structure BwWindow where
  idx : Nat
  /-- The DTB at which it closes. -/
  until_ : Nat
  /-- The DTB microsecond being counted, and the counts in it. -/
  us : Nat
  usIn : Nat
  usOut : Nat
deriving DecidableEq, Repr

/-- A sample record (Table 19.7), without its SampleSeq. -/
structure Sample where
  time : Nat
  pc : Nat
  dataAddr : Nat
  core : Nat
  event : Nat
  flags : Nat
  latencyNs : Nat
  tag : Nat
  ring : Nat
  dom : Nat
deriving DecidableEq, Repr

/-- The recorder, the counters and sampling (chapter 19), besides their registers. -/
structure ObsState where
  /-- Events on their way to the intake, oldest first (R575). -/
  raised : List Event
  /-- Q[16], the event intake queue, oldest first. -/
  intake : List Record
  /-- The record being written. -/
  writing : Option Record
  /-- The last record written, for R577. -/
  lastSeq : Option Nat
  drops : Option Drops
  /-- The RAM log, oldest first. -/
  ram : List Record
  /-- The persistent log, oldest first, and the copies that wait for it (R584). -/
  persist : List Record
  backlog : List Record
  /-- The model clock of the last event 26. -/
  lastPdrop : Option Nat
  /-- What EVR_WINDOW shows: a copy of a record (R583). -/
  window : Option Record
  /-- For each route, the model clock of its last notification and whether one waits (R587). -/
  routeLast : List (Option Nat)
  routeWait : List Bool
  counters : List Counter
  /-- Hazel cores whose counters a slot of the core has frozen (R593). -/
  frozenCores : List Nat
  bw : List BwWindow
  /-- Samples staged at the clusters: (cluster, sample), oldest first (R601). -/
  staged : List (Nat × Sample)
  /-- The model clock of the last event 28 code 3. -/
  lastSampleDrop : Option Nat
deriving DecidableEq, Repr

def ObsState.reset : ObsState :=
  { raised := [], intake := [], writing := none, lastSeq := none, drops := none, ram := [], persist := [],
    backlog := [], lastPdrop := none, window := none, routeLast := List.replicate 8 none,
    routeWait := List.replicate 8 false, counters := [], frozenCores := [], bw := [], staged := [],
    lastSampleDrop := none }
/-- A die's replica of the device time base (R61, R62). -/
structure DieTime where
  /-- The replica, in ns. -/
  replica : Nat
  /-- The model clock at the last time message. -/
  last : Nat
  /-- Launch slots hold (R62). -/
  held : Bool
deriving DecidableEq, Repr

/-- The time base (chapter 2), besides its registers. -/
structure TimeState where
  /-- The hub is powered and the DTB counts (R52). -/
  running : Bool
  /-- The DTB, in ns. -/
  dtb : Nat
  /-- The accumulator below the nanosecond, in units of 2^-32 ns (R52). -/
  frac : Nat
  /-- What the slew has still to remove, in units of 2^-32 ns, positive to move the DTB forward (R56). -/
  slew : Int
  /-- Privet's replica (R52). -/
  privet : Nat
  /-- The replicas of media dies 0 to 7. -/
  dies : List DieTime
  ptpValid : Bool
  ppsValid : Bool
  /-- The model clock at the last PPS_IN edge. -/
  lastEdge : Option Nat
  /-- The host has written TB_TOD_NEXT since the last edge (R57). -/
  todWritten : Bool
  /-- Consecutive offsets within 100 ns (Table 2.2). -/
  near : Nat
  /-- Consecutive offsets beyond 1 us (Table 2.2). -/
  far : Nat
  /-- The model clock at which the holdover time began (R58). -/
  holdFrom : Nat
  ppsOut : Bool
  /-- The DTB at which PPS_OUT falls. -/
  ppsOutEnd : Nat
  /-- Privet's standby clock, in ns, and whether it ran without interruption since the recording (R63). -/
  standby : Nat
  standbyOk : Bool
  /-- The last recorded stamp time and the standby clock at that moment, kept in the parameter store (R63). -/
  recorded : Option (Nat × Nat)
  /-- The tile age map is to be rebuilt from corrected stamps (R65). -/
  ageRebuild : Bool
  /-- The agents' last Time message could not be sent since this model clock (R491). -/
  agentSent : List Nat
  /-- The Seq of the next Time message of each port, and whether the DTB has stepped since its last one (R490). -/
  seqs : List Nat
  stepped : List Bool
  /-- Slots armed on agents: agent, slot, epoch (R492). -/
  agentSlots : List (Nat × Nat × Nat)
deriving DecidableEq, Repr

def TimeState.reset : TimeState :=
  { running := false, dtb := 0, frac := 0, slew := 0, privet := 0,
    dies := List.replicate 8 { replica := 0, last := 0, held := false },
    ptpValid := false, ppsValid := false, lastEdge := none, todWritten := false, near := 0, far := 0,
    holdFrom := 0, ppsOut := false, ppsOutEnd := 0, standby := 0, standbyOk := true, recorded := none,
    ageRebuild := false, agentSent := [0, 0],
    seqs := List.replicate 11 0, stepped := List.replicate 11 false, agentSlots := [] }
/-- A committed HDM decoder (R83). -/
structure Decoder where
  ld : Nat
  idx : Nat
  base : Nat
  size : Nat
  ways : Nat
  gran : Nat
  position : Nat
  /-- DPA at which its range begins, skips included. -/
  dpa : Nat
  bi : Bool
deriving DecidableEq, Repr

/-- A lost-write list entry (R114). -/
structure LostWrite where
  line : Nat
  dom : Nat
  count : Nat
  stamp : Nat
deriving DecidableEq, Repr

/-- A CXL event-log record (R120). -/
structure CxlRecord where
  ld : Nat
  /-- 0 Informational, 1 Warning, 2 Failure, 3 Fatal. -/
  log : Nat
  handle : Nat
  /-- A General Media Event Record with its DPA, or a Memory Module Event Record. -/
  dpa : Option Nat
  ev : Event
deriving DecidableEq, Repr

/-- Who issued a window access.  A write in Quickset's way is answered to it when Quickset accepts it. -/
inductive WinSrc where
  /-- A CXL request on a link, with its tag. -/
  | cxl (link tag : Nat)
  /-- A descriptor: ring and handle. -/
  | ring (ring handle : Nat)
  /-- A Kilius request of an agent, posted or not. -/
  | kilius (agent tag : Nat) (posted : Bool)
  /-- An RDMA request on a queue pair: its PSN. -/
  | rdma (qp psn : Nat)
  /-- A Hazel far-path store, or a combining buffer. -/
  | hazel (core : Nat)
  /-- Mailbox commands, the mirror's receiver, merge reads and the device's own work. -/
  | device
deriving DecidableEq, Repr

/-- What the snoop filter records of a line (R86): the links that may hold it, and whether one may hold it modified. -/
structure SfLine where
  line : Nat
  links : List Nat
  modified : Bool
deriving DecidableEq, Repr

/-- A snoop-filter entry: one 4 KiB sector.  Entries stand in the order of their allocation. -/
structure SfEntry where
  sector : Nat
  lines : List SfLine
  /-- It is being evicted (R90). -/
  evicting : Bool
deriving DecidableEq, Repr

/-- A window write as its source gives it. -/
structure WinWrite where
  src : WinSrc
  line : Nat
  dom : Nat
  mask : Mask
  data : Line
  poison : Bool
  /-- The ingress stamp (R28). -/
  stamp : Nat
deriving DecidableEq, Repr

/-- A write held before Quickset (R87, R88): the links whose BIRsp it waits for; none when it waits only behind an
earlier write to its line. -/
structure HeldWrite where
  w : WinWrite
  holders : List Nat
  /-- The model clock at which its BISnp was sent. -/
  since : Nat
deriving DecidableEq, Repr

/-- The stages of a window read that is not answered at once (Table 3.2, Table 5.6). -/
inductive ReadStage where
  /-- Waits for a snoop-filter entry (R90). -/
  | filter
  /-- Waits behind a write that waits for BIRsp (R88). -/
  | held
  /-- In the hub admission stage (R96). -/
  | admission
  /-- On its way to the bank queue. -/
  | transit
  /-- In the bank's read queue. -/
  | queued
  /-- RD issued; its array read and light decode run. -/
  | sensing
  /-- Its page read waits for the bank. -/
  | pageQueued
  /-- RDP issued. -/
  | pageSensing
  /-- The strong decoder has its page. -/
  | decoding
deriving DecidableEq, Repr

/-- An outstanding window read. -/
structure OutRead where
  id : Nat
  src : WinSrc
  /-- The LD whose request it is. -/
  ld : Nat
  line : Nat
  dom : Nat
  stamp : Nat
  /-- The model clock at its ingress. -/
  since : Nat
  stage : ReadStage
  /-- The media page that translation gave (Table 6.6 layout), once known. -/
  loc : Nat
  /-- The first read has failed and the retry runs. -/
  retried : Bool
  /-- Answered with poison at its deadline; the media read goes on (R101). -/
  late : Bool
  /-- A way was present or reserved for the fill (R127). -/
  fills : Bool
  /-- A host read that asked for a cacheable state. -/
  cacheable : Bool
deriving DecidableEq, Repr

/-- An internal command that waits for a line that a host may hold modified (R87): it is performed when the line is free. -/
inductive Parked where
  /-- A Read of a customer agent: agent, tag, address and length (R504). -/
  | agentRead (agent tag addr len : Nat)
  /-- An atomic of a customer agent: its opcode, agent, tag, address and operands (R485). -/
  | agentAtomic (op agent tag addr : Nat) (x y : Word)
  /-- An atomic of a network peer: queue pair, packet, address, key and operands (R417). -/
  | peerAtomic (op qp psn addr rkey : Nat) (x y : Word)
deriving DecidableEq, Repr

/-- The memory window besides its registers (chapter 3). -/
structure WinState where
  decoders : List Decoder
  cxlLogs : List CxlRecord
  /-- Next CXL event record handle. -/
  nextHandle : Nat
  /-- MSI-X entries masked by the host, and pending ones: (LD index, vector). -/
  msixMasked : List (Nat × Nat)
  msixPending : List (Nat × Nat)
  filter : List SfEntry
  held : List HeldWrite
  reads : List OutRead
  nextRead : Nat
  /-- Links whose write credits are stopped by GPF Phase 1 (R117). -/
  gpf : List Nat
  /-- Links in the order in which they wait for a write credit (R103). -/
  creditWait : List Nat
  /-- Lines of Quickset space reserved for credits that the links hold (R102). -/
  reserved : Nat
  /-- Event interrupt policy and alert configuration of each LD that has set one. -/
  policy : List (Nat × Word)
  alerts : List (Nat × Word)
  /-- BISnpData requests without a response: line, link, model clock (R87). -/
  snoops : List (Nat × Nat × Nat)
  /-- Commands of internal agents that wait for one of them, with the line. -/
  parked : List (Nat × Parked)
  /-- GPF Phase 1 requests not yet answered, by link (R117). -/
  gpfWait : List Nat
deriving DecidableEq, Repr

def WinState.reset : WinState :=
  { decoders := [], cxlLogs := [], nextHandle := 1, msixMasked := [], msixPending := [], filter := [], held := [],
    reads := [], nextRead := 1, gpf := [], creditWait := [], reserved := 0, policy := [], alerts := [], snoops := [],
    parked := [], gpfWait := [] }

/-- One line of a page or a sector with its content as ciphertext: its index, its data and its tag. -/
structure LineData where
  idx : Nat
  data : Line
  tag : LineTag
deriving DecidableEq, Repr

/-- A Quickset entry (R289). -/
structure QsEntry where
  line : Nat
  dom : Nat
  mask : Mask
  data : Line
  poison : Bool
  /-- The epoch of its latest write. -/
  epoch : Nat
  /-- Its write-around is in flight (R290). -/
  leaving : Bool
deriving DecidableEq, Repr

/-- A valid line of a way (R124), with the epoch of its latest write while dirty (R318). -/
structure CacheLine where
  idx : Nat
  data : Line
  tag : LineTag
  dirty : Bool
  epoch : Nat
  /-- A write-back of it is in flight, and it has not been written since (R130). -/
  flying : Bool
  /-- It is to become Invalid once clean (R141). -/
  leaving : Bool
deriving DecidableEq, Repr

/-- A way that is not empty (R123, R124, R128). -/
structure Way where
  set : Nat
  way : Nat
  sector : Nat
  locked : Bool
  /-- Reserved for a fill or a range operation. -/
  reserved : Bool
  /-- Taken out of use by a tag error (R152). -/
  dead : Bool
  age : Nat
  /-- When its first line became dirty: the cleaner's order (R132). -/
  dirtyAt : Option Nat
  lines : List CacheLine
deriving DecidableEq, Repr

/-- A range operation that has begun (R141 to R149); the slot's registers hold the rest. -/
structure RangeOp where
  slot : Nat
  op : Nat
  first : Nat
  sectors : Nat
  dom : Nat
  /-- 0 register, 1 descriptor, 2 Topiary. -/
  owner : Nat
  /-- The descriptor that it serves (ring, handle), or Topiary's plot. -/
  ring : Nat
  handle : Nat
  tagWalk : Bool
  /-- The next position of the walk. -/
  pos : Nat
  queued : Bool
  skipped : Nat
  /-- Its order of acceptance. -/
  seq : Nat
deriving DecidableEq, Repr

/-- A descriptor or a Topiary request that waits for a slot (R142). -/
structure RangeWait where
  op : Nat
  first : Nat
  sectors : Nat
  dom : Nat
  owner : Nat
  ring : Nat
  handle : Nat
deriving DecidableEq, Repr

/-- The line cache besides its registers (chapter 4). -/
structure LcState where
  /-- The index key of R125. -/
  key : Word
  ways : List Way
  ops : List RangeOp
  waits : List RangeWait
  /-- The slot that had the last turn (R148). -/
  turn : Nat
  nextSeq : Nat
  /-- Disabled with its contents kept (Table 4.3), and the DTB of the last disable. -/
  retained : Bool
  lastDisable : Nat
  cleaning : Bool
deriving DecidableEq, Repr

def LcState.reset : LcState :=
  { key := 0, ways := [], ops := [], waits := [], turn := 7, nextSeq := 0, retained := false, lastDisable := 0,
    cleaning := false }

/-- What a media write carries out. -/
inductive WriteKind where
  /-- A write-back of a way's lines, or of a dirty line on its own. -/
  | writeBack
  /-- A Quickset write-around (R129). -/
  | writeAround
  /-- A near-path write to a Hazel-owned plot: those whose stores it carries (R391). -/
  | nearStore (srcs : List WinSrc)
  /-- A line lost in Quickset or in HBM3E, written poisoned (R151, R291). -/
  | lostLine
  /-- One of the eight writes of an internal rewrite, by its number (R191). -/
  | rewrite (id : Nat)
deriving DecidableEq, Repr

/-- Where a media write stands (R165, R169). -/
inductive WritePhase where
  | waiting
  | comparing
  /-- Loaded in the bank's write buffer; segments remain. -/
  | loaded
  /-- WCL reached and reported; the hub has not yet taken the report. -/
  | reported
deriving DecidableEq, Repr

/-- A media write (R165): one to eight lines of one page. -/
structure MediaWrite where
  id : Nat
  kind : WriteKind
  /-- The window page (address / 4096), unless it is a page that no window address has. -/
  page : Option Nat
  /-- The media page: its destination once it has its tokens. -/
  loc : Nat
  lines : List LineData
  /-- Writes of one first write-back of a page (R108), or of a Reborn page (R273), share a group. -/
  group : Nat
  /-- The epoch of the content it carries (R320). -/
  epoch : Nat
  phase : WritePhase
  /-- Whether RESET and SET cells remain, and segments run so far. -/
  resets : Bool
  sets : Bool
  segments : Nat
  /-- Paused since this model clock. -/
  paused : Option Nat
  /-- Stamp in DTB seconds, provisional or not, temperature + 64, and verify failures. -/
  stamp : Nat
  unsynced : Bool
  temp : Nat
  failed : Nat
deriving DecidableEq, Repr

/-- An internal rewrite of a page (R191). -/
inductive RewriteKind where
  | refresh
  /-- A gap move of a plot (R212). -/
  | rotation (plot : Nat)
  | retirement
  /-- The copy of a page of a migrating plot (R268). -/
  | migration (plot : Nat)
deriving DecidableEq, Repr

structure Rewrite where
  id : Nat
  kind : RewriteKind
  page : Option Nat
  src : Nat
  dst : Nat
  started : Bool
  /-- Every write of it is complete. -/
  done : Bool
deriving DecidableEq, Repr

/-- A page record (Table 6.3). -/
structure PageRecord where
  stamp : Nat
  temp : Nat
  tileClass : Nat
  written : Bool
  unsynced : Bool
  poisonLines : Bool
  rewritten : Bool
  /-- Its CRC is good. -/
  good : Bool
deriving DecidableEq, Repr

/-- A check slot (Table 6.2): the 960 bits of check symbols, and the page record. -/
structure CheckSlot where
  symbols : Nat
  record : PageRecord
deriving DecidableEq, Repr

/-- A slot in the page-check cache (R188), oldest use first in the list. -/
structure CachedSlot where
  loc : Nat
  slot : CheckSlot
  dirty : Bool
deriving DecidableEq, Repr

/-- The states of Table 5.6. -/
inductive BankState where
  | idle
  | reading
  | comparing
  | pageReading
  | segment
deriving DecidableEq, Repr

/-- A bank: rank-bank lane `key % 32` of channel `key / 32`. -/
structure Bank where
  key : Nat
  state : BankState
  /-- The row that the latch holds (R161). -/
  latch : Option Nat
  queue : List Nat
  flying : List Nat
  pages : List Nat
  /-- The write in its comparison sequence or its write buffer. -/
  write : Option Nat
deriving DecidableEq, Repr

/-- A channel's training and retraining (R171 to R173), and its scrubber (R208 to R210). -/
structure Chan where
  /-- The last training step completed (Table 5.8), and failures of the next one in each rank; 3 takes it offline. -/
  step : Nat
  fails0 : Nat
  fails1 : Nat
  /-- Slices of a retraining that have ended, its trigger and its start. -/
  slice : Nat
  trigger : Nat
  since : Nat
  lowMargin : Bool
  /-- The temperature at the last retraining, and its model clock. -/
  temp : Nat
  trained : Nat
  /-- The model clocks of recent CA parity errors, latest first (R172). -/
  caErrors : List Nat
  /-- How often the present command has drawn ALERT_N, and whether it waits for a retraining (R173). -/
  alerts : Nat
  /-- Model clocks of corrections in each rank in the last hour, latest first (R195). -/
  rate0 : List Nat
  rate1 : List Nat
  /-- Strong-decode failures of each rank: (model clock, page), and whether R196 has raised its event. -/
  dead0 : List (Nat × Nat)
  dead1 : List (Nat × Nat)
  deadSaid0 : Bool
  deadSaid1 : Bool
  /-- When the lap began, when a page was last scrubbed, and the next position in the lap. -/
  lap : Nat
  scrubbed : Nat
  pos : Nat
deriving DecidableEq, Repr

def Chan.reset : Chan :=
  { step := 0, fails0 := 0, fails1 := 0, slice := 0, trigger := 0, since := 0, lowMargin := false, temp := 0, trained := 0,
    caErrors := [], alerts := 0, rate0 := [], rate1 := [], dead0 := [], dead1 := [], deadSaid0 := false,
    deadSaid1 := false, lap := 0, scrubbed := 0, pos := 0 }

/-- A tile table entry that is not Empty (R200). -/
structure Tile where
  oldest : Nat
  latest : Nat
  fromStamps : Bool
  /-- The strong code is not used in it (R316). -/
  suspect : Bool
  /-- Its class 7 event has been raised (R207). -/
  overdue : Bool
deriving DecidableEq, Repr

/-- A tally entry (R192). -/
structure TallyEntry where
  loc : Nat
  count : Nat
  first : Nat
  latest : Nat
  line : Nat
  word : Nat
deriving DecidableEq, Repr

/-- A point of the aging ledger (R203): a die's effective seconds at a stamp second. -/
structure LedgerPoint where
  die : Nat
  sec : Nat
  aging : Nat
deriving DecidableEq, Repr

/-- The M-tier besides its registers (chapters 5 and 6). -/
structure MtState where
  /-- The media, by byte address (media page × 64 + line) × 64 + byte, media page as in Table 6.6. -/
  media : Mem
  /-- The check slots on the media and the page-check cache, by media page. -/
  slots : List (Nat × CheckSlot)
  cache : List CachedSlot
  banks : List Bank
  chans : List Chan
  writes : List MediaWrite
  rewrites : List Rewrite
  nextWrite : Nat
  /-- Tokens in the bucket, and the model clock of the last refill (R174). -/
  tokens : Nat
  filled : Nat
  tiles : List (Nat × Tile)
  /-- The age map of the tag die, 4 bits for each tile; unlisted: 0 (R202). -/
  ageMap : List (Nat × Nat)
  /-- The refresh queue, oldest effective age first: tile and model clock of entry. -/
  refresh : List (Nat × Nat)
  tally : List TallyEntry
  ledger : List LedgerPoint
  /-- The highest diode reading in use of each die at its last sample, and that sample's model clock (R197). -/
  dieTemp : List Nat
  dieSample : List Nat
  /-- Writes of each plot since its last gap move (R212), and media writes of each span position (R265). -/
  plotWrites : List (Nat × Nat)
  /-- The MoveInterval in force until a plot's write count restarts, where it has changed (R264). -/
  inForce : List (Nat × Nat)
  spanWrites : List (Nat × Nat)
  /-- Spare pages taken, by media page. -/
  spares : List Nat
  /-- The keyed hash of the exception table, drawn at power-on (R213). -/
  excKey : Word
  /-- The placement key of this power-on (R158). -/
  placeKey : Word
deriving DecidableEq, Repr

def MtState.reset : MtState :=
  { media := Mem.empty, slots := [], cache := [], banks := [], chans := List.replicate 32 Chan.reset,
    writes := [], rewrites := [], nextWrite := 1, tokens := 65536, filled := 0, tiles := [], ageMap := [],
    refresh := [], tally := [], ledger := [], dieTemp := List.replicate 8 0, dieSample := List.replicate 8 0,
    plotWrites := [], inForce := [], spanWrites := [], spares := [], excKey := 0, placeKey := 0 }

/-- A span (R263): the channels of one die, the base row, the bank key and the gap page (R211). -/
structure Span where
  chans : List Nat
  baseRow : Nat
  key : Word
  gapPage : Nat
deriving DecidableEq, Repr

/-- A plot table entry.  Plots from 0x1_0000 are F-cache plots, from 0x2_0000 snapshot staging plots. -/
structure Plot where
  idx : Nat
  span : Option Span
  start : Nat
  gap : Nat
  interval : Nat
  readOnly : Bool
  hazelOwned : Bool
  reborn : Bool
  pinned : Bool
  /-- The hinted heat class and the affinity group (R258). -/
  heat : Option Nat
  group : Option Nat
  /-- The domain whose hints it holds (R259). -/
  hinted : Nat
deriving DecidableEq, Repr

/-- The states of Table 8.4. -/
inductive MigState where
  | pending
  | copying
  | paused
  | releasing
deriving DecidableEq, Repr

/-- A migration (R270): cursor C, and the cursor as last journalled. -/
structure Migration where
  plot : Nat
  reason : Nat
  state : MigState
  cursor : Nat
  journalled : Nat
  dst : Option Span
  /-- The span to free once the switch is journalled. -/
  old : Option Span
  /-- The decision number of the move (R284). -/
  decision : Nat
deriving DecidableEq, Repr

/-- An affinity group (TOP_GROUP_CFG). -/
structure Group where
  domain : Nat
  valid : Bool
  hazelAllowed : Bool
  colocate : Bool
  hazelRequested : Bool
  hazelGranted : Bool
  hazelDie : Nat
  split : Bool
deriving DecidableEq, Repr

def Group.empty : Group :=
  { domain := 0, valid := false, hazelAllowed := false, colocate := false, hazelRequested := false,
    hazelGranted := false, hazelDie := 0, split := false }

/-- A retirement intent (R217). -/
structure RetireIntent where
  op : Nat
  src : Nat
  dst : Nat
  page : Option Nat
deriving DecidableEq, Repr

/-- A cut that is armed and not taken (R317). -/
structure ArmedCut where
  epoch : Nat
  snapshot : Bool
  time : Nat
  ring : Nat
  handle : Nat
deriving DecidableEq, Repr

/-- The states of PER_SNAP_INFO. -/
inductive SnapState where
  | free
  | active
  | incomplete
  | deleting
deriving DecidableEq, Repr

/-- A snapshot (R319). -/
structure Snapshot where
  slot : Nat
  epoch : Nat
  state : SnapState
deriving DecidableEq, Repr

/-- Where a captured page or line lies (R277). -/
inductive CapPlace where
  | staging
  | plots
  /-- Being programmed into snapshot unit `unit`. -/
  | programming (unit : Nat)
  /-- Snapshot unit `unit` of the snapshot space. -/
  | space (unit : Nat)
deriving DecidableEq, Repr

/-- A capture for a snapshot (R320): a whole page, or single lines of it. -/
structure Capture where
  epoch : Nat
  page : Nat
  whole : Bool
  lines : List LineData
  place : CapPlace
deriving DecidableEq, Repr

/-- A hint over a namespace range, by GiB (R258): heat class or group. -/
structure NsHint where
  gib : Nat
  dom : Nat
  heat : Option Nat
  group : Option Nat
deriving DecidableEq, Repr

/-- The window's journalled metadata (Table 9.4). -/
structure Meta where
  plots : List Plot
  /-- The exception table: replaced media page, replacement (R213). -/
  exc : List (Nat × Nat)
  /-- The page-written map: 64 pages to an entry (R107). -/
  written : List (Nat × Word)
  /-- The Reborn bits, likewise (R273). -/
  reborn : List (Nat × Word)
  /-- The lost-write list by entry index (R114). -/
  lost : List (Nat × LostWrite)
  lwlOverflow : Bool
  retire : Option RetireIntent
  groups : List (Nat × Group)
  nsHints : List NsHint
  migrations : List Migration
  openEpoch : Nat
  /-- T of the last epoch cut and of the last snapshot cut (R72). -/
  lastEpochCut : Option Nat
  lastSnapCut : Option Nat
  lastCut : Nat
  armed : List ArmedCut
  snaps : List Snapshot
  captures : List Capture
  mirrorDirty : List Nat
  /-- ApplyBegin without ApplyEnd: the epoch (R325). -/
  applying : Option Nat
  /-- Ranks retired: channel × 2 + rank (R215). -/
  retired : List Nat
  /-- Tiles touched since the S of the last window CheckpointStart (R294). -/
  touched : List Nat
  decisions : Nat
deriving DecidableEq, Repr

def Meta.empty : Meta :=
  { plots := [], exc := [], written := [], reborn := [], lost := [], lwlOverflow := false, retire := none,
    groups := [], nsHints := [], migrations := [], openEpoch := 0, lastEpochCut := none, lastSnapCut := none, lastCut := 0, armed := [], snaps := [],
    captures := [], mirrorDirty := [], applying := none, retired := [], touched := [], decisions := 0 }
/-- A host block as stored: 64 lines of ciphertext and the key that wrote them (R27). -/
structure HostBlock where
  lines : List Line
  tag : LineTag
deriving DecidableEq, Repr

/-- A map entry (Table 7.6). -/
inductive MapEntry where
  | unmapped
  | flash (loc : Nat)
  | fcache (slot : Nat)
  | lost
deriving DecidableEq, Repr

/-- An F-cache slot in use (R231): its unit, version, Present and Zero masks, backing Location and blocks. -/
structure Slot where
  idx : Nat
  unit : Nat
  version : Nat
  zero : List Nat
  backing : MapEntry
  /-- Present host blocks by codeword. -/
  blocks : List (Nat × HostBlock)
  /-- DTB seconds of the last write (R275), and its order among staged writes. -/
  written : Nat
  /-- The version of its first write: every write from it on waits to be destaged. -/
  first : Nat
  /-- A destage of it is under way, by the version it carries. -/
  destaging : Option Nat
deriving DecidableEq, Repr

/-- A physical page's content and footer (Tables 7.4 and 7.5). -/
structure FlashPage where
  /-- 0 data, 1 filler, 2 metadata. -/
  kind : Nat
  zero : List Nat
  lost : List Nat
  band : Nat
  row : Nat
  temp : Nat
  stream : Nat
  unit : Nat
  version : Nat
  stamp : Nat
  unsynced : Bool
  /-- The source page of a Copy. -/
  source : Option Nat
  blocks : List (Nat × HostBlock)
deriving DecidableEq, Repr

/-- Why a page waits to be programmed. -/
inductive ProgKind where
  /-- A destage of a slot. -/
  | destage (slot : Nat)
  /-- A direct write of a descriptor, with the model clock of its arrival. -/
  | direct (ring handle since : Nat)
  /-- A reclaim copy or a relocation of the page at a Location. -/
  | copy (src : Nat)
  /-- Captured snapshot pages, of an epoch. -/
  | snapshot (epoch : Nat)
  /-- A filler page, or metadata of a checkpoint. -/
  | filler
deriving DecidableEq, Repr

/-- A page in program staging. -/
structure Staged where
  kind : ProgKind
  page : FlashPage
  /-- A direct write that a later trim or direct write of its unit has overtaken (Table 7.7). -/
  dead : Bool
deriving DecidableEq, Repr

/-- A member set (R225): channel, die and its four blocks; and its record (R230). -/
structure Member where
  chan : Nat
  die : Nat
  blocks : List Nat
  reads : Nat
  stamp : Nat
  unsynced : Bool
  temp : Nat
  /-- Learned entry with its retention class and temperature band (R237). -/
  learned : Option (Nat × Nat × Nat)
deriving DecidableEq, Repr

/-- The states of a band. -/
inductive BandState where
  | opened
  | closed
  | erasing
deriving DecidableEq, Repr

/-- A band that is not free (R225, R230). -/
structure Band where
  num : Nat
  group : Nat
  stream : Nat
  state : BandState
  members : List Member
  /-- Rows programmed. -/
  rows : Nat
  closedAt : Nat
  /-- A member of it is missing (R238). -/
  degraded : Bool
  /-- Queued for relocation on stream 6. -/
  queued : Bool
  suspect : List Nat
deriving DecidableEq, Repr

/-- A program group on its dies: band, first row, its pages in order. -/
structure ProgGroup where
  band : Nat
  row : Nat
  pages : List Staged
deriving DecidableEq, Repr

/-- Who waits for a flash read. -/
inductive NandFor where
  /-- Host blocks for a descriptor, with the offset of the unit in its transfer. -/
  | descriptor (ring handle offset : Nat)
  /-- A destage's missing blocks. -/
  | destage (slot : Nat)
  /-- A reclaim copy or a relocation, to a stream. -/
  | copy (stream : Nat)
  /-- A snapshot read. -/
  | snapshot (ring handle : Nat)
deriving DecidableEq, Repr

/-- A flash read under way (R236). -/
structure NandRead where
  id : Nat
  loc : Nat
  unit : Nat
  /-- Host blocks still to be decoded. -/
  blocks : List Nat
  want : NandFor
  /-- Start entry, attempts made, and whether the soft decode runs. -/
  start : Nat
  attempts : Nat
  soft : Bool
  /-- Host blocks decoded after a ladder step, soft decode or rebuild, and blocks lost. -/
  corrected : List Nat
  lost : List Nat
deriving DecidableEq, Repr

/-- A program or an erase that a read has suspended (R223); after 2 ms it runs for 500 us, to `running`. -/
structure Suspended where
  chan : Nat
  die : Nat
  since : Nat
  running : Option Nat
deriving DecidableEq, Repr

/-- The F-tier's journalled metadata (Table 9.4). -/
structure FtMeta where
  map : List (Nat × MapEntry)
  slots : List Slot
  bands : List Band
  /-- Bad blocks: ((channel × 16 + die) × 4 + plane) × 1024 + block. -/
  bad : List Nat
  version : Nat
deriving DecidableEq, Repr

def FtMeta.empty : FtMeta := { map := [], slots := [], bands := [], bad := [], version := 1 }

/-- The F-tier besides its registers and its journalled metadata (chapter 7). -/
structure FtState where
  /-- The NAND, by Location. -/
  pages : List (Nat × FlashPage)
  staged : List Staged
  groups : List ProgGroup
  reads : List NandRead
  nextRead : Nat
  suspended : List Suspended
  /-- FT_GRANT entries by index, as FT_GRANT_ENTRY lays them out. -/
  grants : List (Nat × Word)
  /-- Dies that calibrate, and for each die its last calibration: (channel × 16 + die, model clock, °C + 64). -/
  calibrated : List (Nat × Nat × Nat)
  /-- Bands being relocated or reclaimed, and Coppice's victim with the row it has reached. -/
  victim : Option Nat
  /-- Pages of the victim that were valid, and host pages the last victim freed (R248). -/
  copied : Nat
  freed : Nat
  /-- Heat counters of units (R261); unlisted: 0. -/
  heat : List (Nat × Nat)
deriving DecidableEq, Repr

def FtState.reset : FtState :=
  { pages := [], staged := [], groups := [], reads := [], nextRead := 1, suspended := [], grants := [],
    calibrated := [], victim := none, copied := 0, freed := 0, heat := [] }
/-- What a journal record states (Table 9.4).  A long value spans records with the Continued flag; here it is one. -/
inductive JBody where
  | plotSet (p : Plot)
  /-- MigrateCursor: the migration as it stands, or its end. -/
  | migrateCursor (plot : Nat) (m : Option Migration)
  | excSet (key : Nat) (target : Option Nat)
  | pageWritten (word : Nat) (value : Word)
  | tileTouched (tile : Nat)
  | lostWrite (index : Nat) (e : Option LostWrite)
  | lostOverflow (set : Bool)
  | retire (i : Option RetireIntent)
  | rankRetired (rank : Nat)
  | groupSet (g : Nat) (v : Group)
  | nsHintSet (h : NsHint)
  | epochArm (c : ArmedCut)
  | epochCut (c : ArmedCut) (time : Nat)
  | cutDropped (c : ArmedCut)
  | snapIndex (c : Capture)
  /-- A capture leaves the index of a snapshot that is being deleted (SnapIndex). -/
  | snapDrop (c : Capture)
  | snapState (s : Snapshot)
  | mirrorDirty (plot : Nat) (set : Bool)
  | reborn (word : Nat) (value : Word)
  | mirrorApply (epoch : Nat) (start : Bool)
  | decision (seq : Nat)
  | mapSet (unit : Nat) (e : MapEntry) (version : Nat)
  | slotSet (idx : Nat) (s : Option Slot)
  | bandSet (num : Nat) (b : Option Band)
  | badBlock (b : Nat)
  | checkpointStart (ftier : Bool) (s : Nat)
  | checkpointEnd (ftier : Bool)
  | tailSealed
  | flushEnd
  | agingClocks (l : List Nat)
deriving DecidableEq, Repr

/-- A journal record (Table 9.3) and whether it is on both copies (R293). -/
structure JRecord where
  seq : Nat
  time : Nat
  ftier : Bool
  body : JBody
  durable : Bool
deriving DecidableEq, Repr

/-- What a checkpoint image holds (Table 9.6). -/
structure Image where
  md : Meta
  fm : FtMeta
  tiles : List (Nat × Tile)
  tally : List TallyEntry
  ledger : List LedgerPoint
  aging : List Nat
  plotWrites : List (Nat × Nat)
deriving DecidableEq, Repr

def Image.empty : Image :=
  { md := Meta.empty, fm := FtMeta.empty, tiles := [], tally := [], ledger := [],
    aging := List.replicate 8 0, plotWrites := [] }

/-- A checkpoint root (R299): S, the image, the time of its CheckpointEnd. -/
structure Root where
  s : Nat
  image : Image
  time : Nat
deriving DecidableEq, Repr

/-- Where a checkpoint of one kind stands (R299). -/
inductive CkptPhase where
  | idle
  /-- CheckpointStart is written; the image is being written. -/
  | imaging (s : Nat)
  /-- CheckpointEnd is written, and not yet on both copies. -/
  | ending (s seq : Nat)
deriving DecidableEq, Repr

/-- The checkpoints of one kind. -/
structure Ckpt where
  phase : CkptPhase
  image : Image
  root : Option Root
  /-- S of the root before the present one: its records are kept (R298). -/
  kept : Nat
  /-- The model clock of the last CheckpointEnd or start-up, and the bytes written since. -/
  last : Nat
  bytes : Nat
deriving DecidableEq, Repr

def Ckpt.reset : Ckpt :=
  { phase := .idle, image := Image.empty, root := none, kept := 0, last := 0, bytes := 0 }

/-- A line of the mirror's queues (R324): window line, content, epoch. -/
structure MirrorLine where
  line : Nat
  data : Line
  poison : Bool
  epoch : Nat
deriving DecidableEq, Repr


/-- Persistence besides its registers (chapter 9). -/
structure PerState where
  journal : List JRecord
  window : Ckpt
  ftier : Ckpt
  /-- A page capture that a media write waits for: window pages (R277). -/
  capturing : List Nat
  /-- The flush: the last step of Table 9.7 completed, its trigger, its start, tiles whose check slot it skipped. -/
  flushStep : Nat
  trigger : Nat
  flushStart : Nat
  flushBytes : Nat
  skipped : List Nat
  /-- Epochs of snapshots that lines of the flush would have needed captures for (R307). -/
  overtaken : List Nat
  /-- The check-skip bitmap of the last completed flush. -/
  skipMap : List Nat
  /-- The mirror's send and receive queues. -/
  send : List MirrorLine
  receive : List MirrorLine
  /-- The next end marker's epoch, and an epoch whose queueing resumes (R327). -/
  sent : Nat
  /-- Plots still to be resent (R327), and whether the send queue takes lines. -/
  resend : List Nat
  queueing : Bool
  /-- Whether the mirror has ever been enabled. -/
  everEnabled : Bool
  /-- The pages that the check rebuild has still to visit, in order (R316). -/
  rebuild : List Nat
  rewritten : Nat
  /-- Descriptors that wait for checkpoints (ring, handle). -/
  ckptWait : List (Nat × Nat)
  /-- The window size recorded in the window checkpoint (R81), and whether a sanitize has run since. -/
  sizeRecorded : Nat
  sizeCleared : Bool
  /-- The model clock at the start of the recovery, and whether this start-up is clean, and torn (R313). -/
  recoverStart : Nat
  clean : Bool
  torn : Bool
  /-- The message sequence of the mirror's sender or receiver (R426, R427). -/
  mirrorSeq : Nat
deriving DecidableEq, Repr

def PerState.reset : PerState :=
  { journal := [], window := Ckpt.reset, ftier := Ckpt.reset, capturing := [], flushStep := 0, trigger := 0,
    flushStart := 0, flushBytes := 0, skipped := [], overtaken := [], skipMap := [], send := [], receive := [], sent := 0,
    resend := [], queueing := false, everEnabled := false, rebuild := [], rewritten := 0, ckptWait := [],
    sizeRecorded := 0, sizeCleared := false, recoverStart := 0,
    clean := true, torn := false, mirrorSeq := 0 }

/-- Topiary besides its registers and its journalled metadata (chapter 8). -/
structure TopState where
  /-- Decayed reads and writes of each placed plot, and its measured class (R261). -/
  heat : List (Nat × Nat)
  measured : List (Nat × Nat)
  ranked : Nat
  halved : Nat
  /-- Since when each die's load has exceeded the mean by BalanceMargin (R266). -/
  overSince : List (Nat × Nat)
  lastBalance : Nat
  /-- HazelOwn requests at work: group, step, ring, handle (R280). -/
  hazel : List (Nat × Nat × Nat × Nat)
  /-- Channels under a rank-rate move, with the model clock at which it began (R283). -/
  avoided : List (Nat × Nat)
  /-- Plots that wait for a span (R263), and plots of the F-cache given up for a while (R274). -/
  waiting : List Nat
  shrunk : List Nat
deriving DecidableEq, Repr

def TopState.reset : TopState :=
  { heat := [], measured := [], ranked := 0, halved := 0, overSince := [], lastBalance := 0, hazel := [], avoided := [],
    waiting := [], shrunk := [] }
/-- Where a fetched descriptor stands (R364 to R372). -/
inductive DescPhase where
  /-- Its read is under way. -/
  | fetching
  /-- Valid; waits for an earlier descriptor of its ring (Order), or for a range-operation slot. -/
  | ready
  /-- Held for its launch time. -/
  | held
  /-- At work. -/
  | started
  /-- Its work has ended with a status and a Result; its completion entry is not yet written. -/
  | finished (status result : Nat)
deriving DecidableEq, Repr

/-- A descriptor context (R365). -/
structure Desc where
  ring : Nat
  handle : Nat
  /-- Its submission index. -/
  index : Nat
  /-- Its eight 64-bit words. -/
  words : List Word
  /-- Its ingress stamp (R366). -/
  stamp : Nat
  phase : DescPhase
  late : Bool
  /-- The model clock at which it started, and the progress periods that have passed since (R374). -/
  begun : Nat
  periods : Nat
  /-- Parts of its work still outstanding, and what they have added to its status and Result. -/
  left : Nat
  worst : Nat
  acc : Nat
deriving DecidableEq, Repr

/-- Entries of a ring that no notification has covered (R375): how many, and the model clock of the first. -/
structure Unnotified where
  ring : Nat
  count : Nat
  since : Nat
deriving DecidableEq, Repr

/-- An internal queue that is not empty or has been used (R378, R379): pointers and visible items. -/
structure Queue where
  q : Nat
  /-- wp, or T; rp, or H. -/
  write : Nat
  read : Nat
  /-- Items, or packets with the queue pair that they came on, oldest first. -/
  items : List (Nat × List Byte)
deriving DecidableEq, Repr

/-- Rings and queues besides their registers (chapter 11). -/
structure RingState where
  descs : List Desc
  nextHandle : Nat
  unnotified : List Unnotified
  /-- A RING_BIND value that waits for its ring to be Disabled (R356). -/
  binds : List (Nat × Word)
  queues : List Queue
  /-- Descriptors flushed since the ring began to drain or abort, by ring (event 164). -/
  flushed : List (Nat × Nat)
deriving DecidableEq, Repr

def RingState.reset : RingState :=
  { descs := [], nextHandle := 1, unnotified := [], binds := [], queues := [], flushed := [] }
/-- A store in a core's store buffer (R332, R342). -/
structure BufStore where
  addr : Nat
  bytes : List Byte
  /-- It was issued in Early mode. -/
  early : Bool
  /-- The model clock at which its home point performed it, or it was sent; none while it waits its turn. -/
  sent : Option Nat
deriving DecidableEq, Repr

/-- A non-temporal combining buffer (R338): line address / 64, mask, data, and the model clock of its last store. -/
structure NtBuf where
  line : Nat
  mask : Mask
  data : Line
  since : Nat
deriving DecidableEq, Repr

/-- What a core waits for behind a full barrier (R340, R385, R399). -/
inductive BarrierKind where
  | fence
  | fenceI
  | exit
  | coresSync
deriving DecidableEq, Repr

/-- An exception that waits for the core's buffers to drain (R351, R403). -/
structure CoreFault where
  code : Nat
  status : Nat
  pc : Word
  addr : Nat
  dropped : Bool
deriving DecidableEq, Repr

/-- A Hazel core (Table 12.1), besides its registers in the block tables: the registers of RV64IMAFDC and V, its
buffers and its scratch. -/
structure HzCore where
  x : List Word
  f : List Word
  v : List Line
  /-- Control and status registers other than the counters, by number; unlisted: 0. -/
  csr : List (Nat × Word)
  pc : Word
  buffer : List BufStore
  nt : List NtBuf
  barrier : Option BarrierKind
  fault : Option CoreFault
  /-- A store was dropped since the last barrier that reported one (R341, R344). -/
  dropped : Bool
  /-- The line of an LR whose reservation holds (its Espalier address / 64). -/
  resv : Option Nat
  /-- Halted for the debugger by EBREAK (R529). -/
  halted : Bool
  /-- Scratch, by offset; unlisted: 0. -/
  scratch : List Host.Cell
deriving DecidableEq, Repr

def HzCore.idle : HzCore :=
  { x := List.replicate 32 0, f := List.replicate 32 0, v := List.replicate 32 0, csr := [], pc := 0, buffer := [],
    nt := [], barrier := none, fault := none, dropped := false, resv := none, halted := false, scratch := [] }

/-- Where a kernel stands (R396, R398, R400). -/
inductive KernelPhase where
  | queued
  | staged
  | running
  /-- It has ended; cores still drain, or exit records are outstanding. -/
  | ending
deriving DecidableEq, Repr

/-- A kernel: its launch, what Topiary and the cluster gave it, and how it ends (R394 to R401). -/
structure Kernel where
  id : Nat
  ring : Nat
  handle : Nat
  tag : Nat
  dom : Nat
  group : Option Nat
  die : Nat
  image : Nat
  arg : Nat
  argLen : Nat
  want : Nat
  deadlineUs : Nat
  /-- Its launch time, if it is Timed, and its late policy. -/
  timed : Option Nat
  dropLate : Bool
  late : Bool
  phase : KernelPhase
  crc : Nat
  sramKiB : Nat
  handler : Option Nat
  /-- Its cores (HZ numbers) in rank order; those that wait to start, that have left, and that wait at CORES_SYNC. -/
  cores : List Nat
  armed : List Nat
  left : List Nat
  syncs : List Nat
  /-- The kernel pool, by offset; unlisted: 0. -/
  pool : List Host.Cell
  status : Nat
  code : Nat
  core : Nat
  result : Nat
  /-- The model clock at which its first core started. -/
  begun : Nat
  /-- It completes without a completion entry: its ring was reset (R405). -/
  silent : Bool
deriving DecidableEq, Repr

/-- An image in a cluster's image cache (R395). -/
structure KImage where
  die : Nat
  addr : Nat
  crc : Nat
  header : List Byte
  code : List Byte
  data : List Byte
  used : Nat
deriving DecidableEq, Repr

/-- Hazel compute, besides its registers (chapter 12). -/
structure HzState where
  /-- Hazel shared memory, by Espalier address less 0x2000_0000_0000 (R388). -/
  shm : Mem
  /-- Cores that are not idle as after reset, by HZ number. -/
  cores : List (Nat × HzCore)
  /-- Kernels, in order of acceptance. -/
  kernels : List Kernel
  nextKernel : Nat
  images : List KImage
  /-- Dead host targets (R350): translation window and CXL link. -/
  deadHosts : List (Nat × Nat)
  /-- Groups whose release waits for their kernels (R281). -/
  releasing : List Nat
deriving DecidableEq, Repr

def HzState.reset : HzState :=
  { shm := Mem.empty, cores := [], kernels := [], nextKernel := 1, images := [], deadHosts := [], releasing := [] }
/-- A GID entry (NET_GID_CTL). -/
structure Gid where
  idx : Nat
  lo : Word
  hi : Word
  ctl : Word
deriving DecidableEq, Repr

/-- A memory region (R418): its registers as committed. -/
structure Mr where
  idx : Nat
  base : Nat
  len : Nat
  ctl : Word
deriving DecidableEq, Repr

/-- What a request of the Malhild to a peer does. -/
inductive PeerKind where
  /-- MOVE_PEER_WRITE: bytes to a remote address. -/
  | write (dst : Nat) (bytes : List Byte)
  /-- MOVE_PEER_READ: from a remote address to a local one. -/
  | read (src dst : Nat)
  /-- A SEND of completions of a remote-mode ring. -/
  | send (bytes : List Byte)
  /-- A SEND of a mirror message with its sequence. -/
  | mirror (seq : Nat) (m : MirrorMsg)
deriving DecidableEq, Repr

/-- A request of the Malhild on a queue pair that has not been acknowledged (R415, R425). -/
structure PeerReq where
  /-- Its first and last PSN. -/
  psn : Nat
  last : Nat
  kind : PeerKind
  /-- The descriptor that it serves; ring 4096 for none. -/
  ring : Nat
  handle : Nat
  rkey : Nat
  len : Nat
  /-- The model clock at its last sending; none while it is held under MaxRdAtomic. -/
  sent : Option Nat
  /-- Bytes of a READ that have arrived. -/
  got : Nat
deriving DecidableEq, Repr

/-- A message that is arriving on a queue pair: its packets so far (R421, R428). -/
structure Inbound where
  /-- Its first PSN. -/
  start : Nat
  /-- A WRITE, or a SEND. -/
  write : Bool
  addr : Nat
  rkey : Nat
  /-- DMA length of a WRITE. -/
  len : Nat
  bytes : List Byte
  /-- Its queue was flushed while it arrived: the rest is dropped on arrival (R380). -/
  dropped : Bool
deriving DecidableEq, Repr

/-- A READ or an atomic that a peer has requested and that is not yet answered (R422, R423). -/
structure PeerRead where
  psn : Nat
  addr : Nat
  len : Nat
  /-- Response packets sent. -/
  packets : Nat
deriving DecidableEq, Repr

/-- A queue pair that is not as after reset (R414, R415). -/
structure Qp where
  num : Nat
  ctx0 : Word
  ctx1 : Word
  ctx2 : Word
  ctx3 : Word
  dgidLo : Word
  dgidHi : Word
  inbound : Option Inbound
  /-- An earlier WRITE message that arrives again. -/
  redo : Option Inbound
  /-- WRITE and atomic messages not yet acknowledged: their last PSN; for an atomic, the value read. -/
  acks : List (Nat × Option Word)
  reads : List PeerRead
  /-- The atomic cache: PSN and value, latest last, at most 16. -/
  atomics : List (Nat × Word)
  requests : List PeerReq
  /-- Retransmissions and RNR retries left. -/
  retries : Nat
  rnr : Nat
  /-- The rate limiter (R430): rc and rt in Mb/s, the gain a in units of 2^-32, and the model clocks of the last CNP
  received, of the last decay and of the last increase. -/
  rate : Nat
  target : Nat
  alpha : Nat
  lastCnp : Nat
  lastAlpha : Nat
  lastInc : Nat
  /-- The model clock of the last CNP sent. -/
  cnpSent : Option Nat
deriving DecidableEq, Repr

/-- The network besides its registers (chapter 13). -/
structure NetState where
  gids : List Gid
  mrs : List Mr
  qps : List Qp
  /-- Values staged for the next commit (R433): CTX1 to CTX3, DGID low and high; MR base and length; GID low and high. -/
  stageQp : List Word
  stageMr : List Word
  stageGid : List Word
  /-- Ports under PFC pause: port, and the model clock since which; those that event 199 has named. -/
  paused : List (Nat × Nat)
  said : List Nat
deriving DecidableEq, Repr

def NetState.reset : NetState :=
  { gids := [], mrs := [], qps := [], stageQp := List.replicate 5 0, stageMr := List.replicate 2 0,
    stageGid := List.replicate 2 0, paused := [], said := [] }
/-- A key command of a domain register page that runs (R440, R441). -/
structure KeyCmd where
  dom : Nat
  op : Nat
  slot : Nat
  wrapped : List Byte
deriving DecidableEq, Repr

/-- An entry of an XTS core's key cache (R442, R443): core, key domain, whether it is pinned, and the model clock of its last
use. -/
structure XtsEntry where
  core : Nat
  dom : Nat
  pinned : Bool
  used : Nat
deriving DecidableEq, Repr

/-- An entry of a GCM core's key cache (R444): core, the key's domain and slot, the key, and the model clock of its last use. -/
structure GcmEntry where
  core : Nat
  key : List Byte
  used : Nat
deriving DecidableEq, Repr

/-- The cipher cluster besides its registers (chapter 14). -/
structure CipState where
  /-- How many XTS key pairs each key domain has had before the one in use; unlisted: none. -/
  keys : List (Nat × Nat)
  /-- Key domains whose XTS entry failed its check tag at boot (R525). -/
  bad : List Nat
  /-- Keys of loaded GCM slots: domain, slot, key. -/
  slots : List (Nat × Nat × List Byte)
  cmds : List KeyCmd
  xts : List XtsEntry
  gcm : List GcmEntry
  /-- Keys taken by GCM descriptors at validation (R444): ring, handle, key. -/
  taken : List (Nat × Nat × List Byte)
  /-- The model clock since which a pinned key domain is no longer active (R442). -/
  idle : List (Nat × Nat)
  /-- Media dies whose near-path lane has failed (R446). -/
  lanes : List Nat
deriving DecidableEq, Repr

def CipState.reset : CipState :=
  { keys := [], bad := [], slots := [], cmds := [], xts := [], gcm := [], taken := [], idle := [], lanes := [] }
/-- A Payload flit in the replay buffer (R468): its sequence, what it carries, the model clock of its last transmission. -/
structure KlSent where
  seq : Nat
  tx : KlTx
  last : Nat
deriving DecidableEq, Repr

/-- A PmReq that the hub has sent: 1 L1, 2 L2; how often; the model clock of the first and of the last sending. -/
structure PmReq where
  want : Nat
  sent : Nat
  first : Nat
  last : Nat
deriving DecidableEq, Repr

/-- A Kilius port besides its registers (chapter 15). -/
structure KlPort where
  /-- Failed attempts in a row, and the model clock at which the next one starts (R459). -/
  tries : Nat
  backoff : Option Nat
  /-- The target is lowered to 16 Gb/s; the native step has failed in this training (R459). -/
  slow : Bool
  noNative : Bool
  /-- Align flits received; delays of the echoes received, by probe, in ps (R461). -/
  aligned : Nat
  echoes : List (Nat × Nat)
  /-- The transmitter: next sequence, replay buffer, what waits for a flit (R466, R468). -/
  txNext : Nat
  txBuf : List KlSent
  txWait : List KlTx
  /-- The last replay's first sequence, how many in a row began there, and the model clock at which it ends (R470). -/
  replayFrom : Option Nat
  replays : Nat
  replayEnd : Nat
  /-- The receiver: next sequence expected, a Payload flit has been received, Nak is set (R469). -/
  rxNext : Nat
  rxAny : Bool
  nak : Bool
  /-- By VC: CrdRet last received, credits used by the hub; CrdRet that the hub sends, slots received (R480). -/
  crdSeen : List Nat
  crdUsed : List Nat
  crdGiven : List Nat
  crdTaken : List Nat
  /-- Model clocks of the CRC errors of the last second; how many flits in a row have failed (R472). -/
  errs : List Nat
  badRun : Nat
  /-- Model clock of the last Payload flit sent or received (R475). -/
  lastPayload : Nat
  pm : Option PmReq
  /-- The partner has been given L1Allow (Table 15.4). -/
  l1Allow : Bool
  /-- Trigger of the retraining under way, and the model clock at which it, or L1, began (R472, R473). -/
  trigger : Nat
  since : Nat
deriving DecidableEq, Repr

def KlPort.reset : KlPort :=
  { tries := 0, backoff := none, slow := false, noNative := false, aligned := 0, echoes := [], txNext := 0, txBuf := [],
    txWait := [], replayFrom := none, replays := 0, replayEnd := 0, rxNext := 0, rxAny := false, nak := false,
    crdSeen := [0, 0, 0, 0], crdUsed := [0, 0, 0, 0], crdGiven := [0, 0, 0, 0], crdTaken := [0, 0, 0, 0], errs := [],
    badRun := 0, lastPayload := 0, pm := none, l1Allow := false, trigger := 0, since := 0 }
/-- A request of the hub to a customer agent (R487, R500): 0 read, 1 write, 2 atomic; who issued it; when its last slot left
the hub, unless it still waits there. -/
structure HubReq where
  agent : Nat
  tag : Nat
  kind : Nat
  addr : Nat
  len : Nat
  src : WinSrc
  tx : KlTx
  sent : Option Nat
deriving DecidableEq, Repr

/-- Bytes that an agent's ReadData brought for a reader, and which of its lines are poison. -/
structure KlAnswer where
  src : WinSrc
  addr : Nat
  bytes : List Byte
  poison : Nat
deriving DecidableEq, Repr

/-- A Barrier in the barrier store (R494). -/
structure KlBarrier where
  tag : Nat
  posted : Nat
  requests : Nat
deriving DecidableEq, Repr

/-- The hub's side of a customer agent (R493 to R500), besides its registers. -/
structure AgentState where
  /-- Posted Writes and requests received since Up. -/
  posted : Nat
  requests : Nat
  /-- Requests not yet answered: index, tag, and the lines of a write that are not yet accepted. -/
  waiting : List (Nat × Nat × Nat)
  /-- Posted Writes that are not yet performed: index, address, poison mask, bytes. -/
  queue : List (Nat × Nat × Nat × List Byte)
  /-- Posted Writes that failed: index and status. -/
  failed : List (Nat × Nat)
  /-- Posted Writes that the hub has sent since Up: how many, and each one's index, address, source and domain. -/
  sentPosted : Nat
  early : List (Nat × Nat × WinSrc × Nat)
  barriers : List KlBarrier
  /-- Interrupts that wait for a credit: vector and ring pair. -/
  irqs : List (Nat × Nat)
  /-- Model clocks of the Event messages accepted in the last second. -/
  events : List Nat
  /-- Requests to host memory that the host has not completed: tag, whether a write, and model clock (R501). -/
  host : List (Nat × Bool × Nat)
  nextTag : Nat
deriving DecidableEq, Repr

def AgentState.reset : AgentState :=
  { posted := 0, requests := 0, waiting := [], queue := [], failed := [], sentPosted := 0, early := [], barriers := [], irqs := [], events := [], host := [],
    nextTag := 0 }

/-- The transaction layer and the mesh besides their registers (chapter 16). -/
structure KtState where
  agents : List AgentState
  reqs : List HubReq
  /-- Answers that a reader has yet to take, and those that the command in hand has taken. -/
  answers : List KlAnswer
  given : List KlAnswer
  /-- Completions of descriptors that wait for an agent's Cmp: ring, handle, status, result. -/
  finishing : List (Nat × Nat × Nat × Nat)
  /-- Failures in a row of a flit, by mesh link: die, router, direction, count (R510). -/
  mesh : List (Nat × Nat × Nat × Nat)
  /-- The key of the home slices (R507). -/
  sliceKey : Word
  /-- KL_APT_BASE as written and not yet committed, by 16 times the agent plus the entry (R513). -/
  aptBase : List (Nat × Word)
deriving DecidableEq, Repr

def KtState.reset : KtState :=
  { agents := [AgentState.reset, AgentState.reset], reqs := [], answers := [], given := [], finishing := [], mesh := [],
    sliceKey := 0, aptBase := [] }
/-- A write that waits for, or is in, the parameter store's write engine (R531, R533): what is left of it. -/
structure PsWrite where
  /-- 0 the register path, 1 firmware, 2 margin refresh. -/
  source : Nat
  addr : Nat
  bytes : List Byte
deriving DecidableEq, Repr

/-- A KEK command that runs (R526): its op, its domain, and the import block where domain 0 can read it. -/
structure KekCmd where
  op : Nat
  dom : Nat
  block : Option (List Byte)
deriving DecidableEq, Repr

/-- Privet, besides its registers (chapter 17). -/
structure PvState where
  /-- The parameter store's bytes; unlisted: 0.  The records of kinds 2 to 6 and the persistent log are kept where they are
  used. -/
  cells : List Host.Cell
  writes : List PsWrite
  /-- A read that waits for the page being written: address and length (R532). -/
  stalled : Option (Nat × Nat)
  /-- The secrets partition: KEKs by key domain. -/
  keks : List (Nat × List Byte)
  kek : Option KekCmd
  /-- How many UDSs the device has had before the one in use (R524, R529). -/
  uds : Nat
  /-- The key store has been filled (R524). -/
  provisioned : Bool
  /-- The DeviceID certificate chains to the Genhoren root (R529). -/
  endorsed : Bool
  /-- Boot selection (kind 3): bank B is active; the pending bank (true: B); TrialCount (R518). -/
  active : Bool
  pending : Option Bool
  trials : Nat
  /-- The header of the running image (R517). -/
  image : Option FlashBank
  /-- The bank that Transfer FW last wrote whole, and a transfer under way: bytes written so far. -/
  lastBank : Option Bool
  transfer : Option Nat
  /-- The fused SVN. -/
  svn : Nat
  /-- A bank that failed a component check since the last start (R520). -/
  failed : Option Bool
  /-- The step of a debug opening last completed, and its Scope; the DebugErase flag (kind 6). -/
  opening : Nat
  scope : Nat
  debugErase : Bool
  /-- The sizes in force besides WIN_SIZE (R227, R274): F-cache plots, snapshot plots, namespace units, snapshot units. -/
  sizes : List Nat
deriving DecidableEq, Repr

def PvState.reset : PvState :=
  { cells := [], writes := [], stalled := none, keks := [], kek := none, uds := 0, provisioned := false, endorsed := false,
    active := false, pending := none, trials := 0, image := none, lastBank := none, transfer := none, svn := 0, failed := none,
    opening := 0, scope := 0, debugErase := false, sizes := [0, 0, 0, 0] }
/-- Power sequencing and thermal supervision besides its registers (chapter 18). -/
structure PwState where
  /-- Privet is held in reset by a trip; Privet has booted; its PWR_ and THM_ entries have been applied (R545). -/
  inReset : Bool
  booted : Bool
  configured : Bool
  /-- Privet or its crystal is lost: no service (R616). -/
  lost : Bool
  /-- The trip flag, on the standby rail (R567), and the model clock of the trip. -/
  trip : Bool
  tripAt : Nat
  /-- PF_WARN_N is asserted, filtered. -/
  pfWarn : Bool
  /-- The model clock at which the step under way was enabled or disabled. -/
  stepAt : Nat
  /-- Drops of the rails of this attempt, and when each last fell (R545). -/
  drops : List (Nat × Nat × Nat)
  /-- The start holds after Step 0 since this model clock (R567). -/
  hold : Option Nat
  /-- The state that the reverse power-down ends in. -/
  after : Nat
  /-- The model clock at which Backoff, On or WaitInput began, and that of the last fault in On (R547, R553). -/
  since : Nat
  /-- The model clock of the flush's trigger, and of PmReq L2 (R552, R476). -/
  stopAt : Nat
  l2At : Option Nat
  /-- A hold-up test under way: V0 in mV and the model clock; and one that waits for On (R555, R557). -/
  test : Option (Nat × Nat)
  /-- The model clock of the last hold-up test. -/
  tested : Nat
  /-- HU_LOAD_EN. -/
  load : Bool
  /-- Consecutive good samples of each failed sensor; the sensors that have been named in event 23 (R560, R561). -/
  goods : List (Nat × Nat)
  lonely : List Nat
  /-- The temperature at each diode's last sample, and the model clock of it (R197); at the last retraining (R172). -/
  sampled : List (Nat × Nat)
  retrainTemp : List (Nat × Int)
  /-- Each throttle loop's last rise, and since when all its sensors have been clear: loop, model clock (R563, R564). -/
  rose : List (Nat × Nat)
  clearSince : List (Nat × Nat)
  powerClear : Option Nat
  /-- The model clock at which the current power-on began (event 14). -/
  startAt : Nat
  /-- A unit has been lost since the last start-up (Table 20.3). -/
  lossy : Bool
  /-- A hold-up test is due: the start-up test, or one that was deferred (R557). -/
  due : Bool
  /-- The step of a cold reset that is under way (R605; 0: none), its kind (PV_RESET_STATUS), and its model clock. -/
  cold : Nat
  coldKind : Nat
  coldAt : Nat
  /-- What PV_RESET_STATUS shows of the reset that the next boot or start follows. -/
  resetKind : Nat
  resetTime : Nat
  resetClean : Bool
  /-- A maintenance self-test (R621): 1 quiescing, 2 checkpoints, 3 classes; the classes still to run; the units that have failed
  one since the last power-on, as PV_UNITS_LOST shows them. -/
  selfStep : Nat
  selfLeft : List Nat
  failedUnits : Nat
  /-- This start-up has lowered WIN_SIZE (R81). -/
  shrunk : Bool
deriving DecidableEq, Repr

def PwState.reset : PwState :=
  { inReset := false, booted := false, configured := false, lost := false, trip := false, tripAt := 0, pfWarn := false,
    stepAt := 0, drops := [], hold := none, after := 0, since := 0, stopAt := 0, l2At := none, test := none, tested := 0,
    load := false, goods := [], lonely := [], sampled := [], retrainTemp := [], rose := [], clearSince := [],
    powerClear := some 0, startAt := 0, lossy := false, due := false, cold := 0, coldKind := 0, coldAt := 0, resetKind := 1, resetTime := 0,
    resetClean := false, selfStep := 0, selfLeft := [], failedUnits := 0, shrunk := false }

/-- The state of the block. -/
structure State where
  /-- Which of the three parts it is (Table 0.1); nothing changes it. -/
  part : Part
  /-- Nanoseconds since State.reset: the model's own clock, from which elapsed times are taken. -/
  clk : Nat
  /-- Every register of the block tables, by Espalier address; unlisted: its reset value. -/
  regs : List (Nat × Word)
  /-- How many free values have been drawn (the model's own). -/
  free : Nat
  /-- Every message, response and pin edge that left the block, oldest first (the model's own). -/
  out : List Msg
  time : TimeState
  obs : ObsState
  win : WinState
  /-- Quickset, in the order of first acceptance. -/
  qs : List QsEntry
  lc : LcState
  mt : MtState
  /-- The window's and the F-tier's journalled metadata. -/
  md : Meta
  fm : FtMeta
  ft : FtState
  top : TopState
  per : PerState
  rg : RingState
  pv : PvState
  hz : HzState
  net : NetState
  cip : CipState
  /-- The Kilius ports K0 to K10. -/
  kl : List KlPort
  /-- The transaction layer. -/
  kt : KtState
  /-- Power sequencing and thermal supervision. -/
  pw : PwState
  /-- The commands that wait, first in first out. -/
  pending : List Instr
deriving DecidableEq, Repr

/-- A part after the application of its standby rail, before Privet boots. Assumptions 3 (DESIGN CHOICE), 6 (DEDUCED). -/
def State.resetOf (p : Part) : State :=
  { part := p, clk := 0, regs := [], free := 0, out := [],
    time := TimeState.reset, obs := ObsState.reset,
    win := WinState.reset, qs := [], lc := LcState.reset, mt := MtState.reset, md := Meta.empty,
    fm := FtMeta.empty, ft := FtState.reset, top := TopState.reset, per := PerState.reset, rg := RingState.reset,
    pv := PvState.reset, hz := HzState.reset, net := NetState.reset, cip := CipState.reset,
    kl := List.replicate 11 KlPort.reset, kt := KtState.reset, pw := PwState.reset, pending := [] }

/-- The block after reset: the part with customer sites, which has every unit that the specification describes.
Assumptions 1 (DESIGN CHOICE), 3 (DESIGN CHOICE), 6 (DEDUCED). -/
def State.reset : State := State.resetOf .mhl8082

end Sys2Proof.Machine
end

