-- ==== Sys2Proof/Machine/Store.lean ====
section
/-!
DEFINITION. Sparse tables kept in one canonical form: keys strictly rising, and no entry equal to
the value that an unlisted key reads as.  Registers and every addressed memory of the block use them.
-/
namespace Sys2Proof.Machine

/-- Keys strictly rising. -/
def Store.sorted {β : Type} : List (Nat × β) → Bool
  | [] => true
  | [_] => true
  | a :: b :: rest => decide (a.1 < b.1) && Store.sorted (b :: rest)

/-- The canonical form of a table in which key `k` reads as `d k` when unlisted. -/
def Store.wf {β : Type} [DecidableEq β] (d : Nat → β) (l : List (Nat × β)) : Bool :=
  Store.sorted l && l.all (fun e => decide (e.2 ≠ d e.1))

/-- The entry of a key, if listed. -/
def Store.find? {β : Type} : List (Nat × β) → Nat → Option β
  | [], _ => none
  | (k, v) :: rest, a => if k = a then some v else Store.find? rest a

/-- What a key reads as. -/
def Store.read {β : Type} (d : Nat → β) (l : List (Nat × β)) (a : Nat) : β :=
  (Store.find? l a).getD (d a)

/-- Put an entry at its place, replacing one with the same key. -/
def Store.insert {β : Type} (a : Nat) (v : β) : List (Nat × β) → List (Nat × β)
  | [] => [(a, v)]
  | (k, w) :: rest =>
    if a < k then (a, v) :: (k, w) :: rest
    else if a = k then (a, v) :: rest
    else (k, w) :: Store.insert a v rest

/-- Remove the entry of a key. -/
def Store.erase {β : Type} (a : Nat) : List (Nat × β) → List (Nat × β)
  | [] => []
  | (k, w) :: rest => if k = a then Store.erase a rest else (k, w) :: Store.erase a rest

/-- Write a key, keeping the canonical form. -/
def Store.write {β : Type} [DecidableEq β] (d : Nat → β) (a : Nat) (v : β)
    (l : List (Nat × β)) : List (Nat × β) :=
  if v = d a then Store.erase a l else Store.insert a v l

end Sys2Proof.Machine
end

