-- ==== Sys2Proof/Machine/Ops.lean ====
section
/-!
DEFINITION. The named operations that every family shares: what each part provides, register reads and
writes, free values, events, messages and counts.
-/
namespace Sys2Proof

/-! ### What a part provides (Table 0.1) -/

/-- Media dies of a part. -/
def Part.dies : Part → Nat
  | .mhl4040 => 4
  | _ => 8

/-- HBM3E stacks of a part. -/
def Part.stacks : Part → Nat
  | .mhl4040 => 2
  | _ => 4

/-- Customer sites of a part. -/
def Part.sites : Part → Nat
  | .mhl8082 => 2
  | _ => 0

/-- Hazel cores of a part. -/
def Part.cores (p : Part) : Nat := 32 * p.dies

/-- The smaller part. -/
def Part.small (p : Part) : Bool := p == .mhl4040

/-- A figure that the MHL-4040 halves. -/
def Part.pick (p : Part) (full small : Nat) : Nat := if p.small then small else full

/-- Kilius ports present (Table 1.1). -/
def Part.port (p : Part) (k : Nat) : Bool :=
  k = 10 || k < p.dies || (8 ≤ k && k < 8 + p.sites)

/-- Rails a part has (Table 18.1). -/
def Part.rail (p : Part) (n : Nat) : Bool :=
  if n = 13 || n = 14 then !p.small else if n = 21 || n = 22 then p == .mhl8082 else n < 24

/-- Sensors a part has (R558). -/
def Part.sensor (p : Part) (n : Nat) : Bool :=
  if p.small then
    n < 16 || (32 ≤ n && n < 40) || (48 ≤ n && n < 80) || (92 ≤ n && n < 94)
  else n < 96

end Sys2Proof

namespace Sys2Proof.Machine

/-! ### Bit fields -/

/-- Bits `[lo+w-1:lo]` of a register value. -/
def bits (v : Word) (lo w : Nat) : Nat := v.toNat / 2 ^ lo % 2 ^ w

/-- A register value with bits `[lo+w-1:lo]` replaced. -/
def putBits (v : Word) (lo w x : Nat) : Word :=
  BitVec.ofNat 64 (v.toNat / 2 ^ (lo + w) * 2 ^ (lo + w) + x % 2 ^ w * 2 ^ lo + v.toNat % 2 ^ lo)

/-- An increment that saturates at the width given. -/
def satInc (w n : Nat) : Nat := min (n + 1) (2 ^ w - 1)

/-! ### Register reset values and access masks -/

/-- Rail `n` of Table 18.1: its step and its OnFault code. -/
def railRow : List (Nat × Nat) :=
  [(0, 1), (0, 1), (1, 1), (1, 1), (2, 1), (2, 0), (2, 2), (3, 2), (3, 1), (4, 1), (5, 1), (6, 1),
   (6, 1), (6, 1), (6, 1), (7, 1), (7, 2), (8, 1), (8, 2), (9, 1), (9, 2), (6, 2), (6, 2), (9, 0)]

/-- Reset value of PWR_SEQ_TABLE[n]: Step, OnFault, Used 1, StableMs 2, WindowMs 20. -/
def seqTableReset (p : Part) (n : Nat) : Nat :=
  if p.rail n then
    match railRow[n]? with
    | some (st, of) => st + of * 16 + 64 + 2 * 256 + 20 * 65536
    | none => 0
  else 0

/-- Reset value of THM_LIMIT[n]. -/
def thmLimitReset (p : Part) (n : Nat) : Nat :=
  if p.sensor n then
    if n < 32 then 0x009F9590
    else if n < 48 then 0x00908681
    else if n < 56 then
      0x9A9086 + ((if n = 48 then 0 else 2 ^ (n - 49)) + (if n = 55 then 0 else 2 ^ (n - 47))) * 2 ^ 24
    else 0x00B8AEA4
  else 0

/-- Reset value of Q_CFG of queue `q`: depth, policy and spill quota (Tables 11.15 and 11.18). -/
def qCfgReset (p : Part) (q : Nat) : Nat :=
  if q < 16 then 10
  else if q = 16 then 6 + 16
  else if 32 ≤ q && q < p.pick 96 64 then 16 + 32 * 256
  else if 96 ≤ q && q < p.pick 112 104 then 64 * 256
  else if 128 ≤ q && q < p.pick 640 384 then 4
  else 0

/-- A row's reset value at instance `k` of its block and element `i`. -/
def Rst.val (p : Part) (r : Rst) (k i : Nat) : Nat :=
  match r with
  | .const v => v
  | .byPart v v4 => p.pick v v4
  | .ldBind => if i = 0 then 0x400 else 0
  | .klLinkCfg => if k < 8 then 0x401D else if k < 10 then 0x401E else 0x401C
  | .seqTable => seqTableReset p i
  | .thmLimit => thmLimitReset p i
  | .ftStream => if i < 4 then 4 else if i = 4 then 8 else if i = 5 then 2 else if i = 6 then 4 else 0x41
  | .qCfg => qCfgReset p k

/-- The element of a row that lies at an offset, if one does: its two indices. -/
def RegRow.elem? (r : RegRow) (o : Nat) : Option (Nat × Nat) :=
  if o < r.off then none
  else
    let x := o - r.off
    if r.count = 1 then if x = 0 then some (0, 0) else none
    else
      let i := x / r.stride
      let y := x % r.stride
      if r.count ≤ i then none
      else if r.count2 = 1 then if y = 0 then some (i, 0) else none
      else
        let e := y / r.stride2
        if y % r.stride2 = 0 && e < r.count2 then some (i, e) else none

/-- The row and the element at an offset of a block. -/
def rowAt : List RegRow → Nat → Option (RegRow × Nat)
  | [], _ => none
  | r :: rest, o => match r.elem? o with
    | some (i, _) => some (r, i)
    | none => rowAt rest o

/-- The instance of a block that holds an address: its two indices and the offset in it. -/
def RegBlock.inst? (b : RegBlock) (a : Nat) : Option (Nat × Nat × Nat) :=
  if a < b.base then none
  else
    let x := a - b.base
    let i := if b.c1 = 1 then 0 else x / b.s1
    let y := if b.c1 = 1 then x else x % b.s1
    let j := if b.c2 = 1 then 0 else y / b.s2
    let o := if b.c2 = 1 then y else y % b.s2
    if i < b.c1 && j < b.c2 && o < b.size then some (i, j, o) else none

/-- Where an address lies in the register map: the row, the block's two indices and the element index. -/
structure RegPlace where
  row : RegRow
  base : Nat
  k : Nat
  j : Nat
  i : Nat
deriving DecidableEq, Repr

def findReg : List RegBlock → Nat → Option RegPlace
  | [], _ => none
  | b :: rest, a => match b.inst? a with
    | some (k, j, o) => match rowAt b.rows o with
      | some (r, i) => some { row := r, base := b.base, k := k, j := j, i := i }
      | none => findReg rest a
    | none => findReg rest a

/-- Whether the part provides the unit whose register this is (R2, R4). -/
def RegPlace.present (p : Part) (x : RegPlace) : Bool :=
  if 0xF00040000000 ≤ x.base && x.base < 0xF00060000000 then x.k < p.dies
  else if x.base = blockKlLink.base then p.port x.k
  else if x.base = blockKlAgent.base then x.k < p.sites
  else if x.base = blockQ.base then
    x.k ≤ 16 || (32 ≤ x.k && x.k < p.pick 96 64) || (96 ≤ x.k && x.k < p.pick 112 104)
      || (128 ≤ x.k && x.k < p.pick 640 384)
  else if x.base = blockPmcCnt.base then
    !(504 ≤ x.k && x.k < 512) && (!p.small || x.k < 896 || (1152 ≤ x.k && x.k < 2176))
  else if x.base = blockThm.base && (0x400 ≤ x.row.off) then p.sensor x.i
  else if x.base = blockPwr.base && x.row.off = 0x100 then p.rail x.i
  else if x.base = blockWin.base && 0x1000 ≤ x.row.off then !p.small || x.i < 32
  else if x.base = blockMtInt.base && x.row.off = 0x30 then x.i < p.dies
  else if x.base = blockNet.base && 0x100 ≤ x.row.off then !p.small || x.i < 8
  else true

/-- The reset value of the register at an address; 0 where the tables place none (R12). Assumption 3 (DESIGN CHOICE). -/
def regReset (p : Part) (a : Nat) : Word :=
  match findReg regBlocks a with
  | some x => if x.present p then BitVec.ofNat 64 (x.row.rst.val p x.k x.i) else 0
  | none => 0

namespace State

/-! ### Registers -/

/-- What a register holds. -/
def reg (s : State) (a : Nat) : Word := Store.read (regReset s.part) s.regs a

/-- Replace what a register holds. -/
def setReg (s : State) (a : Nat) (v : Word) : State :=
  { s with regs := Store.write (regReset s.part) a v s.regs }

/-- A field of a register. -/
def get (s : State) (f : Fld) : Nat := bits (s.reg f.reg) f.lo f.w

/-- Replace a field of a register. -/
def set (s : State) (f : Fld) (x : Nat) : State :=
  s.setReg f.reg (putBits (s.reg f.reg) f.lo f.w x)

/-- A one-bit field. -/
def on (s : State) (f : Fld) : Bool := s.get f != 0

/-- Set a one-bit field. -/
def put (s : State) (f : Fld) (b : Bool) : State := s.set f (if b then 1 else 0)

/-- Increment a count field, saturating. -/
def bump (s : State) (f : Fld) : State := s.set f (satInc f.w (s.get f))

/-- Add to a count field, saturating. -/
def bumpBy (s : State) (f : Fld) (n : Nat) : State := s.set f (min (s.get f + n) (2 ^ f.w - 1))

/-- Set bit `k` of a field. -/
def setBit (s : State) (f : Fld) (k : Nat) (b : Bool) : State :=
  s.put { reg := f.reg, lo := f.lo + k, w := 1 } b

/-- Bit `k` of a field. -/
def bit (s : State) (f : Fld) (k : Nat) : Bool := s.on { reg := f.reg, lo := f.lo + k, w := 1 }

/-! ### Free values -/

/-- The value of the next draw. Assumption 4 (DESIGN CHOICE). -/
def freeWord (s : State) : Word := Config.freeWord s.free

/-- The state after a draw. Assumption 4 (DESIGN CHOICE). -/
def drew (s : State) : State := { s with free := s.free + 1 }

/-! ### Messages and events -/

/-- Send a message out of the block. -/
def send (s : State) (m : Msg) : State := { s with out := s.out ++ [m] }

/-- The time that an event or a record takes: the DTB, or Privet's replica while the hub is unpowered (R52). -/
def nowDtb (s : State) : Nat := if s.time.running then s.time.dtb else s.time.privet

/-- DTB seconds. -/
def nowSec (s : State) : Nat := s.nowDtb / 1000000000

/-- Raise an event about a window address (R575). Assumption 17 (DEDUCED). -/
def raiseAt (s : State) (src sev code dom : Nat) (data : List (Nat × Nat)) (addr : Option Nat) : State :=
  { s with obs := { s.obs with raised := s.obs.raised ++
      [{ src := src, sev := sev, code := code, dom := dom, time := s.nowDtb,
         unsynced := !s.on F.tbStatusEverSynced, data := data, addr := addr }] } }

/-- Raise an event (R575). Assumption 43 (DEDUCED). -/
def raise (s : State) (src sev code dom : Nat) (data : List (Nat × Nat)) : State :=
  s.raiseAt src sev code dom data none

/-- Raise an event whose one 4-byte datum is a code that the specification names but does not number. -/
def raiseFree (s : State) (src sev code dom : Nat) : State :=
  (s.raise src sev code dom [(4, s.freeWord.toNat % 2 ^ 32)]).drew

end State

/-- No domain (Table 19.3). -/
def noDom : Nat := 0x3FF

/-- Severities (R20). -/
def sevDebug : Nat := 0
def sevInfo : Nat := 1
def sevNotice : Nat := 2
def sevWarning : Nat := 3
def sevError : Nat := 4
def sevCritical : Nat := 5
def sevFatal : Nat := 6

/-- A 4-byte and an 8-byte datum of an event (R574). Assumption 17 (DEDUCED). -/
def d4 (v : Nat) : Nat × Nat := (4, v % 2 ^ 32)
def d8 (v : Nat) : Nat × Nat := (8, v % 2 ^ 64)

end Sys2Proof.Machine
end

