-- ==== Sys2Proof/Machine/Pmc.lean ====
section
/-!
DEFINITION. Event counters (R589 to R594) and bandwidth windows (R595, R596).
-/
namespace Sys2Proof.Machine

/-- A port number that the mode of its lane group uses (R410, Table 13.1) and the part provides. -/
def ethInMode (mode l : Nat) : Bool :=
  if mode = 0 then l = 0 else if mode = 1 then l % 4 = 0 else if mode = 2 then l % 2 = 0 else true

/-- Whether Ethernet port `p` exists in the mode of its lane group. -/
def State.ethPresent (s : State) (p : Nat) : Bool :=
  if p < 8 then ethInMode (s.get F.netLaneCfgMode0) p
  else p < 16 && !s.part.small && ethInMode (s.get F.netLaneCfgMode1) (p - 8)

/-! ### Counters (R589 to R594) -/

/-- The PMC_SEL fields of a counter. -/
def Counter.event (c : Counter) : Nat := c.sel % 256
def Counter.enabled (c : Counter) : Bool := c.sel / 256 % 2 = 1
def Counter.sampling (c : Counter) : Bool := 1152 ≤ c.idx && c.sel / 512 % 2 = 1
def Counter.qual (c : Counter) : Nat := c.sel / 4096 % 256
/-- The sampling period, 0 treated as 1. -/
def Counter.period (c : Counter) : Nat := max 1 (c.sel / 4096 % 2 ^ 20)

/-- The counter group of a counter (Table 19.5). -/
def counterGroup (n : Nat) : Nat :=
  if n < 96 then 0 else if n < 160 then 1 else if n < 192 then 2 else if n < 224 then 3
  else if n < 256 then 4 else if n < 384 then 5 else if n < 416 then 6 else if n < 512 then 7
  else if n < 576 then 8 else if n < 608 then 9 else if n < 640 then 10
  else if n < 1152 then 16 + (n - 640) / 64 else 24 + (n - 1152) / 256

/-- Whether the part has a counter (R589). -/
def counterPresent (p : Part) (n : Nat) : Bool :=
  n < 3200 && !(504 ≤ n && n < 512) && (!p.small || n < 896 || (1152 ≤ n && n < 2176))

/-- The event codes of a counter's unit: lowest and one past the highest (Table 19.6). -/
def counterCodes (n : Nat) : Nat × Nat :=
  if n < 96 then (0x10, 0x1A) else if n < 160 then (0x20, 0x28) else if n < 192 then (0x30, 0x35)
  else if n < 224 then (0x38, 0x3B) else if n < 256 then (0x40, 0x44) else if n < 384 then (0x48, 0x4F)
  else if n < 416 then (0x50, 0x53) else if n < 504 then (0x58, 0x5E) else if n < 576 then (0x60, 0x62)
  else if n < 608 then (0x68, 0x6B) else if n < 640 then (0x70, 0x76)
  else if n < 1152 then
    let k := (n - 640) % 64
    if k < 16 then (0x80, 0x88) else if k < 48 then (0x90, 0x94) else (0x98, 0x9C)
  else (0xA1, 0xAF)

/-- Whether a code is listed for the counter's unit (R590). -/
def codeListed (n code : Nat) : Bool :=
  code = 0 || code = 1 || ((counterCodes n).1 ≤ code && code < (counterCodes n).2)

/-- Codes that Qual narrows (R590), marked (q) in Table 19.6. -/
def codeQualified (code : Nat) : Bool :=
  [0x10, 0x11, 0x13, 0x14, 0x5A, 0x5B, 0x5D, 0x60, 0x61, 0x71].contains code

namespace State

/-- The entry of a counter; one that software has not touched is zero. -/
def counter (s : State) (n : Nat) : Counter :=
  (s.obs.counters.find? (fun c => c.idx = n)).getD { idx := n, cnt := 0, sel := 0, ovf := false }

/-- Replace the entry of a counter. -/
def setCounter (s : State) (c : Counter) : State :=
  { s with obs := { s.obs with counters := s.obs.counters.filter (fun x => x.idx != c.idx) ++ [c] } }

/-- A group is frozen (R593). -/
def frozen (s : State) (n : Nat) : Bool :=
  s.bit F.pmcFrozenGroups (counterGroup n) || (1152 ≤ n && s.obs.frozenCores.contains ((n - 1152) / 8))

/-- A counter that is not a sampling counter wraps (R591). -/
def wrapCounter (s : State) (c : Counter) (cnt : Nat) : State :=
  let s' := s.setCounter { c with cnt := cnt, ovf := true }
  if c.ovf then s' else s'.raise 24 sevNotice 1 noDom [d4 c.idx]

/-- Add to one counter. -/
def addCounter (n : Nat) (s : State) (c : Counter) : State :=
  let v := c.cnt + n
  if v < 2 ^ 48 then s.setCounter { c with cnt := v }
  else if c.sampling then s.setCounter { c with cnt := 2 ^ 48 - 1 }
  else s.wrapCounter c (v % 2 ^ 48)

/-- `n` occurrences of an event code in the counters `lo` to `hi - 1` of a unit (R590). -/
def count (s : State) (lo hi code qual n : Nat) : State :=
  (s.obs.counters.filter (fun c => lo ≤ c.idx && c.idx < hi && c.enabled && c.event = code
      && !s.frozen c.idx && (!codeQualified code || c.qual = 0xFF || c.qual = qual))).foldl (addCounter n) s

/-- 64-byte units of a transfer, rounded up (R590, R595). -/
def units64 (bytes : Nat) : Nat := (bytes + 63) / 64

/-- Events of a Kilius port (R590). -/
def cKl (s : State) (k code vc n : Nat) : State := s.count (416 + 8 * k) (424 + 8 * k) code vc n

/-! ### Bandwidth windows (R595, R596) -/

/-- Whether the port of a bandwidth window exists. -/
def bwPresent (s : State) (p : Nat) : Bool :=
  if p = 0 then true
  else if p = 1 then s.on F.winPortCfgSplitP0
  else if p = 2 then !s.part.small
  else if p = 3 then !s.part.small && s.on F.winPortCfgSplitP1
  else if 8 ≤ p && p < 24 then s.ethPresent (p - 8)
  else if 32 ≤ p && p < 43 then s.part.port (p - 32)
  else 48 ≤ p && p < 48 + s.part.stacks

/-- Open a bandwidth window for `us` microseconds, or refuse. -/
def openBw (s : State) (p us : Nat) : State :=
  if s.bwPresent p && !s.obs.bw.any (fun w => w.idx = p) then
    let s := ((s.set (F.pmcBwInCount p) 0).set (F.pmcBwOutCount p) 0).setReg (R.pmcBwPeak p) 0
    let s := (s.setReg (R.pmcBwStart p) (BitVec.ofNat 64 s.nowDtb)).put (F.pmcBwCtlStart p) true
    let t := s.nowDtb
    { s with obs := { s.obs with bw := s.obs.bw ++
        [{ idx := p, until_ := t + max 1 us * 1000, us := t / 1000, usIn := 0, usOut := 0 }] } }
  else if p < 64 then s.put (F.pmcBwCtlRefused p) true
  else s

/-- Count a transfer of bytes toward the device and away from it on a port. -/
def traffic (s : State) (p inB outB : Nat) : State :=
  match s.obs.bw.find? (fun w => w.idx = p) with
  | none => s
  | some w =>
    let us := s.nowDtb / 1000
    let i := (if us = w.us then w.usIn else 0) + units64 inB
    let o := (if us = w.us then w.usOut else 0) + units64 outB
    let s := { s with obs := { s.obs with bw := s.obs.bw.map (fun (x : BwWindow) =>
      if x.idx = p then { x with us := us, usIn := i, usOut := o } else x) } }
    let s := (s.bumpBy (F.pmcBwInCount p) (units64 inB)).bumpBy (F.pmcBwOutCount p) (units64 outB)
    (s.set (F.pmcBwPeakIn p) (max (s.get (F.pmcBwPeakIn p)) (min i 65535))).set (F.pmcBwPeakOut p)
      (max (s.get (F.pmcBwPeakOut p)) (min o 65535))

end State
end Sys2Proof.Machine
end

