-- ==== Sys2Proof/Machine/Flits.lean ====
section
/-!
DEFINITION. What the hub sends on a Kilius port: transactions and messages, their virtual channels and credits (R479 to R481,
R493, R494), Payload flits, their numbering and the replay buffer (R466, R468, R470).
-/
namespace Sys2Proof.Machine

/-- The virtual channel of what the hub sends (Tables 16.1, 16.3 and 16.4). -/
def KlTx.vc : KlTx → Nat
  | .read .. => 0
  | .writeNp .. => 0
  | .atomic .. => 0
  | .write .. => 2
  | .cmp .. => 1
  | .readData .. => 1
  | .atomicData .. => 1
  | _ => 3

/-- The Data slots of a range (R484). -/
def dataSlots (addr len : Nat) : Nat := (addr + (len - 1)) / 64 - addr / 64 + 1

/-- Its Data slots. -/
def KlTx.slots : KlTx → Nat
  | .writeNp _ _ _ a _ b => dataSlots a b.length
  | .write _ _ a _ b => dataSlots a b.length
  | .readData _ _ _ b => (b.length + 63) / 64
  | _ => 0

/-- The credits that it uses (R480, R481). -/
def KlTx.credits : KlTx → Nat
  | .time .. => 0
  | t => 1 + t.slots

def portReset : Nat := 0
def portTraining : Nat := 1
def portUp : Nat := 2
def portRetraining : Nat := 3
def portL1 : Nat := 4
def portDown : Nat := 5

def addAt (l : List Nat) (i n : Nat) : List Nat := l.set i ((l[i]?).getD 0 + n)

/-- Nanoseconds that a flit takes at a port's rate and width, rounded up (Table 15.1, R455). -/
def flitNs (lanes gbps : Nat) : Nat := (2304 + lanes * gbps - 1) / (lanes * gbps)

namespace State

def klPort (s : State) (k : Nat) : KlPort := (s.kl[k]?).getD KlPort.reset

def setKl (s : State) (k : Nat) (p : KlPort) : State := { s with kl := s.kl.set k p }

def klState (s : State) (k : Nat) : Nat := s.get (F.klLinkStatusState k)

/-- A port of the part that is Up. -/
def portIsUp (s : State) (k : Nat) : Bool := s.part.port k && s.klState k = portUp

/-- Credits of a VC that the hub holds (R480). -/
def credits (s : State) (k vc : Nat) : Nat :=
  (((s.klPort k).crdSeen[vc]?).getD 0 + 256 - ((s.klPort k).crdUsed[vc]?).getD 0 % 256) % 256

/-- KL_AGENT_CREDITS of a customer port. -/
def showCredits (s : State) (k : Nat) : State :=
  if k = 8 || k = 9 then
    s.setReg (R.klAgentCredits (k - 8)) (BitVec.ofNat 64 (s.credits k 0 + 256 * s.credits k 1 + 65536 * s.credits k 2
      + 16777216 * s.credits k 3))
  else s

/-- The port may send it now: it is Up, the replay buffer has room, and its VC has the credits. -/
def klMay (s : State) (k : Nat) (t : KlTx) : Bool :=
  s.portIsUp k && (s.klPort k).txBuf.length < 64 && t.credits ≤ s.credits k t.vc

/-- Put it in a Payload flit of its own (R466, R468). -/
def klOut (s : State) (k : Nat) (t : KlTx) : State :=
  let p := s.klPort k
  let s := s.setKl k { p with txNext := (p.txNext + 1) % 256, lastPayload := s.clk,
                              txBuf := p.txBuf ++ [{ seq := p.txNext, tx := t, last := s.clk }],
                              crdUsed := addAt p.crdUsed t.vc t.credits }
  let s := ((s.cKl k 0x58 0 1).cKl k 0x5B t.vc (1 + t.slots)).traffic (32 + k) 0 (64 * t.slots)
  (s.send (.kilius k p.txNext false t)).showCredits k

/-- Send it, or keep it while its port has no room or credit, retrains or is in L1; a port that is down takes nothing (R498). -/
def klSend (s : State) (k : Nat) (t : KlTx) : State :=
  let p := s.klPort k
  if s.klMay k t && !p.txWait.any (fun x => x.vc = t.vc) then s.klOut k t
  else if s.part.port k && 2 ≤ s.klState k && s.klState k ≤ 4 then s.setKl k { p with txWait := p.txWait ++ [t] }
  else s

/-- PmReq L2 on every port that is Up (R476). -/
def pmL2 (s : State) : State :=
  let s := (List.range 11).foldl (fun s k =>
    if s.portIsUp k then
      (s.setKl k { s.klPort k with pm := some { want := 2, sent := 1, first := s.clk, last := s.clk } }).send (.klControl k 4 2)
    else s) s
  { s with pw := { s.pw with l2At := some s.clk } }

/-! ### Customer agents -/

def agentSt (s : State) (a : Nat) : AgentState := (s.kt.agents[a]?).getD AgentState.reset

def setAgentSt (s : State) (a : Nat) (x : AgentState) : State := { s with kt := { s.kt with agents := s.kt.agents.set a x } }

/-- KL_AGENT_OUT. -/
def showOut (s : State) (a : Nat) : State :=
  if s.part.sites ≤ a then s
  else (s.set (F.klAgentOutHubOut a) ((s.kt.reqs.filter (fun r => r.agent = a && r.sent.isSome)).length)).set
    (F.klAgentOutAgentOut a) ((s.agentSt a).waiting.length)

/-- An Interrupt message; without a credit it is pending, one for a vector (R493). -/
def klInterrupt (s : State) (a vector ring : Nat) : State :=
  let t := KlTx.interrupt vector ring
  if s.klMay (8 + a) t && !(s.klPort (8 + a)).txWait.any (fun x => x.vc = 3) then s.klOut (8 + a) t
  else if 2 ≤ s.klState (8 + a) && s.klState (8 + a) ≤ 4 then
    let x := s.agentSt a
    if x.irqs.any (fun i => i.1 = vector) then s else s.setAgentSt a { x with irqs := x.irqs ++ [(vector, ring)] }
  else s

/-- A PostedError message, or its count where no credit is available (R494). -/
def klPostedError (s : State) (a addr status index : Nat) : State :=
  let t := KlTx.postedError addr status index
  if s.klMay (8 + a) t then s.klOut (8 + a) t else s.bump (F.klAgentDropCountCount a)

/-- What waits on a port leaves as its channel allows, in order within each (R466, R480, R482, R493). -/
def klPumpFrom (k : Nat) : List KlTx → List Nat → List KlTx → State → State
  | [], _, kept, s => s.setKl k { s.klPort k with txWait := kept }
  | t :: l, shut, kept, s =>
    if !shut.contains t.vc && s.klMay k t then klPumpFrom k l shut kept (s.klOut k t)
    else klPumpFrom k l (t.vc :: shut) (kept ++ [t]) s

def klPump (s : State) (k : Nat) : State :=
  let s := klPumpFrom k (s.klPort k).txWait [] [] s
  if k = 8 || k = 9 then
    let l := (s.agentSt (k - 8)).irqs
    l.foldl (fun s i =>
      let x := s.agentSt (k - 8)
      if s.klMay k (.interrupt i.1 i.2) && !(s.klPort k).txWait.any (fun x => x.vc = 3) then
        (s.setAgentSt (k - 8) { x with irqs := x.irqs.filter (fun j => j.1 != i.1) }).klOut k (.interrupt i.1 i.2)
      else s) s
  else s

/-- The answer to an agent's request leaves (R487); one to a request that no longer waits is discarded (R498). -/
def answerAgent (s : State) (a tag : Nat) (t : KlTx) : State :=
  let x := s.agentSt a
  if !x.waiting.any (fun w => w.2.1 = tag) then s
  else ((s.setAgentSt a { x with waiting := x.waiting.filter (fun w => w.2.1 != tag) }).klSend (8 + a) t).showOut a

/-- A line of an agent's non-posted write is accepted; with the last one the Cmp leaves. -/
def lineAnswered (s : State) (a tag : Nat) : State :=
  match (s.agentSt a).waiting.find? (fun w => w.2.1 = tag) with
  | none => s
  | some w =>
    if w.2.2 ≤ 1 then s.answerAgent a tag (.cmp tag 0)
    else
      let x := s.agentSt a
      s.setAgentSt a { x with waiting := x.waiting.map (fun (y : Nat × Nat × Nat) =>
        if y.2.1 = tag then (y.1, tag, w.2.2 - 1) else y) }

/-! ### Requests to an agent (R484, R486, R487, R500) -/

/-- The pieces of a range: each at most 256 bytes, none across a 256-byte boundary. -/
def pieces : Nat → Nat → Nat → List (Nat × Nat)
  | 0, _, _ => []
  | f + 1, a, n =>
    if n = 0 then []
    else
      let m := min n (256 - a % 256)
      (a, m) :: pieces f (a + m) (n - m)

/-- A tag that no waiting request to the agent has. -/
def takeTag (s : State) (a : Nat) : State × Nat :=
  let used := (s.kt.reqs.filter (fun r => r.agent = a)).map (·.tag)
  let n := (s.agentSt a).nextTag
  let t := (((List.range 1024).map (fun i => (n + i) % 1024)).find? (fun t => !used.contains t)).getD n
  (s.setAgentSt a { s.agentSt a with nextTag := (t + 1) % 1024 }, t)

/-- The time after which a request to an agent has timed out (KL_AGENT_CFG.TimeoutUs, R500), in nanoseconds. -/
def agentTimeout (s : State) (a : Nat) : Nat := max 1 (s.get (F.klAgentCfgTimeoutUs a)) * 1000

/-- The most requests that the hub sends to one agent (KL_AGENT_CFG.MaxOut). -/
def maxOut (s : State) (a : Nat) : Nat :=
  if s.get (F.klAgentCfgMaxOut a) = 0 then 1024 else s.get (F.klAgentCfgMaxOut a)

/-- Requests that wait in the hub leave while fewer than MaxOut wait on the agent. -/
def hubRequests (s : State) (a : Nat) : State :=
  (((s.kt.reqs.filter (fun r => r.agent = a && r.sent.isNone)).map (·.tag)).foldl (fun s t =>
    match s.kt.reqs.find? (fun r => r.agent = a && r.tag = t) with
    | none => s
    | some q =>
      if s.maxOut a ≤ (s.kt.reqs.filter (fun r => r.agent = a && r.sent.isSome)).length then s
      else
        let s := { s with kt := { s.kt with reqs := s.kt.reqs.map (fun (r : HubReq) =>
          if r.agent = a && r.tag = t then { r with sent := some s.clk } else r) } }
        s.klSend (8 + a) q.tx) s).showOut a

/-- A request joins those of its agent. -/
def hubRequest (s : State) (a kind addr len : Nat) (src : WinSrc) (f : Nat → KlTx) : State :=
  let (s, t) := s.takeTag a
  let q : HubReq := { agent := a, tag := t, kind := kind, addr := addr, len := len, src := src, tx := f t, sent := none }
  { s with kt := { s.kt with reqs := s.kt.reqs ++ [q] } }.hubRequests a

/-- The space and the offset of an Espalier address of an agent (Table 16.2). -/
def agentOffset (addr : Nat) : Nat × Nat :=
  if addr < 0x800000000000 then (0, addr % 2 ^ 40) else (1, addr % 2 ^ 28)

/-- A write to an agent by a source: in Early mode as posted Writes, otherwise as WriteNP requests (R332, R494, R496).  The
mask names the lines that are poison. -/
def agentWrite (s : State) (src : WinSrc) (dom a addr poison : Nat) (b : List Byte) (early : Bool) : State :=
  let o := agentOffset addr
  (pieces (b.length / 256 + 2) o.2 b.length).foldl (fun s x =>
    let p := poison / 2 ^ (x.1 / 64 - o.2 / 64) % 16
    let y := (b.drop (x.1 - o.2)).take x.2
    if early then
      let g := s.agentSt a
      let n := (g.sentPosted + 1) % 2 ^ 32
      let s := s.setAgentSt a { g with sentPosted := n, early := g.early ++ [(n, addr + (x.1 - o.2), src, dom)] }
      s.klSend (8 + a) (.write dom o.1 x.1 p y)
    else s.hubRequest a 1 (addr + (x.1 - o.2)) x.2 src (fun t => .writeNp t dom o.1 x.1 p y)) s

/-- A posted Write of an agent has failed: it is remembered for its Barrier, and reported (R494). -/
def postedFail (s : State) (a index addr status : Nat) : State :=
  let g := s.agentSt a
  (s.setAgentSt a { g with failed := g.failed ++ [(index, status)] }).klPostedError a addr status index

/-- A source has requests that wait on an agent. Assumption 99 (DEDUCED). -/
def srcWaits (s : State) (src : WinSrc) : Bool := s.kt.reqs.any (fun r => r.src = src)

/-- The bytes of a range of an agent that a reader has been answered, if all of them have come, and whether a line of them is
poison. -/
def answered? (l : List KlAnswer) (src : WinSrc) (addr n : Nat) : Option (List Byte × Bool) :=
  let got := (pieces (n / 256 + 2) addr n).map (fun x => l.find? (fun y => y.src = src && y.addr = x.1 && y.bytes.length = x.2))
  if got.all (·.isSome) then some (got.flatMap (fun y => (y.map (·.bytes)).getD []), got.any (fun y => (y.map (·.poison)).getD 0 != 0))
  else none

end State
end Sys2Proof.Machine
end

