-- ==== Sys2Proof/Machine/Lds.lean ====
section
/-!
DEFINITION. Logical devices, their extents and interrupts (R77 to R80, R83), shared by the window, the
rings, the recorder and the Kilius agents.
-/
namespace Sys2Proof.Machine

/-- An extent: first plot and number of plots. -/
abbrev Extent := Nat × Nat

namespace State

/-- LDs of the part: 16 on each link (R77). -/
def ldCount (s : State) : Nat := s.part.pick 64 32

def ldEnabled (s : State) (n : Nat) : Bool := n < s.ldCount && s.on (F.winLdBindEnable n)
def ldDomain (s : State) (n : Nat) : Nat := s.get (F.winLdBindDomain n)

/-- The LD that is bound to domain 0 (R78). -/
def mgmtLd? (s : State) : Option Nat :=
  (List.range s.ldCount).find? (fun n => s.ldEnabled n && s.ldDomain n = 0)

/-- Whether an LD is the domain-0 LD. -/
def isMgmt (s : State) (n : Nat) : Bool := s.ldEnabled n && s.ldDomain n = 0

/-- The valid extents of an LD, in index order (R79). -/
def extents (s : State) (n : Nat) : List Extent :=
  (List.range 8).filterMap (fun e =>
    if s.on (F.winLdExtentValid n e) then
      some (s.get (F.winLdExtentBasePlot n e), s.get (F.winLdExtentPlots n e))
    else none)

end State

/-- A plot is 1 GiB (Table 0.5). -/
def plotBytes : Nat := 2 ^ 30

/-- The window address of a DPA through a list of extents. -/
def dpaToAddr : List Extent → Nat → Option Nat
  | [], _ => none
  | (b, n) :: rest, d =>
    if d < n * plotBytes then some (b * plotBytes + d) else dpaToAddr rest (d - n * plotBytes)

/-- The first DPA of a window address through a list of extents. -/
def addrToDpa : List Extent → Nat → Option Nat
  | [], _ => none
  | (b, n) :: rest, a =>
    if b * plotBytes ≤ a && a < (b + n) * plotBytes then some (a - b * plotBytes)
    else (addrToDpa rest a).map (· + n * plotBytes)

/-- The size of the DPA space of a list of extents. -/
def dpaSize (l : List Extent) : Nat := (l.map (fun x => x.2 * plotBytes)).sum

/-- Whether two extents overlap. -/
def extentsMeet (x y : Extent) : Bool := x.1 < y.1 + y.2 && y.1 < x.1 + x.2

/-- Whether a committed decoder covers an HPA, and the DPA it gives (R83): interleaving by ways and granularity. -/
def Decoder.dpa? (d : Decoder) (hpa : Nat) : Option Nat :=
  if d.base ≤ hpa && hpa < d.base + d.size then
    let o := hpa - d.base
    if o / d.gran % d.ways = d.position then some (d.dpa + o / (d.gran * d.ways) * d.gran + o % d.gran) else none
  else none

/-- How many DPA bytes a decoder covers. -/
def Decoder.dpaLen (d : Decoder) : Nat := d.size / d.ways

namespace State

/-- The decoder of an LD that covers an HPA. -/
def decode? (s : State) (ld hpa : Nat) : Option (Decoder × Nat) :=
  s.win.decoders.findSome? (fun d => if d.ld = ld then (d.dpa? hpa).map (fun x => (d, x)) else none)

/-- The window plots that a decoder covers, as extents of the LD's DPA space. -/
def decoderCovers (s : State) (d : Decoder) (plot : Nat) : Bool :=
  match addrToDpa (s.extents d.ld) (plot * plotBytes) with
  | some x => x < d.dpa + d.dpaLen && d.dpa < x + plotBytes
  | none => false

/-- A committed decoder of some LD covers a plot (R84, R279). -/
def hostMapped (s : State) (plot : Nat) : Bool := s.win.decoders.any (fun d => s.decoderCovers d plot)

/-- The HDM-DB decoders that cover a window address (R87). -/
def hdmDb (s : State) (addr : Nat) : Bool :=
  s.win.decoders.any (fun d => d.bi && match addrToDpa (s.extents d.ld) addr with
    | some x => d.dpa ≤ x && x < d.dpa + d.dpaLen
    | none => false)

/-- Send MSI-X vector `v` of the function of LD `n`, under its mask and pending bits. Assumption 22 (DEDUCED). -/
def msix (s : State) (n v : Nat) : State :=
  if s.win.msixMasked.contains (n, v) then
    if s.win.msixPending.contains (n, v) then s
    else { s with win := { s.win with msixPending := s.win.msixPending ++ [(n, v)] } }
  else s.send (.msix n v)

end State

end Sys2Proof.Machine
end

