-- ==== Sys2Proof/Machine/Aes.lean ====
section
/-!
DEFINITION. The block cipher and the modes that chapter 14 names: AES-256 (FIPS 197), XTS (IEEE Std 1619, R437), GCM with a
12-byte IV (R447), and the key wrap of RFC 3394 (R440).  PRESUMED: the algorithms are those of the standards that the
specification names.
-/
namespace Sys2Proof.Machine

/-! ### Bytes, lines and masks -/

/-- The `n` low bytes of a number, lowest first (R11). -/
def leBytes : Nat → Nat → List Byte
  | 0, _ => []
  | n + 1, v => BitVec.ofNat 8 v :: leBytes n (v / 256)

/-- The number that bytes spell, lowest first. -/
def ofBytes : List Byte → Nat
  | [] => 0
  | b :: rest => b.toNat + 256 * ofBytes rest

/-- Byte `k` of a line. -/
def lineByte (l : Line) (k : Nat) : Byte := l.extractLsb' (8 * k) 8

/-- The 64 bytes of a line, lowest first. -/
def lineBytes (l : Line) : List Byte := (List.range 64).map (lineByte l)

/-- The line that 64 bytes spell. -/
def bytesLine (b : List Byte) : Line := BitVec.ofNat 512 (ofBytes b)

/-- The 512-bit mask of a byte mask. -/
def spread (m : Mask) : Line :=
  BitVec.ofNat 512 (ofBytes ((List.range 64).map (fun k => if m.getLsbD k then 0xFF else 0)))

/-- Bytes of `new` where the mask is set, of `old` elsewhere (R104, R105). -/
def mergeLine (old new : Line) (m : Mask) : Line := (old &&& ~~~(spread m)) ||| (new &&& spread m)

/-- The mask of bytes `lo` to `lo + n - 1`. -/
def maskRange (lo n : Nat) : Mask := BitVec.ofNat 64 ((2 ^ n - 1) * 2 ^ lo)

/-- Every byte. -/
def maskAll : Mask := BitVec.allOnes 64

/-! ### AES-256 -/

/-- Multiplication by x in GF(2^8). -/
def xtime (b : Byte) : Byte := (b <<< 1) ^^^ (if b.getLsbD 7 then 0x1B else 0)

/-- Multiplication in GF(2^8); the first argument bounds the bits of the second factor. -/
def gmul : Nat → Byte → Byte → Byte
  | 0, _, _ => 0
  | n + 1, a, b => (if b.getLsbD 0 then a else 0) ^^^ gmul n (xtime a) (b >>> 1)

/-- The inverse in GF(2^8), as the 254th power; 0 for 0. -/
def ginv (a : Byte) : Byte :=
  ((List.range 7).foldl (fun (x : Byte × Byte) _ =>
    let sq := gmul 8 x.1 x.1
    (sq, gmul 8 x.2 sq)) (a, 1)).2

def sbox (b : Byte) : Byte :=
  let i := ginv b
  i ^^^ i.rotateLeft 1 ^^^ i.rotateLeft 2 ^^^ i.rotateLeft 3 ^^^ i.rotateLeft 4 ^^^ 0x63

def invSbox (b : Byte) : Byte := ginv (b.rotateLeft 1 ^^^ b.rotateLeft 3 ^^^ b.rotateLeft 6 ^^^ 0x05)

/-- Bytes of two strings added. -/
def xorBytes (a b : List Byte) : List Byte := List.zipWith (· ^^^ ·) a b

/-- Word `i` of the expanded key, from the words before it. -/
def nextWord (l : List (List Byte)) (i : Nat) : List Byte :=
  let prev := (l[i - 1]?).getD []
  let back := (l[i - 8]?).getD []
  let rcon := (List.range (i / 8 - 1)).foldl (fun r _ => xtime r) (1 : Byte)
  if i % 8 = 0 then
    xorBytes back (xorBytes ((prev.drop 1 ++ prev.take 1).map sbox) [rcon, 0, 0, 0])
  else if i % 8 = 4 then xorBytes back (prev.map sbox)
  else xorBytes back prev

/-- The 15 round keys of a 32-byte key. -/
def roundKeys (key : List Byte) : List (List Byte) :=
  let first := (List.range 8).map (fun i => (key.drop (4 * i)).take 4)
  let words := ((List.range 52).map (· + 8)).foldl (fun l i => l ++ [nextWord l i]) first
  (List.range 15).map (fun r => ((words.drop (4 * r)).take 4).flatten)

/-- A byte of a block. -/
def at16 (s : List Byte) (k : Nat) : Byte := (s[k]?).getD 0

def shiftRows (s : List Byte) : List Byte := (List.range 16).map (fun k => at16 s ((k + 4 * (k % 4)) % 16))
def invShiftRows (s : List Byte) : List Byte := (List.range 16).map (fun k => at16 s ((k + 12 * (k % 4)) % 16))

/-- Each column times the circulant matrix with this first row. -/
def mixWith (row : List Byte) (s : List Byte) : List Byte :=
  (List.range 16).map (fun k => (List.range 4).foldl (fun acc j =>
    acc ^^^ gmul 8 (at16 s (k / 4 * 4 + (k % 4 + j) % 4)) ((row[j]?).getD 0)) 0)

/-- AES-256 on one block. Assumption 10 (PRESUMED). -/
def aesEncrypt (key block : List Byte) : List Byte :=
  match roundKeys key with
  | [] => block
  | k0 :: rest =>
    let last := rest.getLastD []
    let s := rest.dropLast.foldl (fun s k => xorBytes (mixWith [2, 3, 1, 1] (shiftRows (s.map sbox))) k) (xorBytes block k0)
    xorBytes (shiftRows (s.map sbox)) last

/-- Its inverse. -/
def aesDecrypt (key block : List Byte) : List Byte :=
  match (roundKeys key).reverse with
  | [] => block
  | k0 :: rest =>
    let last := rest.getLastD []
    let s := rest.dropLast.foldl (fun s k => mixWith [14, 11, 13, 9] (xorBytes ((invShiftRows s).map invSbox) k))
      (xorBytes block k0)
    xorBytes ((invShiftRows s).map invSbox) last

/-! ### XTS (R437) -/

/-- A tweak times α. -/
def timesAlpha (t : Nat) : Nat :=
  let x := 2 * t % 2 ^ 128
  if 2 ^ 127 ≤ t then x ^^^ 0x87 else x

/-- T_j of a data unit: the encrypted tweak times α^j. -/
def tweakAt (k2 : List Byte) (tweak j : Nat) : List Byte :=
  leBytes 16 ((List.range j).foldl (fun t _ => timesAlpha t) (ofBytes (aesEncrypt k2 (leBytes 16 tweak))))

/-- A line's four blocks through XTS. Assumption 10 (PRESUMED). -/
def xtsLine (f : List Byte → List Byte) (k2 : List Byte) (tweak j : Nat) (d : Line) : Line :=
  bytesLine (((List.range 4).map (fun i =>
    let t := tweakAt k2 tweak (j + i)
    xorBytes (f (xorBytes (((lineBytes d).drop (16 * i)).take 16) t)) t)).flatten)

/-- Encryption and decryption of a line under a 64-byte key pair: K1, then K2. -/
def xtsEncrypt (key : List Byte) (tweak j : Nat) (d : Line) : Line :=
  xtsLine (aesEncrypt (key.take 32)) (key.drop 32) tweak j d

def xtsDecrypt (key : List Byte) (tweak j : Nat) (d : Line) : Line :=
  xtsLine (aesDecrypt (key.take 32)) (key.drop 32) tweak j d

/-! ### GCM -/

/-- Bytes as a number, first byte highest. -/
def ofBytesBe (b : List Byte) : Nat := b.foldl (fun n x => n * 256 + x.toNat) 0
def beBytes (n v : Nat) : List Byte := (leBytes n v).reverse

/-- Multiplication in the field of GHASH: bit 127 of the numbers is the coefficient of 1. -/
def ghashMul (x y : Nat) : Nat :=
  ((List.range 128).foldl (fun (p : Nat × Nat) i =>
    let z := if x / 2 ^ (127 - i) % 2 = 1 then p.1 ^^^ p.2 else p.1
    let v := if p.2 % 2 = 1 then p.2 / 2 ^^^ 0xE1 * 2 ^ 120 else p.2 / 2
    (z, v)) (0, y)).1

/-- Bytes padded with zeros to whole blocks. -/
def pad16 (b : List Byte) : List Byte := b ++ List.replicate ((16 - b.length % 16) % 16) 0

/-- GHASH over whole blocks; the first argument bounds them. -/
def ghash (h : Nat) : Nat → List Byte → Nat → Nat
  | 0, _, y => y
  | n + 1, b, y => if b = [] then y else ghash h n (b.drop 16) (ghashMul (y ^^^ ofBytesBe (b.take 16)) h)

/-- The counter mode of GCM: text to text, from the second counter block on. Assumption 10 (PRESUMED). -/
def gcmText (key iv text : List Byte) : List Byte :=
  ((List.range ((text.length + 15) / 16)).map (fun i =>
    xorBytes ((text.drop (16 * i)).take 16) (aesEncrypt key (iv ++ beBytes 4 (i + 2))))).flatten

/-- The tag of a ciphertext and its additional data. Assumption 10 (PRESUMED). -/
def gcmTag (key iv aad cipher : List Byte) : List Byte :=
  let h := ofBytesBe (aesEncrypt key (List.replicate 16 0))
  let b := pad16 aad ++ pad16 cipher ++ beBytes 8 (8 * aad.length) ++ beBytes 8 (8 * cipher.length)
  xorBytes (beBytes 16 (ghash h (b.length / 16 + 1) b 0)) (aesEncrypt key (iv ++ beBytes 4 1))

/-! ### Key wrap (RFC 3394) -/

/-- One step of the unwrapping: A, and the registers. -/
def unwrapStep (key : List Byte) (n : Nat) (x : List Byte × List (List Byte)) (t : Nat) : List Byte × List (List Byte) :=
  let i := (t - 1) % n
  let b := aesDecrypt key (xorBytes x.1 (beBytes 8 t) ++ (x.2[i]?).getD [])
  (b.take 8, x.2.set i (b.drop 8))

/-- The key in a wrapped key, or none where the integrity check fails. Assumption 10 (PRESUMED). -/
def keyUnwrap (key wrapped : List Byte) : Option (List Byte) :=
  let n := wrapped.length / 8 - 1
  let r := (List.range n).map (fun i => (wrapped.drop (8 * (i + 1))).take 8)
  let x := ((List.range (6 * n)).map (· + 1)).reverse.foldl (unwrapStep key n) (wrapped.take 8, r)
  if x.1 = List.replicate 8 0xA6 then some x.2.flatten else none

end Sys2Proof.Machine
end

