-- ==== Sys2Proof/Machine/Mem.lean ====
section
/-!
DEFINITION. Addressed memories: bytes, lines and their encryption tags (R10, R11, R27, R435).
-/
namespace Sys2Proof.Machine

/-- Put bytes at an address of a cell list. -/
def putBytes : List Byte → Nat → List Host.Cell → List Host.Cell
  | [], _, c => c
  | b :: rest, a, c => putBytes rest (a + 1) (Store.write (fun _ => 0) a b c)

/-- The byte at an address. Assumption 5 (DESIGN CHOICE). -/
def Mem.byte (m : Mem) (a : Nat) : Byte := Store.read (fun _ => 0) m.cells a

/-- The bytes of line `l` (addresses 64 l to 64 l + 63). Assumption 5 (DESIGN CHOICE). -/
def Mem.raw (m : Mem) (l : Nat) : Line := bytesLine ((List.range 64).map (fun k => m.byte (64 * l + k)))

/-- How line `l` was written. -/
def Mem.tag? (m : Mem) (l : Nat) : Option LineTag := Store.find? m.tags l

/-- Write line `l` with its tag. -/
def Mem.putLine (m : Mem) (l : Nat) (d : Line) (t : LineTag) : Mem :=
  { cells := putBytes (lineBytes d) (64 * l) m.cells, tags := Store.insert l t m.tags }

/-- Forget line `l`: its bytes read 0 and it was never written. -/
def Mem.clearLine (m : Mem) (l : Nat) : Mem :=
  { cells := putBytes (List.replicate 64 0) (64 * l) m.cells, tags := Store.erase l m.tags }

/-- The canonical form of a memory. -/
def Mem.wf (m : Mem) : Bool := Store.wf (fun _ => (0 : Byte)) m.cells && Store.sorted m.tags

/-! ### Encryption at rest (R27, R435 to R437) -/

/-- The key that a key domain uses now: its place among the keys that the domain has had. -/
def State.keyGen (s : State) (dom : Nat) : Nat := Store.read (fun _ => 0) s.cip.keys dom

/-- An XTS key pair: K1, then K2. -/
def xtsKey (dom gen : Nat) : List Byte := leBytes 64 (Config.xtsKey dom gen).toNat

/-- A stored line as a domain reads it (R435, R437): its own data under the key that wrote it; under any other key, what
decryption under that key gives.  `space` and `l` are the tweak's space and the line's place in it (Table 14.2).
Assumption 24 (DEDUCED). -/
def State.decrypt (s : State) (dom space l : Nat) (d : Line) (t : LineTag) : Line :=
  if t.dom = dom && t.gen = s.keyGen dom then d
  else
    let tweak := space * 2 ^ 64 + l / 64
    let j := l % 64 * 4
    xtsDecrypt (xtsKey dom (s.keyGen dom)) tweak j (xtsEncrypt (xtsKey t.dom t.gen) tweak j d)

/-- Reads of a key domain whose key-store entry failed its check return poison (R525). -/
def State.keyBad (s : State) (dom : Nat) : Bool := s.cip.bad.contains dom

/-- Line `l` of shared memory as a domain reads it, and whether it is poisoned; a line never written reads zeros.
Assumption 24 (DEDUCED). -/
def State.readMem (s : State) (m : Mem) (dom l : Nat) : Line × Bool :=
  match m.tag? l with
  | some t => (s.decrypt dom 2 l (m.raw l) t, t.poison || s.keyBad dom)
  | none => (0, false)

/-- The tag of a line that a domain writes now. -/
def State.tagNow (s : State) (dom : Nat) (poison : Bool) : LineTag :=
  { dom := dom, gen := s.keyGen dom, poison := poison }

/-- Write bytes that lie within one line of a memory, for a domain. -/
def State.writeWithin (s : State) (m : Mem) (dom a : Nat) (b : List Byte) : Mem :=
  let l := a / 64
  let old := (s.readMem m dom l).1
  let new : Line := BitVec.ofNat 512 (ofBytes b * 2 ^ (8 * (a % 64)))
  m.putLine l (mergeLine old new (maskRange (a % 64) b.length)) (s.tagNow dom false)

/-- Write bytes to a memory for a domain, line by line; the first argument bounds the lines touched. -/
def State.writeMem (s : State) (dom : Nat) : Nat → Nat → List Byte → Mem → Mem
  | 0, _, _, m => m
  | n + 1, a, b, m =>
    if b = [] then m
    else
      let k := 64 - a % 64
      s.writeWithin m dom a (b.take k) |> s.writeMem dom n (a + k) (b.drop k)

/-- `n` bytes of a memory as a domain reads them. -/
def State.readBytes (s : State) (m : Mem) (dom a n : Nat) : List Byte :=
  (List.range n).map (fun k => lineByte (s.readMem m dom ((a + k) / 64)).1 ((a + k) % 64))

/-- Bytes that the device itself stores outside the window: into host memory, or into Hazel shared memory under
domain 0's key (R375, R600). -/
def State.storeOut (s : State) (a : Nat) (b : List Byte) : State :=
  if 0x400000000000 ≤ a && a < 0x800000000000 then s.send (.hostWrite a b)
  else if 0x200000000000 ≤ a && a < 0x200400000000 then
    { s with hz := { s.hz with
        shm := s.writeMem 0 (b.length / 64 + 2) (a - 0x200000000000) b s.hz.shm } }
  else s

end Sys2Proof.Machine
end

