-- ==== Sys2Proof/Machine/Time.lean ====
section
/-!
DEFINITION. The device time base: sources, servo, distribution and the clock's own advance (chapter 2, R50 to R67).
-/
namespace Sys2Proof.Machine

/-- Servo states (Table 2.2). -/
def servoFreeRun : Nat := 0
def servoAcquiring : Nat := 1
def servoLocked : Nat := 2
def servoHoldover : Nat := 3
def servoExpired : Nat := 4

namespace State

def servo (s : State) : Nat := s.get F.tbStatusState
def setServo (s : State) (x : Nat) : State := s.set F.tbStatusState x

/-- A source is refused (R53, R54, R55): SourceRefused is set and event 131 is raised. -/
def refuseSource (s : State) : State :=
  (s.put F.tbStatusSourceRefused true).raiseFree 131 sevNotice 0 noDom

/-- The 64-bit two's complement form of a signed value. -/
def signed64 (x : Int) : Word := BitVec.ofInt 64 x

/-- Move the DTB forward to `t`. -/
def stepDtb (s : State) (t : Nat) : State :=
  { s with time := { s.time with dtb := t, frac := 0, slew := 0, stepped := s.time.stepped.map (fun _ => true) } }

/-- Write the next TB_STAMP_FIX entry; a seventeenth drops the oldest (R64, R66). -/
def shiftFix : Nat → State → State
  | 0, s => s
  | n + 1, s =>
    let s' := shiftFix n s
    (s'.setReg (R.tbStampFixA n) (s.reg (R.tbStampFixA (n + 1)))).setReg (R.tbStampFixB n)
      (s.reg (R.tbStampFixB (n + 1)))

/-- Append a stamp correction entry (R64, R66). -/
def addStampFix (s : State) (g p o : Nat) : State :=
  let used := s.get F.tbStatusStampFixUsed
  let s := if 16 ≤ used then shiftFix 15 s else s
  let i := min used 15
  let s := ((s.set (F.tbStampFixAG i) g).set (F.tbStampFixAS i) p).set (F.tbStampFixBO i) o
  let s := (s.put (F.tbStampFixBValid i) true).set F.tbStatusStampFixUsed (min (used + 1) 16)
  { s with time := { s.time with ageRebuild := true } }

/-- The provisional time P (R63). -/
def provisional (s : State) : Nat := s.get F.tbProvBase + s.time.dtb / 1000000000

/-- The stamp a media write takes now: the DTB second, or provisional and Unsynced (R63). -/
def stampNow (s : State) : Nat × Bool :=
  if s.on F.tbStatusEverSynced then (s.time.dtb / 1000000000, false) else (s.provisional % 2 ^ 32, true)

/-- The first synchronisation of R55 and R64, from a source time that is not lower than the DTB. -/
def firstSync (s : State) (src t : Nat) : State :=
  let p := s.provisional
  let o := t / 1000000000 - p
  let s := s.stepDtb t
  let s := (s.set F.tbSyncOffsetValue o).put F.tbStatusEverSynced true
  let s := if s.on F.tbStatusGapValid then
      (s.addStampFix (s.get F.tbProvGapMark) p o).put F.tbStatusGapValid false
    else s
  (s.set F.tbStatusActiveSrc src).raise 128 sevNotice 0 noDom [d4 src, d4 o]

/-- The step limit in ns (R56). -/
def stepLimit (s : State) : Nat := 2 ^ s.get F.tbCtlStepLimit * 1000

/-- Following a measured offset once synchronised (R56): a forward step, or a slew. -/
def follow (s : State) (t : Nat) : State :=
  if s.time.dtb + s.stepLimit < t && s.on F.tbCtlStepEnable then
    ((s.stepDtb t).bump F.tbStepCountSteps).raise 130 sevNotice 0 noDom [d4 (t - s.time.dtb)]
  else
    { s with time := { s.time with slew := ((t : Int) - (s.time.dtb : Int)) * 2 ^ 32 } }

/-- The offset of a measurement: DTB minus source. -/
def offsetTo (s : State) (t : Nat) : Int := (s.time.dtb : Int) - (t : Int)

/-- The servo's move on an offset of a valid source (Table 2.2). -/
def servoOffset (s : State) (off : Int) : State :=
  let a := off.natAbs
  if s.servo = servoAcquiring then
    let n := if a ≤ 100 then s.time.near + 1 else 0
    let s := { s with time := { s.time with near := n } }
    if 16 ≤ n then
      { s.setServo servoLocked with time := { s.time with near := 0, far := 0 } }
    else s
  else if s.servo = servoLocked then
    let n := if 1000 < a then s.time.far + 1 else 0
    let s := { s with time := { s.time with far := n } }
    if 4 ≤ n then
      let s := (s.setServo servoAcquiring).raise 129 sevWarning 0 noDom
        [d4 (s.get F.tbStatusActiveSrc), d4 (signed64 off).toNat]
      { s with time := { s.time with near := 0, far := 0 } }
    else s
  else { s.setServo servoAcquiring with time := { s.time with near := 0, far := 0 } }

/-- One measurement of a continuously valid source, PTP (1) or PPS_IN (2): R55, R56, R58. Assumption 18 (DEDUCED). -/
def measure (s : State) (src t : Nat) : State :=
  let off := s.offsetTo t
  if !s.on F.tbStatusEverSynced then
    if t < s.time.dtb then s.refuseSource
    else
      let s := (s.setReg R.tbOffset (signed64 off)).firstSync src t
      { s.setServo servoAcquiring with time := { s.time with near := 0, far := 0 } }
  else
    let s := (s.setReg R.tbOffset (signed64 off)).set F.tbStatusActiveSrc src
    let s := (s.setReg R.tbRate (BitVec.ofNat 64 (s.freeWord.toNat % 2 ^ 32))).drew
    (s.follow t).servoOffset off

/-- PTP is enabled and valid; PPS_IN is enabled and valid (R53). -/
def ptpUp (s : State) : Bool := s.on F.tbCtlPtpEnable && s.time.ptpValid
def ppsUp (s : State) : Bool := s.on F.tbCtlPpsEnable && s.time.ppsValid

/-- The followed source became invalid (Table 2.2): change to a lower valid source, or enter Holdover. -/
def loseSource (s : State) : State :=
  if s.servo = servoAcquiring || s.servo = servoLocked then
    let s := { s with time := { s.time with slew := 0, near := 0, far := 0 } }
    if s.ptpUp then (s.setServo servoAcquiring).set F.tbStatusActiveSrc 1
    else if s.ppsUp then (s.setServo servoAcquiring).set F.tbStatusActiveSrc 2
    else
      let off := (s.reg R.tbOffset).toNat
      let s := (s.setServo servoHoldover).raise 129 sevWarning 0 noDom [d4 (s.get F.tbStatusActiveSrc), d4 off]
      { s with time := { s.time with holdFrom := s.clk } }
  else s

/-- The accepted TB_SET measurement (R53, R55, R56, Table 2.2). -/
def hostSet (s : State) (t : Nat) : State :=
  let off := s.offsetTo t
  if !s.on F.tbStatusEverSynced then
    if t < s.time.dtb then s.refuseSource
    else
      let s := (s.setReg R.tbOffset (signed64 off)).firstSync 3 t
      let s := (s.setServo servoHoldover).setReg R.tbRate 0
      { s with time := { s.time with holdFrom := s.clk } }
  else
    let s := (s.setReg R.tbOffset (signed64 off)).follow t
    if s.servo = servoHoldover || s.servo = servoExpired then
      let s := (s.setServo servoHoldover).set F.tbStatusActiveSrc 3
      { s with time := { s.time with holdFrom := s.clk } }
    else s

/-- A write to TB_SET (R53); SET_TIMESTAMP uses it too (R118). -/
def tbSet (s : State) (t : Nat) : State :=
  if !s.on F.tbCtlHostEnable || s.ptpUp || s.ppsUp then s.refuseSource else s.hostSet t

/-- The check of R54: PtpEnable 1 and the named port absent. -/
def ptpPortCheck (s : State) : State :=
  if s.on F.tbCtlPtpEnable && !s.ethPresent (s.get F.tbCtlPtpPort) then s.refuseSource else s

/-- The DTB's slew of one nanosecond, in units of 2^-32 ns: at most MaxSlew (1 to 50) times 10 ppm (R56).
Assumption 20 (DEDUCED). -/
def slewStep (s : State) : Int :=
  let m := max 1 (min 50 (s.get F.tbCtlMaxSlew))
  let lim : Int := (m * 10 * 2 ^ 32 / 1000000 : Nat)
  max (-lim) (min lim s.time.slew)

/-- The advance of one nanosecond of the clock, in units of 2^-32 ns; never negative (R51). Assumption 20 (DEDUCED). -/
def tickStep (s : State) : Nat :=
  let rate : Int := (BitVec.ofNat 32 (s.get F.tbRateValue)).toInt
  (2 ^ 32 + rate * 2 ^ 32 / 1000000000 + s.slewStep).toNat

/-- One nanosecond passes: the DTB, the replicas and Privet's clock advance, and PPS_OUT falls when its
width has passed (R50, R52, R60 to R63). Assumptions 2 (DESIGN CHOICE), 9 (DESIGN CHOICE). -/
def tick (s : State) : State :=
  let t := s.time
  let s := { s with clk := s.clk + 1 }
  if t.running then
    let f := t.frac + s.tickStep
    let d := t.dtb + f / 2 ^ 32
    { s with time := { t with
        dtb := d, frac := f % 2 ^ 32, slew := t.slew - s.slewStep,
        dies := t.dies.map (fun x => { x with replica := x.replica + 1 }),
        privet := t.privet + 1, standby := t.standby + 1,
        ppsOut := t.ppsOut && decide (d < t.ppsOutEnd) } }
  else { s with time := { t with privet := t.privet + 1, standby := t.standby + 1 } }

end State

open Host

/-- PTP_MESSAGE_RECEIVE (R53 to R56, R58, R64, R65): an offset measurement from the grandmaster on a port.
Assumption 18 (DEDUCED). -/
def execPtpMessageReceive (port sourceTime : Nat) (s : State) : Outcome State Fault Refusal :=
  .next <|
    if s.on F.tbCtlPtpEnable && s.get F.tbCtlPtpPort = port && s.ethPresent port
        && s.on (F.netPortStatusUp port) then
      State.measure { s with time := { s.time with ptpValid := true } } 1 sourceTime
    else s

/-- PTP_SOURCE_LOSS (R53): four seconds without Announce or Sync. -/
def execPtpSourceLoss (s : State) : Outcome State Fault Refusal :=
  .next <|
    let s := { s with time := { s.time with ptpValid := false } }
    if s.get F.tbStatusActiveSrc = 1 then s.loseSource else s

/-- PPS_IN_SOURCE_LOSS (R53, R58): edges stop arriving at 1 s. -/
def execPpsInSourceLoss (s : State) : Outcome State Fault Refusal :=
  .next <|
    let s := { s with time := { s.time with ppsValid := false } }
    if s.get F.tbStatusActiveSrc = 2 then s.loseSource else s

/-- Whether an edge counts as a measurement (R57): the edge before it came 1 s ± 100 us earlier. Assumption 19 (DEDUCED). -/
def State.edgeCounts (s : State) : Bool :=
  match s.time.lastEdge with
  | none => false
  | some e =>
    let d := s.clk - e
    999900000 ≤ d && d ≤ 1000100000 && (s.on F.tbStatusEverSynced || s.time.todWritten)

/-- The time an edge states (R56): TB_TOD_NEXT when written since the last edge, else the nearest second. -/
def State.edgeTime (s : State) : Nat :=
  if s.time.todWritten then (s.reg R.tbTodNext).toNat
  else (s.time.dtb + 500000000) / 1000000000 * 1000000000

/-- PPS_IN_EDGE (R55 to R58). Assumption 19 (DEDUCED). -/
def execPpsInEdge (s : State) : Outcome State Fault Refusal :=
  .next <|
    let counts := s.edgeCounts
    let t := s.edgeTime
    let s := s.setReg R.tbPpsCapture (BitVec.ofNat 64 s.time.dtb)
    let s := { s with time := { s.time with lastEdge := some s.clk, todWritten := false } }
    if counts && s.on F.tbCtlPpsEnable then
      let s := { s with time := { s.time with ppsValid := true } }
      if s.ptpUp then s else s.measure 2 t
    else s

/-- TB_SET_WRITE (R53). -/
def execTbSetWrite (value : BitVec 64) (s : State) : Outcome State Fault Refusal :=
  .next (s.tbSet value.toNat)

/-- TB_CTL_WRITE (R54): a change of PtpEnable or PtpPort checks for an absent port, and a source that is
followed and no longer enabled is lost (R53). -/
def execTbCtlWrite (value : BitVec 32) (s : State) : Outcome State Fault Refusal :=
  .next <|
    let old := s.reg R.tbCtl
    let new : Word := (value.setWidth 64) &&& 0x7FFFFFFF
    let s := s.setReg R.tbCtl new
    let moved := bits old 0 1 != bits new 0 1 || bits old 3 4 != bits new 3 4
    let s := if moved then
        State.ptpPortCheck { s with time := { s.time with ptpValid := false } }
      else s
    let src := s.get F.tbStatusActiveSrc
    if (src = 1 && !s.ptpUp) || (src = 2 && !s.ppsUp) then s.loseSource else s

/-- HOLDOVER_EXPIRY (R58): the holdover time has reached TB_HOLD_LIMIT. -/
def execHoldoverExpiry (s : State) : Outcome State Fault Refusal :=
  .next <|
    if s.servo = servoHoldover
        && s.get F.tbHoldLimitSeconds * 1000000000 ≤ s.clk - s.time.holdFrom then
      (s.setServo servoExpired).raise 134 sevError 0 noDom [d4 (s.get F.tbHoldLimitSeconds)]
    else s

/-- TCXO_FAILURE (R59). -/
def execTcxoFailure (s : State) : Outcome State Fault Refusal :=
  .next ((s.put F.tbStatusTcxoFail true).raise 135 sevError 0 noDom [])

/-- Whether PPS_OUT may rise (R60). -/
def State.ppsOutAllowed (s : State) : Bool :=
  s.on F.tbCtlPpsOutEnable && (s.servo = servoLocked
    || (s.servo = servoHoldover && s.on F.tbCtlPpsOutInHoldover))

/-- PPS_OUT_PULSE (R60): a whole DTB second. -/
def execPpsOutPulse (s : State) : Outcome State Fault Refusal :=
  .next <|
    if s.ppsOutAllowed then
      let w := max 1 (s.get F.tbCtlPpsOutWidth)
      let s := s.send (.ppsOut w)
      { s with time := { s.time with ppsOut := true, ppsOutEnd := s.time.dtb + w * 1000000 } }
    else s

/-- TIME_MESSAGE_RECEIVE (R61, R62): a replica is corrected by the message and the port's delay, never backward;
port 10 is Privet's. -/
def execTimeMessageReceive (port hubTime delayNs : Nat) (s : State) : Outcome State Fault Refusal :=
  .next <|
    if port = 10 then { s with time := { s.time with privet := max s.time.privet (hubTime + delayNs) } }
    else if port < s.part.dies then
      let s := { s with time := { s.time with dies := s.time.dies.modify port (fun x =>
        { replica := max x.replica (hubTime + delayNs), last := s.clk, held := false }) } }
      s.setBit F.tbStatusDieTimeLost port false
    else s

/-- DIE_TIME_LOST (R62): 16 us without a time message. -/
def execDieTimeLost (die : Nat) (s : State) : Outcome State Fault Refusal :=
  .next <|
    match s.time.dies[die]? with
    | some x =>
      if die < s.part.dies && x.last + 16000 ≤ s.clk && !s.bit F.tbStatusDieTimeLost die then
        (s.setBit F.tbStatusDieTimeLost die true).raise 132 sevWarning 0 noDom [d4 die]
      else s
    | none => s

/-- DIE_LAUNCH_HOLD (R62): 1 ms without a time message. -/
def execDieLaunchHold (die : Nat) (s : State) : Outcome State Fault Refusal :=
  .next <|
    match s.time.dies[die]? with
    | some x =>
      if die < s.part.dies && x.last + 1000000 ≤ s.clk then
        { s with time := { s.time with dies := s.time.dies.modify die (fun y => { y with held := true }) } }
      else s
    | none => s

end Sys2Proof.Machine
end

