-- ==== Sys2Proof/Machine/Observe.lean ====
section
/-!
DEFINITION. The event recorder, the performance counters, bandwidth windows and sampling (chapter 19).
-/
namespace Sys2Proof.Machine

/-! ### CRC-32 and record layout (R226, R573, R574) -/

/-- One bit of the reflected CRC-32 with polynomial 0x04C1_1DB7. -/
def crcBit (c : BitVec 32) : BitVec 32 :=
  if c.getLsbD 0 then (c >>> 1) ^^^ 0xEDB88320 else c >>> 1

/-- One byte of the CRC. -/
def crcByte (c : BitVec 32) (b : Byte) : BitVec 32 :=
  let x := c ^^^ b.setWidth 32
  crcBit (crcBit (crcBit (crcBit (crcBit (crcBit (crcBit (crcBit x)))))))

/-- CRC-32 with initial value and final XOR of 0xFFFF_FFFF (R226). Assumption 10 (PRESUMED). -/
def crc32 (l : List Byte) : BitVec 32 := (l.foldl crcByte 0xFFFFFFFF) ^^^ 0xFFFFFFFF

/-- Lay data fields out in order, each at the next offset aligned to its size (R574). -/
def layFields : List (Nat × Nat) → List Byte → List Byte
  | [], acc => acc
  | (n, v) :: rest, acc =>
    let pad := if n = 0 then 0 else (n - acc.length % n) % n
    layFields rest (acc ++ List.replicate pad 0 ++ leBytes n v)

/-- The 32 data bytes of an event. -/
def Event.dataBytes (e : Event) : List Byte :=
  let l := layFields e.data []
  (l ++ List.replicate (32 - l.length) 0).take 32

/-- Bytes 0 to 59 of a record (Table 19.3). -/
def Record.body (r : Record) : List Byte :=
  leBytes 6 r.seq
    ++ leBytes 2 (r.ev.src % 512 + r.ev.sev % 8 * 512 + (if r.ev.unsynced then 4096 else 0)
        + (if r.synthetic then 8192 else 0) + (if r.persisted then 16384 else 0))
    ++ leBytes 8 r.ev.time ++ leBytes 2 r.ev.code ++ leBytes 2 r.repeats
    ++ leBytes 2 (r.ev.dom % 1024) ++ leBytes 2 0 ++ r.ev.dataBytes ++ leBytes 4 r.lastRepeat

/-- The 64 bytes of a record. -/
def Record.bytes (r : Record) : List Byte :=
  let b := r.body
  b ++ leBytes 4 (crc32 b).toNat

/-- Identical events (R577): Source, Code, Domain and the CRC-32 of the data bytes are equal. -/
def Event.same (a b : Event) : Bool :=
  a.src = b.src && a.code = b.code && a.dom = b.dom && crc32 a.dataBytes = crc32 b.dataBytes

/-- An event as an intake entry. -/
def Event.entry (e : Event) : Record :=
  { seq := 0, ev := e, synthetic := false, persisted := false, repeats := 0, lastRepeat := 0, copied := 0,
    stale := false }

/-! ### Spread counters (R540) -/

/-- The CRC-16 of R187: polynomial 0x1021, initial value 0xFFFF, no reflection, no final XOR. -/
def crc16 (l : List Byte) : BitVec 16 :=
  l.foldl (fun (c : BitVec 16) (b : Byte) =>
    let x : BitVec 16 := BitVec.ofNat 16 (b.toNat * 256)
    (List.range 8).foldl (fun (c : BitVec 16) _ => if c.getLsbD 15 then (c <<< 1) ^^^ 0x1021 else c <<< 1) (c ^^^ x)) 0xFFFF

/-- Bytes of the parameter store (R530). Assumption 5 (DESIGN CHOICE). -/
def State.psByte (s : State) (a : Nat) : Byte := Store.read (fun _ => 0) s.pv.cells a
def State.psBytes (s : State) (a n : Nat) : List Byte := (List.range n).map (fun k => s.psByte (a + k))
def State.putPs (s : State) (a : Nat) (b : List Byte) : State :=
  { s with pv := { s.pv with cells := (b.zipIdx).foldl (fun c x => Store.write (fun _ => 0) (a + x.2) x.1 c) s.pv.cells } }

/-- The address of cell `i` of spread counter `c`, and its Value where the cell is valid (R540). -/
def spreadAt (c i : Nat) : Nat := (1024 + c / 16 * 8 + i) * 128 + c % 16 * 8
def State.spreadCell (s : State) (c i : Nat) : Option Nat :=
  let b := s.psBytes (spreadAt c i) 8
  if ofBytes ((b.drop 4).take 2) = c && ofBytes (b.drop 6) = (crc16 (b.take 6)).toNat then some (ofBytes (b.take 4)) else none

/-- The cell with the largest Value among the valid ones, the lowest first; its Value. -/
def State.spreadBest (s : State) (c : Nat) : Option (Nat × Nat) :=
  (List.range 8).foldl (fun (m : Option (Nat × Nat)) i => match s.spreadCell c i, m with
    | some v, none => some (i, v)
    | some v, some x => if x.2 < v then some (i, v) else m
    | none, _ => m) none

/-- The value of a spread counter. -/
def State.spread (s : State) (c : Nat) : Nat := ((s.spreadBest c).map (·.2)).getD 0

/-- Increment a spread counter, unless it is saturated (R540). -/
def State.spreadInc (s : State) (c : Nat) : State :=
  let v := s.spread c
  if v = 0xFFFFFFFF then s
  else
    let i := match s.spreadBest c with
      | some x => (x.1 + 1) % 8
      | none => 0
    let b := leBytes 4 (v + 1) ++ leBytes 2 c
    s.putPs (spreadAt c i) (b ++ leBytes 2 (crc16 b).toNat)

namespace State

/-! ### The recorder -/

/-- EVR_CTL.RecordMin, above 2 treated as 2; PersistMin, below 2 treated as 2 and 7 as 6. -/
def recordMin (s : State) : Nat := min 2 (s.get F.evrCtlRecordMin)
def persistMin (s : State) : Nat := min 6 (max 2 (s.get F.evrCtlPersistMin))

/-- Capacities of the RAM log and the persistent log (R580, R584). -/
def ramLogSize : Nat := 16384
def persistSize : Nat := 1024

/-- The next sequence number, and the state after taking it (R581). -/
def takeSeq (s : State) : Nat × State :=
  let n := s.get F.evrNextSeqSeq
  if (n + 1) % 2 ^ 28 = 0 then
    let s := s.spreadInc 16
    (n, s.set F.evrNextSeqSeq (s.spread 16 * 2 ^ 28))
  else (n, s.set F.evrNextSeqSeq (n + 1))

/-- The lowest severity in a log; 7 for an empty one. -/
def lowestSev (l : List Record) : Nat := l.foldl (fun m r => min m r.ev.sev) 7

/-- Remove the oldest record of a severity. -/
def dropOldest (sev : Nat) : List Record → List Record
  | [] => []
  | r :: rest => if r.ev.sev = sev then rest else r :: dropOldest sev rest

/-- Whether a record finds a place in a log of a size (R580). -/
def logAdmits (size : Nat) (l : List Record) (sev : Nat) : Bool := l.length < size || lowestSev l ≤ sev

/-- Put a record into a log, overwriting the oldest of the lowest severity when full (R580). -/
def logPut (size : Nat) (l : List Record) (r : Record) : List Record :=
  if l.length < size then l ++ [r]
  else if lowestSev l ≤ r.ev.sev then dropOldest (lowestSev l) l ++ [r]
  else l

/-- The youngest event the recorder has accepted (R577). -/
def youngest? (s : State) : Option Record :=
  match s.obs.intake.getLast? with
  | some r => some r
  | none => match s.obs.writing with
    | some r => some r
    | none => match s.obs.lastSeq with
      | some n => s.obs.ram.find? (fun r => r.seq = n)
      | none => none

/-- Count a repeat at DTB second `sec` on a record. -/
def again (sec : Nat) (r : Record) : Record :=
  { r with repeats := r.repeats + 1, lastRepeat := sec, stale := true }

/-- Apply a repeat to the youngest event (R577). -/
def repeatYoungest (s : State) (sec : Nat) : State :=
  if s.obs.intake ≠ [] then
    { s with obs := { s.obs with intake := s.obs.intake.modify (s.obs.intake.length - 1) (again sec) } }
  else if s.obs.writing.isSome then
    { s with obs := { s.obs with writing := s.obs.writing.map (again sec) } }
  else
    { s with obs := { s.obs with
        ram := s.obs.ram.map (fun r => if some r.seq = s.obs.lastSeq then again sec r else r) } }

/-- An event is lost at the intake (R578). -/
def dropEvent (s : State) (e : Event) : State :=
  let d : Drops := match s.obs.drops with
    | none => { count := 1, first := e.time, last := e.time, sev := e.sev }
    | some d => { d with count := d.count + 1, last := e.time, sev := max d.sev e.sev }
  let s := ((s.bump (F.qDropCount 16)).bump F.evrDropCount).put F.evrStatusLost true
  { s with obs := { s.obs with drops := some d } }

/-- The synthetic record of source 25 that gathers the drops (R578). -/
def syntheticOf (s : State) (d : Drops) : Record :=
  { ({ src := 25, sev := max 2 d.sev, code := 1, dom := noDom, time := s.nowDtb,
       unsynced := !s.on F.tbStatusEverSynced, data := [d4 d.count, d8 d.first, d8 d.last],
       addr := none } : Event).entry with synthetic := true }

/-- Start writing an entry: it takes its sequence number, or a full log drops it (R579, R580). -/
def startRecord (s : State) (r : Record) : State :=
  if logAdmits ramLogSize s.obs.ram r.ev.sev then
    let (n, s) := s.takeSeq
    { s with obs := { s.obs with writing := some { r with seq := n } } }
  else (s.bump F.evrFullDropCount).put F.evrStatusLost true

/-- Take intake entries until one starts. -/
def startNextFrom : List Record → State → State
  | [], s => { s with obs := { s.obs with intake := [] } }
  | r :: rest, s =>
    let s := startRecord { s with obs := { s.obs with intake := rest } } r
    if s.obs.writing.isSome then s else startNextFrom rest s

/-- The recorder starts its next record: the synthetic one first, then the next intake entry (R578). -/
def startNext (s : State) : State :=
  let s := match s.obs.drops with
    | some d => startRecord { s with obs := { s.obs with drops := none } } (s.syntheticOf d)
    | none => s
  if s.obs.writing.isSome then s else startNextFrom s.obs.intake s

/-- The events that go to the persistent log whatever PersistMin (R569). -/
def alwaysPersist (src : Nat) : Bool := [11, 12, 13, 20, 21, 23].contains src

/-- Queue a persistent copy of a written record, or drop the copy (R584). -/
def queueCopy (s : State) (r : Record) : State :=
  if s.persistMin ≤ r.ev.sev || alwaysPersist r.ev.src then
    if s.obs.backlog.length < 64 && logAdmits persistSize s.obs.persist r.ev.sev then
      let mark := fun x : Record => if x.seq = r.seq then { x with persisted := true, copied := s.clk, stale := false } else x
      { s with obs := { s.obs with ram := s.obs.ram.map mark, backlog := s.obs.backlog ++ [mark r] } }
    else
      let s := (s.bump F.evrPdropCount).put F.evrStatusLost true
      let due := match s.obs.lastPdrop with
        | none => true
        | some t => t + 1000000000 ≤ s.clk
      if due then
        let s := s.raise 26 sevWarning 1 noDom [d4 (s.get F.evrPdropCount)]
        { s with obs := { s.obs with lastPdrop := some s.clk } }
      else s
  else s

/-- Whether an agent is Admitted (KL_AGENT_STATUS.State 2). -/
def agentAdmitted (s : State) (k : Nat) : Bool := k < s.part.sites && s.get (F.klAgentStatusState k) = 2

/-- The domain of a route's target; none where the target is disabled or not Admitted (R586). -/
def routeDomain? (s : State) (r : Nat) : Option Nat :=
  let t := s.get (F.evrRouteLd r)
  if s.get (F.evrRouteKind r) = 1 then
    if s.agentAdmitted (t % 2) then some (s.get (F.klAgentCtlDomain (t % 2))) else none
  else if s.ldEnabled t then some (s.ldDomain t) else none

/-- Whether a route applies to a record (R586). -/
def routeApplies (s : State) (r : Nat) (x : Record) : Bool :=
  s.on (F.evrRouteEnable r) && s.get (F.evrRouteMinSeverity r) ≤ x.ev.sev
    && s.bit (F.evrRouteGroupMask r) (x.ev.src / 16)
    && !s.bit (F.evrMaskMask (x.ev.src / 64)) (x.ev.src % 64)
    && match s.routeDomain? r with
      | some d => d = 0 || x.ev.dom = d
      | none => false

/-- Notify a route's target. -/
def routeNotify (s : State) (r : Nat) : State :=
  let t := s.get (F.evrRouteLd r)
  let v := s.get (F.evrRouteVector r)
  let s := { s with obs := { s.obs with routeLast := s.obs.routeLast.set r (some s.clk),
                                        routeWait := s.obs.routeWait.set r false } }
  if s.get (F.evrRouteKind r) = 1 then s.klInterrupt (t % 2) v 0 else s.msix t v

/-- Route one written record through one route, at most once in HoldUs (R587). -/
def routeOne (x : Record) (s : State) (r : Nat) : State :=
  if s.routeApplies r x then
    let held : Bool := match s.obs.routeLast[r]? with
      | some (some t) => decide (s.clk < t + s.get (F.evrRouteHoldUs r) * 1000)
      | _ => false
    if held then { s with obs := { s.obs with routeWait := s.obs.routeWait.set r true } }
    else s.routeNotify r
  else s

/-- The CXL event log of a severity (R120): Informational, Warning, Failure, Fatal. -/
def cxlLogOf (sev : Nat) : Nat := if sev = 2 then 0 else if sev = 3 then 1 else if sev = 4 then 2 else 3

/-- The LDs whose DPA space holds a window address, with the DPA. -/
def ldsHolding (s : State) (addr : Nat) : List (Nat × Nat) :=
  (List.range s.ldCount).filterMap (fun n =>
    if s.ldEnabled n then (addrToDpa (s.extents n) addr).map (fun d => (n, d)) else none)

/-- Append one record to the CXL event log of an LD. -/
def cxlLog (e : Event) (s : State) (x : Nat × Option Nat) : State :=
  { s with win := { s.win with nextHandle := s.win.nextHandle + 1, cxlLogs := s.win.cxlLogs ++
      [{ ld := x.1, log := cxlLogOf e.sev, handle := s.win.nextHandle, dpa := x.2, ev := e }] } }

/-- CXL_EVENT_LOG_COPY (R120). -/
def cxlCopy (s : State) (e : Event) : State :=
  if s.on F.winCtlCxlEventMap && 2 ≤ e.sev then
    match e.addr with
    | some a => (s.ldsHolding a).foldl (fun s x => s.cxlLog e (x.1, some x.2)) s
    | none => match s.mgmtLd? with
      | some n => s.cxlLog e (n, none)
      | none => s
  else s

/-- The record being written is complete (R579): log, CXL copy, persistent copy, routes. -/
def finishRecord (s : State) (x : Record) : State :=
  let s := { s with obs := { s.obs with writing := none, lastSeq := some x.seq,
                                        ram := logPut ramLogSize s.obs.ram x } }
  let s := ((s.set F.evrStatusRamCount s.obs.ram.length).cxlCopy x.ev).queueCopy x
  (List.range 8).foldl (routeOne x) s

/-- Copy the record at or above a sequence number into the window (R583). -/
def selectRecord (s : State) (log : Bool) (seq : Nat) : State :=
  let l := (if log then s.obs.persist else s.obs.ram).filter (fun r => seq ≤ r.seq)
  let best := l.foldl (fun (m : Option Record) r => match m with
    | none => some r
    | some b => if r.seq < b.seq then some r else some b) none
  { (s.put F.evrCursorFound best.isSome) with obs := { s.obs with window := best } }

end State

namespace State

/-! ### Sampling (R597 to R601) -/

/-- The sample buffer's size: 2^SizeLog2, 16 to 32. -/
def sampleLog2 (s : State) : Nat := max 16 (min 32 (s.get F.pmcSampleCtlSizeLog2))

/-- Whether every 64 MiB shared-memory unit of a range is granted to a domain (R388, R600). -/
def shmGranted (s : State) (dom base len : Nat) : Bool :=
  let unit := 2 ^ 26
  let lo := (base - 0x200000000000) / unit
  let hi := (base - 0x200000000000 + len - 1) / unit
  hi < s.part.pick 256 128 && (List.range (hi + 1 - lo)).all (fun k =>
    s.on (F.hzShmGrantValid (lo + k)) && s.get (F.hzShmGrantDomain (lo + k)) = dom)

/-- Whether the sample buffer is acceptable (R600). -/
def sampleBufferOk (s : State) : Bool :=
  let b := s.get F.pmcSampleBaseBase
  let n := 2 ^ s.sampleLog2
  b % n = 0 && ((0x400000000000 ≤ b && b + n ≤ 0x800000000000)
    || (0x200000000000 ≤ b && b + n ≤ 0x200400000000 && s.shmGranted 0 b n))

end State

/-- The 64 bytes of a sample record, with its SampleSeq (Table 19.7). -/
def Sample.bytes (x : Sample) (seq : Nat) : List Byte :=
  leBytes 8 x.time ++ leBytes 8 x.pc ++ leBytes 8 x.dataAddr ++ leBytes 2 x.core ++ leBytes 1 x.event
    ++ leBytes 1 x.flags ++ leBytes 4 x.latencyNs ++ leBytes 4 x.tag ++ leBytes 2 (x.ring % 4096)
    ++ leBytes 2 (x.dom % 1024) ++ leBytes 8 seq ++ leBytes 16 0

open Host

/-- EVENT_INTAKE (R575 to R578): the oldest event in transit reaches the intake. -/
def execEventIntake (s : State) : Outcome State Fault Refusal :=
  .next <|
    match s.obs.raised with
    | [] => s
    | e :: rest =>
      let s := { s with obs := { s.obs with raised := rest } }
      if e.sev < s.recordMin then s
      else
        let dup := match s.youngest? with
          | some r => r.ev.same e && r.repeats < 65535
          | none => false
        if dup then s.repeatYoungest (e.time / 1000000000)
        else if s.obs.intake.length < (if sevError ≤ e.sev then 64 else 56) then
          let s := { s with obs := { s.obs with intake := s.obs.intake ++ [e.entry] } }
          if s.obs.writing.isSome then s else s.startNext
        else s.dropEvent e

/-- EVENT_RECORD_WRITE (R579, R580, R586, R587): the record being written is complete, and the next starts. -/
def execEventRecordWrite (s : State) : Outcome State Fault Refusal :=
  .next <|
    match s.obs.writing with
    | none => s
    | some r => (s.finishRecord r).startNext

/-- ROUTE_HOLD_EXPIRY (R587): the one notification that covers the records written during HoldUs. -/
def execRouteHoldExpiry (route : Nat) (s : State) : Outcome State Fault Refusal :=
  .next <|
    match s.obs.routeWait[route]?, s.obs.routeLast[route]? with
    | some true, some (some t) =>
      if t + s.get (F.evrRouteHoldUs route) * 1000 ≤ s.clk then
        if s.on (F.evrRouteEnable route) && (s.routeDomain? route).isSome then s.routeNotify route
        else { s with obs := { s.obs with routeWait := s.obs.routeWait.set route false } }
      else s
    | _, _ => s

/-- PERSISTENT_COPY_WRITE (R584): the page write of the first copy in the backlog ends. -/
def execPersistentCopyWrite (s : State) : Outcome State Fault Refusal :=
  .next <|
    match s.obs.backlog with
    | [] => s
    | r :: rest =>
      let l := if s.obs.persist.any (fun x => x.seq = r.seq) then
          s.obs.persist.map (fun x => if x.seq = r.seq then r else x)
        else State.logPut State.persistSize s.obs.persist r
      let s := { s with obs := { s.obs with backlog := rest, persist := l } }
      s.set F.evrStatusPersistCount l.length

/-- Whether the supervisor is Stopping (PWR_STATUS.State, Table 18.3). -/
def State.stopping (s : State) : Bool := s.get F.pwrStatusState = 4

/-- REPEAT_REWRITE (R584): a copy whose repeat data has changed is queued again after 60 s, or at Stopping. -/
def execRepeatRewrite (seq : Nat) (s : State) : Outcome State Fault Refusal :=
  .next <|
    match s.obs.ram.find? (fun r => r.seq = seq) with
    | some r =>
      if r.persisted && r.stale && (r.copied + 60000000000 ≤ s.clk || s.stopping)
          && s.obs.backlog.length < 64 then
        let r' := { r with stale := false, copied := s.clk }
        { s with obs := { s.obs with
            ram := s.obs.ram.map (fun x => if x.seq = seq then r' else x), backlog := s.obs.backlog ++ [r'] } }
      else s
    | none => s

/-- EVR_CURSOR_WRITE (R583). -/
def execEvrCursorWrite (value : BitVec 64) (s : State) : Outcome State Fault Refusal :=
  .next <|
    let s := (s.set F.evrCursorSeq (bits value 0 48)).set F.evrCursorLog (bits value 48 1)
    s.selectRecord (bits value 48 1 != 0) (bits value 0 48)

/-- NEXT (R583): the record after the one shown. -/
def execNext (s : State) : Outcome State Fault Refusal :=
  .next <|
    match s.obs.window with
    | some r => (s.set F.evrCursorSeq (r.seq + 1)).selectRecord (s.on F.evrCursorLog) (r.seq + 1)
    | none => s.selectRecord (s.on F.evrCursorLog) (s.get F.evrCursorSeq)

/-- Event 27, the first record of a cleared log (R585). -/
def State.clearedRecord (s : State) (log n : Nat) : State :=
  let s := { s with obs := { s.obs with lastSeq := none } }
  let e : Event := { src := 27, sev := sevNotice, code := 1, dom := noDom, time := s.nowDtb,
                     unsynced := !s.on F.tbStatusEverSynced, data := [d4 log, d4 n], addr := none }
  let (q, s) := s.takeSeq
  let r : Record := { e.entry with seq := q }
  if log = 0 then s.finishRecord r
  else
    let s := { s with obs := { s.obs with persist := [{ r with persisted := true }] } }
    s.set F.evrStatusPersistCount 1

/-- CLEARRAM (R585). Assumption 122 (DEDUCED). -/
def execClearram (s : State) : Outcome State Fault Refusal :=
  .next <|
    let n := s.obs.ram.length
    State.clearedRecord { s with obs := { s.obs with ram := [] } } 0 n

/-- CLEARPERSIST (R585): the whole page-by-page erase is this one command, so ClearBusy is never seen set.
Assumption 122 (DEDUCED). -/
def execClearpersist (s : State) : Outcome State Fault Refusal :=
  .next <|
    let n := s.obs.persist.length
    State.clearedRecord { s with obs := { s.obs with persist := [] } } 1 n

/-- COUNTER_WRAP (R591). -/
def execCounterWrap (counter : Nat) (s : State) : Outcome State Fault Refusal :=
  .next <|
    let c := s.counter counter
    if counterPresent s.part counter && !c.sampling then s.wrapCounter c 0 else s

/-- PMC_CNT_WRITE (R594). -/
def execPmcCntWrite (counter : Nat) (value : BitVec 64) (s : State) : Outcome State Fault Refusal :=
  .next <|
    if counterPresent s.part counter then
      s.setCounter { s.counter counter with cnt := value.toNat % 2 ^ 48 }
    else s

/-- PMC_FREEZE (R593). -/
def execPmcFreeze (groups : BitVec 64) (s : State) : Outcome State Fault Refusal :=
  .next (s.setReg R.pmcFrozen (s.reg R.pmcFrozen ||| groups))

/-- PMC_THAW (R593). -/
def execPmcThaw (groups : BitVec 64) (s : State) : Outcome State Fault Refusal :=
  .next <|
    let s := s.setReg R.pmcFrozen (s.reg R.pmcFrozen &&& ~~~groups)
    { s with obs := { s.obs with frozenCores := s.obs.frozenCores.filter (fun h => !groups.getLsbD (24 + h / 32)) } }

/-- BW_WINDOW_OPEN (R595, R596): a write of PMC_BW_CTL with Start. -/
def execBwWindowOpen (index : Nat) (value : BitVec 32) (s : State) : Outcome State Fault Refusal :=
  .next <|
    if index < 64 then
      let v := value.setWidth 64
      let s := s.set (F.pmcBwCtlEventOnDone index) (bits v 1 1)
      let s := if bits v 2 1 = 1 then s.put (F.pmcBwCtlRefused index) false else s
      s.openBw index (s.get (F.pmcBwLenUs index))
    else s

/-- BW_WINDOW_CLOSE (R595): the window's length has passed. -/
def execBwWindowClose (index : Nat) (s : State) : Outcome State Fault Refusal :=
  .next <|
    match s.obs.bw.find? (fun w => w.idx = index) with
    | none => s
    | some w =>
      if w.until_ ≤ s.nowDtb then
        let s := { s with obs := { s.obs with bw := s.obs.bw.filter (fun x => x.idx != index) } }
        let s := s.put (F.pmcBwCtlStart index) false
        if s.on (F.pmcBwCtlEventOnDone index) then
          s.raise 29 sevInfo 1 noDom [d4 index, d4 (s.get (F.pmcBwInCount index) * 64),
            d4 (s.get (F.pmcBwOutCount index) * 64)]
        else s
      else s

/-- The flags of a sample (R598): Precise, AddrValid, LatencyValid, Skid. -/
def sampleFlags (p : Part) (event : Nat) (addrValid latencyValid : Bool) : Nat :=
  if event = 0xA1 || event = 0xAC || event = 0xAD then 0
  else if p.small then 8
  else 1 + (if addrValid then 2 else 0) + (if latencyValid then 4 else 0)

/-- SAMPLE_TAKE (R597, R598, R601): a sampling counter passes 2^48 - 1, reloads and takes one sample. -/
def execSampleTake (counter pc dataAddr latencyNs : Nat) (addrValid latencyValid : Bool) (s : State) :
    Outcome State Fault Refusal :=
  .next <|
    let c := s.counter counter
    let h := (counter - 1152) / 8
    if c.sampling && c.enabled && !s.frozen counter && h < s.part.cores then
      let s := s.setCounter { c with cnt := 2 ^ 48 - c.period }
      let dom := s.get (F.hzCoreStatusDomain h)
      if s.on F.pmcSampleCtlDomainOnly && dom != s.get F.pmcSampleCtlDomain then s
      else if (s.obs.staged.filter (fun x => x.1 = h / 32)).length < 64 then
        let f := sampleFlags s.part c.event addrValid latencyValid
        let x : Sample :=
          { time := s.nowDtb, pc := pc, dataAddr := if f / 2 % 2 = 1 then dataAddr else 0, core := h,
            event := c.event, flags := f, latencyNs := if f / 4 % 2 = 1 then latencyNs else 0,
            tag := s.get (F.hzCoreKernelTag h), ring := s.get (F.hzCoreKernelRingPair h), dom := dom }
        { s with obs := { s.obs with staged := s.obs.staged ++ [(h / 32, x)] } }
      else
        let s := s.bump F.pmcSampleDropCount
        let due := match s.obs.lastSampleDrop with
          | none => true
          | some t => t + 1000000000 ≤ s.clk
        if due then
          let s := { s with obs := { s.obs with lastSampleDrop := some s.clk } }
          s.raise 28 sevNotice 3 noDom [d4 (s.get F.pmcSampleWrCount), d4 (h / 32)]
        else s
    else s

/-- Write sample record number `n` (from 0) into the buffer. -/
def State.storeSample (s : State) (x : Sample) (n : Nat) : State :=
  let a := s.get F.pmcSampleBaseBase + n % 2 ^ (s.sampleLog2 - 6) * 64
  let s := s.set F.pmcSampleWrCount (n + 1)
  s.storeOut a (x.bytes (n + 1))

/-- SAMPLE_ARRIVAL (R600): the oldest sample staged at a cluster reaches the hub. -/
def execSampleArrival (cluster : Nat) (s : State) : Outcome State Fault Refusal :=
  .next <|
    match s.obs.staged.find? (fun x => x.1 = cluster) with
    | none => s
    | some (_, x) =>
      let s := { s with obs := { s.obs with staged := s.obs.staged.eraseP (fun y => y.1 = cluster) } }
      if !s.on F.pmcSampleCtlEnable then s
      else
        let w := s.get F.pmcSampleWrCount
        let full := w - s.get F.pmcSampleRdCount = 2 ^ (s.sampleLog2 - 6)
        if s.on F.pmcSampleCtlWrap then
          let lapped := 2 ^ (s.sampleLog2 - 6) ≤ w
          let s := if lapped && !s.on F.pmcSampleCtlWrapped then
              (s.put F.pmcSampleCtlWrapped true).raise 28 sevNotice 2 noDom [d4 w, d4 cluster]
            else s
          s.storeSample x w
        else if full then
          if s.on F.pmcSampleCtlFull then s
          else (s.put F.pmcSampleCtlFull true).raise 28 sevNotice 1 noDom [d4 w, d4 cluster]
        else s.storeSample x w

/-- PMC_SAMPLE_ENABLE (R600): a write of PMC_SAMPLE_CTL. -/
def execPmcSampleEnable (value : BitVec 32) (s : State) : Outcome State Fault Refusal :=
  .next <|
    let v := value.setWidth 64
    let s := ((s.set F.pmcSampleCtlWrap (bits v 1 1)).set F.pmcSampleCtlDomainOnly (bits v 2 1)).set
      F.pmcSampleCtlSizeLog2 (bits v 8 5)
    let s := s.set F.pmcSampleCtlDomain (bits v 16 10)
    if bits v 0 1 = 0 then s.put F.pmcSampleCtlEnable false
    else if s.sampleBufferOk then
      let s := ((s.put F.pmcSampleCtlEnable true).set F.pmcSampleWrCount 0).set F.pmcSampleRdCount 0
      (s.put F.pmcSampleCtlFull false).put F.pmcSampleCtlWrapped false
    else s

/-- PMC_SAMPLE_RD_WRITE (R600): a value above PMC_SAMPLE_WR is ignored. -/
def execPmcSampleRdWrite (value : BitVec 64) (s : State) : Outcome State Fault Refusal :=
  .next <|
    if value.toNat ≤ s.get F.pmcSampleWrCount then s.set F.pmcSampleRdCount value.toNat else s

end Sys2Proof.Machine
end

