-- ==== Sys2Proof/Machine/Count.lean ====
section
/-!
DEFINITION. Performance counters by unit (Tables 19.5 and 19.6): what an event adds.
-/
namespace Sys2Proof.Machine
namespace State

/-- `n` occurrences of a code of the memory window, for a link. -/
def cWin (s : State) (code link n : Nat) : State := s.count 0 96 code link n
def cLc (s : State) (code n : Nat) : State := s.count 96 160 code 0 n
def cPer (s : State) (code n : Nat) : State := s.count 160 192 code 0 n
def cTop (s : State) (code n : Nat) : State := s.count 192 224 code 0 n
def cRing (s : State) (code n : Nat) : State := s.count 224 256 code 0 n
def cNet (s : State) (p code n : Nat) : State := s.count (256 + 8 * p) (264 + 8 * p) code 0 n
def cCip (s : State) (code n : Nat) : State := s.count 384 416 code 0 n
/-- A code of the mesh, for a router. -/
def cEsp (s : State) (code router n : Nat) : State := s.count 512 576 code router n
def cHbm (s : State) (st code n : Nat) : State := s.count (576 + 8 * st) (584 + 8 * st) code 0 n
def cFt (s : State) (code stream n : Nat) : State := s.count 608 640 code stream n
/-- A code of an M-channel. -/
def cMch (s : State) (c code n : Nat) : State :=
  s.count (640 + 64 * (c / 4) + 4 * (c % 4)) (644 + 64 * (c / 4) + 4 * (c % 4)) code 0 n
/-- A code of an F-channel. -/
def cFch (s : State) (c code n : Nat) : State :=
  s.count (656 + 64 * (c / 8) + 4 * (c % 8)) (660 + 64 * (c / 8) + 4 * (c % 8)) code 0 n
def cFtl (s : State) (d code n : Nat) : State := s.count (688 + 64 * d) (704 + 64 * d) code 0 n
def cHz (s : State) (h code n : Nat) : State := s.count (1152 + 8 * h) (1160 + 8 * h) code 0 n

/-- A unit counter of 48 bits that wraps with event 24 (R591); `off` is its register offset. -/
def count48 (s : State) (f : Fld) (off n : Nat) : State :=
  let v := s.get f + n
  let s := s.set f (v % 2 ^ 48)
  if 2 ^ 48 ≤ v then s.raise 24 sevNotice 1 noDom [d4 off] else s

/-- Lines of a key domain through an XTS core (R434, CIP_DOM_LINES). Assumption 10 (PRESUMED). -/
def xtsLine (s : State) (dom n : Nat) : State :=
  (s.cCip 0x50 n).count48 (F.cipDomLinesCount dom) (0x0C000000 + dom * 4096 + 0x48) n

/-- GCM text of a key domain, in 64-byte units (CIP_DOM_GCM_BYTES). -/
def gcmText64 (s : State) (dom n : Nat) : State :=
  (s.cCip 0x51 n).count48 (F.cipDomGcmBytesCount dom) (0x0C000000 + dom * 4096 + 0x50) n

end State
end Sys2Proof.Machine
end

