-- ==== Sys2Proof/Machine/Keys.lean ====
section
/-!
DEFINITION. Which key domains are active, and the XTS cores that hold their keys (R442, R443, R445).
-/
namespace Sys2Proof.Machine
namespace State

/-- A key domain is active (R442). -/
def keyActive (s : State) (dom : Nat) : Bool :=
  (List.range s.ldCount).any (fun n => s.ldEnabled n && s.ldDomain n = dom)
    || s.net.qps.any (fun q => bits q.ctx0 3 10 = dom)
    || (s.get F.ringEngineStatusEnabled != 0 && (List.range 4096).any (fun r =>
      s.get (F.ringStatusState r) != 0 && s.get (F.ringBindDomain r) = dom))
    || s.ft.grants.any (fun g => bits g.2 63 1 = 1 && bits g.2 36 10 = dom)
    || (List.range (s.part.pick 256 128)).any (fun u => s.on (F.hzShmGrantValid u) && s.get (F.hzShmGrantDomain u) = dom)
    || (List.range s.part.sites).any (fun a => s.get (F.klAgentCtlDomain a) = dom)

def xtsOnline (s : State) : List Nat := (List.range 16).filter (s.bit F.cipStatusXtsOnline)
def keysIn (s : State) (core : Nat) : List XtsEntry := s.cip.xts.filter (fun e => e.core = core)
def pinsIn (s : State) (core : Nat) : Nat := ((s.keysIn core).filter (·.pinned)).length

/-- The registers that show where keys reside. -/
def showKeys (s : State) (dom : Nat) : State :=
  let copies := (s.cip.xts.filter (fun e => e.dom = dom)).length
  let pinned := s.cip.xts.filter (·.pinned)
  let live := ((pinned.map (·.dom)).eraseDups.filter (fun d => !s.cip.idle.any (fun i => i.1 = d))).length
  let s := (s.set (F.cipDomXtsCopies dom) copies).put (F.cipDomXtsActive dom)
    (pinned.any (fun e => e.dom = dom) && !s.cip.idle.any (fun i => i.1 = dom))
  (s.set F.cipKeysActive live).set F.cipKeysFreeEntries (64 * s.xtsOnline.length - pinned.length)

/-- A core's cache takes a key, in place of its least recently used unpinned entry where it is full. -/
def loadKey (s : State) (core dom : Nat) (pinned : Bool) : State :=
  let free := (s.keysIn core).filter (fun e => !e.pinned)
  let oldest := free.foldl (fun (m : Option XtsEntry) e => match m with
    | some x => if e.used < x.used then some e else m
    | none => some e) none
  let xts := if (s.keysIn core).length < 64 then s.cip.xts
    else s.cip.xts.filter (fun e => some e != oldest)
  let xts := xts ++ [{ core := core, dom := dom, pinned := pinned, used := s.clk }]
  State.showKeys ({ s with cip := { s.cip with xts := xts } }.bump F.cipXtsSwitchCountCount |>.cCip 0x52 1) dom

/-- The online core with the fewest pinned keys that has room for one more. -/
def pinCore? (s : State) : Option Nat :=
  (s.xtsOnline.filter (fun c => s.pinsIn c < 64)).foldl (fun (m : Option Nat) c => match m with
    | some x => if s.pinsIn c < s.pinsIn x then some c else m
    | none => some c) none

/-- The key of an active domain is pinned. -/
def pinKey (s : State) (dom : Nat) : State :=
  if s.cip.xts.any (fun e => e.dom = dom && e.pinned) then s
  else match s.cip.xts.find? (fun e => e.dom = dom) with
    | some x =>
      let l := s.cip.xts.map (fun (e : XtsEntry) => if e = x then { e with pinned := true } else e)
      State.showKeys { s with cip := { s.cip with xts := l } } dom
    | none => match s.pinCore? with
      | some c => s.loadKey c dom true
      | none => s

/-- What a change of a domain's LDs, rings, queue pairs, grants or agents does to its key: it is pinned while the domain is
active; its release is counted from the moment that the domain stops being active. -/
def touchKey (s : State) (dom : Nat) : State :=
  if s.keyActive dom then
    (State.pinKey { s with cip := { s.cip with idle := s.cip.idle.filter (fun i => i.1 != dom) } } dom).showKeys dom
  else if s.cip.xts.any (fun e => e.dom = dom && e.pinned) && !s.cip.idle.any (fun i => i.1 = dom) then
    State.showKeys { s with cip := { s.cip with idle := s.cip.idle ++ [(dom, s.clk)] } } dom
  else s

end State
end Sys2Proof.Machine
end

