-- ==== Sys2Proof/Machine/Journal.lean ====
section
/-!
DEFINITION. The two journals (R292 to R294, R298): what each record states, and the one operation by which
metadata changes.
-/
namespace Sys2Proof.Machine

/-- Replace the entry of a list that a key selects, or append it; `none` removes it. -/
def putBy {α : Type} (p : α → Bool) (v : Option α) (l : List α) : List α :=
  match v with
  | none => l.filter (fun x => !p x)
  | some v => if l.any p then l.map (fun x => if p x then v else x) else l ++ [v]

/-- Which journal a record belongs to (Table 9.4). -/
def JBody.inFtier : JBody → Bool
  | .mapSet _ _ _ => true
  | .slotSet _ _ => true
  | .bandSet _ _ => true
  | .badBlock _ => true
  | .checkpointStart f _ => f
  | .checkpointEnd f => f
  | _ => false

/-- A word of a 64-bit map; a zero word is not listed. -/
def putWord (k : Nat) (v : Word) (l : List (Nat × Word)) : List (Nat × Word) :=
  Store.write (fun _ => (0 : Word)) k v l

/-- Replay of a window record (R292): the record states the value, so a second replay changes nothing. -/
def JBody.apply (b : JBody) (m : Meta) : Meta :=
  match b with
  | .plotSet p => { m with plots := putBy (fun (x : Plot) => x.idx = p.idx) (some p) m.plots }
  | .migrateCursor k v => { m with migrations := putBy (fun (x : Migration) => x.plot = k) v m.migrations }
  | .excSet k (some t) => { m with exc := Store.insert k t m.exc }
  | .excSet k none => { m with exc := Store.erase k m.exc }
  | .pageWritten k v => { m with written := putWord k v m.written }
  | .tileTouched t => { m with touched := if m.touched.contains t then m.touched else m.touched ++ [t] }
  | .lostWrite i (some e) => { m with lost := Store.insert i e m.lost }
  | .lostWrite i none => { m with lost := Store.erase i m.lost }
  | .lostOverflow v => { m with lwlOverflow := v }
  | .retire i => { m with retire := i }
  | .rankRetired r => { m with retired := if m.retired.contains r then m.retired else m.retired ++ [r] }
  | .groupSet g v => { m with groups := Store.insert g v m.groups }
  | .nsHintSet h =>
    let v := if h.heat.isNone && h.group.isNone then none else some h
    { m with nsHints := putBy (fun (x : NsHint) => x.gib = h.gib) v m.nsHints }
  | .epochArm c => { m with armed := m.armed.filter (fun x => x != c) ++ [c] }
  | .epochCut c t => { m with armed := m.armed.filter (fun x => x != c), openEpoch := c.epoch + 1,
                              lastCut := t, lastEpochCut := if c.snapshot then m.lastEpochCut else some t,
                              lastSnapCut := if c.snapshot then some t else m.lastSnapCut }
  | .cutDropped c => { m with armed := m.armed.filter (fun x => x != c) }
  | .snapIndex c => { m with captures := putBy (fun (x : Capture) => x.epoch = c.epoch && x.page = c.page
      && x.whole = c.whole && (x.whole || x.lines.map (·.idx) = c.lines.map (·.idx))) (some c) m.captures }
  | .snapDrop c => { m with captures := m.captures.filter (fun x => x != c) }
  | .snapState v =>
    let c := if v.state = .free then m.captures.filter (fun x => x.epoch != v.epoch) else m.captures
    { m with captures := c,
             snaps := putBy (fun (x : Snapshot) => x.slot = v.slot) (if v.state = .free then none else some v) m.snaps }
  | .mirrorDirty p v =>
    let rest := m.mirrorDirty.filter (fun x => x != p)
    { m with mirrorDirty := if v then rest ++ [p] else rest }
  | .reborn k v => { m with reborn := putWord k v m.reborn }
  | .mirrorApply e start => { m with applying := if start then some e else none }
  | .decision n => { m with decisions := n }
  | .checkpointStart false _ => { m with touched := [] }
  | _ => m

/-- Replay of an F-tier record. -/
def JBody.applyF (b : JBody) (m : FtMeta) : FtMeta :=
  match b with
  | .mapSet u .unmapped v => { m with map := Store.erase u m.map, version := max m.version (v + 1) }
  | .mapSet u e v => { m with map := Store.insert u e m.map, version := max m.version (v + 1) }
  | .slotSet i v => { m with slots := putBy (fun (x : Slot) => x.idx = i) v m.slots,
                             version := max m.version ((v.map (·.version + 1)).getD 0) }
  | .bandSet n v => { m with bands := putBy (fun (x : Band) => x.num = n) v m.bands }
  | .badBlock x => { m with bad := if m.bad.contains x then m.bad else m.bad ++ [x] }
  | _ => m

namespace State

/-- The journal tail: records not yet on both copies, at 64 bytes each (R293). -/
def tailBytes (s : State) : Nat := (s.per.journal.filter (fun r => !r.durable)).length * 64

/-- Bytes of one journal. -/
def journalBytes (s : State) (ftier : Bool) : Nat := (s.per.journal.filter (fun r => r.ftier = ftier)).length * 64

/-- A change that needs a record of this journal waits (R293, R298). -/
def journalFull (s : State) (ftier : Bool) : Bool :=
  s.part.pick (128 * 2 ^ 20) (64 * 2 ^ 20) ≤ s.tailBytes || 224 * 2 ^ 20 ≤ s.journalBytes ftier

/-- The registers that show journalled values. -/
def showMeta (s : State) : State :=
  let s := (s.set F.perEpochOpen s.md.openEpoch).set F.perEpochCutTime s.md.lastCut
  let s := (s.put F.winStatusLwlOverflow s.md.lwlOverflow).put F.winLwlStatusOverflow s.md.lwlOverflow
  let s := (s.set F.winLwlStatusCount s.md.lost.length).set F.topDecisionSeqSeq s.md.decisions
  let s := (s.put F.winStatusAnyReadOnlyPlot (s.md.plots.any (·.readOnly))).set F.mtExcStatusUsed s.md.exc.length
  (s.set F.perJournalStatusTailMiB (s.tailBytes / 2 ^ 20)).set F.perJournalStatusSinceCkptMiB (s.per.journal.length * 64 / 2 ^ 20)

/-- Accept a journal record, and with it the change that it states (R293). Assumption 32 (DEDUCED). -/
def journal (s : State) (b : JBody) : State :=
  let n := s.get F.perJournalSeqNext
  let r : JRecord := { seq := n, time := s.nowDtb, ftier := b.inFtier, body := b, durable := false }
  let s := { s with md := b.apply s.md, fm := b.applyF s.fm, per := { s.per with journal := s.per.journal ++ [r] } }
  ((s.set F.perJournalSeqNext (n + 1)).showMeta.cPer 0x32 1).cPer 0x33 1

/-! ### Plots, groups and other metadata by name -/

/-- A plot that has no entry yet. -/
def freshPlot (s : State) (i : Nat) : Plot :=
  { idx := i, span := none, start := 0, gap := 262144,
    interval := min 65536 (max 32 (4 * s.get F.topWearCfgBaseInterval)), readOnly := false, hazelOwned := false,
    reborn := false, pinned := false, heat := none, group := none, hinted := 0 }

/-- The plot table entry of a plot. -/
def plot (s : State) (i : Nat) : Plot := (s.md.plots.find? (fun p => p.idx = i)).getD (s.freshPlot i)

/-- Change a plot table entry (PlotSet). -/
def setPlot (s : State) (p : Plot) : State := s.journal (.plotSet p)

def group (s : State) (g : Nat) : Group := (Store.find? s.md.groups g).getD Group.empty
def setGroup (s : State) (g : Nat) (v : Group) : State := s.journal (.groupSet g v)

/-- The window plots of a group, in ascending order. -/
def groupPlots (s : State) (g : Nat) : List Nat :=
  ((s.md.plots.filter (fun p => p.group = some g)).map (·.idx)).mergeSort

/-- A decision that changes a placement takes the next decision number (R284). -/
def newDecision (s : State) : State := s.journal (.decision (s.md.decisions + 1))

/-- Window size in plots. -/
def winPlots (s : State) : Nat := s.get F.winSizePlots

/-- Bit of a page in a 64-page map. -/
def mapBit (l : List (Nat × Word)) (page : Nat) : Bool :=
  (Store.read (fun _ => (0 : Word)) l (page / 64)).getLsbD (page % 64)

/-- A map word with a page's bit replaced. -/
def mapPut (l : List (Nat × Word)) (page : Nat) (v : Bool) : Word :=
  let w := Store.read (fun _ => (0 : Word)) l (page / 64)
  let m : Word := BitVec.ofNat 64 (2 ^ (page % 64))
  if v then w ||| m else w &&& ~~~m

/-- The page-written bit of a window page (R107). -/
def pageWritten (s : State) (page : Nat) : Bool := mapBit s.md.written page
def setWritten (s : State) (page : Nat) (v : Bool) : State :=
  s.journal (.pageWritten (page / 64) (mapPut s.md.written page v))

/-- The Reborn bit of a window page (R273). -/
def pageReborn (s : State) (page : Nat) : Bool := mapBit s.md.reborn page
def setReborn (s : State) (page : Nat) (v : Bool) : State :=
  s.journal (.reborn (page / 64) (mapPut s.md.reborn page v))

end State

end Sys2Proof.Machine
end

