-- ==== Sys2Proof/Machine/Media.lean ====
section
/-!
DEFINITION. The M-tier media: where a page lies, the strong code, check slots, tiles, ages, tokens and the media
itself (chapters 5 and 6).
-/
namespace Sys2Proof.Machine

/-! ### Media pages (Table 6.6: channel [31:27], lane [26:22], row [21:0]) -/

def mediaPage (chan lane row : Nat) : Nat := (chan * 32 + lane) * 2 ^ 22 + row
def pageChan (l : Nat) : Nat := l / 2 ^ 27
def pageLane (l : Nat) : Nat := l / 2 ^ 22 % 32
def pageRow (l : Nat) : Nat := l % 2 ^ 22
def pageRank (l : Nat) : Nat := pageLane l / 16
def pageDie (l : Nat) : Nat := pageChan l / 4
/-- The bank of a media page: channel × 32 + lane. -/
def pageBank (l : Nat) : Nat := l / 2 ^ 22

/-- Rows of a rank-bank (Table 6.1). -/
def spanRows : Nat := 3899392
def checkRow : Nat := 3899392
def metaRow : Nat := 4026368
def spareRow : Nat := 4030464
def rowsPerBank : Nat := 4194304

/-- The training row of a rank: the last row of bank 15 (R171). -/
def isTrainingRow (l : Nat) : Bool := pageLane l % 16 = 15 && pageRow l = rowsPerBank - 1

/-- A spare row that can hold a page (R180). -/
def isSpareRow (l : Nat) : Bool := spareRow ≤ pageRow l && !isTrainingRow l

/-- Spare pages of a channel. -/
def sparesPerChannel : Nat := 5242878

/-- The check slot of a page: the media page of its check row, and the slot in that row (R181). -/
def slotPlace (l : Nat) : Nat × Nat :=
  let i := if pageRow l < spanRows then pageRow l else pageRow l - 131072
  (mediaPage (pageChan l) (pageLane l ^^^ 16) (checkRow + i / 32), i % 32)

/-- The mixing function of R157. -/
def mix (g : Nat) (k : Word) : BitVec 32 :=
  let x : BitVec 32 := BitVec.ofNat 32 g ^^^ k.setWidth 32
  let x := x * 0x9E3779B1#32
  let x := x ^^^ (x >>> 15)
  let x := x ^^^ (k >>> 32).setWidth 32
  let x := x * 0x85EBCA6B#32
  x ^^^ (x >>> 13)

/-- dorfoad_place(): the media page of rotated page `p` of a span (R157). -/
def Span.place (e : Span) (p : Nat) : Nat :=
  let g := p / 32
  let lane := (p % 32) ^^^ ((mix g e.key).toNat % 32)
  mediaPage (e.chans.getD (g % e.chans.length) 0) lane (e.baseRow + g / e.chans.length)

/-- Pages of a plot, without its gap page. -/
def pagesPerPlot : Nat := 262144

/-- rotate(): the rotated index of page `l` of a plot (R211). -/
def Plot.rotate (p : Plot) (l : Nat) : Nat :=
  let x := (l + p.start) % pagesPerPlot
  if p.gap ≤ x then x + 1 else x

/-- The page that a rotated index other than the gap holds. -/
def Plot.unrotate (p : Plot) (x : Nat) : Nat :=
  ((if p.gap < x then x - 1 else x) + pagesPerPlot - p.start % pagesPerPlot) % pagesPerPlot

/-- The media page of a rotated index of a span, the gap page included. -/
def Span.at (e : Span) (p : Nat) : Nat := if p = pagesPerPlot then e.gapPage else e.place p

/-- Rows that a span reserves. -/
def Span.rows (e : Span) : Nat := 8192 / e.chans.length

/-- Whether a span's channels and rows hold a media page. -/
def Span.covers (e : Span) (l : Nat) : Bool :=
  e.chans.contains (pageChan l) && e.baseRow ≤ pageRow l && pageRow l < e.baseRow + e.rows

/-- The rotated index at a media page that a span covers. -/
def Span.index (e : Span) (l : Nat) : Nat :=
  let g := (pageRow l - e.baseRow) * e.chans.length + e.chans.idxOf (pageChan l)
  g * 32 + (pageLane l ^^^ ((mix g e.key).toNat % 32))

namespace State

/-- The exception table: the replacement of a media page (R213). -/
def throughExc (s : State) (l : Nat) : Nat := (Store.find? s.md.exc l).getD l

/-- The migration of a plot, if one has reached Copying. -/
def migration? (s : State) (plot : Nat) : Option Migration :=
  s.md.migrations.find? (fun m => m.plot = plot && (m.state = .copying || m.state = .paused))

/-- The media page of a page of a plot: rotation, cursor of a migration, exception table (R211, R268). -/
def locateIn (s : State) (plot l : Nat) : Option Nat :=
  let p := s.plot plot
  let x := p.rotate l
  let e := match s.migration? plot with
    | some m => if x < m.cursor then m.dst else p.span
    | none => p.span
  e.map (fun e => s.throughExc (e.at x))

/-- The media page of a window page. Assumption 23 (DEDUCED). -/
def locate (s : State) (page : Nat) : Option Nat := s.locateIn (page / pagesPerPlot) (page % pagesPerPlot)

/-- The media page that a media page replaces, if it is a replacement. -/
def beforeExc (s : State) (l : Nat) : Nat := ((s.md.exc.find? (fun x => x.2 = l)).map (·.1)).getD l

/-- The plot and page that the mapping puts at a media page. -/
def pageAt? (s : State) (l : Nat) : Option (Nat × Nat) :=
  let o := s.beforeExc l
  s.md.plots.findSome? (fun p => match p.span with
    | none => none
    | some e =>
      let x := if e.gapPage = o then pagesPerPlot else if e.covers o then e.index o else p.gap
      if x = p.gap then none
      else if s.throughExc (e.at x) = l then some (p.idx, p.unrotate x) else none)

/-- The window page at a media page. -/
def windowPageAt? (s : State) (l : Nat) : Option Nat :=
  match s.pageAt? l with
  | some (p, x) => if p < s.winPlots then some (p * pagesPerPlot + x) else none
  | none => none

/-! ### Ranks and channels -/

def chan (s : State) (c : Nat) : Chan := s.mt.chans.getD c Chan.reset
def setChan (s : State) (c : Nat) (v : Chan) : State := { s with mt := { s.mt with chans := s.mt.chans.set c v } }

/-- Channels of the part. -/
def channels (s : State) : Nat := 4 * s.part.dies

/-- A rank of a channel is online: the channel is Online or Calibrating, and the rank is. -/
def rankOnline (s : State) (c r : Nat) : Bool :=
  c < s.channels && (s.get (F.mtChStatusState c) = 2 || s.get (F.mtChStatusState c) = 3)
    && s.bit (F.mtChStatusRankOnline c) r
def rankRetired (s : State) (c r : Nat) : Bool := s.md.retired.contains (c * 2 + r)
def pageOnline (s : State) (l : Nat) : Bool := s.rankOnline (pageChan l) (pageRank l)
def calibrating (s : State) (c : Nat) : Bool := s.get (F.mtChStatusState c) = 3

/-- The value in use of a sensor, in quarters of a degree, and in whole degrees, halves rounded up (R197). -/
def sensorQ (s : State) (n : Nat) : Int := (BitVec.ofNat 12 (s.get (F.thmSensorTemp n))).toInt
def sensor (s : State) (n : Nat) : Int := (s.sensorQ n + 2) / 4

end State

/-! ### The strong code (R184 to R186) -/

/-- Product in GF(2^10) modulo x^10 + x^3 + 1; the first argument counts the bits left. -/
def gfMul : Nat → Nat → Nat → Nat
  | 0, _, _ => 0
  | n + 1, a, b =>
    let r := gfMul n a (b / 2)
    let d := if r < 512 then 2 * r else (2 * r - 1024) ^^^ 9
    if b % 2 = 1 then d ^^^ a else d

def gf (a b : Nat) : Nat := gfMul 10 a b

/-- α^n, α being x. -/
def gfPow : Nat → Nat
  | 0 => 1
  | n + 1 => gf (gfPow n) 2

/-- (x − α^n) times a polynomial, lowest coefficient first. -/
def mulRoot (n : Nat) (p : List Nat) : List Nat :=
  ((0 :: p).zip (p ++ [0])).map (fun x => x.1 ^^^ gf (gfPow n) x.2)

/-- The generator polynomial, lowest coefficient first: 13 coefficients. Assumption 13 (DEDUCED). -/
def generator : List Nat := (List.range 12).foldl (fun p n => mulRoot n p) [1]

/-- One step of the division: shift a data symbol in. Assumption 13 (DEDUCED). -/
def rsStep (r : List Nat) (d : Nat) : List Nat :=
  let f := r.getD 11 0 ^^^ d
  ((0 :: r.take 11).zip (generator.take 12)).map (fun x => x.1 ^^^ gf f x.2)

/-- Symbol `n` of the 32,768-bit string of a page, given as its number. -/
def pageSymbol (page n : Nat) : Nat := page / 2 ^ (10 * n) % 1024

/-- The 12 check symbols of codeword `j` of a page. -/
def codewordCheck (page j : Nat) : List Nat :=
  ((List.range 410).map (fun k => pageSymbol page (8 * (409 - k) + j))).foldl rsStep (List.replicate 12 0)

/-- The 960 check bits of a page. Assumption 13 (DEDUCED). -/
def strongCode (page : Nat) : Nat :=
  ((List.range 8).map (fun j =>
    ((codewordCheck page j).foldr (fun x acc => x + 1024 * acc) 0) * 2 ^ (120 * j))).sum

/-- A page's number in which only one line is set. -/
def lineInPage (idx : Nat) (l : Line) : Nat := l.toNat * 2 ^ (512 * idx)

/-! ### Page records and check slots (R187, R188) -/

/-- The record of a page never written. -/
def PageRecord.none : PageRecord :=
  { stamp := 0, temp := 0, tileClass := 0, written := false, unsynced := false, poisonLines := false,
    rewritten := false, good := true }

def CheckSlot.none : CheckSlot := { symbols := 0, record := PageRecord.none }

def afTable0 : List Nat :=
  [42332, 50178, 59394, 70202, 82859, 97663, 114953, 135121, 158614, 185946, 217702, 254553, 297262,
   346700, 403857, 469859, 545983, 633679, 734589, 850571, 983725, 1136423, 1311338, 1511486]

def afTable1 : List Nat :=
  [1740259, 2001471, 2299408, 2638878, 3025274, 3464634, 3963714, 4530069, 5172135, 5899324, 6722131,
   7652243, 8702666, 9887859, 11223886, 12728574, 14421691, 16325142, 18463175, 20862612, 23553101,
   26567378, 29941572, 33715515]

def afTable2 : List Nat :=
  [37933093, 42642618, 47897238, 53755371, 60281186, 67545111, 75624393, 84603690, 94575723, 105641968,
   117913405, 131511323, 146568192, 163228590, 181650206, 202004916, 224479934, 249279051, 276623955,
   306755658, 339936006, 376449311, 416604080, 460734876]

def afTable3 : List Nat :=
  [509204297, 562405091, 620762409, 684736211, 754823825, 831562678, 915533194, 1007361885, 1107724631,
   1217350171, 1337023803, 1467591322, 1609963187, 1765118950, 1934111942, 2118074243, 2318221943,
   2535860710, 2772391679, 3029317684, 3308249838, 3610914487, 3939160555, 4294967296]

def afTable4 : List Nat :=
  [4680452467, 5097880953, 5549673854, 6038418065, 6566876353, 7137997980, 7754929872, 8421028363,
   9139871558, 9915272306, 10751291843, 11652254111, 12622760793, 13667707084, 14792298236,
   16002066899, 17302891306, 18701014312, 20203063337, 21816071247, 23547498202, 25405254510,
   27397724524, 29533791628]

def afTable5 : List Nat :=
  [31822864342, 34274903590, 36900451174, 39710659499, 42717322587, 45932908435, 49370592747,
   53044294109, 56968710633, 61159358142, 65632609925, 70405738134, 75496956857, 80925466942,
   86711502609, 92876379917, 99442547144, 106433637131, 113874521664, 121791367946, 130211697214,
   139164445595, 148680027226, 158790399738]

def afTable6 : List Nat :=
  [169529132158, 180931475292, 193034434675, 205876846150, 219499454144, 233944992730, 249258269539,
   265486252597, 282678160179, 300885553742, 320162434032, 340565340433, 362153453654, 384988701831,
   409135870128, 434662713933, 461640075722, 490142005693, 520245886257, 552032560473, 585586464523,
   620995764324, 658352496364, 697752712862]

def afTable7 : List Nat :=
  [739296631359, 783088788816, 829238200341, 877858522634, 929068222250, 982990748791, 1039754713126,
   1099494070738, 1162348310318, 1228462647699, 1297988225241, 1371082316784, 1447908538266,
   1528637064128, 1613444849604, 1702515859025, 1796041300234, 1894219865236, 1997257977194,
   2105370043885, 2218778717736, 2337715162554, 2462419327064]

/-- AF for every whole degree from -40 to 150, in units of 2^-32 (R197). -/
def afTable : List Nat :=
  afTable0 ++ afTable1 ++ afTable2 ++ afTable3 ++ afTable4 ++ afTable5 ++ afTable6 ++ afTable7

/-- The acceleration factor at a whole degree (R197). Assumption 14 (DEDUCED). -/
def accel (t : Int) : Nat := afTable.getD (min 190 (max 0 (t + 40))).toNat 0

namespace State

/-- Slots of the page-check cache, and its sets of 8 ways. -/
def checkSlots (s : State) : Nat := s.part.pick 262144 131072

/-- The check slot of a page in effect: the cached one, else the media's. -/
def checkSlot (s : State) (l : Nat) : CheckSlot :=
  match s.mt.cache.find? (fun c => c.loc = l) with
  | some c => c.slot
  | none => (Store.find? s.mt.slots l).getD CheckSlot.none

/-- The record of a media page, if its CRC is good (R187). -/
def record? (s : State) (l : Nat) : Option PageRecord :=
  let r := (s.checkSlot l).record
  if r.good then some r else none

/-- The set of a slot: the specification does not say how slots map to sets. Assumption 15 (DESIGN CHOICE). -/
def checkSet (s : State) (l : Nat) : Nat := Config.setOf 1 l % (s.checkSlots / 8)

/-- Write a cached slot back to its check row. -/
def storeSlot (s : State) (c : CachedSlot) : State :=
  { s with mt := { s.mt with slots := Store.insert c.loc c.slot s.mt.slots } }

/-- Make room in the set of a slot (R188): drop the least recently used clean slot, or write back the oldest dirty
one. -/
def checkRoom (s : State) (l : Nat) : State :=
  let same := s.mt.cache.filter (fun c => s.checkSet c.loc = s.checkSet l)
  if same.length < 8 then s
  else match same.find? (fun c => !c.dirty) with
    | some c => { s with mt := { s.mt with cache := s.mt.cache.filter (fun x => x.loc != c.loc) } }
    | none => match same with
      | [] => s
      | c :: _ =>
        let s := s.storeSlot c
        { s with mt := { s.mt with cache := s.mt.cache.filter (fun x => x.loc != c.loc) } }

/-- Put a new content into a page's check slot, through the cache. -/
def setSlot (s : State) (l : Nat) (v : CheckSlot) : State :=
  let held : Bool := s.mt.cache.any (fun c => c.loc = l)
  let s := if held then s else s.checkRoom l
  { s with mt := { s.mt with cache := s.mt.cache.filter (fun x => x.loc != l) ++
      [{ loc := l, slot := v, dirty := true }] } }

/-! ### Tiles, marks and ages (R199 to R203) -/

/-- The tile of a media page. -/
def tileOf (l : Nat) : Nat := pageChan l * 2 ^ 19 + pageRow l / 8
def tileDie (t : Nat) : Nat := t / 2 ^ 21

/-- The whole seconds of a die's aging clock. -/
def agingSec (s : State) (d : Nat) : Nat := s.get (F.mtAgingSeconds d) / 2 ^ 32

def effAge (s : State) (mark d : Nat) : Nat := (s.agingSec d + 2 ^ 32 - mark % 2 ^ 32) % 2 ^ 32

end State

/-- age_class() of R201: `k` counts up while the age reaches the bound. -/
def ageClassFrom : Nat → Nat → Nat → Nat → Nat
  | 0, k, _, _ => k
  | n + 1, k, b, e => if b ≤ e then ageClassFrom n (k + 1) (b * 10) e else k

def ageClass (e : Nat) : Nat := ageClassFrom 7 0 10 e

namespace State

def tile? (s : State) (t : Nat) : Option Tile := Store.find? s.mt.tiles t
def setTile (s : State) (t : Nat) (v : Tile) : State :=
  { s with mt := { s.mt with tiles := Store.insert t v s.mt.tiles } }

/-- The age-map entry of a tile: class, and Mixed in bit 3. -/
def ageEntry (s : State) (t : Nat) : Nat :=
  match s.tile? t with
  | none => 0
  | some x =>
    let k := ageClass (s.effAge x.oldest (tileDie t))
    let kl := ageClass (s.effAge x.latest (tileDie t))
    k + (if kl + 2 ≤ k then 8 else 0)

/-- The reference set and the Mixed flag that the age map gives a page (R189). -/
def pageClass (s : State) (l : Nat) : Nat × Bool :=
  let a := Store.read (fun _ => 0) s.mt.ageMap (tileOf l)
  (a % 8, 8 ≤ a)

/-- The class of the retry (R189). -/
def retryClass (k : Nat) (mixed : Bool) : Nat :=
  if mixed then (if k = 0 then 1 else k - 1) else if k = 7 then 6 else k + 1

/-- A TB_STAMP_FIX entry: G, S and O, if valid. -/
def stampFix? (s : State) (i : Nat) : Option (Nat × Nat × Nat) :=
  if s.on (F.tbStampFixBValid i) then
    some (s.get (F.tbStampFixAG i), s.get (F.tbStampFixAS i), s.get (F.tbStampFixBO i))
  else none

/-- stamp_of() of R64; none is AGE_UNKNOWN. -/
def stampOf (s : State) (stamp : Nat) (unsynced : Bool) : Option Nat :=
  let l := (List.range 16).filterMap s.stampFix?
  if !unsynced then some stamp
  else match l.find? (fun x => x.1 ≤ stamp && stamp ≤ x.2.1) with
    | some x => some (stamp + x.2.2)
    | none =>
      let oldest := l.foldl (fun m x => min m x.1) (2 ^ 32)
      if l.length = 16 && stamp < oldest then none else some stamp

/-- The aging ledger's value for a die at a stamp second (R203): the latest point not after it. -/
def ledgerAt (s : State) (d sec : Nat) : Nat :=
  s.mt.ledger.foldl (fun m (x : LedgerPoint) => if x.die = d && x.sec ≤ sec then max m x.aging else m) 0

/-- The effective age of a page record (R203, R66). -/
def recordAge (s : State) (d : Nat) (r : PageRecord) : Nat :=
  match s.stampOf r.stamp r.unsynced with
  | none => 7776000
  | some x => s.effAge (s.ledgerAt d x) d

/-- A write to a page of a tile sets its marks (R200), with a TileTouched record first (R294). -/
def touchTile (s : State) (l : Nat) : State :=
  let t := tileOf l
  let s := if s.md.touched.contains t then s else s.journal (.tileTouched t)
  let m := s.agingSec (tileDie t)
  match s.tile? t with
  | none => s.setTile t { oldest := m, latest := m, fromStamps := false, suspect := false, overdue := false }
  | some x => s.setTile t { x with latest := m }

/-- A tile is CheckSuspect (R316). -/
def tileSuspect (s : State) (l : Nat) : Bool := ((s.tile? (tileOf l)).map (·.suspect)).getD false

/-! ### Tokens (R174) -/

/-- Lines of refill in each microsecond. -/
def writeRate (s : State) : Nat := s.get F.mtMediaPowerWatts * 25

/-- The bucket after refill up to now. -/
def refill (s : State) : State :=
  let add := s.writeRate * (s.clk - s.mt.filled) / 1000
  { s with mt := { s.mt with tokens := min 65536 (s.mt.tokens + add), filled := s.clk } }

/-- The level of the package loop, and the highest of those that apply to writes on a channel and to an F-channel (R563): a flush is
never throttled (R552, R565). -/
def packageLevel (s : State) : Nat := if s.get F.pwrStatusState = 4 then 0 else s.get F.thmStatusPackageLevel
def chanLevel (s : State) (c : Nat) : Nat :=
  if s.get F.pwrStatusState = 4 then 0
  else max s.packageLevel (s.get { reg := R.thmMtierLevel, lo := 3 * (c / 4), w := 3 })
def nandLevel (s : State) (c : Nat) : Nat :=
  max s.packageLevel (s.get { reg := R.thmNandLevel, lo := 3 * (c / 4), w := 3 })

/-- The tokens that a write of `n` lines takes on a channel: the lines, and more where a throttle level holds its refill back
(Table 18.8). Assumption 93 (DEDUCED). -/
def tokenCost (s : State) (c n : Nat) : Nat :=
  let pct := (([100, 75, 50, 25, 25] : List Nat)[s.chanLevel c]?).getD 25
  (n * 100 + pct - 1) / pct

/-- Take tokens for lines. Assumption 25 (DESIGN CHOICE). -/
def takeTokens (s : State) (n : Nat) : State :=
  let s := s.refill
  { s with mt := { s.mt with tokens := s.mt.tokens - n } }

/-! ### The media itself -/

/-- Line `i` of a media page: data and tag; none if never written. -/
def mediaLine? (s : State) (l i : Nat) : Option LineData :=
  (s.mt.media.tag? (l * 64 + i)).map (fun t => { idx := i, data := s.mt.media.raw (l * 64 + i), tag := t })

/-- Put a line into a media page. Assumption 23 (DEDUCED). -/
def putMedia (s : State) (l : Nat) (x : LineData) : State :=
  { s with mt := { s.mt with media := s.mt.media.putLine (l * 64 + x.idx) x.data x.tag } }

/-- The lines of a media page that have been written. -/
def mediaLines (s : State) (l : Nat) : List LineData := (List.range 64).filterMap (s.mediaLine? l)

/-- The check symbols after some lines change (R188): the old ones XOR encode(old XOR new). -/
def newSymbols (s : State) (l : Nat) (x : List LineData) : Nat :=
  let delta := x.foldl (fun acc y =>
    acc ^^^ lineInPage y.idx (s.mt.media.raw (l * 64 + y.idx) ^^^ y.data)) 0
  (s.checkSlot l).symbols ^^^ strongCode delta

/-- Load lines into a page: the write buffer gives them to every later read (R162), and the delta updates the check
slot. -/
def loadLines (s : State) (l : Nat) (x : List LineData) : State :=
  let v := { s.checkSlot l with symbols := s.newSymbols l x }
  x.foldl (fun s y => s.putMedia l y) ((s.touchTile l).setSlot l v)

/-- The page record of a completed write (Table 6.3). -/
def writeRecord (s : State) (l stamp temp : Nat) (unsynced rewritten : Bool) : State :=
  let v := s.checkSlot l
  s.setSlot l { v with record :=
    { stamp := stamp, temp := temp, tileClass := (s.pageClass l).1, written := true, unsynced := unsynced,
      poisonLines := (s.mediaLines l).any (fun x => x.tag.poison), rewritten := rewritten, good := true } }

/-- The temperature field of a page record for a channel: °C + 64, saturating. -/
def tempCode (s : State) (n : Nat) : Nat := (min 255 (max 0 (s.sensor n + 64))).toNat

/-! ### Data of media dies -/

/-- Source `256 + 32 d + k` (chapters 5 to 7). -/
def dieSource (d k : Nat) : Nat := 256 + 32 * d + k

/-- The coordinator: the online media die with the lowest number (R255). -/
def coordinator (s : State) : Nat :=
  ((List.range s.part.dies).find? (fun d => !s.bit F.pvUnitsLostMediaDie d)).getD 0

end State

end Sys2Proof.Machine
end

