-- ==== Sys2Proof/Machine/Slots.lean ====
section
/-!
DEFINITION. Launch slots as registers (R68 to R74): which are free, how one is taken and given back, and how a cut takes one
on every unit.
-/
namespace Sys2Proof

/-- Slots of a unit (Table 2.3). -/
def LaunchUnit.slots : LaunchUnit → Nat
  | .hub => 128
  | .die _ => 32
  | .core _ => 4

/-- The part has the unit. -/
def LaunchUnit.present (p : Part) : LaunchUnit → Bool
  | .hub => true
  | .die d => d < p.dies
  | .core h => h < p.cores

/-- The number of a unit in the data of event 133. -/
def LaunchUnit.num : LaunchUnit → Nat
  | .hub => Config.codeOf 9 0
  | .die d => Config.codeOf 9 (1 + d)
  | .core h => Config.codeOf 9 (9 + h)

end Sys2Proof

namespace Sys2Proof.Machine

/-- The registers of a slot. -/
def slotTime : LaunchUnit → Nat → Nat
  | .hub, i => R.tbLaunchTime i
  | .die d, i => R.dieTbLaunchTime d i
  | .core h, i => R.hzCoreLaunchTime h i

def slotArg : LaunchUnit → Nat → Nat
  | .hub, i => R.tbLaunchArg i
  | .die d, i => R.dieTbLaunchArg d i
  | .core h, i => R.hzCoreLaunchArg h i

def slotCtl : LaunchUnit → Nat → Nat
  | .hub, i => R.tbLaunchCtl i
  | .die d, i => R.dieTbLaunchCtl d i
  | .core h, i => R.hzCoreLaunchCtl h i

def slotStat : LaunchUnit → Nat → Nat
  | .hub, i => R.tbLaunchStat i
  | .die d, i => R.dieTbLaunchStat d i
  | .core h, i => R.hzCoreLaunchStat h i

def slotAction (u : LaunchUnit) (i : Nat) : Fld := ⟨slotCtl u i, 0, 8⟩
def slotArmBit (u : LaunchUnit) (i : Nat) : Fld := ⟨slotCtl u i, 8, 1⟩
def slotLatePolicy (u : LaunchUnit) (i : Nat) : Fld := ⟨slotCtl u i, 10, 1⟩
def slotOwner (u : LaunchUnit) (i : Nat) : Fld := ⟨slotCtl u i, 11, 1⟩
def slotDomain (u : LaunchUnit) (i : Nat) : Fld := ⟨slotCtl u i, 12, 10⟩
def slotState (u : LaunchUnit) (i : Nat) : Fld := ⟨slotStat u i, 0, 2⟩
def slotLate (u : LaunchUnit) (i : Nat) : Fld := ⟨slotStat u i, 2, 1⟩
def slotLateness (u : LaunchUnit) (i : Nat) : Fld := ⟨slotStat u i, 16, 16⟩

/-- States of a slot (TB_LAUNCH_STAT). -/
def slotIdle : Nat := 0
def slotArmed : Nat := 1
def slotFired : Nat := 2
def slotDropped : Nat := 3

namespace State

/-- The DTB replica of a unit. -/
def unitTime (s : State) : LaunchUnit → Nat
  | .hub => s.time.dtb
  | .die d => ((s.time.dies[d]?).map (·.replica)).getD 0
  | .core h => ((s.time.dies[h / 32]?).map (·.replica)).getD 0

/-- The unit's slots hold (R62). -/
def unitHolds (s : State) : LaunchUnit → Bool
  | .hub => false
  | .die d => ((s.time.dies[d]?).map (·.held)).getD true
  | .core h => ((s.time.dies[h / 32]?).map (·.held)).getD true

/-- The lowest-indexed free slot of a unit (R69). -/
def freeSlotOf? (s : State) (u : LaunchUnit) : Option Nat :=
  (List.range u.slots).find? (fun i => s.get (slotState u i) != slotArmed && s.get (slotAction u i) = 0)

/-- A slot taken and armed for a descriptor of a domain. -/
def takeSlot (s : State) (u : LaunchUnit) (i action arg time dom : Nat) (dropLate : Bool) : State :=
  let s := (s.setReg (slotTime u i) (BitVec.ofNat 64 time)).setReg (slotArg u i) (BitVec.ofNat 64 arg)
  let s := ((s.set (slotAction u i) action).put (slotArmBit u i) true).put (slotLatePolicy u i) dropLate
  ((s.put (slotOwner u i) true).set (slotDomain u i) dom).set (slotState u i) slotArmed

/-- A slot leaves Armed; one that a descriptor owned is free again (R69). -/
def leaveSlot (s : State) (u : LaunchUnit) (i state : Nat) : State :=
  let s := (s.set (slotState u i) state).put (slotArmBit u i) false
  if s.on (slotOwner u i) then (s.put (slotOwner u i) false).set (slotAction u i) 0 else s

/-- The armed slots of a unit with an action and an argument that a descriptor owns. -/
def ownedSlots (s : State) (u : LaunchUnit) (p : Nat → Nat → Bool) : List Nat :=
  (List.range u.slots).filter (fun i => s.get (slotState u i) = slotArmed && s.on (slotOwner u i)
    && p (s.get (slotAction u i)) (s.reg (slotArg u i)).toNat)

/-- The hub and the media dies: the units that take a cut. -/
def cutUnits (s : State) : List LaunchUnit := .hub :: (List.range s.part.dies).map LaunchUnit.die

/-- The action code of a cut. -/
def cutAction (snapshot : Bool) : Nat := if snapshot then 3 else 2

/-- Arm a cut on the hub and every media die; none if a unit has no free slot (R69, R317). -/
def armCut? (s : State) (c : ArmedCut) (dropLate : Bool) : Option State :=
  let l := s.cutUnits.map (fun u => (u, s.freeSlotOf? u))
  if l.any (fun x => x.2.isNone) then none
  else
    let s := l.foldl (fun s x => match x.2 with
      | some i => s.takeSlot x.1 i (cutAction c.snapshot) c.epoch c.time 0 dropLate
      | none => s) s
    some (s.journal (.epochArm c))

/-- Slots of the cut of an epoch on a unit. -/
def cutSlots (s : State) (u : LaunchUnit) (epoch : Nat) : List Nat :=
  s.ownedSlots u (fun a g => (a = 2 || a = 3) && g % 2 ^ 32 = epoch)

end State
end Sys2Proof.Machine
end

