-- ==== Sys2Proof/Machine/WinOps.lean ====
section
/-!
DEFINITION. What every window access shares (chapter 3): the snoop filter, the lost-write list, read-only plots,
Quickset, and a line's content at its home point.
-/
namespace Sys2Proof.Machine

def lineAddr (line : Nat) : Nat := line * 64
def linePage (line : Nat) : Nat := line / 64
def linePlot (line : Nat) : Nat := line / 2 ^ 24

/-- The kinds of source: CXL, ring, Kilius, RDMA, Hazel, the device itself. -/
def WinSrc.kind : WinSrc → Nat
  | .cxl _ _ => 0
  | .ring _ _ => 1
  | .kilius _ _ _ => 2
  | .rdma _ _ => 3
  | .hazel _ => 4
  | .device => 5

/-- The number of a source in event data. -/
def WinSrc.code (x : WinSrc) : Nat := Config.codeOf 0 x.kind

/-- The link of a CXL source, 15 for an internal one (R96). -/
def WinSrc.link : WinSrc → Nat
  | .cxl l _ => l
  | _ => 15

namespace State

def setWin (s : State) (w : WinState) : State := { s with win := w }

/-! ### The lost-write list (R114, R115) -/

/-- The line is in the lost-write list. -/
def lostListed (s : State) (line : Nat) : Bool := s.md.lost.any (fun x => x.2.line = line)

/-- The lowest entry index that is free. Assumption 26 (DEDUCED). -/
def freeLost (s : State) : Option Nat :=
  (List.range 4096).find? (fun i => (Store.find? s.md.lost i).isNone)

/-- List a discarded write. Assumption 26 (DEDUCED). -/
def listLost (s : State) (line dom stamp : Nat) : State :=
  match s.md.lost.find? (fun x => x.2.line = line) with
  | some (i, e) => s.journal (.lostWrite i (some { e with dom := dom, count := min 255 (e.count + 1), stamp := stamp }))
  | none =>
    match s.freeLost with
    | some i =>
      let s := s.journal (.lostWrite i (some { line := line, dom := dom, count := 1, stamp := stamp }))
      s.raiseAt 34 sevError 0 dom [d8 (lineAddr line), d4 dom, d8 stamp] (some (lineAddr line))
    | none =>
      if s.md.lwlOverflow then s
      else (s.journal (.lostOverflow true)).raiseAt 35 sevCritical 0 noDom [d4 (linePlot line)] (some (lineAddr line))

/-! ### Read-only plots (R112, R113) -/

/-- The window is in Read-only window mode or in Basic mode. -/
def windowReadOnly (s : State) : Bool := s.get F.winStatusWindowState = 2 || s.get F.winStatusWindowState = 3

/-- A media sanitize is under way (R617, R618). -/
def sanitizing (s : State) : Bool := s.get F.pvSanitizeState != 0

/-- Writes to the plot of a line are refused or discarded (R113). -/
def plotReadOnly (s : State) (plot : Nat) : Bool := s.windowReadOnly || (s.plot plot).readOnly

/-- DirtyCount, BudgetFull and LC_LOCKED follow the ways (R131). -/
def showCache (s : State) : State :=
  let n := (s.lc.ways.map (fun w => (w.lines.filter (·.dirty)).length)).sum
  let full := s.get F.lcBudgetLines ≤ n
  let s' := ((s.set F.lcStatusDirtyCount n).put F.lcStatusBudgetFull full).set F.lcLockedWays
    (s.lc.ways.filter (·.locked)).length
  if full && !s.on F.lcStatusBudgetFull && 0 < n then s'.raise 99 sevNotice 0 noDom [d4 (s.get F.lcBudgetLines)] else s'

/-- Quickset's size in entries (R289). -/
def qsSize (s : State) : Nat := s.part.pick 720896 360448

/-- WIN_QS_LEVEL and QsThrottle follow Quickset (R103, R289). -/
def showQs (s : State) : State :=
  let s := (s.set F.winQsLevelUsed (s.qs.length * 80 / 65536)).set F.winQsLevelReserved (s.win.reserved * 80 / 65536)
  s.put F.winStatusQsThrottle (s.qsSize ≤ s.qs.length + s.win.reserved)

/-- Return a write credit to a link, or let the link wait for one (R102, R103, R117). Assumption 38 (DEDUCED). -/
def returnCredit (s : State) (link : Nat) : State :=
  if s.qs.length + s.win.reserved < s.qsSize && !s.win.gpf.contains link && s.get F.perStatusState != 4 then
    ({ s with win := { s.win with reserved := s.win.reserved + 1 } }.send (.writeCredit link)).showQs
  else { s with win := { s.win with creditWait := s.win.creditWait ++ [link] } }.showQs

/-- Quickset space has freed: the next waiting link takes a credit (R103). -/
def creditFreed (s : State) : State :=
  match s.win.creditWait.find? (fun l => !s.win.gpf.contains l) with
  | some l => { s with win := { s.win with creditWait := s.win.creditWait.erase l } }.returnCredit l
  | none => s.showQs

/-- Take an entry out of Quickset. -/
def qsFree (s : State) (line : Nat) : State :=
  { s with qs := s.qs.filter (fun e => e.line != line) }.creditFreed

/-- R112: a plot turns read-only; its dirty lines and Quickset entries are discarded, listed and invalidated.
Assumption 26 (DEDUCED). -/
def turnReadOnly (s : State) (plot : Nat) : State :=
  let s := s.setPlot { s.plot plot with readOnly := true }
  let q := s.qs.filter (fun e => linePlot e.line = plot)
  let d := (s.lc.ways.filter (fun w => w.sector / pagesPerPlot = plot)).flatMap (fun w =>
    (w.lines.filter (·.dirty)).map (fun x => (w.sector * 64 + x.idx, x.tag.dom)))
  let clear := fun (w : Way) =>
    if w.sector / pagesPerPlot = plot then { w with lines := w.lines.filter (fun x => !x.dirty), dirtyAt := none }
    else w
  let keep := fun (w : MediaWrite) =>
    !(decide (w.phase = WritePhase.waiting) && decide (w.page.map (· / pagesPerPlot) = some plot))
  let s := { s with qs := s.qs.filter (fun e => linePlot e.line != plot),
                    lc := { s.lc with ways := s.lc.ways.map clear },
                    mt := { s.mt with writes := s.mt.writes.filter keep } }
  let s := s.raiseAt 36 sevCritical 0 noDom [d4 plot, d4 (q.length + d.length)] (some (plot * plotBytes))
  let s := d.foldl (fun s x => s.listLost x.1 x.2 s.nowDtb) s
  let s := q.foldl (fun s e => s.listLost e.line e.dom s.nowDtb) s
  s.showCache.showQs

/-! ### The snoop filter (R86 to R90) -/

def sfSets (s : State) : Nat := s.part.pick 98304 49152

/-- The set of a sector; the specification gives no index function. Assumption 15 (DESIGN CHOICE). -/
def sfSet (s : State) (sector : Nat) : Nat := Config.setOf 0 sector % s.sfSets

def sfLine? (s : State) (line : Nat) : Option SfLine :=
  match s.win.filter.find? (fun e => e.sector = linePage line) with
  | some e => e.lines.find? (fun x => x.line = line)
  | none => none

/-- The links recorded for a line. -/
def holders (s : State) (line : Nat) : List Nat := ((s.sfLine? line).map (·.links)).getD []

/-- Change a line's record; an entry without a record stays until it is evicted or empty. -/
def sfUpdate (s : State) (line : Nat) (f : SfLine → SfLine) : State :=
  let g := fun (x : SfLine) => if x.line = line then f x else x
  let h := fun (e : SfEntry) =>
    if e.sector = linePage line then { e with lines := (e.lines.map g).filter (fun x => x.links != []) } else e
  { s with win := { s.win with filter := (s.win.filter.map h).filter (fun e => e.lines != [] || e.evicting) } }

/-- Remove a link from a line's record. -/
def sfDrop (s : State) (line link : Nat) : State :=
  s.sfUpdate line (fun x => { x with links := x.links.filter (fun l => l != link), modified := false })

/-- Record a link as a holder of a line, in an entry that exists. -/
def sfRecord (s : State) (line link : Nat) : State :=
  let l := s.holders line
  let v : SfLine := { line := line, links := if l.contains link then l else l ++ [link], modified := true }
  let h := fun (e : SfEntry) =>
    if e.sector = linePage line then { e with lines := putBy (fun (x : SfLine) => x.line = line) (some v) e.lines }
    else e
  { s with win := { s.win with filter := s.win.filter.map h } }

/-- Ways in use in the set of a sector. -/
def sfUsed (s : State) (sector : Nat) : Nat :=
  (s.win.filter.filter (fun e => s.sfSet e.sector = s.sfSet sector)).length

/-- Start the background eviction of the least recently allocated entry of a set (R90). -/
def sfEvict (s : State) (sector : Nat) : State :=
  match s.win.filter.find? (fun e => s.sfSet e.sector = s.sfSet sector && !e.evicting) with
  | none => s
  | some v =>
    let h := fun (e : SfEntry) => if e.sector = v.sector then { e with evicting := true } else e
    let s := { s with win := { s.win with filter := s.win.filter.map h } }
    v.lines.foldl (fun s x => x.links.foldl (fun s l => s.send (.biSnp l x.line true)) s) s

/-- Record a cacheable host read (R86, R90): the state, and whether the read may go on. -/
def sfAllocate (s : State) (line link : Nat) : State × Bool :=
  if s.win.filter.any (fun e => e.sector = linePage line && !e.evicting) then (s.sfRecord line link, true)
  else
    let n := s.sfUsed (linePage line)
    let mark := s.get F.winCtlSfEvictMark
    if 16 ≤ n then (s.sfEvict (linePage line), false)
    else
      let s := if mark < 16 && mark ≤ n then s.sfEvict (linePage line) else s
      let e : SfEntry := { sector := linePage line, lines := [], evicting := false }
      let s := { s with win := { s.win with filter := s.win.filter ++ [e] } }
      (s.sfRecord line link, true)

/-! ### Epochs of writes and captures of held content (R317, R318, R320) -/

/-- The epoch of a write by its ingress stamp. -/
def epochOf (s : State) (stamp : Nat) : Nat :=
  if stamp < s.md.lastCut then s.md.openEpoch - 1 else s.md.openEpoch

/-- The active snapshot whose content a write of epoch `e` overtakes: the oldest that lacks the content. -/
def snapsBehind (s : State) (held e : Nat) : List Snapshot :=
  s.md.snaps.filter (fun x => x.state = .active && held ≤ x.epoch && x.epoch < e)

/-- The page capture of a snapshot. -/
def pageCapture? (s : State) (epoch page : Nat) : Option Capture :=
  s.md.captures.find? (fun c => c.epoch = epoch && c.page = page && c.whole)

/-- The line capture of a snapshot. -/
def lineCapture? (s : State) (epoch line : Nat) : Option LineData :=
  s.md.captures.findSome? (fun c =>
    if c.epoch = epoch && c.page = linePage line && !c.whole then c.lines.find? (fun x => x.idx = line % 64) else none)

/-- Pages and lines captured and not yet programmed. -/
def showStaged (s : State) : State :=
  let n := (s.md.captures.filter (fun c => c.place = .staging || c.place = .plots)).length
  let u := (s.md.captures.filterMap (fun c => match c.place with
    | .space u => some u
    | _ => none)).eraseDups.length
  (s.set F.topSnapStatusStagedPages n).set F.topSnapStatusUnitsUsed u

/-- Merge capture: content of epoch `e` held above the media is copied to staging for every active snapshot that a
later write overtakes and that has no capture of the line. -/
def mergeCapture (s : State) (line held e : Nat) (x : LineData) : State :=
  ((s.snapsBehind held e).foldl (fun s n =>
    if (s.lineCapture? n.epoch line).isSome then s
    else
      let c : Capture := { epoch := n.epoch, page := linePage line, whole := false, lines := [x], place := .staging }
      (s.cPer 0x34 1).journal (.snapIndex c)) s).showStaged

/-! ### The mirror's sender (R324, R326, R327) -/

/-- A line lies in a mirrored range of a sender. -/
def mirrored (s : State) (line : Nat) : Bool :=
  s.on F.perMirrorCfgEnable && s.get F.perMirrorCfgRole = 1 && (List.range 16).any (fun i =>
    s.on (F.perMirrorRangeValid i) && s.get (F.perMirrorRangeBasePlot i) ≤ linePlot line
      && linePlot line < s.get (F.perMirrorRangeBasePlot i) + s.get (F.perMirrorRangePlots i))

/-- The mirror enters a state, with event 124 where R327 raises it. -/
def mirrorState (s : State) (x : Nat) (cause : Option Nat) : State :=
  let s := s.set F.perMirrorStatusState x
  match cause with
  | some c => s.raise 124 sevWarning 0 noDom [d4 x, d4 (Config.codeOf 11 c)]
  | none => s

/-- Lines that the send queue of 1.5 GiB holds: the line, its address and its epoch in 80 bytes. -/
def mirrorSendSize : Nat := 1536 * 2 ^ 20 / 80

/-- QueueMiB follows the queues. -/
def showMirror (s : State) : State :=
  s.set F.perMirrorStatusQueueMiB ((s.per.send.length + s.per.receive.length) * 80 / 2 ^ 20)

/-- MIRROR_LINE_QUEUE: a copy of a line just accepted into Quickset, as merged. Assumption 63 (DEDUCED). -/
def mirrorQueue (s : State) (line : Nat) (data : Line) (poison : Bool) (epoch : Nat) : State :=
  if s.mirrored line then
    let s := if s.md.mirrorDirty.contains (linePlot line) then s else s.journal (.mirrorDirty (linePlot line) true)
    if !s.per.queueing || s.get F.perMirrorStatusState = 3 then
      if s.per.resend.contains (linePlot line) then s
      else { s with per := { s.per with resend := s.per.resend ++ [linePlot line] } }
    else if s.per.send.length < mirrorSendSize then
      let x : MirrorLine := { line := line, data := data, poison := poison, epoch := epoch }
      let s := State.showMirror { s with per := { s.per with send := s.per.send ++ [x] } }
      let open_ := (s.per.send.filter (fun x => x.epoch = s.md.openEpoch)).length
      let units := min 31 (max 1 (s.get F.perMirrorCfgEpochUnits))
      if units * 2 ^ 20 ≤ open_ && !s.md.armed.any (fun c => c.epoch = s.md.openEpoch) then
        let t := max s.nowDtb s.md.lastCut + 1000000
        (s.armCut? { epoch := s.md.openEpoch, snapshot := false, time := t, ring := 0, handle := 0 } false).getD s
      else s
    else { s with per := { s.per with queueing := false } }.mirrorState 2 (some 1)
  else s

/-! ### Content of a line at its home point (R91, R105, R107, R109) -/

/-- The line cache is looked up. -/
def cacheOn (s : State) : Bool := s.on F.lcCtlEnable

/-- A valid cached line. -/
def cached? (s : State) (line : Nat) : Option CacheLine :=
  match s.lc.ways.find? (fun w => w.sector = linePage line && !w.dead) with
  | some w => w.lines.find? (fun x => x.idx = line % 64)
  | none => none

def qs? (s : State) (line : Nat) : Option QsEntry := s.qs.find? (fun e => e.line = line)

/-- A line that near-path stores have changed, or that was lost and is being written poisoned, or that leaves a cache which has
stopped serving, and whose media write has not completed: the latest one (R26, R151, R291, R391).
Assumption 118 (DEDUCED). -/
def near? (s : State) (line : Nat) : Option LineData :=
  s.mt.writes.foldl (fun (m : Option LineData) w =>
    match w.kind with
    | .nearStore _ => if w.page = some (linePage line) then (w.lines.find? (fun x => x.idx = line % 64)).or m else m
    | .lostLine =>
      if w.page = some (linePage line) then
        (w.lines.find? (fun x => x.idx = line % 64 && x.tag.poison)).or m
      else m
    | .writeBack =>
      if w.page = some (linePage line) && !s.cacheOn then (w.lines.find? (fun x => x.idx = line % 64)).or m else m
    | _ => m) none

/-- What the media holds of a window line: ciphertext; none for zeros.  Poison where the page is Reborn or its rank is
not online. -/
def mediaOf (s : State) (line : Nat) : Option LineData × Bool :=
  if (s.near? line).isSome then (s.near? line, (((s.near? line).map (·.tag.poison)).getD false))
  else if !s.pageWritten (linePage line) then (none, false)
  else if s.pageReborn (linePage line) then (none, true)
  else match s.locate (linePage line) with
    | none => (none, false)
    | some l =>
      if s.pageOnline l then
        let x := s.mediaLine? l (line % 64)
        (x, (x.map (·.tag.poison)).getD false)
      else (none, true)

/-- A line below Quickset: from the cache, or from the media. -/
def belowQs (s : State) (line : Nat) : Option LineData × Bool :=
  match (if s.cacheOn then s.cached? line else none) with
  | some c => (some { idx := c.idx, data := c.data, tag := c.tag }, c.tag.poison)
  | none => s.mediaOf line

/-- A line's ciphertext as a domain reads it; zeros where nothing is stored. -/
def plain (s : State) (dom line : Nat) (x : Option LineData) : Line :=
  match x with
  | some y => s.decrypt dom 0 line y.data y.tag
  | none => 0

/-- The near-path lane of a Hazel-owned plot's die has failed (R446). -/
def laneDown (s : State) (plot : Nat) : Bool :=
  s.cip.lanes != [] && (s.plot plot).hazelOwned
    && (((s.plot plot).span).map (fun e => s.cip.lanes.contains (e.chans.headD 0 / 4))).getD false

/-- Reads of the line return poison whatever it holds (R109, R446). -/
def poisonMarked (s : State) (line : Nat) : Bool :=
  s.lostListed line || s.laneDown (linePlot line) || (s.md.lwlOverflow && s.plotReadOnly (linePlot line))

/-- What a read of a line returns to a domain, and whether it is poison. Assumptions 30 (DESIGN CHOICE), 31 (DEDUCED). -/
def readLine (s : State) (dom line : Nat) : Line × Bool :=
  if s.poisonMarked line || s.keyBad dom then (0, true)
  else
    let (b, p) := s.belowQs line
    match s.qs? line with
    | some e =>
      if e.mask = maskAll then (if e.poison then 0 else e.data, e.poison)
      else if e.poison || p then (0, true)
      else (mergeLine (s.plain dom line b) e.data e.mask, false)
    | none => (if p then 0 else s.plain dom line b, p)

/-- Bytes of the window as a domain reads them, and whether a line of them is poison. Assumption 30 (DESIGN CHOICE). -/
def readWindow (s : State) (dom addr n : Nat) : List Byte × Bool :=
  let first := addr / 64
  let lines := (List.range ((addr + n + 63) / 64 - first)).map (fun k => s.readLine dom (first + k))
  (((lines.flatMap (fun x => lineBytes x.1)).drop (addr % 64)).take n, lines.any (·.2))

/-! ### Acceptance into Quickset (R87, R88, R102 to R106, R110) -/

/-- Count an access of a plot (R261) and bytes written (R297). -/
def heatUp (s : State) (plot : Nat) : State :=
  let n := Store.read (fun _ => 0) s.top.heat plot + 1
  { s with top := { s.top with heat := Store.write (fun _ => 0) plot n s.top.heat } }

def countBytes (s : State) (n : Nat) : State :=
  { s with per := { s.per with window := { s.per.window with bytes := s.per.window.bytes + n },
                               ftier := { s.per.ftier with bytes := s.per.ftier.bytes + n } } }

/-- The entry after a write merges into it (R104, R110). -/
def qsMerged (e : Option QsEntry) (w : WinWrite) (epoch : Nat) : QsEntry :=
  match e with
  | none => { line := w.line, dom := w.dom, mask := w.mask, data := w.data, poison := w.poison, epoch := epoch,
              leaving := false }
  | some e => { e with dom := w.dom, mask := e.mask ||| w.mask, data := mergeLine e.data w.data w.mask,
                       poison := w.poison || (e.poison && w.mask != maskAll), epoch := epoch, leaving := false }

/-- The answer to the source of a write that Quickset has accepted, or that was discarded and listed. -/
def answer (s : State) (w : WinWrite) : State :=
  match w.src with
  | .cxl link tag => (s.send (.cxlCmp link tag)).returnCredit link
  | .kilius a tag posted => if posted then s else s.lineAnswered a tag
  | _ => s

/-- A store to a line ends every LR reservation of it but the storing core's own (R331, R337). -/
def breakResv (s : State) (line : Nat) (src : WinSrc) : State :=
  if s.hz.cores.any (fun c => c.2.resv = some line) then
    { s with hz := { s.hz with cores := s.hz.cores.map (fun (c : Nat × HzCore) =>
        if c.2.resv = some line && !decide (src = WinSrc.hazel c.1) then (c.1, { c.2 with resv := none }) else c) } }
  else s

/-- A CXL write arrives on the credit that it spends (R102). Assumption 38 (DEDUCED). -/
def spendCredit (s : State) (w : WinWrite) : State :=
  match w.src with
  | .cxl _ _ => { s with win := { s.win with reserved := s.win.reserved - 1 } }
  | _ => s

/-- Quickset accepts a write. -/
def accept (s : State) (w : WinWrite) : State :=
  let e := s.qs? w.line
  let epoch := s.epochOf w.stamp
  let s := match e with
    | some x => s.mergeCapture w.line x.epoch epoch
        { idx := w.line % 64, data := x.data, tag := s.tagNow x.dom x.poison }
    | none => s
  let v := qsMerged e w epoch
  let s := { s with qs := putBy (fun (x : QsEntry) => x.line = w.line) (some v) s.qs }.spendCredit w
  let s := if w.poison then
      s.raiseAt 33 sevNotice 0 w.dom [d8 (lineAddr w.line), d4 w.dom] (some (lineAddr w.line))
    else s
  let s := s.breakResv w.line w.src
  let s := ((((s.heatUp (linePlot w.line)).countBytes 64).showQs).cPer 0x30 1).xtsLine w.dom 1
  let m := s.readLine w.dom w.line
  let s := s.mirrorQueue w.line m.1 m.2 epoch
  s.answer w

/-- A host write-back takes its own link out of the line's record (R86). -/
def dropWriter (s : State) (w : WinWrite) : State :=
  match w.src with
  | .cxl link _ => s.sfDrop w.line link
  | _ => s

end State

end Sys2Proof.Machine
end

