-- ==== Sys2Proof/Machine/Place.lean ====
section
/-!
DEFINITION. Topiary's placement (R257 to R266, R283): classes, dies, spans, spare pages.
-/
namespace Sys2Proof.Machine

/-- Plots outside the window: the F-cache from 0x1_0000, snapshot staging from 0x2_0000. Assumption 34 (DESIGN CHOICE). -/
def fcachePlot (i : Nat) : Nat := 0x10000 + i
def isFcachePlot (i : Nat) : Bool := 0x10000 ≤ i && i < 0x20000
def stagingPlot (i : Nat) : Nat := 0x20000 + i

namespace State

/-! ### Heat classes (R261, R262) -/

/-- A hinted class moved by at most one toward the measured class. -/
def hintedClass (hint measured : Nat) : Nat :=
  if measured < hint then hint - 1 else if hint < measured then hint + 1 else hint

/-- The class of a plot; 3 where nothing has been measured. -/
def plotClass (s : State) (i : Nat) : Nat :=
  let m := (Store.find? s.top.measured i).getD 3
  match (s.plot i).heat with
  | some h => match Store.find? s.top.measured i with
    | some _ => hintedClass h m
    | none => h
  | none => m

/-- MoveInterval for a class (R264). Assumption 28 (DEDUCED). -/
def intervalFor (s : State) (c : Nat) : Nat :=
  let b := min 65536 (max 32 (s.get F.topWearCfgBaseInterval))
  min 65536 (max 32 (if c = 0 then b / 4 else if c = 1 then b / 2 else if c = 2 then b else b * 4))

/-! ### Spare pages (R180, R215, R218) -/

/-- Spare page `k` of a channel. -/
def spareAt (c k : Nat) : Nat := mediaPage c (k % 32) (spareRow + k / 32)

/-- Spare pages taken on a channel. -/
def sparesUsed (s : State) (c : Nat) : Nat := (s.mt.spares.filter (fun l => pageChan l = c)).length

/-- The first free spare page of a channel. Assumption 27 (DEDUCED). -/
def freeSpare? (s : State) (c : Nat) : Option Nat :=
  if sparesPerChannel ≤ s.sparesUsed c then none
  else ((List.range (s.mt.spares.length + 3)).map (spareAt c)).find? (fun l =>
    !s.mt.spares.contains l && !isTrainingRow l)

/-- MT_CH_SPARE follows the pool (R218). -/
def showSpare (s : State) (c : Nat) : State :=
  let n := sparesPerChannel - s.sparesUsed c
  let low := s.on (F.mtChSpareLow c)
  let s := (s.set (F.mtChSpareFree c) n).put (F.mtChSpareLow c) (n < 524288)
  if n < 524288 && !low then s.raise (dieSource (c / 4) 13) sevWarning 4 noDom [d4 c, d4 n] else s

/-- Take a spare page. -/
def takeSpare (s : State) (l : Nat) : State :=
  { s with mt := { s.mt with spares := s.mt.spares ++ [l] } }.showSpare (pageChan l)

/-- Return a spare page. -/
def freeSpare (s : State) (l : Nat) : State :=
  { s with mt := { s.mt with spares := s.mt.spares.filter (fun x => x != l) } }.showSpare (pageChan l)

/-! ### Free spans -/

/-- Every span that is reserved: of plots, and of migrations. -/
def usedSpans (s : State) : List Span :=
  s.md.plots.filterMap (·.span) ++ s.md.migrations.filterMap (·.dst) ++ s.md.migrations.filterMap (·.old)

/-- No reserved span meets the rows `[base, base + rows)` of the channels. -/
def rowsFree (s : State) (chans : List Nat) (base rows : Nat) : Bool :=
  s.usedSpans.all (fun e => !e.chans.any (fun c => chans.contains c) || base + rows ≤ e.baseRow
    || e.baseRow + e.rows ≤ base)

/-- A channel that may take a new span (R263 step 3, R283). -/
def chanOpen (s : State) (c : Nat) : Bool :=
  s.get (F.mtChStatusState c) = 2 && s.rankOnline c 0 && s.rankOnline c 1 && !s.rankRetired c 0 && !s.rankRetired c 1
    && !s.top.avoided.any (fun x => x.1 = c && s.clk < x.2 + 86400000000000)

/-- Media writes of a channel's spans. -/
def chanWrites (s : State) (c : Nat) : Nat :=
  ((s.mt.spanWrites.filter (fun x => x.1 / 2 ^ 22 = c)).map (·.2)).sum

/-- The open channels of a die, fewest writes first, lower number on ties. Assumption 27 (DEDUCED). -/
def chansByWrites (s : State) (d : Nat) : List Nat :=
  (((List.range 4).map (fun k => 4 * d + k)).filter s.chanOpen).mergeSort
    (fun a b => decide (s.chanWrites a < s.chanWrites b || (s.chanWrites a = s.chanWrites b && a ≤ b)))

/-- The lowest aligned free base row of a width on some channels. Assumption 27 (DEDUCED). -/
def freeBase? (s : State) (chans : List Nat) : Option Nat :=
  let rows := 8192 / chans.length
  ((List.range (spanRows / rows)).map (· * rows)).find? (fun b => s.rowsFree chans b rows)

/-- A free span of `n` channels of a die. Assumption 27 (DEDUCED). -/
def spanOf? (s : State) (d n : Nat) : Option (List Nat × Nat) :=
  let l := s.chansByWrites d
  if l.length < n then none
  else if n = 1 then l.findSome? (fun c => (s.freeBase? [c]).map (fun b => ([c], b)))
  else (s.freeBase? (l.take n).mergeSort).map (fun b => ((l.take n).mergeSort, b))

/-- R263 steps 3 and 4 on one die: the width halves while no span of it is free. -/
def spanOn? (s : State) (d w : Nat) : Option (List Nat × Nat) :=
  if 4 ≤ w then (s.spanOf? d 4).or ((s.spanOf? d 2).or (s.spanOf? d 1))
  else if w = 2 then (s.spanOf? d 2).or (s.spanOf? d 1)
  else s.spanOf? d 1

/-- Decayed load of a die's plots, and how many it has. -/
def dieLoad (s : State) (d : Nat) : Nat × Nat :=
  let l := s.md.plots.filter (fun p => match p.span with
    | some e => e.chans.head?.map (· / 4) = some d
    | none => false)
  ((l.map (fun p => Store.read (fun _ => 0) s.top.heat p.idx)).sum, l.length)

/-- R263 step 2: dies by load per placed plot, lower number on ties. -/
def diesByLoad (s : State) : List Nat :=
  (List.range s.part.dies).mergeSort (fun a b =>
    let x := s.dieLoad a
    let y := s.dieLoad b
    decide (x.1 * max 1 y.2 < y.1 * max 1 x.2 || (x.1 * max 1 y.2 = y.1 * max 1 x.2 && a ≤ b)))

def spanDie (e : Span) : Nat := (e.chans.headD 0) / 4

/-- The die of a plot's span. -/
def plotDie? (s : State) (i : Nat) : Option Nat := ((s.plot i).span).map spanDie

/-- How many placed plots of a group a die has. -/
def groupOn (s : State) (g d : Nat) : Nat :=
  ((s.groupPlots g).filter (fun i => s.plotDie? i = some d)).length

/-- The die that holds most of a group's plots, lower number on ties. Assumption 55 (DEDUCED). -/
def groupDie (s : State) (g : Nat) : Nat :=
  (List.range s.part.dies).foldl (fun best d => if s.groupOn g best < s.groupOn g d then d else best) 0

/-- The die that a plot's group dictates (R263 step 2, ranks 3 and 5 of Table 8.3). -/
def dictated? (s : State) (p : Plot) : Option Nat :=
  match p.group with
  | none => none
  | some g =>
    let v := s.group g
    if v.hazelGranted then some v.hazelDie
    else if v.colocate && (s.groupPlots g).any (fun i => (s.plotDie? i).isSome) then some (s.groupDie g)
    else none

/-- A free span for a plot: channels and base row. Assumption 56 (DEDUCED). -/
def spanFor? (s : State) (p : Plot) : Option (List Nat × Nat) :=
  let c := s.plotClass p.idx
  let w := if c ≤ 1 then 4 else if c = 2 then 2 else 1
  let l := match s.dictated? p with
    | some d => if (s.group (p.group.getD 0)).hazelGranted then [d] else d :: s.diesByLoad
    | none => s.diesByLoad
  l.findSome? (fun d => s.spanOn? d w)

/-- The placement key of this power-on (R158). -/
def placementKey (s : State) : Word := s.mt.placeKey

/-- Reserve a span: it takes this power-on's key as bank key and a spare page as gap page. -/
def makeSpan (s : State) (x : List Nat × Nat) : State × Option Span :=
  let die := (x.1.headD 0) / 4
  let l := x.1 ++ (List.range 4).map (fun k => 4 * die + k)
  match l.findSome? s.freeSpare? with
  | none => (s, none)
  | some g => (s.takeSpare g, some { chans := x.1, baseRow := x.2, key := s.placementKey, gapPage := g })

/-- Place a plot on a free span, if there is one (R263). Assumption 28 (DEDUCED). -/
def placePlot (s : State) (i : Nat) : State × Bool :=
  let p := s.plot i
  match s.spanFor? p with
  | none => (s, false)
  | some x =>
    match s.makeSpan x with
    | (_, none) => (s, false)
    | (s, some e) =>
      let s := s.newDecision
      (s.setPlot { p with span := some e, start := 0, gap := pagesPerPlot, readOnly := p.readOnly && p.span.isSome,
                          interval := s.intervalFor (s.plotClass i) }, true)

/-- F-cache plots that have a span. -/
def fcachePlots (s : State) : List Nat :=
  (s.md.plots.filter (fun p => isFcachePlot p.idx && p.span.isSome)).map (·.idx)

/-- F-cache slots of a plot: 65,536. -/
def slotsPerPlot : Nat := 65536

/-- Give up a span: its tiles become Empty and its gap page returns to the pool (R270). -/
def releaseSpan (s : State) (e : Span) : State :=
  let keep := fun (x : Nat × Tile) =>
    !(e.chans.contains (x.1 / 2 ^ 19) && e.baseRow ≤ x.1 % 2 ^ 19 * 8 && x.1 % 2 ^ 19 * 8 < e.baseRow + e.rows)
  { s with mt := { s.mt with tiles := s.mt.tiles.filter keep } }.freeSpare e.gapPage

/-- Slots in use and available (R274). -/
def showFcache (s : State) : State :=
  (s.set F.topFcacheStatusUsed s.fm.slots.length).set F.topFcacheStatusTotal (s.fcachePlots.length * slotsPerPlot)

/-- A span has freed: plots that wait for one are placed, in order; one that had turned read-only for want of a span
leaves that state (R263); then a shrunk F-cache plot is restored (R274). -/
def spanFreed (s : State) : State :=
  let want := s.top.waiting ++ (s.md.plots.filter (fun p => p.readOnly && p.span.isNone && p.idx < 0x10000)).map (·.idx)
  let s := want.foldl (fun s i =>
    if (s.plot i).span.isSome then s
    else match s.placePlot i with
      | (s, true) => { s with top := { s.top with waiting := s.top.waiting.filter (fun x => x != i) } }
      | (_, false) => s) s
  if s.top.waiting != [] then s
  else (s.top.shrunk.foldl (fun s i => match s.placePlot i with
    | (s, true) => { s with top := { s.top with shrunk := s.top.shrunk.filter (fun x => x != i) } }
    | (_, false) => s) s).showFcache

/-- Shrink the F-cache plots given up for a while, once every slot of one is destaged (R274). -/
def shrinkStep (s : State) : State :=
  match s.top.shrunk.find? (fun i => (s.plot i).span.isSome
      && !s.fm.slots.any (fun x => fcachePlot (x.idx / slotsPerPlot) = i)) with
  | none => s
  | some i =>
    match (s.plot i).span with
    | none => s
    | some e => ((s.setPlot { s.plot i with span := none }).releaseSpan e).spanFreed

/-- A plot's first media write needs a span (R263, R274): placed; waiting while the F-cache shrinks; or read-only. -/
def needSpan (s : State) (i : Nat) : State :=
  if (s.plot i).span.isSome then s
  else match s.placePlot i with
    | (s, true) => s
    | (_, false) =>
      match s.fcachePlots.getLast? with
      | some f =>
        let w := if s.top.waiting.contains i then s.top.waiting else s.top.waiting ++ [i]
        let h := if s.top.shrunk.contains f then s.top.shrunk else s.top.shrunk ++ [f]
        shrinkStep { s with top := { s.top with waiting := w, shrunk := h } }
      | none => if (s.plot i).readOnly then s else s.turnReadOnly i

/-! ### Moves (R267, R270) -/

/-- PendingMoves, Migrating and Paused follow the migrations (R267, R269). -/
def showMoves (s : State) : State :=
  let l := s.md.migrations
  let s := s.set F.topStatusPendingMoves (min 65535 (l.filter (fun m => m.state = .pending)).length)
  let s := s.set F.topStatusMigrating (l.filter (fun m => m.state = .copying || m.state = .paused)).length
  s.put F.topStatusPaused (l.any (fun m => m.state = .paused))

/-- Change a migration (MigrateCursor). -/
def setMig (s : State) (k : Nat) (m : Option Migration) : State := (s.journal (.migrateCursor k m)).showMoves

/-- Decide to move a plot for a reason, unless it already moves. -/
def wantMove (s : State) (i reason : Nat) : State :=
  if s.md.migrations.any (fun m => m.plot = i) || (s.plot i).span.isNone then s
  else
    let s := s.newDecision
    let m : Migration := { plot := i, reason := reason, state := .pending, cursor := 0, journalled := 0, dst := none,
                           old := none, decision := s.md.decisions }
    s.setMig i (some m)

/-- Plots with a span on a channel, in ascending order. -/
def plotsOn (s : State) (c : Nat) : List Nat :=
  ((s.md.plots.filter (fun p => match p.span with
    | some e => e.chans.contains c
    | none => false)).map (·.idx)).mergeSort

end State

end Sys2Proof.Machine
end

