-- ==== Sys2Proof/Machine/Cache.lean ====
section
/-!
DEFINITION. The line cache's ways, media writes as they are queued, and the cleaner (chapter 4, R108, R273).
-/
namespace Sys2Proof.Machine

/-- One round of lc_permute() (R125). -/
def feistel (l r k : BitVec 16) : BitVec 16 × BitVec 16 :=
  let t := r ^^^ k
  let t := (t * 0x9E37#16) ^^^ (t >>> 7)
  let t := t ^^^ ((t <<< 5) ||| (t >>> 11))
  (r, l ^^^ t)

/-- lc_permute(): a bijection of sector numbers for any key (R125). -/
def lcPermute (s : BitVec 32) (key : Word) : BitVec 32 :=
  let k := fun i => (key >>> (16 * i)).setWidth 16
  let a := feistel ((s >>> 16).setWidth 16) (s.setWidth 16) (k 0)
  let b := feistel a.1 a.2 (k 1)
  let c := feistel b.1 b.2 (k 2)
  let d := feistel c.1 c.2 (k 3)
  d.1 ++ d.2

/-- Range operations (Table 4.4). -/
def opClean : Nat := 1
def opInvalidate : Nat := 2
def opPrefetch : Nat := 3
def opLock : Nat := 4
def opUnlock : Nat := 5
def opInvalidateAll : Nat := 6

namespace State

/-- Sets of the cache. -/
def lcSets (s : State) : Nat := s.part.pick 524288 262144

/-- The set of a sector. -/
def lcSet (s : State) (sector : Nat) : Nat := (lcPermute (BitVec.ofNat 32 sector) s.lc.key).toNat % s.lcSets

/-- The stack that holds a way's data (R123). -/
def wayStack (s : State) (w : Way) : Nat := (16 * w.set + w.way) % s.part.stacks

def way? (s : State) (sector : Nat) : Option Way := s.lc.ways.find? (fun w => w.sector = sector && !w.dead)

/-- Empty ways are not listed (R124). -/
def tidyWays (l : List Way) : List Way := l.filter (fun w => w.lines != [] || w.locked || w.reserved || w.dead)

/-- Replace the ways. -/
def setWays (s : State) (l : List Way) : State := { s with lc := { s.lc with ways := tidyWays l } }.showCache

/-- Change the way of a sector. -/
def onWay (s : State) (sector : Nat) (f : Way → Way) : State :=
  s.setWays (s.lc.ways.map (fun w => if w.sector = sector && !w.dead then f w else w))

/-- The ages of a hit (R128). -/
def ageHit (s : State) (sector : Nat) : State :=
  match s.way? sector with
  | none => s
  | some h =>
    let f := fun (w : Way) =>
      if w.set != h.set then w
      else if w.way = h.way then { w with age := 0 }
      else if w.locked then w else { w with age := min 15 (w.age + 1) }
    { s with lc := { s.lc with ways := s.lc.ways.map f } }

/-- lc_victim(): an empty way first, else the oldest clean way, lowest index on ties (R127). -/
def victim? (s : State) (set : Nat) : Option Nat :=
  let at_ := fun k => s.lc.ways.find? (fun w => w.set = set && w.way = k)
  match (List.range 16).find? (fun k => (at_ k).isNone) with
  | some k => some k
  | none => ((List.range 16).foldl (fun (best : Option Way) k => match at_ k with
      | none => best
      | some w =>
        if w.locked || w.reserved || w.dead || w.lines.any (·.dirty) then best
        else match best with
          | none => some w
          | some b => if b.age < w.age then some w else best) none).map (·.way)

/-- Allocate a way for a sector, if its set has a victim. -/
def allocWay (s : State) (sector : Nat) : State × Bool :=
  let set := s.lcSet sector
  match s.victim? set with
  | none => (s, false)
  | some k =>
    let w : Way := { set := set, way := k, sector := sector, locked := false, reserved := true, dead := false,
                     age := 0, dirtyAt := none, lines := [] }
    ({ s with lc := { s.lc with ways := s.lc.ways.filter (fun x => !(x.set = set && x.way = k)) ++ [w] } }, true)

/-- Whether a range operation covers a sector. -/
def opCovers (o : RangeOp) (sector : Nat) : Bool :=
  o.op = opInvalidateAll || (o.first ≤ sector && sector < o.first + o.sectors)

/-- A range operation is busy on the sector (R145). -/
def rangeBusy (s : State) (sector : Nat) : Bool := s.lc.ops.any (fun o => opCovers o sector)

/-- Fill a Clean line into the way of its sector (R127). -/
def fillLine (s : State) (line : Nat) (x : LineData) : State :=
  s.onWay (linePage line) (fun w =>
    if w.lines.any (fun c => c.idx = line % 64) then { w with reserved := false }
    else { w with reserved := false, lines := w.lines ++
             [{ idx := line % 64, data := x.data, tag := x.tag, dirty := false, epoch := 0, flying := false,
                leaving := false }] })

/-- A way reserved only for a fill that failed becomes empty again (R127). -/
def unreserve (s : State) (sector : Nat) : State :=
  s.onWay sector (fun w => if w.locked then w else { w with reserved := false })

/-! ### Queueing media writes (R108, R130, R165, R273) -/

/-- Cut lines into writes of at most eight; the first argument bounds the cuts. -/
def cutLines : Nat → List LineData → List (List LineData)
  | 0, _ => []
  | n + 1, l => if l = [] then [] else l.take 8 :: cutLines n (l.drop 8)

/-- One media write in the queue. -/
def pushWrite (s : State) (kind : WriteKind) (page : Option Nat) (loc group epoch : Nat) (l : List LineData) : State :=
  let w : MediaWrite :=
    { id := s.mt.nextWrite, kind := kind, page := page, loc := loc, lines := l, group := group, epoch := epoch,
      phase := .waiting, resets := false, sets := false, segments := 0, paused := none, stamp := 0, unsynced := false,
      temp := 0, failed := 0 }
  { s with mt := { s.mt with writes := s.mt.writes ++ [w], nextWrite := s.mt.nextWrite + 1 } }

/-- All 64 lines of a page at its first write-back: those given; those in the line cache; zeros, or poison in a Reborn
page, for the others. -/
def wholePage (s : State) (page : Nat) (l : List LineData) (reborn : Bool) : List LineData :=
  let t : LineTag := (l.head?.map (·.tag)).getD { dom := 0, gen := 0, poison := false }
  (List.range 64).map (fun i =>
    match l.find? (fun x => x.idx = i) with
    | some x => x
    | none => match s.cached? (page * 64 + i) with
      | some c => { idx := i, data := c.data, tag := c.tag }
      | none => { idx := i, data := 0, tag := { t with poison := reborn } })

/-- Queue the media writes of lines of a window page; its plot is placed first if it has no span. -/
def queuePage (s : State) (kind : WriteKind) (page epoch : Nat) (l : List LineData) : State :=
  let s := s.needSpan (page / pagesPerPlot)
  let reborn := s.pageReborn page
  let first := (!s.pageWritten page || reborn)
    && !s.mt.writes.any (fun w => w.page = some page && w.group != 0)
  let l := if first then s.wholePage page l reborn else l
  let g := if first then s.mt.nextWrite else 0
  (cutLines 9 l).foldl (fun s x => s.pushWrite kind (some page) 0 g epoch x) s

/-- Write back the dirty lines of a way that are not already in flight. -/
def writeBack (s : State) (sector : Nat) : State :=
  match s.way? sector with
  | none => s
  | some w =>
    let l := w.lines.filter (fun x => x.dirty && !x.flying)
    if l = [] then s
    else
      let e := l.foldl (fun m x => max m x.epoch) 0
      let s := (s.cLc 0x23 l.length).queuePage .writeBack sector e (l.map (fun x => { idx := x.idx, data := x.data, tag := x.tag }))
      s.onWay sector (fun w => { w with lines := w.lines.map (fun x =>
        if x.dirty then { x with flying := true } else x) })

/-! ### The cleaner (R131 to R133) -/

def cleanPercent (s : State) (f : Fld) : Nat := min 100 (s.get f) * s.get F.lcBudgetLines

/-- The way whose first line became dirty earliest, among those with a line to write back. Assumption 29 (DEDUCED). -/
def oldestDirty? (s : State) (p : Way → Bool) : Option Way :=
  (s.lc.ways.filter (fun w => p w && w.lines.any (fun x => x.dirty && !x.flying))).foldl
    (fun (m : Option Way) w => match m with
      | none => some w
      | some b => if w.dirtyAt.getD 0 < b.dirtyAt.getD 0 then some w else m) none

/-- The cleaner starts and stops by its marks, and writes back one whole way, oldest first. -/
def clean (s : State) : State :=
  let n := s.get F.lcStatusDirtyCount
  let start := s.cleanPercent F.lcCtlCleanStart
  let stop := s.cleanPercent F.lcCtlCleanStop
  let run :=
    if start ≤ stop then 0 < n
    else if s.lc.cleaning then stop ≤ n * 100
    else start ≤ n * 100 && 0 < n
  let s := { s with lc := { s.lc with cleaning := run } }
  if run then
    match s.oldestDirty? (fun _ => true) with
    | some w => s.writeBack w.sector
    | none => s
  else s

/-! ### Merging into the cache (R129) -/

/-- Put a line's new ciphertext into its way, as Dirty or as it was. -/
def setLine (s : State) (line : Nat) (x : LineData) (dirty : Bool) (epoch : Nat) : State :=
  let c : CacheLine := { idx := line % 64, data := x.data, tag := x.tag, dirty := dirty, epoch := epoch,
                         flying := false, leaving := false }
  let n := s.lc.nextSeq
  let f := fun (w : Way) =>
    let keep := ((w.lines.find? (fun y => y.idx = line % 64)).map (·.leaving)).getD false
    { w with reserved := false, lines := putBy (fun (y : CacheLine) => y.idx = line % 64)
               (some { c with leaving := keep }) w.lines,
             dirtyAt := if dirty && w.dirtyAt.isNone then some n else w.dirtyAt }
  { s with lc := { s.lc with nextSeq := n + 1 } }.onWay (linePage line) f

/-- The whole line that an entry makes over what lies below it, and whether the merge read returned poison (R105,
R106, R110). -/
def mergedLine (s : State) (e : QsEntry) : LineData × Bool :=
  if e.mask = maskAll then ({ idx := e.line % 64, data := e.data, tag := s.tagNow e.dom e.poison }, false)
  else
    let (b, p) := s.belowQs e.line
    ({ idx := e.line % 64, data := mergeLine (s.plain e.dom e.line b) e.data e.mask,
       tag := s.tagNow e.dom (e.poison || p) }, p)

end State

end Sys2Proof.Machine
end

