-- ==== Sys2Proof/Machine/Writes.lean ====
section
/-!
DEFINITION. Writes to the window from any source: to Quickset, to the near path of a Hazel-owned plot, or held (R87, R88,
R113, R389 to R391).
-/
namespace Sys2Proof.Machine
namespace State

/-! ### The near path (R389 to R391) -/

/-- The line after a store merges into it in the near cache. -/
def nearLine (s : State) (w : WinWrite) : LineData :=
  let (b, p) := s.mediaOf w.line
  { idx := w.line % 64, data := mergeLine (s.plain w.dom w.line b) w.data w.mask,
    tag := s.tagNow w.dom (w.poison || (p && w.mask != maskAll)) }

/-- A near-path store: it merges into the line, and the media write of the line carries it; stores that merge before
that write starts are carried by it. -/
def nearWrite (s : State) (w : WinWrite) : State :=
  let s := (s.breakResv w.line w.src).heatUp (linePlot w.line)
  let x := s.nearLine w
  let epoch := s.epochOf w.stamp
  let open_ := fun (m : MediaWrite) => m.phase = .waiting && m.page = some (linePage w.line)
    && m.lines.any (fun y => y.idx = w.line % 64) && match m.kind with
      | .nearStore _ => true
      | _ => false
  match s.mt.writes.find? open_ with
  | none => s.queuePage (.nearStore [w.src]) (linePage w.line) epoch [x]
  | some m =>
    let s := match m.lines.find? (fun y => y.idx = w.line % 64) with
      | some y => s.mergeCapture w.line m.epoch epoch y
      | none => s
    let kind := match m.kind with
      | .nearStore l => WriteKind.nearStore (l ++ [w.src])
      | k => k
    let lines := m.lines.map (fun y => if y.idx = x.idx then x else y)
    let m' := { m with kind := kind, epoch := epoch, lines := lines }
    { s with mt := { s.mt with writes := s.mt.writes.map (fun y => if y.id = m.id then m' else y) } }

/-- Near-path stores that a media write carried are acknowledged, and its lines enter the mirror (R391). -/
def nearDone (s : State) (m : MediaWrite) (srcs : List WinSrc) : State :=
  match m.page with
  | none => s
  | some p =>
    let s := srcs.foldl (fun s src => s.answer { src := src, line := p * 64, dom := 0, mask := 0, data := 0,
                                                 poison := false, stamp := 0 }) s
    m.lines.foldl (fun s x => s.mirrorQueue (p * 64 + x.idx) (s.plain x.tag.dom (p * 64 + x.idx) (some x)) x.tag.poison
      m.epoch) s

/-! ### Window writes -/

/-- A window write (R87, R88, R113, R618): discarded during a sanitize, discarded and listed in a read-only plot, held for back-invalidation or behind an
earlier write to its line or for Quickset space, or accepted.  Sources that are refused in a read-only plot are
refused before this. -/
def windowWrite (s : State) (w : WinWrite) : State :=
  let s := s.dropWriter w
  if s.sanitizing then (s.spendCredit w).answer w
  else if s.plotReadOnly (linePlot w.line) || s.laneDown (linePlot w.line) then
    let s := s.spendCredit w
    (s.listLost w.line w.dom w.stamp).answer w
  else if s.win.held.any (fun h => h.w.line = w.line) then
    { s with win := { s.win with held := s.win.held ++ [{ w := w, holders := [], since := s.clk }] } }
  else
    let h := (s.holders w.line).filter (fun l => l != w.src.link)
    if h != [] then
      let s := { s with win := { s.win with held := s.win.held ++ [{ w := w, holders := h, since := s.clk }] } }
      h.foldl (fun s l => s.send (.biSnp l w.line true)) s
    else if w.src.link = 15 && s.qsSize ≤ s.qs.length + s.win.reserved && (s.qs? w.line).isNone then
      { s with win := { s.win with held := s.win.held ++ [{ w := w, holders := [], since := s.clk }] } }
    else if (s.plot (linePlot w.line)).hazelOwned then s.nearWrite w
    else s.accept w

/-- Write bytes to the window, line by line, for an internal source; the first argument bounds the lines. -/
def windowBytes (src : WinSrc) (dom stamp : Nat) : Nat → Nat → List Byte → State → State
  | 0, _, _, s => s
  | n + 1, a, b, s =>
    if b = [] then s
    else
      let k := 64 - a % 64
      let x := b.take k
      let s := s.windowWrite { src := src, line := a / 64, dom := dom, mask := maskRange (a % 64) x.length,
                               data := BitVec.ofNat 512 (ofBytes x * 2 ^ (8 * (a % 64))), poison := false,
                               stamp := stamp }
      windowBytes src dom stamp n (a + k) (b.drop k) s

/-- A source's writes that are not yet acknowledged: held before Quickset, or on the near path (Table 10.2). -/
def srcHeld (s : State) (src : WinSrc) : Bool :=
  s.win.held.any (fun h => h.w.src = src) || s.mt.writes.any (fun w => match w.kind with
    | .nearStore l => l.contains src
    | _ => false)

end State

end Sys2Proof.Machine
end

