-- ==== Sys2Proof/Machine/RingOps.lean ====
section
/-!
DEFINITION. Completion status codes, descriptors and how their work ends (R33, R35, R39 to R41, R368 to R371).
-/
namespace Sys2Proof.Machine

/-! ### Status codes (Table 11.6) -/

def stOk : Nat := 0x0000
def stOkCorrected : Nat := 0x0001
def stOkLate : Nat := 0x0010
def stBadDescriptor : Nat := 0x0101
def stDomainDenied : Nat := 0x0102
def stRangeFault : Nat := 0x0103
def stLaunchPast : Nat := 0x0104
def stHostMapped : Nat := 0x0105
def stMediaUncorrectable : Nat := 0x0201
def stReadOnly : Nat := 0x0202
def stSanitizeActive : Nat := 0x0203
def stUnitOffline : Nat := 0x0204
def stAuthFailed : Nat := 0x0205
def stTimeout : Nat := 0x0301
def stTargetDead : Nat := 0x0302
def stBusyOnline : Nat := 0x0401
def stResourceExhausted : Nat := 0x0402
def stFlushed : Nat := 0x0501
def stAbortedReset : Nat := 0x0601

/-- The status of several outcomes: the highest class; within a class, the first (R370). Assumption 66 (DEDUCED). -/
def worse (a b : Nat) : Nat := if a / 256 < b / 256 then b else if a / 256 = 0 && b ≠ 0 && a = 0 then b else a

/-! ### Descriptor fields (Table 11.3 and the operand tables) -/

/-- The number in bytes `[at, at + n)` of a descriptor. -/
def Desc.num (d : Desc) (at_ n : Nat) : Nat :=
  (d.words.foldr (fun w acc => w.toNat + 2 ^ 64 * acc) 0) / 2 ^ (8 * at_) % 2 ^ (8 * n)

def Desc.op (d : Desc) : Nat := d.num 0 1
def Desc.flag (d : Desc) (k : Nat) : Bool := d.num 1 1 / 2 ^ k % 2 = 1
def Desc.order (d : Desc) : Bool := d.flag 0
def Desc.irqNow (d : Desc) : Bool := d.flag 1
def Desc.timed (d : Desc) : Bool := d.flag 2
def Desc.dropLate (d : Desc) : Bool := d.flag 3
def Desc.quiesce (d : Desc) : Bool := d.flag 4
def Desc.progress (d : Desc) : Bool := d.flag 5
def Desc.tag (d : Desc) : Nat := d.num 4 4
def Desc.launch (d : Desc) : Nat := d.num 8 8

/-- Opcodes (Table 11.5). -/
def opNop : Nat := 0x00
def opFtRead : Nat := 0x10
def opFtWrite : Nat := 0x11
def opFtTrim : Nat := 0x12
def opFtFlush : Nat := 0x13
def opMove : Nat := 0x20
def opPeerWrite : Nat := 0x21
def opPeerRead : Nat := 0x22
def opHzLaunch : Nat := 0x30
def opSeal : Nat := 0x40
def opOpen : Nat := 0x41
def opEpochCut : Nat := 0x50
def opSnapCut : Nat := 0x51
def opSnapDelete : Nat := 0x52
def opSnapRead : Nat := 0x53
def opLcRange : Nat := 0x60
def opHint : Nat := 0x68
def opRetire : Nat := 0x70
def opShutdown : Nat := 0x71
def opSanitize : Nat := 0x72
def opSelftest : Nat := 0x73
def opCheckpoint : Nat := 0x74

namespace State

/-- The domain that owns a ring (R39, R356). -/
def ringDom (s : State) (r : Nat) : Nat := s.get (F.ringBindDomain r)

/-- A descriptor of a ring. -/
def desc? (s : State) (r h : Nat) : Option Desc := s.rg.descs.find? (fun d => d.ring = r && d.handle = h)

/-- A started descriptor of an opcode. -/
def startedDesc? (s : State) (r h op : Nat) : Option Desc :=
  match s.desc? r h with
  | some d => if d.op = op && d.phase = .started then some d else none
  | none => none

/-- Replace a descriptor. -/
def setDesc (s : State) (d : Desc) : State :=
  { s with rg := { s.rg with
      descs := s.rg.descs.map (fun x => if x.ring = d.ring && x.handle = d.handle then d else x) } }

/-- A descriptor's work has ended; its completion entry is still to be written (R366, R370).  A descriptor that has
already ended stays as it is. Assumption 99 (DEDUCED). -/
def finish (s : State) (r h status result : Nat) : State :=
  match s.desc? r h with
  | none => s
  | some d => match d.phase with
    | .finished _ _ => s
    | _ =>
      if s.srcWaits (.ring r h) then
        if s.kt.finishing.any (fun x => x.1 = r && x.2.1 = h) then s
        else { s with kt := { s.kt with finishing := s.kt.finishing ++ [(r, h, status, result)] } }
      else s.setDesc { d with phase := .finished (worse status d.worst) result }

/-! ### Regions and grants (R33 to R41, R373) -/

/-- A domain may reach a range of the window: its LDs' extents, or all of it for domain 0. -/
def windowGranted (s : State) (dom addr len : Nat) : Bool :=
  if dom = 0 then addr + len ≤ s.winPlots * plotBytes
  else (List.range ((addr + len + plotBytes - 1) / plotBytes - addr / plotBytes)).all (fun k =>
    (List.range s.ldCount).any (fun n => s.ldEnabled n && s.ldDomain n = dom
      && (s.extents n).any (fun e => e.1 ≤ addr / plotBytes + k && addr / plotBytes + k < e.1 + e.2)))

/-! ### Descriptors as they start (R366, R142) -/

/-- The staged writes and partial trims of an FT_FLUSH's range that are older than a version (R373).
Assumption 54 (DEDUCED). -/
def flushWaits (s : State) (d : Desc) (mark : Nat) : List Slot :=
  let first := d.num 16 8 / 4
  let last := (d.num 16 8 + d.num 24 4 - 1) / 4
  s.fm.slots.filter (fun x => first ≤ x.unit && x.unit ≤ last && x.first < mark)

/-- A descriptor starts.  An FT_FLUSH keeps the version reached in `left` and the units that it waits for in `acc`. -/
def startDesc (s : State) (d : Desc) : State :=
  let d := if d.op = opFtFlush then { d with left := s.fm.version, acc := (s.flushWaits d s.fm.version).length } else d
  s.setDesc { d with phase := .started, begun := s.clk }

/-- A valid descriptor may start: earlier ones that are to start have started, an operation of its ring waits for no slot,
and with Order every earlier descriptor has completed. Assumption 21 (DESIGN CHOICE). -/
def descMayStart (s : State) (d : Desc) (earlier : List Desc) : Bool :=
  !earlier.any (fun (x : Desc) => decide (x.phase = DescPhase.ready) || decide (x.phase = DescPhase.fetching))
    && !s.lc.waits.any (fun w => w.owner = 1 && w.ring = d.ring) && (!d.order || earlier = [])

/-- Start the descriptors of a ring that may start, in index order; the first list holds those already passed.
Assumption 21 (DESIGN CHOICE). -/
def startIn (s : State) : List Desc → List Desc → State
  | _, [] => s
  | earlier, d :: rest =>
    let s := if decide (d.phase = DescPhase.ready) && s.descMayStart d earlier then s.startDesc d else s
    startIn s (earlier ++ [(s.desc? d.ring d.handle).getD d]) rest

def startReady (s : State) (r : Nat) : State := s.startIn [] (s.rg.descs.filter (fun d => d.ring = r))

/-- Start what may start on every ring. -/
def startRings (s : State) : State := ((s.rg.descs.map (·.ring)).eraseDups).foldl (fun s r => s.startReady r) s

end State

end Sys2Proof.Machine
end

