-- ==== Sys2Proof/Machine/Mode.lean ====
section
/-!
DEFINITION. Service modes (R312, R613): the moves that several families make.
-/
namespace Sys2Proof.Machine
namespace State

/-- Move to a mode, only ever toward less service (R613). -/
def toMode (s : State) (mode cause : Nat) : State :=
  if s.get F.pvModeMode < mode then (s.set F.pvModeMode mode).set F.pvModeCause cause else s

/-- Safe mode (R46, R615): no die but Privet runs, so no unit of another die serves. Assumption 90 (DEDUCED). -/
def safeMode (s : State) (cause : Nat) : State :=
  if s.get F.pvModeMode = 4 then s
  else
    let s := (((s.toMode 4 cause).set F.winStatusWindowState 0).set F.ftStatusState 0).set F.netStatusPortUp 0
    let s := (List.range 8).foldl (fun s d => s.set (F.hzClStatusState d) 0) s
    let s := (List.range 2).foldl (fun s a => s.set (F.klAgentStatusState a) 0) s
    let s := (List.range 16).foldl (fun s p => s.put (F.netPortStatusUp p) false) s
    (List.range 11).foldl (fun s k => s.set (F.klLinkStatusState k) 0) s

/-- Basic mode (R26, R614): the cache, the F-tier, the network ports and the clusters do not serve. -/
def basicUnits (s : State) : State :=
  let s := ((s.put F.lcCtlEnable false).put F.lcStatusEnabled false).set F.ftStatusState 0
  let s := (List.range 8).foldl (fun s d => s.set (F.hzClStatusState d) 0) (s.set F.netStatusPortUp 0)
  (List.range 16).foldl (fun s p => s.put (F.netPortStatusUp p) false) s

/-- A unit is lost: Reduced (Table 20.3). -/
def reduced (s : State) : State := { s with pw := { s.pw with lossy := true } }.toMode 1 1

/-- PV_MODE.Cause of a RoCause. -/
def causeOf (ro : Nat) : Nat := if ro = 5 then 5 else if ro = 4 then 6 else ro + 1

/-- Write back every dirty line. -/
def writeBackAll (s : State) : State :=
  (s.lc.ways.filter (fun w => w.lines.any (·.dirty))).foldl (fun s w => s.writeBack w.sector) s

/-- Read-only window mode (Table 9.9): RoCause 1 hold-up, 2 journal, 3 checkpoint, 5 tag loss. -/
def enterReadOnly (s : State) (ro : Nat) : State :=
  if s.get F.perStatusState = 2 || s.get F.perStatusState = 3 then s
  else
    let s := ((s.set F.perStatusState 2).set F.perStatusRoCause ro).set F.winStatusWindowState 2
    ((s.toMode 2 (causeOf ro)).writeBackAll).raise 116 sevCritical 0 noDom [d4 ro]

/-- The cause of Read-only window mode has cleared (R312, R613); a lost tag entry never clears while the device runs. -/
def leaveReadOnly (s : State) (ro : Nat) : State :=
  if s.get F.perStatusState = 2 && s.get F.perStatusRoCause = ro && ro != 5 then
    let s := ((s.set F.perStatusState 1).set F.perStatusRoCause 0).set F.winStatusWindowState 1
    if s.get F.pvModeMode = 2 then
      if !s.pw.lossy then (s.set F.pvModeMode 0).set F.pvModeCause 0
      else (s.set F.pvModeMode 1).set F.pvModeCause 1
    else s
  else s

/-! ### Hints that a domain may no longer hold (R259) -/

/-- A namespace GiB is granted to a domain (R227); domain 0 holds every one (R40). -/
def gibGranted (s : State) (dom gib : Nat) : Bool :=
  dom = 0 || s.ft.grants.any (fun g => bits g.2 63 1 = 1 && bits g.2 36 10 = dom && bits g.2 0 18 ≤ gib
    && gib < bits g.2 0 18 + bits g.2 18 18)

/-- Hints end where their range has left the grants of the domain that gave them. Assumption 58 (DEDUCED). -/
def tidyHints (s : State) : State :=
  let s := (s.md.nsHints.filter (fun h => !s.gibGranted h.dom h.gib)).foldl (fun s h =>
    s.journal (.nsHintSet { h with heat := none, group := none })) s
  (s.md.plots.filter (fun p => p.idx < 0x10000 && (p.heat.isSome || p.group.isSome || p.pinned)
      && !s.windowGranted p.hinted (p.idx * plotBytes) plotBytes)).foldl (fun s p =>
    s.setPlot { p with heat := none, group := none, pinned := false }) s

/-- A media die, a link, a stack or another unit is named in PV_UNITS_LOST. -/
def unitLost (s : State) (f : Fld) (k : Nat) : State := (s.setBit f k true).reduced

end State
end Sys2Proof.Machine
end

