-- ==== Sys2Proof/Machine/LineCache.lean ====
section
/-!
DEFINITION. The line cache's commands (chapter 4).
-/
namespace Sys2Proof.Machine

namespace State

/-! ### Writes from Quickset (R129) -/

/-- Mark an entry as on its way to the media. -/
def qsLeaving (s : State) (line : Nat) : State :=
  { s with qs := s.qs.map (fun (e : QsEntry) => if e.line = line then { e with leaving := true } else e) }

/-- The merge read of an entry returned poison (R106). -/
def mergePoison (s : State) (e : QsEntry) (p : Bool) : State :=
  if p then s.raiseAt 46 sevError 0 e.dom [d8 (lineAddr e.line)] (some (lineAddr e.line)) else s

/-- WRITE_AROUND: Quickset writes the line to the media itself; the entry stays until the write completes (R290). -/
def writeAround (s : State) (e : QsEntry) : State :=
  let (x, p) := s.mergedLine e
  let s := ((s.bump F.lcWritearoundCountCount).cLc 0x24 1).mergePoison e p
  (s.queuePage .writeAround (linePage e.line) e.epoch [x]).qsLeaving e.line

/-- Merge an entry into its way as Dirty, and free the entry. -/
def mergeDirty (s : State) (e : QsEntry) : State :=
  let (x, p) := s.mergedLine e
  let s := match s.cached? e.line with
    | some c => if c.dirty then
        s.mergeCapture e.line c.epoch e.epoch { idx := c.idx, data := c.data, tag := c.tag } else s
    | none => s
  let s := (s.mergePoison e p).setLine e.line x true e.epoch
  ((s.ageHit (linePage e.line)).qsFree e.line).cLc 0x26 1

/-- Dirty lines may not grow (R131, R133). -/
def budgetSpent (s : State) : Bool :=
  s.on F.lcCtlWriteThrough || s.get F.lcBudgetLines ≤ s.get F.lcStatusDirtyCount

/-- Table 4.2, first case that applies. -/
def mergeEntry (s : State) (e : QsEntry) : State :=
  let c := s.cached? e.line
  let sector := linePage e.line
  if (c.map (·.dirty)).getD false && s.cacheOn then s.mergeDirty e
  else if !s.cacheOn then s.writeAround e
  else if s.budgetSpent then
    let x := (s.mergedLine e).1
    let s := s.writeAround e
    if c.isSome then s.setLine e.line x false e.epoch else s
  else if (s.way? sector).isSome then s.mergeDirty e
  else if s.rangeBusy sector || (s.plot (linePlot e.line)).hazelOwned then s.writeAround e
  else match s.allocWay sector with
    | (s, true) => s.mergeDirty e
    | (_, false) => s.writeAround e

/-! ### Range operations (R141 to R149) -/

/-- Tag entries of the cache. -/
def tagEntries (s : State) : Nat := 16 * s.lcSets

/-- The refusal of a range operation at its start, if any (R143). -/
def rangeRefusal (s : State) (op first sectors dom : Nat) : Option Nat :=
  if op = 0 || opInvalidateAll < op || (op != opInvalidateAll && sectors = 0)
      || ((op = opLock || op = opPrefetch) && !s.cacheOn) then some stBadDescriptor
  else if op != opInvalidateAll && s.winPlots * pagesPerPlot < first + sectors then some stRangeFault
  else if (opLock ≤ op && dom != 0)
      || (op != opInvalidateAll && !s.windowGranted dom (first * 4096) (sectors * 4096)) then some stDomainDenied
  else none

/-- Two range operations overlap. -/
def opsMeet (a b : RangeOp) : Bool :=
  a.op = opInvalidateAll || b.op = opInvalidateAll || (a.first < b.first + b.sectors && b.first < a.first + a.sectors)

/-- An earlier operation that overlaps is still busy (R147). -/
def mustQueue (s : State) (o : RangeOp) : Bool := s.lc.ops.any (fun x => x.seq < o.seq && opsMeet x o)

/-- Accept a range operation into a slot: its cut point is now (R144). -/
def acceptRange (s : State) (slot op first sectors dom owner ring handle : Nat) : State :=
  let walk := op = opInvalidateAll || ((op = opClean || op = opInvalidate || op = opUnlock) && s.tagEntries < sectors)
  let o : RangeOp := { slot := slot, op := op, first := first, sectors := sectors, dom := dom, owner := owner,
                       ring := ring, handle := handle, tagWalk := walk, pos := 0, queued := false, skipped := 0,
                       seq := s.lc.nextSeq }
  let o := { o with queued := s.mustQueue o }
  let s := { s with lc := { s.lc with ops := s.lc.ops ++ [o], nextSeq := s.lc.nextSeq + 1 } }
  let s := ((s.set (F.lcRangeOpAddrSector slot) first).set (F.lcRangeOpLenSectors slot) sectors).set
    (F.lcRangeOpCtlOp slot) op
  let s := ((s.put (F.lcRangeOpCtlStart slot) true).set (F.lcRangeOpCtlOwner slot) owner).set
    (F.lcRangeOpCtlDomain slot) dom
  let s := ((s.setReg (R.lcRangeOpStat slot) 0).put (F.lcRangeOpStatBusy slot) true).put
    (F.lcRangeOpStatTagWalk slot) walk
  let s := (s.put (F.lcRangeOpStatQueued slot) o.queued).set (F.lcRangeOpCutStamp slot) s.nowDtb
  s.setBit F.lcStatusRangeBusy slot true

def slotBusy (s : State) (i : Nat) : Bool := s.lc.ops.any (fun o => o.slot = i)

/-- A register start (R142): refused with event 98 and Status, or accepted. -/
def startRegister (s : State) (slot op : Nat) : State :=
  if 8 ≤ slot then s
  else if s.slotBusy slot || s.get (F.lcRangeOpCtlOwner slot) != 0 then
    s.raise 98 sevNotice 0 noDom [d4 slot, d4 stBusyOnline]
  else
    let first := s.get (F.lcRangeOpAddrSector slot)
    let n := s.get (F.lcRangeOpLenSectors slot)
    let s := s.set (F.lcRangeOpCtlOp slot) op
    match s.rangeRefusal op first n 0 with
    | some st => (s.set (F.lcRangeOpStatStatus slot) st).raise 98 sevNotice 0 noDom [d4 slot, d4 st]
    | none => s.acceptRange slot op first n 0 0 0 0

/-- A descriptor or Topiary takes the lowest free slot, or waits its turn (R142). -/
def startRange (s : State) (w : RangeWait) : State :=
  match (if s.lc.waits = [] then (List.range 8).find? (fun i => !s.slotBusy i) else none) with
  | some i => s.acceptRange i w.op w.first w.sectors w.dom w.owner w.ring w.handle
  | none => { s with lc := { s.lc with waits := s.lc.waits ++ [w] } }

/-- A freed slot goes to the request that has waited longest. -/
def rangeNext (s : State) : State :=
  match s.lc.waits, (List.range 8).find? (fun i => !s.slotBusy i) with
  | w :: rest, some i =>
    { s with lc := { s.lc with waits := rest } }.acceptRange i w.op w.first w.sectors w.dom w.owner w.ring w.handle
  | _, _ => s

/-- The sector at a position of a walk (R148); none where a tag entry holds none of the range. -/
def opSector? (s : State) (o : RangeOp) : Option Nat :=
  if o.tagWalk then
    match s.lc.ways.find? (fun w => w.set = o.pos / 16 && w.way = o.pos % 16 && !w.dead) with
    | some w => if o.op = opInvalidateAll || (o.first ≤ w.sector && w.sector < o.first + o.sectors) then some w.sector
      else none
    | none => none
  else some (o.first + o.pos)

def opLength (s : State) (o : RangeOp) : Nat := if o.tagWalk then s.tagEntries else o.sectors

/-- A fill of a sector is in flight (R146). -/
def fillFlying (s : State) (sector : Nat) : Bool := s.win.reads.any (fun r => r.fills && linePage r.line = sector)

/-- The slot can take its next position (R148). -/
def canTurn (s : State) (o : RangeOp) : Bool :=
  !o.queued && o.pos < s.opLength o && match s.opSector? o with
    | some x => !s.fillFlying x
    | none => true

/-- Invalidate a sector: clean lines go at once, dirty ones after their write-back (R136, R141). -/
def invalidateSector (s : State) (sector : Nat) : State :=
  let s := s.writeBack sector
  s.onWay sector (fun w => { w with lines := (w.lines.filter (·.dirty)).map (fun x => { x with leaving := true }),
                                    reserved := w.reserved && w.locked })

/-- Fill every Invalid line of a sector that the media holds; poison fills nothing (R127, R134). -/
def fillSector (s : State) (sector : Nat) : State :=
  ((List.range 64).foldl (fun s i =>
    match s.cached? (sector * 64 + i), s.mediaOf (sector * 64 + i) with
    | none, (some x, false) => s.fillLine (sector * 64 + i) x
    | _, _ => s) s).unreserve sector

/-- Locked ways of a set. -/
def lockedIn (s : State) (set : Nat) : Nat := (s.lc.ways.filter (fun w => w.set = set && w.locked)).length

/-- What one turn does at a sector: the state, whether the position is skipped, and whether the slot waits there
(R135, R141). -/
def opAt (s : State) (o : RangeOp) (sector : Nat) : State × Bool × Bool :=
  if !s.cacheOn && o.op != opInvalidateAll then (s, false, false)
  else if o.op = opClean then (s.writeBack sector, false, false)
  else if o.op = opInvalidate then (s.invalidateSector sector, false, false)
  else if o.op = opInvalidateAll then
    (s.invalidateSector sector |>.onWay sector (fun w => { w with locked := false }), false, false)
  else if o.op = opUnlock then (s.onWay sector (fun w => { w with locked := false }), false, false)
  else if (s.plot (sector / pagesPerPlot)).hazelOwned then (s, true, false)
  else if o.op = opLock && 8 ≤ s.lockedIn (s.lcSet sector)
      && !((s.way? sector).map (·.locked)).getD false then (s, true, false)
  else
    let r := if (s.way? sector).isSome then (s, true) else s.allocWay sector
    match r with
    | (s', true) =>
      let s' := s'.fillSector sector
      (if o.op = opLock then
        if (s'.way? sector).isSome then s'.onWay sector (fun w => { w with locked := true })
        else ((s.allocWay sector).1).onWay sector (fun w => { w with locked := true, reserved := false })
       else s', false, false)
    | (_, false) =>
      if o.op = opPrefetch then (s, true, false)
      else match s.oldestDirty? (fun w => w.set = s.lcSet sector && !w.locked) with
        | some w => (s.writeBack w.sector, false, true)
        | none => (s, false, true)

/-- Positions completed from the start: up to the first one whose write-backs are not complete (R148). -/
def opProgress (s : State) (o : RangeOp) : Nat :=
  (s.lc.ways.filter (fun w => opCovers o w.sector && w.lines.any (fun x => x.flying || x.leaving))).foldl (fun m w =>
    min m (if o.tagWalk then w.set * 16 + w.way else w.sector - o.first)) o.pos

/-- Replace an operation. -/
def setOp (s : State) (o : RangeOp) : State :=
  { s with lc := { s.lc with ops := s.lc.ops.map (fun x => if x.slot = o.slot then o else x) } }

/-- One turn of the range engine for an operation. -/
def turnOp (s : State) (o : RangeOp) : State :=
  let s := { s with lc := { s.lc with turn := o.slot } }
  match s.opSector? o with
  | none => (s.setOp { o with pos := o.pos + 1 }).set (F.lcRangeOpStatProgress o.slot)
      (s.opProgress { o with pos := o.pos + 1 })
  | some x =>
    let (s, skip, wait) := (s.cLc 0x27 1).opAt o x
    if wait then s
    else
      let o := { o with pos := o.pos + 1, skipped := if skip then o.skipped + 1 else o.skipped }
      let s := (s.setOp o).set (F.lcRangeOpStatProgress o.slot) (s.opProgress o)
      s.set (F.lcRangeOpStatSkipped o.slot) (min 4095 o.skipped)

/-- Every position of an operation is completed. -/
def opDone (s : State) (o : RangeOp) : Bool := !o.queued && o.pos = s.opLength o && s.opProgress o = o.pos

/-- The end of an operation in its slot (R149): Status, Busy, later overlapping operations, InvalidateAll's effect. -/
def endOp (s : State) (o : RangeOp) : State × Nat :=
  let st := if o.op = opLock && o.skipped != 0 then stResourceExhausted else stOk
  let s := { s with lc := { s.lc with ops := s.lc.ops.filter (fun x => x.slot != o.slot) } }
  let s := { s with lc := { s.lc with ops := s.lc.ops.map (fun (x : RangeOp) => { x with queued := x.queued && s.mustQueue x }) } }
  let s := s.lc.ops.foldl (fun s x => s.put (F.lcRangeOpStatQueued x.slot) x.queued) s
  let s := ((s.put (F.lcRangeOpStatBusy o.slot) false).put (F.lcRangeOpCtlStart o.slot) false).set
    (F.lcRangeOpStatStatus o.slot) st
  let s := (s.set (F.lcRangeOpStatProgress o.slot) o.pos).setBit F.lcStatusRangeBusy o.slot false
  let s := if o.owner = 0 then s else s.set (F.lcRangeOpCtlOwner o.slot) 0
  let s := if o.op = opInvalidateAll then
      let s := s.put F.lcStatusStaleRisk false
      let s := if s.cacheOn then s else s.setWays (s.lc.ways.filter (·.dead))
      { s with lc := { s.lc with retained := false } }
    else s
  (s.rangeNext, st)

end State

open Host

/-- Fields of LC_CTL other than Enable. -/
def State.lcCtl (s : State) (value : BitVec 32) : State :=
  let v := value.setWidth 64
  ((s.set F.lcCtlWriteThrough (bits v 1 1)).set F.lcCtlCleanStart (bits v 8 7)).set F.lcCtlCleanStop (bits v 16 7)

/-- LC_ENABLE (R139, R140): a write of LC_CTL with Enable 1. -/
def execLcEnable (value : BitVec 32) (s : State) : Outcome State Fault Refusal :=
  .next <|
    let s := s.lcCtl value
    if s.get F.winStatusWindowState = 3 || s.cacheOn then s
    else
      let s := (s.put F.lcCtlEnable true).put F.lcStatusEnabled true
      if s.lc.retained then
        let s := { s with lc := { s.lc with retained := false } }
        (s.put F.lcStatusStaleRisk true).raise 97 sevWarning 0 noDom [d8 s.lc.lastDisable]
      else s

/-- LC_DISABLE (R137, R138, R140): a write of LC_CTL with Enable 0. -/
def execLcDisable (value : BitVec 32) (s : State) : Outcome State Fault Refusal :=
  .next <|
    let s := s.lcCtl value
    if !s.cacheOn then s
    else if s.get F.lcStatusDirtyCount != 0 || s.lc.ops.any (fun o => o.op = opLock || o.op = opPrefetch) then
      (s.put F.lcStatusDisableRefused true).raise 96 sevNotice 0 noDom
        [d4 (s.get F.lcStatusDirtyCount), d4 (s.get F.lcStatusRangeBusy)]
    else
      let s := (s.put F.lcCtlEnable false).put F.lcStatusEnabled false
      let s := { s with lc := { s.lc with retained := true, lastDisable := s.nowDtb },
                        win := { s.win with reads := s.win.reads.map (fun (r : OutRead) => { r with fills := false }) } }
      s.setWays (s.lc.ways.map (fun w => if w.locked then w else { w with reserved := false }))

/-- RANGE_OP_TURN (R148): the next slot in rotation takes its position. -/
def execRangeOpTurn (s : State) : Outcome State Fault Refusal :=
  .next <|
    let slots := (List.range 8).map (fun k => (s.lc.turn + 1 + k) % 8)
    match slots.findSome? (fun i => s.lc.ops.find? (fun o => o.slot = i && s.canTurn o)) with
    | some o => s.turnOp o
    | none => s

/-- HBM_UNCORRECTABLE (R151). -/
def execHbmUncorrectable (line : Nat) (s : State) : Outcome State Fault Refusal :=
  .next <|
    match s.cached? line, s.way? (linePage line) with
    | some c, some w =>
      let data := [d8 (lineAddr line), d4 (s.wayStack w)]
      let drop := fun (w : Way) =>
        let l := w.lines.filter (fun x => x.idx != line % 64)
        { w with lines := l, dirtyAt := if l.any (·.dirty) then w.dirtyAt else none }
      let s := (s.bump F.lcHbmErrCountCount).onWay (linePage line) drop
      if c.dirty then
        let x : LineData := { idx := c.idx, data := Config.freeLine s.free, tag := { c.tag with poison := true } }
        (s.drew.queuePage .lostLine (linePage line) c.epoch [x]).raiseAt 101 sevError 0 noDom data (some (lineAddr line))
      else s.raiseAt 100 sevNotice 0 noDom data (some (lineAddr line))
    | _, _ => s

/-- TAG_UNCORRECTABLE (R152): the entry leaves use until cold reset.  The command says whether the entry may have held
Dirty lines, which one that did hold some may always have. -/
def execTagUncorrectable (set way : Nat) (mayHoldDirty : Bool) (s : State) : Outcome State Fault Refusal :=
  .next <|
    if s.lcSets ≤ set || 16 ≤ way then s
    else
      let old := s.lc.ways.find? (fun w => w.set = set && w.way = way)
      if (old.map (·.dead)).getD false then s
      else
        let dirty := mayHoldDirty || ((old.map (fun w => w.lines.any (·.dirty))).getD false)
        let v : Way := { set := set, way := way, sector := 0, locked := false, reserved := false, dead := true,
                         age := 0, dirtyAt := none, lines := [] }
        let s := s.setWays (s.lc.ways.filter (fun w => !(w.set = set && w.way = way)) ++ [v])
        let s := (s.bump F.lcTagErrCountCount).put F.lcStatusTagLoss true
        if dirty then
          (s.raise 102 sevCritical 0 noDom [d4 set, d4 way]).enterReadOnly 5
        else s.raise 102 sevError 0 noDom [d4 set, d4 way]

end Sys2Proof.Machine
end

