-- ==== Sys2Proof/Machine/Tally.lean ====
section
/-!
DEFINITION. The corrected-error tally, rank correction rates and uncorrectable lines (R192 to R196).
-/
namespace Sys2Proof.Machine
namespace State

/-- The window address of a media page, as event data, if it has one. -/
def pageAddr (s : State) (l : Nat) : List (Nat × Nat) :=
  match s.windowPageAt? l with
  | some p => [d8 (p * 4096)]
  | none => []

/-- The window address of a line of a media page. -/
def lineAddrAt? (s : State) (l i : Nat) : Option Nat := (s.windowPageAt? l).map (fun p => p * 4096 + i * 64)

/-- Entries of the tally table (R192). -/
def tallySize : Nat := 1048576

/-- The event of a page whose count has reached the threshold (R193). -/
def tallyEvent (s : State) (e : TallyEntry) : State :=
  if max 1 (s.get F.mtTallyCfgThreshold) ≤ e.count then
    s.raiseAt (dieSource (pageDie e.loc) 8) sevNotice 1 noDom
      ([d4 e.loc] ++ s.pageAddr e.loc ++ [d4 e.line, d4 e.word]) (s.lineAddrAt? e.loc e.line)
  else s

/-- Replace the tally table; MT_TALLY_STATUS follows. -/
def setTally (s : State) (l : List TallyEntry) : State :=
  { s with mt := { s.mt with tally := l } }.set F.mtTallyStatusUsed l.length

/-- One correction in the tally entry of its page (R192). -/
def tallyOne (s : State) (l line word : Nat) : State :=
  let t := s.nowSec
  match s.mt.tally.find? (fun e => e.loc = l) with
  | some e =>
    let e := { e with count := min 65535 (e.count + 1), latest := t, line := line, word := word }
    (s.setTally (s.mt.tally.map (fun x => if x.loc = l then e else x))).tallyEvent e
  | none =>
    let e : TallyEntry := { loc := l, count := 1, first := t, latest := t, line := line, word := word }
    if s.mt.tally.length < tallySize then (s.setTally (s.mt.tally ++ [e])).tallyEvent e
    else
      let old := (s.mt.tally.filter (fun x => x.latest + 86400 < t)).foldl (fun (m : Option TallyEntry) x => match m with
        | none => some x
        | some b => if x.count < b.count then some x else m) none
      match old with
      | some v => (s.setTally (s.mt.tally.map (fun x => if x.loc = v.loc then e else x))).tallyEvent e
      | none => s.bump F.mtTallyDropCount

/-- The model clocks of corrections in a rank in the last 60 minutes. -/
def rateOf (s : State) (c r : Nat) : List Nat :=
  (if r = 0 then (s.chan c).rate0 else (s.chan c).rate1).filter (fun t => s.clk < t + 3600000000000)

def setRate (s : State) (c r : Nat) (l : List Nat) : State :=
  let v := s.chan c
  (s.setChan c (if r = 0 then { v with rate0 := l } else { v with rate1 := l })).set (F.mtChRateCount c r) l.length

/-- Topiary moves the plots of a channel for a reason (R283). -/
def drainChannel (s : State) (c reason : Nat) : State := (s.plotsOn c).foldl (fun s i => s.wantMove i reason) s

/-- A rank's correction rate passes its limit (R195, R283). -/
def rateEvent (s : State) (c r n : Nat) : State :=
  let s := s.raise (dieSource (c / 4) 10) sevWarning 2 noDom [d4 c, d4 r, d4 n]
  { s with top := { s.top with avoided := Store.insert c s.clk s.top.avoided } }.drainChannel c 2

/-- One correction of a word in its rank (R195). -/
def rateOne (s : State) (l : Nat) : State :=
  let c := pageChan l
  let r := pageRank l
  let old := s.rateOf c r
  let s := ((s.bump (F.mtChCorrCount c r)).setRate c r (s.clk :: old)).cMch c 0x85 1
  let lim := s.get F.mtTallyCfgRankLimit * 100
  if 0 < lim && old.length ≤ lim && lim < old.length + 1 then s.rateEvent c r (old.length + 1) else s

/-- A correction of a word (R192 to R195). -/
def correct (s : State) (l line word : Nat) : State := (s.tallyOne l line word).rateOne l

/-- Corrections of words (line, word) of a page, in ascending order, so that the highest is the latest. -/
def correctAll (s : State) (l : Nat) (x : List (Nat × Nat)) : State :=
  (x.mergeSort (fun a b => decide (a.1 * 8 + a.2 ≤ b.1 * 8 + b.2))).foldl (fun s w => s.correct l w.1 w.2) s

/-- A page's tally entry is cleared (R194). -/
def clearTally (s : State) (l : Nat) : State := s.setTally (s.mt.tally.filter (fun e => e.loc != l))

/-- A strong decode of a page has failed (R196). -/
def decodeFailed (s : State) (l : Nat) : State :=
  let c := pageChan l
  let r := pageRank l
  let v := s.chan c
  let old := (if r = 0 then v.dead0 else v.dead1).filter (fun x => s.clk < x.1 + 1000000000 && x.2 != l)
  let now := (s.clk, l) :: old
  let n := s.get F.mtHealthCfgDeadPages
  let say := 0 < n && n ≤ now.length && !(if r = 0 then v.deadSaid0 else v.deadSaid1)
  let s := s.setChan c (if r = 0 then { v with dead0 := now, deadSaid0 := v.deadSaid0 || say }
    else { v with dead1 := now, deadSaid1 := v.deadSaid1 || say })
  if say then s.raise (dieSource (c / 4) 10) sevCritical 1 noDom [d4 c, d4 r] else s

/-- A request read returned media poison (R189). -/
def uncorrectableRead (s : State) (l line : Nat) : State :=
  ((s.bump (F.mtChUncorrCountCount (pageChan l))).raiseAt (dieSource (pageDie l) 9) sevError 1 noDom
    ([d4 l] ++ s.pageAddr l ++ [d4 line]) (s.lineAddrAt? l line)).decodeFailed l

end State
end Sys2Proof.Machine
end

