-- ==== Sys2Proof/Machine/Reads.lean ====
section
/-!
DEFINITION. Window reads that the media answers, and the banks that serve them (R88 to R101, R169, R189).
-/
namespace Sys2Proof.Machine

/-- The number of a read's stage. -/
def ReadStage.num : ReadStage → Nat
  | .filter => 0
  | .held => 1
  | .admission => 2
  | .transit => 3
  | .queued => 4
  | .sensing => 5
  | .pageQueued => 6
  | .pageSensing => 7
  | .decoding => 8

/-- The read has its bank's admission place (R96). -/
def ReadStage.inBank : ReadStage → Bool
  | .transit => true
  | .queued => true
  | .sensing => true
  | .pageQueued => true
  | .pageSensing => true
  | _ => false

namespace State

/-! ### Outstanding reads -/

def outRead? (s : State) (id : Nat) : Option OutRead := s.win.reads.find? (fun r => r.id = id)

def setRead (s : State) (r : OutRead) : State :=
  { s with win := { s.win with reads := s.win.reads.map (fun x => if x.id = r.id then r else x) } }

def removeRead (s : State) (id : Nat) : State :=
  { s with win := { s.win with reads := s.win.reads.filter (fun x => x.id != id) } }

/-- The answer to a window read that the media or the deadline gives. Assumption 31 (DEDUCED). -/
def answerRead (s : State) (r : OutRead) (data : Line) (poison : Bool) : State :=
  match r.src with
  | .cxl link tag =>
    let d := s.clk - r.since
    let s := (s.send (.cxlData link tag (if poison then 0 else data) poison)).traffic link 0 64
    let s := (s.cWin 0x13 link 1).cWin 0x18 0 d
    if 560 < d then s.cWin 0x19 0 1 else s
  | _ => s

/-- Another read will fill the sector. -/
def othersFill (s : State) (r : OutRead) : Bool :=
  s.win.reads.any (fun x => x.id != r.id && x.fills && linePage x.line = linePage r.line)

/-- A read ends without a fill. -/
def noFill (s : State) (r : OutRead) : State :=
  if r.fills && !s.othersFill r && !((s.way? (linePage r.line)).map (fun w => w.lines != [])).getD false then
    s.unreserve (linePage r.line)
  else s

/-- A read ends with poison (R109, R127). -/
def readPoison (s : State) (r : OutRead) : State :=
  let s := (s.removeRead r.id).noFill r
  if r.late then s else s.answerRead r 0 true

/-- A read ends with what the media gave (R91, R101, R105, R127). -/
def readGood (s : State) (r : OutRead) (x : Option LineData) : State :=
  let s := s.removeRead r.id
  let s := match x with
    | some y => if r.fills then (s.fillLine r.line y).cLc 0x22 1 else s
    | none => s.noFill r
  if r.late then s
  else if s.poisonMarked r.line || s.keyBad r.dom then s.answerRead r 0 true
  else
    let b := s.plain r.dom r.line x
    let s := s.xtsLine r.dom 1
    match s.qs? r.line with
    | some e =>
      if e.mask = maskAll then s.answerRead r e.data e.poison
      else if e.poison then s.answerRead r 0 true
      else s.answerRead r (mergeLine b e.data e.mask) false
    | none => s.answerRead r b false

/-! ### Banks (R166, R169) -/

def bank (s : State) (k : Nat) : Bank :=
  (s.mt.banks.find? (fun b => b.key = k)).getD
    { key := k, state := .idle, latch := none, queue := [], flying := [], pages := [], write := none }

def setBank (s : State) (b : Bank) : State :=
  { s with mt := { s.mt with banks := putBy (fun (x : Bank) => x.key = b.key) (some b) s.mt.banks } }

def mWrite? (s : State) (id : Nat) : Option MediaWrite := s.mt.writes.find? (fun w => w.id = id)

def setWrite (s : State) (w : MediaWrite) : State :=
  { s with mt := { s.mt with writes := s.mt.writes.map (fun x => if x.id = w.id then w else x) } }

/-- The write in a bank's buffer, while segments of it remain. -/
def loadedIn (s : State) (b : Bank) : Option MediaWrite :=
  match b.write with
  | some i => (s.mWrite? i).filter (fun w => w.phase = .loaded && (w.resets || w.sets))
  | none => none

/-- The stamp and the temperature that a write takes (R167). -/
def stampWrite (s : State) (w : MediaWrite) : MediaWrite :=
  let t := s.stampNow
  { w with stamp := t.1, unsynced := t.2, temp := s.tempCode (pageChan w.loc) }

/-- PLS: one pulse segment of the write in the buffer (R165, R167). -/
def startSegment (s : State) (b : Bank) (w : MediaWrite) : State :=
  let w := if w.segments = 0 then s.stampWrite w else w
  ((s.setWrite { w with paused := none }).setBank { b with state := .segment }).cMch (pageChan w.loc) 0x83 1

/-- RD: a queued read issues (R160, R169). -/
def issueRead (s : State) (k id : Nat) : State :=
  let b := s.bank k
  match s.outRead? id with
  | none => s.setBank { b with queue := b.queue.filter (fun x => x != id) }
  | some r =>
    let s := s.setRead { r with stage := .sensing }
    (s.setBank { b with state := .reading, latch := some (pageRow r.loc), queue := b.queue.filter (fun x => x != id),
                        flying := b.flying ++ [id] }).cMch (pageChan r.loc) 0x80 1

/-- What a bank does when a command of it ends (Table 5.6): queued reads, then a page read, then a segment. -/
def bankNext (s : State) (k : Nat) : State :=
  let b := s.bank k
  if b.queue != [] then b.queue.foldl (fun s id => s.issueRead k id) s
  else match b.pages with
    | id :: _ => match s.outRead? id with
      | some r => (s.setRead { r with stage := .pageSensing }).setBank
          { b with state := .pageReading, latch := some (pageRow r.loc) }
      | none => s.setBank { b with pages := b.pages.tail, state := if b.flying = [] then .idle else .reading }
    | [] =>
      if b.flying != [] then s.setBank { b with state := .reading }
      else match s.loadedIn b with
        | some w => s.startSegment b w
        | none => s.setBank { b with state := .idle }

/-- A read leaves its bank. -/
def leaveBank (s : State) (k id : Nat) : State :=
  let b := s.bank k
  s.setBank { b with queue := b.queue.filter (fun x => x != id), flying := b.flying.filter (fun x => x != id),
                     pages := b.pages.filter (fun x => x != id) }

/-- BankDepth in effect (R96). -/
def bankDepth (s : State) : Nat := max 1 (min 8 (s.get F.winCtlBankDepth))

/-- Reads that a bank has admitted. -/
def bankLoad (s : State) (k : Nat) : Nat := (s.win.reads.filter (fun r => r.stage.inBank && pageBank r.loc = k)).length

/-- AdmitHold clears when no read waits for admission. -/
def showAdmit (s : State) : State :=
  s.put F.winStatusAdmitHold (s.win.reads.any (fun r => decide (r.stage = ReadStage.admission)))

/-! ### From lookup to the bank (Table 3.2) -/

/-- Bank admission (R96). -/
def admitRead (s : State) (r : OutRead) : State :=
  let k := pageBank r.loc
  if s.bankLoad k < s.bankDepth then
    { s with win := { s.win with reads := s.win.reads ++ [{ r with stage := .transit }] } }
  else
    let s := { s with win := { s.win with reads := s.win.reads ++ [{ r with stage := .admission }] } }
    let s := (s.bump F.winAdmitCountCount).cWin 0x16 0 1
    if s.on F.winStatusAdmitHold then s
    else (s.put F.winStatusAdmitHold true).raise 41 sevNotice 0 noDom [d4 k, d4 r.src.link]

/-- The way of a read miss (R126, R127, R134, R145): the state, and whether the line will be filled. -/
def missWay (s : State) (line : Nat) : State × Bool :=
  let sector := linePage line
  if !s.cacheOn || s.rangeBusy sector || (s.plot (linePlot line)).hazelOwned then (s, false)
  else if (s.way? sector).isSome then (s, true)
  else match s.allocWay sector with
    | (s, true) => (s, true)
    | (_, false) => ((s.bump F.lcBypassCountCount).cLc 0x25 1, false)

/-- Lookup and dispatch of a read (P3 to P6). -/
def lookup (s : State) (r : OutRead) : State :=
  let s := s.heatUp (linePlot r.line)
  let c := if s.cacheOn then s.cached? r.line else none
  let full := ((s.qs? r.line).map (fun e => decide (e.mask = maskAll))).getD false
  if s.poisonMarked r.line then s.answerRead r 0 true
  else if full || c.isSome || !s.pageWritten (linePage r.line) then
    let x := s.readLine r.dom r.line
    let s := if c.isSome then
        let st := 48 + ((s.way? (linePage r.line)).map s.wayStack).getD 0
        (((s.ageHit (linePage r.line)).cLc 0x20 1).cHbm (st - 48) 0x68 1).traffic st 0 64
      else s
    (s.xtsLine r.dom 1).answerRead r x.1 x.2
  else if s.pageReborn (linePage r.line) then s.answerRead r 0 true
  else match s.locate (linePage r.line) with
    | none => s.answerRead r 0 true
    | some l =>
      if s.pageOnline l then
        let (s, fills) := (s.cLc 0x21 1).missWay r.line
        s.admitRead { r with loc := l, fills := fills }
      else s.answerRead r 0 true

/-- A read passes the filter and the held writes, then the lookup (R86, R88, R90). Assumption 46 (DEDUCED). -/
def passFilter (s : State) (r : OutRead) : State :=
  if s.win.held.any (fun h => h.w.line = r.line) then
    { s with win := { s.win with reads := s.win.reads ++ [{ r with stage := .held }] } }
  else if r.cacheable then
    match s.sfAllocate r.line r.src.link with
    | (s, true) => s.lookup r
    | (s, false) =>
      let s := { s with win := { s.win with reads := s.win.reads ++ [{ r with stage := .filter }] } }
      (s.bump F.winSfStallCountCount).raiseAt 38 sevNotice 0 r.dom [d8 (lineAddr r.line), d4 r.src.link]
        (some (lineAddr r.line))
  else s.lookup r

/-- Reads that wait at a stage are taken up again, oldest first. -/
def resume (s : State) (p : OutRead → Bool) : State :=
  let l := s.win.reads.filter p
  let s := { s with win := { s.win with reads := s.win.reads.filter (fun r => !p r) } }
  l.foldl (fun s r => if r.late then s else s.passFilter r) s

/-- Held reads of a line whose writes are all accepted (R88). -/
def resumeLine (s : State) (line : Nat) : State :=
  s.resume (fun r => decide (r.stage = ReadStage.held) && decide (r.line = line)
    && !s.win.held.any (fun h => h.w.line = line))

/-- Held writes that wait for no BIRsp are taken up again in their order, and the reads behind them (R88, R102).
Assumptions 48 (DEDUCED), 50 (DEDUCED). -/
def redoHeld (s : State) : State :=
  let l := s.win.held
  if l.all (fun h => h.holders != []) then s
  else
    let s := { s with win := { s.win with held := [] } }
    let s := l.foldl (fun s h =>
      if h.holders != [] then { s with win := { s.win with held := s.win.held ++ [h] } } else s.windowWrite h.w) s
    (l.map (fun h => h.w.line)).eraseDups.foldl (fun s x => s.resumeLine x) s

/-- Reads of a rank that is no longer online end with poison (R177, R178). -/
def poisonOffline (s : State) : State :=
  let l := s.win.reads.filter (fun r => (r.stage.inBank || decide (r.stage = ReadStage.decoding)
    || decide (r.stage = ReadStage.admission)) && !s.pageOnline r.loc)
  (l.foldl (fun s r => (s.leaveBank (pageBank r.loc) r.id).readPoison r) s).showAdmit

end State

open Host

/-! ### Reads at the banks (chapter 5) -/

/-- BANK_READ_ARRIVAL (R161, R169, R170, R178): a read enters its bank's queue; it is served from the row latch, issues
its RD, or waits. -/
def execBankReadArrival (read : Nat) (s : State) : Outcome State Fault Refusal :=
  .next <|
    match s.outRead? read with
    | some r =>
      if r.stage != .transit then s
      else if !s.pageOnline r.loc then s.readPoison r
      else
        let k := pageBank r.loc
        let b := s.bank k
        if b.latch = some (pageRow r.loc) && !r.retried then
          ((s.setRead { r with stage := .sensing }).setBank { b with flying := b.flying ++ [read] }).cMch
            (pageChan r.loc) 0x81 1
        else
          let s := (s.setRead { r with stage := .queued }).setBank { b with queue := b.queue ++ [read] }
          if b.state = .idle || b.state = .reading then s.bankNext k else s
    | none => s

/-- The bank goes on after a read has left it, unless a segment, a comparison or a page read occupies it. -/
def State.bankFreed (s : State) (k : Nat) : State :=
  if (s.bank k).state = .reading then s.bankNext k else s

/-- A line as the media holds it, with the bits that came out. -/
def withData (x : Option LineData) (i : Nat) (data : Line) : Option LineData :=
  some { idx := i, data := data, tag := (x.map (·.tag)).getD { dom := 0, gen := 0, poison := false } }

/-- The check slot of a page is fetched into the page-check cache (R188, R189). -/
def State.fetchSlot (s : State) (l : Nat) : State :=
  if s.mt.cache.any (fun c => c.loc = l) then s
  else
    let v := s.checkSlot l
    let s := s.checkRoom l
    { s with mt := { s.mt with cache := s.mt.cache ++ [{ loc := l, slot := v, dirty := false }] } }

/-- ARRAY_READ_COMPLETE (R101, R127, R183, R189, R192, R316): a line read ends with its light decode.
Assumption 12 (DESIGN CHOICE). -/
def execArrayReadComplete (read : Nat) (decode : LightDecode) (s : State) : Outcome State Fault Refusal :=
  .next <|
    match s.outRead? read with
    | some r =>
      if r.stage != .sensing then s
      else
        let k := pageBank r.loc
        let i := r.line % 64
        let x := s.mediaLine? r.loc i
        let poison := (x.map (·.tag.poison)).getD false
        let out := s.leaveBank k read
        match decode with
        | .good words =>
          if poison then (out.readPoison r).bankFreed k
          else ((out.correctAll r.loc (words.map (fun w => (i, w)))).readGood r x).bankFreed k
        | .wrong words data =>
          ((out.correctAll r.loc (words.map (fun w => (i, w)))).readGood r (withData x i data)).bankFreed k
        | .uncorrectable =>
          let b := out.bank k
          if !r.retried then
            let s := (out.setRead { r with retried := true, stage := .queued }).setBank
              { b with queue := b.queue ++ [read], state := if b.state = .idle then .reading else b.state }
            ((s.cMch (pageChan r.loc) 0x86 1).fetchSlot r.loc).bankFreed k
          else if s.tileSuspect r.loc then ((out.uncorrectableRead r.loc i).readPoison r).bankFreed k
          else
            let s := (out.setRead { r with stage := .pageQueued }).setBank
              { b with pages := b.pages ++ [read], state := if b.state = .idle then .reading else b.state }
            s.bankFreed k
    | none => s

/-- PAGE_READ_COMPLETE (R183, R189, R192): the last beat of a page read; lines that the light code corrected, and
those it could not. -/
def execPageReadComplete (read : Nat) (corrected : List (Nat × Nat)) (uncorrectable : List Nat) (s : State) :
    Outcome State Fault Refusal :=
  .next <|
    match s.outRead? read with
    | some r =>
      if r.stage != .pageSensing then s
      else
        let k := pageBank r.loc
        let i := r.line % 64
        let x := s.mediaLine? r.loc i
        let poison := (x.map (·.tag.poison)).getD false && !uncorrectable.contains i
        let s := s.leaveBank k read
        let s := s.setBank { s.bank k with state := .reading }
        let s := s.correctAll r.loc (corrected.filter (fun w => !uncorrectable.contains w.1))
        let s := if poison then s.readPoison r
          else if uncorrectable = [] then s.readGood r x
          else (s.setRead { r with stage := .decoding }).cMch (pageChan r.loc) 0x87 1
        s.bankNext k
    | none => s

/-- STRONG_DECODE_COMPLETE (R99, R101, R189, R192, R196): the corrected line, or poison. -/
def execStrongDecodeComplete (read : Nat) (corrected : List (Nat × Nat)) (success : Bool) (s : State) :
    Outcome State Fault Refusal :=
  .next <|
    match s.outRead? read with
    | some r =>
      if r.stage != .decoding then s
      else if success then (s.correctAll r.loc corrected).readGood r (s.mediaLine? r.loc (r.line % 64))
      else (s.uncorrectableRead r.loc (r.line % 64)).readPoison r
    | none => s

end Sys2Proof.Machine
end

