-- ==== Sys2Proof/Machine/Window.lean ====
section
/-!
DEFINITION. The memory window's commands: links, logical devices, decoders, reads and writes, the lost-write list, Global
Persistent Flush and the mailbox (chapter 3).
-/
namespace Sys2Proof.Machine

/-- Offsets of the WIN registers that event 40 names. -/
def winLdBindOff (n : Nat) : Nat := 0x1000 + 4 * n
def winLdExtentOff (n e : Nat) : Nat := 0x2000 + 64 * n + 8 * e

namespace State

/-! ### Links (R75, R76, R122) -/

/-- A link of Table 3.1 exists. -/
def linkPresent (s : State) (l : Nat) : Bool := l < 4 && s.bwPresent l

/-- The width that a link is configured for. -/
def linkWidth (s : State) (l : Nat) : Nat :=
  if s.on (if l < 2 then F.winPortCfgSplitP0 else F.winPortCfgSplitP1) then 8 else 16

/-- The rate in GT/s that WIN_PORT_CFG.MaxRate configures. -/
def linkRate (s : State) : Nat :=
  let r := s.get F.winPortCfgMaxRate
  if r = 1 then 32 else if r = 2 then 16 else 64

def linkUp (s : State) (l : Nat) : Bool := s.bit F.winStatusLinkUp l

/-- LDs that a link carries (R77). -/
def linkLds (s : State) (l : Nat) : Nat := s.get F.winPortCfgLdCount / 16 ^ l % 16 + 1

/-- An outstanding read is discarded without an answer. -/
def discardRead (s : State) (r : OutRead) : State :=
  ((s.removeRead r.id).leaveBank (pageBank r.loc) r.id).noFill r

/-- Outstanding reads that match are discarded, and their banks go on. -/
def discardReads (s : State) (p : OutRead → Bool) : State :=
  let l := s.win.reads.filter p
  let s := l.foldl (fun s r => s.discardRead r) s
  let banks := (l.filter (fun r => r.stage.inBank && r.stage != .transit)).map (fun r => pageBank r.loc)
  (banks.foldl (fun s k => if (s.bank k).state = .reading then s.bankNext k
    else if (s.bank k).state = .pageReading && !(s.win.reads.any (fun r => decide (r.stage = ReadStage.pageSensing)
      && pageBank r.loc = k)) then s.bankNext k else s) s).showAdmit

/-- A link's records leave the snoop filter without back-invalidation. -/
def forgetLink (s : State) (l : Nat) : State :=
  let g := fun (x : SfLine) => { x with links := x.links.filter (fun k => k != l) }
  let h := fun (e : SfEntry) => { e with lines := (e.lines.map g).filter (fun x => x.links != []) }
  { s with win := { s.win with filter := (s.win.filter.map h).filter (fun e => e.lines != [] || e.evicting) } }

/-! ### LD bindings and extents (R78 to R80) -/

def refuseLd (s : State) (n off : Nat) : State := s.raise 40 sevNotice 0 noDom [d4 n, d4 off]

/-- A decoder of the LD is committed. -/
def ldCommitted (s : State) (n : Nat) : Bool := s.win.decoders.any (fun d => d.ld = n)

/-- Every extent lies in the window, and overlapping extents belong to LDs of one domain (R79). -/
def extentsOk (s : State) : Bool :=
  let l := (List.range s.ldCount).flatMap (fun n => ((s.extents n).zipIdx).map (fun x => (n, x.2, x.1)))
  l.all (fun x => x.2.2.1 + x.2.2.2 ≤ s.winPlots
    && l.all (fun y => (x.1 = y.1 && x.2.1 = y.2.1) || !extentsMeet x.2.2 y.2.2
      || (x.1 != y.1 && s.ldDomain x.1 = s.ldDomain y.1)))

/-- Exactly one enabled LD is bound to domain 0 (R78). -/
def oneMgmt (s : State) : Bool := ((List.range s.ldCount).filter s.isMgmt).length = 1

/-! ### Decoders (R83, R84) -/

/-- A decoder with the values that a commit gives it; its range begins after those of lower decoders and the skip. -/
def makeDecoder (s : State) (ld idx base size ways gran skip position : Nat) (bi : Bool) : Decoder :=
  let lower := s.win.decoders.filter (fun d => d.ld = ld && d.idx < idx)
  { ld := ld, idx := idx, base := base, size := size, ways := ways, gran := gran, position := position,
    dpa := (lower.map (fun d => d.dpa + d.dpaLen)).foldl max 0 + skip, bi := bi }

/-- The first cause of R84, or of R83's limits, for which a commit fails. -/
def commitRefusal (s : State) (d : Decoder) (biEnabled : Bool) : Option Nat :=
  let others := s.win.decoders.filter (fun x => x.ld = d.ld && x.idx != d.idx)
  if !s.ldEnabled d.ld then some 0
  else if 8 ≤ d.idx || d.base % 2 ^ 28 != 0 || d.size % 2 ^ 28 != 0 || !([1, 2, 4, 8, 16].contains d.ways)
      || !([256, 512, 1024, 2048, 4096, 8192, 16384].contains d.gran) || d.ways ≤ d.position then some 1
  else if dpaSize (s.extents d.ld) < d.dpa + d.dpaLen then some 2
  else if others.any (fun x => x.dpa < d.dpa + d.dpaLen && d.dpa < x.dpa + x.dpaLen) then some 3
  else if d.bi && (!s.on (F.winLdBindDbAllowed d.ld) || !biEnabled) then some 4
  else if s.md.plots.any (fun p => p.idx < s.winPlots && s.decoderCovers d p.idx
      && (p.hazelOwned || match p.group with
        | some g => s.top.hazel.any (fun x => x.1 = g && 3 ≤ x.2.1)
        | none => false)) then some 5
  else none

/-- A CXL.mem request that reaches no unit (R646). -/
def undecoded (s : State) (link ld hpa : Nat) : State :=
  s.raise 45 sevNotice 0 (s.ldDomain ld) [d8 hpa, d4 (s.ldDomain ld), d4 link]

/-- The decoder and the window address of a CXL request. -/
def cxlTarget? (s : State) (ld hpa : Nat) : Option (Decoder × Nat) :=
  if s.ldEnabled ld then
    match s.decode? ld hpa with
    | some (d, x) => (dpaToAddr (s.extents ld) x).map (fun a => (d, a))
    | none => none
  else none

/-- The window is Online, Read-only or Basic (R610), and no self-test quiesces it (R621). -/
def windowServes (s : State) : Bool := s.get F.winStatusWindowState != 0 && !s.on F.pvSelftestBusy

/-- A CXL write arrives (R28, R29, R102, R646). -/
def cxlWrite (s : State) (link ld tag hpa : Nat) (mask : Mask) (data : Line) (poison : Bool) : State :=
  if !s.windowServes || !s.linkUp link then s
  else
    let s := (((s.cWin 0x11 link 1).cWin 0x14 link 1).traffic link 64 0)
    match s.cxlTarget? ld hpa with
    | some (_, a) =>
      s.windowWrite { src := .cxl link tag, line := a / 64, dom := s.ldDomain ld, mask := mask, data := data,
                      poison := poison, stamp := s.nowDtb }
    | none =>
      let s := s.undecoded link ld hpa
      let s := { s with win := { s.win with reserved := s.win.reserved - 1 } }
      (s.send (.cxlCmp link tag)).returnCredit link

/-! ### The mailbox (R118) -/

def reply (s : State) (ld op : Nat) (c : MboxCode) (l : List Nat) : State := s.send (.mailbox ld op c l)

/-- A command that only the LD bound to domain 0 may give. -/
def mgmtOnly (s : State) (ld op : Nat) (f : State → State) : State :=
  if ld < s.ldCount then if s.isMgmt ld then f s else s.reply ld op .unsupported [] else s

/-- A command that every LD answers. -/
def anyLd (s : State) (ld : Nat) (f : State → State) : State := if ld < s.ldCount then f s else s

/-- The line is stored poisoned, or listed (R111). -/
def storedPoison (s : State) (line : Nat) : Bool :=
  s.lostListed line || match s.qs? line with
    | some e => e.poison || (e.mask != maskAll && (s.belowQs line).2)
    | none => match (if s.cacheOn then s.cached? line else none) with
      | some c => c.tag.poison
      | none => s.pageWritten (linePage line) && !s.pageReborn (linePage line) && (s.mediaOf line).2

/-- Lines that may be stored poisoned, in ascending order. -/
def poisonCandidates (s : State) : List Nat :=
  (s.md.lost.map (fun x => x.2.line) ++ (s.qs.map (·.line))
    ++ s.lc.ways.flatMap (fun w => (w.lines.filter (·.tag.poison)).map (fun x => w.sector * 64 + x.idx))
    ++ s.mt.media.tags.filterMap (fun x => if x.2.poison then
        (s.windowPageAt? (x.1 / 64)).map (fun p => p * 64 + x.1 % 64) else none)).eraseDups.mergeSort

/-- DPAs of an LD in `[dpa, dpa + len)` whose lines are stored poisoned or listed. -/
def poisonDpas (s : State) (ld dpa len : Nat) : List Nat :=
  (s.poisonCandidates.filterMap (fun l => match addrToDpa (s.extents ld) (lineAddr l) with
    | some d => if dpa ≤ d && d < dpa + len && s.storedPoison l then some d else none
    | none => none)).mergeSort

/-- The mailbox opcodes that an LD supports (Table 3.9). -/
def mboxSupported (s : State) (ld op : Nat) : Bool :=
  [0x100, 0x101, 0x102, 0x103, 0x200, 0x300, 0x400, 0x401, 0x4000, 0x4100, 0x4200, 0x4201, 0x4202, 0x4300,
    0x4302].contains op
    || (s.isMgmt ld && ([0x201, 0x202, 0x301, 0x4400].contains op
      || (op = 0x4301 && s.on F.winCtlInjectPoisonEnable)))

end State

open Host

/-- CXL_LINK_TRAINED (R76): width in lanes, rate in GT/s. -/
def execCxlLinkTrained (link width rate : Nat) (s : State) : Outcome State Fault Refusal :=
  .next <|
    if !s.linkPresent link || !([64, 32, 16].contains rate) then s
    else
      let bad := width < s.linkWidth link || rate < s.linkRate
      let s := ((s.setBit F.winStatusLinkUp link true).setBit F.winStatusLinkDegraded link bad).setBit
        F.pvUnitsLostCxlLink link false
      if bad then s.raise 42 sevWarning 0 noDom [d4 link, d4 width, d4 rate] else s

/-- What a link loses when it goes down (R122, R608): its reads and its filter records. -/
def State.linkDown (s : State) (link : Nat) : State :=
  let s := (s.setBit F.winStatusLinkUp link false).raise 43 sevError 0 noDom [d4 link]
  (s.discardReads (fun r => r.src.link = link)).forgetLink link

/-- WIN_LD_BIND_WRITE (R78 to R80). -/
def execWinLdBindWrite (ld : Nat) (value : BitVec 32) (s : State) : Outcome State Fault Refusal :=
  .next <|
    if s.ldCount ≤ ld then s
    else
      let s' := s.setReg (R.winLdBind ld) ((value.setWidth 64) &&& 0xFFF)
      if s.ldCommitted ld || !s'.oneMgmt || !s'.extentsOk then s.refuseLd ld (winLdBindOff ld)
      else ((s'.tidyHints).touchKey (s.ldDomain ld)).touchKey (s'.ldDomain ld)

/-- WIN_LD_EXTENT_WRITE (R79, R80). -/
def execWinLdExtentWrite (ld extent : Nat) (value : BitVec 64) (s : State) : Outcome State Fault Refusal :=
  .next <|
    if s.ldCount ≤ ld || 8 ≤ extent then s
    else
      let s' := s.setReg (R.winLdExtent ld extent) (value &&& 0x80000000FFFFFFFF)
      if s.ldCommitted ld || !s'.extentsOk then s.refuseLd ld (winLdExtentOff ld extent) else s'.tidyHints

/-- HDM_DECODER_COMMIT (R83, R84).  A commit of a decoder that is committed gives it its new range; size 0 takes the
range away. Assumption 37 (DEDUCED). -/
def execHdmDecoderCommit (ld decoder base size ways granularity skip position : Nat) (bi biEnabled : Bool) (s : State) :
    Outcome State Fault Refusal :=
  .next <|
    let d := s.makeDecoder ld decoder base size ways granularity skip position bi
    match s.commitRefusal d biEnabled with
    | some c =>
      (s.raise 39 sevNotice 0 noDom [d4 ld, d4 decoder, d4 (Config.codeOf 4 c)]).send (.decoderCommit ld decoder false)
    | none =>
      let rest := s.win.decoders.filter (fun x => !(x.ld = ld && x.idx = decoder))
      { s with win := { s.win with decoders := if size = 0 then rest else rest ++ [d] } }.send
        (.decoderCommit ld decoder true)

/-- CXL_MEM_READ (R28, R86, R88, R90, R91, R93, R107, R109, R127, R646). -/
def execCxlMemRead (link ld tag hpa : Nat) (cacheable : Bool) (s : State) : Outcome State Fault Refusal :=
  .next <|
    if !s.windowServes || !s.linkUp link then s
    else
      let s := s.cWin 0x10 link 1
      match s.cxlTarget? ld hpa with
      | none => ((s.undecoded link ld hpa).send (.cxlData link tag 0 true))
      | some (d, a) =>
        if s.sanitizing then s.send (.cxlData link tag 0 true)
        else
        let r : OutRead :=
          { id := s.win.nextRead, src := .cxl link tag, ld := ld, line := a / 64, dom := s.ldDomain ld,
            stamp := s.nowDtb, since := s.clk, stage := .transit, loc := 0, retried := false, late := false,
            fills := false, cacheable := cacheable && d.bi }
        { s with win := { s.win with nextRead := s.win.nextRead + 1 } }.passFilter r

/-- MEMWR (R29, R87, R88, R102 to R104, R110, R113, R646). -/
def execMemwr (link ld tag hpa : Nat) (data : BitVec 512) (poison : Bool) (s : State) : Outcome State Fault Refusal :=
  .next (s.cxlWrite link ld tag hpa maskAll data poison)

/-- MEMWRPTL (R105, R110). -/
def execMemwrptl (link ld tag hpa : Nat) (data : BitVec 512) (mask : BitVec 64) (poison : Bool) (s : State) :
    Outcome State Fault Refusal :=
  .next ((s.cxlWrite link ld tag hpa mask data poison).cWin 0x12 0 1)

/-- SF_EVICTION_COMPLETE (R90): the entry leaves, and the oldest read that waits for its set goes on. -/
def execSfEvictionComplete (sector : Nat) (s : State) : Outcome State Fault Refusal :=
  .next <|
    if s.win.filter.any (fun e => e.sector = sector && e.evicting) then
      let s := { s with win := { s.win with filter := s.win.filter.filter (fun e => !(e.sector = sector && e.evicting)) } }
      match s.win.reads.find? (fun r => decide (r.stage = ReadStage.filter)
          && s.sfSet (linePage r.line) = s.sfSet sector) with
      | some r => s.resume (fun x => x.id = r.id)
      | none => s
    else s

/-- ADMISSION_RELEASE (R96): the oldest read that waits for a bank takes a place in it. -/
def execAdmissionRelease (read : Nat) (s : State) : Outcome State Fault Refusal :=
  .next <|
    match s.outRead? read with
    | some r =>
      let k := pageBank r.loc
      let first := s.win.reads.find? (fun x => decide (x.stage = ReadStage.admission) && pageBank x.loc = k)
      if r.stage = .admission && first.map (·.id) = some read && s.bankLoad k < s.bankDepth then
        (s.setRead { r with stage := .transit }).showAdmit
      else s
    | none => s

/-- READ_DEADLINE (R100, R101): poison, once WIN_DEADLINE has passed; a media read goes on. -/
def execReadDeadline (read : Nat) (s : State) : Outcome State Fault Refusal :=
  .next <|
    match s.outRead? read with
    | some r =>
      if r.late || s.clk < r.since + s.get F.winDeadlineNs then s
      else
        let s := (s.bump F.winDeadlineCountCount).cWin 0x15 0 1
        let s := s.raiseAt 32 sevWarning 0 r.dom
          [d8 (lineAddr r.line), d4 r.dom, d4 r.src.code, d4 (Config.codeOf 1 r.stage.num), d8 r.stamp]
          (some (lineAddr r.line))
        let s := s.answerRead r 0 true
        if r.stage = .filter || r.stage = .held then s.removeRead read else s.setRead { r with late := true }
    | none => s

/-- CLEARENTRY (R116): the record is journalled, then the entry is clear. -/
def execClearentry (s : State) : Outcome State Fault Refusal :=
  .next <|
    let i := s.get F.winLwlCursorIndex
    (s.journal (.lostWrite i none)).raise 47 sevInfo 0 noDom [d4 (Config.codeOf 5 0), d4 i]

/-- CLEARALL (R116). Assumption 41 (DEDUCED). -/
def execClearall (s : State) : Outcome State Fault Refusal :=
  .next <|
    let n := s.md.lost.length
    (s.md.lost.foldl (fun s x => s.journal (.lostWrite x.1 none)) s).raise 47 sevInfo 0 noDom
      [d4 (Config.codeOf 5 1), d4 n]

/-- CLEAROVERFLOW (R115, R116): the event holds the flag as it stood. Assumption 41 (DEDUCED). -/
def execClearoverflow (s : State) : Outcome State Fault Refusal :=
  .next <|
    let f := if s.md.lwlOverflow then 1 else 0
    (s.journal (.lostOverflow false)).raise 47 sevInfo 0 noDom [d4 (Config.codeOf 5 2), d4 f]

/-- A write of the link still waits to be accepted. -/
def State.linkHeld (s : State) (link : Nat) : Bool := s.win.held.any (fun h => h.w.src.link = link)

/-- GPF_PHASE_1 (R117): credits stop, and the response follows the last write received before it. -/
def execGpfPhase1 (link : Nat) (s : State) : Outcome State Fault Refusal :=
  .next <|
    if !s.linkUp link then s
    else
      let s := s.raise 44 sevInfo 0 noDom [d4 link, d4 1]
      let s := { s with win := { s.win with gpf := s.win.gpf.filter (fun x => x != link) ++ [link] } }
      if s.linkHeld link then { s with win := { s.win with gpfWait := s.win.gpfWait ++ [link] } }
      else s.send (.gpfRsp link 1)

/-- GPF_PHASE_2 (R117): answered at once, and credits resume. -/
def execGpfPhase2 (link : Nat) (s : State) : Outcome State Fault Refusal :=
  .next <|
    if !s.linkUp link then s
    else
      let s := s.raise 44 sevInfo 0 noDom [d4 link, d4 2]
      let n := (s.win.creditWait.filter (fun x => x = link)).length
      let s := { s with win := { s.win with
        gpf := s.win.gpf.filter (fun x => x != link), creditWait := s.win.creditWait.filter (fun x => x != link) } }
      ((List.range n).foldl (fun s _ => s.returnCredit link) s).send (.gpfRsp link 2)

/-- GET_EVENT_RECORDS (R118, R120): the records of a log: handle, source, severity, code, time, DPA. -/
def execGetEventRecords (ld log : Nat) (s : State) : Outcome State Fault Refusal :=
  .next (s.anyLd ld (fun s => s.reply ld 0x100 .success
    ((s.win.cxlLogs.filter (fun r => r.ld = ld && r.log = log)).flatMap (fun r =>
      [r.handle, r.ev.src, r.ev.sev, r.ev.code, r.ev.time, r.dpa.getD 0]))))

/-- CLEAR_EVENT_RECORDS (R118). -/
def execClearEventRecords (ld log : Nat) (handles : List Nat) (all : Bool) (s : State) : Outcome State Fault Refusal :=
  .next (s.anyLd ld (fun s =>
    let mine := fun (r : CxlRecord) => r.ld = ld && r.log = log
    if !all && handles.any (fun h => !s.win.cxlLogs.any (fun r => mine r && r.handle = h)) then
      s.reply ld 0x101 .invalidInput []
    else
      { s with win := { s.win with cxlLogs := s.win.cxlLogs.filter (fun r =>
          !(mine r && (all || handles.contains r.handle))) } }.reply ld 0x101 .success []))

/-- GET_EVENT_INTERRUPT_POLICY (R118). -/
def execGetEventInterruptPolicy (ld : Nat) (s : State) : Outcome State Fault Refusal :=
  .next (s.anyLd ld (fun s =>
    s.reply ld 0x102 .success [(Store.read (fun _ => (0 : Word)) s.win.policy ld).toNat]))

/-- SET_EVENT_INTERRUPT_POLICY (R118). Assumption 121 (DEDUCED). -/
def execSetEventInterruptPolicy (ld : Nat) (policy : BitVec 32) (s : State) : Outcome State Fault Refusal :=
  .next (s.anyLd ld (fun s =>
    { s with win := { s.win with policy := putWord ld (policy.setWidth 64) s.win.policy } }.reply ld 0x103 .success []))

/-- GET_TIMESTAMP (R118): the DTB. -/
def execGetTimestamp (ld : Nat) (s : State) : Outcome State Fault Refusal :=
  .next (s.anyLd ld (fun s => s.reply ld 0x300 .success [s.nowDtb]))

/-- SET_TIMESTAMP (R53, R118): Success whether the time is applied or refused. Assumption 121 (DEDUCED). -/
def execSetTimestamp (ld : Nat) (value : BitVec 64) (s : State) : Outcome State Fault Refusal :=
  .next (s.mgmtOnly ld 0x301 (fun s => (s.tbSet value.toNat).reply ld 0x301 .success []))

/-- GET_SUPPORTED_LOGS (R118): which logs there are is not stated. -/
def execGetSupportedLogs (ld : Nat) (s : State) : Outcome State Fault Refusal :=
  .next (s.anyLd ld (fun s => (s.reply ld 0x400 .success [s.freeWord.toNat]).drew))

/-- GET_LOG (R118): what a log holds is not stated. Assumption 35 (DESIGN CHOICE). -/
def execGetLog (ld log offset length : Nat) (s : State) : Outcome State Fault Refusal :=
  .next (s.anyLd ld (fun s =>
    (s.reply ld 0x401 .success [log, offset, length, s.freeWord.toNat]).drew))

/-- IDENTIFY_MEMORY_DEVICE (R79, R118): total, volatile and persistent capacity in bytes. -/
def execIdentifyMemoryDevice (ld : Nat) (s : State) : Outcome State Fault Refusal :=
  .next (s.anyLd ld (fun s =>
    s.reply ld 0x4000 .success [dpaSize (s.extents ld), 0, dpaSize (s.extents ld)]))

/-- GET_PARTITION_INFO (R118): volatile capacity 0. -/
def execGetPartitionInfo (ld : Nat) (s : State) : Outcome State Fault Refusal :=
  .next (s.anyLd ld (fun s => s.reply ld 0x4100 .success [0, dpaSize (s.extents ld)]))

/-- GET_HEALTH_INFO (R119): the Dirty Shutdown Count. -/
def execGetHealthInfo (ld : Nat) (s : State) : Outcome State Fault Refusal :=
  .next (s.anyLd ld (fun s => s.reply ld 0x4200 .success [s.get F.perDscCount]))

/-- GET_ALERT_CONFIGURATION (R118). -/
def execGetAlertConfiguration (ld : Nat) (s : State) : Outcome State Fault Refusal :=
  .next (s.anyLd ld (fun s =>
    s.reply ld 0x4201 .success [(Store.read (fun _ => (0 : Word)) s.win.alerts ld).toNat]))

/-- SET_ALERT_CONFIGURATION (R118). -/
def execSetAlertConfiguration (ld : Nat) (alerts : BitVec 64) (s : State) : Outcome State Fault Refusal :=
  .next (s.anyLd ld (fun s =>
    { s with win := { s.win with alerts := putWord ld alerts s.win.alerts } }.reply ld 0x4202 .success []))

/-- GET_POISON_LIST (R111): the overflow flag, then DPAs up to the limit. -/
def execGetPoisonList (ld dpa length limit : Nat) (s : State) : Outcome State Fault Refusal :=
  .next (s.anyLd ld (fun s =>
    let l := s.poisonDpas ld dpa length
    s.reply ld 0x4300 .success ((if limit < l.length then 1 else 0) :: l.take limit)))

/-- INJECT_POISON (R110, R111, R118). -/
def execInjectPoison (ld dpa : Nat) (s : State) : Outcome State Fault Refusal :=
  .next (s.mgmtOnly ld 0x4301 (fun s =>
    if !s.on F.winCtlInjectPoisonEnable then s.reply ld 0x4301 .unsupported []
    else match dpaToAddr (s.extents ld) dpa with
      | none => s.reply ld 0x4301 .invalidInput []
      | some a => (s.windowWrite { src := .device, line := a / 64, dom := s.ldDomain ld, mask := 0, data := 0,
                                   poison := true, stamp := s.nowDtb }).reply ld 0x4301 .success []))

/-- CLEAR_POISON (R111): the supplied line, without poison. -/
def execClearPoison (ld dpa : Nat) (data : BitVec 512) (s : State) : Outcome State Fault Refusal :=
  .next (s.anyLd ld (fun s =>
    match dpaToAddr (s.extents ld) dpa with
    | none => s.reply ld 0x4302 .invalidInput []
    | some a => (s.windowWrite { src := .device, line := a / 64, dom := s.ldDomain ld, mask := maskAll, data := data,
                                 poison := false, stamp := s.nowDtb }).reply ld 0x4302 .success []))

/-- UNSUPPORTED_MAILBOX_COMMAND (R118). -/
def execUnsupportedMailboxCommand (ld opcode : Nat) (s : State) : Outcome State Fault Refusal :=
  .next (s.anyLd ld (fun s => if s.mboxSupported ld opcode then s else s.reply ld opcode .unsupported []))

/-- The FM-owned LD of a multi-logical link answers (R82). -/
def State.fmLd (s : State) (link : Nat) (f : State → State) : State :=
  if s.linkPresent link && 1 < s.linkLds link then f s else s

/-- GET_LD_INFO (R82): the capacity of the link's LDs and their number. Assumption 45 (DEDUCED). -/
def execGetLdInfo (link : Nat) (s : State) : Outcome State Fault Refusal :=
  .next (s.fmLd link (fun s =>
    let l := (List.range (s.linkLds link)).map (fun k => dpaSize (s.extents (16 * link + k)))
    s.send (.fmApi link .success [l.sum, s.linkLds link])))

/-- GET_LD_ALLOCATIONS (R82). Assumption 45 (DEDUCED). -/
def execGetLdAllocations (link start limit : Nat) (s : State) : Outcome State Fault Refusal :=
  .next (s.fmLd link (fun s =>
    let l := (List.range (s.linkLds link)).map (fun k => dpaSize (s.extents (16 * link + k)))
    s.send (.fmApi link .success (s.linkLds link :: start :: (l.drop start).take limit))))

/-- SET_LD_ALLOCATIONS (R82): Unsupported. -/
def execSetLdAllocations (link : Nat) (_payload : List Nat) (s : State) : Outcome State Fault Refusal :=
  .next (s.fmLd link (fun s => s.send (.fmApi link .unsupported [])))

end Sys2Proof.Machine
end

