-- ==== Sys2Proof/Machine/Loss.lean ====
section
/-!
DEFINITION. Checkpoints as they start and fail, the journal channels, and what the loss of a rank, a channel or a media
die does (R45, R177, R178, R270, R273, R296 to R301).
-/
namespace Sys2Proof.Machine
namespace State

/-! ### Checkpoints (R297 to R301) -/

def ckpt (s : State) (ftier : Bool) : Ckpt := if ftier then s.per.ftier else s.per.window

def setCkpt (s : State) (ftier : Bool) (c : Ckpt) : State :=
  { s with per := if ftier then { s.per with ftier := c } else { s.per with window := c } }

/-- The number of a kind of checkpoint in event data. -/
def ckptKind (ftier : Bool) : Nat := if ftier then Config.codeOf 6 1 else Config.codeOf 6 0

/-- The metadata in its current state (Table 9.6). -/
def imageNow (s : State) : Image :=
  { md := s.md, fm := s.fm, tiles := s.mt.tiles, tally := s.mt.tally, ledger := s.mt.ledger,
    aging := (List.range 8).map (fun d => s.get (F.mtAgingSeconds d)), plotWrites := s.mt.plotWrites }

/-- The persistence manager is Online, in Read-only window mode or in Basic mode. -/
def perUp (s : State) : Bool := 1 ≤ s.get F.perStatusState && s.get F.perStatusState ≤ 3

/-- Steps 1 and 2 of R299: CheckpointStart, with S the next sequence number, and the image begins. -/
def startCkpt (s : State) (ftier : Bool) : State :=
  let c := s.ckpt ftier
  if c.phase != .idle || !s.perUp then s
  else
    let n := s.get F.perJournalSeqNext
    let s := s.journal (.checkpointStart ftier n)
    s.setCkpt ftier { c with phase := .imaging n, image := s.imageNow, last := s.clk, bytes := 0 }

/-- The checkpoint that runs is abandoned, and the previous root stays valid (R300). -/
def dropCkpt (s : State) (ftier : Bool) : State := s.setCkpt ftier { s.ckpt ftier with phase := .idle }

/-- A channel whose two ranks are online and not retired. -/
def chanWhole (s : State) (c : Nat) : Bool :=
  s.rankOnline c 0 && s.rankOnline c 1 && !s.rankRetired c 0 && !s.rankRetired c 1

/-- Two media dies have a channel that can hold metadata. -/
def twoPlaces (s : State) : Bool :=
  1 < (((List.range s.channels).filter s.chanWhole).map (· / 4)).eraseDups.length

/-- A window checkpoint fails while it runs (R301): event 118, and it starts again or the window becomes read-only. -/
def failWindowCkpt (s : State) (phase : Nat) : State :=
  let s := (s.dropCkpt false).raise 118 sevError 0 noDom [d4 (ckptKind false), d4 (Config.codeOf 7 phase)]
  if s.twoPlaces then s.startCkpt false else s.enterReadOnly 3

/-- The running window checkpoint loses part of its image. -/
def ckptLosesPart (s : State) : State :=
  match s.per.window.phase with
  | .idle => s
  | .imaging _ => s.failWindowCkpt 0
  | .ending _ _ => s.failWindowCkpt 1

/-! ### Journal channels (R296) -/

/-- The pair that R296 chooses. -/
def journalPair? (s : State) : Option (Nat × Nat) :=
  let l := (List.range s.channels).filter s.chanWhole
  match l.head? with
  | some a => (l.find? (fun c => c / 4 != a / 4)).map (fun b => (a, b))
  | none => none

def setPair (s : State) (p : Nat × Nat) : State :=
  (s.set F.perJournalStatusChanA p.1).set F.perJournalStatusChanB p.2

/-- A journal channel, or a rank of it, is lost (R296). -/
def journalLoss (s : State) (c : Nat) : State :=
  if s.perUp && (s.get F.perJournalStatusChanA = c || s.get F.perJournalStatusChanB = c) then
    let s := (s.put F.perStatusJournalSingle true).raise 119 sevWarning 0 noDom [d4 c]
    match s.journalPair? with
    | some p => (((s.setPair p).dropCkpt false).dropCkpt true |>.startCkpt false).startCkpt true
    | none => s.enterReadOnly 2
  else s

/-! ### Writes and rewrites that are lost -/

/-- The write leaves its bank, and the bank goes on. -/
def clearBank (s : State) (w : MediaWrite) : State :=
  if w.phase = .waiting then s
  else
    let k := pageBank w.loc
    let b := s.bank k
    if b.write = some w.id then
      let t : BankState := if b.state = .pageReading then .pageReading else .reading
      let s := s.setBank { b with write := none, state := t }
      if t = .reading then s.bankNext k else s
    else s

/-- An internal rewrite ends without effect: its writes go, and it may start again. -/
def resetRewrite (s : State) (id : Nat) : State :=
  let l := s.mt.writes.filter (fun w => decide (w.kind = WriteKind.rewrite id))
  let s := { s with mt := { s.mt with
    writes := s.mt.writes.filter (fun w => !decide (w.kind = WriteKind.rewrite id)),
    rewrites := s.mt.rewrites.map (fun (x : Rewrite) => if x.id = id then { x with started := false, done := false } else x) } }
  l.foldl (fun s w => s.clearBank w) s

/-- The rewrites that match are forgotten. -/
def dropRewrites (s : State) (p : Rewrite → Bool) : State :=
  let s := (s.mt.rewrites.filter p).foldl (fun s x => s.resetRewrite x.id) s
  { s with mt := { s.mt with rewrites := s.mt.rewrites.filter (fun x => !p x) } }

/-- A media write is discarded: its window lines are listed as lost writes (R114, R177). -/
def discardWrite (s : State) (w : MediaWrite) : State :=
  match w.kind with
  | .rewrite id => s.resetRewrite id
  | _ =>
    let s := { s with mt := { s.mt with writes := s.mt.writes.filter (fun x => x.id != w.id) } }.clearBank w
    match w.page with
    | none => s
    | some p =>
      let mine := w.lines.filter (fun x => w.group = 0 || (s.cached? (p * 64 + x.idx)).isSome
        || (s.qs? (p * 64 + x.idx)).isSome)
      let s := mine.foldl (fun s x => s.listLost (p * 64 + x.idx) x.tag.dom s.nowDtb) s
      let gone := mine.map (·.idx)
      let s := s.onWay p (fun v =>
        let l := v.lines.filter (fun x => !(x.dirty && x.flying && gone.contains x.idx))
        { v with lines := l, dirtyAt := if l.any (·.dirty) then v.dirtyAt else none })
      match w.kind with
      | .nearStore l => l.foldl (fun s src => s.answer { src := src, line := p * 64, dom := 0, mask := 0, data := 0,
                                                          poison := false, stamp := 0 }) s
      | .writeAround => mine.foldl (fun s x => s.qsFree (p * 64 + x.idx)) s
      | _ => s

/-- Writes under way on media that is no longer online are discarded. -/
def discardOffline (s : State) : State :=
  (s.mt.writes.filter (fun w => w.phase != .waiting && !s.pageOnline w.loc)).foldl (fun s w =>
    if (s.mWrite? w.id).isSome then s.discardWrite w else s) s

/-! ### Migrations (R269, R270) -/

/-- A migration gives up its copy and waits again. -/
def migrationDiscard (s : State) (m : Migration) : State :=
  let s := s.dropRewrites (fun x => decide (x.kind = RewriteKind.migration m.plot))
  let s := s.setMig m.plot (some { m with state := .pending, cursor := 0, journalled := 0, dst := none })
  match m.dst with
  | some e => (s.releaseSpan e).spanFreed
  | none => s

/-- Migrations whose destination lies on a channel that lost a rank return to Pending. -/
def discardMigrations (s : State) (c : Nat) : State :=
  (s.md.migrations.filter (fun m => (m.state = .copying || m.state = .paused) && match m.dst with
    | some e => e.chans.contains c
    | none => false)).foldl (fun s m => s.migrationDiscard m) s

/-- The channels of a migration's two spans. -/
def migChans (s : State) (m : Migration) : List Nat :=
  (((s.plot m.plot).span.map (·.chans)).getD []) ++ ((m.dst.map (·.chans)).getD [])

/-- A migration must hold at its cursor: a channel of it is Calibrating, or a flush runs. -/
def migHeld (s : State) (m : Migration) : Bool :=
  s.get F.perStatusState = 4 || (s.migChans m).any s.calibrating

/-- Migrations pause and continue (R269). -/
def pauseMigrations (s : State) : State :=
  s.md.migrations.foldl (fun s m =>
    if m.state = .copying && s.migHeld m then s.setMig m.plot (some { m with state := .paused, journalled := m.cursor })
    else if m.state = .paused && !s.migHeld m then s.setMig m.plot (some { m with state := .copying, journalled := m.cursor })
    else s) s

/-! ### Re-placement (R177, R273) -/

/-- The written pages of a window plot. -/
def writtenPages (s : State) (i : Nat) : List Nat :=
  (s.md.written.filter (fun x => x.1 / 4096 = i)).flatMap (fun x =>
    ((List.range 64).filter (fun k => x.2.getLsbD k)).map (fun k => x.1 * 64 + k))

/-- Copy a page's lines, check symbols and record to another place. -/
def copyPage (s : State) (src dst : Nat) : State :=
  let v := s.checkSlot src
  let s := (s.mediaLines src).foldl (fun s x => s.putMedia dst x) ((s.touchTile dst).setSlot dst v)
  s.writeRecord dst s.stampNow.1 (s.tempCode (pageChan dst)) s.stampNow.2 true

/-- Re-place a plot with pages that cannot be read: pages that can be read are copied, the others are Reborn. -/
def replacePlot (s : State) (i : Nat) : State :=
  let p := s.plot i
  let pages := (s.writtenPages i).map (fun x => (x, s.locate x))
  let s := s.dropRewrites (fun x => decide (x.page.map (· / pagesPerPlot) = some i)
    || decide (x.kind = RewriteKind.rotation i) || decide (x.kind = RewriteKind.migration i))
  match s.placePlot i with
  | (_, false) => s.raise 146 sevWarning 0 noDom [d4 i]
  | (s', true) =>
    let s' := pages.foldl (fun t x => match x.2, t.locate x.1 with
      | some a, some b => if s.pageOnline a && !s.pageReborn x.1 then t.copyPage a b else t.setReborn x.1 true
      | _, _ => t) s'
    let s' := if pages.any (fun x => s'.pageReborn x.1) then s'.setPlot { s'.plot i with reborn := true } else s'
    let s' := match s.md.migrations.find? (fun m => m.plot = i) with
      | some m =>
        let t := s'.setMig i none
        match m.dst with
        | some e => t.releaseSpan e
        | none => t
      | none => s'
    match p.span with
    | some e => (s'.releaseSpan e).spanFreed
    | none => s'

/-- A span has a rank that is not online. -/
def spanBroken (s : State) (e : Span) : Bool := e.chans.any (fun c => !(s.rankOnline c 0 && s.rankOnline c 1))

/-- F-cache units whose M-tier pages can no longer be read are lost. -/
def loseSlots (s : State) (i : Nat) : State :=
  (s.fm.slots.filter (fun x => fcachePlot (x.idx / slotsPerPlot) = i && x.blocks.any (fun b =>
    match s.locateIn i (4 * (x.idx % slotsPerPlot) + b.1) with
    | some l => !s.pageOnline l
    | none => true))).foldl (fun s x =>
      (s.journal (.slotSet x.idx none)).journal (.mapSet x.unit .lost s.fm.version)) s

/-- Re-place every plot that has lost pages, in ascending plot number. -/
def replaceBroken (s : State) : State :=
  let l := ((s.md.plots.filter (fun p => match p.span with
    | some e => s.spanBroken e
    | none => false)).map (·.idx)).mergeSort
  l.foldl (fun s i => if i < 0x10000 then s.replacePlot i else s.loseSlots i) s

/-! ### Ranks, channels and dies -/

/-- Event data for an item that the event does not have. -/
def noItem (s : State) : Nat × Nat := d4 s.freeWord.toNat

/-- Reads, writes, migrations, checkpoints, journals and plots follow the loss of a rank of a channel.
Assumption 40 (DEDUCED). -/
def afterLoss (s : State) (c : Nat) : State :=
  let s := (s.poisonOffline.discardOffline).discardMigrations c
  if s.perUp then (((s.journalLoss c).ckptLosesPart).replaceBroken).reduced else s

/-- CHANNEL_OFFLINE (R178): the state, the cause and the event; its banks are emptied. -/
def channelOffline (s : State) (c cause : Nat) : State :=
  let s := ((s.set (F.mtChStatusState c) 4).set (F.mtChStatusCause c) cause).set (F.mtChStatusRankOnline c) 0
  let s := s.raise (dieSource (c / 4) 0) sevCritical 0 noDom [d4 c, d4 cause]
  s.afterLoss c

/-- RANK_OFFLINE (R177); the channel follows when its other rank is offline too. -/
def rankOffline (s : State) (c r cause : Nat) : State :=
  let s := s.setBit (F.mtChStatusRankOnline c) r false
  if s.get (F.mtChStatusRankOnline c) = 0 then s.channelOffline c cause
  else
    let s := (s.set (F.mtChStatusCause c) cause).raise (dieSource (c / 4) 1) sevWarning 0 noDom
      [d4 c, d4 r, s.noItem, s.noItem]
    s.drew.afterLoss c

end State
end Sys2Proof.Machine
end

