-- ==== Sys2Proof/Machine/Channels.lean ====
section
/-!
DEFINITION. The Dorfoad channels' commands: training, media writes at the banks, command errors and online retraining
(chapter 5), and the end of a media write (R130, R191, R212, R265, R273).
-/
namespace Sys2Proof.Machine
namespace State

/-! ### Online retraining (R172) -/

/-- Start an online retraining; ignored unless the channel is Online. -/
def startRetrain (s : State) (c trigger : Nat) : State :=
  if s.get (F.mtChStatusState c) != 2 then s
  else
    let s := (s.set (F.mtChStatusState c) 3).setChan c { s.chan c with
      slice := 0, trigger := trigger, since := s.clk, lowMargin := false, caErrors := [] }
    s.pauseMigrations

/-- The retraining triggers: period, temperature, CA errors, software, a reissue that failed. -/
def trigPeriod : Nat := 0
def trigTemp : Nat := 1
def trigCa : Nat := 2
def trigNow : Nat := 3
def trigReissue : Nat := 4

/-! ### Which writes may start (R130, R165, R174, R191, R277) -/

/-- The order of token classes: refresh, migration, all others. -/
def writeClass (s : State) (w : MediaWrite) : Nat :=
  match w.kind with
  | .rewrite id => match s.mt.rewrites.find? (fun x => x.id = id) with
    | some x => match x.kind with
      | .refresh => 0
      | .migration _ => 1
      | _ => 2
    | none => 2
  | _ => 2

/-- A started internal rewrite of the page holds the write back. -/
def pageRewriting (s : State) (w : MediaWrite) : Bool :=
  s.mt.rewrites.any (fun x => x.started && !x.done && x.page.isSome && x.page = w.page
    && w.kind != .rewrite x.id)

/-- The snapshot that needs the page captured before this write (R320): the latest Active one of an earlier epoch, if
it has no page capture. -/
def captureFor? (s : State) (w : MediaWrite) : Option Snapshot :=
  match w.kind, w.page with
  | .rewrite _, _ => none
  | _, none => none
  | _, some p =>
    let l := s.md.snaps.filter (fun x => x.state = .active && x.epoch < w.epoch)
    match l.foldl (fun (m : Option Snapshot) x => match m with
        | none => some x
        | some b => if b.epoch < x.epoch then some x else m) none with
    | some x => if (s.pageCapture? x.epoch p).isSome then none else some x
    | none => none

/-- Where a write goes: the mapping at this moment. -/
def destination? (s : State) (w : MediaWrite) : Option Nat :=
  match w.kind, w.page with
  | .rewrite _, _ => some w.loc
  | _, some p => s.locate p
  | _, none => some w.loc

/-- An earlier write to one of the lines has not completed (R130). -/
def lineBusy (s : State) (w : MediaWrite) : Bool :=
  s.mt.writes.any (fun x => x.id < w.id && x.page.isSome && x.page = w.page
    && x.lines.any (fun y => w.lines.any (fun z => z.idx = y.idx)))

/-- Everything but its tokens lets the write start. -/
def mayStart (s : State) (w : MediaWrite) (l : Nat) : Bool :=
  let b := s.bank (pageBank l)
  decide (w.phase = WritePhase.waiting) && !s.pageRewriting w && !s.lineBusy w && decide (b.state = BankState.idle)
    && b.queue = [] && b.write.isNone && (s.captureFor? w).isNone

/-- A write of the same class that has waited longer and could start. -/
def overtaken (s : State) (w : MediaWrite) : Bool :=
  s.mt.writes.any (fun x => x.id < w.id && s.writeClass x = s.writeClass w && match s.destination? x with
    | some l => s.pageOnline l && s.mayStart x l
    | none => false)

/-! ### Loading and pulsing (R165) -/

/-- Cells of the lines that go from 1 to 0 and from 0 to 1. -/
def flips (s : State) (l : Nat) (x : List LineData) : Bool × Bool :=
  (x.any (fun y => s.mt.media.raw (l * 64 + y.idx) &&& ~~~y.data != 0),
   x.any (fun y => ~~~(s.mt.media.raw (l * 64 + y.idx)) &&& y.data != 0))

/-- The source copy of a page between the journalled cursor and the cursor of its plot's migration (R270). -/
def alsoSource? (s : State) (w : MediaWrite) : Option Nat :=
  match w.kind, w.page with
  | .rewrite _, _ => none
  | _, none => none
  | _, some p =>
    match s.migration? (p / pagesPerPlot), (s.plot (p / pagesPerPlot)).span with
    | some m, some e =>
      let x := (s.plot (p / pagesPerPlot)).rotate (p % pagesPerPlot)
      if m.journalled ≤ x && x < m.cursor then some (s.throughExc (e.at x)) else none
    | _, _ => none

/-- WST and WCL: the write buffer is empty and the completion is reported (R165 to R168). -/
def reportWrite (s : State) (k : Nat) (w : MediaWrite) (failing : Word) : State :=
  let w := if w.segments = 0 then s.stampWrite w else w
  let n := ((List.range 8).map (fun i => bits failing (8 * i) 8)).sum
  let s := (s.setWrite { w with phase := .reported, paused := none, failed := n }).setBank
    { s.bank k with write := none, state := .reading }
  let s := if n = 0 then s else
    (s.bump (F.mtChWrfailCountCount (pageChan w.loc))).raise (dieSource (pageDie w.loc) 4) sevNotice 0 noDom
      [d4 w.loc, d4 (pageChan w.loc), d8 failing.toNat]
  s.bankNext k

/-- MaxSegments in effect. -/
def maxSegments (s : State) (c : Nat) : Nat := max 2 (min 8 (s.get (F.mtChCtlMaxSegments c)))

/-! ### The end of a media write -/

/-- Lines of a completed write-back become Clean, unless a later write of theirs is in flight (R130, R141). -/
def cleanLines (s : State) (w : MediaWrite) (p : Nat) : State :=
  let later := fun (i : Nat) => s.mt.writes.any (fun x => x.id != w.id && x.page = some p
    && decide (x.kind = WriteKind.writeBack) && x.lines.any (fun y => y.idx = i))
  let hit := fun (x : CacheLine) => x.flying && w.lines.any (fun y => y.idx = x.idx) && !later x.idx
  s.onWay p (fun v =>
    let l := (v.lines.filter (fun x => !(hit x && x.leaving))).map (fun x =>
      if hit x then { x with dirty := false, flying := false } else x)
    { v with lines := l, dirtyAt := if l.any (·.dirty) then v.dirtyAt else none })

/-- The last write of a page's first write-back, or of a Reborn page, is complete (R108, R273). -/
def groupDone (s : State) (w : MediaWrite) (p : Nat) : State :=
  if w.group = 0 || s.mt.writes.any (fun x => x.group = w.group) then s
  else
    let s := if s.pageWritten p then s else s.setWritten p true
    if !s.pageReborn p then s
    else
      let s := s.setReborn p false
      let i := p / pagesPerPlot
      if (s.plot i).reborn && !s.md.reborn.any (fun x => x.1 / 4096 = i && x.2 != 0) then
        (s.setPlot { s.plot i with reborn := false }).raise 153 sevInfo 0 noDom [d4 i]
      else s

/-- A new internal rewrite. -/
def addRewrite (s : State) (kind : RewriteKind) (page : Option Nat) (src dst : Nat) : State :=
  let x : Rewrite := { id := s.mt.nextWrite, kind := kind, page := page, src := src, dst := dst, started := false,
                       done := false }
  { s with mt := { s.mt with rewrites := s.mt.rewrites ++ [x], nextWrite := s.mt.nextWrite + 1 } }

def setPlotWrites (s : State) (i n : Nat) : State :=
  { s with mt := { s.mt with plotWrites := Store.write (fun _ => 0) i n s.mt.plotWrites } }

/-- The rotated index that a gap move copies from, and the new Start and Gap (R211). -/
def gapNext (p : Plot) : Nat × Nat × Nat :=
  if p.gap = 0 then (pagesPerPlot, (p.start + 1) % pagesPerPlot, pagesPerPlot) else (p.gap - 1, p.start, p.gap - 1)

/-- The Start and Gap of a completed gap move take effect. -/
def gapDone (s : State) (i : Nat) : State :=
  let p := s.plot i
  let x := gapNext p
  s.setPlot { p with start := x.2.1, gap := x.2.2 }

/-- GAP_MOVE: one wear-rotation move once the plot's write count has reached its interval (R212, R268). -/
def gapMove (s : State) (i : Nat) : State :=
  let p := s.plot i
  match p.span with
  | none => s
  | some e =>
    if Store.read (fun _ => 0) s.mt.plotWrites i < (Store.find? s.mt.inForce i).getD p.interval || (s.migration? i).isSome
        || s.mt.rewrites.any (fun x => decide (x.kind = RewriteKind.rotation i)) then s
    else
      let x := gapNext p
      let src := s.throughExc (e.at x.1)
      let page := i * pagesPerPlot + p.unrotate x.1
      let s := s.setPlotWrites i 0
      let s := { s with mt := { s.mt with inForce := Store.erase i s.mt.inForce } }
      if i < 0x10000 && !s.pageWritten page then s.gapDone i
      else s.addRewrite (.rotation i) (if i < 0x10000 then some page else none) src (s.throughExc (e.at p.gap))

/-- The position of a span in the table of span writes. -/
def spanKey (e : Span) : Nat := mediaPage (e.chans.headD 0) 0 e.baseRow

def spanCount (s : State) (e : Span) : Nat := Store.read (fun _ => 0) s.mt.spanWrites (spanKey e)

/-- WEAR_MIGRATION: a span beyond WearMargin percent of its die's mean moves (R265). -/
def wearMove (s : State) (i : Nat) : State :=
  match (s.plot i).span with
  | none => s
  | some e =>
    let l := s.md.plots.filterMap (fun p => match p.span with
      | some x => if spanDie x = spanDie e then some (s.spanCount x) else none
      | none => none)
    if i < 0x10000 && l.sum * (100 + s.get F.topWearCfgWearMargin) < s.spanCount e * 100 * l.length
        && !(s.plot i).pinned then s.wantMove i 5 else s

/-- A write to the media of a plot's page counts for rotation and for wear (R212, R265). -/
def countWrite (s : State) (l : Nat) : State :=
  match s.pageAt? l with
  | none => s
  | some (i, _) =>
    let s := s.setPlotWrites i (Store.read (fun _ => 0) s.mt.plotWrites i + 1)
    let s := match (s.plot i).span with
      | some e => { s with mt := { s.mt with
          spanWrites := Store.write (fun _ => 0) (spanKey e) (s.spanCount e + 1) s.mt.spanWrites } }
      | none => s
    (s.gapMove i).wearMove i

/-- A tile's refresh is complete: OldestMark is that of its oldest page (R206). -/
def tileRefreshed (s : State) (t : Nat) : State :=
  let d := tileDie t
  let pages := (List.range 256).map (fun k => mediaPage (t / 2 ^ 19) (k % 32) (t % 2 ^ 19 * 8 + k / 32))
  let ages := pages.filterMap (fun l => match s.record? l with
    | some r => if r.written then some (s.recordAge d r) else none
    | none => none)
  let oldest := ages.foldl max 0
  let s := { s with mt := { s.mt with refresh := s.mt.refresh.filter (fun x => x.1 != t) } }
  let s := match s.tile? t with
    | some x => s.setTile t { x with oldest := (s.agingSec d + 2 ^ 32 - oldest) % 2 ^ 32, fromStamps := false }
    | none => s
  s.set F.mtDriftStatusDue (min (2 ^ 24 - 1) s.mt.refresh.length)

/-- The last write of an internal rewrite is complete (R191, R194). -/
def finishRewrite (s : State) (x : Rewrite) : State :=
  let s := (s.clearTally x.src).clearTally x.dst
  match x.kind with
  | .refresh =>
    let s := { s with mt := { s.mt with rewrites := s.mt.rewrites.filter (fun y => y.id != x.id) } }
    if s.mt.rewrites.any (fun y => decide (y.kind = RewriteKind.refresh) && tileOf y.src = tileOf x.src) then s
    else s.tileRefreshed (tileOf x.src)
  | .rotation i =>
    { s with mt := { s.mt with rewrites := s.mt.rewrites.filter (fun y => y.id != x.id) } }.gapDone i
  | _ => { s with mt := { s.mt with rewrites := s.mt.rewrites.map (fun y => if y.id = x.id then { y with done := true } else y) } }

/-- What a completed write means for the copies above the media: lines become Clean, or the Quickset entry frees. -/
def freeLines (s : State) (w : MediaWrite) (p : Nat) : State :=
  match w.kind with
  | .writeBack => s.cleanLines w p
  | .writeAround =>
    let mine := fun (e : QsEntry) => e.leaving && linePage e.line = p && w.lines.any (fun y => y.idx = e.line % 64)
      && !s.mt.writes.any (fun x => decide (x.kind = WriteKind.writeAround) && x.page = some p
        && x.lines.any (fun y => y.idx = e.line % 64))
    (s.qs.filter mine).foldl (fun s (e : QsEntry) => s.qsFree e.line) s
  | _ => s

/-- The end of one of the writes of an internal rewrite. -/
def rewriteStep (s : State) (id : Nat) : State :=
  if s.mt.writes.any (fun (x : MediaWrite) => decide (x.kind = WriteKind.rewrite id)) then s
  else match s.mt.rewrites.find? (fun (x : Rewrite) => x.id = id) with
    | some x => s.finishRewrite x
    | none => s

end State

open Host State

/-- CHANNEL_TRAINING_STEP (R171, R176 to R178): a step of Table 5.8 ends, failed or not in each rank; the identities of
step 7 and the smallest margin of step 8. Assumption 125 (DEDUCED). -/
def execChannelTrainingStep (chan step : Nat) (fail0 fail1 : Bool) (id0 id1 : BitVec 64) (margin : Nat) (s : State) :
    Outcome State Fault Refusal :=
  .next <|
    let v := s.chan chan
    if s.channels ≤ chan || 1 < s.get (F.mtChStatusState chan) || !s.on (F.mtChCtlEnable chan) || step != v.step + 1
        || 8 < step then s
    else
      let s := if step = 1 then (s.set (F.mtChStatusState chan) 1).set (F.mtChStatusRankOnline chan) 3 else s
      let live := fun (s : State) (r : Nat) => s.bit (F.mtChStatusRankOnline chan) r
      let f0 := if fail0 && live s 0 then v.fails0 + 1 else v.fails0
      let f1 := if fail1 && live s 1 then v.fails1 + 1 else v.fails1
      let s := s.setChan chan { v with fails0 := f0, fails1 := f1 }
      let s := if 3 ≤ f0 && live s 0 then s.rankOffline chan 0 1 else s
      let s := if 3 ≤ f1 && live s 1 then s.rankOffline chan 1 1 else s
      if s.get (F.mtChStatusState chan) = 4 || (fail0 && live s 0) || (fail1 && live s 1) then s
      else
        let s := s.setChan chan { s.chan chan with step := step, fails0 := 0, fails1 := 0 }
        if step = 7 then
          let s := (s.setReg (R.mtChId0 chan) (id0 &&& 0x800000FFFFFFFFFF)).setReg (R.mtChId1 chan) (id1 &&& 0x800000FFFFFFFFFF)
          let bad := fun (id : Word) => bits id 32 8 = 255 || bits id 63 1 = 0
          let refuse := fun (s : State) (r : Nat) (id : Word) =>
            if bad id && live s r then
              (s.raise (dieSource (chan / 4) 5) sevError 0 noDom [d4 chan, d4 r, d8 id.toNat]).rankOffline chan r 2
            else s
          refuse (refuse s 0 id0) 1 id1
        else if step = 8 then
          let s := ((s.set (F.mtChStatusState chan) 2).set (F.mtChStatusMarginMin chan) (min 255 margin)).setReg
            (R.mtChLastTrain chan) (BitVec.ofNat 64 s.nowDtb)
          s.setChan chan { s.chan chan with temp := s.tempCode chan, trained := s.clk }
        else s

/-- WRITE_TOKEN_GRANT (R114, R165, R174, R177, R269, R277): the write takes tokens for all of its lines and starts its
comparison read; a write that needs a capture asks for it, and one that finds too few tokens waits.
Assumption 25 (DESIGN CHOICE). -/
def execWriteTokenGrant (write : Nat) (s : State) : Outcome State Fault Refusal :=
  .next <|
    match s.mWrite? write with
    | none => s
    | some w =>
      match s.destination? w with
      | none => s
      | some l =>
        if w.phase != .waiting then s
        else if (s.captureFor? w).isSome then
          match w.page with
          | some p => if s.per.capturing.contains p then s
            else { s with per := { s.per with capturing := s.per.capturing ++ [p] } }
          | none => s
        else if !s.pageOnline l then
          if s.pageRewriting w then s else s.discardWrite w
        else if !s.mayStart w l || s.overtaken w then s
        else
          let c := pageChan l
          let s := s.refill
          if s.mt.tokens < s.tokenCost c w.lines.length then s.put (F.mtChStatusThrottled c) true
          else
            let s := (s.takeTokens (s.tokenCost c w.lines.length)).setWrite { w with phase := .comparing, loc := l }
            let k := pageBank l
            let s := (s.setBank { s.bank k with state := .comparing, latch := some (pageRow l), write := some write }).cMch c 0x80 1
            s.put (F.mtChStatusThrottled c) (s.mt.writes.any (fun x => decide (x.phase = WritePhase.waiting)
              && s.mt.tokens < s.tokenCost c x.lines.length && (s.destination? x).map pageChan = some c))

/-- COMPARISON_READ_COMPLETE (R161, R165, R188): old data to the strong-code delta, the lines into the write buffer. -/
def execComparisonReadComplete (chan lane : Nat) (s : State) : Outcome State Fault Refusal :=
  .next <|
    let k := chan * 32 + lane
    let b := s.bank k
    match b.write.bind s.mWrite? with
    | none => s
    | some w =>
      if w.phase != .comparing || b.state != .comparing then s
      else
        let f := s.flips w.loc w.lines
        let s := (((s.fetchSlot w.loc).loadLines w.loc w.lines).cMch chan 0x82 w.lines.length).cMch chan 0x81
          (w.lines.length - 1)
        let s := match s.alsoSource? w with
          | some l => s.loadLines l w.lines
          | none => s
        let w := { w with phase := .loaded, resets := f.1, sets := f.2 }
        let s := (s.setWrite w).setBank { s.bank k with state := .reading }
        if f.1 || f.2 then s.bankNext k else s.reportWrite k w 0

/-- SEGMENT_END (R94, R165 to R170): `failing` counts the cells at each position that still fail verify. -/
def execSegmentEnd (chan lane : Nat) (failing : BitVec 64) (s : State) : Outcome State Fault Refusal :=
  .next <|
    let k := chan * 32 + lane
    let b := s.bank k
    match b.write.bind s.mWrite? with
    | none => s
    | some w =>
      if b.state != .segment then s
      else
        let resets := w.resets && failing != 0
        let sets := if w.resets then w.sets else w.sets && failing != 0
        let w := { w with resets := resets, sets := sets, segments := w.segments + 1 }
        let s := (s.setWrite w).setBank { b with state := .reading }
        if (!resets && !sets) || s.maxSegments chan ≤ w.segments then s.reportWrite k w failing
        else if b.queue != [] then
          (((s.setWrite { w with paused := some s.clk }).bump (F.mtChPreemptCountCount chan)).cMch chan 0x84 1).bankNext k
        else s.bankNext k

/-- FORCED_SEGMENT (R94, R169): a write paused for 10 us runs one segment. -/
def execForcedSegment (chan lane : Nat) (s : State) : Outcome State Fault Refusal :=
  .next <|
    let k := chan * 32 + lane
    let b := s.bank k
    match b.write.bind s.mWrite? with
    | none => s
    | some w =>
      match w.paused with
      | none => s
      | some t =>
        if s.clk < t + 10000 || b.flying != [] || (b.state != .reading && b.state != .pageReading) then s
        else (s.startSegment b w).bump (F.mtChForcedCountCount chan)

/-- CA_ALERT (R172, R173): a command draws ALERT_N, or its reissue does. -/
def execCaAlert (chan rank command : Nat) (again : Bool) (s : State) : Outcome State Fault Refusal :=
  .next <|
    if s.channels ≤ chan || 2 ≤ rank || !s.rankOnline chan rank then s
    else
      let v := s.chan chan
      let s := s.bump (F.mtChCaErrCountCount chan)
      let recent := s.clk :: v.caErrors.filter (fun t => s.clk < t + 1000000000)
      let n := if again then v.alerts + 1 else 1
      let s := s.setChan chan { v with alerts := n, caErrors := recent }
      if n = 2 then
        (s.raise (dieSource (chan / 4) 3) sevNotice 0 noDom [d4 chan, d4 command]).startRetrain chan trigReissue
      else if 3 ≤ n && s.get (F.mtChStatusState chan) = 2 then
        (s.setChan chan { s.chan chan with alerts := 0 }).rankOffline chan rank 3
      else if 16 ≤ recent.length then
        (s.raise (dieSource (chan / 4) 3) sevNotice 0 noDom [d4 chan, d4 command]).startRetrain chan trigCa
      else s

/-- RETRAINNOW (R172). -/
def execRetrainnow (chan : Nat) (s : State) : Outcome State Fault Refusal :=
  .next (if chan < s.channels then s.startRetrain chan trigNow else s)

/-- RETRAIN_PERIOD_EXPIRY (R172, R269, R283). -/
def execRetrainPeriodExpiry (chan : Nat) (s : State) : Outcome State Fault Refusal :=
  .next <|
    let p := s.get (F.mtChCtlRetrainPeriod chan)
    if chan < s.channels && p != 0 && (s.chan chan).trained + p * 100000000 ≤ s.clk then s.startRetrain chan trigPeriod
    else s

/-- RETRAIN_SLICE_COMPLETE (R94, R172): the read eye or the write eye of a position of a rank, and its margin. -/
def execRetrainSliceComplete (chan margin : Nat) (s : State) : Outcome State Fault Refusal :=
  .next <|
    let v := s.chan chan
    if s.channels ≤ chan || s.get (F.mtChStatusState chan) != 3 then s
    else
      let s := s.set (F.mtChStatusMarginMin chan)
        (if v.slice = 0 then min 255 margin else min margin (s.get (F.mtChStatusMarginMin chan)))
      let s := if margin < 10 then
          s.raise (dieSource (chan / 4) 1) sevWarning 0 noDom [d4 chan, d4 (v.slice / 18), d4 (v.slice % 18 / 2), d4 margin]
        else s
      if v.slice < 35 then s.setChan chan { v with slice := v.slice + 1, lowMargin := v.lowMargin || margin < 10 }
      else
        let s := ((s.set (F.mtChStatusState chan) 2).bump (F.mtChRetrainCountCount chan)).setReg (R.mtChLastTrain chan)
          (BitVec.ofNat 64 s.nowDtb)
        let s := s.setChan chan { v with slice := 0, temp := s.tempCode chan, trained := s.clk }
        (s.raise (dieSource (chan / 4) 2) sevInfo 0 noDom
          [d4 chan, d4 (Config.codeOf 2 v.trigger), d4 (s.clk - v.since)]).pauseMigrations

/-- MEDIA_WRITE_COMPLETE (R103, R108, R130, R133, R166, R191, R212, R265, R273, R290): the hub takes the channel's
report. -/
def execMediaWriteComplete (write : Nat) (s : State) : Outcome State Fault Refusal :=
  .next <|
    match s.mWrite? write with
    | none => s
    | some w =>
      if w.phase != .reported then s
      else
        let s := { s with mt := { s.mt with writes := s.mt.writes.filter (fun x => x.id != write) } }
        let rw := match w.kind with
          | .rewrite _ => true
          | _ => false
        let s := s.writeRecord w.loc w.stamp w.temp w.unsynced rw
        let s := match w.page with
          | some p => if rw then s else (s.freeLines w p).groupDone w p
          | none => s
        let s := match w.kind with
          | .rewrite id => s.rewriteStep id
          | .nearStore l => s.nearDone w l
          | _ => s
        (s.countWrite w.loc).clean.redoHeld

end Sys2Proof.Machine
end

