-- ==== Sys2Proof/Machine/Integrity.lean ====
section
/-!
DEFINITION. Internal rewrites, drift refresh, the scrubber and retirement (R191, R200 to R218).
-/
namespace Sys2Proof.Machine
namespace State

/-! ### Internal rewrites (R191) -/

/-- Kinds of rewrite in event data. -/
def rewriteNum : RewriteKind → Nat
  | .refresh => 0
  | .rotation _ => 1
  | .retirement => 2
  | .migration _ => 3

/-- A media write of the page is in flight. -/
def pageBusy (s : State) (x : Rewrite) : Bool :=
  s.mt.writes.any (fun w => w.phase != .waiting && ((x.page.isSome && w.page = x.page) || w.loc = x.src || w.loc = x.dst))

/-- Background work of this kind may reach the channels of a rewrite (R172). -/
def rewriteOpen (s : State) (x : Rewrite) : Bool :=
  s.pageOnline x.src && s.pageOnline x.dst && !s.calibrating (pageChan x.src) && !s.calibrating (pageChan x.dst)

/-- The 64 lines of a page as the rewrite carries them: those that could not be read, poisoned. -/
def rewriteLines (s : State) (x : Rewrite) (bad : List Nat) : List LineData :=
  (s.mediaLines x.src).map (fun y => if bad.contains y.idx then { y with tag := { y.tag with poison := true } } else y)

/-- Start a rewrite whose page has been read: eight writes of eight lines. -/
def beginRewrite (s : State) (x : Rewrite) (bad : List Nat) : State :=
  let l := s.rewriteLines x bad
  let s := bad.foldl (fun s i => s.raiseAt (dieSource (pageDie x.src) 9) sevError 4 noDom
    [d4 x.src, d4 i, d4 (Config.codeOf 3 (rewriteNum x.kind))] (s.lineAddrAt? x.src i)) s
  let s := { s with mt := { s.mt with
    rewrites := s.mt.rewrites.map (fun (y : Rewrite) => if y.id = x.id then { y with started := true } else y) } }
  if l = [] then s.finishRewrite { x with started := true }
  else (cutLines 8 l).foldl (fun s z => s.pushWrite (.rewrite x.id) x.page x.dst 0 0 z) s

/-! ### Drift refresh (R206, R207) -/

def day : Nat := 86400

/-- RefreshAge and RefreshFloor in effect, in seconds. -/
def refreshAge (s : State) : Nat := max 30 (min 115 (s.get F.mtDriftCfgRefreshAge)) * day
def refreshFloor (s : State) : Nat := min (s.get F.mtDriftCfgRefreshFloor * day) (s.refreshAge - day)

/-- The effective age of a tile's oldest data. -/
def tileAge (s : State) (t : Nat) : Nat := ((s.tile? t).map (fun x => s.effAge x.oldest (tileDie t))).getD 0

/-- The queued tile with the highest effective age whose channel can be refreshed. -/
def refreshNext? (s : State) : Option Nat :=
  ((s.mt.refresh.map (·.1)).filter (fun t => s.get (F.mtChStatusState (t / 2 ^ 19)) = 2)).foldl
    (fun (m : Option Nat) t => match m with
      | none => some t
      | some b => if s.tileAge b < s.tileAge t then some t else m) none

/-- The 256 pages of a tile. -/
def tilePages (t : Nat) : List Nat :=
  (List.range 256).map (fun k => mediaPage (t / 2 ^ 19) (k % 32) (t % 2 ^ 19 * 8 + k / 32))

/-- A page of a due tile is rewritten: old enough, or written with its record absent. -/
def needsRefresh (s : State) (l : Nat) : Bool :=
  match s.record? l with
  | some r => r.written && s.refreshFloor ≤ s.recordAge (pageDie l) r
  | none => (s.checkSlot l).record.written

def showRefresh (s : State) : State := s.set F.mtDriftStatusDue (min (2 ^ 24 - 1) s.mt.refresh.length)

/-- A tile has waited in the queue for more than 24 h. -/
def tileLate (s : State) : Bool := s.mt.refresh.any (fun x => x.2 + 86400000000000 < s.clk)

/-- One tile in the age engine's pass (R201, R202, R206, R207). -/
def ageTile (s : State) (t : Nat) : State :=
  match s.tile? t with
  | none => s
  | some x =>
    let s := { s with mt := { s.mt with ageMap := Store.write (fun _ => 0) t (s.ageEntry t) s.mt.ageMap } }
    let s := if s.refreshAge ≤ s.tileAge t && !s.mt.refresh.any (fun y => y.1 = t) then
        { s with mt := { s.mt with refresh := s.mt.refresh ++ [(t, s.clk)] } }
      else s
    if ageClass (s.tileAge t) = 7 && !x.overdue then
      ((s.setTile t { x with overdue := true }).bump F.mtDriftOverdueCount).raise (dieSource (tileDie t) 12) sevError 1
        noDom [d4 t]
    else s

/-- The ledger entries of a corrected interval are re-keyed, and tiles with marks from stamps are rescanned (R205). -/
def rekeyLedger (s : State) : State :=
  let s := match s.stampFix? (s.get F.tbStatusStampFixUsed - 1) with
    | some (g, p, o) =>
      let f := fun (x : LedgerPoint) => if g ≤ x.sec && x.sec ≤ p then { x with sec := x.sec + o } else x
      { s with mt := { s.mt with ledger := s.mt.ledger.map f } }
    | none => s
  let s := (s.mt.tiles.filter (fun x => x.2.fromStamps)).foldl (fun s x =>
    let ages := (tilePages x.1).filterMap (fun l => match s.record? l with
      | some r => if r.written then some (s.recordAge (tileDie x.1) r) else none
      | none => none)
    let now := s.agingSec (tileDie x.1) + 2 ^ 32
    s.setTile x.1 { x.2 with oldest := (now - ages.foldl max 0) % 2 ^ 32,
                             latest := (now - ages.foldl min (2 ^ 32 - 1)) % 2 ^ 32 }) s
  { s with time := { s.time with ageRebuild := false } }

/-- The ledger takes a point for every die; old points stay one for each 65,536 s (R203). -/
def noteLedger (s : State) : State :=
  let t := s.stampNow.1
  let keep := fun (x : LedgerPoint) => x.sec != t && (t < x.sec + 65536
    || !s.mt.ledger.any (fun y => y.die = x.die && y.sec / 65536 = x.sec / 65536 && y.sec < x.sec))
  let now := (List.range s.part.dies).map (fun d => ({ die := d, sec := t, aging := s.agingSec d } : LedgerPoint))
  { s with mt := { s.mt with ledger := s.mt.ledger.filter keep ++ now } }

/-! ### The scrubber (R208 to R210) -/

/-- A media page holds data that the scrubber reads: a page of a placed plot, a gap page, a replacement, a check row. -/
def holdsData (s : State) (l : Nat) : Bool :=
  (s.pageAt? l).isSome || s.md.plots.any (fun p => (p.span.map (·.gapPage)) = some l)
    || (checkRow ≤ pageRow l && pageRow l < metaRow)

/-- The pages of a channel's lap, by row and lane. -/
def lapPages (s : State) (c : Nat) : List Nat :=
  let a := s.mt.media.tags.map (fun x => x.1 / 64) ++ s.mt.slots.map (fun x => (slotPlace x.1).1)
  ((a.eraseDups).filter (fun l => pageChan l = c && s.holdsData l)).mergeSort
    (fun x y => decide (pageRow x * 32 + pageLane x ≤ pageRow y * 32 + pageLane y))

def lapPos (l : Nat) : Nat := pageRow l * 32 + pageLane l

/-- SCRUB_LAP_COMPLETE (R210). -/
def lapDone (s : State) (c : Nat) : State :=
  let sec := (s.clk - (s.chan c).lap) / 1000000000
  let s := (s.put (F.mtChScrubStatusStarved c) false).put (F.mtChScrubStatusOverLimit c) false
  let s := ((s.set (F.mtChScrubLapLast c) sec).set (F.mtChScrubLapCurrent c) 0).set (F.mtChScrubPosDone c) 0
  let s := (s.bump (F.mtChScrubStatusLaps c)).setChan c { s.chan c with lap := s.clk, pos := 0 }
  s.raise (dieSource (c / 4) 11) sevInfo 3 noDom [d4 c, d4 sec]

/-- The scrubber may read now (R94, R172, R208). -/
def mayScrub (s : State) (c l : Nat) : Bool :=
  let b := s.bank (pageBank l)
  let n := s.get F.mtScrubCfgInterval
  n != 0 && (s.chan c).scrubbed + n * 1000 ≤ s.clk && s.get (F.mtChStatusState c) = 2 && s.pageOnline l
    && decide (b.state = BankState.idle) && b.queue = []

/-- A strong decode of a scrubbed page failed (R209). -/
def scrubFailed (s : State) (l : Nat) (bad : List Nat) : State :=
  (bad.foldl (fun s i => (s.bump (F.mtChUncorrCountCount (pageChan l))).raiseAt (dieSource (pageDie l) 9) sevError 2
    noDom [d4 l, d4 i] (s.lineAddrAt? l i)) s).decodeFailed l

/-! ### Retirement (R215 to R218) -/

/-- The end of a retirement, or its refusal: MT_RETIRE_STAT and the descriptor that gave it. -/
def retireEnd (s : State) (status : Nat) : State :=
  let s := ((s.set F.mtRetireStatStatus status).put F.mtRetireStatBusy false).set F.mtRetireStatState 0
  let s := (s.set F.mtRetireStatProgress 0).put F.mtRetireCtlStart false
  (s.rg.descs.filter (fun d => d.op = opRetire && decide (d.phase = DescPhase.started))).foldl
    (fun s d => s.finish d.ring d.handle status 0) s

/-- A start that is refused for what it names. -/
def retireRefuse (s : State) (issue : RetireIssue) (status : Nat) : State :=
  match issue with
  | .register => ((s.set F.mtRetireStatStatus status).put F.mtRetireCtlStart false)
  | .descriptor r h => s.finish r h status 0

/-- The event of a refused start, from the coordinator's sources. -/
def retireNotice (s : State) (status : Nat) : State :=
  s.raise (dieSource s.coordinator 13) sevNotice 2 noDom [d4 status]

/-- Spare exhaustion (R216): the plot turns read-only. -/
def retireNoRoom (s : State) (plot l : Nat) : State :=
  (s.turnReadOnly plot).raise (dieSource (pageDie l) 13) sevCritical 3 noDom [d4 plot, d4 l]

/-- A spare page for a page's channel, or for another channel of its die. -/
def spareFor? (s : State) (c : Nat) : Option Nat :=
  (c :: (List.range 4).map (fun k => c / 4 * 4 + k)).findSome? s.freeSpare?

/-- The plot whose gap page this is. -/
def gapOf? (s : State) (l : Nat) : Option Plot := s.md.plots.find? (fun p => (p.span.map (·.gapPage)) = some l)

/-- A valid page start (R217). -/
def retirePage (s : State) (issue : RetireIssue) (op plot l : Nat) (page : Option Nat) : State :=
  let full := 1048576 ≤ s.md.exc.length && s.beforeExc l = l && (s.gapOf? l).isNone
  match s.spareFor? (pageChan l) with
  | some t =>
    if full then (s.retireNoRoom plot l).retireRefuse issue stReadOnly
    else
      let s := (s.takeSpare t).journal (.retire (some { op := op, src := l, dst := t, page := page }))
      let s := (s.addRewrite .retirement page l t).put F.mtRetireStatBusy true
      (s.set F.mtRetireStatState 1).set F.mtRetireStatStatus 0
  | none => (s.retireNoRoom plot l).retireRefuse issue stReadOnly

/-- The target and operation of a start; a register start sets Start, a descriptor that is not a started ADMIN_RETIRE
gives none. -/
def retireArgs? (s : State) (issue : RetireIssue) : Option Nat :=
  match issue with
  | .register => some (s.get F.mtRetireAddrTarget)
  | .descriptor r h => (s.startedDesc? r h opRetire).map (fun d => d.num 24 8)

/-- The common part of a start: a busy engine refuses it. -/
def retireStart (s : State) (issue : RetireIssue) (op : Nat) (f : Nat → State → State) : State :=
  match s.retireArgs? issue with
  | none => s
  | some t =>
    if s.on F.mtRetireStatBusy then
      let s := s.retireNotice stBusyOnline
      match issue with
      | .register => s
      | .descriptor r h => s.finish r h stBusyOnline 0
    else
      let s := match issue with
        | .register => (s.set F.mtRetireCtlOp op).put F.mtRetireCtlStart true
        | .descriptor _ _ => s
      f t s

/-- Retire Op 0 (R217). -/
def retireNone (s : State) (issue : RetireIssue) : State :=
  s.retireStart issue 0 (fun _ s => (s.retireNotice stBadDescriptor).retireRefuse issue stBadDescriptor)

/-- Single-channel spans that channels other than `c` could still give (Table 6.7). -/
def freeElsewhere (s : State) (c : Nat) : Nat :=
  (((List.range s.channels).filter (fun k => k != c && s.chanOpen k)).map (fun k =>
    spanRows - ((s.usedSpans.filter (fun e => e.chans.contains k)).map (·.rows)).sum)).sum / 8192

/-- The drain of a retired rank: one plot fewer on the channel, or the end of the retirement. -/
def drainStep (s : State) : State :=
  if s.get F.mtRetireStatState = 2 then
    match s.md.retired.getLast? with
    | some k =>
      let n := (s.plotsOn (k / 2)).length
      if n = 0 then
        (s.raise (dieSource (k / 8) 13) sevInfo 1 noDom [d4 3, d4 k, s.noItem]).drew.retireEnd stOk
      else s.set F.mtRetireStatProgress n
    | none => s
  else s

end State

open Host State

/-- INTERNAL_REWRITE_START (R172, R189, R191, R192): no write for the page is in flight; its 64 lines are read, some
corrected, some uncorrectable. Assumption 44 (DESIGN CHOICE). -/
def execInternalRewriteStart (rewrite : Nat) (corrected : List (Nat × Nat)) (uncorrectable : List Nat) (s : State) :
    Outcome State Fault Refusal :=
  .next <|
    match s.mt.rewrites.find? (fun (x : Rewrite) => x.id = rewrite) with
    | none => s
    | some x =>
      if x.started || s.pageBusy x || !s.rewriteOpen x then s
      else
        let s := s.correctAll x.src (corrected.filter (fun w => !uncorrectable.contains w.1))
        s.beginRewrite x uncorrectable

/-- AGE_MAP_RECOMPUTE (R66, R201 to R203, R205 to R207). -/
def execAgeMapRecompute (s : State) : Outcome State Fault Refusal :=
  .next <|
    let s := s.noteLedger
    let s := if s.time.ageRebuild then s.rekeyLedger else s
    let s := (s.mt.tiles.map (·.1)).foldl (fun s t => s.ageTile t) s
    (s.showRefresh).put F.mtDriftStatusBehind (s.on F.mtDriftStatusBehind && s.tileLate)

/-- DRIFT_REFRESH_TILE (R66, R200, R203, R206): the first tile of the queue; its aged pages are to be rewritten. -/
def execDriftRefreshTile (tile : Nat) (s : State) : Outcome State Fault Refusal :=
  .next <|
    if s.refreshNext? != some tile
        || s.mt.rewrites.any (fun x => decide (x.kind = RewriteKind.refresh) && tileOf x.src = tile) then s
    else
      let l := (tilePages tile).filter s.needsRefresh
      if l = [] then s.tileRefreshed tile
      else l.foldl (fun s p => s.addRewrite .refresh (s.windowPageAt? p) p p) s

/-- REFRESH_BEHIND (R207): a tile has waited in the queue for more than 24 h. -/
def execRefreshBehind (s : State) : Outcome State Fault Refusal :=
  .next <|
    if s.tileLate && !s.on F.mtDriftStatusBehind then
      let t := ((s.mt.refresh.find? (fun x => x.2 + 86400000000000 < s.clk)).map (·.1)).getD 0
      (s.put F.mtDriftStatusBehind true).raise (dieSource (tileDie t) 12) sevWarning 2 noDom [d4 s.mt.refresh.length]
    else s

/-- SCRUB_PAGE_READ (R187, R192, R208 to R210): the next page of the lap; words that the light code corrected, lines that
it could not decode after their retry, the words that the strong decode corrected, and whether it succeeded. -/
def execScrubPageRead (chan : Nat) (corrected : List (Nat × Nat)) (uncorrectable : List Nat)
    (strongCorrected : List (Nat × Nat)) (success recordGood : Bool) (s : State) : Outcome State Fault Refusal :=
  .next <|
    if s.channels ≤ chan then s
    else
      let l := s.lapPages chan
      match l.find? (fun x => (s.chan chan).pos ≤ lapPos x) with
      | none => s
      | some p =>
        if !s.mayScrub chan p then s
        else
          let s := (s.cMch chan 0x80 1).cMch chan 0x81 63
          let s := s.setChan chan { s.chan chan with scrubbed := s.clk, pos := lapPos p + 1 }
          let s := ((s.bump (F.mtChScrubPosDone chan)).set (F.mtChScrubPosTotal chan) l.length).set
            (F.mtChScrubLapCurrent chan) ((s.clk - (s.chan chan).lap) / 1000000000)
          let s := s.correctAll p (corrected.filter (fun w => !uncorrectable.contains w.1))
          let s := if uncorrectable = [] then s
            else if success && !s.tileSuspect p then (s.correctAll p strongCorrected).cMch chan 0x87 1
            else s.scrubFailed p uncorrectable
          let s := if recordGood then s
            else
              let v := s.checkSlot p
              (s.setSlot p { v with record := { v.record with good := false } }).raise (dieSource (chan / 4) 9) sevNotice 3
                noDom [d4 p]
          if l.getLast? = some p then s.lapDone chan else s

/-- SCRUB_STARVED (R210). -/
def execScrubStarved (chan : Nat) (s : State) : Outcome State Fault Refusal :=
  .next <|
    if chan < s.channels && !s.on (F.mtChScrubStatusStarved chan) && s.lapPages chan != []
        && (s.chan chan).scrubbed + 3600000000000 ≤ s.clk then
      (s.put (F.mtChScrubStatusStarved chan) true).raise (dieSource (chan / 4) 11) sevNotice 2 noDom
        [d4 chan, d4 (s.get (F.mtChScrubPosDone chan))]
    else s

/-- SCRUB_LAP_OVER_LIMIT (R210). -/
def execScrubLapOverLimit (chan : Nat) (s : State) : Outcome State Fault Refusal :=
  .next <|
    let e := s.clk - (s.chan chan).lap
    if chan < s.channels && !s.on (F.mtChScrubStatusOverLimit chan) && s.lapPages chan != []
        && max 1 (s.get F.mtScrubCfgLapLimit) * 86400000000000 < e then
      (s.put (F.mtChScrubStatusOverLimit chan) true).raise (dieSource (chan / 4) 11) sevWarning 1 noDom
        [d4 chan, d4 (e / 1000000000)]
    else s

/-- RETIRE_PAGE_BY_ADDRESS (R112, R215 to R217): Op 1. Assumption 44 (DESIGN CHOICE). -/
def execRetirePageByAddress (issue : RetireIssue) (s : State) : Outcome State Fault Refusal :=
  .next <| s.retireStart issue 1 (fun t s =>
    let page := t % 2 ^ 44 / 4096
    match (if page / pagesPerPlot < s.winPlots then s.locate page else none) with
    | some l => s.retirePage issue 1 (page / pagesPerPlot) l (some page)
    | none => s.retireRefuse issue stRangeFault)

/-- RETIRE_PAGE_BY_LOCATION (R112, R215 to R217): Op 2. -/
def execRetirePageByLocation (issue : RetireIssue) (s : State) : Outcome State Fault Refusal :=
  .next <| s.retireStart issue 2 (fun t s =>
    let l := t % 2 ^ 32
    match s.pageAt? l, s.gapOf? l with
    | some (p, _), _ => s.retirePage issue 2 p l (s.windowPageAt? l)
    | none, some p => s.retirePage issue 2 p.idx l none
    | none, none => s.retireRefuse issue stRangeFault)

/-- RETIRE_RANK (R215, R217, R281, R283, R296): Op 3. -/
def execRetireRank (issue : RetireIssue) (s : State) : Outcome State Fault Refusal :=
  .next <| s.retireStart issue 3 (fun t s =>
    let c := t % 32
    let r := t / 32 % 2
    if s.channels ≤ c then s.retireRefuse issue stRangeFault
    else if s.freeElsewhere c < (s.plotsOn c).length then s.retireRefuse issue stResourceExhausted
    else
      let s := (s.journal (.rankRetired (c * 2 + r))).setBit (F.mtChSpareRankRetired c) r true
      let s := ((s.put F.mtRetireStatBusy true).set F.mtRetireStatState 2).set F.mtRetireStatStatus 0
      let v := s.chan c
      let s := s.setChan c (if r = 0 then { v with deadSaid0 := false } else { v with deadSaid1 := false })
      ((((s.discardMigrations c).journalLoss c).ckptLosesPart).drainChannel c 1).drainStep)

/-- RETIREMENT_COPY_COMPLETE (R194, R213 to R218): the exception entry is installed, or the gap page replaced. -/
def execRetirementCopyComplete (s : State) : Outcome State Fault Refusal :=
  .next <|
    match s.mt.rewrites.find? (fun (x : Rewrite) => decide (x.kind = RewriteKind.retirement) && x.done), s.md.retire with
    | some x, some i =>
      let s := { s with mt := { s.mt with rewrites := s.mt.rewrites.filter (fun (y : Rewrite) => y.id != x.id) } }
      let said := fun (s : State) => (s.raise (dieSource (pageDie x.src) 13) sevInfo 1 noDom
        [d4 i.op, d4 x.src, d4 x.dst]).retireEnd stOk
      match s.gapOf? x.src with
      | some p => match p.span with
        | some e => said ((s.setPlot { p with span := some { e with gapPage := x.dst } }).journal (.retire none))
        | none => s
      | none =>
        let key := s.beforeExc x.src
        let n := s.md.exc.length
        let fails := key = x.src && 943718 ≤ n && s.freeWord.getLsbD 0
        let s := if key = x.src && 943718 ≤ n then s.drew else s
        if fails then
          let plot := ((s.pageAt? x.src).map (·.1)).getD 0
          let s := ((s.put F.mtExcStatusInsertFailed true).freeSpare x.dst).journal (.retire none)
          (s.retireNoRoom plot x.src).retireEnd stReadOnly
        else said ((s.journal (.excSet key (some x.dst))).journal (.retire none))
    | _, _ => s

end Sys2Proof.Machine
end

