-- ==== Sys2Proof/Machine/Regions.lean ====
section
/-!
DEFINITION. The regions of the Espalier address space, who may reach them, and reads and writes of bytes in them (R32 to
R36, R41, R388, R499, R618, R645).
-/
namespace Sys2Proof.Machine

/-- The regions of Table 1.6. -/
inductive Region where
  | window
  | shm
  | agent (k : Nat)
  | agentRegs (k : Nat)
  | host
  | registers
  | nowhere
deriving DecidableEq, Repr

/-- The region of an address. -/
def regionAt (a : Nat) : Region :=
  if a < 0x100000000000 then .window
  else if 0x200000000000 ≤ a && a < 0x200400000000 then .shm
  else if 0x300000000000 ≤ a && a < 0x310000000000 then .agent 0
  else if 0x310000000000 ≤ a && a < 0x320000000000 then .agent 1
  else if 0x400000000000 ≤ a && a < 0x800000000000 then .host
  else if 0xF000C0000000 ≤ a && a < 0xF000D0000000 then .agentRegs 0
  else if 0xF000D0000000 ≤ a && a < 0xF000E0000000 then .agentRegs 1
  else if 0xF00000000000 ≤ a && a < 0xF000C0000000 then .registers
  else .nowhere

/-- The region that holds a whole range. -/
def regionOf (a n : Nat) : Region := if regionAt a = regionAt (a + (n - 1)) then regionAt a else .nowhere

/-- The opcodes of the atomics of chapter 16, which stand for those of a peer too (Table 16.3). -/
def opFetchAdd : Nat := 3
def opSwap : Nat := 4
def opCompareSwap : Nat := 5

/-- What an atomic leaves in memory: FetchAdd adds, Swap writes, CompareSwap writes where the old value compares equal (R337). -/
def atomicNew (op : Nat) (x y : Word) (old : Nat) : Nat :=
  (if op = opFetchAdd then old + x.toNat else if op = opSwap then x.toNat
   else if old = x.toNat then y.toNat else old) % 2 ^ 64

namespace State

/-- Hazel shared memory of the part. -/
def shmSize (s : State) : Nat := s.part.pick (2 ^ 34) (2 ^ 33)

/-- R499: what an access to an agent's aperture or registers meets. -/
def agentStatus (s : State) (k dom : Nat) : Nat :=
  if s.part.sites ≤ k then stUnitOffline
  else if dom != 0 && dom != s.get (F.klAgentCtlDomain k) then stDomainDenied
  else if s.get (F.klAgentStatusState k) < 2 then stUnitOffline
  else if s.get (F.klAgentStatusState k) = 3 then stTargetDead
  else stOk

/-- What a domain's access to a range meets (R33 to R36, R41, R388, R499, R618, R645): OK, or the status of the refusal. -/
def reach (s : State) (dom a n : Nat) : Nat :=
  match regionOf a n with
  | .window =>
    if s.winPlots * plotBytes < a + n then stRangeFault
    else if !s.windowGranted dom a n then stDomainDenied
    else if s.sanitizing then stSanitizeActive
    else if !s.windowServes then stUnitOffline
    else stOk
  | .shm =>
    if 0x200000000000 + s.shmSize < a + n then stRangeFault
    else if s.shmGranted dom a n then stOk else stDomainDenied
  | .agent k => s.agentStatus k dom
  | .agentRegs k => s.agentStatus k dom
  | .host =>
    if (List.range ((a + n - 1) / 2 ^ 38 + 1 - a / 2 ^ 38)).all (fun i =>
        Config.hostWindow (a / 2 ^ 38 + i - 0x400000000000 / 2 ^ 38)) then stOk
    else stRangeFault
  | .registers => stDomainDenied
  | .nowhere => stRangeFault

/-- Event 45 of a refusal under R33, R34, R41 or R645. -/
def refused45 (s : State) (a dom : Nat) (src : WinSrc) (status : Nat) : State :=
  if status = stRangeFault || status = stDomainDenied then
    s.raise 45 sevNotice 0 dom [d8 a, d4 dom, d4 src.code]
  else s

/-- An internal command waits for a line (R87). Assumption 48 (DEDUCED). -/
def park (s : State) (line : Nat) (c : Parked) : State :=
  { s with win := { s.win with parked := s.win.parked ++ [(line, c)] } }

/-- Lines of a window range that a host may hold modified: a read by an internal agent first fetches them (R87). -/
def modifiedLines (s : State) (a n : Nat) : List Nat :=
  if regionAt a = .window then
    (s.win.filter.flatMap (·.lines)).filterMap (fun x =>
      if x.modified && x.links != [] && a < x.line * 64 + 64 && x.line * 64 < a + n then some x.line else none)
  else []

/-- Send BISnpData for lines to their holders, unless one is under way. -/
def snoopData (s : State) (l : List Nat) : State :=
  l.foldl (fun s line =>
    if s.win.snoops.any (fun x => x.1 = line) then s
    else (s.holders line).foldl (fun s k =>
      { s with win := { s.win with snoops := s.win.snoops ++ [(line, k, s.clk)] } }.send (.biSnp k line false)) s) s

/-- What a reader needs of a range before it can go on: no line that a host may hold modified (R87), and the answers of the
agent that holds the range (R488). -/
def ready (s : State) (src : WinSrc) (l : List (Nat × Nat)) : Bool :=
  l.all (fun x => x.2 = 0 || (s.modifiedLines x.1 x.2 = [] && match regionAt x.1 with
    | .agent _ => (answered? s.kt.answers src x.1 x.2).isSome
    | .agentRegs _ => (answered? s.kt.answers src x.1 x.2).isSome
    | _ => true))

/-- The reads of an agent's range that a source has neither asked for nor been answered. -/
def askAgent (s : State) (src : WinSrc) (dom a addr n : Nat) : State :=
  let o := agentOffset addr
  (pieces (n / 256 + 2) addr n).foldl (fun s x =>
    if s.kt.answers.any (fun y => y.src = src && y.addr = x.1 && y.bytes.length = x.2)
      || s.kt.reqs.any (fun r => r.src = src && r.addr = x.1 && r.len = x.2 && r.kind = 0) then s
    else s.hubRequest a 0 x.1 x.2 src (fun t => .read t dom o.1 (o.2 + (x.1 - addr)) x.2)) s

/-- Ask for what a reader needs: BISnpData for the lines, Read requests for the bytes of agents. Assumption 48 (DEDUCED). -/
def fetch (s : State) (src : WinSrc) (dom : Nat) (l : List (Nat × Nat)) : State :=
  l.foldl (fun s x =>
    if x.2 = 0 then s
    else match regionAt x.1 with
      | .agent k => s.askAgent src dom k x.1 x.2
      | .agentRegs k => s.askAgent src dom k x.1 x.2
      | _ => s.snoopData (s.modifiedLines x.1 x.2)) s

/-- The reader takes its answers. -/
def taken (s : State) (src : WinSrc) : State :=
  { s with kt := { s.kt with given := s.kt.answers.filter (fun x => x.src = src),
                             answers := s.kt.answers.filter (fun x => x.src != src) } }

/-- Bytes that an agent has answered to the reader that has just taken them. -/
def givenBytes (s : State) (addr n : Nat) : List Byte × Bool :=
  let got := (pieces (n / 256 + 2) addr n).map (fun x => s.kt.given.find? (fun y => y.addr = x.1 && y.bytes.length = x.2))
  (got.flatMap (fun y => (y.map (·.bytes)).getD []), got.any (fun y => (y.map (·.poison)).getD 0 != 0))

/-- Bytes that come from outside the block, as many as asked for. -/
def fit (n : Nat) (l : List Byte) : List Byte := (l ++ List.replicate n 0).take n

/-- Read a range for a domain: its bytes, and whether one of its lines is poison.  Bytes of host memory come
from outside the block; those of an agent are the ones that the reader has taken. -/
def loadRegion (s : State) (dom a n : Nat) (outside : List Byte) : List Byte × Bool :=
  match regionAt a with
  | .window => s.readWindow dom a n
  | .shm =>
    (s.readBytes s.hz.shm dom (a - 0x200000000000) n,
      (List.range ((a % 64 + n + 63) / 64)).any (fun k => (s.readMem s.hz.shm dom ((a - 0x200000000000) / 64 + k)).2))
  | .agent _ => s.givenBytes a n
  | .agentRegs _ => s.givenBytes a n
  | _ => (fit n outside, false)

/-- The host translation window of an address of the host aperture. -/
def hostWindowOf (a : Nat) : Nat := (a - 0x400000000000) / 2 ^ 38

/-- Early mode is in effect for stores to an address (R342). -/
def earlyMode (s : State) (a : Nat) : Bool :=
  match regionAt a with
  | .host => s.bit (F.espEarlyHostEarly (hostWindowOf a / 64)) (hostWindowOf a % 64)
  | .agent k => s.bit F.espEarlyCustEarly k
  | _ => false

/-- Write bytes to a range for a source and its domain. -/
def storeRegion (s : State) (src : WinSrc) (dom stamp a : Nat) (b : List Byte) : State :=
  match regionAt a with
  | .window => windowBytes src dom stamp (b.length / 64 + 2) a b s
  | .shm =>
    let s := s.xtsLine dom ((a % 64 + b.length + 63) / 64)
    { s with hz := { s.hz with shm := s.writeMem dom (b.length / 64 + 2) (a - 0x200000000000) b s.hz.shm } }
  | .host => s.send (.hostWrite a b)
  | .agent k => s.agentWrite src dom k a 0 b (s.earlyMode a)
  | .agentRegs k => s.agentWrite src dom k a 0 b false
  | _ => s

end State
end Sys2Proof.Machine
end

