-- ==== Sys2Proof/Machine/Flash.lean ====
section
/-!
DEFINITION. The flash: Locations, member sets, bands, program groups and flash reads (R220 to R256), as operations that the
F-tier's commands share.
-/
namespace Sys2Proof.Machine

/-- A Location (Table 7.6). -/
def flashLoc (chan die plane block page : Nat) : Nat :=
  chan * 2 ^ 28 + die * 2 ^ 24 + plane * 2 ^ 22 + block * 2 ^ 12 + page

def locChan (l : Nat) : Nat := l / 2 ^ 28
def locDie (l : Nat) : Nat := l / 2 ^ 24 % 16
def locPlane (l : Nat) : Nat := l / 2 ^ 22 % 4
def locBlock (l : Nat) : Nat := l / 2 ^ 12 % 1024

/-- The number of a block among all blocks. -/
def blockOf (l : Nat) : Nat := l / 2 ^ 12
def blockNum (chan die plane block : Nat) : Nat := ((chan * 16 + die) * 4 + plane) * 1024 + block

/-- Row `r` of a member: page `r >> 2` of plane `r & 3` (R225). -/
def Member.row (m : Member) (r : Nat) : Nat := flashLoc m.chan m.die (r % 4) (m.blocks.getD (r % 4) 0) (r / 4)

/-- The row of a Location within its member. -/
def locRow (l : Nat) : Nat := l % 2 ^ 12 * 4 + locPlane l

/-- The numbers of a member's four blocks. -/
def Member.blockNums (m : Member) : List Nat :=
  (List.range 4).map (fun p => blockNum m.chan m.die p (m.blocks.getD p 0))

/-- The member that holds the data page `j` of stripe `r`: every member but `r mod m` (R225). -/
def dataMember (members r j : Nat) : Nat := if j < r % members then j else j + 1

/-- A footer with the fields that the stager knows (Table 7.5). -/
def blankPage : FlashPage :=
  { kind := 1, zero := [], lost := [], band := 0, row := 0, temp := 0, stream := 0, unit := 0, version := 0, stamp := 0,
    unsynced := false, source := none, blocks := [] }

namespace State

def setFt (s : State) (f : FtState) : State := { s with ft := f }

/-! ### Parts, dies and groups (R220 to R225) -/

/-- F-channels of the part. -/
def fchannels (s : State) : Nat := 8 * s.part.dies

/-- The die is online (R221). -/
def nandUp (s : State) (c k : Nat) : Bool :=
  c < s.fchannels && s.get (F.ftChStatusState c) = 2 && s.bit (F.ftChStatusDieOnline c) k

/-- Die groups of the part, and the group of a die (R224). -/
def dieGroups (s : State) : Nat := s.part.pick 32 16
def dieGroup (s : State) (c k : Nat) : Nat := if s.part.small then k else 2 * k + c % 2

/-- The dies of a group in member-index order. -/
def groupDies (s : State) (g : Nat) : List (Nat × Nat) :=
  if s.part.small then (List.range 32).map (fun c => (c, g)) else (List.range 32).map (fun i => (2 * i + g % 2, g / 2))

/-- The qualified NAND is the TLC profile (R222). -/
def nandTlc (s : State) : Bool := (List.range s.fchannels).any (fun c => s.get (F.ftChIdType c) = 2)

/-- Rows of a member, and rows programmed together (Table 7.3, R244). Assumption 53 (DEDUCED). -/
def rowsPerMember (s : State) (stream : Nat) : Nat := if stream = 7 then 4096 else if s.nandTlc then 8192 else 16384
def groupRows (s : State) : Nat := if s.nandTlc then 12 else 16

/-- The F-tier may program and erase: Online, and no flush (R246, R254). -/
def ftWorks (s : State) : Bool := s.get F.ftStatusState = 2 && s.get F.perStatusState != 4

/-- The F-tier serves reads (R254). -/
def ftReads (s : State) : Bool := s.get F.ftStatusState = 2 || s.get F.ftStatusState = 3

/-- The status of an F-tier access outside service: sanitize, or not Online; a write also in the read-only state (R254). -/
def ftStatus (s : State) (write : Bool) : Nat :=
  if s.get F.ftStatusState = 4 then stSanitizeActive
  else if !s.ftReads then stUnitOffline
  else if write && s.get F.ftStatusState = 3 then stReadOnly
  else stOk

/-! ### Member sets, bands and the counts that the registers show (R225, R248, R253) -/

def band? (s : State) (n : Nat) : Option Band := s.fm.bands.find? (fun b => b.num = n)

/-- Change a band's record, not journalled (reads, stamps, rows: saved at each checkpoint, R255). -/
def putBand (s : State) (b : Band) : State :=
  { s with fm := { s.fm with bands := s.fm.bands.map (fun x => if x.num = b.num then b else x) } }

/-- Change a band's state (BandState). -/
def setBand (s : State) (n : Nat) (b : Option Band) : State := s.journal (.bandSet n b)

def badBlock (s : State) (b : Nat) : Bool := s.fm.bad.contains b

/-- A block is bad, or is part of a band. -/
def blockTaken (s : State) (b : Nat) : Bool :=
  s.badBlock b || s.fm.bands.any (fun x => x.members.any (fun m => m.blockNums.contains b))

/-- Taken blocks of a plane of a die: those that `used` selects. -/
def planeCount (s : State) (c k p : Nat) (inBands : Bool) : Nat :=
  let base := blockNum c k p 0
  let bad := (s.fm.bad.filter (fun b => b / 1024 = base / 1024)).length
  if !inBands then bad
  else bad + (s.fm.bands.filter (fun x => x.members.any (fun m => m.chan = c && m.die = k
    && !s.badBlock (blockNum c k p (m.blocks.getD p 0))))).length

/-- Erased, or good, member sets of a die: the fewest over its planes. -/
def memberSets (s : State) (c k : Nat) (erased : Bool) : Nat :=
  (List.range 4).foldl (fun m p => min m (1024 - s.planeCount c k p erased)) 1024

/-- The dies of the part that are online. -/
def nandDies (s : State) : List (Nat × Nat) :=
  ((List.range s.fchannels).flatMap (fun c => (List.range 16).map (fun k => (c, k)))).filter (fun x => s.nandUp x.1 x.2)

/-- Blocks counted against the budget: bad blocks, and every block of an offline die (R221, R253). -/
def badCount (s : State) : Nat :=
  (s.fm.bad.filter (fun b => s.nandUp (b / 65536) (b / 4096 % 16))).length
    + 4096 * (16 * s.fchannels - s.nandDies.length)

/-- The thresholds in effect (FT_GC_CFG). -/
def gcStart (s : State) : Nat := s.get F.ftGcCfgStartPermille
def gcUrgent (s : State) : Nat := min s.gcStart (s.get F.ftGcCfgUrgentPermille)
def gcFloor (s : State) : Nat := min s.gcUrgent (s.get F.ftGcCfgFloorPermille)

/-- The free ratio is below a number of thousandths. -/
def freeBelow (s : State) (permille : Nat) : Bool :=
  s.get F.ftFreeFree * 1000 < permille * s.get F.ftFreeGood

/-- A device-wide F-tier event (R255): from the coordinator, with the free ratio and the counts. -/
def event23 (s : State) (code sev : Nat) : State :=
  let f := s.get F.ftFreeFree
  let g := s.get F.ftFreeGood
  s.raise (dieSource s.coordinator 23) sev code noDom [d4 (f * 1000 / max 1 g), d4 f, d4 g]

/-- FT_FREE, the marks of R248, the bands and the spare budget follow the member sets (R242, R248, R253, R254). -/
def showFlash (s : State) : State :=
  let dies := s.nandDies
  let s := s.set F.ftFreeFree ((dies.map (fun x => s.memberSets x.1 x.2 true)).sum)
  let s := s.set F.ftFreeGood ((dies.map (fun x => s.memberSets x.1 x.2 false)).sum)
  let s := s.set F.ftStatusOpenBands (s.fm.bands.filter (fun b => b.state = .opened)).length
  let degraded := (s.fm.bands.filter (fun b => b.degraded && b.state != .erasing)).length
  let s := if degraded = 0 && s.get F.ftStatusDegradedBands != 0 then s.event23 5 sevNotice else s
  let s := s.set F.ftStatusDegradedBands (min 65535 degraded)
  let s :=
    if s.freeBelow s.gcUrgent then if s.on F.ftStatusUrgent then s else (s.put F.ftStatusUrgent true).event23 1 sevWarning
    else (s.put F.ftStatusUrgent false).put F.ftStatusDestageHold false
  let s := s.put F.ftGcStatusUrgent (s.on F.ftStatusUrgent)
  let s := if s.freeBelow s.gcFloor && !s.on F.ftStatusDestageHold then
      (s.put F.ftStatusDestageHold true).event23 2 sevError
    else s
  let s := s.set F.ftSpareBadBlocks s.badCount
  let n := s.get F.ftSpareBadBlocks
  let budget := s.get F.ftSpareBudget
  let s := if 75 * budget ≤ 100 * n && !s.on F.ftStatusSpareLow then (s.put F.ftStatusSpareLow true).event23 3 sevWarning
    else s
  if budget < n && s.get F.ftStatusState = 2 then (s.set F.ftStatusState 3).event23 4 sevCritical else s

/-! ### Opening bands (R225, R244) -/

/-- The lowest block of a plane that is neither bad nor in use. -/
def freeBlock? (s : State) (c k p : Nat) : Option Nat :=
  (List.range 1024).find? (fun b => !s.blockTaken (blockNum c k p b))

/-- A free member set of a die. -/
def freeMember? (s : State) (c k : Nat) : Option Member :=
  match s.freeBlock? c k 0, s.freeBlock? c k 1, s.freeBlock? c k 2, s.freeBlock? c k 3 with
  | some a, some b, some d, some e =>
    some { chan := c, die := k, blocks := [a, b, d, e], reads := 0, stamp := 0, unsynced := false, temp := 0,
           learned := none }
  | _, _, _, _ => none

/-- A die calibrates. -/
def nandCalibrating (s : State) (c k : Nat) : Bool := s.bit (F.ftChCalCalibrating c) k

/-- The members of a new band of a die group: one on each online die. -/
def newMembers? (s : State) (g : Nat) : Option (List Member) :=
  let dies := (s.groupDies g).filter (fun x => s.nandUp x.1 x.2)
  let l := dies.filterMap (fun x => s.freeMember? x.1 x.2)
  if 16 ≤ dies.length && l.length = dies.length then some l else none

/-- Open bands of a stream. -/
def openBands (s : State) (stream : Nat) : List Band := s.fm.bands.filter (fun b => b.state = .opened && b.stream = stream)

/-- The lowest number that no band has. -/
def freeBandNum (s : State) : Nat :=
  ((List.range (s.fm.bands.length + 1)).find? (fun n => (s.band? n).isNone)).getD 0

/-- Open a band for a stream, in the lowest die group that may open one.  Only stream 7 uses erased member sets below the
floor (R248). -/
def openBand (s : State) (stream : Nat) : State :=
  let all := s.fm.bands.filter (fun b => b.state = .opened)
  if max 1 (s.get (F.ftStreamCfgBands stream)) ≤ (s.openBands stream).length || 64 ≤ all.length
      || (stream < 6 && stream != 4 && s.freeBelow s.gcFloor) then s
  else
    match (List.range s.dieGroups).findSome? (fun g =>
      if 4 ≤ (all.filter (fun b => b.group = g)).length then none else (s.newMembers? g).map (fun l => (g, l))) with
    | none => s
    | some (g, l) =>
      let n := s.freeBandNum
      let b : Band := { num := n, group := g, stream := stream, state := .opened, members := l, rows := 0, closedAt := 0,
                        degraded := false, queued := false, suspect := [] }
      (s.setBand n (some b)).showFlash

/-- A group of the band is on its dies. -/
def bandBusy (s : State) (n : Nat) : Bool := s.ft.groups.any (fun g => g.band = n)

/-- Rows of the band's next group. -/
def nextRows (s : State) (b : Band) : Nat := min s.groupRows (s.rowsPerMember b.stream - b.rows)

/-- The band can take a group: none of its own is under way, no member calibrates, and R248's limits for host data
hold. -/
def bandReady (s : State) (b : Band) : Bool :=
  !s.bandBusy b.num && b.members.all (fun m => s.nandUp m.chan m.die && !s.nandCalibrating m.chan m.die)
    && (3 < b.stream || !s.on F.ftStatusUrgent
      || (b.rows + s.nextRows b) * (b.members.length - 1) ≤ s.ft.freed)
    && (3 < b.stream || !s.on F.ftStatusDestageHold)

/-- The open band of a stream whose turn it is: the one with the fewest rows. -/
def turnBand? (s : State) (stream : Nat) : Option Band :=
  ((s.openBands stream).filter s.bandReady).foldl (fun (m : Option Band) b => match m with
    | none => some b
    | some x => if b.rows < x.rows then some b else m) none

/-- The band for a stream's next group, after opening one where the stream has room for one. -/
def streamBand (s : State) (stream : Nat) : State × Option Band :=
  if s.openBands stream |>.any (fun b => b.rows = 0 && !s.bandBusy b.num) then (s, s.turnBand? stream)
  else
    let s := s.openBand stream
    (s, s.turnBand? stream)

/-- Data pages that a group of a band takes. -/
def groupPages (s : State) (b : Band) : Nat := s.nextRows b * (b.members.length - 1)

/-- Issue a group of a stream once its pages fill it (R245). -/
def issueGroup (s : State) (stream : Nat) : State :=
  let mine := s.ft.staged.filter (fun x => x.page.stream = stream)
  if mine = [] || !s.ftWorks || mine.length < s.groupRows * 15 then s
  else
    match s.streamBand stream with
    | (s, none) => s
    | (s, some b) =>
      let n := s.groupPages b
      if mine.length < n || b.members.any (fun m => s.nandLevel m.chan = 4) then s
      else
        let rest := s.ft.staged.filter (fun x => x.page.stream != stream) ++ mine.drop n
        s.setFt { s.ft with staged := rest, groups := s.ft.groups ++ [{ band := b.num, row := b.rows, pages := mine.take n }] }

/-- Put a page into program staging. -/
def stagePage (s : State) (kind : ProgKind) (page : FlashPage) : State :=
  (s.setFt { s.ft with staged := s.ft.staged ++ [{ kind := kind, page := page, dead := false }] }).issueGroup page.stream

/-- Groups that can be issued now, in every stream. -/
def issueAll (s : State) : State := (List.range 8).foldl issueGroup s

/-! ### Units, versions and validity (R227 to R230) -/

/-- The map entry of a unit (R228). -/
def mapOf (s : State) (u : Nat) : MapEntry := (Store.find? s.fm.map u).getD .unmapped

def slotOf? (s : State) (u : Nat) : Option Slot := s.fm.slots.find? (fun x => x.unit = u)
def slot? (s : State) (i : Nat) : Option Slot := s.fm.slots.find? (fun x => x.idx = i)
def setSlotRec (s : State) (i : Nat) (v : Option Slot) : State := s.journal (.slotSet i v)

/-- A new version from the device-wide counter (R229). -/
def newVersion (s : State) : Nat × State :=
  (s.fm.version, { s with fm := { s.fm with version := s.fm.version + 1 } })

def flashPage? (s : State) (l : Nat) : Option FlashPage := Store.find? s.ft.pages l

/-- The page is its unit's content: the map names it, or the unit's slot backs on it. -/
def pageValid (s : State) (l : Nat) : Bool :=
  match s.flashPage? l with
  | none => false
  | some p => p.kind = 0 && (s.mapOf p.unit = .flash l || match s.slotOf? p.unit with
    | some x => x.backing = .flash l
    | none => false)

/-- Valid pages of a band in ascending row order, then member order. -/
def validPages (s : State) (n : Nat) : List Nat :=
  let key := fun (l : Nat) => locRow l * 2 ^ 10 + locChan l * 16 + locDie l
  ((s.ft.pages.filter (fun x => x.2.band = n && s.pageValid x.1)).map (·.1)).mergeSort (fun a b => decide (key a ≤ key b))

/-- Read of the namespace for host blocks `h` to `h + n - 1` by a domain (R227). -/
def ftGranted (s : State) (dom h n : Nat) : Bool :=
  dom = 0 || (List.range ((h + n - 1) / 2 ^ 18 + 1 - h / 2 ^ 18)).all (fun i =>
    s.ft.grants.any (fun g => bits g.2 63 1 = 1 && bits g.2 36 10 = dom && bits g.2 0 18 ≤ h / 2 ^ 18 + i
      && h / 2 ^ 18 + i < bits g.2 0 18 + bits g.2 18 18))

/-- Measured and hinted class of a unit (R261, R262). -/
def unitClass (s : State) (u : Nat) : Nat :=
  let m := 3 - min 3 (Store.read (fun _ => 0) s.ft.heat u)
  match (s.md.nsHints.find? (fun h => h.gib = u / 65536)).bind (·.heat) with
  | some h => hintedClass h m
  | none => m

/-- A write to a unit heats it (R261). -/
def heatUnit (s : State) (u : Nat) : State :=
  s.setFt { s.ft with heat := Store.write (fun _ => 0) u (min 3 (Store.read (fun _ => 0) s.ft.heat u + 1)) s.ft.heat }

/-! ### Suspension (R223) -/

/-- A program or an erase is on the die. -/
def dieBusy (s : State) (c k : Nat) : Bool :=
  s.fm.bands.any (fun b => (b.state = .erasing || s.bandBusy b.num) && b.members.any (fun m => m.chan = c && m.die = k))

def suspended? (s : State) (c k : Nat) : Option Suspended := s.ft.suspended.find? (fun x => x.chan = c && x.die = k)

def setSuspended (s : State) (c k : Nat) (v : Option Suspended) : State :=
  s.setFt { s.ft with suspended := putBy (fun (x : Suspended) => x.chan = c && x.die = k) v s.ft.suspended }

/-- A read reaches a die: a program or an erase on it is suspended, but for the 500 us of R223. -/
def suspend (s : State) (c k : Nat) : State :=
  let v : Suspended := { chan := c, die := k, since := s.clk, running := none }
  if !s.dieBusy c k then s
  else match s.suspended? c k with
    | none => (s.setSuspended c k (some v)).cFch c 0x93 1
    | some x => match x.running with
      | some t => if t ≤ s.clk then (s.setSuspended c k (some v)).cFch c 0x93 1 else s
      | none => s

/-- An operation on a member of the band is suspended. -/
def bandSuspended (s : State) (b : Band) : Bool :=
  b.members.any (fun m => match s.suspended? m.chan m.die with
    | some x => x.running.isNone
    | none => false)

/-- The dies of a band hold no operation of it any more. -/
def endSuspension (s : State) (b : Band) : State :=
  s.setFt { s.ft with suspended := s.ft.suspended.filter (fun x =>
    !b.members.any (fun m => m.chan = x.chan && m.die = x.die)) }

/-! ### Flash reads (R236, R237) -/

/-- The band and the member that hold a Location. -/
def memberAt? (s : State) (l : Nat) : Option (Band × Member) :=
  s.fm.bands.findSome? (fun b => (b.members.find? (fun m => m.chan = locChan l && m.die = locDie l
    && m.blocks.getD (locPlane l) 1024 = locBlock l)).map (fun m => (b, m)))

/-- Replace a member's record. -/
def putMember (s : State) (b : Band) (m : Member) : State :=
  s.putBand { b with members := b.members.map (fun x => if x.chan = m.chan then m else x) }

/-- A member is missing from its stripes: its die or channel is offline, or its member set is bad (R238). -/
def memberMissing (s : State) (m : Member) : Bool := !s.nandUp m.chan m.die || m.blockNums.any s.badBlock

/-- Retention class and temperature band of a member set (R237). -/
def retention (s : State) (m : Member) : Nat × Nat :=
  let h := match s.stampOf m.stamp m.unsynced with
    | none => 0xFFFFFFFF
    | some x => (s.nowSec - x) / 3600
  let k := ([1, 10, 100, 1000, 10000, 30000, 100000].filter (fun b => decide (b ≤ h))).length
  let d : Int := s.sensor (32 + m.chan / 4) - ((m.temp : Int) - 64)
  (k, if d ≤ -30 then 0 else if d ≤ -10 then 1 else if d < 10 then 2 else if d < 30 then 3 else 4)

/-- The start entry of a member set (R237). -/
def startEntry (s : State) (m : Member) : Nat :=
  let (k, b) := s.retention m
  let map := s.get (F.ftRetryMapStart k) / 2 ^ (4 * b) % 16
  match m.learned with
  | some (e, k', b') => if k' = k && b' = b then e else map
  | none => map

end State

/-- The entries of a read in the order in which they are tried: s, s + 1, s - 1, s + 2, ... (R236).
Assumption 52 (DEDUCED). -/
def ladder (start : Nat) : List Nat :=
  start :: (List.range 15).flatMap (fun i =>
    (if start + (i + 1) ≤ 15 then [start + (i + 1)] else []) ++ (if i + 1 ≤ start then [start - (i + 1)] else []))

namespace State

/-- Attempts that a read may make (FT_CTL.LadderMax). -/
def ladderMax (s : State) : Nat := max 1 (s.get F.ftCtlLadderMax)

/-- Queue a band for relocation on stream 6 (R252, R255). -/
def queueReloc (s : State) (n : Nat) : State :=
  match s.band? n with
  | some b => if b.queued then s else s.putBand { b with queued := true }
  | none => s

/-- A block is Suspect, and its band is queued (R252). -/
def suspectBlock (s : State) (n l : Nat) : State :=
  let s := match s.band? n with
    | some x => if x.suspect.contains (blockOf l) then s else s.putBand { x with suspect := x.suspect ++ [blockOf l] }
    | none => s
  s.queueReloc n

/-- A band is relocated for disturb or retention, found by a read of a Location (R252, R255). Assumption 52 (DEDUCED). -/
def disturb (s : State) (n l : Nat) : State :=
  match s.band? n with
  | some b =>
    let s := s.suspectBlock n l
    if b.queued then s
    else s.raise (dieSource ((b.members.head?.map (·.chan)).getD 0 / 8) 20) sevInfo 1 noDom [d4 n]
  | none => s

/-- One sense of a page: its member set counts it, and a suspension where the die is busy (R223, R255). -/
def sense (s : State) (l : Nat) : State :=
  match s.memberAt? l with
  | none => s
  | some (b, m) =>
    let s := (s.putMember b { m with reads := m.reads + 1 }).cFch m.chan 0x90 1
    let s := s.suspend m.chan m.die
    if max 1 (s.get F.ftDisturbCfgLimit) * 1000 ≤ m.reads + 1 then s.disturb b.num l else s

/-- Start a read of codewords of the page at a Location. -/
def startNand (s : State) (l unit : Nat) (codewords lost : List Nat) (want : NandFor) : State :=
  let start := match s.memberAt? l with
    | some (_, m) => s.startEntry m
    | none => 0
  let r : NandRead := { id := s.ft.nextRead, loc := l, unit := unit, blocks := codewords, want := want, start := start,
                        attempts := 1, soft := false, corrected := [], lost := lost }
  (s.setFt { s.ft with reads := s.ft.reads ++ [r], nextRead := s.ft.nextRead + 1 }).sense l

/-- Copies of a page are under way: read, staged or on its die. -/
def copying (s : State) (l : Nat) : Bool :=
  s.ft.reads.any (fun r => r.loc = l && match r.want with
    | .copy _ => true
    | _ => false)
  || (s.ft.staged ++ s.ft.groups.flatMap (·.pages)).any (fun x => decide (x.kind = ProgKind.copy l))

/-- Copy pages of a band to a stream (R242, R249). -/
def copyPages (s : State) (l : List Nat) (stream : Nat) : State :=
  l.foldl (fun s a =>
    if s.copying a then s
    else match s.flashPage? a with
      | some p => s.startNand a p.unit ([0, 1, 2, 3].filter (fun k => !p.lost.contains k)) p.lost (.copy stream)
      | none => s) s

/-! ### Erasing (R249, R251, R252) -/

/-- A closed band whose content has been copied away, a victim or a relocated band, is erased once its valid count is 0. -/
def eraseEmpty (s : State) : State :=
  if !s.ftWorks then s
  else
    (s.fm.bands.filter (fun b => b.state = .closed && (b.queued || b.degraded || s.ft.victim = some b.num)
      && s.validPages b.num = [])).foldl (fun s b => s.setBand b.num (some { b with state := .erasing })) s |>.showFlash

/-- RemainingK follows the victim (FT_GC_STATUS). -/
def showVictim (s : State) : State :=
  match s.ft.victim with
  | some v => (s.set F.ftGcStatusVictimBand v).set F.ftGcStatusRemainingK ((s.validPages v).length / 1024)
  | none => (s.set F.ftGcStatusVictimBand 0).set F.ftGcStatusRemainingK 0

/-- A block is marked bad (BadBlock): event 17 with its code. -/
def markBad (s : State) (b code : Nat) : State :=
  if s.badBlock b then s
  else (s.journal (.badBlock b)).raise (dieSource (b / 65536 / 8) 17) sevNotice code noDom
    [d4 (b / 65536), d4 (b / 4096 % 16), d4 (b / 1024 % 4), d4 (b % 1024)]

/-- The band's erase has ended: its pages are gone, its Suspect blocks are bad and its number is released. -/
def releaseBand (s : State) (b : Band) : State :=
  let s := s.setFt { s.ft with pages := s.ft.pages.filter (fun x => x.2.band != b.num) }
  let s := b.suspect.foldl (fun s x => s.markBad x 3) s
  let s := (s.endSuspension b).setBand b.num none
  let s := if s.ft.victim = some b.num then
      s.setFt { s.ft with victim := none, freed := b.rows * (b.members.length - 1) - s.ft.copied, copied := 0 }
    else s
  (s.showFlash.showVictim).issueAll

/-! ### Closing bands and failed groups (R250) -/

/-- Close an open band, and queue it for relocation. -/
def closeBroken (s : State) (n : Nat) : State :=
  match s.band? n with
  | some b =>
    if b.state = .erasing then s
    else s.setBand n (some { b with state := .closed, degraded := true, queued := true,
                                    closedAt := if b.state = .opened then s.nowDtb else b.closedAt })
  | none => s

/-- A group of the band fails: its data goes back to program staging of its stream. -/
def failGroup (s : State) (n : Nat) : State :=
  let l := (s.ft.groups.filter (fun g => g.band = n)).flatMap (·.pages)
  s.setFt { s.ft with groups := s.ft.groups.filter (fun g => g.band != n),
                      staged := l.filter (fun x => x.kind != .filler) ++ s.ft.staged }

/-- A die's bands lose a member (R238, R250): groups on the die fail, open bands close, and all are Degraded. -/
def bandsLose (s : State) (c k : Nat) : State :=
  (s.fm.bands.filter (fun b => b.members.any (fun m => m.chan = c && m.die = k))).foldl (fun s b =>
    (s.failGroup b.num).closeBroken b.num) s

/-- A NAND die goes offline (R221). -/
def dieLost (s : State) (c k : Nat) : State :=
  let s := (s.setBit (F.ftChStatusDieOnline c) k false).setBit (F.ftChCalCalibrating c) k false
  (s.setSuspended c k none).bandsLose c k

/-- An F-channel goes Offline (R178's form for F-channels, R241): every die of it is lost. -/
def fchanOffline (s : State) (c cause : Nat) : State :=
  if s.fchannels ≤ c || s.get (F.ftChStatusState c) = 3 then s
  else
    let up := (List.range 16).filter (fun k => s.nandUp c k)
    let s := ((s.set (F.ftChStatusState c) 3).set (F.ftChStatusCause c) cause).raise (dieSource (c / 8) 16) sevCritical 1
      noDom [d4 c, d4 cause]
    ((up.foldl (fun s k => s.dieLost c k) s).set (F.ftChStatusDieOnline c) 0).showFlash.issueAll

end State
end Sys2Proof.Machine
end

