-- ==== Sys2Proof/Machine/Ftier.lean ====
section
/-!
DEFINITION. The F-tier's commands (chapter 7): host reads, writes, trims and flushes, destage, program groups, flash reads
with ladder and rebuild, reclaim, relocation, calibration and failures.
-/
namespace Sys2Proof.Machine

/-- What a read of one host block meets (Table 7.8). -/
inductive BlockSource where
  | zero
  | data (b : HostBlock)
  | flash (loc : Nat)
  | lost
deriving DecidableEq, Repr

/-- First host block, count and buffer of an F-tier descriptor (Table 11.7). -/
def Desc.hostBlock (d : Desc) : Nat := d.num 16 8 % 2 ^ 36
def Desc.count (d : Desc) : Nat := d.num 24 4
def Desc.ftBuffer (d : Desc) : Nat := d.num 32 8

namespace State

/-- The lowest free slot of the F-cache (R231, R274). -/
def freeSlot? (s : State) : Option Nat :=
  (s.fcachePlots.filter (fun i => !s.top.shrunk.contains i)).findSome? (fun i =>
    let base := (i - 0x10000) * slotsPerPlot
    let used := (s.fm.slots.filter (fun x => base ≤ x.idx && x.idx < base + slotsPerPlot)).map (·.idx)
    ((List.range (min slotsPerPlot (used.length + 1))).map (· + base)).find? (fun k => !used.contains k))

/-- Free slots of the F-cache. -/
def freeSlots (s : State) : Nat :=
  ((s.fcachePlots.filter (fun i => !s.top.shrunk.contains i)).map (fun i =>
    slotsPerPlot - (s.fm.slots.filter (fun x => fcachePlot (x.idx / slotsPerPlot) = i)).length)).sum

/-- TOP_STATUS.FcacheFull: occupancy above HighMark, with event 149 once (R275). -/
def showFull (s : State) : State :=
  let s := s.showFcache
  let used := s.get F.topFcacheStatusUsed
  if min 100 (s.get F.topFcacheCfgHighMark) * s.get F.topFcacheStatusTotal < 100 * used then
    if s.on F.topStatusFcacheFull then s
    else (s.put F.topStatusFcacheFull true).raise 149 sevWarning 0 noDom [d4 used]
  else s.put F.topStatusFcacheFull false

/-- A staged write or partial trim of a unit (R231, R232): new Present blocks, and new Zero blocks. -/
def writeSlot (s : State) (u : Nat) (new : List (Nat × HostBlock)) (zero : List Nat) : State :=
  let (v, s) := s.newVersion
  let s := s.heatUnit u
  let fresh := fun (k : Nat) => new.any (fun x => x.1 = k)
  let upd := fun (x : Slot) => ({ x with
    version := v, written := s.nowSec, blocks := x.blocks.filter (fun b => !fresh b.1 && !zero.contains b.1) ++ new,
    zero := (x.zero.filter (fun k => !fresh k && !zero.contains k)) ++ zero } : Slot)
  match s.slotOf? u with
  | some x => s.setSlotRec x.idx (some (upd x))
  | none =>
    match s.freeSlot? with
    | none => s
    | some i =>
      let x : Slot := { idx := i, unit := u, version := v, zero := [], backing := s.mapOf u, blocks := [], written := 0,
                        first := v, destaging := none }
      ((s.setSlotRec i (some (upd x))).journal (.mapSet u (.fcache i) v)).showFull

/-- A slot is freed (R231 to R233). -/
def freeSlotRec (s : State) (i : Nat) : State := ((s.setSlotRec i none).showFull).shrinkStep

/-- Direct writes of a unit that are under way are overtaken (Table 7.7). -/
def overtakeDirect (s : State) (u : Nat) : State :=
  let kill := fun (x : Staged) => match x.kind with
    | .direct _ _ _ => if x.page.unit = u then { x with dead := true } else x
    | _ => x
  s.setFt { s.ft with staged := s.ft.staged.map kill,
                      groups := s.ft.groups.map (fun g => { g with pages := g.pages.map kill }) }

/-- A trim of a whole unit (R232). -/
def trimUnit (s : State) (u : Nat) : State :=
  let s := s.overtakeDirect u
  let (v, s) := s.newVersion
  let s := s.heatUnit u
  match s.slotOf? u with
  | some x => (s.journal (.mapSet u .unmapped v)).freeSlotRec x.idx
  | none => if s.mapOf u = .unmapped then s else s.journal (.mapSet u .unmapped v)

/-- Where a codeword of a unit is read from (Table 7.8). -/
def blockSource (s : State) (u k : Nat) : BlockSource :=
  match s.mapOf u with
  | .unmapped => .zero
  | .flash l => .flash l
  | .lost => .lost
  | .fcache i =>
    match s.slot? i with
    | none => .zero
    | some x =>
      match x.blocks.find? (fun b => b.1 = k) with
      | some b => .data b.2
      | none =>
        if x.zero.contains k then .zero
        else match x.backing with
          | .flash l => .flash l
          | .lost => .lost
          | _ => .zero

/-- The bytes of a host block as a domain reads them (R27, R226). -/
def blockBytes (s : State) (dom hb : Nat) (b : HostBlock) : List Byte :=
  (b.lines.zipIdx).flatMap (fun x => lineBytes (s.decrypt dom 1 (hb * 64 + x.2) x.1 b.tag))

/-- The outcome of host block `i` of a descriptor (Table 7.8): bit positions of Result 0 Unmapped, 16 Failed,
32 Corrected. -/
def blockDone (s : State) (ring handle i : Nat) (x : BlockSource) (corrected : Bool) : State :=
  match s.desc? ring handle with
  | none => s
  | some d =>
    let dom := s.ringDom ring
    let at_ := d.ftBuffer + i * 4096
    match x with
    | .zero =>
      let s := s.setDesc { d with acc := d.acc + 2 ^ i }
      s.storeRegion (.ring ring handle) dom d.stamp at_ (List.replicate 4096 0)
    | .data b =>
      if s.keyBad dom then s.setDesc { d with acc := d.acc + 2 ^ (16 + i), worst := worse d.worst stMediaUncorrectable }
      else
      let s := if corrected then s.setDesc { d with acc := d.acc + 2 ^ (32 + i), worst := worse d.worst stOkCorrected } else s
      (s.xtsLine dom 64).storeRegion (.ring ring handle) dom d.stamp at_ (s.blockBytes dom (d.hostBlock + i) b)
    | _ => s.setDesc { d with acc := d.acc + 2 ^ (16 + i), worst := worse d.worst stMediaUncorrectable }

/-- One part of a descriptor's work has ended; with the last, the descriptor. -/
def partDone (s : State) (ring handle : Nat) : State :=
  match s.desc? ring handle with
  | none => s
  | some d =>
    let d := { d with left := d.left - 1 }
    let s := s.setDesc d
    if d.left = 0 then s.finish ring handle stOk d.acc else s

/-- What refuses an F-tier descriptor (R227, R367, R373): its range, and its domain's grants and buffer. -/
def ftRefusal (s : State) (d : Desc) : Option Nat :=
  let n := d.count
  let dom := s.ringDom d.ring
  let move := d.op = opFtRead || d.op = opFtWrite
  if n = 0 || (move && 16 < n) || (move && d.ftBuffer % 64 ≠ 0) || (!move && d.ftBuffer ≠ 0)
      || d.num 16 8 / 2 ^ 36 ≠ 0 || d.num 28 4 / 2 ≠ 0 || (d.op ≠ opFtWrite && d.num 28 4 ≠ 0) then some stBadDescriptor
  else if s.get F.ftNsSizeUnits * 4 < d.hostBlock + n then some stRangeFault
  else if !s.ftGranted dom d.hostBlock n then some stDomainDenied
  else if move then
    let st := s.reach dom d.ftBuffer (n * 4096)
    if st = stOk then none else some st
  else none

/-! ### Destage (R233) -/

/-- The page of a destage: Present blocks of the slot; the other blocks from the old page, from nothing, or lost. -/
def destagePage (s : State) (x : Slot) (old : Option FlashPage) (lost : List Nat) : FlashPage :=
  let own := x.blocks.map (·.1)
  let rest := [0, 1, 2, 3].filter (fun k => !own.contains k && !x.zero.contains k)
  let gone := rest.filter (fun k => lost.contains k || x.backing = .lost || match old with
    | some p => p.lost.contains k
    | none => false)
  let kept := match old with
    | some p => p.blocks.filter (fun b => rest.contains b.1 && !gone.contains b.1)
    | none => []
  let zero := x.zero ++ rest.filter (fun k => !gone.contains k && !kept.any (fun b => b.1 = k))
  { blankPage with kind := 0, zero := zero, lost := gone, stream := s.unitClass x.unit, unit := x.unit,
                   version := x.version, blocks := x.blocks ++ kept }

/-- Stage a destage's page. -/
def destage (s : State) (x : Slot) (old : Option FlashPage) (lost : List Nat) : State :=
  let s := { s with fm := { s.fm with
    slots := s.fm.slots.map (fun (y : Slot) => if y.idx = x.idx then { y with destaging := some x.version } else y) } }
  s.stagePage (.destage x.idx) (s.destagePage x old lost)

/-- A destage of the slot can begin: the F-tier works, no hold, and none of it is under way. -/
def mayDestage (s : State) (x : Slot) : Bool := s.ftWorks && !s.on F.ftStatusDestageHold && x.destaging.isNone

/-- Begin a destage: missing host blocks are read first. -/
def startDestage (s : State) (x : Slot) : State :=
  if !s.mayDestage x then s
  else
    let s := s.cTop 0x39 1
    let rest := [0, 1, 2, 3].filter (fun k => !x.blocks.any (fun b => b.1 = k) && !x.zero.contains k)
    match x.backing with
    | .flash l =>
      if rest = [] then s.destage x none []
      else
        let lost := ((s.flashPage? l).map (·.lost)).getD []
        let s := { s with fm := { s.fm with
          slots := s.fm.slots.map (fun (y : Slot) => if y.idx = x.idx then { y with destaging := some x.version } else y) } }
        s.startNand l x.unit (rest.filter (fun k => !lost.contains k)) lost (.destage x.idx)
    | _ => s.destage x none []

/-! ### The end of a flash read (R235, R236, R239, R240) -/

/-- Every codeword of a read is decoded or lost. -/
def nandDone (s : State) (r : NandRead) : State :=
  let s := s.setFt { s.ft with reads := s.ft.reads.filter (fun x => x.id != r.id) }
  match r.want with
  | .descriptor ring handle _ => s.partDone ring handle
  | .snapshot ring handle => s.partDone ring handle
  | .destage i =>
    match s.slot? i with
    | some x => if x.unit = r.unit then s.destage x (s.flashPage? r.loc) r.lost else s
    | none => s
  | .copy stream =>
    match s.flashPage? r.loc with
    | none => s
    | some p =>
      if !s.pageValid r.loc || !s.ftWorks then s
      else if r.lost.length = 4 || (p.blocks.all (fun b => r.lost.contains b.1) && p.zero = []) then
        -- all four host blocks are lost (R240)
        if s.mapOf p.unit = .flash r.loc then (s.journal (.mapSet p.unit .lost p.version)).eraseEmpty.showVictim else s
      else
        let s := if stream = 4 then s.count 608 640 0x75 0 1 else s
        s.stagePage (.copy r.loc) { p with
          lost := (p.lost ++ r.lost).eraseDups, blocks := p.blocks.filter (fun b => !r.lost.contains b.1),
          stream := stream, source := some r.loc }

/-- One codeword of a read is decoded, or reads as zeros, or is lost. -/
def codewordDone (s : State) (r : NandRead) (k : Nat) (ok corrected : Bool) : State :=
  match r.want with
  | .descriptor ring handle first =>
    let i := r.unit * 4 + k - first
    let x := match s.flashPage? r.loc with
      | none => .lost
      | some p =>
        if p.zero.contains k then .zero
        else if !ok || p.lost.contains k then .lost
        else match p.blocks.find? (fun b => b.1 = k) with
          | some b => .data b.2
          | none => .lost
    s.blockDone ring handle i x corrected
  | .snapshot ring handle =>
    if ok then s
    else match s.desc? ring handle with
      | some d => s.setDesc { d with worst := worse d.worst stMediaUncorrectable }
      | none => s
  | _ => s

/-- A codeword cannot be rebuilt: its host block is lost (R240). -/
def blockLost (s : State) (r : NandRead) (k : Nat) : State :=
  let s := (s.bump F.ftLostCountCount).raise (dieSource (locChan r.loc / 8) 18) sevError 2 noDom
    [d8 r.loc, d8 r.unit, d4 (r.unit * 4 + k)]
  let s := s.codewordDone r k false false
  -- the unit is queued for relocation, which sets the LostMask bit
  match r.want with
  | .copy _ => s
  | .destage _ => s
  | _ =>
    if s.copying r.loc || !s.pageValid r.loc then s
    else match s.flashPage? r.loc with
      | some p =>
        let lost := (p.lost ++ [k]).eraseDups
        s.startNand r.loc r.unit ([0, 1, 2, 3].filter (fun j => !lost.contains j)) lost (.copy 6)
      | none => s

/-- The last step of a read that the ladder and the soft decode have failed, or of a missing member: rebuild (R239), or
loss (R240). -/
def rebuild (s : State) (r : NandRead) (b : Band) (m : Member) (rebuilt : List Nat) : State :=
  let alone := !(b.members.any (fun x => x.chan != m.chan && s.memberMissing x))
  let ok := r.blocks.filter (fun k => alone && rebuilt.contains k)
  let bad := r.blocks.filter (fun k => !(alone && rebuilt.contains k))
  let s := s.setFt { s.ft with reads := s.ft.reads.map (fun x => if x.id = r.id then { r with blocks := [] } else x) }
  let s := ok.foldl (fun s k =>
    let s := (s.bump (F.ftChRebuildCountCount m.chan)).raise (dieSource (m.chan / 8) 18) sevWarning 1 noDom
      [d8 r.loc, d8 r.unit]
    (s.count 608 640 0x74 0 1).codewordDone r k true true) s
  let s := bad.foldl (fun s k => s.blockLost r k) s
  s.nandDone { r with blocks := [], corrected := r.corrected ++ ok, lost := (r.lost ++ bad).eraseDups }

/-- Host blocks of a descriptor's read that wait for one Location, by unit. -/
def startReads (s : State) (ring handle first : Nat) (l : List (Nat × Nat × Nat)) : State :=
  let locs := (l.map (·.2.2)).eraseDups
  locs.foldl (fun s a =>
    let mine := l.filter (fun x => x.2.2 = a)
    s.startNand a ((mine.head?.map (·.1)).getD 0) (mine.map (·.2.1)) [] (.descriptor ring handle first)) s

/-! ### Program groups (R233, R234, R245, R249) -/

/-- The map changes of one page of a completed group. -/
def pageProgrammed (s : State) (x : Staged) (l : Nat) : State :=
  let u := x.page.unit
  match x.kind with
  | .destage i =>
    match s.slot? i with
    | some y =>
      if y.unit != u then s
      else if y.version = x.page.version then (s.journal (.mapSet u (.flash l) y.version)).freeSlotRec i
      else
        { s with fm := { s.fm with slots := s.fm.slots.map (fun (z : Slot) =>
            if z.idx = i && z.destaging = some x.page.version then { z with destaging := none } else z) } }
    | none => s
  | .direct ring handle _ =>
    let s := if x.dead then s
      else match s.slotOf? u with
        | some y => s.setSlotRec y.idx (some { y with backing := .flash l })
        | none => s.journal (.mapSet u (.flash l) x.page.version)
    s.partDone ring handle
  | .copy src =>
    if (s.flashPage? src).map (·.version) != some x.page.version then s
    else if s.mapOf u = .flash src then s.journal (.mapSet u (.flash l) x.page.version)
    else match s.slotOf? u with
      | some y => if y.backing = .flash src then s.setSlotRec y.idx (some { y with backing := .flash l }) else s
      | none => s
  | .snapshot _ =>
    let unit := u - s.get F.ftNsSizeUnits
    let s := s.journal (.mapSet u (.flash l) x.page.version)
    ((s.md.captures.filter (fun c => c.place = .programming unit)).foldl (fun s c =>
      s.journal (.snapIndex { c with place := .space unit })) s).showStaged
  | .filler => s

/-- Where page `i` of a group goes: its row and its member. -/
def groupPlace (b : Band) (row i : Nat) : Nat × Option Member :=
  let m := b.members.length
  let r := row + i / (m - 1)
  (r, b.members[dataMember m r (i % (m - 1))]?)

/-- Program one page of a group: its content and footer. -/
def programPage (b : Band) (row : Nat) (s : State) (x : Staged × Nat) : State :=
  match groupPlace b row x.2 with
  | (_, none) => s
  | (r, some m) =>
    let l := m.row r
    let st := s.stampNow
    let p := { x.1.page with band := b.num, row := r, temp := s.tempCode (32 + m.chan / 4), stream := b.stream,
                             stamp := st.1, unsynced := st.2 }
    (s.setFt { s.ft with pages := Store.insert l p s.ft.pages }).pageProgrammed x.1 l

/-- Member sets take the stamp of their first program and the mean program temperature (R237). -/
def stampMembers (s : State) (b : Band) (n : Nat) : Band :=
  let st := s.stampNow
  { b with rows := b.rows + n, members := b.members.map (fun m =>
      let t := s.tempCode (32 + m.chan / 4)
      if b.rows = 0 then { m with stamp := st.1, unsynced := st.2, temp := t }
      else { m with temp := (m.temp * b.rows + t * n) / (b.rows + n) }) }

end State

open Host State

/-! ### Ring opcodes (R231, R232, R235, R373) -/

/-- FT_READ (R226, R227, R235, R373). -/
def execFtRead (ring handle : Nat) (s : State) : Outcome State Fault Refusal :=
  .next <|
    match s.startedDesc? ring handle opFtRead with
    | none => s
    | some d =>
      if d.left != 0 then s
      else if s.ftStatus false != stOk then s.finish ring handle (s.ftStatus false) 0
      else match s.ftRefusal d with
        | some st => s.finish ring handle st 0
        | none =>
          let h := d.hostBlock
          let l := (List.range d.count).map (fun i => ((h + i) / 4, (h + i) % 4, s.blockSource ((h + i) / 4) ((h + i) % 4)))
          let flash := l.filterMap (fun x => match x.2.2 with
            | .flash a => some (x.1, x.2.1, a)
            | _ => none)
          let parts := ((flash.map (·.2.2)).eraseDups).length
          let s := (s.setDesc { d with left := parts }).count 608 640 0x70 0 1
          let s := l.foldl (fun s x => match x.2.2 with
            | .flash _ => s
            | y => s.blockDone ring handle (x.1 * 4 + x.2.1 - h) y false) s
          if parts = 0 then s.finish ring handle stOk (((s.desc? ring handle).map (·.acc)).getD 0)
          else s.startReads ring handle h flash

/-- The host blocks of a write, by unit and codeword. -/
def State.hostBlocks (s : State) (dom h n : Nat) (data : List Byte) : List (Nat × Nat × HostBlock) :=
  (List.range n).map (fun i =>
    ((h + i) / 4, (h + i) % 4, { lines := (List.range 64).map (fun k => bytesLine ((data.drop (i * 4096 + k * 64)).take 64)),
                                 tag := s.tagNow dom false }))

/-- FT_WRITE (R227, R229, R231, R254): staged, or direct.  It waits while slots or journal space are wanting.
Assumption 51 (DEDUCED). -/
def execFtWrite (ring handle : Nat) (outside : List (BitVec 8)) (s : State) : Outcome State Fault Refusal :=
  .next <|
    match s.startedDesc? ring handle opFtWrite with
    | none => s
    | some d =>
      if d.left != 0 then s
      else if s.ftStatus true != stOk then s.finish ring handle (s.ftStatus true) 0
      else match s.ftRefusal d with
        | some st => s.finish ring handle st 0
        | none =>
          let dom := s.ringDom ring
          let h := d.hostBlock
          let n := d.count
          let src := WinSrc.ring ring handle
          if !s.ready src [(d.ftBuffer, n * 4096)] then s.fetch src dom [(d.ftBuffer, n * 4096)]
          else
          let s0 := s
          let s := s.taken src
          let data := s.loadRegion dom d.ftBuffer (n * 4096) outside
          let s := s.xtsLine dom (64 * n)
          let l := s.hostBlocks dom h n data.1
          let units := (l.map (·.1)).eraseDups
          let mine := fun (u : Nat) => (l.filter (fun x => x.1 = u)).map (fun x => (x.2.1, x.2.2))
          if data.2 then s.finish ring handle stMediaUncorrectable 0
          else if s.journalFull true || s.get F.perStatusState = 4 then s0
          else if d.num 28 4 = 1 && s.on F.ftCtlDirectAllowed && h % 4 = 0 && n % 4 = 0 then
            if s.on F.ftStatusDestageHold then s0
            else
              units.foldl (fun s u =>
                let s := s.overtakeDirect u
                let s := match s.slotOf? u with
                  | some x => (s.journal (.mapSet u x.backing s.fm.version)).freeSlotRec x.idx
                  | none => s
                let (v, s) := s.newVersion
                (s.heatUnit u).stagePage (.direct ring handle s.clk) { blankPage with
                  kind := 0, stream := s.unitClass u, unit := u, version := v, blocks := mine u })
                (s.setDesc { d with left := units.length })
          else if s.freeSlots < (units.filter (fun u => (s.slotOf? u).isNone)).length then s0
          else
            let s := (units.foldl (fun s u => s.writeSlot u (mine u) []) s).countBytes (n * 4096)
            s.finish ring handle stOk (n * 4096)

/-- FT_TRIM (R229, R232, R254): whole units become Unmapped; the parts of a unit are staged. -/
def execFtTrim (ring handle : Nat) (s : State) : Outcome State Fault Refusal :=
  .next <|
    match s.startedDesc? ring handle opFtTrim with
    | none => s
    | some d =>
      if s.ftStatus true != stOk then s.finish ring handle (s.ftStatus true) 0
      else match s.ftRefusal d with
        | some st => s.finish ring handle st 0
        | none =>
          let h := d.hostBlock
          let n := d.count
          let first := (h + 3) / 4
          let last := (h + n) / 4
          let inPart := fun (u : Nat) => ([0, 1, 2, 3].filter (fun k => h ≤ u * 4 + k && u * 4 + k < h + n))
          let parts := ([h / 4, (h + n - 1) / 4].eraseDups).filter (fun u => (inPart u).length < 4)
          if s.journalFull true || s.get F.perStatusState = 4
              || s.freeSlots < (parts.filter (fun u => (s.slotOf? u).isNone)).length then s
          else
            let staged := (s.ft.staged ++ s.ft.groups.flatMap (·.pages)).map (fun x => x.page.unit)
            let whole := ((s.fm.map.map (·.1) ++ s.fm.slots.map (·.unit) ++ staged).eraseDups).filter (fun u =>
              first ≤ u && u < last)
            let s := whole.foldl (fun s u => s.trimUnit u) s
            let s := parts.foldl (fun s u => s.writeSlot u [] (inPart u)) s
            s.showVictim.finish ring handle stOk 0

/-- FT_FLUSH (R373): `left` holds the version reached when the flush was fetched, and `acc` the units it waits for. -/
def execFtFlush (ring handle : Nat) (s : State) : Outcome State Fault Refusal :=
  .next <|
    match s.startedDesc? ring handle opFtFlush with
    | none => s
    | some d =>
      if s.ftStatus true != stOk then s.finish ring handle (s.ftStatus true) 0
      else match s.ftRefusal d with
        | some st => s.finish ring handle st 0
        | none => if s.flushWaits d d.left = [] then s.finish ring handle stOk (d.acc % 2 ^ 48) else s

/-! ### Dies and channels (R221, R223, R243) -/

/-- NAND_DIE_OFFLINE (R221, R250, R253). -/
def execNandDieOffline (chan die : Nat) (s : State) : Outcome State Fault Refusal :=
  .next <|
    if 16 ≤ die || !s.nandUp chan die then s
    else
      let s := (s.dieLost chan die).raise (dieSource (chan / 8) 16) sevError 2 noDom [d4 chan, d4 die]
      if s.get (F.ftChStatusDieOnline chan) = 0 then s.fchanOffline chan 4 else s.showFlash.issueAll

/-- PROGRAM_RESUME (R223): when the die has no read queued, or after 2 ms suspended. -/
def execProgramResume (chan die : Nat) (s : State) : Outcome State Fault Refusal :=
  .next <|
    match s.suspended? chan die with
    | none => s
    | some x =>
      if !s.ft.reads.any (fun r => locChan r.loc = chan && locDie r.loc = die) then s.setSuspended chan die none
      else if x.running.isNone && x.since + 2000000 ≤ s.clk then
        s.setSuspended chan die (some { x with running := some (s.clk + 500000) })
      else s

/-- The key of a NAND die in the calibration table. -/
def nandKey (chan die : Nat) : Nat := chan * 16 + die

/-- DIE_CALIBRATION (R243, R283): the period or the temperature has moved. -/
def execDieCalibration (chan die : Nat) (s : State) : Outcome State Fault Refusal :=
  .next <|
    let now := s.tempCode (32 + chan / 4)
    let last := (s.ft.calibrated.find? (fun x => x.1 = nandKey chan die)).getD (nandKey chan die, 0, now)
    let hours := s.get F.ftCalCfgPeriodHours
    let delta := s.get F.ftCalCfgTempDelta
    let due := (hours != 0 && last.2.1 + hours * 3600000000000 ≤ s.clk)
      || (delta != 0 && (last.2.2 + delta ≤ now || now + delta ≤ last.2.2))
    let busy := (s.groupDies (s.dieGroup chan die)).any (fun x => s.nandCalibrating x.1 x.2)
    if 16 ≤ die || !s.nandUp chan die || !due || busy then s else s.setBit (F.ftChCalCalibrating chan) die true

/-- CALIBRATION_COMPLETE (R243). -/
def execCalibrationComplete (chan die : Nat) (s : State) : Outcome State Fault Refusal :=
  .next <|
    if 16 ≤ die || !s.nandUp chan die || !s.nandCalibrating chan die then s
    else
      let now := s.tempCode (32 + chan / 4)
      let s := s.setFt { s.ft with
        calibrated := s.ft.calibrated.filter (fun x => x.1 != nandKey chan die) ++ [(nandKey chan die, s.clk, now)] }
      ((s.setBit (F.ftChCalCalibrating chan) die false).raise (dieSource (chan / 8) 19) sevInfo 1 noDom
        [d4 chan, d4 die]).issueAll

/-! ### Flash reads (R236 to R240, R243, R252, R255) -/

/-- NAND_PAGE_READ_COMPLETE: `decoded` are the codewords that this sense, or the soft decode, decodes; `rebuilt` those
whose rebuild from the other members succeeds, where one is needed. Assumption 125 (DEDUCED). -/
def execNandPageReadComplete (read : Nat) (decoded rebuilt : List Nat) (s : State) : Outcome State Fault Refusal :=
  .next <|
    match s.ft.reads.find? (fun r => r.id = read) with
    | none => s
    | some r =>
      match s.memberAt? r.loc with
      | none => r.blocks.foldl (fun s k => s.blockLost r k) s |>.nandDone { r with blocks := [], lost := r.lost ++ r.blocks }
      | some (b, m) =>
        let cal := s.nandCalibrating m.chan m.die
        if cal && b.degraded && !s.memberMissing m then s
        else if cal || s.memberMissing m then s.rebuild r b m rebuilt
        else
          let masks := match s.flashPage? r.loc with
            | some p => p.zero ++ p.lost
            | none => []
          let slow := 4 ≤ r.attempts || r.soft
          let late := 1 < r.attempts || r.soft
          let ok := r.blocks.filter (fun k => decoded.contains k || (masks.contains k && decoded != []))
          let rest := r.blocks.filter (fun k => !ok.contains k)
          let s := if ok != [] && late && !r.soft then
              match s.memberAt? r.loc with
              | some (b, m) =>
                let (k, t) := s.retention m
                s.putMember b { m with learned := some ((ladder r.start).getD (r.attempts - 1) 0, k, t) }
              | none => s
            else s
          let s := (ok.foldl (fun s k => s.codewordDone r k true late) s).cFtl (m.chan / 8) 0x9A r.blocks.length
          let s := if ok != [] && slow then s.disturb b.num r.loc else s
          let r := { r with blocks := rest, corrected := if late then r.corrected ++ ok else r.corrected }
          let put := fun (s : State) (r : NandRead) =>
            s.setFt { s.ft with reads := s.ft.reads.map (fun x => if x.id = r.id then r else x) }
          if rest = [] then s.nandDone r
          else if !r.soft && r.attempts < s.ladderMax then
            let s := if r.attempts = 1 then s.bump (F.ftChRetryCountCount m.chan) else s
            ((put s { r with attempts := r.attempts + 1 }).count 608 640 0x73 0 1).sense r.loc
          else if !r.soft && s.on F.ftCtlSoftEnable then
            let s := (put s { r with soft := true }).raise (dieSource (m.chan / 8) 19) sevNotice 2 noDom [d8 r.loc]
            (s.cFtl (m.chan / 8) 0x9B 1).sense r.loc
          else (s.suspectBlock b.num r.loc).rebuild r b m rebuilt

/-! ### Destage and program groups (R233, R245) -/

/-- DESTAGE (R231, R233, R276). -/
def execDestage (slot : Nat) (s : State) : Outcome State Fault Refusal :=
  .next <|
    match s.slot? slot with
    | none => s
    | some x => s.startDestage x

/-- PROGRAM_GROUP_COMPLETE (R226, R230, R233, R237, R245, R249, R276 to R278): every program of the group has
succeeded. -/
def execProgramGroupComplete (band : Nat) (s : State) : Outcome State Fault Refusal :=
  .next <|
    match s.ft.groups.find? (fun g => g.band = band), s.band? band with
    | some g, some b =>
      if s.bandSuspended b || s.journalFull true then s
      else
        let n := s.nextRows b
        let s := s.setFt { s.ft with groups := s.ft.groups.filter (fun x => x.band != band) }
        let b' := s.stampMembers b n
        let s := (s.putBand b').endSuspension b
        let s := (g.pages.zipIdx).foldl (fun s x => programPage b g.row s x) s
        let host := (g.pages.filter (fun x => match x.kind with
          | .destage _ => true
          | .direct _ _ _ => true
          | _ => false)).length
        let data := (g.pages.filter (fun x => x.kind != .filler)).length
        let s := (s.count48 F.ftHostPagesCount 0x60028 host).count48 F.ftProgPagesCount 0x60030 data
        let s := (s.cFt 0x71 b.stream data)
        let s := b.members.foldl (fun s m => s.cFch m.chan 0x91 1) s
        let s := if b'.rows = s.rowsPerMember b.stream then
            s.setBand band (some { b' with state := .closed, closedAt := s.nowDtb })
          else s
        (s.showFlash.eraseEmpty.showVictim).issueAll
    | _, _ => s

/-- PAD_TIMER (R245): a direct write has waited PadUs. -/
def execPadTimer (stream : Nat) (s : State) : Outcome State Fault Refusal :=
  .next <|
    let wait := max 1 (s.get F.ftCtlPadUs) * 100000
    let due := s.ft.staged.any (fun x => x.page.stream = stream && match x.kind with
      | .direct _ _ since => since + wait ≤ s.clk
      | _ => false)
    if !due || !s.ftWorks then s
    else
      match s.streamBand stream with
      | (s, none) => s
      | (s, some b) =>
        let n := s.groupPages b - (s.ft.staged.filter (fun x => x.page.stream = stream)).length
        let pad : Staged := { kind := .filler, page := { blankPage with stream := stream }, dead := false }
        (s.setFt { s.ft with staged := s.ft.staged ++ List.replicate n pad }).issueGroup stream

/-! ### Relocation and reclaim (R242, R248, R249, R252) -/

/-- RELOCATION (R242, R252, R255, R283): the valid pages of a Degraded or queued band are copied to stream 6. -/
def execRelocation (band : Nat) (s : State) : Outcome State Fault Refusal :=
  .next <|
    match s.band? band with
    | none => s
    | some b =>
      if !s.ftWorks || !(b.degraded || b.queued) || b.state = .erasing || s.bandBusy band then s
      else
        let s := if b.state = .opened then
            s.setBand band (some { b with state := .closed, queued := true, closedAt := s.nowDtb })
          else s.queueReloc band
        (s.copyPages (s.validPages band) 6).eraseEmpty

/-- The victim of R249: a Closed band that is not Degraded, with the fewest valid pages; the older on ties. -/
def State.coppiceVictim (s : State) : Option Band :=
  (s.fm.bands.filter (fun b => b.state = .closed && !b.degraded)).foldl (fun (m : Option Band) b =>
    match m with
    | none => some b
    | some x =>
      let vb := (s.validPages b.num).length
      let vx := (s.validPages x.num).length
      if vb < vx || (vb = vx && b.closedAt < x.closedAt) then some b else m) none

/-- COPPICE_RECLAIM (R248, R249). -/
def execCoppiceReclaim (s : State) : Outcome State Fault Refusal :=
  .next <|
    let active := s.freeBelow s.gcStart || (s.on F.ftGcStatusActive && s.freeBelow (s.gcStart + 10))
    let s := s.put F.ftGcStatusActive (active && s.ftWorks)
    if !active || !s.ftWorks then s
    else
      match s.ft.victim with
      | some v => s.copyPages (s.validPages v) 4
      | none =>
        match s.coppiceVictim with
        | none => s
        | some b =>
          let l := s.validPages b.num
          let s := s.setFt { s.ft with victim := some b.num, copied := l.length }
          (s.showVictim.copyPages l 4).eraseEmpty

/-- BAND_ERASE_COMPLETE (R234, R246, R248, R249): the erase waits for reads of the band. -/
def execBandEraseComplete (band : Nat) (s : State) : Outcome State Fault Refusal :=
  .next <|
    match s.band? band with
    | none => s
    | some b =>
      if b.state != .erasing || s.bandSuspended b
          || s.ft.reads.any (fun r => (s.memberAt? r.loc).any (fun x => x.1.num = band)) then s
      else
        let s := b.members.foldl (fun s m => s.cFch m.chan 0x92 1) (s.count 608 640 0x72 0 1)
        s.releaseBand b

/-! ### Failures (R250, R251, R253, R254) -/

/-- PROGRAM_FAILURE (R250). Assumption 125 (DEDUCED). -/
def execProgramFailure (chan die plane : Nat) (s : State) : Outcome State Fault Refusal :=
  .next <|
    let hit := fun (b : Band) => s.bandBusy b.num && b.members.any (fun m => m.chan = chan && m.die = die)
    match s.fm.bands.find? hit with
    | none => s
    | some b =>
      match b.members.find? (fun m => m.chan = chan && m.die = die) with
      | none => s
      | some m =>
        let s := (s.failGroup b.num).markBad (blockNum chan die (plane % 4) (m.blocks.getD (plane % 4) 0)) 1
        let s := (s.bump (F.ftChProgFailCountCount chan)).endSuspension b
        ((s.closeBroken b.num).showFlash).issueAll

/-- ERASE_FAILURE (R251). -/
def execEraseFailure (chan die plane : Nat) (s : State) : Outcome State Fault Refusal :=
  .next <|
    match s.fm.bands.find? (fun b => b.state = .erasing && b.members.any (fun m => m.chan = chan && m.die = die)) with
    | none => s
    | some b =>
      match b.members.find? (fun m => m.chan = chan && m.die = die) with
      | none => s
      | some m =>
        if s.ft.reads.any (fun r => (s.memberAt? r.loc).any (fun x => x.1.num = b.num)) then s
        else
          let s := s.markBad (blockNum chan die (plane % 4) (m.blocks.getD (plane % 4) 0)) 2
          (s.bump (F.ftChEraseFailCountCount chan)).releaseBand b

/-! ### Registers (R227, R244) -/

/-- FT_GRANT_ENTRY_WRITE (R227, R259): ignored where it overlaps a grant of another domain. -/
def execFtGrantEntryWrite (value : BitVec 64) (s : State) : Outcome State Fault Refusal :=
  .next <|
    let i := s.get F.ftGrantCursorIndex
    let v : Word := value &&& 0x80003FFFFFFFFFFF
    let meets := fun (g : Nat × Word) => g.1 != i && bits g.2 63 1 = 1 && bits g.2 36 10 != bits v 36 10
      && bits g.2 0 18 < bits v 0 18 + bits v 18 18 && bits v 0 18 < bits g.2 0 18 + bits g.2 18 18
    if bits v 63 1 = 1 && s.ft.grants.any meets then s
    else
      let old := ((Store.find? s.ft.grants i).map (fun g => bits g 36 10)).getD (bits v 36 10)
      (((s.setFt { s.ft with grants := Store.insert i v s.ft.grants }).tidyHints).touchKey old).touchKey (bits v 36 10)

/-- FT_STREAM_CFG_WRITE (R244): ignored where it would break a limit on open bands. -/
def execFtStreamCfgWrite (stream : Nat) (value : BitVec 32) (s : State) : Outcome State Fault Refusal :=
  .next <|
    let n := value.toNat % 64
    let all := (((List.range 8).filter (fun i => i != stream)).map (fun i => s.get (F.ftStreamCfgBands i))).sum + n
    if 8 ≤ stream || n = 0 || 32 < n || 64 < all || 4 * s.dieGroups < all then s
    else (s.set (F.ftStreamCfgBands stream) n).issueGroup stream

end Sys2Proof.Machine
end

