-- ==== Sys2Proof/Machine/Topiary.lean ====
section
/-!
DEFINITION. Topiary (chapter 8): hints, heat, migrations, Hazel ownership, the F-cache and snapshot captures.
-/
namespace Sys2Proof.Machine

/-- Fields of a hint descriptor (Table 11.13). -/
def Desc.hintKind (d : Desc) : Nat := d.num 16 1
def Desc.hintSpace (d : Desc) : Nat := d.num 17 1
def Desc.hintValue (d : Desc) : Nat := d.num 18 2
def Desc.hintBase (d : Desc) : Nat := d.num 20 4
def Desc.hintCount (d : Desc) : Nat := d.num 24 4

namespace State

/-! ### Hints (R258, R259) -/

/-- The kind, space and value of a hint are allowed (Table 8.2). -/
def hintFormed (d : Desc) : Bool :=
  let v := d.hintValue
  let sp := d.hintSpace
  d.hintCount != 0 && match d.hintKind with
    | 1 => sp ≤ 1 && (v ≤ 3 || v = 15)
    | 2 => sp = 0 && v ≤ 1
    | 3 => sp ≤ 1 && (v ≤ 255 || v = 0xFFFF)
    | 4 => sp = 2 && v ≤ 1 && d.hintCount = 1 && d.hintBase ≤ 255
    | 5 => sp = 2 && v ≤ 1 && d.hintCount = 1 && d.hintBase ≤ 255
    | _ => false

/-- The group is granted to the domain (R40, R258). -/
def groupOf (s : State) (g dom : Nat) : Bool := (s.group g).valid && (s.group g).domain = dom

/-- What refuses a hint (R258). -/
def hintRefusal (s : State) (d : Desc) : Option Nat :=
  let dom := s.ringDom d.ring
  let last := d.hintBase + d.hintCount
  if !hintFormed d then some stBadDescriptor
  else if (d.hintSpace = 0 && s.winPlots < last) || (d.hintSpace = 1 && s.get F.ftNsSizeUnits < last * 65536) then
    some stRangeFault
  else if (d.hintSpace = 0 && !s.windowGranted dom (d.hintBase * plotBytes) (d.hintCount * plotBytes))
      || (d.hintSpace = 1 && !(List.range d.hintCount).all (fun k => s.gibGranted dom (d.hintBase + k)))
      || (d.hintSpace = 2 && !s.groupOf d.hintBase dom)
      || (d.hintKind = 3 && d.hintValue ≤ 255 && !s.groupOf d.hintValue dom) then some stDomainDenied
  else none

/-- A started hint of a kind: refused with its count and event, waiting for the journal, or to be recorded. -/
def onHint (s : State) (ring handle kind : Nat) (f : Desc → State → State) : State :=
  match s.startedDesc? ring handle opHint with
  | none => s
  | some d =>
    if d.hintKind != kind then s
    else match s.hintRefusal d with
      | some st =>
        ((s.bump F.topHintRefusedCountCount).raise 148 sevNotice 0 noDom [d4 (s.ringDom ring), d4 kind, d4 st]).finish
          ring handle st 0
      | none => if s.journalFull false then s else f d (s.cTop 0x3A 1)

/-- The window plots, or the namespace GiBs, of a hint. -/
def hintRange (d : Desc) : List Nat := (List.range d.hintCount).map (· + d.hintBase)

/-- The hints of a namespace GiB. -/
def nsHint (s : State) (gib : Nat) : NsHint :=
  (s.md.nsHints.find? (fun h => h.gib = gib)).getD { gib := gib, dom := 0, heat := none, group := none }

/-! ### Free spans and Hazel ownership (R263, R279 to R281) -/

/-- Free spans of one channel's width on a die. -/
def freeSpans (s : State) (d : Nat) : Nat :=
  (((List.range 4).map (fun k => 4 * d + k)).filter s.chanOpen).foldl (fun n c =>
    n + ((List.range (spanRows / 8192)).filter (fun b => s.rowsFree [c] (b * 8192) 8192)).length) 0

/-- Window plots of a group. -/
def groupWindow (s : State) (g : Nat) : List Nat := (s.groupPlots g).filter (fun i => i < s.winPlots)

/-- A committed HDM decoder covers a plot of the group (R279). -/
def groupMapped (s : State) (g : Nat) : Bool := (s.groupWindow g).any s.hostMapped

/-- The die can hold every plot of the group. -/
def dieHolds (s : State) (g d : Nat) : Bool := (s.groupWindow g).length ≤ s.freeSpans d + s.groupOn g d

/-- The die of a grant: among dies that can hold the group, the one with most of its plots, then by load. -/
def grantDie? (s : State) (g : Nat) : Option Nat :=
  (s.diesByLoad.filter (s.dieHolds g)).foldl (fun (m : Option Nat) d => match m with
    | none => some d
    | some b => if s.groupOn g b < s.groupOn g d then some d else m) none

/-- A kernel of the group is queued, staged or running. -/
def groupBusy (s : State) (g : Nat) : Bool := s.hz.kernels.any (fun k => k.group = some g)

/-- Split shows that pins or capacity keep the group from lying on one die (R260). -/
def colocate (s : State) (g : Nat) : State :=
  if !(s.group g).colocate then s
  else
    let d := s.groupDie g
    let off := (s.groupWindow g).filter (fun i => (s.plotDie? i).isSome && s.plotDie? i != some d)
    let split := off.any (fun i => (s.plot i).pinned) || s.freeSpans d < off.length
    let s := if split && !(s.group g).split then
        (s.setGroup g { s.group g with split := true }).raise 152 sevNotice 0 noDom [d4 g]
      else if !split && (s.group g).split then s.setGroup g { s.group g with split := false }
      else s
    (off.filter (fun i => !(s.plot i).pinned)).foldl (fun s i => s.wantMove i 4) s

/-- A HazelOwn request at work. -/
def hazelAt? (s : State) (g : Nat) : Option (Nat × Nat × Nat × Nat) := s.top.hazel.find? (fun x => x.1 = g)

def setHazel (s : State) (g : Nat) (v : Option (Nat × Nat × Nat × Nat)) : State :=
  { s with top := { s.top with hazel := putBy (fun (x : Nat × Nat × Nat × Nat) => x.1 = g) v s.top.hazel } }

/-- The request ends without a grant. -/
def hazelEnd (s : State) (g ring handle status : Nat) : State :=
  ((s.setHazel g none).setGroup g { s.group g with hazelRequested := false }).finish ring handle status 0

/-- Step 2 of R280 is done once no plot of the group moves or lies elsewhere; step 3 repeats the decoder check and runs
an Invalidate over each plot. -/
def hazelStep (s : State) (g : Nat) : State :=
  match s.hazelAt? g with
  | some (_, 2, ring, handle) =>
    let d := (s.group g).hazelDie
    if (s.groupWindow g).any (fun i => s.md.migrations.any (fun m => m.plot = i)
        || ((s.plotDie? i).isSome && s.plotDie? i != some d)) then s
    else if s.groupMapped g then s.hazelEnd g ring handle stHostMapped
    else
      let s := s.setHazel g (some (g, 3, ring, handle))
      let w : RangeWait := { op := opInvalidate, first := 0, sectors := pagesPerPlot, dom := 0, owner := 2, ring := 0, handle := g }
      (s.groupWindow g).foldl (fun s i => s.startRange { w with first := i * pagesPerPlot, ring := i }) s
  | _ => s

/-- HAZEL_GRANT_COMPLETE: step 4 of R280, once no Invalidate of the group runs or waits. -/
def hazelGrant (s : State) (g : Nat) : State :=
  match s.hazelAt? g with
  | some (_, 3, ring, handle) =>
    if s.lc.ops.any (fun o => o.owner = 2 && o.handle = g) || s.lc.waits.any (fun w => w.owner = 2 && w.handle = g) then s
    else
      let s := (s.groupWindow g).foldl (fun s i => s.setPlot { s.plot i with hazelOwned := true }) s
      let s := (s.setGroup g { s.group g with hazelGranted := true }).newDecision
      ((s.setHazel g none).raise 147 sevInfo 0 noDom [d4 g, d8 s.md.decisions]).finish ring handle stOk 0
  | _ => s

/-- HAZEL_RELEASE_EFFECT (R281): the flags clear once every kernel of the group has ended. -/
def hazelRelease (s : State) (g : Nat) : State :=
  if !s.hz.releasing.contains g || s.groupBusy g then s
  else
    let s := { s with hz := { s.hz with releasing := s.hz.releasing.filter (fun x => x != g) } }
    let s := ((s.groupPlots g).filter (fun i => (s.plot i).hazelOwned)).foldl (fun s i =>
      s.setPlot { s.plot i with hazelOwned := false }) s
    let s := (s.setGroup g { s.group g with hazelGranted := false, hazelRequested := false }).newDecision
    s.raise 147 sevInfo 0 noDom [d4 g, d8 s.md.decisions]

/-! ### Migrations (R265 to R272) -/

/-- MaxMigrations in effect. -/
def maxMigrations (s : State) : Nat := max 1 (min 8 (s.get F.topCtlMaxMigrations))

/-- The queue of pending moves: reasons 1 to 3 first, then by reason and plot (R267). -/
def pendingMoves (s : State) : List Migration :=
  (s.md.migrations.filter (fun m => m.state = .pending)).mergeSort
    (fun a b => decide (a.reason < b.reason || (a.reason = b.reason && a.plot ≤ b.plot)))

/-- The cause of a move of reason 4 to 6 has been withdrawn (Table 8.4). -/
def moveWithdrawn (s : State) (m : Migration) : Bool :=
  let p := s.plot m.plot
  if m.reason = 4 then match p.group with
    | some g => !(s.hazelAt? g).isSome && (!(s.group g).colocate || p.pinned)
    | none => true
  else (m.reason = 5 || m.reason = 6) && p.pinned

/-- A die holds at least 1 % of its spare pages free, and has online ranks (R272). -/
def dieHasSpares (s : State) (d : Nat) : Bool :=
  let used := ((List.range 4).map (fun k => s.sparesUsed (4 * d + k))).sum
  (List.range 4).any (fun k => s.chanOpen (4 * d + k)) && 4 * sparesPerChannel ≤ 100 * (4 * sparesPerChannel - used)

/-- The lowest-written free span of the plot's width on its die (R265). -/
def wearSpan? (s : State) (e : Span) : Option (List Nat × Nat) := s.spanOn? (spanDie e) e.chans.length

/-- The destination of a move (R263, R265, R266, R272, R280). -/
def moveSpan? (s : State) (m : Migration) : Option (List Nat × Nat) :=
  let p := s.plot m.plot
  let c := s.plotClass m.plot
  let w := if c ≤ 1 then 4 else if c = 2 then 2 else 1
  let owned := match p.group with
    | some g => if (s.group g).hazelGranted || (s.hazelAt? g).isSome then some (s.group g).hazelDie else none
    | none => none
  match owned with
  | some d => s.spanOn? d w
  | none =>
    if m.reason = 3 then (s.diesByLoad.filter s.dieHasSpares).findSome? (fun d => s.spanOn? d w)
    else if m.reason = 4 then s.spanOn? (s.groupDie (p.group.getD 0)) w
    else if m.reason = 5 then p.span.bind s.wearSpan?
    else if m.reason = 6 then s.diesByLoad.head?.bind (fun d => s.spanOn? d w)
    else s.spanFor? p

/-- The cursor moves, journalled each time it has advanced by 4096 pages (R270). -/
def moveCursor (s : State) (m : Migration) (c : Nat) : State :=
  if m.journalled + 4096 ≤ c then s.setMig m.plot (some { m with cursor := c, journalled := c })
  else
    { s with md := { s.md with migrations := s.md.migrations.map (fun (x : Migration) =>
        if x.plot = m.plot then { m with cursor := c } else x) } }

/-- The next page to copy, in rotated order: pages that were never written are passed over (R268). -/
def nextCopy? (s : State) (m : Migration) : Option (Nat × Nat) :=
  let p := s.plot m.plot
  let l := (s.writtenPages m.plot).map (fun x => (p.rotate (x % pagesPerPlot), x))
  (l.filter (fun x => m.cursor ≤ x.1)).foldl (fun (b : Option (Nat × Nat)) x => match b with
    | none => some x
    | some y => if x.1 < y.1 then some x else b) none

/-- The cursor has passed N: the plot table entry switches to the destination (Table 8.4, R272). -/
def switchPlot (s : State) (m : Migration) : State :=
  let p := s.plot m.plot
  let s := s.setPlot { p with span := m.dst, readOnly := p.readOnly && m.reason != 3 }
  s.setMig m.plot (some { m with state := .releasing, cursor := 0, journalled := 0, dst := none, old := p.span })

/-- Go on with the copy: the next page as an internal rewrite, or the switch. -/
def copyOn (s : State) (m : Migration) : State :=
  match s.nextCopy? m, (s.plot m.plot).span, m.dst with
  | some (r, page), some e, some d =>
    let s := s.moveCursor m r
    s.addRewrite (.migration m.plot) (some page) (s.throughExc (e.at r)) (s.throughExc (d.at r))
  | none, _, some _ => s.switchPlot m
  | _, _, _ => s

/-! ### Heat (R261, R264, R266) -/

/-- The placed window plots, hottest first; lower number on ties. -/
def hottest (s : State) : List Nat :=
  let h := fun (i : Nat) => Store.read (fun _ => 0) s.top.heat i
  ((s.md.plots.filter (fun p => p.span.isSome && p.idx < 0x10000)).map (·.idx)).mergeSort
    (fun a b => decide (h b < h a || (h a = h b && a ≤ b)))

/-- The class of place `k` of `n` (R261). -/
def rankClass (k n : Nat) : Nat := if k * 16 < n then 0 else if k * 4 < n then 1 else if k * 2 < n then 2 else 3

/-- A plot takes a measured class, and the MoveInterval of its class from its next restart (R264). -/
def setMeasured (s : State) (i c : Nat) : State :=
  let s := { s with top := { s.top with measured := Store.insert i c s.top.measured } }
  let p := s.plot i
  let v := s.intervalFor (s.plotClass i)
  if v = p.interval then s
  else
    let now := (Store.find? s.mt.inForce i).getD p.interval
    { s with mt := { s.mt with inForce := Store.insert i now s.mt.inForce } }.setPlot { p with interval := v }

/-- Loads of the dies, and since when each has exceeded the mean by BalanceMargin (R266). -/
def noteLoads (s : State) : State :=
  let l := (List.range s.part.dies).map (fun d => (d, (s.dieLoad d).1))
  let sum := (l.map (·.2)).sum
  let hot := fun (x : Nat × Nat) => sum * (100 + s.get F.topHeatCfgBalanceMargin) < x.2 * 100 * s.part.dies
  let v := (l.filter hot).map (fun x => (x.1, (Store.find? s.top.overSince x.1).getD s.clk))
  { s with top := { s.top with overSince := v } }

/-! ### F-cache (R274, R275) -/

/-- LowMark in effect. -/
def lowMark (s : State) : Nat :=
  let h := min 100 (s.get F.topFcacheCfgHighMark)
  let l := s.get F.topFcacheCfgLowMark
  if h ≤ l then h - 10 else l

/-- The slot's hold time has expired, or its plot is being given up (R274, R275). -/
def slotDue (s : State) (x : Slot) : Bool :=
  let hold := max 1 (s.get F.topFcacheHoldSeconds)
  let age := s.nowSec - x.written
  (hold ≤ age && 2 ≤ s.unitClass x.unit) || 4 * hold ≤ age || s.top.shrunk.contains (fcachePlot (x.idx / slotsPerPlot))

/-- Destage in order until so many slots are in use or on their way. -/
def destageDown (s : State) (target : Nat) : List Slot → Nat → State
  | [], _ => s
  | x :: rest, n => if n < target then s else destageDown (s.startDestage x) target rest (n - 1)

/-! ### Captures (R277, R278, R320, R322) -/

/-- Pages that the HBM3E staging and the snapshot staging plots hold. -/
def stagingPages (s : State) : Nat := s.part.pick 2097152 1048576
def stagingPlotPages (s : State) : Nat :=
  (s.md.plots.filter (fun p => 0x20000 ≤ p.idx && p.span.isSome)).length * pagesPerPlot

def staged (s : State) : Nat := (s.md.captures.filter (fun c => match c.place with
  | .staging => true
  | .programming _ => true
  | _ => false)).length
def inPlots (s : State) : Nat := (s.md.captures.filter (fun c => c.place = .plots)).length

/-- A snapshot becomes Incomplete (R278, R307, R322). -/
def snapIncomplete (s : State) (x : Snapshot) (cause : Nat) : State :=
  (s.journal (.snapState { x with state := .incomplete })).raise 123 sevError 0 noDom
    [d4 x.slot, d4 x.epoch, d4 (Config.codeOf 8 cause)]

/-- Snapshot units in use. -/
def unitsUsed (s : State) : List Nat := (s.md.captures.filterMap (fun c => match c.place with
  | .space u => some u
  | .programming u => some u
  | _ => none)).eraseDups

/-- The lowest free unit of the snapshot space. -/
def freeUnit? (s : State) : Option Nat :=
  let l := s.unitsUsed
  (List.range (min (s.get F.ftSnapSizeUnits) (l.length + 1))).find? (fun u => !l.contains u)

/-- A capture as a host block of a snapshot unit. -/
def captureBlock (c : Capture) : HostBlock :=
  { lines := (List.range 64).map (fun i => ((c.lines.find? (fun x => x.idx = i)).map (·.data)).getD 0),
    tag := (c.lines.head?.map (·.tag)).getD { dom := 0, gen := 0, poison := false } }

/-- SNAPSHOT_SPACE_FULL: capture stops for the snapshot, and it is Incomplete (R278). -/
def spaceFull (s : State) (epoch : Nat) : State :=
  match s.md.snaps.find? (fun x => x.epoch = epoch && x.state = .active) with
  | none => s
  | some x =>
    ((s.put F.topStatusSnapFull true).raise 151 sevError 0 noDom [d4 epoch]).snapIncomplete x 0

/-- Captures drain to the staging plots while the HBM3E staging is more than 75 % full (R277). -/
def drainStaging (s : State) : State :=
  if 4 * s.staged ≤ 3 * s.stagingPages || s.stagingPlotPages ≤ s.inPlots then s
  else match s.md.captures.find? (fun c => c.place = .staging) with
    | some c => s.journal (.snapIndex { c with place := .plots })
    | none => s

/-- Four captures are packed into a snapshot unit and staged for stream 5 (R276, R277). -/
def packSnapshot (s : State) : State :=
  let l := (s.md.captures.filter (fun c => c.place = .plots)) ++ (s.md.captures.filter (fun c => c.place = .staging))
  if l.length < 4 || !s.ftWorks then s
  else
    match s.freeUnit? with
    | none => s.spaceFull ((l.map (·.epoch)).foldl max 0)
    | some u =>
      let four := l.take 4
      let s := four.foldl (fun s c => s.journal (.snapIndex { c with place := .programming u })) s
      let (v, s) := s.newVersion
      let blocks := (four.zipIdx).map (fun x => (x.2, captureBlock x.1))
      s.stagePage (.snapshot ((four.map (·.epoch)).foldl max 0))
        { blankPage with kind := 0, stream := 5, unit := s.get F.ftNsSizeUnits + u, version := v, blocks := blocks }

/-! ### Sizes (R274) -/

/-- Place the F-cache plots and the snapshot staging plots that have no span yet. -/
def placeRegions (s : State) : State :=
  let l := (List.range (s.get F.topFcacheCfgPlots)).map fcachePlot ++ (List.range (s.get F.topSnapCfgPlots)).map stagingPlot
  (l.foldl (fun s i => if (s.plot i).span.isSome then s else (s.placePlot i).1) s).showFcache

end State

open Host State

/-! ### Hint commands -/

/-- HEAT (R258, R259, R262). -/
def execHeat (ring handle : Nat) (s : State) : Outcome State Fault Refusal :=
  .next (s.onHint ring handle 1 (fun d s =>
    let v := if d.hintValue = 15 then none else some d.hintValue
    let dom := s.ringDom ring
    let s := (hintRange d).foldl (fun s i =>
      if d.hintSpace = 0 then s.setPlot { s.plot i with heat := v, hinted := dom }
      else s.journal (.nsHintSet { s.nsHint i with heat := v, dom := dom })) s
    s.finish ring handle stOk 0))

/-- PIN (R258 to R260). -/
def execPin (ring handle : Nat) (s : State) : Outcome State Fault Refusal :=
  .next (s.onHint ring handle 2 (fun d s =>
    let s := (hintRange d).foldl (fun s i =>
      s.setPlot { s.plot i with pinned := d.hintValue = 1, hinted := s.ringDom ring }) s
    s.finish ring handle stOk 0))

/-- GROUP (R258 to R260): a range moves into a group, or out of its group. -/
def execGroup (ring handle : Nat) (s : State) : Outcome State Fault Refusal :=
  .next (s.onHint ring handle 3 (fun d s =>
    let v := if d.hintValue = 0xFFFF then none else some d.hintValue
    let dom := s.ringDom ring
    let s := (hintRange d).foldl (fun s i =>
      if d.hintSpace = 0 then
        let p := s.plot i
        s.setPlot { p with group := v, hinted := dom, hazelOwned := p.hazelOwned && decide (p.group = v) }
      else s.journal (.nsHintSet { s.nsHint i with group := v, dom := dom })) s
    let s := match v with
      | some g => s.colocate g
      | none => s
    s.finish ring handle stOk 0))

/-- COLOCATE (R258 to R260). -/
def execColocate (ring handle : Nat) (s : State) : Outcome State Fault Refusal :=
  .next (s.onHint ring handle 4 (fun d s =>
    let g := d.hintBase
    let on := d.hintValue = 1
    let s := s.setGroup g { s.group g with colocate := on, split := (s.group g).split && on }
    (s.colocate g).finish ring handle stOk 0))

/-- HAZELOWN (R258, R259, R279 to R281): a request completes when the grant has been decided. -/
def execHazelown (ring handle : Nat) (s : State) : Outcome State Fault Refusal :=
  .next (s.onHint ring handle 5 (fun d s =>
    let g := d.hintBase
    let v := s.group g
    if d.hintValue = 0 then
      let s := if v.hazelGranted then
          let s := s.setGroup g { v with hazelRequested := false }
          { s with hz := { s.hz with releasing := (s.hz.releasing.filter (fun x => x != g)) ++ [g] } }
        else s
      (s.hazelRelease g).finish ring handle stOk 0
    else if (s.hazelAt? g).isSome then s
    else if v.hazelGranted then s.finish ring handle stOk 0
    else if !s.on F.topCtlHazelGrantEnable || !v.hazelAllowed then s.finish ring handle stDomainDenied 0
    else if s.groupMapped g then s.finish ring handle stHostMapped 0
    else match s.grantDie? g with
      | none => s.finish ring handle stResourceExhausted 0
      | some die =>
        let s := (s.setGroup g { v with hazelRequested := true, hazelDie := die }).setHazel g (some (g, 2, ring, handle))
        let off := (s.groupWindow g).filter (fun i => (s.plotDie? i).isSome && s.plotDie? i != some die)
        (off.foldl (fun s i => s.wantMove i 4) s).hazelStep g))

/-- TOP_GROUP_CFG_WRITE (R40, R260): ignored, with event 148, while the group has members or a grant. -/
def execTopGroupCfgWrite (value : BitVec 64) (s : State) : Outcome State Fault Refusal :=
  .next <|
    let g := s.get F.topGroupCursorGroup
    let v := s.group g
    let dom := bits value 0 10
    let valid : Bool := bits value 10 1 = 1
    let allowed : Bool := bits value 11 1 = 1
    let guarded := dom != v.domain || (v.valid && !valid) || (v.hazelAllowed && !allowed)
    let used := s.groupPlots g != [] || s.md.nsHints.any (fun h => h.group = some g) || v.hazelGranted
    if guarded && used then s.raise 148 sevNotice 0 noDom [d4 dom, d4 0, d4 stDomainDenied]
    else if s.journalFull false then s
    else s.setGroup g { v with domain := dom, valid := valid, hazelAllowed := allowed }

/-! ### Heat and balance -/

/-- HEAT_RANKING (R261, R264): every 10 s. -/
def execHeatRanking (s : State) : Outcome State Fault Refusal :=
  .next <|
    if s.clk < s.top.ranked + 10000000000 then s
    else
      let l := s.hottest
      let s := { s with top := { s.top with ranked := s.clk } }
      ((l.zipIdx).foldl (fun s x => s.setMeasured x.1 (rankClass x.2 l.length)) s).noteLoads

/-- HEAT_HALVING (R261): every HalfLife minutes; the counts of plots and the counters of units halve.
Assumption 55 (DEDUCED). -/
def execHeatHalving (s : State) : Outcome State Fault Refusal :=
  .next <|
    if s.clk < s.top.halved + max 1 (s.get F.topHeatCfgHalfLife) * 60000000000 then s
    else
      let half := fun (l : List (Nat × Nat)) => (l.map (fun x => (x.1, x.2 / 2))).filter (fun x => x.2 != 0)
      { s with top := { s.top with halved := s.clk, heat := half s.top.heat },
               ft := { s.ft with heat := half s.ft.heat } }

/-- BALANCE_MOVE (R266). -/
def execBalanceMove (s : State) : Outcome State Fault Refusal :=
  .next <|
    let s := s.noteLoads
    let time := max 1 (s.get F.topHeatCfgBalanceMinutes) * 60000000000
    let free := fun (i : Nat) =>
      let p := s.plot i
      !p.pinned && !(s.md.migrations.any (fun m => m.plot = i)) && match p.group with
        | some g => !(s.group g).colocate && !(s.group g).hazelGranted && !(s.hazelAt? g).isSome
        | none => true
    match s.top.overSince.find? (fun x => x.2 + time ≤ s.clk) with
    | none => s
    | some x =>
      if !s.on F.topCtlBalanceEnable || (s.top.lastBalance != 0 && s.clk < s.top.lastBalance + 60000000000) then s
      else match s.hottest.find? (fun i => s.plotDie? i = some x.1 && free i) with
        | some i => { s with top := { s.top with lastBalance := s.clk } }.wantMove i 6
        | none => s

/-! ### Migrations -/

/-- READ_ONLY_PLOT_MIGRATION (R272). -/
def execReadOnlyPlotMigration (plot : Nat) (s : State) : Outcome State Fault Refusal :=
  .next (if (s.plot plot).readOnly && (List.range s.part.dies).any s.dieHasSpares then s.wantMove plot 3 else s)

/-- MIGRATION_START (R263, R267 to R270, R283): the first pending move takes a free place, or is dropped. -/
def execMigrationStart (s : State) : Outcome State Fault Refusal :=
  .next <|
    match s.pendingMoves with
    | [] => s
    | m :: _ =>
      if s.journalFull false then s
      else if s.moveWithdrawn m then s.setMig m.plot none
      else if s.maxMigrations ≤ (s.md.migrations.filter (fun x => x.state = .copying || x.state = .paused)).length
          || s.get F.perStatusState = 4 then s
      else match s.moveSpan? m with
        | none => s.raise 145 sevNotice 0 noDom [d4 m.plot, d4 m.reason]
        | some x =>
          match s.makeSpan x with
          | (_, none) => s.raise 145 sevNotice 0 noDom [d4 m.plot, d4 m.reason]
          | (s, some e) =>
            let m := { m with state := .copying, cursor := 0, journalled := 0, dst := some e }
            ((s.setMig m.plot (some m)).pauseMigrations).copyOn m

/-- MIGRATION_PAGE_COPY (R268 to R270): the copy of the page at the cursor is complete. -/
def execMigrationPageCopy (plot : Nat) (s : State) : Outcome State Fault Refusal :=
  .next <|
    match s.migration? plot with
    | none => s
    | some m =>
      if m.state != .copying || s.journalFull false then s
      else match s.mt.rewrites.find? (fun (x : Rewrite) => decide (x.kind = RewriteKind.migration plot)) with
        | some x =>
          if !x.done then s
          else
            let s := { s with mt := { s.mt with rewrites := s.mt.rewrites.filter (fun y => y.id != x.id) } }
            let s := s.moveCursor m (m.cursor + 1)
            match (s.cTop 0x38 1).migration? plot with
            | some m => (s.cTop 0x38 1).copyOn m
            | none => s
        | none => s.copyOn m

/-- MIGRATION_RELEASE (R200, R217, R263, R270, R274, R280). -/
def execMigrationRelease (plot : Nat) (s : State) : Outcome State Fault Refusal :=
  .next <|
    match s.md.migrations.find? (fun m => m.plot = plot && decide (m.state = MigState.releasing)) with
    | none => s
    | some m =>
      if s.journalFull false then s
      else
        let s := s.setMig plot none
        let s := match m.old with
          | some e => (s.releaseSpan e).spanFreed
          | none => s
        let s := (s.bump F.topMigrateCountCount).raise 144 sevInfo 0 noDom [d4 plot, d4 m.reason, d8 m.decision]
        let s := s.drainStep
        match (s.plot plot).group with
        | some g => (s.hazelStep g).hazelGrant g
        | none => s

/-! ### F-cache and captures -/

/-- SLOT_DESTAGE_DECISION (R274, R275). -/
def execSlotDestageDecision (s : State) : Outcome State Fault Refusal :=
  .next <|
    let s := (s.fm.slots.filter s.slotDue).foldl (fun s x => s.startDestage x) s
    let s := s.showFull
    if !s.on F.topStatusFcacheFull then s
    else
      let waiting := s.fm.slots.filter (fun x => x.destaging.isNone)
      let order := waiting.mergeSort (fun a b =>
        let x := s.unitClass a.unit
        let y := s.unitClass b.unit
        decide (y < x || (x = y && a.written ≤ b.written)))
      let target := (s.lowMark * s.get F.topFcacheStatusTotal + 99) / 100
      s.destageDown target order waiting.length

/-- PAGE_CAPTURE_COMPLETE (R277, R278, R320): the page's media content is in staging for the latest snapshot that lacks
it, and the write that waits for it may proceed. -/
def execPageCaptureComplete (page : Nat) (s : State) : Outcome State Fault Refusal :=
  .next <|
    if !s.per.capturing.contains page || s.journalFull false then s
    else
      let done := fun (s : State) =>
        { s with per := { s.per with capturing := s.per.capturing.filter (fun p => p != page) } }
      match s.mt.writes.findSome? (fun w => if w.page = some page && decide (w.phase = WritePhase.waiting) then
          s.captureFor? w else none) with
      | none => done s
      | some x =>
        if s.stagingPages ≤ s.staged && s.stagingPlotPages ≤ s.inPlots then
          if s.on F.topStatusStagingFull then s
          else (s.put F.topStatusStagingFull true).raise 150 sevWarning 0 noDom [d4 (s.staged + s.inPlots)]
        else
          let lines := if s.pageWritten page then ((s.locate page).map s.mediaLines).getD [] else []
          let c : Capture := { epoch := x.epoch, page := page, whole := true, lines := lines, place := .staging }
          let s := ((done s).cPer 0x34 1).journal (.snapIndex c)
          (((s.put F.topStatusStagingFull false).drainStaging).packSnapshot).showStaged

/-- RANGE_OP_COMPLETE (R126, R149, R280): a slot completes its descriptor or Topiary's request. -/
def execRangeOpComplete (slot : Nat) (s : State) : Outcome State Fault Refusal :=
  .next <|
    match s.lc.ops.find? (fun o => o.slot = slot) with
    | none => s
    | some o =>
      if !s.opDone o then s
      else
        let (s, st) := s.endOp o
        if o.owner = 1 then (s.finish o.ring o.handle st (o.skipped % 4096)).startRings
        else if o.owner = 2 then (s.hazelGrant o.handle).startRings
        else s.startRings

end Sys2Proof.Machine
end

