-- ==== Sys2Proof/Machine/Persist.lean ====
section
/-!
DEFINITION. Persistence (chapter 9): journals as they become durable, checkpoints, the power-fail flush, recovery, the
check rebuild and snapshot deletion.
-/
namespace Sys2Proof.Machine
namespace State

/-! ### Checkpoints (R297 to R301) -/

/-- Bytes of a journal since S of the last checkpoint of its kind. -/
def journalSince (s : State) (ftier : Bool) : Nat :=
  let since := ((s.ckpt ftier).root.map (·.s)).getD 0
  (s.per.journal.filter (fun r => r.ftier = ftier && since ≤ r.seq)).length * 64

/-- A trigger of R297 or R298 holds. -/
def ckptDue (s : State) (ftier : Bool) : Bool :=
  let c := s.ckpt ftier
  c.last + max 1 (s.get F.perCkptCfgMinutes) * 60000000000 ≤ s.clk
    || max 1 (s.get F.perCkptCfgGiB) * 2 ^ 30 ≤ c.bytes
    || 96 * 2 ^ 20 ≤ s.journalSince ftier || 224 * 2 ^ 20 ≤ s.journalBytes ftier

/-- A checkpoint of this kind can run now: an F-tier image needs the F-tier (R254, R299). -/
def ckptMay (s : State) (ftier : Bool) : Bool := s.perUp && (!ftier || s.ftReads)

/-- Start a checkpoint of a kind if it can run. -/
def tryCkpt (s : State) (ftier : Bool) : State := if s.ckptMay ftier then s.startCkpt ftier else s

/-- Record the stamp time in the parameter store (R63). -/
def recordStamp (s : State) : State :=
  { s with time := { s.time with recorded := some (s.stampNow.1, s.time.standby), standbyOk := true } }

/-- Step 4 and 5 of R299: the root, the journal space before the previous S, and what waited for the checkpoint. -/
def finishCkpt (s : State) (ftier : Bool) (since : Nat) : State :=
  let c := s.ckpt ftier
  let kept := (c.root.map (·.s)).getD since
  let root : Root := { s := since, image := c.image, time := s.nowDtb }
  let s := s.setCkpt ftier { c with phase := .idle, root := some root, kept := kept }
  let s := { s with per := { s.per with journal := s.per.journal.filter (fun r => r.ftier != ftier || kept ≤ r.seq) } }
  let s := (s.recordStamp.showMeta).set (if ftier then F.perCkptStatusFtierTime else F.perCkptStatusWindowTime) s.nowSec
  let s := s.raise 117 sevInfo 0 noDom [d4 (ckptKind ftier), d8 since, d8 (s.clk - c.last)]
  let s := if ftier then s
    else { s with per := { s.per with sizeRecorded := s.winPlots, sizeCleared := false } }.leaveReadOnly 3
  if s.per.window.phase = .idle && s.per.ftier.phase = .idle then
    let l := s.per.ckptWait
    let s := { s with per := { s.per with ckptWait := [] } }.put F.perStatusJournalSingle false
    l.foldl (fun s x => s.finish x.1 x.2 stOk 0) s
  else s

/-! ### Hold-up energy and the dirty budget (R308 to R311) -/

/-- Quickset, the check cache and two copies of the journal tail: Q + C + J. -/
def flushFixed (s : State) : Nat := s.part.pick (344 * 2 ^ 20) (172 * 2 ^ 20)

/-- P of R308, in watts. -/
def flushWatts (s : State) : Nat :=
  s.part.pick 180 90 + s.get F.mtMediaPowerWatts
    + (if s.part = .mhl8082 then s.get F.perHoldupCustomerWatts else 0)

/-- B + Q + C + J that the verified energy covers. -/
def flushCovered (s : State) : Nat :=
  let e := 1000 * s.get F.perHoldupVerifiedMj
  s.get F.mtMediaPowerWatts * 1280 * (e - 6250 * s.flushWatts) / s.flushWatts

/-- R310: the energy is verified and covers a flush with no dirty budget. -/
def holdupOk (s : State) : Bool :=
  s.on F.perHoldupVerified && 6250 * s.flushWatts ≤ 1000 * s.get F.perHoldupVerifiedMj
    && s.flushFixed ≤ s.flushCovered

/-- The requested budget in bytes. -/
def budgetWanted (s : State) : Nat := min (s.part.pick 64 32) (s.get F.perBudgetReqUnits) * 2 ^ 26

/-- The effective dirty budget (R309, R310), and event 115. -/
def setBudget (s : State) : State :=
  let b := if s.holdupOk then min s.budgetWanted ((s.flushCovered - s.flushFixed) / 2 ^ 26 * 2 ^ 26) else 0
  let s := ((s.set F.perDirtyBudgetBytes b).set F.lcBudgetLines (b / 64)).showCache
  if b < s.budgetWanted then s.raise 115 sevWarning 0 noDom [d8 s.budgetWanted, d8 b] else s

/-- VerifiedMj has changed while the device runs (R311, Table 9.9). -/
def holdupChanged (s : State) : State :=
  let s := (s.put F.perStatusHoldupVerified (s.on F.perHoldupVerified)).setBudget
  if !s.perUp then s
  else if s.holdupOk then s.leaveReadOnly 1 else s.enterReadOnly 1

/-! ### The power-fail flush (R302 to R307) -/

/-- A flush begins (R302, step 1); during recovery only steps 7 and 8 run.  Triggers: 1 PF_WARN_N, 2 rail fault, 3 thermal
stop, 4 software. -/
def beginFlush (s : State) (trigger : Nat) : State :=
  if 4 ≤ s.get F.perStatusState then s
  else
    let done := if s.get F.perStatusState = 0 then 6 else 1
    let s := s.set F.perStatusState 4
    let s := { s with per := { s.per with flushStep := done, trigger := trigger, flushStart := s.clk, flushBytes := 0,
                                          skipped := [], overtaken := [] } }
    s.raise 112 sevNotice 0 noDom [d4 trigger]

/-- The supervisor stops the device from On (Table 18.3): the flush, or the one that already runs in a cold reset (R606). -/
def startFlush (s : State) (trigger : Nat) : State :=
  if s.get F.pwrStatusState != 3 then s
  else
    let s := (s.set F.pwrStatusState 4).set F.pwrStatusLastTrigger trigger
    let s : State := { s with pw := { s.pw with stopAt := s.clk, l2At := none, cold := 0 } }
    if s.get F.perStatusState = 4 then { s with per := { s.per with trigger := trigger } } else s.beginFlush trigger

/-- Snapshots that a flush write of this epoch to a page would have needed a capture for (R307). -/
def flushOvertakes (s : State) (page epoch : Nat) : State :=
  let l := (s.md.snaps.filter (fun x => x.state = .active && x.epoch < epoch && !s.md.captures.any (fun c =>
    c.whole && c.page = page && x.epoch ≤ c.epoch && c.epoch < epoch))).map (·.epoch)
  { s with per := { s.per with overtaken := (s.per.overtaken ++ l).eraseDups } }

/-- The check cache holds a page's slot, or has a clean way or room for it (R306). -/
def slotRoom (s : State) (l : Nat) : Bool :=
  let same := s.mt.cache.filter (fun c => s.checkSet c.loc = s.checkSet l)
  s.mt.cache.any (fun c => c.loc = l) || same.length < 8 || same.any (fun c => !c.dirty)

/-- Lines of a flush go to the media: with their check slot, or with the tile in the check-skip bitmap (R306). -/
def flushLoad (s : State) (l : Nat) (x : List LineData) : State :=
  if s.slotRoom l then
    (s.loadLines l x).writeRecord l s.stampNow.1 (s.tempCode (pageChan l)) s.stampNow.2 false
  else
    let s := x.foldl (fun s y => s.putMedia l y) (s.touchTile l)
    { s with per := { s.per with skipped := (s.per.skipped ++ [tileOf l]).eraseDups } }

/-- A flush writes lines of a window page straight to the media. -/
def flushWrite (s : State) (page epoch : Nat) (x : List LineData) : State :=
  if x = [] then s
  else
    let s := (s.needSpan (page / pagesPerPlot)).flushOvertakes page epoch
    let reborn := s.pageReborn page
    let first := !s.pageWritten page || reborn
    let y := if first then s.wholePage page x reborn else x
    let lost := fun (s : State) => x.foldl (fun s z => s.listLost (page * 64 + z.idx) z.tag.dom s.nowDtb) s
    match s.locate page with
    | none => lost s
    | some l =>
      if !s.pageOnline l then lost s
      else
        let s := s.flushLoad l y
        let s := { s with per := { s.per with flushBytes := s.per.flushBytes + 64 * y.length } }
        let s := if s.pageWritten page then s else s.setWritten page true
        if reborn then s.setReborn page false else s

/-- Step 2: credits are withheld by the state; range operations, migrations and rewrites stop. -/
def flushStop (s : State) : State :=
  let s := { s with lc := { s.lc with ops := [], waits := [] } }
  { s.pauseMigrations with per := { s.pauseMigrations.per with queueing := false } }

/-- Step 3: the combining buffers go to Quickset as partial writes, the clusters stop, and requests that had been received
are accepted or answered. -/
def flushRequests (s : State) : State :=
  let s := s.hz.cores.foldl (fun s c => c.2.nt.foldl (fun s b =>
    if b.line < s.winPlots * 2 ^ 24 then
      s.accept { src := .hazel c.1, line := b.line, dom := s.get (F.hzCoreStatusDomain c.1), mask := b.mask,
                 data := b.data, poison := false, stamp := s.nowDtb }
    else s) s) s
  let s := { s with hz := { s.hz with cores := [], kernels := [] } }
  let held := s.win.held
  let s := { s with win := { s.win with held := [] } }
  let s := held.foldl (fun s h => s.accept h.w) s
  let reads := s.win.reads
  reads.foldl (fun s r =>
    let v := s.readLine r.dom r.line
    (s.answerRead r v.1 v.2).removeRead r.id) s

/-- Step 5: every write under way, every Quickset entry and every dirty line reaches the media. Assumption 59 (DEDUCED). -/
def flushData (s : State) : State :=
  let writes := s.mt.writes
  let s := { s with mt := { s.mt with writes := [], rewrites := [],
                                      banks := s.mt.banks.map (fun (b : Bank) => { b with write := none }) } }
  let s := writes.foldl (fun s w => match w.page, w.kind with
    | some p, .nearStore _ => if w.phase = .waiting || w.phase = .comparing then s else s.flushWrite p w.epoch w.lines
    | some p, .lostLine => s.flushWrite p w.epoch w.lines
    | _, _ => s) s
  let s := s.lc.ways.foldl (fun s w =>
    let l := w.lines.filter (·.dirty)
    s.flushWrite w.sector (l.foldl (fun m x => max m x.epoch) 0)
      (l.map (fun x => { idx := x.idx, data := x.data, tag := x.tag }))) s
  let s := { s with lc := { s.lc with ways := s.lc.ways.map (fun (w : Way) =>
    { w with dirtyAt := none, lines := w.lines.map (fun (x : CacheLine) => { x with dirty := false, flying := false }) }) } }
  let entries := s.qs.map (fun e => (e, (s.mergedLine e).1))
  let s := entries.foldl (fun s x => s.flushWrite (linePage x.1.line) x.1.epoch [x.2]) s
  (({ s with qs := [] }.setWays []).showQs)

/-- Step 6: every dirty check slot. -/
def flushSlotsDirty (s : State) : State :=
  let s := (s.mt.cache.filter (·.dirty)).foldl (fun s c => s.storeSlot c) s
  { s with mt := { s.mt with cache := s.mt.cache.map (fun (c : CachedSlot) => { c with dirty := false }) } }

/-- Every record is on both copies. -/
def sealJournal (s : State) : State :=
  { s with per := { s.per with journal := s.per.journal.map (fun (r : JRecord) => { r with durable := true }) } }.showMeta

/-- Suspect tiles, in order. -/
def suspectTiles (s : State) : List Nat := ((s.mt.tiles.filter (·.2.suspect)).map (·.1)).mergeSort

/-- Recovery has resumed the aging clocks and read the check-skip bitmap. Assumption 60 (DEDUCED). -/
def windowKnown (s : State) : Bool := s.get F.winStatusWindowState != 0 || 4 ≤ s.get F.perRecoveryPhase

/-- Step 7 (R307, R619): the snapshots that the flush leaves Incomplete, the aging clocks, the check-skip bitmap with every tile
that is still CheckSuspect, and FlushEnd. Assumption 60 (DEDUCED). -/
def flushEnd (s : State) : State :=
  let torn := s.md.snaps.filter (fun x => x.state = .active && (s.per.overtaken.contains x.epoch
    || s.md.captures.any (fun c => c.epoch = x.epoch && c.place = .staging)))
  let s := torn.foldl (fun s x => s.snapIncomplete x 1) s
  let s := if s.windowKnown then
      let s := s.journal (.agingClocks ((List.range 8).map (fun d => s.get (F.mtAgingSeconds d))))
      { s with per := { s.per with skipMap := (s.per.skipped ++ s.suspectTiles).eraseDups } }
    else s
  let s := ((s.journal .flushEnd).sealJournal).recordStamp
  let us := (s.clk - s.per.flushStart) / 1000
  let s := (s.set F.perFlushLastDurationUs us).put F.perFlushLastComplete true
  s.raise 113 sevInfo 0 noDom [d8 (s.clk - s.per.flushStart), d8 s.per.flushBytes]

/-- The work of step `n` of Table 9.7. Assumption 59 (DEDUCED). -/
def flushWork (s : State) : Nat → State
  | 2 => s.flushStop
  | 3 => s.flushRequests
  | 4 => (s.sealJournal.journal .tailSealed).sealJournal
  | 5 => s.flushData
  | 6 => s.flushSlotsDirty
  | 7 => s.flushEnd
  | _ => (s.set F.perStatusState 5).pmL2

/-! ### What a loss of power discards (R286, R287, Table 20.1) -/

/-- The stores outside the media and the journal copies lose their content. -/
def dropVolatile (s : State) : State :=
  let s := { s with
    qs := [], lc := LcState.reset,
    win := { WinState.reset with decoders := [], cxlLogs := s.win.cxlLogs, nextHandle := s.win.nextHandle,
                                 policy := s.win.policy, alerts := s.win.alerts },
    mt := { MtState.reset with media := s.mt.media, slots := s.mt.slots, tally := s.mt.tally, ledger := s.mt.ledger,
                               spanWrites := s.mt.spanWrites },
    ft := { FtState.reset with pages := s.ft.pages, grants := s.ft.grants },
    top := TopState.reset, rg := RingState.reset, hz := HzState.reset }
  { s with per := { s.per with
      journal := s.per.journal.filter (·.durable), capturing := [], flushStep := 0, skipped := [], overtaken := [],
      send := [], receive := [], resend := [], queueing := false, rebuild := [], ckptWait := [],
      window := { s.per.window with phase := .idle }, ftier := { s.per.ftier with phase := .idle } } }

/-! ### Recovery (R313 to R315, R611) -/

/-- Recovery begins with phase 1. -/
def startRecovery (s : State) : State :=
  let s := { s with per := { s.per with recoverStart := s.clk } }
  ((s.set F.perStatusState 0).set F.perRecoveryPhase 1).set F.perRecoveryPosition 0

/-- The first start-up: an empty image of a kind, with a journal that begins here (R611). -/
def formatKind (s : State) (ftier : Bool) (bad : List Nat) : State :=
  if (s.ckpt ftier).root.isSome then s
  else
    let n := s.get F.perJournalSeqNext
    let image : Image := { Image.empty with fm := { FtMeta.empty with bad := bad } }
    let root : Root := { s := n, image := image, time := s.nowDtb }
    let s := s.setCkpt ftier { s.ckpt ftier with root := some root, kept := n, last := s.clk, bytes := 0 }
    let s := { s with per := { s.per with journal := s.per.journal.filter (fun r => r.ftier != ftier) } }
    if ftier then s.setFt { s.ft with pages := [] }
    else { s with mt := { s.mt with media := Mem.empty, slots := [] } }

/-- Records of a journal from S on. -/
def replayed (s : State) (ftier : Bool) : List JRecord :=
  let since := ((s.ckpt ftier).root.map (·.s)).getD 0
  s.per.journal.filter (fun r => r.ftier = ftier && since ≤ r.seq)

/-- The root's image, or an empty one. -/
def rootImage (s : State) (ftier : Bool) : Image := ((s.ckpt ftier).root.map (·.image)).getD Image.empty

/-- Phase 1: the root and the window image. -/
def loadWindow (s : State) (bad : List Nat) : State :=
  let s := (s.formatKind false bad).formatKind true bad
  let i := s.rootImage false
  let s := { s with md := i.md, mt := { s.mt with tiles := i.tiles, tally := i.tally, ledger := i.ledger,
                                                  plotWrites := i.plotWrites } }
  let s := s.set F.mtTallyStatusUsed i.tally.length
  (i.aging.zipIdx).foldl (fun (s : State) x => s.set (F.mtAgingSeconds x.2) x.1) s

/-- The aging clocks resume: saved, and advanced by the powered-off time if it is known (R198). Assumption 61 (DEDUCED). -/
def resumeAging (s : State) : State :=
  let saved : Option (List Nat) := s.per.journal.foldl (fun (m : Option (List Nat)) r => match r.body with
    | .agingClocks l => some l
    | _ => m) none
  let s := match saved with
    | some l => (l.zipIdx).foldl (fun (s : State) (x : Nat × Nat) => s.set (F.mtAgingSeconds x.2) x.1) s
    | none => s
  let s := { s with mt := { s.mt with dieSample := s.mt.dieSample.map (fun _ => s.clk) } }
  match s.time.recorded with
  | some (_, at_) =>
    if s.time.standbyOk then
      let add := (s.time.standby - at_) / 1000000000 * accel ((s.get F.mtDriftCfgOffTemp : Int) - 64)
      (List.range s.part.dies).foldl (fun s d =>
        s.set (F.mtAgingSeconds d) ((s.get (F.mtAgingSeconds d) + add) % 2 ^ 64)) s
    else s
  | none => s

/-- What decides the classification: the last FlushEnd, TailSealed or window CheckpointEnd. Assumption 62 (DEDUCED). -/
def lastMark (l : List JRecord) : Nat :=
  l.foldl (fun m r => match r.body with
    | .flushEnd => 1
    | .tailSealed => 2
    | .checkpointEnd _ => 3
    | _ => if m = 1 then 3 else m) 1

/-- Phase 2: replay of the window journal, and the class of the shutdown (R313). Assumption 62 (DEDUCED). -/
def replayWindow (s : State) : State :=
  let l := s.replayed false
  let s := { s with md := l.foldl (fun m (r : JRecord) => r.body.apply m) s.md }
  let s := s.resumeAging
  let mark := lastMark l
  let next := s.per.journal.foldl (fun m (r : JRecord) => max m (r.seq + 1)) (s.get F.perJournalSeqNext)
  let s := { s with per := { s.per with clean := mark = 1, torn := mark = 3 } }
  let s := (s.set F.perJournalSeqNext next).showMeta
  let s := (s.put F.perStatusLastClean (mark = 1)).put F.perStatusJournalTorn (mark = 3)
  if mark = 1 then s
  else
    let s := s.bump F.perDscCount
    s.raise 114 sevCritical 0 noDom [d4 (s.get F.perDscCount), d4 (if mark = 3 then 1 else 0)]

/-- Rescan a tile: its marks from page records, and the page-written bits of pages that were written (Table 9.10). -/
def rescanTile (s : State) (t : Nat) : State :=
  let pages := (tilePages t).filter (fun l => match s.record? l with
    | some r => r.written
    | none => false)
  let s := pages.foldl (fun s l => match s.windowPageAt? l with
    | some p => if s.pageWritten p then s else s.setWritten p true
    | none => s) s
  let ages := pages.filterMap (fun l => (s.record? l).map (fun r => s.recordAge (tileDie t) r))
  let now := s.agingSec (tileDie t) + 2 ^ 32
  if ages = [] then
    match s.tile? t with
    | some x => s.setTile t { x with suspect := true }
    | none => s.setTile t { oldest := now % 2 ^ 32, latest := now % 2 ^ 32, fromStamps := true, suspect := true,
                            overdue := false }
  else
    s.setTile t { oldest := (now - ages.foldl max 0) % 2 ^ 32,
                  latest := (now - ages.foldl min (2 ^ 32 - 1)) % 2 ^ 32, fromStamps := true, suspect := true,
                  overdue := ((s.tile? t).map (·.overdue)).getD false }

/-- The tiles of the placed plots. -/
def placedTiles (s : State) : List Nat :=
  ((s.md.plots.filterMap (·.span)).flatMap (fun e => e.chans.flatMap (fun c =>
    (List.range (e.rows / 8)).map (fun k => c * 2 ^ 19 + e.baseRow / 8 + k)))).eraseDups.mergeSort

/-- Tiles of the TileTouched records since S. -/
def touchedTiles (s : State) : List Nat :=
  ((s.replayed false).filterMap (fun r => match r.body with
    | .tileTouched t => some t
    | _ => none)).eraseDups.mergeSort

/-- Phase 3: the tiles that are CheckSuspect. -/
def scanTiles (s : State) : State :=
  if s.per.clean then
    s.per.skipMap.foldl (fun s t => match s.tile? t with
      | some x => s.setTile t { x with suspect := true }
      | none => s) s
  else (if s.per.torn then s.placedTiles else s.touchedTiles).foldl (fun s t => s.rescanTile t) s

/-- A page that the check rebuild visits (R316): its record says written, or is bad while the mapping says written. -/
def rebuildVisits (s : State) (l : Nat) : Bool :=
  let r := (s.checkSlot l).record
  if r.good then r.written
  else match s.windowPageAt? l with
    | some p => s.pageWritten p
    | none => (s.pageAt? l).isSome && s.mediaLines l != []

/-- PER_CHECK_REBUILD and CheckSuspect follow the tiles. -/
def showRebuild (s : State) : State :=
  let n := s.suspectTiles.length
  (s.set F.perCheckRebuildTilesLeft n).put F.perStatusCheckSuspect (n != 0)

/-- A tile leaves CheckSuspect when no page of it is left to visit. -/
def tileChecked (s : State) (t : Nat) : State :=
  if s.per.rebuild.any (fun l => tileOf l = t) then s
  else match s.tile? t with
    | some x => s.setTile t { x with suspect := false }
    | none => s

/-- The end of the check rebuild. -/
def rebuildEnd (s : State) : State :=
  if s.suspectTiles = [] then
    s.raise 125 sevInfo 0 noDom [d4 (s.get F.perCheckRebuildTilesTotal), d4 s.per.rewritten]
  else s

/-- The check rebuild begins as the window comes Online. -/
def startRebuild (s : State) : State :=
  let l := s.suspectTiles
  if l = [] then s.showRebuild
  else
    let pages := l.flatMap (fun t => (tilePages t).filter s.rebuildVisits)
    let s := { s with per := { s.per with rebuild := pages, rewritten := 0 } }
    let s := s.set F.perCheckRebuildTilesTotal l.length
    (l.foldl (fun s t => s.tileChecked t) s).showRebuild.rebuildEnd

/-- Spare pages in use, from the gap pages, the exception table and the retirement under way. Assumption 65 (DEDUCED). -/
def recountSpares (s : State) : State :=
  let l := (s.usedSpans.map (·.gapPage) ++ s.md.exc.map (·.2) ++ (s.md.retire.map (·.dst)).toList).eraseDups
  let s := { s with mt := { s.mt with spares := l } }
  (List.range s.channels).foldl (fun s c => s.showSpare c) s

/-- Every plot to be resent; the mirror enters Resync (R327). Assumption 63 (DEDUCED). -/
def mirrorResync (s : State) : State :=
  let ranges := (List.range 16).flatMap (fun i =>
    if s.on (F.perMirrorRangeValid i) then
      (List.range (s.get (F.perMirrorRangePlots i))).map (· + s.get (F.perMirrorRangeBasePlot i))
    else [])
  let fresh := if s.per.everEnabled then [] else ranges.filter (fun p => !s.md.mirrorDirty.contains p)
  let s := if s.get F.perMirrorCfgRole = 1 then fresh.foldl (fun s p => s.journal (.mirrorDirty p true)) s else s
  let s := { s with per := { s.per with send := [], resend := s.md.mirrorDirty.mergeSort, queueing := false,
                                        everEnabled := true } }
  (s.mirrorState 2 none).showMirror

/-- What resumes as the window comes Online (R315, R217, R281, R300, R322, R327). -/
def resumeWork (s : State) : State :=
  let s := s.md.armed.foldl (fun s c => (s.journal (.cutDropped c)).raise 122 sevNotice 0 noDom
    [d4 c.epoch, d4 (if c.snapshot then 1 else 0)]) s
  let s := (s.md.snaps.filter (fun x => x.state = .active && s.md.captures.any (fun c => c.epoch = x.epoch
    && match c.place with
      | .staging => true
      | .programming _ => true
      | _ => false))).foldl (fun s x => s.snapIncomplete x 2) s
  let s := (s.md.groups.filter (fun g => g.2.hazelGranted && !g.2.hazelRequested)).foldl (fun s g =>
    { s with hz := { s.hz with releasing := s.hz.releasing ++ [g.1] } }.hazelRelease g.1) s
  let s := match s.md.retire with
    | some i => (((s.addRewrite .retirement i.page i.src i.dst).put F.mtRetireStatBusy true).set F.mtRetireStatState 1)
    | none => s
  let s := s.md.retired.foldl (fun s k =>
    let s := s.setBit (F.mtChSpareRankRetired (k / 2)) (k % 2) true
    if s.plotsOn (k / 2) = [] then s
    else ((s.drainChannel (k / 2) 1).put F.mtRetireStatBusy true).set F.mtRetireStatState 2) s
  let s := (s.pauseMigrations.md.migrations.filter (fun m => m.state = .copying)).foldl (fun s m => s.copyOn m)
    s.pauseMigrations
  if !s.on F.perMirrorCfgEnable then s
  else match s.md.applying with
    | some _ => s.mirrorState 4 (some 2)
    | none => s.mirrorResync

/-- The lowest service that the units present give (R614): without an HBM3E stack, Basic. -/
def stacksWhole (s : State) : Bool := (List.range s.part.stacks).all (fun k => !s.bit F.pvUnitsLostHbmStack k)

/-- The keys of the placement and exception hashes are drawn afresh. -/
def freshHashes (s : State) : State :=
  let s := { s with mt := { s.mt with placeKey := s.freeWord } }.drew
  { s with mt := { s.mt with excKey := s.freeWord } }.drew

/-- The clocks of the checkpoints start. -/
def freshClocks (s : State) : State :=
  { s with per := { s.per with window := { s.per.window with last := s.clk, bytes := 0 },
                               ftier := { s.per.ftier with last := s.clk, bytes := 0 } } }

/-- The snoop filter is empty. -/
def freshFilter (s : State) : State := { s with win := { s.win with filter := [] } }

/-- What starts afresh as the window comes online: the age map, the snoop filter, the spare counts, the budget, the keys of the
placement and exception hashes, and the clocks of the checkpoints. -/
def windowFresh (s : State) : State :=
  ((((s.mt.tiles.map (·.1)).foldl (fun s t => s.ageTile t) s).freshFilter.recountSpares).setBudget).freshHashes.freshClocks

/-- The journal's stack pair is chosen (R296). -/
def choosePair (s : State) : State :=
  match s.journalPair? with
  | some p => s.setPair p
  | none => s

/-- Online, or read-only for want of hold-up energy (R310) or of a journal pair; Basic mode without every stack (R614). -/
def onlineMode (s : State) : State :=
  let s := s.put F.perStatusHoldupVerified (s.on F.perHoldupVerified)
  if !s.stacksWhole then
    let s := ((s.set F.perStatusState 3).set F.perStatusRoCause 4).set F.winStatusWindowState 3
    (s.basicUnits.toMode 3 6).raise 116 sevCritical 0 noDom [d4 4]
  else
    let s := (s.set F.perStatusState 1).set F.winStatusWindowState 1
    let s := if s.holdupOk then s else s.enterReadOnly 1
    if s.journalPair?.isSome then s else s.enterReadOnly 2

/-- Phase 4: tables, and the memory window Online, Read-only or Basic (Table 9.9). -/
def windowOnline (s : State) : State :=
  let s := s.windowFresh.choosePair.onlineMode
  ((s.placeRegions.resumeWork).startRebuild).startCkpt false

/-- Phase 7: footers of the open bands beyond the last durable group, then every open band closes (R247). -/
def footerReplay (s : State) (b : Band) : State :=
  let members := b.members
  let rows := (List.range (s.rowsPerMember b.stream)).filter (fun r => b.rows ≤ r)
  let per := s.groupRows
  let whole := fun (r : Nat) => members.all (fun m => (Store.find? s.ft.pages (m.row r)).isSome
    || (Store.find? s.ft.pages (m.row r)).isNone && (members.idxOf m = r % members.length))
  let groups := ((rows.map (fun r => b.rows + (r - b.rows) / per * per)).eraseDups).takeWhile (fun g =>
    ((List.range per).map (· + g)).all whole)
  let s := groups.foldl (fun s g =>
    ((List.range per).flatMap (fun k => members.map (fun m => m.row (g + k)))).foldl (fun s l =>
      match Store.find? s.ft.pages l with
      | none => s
      | some p =>
        if p.kind != 0 then s
        else match p.source with
          | some src => if s.mapOf p.unit = .flash src then s.journal (.mapSet p.unit (.flash l) p.version) else s
          | none =>
            let now := match s.slotOf? p.unit with
              | some y => y.version
              | none => match s.mapOf p.unit with
                | .flash l' => ((Store.find? s.ft.pages l').map (·.version)).getD 0
                | _ => 0
            if now < p.version then s.journal (.mapSet p.unit (.flash l) p.version) else s) s) s
  s.setBand b.num (some { b with state := .closed, rows := b.rows + groups.length * per, closedAt := s.nowDtb })

/-- Phase 8: slots reconciled with the map, and the F-tier Online. -/
def ftierOnline (s : State) : State :=
  let stale := s.fm.slots.filter (fun x => s.fm.slots.any (fun y => y.unit = x.unit && x.version < y.version))
  let s := stale.foldl (fun s x => s.journal (.slotSet x.idx none)) s
  let s := { s with fm := { s.fm with slots := s.fm.slots.map (fun (x : Slot) => { x with destaging := none }) } }
  let s := (s.set F.ftStatusState (if s.sanitizing then 4 else 2)).showFlash
  (s.showFcache.showFull).tryCkpt true

/-- The end of phase `n`. -/
def phaseWork (s : State) (bad : List Nat) : Nat → State
  | 1 => s.loadWindow bad
  | 2 => s.replayWindow
  | 3 => s.scanTiles
  | 4 => s.windowOnline
  | 5 => { s with fm := (s.rootImage true).fm }.set F.ftStatusState (if s.sanitizing then 4 else 1)
  | 6 => { s with fm := (s.replayed true).foldl (fun m (r : JRecord) => r.body.applyF m) s.fm }
  | 7 => (s.fm.bands.filter (fun b => b.state = .opened)).foldl (fun s b => s.footerReplay b) s
  | _ => s.ftierOnline

end State

open Host State

/-- QUICKSET_ENTRY_ERROR (R109, R183, R291): the entry's line goes to the media poisoned. -/
def execQuicksetEntryError (line : Nat) (s : State) : Outcome State Fault Refusal :=
  .next <|
    match s.qs? line with
    | none => s
    | some e =>
      let x : LineData := { idx := line % 64, data := Config.freeLine s.free, tag := s.tagNow e.dom true }
      let s := s.drew.onWay (linePage line) (fun w =>
        let l := w.lines.filter (fun y => y.idx != line % 64)
        { w with lines := l, dirtyAt := if l.any (·.dirty) then w.dirtyAt else none })
      let s := (s.queuePage .lostLine (linePage line) e.epoch [x]).qsFree line
      s.raiseAt 126 sevError 0 noDom [d8 (lineAddr line)] (some (lineAddr line))

/-- JOURNAL_COPY_WRITE_COMPLETE (R293): the oldest `count` records of the tail reach both copies. -/
def execJournalCopyWriteComplete (count : Nat) (s : State) : Outcome State Fault Refusal :=
  .next <|
    let tail := ((s.per.journal.filter (fun r => !r.durable)).take count).map (·.seq)
    { s with per := { s.per with journal := s.per.journal.map (fun (r : JRecord) =>
        if tail.contains r.seq then { r with durable := true } else r) } }.showMeta

/-- CHECKPOINT_TIMER (R297 to R299): a trigger of this kind holds. -/
def execCheckpointTimer (ftier : Bool) (s : State) : Outcome State Fault Refusal :=
  .next (if s.ckptDue ftier then s.tryCkpt ftier else s)

/-- CHECKPOINTNOW (R297). -/
def execCheckpointnow (s : State) : Outcome State Fault Refusal := .next ((s.tryCkpt false).tryCkpt true)

/-- CHECKPOINT_IMAGE_WRITTEN (R299): CheckpointEnd. -/
def execCheckpointImageWritten (ftier : Bool) (s : State) : Outcome State Fault Refusal :=
  .next <|
    match (s.ckpt ftier).phase with
    | .imaging n =>
      if !s.perUp then s
      else
        let seq := s.get F.perJournalSeqNext
        let s := s.journal (.checkpointEnd ftier)
        s.setCkpt ftier { s.ckpt ftier with phase := .ending n seq }
    | _ => s

/-- CHECKPOINT_END_DURABLE (R63, R299, R301, R312). -/
def execCheckpointEndDurable (ftier : Bool) (s : State) : Outcome State Fault Refusal :=
  .next <|
    match (s.ckpt ftier).phase with
    | .ending n seq =>
      if !s.perUp || s.per.journal.any (fun r => r.seq = seq && !r.durable) then s else s.finishCkpt ftier n
    | _ => s

/-- CHECKPOINT_FAILURE (R300, R301). -/
def execCheckpointFailure (s : State) : Outcome State Fault Refusal := .next s.ckptLosesPart

/-- SHUTDOWNNOW (R302, R304). -/
def execShutdownnow (s : State) : Outcome State Fault Refusal := .next (s.startFlush 4)

/-- FLUSH_STEP_COMPLETE (R63, R150, R175, R198, R246, R269, R303 to R307). -/
def execFlushStepComplete (s : State) : Outcome State Fault Refusal :=
  .next <|
    if s.get F.perStatusState != 4 || (s.pw.cold != 0 && s.per.flushStep = 7) then s
    else
      let n := s.per.flushStep + 1
      let s := s.flushWork n
      let s := { s with per := { s.per with flushStep := n } }
      (s.set F.perFlushLastTrigger s.per.trigger).set F.perFlushLastStepReached n

/-- RECOVERY_PHASE_COMPLETE (R81, R107, R198, R247, R296, R309, R310, R312 to R316, R611): `badBlocks` are the factory marks
that a format reads. Assumption 123 (DEDUCED). -/
def execRecoveryPhaseComplete (badBlocks : List Nat) (s : State) : Outcome State Fault Refusal :=
  .next <|
    let n := s.get F.perRecoveryPhase
    if n = 0 || 4 ≤ s.get F.perStatusState then s
    else
      let s := (s.phaseWork badBlocks n).raise 120 sevInfo 0 noDom [d4 n, d8 (s.clk - s.per.recoverStart)]
      let next := if n = 8 || s.get F.perStatusState = 3 then 0 else n + 1
      (s.set F.perRecoveryPhase next).set F.perRecoveryPosition 0

/-- RECOVERY_BOUND_EXPIRY (R314): the window has not come online within its bound. -/
def execRecoveryBoundExpiry (s : State) : Outcome State Fault Refusal :=
  .next <|
    if s.get F.perStatusState = 0 && s.get F.perRecoveryPhase != 0 && s.get F.winStatusWindowState = 0 then
      s.raise 118 sevError 0 noDom [d4 (ckptKind false), d4 (s.get F.perRecoveryPhase)]
    else s

/-- CHECK_REBUILD_PAGE (R182, R183, R187, R191, R316): the next page; `bad` are the lines that the light code cannot decode,
and `decoded` says whether a strong decode with the stored slot gives them. -/
def execCheckRebuildPage (loc : Nat) (bad : List Nat) (decoded : Bool) (s : State) : Outcome State Fault Refusal :=
  .next <|
    if s.per.rebuild.head? != some loc || !s.perUp then s
    else
      let s := { s with per := { s.per with rebuild := s.per.rebuild.drop 1 } }
      let v := s.checkSlot loc
      let page := (s.mediaLines loc).foldl (fun acc x => acc ^^^ lineInPage x.idx x.data) 0
      let good := v.symbols = strongCode page && (bad = [] || decoded)
      let s := if good then s
        else
          let lines := (s.mediaLines loc).filter (fun x => bad.contains x.idx)
          let s := lines.foldl (fun s x => (s.putMedia loc { x with tag := { x.tag with poison := true } }).raiseAt 126
            sevError 0 noDom [d8 loc] (s.lineAddrAt? loc x.idx)) s
          let old := v.record
          let last := ((s.per.window.root.map (·.time)).getD 0) / 1000000000
          let r : PageRecord := { old with stamp := if old.good then old.stamp else last, written := true, good := true,
                                           poisonLines := (s.mediaLines loc).any (·.tag.poison) }
          let s := s.setSlot loc { symbols := strongCode page, record := r }
          { s with per := { s.per with rewritten := s.per.rewritten + 1 } }
      let s := (s.tileChecked (tileOf loc)).showRebuild
      s.rebuildEnd

/-- SNAPSHOT_UNIT_FREE (R321, R323): one unit's captures of a snapshot that is being deleted leave its index; one that an
earlier snapshot still reads through stays for that snapshot. Assumption 57 (DEDUCED). -/
def execSnapshotUnitFree (slot : Nat) (s : State) : Outcome State Fault Refusal :=
  .next <|
    match s.md.snaps.find? (fun x => x.slot = slot && decide (x.state = SnapState.deleting)) with
    | none => s
    | some x =>
      if s.journalFull false then s
      else
        let mine := s.md.captures.filter (fun c => c.epoch = x.epoch)
        match mine.head? with
        | none => s.journal (.snapState { x with state := .free })
        | some c0 =>
          let heir := fun (c : Capture) => (s.md.snaps.filter (fun y => y.state = .active && y.epoch < x.epoch
            && !s.md.captures.any (fun z => z.page = c.page && z.whole = c.whole && y.epoch ≤ z.epoch && z.epoch < x.epoch
              && (z.whole || z.lines.map (·.idx) = c.lines.map (·.idx))))).foldl
            (fun (m : Option Nat) y => some (max (m.getD 0) y.epoch)) none
          let s := (mine.filter (fun c => c.place = c0.place)).foldl (fun s c =>
            let s := s.journal (.snapDrop c)
            match heir c with
            | some e => s.journal (.snapIndex { c with epoch := e })
            | none => s) s
          let s := match c0.place with
            | .space u => if s.unitsUsed.contains u then s
              else s.journal (.mapSet (s.get F.ftNsSizeUnits + u) .unmapped s.fm.version)
            | _ => s
          let s := if s.md.captures.any (fun c => c.epoch = x.epoch) then s
            else s.journal (.snapState { x with state := .free })
          s.showStaged

end Sys2Proof.Machine
end

