-- ==== Sys2Proof/Machine/Kernels.lean ====
section
/-!
DEFINITION. Hazel cores and kernels as they start and end (R383, R394 to R406), and a core's buffers as they drain (R338 to
R352).
-/
namespace Sys2Proof.Machine

/-- Core states (HZ_CORE_STATUS.State). -/
def coreIdle : Nat := 0
def coreArmed : Nat := 2
def coreRunning : Nat := 3
def coreHandler : Nat := 4
def coreDraining : Nat := 5
def coreOffline : Nat := 6

/-- The local map of a core (Table 12.2). -/
def scratchBase : Nat := 0xE00000000000
def codeBase : Nat := 0xE00001000000
def poolBase : Nat := 0xE00002000000

/-- Header fields of an image (Table 12.4). -/
def KImage.num (i : KImage) (at_ n : Nat) : Nat := ofBytes ((i.header.drop at_).take n)
def KImage.codeBytes (i : KImage) : Nat := i.num 8 4
def KImage.dataBytes (i : KImage) : Nat := i.num 12 4
def KImage.entry (i : KImage) : Nat := i.num 16 4
def KImage.handler (i : KImage) : Option Nat := if i.num 6 2 % 2 = 1 then some (i.num 20 4) else none
def KImage.sramKiB (i : KImage) : Nat := i.num 24 4
def KImage.minCores (i : KImage) : Nat := max 1 (i.num 28 2)

/-- The header fields are in range, and the CRC is that of code and data (R394). -/
def KImage.wellFormed (i : KImage) : Bool :=
  i.num 0 4 = 0x4C5A4148 && i.num 4 2 = 1 && i.num 6 2 ≤ 1 && i.codeBytes % 4 = 0 && 4 ≤ i.codeBytes
    && i.codeBytes ≤ 2 ^ 20 && i.dataBytes ≤ 2 ^ 17 && i.entry < i.codeBytes
    && (match i.handler with
      | some h => h < i.codeBytes
      | none => i.num 20 4 = 0)
    && i.sramKiB % 64 = 0 && i.sramKiB ≤ 6144 && i.num 28 2 ≤ 32 && i.num 30 2 = 0 && i.num 36 28 = 0
    && (crc32 (i.code ++ i.data)).toNat = i.num 32 4

/-- Bytes of the image cache that an image takes. -/
def KImage.size (i : KImage) : Nat := 64 + i.code.length + i.data.length

namespace State

/-! ### Cores and kernels by name -/

def core (s : State) (h : Nat) : HzCore := (Store.find? s.hz.cores h).getD HzCore.idle
def setCore (s : State) (h : Nat) (c : HzCore) : State :=
  { s with hz := { s.hz with cores := Store.insert h c s.hz.cores } }
def dropCore (s : State) (h : Nat) : State := { s with hz := { s.hz with cores := Store.erase h s.hz.cores } }
def coreState (s : State) (h : Nat) : Nat := s.get (F.hzCoreStatusState h)
def coreWorks (s : State) (h : Nat) : Bool :=
  h < s.part.cores && (s.coreState h = coreRunning || s.coreState h = coreHandler) && !(s.core h).halted

def kernel? (s : State) (id : Nat) : Option Kernel := s.hz.kernels.find? (fun k => k.id = id)
def setKernel (s : State) (k : Kernel) : State :=
  { s with hz := { s.hz with kernels := s.hz.kernels.map (fun (x : Kernel) => if x.id = k.id then k else x) } }

/-- The kernel that a core serves. -/
def kernelOf? (s : State) (h : Nat) : Option Kernel :=
  s.hz.kernels.find? (fun k => k.cores.contains h && !k.left.contains h)

def image? (s : State) (k : Kernel) : Option KImage :=
  s.hz.images.find? (fun i => i.die = k.die && i.addr = k.image && i.crc = k.crc)

/-- Local cores of a cluster that are Idle. -/
def freeCores (s : State) (d : Nat) : List Nat :=
  ((List.range 32).map (· + 32 * d)).filter (fun h => s.coreState h = coreIdle)

/-- Kernels of a cluster that are queued or staged; those that hold its pool. -/
def waitingKernels (s : State) (d : Nat) : List Kernel :=
  s.hz.kernels.filter (fun k => k.die = d && (k.phase = .queued || k.phase = .staged))
def liveKernels (s : State) (d : Nat) : List Kernel := s.hz.kernels.filter (fun k => k.die = d && k.phase != .queued)

/-- Free kernel pool of a cluster, in KiB. -/
def poolFree (s : State) (d : Nat) : Nat := 6144 - ((s.liveKernels d).map (·.sramKiB)).sum

def clusterOnline (s : State) (d : Nat) : Bool := d < s.part.dies && s.get (F.hzClStatusState d) = 1

/-- HZ_STATUS and HZ_CL_STATUS follow the cores and kernels. -/
def showCluster (s : State) (d : Nat) : State :=
  let busy := (List.range 32).foldl (fun n i => if s.coreState (32 * d + i) = coreIdle then n else n + 2 ^ i) 0
  let s := (s.set (F.hzClStatusCoresBusy d) busy).set (F.hzClStatusQueued d) (s.waitingKernels d).length
  (s.set (F.hzClStatusPoolFreeKiB d) (s.poolFree d)).set F.hzStatusRunning
    (s.hz.kernels.filter (fun k => k.phase = .running)).length

/-! ### Dropped stores and dead targets (R344, R349, R350, R355) -/

/-- A store is dropped at a target that does not take it. Assumption 79 (DEDUCED). -/
def dropStore (s : State) (kind index addr dom : Nat) (early : Bool) : State :=
  let s := (s.bump F.espEarlyFaultCountCount).set F.espEarlyFaultAddrAddress addr
  let s := ((s.set F.espEarlyFaultAddrDomain dom).set F.espEarlyFaultAddrSourceKind kind).put F.espEarlyFaultAddrEarlyMode early
  let s := (s.put F.espEarlyFaultAddrValid true).set F.espEarlyFaultSrcIndex index
  s.raise 250 sevWarning 0 dom [d8 addr, d4 dom, d4 kind, d4 index, d4 (if early then 1 else 0)]

/-- The target of an address is dead (R350). -/
def targetDead (s : State) (a : Nat) : Bool :=
  match regionAt a with
  | .host => s.hz.deadHosts.any (fun x => x.1 = hostWindowOf a)
  | .agent k => s.get (F.klAgentStatusState k) = 3
  | .agentRegs k => s.get (F.klAgentStatusState k) = 3
  | _ => false

/-! ### A core's buffers (R332, R338, R340) -/

/-- Runs of bytes that a mask selects, as (offset, length); the first argument bounds the bytes looked at. -/
def maskRuns : Nat → Nat → Mask → List (Nat × Nat)
  | 0, _, _ => []
  | n + 1, k, m =>
    if m.getLsbD k then
      match maskRuns n (k + 1) m with
      | (a, l) :: rest => if a = k + 1 then (k, l + 1) :: rest else (k, 1) :: (a, l) :: rest
      | [] => [(k, 1)]
    else maskRuns n (k + 1) m

/-- A combining buffer leaves for its home point. -/
def drainBuf (s : State) (h dom : Nat) (b : NtBuf) : State :=
  let c := s.core h
  let s := s.setCore h { c with nt := c.nt.filter (fun x => x.line != b.line) }
  match regionAt (b.line * 64) with
  | .window => s.windowWrite { src := .hazel h, line := b.line, dom := dom, mask := b.mask, data := b.data, poison := false,
                               stamp := s.nowDtb }
  | _ =>
    if s.targetDead (b.line * 64) then s.dropStore 0 h (b.line * 64) dom (s.earlyMode (b.line * 64))
    else (maskRuns 64 0 b.mask).foldl (fun s r =>
      s.storeRegion (.hazel h) dom s.nowDtb (b.line * 64 + r.1) (((lineBytes b.data).drop r.1).take r.2)) s

/-- The domain of the kernel that a core serves. -/
def coreDom (s : State) (h : Nat) : Nat := s.get (F.hzCoreStatusDomain h)

/-- Every combining buffer leaves. -/
def drainNt (s : State) (h : Nat) : State := (s.core h).nt.foldl (fun s b => s.drainBuf h (s.coreDom h) b) s

/-- Every access of the core before this point has been acknowledged (R340). -/
def coreQuiet (s : State) (h : Nat) : Bool :=
  (s.core h).buffer = [] && (s.core h).nt = [] && !s.srcHeld (.hazel h)

/-! ### Kernels as they end (R400 to R405) -/

/-- The core is reset: its accesses drain, then it becomes Idle (R405). -/
def resetCore (s : State) (h : Nat) : State :=
  let s := s.drainNt h
  let c := s.core h
  (s.setCore h { c with barrier := none, fault := none, resv := none }).set (F.hzCoreStatusState h) coreDraining

/-- A core leaves its kernel and is Idle. -/
def releaseCore (s : State) (h : Nat) : State :=
  let s := s.dropCore h
  let s := (s.set (F.hzCoreStatusState h) coreIdle).set (F.hzCoreStatusRank h) 0
  (s.set (F.hzCoreStatusDomain h) 0).setReg (R.hzCoreKernel h) 0

/-- Launch slots of a core that are armed for a kernel are cancelled. -/
def cancelCore (s : State) (h id : Nat) : State :=
  (s.ownedSlots (.core h) (fun a g => a = 8 && g = id)).foldl (fun s i => s.leaveSlot (.core h) i slotIdle) s

/-- A kernel ends other than by EXIT on all of its cores: every core that is still in it is reset, and event 24. -/
def endKernel (s : State) (k : Kernel) (status code h : Nat) (silent : Bool) : State :=
  if k.phase = .ending then s
  else
    let pc := (s.core h).pc
    let here := k.cores.filter (fun c => !k.left.contains c)
    let waiting := here.filter (fun c => s.coreState c = coreArmed)
    let live := here.filter (fun c => s.coreState c != coreArmed)
    let s := s.setKernel { k with phase := .ending, status := status, code := code, core := h % 32, silent := k.silent || silent,
                                  left := k.left ++ waiting }
    let s := live.foldl (fun s c => s.resetCore c) s
    let s := waiting.foldl (fun s c => (s.cancelCore c k.id).releaseCore c) s
    let s := (s.bump F.hzFaultCountCount).bump (F.hzClFaultCountCount k.die)
    (s.raise (dieSource k.die 24) sevNotice 0 k.dom [d4 k.ring, d4 k.tag, d4 h, d4 code, d4 status, d8 pc.toNat]).showCluster k.die

/-- A queued kernel completes without having started. -/
def refuseKernel (s : State) (k : Kernel) (status : Nat) : State :=
  let s := { s with hz := { s.hz with kernels := s.hz.kernels.filter (fun x => x.id != k.id) } }
  let s := if k.silent then s else s.finish k.ring k.handle status 0
  let s := s.showCluster k.die
  match k.group with
  | some g => s.hazelRelease g
  | none => s

/-! ### Exceptions (R351, R403, R404) -/

/-- What the fault registers of a core show of a fault (R392). -/
def recordFault (s : State) (h : Nat) (f : CoreFault) : State :=
  let s := (s.set (F.hzCoreFaultPcPc h) f.pc.toNat).set (F.hzCoreFaultAddrAddress h) (f.addr % 2 ^ 48)
  let s := ((s.put (F.hzCoreFaultAddrValid h) true).set (F.hzCoreFaultInfoCode h) f.code).set (F.hzCoreFaultInfoStatus h) f.status
  s.put (F.hzCoreFaultInfoStoreDropped h) f.dropped

/-- A core enters the fault handler of its image. -/
def enterHandler (s : State) (h : Nat) (f : CoreFault) (entry : Nat) : State :=
  let c := s.core h
  let x := (((c.x.set 10 (BitVec.ofNat 64 f.status)).set 11 (BitVec.ofNat 64 f.code)).set 12 f.pc).set 13
    (BitVec.ofNat 64 f.addr)
  (s.setCore h { c with fault := none, barrier := none, x := x, pc := BitVec.ofNat 64 (codeBase + entry) }).set
    (F.hzCoreStatusState h) coreHandler

/-- A fault goes to the handler of the core's image if the core is running and the image has one; else it ends the kernel. -/
def handleFault (s : State) (h : Nat) (f : CoreFault) : State :=
  match s.kernelOf? h with
  | none => s
  | some k =>
    if s.coreState h = coreRunning then
      match (s.image? k).bind (·.handler) with
      | some entry => s.enterHandler h f entry
      | none => s.endKernel k f.status f.code h false
    else s.endKernel k f.status f.code h false

/-- The exception is taken: the fault record, and the handler or the end of the kernel. -/
def deliverFault (s : State) (h : Nat) (f : CoreFault) : State := (s.recordFault h f).handleFault h f

/-- A core leaves its kernel by EXIT; rank 0 gives the kernel's value. -/
def leaveKernel (s : State) (h : Nat) : State :=
  match s.kernelOf? h with
  | none => s
  | some k =>
    let v := (((s.core h).x[10]?).getD 0).toNat % 2 ^ 32
    let k' := { k with left := k.left ++ [h], result := if s.get (F.hzCoreStatusRank h) = 0 then v else k.result }
    ((s.setKernel k').releaseCore h).showCluster k.die

/-- A core waits at CORES_SYNC; the last one lets every core go on. Assumption 82 (DEDUCED). -/
def syncCore (s : State) (h : Nat) : State :=
  match s.kernelOf? h with
  | none => s
  | some k =>
    let l := k.syncs ++ [h]
    if k.cores.all (fun c => l.contains c) then
      let s := s.setKernel { k with syncs := [] }
      k.cores.foldl (fun s c => s.setCore c { s.core c with barrier := none }) s
    else s.setKernel { k with syncs := l }

/-- What waited for the core's accesses goes on once all are acknowledged (Table 10.3, R351, R399). -/
def settle (s : State) (h : Nat) : State :=
  if !s.coreQuiet h then s
  else
    let c := s.core h
    match c.fault, c.barrier with
    | some f, _ => s.deliverFault h f
    | none, none => s
    | none, some b =>
      if c.dropped then
        (s.setCore h { c with dropped := false, barrier := none }).deliverFault h
          { code := 7, status := stTargetDead, pc := c.pc, addr := s.get (F.hzCoreFaultAddrAddress h), dropped := true }
      else match b with
        | .exit => s.leaveKernel h
        | .coresSync => if ((s.kernelOf? h).map (fun k => k.syncs.contains h)).getD true then s else s.syncCore h
        | _ => s.setCore h { c with barrier := none }

/-- An exception: the core's accesses drain, then it is taken. -/
def coreFault (s : State) (h : Nat) (f : CoreFault) : State :=
  let s := s.drainNt h
  (s.setCore h { s.core h with fault := some f }).settle h

/-- A core that runs, and waits for nothing. -/
def coreFree (s : State) (h : Nat) : Bool :=
  s.coreWorks h && (s.core h).barrier.isNone && (s.core h).fault.isNone

/-! ### Starting cores (R397, R398) -/

/-- A core is prepared for a kernel. -/
def loadCore (s : State) (k : Kernel) (i : KImage) (arg : List Byte) (h rank state : Nat) : State :=
  let x : List Word := List.replicate 32 0
  let x := (((x.set 2 (BitVec.ofNat 64 0xE00000040000)).set 10 (BitVec.ofNat 64 scratchBase)).set 11
    (BitVec.ofNat 64 k.argLen)).set 12 (BitVec.ofNat 64 rank)
  let x := (x.set 13 (BitVec.ofNat 64 k.cores.length)).set 14 (BitVec.ofNat 64 k.image)
  let c := { HzCore.idle with x := x, pc := BitVec.ofNat 64 (codeBase + i.entry),
                              scratch := putBytes i.data 0x1000 (putBytes arg 0 []) }
  let s := ((s.setCore h c).set (F.hzCoreStatusState h) state).set (F.hzCoreStatusRank h) rank
  let s := s.set (F.hzCoreStatusDomain h) k.dom
  (s.set (F.hzCoreKernelRingPair h) k.ring).set (F.hzCoreKernelTag h) k.tag

/-- A descriptor's launch fired late (R71, R370). -/
def markLate (s : State) (ring handle : Nat) : State :=
  match s.desc? ring handle with
  | some d => s.setDesc { d with late := true }
  | none => s

/-- A staged kernel's slot fires on a core (action 0x08). -/
def startArmed (s : State) (h id : Nat) (late : Bool) : State :=
  match s.kernel? id with
  | none => s
  | some k =>
    if s.coreState h != coreArmed || !k.cores.contains h then s
    else
      let first := k.phase != .running
      let s := s.setKernel { k with phase := .running, begun := if first then s.clk else k.begun, late := k.late || late,
                                    armed := k.armed.filter (fun c => c != h) }
      let s := if first then s.bump F.hzLaunchCountCount else s
      let s := if late then s.markLate k.ring k.handle else s
      (s.set (F.hzCoreStatusState h) coreRunning).showCluster k.die

/-- A staged kernel's slot is dropped or cancelled on a core: the core is released; with no core left the kernel
completes. -/
def dropArmed (s : State) (h id status : Nat) : State :=
  match s.kernel? id with
  | none => s
  | some k =>
    if s.coreState h != coreArmed || !k.cores.contains h then s
    else
      let s := s.releaseCore h
      let cores := k.cores.filter (fun c => c != h)
      if cores = [] then s.refuseKernel k status
      else (s.setKernel { k with cores := cores, armed := k.armed.filter (fun c => c != h) }).showCluster k.die

end State
end Sys2Proof.Machine
end

