-- ==== Sys2Proof/Machine/RingEngine.lean ====
section
/-!
DEFINITION. Ring pairs as registers and states (R356 to R365, R376, R377): enabling, doorbells, halting, draining, aborting
and resetting.
-/
namespace Sys2Proof.Machine

/-- States of a ring pair (RING_STATUS). -/
def ringDisabled : Nat := 0
def ringEnabled : Nat := 1
def ringHalted : Nat := 2
def ringDraining : Nat := 3
def ringAborting : Nat := 4

namespace State

/-- A queue pair's context (R414); one that was never committed is in Reset. -/
def qp? (s : State) (q : Nat) : Option Qp := s.net.qps.find? (fun x => x.num = q)
def qpState (s : State) (q : Nat) : Nat := ((s.qp? q).map (fun x => bits x.ctx0 0 3)).getD 0
def qpDomain (s : State) (q : Nat) : Nat := ((s.qp? q).map (fun x => bits x.ctx0 3 10)).getD 0

def ringState (s : State) (r : Nat) : Nat := s.get (F.ringStatusState r)

/-- A ring changes state; RING_ENGINE_STATUS.Enabled counts those not Disabled. -/
def setRingState (s : State) (r x : Nat) : State :=
  let was := s.ringState r
  let n := s.get F.ringEngineStatusEnabled
  let n := if was = 0 && x != 0 then n + 1 else if was != 0 && x = 0 then n - 1 else n
  (s.set (F.ringStatusState r) x).set F.ringEngineStatusEnabled n

def ringDescs (s : State) (r : Nat) : List Desc := s.rg.descs.filter (fun d => d.ring = r)

/-- InFlight and Contexts follow the descriptors. -/
def showRing (s : State) (r : Nat) : State :=
  (s.set (F.ringStatusInFlight r) (min 255 (s.ringDescs r).length)).set F.ringEngineStatusContexts s.rg.descs.length

/-- Sizes and occupancy of a ring's two parts. -/
def sqSize (s : State) (r : Nat) : Nat := 2 ^ s.get (F.ringSizeSqLog2 r)
def cqSize (s : State) (r : Nat) : Nat := 2 ^ s.get (F.ringSizeCqLog2 r)
def sub16 (a b : Nat) : Nat := (a + 65536 - b) % 65536
def cqUsed (s : State) (r : Nat) : Nat := sub16 (s.get (F.ringIndexCqTail r)) (s.get (F.ringIndexCqHead r))
def remoteMode (s : State) (r : Nat) : Bool := s.on (F.ringRemoteEnable r)

/-- The address of a slot of the submission ring and of the completion ring. -/
def sqSlot (s : State) (r i : Nat) : Nat := s.get (F.ringSqBaseBase r) * 4096 + i % s.sqSize r * 64
def cqSlot (s : State) (r i : Nat) : Nat := s.get (F.ringCqBaseBase r) * 4096 + i % s.cqSize r * 16

/-- A part of a ring lies in a region that R358 allows. -/
def ringRange (s : State) (dom a n : Nat) : Bool :=
  match regionOf a n with
  | .host => hostWindowOf a = hostWindowOf (a + n - 1) && Config.hostWindow (hostWindowOf a)
  | .window => a + n ≤ s.winPlots * plotBytes && s.windowGranted dom a n
  | _ => false

/-- What refuses an enable (R361), by its place in the list. -/
def enableRefusal (s : State) (r : Nat) : Option Nat :=
  let dom := s.ringDom r
  let size := fun (n : Nat) => 4 ≤ n && n ≤ 15
  if !s.on (F.ringBindValid r) then some 0
  else if !size (s.get (F.ringSizeSqLog2 r)) || !size (s.get (F.ringSizeCqLog2 r))
      || !s.ringRange dom (s.get (F.ringSqBaseBase r) * 4096) (64 * s.sqSize r)
      || !s.ringRange dom (s.get (F.ringCqBaseBase r) * 4096) (16 * s.cqSize r) then some 1
  else if s.get (F.ringNotifyKind r) = 1
      && !(s.ldEnabled (s.get (F.ringNotifyLd r)) && s.ldDomain (s.get (F.ringNotifyLd r)) = dom) then some 2
  else if s.get (F.ringNotifyKind r) = 2 && s.get (F.klAgentCtlDomain (s.get (F.ringNotifyLd r) % 2)) != dom then some 3
  else if s.remoteMode r && (!s.on (F.ringBindRemoteAllowed r) || s.qpDomain (s.get (F.ringRemoteQp r)) != dom) then some 4
  else none

/-- A write of 1 to RING_CTL.Enable (Table 11.2). -/
def enableRing (s : State) (r : Nat) : State :=
  if s.ringState r != ringDisabled then s
  else match s.enableRefusal r with
    | some c => (s.put (F.ringStatusEnableRefused r) true).raise 162 sevNotice 0 noDom [d4 r, d4 (Config.codeOf 10 c)]
    | none =>
      let s := ((s.setReg (R.ringIndex r) 0).set (F.ringDbSqTailTail r) 0).set (F.ringDbCqHeadHead r) 0
      let s := (s.put (F.ringStatusPhase r) true).set (F.ringStatusHaltCause r) 0
      let s := (s.put (F.ringCtlEnable r) true).set (F.ringProgSkipCount r) 0
      let s := { s with rg := { s.rg with flushed := s.rg.flushed.filter (fun x => x.1 != r),
                                          unnotified := s.rg.unnotified.filter (fun x => x.ring != r) } }
      (s.setRingState r ringEnabled).touchKey (s.ringDom r)

/-- A ring halts (R364): HaltCause, event 161; a Draining ring goes on draining. -/
def haltRing (s : State) (r cause : Nat) : State :=
  if s.ringState r = ringDisabled || s.ringState r = ringAborting then s
  else
    let index := if cause = 3 then s.get (F.ringIndexCqTail r) else if cause = 4 then s.get (F.ringIndexCqHead r)
      else s.get (F.ringIndexSqHead r)
    let s := (s.set (F.ringStatusHaltCause r) cause).bump F.ringHaltCountCount
    let s := s.raise 161 sevWarning 0 noDom [d4 r, d4 cause, d4 index]
    if s.ringState r = ringDraining then s else s.setRingState r ringHalted

/-- The fields of RING_BIND. -/
def applyBind (s : State) (r : Nat) (v : Word) : State := s.setReg (R.ringBind r) (v &&& 0xFFFFFF)

/-- A ring is Disabled: a RING_BIND value that waited for that takes effect. -/
def disabledRing (s : State) (r : Nat) : State :=
  let s := ((s.setRingState r ringDisabled).put (F.ringCtlEnable r) false).touchKey (s.ringDom r)
  match s.rg.binds.find? (fun x => x.1 = r) with
  | some x => { s.applyBind r x.2 with rg := { s.rg with binds := s.rg.binds.filter (fun y => y.1 != r) } }
  | none => s

/-- A Draining or Aborting ring with no descriptor in flight is Disabled, with event 164. -/
def ringEmpty (s : State) (r : Nat) : State :=
  if (s.ringState r = ringDraining || s.ringState r = ringAborting) && s.ringDescs r = [] then
    let n := ((s.rg.flushed.find? (fun x => x.1 = r)).map (·.2)).getD 0
    (s.disabledRing r).raise 164 sevInfo 0 noDom [d4 r, d4 n]
  else s

/-- A descriptor leaves its context. -/
def dropDesc (s : State) (d : Desc) : State :=
  let s := { s with rg := { s.rg with descs := s.rg.descs.filter (fun x => !(x.ring = d.ring && x.handle = d.handle)) } }
  (s.showRing d.ring).ringEmpty d.ring

/-- A write of RING_CTL.Enable 0. Assumption 66 (DEDUCED). -/
def disableRing (s : State) (r : Nat) : State :=
  if s.ringState r = ringEnabled || s.ringState r = ringHalted then
    ((s.put (F.ringCtlEnable r) false).setRingState r ringDraining).ringEmpty r
  else s

/-- Hub slots that hold a descriptor for its launch time. -/
def heldSlots (s : State) (r h : Nat) : List Nat :=
  s.ownedSlots .hub (fun a g => a = 1 && g = r + h * 65536)

/-- A held descriptor's slot, the slots of its armed cut, and those of its staged kernel are cancelled (Table 2.5). -/
def cancelLaunch (s : State) (d : Desc) (status : Nat) : State :=
  let s := (s.heldSlots d.ring d.handle).foldl (fun s i => s.leaveSlot .hub i slotIdle) s
  let s := (s.md.armed.filter (fun c => c.ring = d.ring && c.handle = d.handle && (c.ring, c.handle) != (0, 0))).foldl
    (fun s c =>
      let s := s.cutUnits.foldl (fun s u => (s.cutSlots u c.epoch).foldl (fun s i => s.leaveSlot u i slotIdle) s) s
      let s := (s.time.agentSlots.filter (fun x => x.2.2 = c.epoch)).foldl (fun s x =>
        (s.klSend (8 + x.1) (.launchCancel x.2.1)).setBit (F.klAgentStatusSlotsArmed x.1) x.2.1 false) s
      let s := { s with time := { s.time with agentSlots := s.time.agentSlots.filter (fun x => x.2.2 != c.epoch) } }
      s.journal (.cutDropped c)) s
  (s.hz.kernels.filter (fun k => k.ring = d.ring && k.handle = d.handle && (k.phase = .staged || k.phase = .queued))).foldl
    (fun s k => (k.cores.foldl (fun s c => (s.cancelCore c k.id).releaseCore c) s).refuseKernel k status) s

/-- The descriptor waits for its launch time, or for its cut or its staged kernel. -/
def launchHeld (s : State) (d : Desc) : Bool :=
  d.phase = .held || s.md.armed.any (fun c => c.ring = d.ring && c.handle = d.handle && d.op != opNop && c.handle != 0)
    || s.hz.kernels.any (fun k => k.ring = d.ring && k.handle = d.handle && k.phase = .staged)

/-- A descriptor that has not started. -/
def unstarted (s : State) (d : Desc) : Bool :=
  d.phase = .ready || s.hz.kernels.any (fun k => k.ring = d.ring && k.handle = d.handle && k.phase = .queued)

/-- RING_CTL.Abort (R364, Table 2.5): fetches under way end; descriptors not started complete with FLUSHED, those held for a
launch with ABORTED_RESET. -/
def abortRing (s : State) (r : Nat) : State :=
  if s.ringState r = ringDisabled || s.ringState r = ringAborting then s
  else
    let l := s.ringDescs r
    let s := (s.put (F.ringCtlEnable r) false).setRingState r ringAborting
    let s := { s with rg := { s.rg with descs := s.rg.descs.filter (fun (d : Desc) => !(d.ring = r && decide (d.phase = DescPhase.fetching))) } }
    let held := l.filter s.launchHeld
    let wait := l.filter (fun d => s.unstarted d && !s.launchHeld d)
    let n := held.length + wait.length
    let s := held.foldl (fun s d => (s.cancelLaunch d stAbortedReset).finish d.ring d.handle stAbortedReset 0) s
    let s := wait.foldl (fun s d => (s.cancelLaunch d stFlushed).finish d.ring d.handle stFlushed 0) s
    let fl : List (Nat × Nat) := s.rg.flushed.filter (fun x => x.1 != r) ++ [(r, n)]
    let s := { s with rg := { s.rg with flushed := fl } }
    (s.showRing r).ringEmpty r

/-- A reset of a ring (last row of Table 11.2): no completion is written; its kernels end without one (R405). -/
def resetRing (s : State) (r : Nat) : State :=
  let l := s.ringDescs r
  let s := l.foldl (fun s d => s.cancelLaunch d stAbortedReset) s
  let s := (s.hz.kernels.filter (fun k => k.ring = r)).foldl (fun s k =>
    let k := { k with silent := true }
    let s := s.setKernel k
    if k.phase = .running then s.endKernel k stAbortedReset 0 (k.cores.headD 0) true else s) s
  let s := { s with rg := { s.rg with descs := s.rg.descs.filter (fun d => d.ring != r),
                                      unnotified := s.rg.unnotified.filter (fun x => x.ring != r) } }
  (s.showRing r).disabledRing r

/-! ### Doorbells (R357, R362, R376) -/

/-- A doorbell page refuses an access from another domain (R38, R357). Assumption 103 (DEDUCED). -/
def pageRefused (s : State) (r dom : Nat) : Bool := dom != 0 && (!s.on (F.ringBindValid r) || s.ringDom r != dom)

/-- Event 160. -/
def refusePage (s : State) (r dom : Nat) : State := s.raise 160 sevNotice 0 noDom [d4 r, d4 dom]

/-- A submission tail. Assumption 67 (DEDUCED). -/
def ringTail (s : State) (r t : Nat) : State :=
  if s.remoteMode r && s.ringState r != ringDisabled then
    (s.raise 163 sevNotice 0 noDom [d4 r, d4 s.freeWord.toNat]).drew
  else if s.ringState r != ringEnabled then s
  else if s.get (F.ringIndexSqTail r) = t then s
  else if sub16 t (s.get (F.ringIndexSqHead r)) ≤ s.sqSize r then
    (s.set (F.ringIndexSqTail r) t).set (F.ringDbSqTailTail r) t
  else s.haltRing r 1

/-- A completion head. -/
def ringHead (s : State) (r h : Nat) : State :=
  if s.ringState r = ringDisabled then s
  else if s.get (F.ringIndexCqHead r) = h then s
  else if sub16 (s.get (F.ringIndexCqTail r)) h ≤ s.cqUsed r then
    (s.set (F.ringIndexCqHead r) h).set (F.ringDbCqHeadHead r) h
  else if s.ringState r = ringEnabled then s.haltRing r 4 else s

/-- A write of RING_CTL. -/
def ringCtl (s : State) (r v : Nat) : State :=
  if v / 2 % 2 = 1 then s.abortRing r
  else if v % 2 = 1 then s.enableRing r else s.disableRing r

/-- The writable bits of a doorbell page's configuration registers. -/
def pageMask (o : Nat) : Option Word :=
  if o = 0x100 || o = 0x108 then some 0xFFFFFFFFF000
  else if o = 0x110 then some 0xFF
  else if o = 0x114 then some 0x7FFFF
  else if o = 0x118 then some 0xFFFFFF
  else if o = 0x11C then some 0x1FFFF
  else none

/-- A write to a register of a doorbell page, once its page has accepted it (R360). -/
def pageWrite (s : State) (r o : Nat) (v : Word) : State :=
  if o = 0 then s.ringTail r (v.toNat % 65536)
  else if o = 4 then s.ringHead r (v.toNat % 65536)
  else if o = 0x120 then s.ringCtl r v.toNat
  else if o = 0x124 then (if bits v 7 1 = 1 then s.put (F.ringStatusEnableRefused r) false else s)
  else match pageMask o with
    | some m => if s.ringState r = ringDisabled then s.setReg (R.ringDbSqTail r + o) (v &&& m) else s
    | none => s

/-- Where an address lies in the doorbell pages: its ring pair and offset. -/
def doorbell? (a : Nat) : Option (Nat × Nat) :=
  if 0xF00010000000 ≤ a && a < 0xF00011000000 then some ((a - 0xF00010000000) / 4096, a % 4096) else none

end State
end Sys2Proof.Machine
end

