-- ==== Sys2Proof/Machine/Hazel.lean ====
section
/-!
DEFINITION. What Hazel cores do (chapters 10 and 12): loads, stores, atomics, barriers, exceptions and runtime services; and
kernels from launch to completion.
-/
namespace Sys2Proof.Machine

/-- Code and status of an exception cause (Table 12.7). -/
def causeCode : HazelCause → Nat × Nat
  | .fetchOutside => (1, stRangeFault)
  | .illegal => (2, stBadDescriptor)
  | .ebreak => (3, stBadDescriptor)
  | .misalignedLoad => (4, stBadDescriptor)
  | .misalignedStore => (6, stBadDescriptor)
  | .unknownService => (8, stBadDescriptor)

/-- An atomic memory operation on values of `w` bits. Assumption 126 (DESIGN CHOICE). -/
def amoResult (op : AmoOp) (w old x : Nat) : Nat :=
  let a : Int := (BitVec.ofNat w old).toInt
  let b : Int := (BitVec.ofNat w x).toInt
  match op with
  | .swap => x
  | .add => (old + x) % 2 ^ w
  | .xor => old ^^^ x
  | .and => old &&& x
  | .or => old ||| x
  | .min => if a ≤ b then old else x
  | .max => if a ≤ b then x else old
  | .minu => min old x
  | .maxu => max old x

/-- A value of `n` bytes as a register takes it. -/
def extend (signed : Bool) (n v : Nat) : Word :=
  if signed && 0 < n && n < 8 then (BitVec.ofNat (8 * n) v).signExtend 64 else BitVec.ofNat 64 (v % 2 ^ (8 * min n 8))

namespace State

/-! ### Registers of a core -/

/-- Write a destination: x1 to x31, f0 to f31 (NaN-boxed), v0 to v31; x0 takes nothing. -/
def setDst (s : State) (h dst : Nat) (signed : Bool) (b : List Byte) : State :=
  let c := s.core h
  let v := ofBytes b
  if dst = 0 then s
  else if dst < 32 then s.setCore h { c with x := c.x.set dst (extend signed b.length v) }
  else if dst < 64 then
    let w : Word := if b.length = 4 then BitVec.ofNat 64 (v + 0xFFFFFFFF00000000) else BitVec.ofNat 64 v
    s.setCore h { c with f := c.f.set (dst - 32) w }
  else if dst < 96 then
    let old := (c.v[dst - 64]?).getD 0
    s.setCore h { c with v := c.v.set (dst - 64) (mergeLine old (bytesLine b) (maskRange 0 b.length)) }
  else s

/-- The instruction at `pc` executes. -/
def atPc (s : State) (h pc : Nat) : State := s.setCore h { s.core h with pc := BitVec.ofNat 64 pc }

/-! ### What an access meets (R33 to R41, R385 to R390, R404) -/

/-- Bytes of a core's local map. -/
def localRange (s : State) (h a n : Nat) (store : Bool) : Bool :=
  match s.kernelOf? h with
  | none => false
  | some k =>
    (scratchBase ≤ a && a + n ≤ scratchBase + 2 ^ 18)
      || (!store && codeBase ≤ a && a + n ≤ codeBase + ((s.image? k).map (·.codeBytes)).getD 0)
      || (poolBase ≤ a && a + n ≤ poolBase + k.sramKiB * 1024)

/-- An address of the local map's block. -/
def localBlock (a : Nat) : Bool := 0xE00000000000 ≤ a && a < 0xF00000000000

/-- A store that does not cover whole native words of a Hazel-owned plot (R390). -/
def narrowStore (s : State) (a n : Nat) : Bool :=
  regionAt a = .window && (s.plot (a / plotBytes)).hazelOwned && (a % 8 != 0 || n % 8 != 0)

/-- The status of an access of a core, OK if it may be performed. -/
def hazelStatus (s : State) (h a n : Nat) (store : Bool) : Nat :=
  let dom := s.coreDom h
  if n = 0 || a / 64 != (a + n - 1) / 64 then stBadDescriptor
  else if localBlock a then (if s.localRange h a n store then stOk else stRangeFault)
  else match doorbell? a with
    | some (r, _) => if s.pageRefused r dom then stDomainDenied else stOk
    | none =>
      match regionAt a with
      | .registers => stDomainDenied
      | .agentRegs _ => stDomainDenied
      | _ =>
        let st := s.reach dom a n
        if st != stOk then st
        else if s.targetDead a then stTargetDead
        else if store && s.narrowStore a n then stRangeFault
        else stOk

/-- The exception of an access that a status refuses. -/
def accessFault (s : State) (h pc a status : Nat) (store : Bool) : State :=
  let code := if status = stBadDescriptor then (if store then 6 else 4) else (if store then 7 else 5)
  let s := match doorbell? a with
    | some (r, _) => if status = stDomainDenied then s.refusePage r (s.coreDom h) else s
    | none => if localBlock a then s else s.refused45 a (s.coreDom h) (.hazel h) status
  s.coreFault h { code := code, status := status, pc := BitVec.ofNat 64 pc, addr := a, dropped := false }

/-! ### Performing an access at its home point -/

/-- Bytes of the local map. -/
def localRead (s : State) (h a n : Nat) : List Byte :=
  let c := s.core h
  match s.kernelOf? h with
  | none => List.replicate n 0
  | some k =>
    if a < codeBase then (List.range n).map (fun i => Store.read (fun _ => (0 : Byte)) c.scratch (a - scratchBase + i))
    else if a < poolBase then (((s.image? k).map (fun i => (i.code.drop (a - codeBase)).take n)).getD [])
    else (List.range n).map (fun i => Store.read (fun _ => (0 : Byte)) k.pool (a - poolBase + i))

def localWrite (s : State) (h a : Nat) (b : List Byte) : State :=
  if a < codeBase then
    let c := s.core h
    s.setCore h { c with scratch := putBytes b (a - scratchBase) c.scratch }
  else match s.kernelOf? h with
    | some k => s.setKernel { k with pool := putBytes b (a - poolBase) k.pool }
    | none => s

/-- What a load reads at the home point, and whether it is poison. -/
def hazelRead (s : State) (h a n : Nat) (outside : List Byte) : List Byte × Bool :=
  if localBlock a then (s.localRead h a n, false)
  else match doorbell? a with
    | some _ => ((leBytes 8 (s.reg (a / 4 * 4)).toNat).take n, false)
    | none => s.loadRegion (s.coreDom h) a n outside

/-- A store is performed at its home point. -/
def hazelWrite (s : State) (h a : Nat) (b : List Byte) : State :=
  if localBlock a then s.localWrite h a b
  else match doorbell? a with
    | some (r, o) => s.pageWrite r o (BitVec.ofNat 64 (ofBytes b))
    | none =>
      let s := if regionAt a = .window then s else s.breakResv (a / 64) (.hazel h)
      s.storeRegion (.hazel h) (s.coreDom h) s.nowDtb a b

/-- The latest buffered store that meets a range. -/
def bufferHit? (s : State) (h a n : Nat) : Option BufStore :=
  (s.core h).buffer.foldl (fun (m : Option BufStore) b =>
    if b.addr < a + n && a < b.addr + b.bytes.length then some b else m) none

/-- A combining buffer holds the line of an address. -/
def ntHit? (s : State) (h a : Nat) : Option NtBuf := (s.core h).nt.find? (fun b => b.line = a / 64)

/-- An access that is ordered as behind a full barrier: performed once the core is quiet, with the drop of an earlier store
reported first (R337, R344). -/
def behindBarrier (s : State) (h pc : Nat) (f : State → State) : State :=
  let s := s.drainNt h
  if !s.coreQuiet h then s
  else if (s.core h).dropped then
    (s.setCore h { s.core h with dropped := false }).coreFault h
      { code := 7, status := stTargetDead, pc := BitVec.ofNat 64 pc, addr := s.get (F.hzCoreFaultAddrAddress h), dropped := true }
  else f s

/-- A barrier begins (R340). -/
def beginBarrier (s : State) (h pc : Nat) (b : BarrierKind) : State :=
  let s := (s.atPc h pc).drainNt h
  ((s.setCore h { s.core h with barrier := some b }).cHz h 0xAB 1).settle h

/-- A near or far load is counted. -/
def countLoad (s : State) (h a : Nat) : State :=
  let s := s.cHz h 0xA3 1
  match regionAt a with
  | .window => if (s.plot (a / plotBytes)).hazelOwned && s.plotDie? (a / plotBytes) = some (h / 32) then s.cHz h 0xA6 1
    else s.cHz h 0xA7 1
  | .host => s.cHz h 0xA8 1
  | _ => s

/-- The head of a store buffer is performed, or, once performed, acknowledged. -/
def headStore (s : State) (h : Nat) (b : BufStore) : State :=
  let gone := fun (s : State) => s.setCore h { s.core h with buffer := (s.core h).buffer.drop 1 }
  let kept := fun (s : State) => s.setCore h { s.core h with
    buffer := { b with sent := some s.clk } :: (s.core h).buffer.drop 1 }
  let dom := s.coreDom h
  match b.sent with
  | none =>
    if s.targetDead b.addr then
      let s := (gone s).dropStore 0 h b.addr dom b.early
      s.setCore h { s.core h with dropped := true }
    else
      let s := match regionAt b.addr with
        | .agent k => s.agentWrite (.hazel h) dom k b.addr 0 b.bytes b.early
        | _ => s.hazelWrite h b.addr b.bytes
      match regionAt b.addr with
      | .host => if b.early then gone s else kept s
      | .agent _ => if b.early then gone s else kept s
      | .window => if s.srcHeld (.hazel h) then kept s else gone s
      | _ => gone s
  | some _ => if regionAt b.addr = .window && s.srcHeld (.hazel h) then s else gone s

/-! ### Requests to customer agents that end without an answer (R349, R498, R500) -/

/-- A request to an agent ends without its answer (R349, R498, R500): the store is dropped, or its issuer gets the status. -/
def endRequest (s : State) (q : HubReq) (status : Nat) : State :=
  let s := { s with kt := { s.kt with reqs := s.kt.reqs.filter (fun r => !(r.agent = q.agent && r.tag = q.tag)) } }
  match q.src with
  | .ring r h =>
    match s.kt.finishing.find? (fun x => x.1 = r && x.2.1 = h) with
    | some x =>
      let y := (r, h, worse status x.2.2.1, x.2.2.2)
      { s with kt := { s.kt with finishing := s.kt.finishing.map (fun z => if z.1 = r && z.2.1 = h then y else z) } }
    | none =>
      let s := { s with kt := { s.kt with reqs := s.kt.reqs.filter (fun x => x.src != q.src),
                                          answers := s.kt.answers.filter (fun x => x.src != q.src) } }
      s.finish r h status 0
  | .hazel c =>
    if q.kind = 1 then s.dropStore 0 c q.addr (s.coreDom c) false
    else s.accessFault c (s.core c).pc.toNat q.addr status (q.kind = 2)
  | .kilius a tag posted =>
    if posted then (s.dropStore 2 a q.addr (s.get (F.klAgentCtlDomain a)) false).postedFail a tag q.addr status
    else s.answerAgent a tag (if q.kind = 0 then .readData tag status 0 [] else .cmp tag status)
  | _ => s

/-- A descriptor whose requests are all answered completes. -/
def settleRequests (s : State) : State :=
  let done := s.kt.finishing.filter (fun x => !s.srcWaits (.ring x.1 x.2.1))
  let s := { s with kt := { s.kt with finishing := s.kt.finishing.filter (fun x => s.srcWaits (.ring x.1 x.2.1)) } }
  done.foldl (fun s x => s.finish x.1 x.2.1 x.2.2.1 x.2.2.2) s

/-- Every request that waits on an agent, or in the hub for it, ends with a status. -/
def endRequests (s : State) (a status : Nat) : State :=
  let l := s.kt.reqs.filter (fun r => r.agent = a)
  ((l.foldl (fun s q => if s.kt.reqs.any (fun r => r.agent = a && r.tag = q.tag) then s.endRequest q status else s)
    s).settleRequests).showOut a

/-- An agent is Dead (Table 16.5): event 249 names the request that timed out, if one did; else its port went Down. -/
def agentDead (s : State) (a : Nat) (addr : Option Nat) : State :=
  let s := (s.set (F.klAgentStatusState a) 3).raise 249 sevError 0 noDom
    [d4 a, d8 (addr.getD s.freeWord.toNat), d4 (Config.codeOf 21 (if addr.isSome then 0 else 1))]
  let s := s.drew
  s.endRequests a stTargetDead

/-- The time after which a store to an agent is unanswered (R500); the specification gives none for the host. -/
def storeTimeout (s : State) (a : Nat) : Nat :=
  match regionAt a with
  | .agent k => s.agentTimeout k
  | _ => 0

/-- A target is marked dead (R350): the agent, or the host translation window behind a link. -/
def markDead (s : State) (a link : Nat) : State :=
  match regionAt a with
  | .agent k => if s.get (F.klAgentStatusState k) = 2 then s.agentDead k (some a) else s
  | .host =>
    let x := (hostWindowOf a, link)
    if s.hz.deadHosts.contains x then s else { s with hz := { s.hz with deadHosts := s.hz.deadHosts ++ [x] } }
  | _ => s

/-! ### Launching (R282, R394 to R398) -/

/-- The dies of a kernel in order of choice (R282). -/
def launchDies (s : State) (g : Option Nat) : List Nat :=
  let queued := fun (d : Nat) => (s.waitingKernels d).length
  let pages := fun (d : Nat) => match g with
    | some g => (((s.groupWindow g).filter (fun i => s.plotDie? i = some d)).map (fun i => (s.writtenPages i).length)).sum
    | none => 0
  (List.range s.part.dies).mergeSort (fun a b =>
    decide (pages b < pages a || (pages a = pages b && (queued a < queued b || (queued a = queued b && a ≤ b)))))

/-- The cluster of a launch, or the status that refuses it. -/
def launchDie (s : State) (g : Option Nat) : Except Nat Nat :=
  let granted := match g with
    | some g => (s.group g).hazelGranted
    | none => false
  if granted then
    let d := (s.group (g.getD 0)).hazelDie
    if !s.clusterOnline d then .error stUnitOffline
    else if 64 ≤ (s.waitingKernels d).length then .error stResourceExhausted else .ok d
  else
    let live := (s.launchDies g).filter s.clusterOnline
    if live = [] then .error stUnitOffline
    else match g with
      | some _ => match live.find? (fun d => (s.waitingKernels d).length < 64) with
        | some d => .ok d
        | none => .error stResourceExhausted
      | none => if 64 ≤ (s.waitingKernels (live.headD 0)).length then .error stResourceExhausted else .ok (live.headD 0)

/-- An image as it lies in memory. -/
def makeImage (die addr : Nat) (b : List Byte) (now : Nat) : KImage :=
  let header := fit 64 b
  let code := fit (ofBytes ((header.drop 8).take 4)) (b.drop 64)
  let data := fit (ofBytes ((header.drop 12).take 4)) (b.drop (64 + code.length))
  { die := die, addr := addr, crc := ofBytes ((header.drop 32).take 4), header := header, code := code, data := data, used := now }

/-- Bytes of an image: header, code and data. -/
def imageBytes (s : State) (dom addr : Nat) (outside : List Byte) : List Byte :=
  let h := (s.loadRegion dom addr 64 outside).1
  let n := 64 + min (2 ^ 20) (ofBytes ((h.drop 8).take 4)) + min (2 ^ 17) (ofBytes ((h.drop 12).take 4))
  (s.loadRegion dom addr n outside).1

/-- Images in use by a staged or running kernel. -/
def imageUsed (s : State) (i : KImage) : Bool :=
  s.hz.kernels.any (fun k => k.phase != .queued && k.die = i.die && k.image = i.addr && k.crc = i.crc)

/-- Evict images that are not in use, least recently used first, until `need` bytes are free in a cluster's cache. -/
def evictImages (need d : Nat) : Nat → State → State
  | 0, s => s
  | n + 1, s =>
    let here := s.hz.images.filter (fun i => i.die = d)
    if (here.map (·.size)).sum + need ≤ 2 ^ 21 then s
    else match (here.filter (fun i => !s.imageUsed i)).foldl (fun (m : Option KImage) i => match m with
        | none => some i
        | some x => if i.used < x.used then some i else m) none with
      | none => s
      | some v => evictImages need d n { s with hz := { s.hz with images := s.hz.images.filter (fun i => i != v) } }

/-- Room for an image in a cluster's cache. -/
def imageFits (s : State) (i : KImage) : Bool :=
  (((s.hz.images.filter (fun x => x.die = i.die)).map (·.size)).sum + i.size) ≤ 2 ^ 21

/-- An image or argument that a launch names cannot be used (R394): event 26. -/
def refuseImage (s : State) (k : Kernel) (status : Nat) : State :=
  (s.raise (dieSource k.die 26) sevNotice 0 k.dom [d8 k.image, d4 status]).refuseKernel k status

/-- The status that refuses an image and its arguments. -/
def imageStatus (s : State) (k : Kernel) (i : KImage) : Nat :=
  if k.image % 4096 != 0 then stBadDescriptor
  else if s.reach k.dom k.image i.size != stOk || (0 < k.argLen && s.reach k.dom k.arg k.argLen != stOk) then stDomainDenied
  else if !i.wellFormed || k.want < i.minCores then stBadDescriptor
  else stOk

/-- A kernel's cores start, or are armed for its launch time. -/
def stageKernel (s : State) (k : Kernel) (i : KImage) (args : List Byte) : State :=
  let free := s.freeCores k.die
  let ok := fun (h : Nat) => k.timed.isNone || (s.freeSlotOf? (.core h)).isSome
  let l := (free.filter ok).take k.want
  if l = [] then s.refuseKernel k stResourceExhausted
  else
    let past := match k.timed with
      | some t => t ≤ s.unitTime (.core (l.headD 0))
      | none => false
    if past && k.dropLate then s.refuseKernel k stLaunchPast
    else
      let now := k.timed.isNone || past
      let k := { k with phase := if now then .running else .staged, sramKiB := i.sramKiB, crc := i.crc, cores := l,
                        handler := i.handler, armed := if now then [] else l, begun := s.clk, late := past }
      let arg := if 0 < k.argLen then (s.loadRegion k.dom k.arg k.argLen args).1 else []
      let s := s.setKernel k
      let s := (l.zipIdx).foldl (fun s x => s.loadCore k i arg x.1 x.2 (if now then coreRunning else coreArmed)) s
      let s := if now then s.bump F.hzLaunchCountCount
        else l.foldl (fun s h => match s.freeSlotOf? (.core h) with
          | some j => s.takeSlot (.core h) j 8 k.id (k.timed.getD 0) k.dom k.dropLate
          | none => s) s
      let s := if past then s.markLate k.ring k.handle else s
      s.showCluster k.die

end State

open Host State

/-! ### Accesses -/

/-- HAZEL_LOAD (R87, R329 to R332, R336, R338, R348, R350, R386 to R393, R404, R645): the value from the store buffer if an
earlier store covers it, else from the home point; `outside` is what the host or an agent returns. -/
def execHazelLoad (core pc addr size : Nat) (signed : Bool) (dst : Nat) (outside : List (BitVec 8)) (s : State) :
    Outcome State Fault Refusal :=
  .next <|
    if !s.coreFree core then s
    else
      let s := s.atPc core pc
      let st := s.hazelStatus core addr size false
      if st != stOk then s.accessFault core pc addr st false
      else match s.bufferHit? core addr size with
        | some b =>
          if b.addr ≤ addr && addr + size ≤ b.addr + b.bytes.length && (doorbell? addr).isNone then
            (s.setDst core dst signed ((b.bytes.drop (addr - b.addr)).take size)).countLoad core addr
          else s
        | none =>
          let s := match s.ntHit? core addr with
            | some b => s.drainBuf core (s.coreDom core) b
            | none => s
          if s.srcHeld (.hazel core) then s
          else
            let reader := WinSrc.hazel core
            if !s.ready reader [(addr, size)] then s.fetch reader (s.coreDom core) [(addr, size)]
            else
              let s := s.taken reader
              let v := s.hazelRead core addr size outside
              if v.2 then s.accessFault core pc addr stMediaUncorrectable false
              else
                let s := if regionAt addr = .window then s.heatUp (addr / plotBytes) else s
                (s.setDst core dst signed v.1).countLoad core addr

/-- HAZEL_STORE (R332, R336, R342, R348, R350, R386 to R391, R404, R645): into the store buffer, in the mode in effect now.
Assumption 81 (DEDUCED). -/
def execHazelStore (core pc addr : Nat) (bytes : List (BitVec 8)) (s : State) : Outcome State Fault Refusal :=
  .next <|
    if !s.coreFree core then s
    else
      let s := s.atPc core pc
      let st := s.hazelStatus core addr bytes.length true
      if st != stOk then s.accessFault core pc addr st true
      else if 32 ≤ (s.core core).buffer.length then s.cHz core 0xAD 1
      else
        let c := s.core core
        let b : BufStore := { addr := addr, bytes := bytes, early := s.earlyMode addr, sent := none }
        (s.setCore core { c with buffer := c.buffer ++ [b] }).cHz core 0xA4 1

/-- HAZEL_NT_STORE (R338, R390): into the combining buffer of its line; with all four in use the oldest drains. -/
def execHazelNtStore (core pc addr : Nat) (bytes : List (BitVec 8)) (s : State) : Outcome State Fault Refusal :=
  .next <|
    if !s.coreFree core then s
    else
      let s := s.atPc core pc
      let st := s.hazelStatus core addr bytes.length true
      if st != stOk then s.accessFault core pc addr st true
      else if localBlock addr || (doorbell? addr).isSome then
        let c := s.core core
        let b : BufStore := { addr := addr, bytes := bytes, early := false, sent := none }
        (s.setCore core { c with buffer := c.buffer ++ [b] }).cHz core 0xA4 1
      else
        let c := s.core core
        let s := match s.ntHit? core addr, c.nt with
          | none, b :: rest => if 3 ≤ rest.length then s.drainBuf core (s.coreDom core) b else s
          | _, _ => s
        let c := s.core core
        let m := maskRange (addr % 64) bytes.length
        let data : Line := BitVec.ofNat 512 (ofBytes bytes * 2 ^ (8 * (addr % 64)))
        let old := (s.ntHit? core addr).getD { line := addr / 64, mask := 0, data := 0, since := s.clk }
        let v : NtBuf := { old with mask := old.mask ||| m, data := mergeLine old.data data m, since := s.clk }
        let s := (s.setCore core { c with nt := putBy (fun (b : NtBuf) => b.line = v.line) (some v) c.nt }).cHz core 0xA4 1
        if v.mask = maskAll then s.drainBuf core (s.coreDom core) v else s

/-- An atomic that a customer agent performs at its own home point: Swap and FetchAdd have Kilius opcodes (Table 16.3). -/
def agentAtomic (op : AmoOp) (wide : Bool) (addr : Nat) : Bool :=
  wide && (op = .swap || op = .add) && match regionAt addr with
    | .agent _ => true
    | .agentRegs _ => true
    | _ => false

/-- The atomic request of a core, unless it is already waiting. -/
def State.askAtomic (s : State) (src : WinSrc) (dom : Nat) (op : AmoOp) (addr : Nat) (x : Word) : State :=
  let k := match regionAt addr with
    | .agent k => k
    | .agentRegs k => k
    | _ => 0
  if s.srcWaits src then s
  else s.hubRequest k 2 addr 8 src (fun t => .atomic (if op = .add then 3 else 4) t dom (agentOffset addr).2 x 0)

/-- HAZEL_AMO (R337, R390): read and written at the home point, ordered as between two full barriers.
Assumptions 80 (DEDUCED), 126 (DESIGN CHOICE). -/
def execHazelAmo (core pc : Nat) (op : AmoOp) (addr : Nat) (wide : Bool) (operand : BitVec 64) (dst : Nat)
    (outside : List (BitVec 8)) (s : State) : Outcome State Fault Refusal :=
  .next <|
    if !s.coreFree core then s
    else
      let n := if wide then 8 else 4
      let s := s.atPc core pc
      let st := if addr % n != 0 then stBadDescriptor else s.hazelStatus core addr n true
      if st != stOk then s.accessFault core pc addr st true
      else s.behindBarrier core pc (fun s =>
        let reader := WinSrc.hazel core
        if !s.ready reader [(addr, n)] then
          if agentAtomic op wide addr then s.askAtomic reader (s.coreDom core) op addr operand
          else s.fetch reader (s.coreDom core) [(addr, n)]
        else
          let s := s.taken reader
          let v := s.hazelRead core addr n outside
          if v.2 then s.accessFault core pc addr stMediaUncorrectable false
          else if agentAtomic op wide addr then (s.setDst core dst true v.1).cHz core 0xA4 1
          else
            let new := amoResult op (8 * n) (ofBytes v.1) (operand.toNat % 2 ^ (8 * n))
            ((s.setDst core dst true v.1).hazelWrite core addr (leBytes n new)).cHz core 0xA4 1)

/-- HAZEL_LR (R337, R390): the value at the home point, and a reservation of its line. Assumption 80 (DEDUCED). -/
def execHazelLr (core pc addr : Nat) (wide : Bool) (dst : Nat) (outside : List (BitVec 8)) (s : State) :
    Outcome State Fault Refusal :=
  .next <|
    if !s.coreFree core then s
    else
      let n := if wide then 8 else 4
      let s := s.atPc core pc
      let st := if addr % n != 0 then stBadDescriptor else s.hazelStatus core addr n false
      let st := if st = stOk && s.narrowStore addr n then stRangeFault else st
      if st != stOk then s.accessFault core pc addr st false
      else s.behindBarrier core pc (fun s =>
        let reader := WinSrc.hazel core
        if !s.ready reader [(addr, n)] then s.fetch reader (s.coreDom core) [(addr, n)]
        else
          let s := s.taken reader
          let v := s.hazelRead core addr n outside
          if v.2 then s.accessFault core pc addr stMediaUncorrectable false
          else
            let s := (s.setDst core dst true v.1).countLoad core addr
            s.setCore core { s.core core with resv := some (addr / 64) })

/-- HAZEL_SC (R337, R390): stores, and writes 0, if the reservation still holds; otherwise writes 1.
Assumption 79 (DEDUCED). -/
def execHazelSc (core pc addr : Nat) (wide : Bool) (operand : BitVec 64) (dst : Nat) (s : State) : Outcome State Fault Refusal :=
  .next <|
    if !s.coreFree core then s
    else
      let n := if wide then 8 else 4
      let s := s.atPc core pc
      let st := if addr % n != 0 then stBadDescriptor else s.hazelStatus core addr n true
      if st != stOk then s.accessFault core pc addr st true
      else s.behindBarrier core pc (fun s =>
        let ok := (s.core core).resv = some (addr / 64)
        let s := s.setCore core { s.core core with resv := none }
        let s := s.setDst core dst false (leBytes 8 (if ok then 0 else 1))
        if ok then (s.hazelWrite core addr (leBytes n (operand.toNat % 2 ^ (8 * n)))).cHz core 0xA4 1 else s)

/-- FENCE (R339 to R341, R347). -/
def execFence (core pc : Nat) (s : State) : Outcome State Fault Refusal :=
  .next (if s.coreFree core then s.beginBarrier core pc .fence else s)

/-- FENCE_I (R385): a full barrier; the instruction cache holds nothing that software can see before it.
Assumption 78 (DESIGN CHOICE). -/
def execFenceI (core pc : Nat) (s : State) : Outcome State Fault Refusal :=
  .next (if s.coreFree core then s.beginBarrier core pc .fenceI else s)

/-- COMBINING_BUFFER_IDLE (R338): a buffer without a store for 1 us drains. -/
def execCombiningBufferIdle (core line : Nat) (s : State) : Outcome State Fault Refusal :=
  .next <|
    match (s.core core).nt.find? (fun b => b.line = line) with
    | some b => if b.since + 1000 ≤ s.clk then s.drainBuf core (s.coreDom core) b else s
    | none => s

/-- STORE_ACK (R332, R340 to R344, R349 to R352, R399, R403): the oldest store is performed at its home point, and leaves the
buffer once it is acknowledged; a barrier or an exception with nothing left to wait for goes on.
Assumption 79 (DEDUCED). -/
def execStoreAck (core : Nat) (s : State) : Outcome State Fault Refusal :=
  .next <|
    let s := match (s.core core).buffer with
      | b :: _ => s.headStore core b
      | [] => s
    s.settle core

/-- STORE_TIMEOUT (R349, R350, R352, R355): the store at the head, sent in Target mode, has no answer.
Assumption 83 (DEDUCED). -/
def execStoreTimeout (core : Nat) (s : State) : Outcome State Fault Refusal :=
  .next <|
    match (s.core core).buffer with
    | b :: rest =>
      match b.sent, regionAt b.addr with
      | some t, .window => if t = s.clk && rest = [] then s.settle core else s
      | some t, _ =>
        if s.clk < t + s.storeTimeout b.addr then s
        else
          let s := s.setCore core { s.core core with buffer := rest, dropped := decide (s.coreState core != coreDraining) }
          let s := s.set (F.hzCoreFaultAddrAddress core) (b.addr % 2 ^ 48)
          let s := (s.put (F.hzCoreFaultAddrValid core) true).put (F.hzCoreFaultInfoStoreDropped core) true
          ((s.dropStore 0 core b.addr (s.coreDom core) false).markDead b.addr 0).settle core
      | none, _ => s
    | [] => s

/-- EARLY_STORE_DROP (R344, R355). -/
def execEarlyStoreDrop (src : DropSource) (addr dom : Nat) (s : State) : Outcome State Fault Refusal :=
  .next <|
    match src with
    | .core h =>
      let s := s.dropStore 0 h addr dom true
      if s.coreWorks h then
        let s := s.setCore h { s.core h with dropped := true }
        s.set (F.hzCoreFaultAddrAddress h) (addr % 2 ^ 48)
      else s
    | .mover r => s.dropStore 1 r addr dom true
    | .agent k => s.dropStore 2 k addr dom true
    | .network q => s.dropStore 3 q addr dom true

/-- HAZEL_EXCEPTION (R351, R385, R403, R404, R529): an exception that no access raises.  While the debug port is open, EBREAK
halts the core instead. Assumption 120 (DEDUCED). -/
def execHazelException (core pc : Nat) (cause : HazelCause) (addr : Nat) (s : State) : Outcome State Fault Refusal :=
  .next <|
    if s.coreFree core then
      if decide (cause = HazelCause.ebreak) && s.get F.pvDebugStatusState = 3 then
        let s := s.atPc core pc
        s.setCore core { s.core core with halted := true }
      else
      (s.atPc core pc).coreFault core
        { code := (causeCode cause).1, status := (causeCode cause).2, pc := BitVec.ofNat 64 pc, addr := addr, dropped := false }
    else s

/-! ### Kernels -/

/-- HZ_LAUNCH (R282, R373, R394, R396, R398, R406): the kernel enters the launch queue of its cluster. -/
def execHzLaunch (ring handle : Nat) (s : State) : Outcome State Fault Refusal :=
  .next <|
    match s.startedDesc? ring handle opHzLaunch with
    | none => s
    | some d =>
      if s.hz.kernels.any (fun k => k.ring = ring && k.handle = handle) then s
      else
        let g := if d.num 36 2 = 0xFFFF then none else some (d.num 36 2)
        match s.launchDie g with
        | .error st => s.finish ring handle st 0
        | .ok die =>
          let k : Kernel :=
            { id := s.hz.nextKernel, ring := ring, handle := handle, tag := d.tag, dom := s.ringDom ring, group := g,
              die := die, image := d.num 16 8, arg := d.num 24 8, argLen := d.num 32 4, want := d.num 38 2,
              deadlineUs := d.num 40 4, timed := if d.timed then some d.launch else none, dropLate := d.dropLate,
              late := false, phase := .queued, crc := 0, sramKiB := 0, handler := none, cores := [], armed := [],
              left := [], syncs := [], pool := [], status := stOk, code := 0, core := 0, result := 0, begun := 0,
              silent := false }
          { s with hz := { s.hz with kernels := s.hz.kernels ++ [k], nextKernel := s.hz.nextKernel + 1 } }.showCluster die

/-- KERNEL_START (R394 to R398, R402, R406): the kernel at the head of a cluster's queue; `image` and `args` are what the
host returns where they lie in its memory. Assumptions 82 (DEDUCED), 83 (DEDUCED). -/
def execKernelStart (die : Nat) (image args : List (BitVec 8)) (s : State) : Outcome State Fault Refusal :=
  .next <|
    match s.hz.kernels.find? (fun k => k.die = die && k.phase = .queued) with
    | none => s
    | some k =>
      if !s.clusterOnline die || s.get F.perStatusState = 4 || s.packageLevel = 4 then s
      else if s.reach k.dom k.image 64 != stOk then s.refuseImage k (if k.image % 4096 != 0 then stBadDescriptor else stDomainDenied)
      else
        let fresh := makeImage die k.image (s.imageBytes k.dom k.image image) s.clk
        let old := s.hz.images.find? (fun i => i.die = die && i.addr = k.image && i.crc = fresh.crc)
        let i := { old.getD fresh with used := s.clk }
        let st := s.imageStatus k i
        if st != stOk then s.refuseImage k st
        else
          let s := if old.isSome then s else evictImages i.size die s.hz.images.length s
          if (s.freeCores die).length < i.minCores || s.poolFree die < i.sramKiB || (old.isNone && !s.imageFits i) then s
          else
            let keep := s.hz.images.filter (fun x => !(x.die = die && x.addr = i.addr && x.crc = i.crc))
            let s := { s with hz := { s.hz with images := keep ++ [i] } }
            s.stageKernel k i args

/-- EXIT (R399, R402): a full barrier, then the core leaves the kernel. -/
def execExit (core pc : Nat) (s : State) : Outcome State Fault Refusal :=
  .next (if s.coreFree core then s.beginBarrier core pc .exit else s)

/-- CORES_SYNC (R399): a full barrier, then a wait for every core of the kernel. -/
def execCoresSync (core pc : Nat) (s : State) : Outcome State Fault Refusal :=
  .next (if s.coreFree core then s.beginBarrier core pc .coresSync else s)

/-- HANDLER_RETURN (R399, R402): from the handler, the core resumes at a0. -/
def execHandlerReturn (core : Nat) (s : State) : Outcome State Fault Refusal :=
  .next <|
    if s.coreFree core && s.coreState core = coreHandler then
      let c := s.core core
      (s.setCore core { c with pc := (c.x[10]?).getD 0 }).set (F.hzCoreStatusState core) coreRunning
    else s

/-- KERNEL_COMPLETION (R281, R370, R400, R405): every core has left, or has been reset and has drained.
Assumption 82 (DEDUCED). -/
def execKernelCompletion (kernel : Nat) (s : State) : Outcome State Fault Refusal :=
  .next <|
    match s.kernel? kernel with
    | none => s
    | some k =>
      if (k.phase != .running && k.phase != .ending) || !k.cores.all (fun c => k.left.contains c) then s
      else
        let s := { s with hz := { s.hz with kernels := s.hz.kernels.filter (fun x => x.id != kernel) } }
        let result := if k.status = stOk then k.result + (k.cores.length - 1) * 2 ^ 32 else k.code + k.core * 256
        let st := if k.status = stOk && k.late then stOkLate else k.status
        let s := if k.silent then s else s.finish k.ring k.handle st result
        let s := (s.bump (F.hzClKernelCountCount k.die)).showCluster k.die
        match k.group with
        | some g => s.hazelRelease g
        | none => s

/-- KERNEL_DEADLINE (R401, R405): the kernel has run DeadlineUs. -/
def execKernelDeadline (kernel : Nat) (s : State) : Outcome State Fault Refusal :=
  .next <|
    match s.kernel? kernel with
    | none => s
    | some k =>
      if k.phase != .running || k.deadlineUs = 0 || s.clk < k.begun + k.deadlineUs * 1000 then s
      else
        let s := s.raise (dieSource k.die 25) sevNotice 0 k.dom [d4 k.ring, d4 k.tag]
        let live := k.cores.filter (fun c => !k.left.contains c)
        let s := live.foldl (fun s c =>
          (s.set (F.hzCoreFaultInfoCode c) 0xFF).set (F.hzCoreFaultInfoStatus c) stTimeout) s
        (s.endKernel k stTimeout 0xFF s.freeWord.toNat false).drew

/-- HZ_CORE_RESET (R402, R405): a write of HZ_CORE_CTL.Reset. -/
def execHzCoreReset (core : Nat) (s : State) : Outcome State Fault Refusal :=
  .next <|
    if s.part.cores ≤ core || s.coreState core = coreOffline then s
    else match s.kernelOf? core with
      | some k => s.endKernel k stAbortedReset s.freeWord.toNat core false |>.drew
      | none => s

/-- CORE_DRAIN_COMPLETE (R352, R405): scratch is zeroed, the caches are invalidated, and the core is Idle. -/
def execCoreDrainComplete (core : Nat) (s : State) : Outcome State Fault Refusal :=
  .next <|
    if s.coreState core != coreDraining || !s.coreQuiet core then s
    else match s.kernelOf? core with
      | some k => ((s.setKernel { k with left := k.left ++ [core] }).releaseCore core).showCluster k.die
      | none => (s.releaseCore core).showCluster (core / 32)

/-- IMAGEFLUSH (R395): HZ_CL_CTL.ImageFlush. -/
def execImageflush (die : Nat) (s : State) : Outcome State Fault Refusal :=
  .next { s with hz := { s.hz with images := s.hz.images.filter (fun i => i.die != die || s.imageUsed i) } }

/-- HZ_SHM_GRANT_WRITE (R388, R409): ignored while a kernel of the unit's granted domain is queued, staged or running. -/
def execHzShmGrantWrite (unit : Nat) (value : BitVec 32) (s : State) : Outcome State Fault Refusal :=
  .next <|
    let busy := s.on (F.hzShmGrantValid unit)
      && s.hz.kernels.any (fun k => k.dom = s.get (F.hzShmGrantDomain unit) && k.phase != .ending)
    if s.part.pick 256 128 ≤ unit || busy then s
    else
      let old := s.get (F.hzShmGrantDomain unit)
      let s := s.setReg (R.hzShmGrant unit) (value.setWidth 64 &&& 0x7FF)
      (s.touchKey old).touchKey (s.get (F.hzShmGrantDomain unit))

end Sys2Proof.Machine
end

