-- ==== Sys2Proof/Machine/Launch.lean ====
section
/-!
DEFINITION. Launch slots as they are armed, cancelled and fire, and the time messages of the ports (R68 to R74, R490 to
R492).
-/
namespace Sys2Proof.Machine
open Host State

namespace State

/-- A slot is armed by software with an action code that its unit takes (Table 2.4). -/
def registerAction (u : LaunchUnit) (a : Nat) : Bool :=
  [0, 4, 5, 6].contains a || (a = 7 && u = .hub)

/-- Counter groups of the unit of a slot (R593): the hub's groups, a die's two. -/
def ownGroups : LaunchUnit → Word
  | .hub => 0x7FF
  | .die d => BitVec.ofNat 64 (2 ^ (16 + d) + 2 ^ (24 + d))
  | .core _ => 0

/-- Actions 0x04 and 0x05: the groups of the mask that the slot's unit owns (R593). -/
def freezeOwn (s : State) (u : LaunchUnit) (mask : Word) (on : Bool) : State :=
  match u with
  | .core h =>
    if mask.getLsbD (24 + h / 32) then
      let rest := s.obs.frozenCores.filter (fun x => x != h)
      { s with obs := { s.obs with frozenCores := if on then rest ++ [h] else rest } }
    else s
  | _ =>
    let m := mask &&& ownGroups u
    s.setReg R.pmcFrozen (if on then s.reg R.pmcFrozen ||| m else s.reg R.pmcFrozen &&& ~~~m)

/-- A descriptor held for its launch time goes to its ring engine path (action 0x01). -/
def submitHeld (s : State) (ring handle : Nat) (late : Bool) : State :=
  match s.desc? ring handle with
  | none => s
  | some d =>
    if d.phase = .held then (s.setDesc { d with phase := .ready, late := d.late || late }).startReady ring else s

/-- The lowest snapshot index that is free. -/
def freeSnap? (s : State) : Option Nat := (List.range 16).find? (fun i => !s.md.snaps.any (fun x => x.slot = i))

/-- An armed cut is taken at its stated time (R317, R319, R72). -/
def takeCut (s : State) (c : ArmedCut) (late : Bool) : State :=
  let s := if late then s.markLate c.ring c.handle else s
  let s := s.journal (.epochCut c c.time)
  let s := s.raise 121 sevInfo 0 noDom [d4 c.epoch, d8 c.time]
  if c.snapshot then
    match s.freeSnap? with
    | none => s.finish c.ring c.handle stResourceExhausted 0
    | some i =>
      (s.journal (.snapState { slot := i, epoch := c.epoch, state := .active })).finish c.ring c.handle stOk i
  else s.finish c.ring c.handle stOk 0

/-- What a slot's action does (Table 2.4). -/
def actSlot (s : State) (u : LaunchUnit) (action : Nat) (arg : Word) (late : Bool) : State :=
  if action = 1 then s.submitHeld (bits arg 0 12) (bits arg 16 32) late
  else if action = 2 || action = 3 then
    match u, s.md.armed.find? (fun c => c.epoch = bits arg 0 32 && c.snapshot = (action = 3)) with
    | .hub, some c => s.takeCut c late
    | _, _ => s
  else if action = 4 then s.freezeOwn u arg true
  else if action = 5 then s.freezeOwn u arg false
  else if action = 6 then s.raise 136 sevInfo 0 noDom [d8 arg.toNat]
  else if action = 7 then s.openBw (bits arg 0 8) (bits arg 8 32)
  else if action = 8 then
    match u with
    | .core h => s.startArmed h arg.toNat late
    | _ => s
  else s

/-- A slot fires: its state, its lateness, and its action (R70, R71). -/
def fireSlot (s : State) (u : LaunchUnit) (i : Nat) (past : Bool) : State :=
  let ns := s.unitTime u - (s.reg (slotTime u i)).toNat
  let late := past || 100 < ns
  let action := s.get (slotAction u i)
  let arg := s.reg (slotArg u i)
  let s := (s.put (slotLate u i) late).set (slotLateness u i) (if late then min 65535 (ns / 1000) else 0)
  let s := s.leaveSlot u i slotFired
  let s := if 100 < ns then s.raise 133 sevNotice 0 noDom [d4 u.num, d4 i, d8 ns] else s
  s.actSlot u action arg late

/-- A slot whose fire time has passed is not fired (LatePolicy Drop): a held descriptor, a cut or a staged kernel ends with
LAUNCH_PAST (R71). -/
def dropSlot (s : State) (u : LaunchUnit) (i : Nat) : State :=
  let action := s.get (slotAction u i)
  let arg := s.reg (slotArg u i)
  let s := s.leaveSlot u i slotDropped
  if action = 1 then s.finish (bits arg 0 12) (bits arg 16 32) stLaunchPast 0
  else if action = 8 then
    match u with
    | .core h => s.dropArmed h arg.toNat stLaunchPast
    | _ => s
  else s

/-- An armed slot whose fire time is not later than the DTB follows its late policy at once (R71, Table 2.5). -/
def lateAtArm (s : State) (u : LaunchUnit) (i : Nat) : State :=
  if (s.reg (slotTime u i)).toNat ≤ s.unitTime u then
    if s.on (slotLatePolicy u i) then s.dropSlot u i else s.fireSlot u i true
  else s

/-- The writable bits of TB_LAUNCH_CTL besides Arm and Cancel: Action and LatePolicy. -/
def launchConfig (s : State) (u : LaunchUnit) (i : Nat) (v : Word) : State :=
  (s.set (slotAction u i) (bits v 0 8)).put (slotLatePolicy u i) (bits v 10 1 = 1)

/-- A port sends its Time message (R490). -/
def sendTime (s : State) (k : Nat) : State :=
  let locked := s.get F.tbStatusState = 2
  let msg := KlTx.time ((s.time.seqs[k]?).getD 0) s.time.dtb (s.get (F.klDelayDelayPs k)) (s.on F.tbStatusEverSynced) locked
    ((s.time.stepped[k]?).getD false)
  if !s.klMay k msg then s
  else
  let s := s.klOut k msg
  let t := s.time
  let s := { s with time := { t with seqs := t.seqs.set k ((t.seqs[k]?).getD 0 + 1), stepped := t.stepped.set k false } }
  if k = 8 || k = 9 then
    let s := { s with time := { s.time with agentSent := s.time.agentSent.set (k - 8) s.clk } }
    s.setBit F.tbStatusAgentTimeLost (k - 8) false
  else s

end State

/-- TIME_MESSAGE_SEND (R61, R490). -/
def execTimeMessageSend (s : State) : Outcome State Fault Refusal :=
  .next <|
    if s.time.running then (List.range 11).foldl (fun s k => if s.portIsUp k then s.sendTime k else s) s else s

/-- AGENT_TIME_LOST (R491). -/
def execAgentTimeLost (agent : Nat) (s : State) : Outcome State Fault Refusal :=
  .next <|
    if s.part.sites ≤ agent || s.get (F.klAgentStatusState agent) != 2 || s.bit F.tbStatusAgentTimeLost agent
        || s.klState (8 + agent) = portL1
        || s.clk < (s.time.agentSent[agent]?).getD 0 + 16000 then s
    else (s.setBit F.tbStatusAgentTimeLost agent true).raise 132 sevWarning 0 noDom [d4 (8 + agent)]

/-- LAUNCH_SLOT_ARM (R69, R71, R73): a write of Arm to a slot's CTL by the domain-0 function. -/
def execLaunchSlotArm (unit : LaunchUnit) (slot : Nat) (value : BitVec 32) (s : State) : Outcome State Fault Refusal :=
  .next <|
    let v := value.setWidth 64
    if !unit.present s.part || unit.slots ≤ slot || bits v 8 1 = 0 then s
    else if bits v 9 1 = 1 then s.raiseFree 131 sevNotice 0 noDom
    else if s.get (slotState unit slot) = slotArmed then s
    else if !registerAction unit (bits v 0 8) then
      (s.set (slotState unit slot) slotIdle).raiseFree 131 sevNotice 0 noDom
    else
      let s := (s.launchConfig unit slot v).put (slotArmBit unit slot) true
      let s := ((s.set (slotState unit slot) slotArmed).put (slotLate unit slot) false).set (slotLateness unit slot) 0
      s.lateAtArm unit slot

/-- LAUNCH_SLOT_CANCEL (R73, Table 2.5): a write of Cancel to a slot's CTL. -/
def execLaunchSlotCancel (unit : LaunchUnit) (slot : Nat) (value : BitVec 32) (s : State) : Outcome State Fault Refusal :=
  .next <|
    let v := value.setWidth 64
    if !unit.present s.part || unit.slots ≤ slot || bits v 9 1 = 0 then s
    else if bits v 8 1 = 1 then s.raiseFree 131 sevNotice 0 noDom
    else if s.get (slotState unit slot) = slotArmed && !s.on (slotOwner unit slot) then s.leaveSlot unit slot slotIdle
    else s

/-- LAUNCH_SLOT_FIRE (R62, R70, R71, R317, R319, R398, R593, R595): the unit's DTB replica has reached the fire time. -/
def execLaunchSlotFire (unit : LaunchUnit) (slot : Nat) (s : State) : Outcome State Fault Refusal :=
  .next <|
    if !unit.present s.part || unit.slots ≤ slot || s.get (slotState unit slot) != slotArmed || s.unitHolds unit
        || s.unitTime unit < (s.reg (slotTime unit slot)).toNat then s
    else s.fireSlot unit slot false

/-- LAUNCH_ARM_SEND (R492): LaunchArm for the armed epoch cut, at once or 100 us before its time. -/
def execLaunchArmSend (agent slot : Nat) (s : State) : Outcome State Fault Refusal :=
  .next <|
    if s.part.sites ≤ agent || s.get (F.klAgentStatusState agent) != 2 || 4 ≤ slot
        || s.time.agentSlots.any (fun x => x.1 = agent && x.2.1 = slot) then s
    else
      match s.md.armed.find? (fun c => !c.snapshot && c.time ≤ s.time.dtb + 100000
          && !s.time.agentSlots.any (fun x => x.1 = agent && x.2.2 = c.epoch)) with
      | none => s
      | some c =>
        let drop := (s.cutSlots .hub c.epoch).any (fun i => s.on (slotLatePolicy .hub i))
        let s := s.klSend (8 + agent) (.launchArm slot c.time 2 c.epoch drop)
        let s := { s with time := { s.time with agentSlots := s.time.agentSlots ++ [(agent, slot, c.epoch)] } }
        s.setBit (F.klAgentStatusSlotsArmed agent) slot true

end Sys2Proof.Machine
end

