-- ==== Sys2Proof/Machine/NetOps.lean ====
section
/-!
DEFINITION. Queue pairs as requester and responder: contexts, requests sent, what a failed queue pair ends, NAKs, and the
queues that received payload enters (R414 to R419, R425 to R430, R377 to R379).
-/
namespace Sys2Proof.Machine
open Host State

/-! ### Context fields (R433) -/

def Qp.state (q : Qp) : Nat := bits q.ctx0 0 3
def Qp.domain (q : Qp) : Nat := bits q.ctx0 3 10
def Qp.port (q : Qp) : Nat := bits q.ctx0 13 4
def Qp.gidIndex (q : Qp) : Nat := bits q.ctx0 17 8
def Qp.rxQueue (q : Qp) : Nat := 32 + bits q.ctx0 25 6
def Qp.rxEnable (q : Qp) : Bool := bits q.ctx0 31 1 = 1
def Qp.sqPsn (q : Qp) : Nat := bits q.ctx1 24 24
def Qp.rqPsn (q : Qp) : Nat := bits q.ctx3 0 24
def Qp.maxRd (q : Qp) : Nat := min 16 (max 1 (bits q.ctx3 24 5))
def Qp.maxDestRd (q : Qp) : Nat := min 16 (max 1 (bits q.ctx3 29 5))
def Qp.rnrRetry (q : Qp) : Nat := bits q.ctx3 39 3
def Qp.retryCnt (q : Qp) : Nat := bits q.ctx3 42 3
/-- The transport timeout, in ns. -/
def Qp.timeout (q : Qp) : Nat := 4096 * 2 ^ max 1 (bits q.ctx3 45 5)
/-- The path MTU, in bytes. -/
def Qp.mtu (q : Qp) : Nat := 2 ^ (7 + bits q.ctx3 50 3)

/-- Packets of a message: at least one. -/
def Qp.packets (q : Qp) (n : Nat) : Nat := max 1 ((n + q.mtu - 1) / q.mtu)

/-- A PSN some packets on. -/
def psnAdd (p n : Nat) : Nat := (p + n) % 2 ^ 24

/-- How far a PSN lies beyond another, modulo 2^24. -/
def psnDiff (a b : Nat) : Nat := (a + 2 ^ 24 - b) % 2 ^ 24

namespace State

def setQp (s : State) (q : Qp) : State :=
  { s with net := { s.net with qps := s.net.qps.map (fun (x : Qp) => if x.num = q.num then q else x) } }

/-- A queue pair in RTR or RTS. -/
def liveQp? (s : State) (n : Nat) : Option Qp :=
  match s.qp? n with
  | some q => if q.state = 2 || q.state = 3 then some q else none
  | none => none

/-! ### Received payload in queues (R379, R428) -/

def queue (s : State) (q : Nat) : Queue :=
  (s.rg.queues.find? (fun x => x.q = q)).getD { q := q, write := 0, read := 0, items := [] }

/-- 64-byte chunks of a packet. -/
def chunks (b : List Byte) : Nat := max 1 ((b.length + 63) / 64)

/-- Q_STATUS and Q_PTR follow the queue. -/
def setQueue (s : State) (x : Queue) : State :=
  let s := { s with rg := { s.rg with queues := s.rg.queues.filter (fun (y : Queue) => y.q != x.q) ++ [x] } }
  let n := (x.items.map (fun i => chunks i.2)).sum
  let s := ((s.set (F.qStatusCount x.q) n).put (F.qStatusEmpty x.q) (x.items = [])).put (F.qStatusSpilling x.q) (32 < n)
  (s.set (F.qPtrWrite x.q) x.write).set (F.qPtrRead x.q) x.read

/-- Chunks that a class-B queue holds: its two segments and its spill quota. -/
def queueRoom (s : State) (q : Nat) : Nat := 32 + s.get (F.qCfgSpillQuotaMiB q) * 2 ^ 14

/-- A packet enters a receive queue whole, if there is room (R379). -/
def pushQueue? (s : State) (q qp : Nat) (b : List Byte) : Option State :=
  let x := s.queue q
  let n := (x.items.map (fun i => chunks i.2)).sum
  if s.queueRoom q < n + chunks b then none
  else some (s.setQueue { x with write := (x.write + chunks b) % 2 ^ 32, items := x.items ++ [(qp, b)] })

/-- A drop at a full queue: Q_DROP and event 165 (R378, R379). -/
def dropQueue (s : State) (q : Nat) : State :=
  let s := s.bump (F.qDropCount q)
  s.raise 165 sevWarning 0 noDom [d4 q, d4 (s.get (F.qDropCount q))]

/-- The oldest packet of a queue pair leaves its receive queue. -/
def popQueue (s : State) (qp : Nat) : State :=
  match s.rg.queues.find? (fun x => 32 ≤ x.q && x.q < 96 && x.items.any (fun i => i.1 = qp)) with
  | none => s
  | some x =>
    match x.items.find? (fun i => i.1 = qp) with
    | none => s
    | some i => s.setQueue { x with read := (x.read + chunks i.2) % 2 ^ 32, items := x.items.erase i }

/-- Bytes of WRITE messages held in the bulk queue of a port (R421, R428). -/
def bulkBytes (s : State) (p : Nat) : Nat :=
  ((s.net.qps.filter (fun q => q.port = p)).map (fun q => match q.inbound with
    | some i => if i.write && !i.dropped then i.bytes.length else 0
    | none => 0)).sum

/-- PFC pause follows the spill of the port's bulk queue (R428). -/
def showBulk (s : State) (p : Nat) : State :=
  let n := s.bulkBytes p
  let c := (n + 63) / 64
  let spill := (n - 2048) / 2 ^ 20
  let xoff := s.get F.netCtlXoffMiB
  let xon := if xoff ≤ s.get F.netCtlXonMiB then xoff / 2 else s.get F.netCtlXonMiB
  let q := 96 + p
  let s := ((s.set (F.qStatusCount q) c).put (F.qStatusEmpty q) (c = 0)).put (F.qStatusSpilling q) (32 < c)
  if !s.on (F.netPortCfgPfcEnable p) then s
  else if xoff < spill && !s.on (F.netPortStatusPauseTx p) then
    (s.put (F.netPortStatusPauseTx p) true).send (.pfcPause p true)
  else if spill < xon && s.on (F.netPortStatusPauseTx p) then
    (s.put (F.netPortStatusPauseTx p) false).send (.pfcPause p false)
  else s

/-! ### Requests of the Malhild (R415, R425) -/

/-- The packets of a request leave; they are lost where the port is down. -/
def transmit (s : State) (q : Nat) (r : PeerReq) : State :=
  if !s.bit F.netStatusPortUp (((s.qp? q).map (·.port)).getD 0) then s
  else
    let p := ((s.qp? q).map (·.port)).getD 0
    let s := (s.cNet p 0x49 ((r.len + 63) / 64)).traffic (8 + p) 0 (match r.kind with
      | .read _ _ => 0
      | _ => r.len)
    match r.kind with
  | .write dst b => s.send (.roceWrite q r.psn dst r.rkey b)
  | .read src _ => s.send (.roceRead q r.psn src r.rkey r.len)
  | .send b => s.send (.roceSend q r.psn b)
  | .mirror n m => s.send (.mirror q r.psn n m)

/-- READs of a queue pair that have been sent and not answered. -/
def openReads (q : Qp) : Nat := (q.requests.filter (fun r => r.sent.isSome && match r.kind with
  | .read _ _ => true
  | _ => false)).length

/-- Send the requests that are held, in order, as far as MaxRdAtomic allows (R416). -/
def pumpList (s : State) (n : Nat) : List PeerReq → State
  | [] => s
  | r :: rest =>
    if r.sent.isSome then pumpList s n rest
    else
      match s.qp? n with
      | none => s
      | some q =>
        let held := match r.kind with
          | .read _ _ => q.maxRd ≤ openReads q
          | _ => false
        if held || q.state != 3 || s.bit F.netStatusPaused q.port then s
        else
          let l := q.requests.map (fun (x : PeerReq) => if x.psn = r.psn then { x with sent := some s.clk } else x)
          pumpList ((s.setQp { q with requests := l }).transmit n r) n rest

def pump (s : State) (n : Nat) : State :=
  match s.qp? n with
  | some q => s.pumpList n q.requests
  | none => s

/-- A request joins the send queue of a queue pair and takes its PSNs. -/
def request (s : State) (n : Nat) (kind : PeerKind) (ring handle rkey len : Nat) : State :=
  match s.qp? n with
  | none => s
  | some q =>
    let k := q.packets len
    let r : PeerReq := { psn := q.sqPsn, last := psnAdd q.sqPsn (k - 1), kind := kind, ring := ring, handle := handle,
                         rkey := rkey, len := len, sent := none, got := 0 }
    let c := putBits q.ctx1 24 24 (psnAdd q.sqPsn k)
    (s.setQp { q with ctx1 := c, requests := q.requests ++ [r] }).pump n

/-- A SEND of the device itself; none while the queue pair is not in RTS. -/
def netSend (s : State) (n : Nat) (kind : PeerKind) (len : Nat) : State :=
  match s.qp? n with
  | some q => if q.state = 3 then s.request n kind 4096 0 0 len else s
  | none => s

/-- A mirror message leaves on the peer's queue pair under the next sequence (R426, R427). -/
def sendMirror (s : State) (m : MirrorMsg) (lines : Nat) : State :=
  let s' := s.netSend (s.get F.perMirrorCfgPeerQp) (.mirror s.per.mirrorSeq m) (32 + 72 * lines)
  { s' with per := { s'.per with mirrorSeq := s'.per.mirrorSeq + 1 } }

/-! ### A queue pair fails (R377, R415, R427) -/

/-- Remote-mode rings of a queue pair: what the peer submitted and was not fetched is flushed; HaltCause 3. -/
def ringsOfQp (s : State) (n : Nat) : State :=
  ((List.range 4096).filter (fun r => s.remoteMode r && s.get (F.ringRemoteQp r) = n && s.ringState r = ringEnabled)).foldl
    (fun s r => (s.haltRing r 3).set (F.ringIndexSqHead r) (s.get (F.ringIndexSqTail r))) s

/-- The mirror's queue pair is down (Table 9.11). -/
def mirrorDown (s : State) (n : Nat) : State :=
  if s.on F.perMirrorCfgEnable && s.get F.perMirrorCfgPeerQp = n
      && (s.get F.perMirrorStatusState = 1 || s.get F.perMirrorStatusState = 2) then
    s.mirrorState 3 (some 3)
  else s

/-- The queue pair is in Error: descriptors that wait on it end, those not started and the others with a status each. -/
def qpError (s : State) (n notStarted started : Nat) : State :=
  match s.qp? n with
  | none => s
  | some q =>
    let s := q.requests.foldl (fun s r =>
      if r.ring = 4096 then s else s.finish r.ring r.handle (if r.sent.isSome then started else notStarted) 0) s
    let s := s.setQp { q with ctx0 := putBits q.ctx0 0 3 4, requests := [], inbound := none, redo := none, acks := [], reads := [] }
    ((s.ringsOfQp n).mirrorDown n).showBulk q.port

/-- The AETH syndrome of a NAK, in the data of event 196. PRESUMED: the numbers of the transport standard. -/
def syndrome : NakKind → Nat
  | .sequence => 0x60
  | .invalidRequest => 0x61
  | .accessError => 0x62
  | .operationalError => 0x63
  | .notReady => 0x20

def fatal (k : NakKind) : Bool := match k with
  | .invalidRequest => true
  | .accessError => true
  | .operationalError => true
  | _ => false

/-- A fatal NAK moves a queue pair to Error. -/
def fatalNak (s : State) (n : Nat) (k : NakKind) : State :=
  if fatal k then (s.qpError n stTargetDead stTargetDead).raise 196 sevWarning 0 noDom [d4 n, d4 (syndrome k)] else s

/-- Send a NAK (Table 13.4): its count and its event; a fatal one ends the queue pair. Assumption 71 (PRESUMED). -/
def sendNak (s : State) (n psn : Nat) (k : NakKind) (addr status : Nat) : State :=
  let s := ((s.send (.roceNak n psn k)).bump F.netNakCountCount).cNet (((s.qp? n).map (·.port)).getD 0) 0x4B 1
  let s := match k with
    | .operationalError => s.raise 195 sevError 0 noDom [d4 n, d8 addr, d4 (Config.codeOf 12 status)]
    | _ => s.raise 194 sevNotice 0 noDom [d4 n, d8 addr, d4 status]
  s.fatalNak n k

/-! ### Regions and keys (R418 to R420) -/

def mr? (s : State) (i : Nat) : Option Mr := s.net.mrs.find? (fun m => m.idx = i)

/-- The region's key: its index and Variant. -/
def Mr.key (m : Mr) : Nat := m.idx * 256 + bits m.ctl 0 8

/-- An access of a queue pair is within a region that grants it (R419): 18 read, 19 write, 20 atomic. -/
def mrGrants (s : State) (q : Qp) (rkey addr len perm : Nat) : Bool :=
  match s.mr? (rkey / 256) with
  | none => false
  | some m => Mr.key m = rkey && bits m.ctl 21 1 = 1 && bits m.ctl 8 10 = q.domain && bits m.ctl perm 1 = 1
      && m.base ≤ addr && addr + len ≤ m.base + m.len

/-- A range of the window touches a read-only plot. -/
def rangeReadOnly (s : State) (a n : Nat) : Bool :=
  regionAt a = .window && (List.range ((a + n + plotBytes - 1) / plotBytes - a / plotBytes)).any (fun k =>
    s.plotReadOnly (a / plotBytes + k))

/-- What refuses a remote access: the NAK and its status (Table 13.4, R420). -/
def remoteRefusal (s : State) (q : Qp) (rkey addr len perm : Nat) : Option Nat :=
  if !s.mrGrants q rkey addr len perm then some stDomainDenied
  else if len = 0 then none
  else
    let st := s.reach q.domain addr len
    if st != stOk then some st
    else if perm != 18 && s.rangeReadOnly addr len then some stReadOnly
    else none

end State
end Sys2Proof.Machine
end

