-- ==== Sys2Proof/Machine/Rings.lean ====
section
/-!
DEFINITION. Ring pairs and internal queues (chapter 11): doorbells, enabling, fetching and validating descriptors, the
opcodes that move data and take cuts, completion entries, progress records, notification and queue flushes.
-/
namespace Sys2Proof.Machine
open Host State

namespace State

/-! ### Validation (R367, R373) -/

/-- The operand bytes that an opcode uses, as (first, length); none for an opcode outside Table 11.5. -/
def operandBytes (op : Nat) : Option (List (Nat × Nat)) :=
  if op = opNop || op = opShutdown || op = opCheckpoint then some []
  else if op = opFtRead || op = opFtWrite || op = opFtTrim || op = opFtFlush then some [(16, 24)]
  else if op = opMove then some [(16, 20)]
  else if op = opPeerWrite || op = opPeerRead then some [(16, 22), (40, 4)]
  else if op = opHzLaunch then some [(16, 28)]
  else if op = opSeal || op = opOpen then some [(16, 32)]
  else if op = opEpochCut || op = opSnapCut || op = opSnapDelete then some [(16, 4)]
  else if op = opSnapRead then some [(16, 4), (24, 12), (40, 8)]
  else if op = opLcRange then some [(16, 13)]
  else if op = opHint then some [(16, 12)]
  else if op = opRetire then some [(16, 1), (24, 8)]
  else if op = opSanitize then some [(16, 1)]
  else if op = opSelftest then some [(16, 4)]
  else none

/-- Reserved fields of the header and operand bytes that the opcode does not use are zero (Table 11.3, R368). -/
def reservedZero (d : Desc) (used : List (Nat × Nat)) : Bool :=
  d.num 1 1 / 64 = 0 && d.num 2 2 = 0 && (d.timed || d.launch = 0)
    && (List.range 48).all (fun k => used.any (fun u => u.1 ≤ 16 + k && 16 + k < u.1 + u.2) || d.num (16 + k) 1 = 0)

/-- Opcodes reserved to domain 0 (Table 11.5). -/
def domain0Op (op : Nat) : Bool :=
  [opEpochCut, opSnapCut, opSnapDelete, opRetire, opShutdown, opSanitize, opSelftest, opCheckpoint].contains op

/-- The first status of several checks that is not OK. -/
def firstOf : List Nat → Option Nat
  | [] => none
  | x :: rest => if x = stOk then firstOf rest else some x

/-- Refusals in the order of R367: a malformed operand, then ranges, grants and states of several accesses. -/
def ordered (l : List Nat) : Option Nat :=
  if l.contains stBadDescriptor then some stBadDescriptor
  else if l.contains stRangeFault then some stRangeFault
  else if l.contains stDomainDenied then some stDomainDenied
  else firstOf l

def badIf (b : Bool) : Nat := if b then stBadDescriptor else stOk

/-- A buffer lies wholly in one region that the domain may reach; an empty one is not accessed. -/
def bufferStatus (s : State) (dom a n : Nat) : Nat := if n = 0 then stOk else s.reach dom a n

/-- A destination in a read-only plot (R113). -/
def readOnlyIf (s : State) (a n : Nat) : Nat := if n != 0 && s.rangeReadOnly a n then stReadOnly else stOk

def moveLen (d : Desc) : Nat := d.num 32 4

/-- What refuses a descriptor for its operands, by its opcode. -/
def opRefusal (s : State) (d : Desc) : Option Nat :=
  let dom := s.ringDom d.ring
  let n := moveLen d
  let a := d.num 16 8
  let b := d.num 24 8
  if d.op = opMove then
    ordered [badIf (n = 0 || (a < b + n && b < a + n)), s.bufferStatus dom a n, s.bufferStatus dom b n, s.readOnlyIf b n]
  else if d.op = opPeerWrite then
    ordered [badIf (n = 0), s.bufferStatus dom a n]
  else if d.op = opPeerRead then
    ordered [badIf (n = 0), s.bufferStatus dom b n, s.readOnlyIf b n]
  else if d.op = opHzLaunch then
    let g := d.num 36 2
    ordered [badIf (b % 64 != 0 || 4096 < n || (255 < g && g != 0xFFFF) || d.num 38 2 = 0 || 32 < d.num 38 2)]
  else if d.op = opSeal || d.op = opOpen then
    let aad := d.num 38 2
    let apart := a = b || n = 0 || b + n ≤ a || a + aad + n ≤ b
    ordered [badIf (2 ^ 24 < n || 4096 < aad || 7 < d.num 36 2 || !apart), s.bufferStatus dom a (aad + n), s.bufferStatus dom b n,
      s.bufferStatus dom (d.num 40 8) 32, s.readOnlyIf b n, if d.op = opSeal then s.readOnlyIf (d.num 40 8) 32 else stOk]
  else if d.op = opEpochCut || d.op = opSnapCut then ordered [badIf (!d.timed || d.num 16 4 != s.md.openEpoch)]
  else if d.op = opSnapDelete then ordered [badIf (!s.md.snaps.any (fun x => x.epoch = d.num 16 4))]
  else if d.op = opSnapRead then
    ordered [badIf (b % 64 != 0 || n % 64 != 0 || !s.md.snaps.any (fun x => x.epoch = d.num 16 4)),
      if b / 2 ^ 44 = 0 then s.bufferStatus dom b n else stRangeFault, s.bufferStatus dom (d.num 40 8) n,
      s.readOnlyIf (d.num 40 8) n]
  else if d.op = opLcRange then
    if a % 4096 != 0 then some stBadDescriptor else s.rangeRefusal (d.num 28 1) (a / 4096) (d.num 24 4) dom
  else if d.op = opHint then s.hintRefusal d
  else if d.op = opRetire then ordered [badIf (d.num 16 1 = 0 || 3 < d.num 16 1)]
  else if d.op = opSanitize then ordered [badIf (d.num 16 1 = 0 || 3 < d.num 16 1)]
  else if d.op = opNop || d.op = opShutdown || d.op = opCheckpoint || d.op = opSelftest then none
  else
    match s.ftRefusal d with
    | some st => some st
    | none => if s.ftStatus (d.op != opFtRead) = stOk then none else some (s.ftStatus (d.op != opFtRead))

/-- The opcodes that Basic mode serves (R614). -/
def basicServes (d : Desc) : Bool :=
  d.op = opNop || d.op = opShutdown || (d.op = opMove && regionAt (d.num 16 8) = .window && regionAt (d.num 24 8) = .host)

/-- What refuses a descriptor when it is fetched (R367). -/
def descRefusal (s : State) (d : Desc) : Option Nat :=
  match operandBytes d.op with
  | none => some stBadDescriptor
  | some used =>
    if !reservedZero d used then some stBadDescriptor
    else
      let st := s.opRefusal d
      if st = some stBadDescriptor || st = some stRangeFault then st
      else if domain0Op d.op && s.ringDom d.ring != 0 then some stDomainDenied
      else if st = some stDomainDenied then st
      else if s.get F.perStatusState = 3 && !basicServes d then some stUnitOffline
      else st

/-- A refused descriptor completes and changes nothing; a refused hint is counted (R258). -/
def refuseDesc (s : State) (d : Desc) (st : Nat) : State :=
  let s := if d.op = opHint && (operandBytes d.op).any (reservedZero d) then
      (s.bump F.topHintRefusedCountCount).raise 148 sevNotice 0 (s.ringDom d.ring) [d4 (s.ringDom d.ring), d4 d.hintKind, d4 st]
    else s
  s.finish d.ring d.handle st 0

/-- A valid descriptor with a launch time takes a hub slot with action 0x01 (R372); cuts and kernels are armed by the units
that serve them. -/
def holdDesc (s : State) (d : Desc) : State :=
  match s.freeSlotOf? .hub with
  | none => s.finish d.ring d.handle stResourceExhausted 0
  | some i =>
    let s := s.setDesc { d with phase := .held }
    let s := s.takeSlot .hub i 1 (d.ring + d.handle * 65536) d.launch (s.ringDom d.ring) d.dropLate
    s.lateAtArm .hub i

/-- A GCM descriptor takes its slot's key at validation; a slot that is Empty refuses it (R444, R447). -/
def takeGcm (s : State) (d : Desc) : Option State :=
  if d.op != opSeal && d.op != opOpen then some s
  else match s.cip.slots.find? (fun x => x.1 = s.ringDom d.ring && x.2.1 = d.num 36 2) with
    | none => none
    | some x => some { s with cip := { s.cip with taken := s.cip.taken ++ [(d.ring, d.handle, x.2.2)] } }

/-- A descriptor has arrived (R366, R367): refused, held, or ready. -/
def admitDesc (s : State) (d : Desc) : State :=
  match s.descRefusal d, s.takeGcm d with
  | some st, _ => s.refuseDesc d st
  | none, none => s.refuseDesc d stBadDescriptor
  | none, some s =>
    if d.timed && d.op != opEpochCut && d.op != opSnapCut && d.op != opHzLaunch then s.holdDesc d
    else (s.setDesc { d with phase := .ready }).startReady d.ring

/-! ### Completion entries and notification (R366, R369, R370, R375, R376) -/

/-- The ring's notification fires (R375, R493). -/
def notifyRing (s : State) (r : Nat) : State :=
  let s := { s with rg := { s.rg with unnotified := s.rg.unnotified.filter (fun x => x.ring != r) } }
  let s := s.cRing 0x42 1
  let v := s.get (F.ringNotifyVector r)
  if s.get (F.ringNotifyKind r) = 1 then s.msix (s.get (F.ringNotifyLd r)) v
  else if s.get (F.ringNotifyKind r) = 2 then s.klInterrupt (s.get (F.ringNotifyLd r) % 2) v r
  else s

/-- One more entry is visible. -/
def entryVisible (s : State) (r : Nat) (now : Bool) : State :=
  let u := (s.rg.unnotified.find? (fun x => x.ring = r)).getD { ring := r, count := 0, since := s.clk }
  let u := { u with count := u.count + 1 }
  let rest := s.rg.unnotified.filter (fun x => x.ring != r)
  let s := { s with rg := { s.rg with unnotified := rest ++ [u] } }
  if now || s.get (F.ringCoalesceCount r) ≤ u.count then s.notifyRing r else s

/-- The 16 bytes of a completion entry (Table 11.4). -/
def entryBytes (s : State) (r tag status result op : Nat) (progress late : Bool) : List Byte :=
  let phase := s.get (F.ringIndexCqTail r) / s.cqSize r % 2 = 0
  leBytes 16 (tag + status * 2 ^ 32 + s.get (F.ringIndexSqHead r) * 2 ^ 48 + result % 2 ^ 48 * 2 ^ 64 + op * 2 ^ 112
    + (if progress then 2 ^ 120 else 0) + (if late then 2 ^ 121 else 0) + (if phase then 2 ^ 127 else 0))

/-- An entry is written to the completion ring, or returned to the peer of a remote-mode ring. -/
def writeEntry (s : State) (r : Nat) (b : List Byte) (now : Bool) : State :=
  if s.remoteMode r then s.netSend (s.get (F.ringRemoteQp r)) (.send b) 16
  else
    let t := s.get (F.ringIndexCqTail r)
    let s := s.storeRegion .device (s.ringDom r) s.nowDtb (s.cqSlot r t) b
    let s := (s.set (F.ringIndexCqTail r) ((t + 1) % 65536)).put (F.ringStatusPhase r) ((t + 1) % 65536 / s.cqSize r % 2 = 0)
    s.entryVisible r now

/-! ### Moves -/

/-- Copy a range in pieces that lie in one source line and one destination line; a piece of a poisoned line is stored
poisoned in the window and left unwritten elsewhere (R110, R373). `bad` is the offset of the first failure. -/
def copyRange (src : WinSrc) (dom stamp a b : Nat) (poison : Nat → Bool) :
    Nat → Nat → List Byte → Option Nat → State → State × Option Nat
  | 0, _, _, bad, s => (s, bad)
  | fuel + 1, o, l, bad, s =>
    if l = [] then (s, bad)
    else
      let k := min (64 - (a + o) % 64) (64 - (b + o) % 64)
      let x := l.take k
      let dst := b + o
      if poison ((a + o) / 64) then
        let s := if regionAt dst = .window then
            s.windowWrite { src := src, line := dst / 64, dom := dom, mask := maskRange (dst % 64) x.length,
                            data := 0, poison := true, stamp := stamp }
          else s
        copyRange src dom stamp a b poison fuel (o + k) (l.drop k) (some (bad.getD o)) s
      else copyRange src dom stamp a b poison fuel (o + k) (l.drop k) bad (s.storeRegion src dom stamp dst x)

/-- A line of a region that an internal agent reads as poison. -/
def linePoison (s : State) (dom : Nat) (line : Nat) : Bool := (s.loadRegion dom (line * 64) 64 []).2

/-- A range as a snapshot of an epoch preserves it (R321): line capture, page capture, the same of each later snapshot, the
window. -/
def snapLine (s : State) (dom line : Nat) : List Nat → Line × Bool
  | [] => s.readLine dom line
  | e :: rest =>
    match s.lineCapture? e line with
    | some x => (if x.tag.poison then 0 else s.plain dom line (some x), x.tag.poison)
    | none => match s.pageCapture? e (linePage line) with
      | some c => match c.lines.find? (fun x => x.idx = line % 64) with
        | some x => (if x.tag.poison then 0 else s.plain dom line (some x), x.tag.poison)
        | none => (0, false)
      | none => snapLine s dom line rest

/-- Store lines of a snapshot in a buffer; a poisoned line is stored poisoned in the window and left unwritten elsewhere. -/
def storeLines (src : WinSrc) (dom stamp : Nat) : Nat → Nat → List (Line × Bool) → Option Nat → State → State × Option Nat
  | _, _, [], bad, s => (s, bad)
  | dst, o, (x, p) :: rest, bad, s =>
    if p then
      let s := if regionAt dst = .window then
          s.windowWrite { src := src, line := dst / 64, dom := dom, mask := maskAll, data := 0, poison := true,
                          stamp := stamp }
        else s
      storeLines src dom stamp (dst + 64) (o + 64) rest (some (bad.getD o)) s
    else storeLines src dom stamp (dst + 64) (o + 64) rest bad (s.storeRegion src dom stamp dst (lineBytes x))

/-! ### Cuts (R72, R317, R319) -/

/-- A cut is accepted and armed, or refused. -/
def startCut (s : State) (d : Desc) (snapshot : Bool) : State :=
  let fail := fun (st : Nat) => s.finish d.ring d.handle st 0
  let armedSnaps := (s.md.armed.filter (·.snapshot)).length
  let previous := if snapshot then s.md.lastSnapCut else s.md.lastEpochCut
  if d.num 16 4 != s.md.openEpoch || s.md.armed.any (fun c => c.epoch = d.num 16 4) then fail stBadDescriptor
  else if (previous.any (fun t => d.launch < t + 1000000)) || d.launch + 1000000 < s.time.dtb then fail stLaunchPast
  else if snapshot && 16 ≤ s.md.snaps.length + armedSnaps then fail stResourceExhausted
  else if d.launch ≤ s.time.dtb && d.dropLate then fail stLaunchPast
  else
    let c : ArmedCut := { epoch := d.num 16 4, snapshot := snapshot, time := d.launch, ring := d.ring, handle := d.handle }
    match s.armCut? c d.dropLate with
    | none => fail stResourceExhausted
    | some s =>
      if c.time ≤ s.time.dtb then
        s.cutUnits.foldl (fun s u => (s.cutSlots u c.epoch).foldl (fun s i => s.lateAtArm u i) s) s
      else s

/-! ### Range operations by descriptor (R142) -/

/-- An LC_RANGE descriptor of an operation takes a slot or waits for one; a register start names its slot.
Assumption 33 (DEDUCED). -/
def rangeStart (s : State) (issue : RangeIssue) (op : Nat) : State :=
  match issue with
  | .slot i => s.startRegister i op
  | .descriptor r h =>
    match s.startedDesc? r h opLcRange with
    | none => s
    | some d =>
      let dom := s.ringDom r
      let first := d.num 16 8 / 4096
      let n := d.num 24 4
      if d.num 28 1 != op || s.lc.ops.any (fun o => o.owner = 1 && o.ring = r && o.handle = h)
          || s.lc.waits.any (fun w => w.owner = 1 && w.ring = r && w.handle = h) then s
      else match s.rangeRefusal op first n dom with
        | some st => s.finish r h st 0
        | none => s.startRange { op := op, first := first, sectors := n, dom := dom, owner := 1, ring := r, handle := h }

end State

/-! ### Doorbells and the registers of a ring -/

/-- RING_SQ_TAIL_DOORBELL (R38, R357, R362, R376). -/
def execRingSqTailDoorbell (ring dom : Nat) (value : BitVec 16) (s : State) : Outcome State Fault Refusal :=
  .next <|
    if 4096 ≤ ring then s
    else if s.pageRefused ring dom then s.refusePage ring dom
    else s.ringTail ring value.toNat

/-- RING_CQ_HEAD_DOORBELL (R38, R357, R362). -/
def execRingCqHeadDoorbell (ring dom : Nat) (value : BitVec 16) (s : State) : Outcome State Fault Refusal :=
  .next <|
    if 4096 ≤ ring then s
    else if s.pageRefused ring dom then s.refusePage ring dom
    else s.ringHead ring value.toNat

/-- RING_ENABLE (R361, Table 11.2). -/
def execRingEnable (ring : Nat) (s : State) : Outcome State Fault Refusal :=
  .next (if ring < 4096 then s.enableRing ring else s)

/-- RING_DISABLE (Table 11.2). -/
def execRingDisable (ring : Nat) (s : State) : Outcome State Fault Refusal :=
  .next (if ring < 4096 then s.disableRing ring else s)

/-- ABORT (Table 11.2). -/
def execAbort (ring : Nat) (s : State) : Outcome State Fault Refusal :=
  .next (if ring < 4096 then s.abortRing ring else s)

/-- RING_BIND_WRITE (R356, Table 11.2): a change of the binding resets the ring. -/
def execRingBindWrite (ring : Nat) (value : BitVec 32) (s : State) : Outcome State Fault Refusal :=
  .next <|
    if 4096 ≤ ring then s
    else if s.ringState ring = ringDisabled then s.applyBind ring (value.setWidth 64)
    else if (value.setWidth 64) &&& 0xFFFFFF = s.reg (R.ringBind ring) then s
    else (s.resetRing ring).applyBind ring (value.setWidth 64)

/-! ### Descriptors -/

/-- DESCRIPTOR_FETCH (R305, R363, R365): one read of up to eight descriptors. Assumption 68 (DEDUCED). -/
def execDescriptorFetch (ring count : Nat) (s : State) : Outcome State Fault Refusal :=
  .next <|
    let l := s.ringDescs ring
    let waiting := (l.filter (fun (d : Desc) => decide (d.phase = DescPhase.fetching))).length
    let head := s.get (F.ringIndexSqHead ring) + waiting
    let ready := sub16 (s.get (F.ringIndexSqTail ring)) (head % 65536)
    if 4096 ≤ ring || s.ringState ring != ringEnabled || count = 0 || 8 < count || ready < count
        || s.get (F.ringBindInFlightMax ring) < l.length + count
        || s.cqSize ring < s.cqUsed ring + l.length + count || 16384 < s.rg.descs.length + count
        || s.get F.perStatusState = 4 || (s.on F.pvSelftestBusy && !l.any (fun d => d.op = opSelftest)) then s
    else
      let s := (List.range count).foldl (fun (s : State) (k : Nat) =>
        let d : Desc := { ring := ring, handle := s.rg.nextHandle, index := (head + k) % 65536, words := [], stamp := 0,
                          phase := .fetching, late := false, begun := 0, periods := 0, left := 0, worst := stOk, acc := 0 }
        { s with rg := { s.rg with descs := s.rg.descs ++ [d], nextHandle := s.rg.nextHandle + 1 } }) s
      (s.showRing ring).cRing 0x40 count

/-- DESCRIPTOR_READ_COMPLETE (R28, R72, R364, R366 to R368, R372): the oldest descriptor being fetched arrives; none where
its read faults or times out.  One whose ring is no longer Enabled is not fetched. -/
def execDescriptorReadComplete (ring : Nat) (words : Option (List (BitVec 64))) (s : State) :
    Outcome State Fault Refusal :=
  .next <|
    match (s.ringDescs ring).find? (fun d => d.phase = .fetching) with
    | none => s
    | some d =>
      let a := s.sqSlot ring d.index
      let here := regionAt a = .window
      let held := s.modifiedLines a 64
      let unfetch := fun (s : State) =>
        let l := s.rg.descs.filter (fun (x : Desc) => !(x.ring = ring && decide (x.phase = DescPhase.fetching)))
        (State.showRing { s with rg := { s.rg with descs := l } } ring).ringEmpty ring
      if s.ringState ring != ringEnabled then unfetch s
      else if here && held != [] then s.snoopData held
      else
        let read := s.loadRegion (s.ringDom ring) a 64 []
        let got := if here && s.reach (s.ringDom ring) a 64 = stOk && !read.2 then
            some ((List.range 8).map (fun k => BitVec.ofNat 64 (ofBytes ((read.1.drop (8 * k)).take 8))))
          else if here then none
          else words
        match got with
        | none => unfetch (s.haltRing ring 2)
        | some w =>
          let s := s.set (F.ringIndexSqHead ring) ((d.index + 1) % 65536)
          let d := { d with words := w, stamp := s.nowDtb }
          (s.setDesc d).admitDesc d

/-- DESCRIPTOR_COMPLETE (R305, R334, R364, R366, R369, R370): the completion entry of a descriptor that has ended. -/
def execDescriptorComplete (ring handle : Nat) (fails : Bool) (s : State) : Outcome State Fault Refusal :=
  .next <|
    match s.desc? ring handle with
    | none => s
    | some d =>
      match d.phase with
      | .finished st result =>
        if s.srcHeld (.ring ring handle) || s.get F.perStatusState = 4 then s
        else
          let dead := s.get (F.ringStatusHaltCause ring) = 3
          let st := if st = stOk && d.late then stOkLate else st
          let s := if dead then s
            else if fails then s.haltRing ring 3
            else s.writeEntry ring (s.entryBytes ring d.tag st result d.op false d.late) d.irqNow
          ((s.dropDesc d).startReady ring).cRing 0x41 1
      | _ => s

/-- RING_NOP (R373). -/
def execRingNop (ring handle : Nat) (s : State) : Outcome State Fault Refusal :=
  .next <|
    match s.startedDesc? ring handle opNop with
    | none => s
    | some _ => s.finish ring handle stOk 0

/-- MOVE (R110, R113, R334, R370, R373): `outside` holds the bytes where the source lies outside the device. -/
def execMove (ring handle : Nat) (outside : List (BitVec 8)) (s : State) : Outcome State Fault Refusal :=
  .next <|
    match s.startedDesc? ring handle opMove with
    | none => s
    | some d =>
      let dom := s.ringDom ring
      let a := d.num 16 8
      let n := moveLen d
      match s.opRefusal d with
      | some st => s.finish ring handle st 0
      | none =>
        let src := WinSrc.ring ring handle
        if !s.ready src [(a, n)] then s.fetch src dom [(a, n)]
        else
          let s := s.taken src
          let l := (s.loadRegion dom a n outside).1
          let (s', bad) := copyRange (.ring ring handle) dom d.stamp a (d.num 24 8) (s.linePoison dom) (n / 16 + 4) 0 l none s
          match bad with
          | none => s'.finish ring handle stOk n
          | some k => s'.finish ring handle stMediaUncorrectable k

/-- EPOCH_CUT (R72, R317, R371). -/
def execEpochCut (ring handle : Nat) (s : State) : Outcome State Fault Refusal :=
  .next <|
    match s.startedDesc? ring handle opEpochCut with
    | none => s
    | some d =>
      if s.md.armed.any (fun c => c.ring = ring && c.handle = handle) || s.journalFull false then s else s.startCut d false

/-- SNAPSHOT_CUT (R72, R317, R319). -/
def execSnapshotCut (ring handle : Nat) (s : State) : Outcome State Fault Refusal :=
  .next <|
    match s.startedDesc? ring handle opSnapCut with
    | none => s
    | some d =>
      if s.md.armed.any (fun c => c.ring = ring && c.handle = handle) || s.journalFull false then s else s.startCut d true

/-- SNAPSHOT_DELETE (R323, R373). -/
def execSnapshotDelete (ring handle : Nat) (s : State) : Outcome State Fault Refusal :=
  .next <|
    match s.startedDesc? ring handle opSnapDelete with
    | none => s
    | some d =>
      if s.journalFull false then s
      else match s.md.snaps.find? (fun x => x.epoch = d.num 16 4) with
        | none => s.finish ring handle stBadDescriptor 0
        | some x => (s.journal (.snapState { x with state := .deleting })).finish ring handle stOk 0

/-- SNAPSHOT_READ (R321, R322, R373). -/
def execSnapshotRead (ring handle : Nat) (s : State) : Outcome State Fault Refusal :=
  .next <|
    match s.startedDesc? ring handle opSnapRead with
    | none => s
    | some d =>
      let dom := s.ringDom ring
      let a := d.num 24 8
      let n := moveLen d
      match s.opRefusal d, s.md.snaps.find? (fun x => x.epoch = d.num 16 4) with
      | some st, _ => s.finish ring handle st 0
      | none, none => s.finish ring handle stBadDescriptor 0
      | none, some x =>
        if x.state != .active then s.finish ring handle stMediaUncorrectable 0
        else
          let held := s.modifiedLines a n
          if held != [] then s.snoopData held
          else
            let later := ((s.md.snaps.filter (fun y => x.epoch ≤ y.epoch)).map (·.epoch)).mergeSort
            let l := (List.range (n / 64)).map (fun k => s.snapLine dom (a / 64 + k) later)
            let (s', bad) := storeLines (.ring ring handle) dom d.stamp (d.num 40 8) 0 l none s
            match bad with
            | none => s'.finish ring handle stOk n
            | some k => s'.finish ring handle stMediaUncorrectable k

/-- ADMIN_SHUTDOWN (R302, R305): the flush starts; no completion is written. -/
def execAdminShutdown (ring handle : Nat) (s : State) : Outcome State Fault Refusal :=
  .next <|
    match s.startedDesc? ring handle opShutdown with
    | none => s
    | some _ => s.startFlush 4

/-- ADMIN_CHECKPOINT (R297, R373): it completes with both checkpoints. -/
def execAdminCheckpoint (ring handle : Nat) (s : State) : Outcome State Fault Refusal :=
  .next <|
    match s.startedDesc? ring handle opCheckpoint with
    | none => s
    | some _ =>
      if s.per.ckptWait.contains (ring, handle) then s
      else
        let s := (s.tryCkpt false).tryCkpt true
        { s with per := { s.per with ckptWait := s.per.ckptWait ++ [(ring, handle)] } }

/-! ### Range operations (R141 to R149) -/

/-- CLEAN (R144): Op 1. -/
def execClean (issue : RangeIssue) (s : State) : Outcome State Fault Refusal := .next (s.rangeStart issue opClean)

/-- INVALIDATE (R144): Op 2. -/
def execInvalidate (issue : RangeIssue) (s : State) : Outcome State Fault Refusal := .next (s.rangeStart issue opInvalidate)

/-- PREFETCH (R145): Op 3. -/
def execPrefetch (issue : RangeIssue) (s : State) : Outcome State Fault Refusal := .next (s.rangeStart issue opPrefetch)

/-- LOCK (R146): Op 4. -/
def execLockRange (issue : RangeIssue) (s : State) : Outcome State Fault Refusal := .next (s.rangeStart issue opLock)

/-- UNLOCK (R146): Op 5. -/
def execUnlock (issue : RangeIssue) (s : State) : Outcome State Fault Refusal := .next (s.rangeStart issue opUnlock)

/-- INVALIDATEALL (R140, R144): Op 6. -/
def execInvalidateall (issue : RangeIssue) (s : State) : Outcome State Fault Refusal :=
  .next (s.rangeStart issue opInvalidateAll)

/-! ### Progress records and notification (R374, R375) -/

/-- Opcodes marked Long (Table 11.5). -/
def longOp (op : Nat) : Bool :=
  [opFtTrim, opFtFlush, opMove, opPeerWrite, opPeerRead, opSnapRead, opLcRange, opRetire, opSanitize, opSelftest].contains op

/-- PROGRESS_RECORD (R374): at each whole period of a running Long descriptor. -/
def execProgressRecord (ring handle permille position : Nat) (s : State) : Outcome State Fault Refusal :=
  .next <|
    match s.desc? ring handle with
    | none => s
    | some d =>
      let period := max 1 (s.get (F.ringCoalesceProgressPeriod ring)) * 10000000
      if d.phase != .started || !d.progress || !longOp d.op || s.clk < d.begun + (d.periods + 1) * period
          || s.get (F.ringStatusHaltCause ring) = 3 || s.get F.perStatusState = 4 then s
      else
        let s := s.setDesc { d with periods := d.periods + 1 }
        if s.cqSize ring ≤ s.cqUsed ring + (s.ringDescs ring).length then s.bump (F.ringProgSkipCount ring)
        else s.writeEntry ring (s.entryBytes ring d.tag stOk (min 999 permille + position * 1024) d.op true false) false

/-- NOTIFICATION_COALESCE_TIMER (R375). -/
def execNotificationCoalesceTimer (ring : Nat) (s : State) : Outcome State Fault Refusal :=
  .next <|
    match s.rg.unnotified.find? (fun x => x.ring = ring) with
    | none => s
    | some u => if u.since + s.get (F.ringCoalesceUs ring) * 1000 ≤ s.clk then s.notifyRing ring else s

/-! ### Remote submission (R376, R377) -/

namespace State

/-- A message that is not accepted: one completion to the peer, and event 163. -/
def refuseRemote (s : State) (r st : Nat) : State :=
  let s := s.netSend (s.get (F.ringRemoteQp r)) (.send (s.entryBytes r 0xFFFFFFFF st 0 0 false false)) 16
  s.raise 163 sevNotice 0 noDom [d4 r, d4 st]

/-- Place descriptors at SqTail. -/
def placeDescs (s : State) (r : Nat) : Nat → List Byte → State
  | 0, _ => s
  | n + 1, b =>
    let t := s.get (F.ringIndexSqTail r)
    let s := s.storeRegion .device (s.ringDom r) s.nowDtb (s.sqSlot r t) (b.take 64)
    let s := s.set (F.ringIndexSqTail r) ((t + 1) % 65536)
    placeDescs (s.set (F.ringDbSqTailTail r) ((t + 1) % 65536)) r n (b.drop 64)

end State

/-- REMOTE_SUBMISSION (R376, R377, R428): the ring engine consumes the oldest message of a remote-mode ring's queue pair. -/
def execRemoteSubmission (ring : Nat) (s : State) : Outcome State Fault Refusal :=
  .next <|
    let q := s.get (F.ringRemoteQp ring)
    match (s.rg.queues.filter (fun (x : Queue) => 32 ≤ x.q && x.q < 96)).findSome? (fun (x : Queue) => x.items.find? (fun i => i.1 = q)) with
    | none => s
    | some m =>
      if 4096 ≤ ring || !s.remoteMode ring || s.ringState ring != ringEnabled then s
      else
        let s := s.popQueue q
        let n := m.2.length / 64
        let used := sub16 (s.get (F.ringIndexSqTail ring)) (s.get (F.ringIndexSqHead ring)) + (s.ringDescs ring).length
        if m.2.length % 64 != 0 || n = 0 || 16 < n then s.refuseRemote ring stBadDescriptor
        else if s.sqSize ring < used + n then s.refuseRemote ring stResourceExhausted
        else s.placeDescs ring n m.2

/-! ### Internal queues (R378 to R381) -/

namespace State

/-- A Hazel mailbox: its core, and whether it is inbound. -/
def mailboxOf (q : Nat) : Nat × Bool := ((q - 128) / 2, q % 2 = 0)

/-- A queue is present on the part (Table 11.15). -/
def queuePresent (s : State) (q : Nat) : Bool :=
  q < 17 || (32 ≤ q && q < s.part.pick 96 64) || (96 ≤ q && q < s.part.pick 112 104)
    || (128 ≤ q && q < s.part.pick 640 384)

/-- Items or chunks that a queue holds. -/
def queueItems (s : State) (q : Nat) : Nat :=
  if 96 ≤ q && q < 112 then (s.bulkBytes (q - 96) + 63) / 64 else ((s.queue q).items.map (fun i => chunks i.2)).sum

/-- A bulk queue is flushed: messages that are arriving are dropped to their end. -/
def flushBulk (s : State) (p : Nat) : State :=
  let l := s.net.qps.map (fun (x : Qp) =>
    if x.port = p then { x with inbound := x.inbound.map (fun (i : Inbound) => if i.write then { i with bytes := [], dropped := true } else i) } else x)
  State.showBulk { s with net := { s.net with qps := l } } p

end State

/-- Q_FLUSH (R380). Assumption 70 (DEDUCED). -/
def execQFlush (queue : Nat) (s : State) : Outcome State Fault Refusal :=
  .next <|
    if queue < 32 || !s.queuePresent queue then s
    else
      let n := s.queueItems queue
      let s := if 96 ≤ queue && queue < 112 then s.flushBulk (queue - 96)
        else
          let x := s.queue queue
          s.setQueue { x with read := x.write, items := [] }
      let s := if 128 ≤ queue && !(mailboxOf queue).2 then
          match s.kernelOf? (mailboxOf queue).1 with
          | some k => if k.phase = .running && 0 < n then s.endKernel k stFlushed 0 (mailboxOf queue).1 false else s
          | none => s
        else s
      ((s.put (F.qStatusFlushed queue) true).bump (F.qFlushCountCount queue)).raise 166 sevInfo 0 noDom [d4 queue, d4 n]

/-- SPILL_QUOTA_WRITE (R381). -/
def execSpillQuotaWrite (queue : Nat) (quotaMiB : Nat) (s : State) : Outcome State Fault Refusal :=
  .next <|
    if queue < 32 || 112 ≤ queue || !s.queuePresent queue then s
    else
      let others := ((List.range 80).map (· + 32)).filter (fun q => s.queuePresent q && q != queue)
      let sum := (others.map (fun q => s.get (F.qCfgSpillQuotaMiB q))).sum
      if s.part.pick 4096 2048 < sum + quotaMiB || s.queueItems queue != 0 then
        s.raise 165 sevWarning 0 noDom [d4 queue, d4 (s.get (F.qDropCount queue))]
      else s.set (F.qCfgSpillQuotaMiB queue) quotaMiB

end Sys2Proof.Machine
end

