-- ==== Sys2Proof/Machine/Network.lean ====
section
/-!
DEFINITION. Network ports and remote access (chapter 13): frames, queue pairs, regions, the operations of a responder and of
a requester, flow control and rate control.
-/
namespace Sys2Proof.Machine
open Host State

namespace State

/-! ### Commits (R415, R416, R418, R433) -/

/-- A commit is refused: event 201 with the register's offset, the index and a cause. -/
def refuseCommit (s : State) (reg index cause : Nat) : State :=
  s.raise 201 sevNotice 0 noDom [d4 reg, d4 index, d4 (Config.codeOf 13 cause)]

def stagedQp (s : State) (k : Nat) : Word := (s.net.stageQp[k]?).getD 0

/-- The moves of Table 13.2 that a commit may make. -/
def qpMove (was to_ : Nat) : Bool :=
  (was = 0 && to_ = 1) || (was = 1 && to_ = 2) || (was = 2 && to_ = 3) || (was != 0 && to_ = 4) || to_ = 0

def gid? (s : State) (i : Nat) : Option Gid := s.net.gids.find? (fun g => g.idx = i && bits g.ctl 17 1 = 1)

/-- A new queue pair's binding is sound: a domain, a present port and a GID entry of that port. -/
def qpBinding (s : State) (v : Word) : Bool :=
  bits v 3 10 < 1023 && s.ethPresent (bits v 13 4)
    && (s.gid? (bits v 17 8)).any (fun g => bits g.ctl 0 4 = bits v 13 4)

/-- The link rate of a port, in Mb/s. -/
def ethRate (s : State) (p : Nat) : Nat := 800000 / 2 ^ s.get (F.netPortStatusSpeed p)

/-- A queue pair's committed context. -/
def putQp (s : State) (n : Nat) (v : Word) : State :=
  let link := s.ethRate (bits v 13 4)
  let old := s.qp? n
  let q : Qp :=
    { num := n, ctx0 := v, ctx1 := s.stagedQp 0, ctx2 := s.stagedQp 1, ctx3 := s.stagedQp 2, dgidLo := s.stagedQp 3,
      dgidHi := s.stagedQp 4, inbound := old.bind (·.inbound), redo := old.bind (·.redo),
      acks := (old.map (·.acks)).getD [], reads := (old.map (·.reads)).getD [],
      atomics := (old.map (·.atomics)).getD [], requests := (old.map (·.requests)).getD [],
      retries := bits (s.stagedQp 2) 42 3, rnr := bits (s.stagedQp 2) 39 3, rate := link, target := link,
      alpha := 2 ^ 32, lastCnp := s.clk, lastAlpha := s.clk, lastInc := s.clk, cnpSent := none }
  { s with net := { s.net with qps := s.net.qps.filter (fun x => x.num != n) ++ [q] } }

end State

/-- NET_QP_CTX0_COMMIT (R414, R415, R416, R433, R327). -/
def execNetQpCtx0Commit (qp : Nat) (value : BitVec 64) (s : State) : Outcome State Fault Refusal :=
  .next <|
    if 65536 ≤ qp then s
    else
      let v := value &&& 0x7FFFFFFFF
      let was := s.qpState qp
      let want := bits v 0 3
      let mtu := bits (s.stagedQp 2) 50 3
      let moved := (s.qp? qp).any (fun (q : Qp) => bits q.ctx0 3 22 != bits v 3 22)
      if !qpMove was want then s.refuseCommit 0x48 qp 0
      else if was != 0 && moved then s.refuseCommit 0x48 qp 1
      else if want = 1 && !s.qpBinding v then s.refuseCommit 0x48 qp 2
      else if 1 ≤ want && want ≤ 3 && (mtu < 3 || 5 < mtu) then s.refuseCommit 0x48 qp 3
      else
        let s := if (want = 0 && was != 0) || want = 4 then s.qpError qp stFlushed stTargetDead else s
        if want = 0 then
          State.touchKey { s with net := { s.net with qps := s.net.qps.filter (fun (x : Qp) => x.num != qp) } } (s.qpDomain qp)
        else
          let s := (s.putQp qp v).touchKey (bits v 3 10)
          if want = 3 && s.on F.perMirrorCfgEnable && s.get F.perMirrorCfgPeerQp = qp then
            if s.get F.perMirrorStatusState = 3 then s.mirrorResync
            else if s.get F.perMirrorStatusState = 4 then
              match s.md.applying with
              | some e => s.sendMirror (.again e) 0
              | none => s
            else s
          else s

/-- NET_MR_CTL_COMMIT (R388, R418, R433). -/
def execNetMrCtlCommit (region : Nat) (value : BitVec 32) (s : State) : Outcome State Fault Refusal :=
  .next <|
    if 131072 ≤ region then s
    else
      let base := bits ((s.net.stageMr[0]?).getD 0) 0 48
      let len := bits ((s.net.stageMr[1]?).getD 0) 0 48
      let dom := bits (value.setWidth 64) 8 10
      let fits := match regionOf base len with
        | .window => base + len ≤ s.winPlots * plotBytes
        | .shm => len = 0 || s.reach dom base len = stOk
        | _ => false
      if base % 4096 != 0 || len % 4096 != 0 then s.refuseCommit 0x90 region 4
      else if !fits then s.refuseCommit 0x90 region 5
      else if regionAt base = .window && !s.windowGranted dom base len then s.refuseCommit 0x90 region 6
      else
        let variant := ((s.mr? region).map (fun m => bits m.ctl 0 8)).getD 0
        let ctl := putBits ((value.setWidth 64) &&& 0x3FFF00) 0 8 (variant + 1)
        let m : Mr := { idx := region, base := base, len := len, ctl := ctl }
        { s with net := { s.net with mrs := s.net.mrs.filter (fun (x : Mr) => x.idx != region) ++ [m] } }

/-- NET_GID_CTL_COMMIT (R433): Valid is not cleared while a queue pair not in Reset names the entry. -/
def execNetGidCtlCommit (index : Nat) (value : BitVec 32) (s : State) : Outcome State Fault Refusal :=
  .next <|
    if 256 ≤ index then s
    else if !value.getLsbD 17 && (s.gid? index).isSome && s.net.qps.any (fun (q : Qp) => q.gidIndex = index) then
      s.refuseCommit 0x38 index 7
    else
      let g : Gid := { idx := index, lo := (s.net.stageGid[0]?).getD 0, hi := (s.net.stageGid[1]?).getD 0,
                       ctl := (value.setWidth 64) &&& 0x3FFFF }
      { s with net := { s.net with gids := s.net.gids.filter (fun (x : Gid) => x.idx != index) ++ [g] } }

/-! ### Frames (R412, R414, R417, R430, R431) -/

namespace State

/-- The address belongs to a valid GID entry of a port. -/
def portGid (s : State) (p : Nat) (gid : BitVec 128) : Bool :=
  s.net.gids.any (fun g => bits g.ctl 17 1 = 1 && bits g.ctl 0 4 = p && g.lo.toNat + g.hi.toNat * 2 ^ 64 = gid.toNat)

/-- A frame's destination address is the port's, broadcast, or a PTP multicast address (the two of IEEE 1588).  A flow
control frame is taken whatever its address. -/
def frameForUs (s : State) (p : Nat) (mac : BitVec 48) (f : Frame) : Bool :=
  mac.toNat = s.get (F.netPortCfgMac p) || mac = 0xFFFFFFFFFFFF || mac = 0x011B19000000 || mac = 0x0180C200000E
    || f = .pfc

/-- A CNP for a packet received with ECN CE, at most one in each interval (R430). -/
def congestion (s : State) (p : Nat) (q : Qp) : State :=
  let gap := max 1 (s.get F.netCtlCnpIntervalUs) * 1000
  if s.on (F.netPortCfgEcnEnable p) && !q.cnpSent.any (fun t => s.clk < t + gap) then
    ((s.setQp { q with cnpSent := some s.clk }).send (.roceCnp q.num)).cNet p 0x4D 1
  else s

/-- A RoCEv2 packet at its port. -/
def roceFrame (s : State) (p qpn psn : Nat) (sound supported congested : Bool) : State :=
  let drop := fun (c : Nat) => s.raise 197 sevNotice 0 noDom [d4 p, d4 (Config.codeOf 14 c)]
  if !sound then drop 0
  else if qpn < 65536 || 131072 ≤ qpn then drop 1
  else match s.liveQp? (qpn - 65536) with
    | none => s
    | some q =>
      let s := if congested then s.congestion p q else s
      if supported then s else s.sendNak q.num psn .invalidRequest 0 (Config.codeOf 15 0)

end State

/-- ETH_FRAME_RECEIVE (R412, R414, R417, R430, R431): what the port itself does with a frame; an operation of Table 13.4 that
it accepts goes on as a command of its own. Assumption 71 (PRESUMED). -/
def execEthFrameReceive (port bytes : Nat) (mac : BitVec 48) (fcsGood : Bool) (frame : Frame) (s : State) :
    Outcome State Fault Refusal :=
  .next <|
    if !s.ethPresent port || !s.bit F.netStatusPortUp port then s
    else
      let drop := s.bump F.netDropCountCount
      if !fcsGood || 9216 < bytes || !s.frameForUs port mac frame then drop
      else
        let s := ((s.cNet port 0x4A 1).cNet port 0x48 (units64 bytes)).traffic (8 + port) bytes 0
        match frame with
        | .roce gid qpn psn sound supported congested =>
          if s.portGid port gid then s.roceFrame port qpn psn sound supported congested else drop
        | .resolve gid => if s.portGid port gid then s.send (.resolved port gid) else drop
        | .ptp event => if event then s.set (F.netPtpRxTsTime port) s.nowDtb else s
        | .pfc => s
        | .other => drop

/-! ### The responder (R417 to R423, R428) -/

namespace State

/-- The network carries requests (R614). -/
def netServes (s : State) (q : Qp) : Bool := s.get F.perStatusState != 3 && s.bit F.netStatusPortUp q.port

/-- The expected PSN after some packets. -/
def expectPsn (s : State) (q : Qp) (p : Nat) : State := s.setQp { q with ctx3 := putBits q.ctx3 0 24 p }

/-- What a packet's PSN says: expected, a duplicate, or beyond a gap, which draws a NAK for the expected PSN. -/
def onPsn (s : State) (q : Qp) (psn : Nat) (fresh duplicate : State → State) : State :=
  let n := psnDiff psn q.rqPsn
  if n = 0 then fresh s
  else if 2 ^ 23 ≤ n then duplicate s
  else s.sendNak q.num q.rqPsn .sequence 0 (Config.codeOf 15 1)

/-- A WRITE that covers part of a native word of a Hazel-owned plot (R420). -/
def partWord (s : State) (a n : Nat) : Bool :=
  regionAt a = .window && ((a % 8 != 0 && (s.plot (a / plotBytes)).hazelOwned)
    || ((a + n) % 8 != 0 && (s.plot ((a + n - 1) / plotBytes)).hazelOwned))

/-- A WRITE message is complete: its lines enter the window or the shared memory. -/
def performWrite (s : State) (q : Qp) (psn : Nat) (m : Inbound) : State :=
  (s.storeRegion (.rdma q.num psn) q.domain s.nowDtb m.addr m.bytes)

/-- A packet of a WRITE message joins the packets held; the last one performs the message and owes an acknowledgement. -/
def writePacket (s : State) (q : Qp) (psn : Nat) (m : Inbound) (b : List Byte) (last again : Bool) : State :=
  let m := if m.dropped then m else { m with bytes := m.bytes ++ b }
  let put := fun (q : Qp) (v : Option Inbound) => if again then { q with redo := v } else { q with inbound := v }
  let q := if again then q else { q with ctx3 := putBits q.ctx3 0 24 (psnAdd psn 1) }
  let s :=
    if !last then s.setQp (put q (some m))
    else if m.dropped then s.setQp (put q none)
    else if m.bytes.length != m.len then (s.setQp (put q none)).sendNak q.num psn .invalidRequest m.addr (Config.codeOf 15 2)
    else
      let s := s.setQp { put q none with acks := q.acks ++ [(psn, none)] }
      s.performWrite q psn m
  s.showBulk q.port

/-- The checks of a WRITE packet (R416, R418, R420). -/
def checkWrite (s : State) (q : Qp) (first : Bool) (addr rkey len off n : Nat) : Option (NakKind × Nat) :=
  if first && min 16 (max 1 (s.get F.netCtlMaxWriteMiB)) * 2 ^ 20 < len then some (.invalidRequest, Config.codeOf 15 3)
  else match (if first then s.remoteRefusal q rkey addr len 19 else s.remoteRefusal q rkey (addr + off) n 19) with
    | some st => some (.accessError, st)
    | none => if first && s.partWord addr len then some (.accessError, stRangeFault) else none

/-- A packet of a WRITE that is new or arrives again. -/
def takeWrite (s : State) (q : Qp) (psn : Nat) (first last : Bool) (addr rkey len : Nat) (b : List Byte) (again : Bool) :
    State :=
  let held := if again then q.redo else q.inbound
  match (if first then some { start := psn, write := true, addr := addr, rkey := rkey, len := len, bytes := [],
                              dropped := false : Inbound } else held) with
  | none => s.sendNak q.num psn .invalidRequest addr (Config.codeOf 15 4)
  | some m =>
    if !m.write then s.sendNak q.num psn .invalidRequest addr (Config.codeOf 15 4)
    else match s.checkWrite q first m.addr m.rkey m.len m.bytes.length b.length with
      | some (k, st) => s.sendNak q.num psn k (m.addr + m.bytes.length) st
      | none =>
        if s.queueRoom (96 + q.port) * 64 < s.bulkBytes q.port + b.length then s else s.writePacket q psn m b last again

end State

/-- SEND (R416, R417, R428). -/
def execSend (qp psn : Nat) (first last : Bool) (bytes : List (BitVec 8)) (s : State) : Outcome State Fault Refusal :=
  .next <|
    match s.liveQp? qp with
    | none => s
    | some q =>
      if !s.netServes q then s
      else s.onPsn q psn
        (fun s =>
          if !q.rxEnable then s.sendNak qp psn .invalidRequest 0 (Config.codeOf 15 0)
          else match (if first then some { start := psn, write := false, addr := 0, rkey := 0, len := 0, bytes := [],
                                           dropped := false : Inbound } else q.inbound) with
            | none => s.sendNak qp psn .invalidRequest 0 (Config.codeOf 15 4)
            | some m =>
              let m := { m with bytes := m.bytes ++ bytes }
              if m.write then s.sendNak qp psn .invalidRequest 0 (Config.codeOf 15 4)
              else if 4096 < m.bytes.length then s.sendNak qp psn .invalidRequest 0 (Config.codeOf 15 3)
              else if !last then (s.setQp { q with inbound := some m, ctx3 := putBits q.ctx3 0 24 (psnAdd psn 1) })
              else match s.pushQueue? q.rxQueue qp m.bytes with
                | none =>
                  let s := (s.dropQueue q.rxQueue).setQp { q with inbound := none, ctx3 := putBits q.ctx3 0 24 m.start }
                  s.sendNak qp m.start .notReady 0 (Config.codeOf 15 5)
                | some s =>
                  (s.setQp { q with inbound := none, ctx3 := putBits q.ctx3 0 24 (psnAdd psn 1) }).send (.roceAck qp psn))
        (fun s => s.send (.roceAck qp (psnAdd q.rqPsn (2 ^ 24 - 1))))

/-- RDMA_WRITE (R416 to R421, R424, R428). Assumption 72 (DEDUCED). -/
def execRdmaWrite (qp psn : Nat) (first last : Bool) (addr rkey len : Nat) (bytes : List (BitVec 8)) (s : State) :
    Outcome State Fault Refusal :=
  .next <|
    match s.liveQp? qp with
    | none => s
    | some q =>
      if !s.netServes q then s
      else s.onPsn q psn
        (fun s => s.takeWrite q psn first last addr rkey len bytes false)
        (fun s =>
          if q.inbound.any (fun m => psnDiff psn m.start < 2 ^ 23) then s
          else s.takeWrite q psn first last addr rkey len bytes true)

/-- RDMA_WRITE_ACK_SEND (R334, R421, R422): the oldest WRITE or atomic whose last write is accepted, or done on the near path,
is acknowledged. -/
def execRdmaWriteAckSend (qp : Nat) (s : State) : Outcome State Fault Refusal :=
  .next <|
    match s.liveQp? qp with
    | none => s
    | some q =>
      match q.acks with
      | [] => s
      | (psn, v) :: rest =>
        if s.srcHeld (.rdma qp psn) || s.bit F.netStatusPaused q.port then s
        else
          let s := s.setQp { q with acks := rest }
          match v with
          | none => s.send (.roceAck qp psn)
          | some x => s.send (.roceAtomicAck qp psn x)

/-- READs and atomics that a responder has not answered (R416). -/
def State.pendingReads (q : Qp) : Nat := q.reads.length + (q.acks.filter (fun a => a.2.isSome)).length

/-- RDMA_READ (R416 to R420, R423): the request is taken; a duplicate is read again. -/
def execRdmaRead (qp psn addr rkey len : Nat) (s : State) : Outcome State Fault Refusal :=
  .next <|
    match s.liveQp? qp with
    | none => s
    | some q =>
      if !s.netServes q then s
      else
        let take := fun (expect : Option Nat) (s : State) =>
          if 2 ^ 30 < len then s.sendNak qp psn .invalidRequest addr (Config.codeOf 15 3)
          else if q.maxDestRd ≤ State.pendingReads q then s.sendNak qp psn .invalidRequest addr (Config.codeOf 15 6)
          else match s.remoteRefusal q rkey addr len 18 with
            | some st => s.sendNak qp psn .accessError addr st
            | none =>
              let r : PeerRead := { psn := psn, addr := addr, len := len, packets := 0 }
              let c := match expect with
                | some p => putBits q.ctx3 0 24 p
                | none => q.ctx3
              s.setQp { q with reads := q.reads ++ [r], ctx3 := c }
        s.onPsn q psn (take (some (psnAdd psn (q.packets len)))) (take none)

/-- READ_RESPONSE_SEND (R335, R423): the next response packet of a queue pair. -/
def execReadResponseSend (qp : Nat) (s : State) : Outcome State Fault Refusal :=
  .next <|
    match s.liveQp? qp with
    | none => s
    | some q =>
      match q.reads with
      | [] => s
      | r :: rest =>
        let a := r.addr + r.packets * q.mtu
        let n := min q.mtu (r.len - r.packets * q.mtu)
        let psn := psnAdd r.psn r.packets
        let held := if n = 0 then [] else s.modifiedLines a n
        if q.acks.any (fun x => s.srcHeld (.rdma qp x.1)) || s.bit F.netStatusPaused q.port then s
        else if held != [] then s.snoopData held
        else
          let x := if n = 0 then ([], false) else s.loadRegion q.domain a n []
          if x.2 then s.sendNak qp psn .operationalError a 0
          else
            let done := q.packets r.len ≤ r.packets + 1
            let r' : PeerRead := { r with packets := r.packets + 1 }
            (s.setQp { q with reads := if done then rest else r' :: rest }).send (.roceReadResponse qp psn x.1)

namespace State

/-- An atomic of a peer (R337, R417, R422): performed at its home point, or answered from the atomic cache; one whose line
a host holds modified waits for it. -/
def peerAtomic (s : State) (op qp psn addr rkey : Nat) (a b : Word) : State :=
  match s.liveQp? qp with
  | none => s
  | some q =>
    if !s.netServes q then s
    else s.onPsn q psn
      (fun s =>
        if addr % 8 != 0 then s.sendNak qp psn .invalidRequest addr (Config.codeOf 15 7)
        else if q.maxDestRd ≤ pendingReads q then s.sendNak qp psn .invalidRequest addr (Config.codeOf 15 6)
        else match s.remoteRefusal q rkey addr 8 20 with
          | some st => s.sendNak qp psn .accessError addr st
          | none =>
            let held := s.modifiedLines addr 8
            if held != [] then
              (s.snoopData held).park (addr / 64) (.peerAtomic op qp psn addr rkey a b)
            else if q.acks.any (fun x => s.srcHeld (.rdma qp x.1)) then
              s.park (addr / 64) (.peerAtomic op qp psn addr rkey a b)
            else
              let x := s.loadRegion q.domain addr 8 []
              if x.2 then s.sendNak qp psn .operationalError addr 1
              else
                let old := BitVec.ofNat 64 (ofBytes x.1)
                let cache := (q.atomics ++ [(psn, old)]).drop (q.atomics.length + 1 - 16)
                let s := s.setQp { q with ctx3 := putBits q.ctx3 0 24 (psnAdd psn 1), atomics := cache,
                                          acks := q.acks ++ [(psn, some old)] }
                s.storeRegion (.rdma qp psn) q.domain s.nowDtb addr (leBytes 8 (atomicNew op a b old.toNat)))
      (fun s => match q.atomics.find? (fun x => x.1 = psn) with
        | some x => s.send (.roceAtomicAck qp psn x.2)
        | none => s)

end State

/-- COMPARE_AND_SWAP (R337, R417, R422). -/
def execCompareAndSwap (qp psn addr rkey : Nat) (compare swap : BitVec 64) (s : State) : Outcome State Fault Refusal :=
  .next (s.peerAtomic opCompareSwap qp psn addr rkey compare swap)

/-- FETCH_AND_ADD (R337, R417, R422). -/
def execFetchAndAdd (qp psn addr rkey : Nat) (add : BitVec 64) (s : State) : Outcome State Fault Refusal :=
  .next (s.peerAtomic opFetchAdd qp psn addr rkey add 0)

/-! ### The requester (R415, R416, R425) -/

namespace State

/-- What refuses a peer transfer (R425). -/
def peerRefusal (s : State) (d : Desc) : Option Nat :=
  let q := d.num 36 2
  match s.opRefusal d with
  | some st => some st
  | none =>
    if s.qpDomain q != s.ringDom d.ring || (s.qp? q).isNone then some stDomainDenied
    else if s.qpState q != 3 then some stTargetDead
    else none

/-- The transfer's requests are under way. -/
def peerStarted (s : State) (d : Desc) : Bool :=
  d.left != 0 || s.net.qps.any (fun (q : Qp) => q.requests.any (fun r => r.ring = d.ring && r.handle = d.handle))

/-- The good runs of a source range: offset and bytes, cut at poisoned lines and at each GiB; the first poisoned offset. -/
def goodRuns (s : State) (dom a : Nat) : Nat → Nat → List Byte → List (Nat × List Byte) × Option Nat
  | 0, _, _ => ([], none)
  | fuel + 1, o, l =>
    if l = [] then ([], none)
    else
      let k := min (64 - (a + o) % 64) (2 ^ 30 - o % 2 ^ 30)
      let x := l.take k
      let (rest, bad) := goodRuns s dom a fuel (o + k) (l.drop k)
      if s.linePoison dom ((a + o) / 64) then (rest, some o)
      else match rest with
        | (o', y) :: more => if o' = o + k && o' % 2 ^ 30 != 0 then ((o, x ++ y) :: more, bad) else ((o, x) :: rest, bad)
        | [] => ([(o, x)], bad)

/-- The sent requests of a queue pair from one on leave again. -/
def resend (s : State) (n : Nat) (upTo : Nat) : State :=
  match s.qp? n with
  | none => s
  | some q =>
    let l := q.requests.filter (fun r => r.sent.isSome && psnDiff r.last upTo < 2 ^ 23)
    let q' := { q with requests := q.requests.map (fun (r : PeerReq) =>
      if r.sent.isSome && psnDiff r.last upTo < 2 ^ 23 then { r with sent := some s.clk } else r) }
    l.foldl (fun s r => (s.cNet q.port 0x4C 1).transmit n r) (s.setQp q')

/-- Retries are exhausted (Table 13.2). -/
def exhausted (s : State) (n : Nat) : State := (s.qpError n stTimeout stTimeout).raise 198 sevWarning 0 noDom [d4 n]

/-- One message of a descriptor is acknowledged, or its response has arrived whole. -/
def peerDone (s : State) (r : PeerReq) : State := if r.ring = 4096 then s else s.partDone r.ring r.handle

end State

/-- MOVE_PEER_WRITE (R370, R373, R425). -/
def execMovePeerWrite (ring handle : Nat) (outside : List (BitVec 8)) (s : State) : Outcome State Fault Refusal :=
  .next <|
    match s.startedDesc? ring handle opPeerWrite with
    | none => s
    | some d =>
      if s.peerStarted d then s
      else match s.peerRefusal d with
        | some st => s.finish ring handle st 0
        | none =>
          let dom := s.ringDom ring
          let a := d.num 16 8
          let n := moveLen d
          let src := WinSrc.ring ring handle
          if !s.ready src [(a, n)] then s.fetch src dom [(a, n)]
          else
            let s := s.taken src
            let l := (s.loadRegion dom a n outside).1
            let (runs, bad) := s.goodRuns dom a (n / 32 + 4) 0 l
            let worst := if bad.isSome then stMediaUncorrectable else stOk
            let s := s.setDesc { d with left := runs.length, worst := worst, acc := bad.getD n }
            if runs = [] then s.finish ring handle worst 0
            else runs.foldl (fun s x =>
              s.request (d.num 36 2) (.write (d.num 24 8 + x.1) x.2) ring handle (d.num 40 4) x.2.length) s

/-- MOVE_PEER_READ (R370, R373, R416, R425). -/
def execMovePeerRead (ring handle : Nat) (s : State) : Outcome State Fault Refusal :=
  .next <|
    match s.startedDesc? ring handle opPeerRead with
    | none => s
    | some d =>
      if s.peerStarted d then s
      else match s.peerRefusal d with
        | some st => s.finish ring handle st 0
        | none =>
          let n := moveLen d
          let parts := (List.range ((n + 2 ^ 30 - 1) / 2 ^ 30)).map (fun k => (k * 2 ^ 30, min (2 ^ 30) (n - k * 2 ^ 30)))
          let s := s.setDesc { d with left := parts.length, acc := n }
          parts.foldl (fun s x =>
            s.request (d.num 36 2) (.read (d.num 16 8 + x.1) (d.num 24 8 + x.1)) ring handle (d.num 40 4) x.2) s

/-- QP_RETRY_TIMEOUT (R415). -/
def execQpRetryTimeout (qp : Nat) (s : State) : Outcome State Fault Refusal :=
  .next <|
    match s.liveQp? qp with
    | none => s
    | some q =>
      match q.requests.find? (fun r => r.sent.isSome) with
      | none => s
      | some r =>
        if s.clk < r.sent.getD 0 + q.timeout then s
        else if q.retries = 0 then s.exhausted qp
        else (s.setQp { q with retries := q.retries - 1 }).resend qp r.psn

/-- ACK_RECEIVE (R425): an acknowledgement, or a READ response packet with its bytes. -/
def execAckReceive (qp psn : Nat) (bytes : List (BitVec 8)) (s : State) : Outcome State Fault Refusal :=
  .next <|
    match s.liveQp? qp with
    | none => s
    | some q =>
      let isRead := fun (r : PeerReq) => match r.kind with
        | .read _ _ => true
        | _ => false
      let reading := q.requests.find? (fun r => isRead r && r.sent.isSome && psnDiff psn r.psn ≤ psnDiff r.last r.psn)
      let acked := q.requests.filter (fun r => !isRead r && r.sent.isSome && psnDiff psn r.last < 2 ^ 23)
      let keep := q.requests.filter (fun r => !acked.contains r)
      let fresh := acked != [] || reading.isSome
      let q := { q with requests := keep, retries := if fresh then q.retryCnt else q.retries,
                        rnr := if fresh then q.rnrRetry else q.rnr }
      let s := acked.foldl (fun s r => s.peerDone r) (s.setQp q)
      let s := match reading with
        | none => s
        | some r => match r.kind with
          | .read _ dst =>
            if psnDiff psn r.psn * q.mtu != r.got || r.len < r.got + bytes.length then s
            else
              let r' := { r with got := r.got + bytes.length }
              let l := if r'.got = r.len then q.requests.filter (fun (x : PeerReq) => x.psn != r.psn)
                else q.requests.map (fun (x : PeerReq) => if x.psn = r.psn then { r' with sent := some s.clk } else x)
              let s := s.setQp { q with requests := l }
              let s := s.storeRegion (.ring r.ring r.handle) (s.ringDom r.ring) s.nowDtb (dst + r.got) bytes
              if r'.got = r.len then s.peerDone r else s
          | _ => s
      s.pump qp

/-- NAK_RECEIVE (R415): a fatal NAK moves the queue pair to Error; the others make it send again. -/
def execNakReceive (qp psn : Nat) (kind : NakKind) (s : State) : Outcome State Fault Refusal :=
  .next <|
    match s.liveQp? qp with
    | none => s
    | some q =>
      match kind with
      | .sequence =>
        if q.retries = 0 then s.exhausted qp else (s.setQp { q with retries := q.retries - 1 }).resend qp psn
      | .notReady =>
        if q.rnrRetry = 7 then s.resend qp psn
        else if q.rnr = 0 then s.exhausted qp
        else (s.setQp { q with rnr := q.rnr - 1 }).resend qp psn
      | k => s.fatalNak qp k

/-! ### Flow control, rate control and links (R410, R429, R430, R432) -/

/-- PFC_PAUSE_RECEIVE (R429). Assumption 72 (DEDUCED). -/
def execPfcPauseReceive (port : Nat) (pause : Bool) (s : State) : Outcome State Fault Refusal :=
  .next <|
    if !s.ethPresent port then s
    else
      let was := s.net.paused.filter (fun x => x.1 = port)
      let rest := s.net.paused.filter (fun x => x.1 != port)
      let s := (s.setBit F.netStatusPaused port pause).put (F.netPortStatusPauseRx port) pause
      if pause then
        { s with net := { s.net with paused := rest ++ (if was = [] then [(port, s.clk)] else was) } }
      else
        let s := { s with net := { s.net with paused := rest, said := s.net.said.filter (fun p => p != port) } }
        (s.net.qps.filter (fun (q : Qp) => q.port = port)).foldl (fun s q => s.pump q.num) s

/-- PORT_PAUSED_100MS (R429). -/
def execPortPaused100ms (port : Nat) (s : State) : Outcome State Fault Refusal :=
  .next <|
    if s.net.paused.any (fun x => x.1 = port && x.2 + 100000000 ≤ s.clk) && !s.net.said.contains port then
      { s with net := { s.net with said := s.net.said ++ [port] } }.raise 199 sevNotice 0 noDom [d4 port]
    else s

namespace State

/-- The limiter's lowest rate, in Mb/s. -/
def minRate (s : State) : Nat := max 1 (s.get F.netCcCfgMinRate) * 1000

end State

/-- CNP_RECEIVE (R430). -/
def execCnpReceive (qp : Nat) (s : State) : Outcome State Fault Refusal :=
  .next <|
    match s.liveQp? qp with
    | none => s
    | some q =>
      if !s.on F.netCcCfgEnable then s
      else
        let g := 2 ^ s.get F.netCcCfgG
        let rate := max s.minRate (q.rate * (2 ^ 33 - q.alpha) / 2 ^ 33)
        s.setQp { q with target := q.rate, rate := rate, alpha := q.alpha + (2 ^ 32 - q.alpha) / g, lastCnp := s.clk }

/-- CC_ALPHA_TIMER (R430): AlphaUs without a CNP. -/
def execCcAlphaTimer (qp : Nat) (s : State) : Outcome State Fault Refusal :=
  .next <|
    match s.liveQp? qp with
    | none => s
    | some q =>
      if !s.on F.netCcCfgEnable || s.clk < max q.lastCnp q.lastAlpha + max 1 (s.get F.netCcCfgAlphaUs) * 1000 then s
      else s.setQp { q with alpha := q.alpha - q.alpha / 2 ^ s.get F.netCcCfgG, lastAlpha := s.clk }

/-- CC_INCREASE_TIMER (R430): every IncUs. -/
def execCcIncreaseTimer (qp : Nat) (s : State) : Outcome State Fault Refusal :=
  .next <|
    match s.liveQp? qp with
    | none => s
    | some q =>
      if !s.on F.netCcCfgEnable || s.clk < q.lastInc + max 1 (s.get F.netCcCfgIncUs) * 1000 then s
      else
        let t := min (q.target + s.get F.netCcCfgRai * 100) (s.ethRate q.port)
        s.setQp { q with target := t, rate := max s.minRate ((q.rate + t) / 2), lastInc := s.clk }

/-- PORT_LINK_UP (R410, R432). -/
def execPortLinkUp (port : Nat) (s : State) : Outcome State Fault Refusal :=
  .next <|
    if !s.ethPresent port || s.bit F.netStatusPortUp port || 3 ≤ s.get F.pvModeMode then s
    else
      let mode := if port < 8 then s.get F.netLaneCfgMode0 else s.get F.netLaneCfgMode1
      let s := ((s.setBit F.netStatusPortUp port true).put (F.netPortStatusUp port) true).setBit F.pvUnitsLostEthPort port false
      let s := (s.put (F.netPortStatusPresent port) true).set (F.netPortStatusSpeed port) mode
      s.raise 193 sevInfo 0 noDom [d4 port, d4 mode]

/-- A port's link goes down (R432): the device is Reduced without it (Table 20.3). -/
def State.ethDown (s : State) (port : Nat) : State :=
  let s := (s.setBit F.netStatusPortUp port false).put (F.netPortStatusUp port) false
  ((s.bump (F.netPortStatusLinkDowns port)).raise 192 sevWarning 0 noDom [d4 port]).unitLost F.pvUnitsLostEthPort port

/-- PORT_LINK_DOWN (R411, R432). -/
def execPortLinkDown (port : Nat) (s : State) : Outcome State Fault Refusal :=
  .next <|
    if !s.bit F.netStatusPortUp port then s else s.ethDown port

end Sys2Proof.Machine
end

