-- ==== Sys2Proof/Machine/Mirror.lean ====
section
/-!
DEFINITION. The epoch mirror's messages and states (R324 to R327, R426, R427).
-/
namespace Sys2Proof.Machine
open Host State

namespace State

/-- GCM slot 0 of the mirror's key domain holds a key (R448). -/
def mirrorKey (s : State) : Bool :=
  s.cip.slots.any (fun x => x.1 = s.qpDomain (s.get F.perMirrorCfgPeerQp) && x.2.1 = 0)

/-- The mirror is enabled with a role and a key, and the queue pair is its peer's. -/
def mirrorRole (s : State) (qp role : Nat) : Bool :=
  s.on F.perMirrorCfgEnable && s.get F.perMirrorCfgRole = role && s.get F.perMirrorCfgPeerQp = qp && s.mirrorKey

/-- A message that fails to open, or comes from the wrong direction: discarded; event 200; Resync (R426, R427). -/
def mirrorBad (s : State) (qp epoch : Nat) : State :=
  ((s.popQueue qp).raise 200 sevWarning 0 noDom [d4 qp, d4 epoch]).mirrorResync

/-- A message of the peer is opened and used, or discarded. `high` is the direction's bit 63 of Seq. -/
def mirrorOpen (s : State) (qp epoch seq role : Nat) (high opens : Bool) (f : State → State) : State :=
  if !s.mirrorRole qp role then s
  else if !opens || decide (2 ^ 63 ≤ seq % 2 ^ 64) != high then s.mirrorBad qp epoch
  else f (s.popQueue qp)

/-- Lines that the receive queue of 2 GiB holds, at 80 bytes each. -/
def mirrorReceiveSize : Nat := 2 ^ 31 / 80

/-- Messages of up to 56 lines; the first argument bounds them. -/
def sendLines (epoch : Nat) : Nat → List (Nat × Line × Bool) → State → State
  | 0, _, s => s
  | n + 1, l, s =>
    if l = [] then s
    else sendLines epoch n (l.drop 56) (s.sendMirror (.lines epoch (l.take 56)) (l.take 56).length)

/-- A plot's lines, as a resync sends them. -/
def plotLines (s : State) (plot : Nat) : List (Nat × Line × Bool) :=
  (List.range (plotBytes / 64)).map (fun k =>
    let line := plot * (plotBytes / 64) + k
    let dom := match s.qp? (s.get F.perMirrorCfgPeerQp) with
      | some q => q.domain
      | none => 0
    let x := s.readLine dom line
    (line, x.1, x.2))

/-- The queued lines of an epoch and of those before it, and its end marker. -/
def sendEpoch (s : State) (e : Nat) : State :=
  let l := (s.per.send.filter (fun x => x.epoch ≤ e)).map (fun x => (x.line, x.data, x.poison))
  (sendLines e l.length l s).sendMirror (.endMarker e) 0

/-- MirrorDirty bits of plots with no line queued are cleared. -/
def mirrorClean (s : State) : State :=
  (s.md.mirrorDirty.filter (fun p => !s.per.send.any (fun x => linePlot x.line = p) && !s.per.resend.contains p)).foldl
    (fun s p => s.journal (.mirrorDirty p false)) s

end State

/-- MIRROR_LINES (R325, R326, R426, R427): a kind-1 message at the receiver. Assumption 64 (DESIGN CHOICE). -/
def execMirrorLines (qp epoch seq : Nat) (lines : List (Nat × BitVec 512)) (opens : Bool) (s : State) :
    Outcome State Fault Refusal :=
  .next (s.mirrorOpen qp epoch seq 2 false opens (fun s =>
    if mirrorReceiveSize < s.per.receive.length + lines.length then
      State.mirrorResync { s with per := { s.per with receive := [] } }
    else
      let l := lines.map (fun x => ({ line := x.1, data := x.2, poison := false, epoch := epoch } : MirrorLine))
      State.showMirror { s with per := { s.per with receive := s.per.receive ++ l } }))

/-- MIRROR_END_OF_EPOCH (R325, R427): ApplyBegin, and the epoch's lines enter Quickset under the domain bound to the
mirror. Assumption 64 (DESIGN CHOICE). -/
def execMirrorEndOfEpoch (qp epoch seq : Nat) (opens : Bool) (s : State) : Outcome State Fault Refusal :=
  .next (s.mirrorOpen qp epoch seq 2 false opens (fun s =>
    let s := s.journal (.mirrorApply epoch true)
    let l := s.per.receive.filter (fun x => x.epoch ≤ epoch)
    let s := State.showMirror { s with per := { s.per with receive := s.per.receive.filter (fun x => epoch < x.epoch) } }
    l.foldl (fun s x => s.windowWrite { src := .device, line := x.line, dom := s.qpDomain qp, mask := maskAll, data := x.data,
                                        poison := x.poison, stamp := s.nowDtb }) s))

/-- MIRROR_APPLY_COMPLETE (R325, R327): every line is accepted; ApplyEnd, the acknowledgement, and Sync. -/
def execMirrorApplyComplete (s : State) : Outcome State Fault Refusal :=
  .next <|
    match s.md.applying with
    | none => s
    | some e =>
      if s.srcHeld .device || !s.on F.perMirrorCfgEnable || s.get F.perMirrorCfgRole != 2 then s
      else
        let s := (s.journal (.mirrorApply e false)).sendMirror (.ack e) 0
        (s.set F.perMirrorStatusAckedEpoch e).mirrorState 1 none

/-- MIRROR_ACKNOWLEDGEMENT (R325, R327, R427): at the sender. -/
def execMirrorAcknowledgement (qp epoch seq : Nat) (opens : Bool) (s : State) : Outcome State Fault Refusal :=
  .next (s.mirrorOpen qp epoch seq 1 true opens (fun s =>
    let s := s.set F.perMirrorStatusAckedEpoch epoch
    let s := { s with per := { s.per with send := s.per.send.filter (fun x => epoch < x.epoch) } }
    let s := s.mirrorClean.showMirror
    if s.get F.perMirrorStatusState = 2 && s.per.resend = [] then
      ({ s with per := { s.per with queueing := true, sent := s.md.openEpoch } }).mirrorState 1 none
    else s))

/-- MIRROR_REQUEST_EPOCH_AGAIN (R327, R427): at the sender; lines that the queue no longer holds make it a resync. -/
def execMirrorRequestEpochAgain (qp epoch seq : Nat) (opens : Bool) (s : State) : Outcome State Fault Refusal :=
  .next (s.mirrorOpen qp epoch seq 1 true opens (fun s =>
    if s.per.send.any (fun x => x.epoch = epoch) then s.sendEpoch epoch else s.mirrorResync))

/-- A dirty plot is sent again whole, with the open epoch (R427). -/
def State.resendPlot (s : State) (p : Nat) (rest : List Nat) : State :=
  let s := State.sendLines s.md.openEpoch (plotBytes / 64) (s.plotLines p) s
  { s with per := { s.per with resend := rest } }

/-- MIRROR_END_MARKER_SEND (R324, R327): the oldest closed epoch and its marker; in Resync the next dirty plot, and the marker
after the last one. -/
def execMirrorEndMarkerSend (s : State) : Outcome State Fault Refusal :=
  .next <|
    if !s.on F.perMirrorCfgEnable || s.get F.perMirrorCfgRole != 1 || s.qpState (s.get F.perMirrorCfgPeerQp) != 3
        || !s.mirrorKey then s
    else if s.get F.perMirrorStatusState = 1 then
      if s.per.sent < s.md.openEpoch then
        let e := s.per.sent
        let s := s.sendEpoch e
        { s with per := { s.per with sent := e + 1 } }
      else s
    else if s.get F.perMirrorStatusState = 2 then
      match s.per.resend with
      | [] => s.sendMirror (.endMarker s.md.openEpoch) 0
      | p :: rest =>
        let held := s.modifiedLines (p * plotBytes) plotBytes
        if held != [] then s.snoopData held
        else
          s.resendPlot p rest
    else s

/-- MIRROR_ENABLE (R326, R327): a write of PER_MIRROR_CFG that sets Enable. -/
def execMirrorEnable (value : BitVec 64) (s : State) : Outcome State Fault Refusal :=
  .next <|
    if s.on F.perMirrorCfgEnable || !value.getLsbD 2 then s
    else
      let s := s.setReg R.perMirrorCfg (value &&& 0xFFFF0000FF07)
      let seq := if s.get F.perMirrorCfgRole = 2 then 2 ^ 63 else 0
      let s := { s with per := { s.per with mirrorSeq := seq, receive := [] } }
      if s.get F.perMirrorCfgRole = 1 || s.get F.perMirrorCfgRole = 2 then s.mirrorResync else s

/-- MIRROR_DISABLE (R327): a write of PER_MIRROR_CFG that clears Enable; Role stays. -/
def execMirrorDisable (value : BitVec 64) (s : State) : Outcome State Fault Refusal :=
  .next <|
    if !s.on F.perMirrorCfgEnable || value.getLsbD 2 then s
    else
      let role := s.get F.perMirrorCfgRole
      let s := (s.setReg R.perMirrorCfg (value &&& 0xFFFF0000FF07)).set F.perMirrorCfgRole role
      let s := { s with per := { s.per with send := [], receive := [], resend := [], queueing := false } }
      (s.mirrorState 0 none).showMirror

end Sys2Proof.Machine
end

