-- ==== Sys2Proof/Machine/Cipher.lean ====
section
/-!
DEFINITION. The cipher cluster (chapter 14): key commands, where keys reside, cores and lanes that fail, and the GCM
descriptors.
-/
namespace Sys2Proof.Machine
open Host State

namespace State

/-- A key command of a domain page is running. -/
def keyBusy (s : State) (dom : Nat) : Bool := s.on (F.cipDomStatusBusy dom)

/-- A key command is ignored or refused: event 225. -/
def refuseKey (s : State) (dom op st : Nat) : State := s.raise 225 sevNotice 0 noDom [d4 dom, d4 op, d4 st]

/-- A key command starts. -/
def startKey (s : State) (dom op slot : Nat) (wrapped : List Byte) : State :=
  if s.keyBusy dom then s.refuseKey dom op stBusyOnline
  else
    let c : KeyCmd := { dom := dom, op := op, slot := slot, wrapped := wrapped }
    { s with cip := { s.cip with cmds := s.cip.cmds ++ [c] } }.put (F.cipDomStatusBusy dom) true

/-- A key command ends with a status. -/
def endKey (s : State) (dom st : Nat) : State :=
  let s := { s with cip := { s.cip with cmds := s.cip.cmds.filter (fun c => c.dom != dom) } }
  (s.put (F.cipDomStatusBusy dom) false).set (F.cipDomStatusLastStatus dom) st

/-- The key of a GCM slot, or an empty slot. -/
def putSlot (s : State) (dom slot : Nat) (key : Option (List Byte)) : State :=
  let rest := s.cip.slots.filter (fun x => !(x.1 = dom && x.2.1 = slot))
  let s := { s with cip := { s.cip with slots := rest ++ (key.map (fun k => (dom, slot, k))).toList } }
  s.setBit (F.cipDomStatusSlotValid dom) slot key.isSome

/-- Event 224. -/
def keyChanged (s : State) (dom op slot : Nat) : State :=
  s.raise 224 sevInfo 0 noDom [d4 dom, d4 op, d4 slot, d4 (s.get (F.cipDomXtsGeneration dom))]

/-- What keeps the XTS key of a domain from being replaced (R441). -/
def keyInUse (s : State) (dom : Nat) : Bool :=
  (List.range s.ldCount).any (fun n => s.ldEnabled n && s.ldDomain n = dom)
    || (s.get F.ringEngineStatusEnabled != 0
      && (List.range 4096).any (fun r => s.ringState r != ringDisabled && s.ringDom r = dom))
    || s.net.qps.any (fun (q : Qp) => q.domain = dom)
    || s.hz.kernels.any (fun k => k.dom = dom)
    || (List.range s.part.sites).any (fun a => s.get (F.klAgentCtlDomain a) = dom)

/-- A key domain takes its next XTS key pair (R438, R441). -/
def nextKey (s : State) (dom : Nat) : State :=
  let n := s.keyGen dom
  { s with cip := { s.cip with keys := Store.write (fun _ => 0) dom (n + 1) s.cip.keys,
                               bad := s.cip.bad.filter (fun d => d != dom) } }

/-- The XTS key pair of a domain is replaced, and Generation increments. -/
def replaceKey (s : State) (dom : Nat) : State :=
  (s.nextKey dom).set (F.cipDomXtsGeneration dom) ((s.get (F.cipDomXtsGeneration dom) + 1) % 65536)

/-- The GCM core that serves a request (R444): the one that holds the key, or the first online, whose least recently used
entry gives way. Assumption 73 (DEDUCED). -/
def useGcmKey (s : State) (key : List Byte) : State :=
  match s.cip.gcm.find? (fun e => e.key = key) with
  | some e => { s with cip := { s.cip with gcm := s.cip.gcm.map (fun (x : GcmEntry) =>
      if x.core = e.core && x.key = key then { x with used := s.clk } else x) } }
  | none =>
    let core := ((List.range 15).find? (s.bit F.cipStatusGcmOnline)).getD 15
    let mine := s.cip.gcm.filter (fun e => e.core = core)
    let oldest := mine.foldl (fun (m : Option GcmEntry) e => match m with
      | some x => if e.used < x.used then some e else m
      | none => some e) none
    let l := if mine.length < Config.gcmEntries then s.cip.gcm else s.cip.gcm.filter (fun e => some e != oldest)
    let e : GcmEntry := { core := core, key := key, used := s.clk }
    let s : State := { s with cip := { s.cip with gcm := l ++ [e] } }
    (s.bump F.cipGcmSwitchCountCount).cCip 0x52 1

/-- A GCM core works. -/
def gcmOnline (s : State) : Bool := s.get F.cipStatusGcmOnline != 0 || s.get F.cipKeysGcmCore15 % 2 = 1

/-- The key that a descriptor took (R444). -/
def takenKey? (s : State) (ring handle : Nat) : Option (List Byte) :=
  (s.cip.taken.find? (fun x => x.1 = ring && x.2.1 = handle)).map (·.2.2)

/-- A GCM descriptor ends, and gives its key back. -/
def endGcm (s : State) (ring handle st result : Nat) : State :=
  let s := { s with cip := { s.cip with taken := s.cip.taken.filter (fun x => !(x.1 = ring && x.2.1 = handle)) } }
  s.finish ring handle st result

/-- The operands of a GCM descriptor as they are read: source bytes, the IvTag block, and poison.  Bytes from outside are
those of the source, then those of the block, where they lie outside the device. -/
def gcmOperands (s : State) (d : Desc) (outside : List Byte) : List Byte × List Byte × Bool :=
  let dom := s.ringDom d.ring
  let n := d.num 38 2 + moveLen d
  let a := d.num 16 8
  let src := if n = 0 then ([], false) else s.loadRegion dom a n outside
  let used := if n = 0 then 0 else match regionAt a with
    | .window => 0
    | .shm => 0
    | _ => n
  let iv := s.loadRegion dom (d.num 40 8) 32 (outside.drop used)
  (src.1, iv.1, src.2 || iv.2)

/-- What a GCM descriptor meets before its text is processed. -/
def gcmRefusal (s : State) (d : Desc) (iv : List Byte) (poison : Bool) : Option Nat :=
  match s.opRefusal d with
  | some st => some st
  | none =>
    if !s.gcmOnline then some stUnitOffline
    else if poison then some stMediaUncorrectable
    else if (iv.drop 12).take 4 != [0, 0, 0, 0] then some stBadDescriptor
    else none

/-- The ranges that a GCM descriptor reads. -/
def gcmReads (d : Desc) : List (Nat × Nat) := [(d.num 16 8, d.num 38 2 + moveLen d), (d.num 40 8, 32)]

end State

/-! ### Key commands (R440, R441) -/

/-- LOAD_GCM_SLOT (R440): Op 1 of CIP_DOM_CMD. -/
def execLoadGcmSlot (dom slot : Nat) (s : State) : Outcome State Fault Refusal :=
  .next <|
    if 1024 ≤ dom || 8 ≤ slot then s
    else
      let w := (List.range 5).flatMap (fun i => leBytes 8 (s.get (F.cipDomWrapWrapped dom i)))
      s.startKey dom 1 slot w

/-- CLEAR_GCM_SLOT (R440): Op 2. -/
def execClearGcmSlot (dom slot : Nat) (s : State) : Outcome State Fault Refusal :=
  .next (if 1024 ≤ dom || 8 ≤ slot then s else s.startKey dom 2 slot [])

/-- REPLACE_XTS_KEY (R441): Op 3, through the domain-0 function only. -/
def execReplaceXtsKey (dom issuer : Nat) (s : State) : Outcome State Fault Refusal :=
  .next <|
    if 1024 ≤ dom then s
    else if issuer != 0 then s.refuseKey dom 3 stDomainDenied
    else if s.keyBusy dom then s.refuseKey dom 3 stBusyOnline
    else if s.keyInUse dom then
      (s.set (F.cipDomStatusLastStatus dom) stBusyOnline).refuseKey dom 3 stBusyOnline
    else s.startKey dom 3 0 []

/-- KEY_COMMAND_COMPLETE (R438, R440, R526): a load or a clearing ends. -/
def execKeyCommandComplete (dom : Nat) (s : State) : Outcome State Fault Refusal :=
  .next <|
    match s.cip.cmds.find? (fun c => c.dom = dom && c.op != 3) with
    | none => s
    | some c =>
      if c.op = 2 then ((s.putSlot dom c.slot none).endKey dom stOk).keyChanged dom 2 c.slot
      else match (Store.find? s.pv.keks dom).bind (fun kek => keyUnwrap kek c.wrapped) with
        | some key => ((s.putSlot dom c.slot (some key)).endKey dom stOk).keyChanged dom 1 c.slot
        | none => (s.endKey dom stAuthFailed).raise 230 sevWarning 0 noDom [d4 dom, d4 c.slot]

/-- XTS_KEY_SWITCH (R435, R441): once Quickset holds no entry of the domain. -/
def execXtsKeySwitch (dom : Nat) (s : State) : Outcome State Fault Refusal :=
  .next <|
    if s.cip.cmds.any (fun c => c.dom = dom && c.op = 3) && !s.qs.any (fun e => e.dom = dom) then
      ((s.replaceKey dom).endKey dom stOk).keyChanged dom 3 0
    else s

/-! ### Where keys reside (R442, R443, R445, R446) -/

/-- KEY_PIN_RELEASE (R442): 1 s after a key domain stopped being active. -/
def execKeyPinRelease (dom : Nat) (s : State) : Outcome State Fault Refusal :=
  .next <|
    if s.cip.idle.any (fun i => i.1 = dom && i.2 + 1000000000 ≤ s.clk) && !s.keyActive dom then
      let l := s.cip.xts.map (fun (e : XtsEntry) => if e.dom = dom then { e with pinned := false } else e)
      State.showKeys { s with cip := { s.cip with xts := l, idle := s.cip.idle.filter (fun i => i.1 != dom) } } dom
    else s

/-- KEY_REPLICA_LOAD (R443): a further copy in an unpinned entry of a core that lacks the key. -/
def execKeyReplicaLoad (dom : Nat) (s : State) : Outcome State Fault Refusal :=
  .next <|
    if !s.on F.cipCtlReplicaEnable || !s.cip.xts.any (fun e => e.dom = dom) then s
    else match s.xtsOnline.find? (fun c => !(s.keysIn c).any (fun e => e.dom = dom) && s.pinsIn c < 64) with
      | some c => s.loadKey c dom false
      | none => s

namespace State

/-- KeyThrash: the active key domains exceed the entries of the cores that are online (R445). -/
def showThrash (s : State) : State :=
  let active := ((s.cip.xts.filter (·.pinned)).map (·.dom)).eraseDups.length
  let room := 64 * s.xtsOnline.length
  let t := room < active
  if t && !s.on F.cipStatusKeyThrash then
    (s.put F.cipStatusKeyThrash true).raise 227 sevWarning 0 noDom [d4 active, d4 s.xtsOnline.length]
  else s.put F.cipStatusKeyThrash t

/-- The window pipeline is lost: Safe mode (R46). -/
def pipelineLost (s : State) : State := s.safeMode 7

end State

/-- CIPHER_CORE_OFFLINE (R445, R613): an XTS core's pinned keys are pinned again on the cores that remain. -/
def execCipherCoreOffline (gcm : Bool) (core : Nat) (s : State) : Outcome State Fault Refusal :=
  .next <|
    if 16 ≤ core then s
    else
      let up := if gcm then (if core = 15 then s.get F.cipKeysGcmCore15 % 2 = 1 else s.bit F.cipStatusGcmOnline core)
        else s.bit F.cipStatusXtsOnline core
      if !up then s
      else
        let s := (s.raise 228 sevCritical 0 noDom [d4 (Config.codeOf 16 (if gcm then 1 else 0)), d4 core]).unitLost F.pvUnitsLostCipherCore 0
        if gcm then
          let s := { s with cip := { s.cip with gcm := s.cip.gcm.filter (fun e => e.core != core) } }
          if core = 15 then s.set F.cipKeysGcmCore15 0 else s.setBit F.cipStatusGcmOnline core false
        else
          let lost := (s.keysIn core).filter (fun e => e.pinned)
          let s := (State.setBit { s with cip := { s.cip with xts := s.cip.xts.filter (fun e => e.core != core) } }
            F.cipStatusXtsOnline core false)
          let active := (lost.map (·.dom) ++ (s.cip.xts.filter (·.pinned)).map (·.dom)).eraseDups.length
          let room := 64 * s.xtsOnline.length
          let s := lost.foldl (fun s e => s.pinKey e.dom) s
          let s := if room < active && !s.on F.cipStatusKeyThrash then
              (s.put F.cipStatusKeyThrash true).raise 227 sevWarning 0 noDom [d4 active, d4 s.xtsOnline.length]
            else s
          if s.xtsOnline = [] then s.pipelineLost else s

/-- NEAR_PATH_LANE_FAILURE (R446, R613). -/
def execNearPathLaneFailure (die : Nat) (s : State) : Outcome State Fault Refusal :=
  .next <|
    if s.part.dies ≤ die || s.cip.lanes.contains die then s
    else ({ s with cip := { s.cip with lanes := s.cip.lanes ++ [die] } }.raise 229 sevCritical 0 noDom [d4 die]).unitLost
        F.pvUnitsLostCipherCore 0

/-! ### GCM descriptors (R444, R447) -/

/-- GCM_SEAL (R370, R373, R444, R447). Assumption 69 (DESIGN CHOICE). -/
def execGcmSeal (ring handle : Nat) (outside : List (BitVec 8)) (s : State) : Outcome State Fault Refusal :=
  .next <|
    match s.startedDesc? ring handle opSeal, s.takenKey? ring handle with
    | some d, some key =>
      let reader := WinSrc.ring ring handle
      if !s.ready reader (gcmReads d) then s.fetch reader (s.ringDom ring) (gcmReads d)
      else
        let s := s.taken reader
        let (src, block, poison) := s.gcmOperands d outside
        match s.gcmRefusal d block poison with
        | some st => s.endGcm ring handle st 0
        | none =>
          let dom := s.ringDom ring
          let n := moveLen d
          let aad := src.take (d.num 38 2)
          let iv := block.take 12
          let cipher := gcmText key iv ((src.drop (d.num 38 2)).take n)
          let s := ((s.useGcmKey key).gcmText64 dom (units64 n)).storeRegion (.ring ring handle) dom d.stamp (d.num 24 8) cipher
          let s := s.storeRegion (.ring ring handle) dom d.stamp (d.num 40 8 + 16) (gcmTag key iv aad cipher)
          s.endGcm ring handle stOk n
    | _, _ => s

/-- GCM_OPEN (R370, R373, R444, R447): no plaintext is written until the tag has verified. Assumption 69 (DESIGN CHOICE). -/
def execGcmOpen (ring handle : Nat) (outside : List (BitVec 8)) (s : State) : Outcome State Fault Refusal :=
  .next <|
    match s.startedDesc? ring handle opOpen, s.takenKey? ring handle with
    | some d, some key =>
      let reader := WinSrc.ring ring handle
      if !s.ready reader (gcmReads d) then s.fetch reader (s.ringDom ring) (gcmReads d)
      else
        let s := s.taken reader
        let (src, block, poison) := s.gcmOperands d outside
        match s.gcmRefusal d block poison with
        | some st => s.endGcm ring handle st 0
        | none =>
          let dom := s.ringDom ring
          let n := moveLen d
          let aad := src.take (d.num 38 2)
          let iv := block.take 12
          let cipher := (src.drop (d.num 38 2)).take n
          let s := (s.useGcmKey key).gcmText64 dom (units64 n)
          if gcmTag key iv aad cipher = (block.drop 16).take 16 then
            (s.storeRegion (.ring ring handle) dom d.stamp (d.num 24 8) (gcmText key iv cipher)).endGcm ring handle stOk n
          else
            let s := s.storeRegion (.ring ring handle) dom d.stamp (d.num 24 8) (List.replicate n 0)
            let s := (s.bump (F.cipDomAuthFailCount dom)).raise 226 sevNotice 0 noDom [d4 dom, d4 ring, d4 d.tag]
            s.endGcm ring handle stAuthFailed 0
    | _, _ => s

end Sys2Proof.Machine
end

