-- ==== Sys2Proof/Machine/Privet.lean ====
section
/-!
DEFINITION. Privet (chapter 17): boot and bank selection, firmware update, SPDM, key-encryption keys, the debug access port's
tokens, and the parameter store.
-/
namespace Sys2Proof.Machine
open Host State

/-! ### Banks (R517 to R521) -/

def FlashBank.updateSvn (b : FlashBank) : Bool := b.flags % 2 = 1

/-- A bank's header is accepted, and its Privet component matches its digest (R517). -/
def bankGood (svn : Nat) (b : FlashBank) : Bool :=
  b.magic = 0x4D484C46 && b.formatVersion = 1 && b.keyIndex < 4 && !Config.fuseRevoked.getLsbD b.keyIndex && b.keyMatches
    && b.signatureValid && svn ≤ b.svn && b.components.length ≤ 16
    && [1, 2, 3, 4, 5, 6, 7].all (fun t => (b.components.filter (fun c => c.1 = t)).length = 1) && b.privetDigest

namespace State

/-- The registers of the boot selection record. -/
def showBoot (s : State) : State :=
  let p := match s.pv.pending with
    | none => 0
    | some false => 1
    | some true => 2
  (s.set F.pvStatusPending p).set F.pvStatusTrialCount s.pv.trials

/-- The running image. -/
def showImage (s : State) (bank : Bool) (b : FlashBank) (trial : Bool) : State :=
  let s : State := { s with pv := { s.pv with image := some b } }
  let s := ((s.put F.pvStatusBootBank bank).put F.pvStatusTrial trial).put F.pvStatusSafeMode false
  let s := ((s.set F.pvFwVersionVersion b.version).set F.pvSvnKeyIndex b.keyIndex).set F.pvSvnImageSvn b.svn
  (s.set F.pvSvnFused s.pv.svn).set F.pvSvnRevoked Config.fuseRevoked.toNat

def bankNum (b : Bool) : Nat := if b then 1 else 0

/-- The bank that a start-up chooses (R518): Pending as a trial, Active otherwise. -/
def chooseBank (s : State) : State × Bool × Bool :=
  match s.pv.pending with
  | none => (s, s.pv.active, false)
  | some p =>
    if 3 ≤ s.pv.trials then
      let s := s.raise 1 sevWarning 0 noDom [d4 (bankNum s.pv.active), d4 s.pv.trials]
      ({ s with pv := { s.pv with pending := none, trials := 0 } }, s.pv.active, false)
    else ({ s with pv := { s.pv with trials := s.pv.trials + 1 } }, p, true)

/-- No bank boots: Safe mode (R519). -/
def noBank (s : State) : State := ((s.raise 3 sevFatal 0 noDom []).put F.pvStatusSafeMode true).safeMode 9

/-- Boot from a bank, or from the other one (R519); a bank that failed a component check counts as failed (R520). -/
def bootBank (s : State) (a b : FlashBank) : State :=
  let (s, bank, trial) := s.chooseBank
  let pick := fun (x : Bool) => if x then b else a
  let good := fun (x : Bool) => bankGood s.pv.svn (pick x) && s.pv.failed != some x
  let s := s.put F.pvStatusFellBack false
  let s :=
    if good bank then s.showImage bank (pick bank) trial
    else
      let s := s.raise 0 sevCritical 0 noDom [d4 (bankNum bank), d4 0, d4 (Config.codeOf 17 0)]
      let s := s.raise 1 sevWarning 0 noDom [d4 (bankNum (!bank)), d4 s.pv.trials]
      let s := s.put F.pvStatusFellBack true
      if good (!bank) then s.showImage (!bank) (pick (!bank)) false
      else (s.raise 0 sevCritical 0 noDom [d4 (bankNum (!bank)), d4 0, d4 (Config.codeOf 17 0)]).noBank
  State.showBoot { s with pv := { s.pv with failed := none } }

/-! ### Records (R536, R537) -/

/-- A number of `n` bytes of the parameter store. -/
def psNum (s : State) (a n : Nat) : Nat := ofBytes (s.psBytes a n)

/-- The record of a kind in a slot, unless it is torn: its Seq and its payload. Assumption 75 (DEDUCED). -/
def recordAt (s : State) (base size kind : Nat) : Option (Nat × List Byte) :=
  let len := s.psNum (base + 8) 4
  if s.psNum base 4 != 0x4B564C50 || s.psNum (base + 4) 2 != kind || s.psNum (base + 6) 2 != 1 || size < 32 + len then none
  else
    let body := s.psBytes (base + 32) len
    if (crc32 (s.psBytes base 28 ++ body)).toNat = s.psNum (base + 28) 4 then some (s.psNum (base + 12) 4, body) else none

/-- Serial-number arithmetic (R537). -/
def newer (a b : Nat) : Bool := let d := (a + 2 ^ 32 - b) % 2 ^ 32; 1 ≤ d && d < 2 ^ 31

/-- The payload of the configuration record in use, and whether its copies are in conflict (R537). -/
def configRecord (s : State) : Option (List Byte) × Bool :=
  let last := (s.recordAt 0x8000 0x4000 1).map (·.2)
  match s.recordAt 0 0x4000 1, s.recordAt 0x4000 0x4000 1 with
  | none, none => (last, false)
  | some a, none => (some a.2, false)
  | none, some b => (some b.2, false)
  | some a, some b =>
    if a.1 = b.1 then if a.2 = b.2 then (some a.2, false) else (last, true)
    else (some (if newer a.1 b.1 then a.2 else b.2), false)

def configPayload (s : State) : Option (List Byte) := s.configRecord.1

/-! ### Keys and identity (R522 to R525, R529) -/

/-- Every XTS key pair and the UDS are drawn anew, and every KEK is gone (R528, R529). -/
def newSecrets (s : State) : State :=
  let s := (List.range 1024).foldl (fun s d => (s.nextKey d).set (F.cipDomXtsGeneration d) 0) s
  let s : State := { s with pv := { s.pv with keks := [], uds := s.pv.uds + 1, kek := none, endorsed := false } }
  (s.set F.pvKeyStatusKeks 0).put F.pvStatusEndorsed false

/-- The Import public key in PV_KEY_PUB. -/
def showImport (s : State) : State :=
  (List.range 12).foldl (fun s i => s.setReg (R.pvKeyPub i) ((Config.importPub s.pv.uds).extractLsb' (64 * i) 64)) s

/-- A new nonce (R527). -/
def newNonce (s : State) : State :=
  (List.range 4).foldl (fun s i => (s.setReg (R.pvDebugNonce i) s.freeWord).drew) s

/-- The key store is checked at boot (R524, R525). Assumption 77 (DEDUCED). -/
def checkKeys (s : State) (bad : List Nat) (udsBad : Bool) : State :=
  let s := if udsBad then
      let s := s.newSecrets
      s.raise 9 sevError 0 noDom [d4 (Config.codeOf 18 0), d4 stAuthFailed]
    else s
  let s := bad.foldl (fun s d => s.raise 9 sevError 0 noDom [d4 d, d4 stAuthFailed]) s
  let s : State := { s with cip := { s.cip with bad := (s.cip.bad ++ bad).eraseDups } }
  s.put F.pvStatusKeyStoreOk (bad = [] && !udsBad)

/-- Steps 3 to 7 of Table 17.4: a bank is chosen and checked, the key store is checked, and the nonce is new. -/
def privetStarts (s : State) (bankA bankB : FlashBank) (badKeys : List Nat) (udsBad : Bool) : State :=
  let s := (s.setReg R.pvSerial Config.fuseSerial).checkKeys badKeys udsBad
  let s := (s.set F.pvKeyStatusKeks s.pv.keks.length).put F.pvStatusEndorsed s.pv.endorsed
  (s.bootBank bankA bankB).showImport.newNonce

/-- PV_RESET_STATUS of the reset that has just ended. -/
def showReset (s : State) : State :=
  let s := (s.set F.pvResetStatusKind s.pw.resetKind).put F.pvResetStatusFlushComplete s.pw.resetClean
  s.set F.pvResetStatusTime s.pw.resetTime

end State

/-- A debug erase that a loss of power interrupted is completed at boot (R529). -/
def State.eraseAtBoot (s : State) : State :=
  let s := (s.newSecrets).spreadInc 3
  let s : State := { s with pv := { s.pv with debugErase := false, opening := 0 } }
  s.raise 5 sevCritical 0 noDom [d4 s.pv.scope, d4 (s.spread 3)]

/-- The first boot fills the key store, with a UDS that the Genhoren root endorses (R524, R529). -/
def State.provision (s : State) : State :=
  { s with pv := { s.pv with provisioned := true, endorsed := !s.pv.provisioned || s.pv.endorsed } }

def State.noteBooted (s : State) : State := { s with pw := { s.pw with booted := true } }

/-- PRIVET_BOOT (R516 to R519, R522, R524, R525, R527, R529, Table 17.4): an interrupted erase is finished, a bank is chosen and
checked, the key store is checked, and the nonce is new. -/
def execPrivetBoot (bankA bankB : FlashBank) (badKeys : List Nat) (udsBad : Bool) (s : State) :
    Outcome State Fault Refusal :=
  .next <|
    if s.pw.inReset || s.pw.booted || s.pw.lost then s
    else
      let s := (if s.pv.debugErase then s.eraseAtBoot else s).provision
      (((s.privetStarts bankA bankB badKeys udsBad).showReset).set F.pvModeStartPhase 1).noteBooted

/-- COMMIT (R518, R521): PV_BOOT_CTL.Commit in a trial, once the window is online. -/
def execCommit (s : State) : Outcome State Fault Refusal :=
  .next <|
    match s.pv.image with
    | none => s
    | some b =>
      if !s.on F.pvStatusTrial || !s.windowServes then s
      else
        let bank := s.on F.pvStatusBootBank
        let s : State := { s with pv := { s.pv with active := bank, pending := none, trials := 0 } }
        let s := ((s.put F.pvStatusTrial false).showBoot).spreadInc 4
        let said := fun (s : State) => s.raise 2 sevInfo 0 noDom [d8 (bankNum bank), d8 b.version, d8 s.pv.svn]
        let s := said s
        if FlashBank.updateSvn b && s.pv.svn < b.svn then
          let s : State := { s with pv := { s.pv with svn := b.svn } }
          said (s.set F.pvSvnFused b.svn)
        else s

/-- REVERT (R518): PV_BOOT_CTL.Revert clears Pending before its trial boot. -/
def execRevert (s : State) : Outcome State Fault Refusal :=
  .next <|
    if s.on F.pvStatusTrial then s
    else State.showBoot { s with pv := { s.pv with pending := none, trials := 0 } }

/-! ### Firmware update by mailbox (R118, R516, R518) -/

/-- GET_FW_INFO (R118): slots, the running and the pending bank, the running version. -/
def execGetFwInfo (ld : Nat) (s : State) : Outcome State Fault Refusal :=
  .next (s.anyLd ld (fun s => s.reply ld 0x200 .success
    [2, s.get F.pvStatusBootBank + 1, s.get F.pvStatusPending, s.get F.pvFwVersionVersion]))

/-- A piece of an image is written to a bank, and the transfer goes on or has ended (R516). -/
def State.flashStep (s : State) (ld : Nat) (bank : Bool) (addr : Nat) (data : List Byte) (t : Option Nat) (done : Bool) : State :=
  let s : State := { s with pv := { s.pv with transfer := t, lastBank := if done then some bank else s.pv.lastBank } }
  (s.send (.flashWrite addr data)).reply ld 0x201 .success []

/-- A transfer is dropped. -/
def State.dropTransfer (s : State) : State := { s with pv := { s.pv with transfer := none } }

/-- TRANSFER_FW (R516): actions 0 whole image, 1 first, 2 next, 3 last part, 4 abort; `offset` in bytes from the start of the
inactive bank. Assumption 36 (PRESUMED). -/
def execTransferFw (ld action offset : Nat) (data : List (BitVec 8)) (s : State) : Outcome State Fault Refusal :=
  .next (s.mgmtOnly ld 0x201 (fun s =>
    let bank := !s.on F.pvStatusBootBank
    let base := if bank then 0x03200000 else 0x00100000
    let fits := offset + data.length ≤ 48 * 2 ^ 20
    let bad := s.reply ld 0x201 .invalidInput []
    let step := fun (t : Option Nat) (done : Bool) => s.flashStep ld bank (base + offset) data t done
    let at_ := s.pv.transfer.getD 0
    if s.pv.transfer.isNone then
      if action = 0 && fits && offset = 0 then step none true
      else if action = 1 && fits && offset = 0 then step (some data.length) false
      else bad
    else if action = 2 && fits && offset = at_ then step (some (at_ + data.length)) false
    else if action = 3 && fits && offset = at_ then step none true
    else if action = 4 then s.dropTransfer.reply ld 0x201 .success []
    else bad))

/-- ACTIVATE_FW (R118, R518): at the next cold reset only; Pending is the bank last written. Assumption 36 (PRESUMED). -/
def execActivateFw (ld action slot : Nat) (s : State) : Outcome State Fault Refusal :=
  .next (s.mgmtOnly ld 0x202 (fun s =>
    match s.pv.lastBank with
    | some b =>
      if action = 1 && slot = bankNum b + 1 && s.pv.transfer.isNone then
        (State.showBoot { s with pv := { s.pv with pending := some b, trials := 0 } }).reply ld 0x202 .success []
      else s.reply ld 0x202 .invalidInput []
    | none => s.reply ld 0x202 .invalidInput []))

/-! ### SPDM (R523) -/

namespace State

/-- Functions answer SPDM from the end of start-up step 5 (R610). Assumption 76 (DEDUCED). -/
def spdmAnswer (s : State) (ld code : Nat) (fields : List Nat) : State :=
  if ld < s.ldCount && 5 ≤ s.get F.pvModeStartPhase then s.send (.spdm ld code fields) else s

/-- An SPDM error (R523): 7 UnsupportedRequest, 1 InvalidRequest. Assumption 76 (DEDUCED). -/
def spdmError (s : State) (ld cause request : Nat) : State := s.spdmAnswer ld 0x7F [cause, request]

/-- The digest of a component of the running image. -/
def componentDigest (s : State) (t : Nat) : Nat :=
  ((s.pv.image.bind (fun b => b.components.find? (fun c => c.1 = t))).map (·.2.toNat)).getD 0

end State

/-- GET_VERSION (R523): SPDM 1.2. -/
def execGetVersion (ld : Nat) (s : State) : Outcome State Fault Refusal := .next (s.spdmAnswer ld 0x04 [0x12])

/-- GET_CAPABILITIES (R523): certificates, challenge and measurements with signature; no key exchange. -/
def execGetCapabilities (ld : Nat) (s : State) : Outcome State Fault Refusal := .next (s.spdmAnswer ld 0x61 [0x16])

/-- NEGOTIATE_ALGORITHMS (R523): ECDSA P-384 with SHA-384, where the requester offers them. -/
def execNegotiateAlgorithms (ld : Nat) (offered : Bool) (s : State) : Outcome State Fault Refusal :=
  .next (if offered then s.spdmAnswer ld 0x63 [0x80, 0x02] else s.spdmError ld 1 0xE3)

/-- GET_DIGESTS (R523): slot 0. -/
def execGetDigests (ld : Nat) (s : State) : Outcome State Fault Refusal :=
  .next (s.spdmAnswer ld 0x01 [1, Config.spdmBytes s.pv.uds (s.componentDigest 1) 0])

/-- GET_CERTIFICATE (R522, R523): a part of the slot-0 chain. -/
def execGetCertificate (ld slot offset length : Nat) (s : State) : Outcome State Fault Refusal :=
  .next (if slot = 0 then
      s.spdmAnswer ld 0x02 [slot, offset, length, Config.spdmBytes s.pv.uds (s.componentDigest 1) (1 + offset * 65536 + length)]
    else s.spdmError ld 1 0x82)

/-- CHALLENGE (R522, R523): signed by Alias. -/
def execChallenge (ld slot : Nat) (nonce : BitVec 256) (s : State) : Outcome State Fault Refusal :=
  .next (if slot = 0 then
      s.spdmAnswer ld 0x03 [slot, Config.spdmBytes s.pv.uds (s.componentDigest 1) (2 ^ 64 + nonce.toNat)]
    else s.spdmError ld 1 0x83)

/-- The measurement blocks of Table 17.5; block 6 is the digest of the configuration record in use. -/
def State.measurement (s : State) (i : Nat) : List Nat :=
  match i with
  | 1 => [1, Config.romDigest.toNat]
  | 2 => [2, s.componentDigest 1]
  | 3 => [3, s.componentDigest 2]
  | 4 => [4, s.componentDigest 3]
  | 5 => [5, s.componentDigest 4]
  | 6 => [6, (Config.sha384 ((s.configPayload).getD [])).toNat]
  | 7 => [7, s.get F.pvDebugStatusState, s.spread 3]
  | _ => [8, s.pv.svn, s.get F.pvSvnImageSvn, s.get F.pvSvnKeyIndex]

/-- GET_MEASUREMENTS (R523, Table 17.5): index 0 asks how many blocks there are, 255 for all of them. -/
def execGetMeasurements (ld index : Nat) (s : State) : Outcome State Fault Refusal :=
  .next <|
    if index = 0 then s.spdmAnswer ld 0x60 [8]
    else if index = 255 then s.spdmAnswer ld 0x60 ((List.range 8).flatMap (fun i => s.measurement (i + 1)))
    else if index ≤ 8 then s.spdmAnswer ld 0x60 (s.measurement index)
    else s.spdmError ld 1 0xE0

/-- SPDM_UNSUPPORTED_REQUEST (R523). -/
def execSpdmUnsupportedRequest (ld request : Nat) (s : State) : Outcome State Fault Refusal :=
  .next (s.spdmError ld 7 request)

/-! ### Key-encryption keys (R526) -/

namespace State

/-- A KEK command starts, or is ignored while one runs. -/
def startKek (s : State) (c : KekCmd) : State :=
  let s : State := { s with pv := { s.pv with kek := some c } }
  let s := ((s.set F.pvKeyCtlOp c.op).set F.pvKeyCtlDomain c.dom).put F.pvKeyCtlStart true
  s.put F.pvKeyStatusBusy true

def kekIgnored (s : State) (dom : Nat) : State := s.raise 9 sevError 0 noDom [d4 dom, d4 stBusyOnline]

/-- A KEK command ends. -/
def endKek (s : State) (st : Nat) : State :=
  let s : State := { s with pv := { s.pv with kek := none } }
  let s := ((s.put F.pvKeyStatusBusy false).put F.pvKeyCtlStart false).set F.pvKeyStatusLastStatus st
  s.set F.pvKeyStatusKeks s.pv.keks.length

end State

/-- IMPORT_KEK (R526): Op 1; the block of 136 bytes at PV_KEY_ADDR, as domain 0 reads it. -/
def execImportKek (dom : Nat) (outside : List (BitVec 8)) (s : State) : Outcome State Fault Refusal :=
  .next <|
    if 1024 ≤ dom then s
    else if s.on F.pvKeyStatusBusy then s.kekIgnored dom
    else
      let a := s.get F.pvKeyAddrAddr * 64
      if !s.ready .device [(a, 136)] then s.fetch .device 0 [(a, 136)]
      else
        let s := s.taken .device
        let x := s.loadRegion 0 a 136 outside
        s.startKek { op := 1, dom := dom, block := if s.reach 0 a 136 = stOk && !x.2 then some x.1 else none }

/-- ERASE_KEK (R526): Op 2. -/
def execEraseKek (dom : Nat) (s : State) : Outcome State Fault Refusal :=
  .next <|
    if 1024 ≤ dom then s
    else if s.on F.pvKeyStatusBusy then s.kekIgnored dom
    else s.startKek { op := 2, dom := dom, block := none }

/-- KEK_COMMAND_COMPLETE (R526). -/
def execKekCommandComplete (onCurve : Bool) (s : State) : Outcome State Fault Refusal :=
  .next <|
    match s.pv.kek with
    | none => s
    | some c =>
      if c.op = 2 then
        State.endKek { s with pv := { s.pv with keks := Store.erase c.dom s.pv.keks } } stOk
      else if !onCurve && c.block.isSome then s.endKek stBadDescriptor
      else match c.block with
        | none => s.endKek stDomainDenied
        | some b =>
          let key := leBytes 32 (Config.kekWrapKey s.pv.uds c.dom (BitVec.ofNat 768 (ofBytes (b.take 96)))).toNat
          match keyUnwrap key (b.drop 96) with
          | some kek => State.endKek { s with pv := { s.pv with keks := Store.insert c.dom kek s.pv.keks } } stOk
          | none => (s.endKek stAuthFailed).raise 9 sevError 0 noDom [d4 c.dom, d4 stAuthFailed]

/-! ### The debug access port (R527) -/

/-- IDCODE (R527). -/
def execIdcode (s : State) : Outcome State Fault Refusal :=
  .next (s.send (.debugPort (leBytes 4 Config.idcode.toNat)))

/-- BYPASS (R527): one bit passes through the bypass register. -/
def execBypass (bit : Bool) (s : State) : Outcome State Fault Refusal :=
  .next (s.send (.debugPort [if bit then 1 else 0]))

/-- NONCE (R527): the current nonce. -/
def execNonce (s : State) : Outcome State Fault Refusal :=
  .next (s.send (.debugPort ((List.range 4).flatMap (fun i => leBytes 8 (s.reg (R.pvDebugNonce i)).toNat))))

namespace State

/-- An unlock token names this device and its nonce, and is signed by the authority (R527). -/
def tokenGood (s : State) (t : List Byte) (keyMatches signatureValid : Bool) : Bool :=
  t.length = 256 && ofBytes (t.take 4) = 0x44424755 && ofBytes ((t.drop 8).take 8) = (s.reg R.pvSerial).toNat
    && (t.drop 16).take 32 = (List.range 4).flatMap (fun i => leBytes 8 (s.reg (R.pvDebugNonce i)).toNat)
    && keyMatches && signatureValid

/-- An unlock token is presented (R527, R528): the status, and the nonce that replaces the one presented. -/
def presentToken (s : State) (t : List Byte) (keyMatches signatureValid : Bool) : State :=
  if s.on F.pvDebugStatusLockedOut then
    let s := (s.set F.pvDebugStatusLastStatus stDomainDenied).raise 4 sevNotice 0 noDom
      [d4 (s.get F.pvDebugStatusRefusals), d4 (Config.codeOf 19 0)]
    s.newNonce
  else if s.tokenGood t keyMatches signatureValid then
    let s : State := { s with pv := { s.pv with opening := 1, scope := ofBytes ((t.drop 4).take 4) } }
    ((s.set F.pvDebugStatusState 2).set F.pvDebugStatusLastStatus stOk).newNonce
  else
    let n := s.get F.pvDebugStatusRefusals + 1
    let s := ((s.set F.pvDebugStatusRefusals n).put F.pvDebugStatusLockedOut (8 ≤ n)).set F.pvDebugStatusState 0
    let s := s.set F.pvDebugStatusLastStatus stAuthFailed
    (s.raise 4 sevNotice 0 noDom [d4 n, d4 (Config.codeOf 19 1)]).newNonce

end State

/-- PV_DEBUG_UNLOCK_START (R527): domain 0 presents the token at TokenAddr. -/
def execPvDebugUnlockStart (outside : List (BitVec 8)) (keyMatches signatureValid : Bool) (s : State) :
    Outcome State Fault Refusal :=
  .next <|
    if s.get F.pvDebugStatusState != 0 then s
    else
      let a := s.get F.pvDebugUnlockTokenAddr * 64
      if !s.ready .device [(a, 256)] then s.fetch .device 0 [(a, 256)]
      else
        let s := s.taken .device
        let x := s.loadRegion 0 a 256 outside
        let good := s.reach 0 a 256 = stOk && !x.2
        s.presentToken (if good then x.1 else []) keyMatches signatureValid

/-- DEBUG_UNLOCK_INSTRUCTION (R527): UNLOCK shifts a token in and the status out. -/
def execDebugUnlockInstruction (token : List (BitVec 8)) (keyMatches signatureValid : Bool) (s : State) :
    Outcome State Fault Refusal :=
  .next <|
    if s.get F.pvDebugStatusState != 0 then s
    else
      let s := s.presentToken token keyMatches signatureValid
      s.send (.debugPort (leBytes 2 (s.get F.pvDebugStatusLastStatus)))

/-! ### The parameter store (R530 to R536) -/

namespace State

/-- PS_STATUS follows the write queue. -/
def showPs (s : State) : State :=
  let head := s.pv.writes.head?
  let s := (s.put F.psStatusBusy head.isSome).set F.psStatusWritePage ((head.map (fun w => w.addr / 128)).getD 0)
  s.put F.psStatusWrQueued (s.pv.writes.drop 1 |>.any (fun w => w.source = 0))

/-- The first byte that the register path may not write (R534). -/
def psLimit (s : State) : Nat :=
  let p := max 1 (s.get F.psProtectProtect)
  if p = 1 then 0x30000 else if p = 2 then 0x20000 else 0

/-- What refuses a register-path access (R530, R531). -/
def psRefusal (s : State) (a n : Nat) (write : Bool) : Option Nat :=
  if n = 0 || 1024 < n then some stBadDescriptor
  else if 0x40000 < a + n then some stRangeFault
  else if 0x30000 < a + n then some stDomainDenied
  else if write && s.psLimit < a + n then some stReadOnly
  else none

/-- Bytes of the store as the read engine returns them: those of records whose layout the manual does not give, and of the
log, are free. Assumption 75 (DEDUCED). -/
def psRead (s : State) (a n : Nat) : List Byte :=
  (List.range n).map (fun k =>
    let x := a + k
    if (0xC000 ≤ x && x < 0xFC00) || (0x10000 ≤ x && x < 0x20000) then
      (Config.freeWord (s.free + k)).extractLsb' 0 8
    else s.psByte x)

/-- A read ends with its data. -/
def endRead (s : State) (a n : Nat) : State :=
  let b := s.psRead a n
  let s := (List.range ((n + 7) / 8)).foldl (fun s i => s.setReg (R.psRdBuf i) (BitVec.ofNat 64 (ofBytes ((b.drop (8 * i)).take 8)))) s
  let s : State := { s with free := s.free + n, pv := { s.pv with stalled := none } }
  let s := ((s.put F.psStatusRdBusy false).put F.psStatusRdStalled false).put F.psRdCtlStart false
  s.set F.psRdCtlStatus stOk

/-- The pages of a range hold the page that is being written. -/
def psStalls (s : State) (a n : Nat) : Bool :=
  match s.pv.writes.head? with
  | some w => a / 128 ≤ w.addr / 128 && w.addr / 128 ≤ (a + n - 1) / 128
  | none => false

end State

/-- PS_WRITE (R530, R531, R533, R534): PS_WR_CTL.Start. -/
def execPsWrite (s : State) : Outcome State Fault Refusal :=
  .next <|
    let a := s.get F.psWrAddrAddress
    let n := s.get F.psWrCtlLength
    if s.on F.psWrCtlStart then s.raise 8 sevNotice 0 noDom [d8 a, d4 stBusyOnline]
    else match s.psRefusal a n true with
      | some st => (s.set F.psWrCtlStatus st).raise 8 sevNotice 0 noDom [d8 a, d4 st]
      | none =>
        let b := ((List.range 128).flatMap (fun i => leBytes 8 (s.reg (R.psWrBuf i)).toNat)).take n
        let w : PsWrite := { source := 0, addr := a, bytes := b }
        State.showPs { s.put F.psWrCtlStart true with pv := { s.pv with writes := s.pv.writes ++ [w] } }

/-- PS_PAGE_WRITE_COMPLETE (R531 to R533): the page being written holds its new contents. -/
def execPsPageWriteComplete (s : State) : Outcome State Fault Refusal :=
  .next <|
    match s.pv.writes with
    | [] => s
    | w :: rest =>
      let n := min w.bytes.length (128 - w.addr % 128)
      let s := s.putPs w.addr (w.bytes.take n)
      let left := w.bytes.drop n
      let s :=
        if left != [] then
          let w' : PsWrite := { w with addr := w.addr + n, bytes := left }
          { s with pv := { s.pv with writes := w' :: rest } }
        else
          let s : State := { s with pv := { s.pv with writes := rest } }
          if w.source = 0 then (s.put F.psWrCtlStart false).set F.psWrCtlStatus stOk
          else if w.source = 2 then s.bump F.psRefreshCountCount
          else s
      let s := s.showPs
      match s.pv.stalled with
      | some r => if s.psStalls r.1 r.2 then s else s.endRead r.1 r.2
      | none => s

/-- PS_READ (R530, R532): PS_RD_CTL.Start; `bad` is the address of an uncorrectable word that the read meets. -/
def execPsRead (bad : Option Nat) (s : State) : Outcome State Fault Refusal :=
  .next <|
    let a := s.get F.psRdAddrAddress
    let n := s.get F.psRdCtlLength
    if s.on F.psRdCtlStart then s
    else match s.psRefusal a n false with
      | some st => s.set F.psRdCtlStatus st
      | none =>
        match (if bad.any (fun x => a ≤ x && x < a + n) then bad else none) with
        | some x =>
          ((s.set F.psRdCtlStatus stMediaUncorrectable).bump F.psEccCountCount).raise 6 sevWarning 0 noDom [d4 (x / 128)]
        | none =>
          if s.psStalls a n then
            let s : State := { s with pv := { s.pv with stalled := some (a, n) } }
            ((s.put F.psRdCtlStart true).put F.psStatusRdBusy true).put F.psStatusRdStalled true
          else s.endRead a n

/-- MARGIN_REFRESH (R533, R535): a page below margin is rewritten with its contents; one that fails again raises event 6. -/
def execMarginRefresh (page : Nat) (fails : Bool) (s : State) : Outcome State Fault Refusal :=
  .next <|
    if 2048 ≤ page then s
    else if fails then s.raise 6 sevWarning 0 noDom [d4 page]
    else
      let w : PsWrite := { source := 2, addr := page * 128, bytes := s.psBytes (page * 128) 128 }
      State.showPs { s with pv := { s.pv with writes := s.pv.writes ++ [w] } }

end Sys2Proof.Machine
end

