-- ==== Sys2Proof/Machine/Reset.lean ====
section
/-!
DEFINITION. What the resets of Table 20.1 keep and clear, and the loss of Privet (R604 to R607, R616).
-/
namespace Sys2Proof.Machine

/-- Registers of Privet. -/
def inPrivet (a : Nat) : Bool := 0xF00080000000 ≤ a

/-- Registers whose reset value is what the parameter store, the key store or the journal holds. -/
def fromStore (a : Nat) : Bool :=
  [R.tbProv, R.perFlushLast, R.perDsc, R.perJournalSeq, R.perEpoch, R.perEpochCut, R.topDecisionSeq, R.winLwlStatus,
    R.pvSanitize, R.pvSerial, R.pvSvn].contains a
    || (R.tbStampFixA 0 ≤ a && a < R.tbStampFixA 16)
    || (List.range 1024).any (fun d => a = R.cipDomXts d)

/-- The TB_ control and status registers, which lie outside the cold-reset domain (R605), the energy that Privet has verified,
and the loaded GCM slots (Table 20.1). -/
def outsideCold (a : Nat) : Bool :=
  (R.tbNow ≤ a && a < R.tbNow + 0x1000) || a = R.perHoldup || (List.range 1024).any (fun d => a = R.cipDomStatus d)

namespace State

/-- Every die but Privet is in reset (R605, R607): its registers, stores and units are as at reset, and the keys of the line
cache and of the home slices are drawn anew. -/
def resetDies (s : State) (cold : Bool) : State :=
  let provisional := s.reg R.tbStatus &&& 0x1F040000
  let regs := s.regs.filter (fun x => inPrivet x.1 || fromStore x.1 || (cold && outsideCold x.1))
  let s := { s with regs := regs }.dropVolatile
  let c := s.cip
  let time := { s.time with dies := TimeState.reset.dies, seqs := TimeState.reset.seqs, stepped := TimeState.reset.stepped,
                            agentSent := [s.clk, s.clk], agentSlots := [] }
  let time := if cold then time
    else { time with running := false, frac := 0, slew := 0, ptpValid := false, ppsValid := false, lastEdge := none,
                     todWritten := false, near := 0, far := 0, ppsOut := false }
  let s : State := { s with
    net := NetState.reset,
    cip := { CipState.reset with keys := c.keys, bad := c.bad, slots := if cold then c.slots else [] },
    kl := List.replicate 11 KlPort.reset, kt := KtState.reset,
    obs := { s.obs with counters := [], frozenCores := [], bw := [], staged := [], lastSampleDrop := none },
    time := time }
  let s := if cold then s else s.setReg R.tbStatus provisional
  let s := { s with lc := { s.lc with key := s.freeWord } }.drew
  ({ s with kt := { s.kt with sliceKey := s.freeWord } }.drew).showMeta

/-- The page of the parameter store that is being written is torn, and every wait for a write is over (R533, R568). -/
def tearWrite (s : State) : State :=
  let s := match s.pv.writes with
    | [] => s
    | w :: _ =>
      let page := w.addr / 128 * 128
      (List.range 16).foldl (fun s k => (s.putPs (page + 8 * k) (leBytes 8 s.freeWord.toNat)).drew) s
  { s with pv := { s.pv with writes := [], stalled := none } }

/-- Privet is in reset: its registers, logs and intake are as at reset, and what it keeps across power stays (Table 20.1). -/
def resetPrivet (s : State) (kind : Nat) : State :=
  let s := s.tearWrite
  let sec := s.nowSec
  let s : State := { s with regs := s.regs.filter (fun x => !inPrivet x.1 || fromStore x.1) }
  let s : State := { s with
    obs := { ObsState.reset with persist := s.obs.persist },
    pv := { s.pv with kek := none, image := none, transfer := none, failed := none,
                      opening := if s.pv.debugErase then s.pv.opening else 0 },
    cip := { s.cip with bad := [], cmds := [] },
    time := { s.time with privet := 0 } }
  { s with pw := { PwState.reset with resetKind := kind, resetTime := if kind = 1 then 0 else sec % 2 ^ 32, since := s.clk,
                                      tested := s.clk } }

/-- Every SEQ_EN goes low at once, and the dies behind the rails are off (R554, R567). -/
def cutRails (s : State) : State := s.resetDies false

/-- Privet, or its crystal, is lost: its oscillator drives every SEQ_EN low, and no event can be recorded (R46, R616). -/
def losePrivet (s : State) : State :=
  let s := s.cutRails
  let s := ((s.set F.pwrRailEnRails 0).set F.pwrRailPgRails 0).set F.pwrStatusState 0
  { s with pw := { s.pw with lost := true, booted := false } }

end State
end Sys2Proof.Machine
end

