-- ==== Sys2Proof/Machine/Links.lean ====
section
/-!
DEFINITION. The Kilius link layer (chapter 15): training, lanes, flits, replay, port states and power states; and what the loss
of a port's partner means (R45, R46, R474, R498).
-/
namespace Sys2Proof.Machine
open Host State

namespace State

/-! ### A media die, an agent and the hub mesh are lost -/

/-- A cluster goes offline (Table 12.4): its kernels end with UNIT_OFFLINE.  Causes: 0 its die, 1 its clock, 2 its self-check.
Assumption 98 (DEDUCED). -/
def clusterGone (s : State) (d cause : Nat) : State :=
  let s := (s.setBit F.pvUnitsLostHazelCluster d true).set (F.hzClStatusState d) 0
  let s := (s.hz.kernels.filter (fun k => k.die = d)).foldl (fun s k => s.refuseKernel k stUnitOffline) s
  let cores := s.hz.cores.filter (fun c => c.1 / 32 != d)
  { s with hz := { s.hz with cores := cores } }.raise (dieSource d 27) sevCritical 0 noDom [d4 (Config.codeOf 22 cause)]

/-- A media die is lost (R45, R241): its channels and F-channels go offline, and its kernels end with UNIT_OFFLINE.
Assumption 98 (DEDUCED). -/
def dieGone (s : State) (d : Nat) : State :=
  if s.part.dies ≤ d || s.bit F.pvUnitsLostMediaDie d then s
  else
    let s := s.setBit F.pvUnitsLostMediaDie d true
    let s := (List.range 4).foldl (fun s i =>
      if s.get (F.mtChStatusState (4 * d + i)) = 4 then s else s.channelOffline (4 * d + i) 6) s
    let s := (List.range 8).foldl (fun s i => s.fchanOffline (8 * d + i) 4) s
    (s.clusterGone d 0).reduced

/-! ### Ports -/

/-- A port as it starts again from step 1, or goes Down: its link layer begins anew, and its counts of attempts stay. -/
def freshPort (s : State) (k : Nat) : State :=
  let p := s.klPort k
  (s.setKl k { KlPort.reset with tries := p.tries, slow := p.slow }).showCredits k

/-- What a port going Down means (R474, Table 16.5). Assumption 89 (DEDUCED). -/
def partnerLost (s : State) (k : Nat) : State :=
  if k < 8 then s.dieGone k
  else if k = 10 then s.losePrivet
  else
    let a := k - 8
    let s := match s.get (F.klAgentStatusState a) with
      | 1 => s.set (F.klAgentStatusState a) 0
      | 2 => s.agentDead a none
      | _ => s
    (s.setAgentSt a { AgentState.reset with nextTag := (s.agentSt a).nextTag }).showOut a

/-- A port goes Down (Table 15.11). -/
def linkLost (s : State) (k cause : Nat) : State :=
  let was := s.klState k
  let s := (s.set (F.klLinkStatusState k) portDown).set (F.klLinkStatusDownCause k) cause
  let s := if was = portDown then s else s.bump (F.klLinkdownCountCount k)
  let s := ({ s.freshPort k with kl := (s.freshPort k).kl.set k KlPort.reset }).raise 243 sevCritical 0 noDom [d4 k, d4 cause]
  if was = portDown then s else (s.unitLost F.pvUnitsLostKiliusPort k).partnerLost k

/-- A protocol error (R464, R481). -/
def protocolError (s : State) (k : Nat) : State := s.linkLost k 9

/-- Step 1 (Table 15.5). -/
def beginTraining (s : State) (k : Nat) : State :=
  let s := ((s.set (F.klLinkStatusState k) portTraining).set (F.klLinkStatusTrainStep k) 1).set (F.klLinkStatusDownCause k) 0
  let s := s.freshPort k
  s.setKl k { s.klPort k with since := s.clk, backoff := none }

/-- The partner's rails are good, and the hub's own rails of the port (Table 18.1). -/
def partnerRails (s : State) (k : Nat) : Bool :=
  let good := fun (n : Nat) => s.bit F.pwrRailPgRails n
  good 2 && good 4 && (if k < 8 then good (11 + k / 2) else if k < 10 then good (21 + (k - 8)) else true)

/-- Attempts that a port makes (R459). -/
def attempts (s : State) (k : Nat) : Nat := max 1 (s.get (F.klLinkCfgTrainRetries k)) + 1

/-- An attempt fails: another after 1 ms, or the port goes Down (R459). -/
def attemptFails (s : State) (k : Nat) : State :=
  let p := s.klPort k
  if s.attempts k ≤ p.tries + 1 then s.linkLost k 1
  else
    let s := s.setKl k { p with tries := p.tries + 1, backoff := some (s.clk + 1000000) }
    if s.klState k = portTraining then s.set (F.klLinkStatusTrainStep k) 0 else s

/-! ### Identity and lanes (R460, R462) -/

/-- The identity is refused on a port. -/
def idRefused (k : Nat) (id : Word) : Bool :=
  bits id 63 1 = 0 || bits id 40 8 != 1 || bits id 50 2 != (if k < 8 then 0 else if k = 10 then 1 else 2)
    || ((k < 8 || k = 10) && !Config.genhorenDie (bits id 0 40))

/-- Halves of a direction: the lanes that fail in half `h`. -/
def halfOf (l : List Nat) (h : Nat) : List Nat := (l.filter (fun x => x / 32 = h)).eraseDups

/-- The redundant lanes of a half (Table 15.3). -/
def spareLanes (k : Nat) : Nat := if k = 10 then 1 else 2

/-- Repairs of a direction: 8 bits each (KL_REPAIR). -/
def repairWord (l : List Nat) : Nat := (l.zipIdx.take 4).foldl (fun m x => m + (128 + x.1 % 128) * 2 ^ (8 * x.2)) 0

/-- The lane tests of a port (R460): repaired, x32, or the attempt fails (none). -/
def testLanes (s : State) (k : Nat) (t : LaneTest) : Option State :=
  let fits := fun (h : Nat) => (halfOf t.tx h).length ≤ spareLanes k && (halfOf t.rx h).length ≤ spareLanes k
  let repair := fun (s : State) (tx rx : List Nat) =>
    let s := (s.set (F.klRepairTxLanes k) (repairWord tx)).set (F.klRepairRxLanes k) (repairWord rx)
    let s := (s.put (F.klLinkStatusTxCtlRepaired k) t.txCtl).put (F.klLinkStatusRxCtlRepaired k) t.rxCtl
    let s := tx.foldl (fun s x => s.raise 241 sevNotice 0 noDom [d4 k, d4 (Config.codeOf 20 0), d4 x]) s
    rx.foldl (fun s x => s.raise 241 sevNotice 0 noDom [d4 k, d4 (Config.codeOf 20 1), d4 x]) s
  if k = 10 then
    if fits 0 then some ((repair s (halfOf t.tx 0) (halfOf t.rx 0)).set (F.klLinkStatusWidth k) 2) else none
  else if fits 0 && fits 1 then some ((repair s t.tx.eraseDups t.rx.eraseDups).set (F.klLinkStatusWidth k) 0)
  else if s.on (F.klLinkCfgDegradeAllowed k) && (fits 0 || fits 1) then
    let h := if fits 0 then 0 else 1
    some ((repair s (halfOf t.tx h) (halfOf t.rx h)).set (F.klLinkStatusWidth k) 1)
  else none

/-- The highest rate of a port's own settings. -/
def maxRate (s : State) (k : Nat) : Nat :=
  if k = 10 then 0 else min (if k < 8 then 1 else 2) (s.get (F.klLinkCfgMaxRate k))

/-- The port aims at native mode (Table 15.5, step 6). -/
def nativeTarget (s : State) (k : Nat) : Bool :=
  (k = 8 || k = 9) && s.maxRate k = 2 && s.on (F.klPartnerIdNative64 k) && !(s.klPort k).slow && !(s.klPort k).noNative

/-- Degraded: below MaxRate, or x32; event 242 as it becomes so. -/
def showDegraded (s : State) (k : Nat) : State :=
  let bad := s.get (F.klLinkStatusRate k) < s.maxRate k || s.get (F.klLinkStatusWidth k) = 1
  let was := s.on (F.klLinkStatusDegraded k)
  let s := s.put (F.klLinkStatusDegraded k) bad
  if bad && !was then s.raise 242 sevWarning 0 noDom [d4 k, d4 (s.get (F.klLinkStatusWidth k)), d4 (s.get (F.klLinkStatusRate k))]
  else s

/-- The 16 probes of step 9 (R461). -/
def sendProbes (s : State) (k : Nat) : State :=
  let s := s.setKl k { s.klPort k with echoes := [] }
  (List.range 16).foldl (fun s i => s.send (.klControl k 2 i)) s

/-- KL_DELAY, from at least 8 echoes: the smallest. -/
def measured? (s : State) (k : Nat) : Option Nat :=
  match (s.klPort k).echoes with
  | [] => none
  | x :: l => if l.length + 1 < 8 then none else some (l.foldl (fun m y => min m y.2) x.2)

/-- The credits that the hub grants on a port (Table 16.1). -/
def grants (k : Nat) : List Nat := if k = 8 || k = 9 then [64, 128, 128, 32] else [5, 5, 5, 2]

/-- The hub gives the partner of a customer port L1Allow as KL_LINK_CFG.L1Enable says (Table 15.4).
Assumption 86 (DEDUCED). -/
def giveL1 (s : State) (k : Nat) : State :=
  if (k = 8 || k = 9) && s.on (F.klLinkCfgL1Enable k) != (s.klPort k).l1Allow then
    let x := s.on (F.klLinkCfgL1Enable k)
    (s.setKl k { s.klPort k with l1Allow := x }).send (.sideband k (s.get (F.klLinkStatusRate k) + (if x then 4 else 0)))
  else s

/-- The port comes Up from training (Table 15.11, Table 16.5). -/
def portComesUp (s : State) (k : Nat) : State :=
  let s := ((s.set (F.klLinkStatusState k) portUp).set (F.klLastTrainTime k) s.time.dtb).set (F.klLinkStatusTrainStep k) 10
  let s := s.setKl k { s.klPort k with tries := 0, slow := false, backoff := none, crdGiven := grants k, lastPayload := s.clk }
  let s := (s.setBit F.pvUnitsLostKiliusPort k false).raise 245 sevInfo 0 noDom
    [d4 k, d4 (s.get (F.klLinkStatusRate k)), d4 (s.get (F.klLinkStatusWidth k)), d4 (s.get (F.klDelayDelayPs k))]
  let s := (s.showDegraded k).giveL1 k
  if k = 8 || k = 9 then
    let s := s.setAgentSt (k - 8) { AgentState.reset with nextTag := (s.agentSt (k - 8)).nextTag }
    if s.get (F.klAgentStatusState (k - 8)) = 0 then s.set (F.klAgentStatusState (k - 8)) 1 else s
  else s

/-- A port retrains (R472). -/
def startLinkRetrain (s : State) (k trigger : Nat) : State :=
  let s := (s.set (F.klLinkStatusState k) portRetraining).bump (F.klRetrainCountCount k)
  let s := s.setKl k { s.klPort k with trigger := trigger, since := s.clk, tries := 0, backoff := none, pm := none, badRun := 0,
                                       errs := [] }
  s.sendProbes k

/-- Requests on a port do not age while it retrains or is in L1 (R473, R500). -/
def shiftTimers (s : State) (k : Nat) : State :=
  if k = 8 || k = 9 then
    let d := s.clk - (s.klPort k).since
    { s with kt := { s.kt with reqs := s.kt.reqs.map (fun (r : HubReq) =>
      if r.agent = k - 8 then { r with sent := r.sent.map (· + d) } else r) } }
  else s

/-! ### Flits (R464, R468 to R470, R480) -/

/-- The nanoseconds that a flit takes now. -/
def flitTime (s : State) (k : Nat) : Nat :=
  let w := match s.get (F.klLinkStatusWidth k) with
    | 0 => 64
    | 1 => 32
    | _ => 16
  flitNs w (16 * 2 ^ s.get (F.klLinkStatusRate k))

/-- Every unacknowledged flit from a sequence on is sent again (R470). -/
def replayFrom (s : State) (k seq : Nat) : State :=
  let p := s.klPort k
  let l := p.txBuf.dropWhile (fun x => x.seq != seq)
  let runs := if p.replayFrom = some seq then p.replays + 1 else 1
  let buf := p.txBuf.map (fun (x : KlSent) => if l.any (fun y => y.seq = x.seq) then { x with last := s.clk } else x)
  let s := s.setKl k { p with txBuf := buf, replayFrom := some seq, replays := runs,
                              replayEnd := s.clk + l.length * s.flitTime k }
  let s := l.foldl (fun s x => (s.cKl k 0x58 0 1).send (.kilius k x.seq true x.tx)) s
  let s := (s.bump (F.klReplayCountCount k)).cKl k 0x5C 0 1
  if l != [] && max 1 (s.get (F.klReplayCfgReplayLimit k)) ≤ runs then s.startLinkRetrain k 2 else s

/-- The acknowledgement, the credits and the Nak of a received flit. -/
def takeAck (s : State) (k : Nat) (f : Flit) : State :=
  let p := s.klPort k
  let buf := if f.ackValid && p.txBuf.any (fun x => x.seq = f.ackSeq) then
      (p.txBuf.dropWhile (fun x => x.seq != f.ackSeq)).drop 1
    else p.txBuf
  let s := (s.setKl k { p with txBuf := buf, crdSeen := f.crd, badRun := 0 }).showCredits k
  let next := (f.ackSeq + 1) % 256
  let s := if f.nak && !(p.replayFrom = some next && s.clk < p.replayEnd) then s.replayFrom k next else s
  s.klPump k

/-- A flit that passes its CRC is a protocol error (R464). -/
def badFlit (f : Flit) : Bool :=
  2 < f.flitType || f.version != 1 || f.descs.any (fun d => d % 4 = 3) || (f.flitType = 1 && !f.seqValid)
    || (f.flitType != 1 && (f.seqValid || f.descs.any (fun d => d % 4 != 0)))

/-- A flit of a port that can receive one, handled by `g` unless it is a protocol error. -/
def flitIn (s : State) (k : Nat) (f : Flit) (g : State → State) : State :=
  if !s.part.port k || !(s.klState k = portUp || s.klState k = portL1) then s
  else if badFlit f then s.protocolError k
  else g ((s.cKl k 0x59 0 1).takeAck k f)

/-- The slots of an accepted Payload flit, by VC: one on a VC without credit is a protocol error with event 255 (R481). -/
def takeSlots (s : State) (k : Nat) (l : List Nat) : State :=
  let vcs := (l.filter (fun d => d % 4 != 0)).map (fun d => d / 4 % 4)
  let p := s.klPort k
  let taken := vcs.foldl (fun m v => addAt m v 1) p.crdTaken
  let bad := (List.range 4).find? (fun v => (p.crdGiven[v]?).getD 0 < (taken[v]?).getD 0)
  match bad with
  | some v => (s.raise 255 sevError 0 noDom [d4 k, s.noItem, d4 v]).drew.protocolError k
  | none =>
    let s := vcs.foldl (fun s v => s.cKl k 0x5A v 1) s
    let data := ((l.filter (fun d => d % 4 = 2)).length)
    let s := s.traffic (32 + k) (64 * data) 0
    s.setKl k { p with crdTaken := taken, crdGiven := vcs.foldl (fun m v => addAt m v 1) p.crdGiven }

/-- Nak is set with the next flit sent (R469). -/
def setNak (s : State) (k : Nat) : State :=
  if (s.klPort k).nak then s else (s.setKl k { s.klPort k with nak := true }).bump (F.klNakCountCount k)

/-- A Payload flit (R469). -/
def takePayload (s : State) (k : Nat) (f : Flit) : State :=
  let p := s.klPort k
  if f.seq = p.rxNext then
    let s := s.setKl k { p with rxNext := (p.rxNext + 1) % 256, rxAny := true, nak := false, lastPayload := s.clk }
    s.takeSlots k f.descs
  else
    let back := (p.rxNext + 256 - f.seq) % 256
    if 1 ≤ back && back ≤ 64 then s else s.setNak k

/-- Leaving L1: the time message goes before any Payload flit (R475). -/
def leaveL1 (s : State) (k : Nat) : State :=
  let s := ((s.shiftTimers k).set (F.klLinkStatusState k) portUp)
  let s := s.setKl k { s.klPort k with lastPayload := s.clk, pm := none }
  (if s.time.running then s.sendTime k else s).klPump k

end State

/-! ### CRC-64/WE (R467) -/

/-- One bit of the CRC, most significant first. -/
def crc64Bit (c : BitVec 64) : BitVec 64 := if c.getMsbD 0 then (c <<< 1) ^^^ 0x42F0E1EBA9EA3693 else c <<< 1

def crc64Byte (c : BitVec 64) (b : Byte) : BitVec 64 :=
  crc64Bit (crc64Bit (crc64Bit (crc64Bit (crc64Bit (crc64Bit (crc64Bit (crc64Bit (c ^^^ (b.setWidth 64 <<< 56)))))))))

def crc64 (l : List Byte) : BitVec 64 := (l.foldl crc64Byte 0xFFFFFFFFFFFFFFFF) ^^^ 0xFFFFFFFFFFFFFFFF

/-- The CRC of a flit of 288 bytes passes. -/
def flitGood (l : List Byte) : Bool := l.length = 288 && (crc64 (l.take 280)).toNat = ofBytes (l.drop 280)

/-! ### Training (R458 to R462) -/

/-- KILIUS_TRAINING_START (R458). -/
def execKiliusTrainingStart (port : Nat) (s : State) : Outcome State Fault Refusal :=
  .next <|
    if !s.part.port port || s.klState port != portReset || !s.partnerRails port || s.on (F.klLinkCtlDisable port) then s
    else s.beginTraining port

/-- KILIUS_TRAINING_STEP (R456 to R462, R472, R498): the next step of Table 15.5 completes.  `id` is what step 3 reads; `lanes` is
what steps 4 and 5 find. -/
def execKiliusTrainingStep (port : Nat) (id : BitVec 64) (lanes : LaneTest) (s : State) : Outcome State Fault Refusal :=
  .next <|
    let k := port
    let n := s.get (F.klLinkStatusTrainStep k)
    if !s.part.port k || s.klState k != portTraining || (s.klPort k).backoff.isSome then s
    else
      let p := s.klPort k
      match n with
      | 1 => s.set (F.klLinkStatusTrainStep k) 2
      | 2 =>
        let s := s.setReg (R.klPartnerId k) id
        if idRefused k id then (s.raise 246 sevError 0 noDom [d4 k, d8 id.toNat]).linkLost k 8
        else s.set (F.klLinkStatusTrainStep k) 3
      | 3 =>
        match s.testLanes k lanes with
        | none => s.attemptFails k
        | some s => s.set (F.klLinkStatusTrainStep k) 4
      | 4 =>
        match s.testLanes k lanes with
        | none => (s.setKl k { p with slow := true }).attemptFails k
        | some s =>
          let s := (s.set (F.klLinkStatusRate k) (if p.slow then 0 else min 1 (s.maxRate k))).set (F.klLinkStatusTrainStep k) 5
          if s.nativeTarget k then
            (s.send (.sideband k (2 + (if p.l1Allow then 4 else 0))))
          else s
      | 5 =>
        if s.nativeTarget k then (s.set (F.klLinkStatusRate k) 2).set (F.klLinkStatusTrainStep k) 6
        else (s.set (F.klLinkStatusTrainStep k) 7).send (.klControl k 1 0x535554494C494B)
      | 6 => (s.set (F.klLinkStatusTrainStep k) 7).send (.klControl k 1 0x535554494C494B)
      | 7 => if p.aligned < 16 then s else (s.set (F.klLinkStatusTrainStep k) 8).sendProbes k
      | 8 =>
        match s.measured? k with
        | none => s.attemptFails k
        | some d => (s.set (F.klDelayDelayPs k) d).set (F.klLinkStatusTrainStep k) 9
      | _ => s.portComesUp k

/-- KILIUS_TRAINING_STEP_FAIL (R459): the step under way fails. -/
def execKiliusTrainingStepFail (port : Nat) (s : State) : Outcome State Fault Refusal :=
  .next <|
    let k := port
    let n := s.get (F.klLinkStatusTrainStep k)
    if !s.part.port k || s.klState k != portTraining || (s.klPort k).backoff.isSome then s
    else if n = 5 && s.nativeTarget k then
      (s.setKl k { s.klPort k with noNative := true }).send (.sideband k (1 + (if (s.klPort k).l1Allow then 4 else 0)))
    else if n = 4 then (s.setKl k { s.klPort k with slow := true }).attemptFails k
    else s.attemptFails k

/-- TRAINING_BACKOFF (R459): 1 ms after a failed attempt. -/
def execTrainingBackoff (port : Nat) (s : State) : Outcome State Fault Refusal :=
  .next <|
    match (s.klPort port).backoff with
    | none => s
    | some t =>
      if s.clk < t then s
      else if s.klState port = portTraining then s.beginTraining port
      else (s.setKl port { s.klPort port with backoff := none }).sendProbes port

/-! ### Control flits (R464, R465) -/

/-- ALIGN (R465): the sixteenth ends the wait of step 8; until then the hub sends Align too. Assumption 87 (DEDUCED). -/
def execAlign (port : Nat) (flit : Flit) (s : State) : Outcome State Fault Refusal :=
  .next <|
    let p := s.klPort port
    if !s.part.port port || s.klState port != portTraining || s.get (F.klLinkStatusTrainStep port) != 7
        || p.backoff.isSome then s
    else if badFlit flit then s.protocolError port
    else if flit.ctlOp != 1 then s.bump (F.klCtlDiscardCountCount port)
    else
      let s := s.setKl port { p with aligned := p.aligned + 1 }
      if p.aligned + 1 < 16 then s.send (.klControl port 1 0x535554494C494B) else s

/-- DELAYPROBE (R461): answered with a DelayEcho that carries the hub's turnaround, which the specification does not give.
Assumption 88 (DESIGN CHOICE). -/
def execDelayprobe (port : Nat) (flit : Flit) (s : State) : Outcome State Fault Refusal :=
  .next <|
    if !s.part.port port || s.klState port = portReset || s.klState port = portDown then s
    else if badFlit flit then s.protocolError port
    else (s.send (.klControl port 3 (flit.ctlArg % 256 + 256 * (s.freeWord.toNat % 2 ^ 24)))).drew

/-- DELAYECHO (R461): half of the round trip less the turnaround. -/
def execDelayecho (port : Nat) (flit : Flit) (roundTripPs : Nat) (s : State) : Outcome State Fault Refusal :=
  .next <|
    let p := s.klPort port
    let probe := flit.ctlArg % 256
    let turn := flit.ctlArg / 256 % 2 ^ 24
    let due := (s.klState port = portTraining && s.get (F.klLinkStatusTrainStep port) = 8) || s.klState port = portRetraining
    if !s.part.port port || !due then s
    else if badFlit flit then s.protocolError port
    else if 16 ≤ probe || p.echoes.any (fun x => x.1 = probe) then s
    else s.setKl port { p with echoes := p.echoes ++ [(probe, (roundTripPs - turn) / 2)] }

/-- What R475 asks before a port enters L1. -/
def State.mayL1 (s : State) (k : Nat) : Bool :=
  (k = 8 || k = 9) && s.on (F.klLinkCfgL1Enable k) && s.on (F.klPartnerIdL1Capable k) && (s.klPort k).l1Allow
    && (s.klPort k).lastPayload + max 1 (s.get (F.klLinkCfgL1IdleUs k)) * 1000 ≤ s.clk && (s.klPort k).txBuf = []

/-- PMREQ (R475): the partner asks for L1, and gets PmAck where the hub may enter it, or PmNak; L2 is entered only when the hub
removes power. Assumption 86 (DEDUCED). -/
def execPmreq (port : Nat) (flit : Flit) (s : State) : Outcome State Fault Refusal :=
  .next <|
    s.flitIn port flit (fun s =>
      if s.klState port != portUp then s
      else if flit.ctlArg % 4 = 1 && s.mayL1 port then
        let s := (s.send (.klControl port 5 1)).set (F.klLinkStatusState port) portL1
        s.setKl port { s.klPort port with since := s.clk, pm := none }
      else s.send (.klControl port 6 (flit.ctlArg % 4)))

/-- PMACK (R475, R476). -/
def execPmack (port : Nat) (flit : Flit) (s : State) : Outcome State Fault Refusal :=
  .next <|
    s.flitIn port flit (fun s =>
      match (s.klPort port).pm with
      | none => s
      | some q =>
        if q.want != flit.ctlArg % 4 then s
        else if q.want = 1 then
          (s.set (F.klLinkStatusState port) portL1).setKl port { s.klPort port with since := s.clk, pm := none }
        else (s.set (F.klLinkStatusState port) portReset).freshPort port)

/-- PMNAK (R475). -/
def execPmnak (port : Nat) (flit : Flit) (s : State) : Outcome State Fault Refusal :=
  .next <|
    s.flitIn port flit (fun s =>
      match (s.klPort port).pm with
      | some q => if q.want = flit.ctlArg % 4 then
          s.setKl port { s.klPort port with pm := none, lastPayload := s.clk } else s
      | none => s)

/-- DOWNNOTICE (R472). -/
def execDownnotice (port : Nat) (flit : Flit) (s : State) : Outcome State Fault Refusal :=
  .next <|
    if !s.part.port port || s.klState port < 2 || 4 < s.klState port then s
    else if badFlit flit then s.protocolError port
    else s.linkLost port 4

/-- PMREQ_RETRY (R465): after 1 us without an answer, up to four times. -/
def execPmreqRetry (port : Nat) (s : State) : Outcome State Fault Refusal :=
  .next <|
    match (s.klPort port).pm with
    | none => s
    | some q =>
      if !s.portIsUp port || s.clk < q.last + 1000 then s
      else if q.sent < 5 then
        (s.setKl port { s.klPort port with pm := some { q with sent := q.sent + 1, last := s.clk } }).send
          (.klControl port 4 q.want)
      else s.setKl port { s.klPort port with pm := none, lastPayload := s.clk }

/-! ### Payload and Idle flits (R464 to R470) -/

/-- PAYLOAD_FLIT (R464, R468 to R470, R480, R481). Assumption 87 (DEDUCED). -/
def execPayloadFlit (port : Nat) (flit : Flit) (s : State) : Outcome State Fault Refusal :=
  .next (s.flitIn port flit (fun s => if flit.flitType = 1 then s.takePayload port flit else s))

/-- IDLE_FLIT (R464, R466, R468, R470): also any Control flit that no row of its own names (R465). -/
def execIdleFlit (port : Nat) (flit : Flit) (s : State) : Outcome State Fault Refusal :=
  .next (s.flitIn port flit (fun s =>
    if flit.flitType = 2 && !(1 ≤ flit.ctlOp && flit.ctlOp ≤ 7) then s.bump (F.klCtlDiscardCountCount port) else s))

/-- FLIT_CRC_ERROR (R467, R469, R472, R477). -/
def execFlitCrcError (port : Nat) (bytes : List (BitVec 8)) (s : State) : Outcome State Fault Refusal :=
  .next <|
    if !s.portIsUp port || flitGood bytes then s
    else
      let p := s.klPort port
      let errs := (p.errs ++ [s.clk]).filter (fun t => s.clk < t + 1000000000)
      let s := (s.setKl port { p with errs := errs, badRun := p.badRun + 1 }).bump (F.klCrcErrCountCount port)
      let s := s.setNak port
      let limit := s.get (F.klErrCfgCrcLimit port)
      if limit != 0 && limit ≤ errs.length then
        (s.raise 244 sevNotice 0 noDom [d4 port, d4 errs.length]).startLinkRetrain port 1
      else if 8 ≤ p.badRun + 1 then s.startLinkRetrain port 3
      else s

/-- ACK_TIMEOUT (R470). -/
def execAckTimeout (port : Nat) (s : State) : Outcome State Fault Refusal :=
  .next <|
    match (s.klPort port).txBuf with
    | [] => s
    | x :: _ =>
      if !s.portIsUp port || s.clk < x.last + max 64 (s.get (F.klReplayCfgAckTimeoutNs port)) then s else s.replayFrom port x.seq

/-! ### Port states (R472 to R476) -/

/-- KL_RETRAIN (R472, R474). -/
def execKlRetrain (port : Nat) (s : State) : Outcome State Fault Refusal :=
  .next <|
    if !s.part.port port || port = 10 then s
    else if s.klState port = portUp || s.klState port = portL1 then s.startLinkRetrain port 5
    else if s.klState port = portDown && !s.on (F.klLinkCtlDisable port) then s.beginTraining port
    else s

/-- KL_DISABLE (R472, R474): writing 0 leaves the port Down. -/
def execKlDisable (port : Nat) (disable : Bool) (s : State) : Outcome State Fault Refusal :=
  .next <|
    if !s.part.port port || port = 10 then s
    else
      let s := s.put (F.klLinkCtlDisable port) disable
      if disable && s.klState port != portReset then s.linkLost port 7 else s

/-- A retraining has ended well: the port is Up with its new delay (R461, R472). -/
def State.retrained (s : State) (k d : Nat) : State :=
  let p := s.klPort k
  let s := (s.shiftTimers k).set (F.klDelayDelayPs k) d
  let s := (s.set (F.klLinkStatusState k) portUp).raise 240 sevWarning 0 noDom [d4 k, d4 p.trigger, d8 (s.clk - p.since)]
  (s.setKl k { p with tries := 0, replays := 0, replayFrom := none, lastPayload := s.clk }).showDegraded k

/-- The whole replay buffer of a port goes out again (R470). -/
def State.replayAll (s : State) (k : Nat) : State :=
  match (s.klPort k).txBuf with
  | [] => s
  | x :: _ => s.replayFrom k x.seq

/-- The lanes after an attempt to train: none where the attempt failed or leaves too few (R459, R470). -/
def State.trained? (s : State) (k : Nat) (success : Bool) (lanes : LaneTest) : Option State :=
  if success then s.testLanes k lanes else none

/-- RETRAINING_COMPLETE (R459, R460 to R462, R470, R472): the attempt succeeds or fails. -/
def execRetrainingComplete (port : Nat) (success : Bool) (id : BitVec 64) (lanes : LaneTest) (s : State) :
    Outcome State Fault Refusal :=
  .next <|
    let k := port
    if !s.part.port k || s.klState k != portRetraining || (s.klPort k).backoff.isSome then s
    else if id != s.reg (R.klPartnerId k) && success then (s.raise 246 sevError 0 noDom [d4 k, d8 id.toNat]).linkLost k 8
    else
      match s.trained? k success lanes with
      | none => s.attemptFails k
      | some s' =>
        match s.measured? k with
        | none => s.attemptFails k
        | some d => ((s'.retrained k d).replayAll k).klPump k

/-- L1_IDLE_TIMER (R475). -/
def execL1IdleTimer (port : Nat) (s : State) : Outcome State Fault Refusal :=
  .next <|
    if !s.portIsUp port || !s.mayL1 port || (s.klPort port).pm.isSome then s
    else
      (s.setKl port { s.klPort port with pm := some { want := 1, sent := 1, first := s.clk, last := s.clk } }).send
        (.klControl port 4 1)

/-- L1_EXIT (R472, R475): the partner asks, or the hub has a flit to send. -/
def execL1Exit (port : Nat) (asked success : Bool) (s : State) : Outcome State Fault Refusal :=
  .next <|
    if !s.part.port port || s.klState port != portL1 || (!asked && (s.klPort port).txWait = []) then s
    else if success then s.leaveL1 port
    else s.startLinkRetrain port 4

/-- SIDEBAND_LOSS (R456, R472). -/
def execSidebandLoss (port : Nat) (s : State) : Outcome State Fault Refusal :=
  .next <|
    if !s.part.port port || s.klState port < 2 || 4 < s.klState port then s else s.linkLost port 5

/-- PHYRETRAIN_REQUEST (R472, trigger 4). -/
def execPhyretrainRequest (port : Nat) (s : State) : Outcome State Fault Refusal :=
  .next (if s.portIsUp port then s.startLinkRetrain port 4 else s)

end Sys2Proof.Machine
end

