-- ==== Sys2Proof/Machine/Power.lean ====
section
/-!
DEFINITION. Power sequencing and thermal supervision (chapter 18).
-/
namespace Sys2Proof.Machine
open Host State

def pwStandby : Nat := 0
def pwSequencing : Nat := 1
def pwBackoff : Nat := 2
def pwOn : Nat := 3
def pwStopping : Nat := 4
def pwPoweringDown : Nat := 5
def pwWaitInput : Nat := 6
def pwOff : Nat := 7
def pwLatchedOff : Nat := 8

def ms (n : Nat) : Nat := n * 1000000

namespace State

def supervisor (s : State) : Nat := s.get F.pwrStatusState

/-! ### Rails (R542 to R545) -/

/-- A rail of the part that is in use (R544). -/
def railUsed (s : State) (n : Nat) : Bool := s.part.rail n && s.on (F.pwrSeqTableUsed n)

/-- The step of a rail. -/
def railStep (s : State) (n : Nat) : Nat :=
  let k := s.get (F.pwrSeqTableStep n)
  if 21 ≤ n then max 2 (min 9 k) else k

/-- 0 Flush, 1 Cut, 2 Isolate. -/
def railOnFault (s : State) (n : Nat) : Nat := if s.get (F.pwrSeqTableOnFault n) = 3 then 1 else s.get (F.pwrSeqTableOnFault n)

/-- The rails in use of a step. -/
def stepRails (s : State) (k : Nat) : List Nat := (List.range 24).filter (fun n => s.railUsed n && s.railStep n = k)

def setEn (s : State) (l : List Nat) (on : Bool) : State := l.foldl (fun s n => s.setBit F.pwrRailEnRails n on) s
def setPg (s : State) (l : List Nat) (on : Bool) : State := l.foldl (fun s n => s.setBit F.pwrRailPgRails n on) s

def stableNs (s : State) (n : Nat) : Nat := ms (max 1 (s.get (F.pwrSeqTableStableMs n)))
def windowNs (s : State) (n : Nat) : Nat := ms (max 5 (s.get (F.pwrSeqTableWindowMs n)))

/-- PWR_FAULT (R546, R549). -/
def railFault (s : State) (rail kind : Nat) : State :=
  let s := ((s.set F.pwrFaultRail rail).set F.pwrFaultKind kind).set F.pwrFaultAttempt (s.get F.pwrStatusAttempt)
  (s.set F.pwrFaultTime (s.nowSec % 2 ^ 32)).put F.pwrFaultValid true

/-- The step that is enabled. -/
def enableStep (s : State) (k : Nat) : State :=
  let s := (s.setEn (s.stepRails k) true).set F.pwrStatusStep k
  { s with pw := { s.pw with stepAt := s.clk } }

/-- All SEQ_EN low: HU_LOAD_EN and every rail (R554, R567). -/
def railsLow (s : State) : State := (s.set F.pwrRailEnRails 0).set F.pwrRailPgRails 0

/-! ### Power-down (R546, Table 18.3) -/

/-- LatchedOff (R547): Privet stays in Safe mode. -/
def latchOff (s : State) : State :=
  (s.set F.pwrStatusState pwLatchedOff).safeMode 10

/-- Step 0 reads low: what follows. -/
def powerDownEnds (s : State) : State :=
  let s : State := { s with pw := { s.pw with since := s.clk } }
  if s.pw.after = pwBackoff then
    if 3 ≤ s.get F.pwrStatusAttempt then
      ((s.raise 12 sevFatal 0 noDom [d4 (s.get F.pwrFaultRail), d4 (s.get F.pwrFaultKind)]).spreadInc 6).latchOff
    else s.set F.pwrStatusState pwBackoff
  else if s.pw.after = pwLatchedOff then s.latchOff
  else s.set F.pwrStatusState s.pw.after

/-- The highest step with an enabled rail. -/
def topStep? (s : State) : Option Nat :=
  ((List.range 10).reverse).find? (fun k => (s.stepRails k).any (fun n => s.bit F.pwrRailEnRails n))

/-- The highest step with an enabled rail is disabled; with none left, the reverse power-down has ended. -/
def dropTop (s : State) : State :=
  match s.topStep? with
  | none => s.powerDownEnds
  | some k => (s.setEn (s.stepRails k) false).set F.pwrStatusStep k

/-- The next step of a reverse power-down begins now. -/
def nextDown (s : State) : State := dropTop { s with pw := { s.pw with stepAt := s.clk } }

/-- Reverse power-down begins: the dies' content is lost with their rails, and the highest step is disabled.
Assumption 91 (DEDUCED). -/
def powerDown (s : State) (after : Nat) : State :=
  let s := s.resetDies false
  let s : State := { s with pw := { s.pw with after := after, hold := none, l2At := none, cold := 0, stepAt := s.clk } }
  (s.set F.pwrStatusState pwPoweringDown).dropTop

/-- A sequence aborts (R546). -/
def abortSequence (s : State) (rail kind : Nat) : State :=
  let s := s.railFault rail kind
  let s := (s.raise 11 sevCritical 0 noDom [d4 rail, d4 kind, d4 (s.get F.pwrStatusAttempt)]).spreadInc 5
  s.powerDown pwBackoff

/-- Where the power-down of a stop ends, by its trigger (Table 18.3). -/
def stopEnd (s : State) : Nat :=
  match s.per.trigger with
  | 1 => pwWaitInput
  | 2 => pwBackoff
  | _ => pwOff

/-! ### Power-on (R52, R63, R604, R607) -/

/-- TB_PROV.Base at a power-on (R63). -/
def setProvisional (s : State) : State :=
  match s.time.recorded with
  | none => ((s.set F.tbProvBase 0).set F.tbProvGapMark 0).put F.tbStatusGapValid true
  | some (t, at_) =>
    if s.time.standbyOk then
      ((s.set F.tbProvBase ((t + (s.time.standby - at_) / 1000000000) % 2 ^ 32)).set F.tbProvGapMark 0).put F.tbStatusGapValid false
    else ((s.set F.tbProvBase t).set F.tbProvGapMark t).put F.tbStatusGapValid true

/-- The service mode as a start-up begins (R613): what was lost is to be found again. -/
def modeAfresh (s : State) : State :=
  let s := ((s.set F.pvModeMode 0).set F.pvModeCause 0).put F.pvModeMaintenance false
  { s.setReg R.pvUnitsLost 0 with pw := { s.pw with lossy := false } }

/-- The clocks of a die that has just been powered start (R52). -/
def startClocks (s : State) : State := { s with time := { s.time with running := true, dtb := 0, privet := 0 } }

/-- The sequencer forgets the drops and the holds of the attempt before. -/
def startSequence (s : State) : State :=
  { s with pw := { s.pw with drops := [], hold := none, startAt := s.clk, due := false, cold := 0, selfStep := 0,
                             selfLeft := [], failedUnits := 0 } }

/-- The supervisor's state has stood since now. -/
def sinceNow (s : State) : State := { s with pw := { s.pw with since := s.clk } }

/-- The hold for a cool start ends. -/
def endHold (s : State) : State := { s with pw := { s.pw with hold := none } }

/-- The main rails start at Step 0: a power-on (R527, R529, R604). -/
def powerOn (s : State) (attempt kind : Nat) : State :=
  let s := (s.resetDies false).startClocks
  let s := (s.setProvisional).modeAfresh.spreadInc 0
  let s := if s.pv.opening = 0 then (s.setReg R.pvDebugStatus 0).newNonce else s
  let s := if kind = 2 then
      ((s.set F.pvResetStatusKind 2).set F.pvResetStatusTime 0).put F.pvResetStatusFlushComplete (s.on F.perFlushLastComplete)
    else s
  let s := (List.range 8).foldl (fun s i => if 1 ≤ i then s.set (F.pvMilestoneTime i) 0 else s) s
  let s := ((s.set F.pwrStatusState pwSequencing).set F.pwrStatusAttempt attempt).set F.pvModeStartPhase 2
  let s := s.startSequence.enableStep 0
  if s.pw.pfWarn then s.powerDown pwWaitInput else s

/-! ### Hold-up tests (R555 to R557) -/

/-- HU_LOAD_EN is asserted, or the test waits for On. -/
def startTest (s : State) (v0 : Nat) : State :=
  if s.supervisor != pwOn then { s with pw := { s.pw with due := true } }
  else if s.pw.test.isSome then s
  else { s with pw := { s.pw with test := some (v0, s.clk), load := true, due := false, tested := s.clk } }.spreadInc 11

/-- A test is discarded (R557). -/
def abortTest (s : State) : State :=
  if s.pw.test.isSome then
    { s with pw := { s.pw with test := none, load := false } }.put F.pwrHoldupStatusAborted true
  else s

/-! ### Sensors (R558 to R561) -/

/-- A sensor of the part that is in use. -/
def sensorUsed (s : State) (n : Nat) : Bool :=
  s.part.sensor n && (!(48 ≤ n && n < 56) || s.bit F.thmCtlBoardUsed (n - 48))

/-- Neighbour sets (Table 18.6), without absent sensors. -/
def neighbours (s : State) (n : Nat) : List Nat :=
  let l :=
    if n < 32 then (List.range 4).map (fun i => n / 4 * 4 + i)
    else if n < 48 then [n ^^^ 1, n - 2, n + 2].filter (fun m => 32 ≤ m && m < 48)
    else if n < 56 then (List.range 8).filterMap (fun i =>
      if s.bit (F.thmLimitNbMask n) i then some (48 + i) else none)
    else if n < 68 then
      let r := (n - 56) / 4
      let k := (n - 56) % 4
      (if 1 ≤ r then [n - 4] else []) ++ (if r < 2 then [n + 4] else []) ++ (if 1 ≤ k then [n - 1] else [])
        ++ (if k < 3 then [n + 1] else [])
    else if n < 92 then (List.range 3).map (fun i => 68 + (n - 68) / 3 * 3 + i)
    else (List.range 4).map (fun i => 92 + i)
  (l.eraseDups).filter (fun m => m != n && s.sensorUsed m)

def sensorFailed (s : State) (n : Nat) : Bool := s.on (F.thmSensorFailed n)

/-- The neighbours that work. -/
def workers (s : State) (n : Nat) : List Nat := (s.neighbours n).filter (fun m => !s.sensorFailed m)

/-- A signed 12-bit value, and the field of one. -/
def quarter (v : Nat) : Int := (BitVec.ofNat 12 v).toInt
def quarters (x : Int) : Nat := (BitVec.ofInt 12 (max (-2048) (min 2047 x))).toNat

/-- Twice the median of the working neighbours' raw readings, if at least two work (R560). -/
def median2? (s : State) (n : Nat) : Option Int :=
  let l := ((s.workers n).map (fun m => quarter (s.get (F.thmSensorRaw m)))).mergeSort (fun a b => decide (a ≤ b))
  if l.length < 2 then none
  else
    let h := l.length / 2
    if l.length % 2 = 1 then some (2 * (l[h]?).getD 0) else some ((l[h - 1]?).getD 0 + (l[h]?).getD 0)

/-- A threshold in quarter degrees. -/
def limitQ (s : State) (f : Fld) : Int := ((s.get f : Int) - 64) * 4

def tempQ (s : State) (n : Nat) : Int := quarter (s.get (F.thmSensorTemp n))

/-- Every sensor in use reads below its ThrottleAt (R567). -/
def coolStart (s : State) : Bool :=
  (List.range 96).all (fun n => !s.sensorUsed n || s.tempQ n < s.limitQ (F.thmLimitThrottleAt n))

/-- THM_FAILED. -/
def showFailed (s : State) (n : Nat) (bad : Bool) : State :=
  let s := s.put (F.thmSensorFailed n) bad
  let s := if n < 64 then s.setBit F.thmFailedLoFailed n bad else s.setBit F.thmFailedHiFailed (n - 64) bad
  s.put F.thmStatusAnyFailed (s.reg R.thmFailedLo != 0 || s.reg R.thmFailedHi != 0)

/-- The cause for which a reading makes its sensor fail, if it does: what the sensor reports, or a reading far from the median
of its neighbours; and whether it is good for a sensor that has failed (R559, R560). -/
def sensorCause (s : State) (n : Nat) (raw : Int) (fault : Nat) : Nat × Bool :=
  let off := fun (lim : Int) => match s.median2? n with
    | none => false
    | some x => lim * 2 < 2 * raw - x || lim * 2 < x - 2 * raw
  (if fault = 1 || fault = 2 then fault else if off 60 then 3 else 0, fault != 1 && fault != 2 && !off 40)

/-- A failed sensor returns after 16 good readings in a row (R560). -/
def countGood (s : State) (n c : Nat) : State :=
  if 16 ≤ c then
    let s : State := { s with pw := { s.pw with goods := Store.erase n s.pw.goods, lonely := s.pw.lonely.filter (· != n) } }
    (s.showFailed n false).set (F.thmSensorCause n) 0
  else { s with pw := { s.pw with goods := Store.write (fun _ => 0) n c s.pw.goods } }

/-- Whether the sensor works is decided anew by a reading (R559, R560). -/
def judgeSensor (s : State) (n : Nat) (raw : Int) (x : Nat × Bool) : State :=
  if s.sensorFailed n then s.countGood n (if x.2 then Store.read (fun _ => 0) s.pw.goods n + 1 else 0)
  else if x.1 != 0 then
    ((s.showFailed n true).set (F.thmSensorCause n) x.1).raise 22 sevWarning 0 noDom
      [d4 n, d4 x.1, d4 (BitVec.ofInt 32 raw).toNat]
  else s

/-- A failed sensor without a working neighbour is named once in event 23 (R561). -/
def noteLonely (s : State) (n : Nat) : State :=
  if s.pw.lonely.contains n then s
  else { s with pw := { s.pw with lonely := s.pw.lonely ++ [n] } }.raise 23 sevCritical 0 noDom [d4 n]

/-- The value of a sensor in use: its reading, 5 degrees above its hottest working neighbour, or its stop limit (R561). -/
def valueSensor (s : State) (n : Nat) (raw : Int) : State :=
  let w := s.workers n
  if !s.sensorFailed n then (s.set (F.thmSensorTemp n) (quarters raw)).put (F.thmSensorSubstituted n) false
  else if w = [] then
    ((s.set (F.thmSensorTemp n) (quarters (s.limitQ (F.thmLimitStopAt n)))).put (F.thmSensorSubstituted n) true).noteLonely n
  else
    let top := w.foldl (fun (x : Int) j => max x (quarter (s.get (F.thmSensorRaw j)))) (-2048)
    let s : State := { s with pw := { s.pw with lonely := s.pw.lonely.filter (· != n) } }
    (s.set (F.thmSensorTemp n) (quarters (top + 20))).put (F.thmSensorSubstituted n) true

/-- The sampling period of a sensor, by its distance from its nearest limit (R559). -/
def sensorPeriod (s : State) (n : Nat) : Nat :=
  let near := fun (lim : Int) => [F.thmLimitThrottleAt n, F.thmLimitStopAt n, F.thmLimitTripAt n].any (fun f =>
    decide (s.tempQ n - s.limitQ f ≤ lim && s.limitQ f - s.tempQ n ≤ lim))
  if near 8 then 2 else if near 20 then 1 else 0

/-- The hottest sensor that is used, and its temperature. -/
def hottestSensor? (s : State) : Option (Nat × Int) :=
  ((List.range 96).filter s.sensorUsed).foldl (fun (m : Option (Nat × Int)) j => match m with
    | some x => if x.2 < s.tempQ j then some (j, s.tempQ j) else m
    | none => some (j, s.tempQ j)) none

/-- THM_STATUS.MaxTemp and MaxSensor. -/
def showHottest (s : State) : State :=
  match s.hottestSensor? with
  | some x => (s.set F.thmStatusMaxTemp ((max 0 (min 255 ((x.2 + 2) / 4 + 64))).toNat)).set F.thmStatusMaxSensor x.1
  | none => s

/-- A sample is taken: the reading, whether the sensor works, and its value in use (R559 to R561). -/
def readSensor (s : State) (n : Nat) (raw : Int) (fault : Nat) : State :=
  let s := (s.set (F.thmSensorRaw n) (quarters raw)).put (F.thmSensorPresent n) true
  let s := (s.judgeSensor n raw (s.sensorCause n raw fault)).valueSensor n raw
  let s := s.put F.thmStatusNoNeighbour (s.pw.lonely != [])
  (s.set (F.thmSensorPeriod n) (s.sensorPeriod n)).showHottest

/-! ### Throttling (R563, R564) -/

/-- Loops: 0 the package, 1 + d media die d, 9 + j NAND thermistor j. -/
def loopOf (n : Nat) : Nat := if n < 32 then 1 + n / 4 else if n < 48 then 9 + (n - 32) else 0

/-- The sensors of a loop. -/
def loopSensors (s : State) (l : Nat) : List Nat := (List.range 96).filter (fun n => s.sensorUsed n && loopOf n = l)

/-- The level of a loop. -/
def loopField (l : Nat) : Fld :=
  if l = 0 then F.thmStatusPackageLevel
  else if l < 9 then { reg := R.thmMtierLevel, lo := 3 * (l - 1), w := 3 }
  else { reg := R.thmNandLevel, lo := 3 * (l - 9), w := 3 }

def showLevels (s : State) : State :=
  let top := fun (l : List Nat) => l.foldl (fun m i => max m (s.get (loopField i))) 0
  (s.set F.thmStatusMtierMax (top ((List.range 8).map (1 + ·)))).set F.thmStatusNandMax (top ((List.range 16).map (9 + ·)))

/-- A loop rises one level, at most once in a time (R563, R564). -/
def raiseLevel (s : State) (l minNs : Nat) (sensor : Nat × Nat) : State :=
  let n := s.get (loopField l)
  let free := match Store.find? s.pw.rose l with
    | none => true
    | some t => t + minNs ≤ s.clk
  if n < 4 && free then
    let s : State := { s with pw := { s.pw with rose := Store.insert l s.clk s.pw.rose } }
    ((s.set (loopField l) (n + 1)).showLevels).raise 18 sevWarning 0 noDom [d4 l, d4 (n + 1), sensor]
  else s

/-- Since when all sensors of a loop have stayed below their thresholds less the hysteresis. -/
def trackClear (s : State) (l : Nat) : State :=
  let h : Int := (max 1 (s.get F.thmCtlHysteresis) : Nat)
  let clear := (s.loopSensors l).all (fun n => decide (s.tempQ n < s.limitQ (F.thmLimitThrottleAt n) - 4 * h))
  let known := Store.find? s.pw.clearSince l
  if clear then
    if known.isSome then s else { s with pw := { s.pw with clearSince := Store.insert l s.clk s.pw.clearSince } }
  else { s with pw := { s.pw with clearSince := Store.erase l s.pw.clearSince } }

/-! ### Aging and retraining at diode samples (R172, R197) -/

/-- The highest value in use of a die's diodes, rounded to whole degrees, halves up. -/
def dieTop (s : State) (d : Nat) : Int :=
  ((List.range 4).map (fun i => s.tempQ (4 * d + i))).foldl max (-2048)

/-- The die's aging clock advances by the time since its last diode sample (R197), while the die is powered. -/
def ageDie (s : State) (d : Nat) : State :=
  if s.supervisor != pwOn && s.supervisor != pwStopping then s
  else
  let t := s.dieTop d
  let last := (s.mt.dieSample[d]?).getD 0
  let before := quarter ((s.mt.dieTemp[d]?).getD 0)
  let top := max t before
  let deg := (top + 2) / 4
  let add := (s.clk - last) * accel deg / 1000000000
  let s := s.set (F.mtAgingSeconds d) ((s.get (F.mtAgingSeconds d) + add) % 2 ^ 64)
  { s with mt := { s.mt with dieTemp := s.mt.dieTemp.set d (quarters t), dieSample := s.mt.dieSample.set d s.clk } }

/-- A diode has moved by RetrainTempDelta since its channel's last retraining (R172). -/
def retrainByTemp (s : State) (c : Nat) : State :=
  let now : Int := s.tempCode c
  let was : Int := (s.chan c).temp
  let delta : Int := s.get (F.mtChCtlRetrainTempDelta c)
  if s.get (F.mtChStatusState c) = 2 && 0 < delta && (delta ≤ now - was || delta ≤ was - now) then s.startRetrain c trigTemp
  else s

/-! ### Stops (R554, R566, R567) -/

/-- The orderly stop (R566). -/
def thermalStop (s : State) (n : Nat) : State :=
  if s.supervisor != pwOn then s
  else ((s.raise 20 sevCritical 0 noDom [d4 n, d4 (BitVec.ofInt 32 (s.tempQ n)).toNat]).spreadInc 9).startFlush 3

/-- The hardware trip (R567): no flush, every SEQ_EN low, the trip flag set, Privet in reset. Assumption 96 (DEDUCED). -/
def hardwareTrip (s : State) : State :=
  let s := (s.cutRails.resetPrivet 4).railsLow
  { s with pw := { s.pw with trip := true, inReset := true, tripAt := s.clk } }

/-- An isolated rail is off until the next power-up, and its units go offline (R549). Assumption 97 (DEDUCED). -/
def isolateRail (s : State) (n : Nat) : State :=
  let s := (s.setEn [n] false).setPg [n] false
  if n = 6 || n = 7 then
    ((List.range 16).filter (fun p => s.bit F.netStatusPortUp p)).foldl (fun s p => s.ethDown p) s.reduced
  else if n = 16 || n = 18 || n = 20 then
    (((List.range s.fchannels).foldl (fun s c => s.fchanOffline c 5) s).set F.ftStatusState 0).reduced
  else if n = 21 || n = 22 then
    let k := 8 + (n - 21)
    let s := s.put (F.klLinkCtlDisable k) true
    if s.klState k = portReset then s else s.linkLost k 7
  else s

end State

/-! ### Sequencing (R545 to R547) -/

/-- SEQUENCE_STEP_COMPLETE (R545, R567): every rail of the step has been good for its StableMs. Assumption 92 (DEDUCED). -/
def execSequenceStepComplete (s : State) : Outcome State Fault Refusal :=
  .next <|
    let k := s.get F.pwrStatusStep
    let l := s.stepRails k
    let steady := l.all (fun n => s.pw.stepAt + s.stableNs n ≤ s.clk && (s.pw.drops.all (fun d => d.1 != n || d.2.2 + s.stableNs n ≤ s.clk)))
    if s.supervisor != pwSequencing || s.pw.hold.isSome || !steady then s
    else
      let s := s.setPg l true
      if k = 0 && !s.coolStart then { s with pw := { s.pw with hold := some s.clk } }
      else if k < 9 then s.enableStep (k + 1)
      else
        let s := (s.set F.pwrStatusState pwOn).set F.pvModeStartPhase 3
        let s : State := { s with pw := { s.pw with since := s.clk, due := true } }
        s.raise 14 sevInfo 0 noDom [d4 (s.get F.pwrStatusAttempt), d8 (s.clk - s.pw.startAt)]

/-- SEQ_PG_DROP (R545, R546): SEQ_PG of an enabled rail falls; the third drop of a rail aborts. -/
def execSeqPgDrop (rail : Nat) (s : State) : Outcome State Fault Refusal :=
  .next <|
    if s.supervisor != pwSequencing || 24 ≤ rail || !s.bit F.pwrRailEnRails rail then s
    else
      let n := (((s.pw.drops.find? (fun d => d.1 = rail)).map (·.2.1)).getD 0) + 1
      let s : State := { s with pw := { s.pw with drops := s.pw.drops.filter (fun d => d.1 != rail) ++ [(rail, n, s.clk)] } }
      let s := s.setPg [rail] false
      if 3 ≤ n then s.abortSequence rail 2 else s

/-- SEQUENCE_WINDOW_EXPIRY (R546): a rail of the step is not stable within its WindowMs. -/
def execSequenceWindowExpiry (rail : Nat) (s : State) : Outcome State Fault Refusal :=
  .next <|
    if s.supervisor != pwSequencing || s.pw.hold.isSome || !(s.stepRails (s.get F.pwrStatusStep)).contains rail
        || s.clk < s.pw.stepAt + s.windowNs rail then s
    else s.abortSequence rail 1

/-- POWER_DOWN_STEP (R546): the rails of the step read low, or 10 ms have passed with a rail still high (`late`). -/
def execPowerDownStep (late : Option Nat) (s : State) : Outcome State Fault Refusal :=
  .next <|
    if s.supervisor != pwPoweringDown then s
    else
      let k := s.get F.pwrStatusStep
      let low := (List.range 24).filter (fun n => !s.bit F.pwrRailEnRails n && late != some n)
      match late with
      | none => (s.setPg low false).nextDown
      | some n =>
        if s.clk < s.pw.stepAt + ms 10 || !(s.stepRails k).contains n || s.topStep? = none then s
        else ((s.setPg low false).railFault n 4).nextDown

/-- BACKOFF_EXPIRY (R547): 250 ms, 500 ms or 1000 ms after the abort. -/
def execBackoffExpiry (s : State) : Outcome State Fault Refusal :=
  .next <|
    let a := s.get F.pwrStatusAttempt
    if s.supervisor != pwBackoff || s.clk < s.pw.since + ms (250 * 2 ^ a) then s else s.powerOn (a + 1) 2

/-- ATTEMPT_COUNT_RESET (R547): ten minutes in On without a fault. -/
def execAttemptCountReset (s : State) : Outcome State Fault Refusal :=
  .next (if s.supervisor = pwOn && s.pw.since + ms 600000 ≤ s.clk then s.set F.pwrStatusAttempt 0 else s)

/-- RUNNING_RAIL_FAULT (R549, Table 18.3): SEQ_PG of a rail in use has been low for `lowNs`. -/
def execRunningRailFault (rail lowNs : Nat) (s : State) : Outcome State Fault Refusal :=
  .next <|
    if !s.railUsed rail || !s.bit F.pwrRailEnRails rail then s
    else if s.supervisor = pwOn && 4000 ≤ lowNs then
      let f := s.railOnFault rail
      let s := ((s.railFault rail 3).raise 13 sevCritical 0 noDom [d4 rail, d4 f]).spreadInc 7
      let s := (s.setPg [rail] false).sinceNow
      match f with
      | 0 => s.startFlush 2
      | 1 => (s.set F.pwrStatusLastTrigger 5).powerDown pwBackoff
      | _ => s.isolateRail rail
    else if s.supervisor = pwStopping && s.railOnFault rail = 1 then (s.setPg [rail] false).powerDown s.stopEnd
    else s

/-! ### Power-fail warning (R550 to R553) -/

/-- PF_WARN_N_TRIGGER (R550, R551, R606, Table 18.3): PF_WARN_N has been low for `lowUs`. Assumption 95 (DEDUCED). -/
def execPfWarnNTrigger (lowUs : Nat) (s : State) : Outcome State Fault Refusal :=
  .next <|
    if !s.pw.booted then s
    else if lowUs < max 1 (s.get F.pwrPfCfgFilterUs) then s.bump F.pwrPfGlitchCountCount
    else
      let s : State := { s.put F.pwrStatusPfWarn true with pw := { s.pw with pfWarn := true } }
      let s := ((s.raise 10 sevNotice 0 noDom [d4 (s.get F.pwrPfGlitchCountCount)]).spreadInc 8).abortTest
      let x := s.supervisor
      if x = pwOn then
        if 2 ≤ s.pw.cold then s.powerDown pwWaitInput
        else
          let s := if s.on F.pwrPfCfgVectorEnable then
              ((List.range s.ldCount).filter s.ldEnabled).foldl (fun s n => s.msix n (s.get F.pwrPfCfgVector)) s
            else s
          s.startFlush 1
      else if x = pwSequencing || x = pwBackoff then s.powerDown pwWaitInput
      else if x = pwWaitInput then { s with pw := { s.pw with since := s.clk } }
      else s

/-- FLUSH_LIMIT_EXPIRY (R552): LimitMs after the trigger, the flush has not reached step 8. -/
def execFlushLimitExpiry (s : State) : Outcome State Fault Refusal :=
  .next <|
    if s.supervisor != pwStopping || s.pw.l2At.isSome || s.clk < s.pw.stopAt + ms (max 5 (s.get F.pwrPfCfgLimitMs)) then s
    else s.pmL2

/-- L2_TIMEOUT (R476, R552, Table 18.3): 10 us after PmReq L2 every mainband is off, and the reverse power-down begins. -/
def execL2Timeout (s : State) : Outcome State Fault Refusal :=
  .next <|
    match s.pw.l2At with
    | none => s
    | some t => if s.supervisor != pwStopping || s.clk < t + 10000 then s else s.powerDown s.stopEnd

/-- INPUT_RETURN (R553): PF_WARN_N has been deasserted for 100 ms in WaitInput. Assumption 95 (DEDUCED). -/
def execInputReturn (s : State) : Outcome State Fault Refusal :=
  .next <|
    if s.supervisor != pwWaitInput || s.clk < s.pw.since + ms 100 then s
    else
      let s : State := { s.put F.pwrStatusPfWarn false with pw := { s.pw with pfWarn := false } }
      (s.raise 15 sevInfo 0 noDom [d8 (s.clk - s.pw.since)]).powerOn 0 2

/-! ### Hold-up verification (R555 to R557) -/

/-- HOLDUPTEST (R555, R557): PWR_CTL.HoldupTest; `v0Mv` is the store's voltage. -/
def execHolduptest (v0Mv : Nat) (s : State) : Outcome State Fault Refusal := .next (s.startTest v0Mv)

/-- HOLDUP_INTERVAL (R557): the start-up test, a deferred test, or the interval. -/
def execHoldupInterval (v0Mv : Nat) (s : State) : Outcome State Fault Refusal :=
  .next <|
    let h := s.get F.pwrHoldupCfgIntervalHours
    if s.pw.due || (h != 0 && s.pw.tested + h * 3600000000000 ≤ s.clk) then s.startTest v0Mv else s

/-- HOLDUP_TEST_COMPLETE (R309 to R311, R555, R556): after 10 ms of load, `v1Mv` is read. Assumption 94 (DEDUCED). -/
def execHoldupTestComplete (v1Mv : Nat) (s : State) : Outcome State Fault Refusal :=
  .next <|
    match s.pw.test with
    | none => s
    | some (v0, t) =>
      if s.clk < t + ms 10 then s
      else
        let s : State := { s with pw := { s.pw with test := none, load := false } }
        let ma := s.get F.pwrHoldupCfgTestMa
        let vmin := s.get F.pwrHoldupCfgVminMv
        let eff := min 100 (s.get F.pwrHoldupCfgEffPct)
        let declared := s.get F.perHoldupDeclaredMj
        let dv := v0 - v1Mv
        let c := if dv = 0 then s.freeWord.toNat else ma * 10 / dv
        let e := if dv = 0 then s.freeWord.toNat else eff * ma * 10 * (v0 * v0 - vmin * vmin) / (200 * dv * 1000000)
        let s := if dv = 0 then s.drew else s
        let fails := dv < 50 || v0 ≤ vmin || eff = 0 || ma = 0
        let s := ((s.set F.pwrHoldupStatusCapMf c).set F.pwrHoldupStatusV0Mv v0).set F.pwrHoldupStatusResultMj e
        let s := (s.put F.pwrHoldupStatusFailed fails).put F.pwrHoldupStatusAborted false
        let s :=
          if fails then
            ((s.set F.perHoldupVerifiedMj 0).put F.perHoldupVerified false).raise 16 sevWarning 0 noDom [d4 v0, d4 c, d4 e]
          else
            let s := (s.set F.perHoldupVerifiedMj (min e declared)).put F.perHoldupVerified true
            if e < declared then s.raise 16 sevWarning 0 noDom [d4 v0, d4 c, d4 e]
            else s.raise 17 sevNotice 0 noDom [d4 (min e declared)]
        s.holdupChanged

/-! ### Thermal supervision (R558 to R567) -/

/-- SENSOR_SAMPLE (R172, R197, R559 to R563, R566, R567): `raw` in quarter degrees; `fault` 1 open, 2 short. -/
def execSensorSample (sensor : Nat) (raw : Int) (fault : Nat) (s : State) : Outcome State Fault Refusal :=
  .next <|
    let n := sensor
    if !s.pw.booted || 96 ≤ n || !s.sensorUsed n then s
    else
      let s := s.readSensor n raw fault
      let l := loopOf n
      let t := s.tempQ n
      let s := s.trackClear l
      let s := if s.limitQ (F.thmLimitThrottleAt n) ≤ t then s.raiseLevel l (ms 100) (d4 n) else s
      let s := if n < 32 then (s.ageDie (n / 4)).retrainByTemp n else s
      let s := if s.pw.hold.isSome && s.coolStart then s.endHold.enableStep 1 else s
      let s := if s.limitQ (F.thmLimitStopAt n) ≤ t then s.thermalStop n else s
      if n < 56 && s.limitQ (F.thmLimitTripAt n) ≤ t then s.hardwareTrip else s

/-- THROTTLE_FALL (R563, R564): every sensor of the loop has been clear for 1 s. Assumption 93 (DEDUCED). -/
def execThrottleFall (loop : Nat) (s : State) : Outcome State Fault Refusal :=
  .next <|
    let n := s.get (loopField loop)
    let clear := match Store.find? s.pw.clearSince loop with
      | some t => t + ms 1000 ≤ s.clk
      | none => false
    let power := match s.pw.powerClear with
      | some t => t + ms 1000 ≤ s.clk || t = 0
      | none => false
    if 25 ≤ loop || n = 0 || !clear || (loop = 0 && !power) then s
    else
      let s : State := { s with pw := { s.pw with clearSince := Store.insert loop s.clk s.pw.clearSince } }
      let s := ((s.set (loopField loop) (n - 1)).showLevels).issueAll
      if n = 1 then s.raise 19 sevInfo 0 noDom [d4 loop] else s

/-- An estimate is recorded, and since when it has been below nine tenths of the limit (R564). -/
def State.noteEstimate (s : State) (watts limit : Nat) : State :=
  let since := if watts * 100 < limit * 90 then (if s.pw.powerClear.isSome then s.pw.powerClear else some s.clk) else none
  { s.set F.pwrPowerEstimateW (min watts 1023) with pw := { s.pw with powerClear := since } }

/-- POWER_ESTIMATE (R564). -/
def execPowerEstimate (watts : Nat) (s : State) : Outcome State Fault Refusal :=
  .next <|
    let limit := s.get F.pwrPowerLimitW
    let s := s.noteEstimate watts limit
    if limit * 97 < watts * 100 then (s.raiseLevel 0 (ms 10) s.noItem).drew else s

/-- HARDWARE_TRIP (R567): the comparator of an on-die sensor that has not failed, or a sample at TripAt. -/
def execHardwareTrip (sensor : Nat) (s : State) : Outcome State Fault Refusal :=
  .next <|
    if 96 ≤ sensor || !s.sensorUsed sensor || s.pw.inReset then s
    else if 56 ≤ sensor then
      if s.sensorFailed sensor || !s.bit F.pwrRailPgRails 1 then s else s.hardwareTrip
    else if s.limitQ (F.thmLimitTripAt sensor) ≤ s.tempQ sensor && s.pw.booted then s.hardwareTrip
    else s

/-- TRIP_RESET_RELEASE (R567): Privet leaves reset 100 ms after the trip, reports it and remains Off. -/
def execTripResetRelease (s : State) : Outcome State Fault Refusal :=
  .next <|
    if !s.pw.trip || !s.pw.inReset || s.clk < s.pw.tripAt + ms 100 then s
    else
      let s : State := { s with pw := { s.pw with inReset := false } }
      let s := (s.put F.pwrStatusTripSeen true).set F.pwrStatusState pwOff
      (s.raise 21 sevFatal 0 noDom []).spreadInc 10

/-- START_HOLD_TIMEOUT (R567): the hold after Step 0 has lasted 10 minutes. -/
def execStartHoldTimeout (s : State) : Outcome State Fault Refusal :=
  .next <|
    match s.pw.hold with
    | none => s
    | some t =>
      if s.supervisor != pwSequencing || s.clk < t + ms 600000 then s
      else
        let s := s.railFault 0 5
        let s := (s.raise 12 sevFatal 0 noDom [d4 0, d4 5]).spreadInc 6
        s.powerDown pwLatchedOff

end Sys2Proof.Machine
end

