-- ==== Sys2Proof/Machine/Access.lean ====
section
/-!
DEFINITION. Accesses to registers: access codes (R13), widths (R15), what a read returns, and the pages that tenants reach
(R38, R357, R433, R513, Tables 11.1 and 14.5).
-/
namespace Sys2Proof.Machine

open Host

/-- The registers that meet a range of bytes, with their addresses. -/
def touchedRegs (p : Part) (a n : Nat) : List (Nat × RegPlace) :=
  (List.range ((a % 4 + n + 3) / 4 + 1)).filterMap (fun i =>
    let w := a / 4 * 4 + 4 * i - 4
    match findReg regBlocks w with
    | some x => if x.present p && a < w + x.row.width / 8 && w < a + n then some (w, x) else none
    | none => none)

/-- The register that an access of the right width and alignment reaches (R15). -/
def exactReg? (p : Part) (a n : Nat) : Option RegPlace :=
  match findReg regBlocks a with
  | some x => if x.present p && x.row.width = 8 * n then some x else none
  | none => none

/-- Where an address lies in the domain register pages (Table 14.5): its domain and offset. -/
def keyPage? (a : Nat) : Option (Nat × Nat) :=
  if 0xF0000C000000 ≤ a && a < 0xF0000C400000 then some ((a - 0xF0000C000000) / 4096, a % 4096) else none

/-- Keep the old value of a field. -/
def keepField (old new : Word) (lo w : Nat) : Word := putBits new lo w (bits old lo w)

/-- Clamp a field. Assumption 110 (DEDUCED). -/
def clampField (v : Word) (lo w least most : Nat) : Word := putBits v lo w (max least (min most (bits v lo w)))

/-- The state after a command that has its meaning in every state. -/
def landed (s : State) : Outcome State Fault Refusal → State
  | .next t => t
  | _ => s

namespace State

/-! ### Access codes (R13, R15) -/

/-- Event 31: an access of the wrong width or alignment. Assumption 100 (DEDUCED). -/
def badAccess (s : State) (dom a n : Nat) : State :=
  match touchedRegs s.part a n with
  | (r, _) :: _ => s.raise 31 sevNotice 0 dom [d8 r, d4 dom, d4 n]
  | [] => s

/-- The lock of a register's RWL fields is set. -/
def regLocked (s : State) (x : RegPlace) (a : Nat) : Bool :=
  x.row.lock != 0 && (s.reg (if x.row.lockReg = 0 then a else x.row.lockReg)).getLsbD (x.row.lock - 1)

/-- What a write leaves in a register by the access codes of its fields. -/
def codeWrite (s : State) (x : RegPlace) (a : Nat) (v : Word) : Word :=
  let old := s.reg a
  let rw : Word := BitVec.ofNat 64 (if s.regLocked x a then x.row.rw else x.row.rw ||| x.row.rwl)
  let w1c : Word := BitVec.ofNat 64 x.row.w1c
  let w1s : Word := BitVec.ofNat 64 x.row.w1s
  (((old &&& ~~~rw) ||| (v &&& rw)) &&& ~~~(v &&& w1c)) ||| (v &&& w1s)

/-! ### What a read returns -/

/-- The tally entry at the cursor. -/
def tallyShown (s : State) : Option TallyEntry := s.mt.tally[s.get F.mtTallyCursorIndex]?

/-- TOP_PLOT_INFO of a plot. -/
def plotInfo (s : State) (i : Nat) : Word :=
  if s.winPlots ≤ i then 0
  else
    let p := s.plot i
    let m := s.md.migrations.find? (fun m => m.plot = i)
    let die := (p.span.map spanDie).getD 0
    let mask := (p.span.map (fun e => (e.chans.map (fun c => 2 ^ (c % 4))).sum)).getD 0
    let flag := fun (b : Bool) (k : Nat) => if b then 2 ^ k else 0
    BitVec.ofNat 64 (flag p.span.isSome 0 + die * 2 ^ 1 + mask * 2 ^ 4
      + (p.span.map (fun e => e.baseRow / 1024)).getD 0 % 2 ^ 12 * 2 ^ 8 + flag p.pinned 20 + flag p.hazelOwned 21
      + flag m.isSome 22 + flag p.reborn 23 + s.plotClass i % 4 * 2 ^ 24 + p.group.getD 0 % 256 * 2 ^ 26
      + flag p.group.isSome 34 + p.interval % 2 ^ 17 * 2 ^ 35 + (m.map (fun m => m.cursor / 256)).getD 0 % 2 ^ 11 * 2 ^ 52)

/-- TOP_GROUP_CFG of a group. -/
def groupInfo (s : State) (g : Nat) : Word :=
  let v := s.group g
  let flag := fun (b : Bool) (k : Nat) => if b then 2 ^ k else 0
  BitVec.ofNat 64 (v.domain % 1024 + flag v.valid 10 + flag v.hazelAllowed 11 + flag v.colocate 12 + flag v.hazelRequested 13
    + flag v.hazelGranted 14 + v.hazelDie % 8 * 2 ^ 15 + flag v.split 18 + (s.groupPlots g).length % 2 ^ 16 * 2 ^ 32)

/-- PER_SNAP_INFO of a snapshot. -/
def snapInfo (s : State) (i : Nat) : Word :=
  match s.md.snaps.find? (fun x => x.slot = i) with
  | none => 0
  | some x =>
    let units := ((s.md.captures.filter (fun c => c.epoch = x.epoch)).filterMap (fun c => match c.place with
      | .space u => some u
      | _ => none)).length
    let state := match x.state with
      | .free => 0
      | .active => 1
      | .incomplete => 2
      | .deleting => 3
    BitVec.ofNat 64 (x.epoch % 2 ^ 32 + state * 2 ^ 32 + units % 2 ^ 30 * 2 ^ 34)

/-- The queue pair, memory region and GID entry at the cursors: their committed values (R433). -/
def qpShown (s : State) (f : Qp → Word) : Word := ((s.qp? (s.get F.netQpCursorQp)).map f).getD 0
def mrShown (s : State) (f : Mr → Word) : Word :=
  ((s.net.mrs.find? (fun m => m.idx = s.get F.netMrCursorIndex)).map f).getD 0
def gidShown (s : State) (f : Gid → Word) : Word :=
  ((s.net.gids.find? (fun g => g.idx = s.get F.netGidCursorIndex)).map f).getD 0

/-- Q_STATUS with the bits that follow the queue's contents (Table 11.18). -/
def queueStatus (s : State) (q : Nat) : Word :=
  let b := 32 ≤ q && q < 112
  let full : Bool := if b then s.queueRoom q ≤ s.queueItems q else if q < 16 then 1024 ≤ s.queueItems q else 16 ≤ s.queueItems q
  putBits (putBits (s.reg (R.qCtl q + 4)) 17 1 (if full then 1 else 0)) 20 1 (if b then 1 else 0)

/-- PMC_OVF[i]: wrap bits of counters 64i to 64i + 63. -/
def overflowBits (s : State) (i : Nat) : Word :=
  BitVec.ofNat 64 ((s.obs.counters.filter (fun c => c.ovf && c.idx / 64 = i)).map (fun c => 2 ^ (c.idx % 64))).sum

/-- Registers that show what other state holds; every other register shows its own value. -/
def viewOf (s : State) (x : RegPlace) (a : Nat) : Word :=
  if a = R.tbNow then BitVec.ofNat 64 s.time.dtb
  else if x.base = blockDieTb.base && x.row.off = 0 then
    BitVec.ofNat 64 (((s.time.dies[x.k]?).map (·.replica)).getD 0)
  else if a = R.winLwlEntryLo then
    match Store.find? s.md.lost (s.get F.winLwlCursorIndex) with
    | some e => BitVec.ofNat 64 (e.line % 2 ^ 38 + e.dom % 1024 * 2 ^ 38 + e.count % 256 * 2 ^ 48 + 2 ^ 63)
    | none => 0
  else if a = R.winLwlEntryHi then
    BitVec.ofNat 64 (((Store.find? s.md.lost (s.get F.winLwlCursorIndex)).map (·.stamp)).getD 0)
  else if a = R.winPlotResult then
    let i := s.get F.winPlotQueryPlot
    let flag := fun (b : Bool) (k : Nat) => if b then 2 ^ k else 0
    BitVec.ofNat 64 (flag (i < s.winPlots) 0 + flag (s.plotReadOnly i) 1 + flag (s.plot i).hazelOwned 2
      + flag (s.md.migrations.any (fun m => m.plot = i)) 3 + flag (s.md.lost.any (fun e => e.2.line / 2 ^ 24 = i)) 4)
  else if a = R.mtTallyEntry then
    match s.tallyShown with
    | some e => BitVec.ofNat 64 (e.loc % 2 ^ 32 + e.count % 2 ^ 16 * 2 ^ 32 + e.line % 64 * 2 ^ 48 + e.word % 8 * 2 ^ 54 + 2 ^ 63)
    | none => 0
  else if a = R.mtTallyTime then
    match s.tallyShown with
    | some e => BitVec.ofNat 64 (e.first % 2 ^ 32 + e.latest % 2 ^ 32 * 2 ^ 32)
    | none => 0
  else if a = R.ftGrantEntry then (Store.find? s.ft.grants (s.get F.ftGrantCursorIndex)).getD 0
  else if a = R.topPlotInfo then s.plotInfo (s.get F.topPlotQueryPlot)
  else if a = R.topGroupCfg then s.groupInfo (s.get F.topGroupCursorGroup)
  else if a = R.perSnapInfo then s.snapInfo (s.get F.perSnapCursorIndex)
  else if a = R.netGidAddrLo then s.gidShown (·.lo)
  else if a = R.netGidAddrHi then s.gidShown (·.hi)
  else if a = R.netGidCtl then s.gidShown (·.ctl)
  else if a = R.netQpCtx0 then s.qpShown (·.ctx0)
  else if a = R.netQpCtx1 then s.qpShown (·.ctx1)
  else if a = R.netQpCtx2 then s.qpShown (·.ctx2)
  else if a = R.netQpCtx3 then s.qpShown (·.ctx3)
  else if a = R.netQpDgidLo then s.qpShown (·.dgidLo)
  else if a = R.netQpDgidHi then s.qpShown (·.dgidHi)
  else if a = R.netMrBase then s.mrShown (fun m => BitVec.ofNat 64 m.base)
  else if a = R.netMrLen then s.mrShown (fun m => BitVec.ofNat 64 m.len)
  else if a = R.netMrCtl then s.mrShown (·.ctl)
  else if a = R.hzStatus then
    putBits (s.reg a) 0 8 (((List.range 8).filter s.clusterOnline).map (fun d => 2 ^ d)).sum
  else if x.base = blockEvr.base && 0x40 ≤ x.row.off && x.row.off < 0x80 then
    match s.obs.window with
    | some r => BitVec.ofNat 64 (ofBytes ((r.bytes.drop (8 * x.i)).take 8))
    | none => 0
  else if x.base = blockQ.base && x.row.off = 4 then s.queueStatus x.k
  else if x.base = blockPmcCnt.base then
    let c := s.counter x.k
    BitVec.ofNat 64 (if x.row.off = 0 then c.cnt else c.sel)
  else if a = R.pmcOvfSum then
    BitVec.ofNat 64 (((List.range 50).filter (fun i => s.overflowBits i != 0)).map (fun i => 2 ^ i)).sum
  else if x.base = blockPmc.base && 0x100 ≤ x.row.off && x.row.off < 0x400 then s.overflowBits x.i
  else if x.base = blockPmc.base && x.row.off = 0x1000 then
    putBits (s.reg a) 3 1 (if s.bwPresent x.i then 1 else 0)
  else s.reg a

/-- What a read of a register returns, and the state after it: write-only fields read as zero, and a read clears those of
access code RC (R12, R13). Assumption 101 (DESIGN CHOICE). -/
def readRegister (s : State) (a : Nat) : Word × State :=
  match findReg regBlocks a with
  | some x =>
    if x.present s.part then
      let wo : Word := BitVec.ofNat 64 x.row.wo
      (s.viewOf x a &&& ~~~wo, if x.row.rc = 0 then s else s.setReg a (s.reg a &&& ~~~(BitVec.ofNat 64 x.row.rc)))
    else (0, s)
  | none => (0, s)

/-! ### The pages that tenants reach -/

/-- A write to a domain register page (Table 14.5), once the page has accepted it. -/
def keyPageWrite (s : State) (dom issuer o : Nat) (v : Word) : State :=
  if 0x10 ≤ o && o < 0x38 && o % 8 = 0 then s.setReg (R.cipDomStatus dom + o) v
  else if o = 0x40 then
    match bits v 0 2 with
    | 1 => landed s (execLoadGcmSlot dom (bits v 2 3) s)
    | 2 => landed s (execClearGcmSlot dom (bits v 2 3) s)
    | 3 => landed s (execReplaceXtsKey dom issuer s)
    | _ => s
  else s

end State
end Sys2Proof.Machine
end

