-- ==== Sys2Proof/Machine/Agents.lean ====
section
/-!
DEFINITION. Customer agents (chapter 16): their requests, messages, admission and permissions, and the hub's requests to
them; and the mesh.
-/
namespace Sys2Proof.Machine

open Host

/-- A count modulo 2^32 covers an index. -/
def covers (n i : Nat) : Bool := (n + 2 ^ 32 - i) % 2 ^ 32 < 2 ^ 31

/-- The parts of a range that lie in its lines. -/
def lineParts (addr len : Nat) : List (Nat × Nat) :=
  (List.range (dataSlots addr len)).map (fun i =>
    let lo := max addr ((addr / 64 + i) * 64)
    (lo, min (addr + len) ((addr / 64 + i + 1) * 64) - lo))

/-- The Data slots of a range's bytes: zeros around them (R484). -/
def slotBytes (addr : Nat) (b : List Byte) : List Byte :=
  let l := List.replicate (addr % 64) 0 ++ b
  l ++ List.replicate (64 * dataSlots addr b.length - l.length) 0

namespace State

/-- The domain of an agent (R503). -/
def agentDom (s : State) (a : Nat) : Nat := s.get (F.klAgentCtlDomain a)

/-- The agent's port can deliver a transaction. -/
def agentHeard (s : State) (a : Nat) : Bool := a < s.part.sites && s.portIsUp (8 + a)

/-! ### The checks of Table 16.6 -/

/-- One valid entry of the permission table covers a range and grants a right: 0 read, 1 write, 2 atomic (R502). -/
def aptGrants (s : State) (a addr len right : Nat) : Bool :=
  (List.range 16).any (fun i =>
    let base := s.get (F.klAptBaseBase a i) * 4096
    s.on (F.klAptCtlValid a i) && s.on ⟨R.klAptCtl a i, 32 + right, 1⟩ && base ≤ addr
      && addr + len ≤ base + max 1 (s.get (F.klAptCtlPages a i)) * 4096)

/-- A register page that the agent may reach (R505). -/
def agentPage (s : State) (a addr : Nat) : Bool :=
  s.on (F.klAgentCtlDoorbellAllow a) && match doorbell? addr, keyPage? addr with
    | some (r, _), _ => s.on (F.ringBindValid r) && s.ringDom r = s.agentDom a
    | none, some (d, _) => d = s.agentDom a
    | none, none => false

/-- The first refusal of rows 2 to 6 for a request of an Admitted agent (Table 16.6). -/
def agentRefusal (s : State) (a addr len right : Nat) (posted : Bool) : Option Nat :=
  let dom := s.agentDom a
  let st := s.reach dom addr len
  let region := regionOf addr len
  let memory : Bool := region = .window || region = .shm
  let regs : Bool := match region with
    | .registers => true
    | .agentRegs _ => true
    | _ => false
  let format : Bool := if right = 2 then len != 8 || addr % 8 != 0 else 256 < addr % 256 + len
  if format then some stBadDescriptor
  else if region = .nowhere || (memory && st = stRangeFault) then some stRangeFault
  else if right = 2 && !memory then some stBadDescriptor
  else if regs then (if s.agentPage a addr then none else some stDomainDenied)
  else if !s.aptGrants a addr len right then some stDomainDenied
  else if st = stDomainDenied || (region = .host && st = stRangeFault) then some stDomainDenied
  else if st != stOk then some st
  else if s.targetDead addr then some stTargetDead
  else if right != 0 && !posted && s.rangeReadOnly addr len then some stReadOnly
  else if right != 0 && s.partWord addr len then some stRangeFault
  else none

/-- A refusal of rows 2 to 6 is recorded, and raises event 251 (R504); one of R33, R34, R41 or R645 raises event 45 too, and
one at a page of another domain event 160 (R38, R357). -/
def denyAgent (s : State) (a op addr len status : Nat) : State :=
  let dom := s.agentDom a
  let s := ((s.set (F.klAgentDenyAddrAddress a) addr).set (F.klAgentDenyAddrOpcode a) op).put (F.klAgentDenyAddrValid a) true
  let s := (s.bump (F.klAgentDenyCountCount a)).set (F.klAgentDenyCountLastStatus a) status
  let s := s.raise 251 sevNotice 0 dom [d4 a, d8 addr, d4 op, d4 status]
  let page := match doorbell? addr, keyPage? addr with
    | some (r, _), _ => some r
    | none, some (d, _) => some d
    | none, none => none
  match page with
  | some n => if s.agentPage a addr then s else s.refusePage n dom
  | none =>
    let source := WinSrc.kilius a 0 false
    if regionOf addr len = .nowhere || regionOf addr len = .registers then s.refused45 addr dom source status
    else if s.reach dom addr len = status then s.refused45 addr dom source status
    else s

/-- What an agent's request on VC 0 meets (Table 16.5, R487, R504): performed, or answered with a status. -/
def agentRequest (s : State) (a tag op addr len right : Nat) (respond : Nat → KlTx) (perform : State → State) : State :=
  if !s.agentHeard a then s
  else
    let x := s.agentSt a
    if x.waiting.any (fun w => w.2.1 = tag) then
      (s.raise 255 sevError 0 noDom [d4 (8 + a), d4 op, d4 0]).protocolError (8 + a)
    else
      let n := (x.requests + 1) % 2 ^ 32
      let s := (s.setAgentSt a { x with requests := n, waiting := x.waiting ++ [(n, tag, dataSlots addr len)] }).showOut a
      match s.get (F.klAgentStatusState a) with
      | 2 => match s.agentRefusal a addr len right false with
        | some st => (s.denyAgent a op addr len st).answerAgent a tag (respond st)
        | none => perform s
      | 3 => s.answerAgent a tag (respond stTargetDead)
      | _ => (s.bump (F.klAgentDenyCountCount a)).answerAgent a tag (respond stDomainDenied)

/-! ### Requests performed -/

/-- An agent's request waits for the host (R501). -/
def awaitHost (s : State) (a tag : Nat) (write : Bool) : State :=
  s.setAgentSt a { s.agentSt a with host := (s.agentSt a).host ++ [(tag, write, s.clk)] }

/-- A Read is performed. -/
def agentRead (s : State) (a tag addr len : Nat) (host : Option (List Byte)) : State :=
  let dom := s.agentDom a
  let give := fun (s : State) (status poison : Nat) (b : List Byte) =>
    s.answerAgent a tag (.readData tag status poison (slotBytes addr b))
  match regionAt addr with
  | .registers => match exactReg? s.part addr len with
    | some _ =>
      let x := s.readRegister addr
      give x.2 stOk 0 (leBytes len x.1.toNat)
    | none =>
      if touchedRegs s.part addr len = [] then give s stOk 0 (List.replicate len 0)
      else give (s.badAccess dom addr len) stOk 0 (List.replicate len 0xFF)
  | .agent k => s.askAgent (.kilius a tag false) dom k addr len
  | .host => match host with
    | some b => give s stOk 0 (State.fit len b)
    | none => s.awaitHost a tag false
  | _ =>
    let held := s.modifiedLines addr len
    if held != [] then (s.snoopData held).park (addr / 64) (.agentRead a tag addr len)
    else
      let l := (lineParts addr len).map (fun x => s.loadRegion dom x.1 x.2 [])
      let poison : Nat := (l.zipIdx.map (fun x => if x.1.2 then 2 ^ x.2 else 0)).foldl (· + ·) 0
      give s (if poison = 0 then stOk else stMediaUncorrectable) poison (l.flatMap (·.1))

/-- A write to a register page. -/
def agentPageWrite (s : State) (a addr : Nat) (b : List Byte) : State :=
  let dom := s.agentDom a
  let v : Word := BitVec.ofNat 64 (ofBytes b)
  match exactReg? s.part addr b.length with
  | none => s.badAccess dom addr b.length
  | some _ => match doorbell? addr, keyPage? addr with
    | some (r, o), _ => s.pageWrite r o v
    | none, some (d, o) => s.keyPageWrite d dom o v
    | none, none => s

/-- Lines of shared memory become poison (R110, R488). -/
def shmPoison (s : State) (addr len poison : Nat) : State :=
  let l := ((lineParts addr len).zipIdx.filter (fun x => poison / 2 ^ x.2 % 2 = 1)).map (fun x => (x.1.1 - 0x200000000000) / 64)
  let tags := l.foldl (fun (m : List (Nat × LineTag)) i => match Store.find? m i with
    | some t => Store.insert i { t with poison := true } m
    | none => m) s.hz.shm.tags
  { s with hz := { s.hz with shm := { s.hz.shm with tags := tags } } }

/-- The stores of an agent's write in the device's memories, with its poisoned lines (R488). -/
def agentStore (s : State) (src : WinSrc) (a addr poison : Nat) (b : List Byte) : State :=
  let dom := s.agentDom a
  match regionAt addr with
  | .window =>
    let stamp := s.nowDtb
    ((lineParts addr b.length).zipIdx).foldl (fun s x =>
      let lo := x.1.1
      let y := (b.drop (lo - addr)).take x.1.2
      s.windowWrite { src := src, line := lo / 64, dom := dom, mask := maskRange (lo % 64) y.length,
                      data := BitVec.ofNat 512 (ofBytes y * 2 ^ (8 * (lo % 64))), poison := poison / 2 ^ x.2 % 2 = 1,
                      stamp := stamp }) s
  | _ =>
    let s := s.breakResv (addr / 64) src
    (s.storeRegion src dom s.nowDtb addr b).shmPoison addr b.length poison

/-- A WriteNP is performed. -/
def agentWriteNp (s : State) (a tag addr poison : Nat) (b : List Byte) (hostDone : Bool) : State :=
  let done := fun (s : State) => s.answerAgent a tag (.cmp tag stOk)
  let src := WinSrc.kilius a tag false
  match regionAt addr with
  | .registers => done (s.agentPageWrite a addr b)
  | .window => s.agentStore src a addr poison b
  | .agent k =>
    let early := s.earlyMode addr
    let s := s.agentWrite src (s.agentDom a) k addr poison b early
    if early then done s else s
  | .host =>
    let s := s.send (.hostWrite addr b)
    if hostDone || s.earlyMode addr then done s else s.awaitHost a tag true
  | _ => done (s.agentStore src a addr poison b)

/-- A posted Write is performed. -/
def agentPosted (s : State) (a index addr poison : Nat) (b : List Byte) : State :=
  let src := WinSrc.kilius a index true
  match regionAt addr with
  | .registers => s.agentPageWrite a addr b
  | .agent k => s.agentWrite src (s.agentDom a) k addr poison b (s.earlyMode addr)
  | .host => s.send (.hostWrite addr b)
  | _ => s.agentStore src a addr poison b

/-- A posted Write of the agent is held before Quickset. -/
def postedHeld (s : State) (a : Nat) : Bool :=
  s.win.held.any (fun h => match h.w.src with
    | .kilius x _ posted => posted && x = a
    | _ => false)

/-- Posted Writes are performed in their order of receipt (R496); the first argument bounds them. -/
def runPosted (a : Nat) : Nat → State → State
  | 0, s => s
  | n + 1, s =>
    match (s.agentSt a).queue with
    | [] => s
    | (i, addr, p, b) :: rest =>
      if s.postedHeld a then s
      else runPosted a n ((s.setAgentSt a { s.agentSt a with queue := rest }).agentPosted a i addr p b)

def postedGo (s : State) (a : Nat) : State := runPosted a (s.agentSt a).queue.length s

/-- An atomic is performed at its home point (R337, R504), with the old value in the response. -/
def agentAtomicOp (s : State) (op a tag addr : Nat) (x y : Word) : State :=
  let dom := s.agentDom a
  let held := s.modifiedLines addr 8
  let wait := fun (s : State) => s.park (addr / 64) (.agentAtomic op a tag addr x y)
  if held != [] then wait (s.snoopData held)
  else if s.win.held.any (fun h => h.w.line = addr / 64 && regionAt addr = .window) then wait s
  else
    let v := s.loadRegion dom addr 8 []
    if v.2 then s.answerAgent a tag (.atomicData tag stMediaUncorrectable 0)
    else
      let old := ofBytes v.1
      let s := s.breakResv (addr / 64) (.kilius a tag false)
      let s := s.storeRegion .device dom s.nowDtb addr (leBytes 8 (atomicNew op x y old))
      s.answerAgent a tag (.atomicData tag stOk (BitVec.ofNat 64 old))

/-- An atomic arrives. -/
def agentAtomicIn (s : State) (op a tag addr lenM1 : Nat) (x y : Word) : State :=
  s.agentRequest a tag op addr (lenM1 % 256 + 1) 2 (fun st => .atomicData tag st 0)
    (fun s => s.agentAtomicOp op a tag addr x y)

end State

/-! ### Requests of an agent (R485, R486, R504) -/

/-- KILIUS_READ (R485, R488, R504, R645). Assumption 109 (DEDUCED). -/
def execKiliusRead (agent tag addr lenM1 : Nat) (host : Option (List (BitVec 8))) (s : State) : Outcome State Fault Refusal :=
  .next <|
    let n := lenM1 % 256 + 1
    s.agentRequest agent tag 1 addr n 0 (fun st => .readData tag st 0 []) (fun s => s.agentRead agent tag addr n host)

/-- WRITENP (R485, R488, R504). -/
def execWritenp (agent tag addr lenM1 poison : Nat) (bytes : List (BitVec 8)) (hostDone : Bool) (s : State) :
    Outcome State Fault Refusal :=
  .next <|
    let b := State.fit (lenM1 % 256 + 1) bytes
    s.agentRequest agent tag 2 addr b.length 1 (fun st => .cmp tag st)
      (fun s => s.agentWriteNp agent tag addr poison b hostDone)

/-- FETCHADD (R485, R337). Assumption 104 (DEDUCED). -/
def execFetchadd (agent tag addr lenM1 : Nat) (addend : BitVec 64) (s : State) : Outcome State Fault Refusal :=
  .next (s.agentAtomicIn opFetchAdd agent tag addr lenM1 addend 0)

/-- SWAP (R485, R337). -/
def execSwap (agent tag addr lenM1 : Nat) (value : BitVec 64) (s : State) : Outcome State Fault Refusal :=
  .next (s.agentAtomicIn opSwap agent tag addr lenM1 value 0)

/-- COMPARESWAP (R485, R337). -/
def execCompareswap (agent tag addr lenM1 : Nat) (compare value : BitVec 64) (s : State) : Outcome State Fault Refusal :=
  .next (s.agentAtomicIn opCompareSwap agent tag addr lenM1 compare value)

/-- KILIUS_WRITE (R113, R494, R496, R504). Assumption 103 (DEDUCED). -/
def execKiliusWrite (agent addr lenM1 poison : Nat) (bytes : List (BitVec 8)) (s : State) : Outcome State Fault Refusal :=
  .next <|
    let a := agent
    if !s.agentHeard a then s
    else
      let b := State.fit (lenM1 % 256 + 1) bytes
      let x := s.agentSt a
      let n := (x.posted + 1) % 2 ^ 32
      let s := s.setAgentSt a { x with posted := n }
      if s.get (F.klAgentStatusState a) != 2 then s.bump (F.klAgentDropCountCount a)
      else match s.agentRefusal a addr b.length 1 true with
        | some st => (s.denyAgent a 0x10 addr b.length st).postedFail a n addr st
        | none =>
          (s.setAgentSt a { s.agentSt a with queue := (s.agentSt a).queue ++ [(n, addr, poison, b)] }).postedGo a

/-! ### Answers of an agent (R487, R488) -/

namespace State

/-- The hub request that a response answers. -/
def hubReq? (s : State) (a tag kind : Nat) : Option HubReq :=
  s.kt.reqs.find? (fun r => r.agent = a && r.tag = tag && r.kind = kind && r.sent.isSome)

/-- A response arrives: it matches a waiting request by Tag, or is discarded and counted. -/
def response (s : State) (a tag kind : Nat) (f : State → HubReq → State) : State :=
  if !s.agentHeard a then s
  else match s.hubReq? a tag kind with
    | none => s.bump (F.klAgentLateCountCount a)
    | some q =>
      let s := f { s with kt := { s.kt with reqs := s.kt.reqs.filter (fun r => !(r.agent = a && r.tag = tag)) } } q
      s.settleRequests.hubRequests a

end State

/-- CMP (R487, R488). -/
def execCmp (agent tag status : Nat) (s : State) : Outcome State Fault Refusal :=
  .next <| s.response agent tag 1 (fun s q =>
    if 0x100 ≤ status then s.endRequest q status
    else match q.src with
      | .kilius a t posted => if posted then s else s.answerAgent a t (.cmp t status)
      | _ => s)

/-- READDATA (R487, R488). Assumption 109 (DEDUCED). -/
def execReaddata (agent tag status poison : Nat) (bytes : List (BitVec 8)) (s : State) : Outcome State Fault Refusal :=
  .next <| s.response agent tag 0 (fun s q =>
    if 0x100 ≤ status && status != stMediaUncorrectable then s.endRequest q status
    else
      let b := State.fit q.len bytes
      match q.src with
      | .kilius a t _ => s.answerAgent a t (.readData t status poison (slotBytes q.addr b))
      | _ =>
        let x : KlAnswer := { src := q.src, addr := q.addr, bytes := b, poison := poison }
        { s with kt := { s.kt with answers := s.kt.answers ++ [x] } })

/-- ATOMICDATA (R487, R488). -/
def execAtomicdata (agent tag status : Nat) (old : BitVec 64) (s : State) : Outcome State Fault Refusal :=
  .next <| s.response agent tag 2 (fun s q =>
    if 0x100 ≤ status then s.endRequest q status
    else
      let x : KlAnswer := { src := q.src, addr := q.addr, bytes := leBytes 8 old.toNat, poison := 0 }
      { s with kt := { s.kt with answers := s.kt.answers ++ [x] } })

/-! ### Messages of an agent (R492 to R495) -/

/-- BARRIER (R482, R494): a ninth waiting Barrier is answered at once. Assumption 105 (DEDUCED). -/
def execBarrier (agent tag posted requests : Nat) (s : State) : Outcome State Fault Refusal :=
  .next <|
    if !s.agentHeard agent then s
    else
      let x := s.agentSt agent
      if 8 ≤ x.barriers.length then s.klSend (8 + agent) (.barrierDone tag stResourceExhausted)
      else
        let s := s.setAgentSt agent { x with barriers := x.barriers ++ [{ tag := tag, posted := posted, requests := requests }] }
        s.set (F.klAgentStatusBarriersWaiting agent) (x.barriers.length + 1)

namespace State

/-- Posted Writes of an agent that are neither acknowledged nor failed. -/
def postedOpen (s : State) (a : Nat) : List Nat :=
  let of := fun (x : WinSrc) => match x with
    | .kilius k i posted => if posted && k = a then some i else none
    | _ => none
  (s.agentSt a).queue.map (·.1) ++ s.win.held.filterMap (fun h => of h.w.src) ++ s.kt.reqs.filterMap (fun r => of r.src)
    ++ s.mt.writes.flatMap (fun w => match w.kind with
      | .nearStore l => l.filterMap of
      | _ => [])

/-- Everything that a Barrier covers is done (R494). -/
def barrierMet (s : State) (a : Nat) (b : KlBarrier) : Bool :=
  let x := s.agentSt a
  covers x.posted b.posted && covers x.requests b.requests && !(s.postedOpen a).any (covers b.posted)
    && !x.waiting.any (fun w => covers b.requests w.1)

/-- The status of a Barrier: that of the first covered posted Write that failed, in index order. -/
def barrierStatus (s : State) (a : Nat) (b : KlBarrier) : Nat :=
  let l := (s.agentSt a).failed.filter (fun f => covers b.posted f.1)
  let first := l.foldl (fun (m : Option (Nat × Nat)) f => match m with
    | none => some f
    | some g => if covers g.1 f.1 then some f else m) none
  (first.map (·.2)).getD stOk

end State

/-- BARRIER_COMPLETE (R494, R497). Assumption 105 (DEDUCED). -/
def execBarrierComplete (agent tag : Nat) (s : State) : Outcome State Fault Refusal :=
  .next <|
    if s.part.sites ≤ agent then s
    else
      let x := s.agentSt agent
      match x.barriers.find? (fun b => b.tag = tag) with
      | none => s
      | some b =>
        if !s.barrierMet agent b then s
        else
          let st := s.barrierStatus agent b
          let rest := x.barriers.filter (fun y => y != b)
          let s := (s.setAgentSt agent { x with barriers := rest }).set (F.klAgentStatusBarriersWaiting agent) rest.length
          s.klSend (8 + agent) (.barrierDone tag st)

/-- HOSTINTERRUPT (R493). Assumption 104 (DEDUCED). -/
def execHostinterrupt (agent ld vector : Nat) (s : State) : Outcome State Fault Refusal :=
  .next <|
    if !s.agentHeard agent then s
    else if s.on (F.klAgentCtlHostIrqAllow agent) && s.ldEnabled ld && s.ldDomain ld = s.agentDom agent then s.msix ld vector
    else
      (s.raise 251 sevNotice 0 (s.agentDom agent)
        [d4 agent, d8 s.freeWord.toNat, d4 0x34, d4 (Config.codeOf 21 2)]).drew

/-- POSTEDERROR (R344, R494): an Early store of the hub that the agent could not perform. -/
def execPostederror (agent addr status index : Nat) (s : State) : Outcome State Fault Refusal :=
  .next <|
    if !s.agentHeard agent then s
    else
      let x := s.agentSt agent
      match x.early.find? (fun e => e.1 = index) with
      | none => s
      | some e =>
        let s := s.setAgentSt agent { x with early := x.early.filter (fun y => y.1 != index) }
        let (a, src, dom) := e.2
        match src with
        | .hazel c =>
          let s := s.dropStore 0 c a dom true
          s.setCore c { s.core c with dropped := true }
        | .ring r _ => s.dropStore 1 r a dom true
        | .kilius k _ _ => s.dropStore 2 k a dom true
        | .rdma q _ => s.dropStore 3 q a dom true
        | _ => s

/-- LAUNCHFIRED (R492): the slot of the agent is no longer armed by the hub. -/
def execLaunchfired (agent slot state lateness : Nat) (late : Bool) (s : State) : Outcome State Fault Refusal :=
  .next <|
    if !s.agentHeard agent || !s.time.agentSlots.any (fun x => x.1 = agent && x.2.1 = slot) then s
    else
      let l := s.time.agentSlots.filter (fun x => !(x.1 = agent && x.2.1 = slot))
      let s := { s with time := { s.time with agentSlots := l } }
      s.setBit (F.klAgentStatusSlotsArmed agent) slot false

/-- EVENT (R495): at most 1000 in any second. Assumption 104 (DEDUCED). -/
def execEvent (agent severity code : Nat) (data : List (BitVec 8)) (s : State) : Outcome State Fault Refusal :=
  .next <|
    if !s.agentHeard agent || !s.on (F.klAgentCtlEventAllow agent) then s
    else
      let x := s.agentSt agent
      let l := x.events.filter (fun t => s.clk < t + 1000000000)
      if 1000 ≤ l.length then s.bump (F.klAgentEvtDropCountCount agent)
      else
        let s := s.setAgentSt agent { x with events := l ++ [s.clk] }
        s.raise (252 + agent) (min severity sevError) code (s.agentDom agent)
          (d4 code :: (State.fit 32 data).map (fun b => (1, b.toNat)))

/-! ### Admission and permissions (R498, R502, R503, R513) -/

namespace State

/-- The permissions of a KL_AGENT_CTL write, and its domain where the field accepts writes (R503). -/
def agentCtl (s : State) (a : Nat) (v : Word) : State :=
  let old := s.agentDom a
  let s := if s.get (F.klAgentStatusState a) = 2 then s else s.set (F.klAgentCtlDomain a) (bits v 0 10)
  let s := s.set ⟨R.klAgentCtl a, 10, 3⟩ (bits v 10 3)
  (s.touchKey old).touchKey (s.agentDom a)

end State

/-- ADMIT (R498, Table 16.5): a write of KL_AGENT_CTL with Admit. Assumptions 106 (DEDUCED), 107 (DEDUCED). -/
def execAdmitAgent (agent : Nat) (value : BitVec 32) (s : State) : Outcome State Fault Refusal :=
  .next <|
    let v : Word := value.setWidth 64
    if s.part.sites ≤ agent then s
    else
      let s := s.agentCtl agent v
      let grant := fun (s : State) =>
        (s.set (F.klAgentStatusState agent) 2).raise 248 sevInfo 0 noDom [d4 agent, d4 (s.agentDom agent), d4 2]
      if bits v 16 1 = 0 then s
      else match s.get (F.klAgentStatusState agent) with
        | 1 =>
          if s.agentDom agent = 0 then
            (s.raise 251 sevNotice 0 noDom [d4 agent, d8 s.freeWord.toNat, d4 (Config.codeOf 21 3), d4 (Config.codeOf 21 4)]).drew
          else grant s
        | 3 => if s.portIsUp (8 + agent) then grant s else s
        | _ => s

/-- REVOKE (R498, Table 16.5): a write of KL_AGENT_CTL with Revoke; ignored unless Admitted. -/
def execRevoke (agent : Nat) (value : BitVec 32) (s : State) : Outcome State Fault Refusal :=
  .next <|
    let v : Word := value.setWidth 64
    if s.part.sites ≤ agent then s
    else
      let s := s.agentCtl agent v
      if bits v 17 1 = 0 || s.get (F.klAgentStatusState agent) != 2 then s
      else
        let s := (s.set (F.klAgentStatusState agent) 1).endRequests agent stAbortedReset
        s.raise 248 sevInfo 0 noDom [d4 agent, d4 (s.agentDom agent), d4 1]

/-- AGENT_REQUEST_TIMEOUT (R349, R350, R498, R500). -/
def execAgentRequestTimeout (agent tag : Nat) (s : State) : Outcome State Fault Refusal :=
  .next <|
    match s.kt.reqs.find? (fun r => r.agent = agent && r.tag = tag) with
    | none => s
    | some q => match q.sent with
      | none => s
      | some t =>
        if !s.agentHeard agent || s.get (F.klAgentStatusState agent) != 2 || s.clk < t + s.agentTimeout agent then s
        else s.agentDead agent (some q.addr)

/-- HOST_APERTURE_TIMEOUT (R501). -/
def execHostApertureTimeout (agent tag : Nat) (s : State) : Outcome State Fault Refusal :=
  .next <|
    if s.part.sites ≤ agent then s
    else
      let x := s.agentSt agent
      match x.host.find? (fun h => h.1 = tag) with
      | none => s
      | some (_, write, t) =>
        if s.clk < t + 50000000 then s
        else
          let s := s.setAgentSt agent { x with host := x.host.filter (fun h => h.1 != tag) }
          s.answerAgent agent tag (if write then .cmp tag stTimeout else .readData tag stTimeout 0 [])

/-- KL_APT_COMMIT (R502, R513): a write of KL_APT_CTL[i] commits the entry with its staged base.
Assumptions 106 (DEDUCED), 107 (DEDUCED). -/
def execKlAptCommit (agent entry : Nat) (value : BitVec 64) (s : State) : Outcome State Fault Refusal :=
  .next <|
    if s.part.sites ≤ agent || 16 ≤ entry then s
    else
      let base := (Store.find? s.kt.aptBase (16 * agent + entry)).getD (s.reg (R.klAptBase agent entry))
      let a := bits base 12 36 * 4096
      let good := match regionOf a (max 1 (bits value 0 32) * 4096) with
        | .window => true
        | .shm => true
        | .host => true
        | .agent k => k != agent
        | _ => false
      if good then
        (s.setReg (R.klAptBase agent entry) (base &&& 0xFFFFFFFFF000)).setReg (R.klAptCtl agent entry) (value &&& 0x80000007FFFFFFFF)
      else s.raise 251 sevNotice 0 noDom [d4 agent, d8 a, d4 (Config.codeOf 21 5), d4 (Config.codeOf 21 6)]

/-! ### The mesh (R510) -/

/-- MESH_FLIT_ERROR (R45, R46, R510): the flit is retried; the sixteenth failure in a row of one flit loses the link.
Assumption 108 (DEDUCED). -/
def execMeshFlitError (die router direction : Nat) (again : Bool) (s : State) : Outcome State Fault Refusal :=
  .next <|
    if !((die = 15 && router < 48) || (die < s.part.dies && router < 8)) || 4 ≤ direction then s
    else
      let here := fun (x : Nat × Nat × Nat × Nat) => x.1 = die && x.2.1 = router && x.2.2.1 = direction
      let n := (if again then ((s.kt.mesh.find? here).map (·.2.2.2)).getD 0 else 0) + 1
      let rest := s.kt.mesh.filter (fun x => !here x)
      if n < 16 then
        { s with kt := { s.kt with mesh := rest ++ [(die, router, direction, n)] } }.bump F.espLinkRetryCountCount
      else
        let s := { s with kt := { s.kt with mesh := rest } }
        let s := ((s.set F.espLinkFailRouter router).set F.espLinkFailDirection direction).set F.espLinkFailDie die
        let s := (s.put F.espLinkFailValid true).raise 254 sevCritical 0 noDom [d4 die, d4 router, d4 direction]
        if die = 15 then (s.put F.espStatusMeshOk false).safeMode 7 else s.dieGone die

end Sys2Proof.Machine
end

