-- ==== Sys2Proof/Machine/Snoop.lean ====
section
/-!
DEFINITION. What goes on when a line is free again: back-invalidate responses and timeouts, held writes, commands that wait
for a host's data, and Quickset's entries as they leave (R87 to R89, R117, R129, R496).
-/
namespace Sys2Proof.Machine
namespace State

/-- A command that waited for a line is performed, or waits again (R87). -/
def performParked (s : State) (c : Parked) : State :=
  match c with
  | .agentRead a tag addr len => s.agentRead a tag addr len none
  | .agentAtomic op a tag addr x y =>
    if (s.agentSt a).waiting.any (fun w => w.2.1 = tag) then s.agentAtomicOp op a tag addr x y else s
  | .peerAtomic op qp psn addr rkey x y => s.peerAtomic op qp psn addr rkey x y

/-- The commands that waited for a line are taken up again, in their order. -/
def unpark (s : State) : State :=
  let l := s.win.parked
  l.foldl (fun s x => s.performParked x.2) { s with win := { s.win with parked := [] } }

/-- GPF Phase 1 is answered once every write received before it is accepted (R117). -/
def answerGpf (s : State) : State :=
  let l := s.win.gpfWait.filter (fun k => !s.linkHeld k)
  l.foldl (fun s k => s.send (.gpfRsp k 1))
    { s with win := { s.win with gpfWait := s.win.gpfWait.filter (fun k => s.linkHeld k) } }

/-- Everything that waited for lines or for Quickset space goes on as far as it can. Assumption 127 (DEDUCED). -/
def goOn (s : State) : State :=
  let s := s.redoHeld.answerGpf.unpark
  (List.range s.part.sites).foldl (fun s a => if (s.agentSt a).queue = [] then s else s.postedGo a) s

/-- The domain whose key a host's data of a line takes: that of an enabled LD of the link's window range.
Assumption 49 (DEDUCED). -/
def lineDomain (s : State) (line : Nat) : Nat :=
  match (List.range s.ldCount).find? (fun n => s.ldEnabled n && (addrToDpa (s.extents n) (lineAddr line)).isSome) with
  | some n => s.ldDomain n
  | none => 0

/-- The data of a holder's modified copy reaches the device before what waits for it (R86, R87). -/
def hostCopy (s : State) (line : Nat) (data : Line) : State :=
  let dom := s.lineDomain line
  if s.sanitizing then s
  else if s.plotReadOnly (linePlot line) || s.laneDown (linePlot line) then s.listLost line dom s.nowDtb
  else s.accept { src := .device, line := line, dom := dom, mask := maskAll, data := data, poison := false,
                  stamp := s.nowDtb }

/-- A held write waits no longer for a link. -/
def dropHolder (s : State) (line link : Nat) : State :=
  { s with win := { s.win with held := s.win.held.map (fun (h : HeldWrite) =>
      if h.w.line = line then { h with holders := h.holders.filter (fun k => k != link) } else h) } }

/-- A BISnpData request to a link is over. -/
def dropSnoop (s : State) (line link : Nat) : State :=
  { s with win := { s.win with snoops := s.win.snoops.filter (fun x => !(x.1 = line && x.2.1 = link)) } }

end State

open Host

/-- BIRSP (R86 to R88): the holder's data comes first, its record goes, or is no longer of a modified line after a BISnpData
request, and what waited goes on. Assumption 49 (DEDUCED). -/
def execBirsp (link line : Nat) (dirty : Option (BitVec 512)) (s : State) : Outcome State Fault Refusal :=
  .next <|
    if !s.linkUp link || !(s.holders line).contains link then s
    else
      let s := match dirty with
        | some d => s.hostCopy line d
        | none => s
      let inv := s.win.held.any (fun h => h.w.line = line && h.holders.contains link)
        || s.win.filter.any (fun e => e.sector = linePage line && e.evicting)
      let data := s.win.snoops.any (fun x => x.1 = line && x.2.1 = link)
      let s := (s.dropHolder line link).dropSnoop line link
      let s := if !inv && data then
          if s.win.snoops.any (fun x => x.1 = line) then s
          else s.sfUpdate line (fun (x : SfLine) => { x with modified := false })
        else s.sfDrop line link
      s.goOn

/-- BI_TIMEOUT (R89). Assumption 47 (DESIGN CHOICE). -/
def execBiTimeout (link line : Nat) (s : State) : Outcome State Fault Refusal :=
  .next <|
    let late := fun (t : Nat) => t + 100 * max 10 (min 160 (s.get F.winBiTimeoutUnits)) ≤ s.clk
    let write := s.win.held.find? (fun h => h.w.line = line && h.holders.contains link && late h.since)
    let snoop := s.win.snoops.any (fun x => x.1 = line && x.2.1 = link && late x.2.2)
    if write.isNone && !snoop then s
    else
      let s := ((s.dropHolder line link).dropSnoop line link).sfDrop line link
      let s := s.bump F.winBiTimeoutCountCount
      let source := match write with
        | some h => h.w.src.code
        | none => s.freeWord.toNat
      let s := (s.raiseAt 37 sevError 0 (s.lineDomain line) [d8 (lineAddr line), d4 link, d4 source]
        (some (lineAddr line))).drew
      s.goOn

/-- QUICKSET_MERGE (R129): an entry leaves Quickset, and what waited for its space goes on. -/
def execQuicksetMerge (line : Nat) (s : State) : Outcome State Fault Refusal :=
  .next <|
    match s.qs? line with
    | none => s
    | some e => if e.leaving || s.journalFull false then s else (s.mergeEntry e).clean.goOn

end Sys2Proof.Machine
end

