-- ==== Sys2Proof/Machine/Restart.lean ====
section
/-!
DEFINITION. Cold resets as they are requested (R605, R606).
-/
namespace Sys2Proof.Machine
open Host State

namespace State

/-- A request for a cold reset (R605, R606): step 1 is the flush.  Kinds are those of PV_RESET_STATUS. -/
def coldRequest (s : State) (kind : Nat) : State :=
  if s.supervisor != pwOn || 4 ≤ s.get F.perStatusState || s.pw.cold != 0 || (kind != 6 && s.on F.pvSelftestBusy) then
    s.put F.pvResetStatusRefused true
  else
    let pw : PwState := { s.pw with cold := 1, coldKind := kind, coldAt := s.clk, resetTime := s.nowSec % 2 ^ 32 }
    ({ s with pw := pw }).beginFlush 4

end State

/-- COLDRESET (R605, R606): PV_RESET_CTL.ColdReset. -/
def execColdreset (s : State) : Outcome State Fault Refusal := .next (s.coldRequest 5)

end Sys2Proof.Machine
end

