-- ==== Sys2Proof/Machine/Registers.lean ====
section
/-!
DEFINITION. Writes of registers: what each register does with a value that reaches it, and the two commands of register
access (R11 to R15, R37, R38, R645 and the register tables of every chapter).
-/
namespace Sys2Proof.Machine

open Host

namespace State

/-! ### Registers whose writes have an effect of their own -/

/-- The time base (chapter 2). -/
def writeTb (s : State) (a : Nat) (v new : Word) : State :=
  if a = R.tbCtl then landed s (execTbCtlWrite (v.setWidth 32) s)
  else if a = R.tbSet then landed s (execTbSetWrite v s)
  else if a = R.tbTodNext then State.setReg { s with time := { s.time with todWritten := true } } a v
  else s.setReg a new

/-- A register of a launch slot: nothing changes while it is Armed or owned by a descriptor, but for Arm and Cancel (R69, R73). -/
def writeLaunchSlot (s : State) (u : LaunchUnit) (i a : Nat) (v new : Word) : State :=
  let open_ : Bool := s.get (slotState u i) != slotArmed && !s.on (slotOwner u i)
  if a = slotCtl u i then
    if bits v 8 1 = 1 then landed s (execLaunchSlotArm u i (v.setWidth 32) s)
    else if bits v 9 1 = 1 then landed s (execLaunchSlotCancel u i (v.setWidth 32) s)
    else if open_ then s.setReg a new else s
  else if open_ then s.setReg a new
  else s

/-- The memory window (chapter 3). -/
def writeWin (s : State) (x : RegPlace) (a : Nat) (v new : Word) : State :=
  let old := s.reg a
  if a = R.winSize then
    s.setReg a (if s.part.pick 14336 7168 < bits new 0 16 then keepField old new 0 16 else new)
  else if a = R.winPortCfg then s.setReg a (if s.part.small then new &&& ~~~(0xFF002#64) else new)
  else if a = R.winBiTimeout then s.setReg a (clampField new 0 16 10 160)
  else if a = R.winLwlCtl then
    let s := if bits v 0 1 = 1 then landed s (execClearentry s) else s
    let s := if bits v 1 1 = 1 then landed s (execClearall s) else s
    if bits v 2 1 = 1 then landed s (execClearoverflow s) else s
  else if x.row.off = 0x1000 then landed s (execWinLdBindWrite x.i (v.setWidth 32) s)
  else if x.row.off = 0x2000 then
    landed s (execWinLdExtentWrite ((a - R.winLdExtent 0 0) / 64) ((a - R.winLdExtent 0 0) % 64 / 8) v s)
  else s.setReg a new

/-- A range operation of a slot starts (Table 4.4). -/
def startSlot (s : State) (i op : Nat) : State :=
  match op with
  | 1 => landed s (execClean (.slot i) s)
  | 2 => landed s (execInvalidate (.slot i) s)
  | 3 => landed s (execPrefetch (.slot i) s)
  | 4 => landed s (execLockRange (.slot i) s)
  | 5 => landed s (execUnlock (.slot i) s)
  | 6 => landed s (execInvalidateall (.slot i) s)
  | n => s.startRegister i n

/-- The line cache (chapter 4). -/
def writeLc (s : State) (x : RegPlace) (a : Nat) (v new : Word) : State :=
  if a = R.lcCtl then
    if bits v 0 1 = 1 then landed s (execLcEnable (v.setWidth 32) s) else landed s (execLcDisable (v.setWidth 32) s)
  else if x.row.off = 0x10C then
    if bits v 4 1 = 1 then s.startSlot x.i (bits v 0 4)
    else if s.slotBusy x.i then s
    else s.setReg a new
  else s.setReg a new

/-- The media channels and M-tier integrity (chapters 5 and 6). -/
def writeMt (s : State) (x : RegPlace) (a : Nat) (v new : Word) : State :=
  let old := s.reg a
  if a = R.mtMediaPower then
    let w := bits new 0 8
    if w < s.part.pick 20 10 || s.part.pick 80 40 < w then s.setReg a (keepField old new 0 8)
    else (s.setReg a new).set F.mtWriteRateLinesPerUs (25 * w)
  else if a = R.mtDriftCfg then s.setReg a (clampField new 0 10 30 115)
  else if a = R.mtRetireCtl then
    if bits v 4 1 = 1 then
      match bits v 0 2 with
      | 1 => landed s (execRetirePageByAddress .register s)
      | 2 => landed s (execRetirePageByLocation .register s)
      | 3 => landed s (execRetireRank .register s)
      | _ => s.retireNone .register
    else if s.on F.mtRetireStatBusy then s
    else s.setReg a new
  else if x.base = blockMtCh.base && x.row.off = 0 then
    let s := s.setReg a new
    if bits v 20 1 = 1 then landed s (execRetrainnow (4 * x.k + x.j) s) else s
  else s.setReg a new

/-- The F-tier (chapter 7). -/
def writeFt (s : State) (x : RegPlace) (a : Nat) (v new : Word) : State :=
  let old := s.reg a
  if a = R.ftNsSize then
    s.setReg a (if s.part.pick 13421772800 6710886400 < bits new 0 34 then keepField old new 0 34 else new)
  else if a = R.ftSnapSize then
    s.setReg a (if s.part.pick 671088640 335544320 < bits new 0 30 then keepField old new 0 30 else new)
  else if a = R.ftGrantEntry then landed s (execFtGrantEntryWrite v s)
  else if x.row.off = 0x60 then landed s (execFtStreamCfgWrite x.i (v.setWidth 32) s)
  else s.setReg a new

/-- Topiary and persistence (chapters 8 and 9). -/
def writeTopPer (s : State) (x : RegPlace) (a : Nat) (v new : Word) : State :=
  if a = R.topGroupCfg then landed s (execTopGroupCfgWrite v s)
  else if a = R.topWearCfg then s.setReg a (clampField new 0 17 32 65536)
  else if a = R.perCtl then
    let s := if bits v 1 1 = 1 then landed s (execCheckpointnow s) else s
    if bits v 0 1 = 1 then landed s (execShutdownnow s) else s
  else if a = R.perBudgetReq then (s.setReg a new).setBudget
  else if a = R.perMirrorCfg then
    let was := s.on F.perMirrorCfgEnable
    if !was && v.getLsbD 2 then landed s (execMirrorEnable v s)
    else if was && !v.getLsbD 2 then landed s (execMirrorDisable v s)
    else s.setReg a (if was then keepField (s.reg a) new 0 2 else new)
  else if x.base = blockPer.base && x.row.off = 0x100 then
    if s.on F.perMirrorCfgEnable then s else s.setReg a new
  else s.setReg a new

/-- Rings, queues, early hosts and clusters (chapters 10 to 12). -/
def writeRingHz (s : State) (x : RegPlace) (a : Nat) (v new : Word) : State :=
  if x.base = blockRing.base && x.row.off = 0x1000 then landed s (execRingBindWrite x.i (v.setWidth 32) s)
  else if x.base = blockQ.base then
    if x.row.off = 0 then (if bits v 0 1 = 1 then landed s (execQFlush x.k s) else s)
    else if x.row.off = 0x10 then landed s (execSpillQuotaWrite x.k (bits v 8 16) s)
    else s.setReg a new
  else if a = R.espEarlyCust then s.setReg a (new &&& (BitVec.ofNat 64 (2 ^ s.part.sites - 1)))
  else if x.base = blockHz.base && x.row.off = 0x400 then landed s (execHzShmGrantWrite x.i (v.setWidth 32) s)
  else if x.base = blockHzCl.base && x.row.off = 0 then
    let s := s.setReg a new
    if bits v 1 1 = 1 then landed s (execImageflush x.k s) else s
  else if x.base = blockHzCore.base && x.row.off = 0 then
    if bits v 0 1 = 1 then landed s (execHzCoreReset (32 * x.k + x.j) s) else s
  else if x.base = blockHzCore.base && 0x40 ≤ x.row.off then s.writeLaunchSlot (.core (32 * x.k + x.j)) x.i a v new
  else s.setReg a new

/-- The network: staged values, and their commits (R433). -/
def writeNet (s : State) (a : Nat) (v new : Word) : State :=
  let qp := fun (k : Nat) => { s with net := { s.net with stageQp := s.net.stageQp.set k new } }
  let mr := fun (k : Nat) => { s with net := { s.net with stageMr := s.net.stageMr.set k new } }
  let gid := fun (k : Nat) => { s with net := { s.net with stageGid := s.net.stageGid.set k new } }
  if a = R.netGidAddrLo then gid 0
  else if a = R.netGidAddrHi then gid 1
  else if a = R.netGidCtl then landed s (execNetGidCtlCommit (s.get F.netGidCursorIndex) (v.setWidth 32) s)
  else if a = R.netQpCtx0 then landed s (execNetQpCtx0Commit (s.get F.netQpCursorQp) v s)
  else if a = R.netQpCtx1 then qp 0
  else if a = R.netQpCtx2 then qp 1
  else if a = R.netQpCtx3 then qp 2
  else if a = R.netQpDgidLo then qp 3
  else if a = R.netQpDgidHi then qp 4
  else if a = R.netMrBase then mr 0
  else if a = R.netMrLen then mr 1
  else if a = R.netMrCtl then landed s (execNetMrCtlCommit (s.get F.netMrCursorIndex) (v.setWidth 32) s)
  else if a = R.netLaneCfg then s.setReg a (if s.part.small then new &&& ~~~(0xF0#64) else new)
  else s.setReg a new

/-- Kilius ports and agents (chapters 15 and 16). -/
def writeKl (s : State) (x : RegPlace) (a : Nat) (v new : Word) : State :=
  let k := x.k
  if x.base = blockKlLink.base && x.row.off = 0 then
    let disable : Bool := bits v 1 1 = 1
    let s := if disable != s.on (F.klLinkCtlDisable k) then landed s (execKlDisable k disable s) else s
    if bits v 0 1 = 1 then landed s (execKlRetrain k s) else s
  else if x.base = blockKlLink.base && x.row.off = 8 then
    let old := s.reg a
    let new := if k = 10 then keepField old new 0 2 else new
    let new := if k = 8 || k = 9 then new else keepField old new 6 1
    (s.setReg a new).giveL1 k
  else if x.base = blockKlAgent.base && x.row.off = 0 then
    if bits v 17 1 = 1 && s.get (F.klAgentStatusState k) = 2 then landed s (execRevoke k (v.setWidth 32) s)
    else landed s (execAdmitAgent k (v.setWidth 32) s)
  else if x.base = blockKlAgent.base && x.row.off = 0x100 then
    { s with kt := { s.kt with aptBase := Store.insert (16 * k + x.i) v s.kt.aptBase } }
  else if x.base = blockKlAgent.base && x.row.off = 0x108 then landed s (execKlAptCommit k x.i v s)
  else s.setReg a new

/-- The registers' commands for which memory of a host or an agent, a fuse or a measurement decides the outcome have rows of
their own; a write that starts one leaves the start to that row. -/
def writePv (s : State) (x : RegPlace) (a : Nat) (v new : Word) : State :=
  if a = R.pvBootCtl then
    let s := if bits v 0 1 = 1 then landed s (execCommit s) else s
    if bits v 1 1 = 1 then landed s (execRevert s) else s
  else if a = R.pvDebugUnlock then s.setReg a (putBits new 63 1 (bits (s.reg a) 63 1))
  else if a = R.pvKeyCtl then
    let dom := bits v 2 10
    let t := s.setReg a (putBits new 12 1 (bits (s.reg a) 12 1))
    if bits v 12 1 = 0 then t
    else match bits v 0 2, regionAt (s.get F.pvKeyAddrAddr * 64) with
      | 2, _ => landed t (execEraseKek dom t)
      | 1, .window => landed t (execImportKek dom [] t)
      | 1, .shm => landed t (execImportKek dom [] t)
      | _, _ => t
  else if x.base = blockPs.base then
    let wr := s.on F.psWrCtlStart
    let rd := s.on F.psRdCtlStart
    if a = R.psRdCtl then
      if rd then s
      else
        let s := s.setReg a (putBits new 16 1 0)
        if bits v 16 1 = 1 then landed s (execPsRead none s) else s
    else if a = R.psWrCtl then
      let s := if wr then s else s.setReg a (putBits new 16 1 0)
      if bits v 16 1 = 1 then landed s (execPsWrite s) else s
    else if (a = R.psRdAddr && rd) || ((a = R.psWrAddr || x.row.off = 0x800) && wr) then s
    else s.setReg a new
  else if a = R.pvResetCtl then
    if bits v 0 1 = 1 then landed s (execColdreset s) else s
  else s.setReg a new

/-- Whether a write of THM_LIMIT[n] is taken (R562). -/
def limitTaken (s : State) (n : Nat) (new : Word) : Bool :=
  let a := R.thmLimit n
  let first := regReset s.part a
  let low := fun (k : Nat) => n < 48 && bits first k 8 < bits new k 8
  n < 56 && bits new 0 8 < bits new 8 8 && bits new 8 8 < bits new 16 8 && !low 0 && !low 8 && !low 16

/-- Power and temperature (chapter 18). -/
def writePwr (s : State) (x : RegPlace) (a : Nat) (new : Word) : State :=
  let old := s.reg a
  if x.base = blockPwr.base && x.row.off = 0x100 then
    let new := if 21 ≤ x.i then clampField new 0 4 2 9 else keepField old (keepField old new 0 4) 6 1
    s.setReg a (if x.i = 23 then new else keepField old new 4 2)
  else if x.base = blockThm.base && x.row.off = 0x600 then
    let new := if 48 ≤ x.i && x.i < 56 then new else keepField old new 24 8
    if s.limitTaken x.i new then s.setReg a new else s
  else s.setReg a new

/-- The event recorder and counters (chapter 19). -/
def writeObs (s : State) (x : RegPlace) (a : Nat) (v new : Word) : State :=
  if a = R.evrCtl then
    let s := s.setReg a new
    let s := if bits v 8 1 = 1 then landed s (execClearram s) else s
    if bits v 9 1 = 1 then landed s (execClearpersist s) else s
  else if a = R.evrCursor then landed s (execEvrCursorWrite v s)
  else if a = R.pmcFreeze then landed s (execPmcFreeze v s)
  else if a = R.pmcThaw then landed s (execPmcThaw v s)
  else if x.base = blockPmcCnt.base then
    if x.row.off = 0 then landed s (execPmcCntWrite x.k v s)
    else if codeListed x.k (bits v 0 8) then s.setCounter { s.counter x.k with sel := (v &&& 0xFFFFF3FF).toNat } else s
  else if x.base = blockPmc.base && 0x100 ≤ x.row.off && x.row.off < 0x400 then
    let hit := fun (c : Counter) => c.idx / 64 = x.i && v.getLsbD (c.idx % 64)
    { s with obs := { s.obs with counters := s.obs.counters.map (fun (c : Counter) =>
        if hit c then { c with ovf := false } else c) } }
  else if a = R.pmcSampleBase then if s.on F.pmcSampleCtlEnable then s else s.setReg a new
  else if a = R.pmcSampleCtl then landed s (execPmcSampleEnable ((clampField v 8 5 16 32).setWidth 32) s)
  else if a = R.pmcSampleRd then landed s (execPmcSampleRdWrite v s)
  else if x.base = blockPmc.base && x.row.off = 0x1000 then
    if bits v 0 1 = 1 then landed s (execBwWindowOpen x.i (v.setWidth 32) s) else s.setReg a new
  else s.setReg a new

/-! ### A write reaches a register -/

/-- A value reaches a register that exists, over an access of the register's width (R13).
Assumptions 102 (DEDUCED), 110 (DEDUCED). -/
def writeReg (s : State) (x : RegPlace) (a : Nat) (v : Word) : State :=
  let new := s.codeWrite x a v
  let b := x.base
  if b = blockRingDb.base then s.pageWrite x.k (a % 4096) v
  else if b = blockCipDom.base then s.keyPageWrite x.k 0 (a % 4096) v
  else if b = blockTb.base then
    if 0x1000 ≤ x.row.off then s.writeLaunchSlot .hub x.i a v new else s.writeTb a v new
  else if b = blockDieTb.base then s.writeLaunchSlot (.die x.k) x.i a v new
  else if b = blockWin.base then s.writeWin x a v new
  else if b = blockLc.base then s.writeLc x a v new
  else if b = blockMtMeter.base || b = blockMtInt.base || b = blockMtCh.base then s.writeMt x a v new
  else if b = blockFt.base then s.writeFt x a v new
  else if b = blockTop.base || b = blockPer.base then s.writeTopPer x a v new
  else if b = blockRing.base || b = blockQ.base || b = blockEspEarly.base || b = blockHz.base || b = blockHzCl.base
      || b = blockHzCore.base then s.writeRingHz x a v new
  else if b = blockNet.base then s.writeNet a v new
  else if b = blockKlLink.base || b = blockKlAgent.base then s.writeKl x a v new
  else if b = blockPv.base || b = blockPs.base || b = blockLife.base then s.writePv x a v new
  else if b = blockPwr.base || b = blockThm.base then s.writePwr x a new
  else if b = blockEvr.base || b = blockPmc.base || b = blockPmcCnt.base then s.writeObs x a v new
  else s.setReg a new

/-- What the pages and blocks do with an access of a host function of a domain before any register sees it (R37, R38, R645). -/
inductive Path where
  | reaches
  | page (n : Nat)
  | nothing
deriving DecidableEq, Repr

def pathTo (s : State) (dom a : Nat) : Path :=
  if dom = 0 then .reaches
  else match doorbell? a, keyPage? a with
    | some (r, _), _ => if s.pageRefused r dom then .page r else .reaches
    | none, some (d, _) => if d = dom then .reaches else .page d
    | none, none => .nothing

/-- A write over a host function, of a width in bytes. -/
def hostWriteReg (s : State) (dom a width : Nat) (v : Word) : State :=
  match s.pathTo dom a with
  | .page n => s.refusePage n dom
  | .nothing => s
  | .reaches => match exactReg? s.part a width with
    | none => s.badAccess dom a width
    | some x => match keyPage? a with
      | some (d, o) => s.keyPageWrite d dom o v
      | none => s.writeReg x a v

end State

/-- REGISTER_WRITE (R13, R15, R37, R38): a write over the host function of a domain; a value wider than the register is cut.
Assumption 102 (DEDUCED). -/
def execRegisterWrite (dom addr width : Nat) (value : BitVec 64) (s : State) : Outcome State Fault Refusal :=
  if 2 ^ 48 ≤ addr then .fault .outsideAddressSpace
  else .next (s.hostWriteReg dom addr width (value &&& BitVec.ofNat 64 (2 ^ (8 * width) - 1)))

/-- REGISTER_ACCESS_BAD_WIDTH (R15): a read returns all ones, a write is discarded, and event 31 is raised. -/
def execRegisterAccessBadWidth (dom addr width : Nat) (read : Bool) (s : State) : Outcome State Fault Refusal :=
  if 2 ^ 48 ≤ addr then .fault .outsideAddressSpace
  else .next <|
    match s.pathTo dom addr with
    | .page n => s.refusePage n dom
    | .nothing => s
    | .reaches =>
      if (exactReg? s.part addr width).isSome || touchedRegs s.part addr width = [] then s
      else
        let s := s.badAccess dom addr width
        if read then s.send (.registerValue dom addr width (2 ^ (8 * width) - 1)) else s

end Sys2Proof.Machine
end

