-- ==== Sys2Proof/Machine/Lifecycle.lean ====
section
/-!
DEFINITION. Start-up and cold resets (R604 to R612), the configuration record as firmware applies it (R539), component failures
(R520) and debug openings (R528, R529).
-/
namespace Sys2Proof.Machine
open Host State

/-- The Espalier address behind an offset of the BAR0 of the domain-0 function; 0, where no register lies, if there is none. -/
def barPlace (o : Nat) : Nat :=
  let die := fun (d a : Nat) => 0xF00040000000 + d * 0x4000000 + a
  if o < 0x1000000 || (0x3000000 ≤ o && o < 0x4000000) then 0xF00000000000 + o
  else if o < 0x1020000 then let c := (o - 0x1000000) / 4096; die (c / 4) (0x100000 + c % 4 * 4096 + o % 4096)
  else if 0x1200000 ≤ o && o < 0x1240000 then
    let c := (o - 0x1200000) / 4096
    die (c / 8) (0x200000 + c % 8 * 4096 + o % 4096)
  else if 0x1300000 ≤ o && o < 0x1308000 then die ((o - 0x1300000) / 4096) (0x300000 + o % 4096)
  else if 0x1400000 ≤ o && o < 0x1410000 then
    let h := (o - 0x1400000) / 256
    die (h / 32) (0x310000 + h % 32 * 256 + o % 256)
  else if 0x2000000 ≤ o && o < 0x3000000 then 0xF00080000000 + (o - 0x2000000)
  else 0

/-- An entry of a kind-1 record: a BAR0 offset, a count, a stride and a value (R539). -/
structure ConfigEntry where
  offset : Nat
  count : Nat
  stride : Nat
  value : Word
deriving DecidableEq, Repr

/-- The entries of a payload (R539). -/
def configEntries (p : List Byte) : List ConfigEntry :=
  (List.range (min 1019 (p.length / 16))).map (fun i =>
    let b := p.drop (16 * i)
    { offset := ofBytes (b.take 4), count := ofBytes ((b.drop 4).take 2), stride := ofBytes ((b.drop 6).take 2),
      value := BitVec.ofNat 64 (ofBytes ((b.drop 8).take 8)) })

/-- The registers of chapter 18, whose entries Privet applies before the main rails start (R545). -/
def inPower (a : Nat) : Bool := 0xF00080020000 ≤ a && a < 0xF00080040000

namespace State

/-- One write of an entry, and whether the register's rules refuse it or no register is there. Assumption 113 (DEDUCED). -/
def configWrite (s : State) (a : Nat) (v : Word) : State × Bool :=
  match findReg regBlocks a with
  | none => (s, true)
  | some x =>
    let v := v &&& BitVec.ofNat 64 (2 ^ x.row.width - 1)
    if !x.present s.part then (s, true)
    else if a = R.perHoldup then
      ((s.set F.perHoldupDeclaredMj (bits v 24 24)).set F.perHoldupCustomerWatts (bits v 48 8), false)
    else
      let t := s.writeReg x a v
      let quiet : State := { t with obs := { t.obs with raised := s.obs.raised } }
      (t, decide (quiet = s) && s.codeWrite x a v != s.reg a)

/-- The Seq of the configuration record in use (R537). -/
def configSeq (s : State) : Nat :=
  let found := [0x8000, 0x4000, 0].filterMap (fun b => s.recordAt b 0x4000 1)
  ((found.find? (fun x => some x.2 = s.configPayload)).map (·.1)).getD 0

/-- Event 7: the record is in conflict, or an entry of it is skipped. -/
def configEvent (s : State) (skipped : Option Nat) : State :=
  match s.configRecord.2, skipped with
  | false, none => s
  | _, some i => s.raise 7 sevNotice 0 noDom [d4 1, d4 s.configSeq, d4 i]
  | true, none => (s.raise 7 sevNotice 0 noDom [d4 1, d4 s.configSeq, s.noItem]).drew

/-- Apply the entries whose registers satisfy `sel`, in order; the first entry that was skipped. -/
def applyEntries (s : State) (sel : Nat → Bool) : State × Option Nat :=
  let l := ((s.configPayload.map configEntries).getD []).zipIdx
  l.foldl (fun (acc : State × Option Nat) (e : ConfigEntry × Nat) =>
    (List.range e.1.count).foldl (fun (acc : State × Option Nat) k =>
      let a := barPlace (e.1.offset + k * e.1.stride)
      if sel a then
        let r := acc.1.configWrite a e.1.value
        (r.1, acc.2.or (if r.2 then some e.2 else none))
      else acc) acc) (s, none)

/-! ### Sizes that shrink only under rules (R81, R227, R274) -/

/-- The metadata that recovery will find. -/
def storedMeta (s : State) : Meta := (s.replayed false).foldl (fun m (r : JRecord) => r.body.apply m) (s.rootImage false).md

/-- WIN_SIZE (R81): a lower size takes effect only where no plot above it was placed, or after a sanitize.
Assumption 114 (DEDUCED). -/
def settleWindow (s : State) : State :=
  let want := s.winPlots
  let old := s.per.sizeRecorded
  let may := s.per.sizeCleared || !s.storedMeta.plots.any (fun p => p.idx < 0x10000 && want ≤ p.idx && p.span.isSome)
  if old ≤ want then { s with pw := { s.pw with shrunk := false } }
  else if may then
    let s : State := { s with pw := { s.pw with shrunk := true } }
    let reaches := fun (base n : Nat) => want < base + n
    let s := (List.range s.ldCount).foldl (fun s n => (List.range 8).foldl (fun s e =>
      if s.on (F.winLdExtentValid n e) && reaches (s.get (F.winLdExtentBasePlot n e)) (s.get (F.winLdExtentPlots n e)) then
        s.setReg (R.winLdExtent n e) 0
      else s) s) s
    (List.range 16).foldl (fun s i =>
      if s.on (F.perMirrorRangeValid i) && reaches (s.get (F.perMirrorRangeBasePlot i)) (s.get (F.perMirrorRangePlots i)) then
        s.put (F.perMirrorRangeValid i) false
      else s) s
  else
    let s : State := { s with pw := { s.pw with shrunk := false } }
    ((s.set F.winSizePlots old).raise 40 sevNotice 0 noDom [s.noItem, d4 0]).drew

/-- The F-cache and snapshot limits of R274, and the F-tier sizes, which shrink only after a sanitize (R227).
Assumption 114 (DEDUCED). -/
def settleSizes (s : State) : State :=
  let was := fun (k : Nat) => s.pv.sizes.getD k 0
  let sum := s.winPlots + s.get F.topFcacheCfgPlots + s.get F.topSnapCfgPlots
  let s := if s.part.pick 15232 7616 < sum then
      ((((s.set F.topFcacheCfgPlots (was 0)).set F.topSnapCfgPlots (was 1)).raise 148 sevNotice 0 noDom
        [d4 0, s.noItem, d4 stBadDescriptor])).drew
    else s
  let s := s.set F.ftNsSizeUnits (max (was 2) (s.get F.ftNsSizeUnits))
  let s := s.set F.ftSnapSizeUnits (max (was 3) (s.get F.ftSnapSizeUnits))
  { s with pv := { s.pv with sizes := [s.get F.topFcacheCfgPlots, s.get F.topSnapCfgPlots, s.get F.ftNsSizeUnits,
                                       s.get F.ftSnapSizeUnits] } }

/-- Firmware sets the RWL locks (R539); PS_PROTECT is 2 unless the record says otherwise (R534). Assumption 85 (DEDUCED). -/
def setLocks (s : State) : State :=
  let s := if s.on F.psProtectLock || 2 ≤ s.get F.psProtectProtect then s else s.set F.psProtectProtect 2
  let one := [F.winSizeLock, F.winPortCfgLock, F.mtMediaPowerLock, F.ftNsSizeLock, F.ftSnapSizeLock, F.topFcacheCfgLock,
    F.topSnapCfgLock, F.perBudgetReqLock, F.netLaneCfgLock, F.psProtectLock]
  let many := (List.range s.channels).map F.mtChCtlLock ++ (List.range s.fchannels).map F.ftChCtlLock
    ++ (List.range s.part.dies).map F.hzClCtlLock ++ ((List.range 16).filter s.ethPresent).map F.netPortCfgLock
    ++ ((List.range 11).filter s.part.port).map F.klLinkCfgLock
  (one ++ many).foldl (fun s f => s.put f true) s

/-- Firmware applies the configuration record, but for the registers of chapter 18 and LC_CTL, and locks it (R539).
Assumption 113 (DEDUCED). -/
def applyConfig (s : State) : State :=
  let r := s.applyEntries (fun a => !inPower a && a != R.lcCtl)
  ((r.1.configEvent r.2).settleWindow.settleSizes).setLocks

/-! ### The units that a start-up finds (R612) -/

/-- What the training of an F-channel gives (R221). -/
def startFchan (s : State) (l : List FchanFound) (profile : Nat) (c : Nat) : State :=
  let fail := fun (s : State) (cause : Nat) =>
    (((s.set (F.ftChStatusState c) 3).set (F.ftChStatusCause c) cause).set (F.ftChStatusDieOnline c) 0).raise
      (dieSource (c / 8) 16) sevCritical 1 noDom [d4 c, d4 cause]
  if !s.on (F.ftChCtlEnable c) then (s.set (F.ftChStatusState c) 3).set (F.ftChStatusCause c) 3
  else match l.find? (fun x => x.chan = c) with
    | none => fail s 1
    | some x =>
      let s := s.setReg (R.ftChId c) x.id
      let p := bits x.id 32 8
      if p = 0xFF || p != profile || x.dies % 65536 = 0 then fail s 2
      else
        let s := (((s.set (F.ftChStatusState c) 2).set (F.ftChStatusCause c) 0).set (F.ftChStatusDieOnline c) (x.dies % 65536))
        (s.set (F.ftChStatusRate c) (x.rate % 4)).put (F.ftChStatusToggle c) x.toggle

/-- Units that have failed a self-test class stay offline (R621). -/
def keepFailed (s : State) : State :=
  let n := s.pw.failedUnits
  let s := s.setReg R.pvUnitsLost (s.reg R.pvUnitsLost ||| BitVec.ofNat 64 n)
  (List.range s.part.dies).foldl (fun s d =>
    if n.testBit d then (s.setBit F.pvUnitsLostMediaDie d false).dieGone d else s) s

/-- A unit is missing: Reduced (R612). -/
def reducedIfLost (s : State) : State := if s.reg R.pvUnitsLost = 0 then s else s.reduced

/-- Milestone 2: firmware is loaded, and ports, links and channels have trained. Assumption 115 (DEDUCED). -/
def firmwareLoaded (s : State) (f : StartFindings) : State :=
  let profile := ((f.fchans.find? (fun x => bits x.id 32 8 != 0xFF && x.chan < s.fchannels)).map (fun x => bits x.id 32 8)).getD 0
  let s := (List.range s.fchannels).foldl (fun s c => s.startFchan f.fchans profile c) s
  let s := (List.range s.part.dies).foldl (fun s d =>
    if f.lostClusters.contains d then s.clusterGone d 2
    else if !s.on (F.hzClCtlEnable d) then s.setBit F.pvUnitsLostHazelCluster d true
    else s) s
  let s := ((s.set F.cipStatusXtsOnline f.xts).set F.cipStatusGcmOnline f.gcm).set F.cipKeysGcmCore15 (f.gcm / 2 ^ 15 % 2)
  let s := if f.xts % 65536 = 65535 && f.gcm % 65536 = 65535 then s else s.setBit F.pvUnitsLostCipherCore 0 true
  let s := (List.range 1024).foldl (fun s d => if s.keyActive d then s.touchKey d else s) s
  let s := ((List.range 4).filter (fun l => s.linkPresent l && !s.linkUp l)).foldl (fun s l =>
    s.setBit F.pvUnitsLostCxlLink l true) s
  (s.put F.espStatusMeshOk true).keepFailed.reducedIfLost

/-- The smallest set of units that gives any service, besides Privet and the mesh (R614). -/
def smallestSet (s : State) : Bool :=
  (List.range 4).any s.linkUp && (List.range s.channels).any (fun c => s.get (F.mtChStatusState c) = 2)

/-- Milestone 3: HBM3E is trained, and recovery begins; without the smallest set, Safe mode (R614). -/
def stacksTrained (s : State) (f : StartFindings) : State :=
  let s := (f.lostStacks.filter (fun k => k < s.part.stacks)).foldl (fun s k =>
    (s.setBit F.pvUnitsLostHbmStack k true).raise 103 sevCritical 0 noDom [d4 k]) s
  let s := if s.stacksWhole then (s.applyEntries (fun a => a = R.lcCtl)).1 else s
  let s := s.reducedIfLost
  let s : State := { s with pw := { s.pw with cold := 0 } }
  if s.smallestSet then (s.startRecovery).set F.pvModeStartPhase 5 else s.safeMode 11

/-- R81: groups and hints that reached above a lower window size end. -/
def dropAboveSize (s : State) : State :=
  let n := s.winPlots
  let s := (s.md.plots.filter (fun p => p.idx < 0x10000 && n ≤ p.idx && (p.heat.isSome || p.group.isSome || p.pinned))).foldl
    (fun s p => s.setPlot { p with heat := none, group := none, pinned := false, hazelOwned := false }) s
  let s := (s.md.mirrorDirty.filter (fun p => n ≤ p)).foldl (fun s p => s.journal (.mirrorDirty p false)) s
  let s := (s.md.groups.filter (fun g => g.2.hazelGranted && s.groupPlots g.1 = [])).foldl (fun s g =>
    s.setGroup g.1 { g.2 with hazelGranted := false }) s
  { s with pw := { s.pw with shrunk := false } }

/-- R538: the chosen configuration record is copied to slot G. -/
def saveGood (s : State) : State :=
  let good := (s.recordAt 0x8000 0x4000 1).map (·.2)
  match [0, 0x4000].find? (fun b => s.configPayload.isSome && (s.recordAt b 0x4000 1).map (·.2) = s.configPayload) with
  | some b =>
    if good = s.configPayload then s
    else
      let w : PsWrite := { source := 1, addr := 0x8000, bytes := s.psBytes b (32 + s.psNum (b + 8) 4) }
      State.showPs { s with pv := { s.pv with writes := s.pv.writes ++ [w] } }
  | none => s

/-- Milestone 4: the window serves. Assumption 115 (DEDUCED). -/
def windowServed (s : State) : State :=
  let s := if s.pw.shrunk then s.dropAboveSize else s
  if s.get F.perStatusState = 3 then s.saveGood.set F.pvModeStartPhase 7
  else
    let s := (List.range s.part.dies).foldl (fun s d =>
      if s.bit F.pvUnitsLostHazelCluster d || s.bit F.pvUnitsLostMediaDie d then s
      else (s.set (F.hzClStatusState d) 1).showCluster d) s
    s.saveGood.set F.pvModeStartPhase 6

/-- The work of a milestone, where the device has reached it. -/
def milestone (s : State) (f : StartFindings) : Nat → Option State
  | 0 => if s.pw.booted then some s else none
  | 1 => if s.supervisor = pwOn && s.get (F.pvMilestoneTime 1) = 0 then some s.applyConfig else none
  | 2 => if s.supervisor = pwOn && s.pw.booted && s.get F.pvModeStartPhase = 3 then
      some ((s.firmwareLoaded f).set F.pvModeStartPhase 4) else none
  | 3 => if s.get F.pvModeStartPhase = 4 then some (s.stacksTrained f) else none
  | 4 => if s.get F.pvModeStartPhase = 5 && s.get F.winStatusWindowState != 0 then some s.windowServed else none
  | 5 => if s.get F.pvModeStartPhase = 6 && (s.get F.ftStatusState = 2 || s.get F.ftStatusState = 4) then
      some (s.set F.pvModeStartPhase 7) else none
  | 6 => if s.get F.winStatusWindowState != 0 && s.per.rebuild = [] && s.suspectTiles = [] then some s else none
  | _ => none

/-! ### Cold resets (R605) and the restart of Privet -/

/-- Registers of Privet that a restart of its firmware keeps: the recorder, the sequencer, the sensors, the lifecycle block and
the debug port (R605, Table 20.1). Assumption 116 (DEDUCED). -/
def keptAtRestart (a : Nat) : Bool :=
  inPower a || (0xF00080040000 ≤ a && a < 0xF00080060000) || a = R.pvDebugStatus || fromStore a || !inPrivet a

/-- Privet restarts its firmware (steps 3 to 7 of Table 17.4). Assumption 116 (DEDUCED). -/
def privetAgain (s : State) (bankA bankB : FlashBank) (badKeys : List Nat) (udsBad : Bool) : State :=
  let s := s.tearWrite
  let s : State := { s with regs := s.regs.filter (fun x => keptAtRestart x.1),
                            pv := { s.pv with kek := none, image := none, transfer := none } }
  s.privetStarts bankA bankB badKeys udsBad

/-- Start-up continues at step 5 (R605): firmware is about to be loaded. -/
def startAgain (s : State) : State :=
  let s := (List.range 8).foldl (fun s i => if 2 ≤ i then s.set (F.pvMilestoneTime i) 0 else s) s.modeAfresh
  (s.set F.pvModeStartPhase 3).applyConfig

end State

/-- The supervisor has its configuration. -/
def State.noteConfigured (s : State) : State := { s with pw := { s.pw with configured := true } }

/-- The supervisor takes its configuration once, from the configuration record (R539, R545). -/
def State.configurePower (s : State) : State :=
  if s.pw.configured then s
  else
    let r := s.applyEntries inPower
    let s := match r.2 with
      | some i => r.1.raise 7 sevNotice 0 noDom [d4 1, d4 s.configSeq, d4 i]
      | none => r.1
    ((s.put F.pwrCtlSeqLock true).put F.thmCtlLock true).noteConfigured

/-- POWER_ON (R52, R63, R545, R604): from Standby, once Privet has booted and applied its own entries of the record.
Assumption 113 (DEDUCED). -/
def execPowerOn (s : State) : Outcome State Fault Refusal :=
  .next <|
    if s.supervisor != pwStandby || !s.pw.booted || s.pw.trip || s.pw.lost || s.get F.pvModeMode = 4 then s
    else s.configurePower.powerOn 0 0

/-- PORST_N_ASSERT (R52, R554, R567, R607): no flush; every SEQ_EN low; Privet in reset; the trip flag clears.
Assumption 96 (DEDUCED). -/
def execPorstNAssert (s : State) : Outcome State Fault Refusal :=
  .next <|
    ((s.cutRails).resetPrivet 3).railsLow

/-- STANDBY_RAIL_LOSS (R54, R63, R547, R604): Privet stops, the standby clock and the trip flag are lost, and what follows is
a standby power-on. Assumption 96 (DEDUCED). -/
def execStandbyRailLoss (s : State) : Outcome State Fault Refusal :=
  .next <|
    let s := ((s.cutRails).resetPrivet 1).railsLow
    { s with time := { s.time with standbyOk := false } }

/-- STARTUP_MILESTONE (R81, R178, R221, R227, R274, R537 to R539, R609 to R614). Assumption 115 (DEDUCED). -/
def execStartupMilestone (milestone : Nat) (found : StartFindings) (s : State) : Outcome State Fault Refusal :=
  .next <|
    if s.get F.pvModeMode = 4 || s.pw.lost then s
    else match s.milestone found milestone with
      | some t => t.set (F.pvMilestoneTime milestone) s.nowDtb
      | none => s

/-- COLD_RESET_STEP (R518 to R520, R527, R605, R607): after the flush the dies are held in reset for 1 ms, and Privet restarts. -/
def execColdResetStep (bankA bankB : FlashBank) (badKeys : List Nat) (udsBad : Bool) (s : State) :
    Outcome State Fault Refusal :=
  .next <|
    if s.pw.cold = 1 then
      if s.per.flushStep != 7 then s
      else
        let s := s.resetDies true
        { s with pw := { s.pw with cold := 2, coldAt := s.clk, resetClean := true } }
    else if s.pw.cold = 2 then
      if s.clk < s.pw.coldAt + ms 1 then s
      else
        let k := s.pw.coldKind
        let s : State := { s with pw := { s.pw with resetKind := k, resetClean := k != 7 } }
        let s := ((s.privetAgain bankA bankB badKeys udsBad).showReset)
        if s.pv.image.isNone then { s with pw := { s.pw with cold := 0 } }
        else
          let s : State := { s with pw := { s.pw with cold := 3, selfStep := 0, selfLeft := [] } }
          s.startAgain
    else s

/-- COMPONENT_CHECK_FAILURE (R520, R605): the bank has failed; the dies go back to reset, and a cold reset without step 1 follows. -/
def execComponentCheckFailure (component : Nat) (s : State) : Outcome State Fault Refusal :=
  .next <|
    if !s.pw.booted || s.pv.image.isNone || s.get F.pvModeStartPhase != 3 then s
    else
      let bank := s.on F.pvStatusBootBank
      let s := (s.raise 0 sevCritical 0 noDom [d4 (bankNum bank), d4 component, d4 (Config.codeOf 17 1)]).resetDies true
      let pw : PwState := { s.pw with cold := 2, coldKind := 7, coldAt := s.clk, resetTime := s.nowSec % 2 ^ 32 }
      { s with pv := { s.pv with failed := some bank }, pw := pw }

/-- The opening of debug goes on to its next step (R439). -/
def State.nextOpening (s : State) : State := { s with pv := { s.pv with opening := s.pv.opening + 1 } }

/-- No key slot of the cipher holds a key. -/
def State.emptySlots (s : State) : State := { s with cip := { s.cip with slots := [] } }

/-- Every domain's status reads 0. -/
def State.domainsIdle (s : State) (n : Nat) : State := (List.range n).foldl (fun s d => s.setReg (R.cipDomStatus d) 0) s

/-- Step 1 of the opening (R439): every die is reset, and no domain keeps its keys or its state. -/
def State.closeDomains (s : State) : State := ((s.resetDies true).domainsIdle 1024).emptySlots

/-- Step 2 of the opening (R439): a mark that stands until the erasure is done. -/
def State.markDebugErase (s : State) : State := { s with pv := { s.pv with debugErase := true } }

/-- Step 4 of the opening (R439, R529): the spread counter, the mark taken off, and the record. -/
def State.noteDebugErase (s : State) : State :=
  let s := s.spreadInc 3
  let s : State := { s with pv := { s.pv with debugErase := false } }
  s.raise 5 sevCritical 0 noDom [d4 s.pv.scope, d4 (s.spread 3)]

/-- Step 5 of the opening (R439, R528): debug is open, and a part that is on starts again. -/
def State.debugOpen (s : State) : State :=
  let s := (s.set F.pvDebugStatusState 3).showImport
  let s : State := { s with pv := { s.pv with opening := 0 } }
  if s.supervisor = pwOn then s.startAgain else s

/-- DEBUG_OPENING_STEP (R439, R528, R529): the next step of Table 17.7. -/
def execDebugOpeningStep (s : State) : Outcome State Fault Refusal :=
  .next <|
    match s.pv.opening with
    | 1 => s.closeDomains.nextOpening
    | 2 => s.markDebugErase.nextOpening
    | 3 => s.newSecrets.nextOpening
    | 4 => s.noteDebugErase.nextOpening
    | 5 => s.debugOpen
    | _ => s

/-- POWERED_HOURS_INCREMENT (R540): spread counter 1. -/
def execPoweredHoursIncrement (s : State) : Outcome State Fault Refusal :=
  .next (if s.pw.booted then s.spreadInc 1 else s)

end Sys2Proof.Machine
end

