-- ==== Sys2Proof/Machine/Degrade.lean ====
section
/-!
DEFINITION. Units lost while the device runs (R26, R44 to R46), and resets of a link or of a logical device (R122, R608).
-/
namespace Sys2Proof.Machine
open Host State

namespace State

/-! ### An HBM3E stack (R26) -/

/-- The dirty lines of the ways on a stack are lost: each goes to the media poisoned. -/
def loseStackLines (s : State) (k : Nat) : State :=
  let gone := s.lc.ways.filter (fun w => s.wayStack w = k && !w.dead)
  let s := s.setWays (s.lc.ways.filter (fun w => !(s.wayStack w = k && !w.dead)))
  gone.foldl (fun s w => (w.lines.filter (fun x => x.dirty && !x.flying)).foldl (fun s c =>
    let x : LineData := { idx := c.idx, data := Config.freeLine s.free, tag := { c.tag with poison := true } }
    s.drew.queuePage .lostLine w.sector c.epoch [x]) s) s

/-- What waits on a unit that Basic mode does not serve ends with UNIT_OFFLINE (R614). Assumption 118 (DEDUCED). -/
def endForBasic (s : State) : State :=
  let s := (s.hz.kernels.filter (fun k => k.phase != .ending)).foldl (fun s k => s.refuseKernel k stUnitOffline) s
  let s : State := { s with hz := { s.hz with cores := [] }, lc := { s.lc with ops := [], waits := [] } }
  (s.rg.descs.filter (fun d => !basicServes d)).foldl (fun s d => s.finish d.ring d.handle stUnitOffline 0) s

/-- A stack fails: Basic mode (R26, R614, Table 9.9). Assumption 118 (DEDUCED). -/
def stackFails (s : State) (k : Nat) : State :=
  if s.part.stacks ≤ k || s.bit F.pvUnitsLostHbmStack k || s.supervisor != pwOn then s
  else
    let first := s.stacksWhole
    let s := (s.unitLost F.pvUnitsLostHbmStack k).raise 103 sevCritical 0 noDom [d4 k]
    if !s.perUp || !first then s
    else
      let s := (s.loseStackLines k).writeBackAll
      let reads := s.win.reads.map (fun (r : OutRead) => { r with fills := false })
      let s : State := { s with win := { s.win with reads := reads } }
      let s := (s.basicUnits).setWays []
      let s := (s.qs.filter (fun e => !e.leaving)).foldl (fun s e => s.writeAround e) s
      let s := ((s.endForBasic.set F.perStatusState 3).set F.perStatusRoCause 4).set F.winStatusWindowState 3
      (s.toMode 3 6).raise 116 sevCritical 0 noDom [d4 4]

/-! ### CXL links and logical devices (R122, R608) -/

/-- A ring that works for a logical device: its domain's, by the LD that its notification names, or by any LD of its domain.
Assumption 117 (DEDUCED). -/
def ringOfLd (s : State) (n r : Nat) : Bool :=
  s.on (F.ringBindValid r) && s.ldEnabled n && s.ringDom r = s.ldDomain n
    && (s.get (F.ringNotifyKind r) != 1 || s.get (F.ringNotifyLd r) = n)

/-- The rings of some LDs are reset (Table 11.2, Table 20.1). -/
def resetRingsOf (s : State) (l : List Nat) : State :=
  ((List.range 4096).filter (fun r => s.ringState r != ringDisabled && l.any (fun n => s.ringOfLd n r))).foldl
    (fun s r => s.resetRing r) s

/-- A link is reset or goes down (R46, R122, R608). -/
def linkGone (s : State) (l : Nat) : State :=
  if !s.linkPresent l || !s.linkUp l then s
  else
    let s := (s.linkDown l).unitLost F.pvUnitsLostCxlLink l
    let s := s.resetRingsOf ((List.range (s.linkLds l)).map (· + 16 * l))
    if (List.range 4).any s.linkUp then s else s.safeMode 8

/-! ### Clocks (R44, Table 1.8) -/

/-- The units that a clock feeds go offline together. Assumption 119 (DESIGN CHOICE). -/
def clockLost (s : State) : ClockSource → State
  | .hub => (s.raise (248 + Config.clockEvent 0 % 8) sevCritical 0 noDom []).safeMode 7
  | .hbm k => s.stackFails k
  | .port k => if 11 ≤ k || !s.part.port k || s.klState k = portDown then s else s.linkLost k 6
  | .dorfoad d =>
    if s.part.dies ≤ d then s
    else ((List.range 4).foldl (fun s i =>
      if s.get (F.mtChStatusState (4 * d + i)) = 4 then s else s.channelOffline (4 * d + i) 4) s).reduced
  | .nand d => if s.part.dies ≤ d then s else ((List.range 8).foldl (fun s i => s.fchanOffline (8 * d + i) 5) s).reduced
  | .cluster d => if s.part.dies ≤ d || s.bit F.pvUnitsLostHazelCluster d then s else (s.clusterGone d 1).reduced
  | .cxl => (List.range 4).foldl (fun s l => s.linkGone l) (s.raise (32 + Config.clockEvent 1 % 64) sevCritical 0 noDom [])
  | .ethernet =>
    let s := s.raise (192 + Config.clockEvent 2 % 32) sevCritical 0 noDom []
    ((List.range 16).filter (fun p => s.bit F.netStatusPortUp p)).foldl (fun s p => s.ethDown p) s
  | .crystal => s.losePrivet

end State

/-- MEDIA_DIE_LOSS (R45, R241). -/
def execMediaDieLoss (die : Nat) (s : State) : Outcome State Fault Refusal := .next (s.dieGone die)

/-- HBM_STACK_FAILURE (R26, R113, R140, R614). -/
def execHbmStackFailure (stack : Nat) (s : State) : Outcome State Fault Refusal := .next (s.stackFails stack)

/-- CLOCK_MONITOR_LOSS (R44, R46, R613, R616). -/
def execClockMonitorLoss (clock : ClockSource) (s : State) : Outcome State Fault Refusal := .next (s.clockLost clock)

/-- CXL_LINK_DOWN (R46, R122). -/
def execCxlLinkDown (link : Nat) (s : State) : Outcome State Fault Refusal := .next (s.linkGone link)

/-- CXL_LINK_RESET (R608): the effects of a link going down. -/
def execCxlLinkReset (link : Nat) (s : State) : Outcome State Fault Refusal := .next (s.linkGone link)

/-- LD_RESET (R608, Table 20.1): MSI-X state, outstanding reads and rings; accepted writes, decoders, binding and extents stay. -/
def execLdReset (ld : Nat) (s : State) : Outcome State Fault Refusal :=
  .next <|
    if s.ldCount ≤ ld then s
    else
      let mine := fun (x : Nat × Nat) => x.1 != ld
      let s : State := { s with win := { s.win with msixMasked := s.win.msixMasked.filter mine,
                                                    msixPending := s.win.msixPending.filter mine } }
      (s.discardReads (fun r => r.ld = ld && r.src.link < 4)).resetRingsOf [ld]

/-- HBM_INTERFACE_RECALIBRATION (R620, Table 20.6): a pseudo-channel is out for 40 ns within the pipeline's latency; no state of
the model changes. -/
def execHbmInterfaceRecalibration (s : State) : Outcome State Fault Refusal := .next s

end Sys2Proof.Machine
end

