-- ==== Sys2Proof/Machine/Maintain.lean ====
section
/-!
DEFINITION. Media sanitize (R617, R618) and the maintenance self-test (R621).
-/
namespace Sys2Proof.Machine
open Host State

/-- Tiles of a channel that the Overwrite covers: those of the plot spans, then those of the spare rows (R617). -/
def tilesPerChannel : Nat := 507904

/-- The place of a tile among those of its channel; none for check rows and metadata rows. -/
def overwriteIndex? (t : Nat) : Option Nat :=
  let g := t % 2 ^ 19
  if g < 487424 then some g else if 503808 ≤ g then some (g - 503808 + 487424) else none

namespace State

/-! ### Sanitize -/

/-- The channels that the Overwrite covers. -/
def sanitizeChans (s : State) : List Nat := (List.range s.channels).filter (fun c =>
  s.get (F.mtChStatusState c) = 2 || s.get (F.mtChStatusState c) = 3)

/-- The tiles of the Overwrite. -/
def sanitizeTiles (s : State) : Nat := s.sanitizeChans.length * tilesPerChannel

/-- A sanitize is accepted: from here the restrictions of R618 hold. -/
def sanitizeStart (s : State) (scope : Nat) : State :=
  let s := ((s.set F.pvSanitizeState 1).set F.pvSanitizeScope scope).set F.pvSanitizePercent 0
  (s.set F.pvSanitizePosition 0).set F.ftStatusState 4

/-- What refuses a sanitize (R617, R618). -/
def sanitizeRefusal (s : State) : Option Nat :=
  if s.sanitizing then some stSanitizeActive else if 1 < s.get F.pvModeMode then some stReadOnly else none

/-- A phase begins. -/
def sanitizeNext (s : State) (n : Nat) : State :=
  ((s.set F.pvSanitizeState n).set F.pvSanitizePosition 0).set F.pvSanitizePercent 0

/-- Every key domain's pair is replaced, whatever the domain's state. -/
def sanitizeKeys (s : State) : State := (List.range 1024).foldl (fun s d => s.replaceKey d) s

/-- A checkpoint of a kind, written whole. -/
def freshRoot (s : State) (ftier : Bool) : State :=
  let n := s.get F.perJournalSeqNext
  s.setCkpt ftier { s.ckpt ftier with phase := .idle, root := some { s := n, image := s.imageNow, time := s.nowDtb } }

/-- The Clear phase: the structures that describe old data, and what the buffers and the cache hold of it.
Assumption 111 (DEDUCED). -/
def sanitizeClear (s : State) : State :=
  let plots := s.md.plots.map (fun (p : Plot) => { p with reborn := false })
  let md : Meta := { s.md with plots := plots, written := [], reborn := [], lost := [], lwlOverflow := false, snaps := [],
                               captures := [], mirrorDirty := [], applying := none }
  let banks := s.mt.banks.map (fun (b : Bank) => { b with write := none })
  let s : State := { s with md := md, qs := [],
                            mt := { s.mt with tally := [], tiles := [], writes := [], rewrites := [], banks := banks },
                            per := { s.per with send := [], receive := [], resend := [], skipMap := [], rebuild := [] } }
  let s := (((s.set F.mtTallyStatusUsed 0).setWays []).showQs.showRebuild).showMirror
  ({ s with win := { s.win with held := [] } }).freshRoot false

/-- The Erase phase: every good member set is erased, the map is Unmapped, and slots and bands are free. -/
def sanitizeErase (s : State) : State :=
  let s := s.setFt { s.ft with pages := [], staged := [], groups := [], reads := [], victim := none, heat := [] }
  let s : State := { s with fm := { s.fm with map := [], slots := [], bands := [] } }
  s.showFlash.showFcache.showFull.showVictim

/-- The Finish phase: both generations of both checkpoints, and the journals before the new S (R617). -/
def sanitizeFinish (s : State) : State :=
  let scope := s.get F.pvSanitizeScope
  let n := s.get F.perJournalSeqNext
  let s := (s.freshRoot false).freshRoot true
  let sizes := s.pv.sizes
  let s : State := { s with
    per := { s.per with journal := s.per.journal.filter (fun r => n ≤ r.seq), sizeCleared := s.per.sizeCleared || scope != 2,
                        window := { s.per.window with kept := n }, ftier := { s.per.ftier with kept := n } },
    pv := { s.pv with sizes := if scope = 1 then sizes else sizes.take 2 ++ [0, 0] } }
  let s := (s.sanitizeNext 0).set F.pvSanitizeLastStatus stOk
  let s := s.showMeta.set F.ftStatusState 2
  (s.rg.descs.filter (fun d => d.op = opSanitize && d.phase = .started && d.left = 1)).foldl
    (fun s d => s.finish d.ring d.handle stOk 0) s

/-- The pages of a batch of tiles are zeros, with check slots whose records say that nothing is written.
Assumption 111 (DEDUCED). -/
def overwriteTiles (s : State) (first n : Nat) : State :=
  let chans := s.sanitizeChans
  let hit := fun (page : Nat) =>
    match overwriteIndex? (tileOf page) with
    | none => false
    | some k =>
      let i := chans.idxOf (pageChan page) * tilesPerChannel + k
      chans.contains (pageChan page) && first ≤ i && i < first + n
  let m := s.mt.media
  let media : Mem := { m with cells := m.cells.filter (fun c => !hit (c.1 / 4096)), tags := m.tags.filter (fun t => !hit (t.1 / 64)) }
  { s with mt := { s.mt with media := media, slots := s.mt.slots.filter (fun x => !hit x.1),
                             cache := s.mt.cache.filter (fun x => !hit x.loc) } }

/-! ### Self-test -/

/-- A ring pair lies wholly in the host memory aperture (R621). -/
def ringInHost (s : State) (r : Nat) : Bool :=
  decide (regionOf (s.get (F.ringSqBaseBase r) * 4096) (64 * s.sqSize r) = Region.host)
    && decide (regionOf (s.get (F.ringCqBaseBase r) * 4096) (16 * s.cqSize r) = Region.host)

/-- Step 1 and the beginning of step 2 of R621. -/
def selfQuiesce (s : State) : State :=
  let s := (s.hz.kernels.filter (fun k => k.phase != .ending)).foldl (fun s k =>
    if k.phase = .running then s.endKernel k stAbortedReset 0 (k.cores.headD 0) false
    else s.refuseKernel k stAbortedReset) s
  let s := ((s.put F.pvSelftestBusy true).set F.pvSelftestRun 0).set F.pvSelftestFailed 0
  { (s.put F.lcCtlWriteThrough true).writeBackAll with pw := { s.pw with selfStep := 1 } }

/-- Every other descriptor has completed, every dirty line is written back and Quickset is empty. -/
def selfQuiet (s : State) (ring handle : Nat) : Bool :=
  s.rg.descs.all (fun d => d.ring = ring && d.handle = handle) && s.lc.ways.all (fun w => !w.lines.any (·.dirty)) && s.qs = []

/-- The self-test's descriptor. -/
def selfDesc? (s : State) : Option Desc := s.rg.descs.find? (fun d => d.op = opSelftest && d.left = 1)

end State

/-- SANITIZE (R118, R617, R618): the mailbox command, of scope 3. Assumption 111 (DEDUCED). -/
def execSanitize (ld : Nat) (s : State) : Outcome State Fault Refusal :=
  .next (s.mgmtOnly ld 0x4400 (fun s =>
    match s.sanitizeRefusal with
    | some st => s.reply ld 0x4400 .invalidInput [st]
    | none => (s.sanitizeStart 3).reply ld 0x4400 .success []))

/-- ADMIN_SANITIZE (R368, R373, R617, R618). -/
def execAdminSanitize (ring handle : Nat) (s : State) : Outcome State Fault Refusal :=
  .next <|
    match s.startedDesc? ring handle opSanitize with
    | none => s
    | some d =>
      if d.left = 1 then s
      else match s.sanitizeRefusal with
        | some st => s.finish ring handle st 0
        | none => (s.setDesc { d with left := 1 }).sanitizeStart (d.num 16 1)

/-- SANITIZE_PHASE (R617, R619, Table 20.4): the work of the phase is done, and the next begins. -/
def execSanitizePhase (s : State) : Outcome State Fault Refusal :=
  .next <|
    if !s.perUp then s
    else
      let scope := s.get F.pvSanitizeScope
      match s.get F.pvSanitizeState with
      | 1 => s.sanitizeKeys.sanitizeNext 2
      | 2 => s.sanitizeClear.sanitizeNext (if scope = 2 then 4 else 3)
      | 3 => if s.get F.pvSanitizePosition < s.sanitizeTiles then s else s.sanitizeNext (if scope = 1 then 5 else 4)
      | 4 => s.sanitizeErase.sanitizeNext 5
      | 5 => s.sanitizeFinish
      | _ => s

/-- SANITIZE_OVERWRITE_BATCH (R617): the next 65,536 tiles, and the position recorded. -/
def execSanitizeOverwriteBatch (s : State) : Outcome State Fault Refusal :=
  .next <|
    let first := s.get F.pvSanitizePosition
    let all := s.sanitizeTiles
    if !s.perUp || s.get F.pvSanitizeState != 3 || all ≤ first then s
    else
      let n := min 65536 (all - first)
      let s := (s.overwriteTiles first n).set F.pvSanitizePosition (first + n)
      s.set F.pvSanitizePercent (100 * (first + n) / all)

/-- ADMIN_SELFTEST (R373, R621): refused, or the next step of the way into maintenance; each step that must wait is taken up
again when the command is repeated. Assumption 112 (DEDUCED). -/
def execAdminSelftest (ring handle : Nat) (s : State) : Outcome State Fault Refusal :=
  .next <|
    match s.startedDesc? ring handle opSelftest with
    | none => s
    | some d =>
      let units := d.num 16 4
      if d.left = 0 then
        if units = 0 || 2 ^ 11 ≤ units || !s.ringInHost ring then s.finish ring handle stBadDescriptor 0
        else if !s.on F.pvModeMaintenance && !d.quiesce then s.finish ring handle stBusyOnline 0
        else if s.on F.pvSelftestBusy then s
        else (s.setDesc { d with left := 1 }).selfQuiesce
      else if s.pw.selfStep = 1 then
        if s.selfQuiet ring handle then
          let s := (s.tryCkpt false).tryCkpt true
          { s with pw := { s.pw with selfStep := 2 } }
        else s.writeBackAll
      else if s.pw.selfStep = 2 then
        if s.per.window.phase = .idle && s.per.ftier.phase = .idle then
          let s := (s.set F.winStatusWindowState 0).put F.pvModeMaintenance true
          { s with pw := { s.pw with selfStep := 3, selfLeft := (List.range 11).filter (fun k => units.testBit k) } }
        else s
      else s

/-- SELFTEST_CLASS_COMPLETE (R605, R621): the lowest class left has run; `units` are those that failed it, as PV_UNITS_LOST
shows them.  After the last the descriptor completes, and once its entry is written a cold reset follows.
Assumption 112 (DEDUCED). -/
def execSelftestClassComplete (failed : Bool) (units : BitVec 64) (s : State) : Outcome State Fault Refusal :=
  .next <|
    match s.pw.selfStep, s.pw.selfLeft, s.selfDesc? with
    | 3, c :: rest, some d =>
      let s := s.setBit F.pvSelftestRun c true
      let s := if failed then
          let s := (s.setBit F.pvSelftestFailed c true).setReg R.pvUnitsLost (s.reg R.pvUnitsLost ||| units)
          { s with pw := { s.pw with failedUnits := s.pw.failedUnits ||| units.toNat } }
        else s
      let s : State := { s with pw := { s.pw with selfLeft := rest, selfStep := if rest = [] then 4 else 3 } }
      if rest = [] then
        s.finish d.ring d.handle stOk (s.get F.pvSelftestRun + s.get F.pvSelftestFailed * 2 ^ 16)
      else s
    | 4, _, none =>
      let s : State := { s with pw := { s.pw with selfStep := 0 } }
      (s.coldRequest 6).put F.pvSelftestBusy false
    | _, _, _ => s

end Sys2Proof.Machine
end

