-- ==== Sys2Proof/Machine/Dispatch.lean ====
section
/-!
DEFINITION. What each command does: one arm per row of spec/opcode_table.json, each a call of that row's meaning.
-/
namespace Sys2Proof.Machine

def exec (i : Instr) (s : State) : Host.Outcome State Fault Refusal :=
  match i with
  | .registerWrite dom addr width value => Sys2Proof.Machine.execRegisterWrite dom addr width value s
  | .registerAccessBadWidth dom addr width read => Sys2Proof.Machine.execRegisterAccessBadWidth dom addr width read s
  | .powerOn => Sys2Proof.Machine.execPowerOn s
  | .porstNAssert => Sys2Proof.Machine.execPorstNAssert s
  | .hbmStackFailure stack => Sys2Proof.Machine.execHbmStackFailure stack s
  | .clockMonitorLoss clock => Sys2Proof.Machine.execClockMonitorLoss clock s
  | .mediaDieLoss die => Sys2Proof.Machine.execMediaDieLoss die s
  | .ptpMessageReceive port sourceTime => Sys2Proof.Machine.execPtpMessageReceive port sourceTime s
  | .ptpSourceLoss => Sys2Proof.Machine.execPtpSourceLoss s
  | .ppsInEdge => Sys2Proof.Machine.execPpsInEdge s
  | .tbSetWrite value => Sys2Proof.Machine.execTbSetWrite value s
  | .tbCtlWrite value => Sys2Proof.Machine.execTbCtlWrite value s
  | .holdoverExpiry => Sys2Proof.Machine.execHoldoverExpiry s
  | .tcxoFailure => Sys2Proof.Machine.execTcxoFailure s
  | .ppsOutPulse => Sys2Proof.Machine.execPpsOutPulse s
  | .timeMessageSend => Sys2Proof.Machine.execTimeMessageSend s
  | .timeMessageReceive port hubTime delayNs => Sys2Proof.Machine.execTimeMessageReceive port hubTime delayNs s
  | .dieTimeLost die => Sys2Proof.Machine.execDieTimeLost die s
  | .dieLaunchHold die => Sys2Proof.Machine.execDieLaunchHold die s
  | .agentTimeLost agent => Sys2Proof.Machine.execAgentTimeLost agent s
  | .launchSlotArm unit slot value => Sys2Proof.Machine.execLaunchSlotArm unit slot value s
  | .launchSlotCancel unit slot value => Sys2Proof.Machine.execLaunchSlotCancel unit slot value s
  | .launchSlotFire unit slot => Sys2Proof.Machine.execLaunchSlotFire unit slot s
  | .launchArmSend agent slot => Sys2Proof.Machine.execLaunchArmSend agent slot s
  | .cxlLinkTrained link width rate => Sys2Proof.Machine.execCxlLinkTrained link width rate s
  | .cxlLinkDown link => Sys2Proof.Machine.execCxlLinkDown link s
  | .cxlLinkReset link => Sys2Proof.Machine.execCxlLinkReset link s
  | .ldReset ld => Sys2Proof.Machine.execLdReset ld s
  | .winLdBindWrite ld value => Sys2Proof.Machine.execWinLdBindWrite ld value s
  | .winLdExtentWrite ld extent value => Sys2Proof.Machine.execWinLdExtentWrite ld extent value s
  | .hdmDecoderCommit ld decoder base size ways granularity skip position bi biEnabled => Sys2Proof.Machine.execHdmDecoderCommit ld decoder base size ways granularity skip position bi biEnabled s
  | .cxlMemRead link ld tag hpa cacheable => Sys2Proof.Machine.execCxlMemRead link ld tag hpa cacheable s
  | .memwr link ld tag hpa data poison => Sys2Proof.Machine.execMemwr link ld tag hpa data poison s
  | .memwrptl link ld tag hpa data mask poison => Sys2Proof.Machine.execMemwrptl link ld tag hpa data mask poison s
  | .birsp link line dirty => Sys2Proof.Machine.execBirsp link line dirty s
  | .biTimeout link line => Sys2Proof.Machine.execBiTimeout link line s
  | .sfEvictionComplete sector => Sys2Proof.Machine.execSfEvictionComplete sector s
  | .admissionRelease read => Sys2Proof.Machine.execAdmissionRelease read s
  | .readDeadline read => Sys2Proof.Machine.execReadDeadline read s
  | .clearentry => Sys2Proof.Machine.execClearentry s
  | .clearall => Sys2Proof.Machine.execClearall s
  | .clearoverflow => Sys2Proof.Machine.execClearoverflow s
  | .gpfPhase1 link => Sys2Proof.Machine.execGpfPhase1 link s
  | .gpfPhase2 link => Sys2Proof.Machine.execGpfPhase2 link s
  | .getEventRecords ld log => Sys2Proof.Machine.execGetEventRecords ld log s
  | .clearEventRecords ld log handles all => Sys2Proof.Machine.execClearEventRecords ld log handles all s
  | .getEventInterruptPolicy ld => Sys2Proof.Machine.execGetEventInterruptPolicy ld s
  | .setEventInterruptPolicy ld policy => Sys2Proof.Machine.execSetEventInterruptPolicy ld policy s
  | .getFwInfo ld => Sys2Proof.Machine.execGetFwInfo ld s
  | .transferFw ld action offset data => Sys2Proof.Machine.execTransferFw ld action offset data s
  | .activateFw ld action slot => Sys2Proof.Machine.execActivateFw ld action slot s
  | .getTimestamp ld => Sys2Proof.Machine.execGetTimestamp ld s
  | .setTimestamp ld value => Sys2Proof.Machine.execSetTimestamp ld value s
  | .getSupportedLogs ld => Sys2Proof.Machine.execGetSupportedLogs ld s
  | .getLog ld log offset length => Sys2Proof.Machine.execGetLog ld log offset length s
  | .identifyMemoryDevice ld => Sys2Proof.Machine.execIdentifyMemoryDevice ld s
  | .getPartitionInfo ld => Sys2Proof.Machine.execGetPartitionInfo ld s
  | .getHealthInfo ld => Sys2Proof.Machine.execGetHealthInfo ld s
  | .getAlertConfiguration ld => Sys2Proof.Machine.execGetAlertConfiguration ld s
  | .setAlertConfiguration ld alerts => Sys2Proof.Machine.execSetAlertConfiguration ld alerts s
  | .getPoisonList ld dpa length limit => Sys2Proof.Machine.execGetPoisonList ld dpa length limit s
  | .injectPoison ld dpa => Sys2Proof.Machine.execInjectPoison ld dpa s
  | .clearPoison ld dpa data => Sys2Proof.Machine.execClearPoison ld dpa data s
  | .sanitize ld => Sys2Proof.Machine.execSanitize ld s
  | .unsupportedMailboxCommand ld opcode => Sys2Proof.Machine.execUnsupportedMailboxCommand ld opcode s
  | .getLdInfo link => Sys2Proof.Machine.execGetLdInfo link s
  | .getLdAllocations link start limit => Sys2Proof.Machine.execGetLdAllocations link start limit s
  | .setLdAllocations link payload => Sys2Proof.Machine.execSetLdAllocations link payload s
  | .quicksetMerge line => Sys2Proof.Machine.execQuicksetMerge line s
  | .mediaWriteComplete write => Sys2Proof.Machine.execMediaWriteComplete write s
  | .lcEnable value => Sys2Proof.Machine.execLcEnable value s
  | .lcDisable value => Sys2Proof.Machine.execLcDisable value s
  | .clean issue => Sys2Proof.Machine.execClean issue s
  | .invalidate issue => Sys2Proof.Machine.execInvalidate issue s
  | .prefetch issue => Sys2Proof.Machine.execPrefetch issue s
  | .lockRange issue => Sys2Proof.Machine.execLockRange issue s
  | .unlock issue => Sys2Proof.Machine.execUnlock issue s
  | .invalidateall issue => Sys2Proof.Machine.execInvalidateall issue s
  | .rangeOpTurn => Sys2Proof.Machine.execRangeOpTurn s
  | .rangeOpComplete slot => Sys2Proof.Machine.execRangeOpComplete slot s
  | .hbmUncorrectable line => Sys2Proof.Machine.execHbmUncorrectable line s
  | .tagUncorrectable set way mayHoldDirty => Sys2Proof.Machine.execTagUncorrectable set way mayHoldDirty s
  | .channelTrainingStep chan step fail0 fail1 id0 id1 margin => Sys2Proof.Machine.execChannelTrainingStep chan step fail0 fail1 id0 id1 margin s
  | .bankReadArrival read => Sys2Proof.Machine.execBankReadArrival read s
  | .arrayReadComplete read decode => Sys2Proof.Machine.execArrayReadComplete read decode s
  | .pageReadComplete read corrected uncorrectable => Sys2Proof.Machine.execPageReadComplete read corrected uncorrectable s
  | .strongDecodeComplete read corrected success => Sys2Proof.Machine.execStrongDecodeComplete read corrected success s
  | .writeTokenGrant write => Sys2Proof.Machine.execWriteTokenGrant write s
  | .comparisonReadComplete chan lane => Sys2Proof.Machine.execComparisonReadComplete chan lane s
  | .segmentEnd chan lane failing => Sys2Proof.Machine.execSegmentEnd chan lane failing s
  | .forcedSegment chan lane => Sys2Proof.Machine.execForcedSegment chan lane s
  | .caAlert chan rank command again => Sys2Proof.Machine.execCaAlert chan rank command again s
  | .retrainnow chan => Sys2Proof.Machine.execRetrainnow chan s
  | .retrainPeriodExpiry chan => Sys2Proof.Machine.execRetrainPeriodExpiry chan s
  | .retrainSliceComplete chan margin => Sys2Proof.Machine.execRetrainSliceComplete chan margin s
  | .internalRewriteStart rewrite corrected uncorrectable => Sys2Proof.Machine.execInternalRewriteStart rewrite corrected uncorrectable s
  | .ageMapRecompute => Sys2Proof.Machine.execAgeMapRecompute s
  | .driftRefreshTile tile => Sys2Proof.Machine.execDriftRefreshTile tile s
  | .refreshBehind => Sys2Proof.Machine.execRefreshBehind s
  | .scrubPageRead chan corrected uncorrectable strongCorrected success recordGood => Sys2Proof.Machine.execScrubPageRead chan corrected uncorrectable strongCorrected success recordGood s
  | .scrubStarved chan => Sys2Proof.Machine.execScrubStarved chan s
  | .scrubLapOverLimit chan => Sys2Proof.Machine.execScrubLapOverLimit chan s
  | .retirePageByAddress issue => Sys2Proof.Machine.execRetirePageByAddress issue s
  | .retirePageByLocation issue => Sys2Proof.Machine.execRetirePageByLocation issue s
  | .retireRank issue => Sys2Proof.Machine.execRetireRank issue s
  | .retirementCopyComplete => Sys2Proof.Machine.execRetirementCopyComplete s
  | .nandDieOffline chan die => Sys2Proof.Machine.execNandDieOffline chan die s
  | .nandPageReadComplete read decoded rebuilt => Sys2Proof.Machine.execNandPageReadComplete read decoded rebuilt s
  | .programResume chan die => Sys2Proof.Machine.execProgramResume chan die s
  | .destage slot => Sys2Proof.Machine.execDestage slot s
  | .programGroupComplete band => Sys2Proof.Machine.execProgramGroupComplete band s
  | .padTimer stream => Sys2Proof.Machine.execPadTimer stream s
  | .relocation band => Sys2Proof.Machine.execRelocation band s
  | .dieCalibration chan die => Sys2Proof.Machine.execDieCalibration chan die s
  | .calibrationComplete chan die => Sys2Proof.Machine.execCalibrationComplete chan die s
  | .coppiceReclaim => Sys2Proof.Machine.execCoppiceReclaim s
  | .bandEraseComplete band => Sys2Proof.Machine.execBandEraseComplete band s
  | .programFailure chan die plane => Sys2Proof.Machine.execProgramFailure chan die plane s
  | .eraseFailure chan die plane => Sys2Proof.Machine.execEraseFailure chan die plane s
  | .ftGrantEntryWrite value => Sys2Proof.Machine.execFtGrantEntryWrite value s
  | .ftStreamCfgWrite stream value => Sys2Proof.Machine.execFtStreamCfgWrite stream value s
  | .heat ring handle => Sys2Proof.Machine.execHeat ring handle s
  | .pin ring handle => Sys2Proof.Machine.execPin ring handle s
  | .group ring handle => Sys2Proof.Machine.execGroup ring handle s
  | .colocate ring handle => Sys2Proof.Machine.execColocate ring handle s
  | .hazelown ring handle => Sys2Proof.Machine.execHazelown ring handle s
  | .topGroupCfgWrite value => Sys2Proof.Machine.execTopGroupCfgWrite value s
  | .heatRanking => Sys2Proof.Machine.execHeatRanking s
  | .heatHalving => Sys2Proof.Machine.execHeatHalving s
  | .balanceMove => Sys2Proof.Machine.execBalanceMove s
  | .readOnlyPlotMigration plot => Sys2Proof.Machine.execReadOnlyPlotMigration plot s
  | .migrationStart => Sys2Proof.Machine.execMigrationStart s
  | .migrationPageCopy plot => Sys2Proof.Machine.execMigrationPageCopy plot s
  | .migrationRelease plot => Sys2Proof.Machine.execMigrationRelease plot s
  | .slotDestageDecision => Sys2Proof.Machine.execSlotDestageDecision s
  | .pageCaptureComplete page => Sys2Proof.Machine.execPageCaptureComplete page s
  | .quicksetEntryError line => Sys2Proof.Machine.execQuicksetEntryError line s
  | .journalCopyWriteComplete count => Sys2Proof.Machine.execJournalCopyWriteComplete count s
  | .checkpointTimer ftier => Sys2Proof.Machine.execCheckpointTimer ftier s
  | .checkpointnow => Sys2Proof.Machine.execCheckpointnow s
  | .checkpointImageWritten ftier => Sys2Proof.Machine.execCheckpointImageWritten ftier s
  | .checkpointEndDurable ftier => Sys2Proof.Machine.execCheckpointEndDurable ftier s
  | .checkpointFailure => Sys2Proof.Machine.execCheckpointFailure s
  | .shutdownnow => Sys2Proof.Machine.execShutdownnow s
  | .flushStepComplete => Sys2Proof.Machine.execFlushStepComplete s
  | .recoveryPhaseComplete badBlocks => Sys2Proof.Machine.execRecoveryPhaseComplete badBlocks s
  | .checkRebuildPage loc bad decoded => Sys2Proof.Machine.execCheckRebuildPage loc bad decoded s
  | .snapshotUnitFree slot => Sys2Proof.Machine.execSnapshotUnitFree slot s
  | .mirrorLines qp epoch seq lines opens => Sys2Proof.Machine.execMirrorLines qp epoch seq lines opens s
  | .mirrorEndOfEpoch qp epoch seq opens => Sys2Proof.Machine.execMirrorEndOfEpoch qp epoch seq opens s
  | .mirrorApplyComplete => Sys2Proof.Machine.execMirrorApplyComplete s
  | .mirrorAcknowledgement qp epoch seq opens => Sys2Proof.Machine.execMirrorAcknowledgement qp epoch seq opens s
  | .mirrorRequestEpochAgain qp epoch seq opens => Sys2Proof.Machine.execMirrorRequestEpochAgain qp epoch seq opens s
  | .mirrorEndMarkerSend => Sys2Proof.Machine.execMirrorEndMarkerSend s
  | .mirrorEnable value => Sys2Proof.Machine.execMirrorEnable value s
  | .mirrorDisable value => Sys2Proof.Machine.execMirrorDisable value s
  | .hazelLoad core pc addr size signed dst outside => Sys2Proof.Machine.execHazelLoad core pc addr size signed dst outside s
  | .hazelStore core pc addr bytes => Sys2Proof.Machine.execHazelStore core pc addr bytes s
  | .hazelNtStore core pc addr bytes => Sys2Proof.Machine.execHazelNtStore core pc addr bytes s
  | .hazelAmo core pc op addr wide operand dst outside => Sys2Proof.Machine.execHazelAmo core pc op addr wide operand dst outside s
  | .hazelLr core pc addr wide dst outside => Sys2Proof.Machine.execHazelLr core pc addr wide dst outside s
  | .hazelSc core pc addr wide operand dst => Sys2Proof.Machine.execHazelSc core pc addr wide operand dst s
  | .fence core pc => Sys2Proof.Machine.execFence core pc s
  | .fenceI core pc => Sys2Proof.Machine.execFenceI core pc s
  | .combiningBufferIdle core line => Sys2Proof.Machine.execCombiningBufferIdle core line s
  | .storeAck core => Sys2Proof.Machine.execStoreAck core s
  | .storeTimeout core => Sys2Proof.Machine.execStoreTimeout core s
  | .earlyStoreDrop src addr dom => Sys2Proof.Machine.execEarlyStoreDrop src addr dom s
  | .hazelException core pc cause addr => Sys2Proof.Machine.execHazelException core pc cause addr s
  | .ringSqTailDoorbell ring dom value => Sys2Proof.Machine.execRingSqTailDoorbell ring dom value s
  | .ringCqHeadDoorbell ring dom value => Sys2Proof.Machine.execRingCqHeadDoorbell ring dom value s
  | .ringEnable ring => Sys2Proof.Machine.execRingEnable ring s
  | .ringDisable ring => Sys2Proof.Machine.execRingDisable ring s
  | .abort ring => Sys2Proof.Machine.execAbort ring s
  | .ringBindWrite ring value => Sys2Proof.Machine.execRingBindWrite ring value s
  | .descriptorFetch ring count => Sys2Proof.Machine.execDescriptorFetch ring count s
  | .descriptorReadComplete ring words => Sys2Proof.Machine.execDescriptorReadComplete ring words s
  | .descriptorComplete ring handle fails => Sys2Proof.Machine.execDescriptorComplete ring handle fails s
  | .ringNop ring handle => Sys2Proof.Machine.execRingNop ring handle s
  | .ftRead ring handle => Sys2Proof.Machine.execFtRead ring handle s
  | .ftWrite ring handle outside => Sys2Proof.Machine.execFtWrite ring handle outside s
  | .ftTrim ring handle => Sys2Proof.Machine.execFtTrim ring handle s
  | .ftFlush ring handle => Sys2Proof.Machine.execFtFlush ring handle s
  | .move ring handle outside => Sys2Proof.Machine.execMove ring handle outside s
  | .movePeerWrite ring handle outside => Sys2Proof.Machine.execMovePeerWrite ring handle outside s
  | .movePeerRead ring handle => Sys2Proof.Machine.execMovePeerRead ring handle s
  | .hzLaunch ring handle => Sys2Proof.Machine.execHzLaunch ring handle s
  | .gcmSeal ring handle outside => Sys2Proof.Machine.execGcmSeal ring handle outside s
  | .gcmOpen ring handle outside => Sys2Proof.Machine.execGcmOpen ring handle outside s
  | .epochCut ring handle => Sys2Proof.Machine.execEpochCut ring handle s
  | .snapshotCut ring handle => Sys2Proof.Machine.execSnapshotCut ring handle s
  | .snapshotDelete ring handle => Sys2Proof.Machine.execSnapshotDelete ring handle s
  | .snapshotRead ring handle => Sys2Proof.Machine.execSnapshotRead ring handle s
  | .adminShutdown ring handle => Sys2Proof.Machine.execAdminShutdown ring handle s
  | .adminSanitize ring handle => Sys2Proof.Machine.execAdminSanitize ring handle s
  | .adminSelftest ring handle => Sys2Proof.Machine.execAdminSelftest ring handle s
  | .adminCheckpoint ring handle => Sys2Proof.Machine.execAdminCheckpoint ring handle s
  | .progressRecord ring handle permille position => Sys2Proof.Machine.execProgressRecord ring handle permille position s
  | .notificationCoalesceTimer ring => Sys2Proof.Machine.execNotificationCoalesceTimer ring s
  | .remoteSubmission ring => Sys2Proof.Machine.execRemoteSubmission ring s
  | .qFlush queue => Sys2Proof.Machine.execQFlush queue s
  | .spillQuotaWrite queue quotaMiB => Sys2Proof.Machine.execSpillQuotaWrite queue quotaMiB s
  | .kernelStart die image args => Sys2Proof.Machine.execKernelStart die image args s
  | .exit core pc => Sys2Proof.Machine.execExit core pc s
  | .coresSync core pc => Sys2Proof.Machine.execCoresSync core pc s
  | .handlerReturn core => Sys2Proof.Machine.execHandlerReturn core s
  | .kernelCompletion kernel => Sys2Proof.Machine.execKernelCompletion kernel s
  | .kernelDeadline kernel => Sys2Proof.Machine.execKernelDeadline kernel s
  | .hzCoreReset core => Sys2Proof.Machine.execHzCoreReset core s
  | .coreDrainComplete core => Sys2Proof.Machine.execCoreDrainComplete core s
  | .imageflush die => Sys2Proof.Machine.execImageflush die s
  | .hzShmGrantWrite unit value => Sys2Proof.Machine.execHzShmGrantWrite unit value s
  | .ethFrameReceive port bytes mac fcsGood frame => Sys2Proof.Machine.execEthFrameReceive port bytes mac fcsGood frame s
  | .netQpCtx0Commit qp value => Sys2Proof.Machine.execNetQpCtx0Commit qp value s
  | .netMrCtlCommit region value => Sys2Proof.Machine.execNetMrCtlCommit region value s
  | .netGidCtlCommit index value => Sys2Proof.Machine.execNetGidCtlCommit index value s
  | .send qp psn first last bytes => Sys2Proof.Machine.execSend qp psn first last bytes s
  | .rdmaWrite qp psn first last addr rkey len bytes => Sys2Proof.Machine.execRdmaWrite qp psn first last addr rkey len bytes s
  | .rdmaWriteAckSend qp => Sys2Proof.Machine.execRdmaWriteAckSend qp s
  | .rdmaRead qp psn addr rkey len => Sys2Proof.Machine.execRdmaRead qp psn addr rkey len s
  | .readResponseSend qp => Sys2Proof.Machine.execReadResponseSend qp s
  | .compareAndSwap qp psn addr rkey compare swap => Sys2Proof.Machine.execCompareAndSwap qp psn addr rkey compare swap s
  | .fetchAndAdd qp psn addr rkey add => Sys2Proof.Machine.execFetchAndAdd qp psn addr rkey add s
  | .qpRetryTimeout qp => Sys2Proof.Machine.execQpRetryTimeout qp s
  | .ackReceive qp psn bytes => Sys2Proof.Machine.execAckReceive qp psn bytes s
  | .nakReceive qp psn kind => Sys2Proof.Machine.execNakReceive qp psn kind s
  | .pfcPauseReceive port pause => Sys2Proof.Machine.execPfcPauseReceive port pause s
  | .portPaused100ms port => Sys2Proof.Machine.execPortPaused100ms port s
  | .cnpReceive qp => Sys2Proof.Machine.execCnpReceive qp s
  | .ccAlphaTimer qp => Sys2Proof.Machine.execCcAlphaTimer qp s
  | .ccIncreaseTimer qp => Sys2Proof.Machine.execCcIncreaseTimer qp s
  | .portLinkUp port => Sys2Proof.Machine.execPortLinkUp port s
  | .portLinkDown port => Sys2Proof.Machine.execPortLinkDown port s
  | .loadGcmSlot dom slot => Sys2Proof.Machine.execLoadGcmSlot dom slot s
  | .clearGcmSlot dom slot => Sys2Proof.Machine.execClearGcmSlot dom slot s
  | .replaceXtsKey dom issuer => Sys2Proof.Machine.execReplaceXtsKey dom issuer s
  | .keyCommandComplete dom => Sys2Proof.Machine.execKeyCommandComplete dom s
  | .xtsKeySwitch dom => Sys2Proof.Machine.execXtsKeySwitch dom s
  | .keyPinRelease dom => Sys2Proof.Machine.execKeyPinRelease dom s
  | .keyReplicaLoad dom => Sys2Proof.Machine.execKeyReplicaLoad dom s
  | .cipherCoreOffline gcm core => Sys2Proof.Machine.execCipherCoreOffline gcm core s
  | .nearPathLaneFailure die => Sys2Proof.Machine.execNearPathLaneFailure die s
  | .kiliusTrainingStart port => Sys2Proof.Machine.execKiliusTrainingStart port s
  | .kiliusTrainingStep port id lanes => Sys2Proof.Machine.execKiliusTrainingStep port id lanes s
  | .kiliusTrainingStepFail port => Sys2Proof.Machine.execKiliusTrainingStepFail port s
  | .trainingBackoff port => Sys2Proof.Machine.execTrainingBackoff port s
  | .align port flit => Sys2Proof.Machine.execAlign port flit s
  | .delayprobe port flit => Sys2Proof.Machine.execDelayprobe port flit s
  | .delayecho port flit roundTripPs => Sys2Proof.Machine.execDelayecho port flit roundTripPs s
  | .pmreq port flit => Sys2Proof.Machine.execPmreq port flit s
  | .pmack port flit => Sys2Proof.Machine.execPmack port flit s
  | .pmnak port flit => Sys2Proof.Machine.execPmnak port flit s
  | .downnotice port flit => Sys2Proof.Machine.execDownnotice port flit s
  | .pmreqRetry port => Sys2Proof.Machine.execPmreqRetry port s
  | .payloadFlit port flit => Sys2Proof.Machine.execPayloadFlit port flit s
  | .idleFlit port flit => Sys2Proof.Machine.execIdleFlit port flit s
  | .flitCrcError port bytes => Sys2Proof.Machine.execFlitCrcError port bytes s
  | .ackTimeout port => Sys2Proof.Machine.execAckTimeout port s
  | .klRetrain port => Sys2Proof.Machine.execKlRetrain port s
  | .klDisable port disable => Sys2Proof.Machine.execKlDisable port disable s
  | .retrainingComplete port success id lanes => Sys2Proof.Machine.execRetrainingComplete port success id lanes s
  | .l1IdleTimer port => Sys2Proof.Machine.execL1IdleTimer port s
  | .l1Exit port asked success => Sys2Proof.Machine.execL1Exit port asked success s
  | .l2Timeout => Sys2Proof.Machine.execL2Timeout s
  | .sidebandLoss port => Sys2Proof.Machine.execSidebandLoss port s
  | .kiliusRead agent tag addr lenM1 host => Sys2Proof.Machine.execKiliusRead agent tag addr lenM1 host s
  | .writenp agent tag addr lenM1 poison bytes hostDone => Sys2Proof.Machine.execWritenp agent tag addr lenM1 poison bytes hostDone s
  | .fetchadd agent tag addr lenM1 addend => Sys2Proof.Machine.execFetchadd agent tag addr lenM1 addend s
  | .swap agent tag addr lenM1 value => Sys2Proof.Machine.execSwap agent tag addr lenM1 value s
  | .compareswap agent tag addr lenM1 compare value => Sys2Proof.Machine.execCompareswap agent tag addr lenM1 compare value s
  | .kiliusWrite agent addr lenM1 poison bytes => Sys2Proof.Machine.execKiliusWrite agent addr lenM1 poison bytes s
  | .cmp agent tag status => Sys2Proof.Machine.execCmp agent tag status s
  | .readdata agent tag status poison bytes => Sys2Proof.Machine.execReaddata agent tag status poison bytes s
  | .atomicdata agent tag status old => Sys2Proof.Machine.execAtomicdata agent tag status old s
  | .barrier agent tag posted requests => Sys2Proof.Machine.execBarrier agent tag posted requests s
  | .barrierComplete agent tag => Sys2Proof.Machine.execBarrierComplete agent tag s
  | .hostinterrupt agent ld vector => Sys2Proof.Machine.execHostinterrupt agent ld vector s
  | .postederror agent addr status index => Sys2Proof.Machine.execPostederror agent addr status index s
  | .launchfired agent slot state lateness late => Sys2Proof.Machine.execLaunchfired agent slot state lateness late s
  | .event agent severity code data => Sys2Proof.Machine.execEvent agent severity code data s
  | .admitAgent agent value => Sys2Proof.Machine.execAdmitAgent agent value s
  | .revoke agent value => Sys2Proof.Machine.execRevoke agent value s
  | .agentRequestTimeout agent tag => Sys2Proof.Machine.execAgentRequestTimeout agent tag s
  | .klAptCommit agent entry value => Sys2Proof.Machine.execKlAptCommit agent entry value s
  | .meshFlitError die router direction again => Sys2Proof.Machine.execMeshFlitError die router direction again s
  | .privetBoot bankA bankB badKeys udsBad => Sys2Proof.Machine.execPrivetBoot bankA bankB badKeys udsBad s
  | .componentCheckFailure component => Sys2Proof.Machine.execComponentCheckFailure component s
  | .commit => Sys2Proof.Machine.execCommit s
  | .revert => Sys2Proof.Machine.execRevert s
  | .getVersion ld => Sys2Proof.Machine.execGetVersion ld s
  | .getCapabilities ld => Sys2Proof.Machine.execGetCapabilities ld s
  | .negotiateAlgorithms ld offered => Sys2Proof.Machine.execNegotiateAlgorithms ld offered s
  | .getDigests ld => Sys2Proof.Machine.execGetDigests ld s
  | .getCertificate ld slot offset length => Sys2Proof.Machine.execGetCertificate ld slot offset length s
  | .challenge ld slot nonce => Sys2Proof.Machine.execChallenge ld slot nonce s
  | .getMeasurements ld index => Sys2Proof.Machine.execGetMeasurements ld index s
  | .spdmUnsupportedRequest ld request => Sys2Proof.Machine.execSpdmUnsupportedRequest ld request s
  | .importKek dom outside => Sys2Proof.Machine.execImportKek dom outside s
  | .eraseKek dom => Sys2Proof.Machine.execEraseKek dom s
  | .kekCommandComplete onCurve => Sys2Proof.Machine.execKekCommandComplete onCurve s
  | .idcode => Sys2Proof.Machine.execIdcode s
  | .bypass bit => Sys2Proof.Machine.execBypass bit s
  | .nonce => Sys2Proof.Machine.execNonce s
  | .pvDebugUnlockStart outside keyMatches signatureValid => Sys2Proof.Machine.execPvDebugUnlockStart outside keyMatches signatureValid s
  | .debugOpeningStep => Sys2Proof.Machine.execDebugOpeningStep s
  | .psWrite => Sys2Proof.Machine.execPsWrite s
  | .psPageWriteComplete => Sys2Proof.Machine.execPsPageWriteComplete s
  | .psRead bad => Sys2Proof.Machine.execPsRead bad s
  | .marginRefresh page fails => Sys2Proof.Machine.execMarginRefresh page fails s
  | .sequenceStepComplete => Sys2Proof.Machine.execSequenceStepComplete s
  | .seqPgDrop rail => Sys2Proof.Machine.execSeqPgDrop rail s
  | .sequenceWindowExpiry rail => Sys2Proof.Machine.execSequenceWindowExpiry rail s
  | .powerDownStep late => Sys2Proof.Machine.execPowerDownStep late s
  | .backoffExpiry => Sys2Proof.Machine.execBackoffExpiry s
  | .attemptCountReset => Sys2Proof.Machine.execAttemptCountReset s
  | .runningRailFault rail lowNs => Sys2Proof.Machine.execRunningRailFault rail lowNs s
  | .pfWarnNTrigger lowUs => Sys2Proof.Machine.execPfWarnNTrigger lowUs s
  | .flushLimitExpiry => Sys2Proof.Machine.execFlushLimitExpiry s
  | .inputReturn => Sys2Proof.Machine.execInputReturn s
  | .holduptest v0Mv => Sys2Proof.Machine.execHolduptest v0Mv s
  | .holdupInterval v0Mv => Sys2Proof.Machine.execHoldupInterval v0Mv s
  | .holdupTestComplete v1Mv => Sys2Proof.Machine.execHoldupTestComplete v1Mv s
  | .sensorSample sensor raw fault => Sys2Proof.Machine.execSensorSample sensor raw fault s
  | .throttleFall loop => Sys2Proof.Machine.execThrottleFall loop s
  | .powerEstimate watts => Sys2Proof.Machine.execPowerEstimate watts s
  | .hardwareTrip sensor => Sys2Proof.Machine.execHardwareTrip sensor s
  | .tripResetRelease => Sys2Proof.Machine.execTripResetRelease s
  | .startHoldTimeout => Sys2Proof.Machine.execStartHoldTimeout s
  | .eventIntake => Sys2Proof.Machine.execEventIntake s
  | .eventRecordWrite => Sys2Proof.Machine.execEventRecordWrite s
  | .routeHoldExpiry route => Sys2Proof.Machine.execRouteHoldExpiry route s
  | .persistentCopyWrite => Sys2Proof.Machine.execPersistentCopyWrite s
  | .repeatRewrite seq => Sys2Proof.Machine.execRepeatRewrite seq s
  | .evrCursorWrite value => Sys2Proof.Machine.execEvrCursorWrite value s
  | .next => Sys2Proof.Machine.execNext s
  | .clearram => Sys2Proof.Machine.execClearram s
  | .clearpersist => Sys2Proof.Machine.execClearpersist s
  | .counterWrap counter => Sys2Proof.Machine.execCounterWrap counter s
  | .pmcCntWrite counter value => Sys2Proof.Machine.execPmcCntWrite counter value s
  | .pmcFreeze groups => Sys2Proof.Machine.execPmcFreeze groups s
  | .pmcThaw groups => Sys2Proof.Machine.execPmcThaw groups s
  | .bwWindowOpen index value => Sys2Proof.Machine.execBwWindowOpen index value s
  | .bwWindowClose index => Sys2Proof.Machine.execBwWindowClose index s
  | .sampleTake counter pc dataAddr latencyNs addrValid latencyValid => Sys2Proof.Machine.execSampleTake counter pc dataAddr latencyNs addrValid latencyValid s
  | .sampleArrival cluster => Sys2Proof.Machine.execSampleArrival cluster s
  | .pmcSampleEnable value => Sys2Proof.Machine.execPmcSampleEnable value s
  | .pmcSampleRdWrite value => Sys2Proof.Machine.execPmcSampleRdWrite value s
  | .coldreset => Sys2Proof.Machine.execColdreset s
  | .coldResetStep bankA bankB badKeys udsBad => Sys2Proof.Machine.execColdResetStep bankA bankB badKeys udsBad s
  | .startupMilestone milestone found => Sys2Proof.Machine.execStartupMilestone milestone found s
  | .sanitizePhase => Sys2Proof.Machine.execSanitizePhase s
  | .sanitizeOverwriteBatch => Sys2Proof.Machine.execSanitizeOverwriteBatch s
  | .selftestClassComplete failed units => Sys2Proof.Machine.execSelftestClassComplete failed units s
  | .ppsInSourceLoss => Sys2Proof.Machine.execPpsInSourceLoss s
  | .standbyRailLoss => Sys2Proof.Machine.execStandbyRailLoss s
  | .debugUnlockInstruction token keyMatches signatureValid => Sys2Proof.Machine.execDebugUnlockInstruction token keyMatches signatureValid s
  | .phyretrainRequest port => Sys2Proof.Machine.execPhyretrainRequest port s
  | .recoveryBoundExpiry => Sys2Proof.Machine.execRecoveryBoundExpiry s
  | .hostApertureTimeout agent tag => Sys2Proof.Machine.execHostApertureTimeout agent tag s
  | .hbmInterfaceRecalibration => Sys2Proof.Machine.execHbmInterfaceRecalibration s
  | .poweredHoursIncrement => Sys2Proof.Machine.execPoweredHoursIncrement s

end Sys2Proof.Machine
end

