-- ==== Sys2Proof/Machine/Idle.lean ====
section
/-!
DEFINITION. What the block does while no command waits: one nanosecond passes.
-/
namespace Sys2Proof.Machine

/-- DESIGN CHOICE (assumption 2): on an empty queue the clock advances by 1 ns.  Each whole microsecond in which a write waits for
tokens counts in MT_THROTTLE_COUNT (R174), and what waited for lines or for Quickset space goes on.
Assumptions 2 (DESIGN CHOICE), 127 (DEDUCED), 128 (DESIGN CHOICE). -/
def State.idle (s : State) : State :=
  let s := s.tick
  let s := if s.clk % 1000 = 0 && (List.range s.channels).any (fun c => s.on (F.mtChStatusThrottled c)) then
      s.bump F.mtThrottleCountUs
    else s
  s.goOn

end Sys2Proof.Machine
end

