-- ==== Sys2Proof/WellFormed.lean ====
section
/-!
DEFINITION. Which commands are well formed: every operand that names a numbered unit names one that the largest part has.  What a
smaller part lacks is refused by the command's own meaning.
-/
namespace Sys2Proof

/-- A CXL link (Table 3.1). -/
def isLink (n : Nat) : Bool := n < 4
/-- A logical device (R77). -/
def isLd (n : Nat) : Bool := n < 64
/-- A domain (R39). -/
def isDomain (n : Nat) : Bool := n < 1024
/-- A ring pair (R356). -/
def isRing (n : Nat) : Bool := n < 4096
/-- A customer agent (chapter 16). -/
def isAgent (n : Nat) : Bool := n < 2
/-- A Hazel core (chapter 12). -/
def isHazelCore (n : Nat) : Bool := n < 256
/-- An XTS or GCM core (R445). -/
def isCipherCore (n : Nat) : Bool := n < 16
/-- An M-channel (Table 1.1). -/
def isMchan (n : Nat) : Bool := n < 32
/-- An F-channel (Table 1.1). -/
def isFchan (n : Nat) : Bool := n < 64
/-- A media die. -/
def isMediaDie (n : Nat) : Bool := n < 8
/-- A NAND die of an F-channel. -/
def isNandDie (n : Nat) : Bool := n < 16
/-- A die with a mesh: media dies, then the hub. -/
def isMeshDie (n : Nat) : Bool := n < 9
/-- An Ethernet port. -/
def isEthPort (n : Nat) : Bool := n < 16
/-- A Kilius port K0 to K10. -/
def isKiliusPort (n : Nat) : Bool := n < 11
/-- A bank lane of a channel. -/
def isLane (n : Nat) : Bool := n < 32
/-- A rank of a channel. -/
def isRank (n : Nat) : Bool := n < 2
/-- A NAND plane. -/
def isPlane (n : Nat) : Bool := n < 4
/-- An HBM3E stack. -/
def isStack (n : Nat) : Bool := n < 4
/-- A temperature sensor (Table 18.5). -/
def isSensor (n : Nat) : Bool := n < 96
/-- A rail (Table 18.1). -/
def isRail (n : Nat) : Bool := n < 24
/-- An internal queue (Table 11.15). -/
def isQueue (n : Nat) : Bool := n < 640
/-- A counter of chapter 19. -/
def isCounter (n : Nat) : Bool := n < 3200
/-- A packet sequence number. -/
def isPsn (n : Nat) : Bool := n < 2 ^ 24
/-- An F-tier stream (Table 7.10). -/
def isStream (n : Nat) : Bool := n < 8
/-- An extent of a logical device. -/
def isExtent (n : Nat) : Bool := n < 8
/-- A queue pair, as NET_QP_CURSOR names it. -/
def isQp (n : Nat) : Bool := n < 65536
/-- Thousandths done (R374). -/
def isPermille (n : Nat) : Bool := n < 1000
/-- A start-up milestone (R609). -/
def isMilestone (n : Nat) : Bool := n < 8
/-- A unit of shared memory (R388). -/
def isShmUnit (n : Nat) : Bool := n < 256
/-- An Espalier address. -/
def isEspalier (n : Nat) : Bool := n < 2 ^ 48

def RangeIssue.wf : RangeIssue → Bool
  | .slot n => n < 8
  | .descriptor ring _ => isRing ring

def LaunchUnit.wf : LaunchUnit → Bool
  | .hub => true
  | .die d => isMediaDie d
  | .core h => isHazelCore h

def ClockSource.wf : ClockSource → Bool
  | .hub => true
  | .hbm k => isStack k
  | .port k => isKiliusPort k
  | .dorfoad d => isMediaDie d
  | .nand d => isMediaDie d
  | .cluster d => isMediaDie d
  | .cxl => true
  | .ethernet => true
  | .crystal => true

/-- A command is well formed. -/
def Instr.wf : Instr → Bool
  | .registerWrite dom addr _ _ => isDomain dom && isEspalier addr
  | .registerAccessBadWidth dom addr _ _ => isDomain dom && isEspalier addr
  | .powerOn => true
  | .porstNAssert => true
  | .hbmStackFailure stack => isStack stack
  | .clockMonitorLoss clock => clock.wf
  | .mediaDieLoss die => isMediaDie die
  | .ptpMessageReceive port _ => isEthPort port
  | .ptpSourceLoss => true
  | .ppsInEdge => true
  | .tbSetWrite _ => true
  | .tbCtlWrite _ => true
  | .holdoverExpiry => true
  | .tcxoFailure => true
  | .ppsOutPulse => true
  | .timeMessageSend => true
  | .timeMessageReceive port _ _ => isKiliusPort port
  | .dieTimeLost die => isMediaDie die
  | .dieLaunchHold die => isMediaDie die
  | .agentTimeLost agent => isAgent agent
  | .launchSlotArm unit _ _ => unit.wf
  | .launchSlotCancel unit _ _ => unit.wf
  | .launchSlotFire unit _ => unit.wf
  | .launchArmSend agent _ => isAgent agent
  | .cxlLinkTrained link _ _ => isLink link
  | .cxlLinkDown link => isLink link
  | .cxlLinkReset link => isLink link
  | .ldReset ld => isLd ld
  | .winLdBindWrite ld _ => isLd ld
  | .winLdExtentWrite ld extent _ => isLd ld && isExtent extent
  | .hdmDecoderCommit ld _ _ _ _ _ _ _ _ _ => isLd ld
  | .cxlMemRead link ld _ _ _ => isLink link && isLd ld
  | .memwr link ld _ _ _ _ => isLink link && isLd ld
  | .memwrptl link ld _ _ _ _ _ => isLink link && isLd ld
  | .birsp link _ _ => isLink link
  | .biTimeout link _ => isLink link
  | .sfEvictionComplete _ => true
  | .admissionRelease _ => true
  | .readDeadline _ => true
  | .clearentry => true
  | .clearall => true
  | .clearoverflow => true
  | .gpfPhase1 link => isLink link
  | .gpfPhase2 link => isLink link
  | .getEventRecords ld _ => isLd ld
  | .clearEventRecords ld _ _ _ => isLd ld
  | .getEventInterruptPolicy ld => isLd ld
  | .setEventInterruptPolicy ld _ => isLd ld
  | .getFwInfo ld => isLd ld
  | .transferFw ld _ _ _ => isLd ld
  | .activateFw ld _ _ => isLd ld
  | .getTimestamp ld => isLd ld
  | .setTimestamp ld _ => isLd ld
  | .getSupportedLogs ld => isLd ld
  | .getLog ld _ _ _ => isLd ld
  | .identifyMemoryDevice ld => isLd ld
  | .getPartitionInfo ld => isLd ld
  | .getHealthInfo ld => isLd ld
  | .getAlertConfiguration ld => isLd ld
  | .setAlertConfiguration ld _ => isLd ld
  | .getPoisonList ld _ _ _ => isLd ld
  | .injectPoison ld _ => isLd ld
  | .clearPoison ld _ _ => isLd ld
  | .sanitize ld => isLd ld
  | .unsupportedMailboxCommand ld _ => isLd ld
  | .getLdInfo link => isLink link
  | .getLdAllocations link _ _ => isLink link
  | .setLdAllocations link _ => isLink link
  | .quicksetMerge _ => true
  | .mediaWriteComplete _ => true
  | .lcEnable _ => true
  | .lcDisable _ => true
  | .clean issue => issue.wf
  | .invalidate issue => issue.wf
  | .prefetch issue => issue.wf
  | .lockRange issue => issue.wf
  | .unlock issue => issue.wf
  | .invalidateall issue => issue.wf
  | .rangeOpTurn => true
  | .rangeOpComplete _ => true
  | .hbmUncorrectable _ => true
  | .tagUncorrectable _ _ _ => true
  | .channelTrainingStep chan _ _ _ _ _ _ => isMchan chan
  | .bankReadArrival _ => true
  | .arrayReadComplete _ _ => true
  | .pageReadComplete _ _ _ => true
  | .strongDecodeComplete _ _ _ => true
  | .writeTokenGrant _ => true
  | .comparisonReadComplete chan lane => isMchan chan && isLane lane
  | .segmentEnd chan lane _ => isMchan chan && isLane lane
  | .forcedSegment chan lane => isMchan chan && isLane lane
  | .caAlert chan rank _ _ => isMchan chan && isRank rank
  | .retrainnow chan => isMchan chan
  | .retrainPeriodExpiry chan => isMchan chan
  | .retrainSliceComplete chan _ => isMchan chan
  | .internalRewriteStart _ _ _ => true
  | .ageMapRecompute => true
  | .driftRefreshTile _ => true
  | .refreshBehind => true
  | .scrubPageRead chan _ _ _ _ _ => isMchan chan
  | .scrubStarved chan => isMchan chan
  | .scrubLapOverLimit chan => isMchan chan
  | .retirePageByAddress _ => true
  | .retirePageByLocation _ => true
  | .retireRank _ => true
  | .retirementCopyComplete => true
  | .nandDieOffline chan die => isFchan chan && isNandDie die
  | .nandPageReadComplete _ _ _ => true
  | .programResume chan die => isFchan chan && isNandDie die
  | .destage _ => true
  | .programGroupComplete _ => true
  | .padTimer stream => isStream stream
  | .relocation _ => true
  | .dieCalibration chan die => isFchan chan && isNandDie die
  | .calibrationComplete chan die => isFchan chan && isNandDie die
  | .coppiceReclaim => true
  | .bandEraseComplete _ => true
  | .programFailure chan die plane => isFchan chan && isNandDie die && isPlane plane
  | .eraseFailure chan die plane => isFchan chan && isNandDie die && isPlane plane
  | .ftGrantEntryWrite _ => true
  | .ftStreamCfgWrite stream _ => isStream stream
  | .heat ring _ => isRing ring
  | .pin ring _ => isRing ring
  | .group ring _ => isRing ring
  | .colocate ring _ => isRing ring
  | .hazelown ring _ => isRing ring
  | .topGroupCfgWrite _ => true
  | .heatRanking => true
  | .heatHalving => true
  | .balanceMove => true
  | .readOnlyPlotMigration _ => true
  | .migrationStart => true
  | .migrationPageCopy _ => true
  | .migrationRelease _ => true
  | .slotDestageDecision => true
  | .pageCaptureComplete _ => true
  | .quicksetEntryError _ => true
  | .journalCopyWriteComplete _ => true
  | .checkpointTimer _ => true
  | .checkpointnow => true
  | .checkpointImageWritten _ => true
  | .checkpointEndDurable _ => true
  | .checkpointFailure => true
  | .shutdownnow => true
  | .flushStepComplete => true
  | .recoveryPhaseComplete _ => true
  | .checkRebuildPage _ _ _ => true
  | .snapshotUnitFree _ => true
  | .mirrorLines qp _ _ _ _ => isQp qp
  | .mirrorEndOfEpoch qp _ _ _ => isQp qp
  | .mirrorApplyComplete => true
  | .mirrorAcknowledgement qp _ _ _ => isQp qp
  | .mirrorRequestEpochAgain qp _ _ _ => isQp qp
  | .mirrorEndMarkerSend => true
  | .mirrorEnable _ => true
  | .mirrorDisable _ => true
  | .hazelLoad core _ _ _ _ _ _ => isHazelCore core
  | .hazelStore core _ _ _ => isHazelCore core
  | .hazelNtStore core _ _ _ => isHazelCore core
  | .hazelAmo core _ _ _ _ _ _ _ => isHazelCore core
  | .hazelLr core _ _ _ _ _ => isHazelCore core
  | .hazelSc core _ _ _ _ _ => isHazelCore core
  | .fence core _ => isHazelCore core
  | .fenceI core _ => isHazelCore core
  | .combiningBufferIdle core _ => isHazelCore core
  | .storeAck core => isHazelCore core
  | .storeTimeout core => isHazelCore core
  | .earlyStoreDrop _ _ dom => isDomain dom
  | .hazelException core _ _ _ => isHazelCore core
  | .ringSqTailDoorbell ring dom _ => isRing ring && isDomain dom
  | .ringCqHeadDoorbell ring dom _ => isRing ring && isDomain dom
  | .ringEnable ring => isRing ring
  | .ringDisable ring => isRing ring
  | .abort ring => isRing ring
  | .ringBindWrite ring _ => isRing ring
  | .descriptorFetch ring _ => isRing ring
  | .descriptorReadComplete ring _ => isRing ring
  | .descriptorComplete ring _ _ => isRing ring
  | .ringNop ring _ => isRing ring
  | .ftRead ring _ => isRing ring
  | .ftWrite ring _ _ => isRing ring
  | .ftTrim ring _ => isRing ring
  | .ftFlush ring _ => isRing ring
  | .move ring _ _ => isRing ring
  | .movePeerWrite ring _ _ => isRing ring
  | .movePeerRead ring _ => isRing ring
  | .hzLaunch ring _ => isRing ring
  | .gcmSeal ring _ _ => isRing ring
  | .gcmOpen ring _ _ => isRing ring
  | .epochCut ring _ => isRing ring
  | .snapshotCut ring _ => isRing ring
  | .snapshotDelete ring _ => isRing ring
  | .snapshotRead ring _ => isRing ring
  | .adminShutdown ring _ => isRing ring
  | .adminSanitize ring _ => isRing ring
  | .adminSelftest ring _ => isRing ring
  | .adminCheckpoint ring _ => isRing ring
  | .progressRecord ring _ permille _ => isRing ring && isPermille permille
  | .notificationCoalesceTimer ring => isRing ring
  | .remoteSubmission ring => isRing ring
  | .qFlush queue => isQueue queue
  | .spillQuotaWrite queue _ => isQueue queue
  | .kernelStart die _ _ => isMediaDie die
  | .exit core _ => isHazelCore core
  | .coresSync core _ => isHazelCore core
  | .handlerReturn core => isHazelCore core
  | .kernelCompletion _ => true
  | .kernelDeadline _ => true
  | .hzCoreReset core => isHazelCore core
  | .coreDrainComplete core => isHazelCore core
  | .imageflush die => isMediaDie die
  | .hzShmGrantWrite unit _ => isShmUnit unit
  | .ethFrameReceive port _ _ _ _ => isEthPort port
  | .netQpCtx0Commit qp _ => isQp qp
  | .netMrCtlCommit _ _ => true
  | .netGidCtlCommit _ _ => true
  | .send qp psn _ _ _ => isQp qp && isPsn psn
  | .rdmaWrite qp psn _ _ _ _ _ _ => isQp qp && isPsn psn
  | .rdmaWriteAckSend qp => isQp qp
  | .rdmaRead qp psn _ _ _ => isQp qp && isPsn psn
  | .readResponseSend qp => isQp qp
  | .compareAndSwap qp psn _ _ _ _ => isQp qp && isPsn psn
  | .fetchAndAdd qp psn _ _ _ => isQp qp && isPsn psn
  | .qpRetryTimeout qp => isQp qp
  | .ackReceive qp psn _ => isQp qp && isPsn psn
  | .nakReceive qp psn _ => isQp qp && isPsn psn
  | .pfcPauseReceive port _ => isEthPort port
  | .portPaused100ms port => isEthPort port
  | .cnpReceive qp => isQp qp
  | .ccAlphaTimer qp => isQp qp
  | .ccIncreaseTimer qp => isQp qp
  | .portLinkUp port => isEthPort port
  | .portLinkDown port => isEthPort port
  | .loadGcmSlot dom _ => isDomain dom
  | .clearGcmSlot dom _ => isDomain dom
  | .replaceXtsKey dom issuer => isDomain dom && isDomain issuer
  | .keyCommandComplete dom => isDomain dom
  | .xtsKeySwitch dom => isDomain dom
  | .keyPinRelease dom => isDomain dom
  | .keyReplicaLoad dom => isDomain dom
  | .cipherCoreOffline _ core => isCipherCore core
  | .nearPathLaneFailure die => isMediaDie die
  | .kiliusTrainingStart port => isKiliusPort port
  | .kiliusTrainingStep port _ _ => isKiliusPort port
  | .kiliusTrainingStepFail port => isKiliusPort port
  | .trainingBackoff port => isKiliusPort port
  | .align port _ => isKiliusPort port
  | .delayprobe port _ => isKiliusPort port
  | .delayecho port _ _ => isKiliusPort port
  | .pmreq port _ => isKiliusPort port
  | .pmack port _ => isKiliusPort port
  | .pmnak port _ => isKiliusPort port
  | .downnotice port _ => isKiliusPort port
  | .pmreqRetry port => isKiliusPort port
  | .payloadFlit port _ => isKiliusPort port
  | .idleFlit port _ => isKiliusPort port
  | .flitCrcError port _ => isKiliusPort port
  | .ackTimeout port => isKiliusPort port
  | .klRetrain port => isKiliusPort port
  | .klDisable port _ => isKiliusPort port
  | .retrainingComplete port _ _ _ => isKiliusPort port
  | .l1IdleTimer port => isKiliusPort port
  | .l1Exit port _ _ => isKiliusPort port
  | .l2Timeout => true
  | .sidebandLoss port => isKiliusPort port
  | .kiliusRead agent _ _ _ _ => isAgent agent
  | .writenp agent _ _ _ _ _ _ => isAgent agent
  | .fetchadd agent _ _ _ _ => isAgent agent
  | .swap agent _ _ _ _ => isAgent agent
  | .compareswap agent _ _ _ _ _ => isAgent agent
  | .kiliusWrite agent _ _ _ _ => isAgent agent
  | .cmp agent _ _ => isAgent agent
  | .readdata agent _ _ _ _ => isAgent agent
  | .atomicdata agent _ _ _ => isAgent agent
  | .barrier agent _ _ _ => isAgent agent
  | .barrierComplete agent _ => isAgent agent
  | .hostinterrupt agent ld _ => isAgent agent && isLd ld
  | .postederror agent _ _ _ => isAgent agent
  | .launchfired agent _ _ _ _ => isAgent agent
  | .event agent _ _ _ => isAgent agent
  | .admitAgent agent _ => isAgent agent
  | .revoke agent _ => isAgent agent
  | .agentRequestTimeout agent _ => isAgent agent
  | .klAptCommit agent _ _ => isAgent agent
  | .meshFlitError die _ _ _ => isMeshDie die
  | .privetBoot _ _ _ _ => true
  | .componentCheckFailure _ => true
  | .commit => true
  | .revert => true
  | .getVersion ld => isLd ld
  | .getCapabilities ld => isLd ld
  | .negotiateAlgorithms ld _ => isLd ld
  | .getDigests ld => isLd ld
  | .getCertificate ld _ _ _ => isLd ld
  | .challenge ld _ _ => isLd ld
  | .getMeasurements ld _ => isLd ld
  | .spdmUnsupportedRequest ld _ => isLd ld
  | .importKek dom _ => isDomain dom
  | .eraseKek dom => isDomain dom
  | .kekCommandComplete _ => true
  | .idcode => true
  | .bypass _ => true
  | .nonce => true
  | .pvDebugUnlockStart _ _ _ => true
  | .debugOpeningStep => true
  | .psWrite => true
  | .psPageWriteComplete => true
  | .psRead _ => true
  | .marginRefresh _ _ => true
  | .sequenceStepComplete => true
  | .seqPgDrop rail => isRail rail
  | .sequenceWindowExpiry rail => isRail rail
  | .powerDownStep _ => true
  | .backoffExpiry => true
  | .attemptCountReset => true
  | .runningRailFault rail _ => isRail rail
  | .pfWarnNTrigger _ => true
  | .flushLimitExpiry => true
  | .inputReturn => true
  | .holduptest _ => true
  | .holdupInterval _ => true
  | .holdupTestComplete _ => true
  | .sensorSample sensor _ _ => isSensor sensor
  | .throttleFall _ => true
  | .powerEstimate _ => true
  | .hardwareTrip sensor => isSensor sensor
  | .tripResetRelease => true
  | .startHoldTimeout => true
  | .eventIntake => true
  | .eventRecordWrite => true
  | .routeHoldExpiry _ => true
  | .persistentCopyWrite => true
  | .repeatRewrite _ => true
  | .evrCursorWrite _ => true
  | .next => true
  | .clearram => true
  | .clearpersist => true
  | .counterWrap counter => isCounter counter
  | .pmcCntWrite counter _ => isCounter counter
  | .pmcFreeze _ => true
  | .pmcThaw _ => true
  | .bwWindowOpen _ _ => true
  | .bwWindowClose _ => true
  | .sampleTake counter _ _ _ _ _ => isCounter counter
  | .sampleArrival cluster => isMediaDie cluster
  | .pmcSampleEnable _ => true
  | .pmcSampleRdWrite _ => true
  | .coldreset => true
  | .coldResetStep _ _ _ _ => true
  | .startupMilestone milestone _ => isMilestone milestone
  | .sanitizePhase => true
  | .sanitizeOverwriteBatch => true
  | .selftestClassComplete _ _ => true
  | .ppsInSourceLoss => true
  | .standbyRailLoss => true
  | .debugUnlockInstruction _ _ _ => true
  | .phyretrainRequest port => isKiliusPort port
  | .recoveryBoundExpiry => true
  | .hostApertureTimeout agent _ => isAgent agent
  | .hbmInterfaceRecalibration => true
  | .poweredHoursIncrement => true

end Sys2Proof
end

