-- ==== Sys2Proof/Machine/Package.lean ====
section
/-!
DEFINITION. The land grid of the package (R623 to R630) and the levels of the standby pins in reset (R633): what every land
carries, by its coordinates.
-/
namespace Sys2Proof.Machine

/-- A signal of a Dorfoad block (Table 21.2). -/
inductive DorfoadPin where
  | dq (n : Nat)
  | dqsP (k : Nat)
  | dqsN (k : Nat)
  | ca (n : Nat)
  | csN (rank : Nat)
  | ckP
  | ckN
  | alertN
  | rstN
  | tdP
  | tdN
deriving DecidableEq, Repr

/-- A signal of an ONFI block (Table 21.3). -/
inductive OnfiPin where
  | dq (n : Nat)
  | dqsP
  | dqsN
  | reP
  | reN
  | weN
  | cle
  | ale
  | ceN (k : Nat)
  | wpN
  | rbN
deriving DecidableEq, Repr

/-- A signal of the standby and management group (Table 21.4). -/
inductive StandbyPin where
  | porstN
  | pfWarnN
  | ppsIn
  | ppsOut
  | sysRefclkP
  | sysRefclkN
  | xtalIn
  | xtalOut
  | tcxoIn
  | vstby
  | fwfSck
  | fwfCsN
  | fwfIo (n : Nat)
  | fwfDqs
  | fwfRstN
  | dbgTck
  | dbgTms
  | dbgTdi
  | dbgTdo
  | dbgTrstN
  | seqEn (n : Nat)
  | seqPg (n : Nat)
  | nth (n : Nat)
  | bth (n : Nat)
  | thmRtn
  | huSense
  | huLoadEn
  | test (n : Nat)
deriving DecidableEq, Repr

/-- What a land carries: rails as Table 21.6 numbers them. -/
inductive Land where
  | ground
  | rail (n : Nat)
  | dorfoad (chan : Nat) (pin : DorfoadPin)
  | onfi (chan : Nat) (pin : OnfiPin)
  | cxl (port : Nat) (tx positive : Bool) (lane : Nat)
  | cxlRefclk (port : Nat) (positive : Bool)
  | cxlPerstN (port : Nat)
  | eth (group : Nat) (tx positive : Bool) (lane : Nat)
  | ethRefclk (group : Nat) (positive : Bool)
  | standby (pin : StandbyPin)
deriving DecidableEq, Repr

/-- Row j and column i of a Dorfoad block (Table 21.2). -/
def dorfoadLand (c i j : Nat) : Land :=
  if j ≤ 9 then
    .dorfoad c (if i ≤ 8 then .dq (8 * (j - 1) + i - 1) else if i = 9 then .dqsP (j - 1) else .dqsN (j - 1))
  else if j = 10 then .dorfoad c (.ca (i - 1))
  else if j = 11 then
    .dorfoad c ((if i ≤ 4 then some (.ca (9 + i)) else [DorfoadPin.csN 0, .csN 1, .ckP, .ckN, .alertN, .rstN][i - 5]?).getD .rstN)
  else if j = 12 then if i = 1 then .dorfoad c .tdP else if i = 2 then .dorfoad c .tdN else .rail 15
  else .ground

/-- Row j and column i of an ONFI block (Table 21.3). -/
def onfiLand (c i j : Nat) : Land :=
  match j with
  | 1 => .onfi c (.dq (i - 1))
  | 2 => .onfi c (([.dq 5, .dq 6, .dq 7, .dqsP, .dqsN][i - 1]?).getD OnfiPin.dqsN)
  | 3 => .onfi c (([.reP, .reN, .weN, .cle, .ale][i - 1]?).getD OnfiPin.ale)
  | 4 => .onfi c (.ceN (i - 1))
  | 5 => .onfi c (([.ceN 5, .ceN 6, .ceN 7, .wpN, .rbN][i - 1]?).getD OnfiPin.rbN)
  | 6 => if i ≤ 2 then .rail 16 else .ground
  | _ => .ground

/-- The pair slot and polarity of a column of a signal row (R626). -/
def pairSlot? (i : Nat) : Option (Nat × Bool) :=
  if i % 3 = 1 then none else some ((i - 2) / 3, i % 3 = 2)

/-- Row r and column i of a CXL port (R626). -/
def cxlLand (p i r : Nat) : Land :=
  if r ≤ 6 then
    match pairSlot? i with
    | some (s, pos) =>
      let n := (r - 1) % 3 * 6 + s
      if n < 16 then .cxl p (r ≤ 3) pos n else .ground
    | none => .ground
  else if r = 7 then
    if i = 2 then .cxlRefclk p true else if i = 3 then .cxlRefclk p false else if i = 5 then .cxlPerstN p else .ground
  else .ground

/-- Row r and column i of an Ethernet group (R626). -/
def ethLand (g i r : Nat) : Land :=
  if r ≤ 3 then
    match pairSlot? i with
    | some (s, pos) =>
      let q := (r - 1) * 6 + s
      if q < 16 then .eth g (q % 2 = 0) pos (8 * g + q / 2) else .ground
    | none => .ground
  else if r = 4 && i = 2 then .ethRefclk g true
  else if r = 4 && i = 3 then .ethRefclk g false
  else .ground

/-- Index k of the standby and management group (Table 21.4). -/
def standbyLand (k : Nat) : Land :=
  let pin : Option StandbyPin :=
    if k < 9 then
      [StandbyPin.porstN, .pfWarnN, .ppsIn, .ppsOut, .sysRefclkP, .sysRefclkN, .xtalIn, .xtalOut, .tcxoIn][k]?
    else if k < 13 then some .vstby
    else if k < 15 then some (if k = 13 then .fwfSck else .fwfCsN)
    else if k < 23 then some (.fwfIo (k - 15))
    else if k < 25 then some (if k = 23 then .fwfDqs else .fwfRstN)
    else if k < 30 then [StandbyPin.dbgTck, .dbgTms, .dbgTdi, .dbgTdo, .dbgTrstN][k - 25]?
    else if k < 54 then some (.seqEn (k - 30))
    else if k < 78 then some (.seqPg (k - 54))
    else if k < 94 then some (.nth (k - 78))
    else if k < 102 then some (.bth (k - 94))
    else if k < 106 then [StandbyPin.thmRtn, .thmRtn, .huSense, .huLoadEn][k - 102]?
    else if k < 114 then some (.test (k - 106))
    else none
  match pin with
  | some x => .standby x
  | none => .ground

/-- A land of the power group (R628). -/
def powerLand (x y : Nat) : Land :=
  if (x + y) % 2 = 1 then .ground
  else if y ≤ 36 then .rail 2
  else if y ≤ 42 then .rail 9
  else if y ≤ 58 then .rail (11 + (y - 43) / 4)
  else if y ≤ 60 then .rail 10
  else
    let n := (y - 61) / 2 * 19 + (if y % 2 = 1 then (x - 41) / 2 else 10 + (x - 42) / 2)
    .rail (if n < 12 then 3 else if n < 26 then 4 else if n < 33 then 5 else if n < 41 then 6 else if n < 46 then 7
      else if n < 49 then 8 else if n < 51 then 0 else 1)

/-- What the land at (x, y) carries, x from 1 to 99 and y from 1 to 88 (R623 to R628). Assumption 124 (DEDUCED). -/
def landAt (x y : Nat) : Land :=
  if 41 ≤ x && x ≤ 59 then
    let i := x - 40
    if y ≤ 8 then cxlLand 0 i y
    else if y ≤ 14 then ethLand 0 i (y - 8)
    else if y ≤ 22 then standbyLand (x - 41 + 19 * (y - 15))
    else if y ≤ 66 then powerLand x y
    else if y ≤ 74 then (if x % 2 = 1 then .rail (if y ≤ 70 then 21 else 22) else .ground)
    else if y ≤ 80 then ethLand 1 i (81 - y)
    else cxlLand 1 i (89 - y)
  else
    let d := if x ≤ 40 then (x - 1) / 10 else (x - 20) / 10
    let i := if x ≤ 40 then (x - 1) % 10 + 1 else (x - 20) % 10 + 1
    if y ≤ 60 then dorfoadLand (4 * d + (y - 1) / 15) i ((y - 1) % 15 + 1)
    else
      let f := (y - 61) / 7 * 2 + (if i ≤ 5 then 0 else 1)
      onfiLand (8 * d + f) (if i ≤ 5 then i else i - 5) ((y - 61) % 7 + 1)

/-- A land is connected on a part (R629, Table 21.5). Assumption 124 (DEDUCED). -/
def landConnected (p : Part) (x y : Nat) : Bool :=
  let unit : Bool :=
    if 41 ≤ x && x ≤ 59 then
      if 67 ≤ y && y ≤ 74 then p == .mhl8082 else if 75 ≤ y then !p.small else true
    else !(p.small && 60 ≤ x)
  let land : Bool := match landAt x y with
    | .standby (.test _) => false
    | .standby (.nth n) => !p.small || n < 8
    | .rail n => !((n = 13 || n = 14) && p.small)
    | _ => true
  unit && land

/-- The level of a standby output while PORST_N is low or VSTBY is absent (Table 21.10); none where it is high-impedance or the
table gives none. -/
def StandbyPin.resetLevel : StandbyPin → Option Bool
  | .seqEn _ => some false
  | .huLoadEn => some false
  | .ppsOut => some false
  | _ => none

end Sys2Proof.Machine
end

