-- ==== Sys2Proof/Safety.lean ====
section
/-!
DEFINITION. What counts as a safe state and a safe step, in the terms that statements use.
-/
namespace Sys2Proof.Machine

/-- The register file is in its canonical form: addresses rise, and no register is listed at its reset value. -/
def State.regsWf (s : State) : Bool := Store.wf (regReset s.part) s.regs

/-- Every addressed memory is in its canonical form: the M-tier media, Hazel shared memory and the parameter store. -/
def State.memWf (s : State) : Bool :=
  s.mt.media.wf && s.hz.shm.wf && Store.wf (fun _ => (0 : Byte)) s.pv.cells

/-- Every command that waits is well formed. -/
def State.queueWf (s : State) : Bool := s.pending.all Sys2Proof.Instr.wf

/-- The parts of the state that a command may change. -/
inductive Comp where
  /-- The registers. -/
  | regs
  /-- The timebase (chapter 2). -/
  | time
  /-- Events, records, counters and samples (chapter 19). -/
  | obs
  /-- The memory window (chapter 3). -/
  | win
  /-- Quickset (chapter 4). -/
  | qs
  /-- The line cache (chapter 4). -/
  | lc
  /-- The M-tier media (chapters 5 and 6). -/
  | mt
  /-- The memory window's journalled metadata (chapter 9). -/
  | md
  /-- The F-tier's journalled metadata (chapter 9). -/
  | fm
  /-- The F-tier (chapter 7). -/
  | ft
  /-- Topiary (chapter 8). -/
  | top
  /-- Persistence and recovery (chapter 9). -/
  | per
  /-- The rings (chapter 11). -/
  | rg
  /-- Privet (chapter 17). -/
  | pv
  /-- Hazel (chapters 10 and 12). -/
  | hz
  /-- The Ethernet ports and the queue pairs (chapter 13). -/
  | net
  /-- The cipher (chapter 15). -/
  | cip
  /-- The Kilius ports (chapter 14). -/
  | kl
  /-- The Kilius transactions (chapter 14). -/
  | kt
  /-- Power and temperature (chapter 18). -/
  | pw
  /-- What left the block. -/
  | out
  /-- The count of free values drawn. -/
  | free
deriving DecidableEq, Repr

/-- The number of a part of the state. -/
def Comp.idx (c : Comp) : Nat :=
  match c with
  | .regs => 0
  | .time => 1
  | .obs => 2
  | .win => 3
  | .qs => 4
  | .lc => 5
  | .mt => 6
  | .md => 7
  | .fm => 8
  | .ft => 9
  | .top => 10
  | .per => 11
  | .rg => 12
  | .pv => 13
  | .hz => 14
  | .net => 15
  | .cip => 16
  | .kl => 17
  | .kt => 18
  | .pw => 19
  | .out => 20
  | .free => 21

/-- A part of the state holds the same in two states. -/
@[reducible] def Comp.same (c : Comp) (s t : State) : Prop :=
  match c with
  | .regs => t.regs = s.regs
  | .time => t.time = s.time
  | .obs => t.obs = s.obs
  | .win => t.win = s.win
  | .qs => t.qs = s.qs
  | .lc => t.lc = s.lc
  | .mt => t.mt = s.mt
  | .md => t.md = s.md
  | .fm => t.fm = s.fm
  | .ft => t.ft = s.ft
  | .top => t.top = s.top
  | .per => t.per = s.per
  | .rg => t.rg = s.rg
  | .pv => t.pv = s.pv
  | .hz => t.hz = s.hz
  | .net => t.net = s.net
  | .cip => t.cip = s.cip
  | .kl => t.kl = s.kl
  | .kt => t.kt = s.kt
  | .pw => t.pw = s.pw
  | .out => t.out = s.out
  | .free => t.free = s.free

/-- Every part of the state. -/
def Comp.all : List Comp :=
  [.regs, .time, .obs, .win, .qs, .lc, .mt, .md, .fm, .ft, .top, .per, .rg, .pv, .hz, .net, .cip, .kl, .kt, .pw, .out, .free]

/-- Every part of the state but those listed. -/
def Comp.allBut (l : List Comp) : List Comp := Comp.all.filter (fun c => !l.contains c)

/-- The parts of the state that a command may change; it changes no other, whatever the state. -/
def footprint (c : Sys2Proof.Instr) : List Comp :=
  match c with
  | .registerWrite .. => Comp.allBut []
  | .registerAccessBadWidth .. => [.obs, .out]
  | .powerOn => Comp.allBut []
  | .porstNAssert => Comp.allBut [.md, .fm, .out]
  | .hbmStackFailure .. => Comp.allBut [.time, .ft, .pv, .net, .cip, .kl, .out]
  | .clockMonitorLoss .. => Comp.allBut [.pv]
  | .mediaDieLoss .. => Comp.allBut [.time, .pv, .net, .cip, .free]
  | .ptpMessageReceive .. => [.regs, .time, .obs, .free]
  | .ptpSourceLoss => [.regs, .time, .obs]
  | .ppsInEdge => [.regs, .time, .obs, .free]
  | .tbSetWrite .. => [.regs, .time, .obs, .free]
  | .tbCtlWrite .. => [.regs, .time, .obs, .free]
  | .holdoverExpiry => [.regs, .obs]
  | .tcxoFailure => [.regs, .obs]
  | .ppsOutPulse => [.time, .out]
  | .timeMessageSend => [.regs, .time, .obs, .kl, .out]
  | .timeMessageReceive .. => [.regs, .time]
  | .dieTimeLost .. => [.regs, .obs]
  | .dieLaunchHold .. => [.time]
  | .agentTimeLost .. => [.regs, .obs]
  | .launchSlotArm .. => [.regs, .obs, .md, .fm, .per, .rg, .hz, .kt, .free]
  | .launchSlotCancel .. => [.regs, .obs, .free]
  | .launchSlotFire .. => [.regs, .obs, .md, .fm, .per, .rg, .hz, .kt]
  | .launchArmSend .. => [.regs, .time, .obs, .kl, .out]
  | .cxlLinkTrained .. => [.regs, .obs]
  | .cxlLinkDown .. => Comp.allBut [.ft, .pv, .net, .free]
  | .cxlLinkReset .. => Comp.allBut [.ft, .pv, .net, .free]
  | .ldReset .. => Comp.allBut [.ft, .pv, .net, .pw, .free]
  | .winLdBindWrite .. => [.regs, .obs, .md, .fm, .per, .cip]
  | .winLdExtentWrite .. => [.regs, .obs, .md, .fm, .per]
  | .hdmDecoderCommit .. => [.obs, .win, .out]
  | .cxlMemRead .. => [.regs, .obs, .win, .lc, .top, .out]
  | .memwr .. => Comp.allBut [.time, .ft, .rg, .pv, .net, .cip, .pw, .free]
  | .memwrptl .. => Comp.allBut [.time, .ft, .rg, .pv, .net, .cip, .pw, .free]
  | .birsp .. => Comp.allBut [.ft, .pv, .pw]
  | .biTimeout .. => Comp.allBut [.ft, .pv, .pw]
  | .sfEvictionComplete .. => [.regs, .obs, .win, .lc, .top, .out]
  | .admissionRelease .. => [.regs, .win]
  | .readDeadline .. => [.regs, .obs, .win, .out]
  | .clearentry => [.regs, .obs, .md, .fm, .per]
  | .clearall => [.regs, .obs, .md, .fm, .per]
  | .clearoverflow => [.regs, .obs, .md, .fm, .per]
  | .gpfPhase1 .. => [.obs, .win, .out]
  | .gpfPhase2 .. => [.regs, .obs, .win, .out]
  | .getEventRecords .. => [.out]
  | .clearEventRecords .. => [.win, .out]
  | .getEventInterruptPolicy .. => [.out]
  | .setEventInterruptPolicy .. => [.win, .out]
  | .getFwInfo .. => [.out]
  | .transferFw .. => [.pv, .out]
  | .activateFw .. => [.regs, .pv, .out]
  | .getTimestamp .. => [.out]
  | .setTimestamp .. => [.regs, .time, .obs, .out, .free]
  | .getSupportedLogs .. => [.out, .free]
  | .getLog .. => [.out, .free]
  | .identifyMemoryDevice .. => [.out]
  | .getPartitionInfo .. => [.out]
  | .getHealthInfo .. => [.out]
  | .getAlertConfiguration .. => [.out]
  | .setAlertConfiguration .. => [.win, .out]
  | .getPoisonList .. => [.out]
  | .injectPoison .. => Comp.allBut [.time, .ft, .rg, .pv, .net, .cip, .pw, .free]
  | .clearPoison .. => Comp.allBut [.time, .ft, .rg, .pv, .net, .cip, .pw, .free]
  | .sanitize .. => [.regs, .out]
  | .unsupportedMailboxCommand .. => [.out]
  | .getLdInfo .. => [.out]
  | .getLdAllocations .. => [.out]
  | .setLdAllocations .. => [.out]
  | .quicksetMerge .. => Comp.allBut [.ft, .pv, .pw]
  | .mediaWriteComplete .. => Comp.allBut [.time, .ft, .rg, .pv, .net, .cip, .pw, .free]
  | .lcEnable .. => [.regs, .obs, .lc]
  | .lcDisable .. => [.regs, .obs, .win, .lc]
  | .clean .. => [.regs, .obs, .lc, .rg, .kt]
  | .invalidate .. => [.regs, .obs, .lc, .rg, .kt]
  | .prefetch .. => [.regs, .obs, .lc, .rg, .kt]
  | .lockRange .. => [.regs, .obs, .lc, .rg, .kt]
  | .unlock .. => [.regs, .obs, .lc, .rg, .kt]
  | .invalidateall .. => [.regs, .obs, .lc, .rg, .kt]
  | .rangeOpTurn => [.regs, .obs, .qs, .lc, .mt, .md, .fm, .top, .per]
  | .rangeOpComplete .. => [.regs, .obs, .lc, .md, .fm, .top, .per, .rg, .kt]
  | .hbmUncorrectable .. => [.regs, .obs, .qs, .lc, .mt, .md, .fm, .top, .per, .free]
  | .tagUncorrectable .. => [.regs, .obs, .qs, .lc, .mt, .md, .fm, .top, .per]
  | .channelTrainingStep .. => Comp.allBut [.time, .ft, .rg, .pv, .hz, .net, .cip]
  | .bankReadArrival .. => [.regs, .obs, .win, .lc, .mt, .out]
  | .arrayReadComplete .. => [.regs, .obs, .win, .lc, .mt, .md, .fm, .top, .per, .out]
  | .pageReadComplete .. => [.regs, .obs, .win, .lc, .mt, .md, .fm, .top, .per, .out]
  | .strongDecodeComplete .. => [.regs, .obs, .win, .lc, .mt, .md, .fm, .top, .per, .out]
  | .writeTokenGrant .. => [.regs, .obs, .win, .qs, .lc, .mt, .md, .fm, .per, .kl, .kt, .out]
  | .comparisonReadComplete .. => [.regs, .obs, .win, .mt, .md, .fm, .per]
  | .segmentEnd .. => [.regs, .obs, .win, .mt]
  | .forcedSegment .. => [.regs, .obs, .mt]
  | .caAlert .. => Comp.allBut [.time, .ft, .rg, .pv, .hz, .net, .cip]
  | .retrainnow .. => [.regs, .obs, .mt, .md, .fm, .per]
  | .retrainPeriodExpiry .. => [.regs, .obs, .mt, .md, .fm, .per]
  | .retrainSliceComplete .. => [.regs, .obs, .mt, .md, .fm, .per]
  | .internalRewriteStart .. => [.regs, .obs, .mt, .md, .fm, .top, .per]
  | .ageMapRecompute => [.regs, .time, .obs, .mt]
  | .driftRefreshTile .. => [.regs, .mt]
  | .refreshBehind => [.regs, .obs]
  | .scrubPageRead .. => [.regs, .obs, .mt, .md, .fm, .top, .per]
  | .scrubStarved .. => [.regs, .obs]
  | .scrubLapOverLimit .. => [.regs, .obs]
  | .retirePageByAddress .. => [.regs, .obs, .qs, .lc, .mt, .md, .fm, .per, .rg, .kt]
  | .retirePageByLocation .. => [.regs, .obs, .qs, .lc, .mt, .md, .fm, .per, .rg, .kt]
  | .retireRank .. => Comp.allBut [.time, .ft, .pv, .hz, .net, .cip, .kl, .pw, .out]
  | .retirementCopyComplete => [.regs, .obs, .qs, .lc, .mt, .md, .fm, .per, .rg, .kt, .free]
  | .nandDieOffline .. => [.regs, .obs, .md, .fm, .ft, .per]
  | .nandPageReadComplete .. => Comp.allBut [.time, .pv, .net, .cip, .pw, .free]
  | .programResume .. => [.ft]
  | .destage .. => [.regs, .obs, .md, .fm, .ft, .per]
  | .programGroupComplete .. => [.regs, .obs, .mt, .md, .fm, .ft, .top, .per, .rg, .kt]
  | .padTimer .. => [.regs, .obs, .md, .fm, .ft, .per]
  | .relocation .. => [.regs, .obs, .md, .fm, .ft, .per]
  | .dieCalibration .. => [.regs]
  | .calibrationComplete .. => [.regs, .obs, .md, .fm, .ft, .per]
  | .coppiceReclaim => [.regs, .obs, .md, .fm, .ft, .per]
  | .bandEraseComplete .. => [.regs, .obs, .md, .fm, .ft, .per]
  | .programFailure .. => [.regs, .obs, .md, .fm, .ft, .per]
  | .eraseFailure .. => [.regs, .obs, .md, .fm, .ft, .per]
  | .ftGrantEntryWrite .. => [.regs, .obs, .md, .fm, .ft, .per, .cip]
  | .ftStreamCfgWrite .. => [.regs, .obs, .md, .fm, .ft, .per]
  | .heat .. => [.regs, .obs, .md, .fm, .per, .rg, .kt]
  | .pin .. => [.regs, .obs, .md, .fm, .per, .rg, .kt]
  | .group .. => [.regs, .obs, .md, .fm, .per, .rg, .kt]
  | .colocate .. => [.regs, .obs, .md, .fm, .per, .rg, .kt]
  | .hazelown .. => [.regs, .obs, .lc, .md, .fm, .top, .per, .rg, .hz, .kt]
  | .topGroupCfgWrite .. => [.regs, .obs, .md, .fm, .per]
  | .heatRanking => [.regs, .obs, .mt, .md, .fm, .top, .per]
  | .heatHalving => [.ft, .top]
  | .balanceMove => [.regs, .obs, .md, .fm, .top, .per]
  | .readOnlyPlotMigration .. => [.regs, .obs, .md, .fm, .per]
  | .migrationStart => [.regs, .obs, .mt, .md, .fm, .per]
  | .migrationPageCopy .. => [.regs, .obs, .mt, .md, .fm, .per]
  | .migrationRelease .. => [.regs, .obs, .lc, .mt, .md, .fm, .top, .per, .rg, .kt, .free]
  | .slotDestageDecision => [.regs, .obs, .md, .fm, .ft, .per]
  | .pageCaptureComplete .. => [.regs, .obs, .md, .fm, .ft, .per]
  | .quicksetEntryError .. => [.regs, .obs, .win, .qs, .lc, .mt, .md, .fm, .top, .per, .out, .free]
  | .journalCopyWriteComplete .. => [.regs, .per]
  | .checkpointTimer .. => [.regs, .obs, .md, .fm, .per]
  | .checkpointnow => [.regs, .obs, .md, .fm, .per]
  | .checkpointImageWritten .. => [.regs, .obs, .md, .fm, .per]
  | .checkpointEndDurable .. => [.regs, .time, .obs, .per, .rg, .kt]
  | .checkpointFailure => [.regs, .obs, .qs, .lc, .mt, .md, .fm, .top, .per]
  | .shutdownnow => [.regs, .obs, .per, .pw]
  | .flushStepComplete => Comp.allBut [.ft, .rg, .pv, .net, .cip, .free]
  | .recoveryPhaseComplete .. => Comp.allBut [.time, .rg, .pv, .net, .cip, .kl, .kt, .pw, .out]
  | .checkRebuildPage .. => [.regs, .obs, .mt, .per]
  | .snapshotUnitFree .. => [.regs, .obs, .md, .fm, .per]
  | .mirrorLines .. => [.regs, .obs, .md, .fm, .per, .rg]
  | .mirrorEndOfEpoch .. => Comp.allBut [.time, .ft, .pv, .net, .cip, .pw, .free]
  | .mirrorApplyComplete => [.regs, .obs, .md, .fm, .per, .net, .out]
  | .mirrorAcknowledgement .. => [.regs, .obs, .md, .fm, .per, .rg]
  | .mirrorRequestEpochAgain .. => [.regs, .obs, .md, .fm, .per, .rg, .net, .out]
  | .mirrorEndMarkerSend => [.regs, .obs, .win, .per, .net, .out]
  | .mirrorEnable .. => [.regs, .obs, .md, .fm, .per]
  | .mirrorDisable .. => [.regs, .obs, .per]
  | .hazelLoad .. => Comp.allBut [.time, .ft, .rg, .pv, .net, .cip, .pw, .free]
  | .hazelStore .. => Comp.allBut [.time, .ft, .rg, .pv, .net, .cip, .pw, .free]
  | .hazelNtStore .. => Comp.allBut [.time, .ft, .rg, .pv, .net, .cip, .pw, .free]
  | .hazelAmo .. => Comp.allBut [.ft, .pv, .net, .pw]
  | .hazelLr .. => Comp.allBut [.time, .ft, .rg, .pv, .net, .cip, .pw, .free]
  | .hazelSc .. => Comp.allBut [.ft, .pv, .net, .pw]
  | .fence .. => Comp.allBut [.time, .ft, .rg, .pv, .net, .cip, .pw, .free]
  | .fenceI .. => Comp.allBut [.time, .ft, .rg, .pv, .net, .cip, .pw, .free]
  | .combiningBufferIdle .. => Comp.allBut [.time, .ft, .rg, .pv, .net, .cip, .pw, .free]
  | .storeAck .. => Comp.allBut [.ft, .pv, .net, .pw]
  | .storeTimeout .. => Comp.allBut [.time, .ft, .pv, .net, .cip, .pw]
  | .earlyStoreDrop .. => [.regs, .obs, .hz]
  | .hazelException .. => Comp.allBut [.time, .ft, .rg, .pv, .net, .cip, .pw, .free]
  | .ringSqTailDoorbell .. => [.regs, .obs, .free]
  | .ringCqHeadDoorbell .. => [.regs, .obs]
  | .ringEnable .. => [.regs, .obs, .rg, .cip]
  | .ringDisable .. => [.regs, .obs, .rg, .cip]
  | .abort .. => [.regs, .time, .obs, .md, .fm, .per, .rg, .hz, .cip, .kl, .kt, .out]
  | .ringBindWrite .. => Comp.allBut [.ft, .pv, .net, .pw, .free]
  | .descriptorFetch .. => [.regs, .obs, .rg]
  | .descriptorReadComplete .. => [.regs, .obs, .win, .md, .fm, .per, .rg, .hz, .cip, .kt, .out]
  | .descriptorComplete .. => Comp.allBut [.time, .ft, .pv, .pw, .free]
  | .ringNop .. => [.rg, .kt]
  | .ftRead .. => Comp.allBut [.time, .pv, .net, .cip, .pw, .free]
  | .ftWrite .. => Comp.allBut [.time, .qs, .lc, .pv, .hz, .net, .cip, .pw, .free]
  | .ftTrim .. => [.regs, .obs, .mt, .md, .fm, .ft, .top, .per, .rg, .kt]
  | .ftFlush .. => [.rg, .kt]
  | .move .. => Comp.allBut [.time, .ft, .pv, .net, .cip, .pw, .free]
  | .movePeerWrite .. => [.regs, .obs, .win, .rg, .net, .kl, .kt, .out]
  | .movePeerRead .. => [.regs, .obs, .rg, .net, .kt, .out]
  | .hzLaunch .. => [.regs, .rg, .hz, .kt]
  | .gcmSeal .. => Comp.allBut [.time, .ft, .pv, .net, .pw, .free]
  | .gcmOpen .. => Comp.allBut [.time, .ft, .pv, .net, .pw, .free]
  | .epochCut .. => [.regs, .obs, .md, .fm, .per, .rg, .hz, .kt]
  | .snapshotCut .. => [.regs, .obs, .md, .fm, .per, .rg, .hz, .kt]
  | .snapshotDelete .. => [.regs, .obs, .md, .fm, .per, .rg, .kt]
  | .snapshotRead .. => Comp.allBut [.time, .ft, .pv, .net, .cip, .pw, .free]
  | .adminShutdown .. => [.regs, .obs, .per, .pw]
  | .adminSanitize .. => [.regs, .rg, .kt]
  | .adminSelftest .. => Comp.allBut [.time, .ft, .pv, .net, .cip, .free]
  | .adminCheckpoint .. => [.regs, .obs, .md, .fm, .per]
  | .progressRecord .. => Comp.allBut [.time, .ft, .pv, .cip, .pw, .free]
  | .notificationCoalesceTimer .. => [.regs, .obs, .win, .rg, .kl, .kt, .out]
  | .remoteSubmission .. => Comp.allBut [.time, .ft, .pv, .cip, .pw, .free]
  | .qFlush .. => Comp.allBut [.time, .ft, .pv, .cip, .pw, .free]
  | .spillQuotaWrite .. => [.regs, .obs]
  | .kernelStart .. => [.regs, .obs, .md, .fm, .per, .rg, .hz, .kt]
  | .exit .. => Comp.allBut [.time, .ft, .rg, .pv, .net, .cip, .pw, .free]
  | .coresSync .. => Comp.allBut [.time, .ft, .rg, .pv, .net, .cip, .pw, .free]
  | .handlerReturn .. => [.regs, .hz]
  | .kernelCompletion .. => [.regs, .obs, .md, .fm, .per, .rg, .hz, .kt]
  | .kernelDeadline .. => Comp.allBut [.time, .ft, .rg, .pv, .net, .cip, .pw]
  | .hzCoreReset .. => Comp.allBut [.time, .ft, .rg, .pv, .net, .cip, .pw]
  | .coreDrainComplete .. => [.regs, .hz]
  | .imageflush .. => [.hz]
  | .hzShmGrantWrite .. => [.regs, .obs, .cip]
  | .ethFrameReceive .. => [.regs, .obs, .rg, .net, .kt, .out]
  | .netQpCtx0Commit .. => [.regs, .obs, .md, .fm, .per, .rg, .net, .cip, .kt, .out]
  | .netMrCtlCommit .. => [.obs, .net]
  | .netGidCtlCommit .. => [.obs, .net]
  | .send .. => [.regs, .obs, .rg, .net, .kt, .out]
  | .rdmaWrite .. => Comp.allBut [.time, .ft, .pv, .cip, .pw, .free]
  | .rdmaWriteAckSend .. => [.net, .out]
  | .rdmaRead .. => [.regs, .obs, .rg, .net, .kt, .out]
  | .readResponseSend .. => [.regs, .obs, .win, .rg, .net, .kt, .out]
  | .compareAndSwap .. => Comp.allBut [.time, .ft, .pv, .cip, .pw, .free]
  | .fetchAndAdd .. => Comp.allBut [.time, .ft, .pv, .cip, .pw, .free]
  | .qpRetryTimeout .. => [.regs, .obs, .rg, .net, .kt, .out]
  | .ackReceive .. => Comp.allBut [.time, .ft, .pv, .cip, .pw, .free]
  | .nakReceive .. => [.regs, .obs, .rg, .net, .kt, .out]
  | .pfcPauseReceive .. => [.regs, .obs, .net, .out]
  | .portPaused100ms .. => [.obs, .net]
  | .cnpReceive .. => [.net]
  | .ccAlphaTimer .. => [.net]
  | .ccIncreaseTimer .. => [.net]
  | .portLinkUp .. => [.regs, .obs]
  | .portLinkDown .. => [.regs, .obs, .pw]
  | .loadGcmSlot .. => [.regs, .obs, .cip]
  | .clearGcmSlot .. => [.regs, .obs, .cip]
  | .replaceXtsKey .. => [.regs, .obs, .cip]
  | .keyCommandComplete .. => [.regs, .obs, .cip]
  | .xtsKeySwitch .. => [.regs, .obs, .cip]
  | .keyPinRelease .. => [.regs, .cip]
  | .keyReplicaLoad .. => [.regs, .obs, .cip]
  | .cipherCoreOffline .. => [.regs, .obs, .cip, .pw]
  | .nearPathLaneFailure .. => [.regs, .obs, .cip, .pw]
  | .kiliusTrainingStart .. => [.regs, .kl]
  | .kiliusTrainingStep .. => Comp.allBut [.pv]
  | .kiliusTrainingStepFail .. => Comp.allBut [.pv]
  | .trainingBackoff .. => [.regs, .kl, .out]
  | .align .. => Comp.allBut [.pv]
  | .delayprobe .. => Comp.allBut [.pv]
  | .delayecho .. => Comp.allBut [.pv]
  | .pmreq .. => Comp.allBut [.pv]
  | .pmack .. => Comp.allBut [.pv]
  | .pmnak .. => Comp.allBut [.pv]
  | .downnotice .. => Comp.allBut [.pv]
  | .pmreqRetry .. => [.kl, .out]
  | .payloadFlit .. => Comp.allBut [.pv]
  | .idleFlit .. => Comp.allBut [.pv]
  | .flitCrcError .. => [.regs, .obs, .kl, .out]
  | .ackTimeout .. => [.regs, .obs, .kl, .out]
  | .klRetrain .. => [.regs, .kl, .out]
  | .klDisable .. => Comp.allBut [.pv]
  | .retrainingComplete .. => Comp.allBut [.pv]
  | .l1IdleTimer .. => [.kl, .out]
  | .l1Exit .. => [.regs, .time, .obs, .kl, .kt, .out]
  | .l2Timeout => Comp.allBut [.md, .fm, .out]
  | .sidebandLoss .. => Comp.allBut [.pv]
  | .kiliusRead .. => Comp.allBut [.pv]
  | .writenp .. => Comp.allBut [.pv]
  | .fetchadd .. => Comp.allBut [.pv]
  | .swap .. => Comp.allBut [.pv]
  | .compareswap .. => Comp.allBut [.pv]
  | .kiliusWrite .. => Comp.allBut [.ft, .pv, .net, .pw]
  | .cmp .. => Comp.allBut [.time, .ft, .pv, .net, .cip, .pw, .free]
  | .readdata .. => Comp.allBut [.time, .ft, .pv, .net, .cip, .pw, .free]
  | .atomicdata .. => Comp.allBut [.time, .ft, .pv, .net, .cip, .pw, .free]
  | .barrier .. => [.regs, .obs, .kl, .kt, .out]
  | .barrierComplete .. => [.regs, .obs, .kl, .kt, .out]
  | .hostinterrupt .. => [.obs, .win, .out, .free]
  | .postederror .. => [.regs, .obs, .hz, .kt]
  | .launchfired .. => [.regs, .time]
  | .event .. => [.regs, .obs, .kt]
  | .admitAgent .. => [.regs, .obs, .cip, .free]
  | .revoke .. => Comp.allBut [.time, .ft, .pv, .net, .pw, .free]
  | .agentRequestTimeout .. => Comp.allBut [.time, .ft, .pv, .net, .cip, .pw]
  | .klAptCommit .. => [.regs, .obs]
  | .meshFlitError .. => Comp.allBut [.time, .pv, .net, .cip, .free]
  | .privetBoot .. => [.regs, .obs, .pv, .cip, .pw, .free]
  | .componentCheckFailure .. => Comp.allBut [.md, .fm, .out]
  | .commit => [.regs, .obs, .pv]
  | .revert => [.regs, .pv]
  | .getVersion .. => [.out]
  | .getCapabilities .. => [.out]
  | .negotiateAlgorithms .. => [.out]
  | .getDigests .. => [.out]
  | .getCertificate .. => [.out]
  | .challenge .. => [.out]
  | .getMeasurements .. => [.out]
  | .spdmUnsupportedRequest .. => [.out]
  | .importKek .. => [.regs, .obs, .win, .pv, .kl, .kt, .out]
  | .eraseKek .. => [.regs, .obs, .pv]
  | .kekCommandComplete .. => [.regs, .obs, .pv]
  | .idcode => [.out]
  | .bypass .. => [.out]
  | .nonce => [.out]
  | .pvDebugUnlockStart .. => [.regs, .obs, .win, .pv, .kl, .kt, .out, .free]
  | .debugOpeningStep => Comp.allBut []
  | .psWrite => [.regs, .obs, .pv]
  | .psPageWriteComplete => [.regs, .pv, .free]
  | .psRead .. => [.regs, .obs, .pv, .free]
  | .marginRefresh .. => [.regs, .obs, .pv]
  | .sequenceStepComplete => [.regs, .obs, .pw]
  | .seqPgDrop .. => Comp.allBut [.md, .fm, .out]
  | .sequenceWindowExpiry .. => Comp.allBut [.md, .fm, .out]
  | .powerDownStep .. => [.regs, .obs, .pv, .pw]
  | .backoffExpiry => Comp.allBut [.md, .fm, .out]
  | .attemptCountReset => [.regs]
  | .runningRailFault .. => Comp.allBut []
  | .pfWarnNTrigger .. => Comp.allBut [.md, .fm]
  | .flushLimitExpiry => [.kl, .pw, .out]
  | .inputReturn => Comp.allBut [.md, .fm, .out]
  | .holduptest .. => [.pv, .pw]
  | .holdupInterval .. => [.pv, .pw]
  | .holdupTestComplete .. => [.regs, .obs, .qs, .lc, .mt, .md, .fm, .top, .per, .pw, .free]
  | .sensorSample .. => Comp.allBut [.out]
  | .throttleFall .. => [.regs, .obs, .md, .fm, .ft, .per, .pw]
  | .powerEstimate .. => [.regs, .obs, .pw, .free]
  | .hardwareTrip .. => Comp.allBut [.md, .fm, .out]
  | .tripResetRelease => [.regs, .obs, .pv, .pw]
  | .startHoldTimeout => Comp.allBut [.md, .fm, .out]
  | .eventIntake => [.regs, .obs, .pv]
  | .eventRecordWrite => [.regs, .obs, .win, .pv, .kl, .kt, .out]
  | .routeHoldExpiry .. => [.regs, .obs, .win, .kl, .kt, .out]
  | .persistentCopyWrite => [.regs, .obs]
  | .repeatRewrite .. => [.obs]
  | .evrCursorWrite .. => [.regs, .obs]
  | .next => [.regs, .obs]
  | .clearram => [.regs, .obs, .win, .pv, .kl, .kt, .out]
  | .clearpersist => [.regs, .obs, .win, .pv, .kl, .kt, .out]
  | .counterWrap .. => [.obs]
  | .pmcCntWrite .. => [.obs]
  | .pmcFreeze .. => [.regs]
  | .pmcThaw .. => [.regs, .obs]
  | .bwWindowOpen .. => [.regs, .obs]
  | .bwWindowClose .. => [.regs, .obs]
  | .sampleTake .. => [.regs, .obs]
  | .sampleArrival .. => [.regs, .obs, .hz, .out]
  | .pmcSampleEnable .. => [.regs]
  | .pmcSampleRdWrite .. => [.regs]
  | .coldreset => [.regs, .obs, .per, .pw]
  | .coldResetStep .. => Comp.allBut []
  | .startupMilestone .. => Comp.allBut []
  | .sanitizePhase => Comp.allBut [.time, .top, .hz, .net, .kl, .pw, .out, .free]
  | .sanitizeOverwriteBatch => [.regs, .mt]
  | .selftestClassComplete .. => [.regs, .obs, .per, .rg, .kt, .pw]
  | .ppsInSourceLoss => [.regs, .time, .obs]
  | .standbyRailLoss => Comp.allBut [.md, .fm, .out]
  | .debugUnlockInstruction .. => [.regs, .obs, .pv, .out, .free]
  | .phyretrainRequest .. => [.regs, .kl, .out]
  | .recoveryBoundExpiry => [.obs]
  | .hostApertureTimeout .. => [.regs, .obs, .kl, .kt, .out]
  | .hbmInterfaceRecalibration => []
  | .poweredHoursIncrement => [.pv]

/-- The source, the severity and the domain of the last event raised. -/
def State.lastEvent (s : State) : Option (Nat × Nat × Nat) := s.obs.raised.getLast?.map (fun e => (e.src, e.sev, e.dom))

/-- What every step keeps of the state's form. -/
abbrev State.Inv (s : State) : Prop := s.regsWf = true ∧ s.memWf = true

/-- A register command whose address lies outside the Espalier address space of 48 bits (R10, R33). -/
def outsideCommand (c : Sys2Proof.Instr) : Bool :=
  match c with
  | .registerWrite _ addr _ _ => decide (2 ^ 48 ≤ addr)
  | .registerAccessBadWidth _ addr _ _ => decide (2 ^ 48 ≤ addr)
  | _ => false

/-- A state whose next step stops: only a register command outside the address space does. -/
def State.stops (s : State) : Bool :=
  match s.pending with
  | [] => false
  | c :: _ => outsideCommand c

end Sys2Proof.Machine
end

