-- ==== Sys2Proof/Certificates/Slice0/Obligations.lean ====
section
/-!
DEFINITION. The statements for the provers.
-/
open Sys2Proof Sys2Proof.Machine

/-- A step runs the command at the front of the queue on the state with the queue's rest. The queue of waiting commands is
the model's own (assumption 2). -/
def Obligations.StepRunsTheFrontCommand : Prop :=
  ∀ (s : State) (c : Instr) (rest : List Instr), s.pending = c :: rest → step s = exec c { s with pending := rest }

/-- On an empty queue a nanosecond passes, and nothing is sent back. That an idle step is one nanosecond is the model's
choice (assumption 2). -/
def Obligations.IdleStepTakesANanosecond : Prop :=
  (∀ s : State, s.pending = [] → ∃ t, step s = .next t ∧ t.clk = s.clk + 1 ∧ t.pending = []) ∧
  (∀ s : State, s.time.running = true →
    s.tick.time.dtb = s.time.dtb + (s.time.frac + s.tickStep) / 2 ^ 32 ∧ s.tick.time.frac = (s.time.frac + s.tickStep) % 2 ^ 32 ∧
      s.tick.time.dies.map (·.replica) = s.time.dies.map (fun x => x.replica + 1))

/-- The opcode table gives no row bits, so no word spells a command. The queue is unchanged by withFetchWord (assumption
2). -/
def Obligations.NoWordSpellsACommand : Prop :=
  ∀ (s : State) (n w : Nat), decodeTableWord n w = none ∧ s.withFetchWord n w = s

/-- Every step keeps the canonical form of the register file and of the addressed memories. -/
def Obligations.EveryStepKeepsTheInvariant : Prop :=
  ∀ s t : State, s.Inv → step s = .next t → t.Inv

/-- The state after reset satisfies the invariant, on each of the three parts. -/
def Obligations.InvariantHoldsAtReset : Prop :=
  ∀ p : Part, (State.resetOf p).Inv ∧ (State.resetOf p).pending = [] ∧ (State.resetOf p).out = [] ∧ (State.resetOf p).part = p

/-- No step changes the part, unsends a message or runs two commands; a command takes no time. That a command takes no
time is the model's choice (assumption 2). -/
def Obligations.StepsAccountForPartQueueClockAndMessages : Prop :=
  ∀ s t : State, step s = .next t → t.part = s.part ∧ s.out <+: t.out ∧ s.free ≤ t.free ∧ t.pending = s.pending.tail ∧
    t.clk = (if s.pending = [] then s.clk + 1 else s.clk)

/-- No command changes a part of the state outside its footprint. The footprint of each of the 361 commands is listed in
Sys2Proof/Safety.lean; it is derived from the rules of the commands, and the registers count as one part. -/
def Obligations.CommandsKeepToTheirFootprint : Prop :=
  ∀ (c : Instr) (s t : State) (p : Comp), p ∉ footprint c → exec c s = .next t → p.same s t

/-- Every well-formed command goes on; only a register command outside the 48-bit address space stops. The address space
has 48 bits; that a wider address stops the block is the model's choice (assumption 130). -/
def Obligations.OnlyAccessesOutsideTheAddressSpaceStop : Prop :=
  (∀ s : State, s.stops = false → ∃ t, step s = .next t) ∧
  (∀ s : State, s.stops = true → step s = .fault .outsideAddressSpace) ∧
  (∀ (c : Instr) (s : State), c.wf = true → ∃ t, exec c s = .next t)

/-- Lands of the M-channel and F-channel blocks, and the not-connected lands (R625, R629). -/
def Obligations.PackageLandsFollowTheirTables : Prop :=
  landAt 36 20 = .dorfoad 13 (.dq 37) ∧ landAt 66 79 = .onfi 37 (.ceN 6) ∧ landConnected .mhl4040 81 20 = false ∧
    landConnected .mhl8080 81 20 = true

/-- A measurement of PTP, of PPS_IN or of the host corrects the timebase (R53, R55, R56). -/
def Obligations.SourceMeasurementsCorrectTheTimebase : Prop :=
  (∀ (s : State) (port t : Nat), s.on F.tbCtlPtpEnable = true → s.get F.tbCtlPtpPort = port → s.ethPresent port = true →
    s.on (F.netPortStatusUp port) = true → s.on F.tbStatusEverSynced = false → s.time.dtb ≤ t →
    ∃ u, exec (.ptpMessageReceive port t) s = .next u ∧ u.time.ptpValid = true ∧ u.time.dtb = t ∧
      u.on F.tbStatusEverSynced = true ∧ u.get F.tbStatusActiveSrc = 1 ∧ u.servo = servoAcquiring) ∧
  (∀ (s : State) (port t : Nat), s.on F.tbCtlPtpEnable = true → s.get F.tbCtlPtpPort = port → s.ethPresent port = true →
    s.on (F.netPortStatusUp port) = true → s.on F.tbStatusEverSynced = false → t < s.time.dtb →
    ∃ u, exec (.ptpMessageReceive port t) s = .next u ∧ u.time.dtb = s.time.dtb ∧
      u.on F.tbStatusSourceRefused = true ∧ u.lastEvent = some (131, sevNotice, noDom)) ∧
  (∀ (s : State) (port t : Nat), s.on F.tbCtlPtpEnable = true → s.get F.tbCtlPtpPort = port → s.ethPresent port = true →
    s.on (F.netPortStatusUp port) = true → s.on F.tbStatusEverSynced = true →
    ∃ u, exec (.ptpMessageReceive port t) s = .next u ∧ u.time.ptpValid = true ∧ u.get F.tbStatusActiveSrc = 1 ∧
      u.reg R.tbOffset = State.signed64 ((s.time.dtb : Int) - (t : Int))) ∧
  (∀ s : State, ∃ u, exec .ppsInEdge s = .next u ∧ u.reg R.tbPpsCapture = BitVec.ofNat 64 s.time.dtb ∧
    u.time.lastEdge = some s.clk ∧ u.time.todWritten = false) ∧
  (∀ s : State, s.edgeCounts = true → s.on F.tbCtlPpsEnable = true → s.ptpUp = false → s.on F.tbStatusEverSynced = true →
    ∃ u, exec .ppsInEdge s = .next u ∧ u.time.ppsValid = true ∧ u.get F.tbStatusActiveSrc = 2 ∧
      u.reg R.tbOffset = State.signed64 ((s.time.dtb : Int) - (s.edgeTime : Int))) ∧
  (∀ (s : State) (v : BitVec 64), s.on F.tbCtlHostEnable = true → s.ptpUp = false → s.ppsUp = false →
    s.on F.tbStatusEverSynced = false → s.time.dtb ≤ v.toNat →
    ∃ u, exec (.tbSetWrite v) s = .next u ∧ u.time.dtb = v.toNat ∧ u.on F.tbStatusEverSynced = true ∧
      u.get F.tbStatusActiveSrc = 3 ∧ u.servo = servoHoldover ∧ u.time.holdFrom = s.clk) ∧
  (∀ (s : State) (v : BitVec 64), s.on F.tbCtlHostEnable = true → s.ptpUp = false → s.ppsUp = false →
    s.on F.tbStatusEverSynced = true →
    ∃ u, exec (.tbSetWrite v) s = .next u ∧ u.reg R.tbOffset = State.signed64 ((s.time.dtb : Int) - (v.toNat : Int))) ∧
  (∀ (s : State) (v : BitVec 64), s.on F.tbCtlHostEnable = false ∨ s.ptpUp = true ∨ s.ppsUp = true →
    exec (.tbSetWrite v) s = .next ((s.put F.tbStatusSourceRefused true).raiseFree 131 sevNotice 0 noDom))

/-- Lost sources, Holdover expiry, TCXO failure, TB_CTL, PPS_OUT, time messages and lost time (R53, R54, R58 to R62,
R490). -/
def Obligations.ServoPulsesAndTimeMessages : Prop :=
  (∀ s : State, exec .tcxoFailure s = .next ((s.put F.tbStatusTcxoFail true).raise 135 sevError 0 noDom [])) ∧
  (∀ s : State, s.servo = servoHoldover → s.get F.tbHoldLimitSeconds * 1000000000 ≤ s.clk - s.time.holdFrom →
    exec .holdoverExpiry s
      = .next ((s.setServo servoExpired).raise 134 sevError 0 noDom [d4 (s.get F.tbHoldLimitSeconds)])) ∧
  (∀ s : State, s.get F.tbStatusActiveSrc = 1 → s.servo = servoAcquiring ∨ s.servo = servoLocked → s.ppsUp = false →
    ∃ u, exec .ptpSourceLoss s = .next u ∧ u.time.ptpValid = false ∧ u.servo = servoHoldover ∧ u.time.holdFrom = s.clk ∧
      u.lastEvent = some (129, sevWarning, noDom)) ∧
  (∀ s : State, s.get F.tbStatusActiveSrc ≠ 1 →
    exec .ptpSourceLoss s = .next { s with time := { s.time with ptpValid := false } }) ∧
  (∀ s : State, s.get F.tbStatusActiveSrc = 2 → s.servo = servoAcquiring ∨ s.servo = servoLocked → s.ptpUp = false →
    ∃ u, exec .ppsInSourceLoss s = .next u ∧ u.time.ppsValid = false ∧ u.servo = servoHoldover ∧ u.time.holdFrom = s.clk ∧
      u.lastEvent = some (129, sevWarning, noDom)) ∧
  (∀ s : State, s.get F.tbStatusActiveSrc ≠ 2 →
    exec .ppsInSourceLoss s = .next { s with time := { s.time with ppsValid := false } }) ∧
  (∀ (s : State) (v : BitVec 32), ∃ u, exec (.tbCtlWrite v) s = .next u ∧ u.reg R.tbCtl = v.setWidth 64 &&& 0x7FFFFFFF) ∧
  (∀ s : State, s.ppsOutAllowed = true → ∃ u, exec .ppsOutPulse s = .next u ∧
    u.out = s.out ++ [.ppsOut (max 1 (s.get F.tbCtlPpsOutWidth))] ∧ u.time.ppsOut = true ∧
    u.time.ppsOutEnd = s.time.dtb + max 1 (s.get F.tbCtlPpsOutWidth) * 1000000 ∧ u.regs = s.regs) ∧
  (∀ (s : State) (h d : Nat), exec (.timeMessageReceive 10 h d) s
    = .next { s with time := { s.time with privet := max s.time.privet (h + d) } }) ∧
  (∀ (s : State) (k h d : Nat) (x : DieTime), k < s.part.dies → s.time.dies[k]? = some x →
    ∃ u, exec (.timeMessageReceive k h d) s = .next u ∧ u.bit F.tbStatusDieTimeLost k = false ∧
      u.time.dies[k]? = some { replica := max x.replica (h + d), last := s.clk, held := false } ∧
      u.time.dies.length = s.time.dies.length) ∧
  (∀ (s : State) (k : Nat) (x : DieTime), k < s.part.dies → s.time.dies[k]? = some x → x.last + 16000 ≤ s.clk →
    s.bit F.tbStatusDieTimeLost k = false →
    exec (.dieTimeLost k) s = .next ((s.setBit F.tbStatusDieTimeLost k true).raise 132 sevWarning 0 noDom [d4 k])) ∧
  (∀ (s : State) (k : Nat) (x : DieTime), k < s.part.dies → s.time.dies[k]? = some x → x.last + 1000000 ≤ s.clk →
    ∃ u, exec (.dieLaunchHold k) s = .next u ∧ u.unitHolds (.die k) = true ∧ u.regs = s.regs) ∧
  (∀ (s : State) (a : Nat), a < s.part.sites → s.get (F.klAgentStatusState a) = 2 → s.bit F.tbStatusAgentTimeLost a = false →
    s.klState (8 + a) ≠ portL1 → (s.time.agentSent[a]?).getD 0 + 16000 ≤ s.clk →
    exec (.agentTimeLost a) s
      = .next ((s.setBit F.tbStatusAgentTimeLost a true).raise 132 sevWarning 0 noDom [d4 (8 + a)])) ∧
  (∀ s : State, s.time.running = true → exec .timeMessageSend s
    = .next ((List.range 11).foldl (fun s k => if s.portIsUp k then s.sendTime k else s) s))

/-- Launch slots are armed, cancelled and fired (R68 to R71). -/
def Obligations.LaunchSlotsArmCancelAndFire : Prop :=
  (∀ (s : State) (u : LaunchUnit) (i : Nat) (v : BitVec 32), u.present s.part = true → i < u.slots →
    bits (v.setWidth 64) 8 1 = 1 → bits (v.setWidth 64) 9 1 = 0 → s.get (slotState u i) ≠ slotArmed →
    State.registerAction u (bits (v.setWidth 64) 0 8) = true → s.unitTime u < (s.reg (slotTime u i)).toNat →
    ∃ t, exec (.launchSlotArm u i v) s = .next t ∧ t.get (slotState u i) = slotArmed ∧ t.on (slotLate u i) = false ∧
      t.get (slotLateness u i) = 0 ∧ t.get (slotAction u i) = bits (v.setWidth 64) 0 8) ∧
  (∀ (s : State) (u : LaunchUnit) (i : Nat) (v : BitVec 32), u.present s.part = true → i < u.slots →
    bits (v.setWidth 64) 8 1 = 0 → bits (v.setWidth 64) 9 1 = 1 → s.get (slotState u i) = slotArmed →
    s.on (slotOwner u i) = false →
    ∃ t, exec (.launchSlotCancel u i v) s = .next t ∧ t.get (slotState u i) = slotIdle ∧ t.obs = s.obs) ∧
  (∀ (s : State) (u : LaunchUnit) (i : Nat), u.present s.part = true → i < u.slots → s.get (slotState u i) = slotArmed →
    s.unitHolds u = false → (s.reg (slotTime u i)).toNat ≤ s.unitTime u →
    exec (.launchSlotFire u i) s = .next (s.fireSlot u i false)) ∧
  (∀ (s : State) (u : LaunchUnit) (i : Nat), u.present s.part = true → i < u.slots → s.get (slotState u i) = slotArmed →
    s.unitHolds u = false → (s.reg (slotTime u i)).toNat ≤ s.unitTime u → s.get (slotAction u i) = 6 →
    ∃ t, exec (.launchSlotFire u i) s = .next t ∧ t.get (slotState u i) = slotFired ∧
      t.lastEvent = some (136, sevInfo, noDom)) ∧
  (∀ (s : State) (a i : Nat) (c : ArmedCut), a < s.part.sites → s.get (F.klAgentStatusState a) = 2 → i < 4 →
    s.time.agentSlots.any (fun x => x.1 = a && x.2.1 = i) = false →
    s.md.armed.find? (fun c => !c.snapshot && c.time ≤ s.time.dtb + 100000
      && !s.time.agentSlots.any (fun x => x.1 = a && x.2.2 = c.epoch)) = some c →
    ∃ t, exec (.launchArmSend a i) s = .next t ∧ t.time.agentSlots = s.time.agentSlots ++ [(a, i, c.epoch)] ∧
      t.bit (F.klAgentStatusSlotsArmed a) i = true)

/-- Accesses of the wrong width, of another domain's page, and of nothing (R15, R37, R38). -/
def Obligations.AccessesThatReachNoRegisterAreReported : Prop :=
  (∀ (s : State) (dom a w n : Nat) (v : BitVec 64), a < 2 ^ 48 → s.pathTo dom a = .page n →
    exec (.registerWrite dom a w v) s = .next (s.raise 160 sevNotice 0 noDom [d4 n, d4 dom])) ∧
  (∀ (s : State) (dom a w : Nat) (v : BitVec 64), a < 2 ^ 48 → s.pathTo dom a = .nothing →
    exec (.registerWrite dom a w v) s = .next s) ∧
  (∀ (s : State) (dom a w r : Nat) (v : BitVec 64) (x : RegPlace) (l : List (Nat × RegPlace)), a < 2 ^ 48 →
    s.pathTo dom a = .reaches → exactReg? s.part a w = none → touchedRegs s.part a w = (r, x) :: l →
    exec (.registerWrite dom a w v) s = .next (s.raise 31 sevNotice 0 dom [d8 r, d4 dom, d4 w])) ∧
  (∀ (s : State) (dom a w r : Nat) (x : RegPlace) (l : List (Nat × RegPlace)), a < 2 ^ 48 →
    s.pathTo dom a = .reaches → exactReg? s.part a w = none → touchedRegs s.part a w = (r, x) :: l →
    exec (.registerAccessBadWidth dom a w true) s
      = .next ((s.raise 31 sevNotice 0 dom [d8 r, d4 dom, d4 w]).send (.registerValue dom a w (2 ^ (8 * w) - 1)))) ∧
  (∀ (s : State) (dom a w r : Nat) (x : RegPlace) (l : List (Nat × RegPlace)), a < 2 ^ 48 →
    s.pathTo dom a = .reaches → exactReg? s.part a w = none → touchedRegs s.part a w = (r, x) :: l →
    exec (.registerAccessBadWidth dom a w false) s = .next (s.raise 31 sevNotice 0 dom [d8 r, d4 dom, d4 w]))

/-- What a register write leaves in each bit, by the bit's access code (R13). -/
def Obligations.FieldsFollowTheirAccessCodes : Prop :=
  (∀ (s : State) (x : RegPlace) (a : Nat) (v : Word) (i : Nat), i < 64 → x.row.rw.testBit i = true →
    x.row.w1c.testBit i = false → x.row.w1s.testBit i = false → (s.codeWrite x a v).getLsbD i = v.getLsbD i) ∧
  (∀ (s : State) (x : RegPlace) (a : Nat) (v : Word) (i : Nat), i < 64 → x.row.rw.testBit i = false →
    x.row.rwl.testBit i = false → x.row.w1c.testBit i = false → x.row.w1s.testBit i = false →
    (s.codeWrite x a v).getLsbD i = (s.reg a).getLsbD i) ∧
  (∀ (s : State) (x : RegPlace) (a : Nat) (v : Word) (i : Nat), i < 64 → x.row.w1c.testBit i = true →
    x.row.rw.testBit i = false → x.row.rwl.testBit i = false → x.row.w1s.testBit i = false →
    (s.codeWrite x a v).getLsbD i = ((s.reg a).getLsbD i && !v.getLsbD i)) ∧
  (∀ (s : State) (x : RegPlace) (a : Nat) (v : Word) (i : Nat), i < 64 → x.row.w1s.testBit i = true →
    x.row.rw.testBit i = false → x.row.rwl.testBit i = false → x.row.w1c.testBit i = false →
    (s.codeWrite x a v).getLsbD i = ((s.reg a).getLsbD i || v.getLsbD i)) ∧
  (∀ (s : State) (x : RegPlace) (a : Nat) (v : Word) (i : Nat), i < 64 → x.row.rwl.testBit i = true →
    x.row.rw.testBit i = false → x.row.w1c.testBit i = false → x.row.w1s.testBit i = false →
    (s.codeWrite x a v).getLsbD i = (if s.regLocked x a then (s.reg a).getLsbD i else v.getLsbD i)) ∧
  (∀ (s : State) (v : BitVec 64), exec (.registerWrite 0 R.winBiTimeout 4 v) s
    = .next (s.setReg R.winBiTimeout (s.reg R.winBiTimeout &&& ~~~0xFFFF#64
        ||| BitVec.ofNat 64 (max 10 (min 160 (bits v 0 16))))))

/-- Link training, LD bindings and extents, and HDM decoder commits (R76, R78, R79, R83, R84). -/
def Obligations.LinksDevicesAndDecodersAreSetUp : Prop :=
  (∀ (s : State) (l w r : Nat), s.linkPresent l = true → r = 64 ∨ r = 32 ∨ r = 16 → w < s.linkWidth l ∨ r < s.linkRate →
    exec (.cxlLinkTrained l w r) s
      = .next ((((s.setBit F.winStatusLinkUp l true).setBit F.winStatusLinkDegraded l true).setBit
          F.pvUnitsLostCxlLink l false).raise 42 sevWarning 0 noDom [d4 l, d4 w, d4 r])) ∧
  (∀ (s : State) (l w r : Nat), s.linkPresent l = true → r = 64 ∨ r = 32 ∨ r = 16 → s.linkWidth l ≤ w → s.linkRate ≤ r →
    exec (.cxlLinkTrained l w r) s = .next (((s.setBit F.winStatusLinkUp l true).setBit F.winStatusLinkDegraded l false).setBit
      F.pvUnitsLostCxlLink l false)) ∧
  (∀ (s : State) (n : Nat) (v : BitVec 32), n < s.ldCount → s.ldCommitted n = false →
    (s.setReg (R.winLdBind n) (v.setWidth 64 &&& 0xFFF)).oneMgmt = true →
    (s.setReg (R.winLdBind n) (v.setWidth 64 &&& 0xFFF)).extentsOk = true →
    ∃ t, exec (.winLdBindWrite n v) s = .next t ∧ t.reg (R.winLdBind n) = v.setWidth 64 &&& 0xFFF) ∧
  (∀ (s : State) (n e : Nat) (v : BitVec 64), n < s.ldCount → e < 8 → s.ldCommitted n = false →
    (s.setReg (R.winLdExtent n e) (v &&& 0x80000000FFFFFFFF)).extentsOk = true →
    ∃ t, exec (.winLdExtentWrite n e v) s = .next t ∧ t.reg (R.winLdExtent n e) = v &&& 0x80000000FFFFFFFF) ∧
  (∀ (s : State) (ld d base size ways gran skip pos : Nat) (bi en : Bool),
    s.commitRefusal (s.makeDecoder ld d base size ways gran skip pos bi) en = none →
    ∃ t, exec (.hdmDecoderCommit ld d base size ways gran skip pos bi en) s = .next t ∧
      t.win.decoders = s.win.decoders.filter (fun x => !(x.ld = ld && x.idx = d))
        ++ (if size = 0 then [] else [s.makeDecoder ld d base size ways gran skip pos bi]) ∧
      t.out = s.out ++ [.decoderCommit ld d true] ∧ t.regs = s.regs) ∧
  (∀ (s : State) (ld d base size ways gran skip pos c : Nat) (bi en : Bool),
    s.commitRefusal (s.makeDecoder ld d base size ways gran skip pos bi) en = some c →
    ∃ t, exec (.hdmDecoderCommit ld d base size ways gran skip pos bi en) s = .next t ∧ t.win = s.win ∧ t.regs = s.regs ∧
      t.lastEvent = some (39, sevNotice, noDom) ∧ t.out = s.out ++ [.decoderCommit ld d false])

/-- WIN_LD_BIND and WIN_LD_EXTENT writes of an LD with a committed decoder (R80). -/
def Obligations.BindAndExtentWritesAreIgnoredWhileCommitted : Prop :=
  (∀ (s : State) (n : Nat) (v : BitVec 32) (d : Decoder), n < s.ldCount → d ∈ s.win.decoders → d.ld = n →
    exec (.winLdBindWrite n v) s = .next (s.raise 40 sevNotice 0 noDom [d4 n, d4 (winLdBindOff n)])) ∧
  (∀ (s : State) (n e : Nat) (v : BitVec 64) (d : Decoder), n < s.ldCount → e < 8 → d ∈ s.win.decoders → d.ld = n →
    exec (.winLdExtentWrite n e v) s = .next (s.raise 40 sevNotice 0 noDom [d4 n, d4 (winLdExtentOff n e)]))

/-- MemRd, MemWr and MemWrPtl: decode, hold, accept (R85, R88, R102, R104, R110). -/
def Obligations.CxlReadsAndWritesReachTheirLine : Prop :=
  (∀ (s : State) (l ld tag hpa : Nat) (c : Bool), s.windowServes = true → s.linkUp l = true → s.cxlTarget? ld hpa = none →
    ∃ t, exec (.cxlMemRead l ld tag hpa c) s = .next t ∧ t.out = s.out ++ [.cxlData l tag 0 true] ∧
      t.lastEvent = some (45, sevNotice, s.ldDomain ld)) ∧
  (∀ (s : State) (l ld tag hpa a : Nat) (c : Bool) (d : Decoder), s.windowServes = true → s.linkUp l = true →
    s.cxlTarget? ld hpa = some (d, a) → s.sanitizing = false →
    exec (.cxlMemRead l ld tag hpa c) s
      = .next (({ s.cWin 0x10 l 1 with win := { (s.cWin 0x10 l 1).win with nextRead := s.win.nextRead + 1 } }).passFilter
          { id := s.win.nextRead, src := .cxl l tag, ld := ld, line := a / 64, dom := s.ldDomain ld, stamp := s.nowDtb,
            since := s.clk, stage := .transit, loc := 0, retried := false, late := false, fills := false,
            cacheable := c && d.bi })) ∧
  (∀ (s : State) (l ld tag hpa a : Nat) (c : Bool) (d : Decoder), s.windowServes = true → s.linkUp l = true →
    s.cxlTarget? ld hpa = some (d, a) → s.sanitizing = false → s.win.held.any (fun h => h.w.line = a / 64) = true →
    ∃ t, exec (.cxlMemRead l ld tag hpa c) s = .next t ∧ t.win.reads.map (fun r => (r.id, r.line, r.stage))
      = s.win.reads.map (fun r => (r.id, r.line, r.stage)) ++ [(s.win.nextRead, a / 64, ReadStage.held)]) ∧
  (∀ (s : State) (l ld tag hpa a : Nat) (data : BitVec 512) (p : Bool) (d : Decoder), s.windowServes = true →
    s.linkUp l = true → s.cxlTarget? ld hpa = some (d, a) → l ≠ 15 → s.sanitizing = false →
    s.plotReadOnly (linePlot (a / 64)) = false → s.laneDown (linePlot (a / 64)) = false →
    s.win.held.any (fun h => h.w.line = a / 64) = false → s.holders (a / 64) = [] →
    (s.plot (linePlot (a / 64))).hazelOwned = false →
    ∃ t, exec (.memwr l ld tag hpa data p) s = .next t ∧
      (t.qs? (a / 64)).map (fun e => (e.line, e.mask, e.poison)) = some (a / 64, maskAll, p)) ∧
  (∀ (s : State) (l ld tag hpa a : Nat) (data : BitVec 512) (p : Bool) (d : Decoder), s.windowServes = true →
    s.linkUp l = true → s.cxlTarget? ld hpa = some (d, a) → l ≠ 15 → s.sanitizing = false →
    s.plotReadOnly (linePlot (a / 64)) = false → s.laneDown (linePlot (a / 64)) = false →
    s.win.held.any (fun h => h.w.line = a / 64) = false → s.holders (a / 64) = [] →
    (s.plot (linePlot (a / 64))).hazelOwned = false → s.qs? (a / 64) = none →
    ∃ t, exec (.memwr l ld tag hpa data p) s = .next t ∧ (t.qs? (a / 64)).map (·.data) = some data) ∧
  (∀ (s : State) (l ld tag hpa a : Nat) (data : BitVec 512) (m : BitVec 64) (p : Bool) (d : Decoder) (e : QsEntry),
    s.windowServes = true → s.linkUp l = true → s.cxlTarget? ld hpa = some (d, a) → l ≠ 15 → s.sanitizing = false →
    s.plotReadOnly (linePlot (a / 64)) = false → s.laneDown (linePlot (a / 64)) = false →
    s.win.held.any (fun h => h.w.line = a / 64) = false → s.holders (a / 64) = [] →
    (s.plot (linePlot (a / 64))).hazelOwned = false → s.qs? (a / 64) = some e →
    ∃ t, exec (.memwrptl l ld tag hpa data m p) s = .next t ∧
      (t.qs? (a / 64)).map (fun e => (e.mask, e.data)) = some (e.mask ||| m, mergeLine e.data data m)) ∧
  (∀ (s : State) (l ld tag hpa a : Nat) (data : BitVec 512) (m : BitVec 64) (p : Bool) (d : Decoder),
    s.windowServes = true → s.linkUp l = true → s.cxlTarget? ld hpa = some (d, a) → s.sanitizing = false →
    s.plotReadOnly (linePlot (a / 64)) = false → s.laneDown (linePlot (a / 64)) = false →
    s.win.held.any (fun h => h.w.line = a / 64) = true →
    ∃ t, exec (.memwrptl l ld tag hpa data m p) s = .next t ∧ t.win.held.length = s.win.held.length + 1 ∧ t.qs = s.qs)

/-- BIRsp, BI timeouts, filter evictions, admission, deadlines and merging (R86 to R90, R96, R99, R104). -/
def Obligations.BackInvalidationAndReadDeadlines : Prop :=
  (∀ (s : State) (l line : Nat), s.linkUp l = true → (s.holders line).contains l = true →
    s.win.snoops.any (fun x => x.1 = line && x.2.1 = l) = false →
    exec (.birsp l line none) s = .next (((s.dropHolder line l).dropSnoop line l).sfDrop line l).goOn) ∧
  (∀ (s : State) (l line : Nat) (d : BitVec 512), s.linkUp l = true → (s.holders line).contains l = true →
    (s.hostCopy line d).win.snoops.any (fun x => x.1 = line && x.2.1 = l) = false →
    exec (.birsp l line (some d)) s = .next ((((s.hostCopy line d).dropHolder line l).dropSnoop line l).sfDrop line l).goOn) ∧
  (∀ (s : State) (l line : Nat), s.linkUp l = true → (s.holders line).contains l = true →
    s.win.snoops.any (fun x => x.1 = line && x.2.1 = l) = true →
    s.win.held.any (fun h => h.w.line = line && h.holders.contains l) = false →
    s.win.filter.any (fun e => e.sector = linePage line && e.evicting) = false →
    (s.dropSnoop line l).win.snoops.any (fun x => x.1 = line) = false →
    exec (.birsp l line none) s
      = .next (((s.dropHolder line l).dropSnoop line l).sfUpdate line (fun (x : SfLine) => { x with modified := false })).goOn) ∧
  (∀ (s : State) (l line : Nat) (h : HeldWrite), s.win.held.find? (fun h => h.w.line = line && h.holders.contains l
      && h.since + 100 * max 10 (min 160 (s.get F.winBiTimeoutUnits)) ≤ s.clk) = some h →
    exec (.biTimeout l line) s
      = .next ((((((s.dropHolder line l).dropSnoop line l).sfDrop line l).bump F.winBiTimeoutCountCount).raiseAt 37 sevError 0
          (s.lineDomain line) [d8 (lineAddr line), d4 l, d4 h.w.src.code] (some (lineAddr line))).drew.goOn)) ∧
  (∀ (s : State) (x : Nat), s.win.filter.any (fun e => e.sector = x && e.evicting) = true →
    s.win.reads.all (fun r => decide (r.stage ≠ ReadStage.filter)) = true →
    exec (.sfEvictionComplete x) s
      = .next { s with win := { s.win with filter := s.win.filter.filter (fun e => !(e.sector = x && e.evicting)) } }) ∧
  (∀ (s : State) (n : Nat) (r : OutRead), s.outRead? n = some r → r.stage = .admission →
    (s.win.reads.find? (fun x => decide (x.stage = ReadStage.admission) && pageBank x.loc = pageBank r.loc)).map (·.id)
      = some n → s.bankLoad (pageBank r.loc) < s.bankDepth →
    exec (.admissionRelease n) s = .next (s.setRead { r with stage := .transit }).showAdmit) ∧
  (∀ (s : State) (n : Nat) (r : OutRead), s.outRead? n = some r → r.late = false →
    r.since + s.get F.winDeadlineNs ≤ s.clk →
    ∃ t, exec (.readDeadline n) s = .next t ∧ t.get F.winDeadlineCountCount = satInc 32 (s.get F.winDeadlineCountCount) ∧
      t.win.reads.all (fun x => x.id != n || x.late) = true) ∧
  (∀ (s : State) (line : Nat) (e : QsEntry), s.qs? line = some e → e.leaving = false → s.journalFull false = false →
    exec (.quicksetMerge line) s = .next (s.mergeEntry e).clean.goOn)

/-- The lost-write list is cleared, and both phases of a global persistent flush answer (R112 to R117). -/
def Obligations.LostWritesAndPersistentFlush : Prop :=
  (∀ s : State, ∃ t, exec .clearentry s = .next t ∧ t.lastEvent = some (47, sevInfo, noDom) ∧
    t.md.lost = s.md.lost.filter (fun x => x.1 != s.get F.winLwlCursorIndex)) ∧
  (∀ s : State, ∃ t, exec .clearall s = .next t ∧ t.lastEvent = some (47, sevInfo, noDom) ∧ t.md.lost = []) ∧
  (∀ s : State, ∃ t, exec .clearoverflow s = .next t ∧ t.lastEvent = some (47, sevInfo, noDom) ∧ t.md.lwlOverflow = false ∧
    t.md.lost = s.md.lost) ∧
  (∀ (s : State) (l : Nat), s.linkUp l = true → s.linkHeld l = false →
    ∃ t, exec (.gpfPhase1 l) s = .next t ∧ t.win.gpf = s.win.gpf.filter (fun x => x != l) ++ [l] ∧
      t.out = s.out ++ [.gpfRsp l 1] ∧ t.lastEvent = some (44, sevInfo, noDom)) ∧
  (∀ (s : State) (l : Nat), s.linkUp l = true → s.linkHeld l = true →
    ∃ t, exec (.gpfPhase1 l) s = .next t ∧ t.win.gpf = s.win.gpf.filter (fun x => x != l) ++ [l] ∧ t.out = s.out ∧
      t.win.gpfWait = s.win.gpfWait ++ [l]) ∧
  (∀ (s : State) (l : Nat), s.linkUp l = true →
    ∃ t, exec (.gpfPhase2 l) s = .next t ∧ t.win.gpf.contains l = false ∧ t.out.getLast? = some (.gpfRsp l 2))

/-- The mailbox commands that only read answer Success with what the LD holds (R118). -/
def Obligations.MailboxQueriesAnswer : Prop :=
  (∀ (s : State) (n log : Nat), n < s.ldCount → exec (.getEventRecords n log) s
    = .next (s.send (.mailbox n 0x100 .success ((s.win.cxlLogs.filter (fun r => r.ld = n && r.log = log)).flatMap (fun r =>
        [r.handle, r.ev.src, r.ev.sev, r.ev.code, r.ev.time, r.dpa.getD 0]))))) ∧
  (∀ (s : State) (n : Nat), n < s.ldCount → exec (.getEventInterruptPolicy n) s
    = .next (s.send (.mailbox n 0x102 .success [(Store.read (fun _ => (0 : Word)) s.win.policy n).toNat]))) ∧
  (∀ (s : State) (n : Nat), n < s.ldCount → exec (.getTimestamp n) s = .next (s.send (.mailbox n 0x300 .success [s.nowDtb]))) ∧
  (∀ (s : State) (n : Nat), n < s.ldCount → exec (.getSupportedLogs n) s
    = .next (s.send (.mailbox n 0x400 .success [s.freeWord.toNat])).drew) ∧
  (∀ (s : State) (n log o k : Nat), n < s.ldCount → exec (.getLog n log o k) s
    = .next (s.send (.mailbox n 0x401 .success [log, o, k, s.freeWord.toNat])).drew) ∧
  (∀ (s : State) (n : Nat), n < s.ldCount → exec (.identifyMemoryDevice n) s
    = .next (s.send (.mailbox n 0x4000 .success [dpaSize (s.extents n), 0, dpaSize (s.extents n)]))) ∧
  (∀ (s : State) (n : Nat), n < s.ldCount → exec (.getPartitionInfo n) s
    = .next (s.send (.mailbox n 0x4100 .success [0, dpaSize (s.extents n)]))) ∧
  (∀ (s : State) (n : Nat), n < s.ldCount → exec (.getHealthInfo n) s
    = .next (s.send (.mailbox n 0x4200 .success [s.get F.perDscCount]))) ∧
  (∀ (s : State) (n : Nat), n < s.ldCount → exec (.getAlertConfiguration n) s
    = .next (s.send (.mailbox n 0x4201 .success [(Store.read (fun _ => (0 : Word)) s.win.alerts n).toNat]))) ∧
  (∀ (s : State) (n dpa len limit : Nat), n < s.ldCount → exec (.getPoisonList n dpa len limit) s
    = .next (s.send (.mailbox n 0x4300 .success
        ((if limit < (s.poisonDpas n dpa len).length then 1 else 0) :: (s.poisonDpas n dpa len).take limit))))

/-- The mailbox commands that change the LD, and the FM API (R81, R82, R118). -/
def Obligations.MailboxSettingsAndPoisonTakeEffect : Prop :=
  (∀ (s : State) (n log : Nat) (h : List Nat), n < s.ldCount →
    ∃ t, exec (.clearEventRecords n log h true) s = .next t ∧ t.out = s.out ++ [.mailbox n 0x101 .success []] ∧
      t.win.cxlLogs = s.win.cxlLogs.filter (fun r => !(r.ld = n && r.log = log))) ∧
  (∀ (s : State) (n log h : Nat), n < s.ldCount → s.win.cxlLogs.any (fun r => r.ld = n && r.log = log && r.handle = h) = true →
    ∃ t, exec (.clearEventRecords n log [h] false) s = .next t ∧
      t.win.cxlLogs = s.win.cxlLogs.filter (fun r => !(r.ld = n && r.log = log && r.handle = h))) ∧
  (∀ (s : State) (n log h : Nat), n < s.ldCount → s.win.cxlLogs.any (fun r => r.ld = n && r.log = log && r.handle = h) = false →
    exec (.clearEventRecords n log [h] false) s = .next (s.send (.mailbox n 0x101 .invalidInput []))) ∧
  (∀ (s : State) (n : Nat) (v : BitVec 32), n < s.ldCount →
    ∃ t, exec (.setEventInterruptPolicy n v) s = .next t ∧ Store.read (fun _ => (0 : Word)) t.win.policy n = v.setWidth 64 ∧
      t.out = s.out ++ [.mailbox n 0x103 .success []] ∧ t.regs = s.regs) ∧
  (∀ (s : State) (n k : Nat) (v : BitVec 64), n < s.ldCount → k ≠ n →
    ∃ t, exec (.setAlertConfiguration n v) s = .next t ∧ Store.read (fun _ => (0 : Word)) t.win.alerts n = v ∧
      Store.read (fun _ => (0 : Word)) t.win.alerts k = Store.read (fun _ => (0 : Word)) s.win.alerts k) ∧
  (∀ (s : State) (n : Nat) (v : BitVec 64), n < s.ldCount → s.isMgmt n = true →
    exec (.setTimestamp n v) s = .next ((s.tbSet v.toNat).send (.mailbox n 0x301 .success []))) ∧
  (∀ (s : State) (n : Nat) (v : BitVec 64), n < s.ldCount → s.isMgmt n = false →
    exec (.setTimestamp n v) s = .next (s.send (.mailbox n 0x301 .unsupported []))) ∧
  (∀ (s : State) (n dpa a : Nat), n < s.ldCount → s.isMgmt n = true → s.on F.winCtlInjectPoisonEnable = true →
    dpaToAddr (s.extents n) dpa = some a →
    exec (.injectPoison n dpa) s = .next ((s.windowWrite
      { src := .device, line := a / 64, dom := s.ldDomain n, mask := 0, data := 0, poison := true,
        stamp := s.nowDtb }).send (.mailbox n 0x4301 .success []))) ∧
  (∀ (s : State) (n dpa a : Nat) (d : BitVec 512), n < s.ldCount → dpaToAddr (s.extents n) dpa = some a →
    exec (.clearPoison n dpa d) s = .next ((s.windowWrite
      { src := .device, line := a / 64, dom := s.ldDomain n, mask := maskAll, data := d, poison := false,
        stamp := s.nowDtb }).send (.mailbox n 0x4302 .success []))) ∧
  (∀ (s : State) (n dpa : Nat) (d : BitVec 512), n < s.ldCount → dpaToAddr (s.extents n) dpa = none →
    exec (.clearPoison n dpa d) s = .next (s.send (.mailbox n 0x4302 .invalidInput []))) ∧
  (∀ (s : State) (n op : Nat), n < s.ldCount → s.mboxSupported n op = false →
    exec (.unsupportedMailboxCommand n op) s = .next (s.send (.mailbox n op .unsupported []))) ∧
  (∀ (s : State) (l : Nat), s.linkPresent l = true → 1 < s.linkLds l →
    exec (.getLdInfo l) s = .next (s.send (.fmApi l .success
      [((List.range (s.linkLds l)).map (fun k => dpaSize (s.extents (16 * l + k)))).sum, s.linkLds l]))) ∧
  (∀ (s : State) (l a n : Nat), s.linkPresent l = true → 1 < s.linkLds l →
    exec (.getLdAllocations l a n) s = .next (s.send (.fmApi l .success (s.linkLds l :: a ::
      (((List.range (s.linkLds l)).map (fun k => dpaSize (s.extents (16 * l + k)))).drop a).take n)))) ∧
  (∀ (s : State) (l : Nat) (p : List Nat), s.linkPresent l = true → 1 < s.linkLds l →
    exec (.setLdAllocations l p) s = .next (s.send (.fmApi l .unsupported [])))

/-- The line cache is enabled and disabled, and its memories fail (R137 to R140, R148, R151, R152). -/
def Obligations.LineCacheEnableDisableAndErrors : Prop :=
  (∀ (s : State) (v : BitVec 32), s.get F.winStatusWindowState ≠ 3 → s.cacheOn = false → s.lc.retained = false →
    ∃ t, exec (.lcEnable v) s = .next t ∧ t.cacheOn = true ∧ t.on F.lcStatusEnabled = true ∧ t.obs = s.obs) ∧
  (∀ (s : State) (v : BitVec 32), s.get F.winStatusWindowState ≠ 3 → s.cacheOn = false → s.lc.retained = true →
    ∃ t, exec (.lcEnable v) s = .next t ∧ t.cacheOn = true ∧ t.lc.retained = false ∧ t.on F.lcStatusStaleRisk = true ∧
      t.lastEvent = some (97, sevWarning, noDom)) ∧
  (∀ (s : State) (v : BitVec 32), s.cacheOn = true → s.get F.lcStatusDirtyCount = 0 →
    s.lc.ops.any (fun o => o.op = opLock || o.op = opPrefetch) = false →
    ∃ t, exec (.lcDisable v) s = .next t ∧ t.cacheOn = false ∧ t.on F.lcStatusEnabled = false ∧ t.lc.retained = true ∧
      t.lc.lastDisable = s.nowDtb) ∧
  (∀ (s : State) (v : BitVec 32), s.cacheOn = true → s.get F.lcStatusDirtyCount ≠ 0 →
    ∃ t, exec (.lcDisable v) s = .next t ∧ t.cacheOn = true ∧ t.on F.lcStatusDisableRefused = true ∧
      t.lastEvent = some (96, sevNotice, noDom)) ∧
  (∀ (s : State) (o : RangeOp), s.lc.ops = [o] → s.canTurn o = true → o.slot < 8 →
    exec .rangeOpTurn s = .next (s.turnOp o)) ∧
  (∀ (s : State) (line : Nat) (c : CacheLine) (w : Way), s.cached? line = some c → s.way? (linePage line) = some w →
    c.dirty = false →
    ∃ t, exec (.hbmUncorrectable line) s = .next t ∧ t.cached? line = none ∧
      t.get F.lcHbmErrCountCount = satInc 32 (s.get F.lcHbmErrCountCount) ∧ t.lastEvent = some (100, sevNotice, noDom)) ∧
  (∀ (s : State) (line : Nat) (c : CacheLine) (w : Way), s.cached? line = some c → s.way? (linePage line) = some w →
    c.dirty = true → ∃ t, exec (.hbmUncorrectable line) s = .next t ∧ t.lastEvent = some (101, sevError, noDom)) ∧
  (∀ (s : State) (set way : Nat), set < s.lcSets → way < 16 → s.lc.ways.find? (fun w => w.set = set && w.way = way) = none →
    ∃ t, exec (.tagUncorrectable set way false) s = .next t ∧ t.lc.ways.any (fun w => w.set = set && w.way = way && w.dead) = true ∧
      t.on F.lcStatusTagLoss = true ∧ t.get F.lcTagErrCountCount = satInc 32 (s.get F.lcTagErrCountCount) ∧
      t.lastEvent = some (102, sevError, noDom)) ∧
  (∀ (s : State) (set way : Nat), set < s.lcSets → way < 16 → s.lc.ways.find? (fun w => w.set = set && w.way = way) = none →
    s.get F.perStatusState = 0 →
    ∃ t, exec (.tagUncorrectable set way true) s = .next t ∧ t.lastEvent = some (116, sevCritical, noDom))

/-- A window read at its bank: latch, array read, page read and strong decode (R161, R169, R183, R189). -/
def Obligations.BankReadsAndStrongDecodes : Prop :=
  (∀ (s : State) (n : Nat) (r : OutRead), s.outRead? n = some r → r.stage = .transit → s.pageOnline r.loc = true →
    (s.bank (pageBank r.loc)).latch = some (pageRow r.loc) → r.retried = false →
    ∃ t, exec (.bankReadArrival n) s = .next t ∧ (t.outRead? n).map (·.stage) = some .sensing ∧
      (t.bank (pageBank r.loc)).flying = (s.bank (pageBank r.loc)).flying ++ [n]) ∧
  (∀ (s : State) (n : Nat) (r : OutRead), s.outRead? n = some r → r.stage = .transit → s.pageOnline r.loc = true →
    (s.bank (pageBank r.loc)).latch = none → (s.bank (pageBank r.loc)).state = .segment →
    ∃ t, exec (.bankReadArrival n) s = .next t ∧ (t.outRead? n).map (·.stage) = some .queued ∧
      (t.bank (pageBank r.loc)).queue = (s.bank (pageBank r.loc)).queue ++ [n]) ∧
  (∀ (s : State) (n : Nat) (r : OutRead), s.outRead? n = some r → r.stage = .transit → s.pageOnline r.loc = false →
    exec (.bankReadArrival n) s = .next (s.readPoison r)) ∧
  (∀ (s : State) (n : Nat) (r : OutRead) (words : List Nat), s.outRead? n = some r → r.stage = .sensing →
    ((s.mediaLine? r.loc (r.line % 64)).map (·.tag.poison)).getD false = false →
    ∃ t, exec (.arrayReadComplete n (.good words)) s = .next t ∧ t.outRead? n = none) ∧
  (∀ (s : State) (n : Nat) (r : OutRead) (words : List Nat) (d : BitVec 512), s.outRead? n = some r → r.stage = .sensing →
    ∃ t, exec (.arrayReadComplete n (.wrong words d)) s = .next t ∧ t.outRead? n = none) ∧
  (∀ (s : State) (n : Nat) (r : OutRead), s.outRead? n = some r → r.stage = .sensing → r.retried = false →
    ∃ t, exec (.arrayReadComplete n .uncorrectable) s = .next t ∧ (t.outRead? n).map (·.retried) = some true) ∧
  (∀ (s : State) (n : Nat) (r : OutRead) (l : List (Nat × Nat)), s.outRead? n = some r → r.stage = .pageSensing →
    ∃ t, exec (.pageReadComplete n l []) s = .next t ∧ t.outRead? n = none) ∧
  (∀ (s : State) (n k : Nat) (r : OutRead) (l : List (Nat × Nat)), s.outRead? n = some r → r.stage = .pageSensing →
    k = r.line % 64 →
    ∃ t, exec (.pageReadComplete n l [k]) s = .next t ∧ (t.outRead? n).map (·.stage) = some .decoding) ∧
  (∀ (s : State) (n : Nat) (r : OutRead) (l : List (Nat × Nat)), s.outRead? n = some r → r.stage = .decoding →
    ∃ t, exec (.strongDecodeComplete n l true) s = .next t ∧ t.outRead? n = none) ∧
  (∀ (s : State) (n : Nat) (r : OutRead) (l : List (Nat × Nat)), s.outRead? n = some r → r.stage = .decoding →
    exec (.strongDecodeComplete n l false) s = .next ((s.uncorrectableRead r.loc (r.line % 64)).readPoison r))

/-- A media write takes tokens, compares, runs segments and is reported (R94, R165 to R170, R174). -/
def Obligations.MediaWritesAtTheirBanks : Prop :=
  (∀ (s : State) (n l : Nat) (w : MediaWrite), s.mWrite? n = some w → s.destination? w = some l → w.phase = .waiting →
    s.captureFor? w = none → s.pageOnline l = true → s.mayStart w l = true → s.overtaken w = false →
    s.refill.tokenCost (pageChan l) w.lines.length ≤ s.refill.mt.tokens →
    ∃ t, exec (.writeTokenGrant n) s = .next t ∧ (t.mWrite? n).map (·.phase) = some .comparing ∧
      (t.bank (pageBank l)).state = .comparing ∧ (t.bank (pageBank l)).write = some n) ∧
  (∀ (s : State) (n l : Nat) (w : MediaWrite), s.mWrite? n = some w → s.destination? w = some l → w.phase = .waiting →
    s.captureFor? w = none → s.pageOnline l = true → s.mayStart w l = true → s.overtaken w = false →
    s.refill.mt.tokens < s.refill.tokenCost (pageChan l) w.lines.length →
    exec (.writeTokenGrant n) s = .next (s.refill.put (F.mtChStatusThrottled (pageChan l)) true)) ∧
  (∀ (s : State) (c k : Nat) (w : MediaWrite), (s.bank (c * 32 + k)).write.bind s.mWrite? = some w → w.phase = .comparing →
    (s.bank (c * 32 + k)).state = .comparing → s.flips w.loc w.lines = (false, false) →
    ∃ t, exec (.comparisonReadComplete c k) s = .next t ∧ (t.mWrite? w.id).map (·.phase) = some .reported) ∧
  (∀ (s : State) (c k : Nat) (w : MediaWrite), (s.bank (c * 32 + k)).write.bind s.mWrite? = some w →
    (s.bank (c * 32 + k)).state = .segment → w.resets = false →
    ∃ t, exec (.segmentEnd c k 0) s = .next t ∧ (t.mWrite? w.id).map (·.phase) = some .reported) ∧
  (∀ (s : State) (c k : Nat) (f : BitVec 64) (w : MediaWrite), (s.bank (c * 32 + k)).write.bind s.mWrite? = some w →
    (s.bank (c * 32 + k)).state = .segment → w.resets = true → w.sets = true → w.segments + 1 < s.maxSegments c →
    (s.bank (c * 32 + k)).queue ≠ [] →
    ∃ t, exec (.segmentEnd c k f) s = .next t ∧
      t.get (F.mtChPreemptCountCount c) = satInc 32 (s.get (F.mtChPreemptCountCount c))) ∧
  (∀ (s : State) (c k p : Nat) (w : MediaWrite), (s.bank (c * 32 + k)).write.bind s.mWrite? = some w → w.paused = some p →
    p + 10000 ≤ s.clk → (s.bank (c * 32 + k)).flying = [] → (s.bank (c * 32 + k)).state = .reading →
    ∃ t, exec (.forcedSegment c k) s = .next t ∧ (t.bank (c * 32 + k)).state = .segment ∧
      t.get (F.mtChForcedCountCount c) = satInc 32 (s.get (F.mtChForcedCountCount c))) ∧
  (∀ (s : State) (n : Nat) (w : MediaWrite), s.mWrite? n = some w → w.phase = .reported → w.kind = .writeBack → w.page = none →
    exec (.mediaWriteComplete n) s
      = .next ((({ s with mt := { s.mt with writes := s.mt.writes.filter (fun x => x.id != n) } }.writeRecord w.loc w.stamp
          w.temp w.unsynced false).countWrite w.loc).clean.redoHeld))

/-- A channel trains step by step, retrains on its triggers and answers command errors (R171 to R173, R176). -/
def Obligations.ChannelsTrainAndRetrain : Prop :=
  (∀ (s : State) (c : Nat) (a b : BitVec 64) (m : Nat), c < s.channels → s.get (F.mtChStatusState c) ≤ 1 →
    s.on (F.mtChCtlEnable c) = true → (s.chan c).step = 0 → (s.chan c).fails0 < 3 → (s.chan c).fails1 < 3 →
    ∃ t, exec (.channelTrainingStep c 1 false false a b m) s = .next t ∧ t.get (F.mtChStatusState c) = 1 ∧
      t.get (F.mtChStatusRankOnline c) = 3) ∧
  (∀ (s : State) (c n : Nat) (a b : BitVec 64) (m : Nat), c < s.channels → s.get (F.mtChStatusState c) ≤ 1 →
    s.on (F.mtChCtlEnable c) = true → (s.chan c).step + 1 = n → 2 ≤ n → n ≤ 6 → (s.chan c).fails0 < 3 →
    (s.chan c).fails1 < 3 →
    exec (.channelTrainingStep c n false false a b m) s
      = .next (s.setChan c { s.chan c with step := n, fails0 := 0, fails1 := 0 })) ∧
  (∀ (s : State) (c : Nat) (a b : BitVec 64) (m : Nat), c < s.channels → s.get (F.mtChStatusState c) ≤ 1 →
    s.on (F.mtChCtlEnable c) = true → (s.chan c).step = 7 → (s.chan c).fails0 < 3 → (s.chan c).fails1 < 3 →
    ∃ t, exec (.channelTrainingStep c 8 false false a b m) s = .next t ∧ t.get (F.mtChStatusState c) = 2 ∧
      t.get (F.mtChStatusMarginMin c) = min 255 m ∧ t.reg (R.mtChLastTrain c) = BitVec.ofNat 64 s.nowDtb) ∧
  (∀ (s : State) (c : Nat), c < s.channels → s.get (F.mtChStatusState c) = 2 →
    ∃ t, exec (.retrainnow c) s = .next t ∧ t.get (F.mtChStatusState c) = 3) ∧
  (∀ (s : State) (c : Nat), c < s.channels → s.get (F.mtChStatusState c) = 2 → s.get (F.mtChCtlRetrainPeriod c) ≠ 0 →
    (s.chan c).trained + s.get (F.mtChCtlRetrainPeriod c) * 100000000 ≤ s.clk →
    ∃ t, exec (.retrainPeriodExpiry c) s = .next t ∧ t.get (F.mtChStatusState c) = 3) ∧
  (∀ (s : State) (c m : Nat), c < s.channels → s.get (F.mtChStatusState c) = 3 → (s.chan c).slice < 35 → 10 ≤ m →
    exec (.retrainSliceComplete c m) s
      = .next ((s.set (F.mtChStatusMarginMin c) (if (s.chan c).slice = 0 then min 255 m
          else min m (s.get (F.mtChStatusMarginMin c)))).setChan c
            { s.chan c with slice := (s.chan c).slice + 1, lowMargin := (s.chan c).lowMargin || decide (m < 10) })) ∧
  (∀ (s : State) (c m : Nat), c < s.channels → s.get (F.mtChStatusState c) = 3 → 35 ≤ (s.chan c).slice → 10 ≤ m →
    ∃ t, exec (.retrainSliceComplete c m) s = .next t ∧ t.get (F.mtChStatusState c) = 2 ∧
      t.get (F.mtChRetrainCountCount c) = satInc 32 (s.get (F.mtChRetrainCountCount c)) ∧
      t.reg (R.mtChLastTrain c) = BitVec.ofNat 64 s.nowDtb ∧ t.lastEvent = some (State.dieSource (c / 4) 2, sevInfo, noDom)) ∧
  (∀ (s : State) (c r m : Nat), c < s.channels → r < 2 → s.rankOnline c r = true →
    ((s.chan c).caErrors.filter (fun t => s.clk < t + 1000000000)).length < 15 →
    exec (.caAlert c r m false) s
      = .next ((s.bump (F.mtChCaErrCountCount c)).setChan c { s.chan c with
          alerts := 1, caErrors := s.clk :: (s.chan c).caErrors.filter (fun t => s.clk < t + 1000000000) })) ∧
  (∀ (s : State) (c r m : Nat), c < s.channels → r < 2 → s.rankOnline c r = true → (s.chan c).alerts = 1 →
    s.get (F.mtChStatusState c) = 2 →
    ∃ t, exec (.caAlert c r m true) s = .next t ∧ t.get (F.mtChStatusState c) = 3 ∧
      t.get (F.mtChCaErrCountCount c) = satInc 32 (s.get (F.mtChCaErrCountCount c)) ∧
      t.lastEvent = some (State.dieSource (c / 4) 3, sevNotice, noDom))

/-- Internal rewrites, the drift refresh and the scrubber (R191, R200 to R210). -/
def Obligations.RewritesRefreshAndScrubbing : Prop :=
  (∀ (s : State) (n : Nat) (x : Rewrite) (l : List (Nat × Nat)) (bad : List Nat),
    s.mt.rewrites.find? (fun (x : Rewrite) => x.id = n) = some x → x.started = false → s.pageBusy x = false →
    s.rewriteOpen x = true →
    exec (.internalRewriteStart n l bad) s
      = .next ((s.correctAll x.src (l.filter (fun w => !bad.contains w.1))).beginRewrite x bad)) ∧
  (∀ s : State, s.on F.mtDriftStatusBehind = false →
    ∃ t, exec .ageMapRecompute s = .next t ∧ t.on F.mtDriftStatusBehind = false) ∧
  (∀ (s : State) (k : Nat), s.refreshNext? = some k →
    s.mt.rewrites.any (fun x => decide (x.kind = RewriteKind.refresh) && State.tileOf x.src = k) = false →
    (State.tilePages k).filter s.needsRefresh = [] →
    ∃ t, exec (.driftRefreshTile k) s = .next t ∧ t.mt.refresh.any (fun x => x.1 = k) = false) ∧
  (∀ s : State, s.tileLate = true → s.on F.mtDriftStatusBehind = false →
    ∃ t, exec .refreshBehind s = .next t ∧ t.on F.mtDriftStatusBehind = true ∧
      (t.lastEvent).map (·.2) = some (sevWarning, noDom)) ∧
  (∀ (s : State) (c p : Nat) (b : Bool), c < s.channels → (s.lapPages c).find? (fun x => (s.chan c).pos ≤ State.lapPos x) = some p →
    s.mayScrub c p = true → (s.lapPages c).getLast? ≠ some p →
    ∃ t, exec (.scrubPageRead c [] [] [] b true) s = .next t ∧
      t.get (F.mtChScrubPosDone c) = satInc (F.mtChScrubPosDone c).w (s.get (F.mtChScrubPosDone c)) ∧ t.obs.raised = s.obs.raised) ∧
  (∀ (s : State) (c : Nat), c < s.channels → s.on (F.mtChScrubStatusStarved c) = false → s.lapPages c ≠ [] →
    (s.chan c).scrubbed + 3600000000000 ≤ s.clk →
    ∃ t, exec (.scrubStarved c) s = .next t ∧ t.on (F.mtChScrubStatusStarved c) = true ∧
      t.lastEvent = some (State.dieSource (c / 4) 11, sevNotice, noDom)) ∧
  (∀ (s : State) (c : Nat), c < s.channels → s.on (F.mtChScrubStatusOverLimit c) = false → s.lapPages c ≠ [] →
    max 1 (s.get F.mtScrubCfgLapLimit) * 86400000000000 < s.clk - (s.chan c).lap →
    ∃ t, exec (.scrubLapOverLimit c) s = .next t ∧ t.on (F.mtChScrubStatusOverLimit c) = true ∧
      t.lastEvent = some (State.dieSource (c / 4) 11, sevWarning, noDom))

/-- Pages and ranks are retired through MT_RETIRE_CTL (R213 to R218). -/
def Obligations.PagesAndRanksRetire : Prop :=
  (∀ (s : State) (l d : Nat), s.on F.mtRetireStatBusy = false → s.get F.mtRetireAddrTarget % 2 ^ 44 / 4096 / pagesPerPlot < s.winPlots →
    s.locate (s.get F.mtRetireAddrTarget % 2 ^ 44 / 4096) = some l → s.spareFor? (pageChan l) = some d →
    s.md.exc.length < 1048576 →
    ∃ t, exec (.retirePageByAddress .register) s = .next t ∧ t.on F.mtRetireStatBusy = true ∧ t.get F.mtRetireStatState = 1 ∧
      t.md.retire = some { op := 1, src := l, dst := d, page := some (s.get F.mtRetireAddrTarget % 2 ^ 44 / 4096) }) ∧
  (∀ (s : State) (p : Plot) (d : Nat), s.on F.mtRetireStatBusy = false → s.pageAt? (s.get F.mtRetireAddrTarget % 2 ^ 32) = none →
    s.gapOf? (s.get F.mtRetireAddrTarget % 2 ^ 32) = some p → s.spareFor? (pageChan (s.get F.mtRetireAddrTarget % 2 ^ 32)) = some d →
    s.md.exc.length < 1048576 →
    ∃ t, exec (.retirePageByLocation .register) s = .next t ∧ t.on F.mtRetireStatBusy = true ∧ t.get F.mtRetireStatState = 1 ∧
      t.md.retire = some { op := 2, src := s.get F.mtRetireAddrTarget % 2 ^ 32, dst := d, page := none }) ∧
  (∀ s : State, s.on F.mtRetireStatBusy = false → s.get F.mtRetireAddrTarget % 32 < s.channels →
    (s.plotsOn (s.get F.mtRetireAddrTarget % 32)).length ≤ s.freeElsewhere (s.get F.mtRetireAddrTarget % 32) →
    ∃ t, exec (.retireRank .register) s = .next t ∧
      t.bit (F.mtChSpareRankRetired (s.get F.mtRetireAddrTarget % 32)) (s.get F.mtRetireAddrTarget / 32 % 2) = true) ∧
  (∀ s : State, s.on F.mtRetireStatBusy = true →
    ∃ t, exec (.retirePageByAddress .register) s = .next t ∧ t.md = s.md ∧ (t.lastEvent).map (·.2) = some (sevNotice, noDom)) ∧
  (∀ s : State, s.on F.mtRetireStatBusy = true →
    ∃ t, exec (.retirePageByLocation .register) s = .next t ∧ t.md = s.md ∧ (t.lastEvent).map (·.2) = some (sevNotice, noDom)) ∧
  (∀ s : State, s.on F.mtRetireStatBusy = true →
    ∃ t, exec (.retireRank .register) s = .next t ∧ t.md = s.md ∧ (t.lastEvent).map (·.2) = some (sevNotice, noDom)) ∧
  (∀ (s : State) (x : Rewrite) (i : RetireIntent),
    s.mt.rewrites.find? (fun (x : Rewrite) => decide (x.kind = RewriteKind.retirement) && x.done) = some x → s.md.retire = some i →
    s.gapOf? x.src = none → s.md.exc.length < 943718 →
    ∃ t, exec .retirementCopyComplete s = .next t ∧ t.md.retire = none ∧ t.on F.mtRetireStatBusy = false ∧
      t.lastEvent = some (State.dieSource (pageDie x.src) 13, sevInfo, noDom))

/-- FT_READ, FT_WRITE, FT_TRIM and FT_FLUSH end with their status and Result (R226 to R232, R373). -/
def Obligations.FlashDescriptorsFinish : Prop :=
  (∀ (s : State) (r h : Nat) (d : Desc), s.startedDesc? r h opFtRead = some d → s.srcWaits (.ring r h) = false → d.left = 0 →
    s.ftStatus false = stOk → s.ftRefusal d = none → d.count = 1 → regionAt d.ftBuffer = .shm →
    s.blockSource (d.hostBlock / 4) (d.hostBlock % 4) = .zero →
    ∃ t, exec (.ftRead r h) s = .next t ∧
      (t.desc? r h).map (·.phase) = some (.finished (worse stOk d.worst) (d.acc + 1))) ∧
  (∀ (s : State) (r h : Nat) (d : Desc) (o : List (BitVec 8)), s.startedDesc? r h opFtWrite = some d →
    s.srcWaits (.ring r h) = false → d.left = 0 → s.ftStatus true = stOk → s.ftRefusal d = none → d.num 28 4 = 0 →
    regionAt d.ftBuffer = .shm → s.ready (.ring r h) [(d.ftBuffer, d.count * 4096)] = true → s.journalFull true = false →
    s.get F.perStatusState ≠ 4 → 4 ≤ s.freeSlots → d.count ≤ 4 →
    (s.loadRegion (s.ringDom r) d.ftBuffer (d.count * 4096) o).2 = false →
    ∃ t, exec (.ftWrite r h o) s = .next t ∧
      (t.desc? r h).map (·.phase) = some (.finished (worse stOk d.worst) (d.count * 4096))) ∧
  (∀ (s : State) (r h : Nat) (d : Desc), s.startedDesc? r h opFtTrim = some d → s.srcWaits (.ring r h) = false →
    s.ftStatus true = stOk → s.ftRefusal d = none → d.hostBlock % 4 = 0 → d.count % 4 = 0 → s.journalFull true = false →
    s.get F.perStatusState ≠ 4 →
    ∃ t, exec (.ftTrim r h) s = .next t ∧ (t.desc? r h).map (·.phase) = some (.finished (worse stOk d.worst) 0)) ∧
  (∀ (s : State) (r h : Nat) (d : Desc), s.startedDesc? r h opFtFlush = some d → s.srcWaits (.ring r h) = false →
    s.ftStatus true = stOk → s.ftRefusal d = none → s.flushWaits d d.left = [] →
    ∃ t, exec (.ftFlush r h) s = .next t ∧
      (t.desc? r h).map (·.phase) = some (.finished (worse stOk d.worst) (d.acc % 2 ^ 48))) ∧
  (∀ (s : State) (r h : Nat) (d : Desc), s.startedDesc? r h opFtTrim = some d → s.ftStatus true ≠ stOk →
    exec (.ftTrim r h) s = .next (s.finish r h (s.ftStatus true) 0))

/-- Dies of the flash: offline, resumed, calibrated, read; and the two registers that shape them (R221 to R253). -/
def Obligations.FlashDiesReadsAndCalibration : Prop :=
  (∀ (s : State) (c k : Nat), k < 16 → s.nandUp c k = true →
    ∃ t, exec (.nandDieOffline c k) s = .next t ∧ t.nandUp c k = false) ∧
  (∀ (s : State) (c k : Nat) (x : Suspended), s.suspended? c k = some x →
    s.ft.reads.any (fun r => locChan r.loc = c && locDie r.loc = k) = false →
    ∃ t, exec (.programResume c k) s = .next t ∧ t.suspended? c k = none) ∧
  (∀ (s : State) (c k : Nat), k < 16 → s.nandUp c k = true → s.get F.ftCalCfgPeriodHours ≠ 0 →
    s.ft.calibrated.find? (fun x => x.1 = nandKey c k) = none → s.get F.ftCalCfgPeriodHours * 3600000000000 ≤ s.clk →
    (s.groupDies (s.dieGroup c k)).any (fun x => s.nandCalibrating x.1 x.2) = false →
    exec (.dieCalibration c k) s = .next (s.setBit (F.ftChCalCalibrating c) k true)) ∧
  (∀ (s : State) (c k : Nat), k < 16 → s.nandUp c k = true → s.nandCalibrating c k = true →
    ∃ t, exec (.calibrationComplete c k) s = .next t ∧ t.nandCalibrating c k = false ∧
      t.ft.calibrated.getLast? = some (nandKey c k, s.clk, s.tempCode (32 + c / 4))) ∧
  (∀ (s : State) (n k r h f : Nat) (x : NandRead) (b : Band) (m : Member), s.ft.reads.find? (fun r => r.id = n) = some x →
    x.blocks = [k] → x.want = .descriptor r h f → x.attempts = 1 → x.soft = false → s.memberAt? x.loc = some (b, m) →
    s.nandCalibrating m.chan m.die = false → s.memberMissing m = false →
    ∃ t, exec (.nandPageReadComplete n [k] []) s = .next t ∧ t.ft.reads.any (fun x => x.id = n) = false) ∧
  (∀ (s : State) (v : BitVec 64), s.ft.grants.any (fun g => g.1 != s.get F.ftGrantCursorIndex && bits g.2 63 1 = 1 &&
      bits g.2 36 10 != bits (v &&& 0x80003FFFFFFFFFFF) 36 10 &&
      bits g.2 0 18 < bits (v &&& 0x80003FFFFFFFFFFF) 0 18 + bits (v &&& 0x80003FFFFFFFFFFF) 18 18 &&
      bits (v &&& 0x80003FFFFFFFFFFF) 0 18 < bits g.2 0 18 + bits g.2 18 18) = false →
    ∃ t, exec (.ftGrantEntryWrite v) s = .next t ∧
      Store.find? t.ft.grants (s.get F.ftGrantCursorIndex) = some (v &&& 0x80003FFFFFFFFFFF)) ∧
  (∀ (s : State) (v : BitVec 64), bits (v &&& 0x80003FFFFFFFFFFF) 63 1 = 1 →
    s.ft.grants.any (fun g => g.1 != s.get F.ftGrantCursorIndex && bits g.2 63 1 = 1 &&
      bits g.2 36 10 != bits (v &&& 0x80003FFFFFFFFFFF) 36 10 &&
      bits g.2 0 18 < bits (v &&& 0x80003FFFFFFFFFFF) 0 18 + bits (v &&& 0x80003FFFFFFFFFFF) 18 18 &&
      bits (v &&& 0x80003FFFFFFFFFFF) 0 18 < bits g.2 0 18 + bits g.2 18 18) = true →
    exec (.ftGrantEntryWrite v) s = .next s) ∧
  (∀ (s : State) (k : Nat) (v : BitVec 32), k < 8 → v.toNat % 64 ≠ 0 → v.toNat % 64 ≤ 32 →
    (((List.range 8).filter (fun i => i != k)).map (fun i => s.get (F.ftStreamCfgBands i))).sum + v.toNat % 64 ≤ 64 →
    (((List.range 8).filter (fun i => i != k)).map (fun i => s.get (F.ftStreamCfgBands i))).sum + v.toNat % 64
      ≤ 4 * s.dieGroups →
    ∃ t, exec (.ftStreamCfgWrite k v) s = .next t ∧ t.get (F.ftStreamCfgBands k) = v.toNat % 64)

/-- Destage, program groups, padding, reclaim, relocation, erase and failures of the flash (R231 to R252). -/
def Obligations.FlashProgramsReclaimAndFailures : Prop :=
  (∀ (s : State) (k : Nat) (x : Slot), s.slot? k = some x → s.mayDestage x = true → x.backing = .unmapped →
    ∃ t, exec (.destage k) s = .next t ∧ (t.slot? k).map (·.destaging) = some (some x.version)) ∧
  (∀ (s : State) (n : Nat) (g : ProgGroup) (b : Band), s.ft.groups.find? (fun g => g.band = n) = some g → s.band? n = some b →
    s.bandSuspended b = false → s.journalFull true = false →
    s.get F.ftHostPagesCount + g.pages.length < 2 ^ 48 →
    ∃ t, exec (.programGroupComplete n) s = .next t ∧ t.get F.ftHostPagesCount = s.get F.ftHostPagesCount +
      (g.pages.filter (fun x => match x.kind with | .destage _ => true | .direct _ _ _ => true | _ => false)).length) ∧
  (∀ (s u : State) (k : Nat) (b : Band), s.ft.staged.any (fun x => x.page.stream = k && match x.kind with
      | .direct _ _ since => since + max 1 (s.get F.ftCtlPadUs) * 100000 ≤ s.clk | _ => false) = true → s.ftWorks = true →
    s.streamBand k = (u, some b) →
    exec (.padTimer k) s = .next (State.issueGroup { u with ft := { u.ft with staged := (u.ft.staged ++
      List.replicate (u.groupPages b - (u.ft.staged.filter (fun x => x.page.stream = k)).length)
        { kind := .filler, page := { blankPage with stream := k }, dead := false }) } } k)) ∧
  (∀ (s : State) (n : Nat) (b : Band), s.band? n = some b → s.ftWorks = true → b.degraded = true → b.state = .closed →
    s.bandBusy n = false →
    exec (.relocation n) s = .next (((s.queueReloc n).copyPages ((s.queueReloc n).validPages n) 6).eraseEmpty)) ∧
  (∀ (s : State) (v : Nat), s.freeBelow s.gcStart = true → s.ftWorks = true → s.ft.victim = some v →
    exec .coppiceReclaim s = .next ((s.put F.ftGcStatusActive true).copyPages ((s.put F.ftGcStatusActive true).validPages v) 4)) ∧
  (∀ (s : State) (n : Nat) (b : Band), s.band? n = some b → b.state = .erasing → s.bandSuspended b = false →
    s.ft.reads.any (fun r => (s.memberAt? r.loc).any (fun x => x.1.num = n)) = false →
    ∃ t, exec (.bandEraseComplete n) s = .next t ∧ t.ft.pages.any (fun x => x.2.band = n) = false) ∧
  (∀ (s : State) (c k p : Nat) (b : Band) (m : Member), c < 64 → s.fm.bands.find? (fun b => s.bandBusy b.num &&
      b.members.any (fun m => m.chan = c && m.die = k)) = some b → b.members.find? (fun m => m.chan = c && m.die = k) = some m →
    ∃ t, exec (.programFailure c k p) s = .next t ∧
      t.get (F.ftChProgFailCountCount c) = satInc 32 (s.get (F.ftChProgFailCountCount c))) ∧
  (∀ (s : State) (c k p : Nat) (b : Band) (m : Member), c < 64 → s.fm.bands.find? (fun b => b.state = .erasing &&
      b.members.any (fun m => m.chan = c && m.die = k)) = some b → b.members.find? (fun m => m.chan = c && m.die = k) = some m →
    s.ft.reads.any (fun r => (s.memberAt? r.loc).any (fun x => x.1.num = b.num)) = false →
    ∃ t, exec (.eraseFailure c k p) s = .next t ∧
      t.get (F.ftChEraseFailCountCount c) = satInc 32 (s.get (F.ftChEraseFailCountCount c)))

/-- Hints of heat, pinning, groups and co-location, and Hazel ownership (R258 to R260, R279 to R281). -/
def Obligations.HintsAndGrants : Prop :=
  (∀ (s : State) (r h : Nat) (d : Desc), s.startedDesc? r h opHint = some d → s.srcWaits (.ring r h) = false →
    s.hintRefusal d = none → s.journalFull false = false → d.hintKind = 1 → d.hintSpace = 0 → d.hintCount = 1 →
    ∃ t, exec (.heat r h) s = .next t ∧
      (t.plot d.hintBase).heat = (if d.hintValue = 15 then none else some d.hintValue) ∧
      (t.desc? r h).map (·.phase) = some (.finished (worse stOk d.worst) 0)) ∧
  (∀ (s : State) (r h : Nat) (d : Desc), s.startedDesc? r h opHint = some d → s.srcWaits (.ring r h) = false →
    s.hintRefusal d = none → s.journalFull false = false → d.hintKind = 2 → d.hintCount = 1 →
    ∃ t, exec (.pin r h) s = .next t ∧ (t.plot d.hintBase).pinned = decide (d.hintValue = 1) ∧
      (t.desc? r h).map (·.phase) = some (.finished (worse stOk d.worst) 0)) ∧
  (∀ (s : State) (r h : Nat) (d : Desc), s.startedDesc? r h opHint = some d → s.srcWaits (.ring r h) = false →
    s.hintRefusal d = none → s.journalFull false = false → d.hintKind = 3 → d.hintSpace = 0 → d.hintCount = 1 →
    ∃ t, exec (.group r h) s = .next t ∧
      (t.plot d.hintBase).group = (if d.hintValue = 0xFFFF then none else some d.hintValue) ∧
      (t.desc? r h).map (·.phase) = some (.finished (worse stOk d.worst) 0)) ∧
  (∀ (s : State) (r h : Nat) (d : Desc), s.startedDesc? r h opHint = some d → s.srcWaits (.ring r h) = false →
    s.hintRefusal d = none → s.journalFull false = false → d.hintKind = 4 →
    ∃ t, exec (.colocate r h) s = .next t ∧ (t.group d.hintBase).colocate = decide (d.hintValue = 1) ∧
      (t.desc? r h).map (·.phase) = some (.finished (worse stOk d.worst) 0)) ∧
  (∀ (s : State) (r h k : Nat) (d : Desc), s.startedDesc? r h opHint = some d →
    s.hintRefusal d = none → s.journalFull false = false → d.hintKind = 5 → d.hintValue = 1 → s.hazelAt? d.hintBase = none →
    (s.group d.hintBase).hazelGranted = false → s.on F.topCtlHazelGrantEnable = true →
    (s.group d.hintBase).hazelAllowed = true → s.groupMapped d.hintBase = false → s.grantDie? d.hintBase = some k →
    ∃ t, exec (.hazelown r h) s = .next t ∧ (t.group d.hintBase).hazelRequested = true ∧ (t.group d.hintBase).hazelDie = k ∧
      (t.hazelAt? d.hintBase).isSome = true) ∧
  (∀ (s : State) (r h : Nat) (d : Desc), s.startedDesc? r h opHint = some d → s.srcWaits (.ring r h) = false →
    s.hintRefusal d = none → s.journalFull false = false → d.hintKind = 5 → d.hintValue = 1 → s.hazelAt? d.hintBase = none →
    (s.group d.hintBase).hazelGranted = false → (s.group d.hintBase).hazelAllowed = false →
    ∃ t, exec (.hazelown r h) s = .next t ∧ (t.desc? r h).map (·.phase) = some (.finished (worse stDomainDenied d.worst) 0)) ∧
  (∀ (s : State) (v : BitVec 64), s.groupPlots (s.get F.topGroupCursorGroup) = [] →
    s.md.nsHints.any (fun h => h.group = some (s.get F.topGroupCursorGroup)) = false →
    (s.group (s.get F.topGroupCursorGroup)).hazelGranted = false → s.journalFull false = false →
    ∃ t, exec (.topGroupCfgWrite v) s = .next t ∧ t.group (s.get F.topGroupCursorGroup) = { s.group (s.get F.topGroupCursorGroup) with
      domain := bits v 0 10, valid := decide (bits v 10 1 = 1), hazelAllowed := decide (bits v 11 1 = 1) }) ∧
  (∀ (s : State) (v : BitVec 64), (s.group (s.get F.topGroupCursorGroup)).hazelGranted = true →
    bits v 0 10 ≠ (s.group (s.get F.topGroupCursorGroup)).domain →
    ∃ t, exec (.topGroupCfgWrite v) s = .next t ∧ t.md = s.md ∧ t.lastEvent = some (148, sevNotice, noDom)) ∧
  (∀ (s : State) (k : Nat) (o : RangeOp), s.lc.ops.find? (fun o => o.slot = k) = some o → s.opDone o = true → o.owner = 0 →
    exec (.rangeOpComplete k) s = .next (s.endOp o).1.startRings)

/-- Heat, balance, migrations, the F-cache and captures (R261 to R278). -/
def Obligations.HeatAndMigrations : Prop :=
  (∀ s : State, s.top.ranked + 10000000000 ≤ s.clk → ∃ t, exec .heatRanking s = .next t ∧ t.top.ranked = s.clk) ∧
  (∀ s : State, s.top.halved + max 1 (s.get F.topHeatCfgHalfLife) * 60000000000 ≤ s.clk →
    exec .heatHalving s = .next { s with
      top := { s.top with halved := s.clk, heat := (s.top.heat.map (fun x => (x.1, x.2 / 2))).filter (fun x => x.2 != 0) }, ft := { s.ft with heat := (s.ft.heat.map (fun x => (x.1, x.2 / 2))).filter (fun x => x.2 != 0) } }) ∧
  (∀ (s : State) (x : Nat × Nat) (i : Nat),
    s.noteLoads.top.overSince.find? (fun x => x.2 + max 1 (s.get F.topHeatCfgBalanceMinutes) * 60000000000 ≤ s.clk) = some x →
    s.on F.topCtlBalanceEnable = true → s.top.lastBalance = 0 → s.hottest = [i] → s.plotDie? i = some x.1 →
    (s.plot i).pinned = false → s.md.migrations = [] → (s.plot i).group = none →
    ∃ t, exec .balanceMove s = .next t ∧ t.top.lastBalance = s.clk ∧
      t.md.migrations.map (fun m => (m.plot, m.reason, m.state)) = [(i, 6, .pending)]) ∧
  (∀ (s : State) (i : Nat), (s.plot i).readOnly = true → (List.range s.part.dies).any s.dieHasSpares = true →
    s.md.migrations = [] → (s.plot i).span.isSome = true →
    ∃ t, exec (.readOnlyPlotMigration i) s = .next t ∧
      t.md.migrations.map (fun m => (m.plot, m.reason, m.state)) = [(i, 3, .pending)]) ∧
  (∀ (s : State) (m : Migration), s.pendingMoves = [m] → s.journalFull false = false → s.moveWithdrawn m = true →
    exec .migrationStart s = .next (s.setMig m.plot none)) ∧
  (∀ (s u : State) (m : Migration) (x : List Nat × Nat) (e : Span), s.pendingMoves = [m] → s.journalFull false = false →
    s.moveWithdrawn m = false → s.maxMigrations ≠ 0 →
    s.md.migrations.any (fun x => decide (x.state = MigState.copying) || decide (x.state = MigState.paused)) = false →
    s.get F.perStatusState ≠ 4 → s.moveSpan? m = some x → s.makeSpan x = (u, some e) →
    exec .migrationStart s = .next (((u.setMig m.plot (some { m with
      state := .copying, cursor := 0, journalled := 0, dst := some e })).pauseMigrations).copyOn { m with
      state := .copying, cursor := 0, journalled := 0, dst := some e })) ∧
  (∀ (s : State) (i : Nat) (m : Migration), s.migration? i = some m → m.state = .copying → s.journalFull false = false →
    s.mt.rewrites.find? (fun (x : Rewrite) => decide (x.kind = RewriteKind.migration i)) = none →
    exec (.migrationPageCopy i) s = .next (s.copyOn m)) ∧
  (∀ (s : State) (i : Nat) (m : Migration),
    s.md.migrations.find? (fun m => m.plot = i && decide (m.state = MigState.releasing)) = some m →
    s.journalFull false = false → m.old.all (fun e => pageChan e.gapPage < 32) = true →
    ∃ t, exec (.migrationRelease i) s = .next t ∧ t.get F.topMigrateCountCount = satInc 32 (s.get F.topMigrateCountCount)) ∧
  (∀ (s : State) (x : Slot), s.fm.slots.filter s.slotDue = [x] → (s.startDestage x).showFull.on F.topStatusFcacheFull = false →
    exec .slotDestageDecision s = .next (s.startDestage x).showFull) ∧
  (∀ (s : State) (p : Nat) (w : MediaWrite) (x : Snapshot), s.per.capturing = [p] → s.journalFull false = false →
    s.mt.writes = [w] → w.page = some p → w.phase = .waiting → s.captureFor? w = some x → s.staged < s.stagingPages →
    ∃ t, exec (.pageCaptureComplete p) s = .next t ∧ t.per.capturing = [] ∧
      t.md.captures.any (fun c => c.epoch = x.epoch && c.page = p && c.whole) = true)

/-- Journal copies, checkpoints from trigger to end, and Quickset errors (R291, R293, R297 to R301). -/
def Obligations.JournalsCheckpointsAndQuicksetErrors : Prop :=
  (∀ (s : State) (n : Nat), s.per.journal.length ≤ n →
    ∃ t, exec (.journalCopyWriteComplete n) s = .next t ∧ t.per.journal.all (·.durable) = true ∧
      t.per.journal.map (·.seq) = s.per.journal.map (·.seq)) ∧
  (∀ (s : State) (f : Bool), s.ckptDue f = true → s.ckptMay f = true → (s.ckpt f).phase = .idle →
    ∃ t, exec (.checkpointTimer f) s = .next t ∧ (t.ckpt f).phase = .imaging (s.get F.perJournalSeqNext) ∧ (t.ckpt f).last = s.clk) ∧
  (∀ s : State, s.perUp = true → s.ftReads = true → s.per.window.phase = .idle → s.per.ftier.phase = .idle →
    ∃ t, exec .checkpointnow s = .next t ∧ t.per.window.phase = .imaging (s.get F.perJournalSeqNext) ∧ t.per.ftier.phase ≠ .idle) ∧
  (∀ (s : State) (f : Bool) (n : Nat), (s.ckpt f).phase = .imaging n → s.perUp = true →
    ∃ t, exec (.checkpointImageWritten f) s = .next t ∧ (t.ckpt f).phase = .ending n (s.get F.perJournalSeqNext)) ∧
  (∀ (s : State) (f : Bool) (n q : Nat), (s.ckpt f).phase = .ending n q → s.perUp = true →
    s.per.journal.any (fun r => r.seq = q && !r.durable) = false →
    ∃ t, exec (.checkpointEndDurable f) s = .next t ∧ (t.ckpt f).phase = .idle ∧ (t.ckpt f).root.map (·.s) = some n ∧
      t.lastEvent = some (117, sevInfo, noDom)) ∧
  (∀ (s : State) (n : Nat), s.per.window.phase = .imaging n → exec .checkpointFailure s = .next (s.failWindowCkpt 0)) ∧
  (∀ (s : State) (line : Nat) (e : QsEntry), s.qs? line = some e →
    ∃ t, exec (.quicksetEntryError line) s = .next t ∧ t.qs.any (fun e => e.line = line) = false ∧
      t.lastEvent = some (126, sevError, noDom))

/-- The power-fail flush, recovery phases, the check rebuild and deleted snapshots (R302 to R316, R321). -/
def Obligations.FlushRecoveryAndSnapshotDeletion : Prop :=
  (∀ s : State, s.get F.pwrStatusState = 3 → s.get F.perStatusState < 4 →
    ∃ t, exec .shutdownnow s = .next t ∧ t.get F.pwrStatusState = 4 ∧ t.get F.pwrStatusLastTrigger = 4 ∧
      t.get F.perStatusState = 4 ∧ t.per.flushStep = (if s.get F.perStatusState = 0 then 6 else 1) ∧
      t.lastEvent = some (112, sevNotice, noDom)) ∧
  (∀ s : State, s.get F.perStatusState = 4 → s.pw.cold = 0 → s.per.flushStep ≤ 6 →
    ∃ t, exec .flushStepComplete s = .next t ∧ t.per.flushStep = s.per.flushStep + 1 ∧
      t.get F.perFlushLastStepReached = s.per.flushStep + 1) ∧
  (∀ s : State, s.get F.perStatusState = 4 → s.pw.cold = 0 → s.per.flushStep = 7 →
    ∃ t, exec .flushStepComplete s = .next t ∧ t.get F.perStatusState = 5 ∧ t.get F.perFlushLastStepReached = 8) ∧
  (∀ (s : State) (bad : List Nat), s.get F.perRecoveryPhase ≠ 0 → s.get F.perStatusState < 4 →
    ∃ t, exec (.recoveryPhaseComplete bad) s = .next t ∧ t.lastEvent = some (120, sevInfo, noDom) ∧
      t.get F.perRecoveryPosition = 0) ∧
  (∀ (s : State) (bad : List Nat), s.get F.perRecoveryPhase = 8 → s.get F.perStatusState < 4 →
    ∃ t, exec (.recoveryPhaseComplete bad) s = .next t ∧ t.get F.perRecoveryPhase = 0) ∧
  (∀ s : State, s.get F.perStatusState = 0 → s.get F.perRecoveryPhase ≠ 0 → s.get F.winStatusWindowState = 0 →
    ∃ t, exec .recoveryBoundExpiry s = .next t ∧ t.lastEvent = some (118, sevError, noDom) ∧ t.regs = s.regs) ∧
  (∀ (s : State) (l : Nat) (bad : List Nat) (d : Bool), s.per.rebuild.head? = some l → s.perUp = true →
    ∃ t, exec (.checkRebuildPage l bad d) s = .next t ∧ t.per.rebuild = s.per.rebuild.tail) ∧
  (∀ (s : State) (k : Nat) (x : Snapshot), s.md.snaps.find? (fun x => x.slot = k && decide (x.state = SnapState.deleting)) = some x →
    s.journalFull false = false → s.md.captures.filter (fun c => c.epoch = x.epoch) = [] →
    ∃ t, exec (.snapshotUnitFree k) s = .next t ∧ t.md.snaps.any (fun y => y.slot = k) = false) ∧
  (∀ (s : State) (k : Nat) (x : Snapshot) (c : Capture),
    s.md.snaps.find? (fun x => x.slot = k && decide (x.state = SnapState.deleting)) = some x →
    s.journalFull false = false → (s.md.captures.filter (fun c => c.epoch = x.epoch)).head? = some c →
    ∃ t, exec (.snapshotUnitFree k) s = .next t ∧ t.md.captures.contains c = false)

/-- Loads, stores, atomics, reservations and barriers of a Hazel core (R332 to R343, R385 to R391). -/
def Obligations.HazelCoresLoadStoreAndSynchronise : Prop :=
  (∀ (s : State) (h pc a n d : Nat) (g : Bool) (o : List (BitVec 8)), s.coreFree h = true → s.hazelStatus h a n false = stOk →
    State.localBlock a = true → s.bufferHit? h a n = none → s.ntHit? h a = none → s.srcHeld (.hazel h) = false → d ≠ 0 → d < 32 →
    (s.core h).x.length = 32 →
    ∃ t, exec (.hazelLoad h pc a n g d o) s = .next t ∧
      (t.core h).x[d]? = some (extend g (s.localRead h a n).length (ofBytes (s.localRead h a n))) ∧
      (t.core h).pc = BitVec.ofNat 64 pc) ∧
  (∀ (s : State) (h pc a n d : Nat) (g : Bool) (o : List (BitVec 8)) (b : BufStore), s.coreFree h = true →
    s.hazelStatus h a n false = stOk → s.bufferHit? h a n = some b → b.addr ≤ a → a + n ≤ b.addr + b.bytes.length →
    State.doorbell? a = none → d ≠ 0 → d < 32 → (s.core h).x.length = 32 →
    ∃ t, exec (.hazelLoad h pc a n g d o) s = .next t ∧ (t.core h).x[d]? = some (extend g
      ((b.bytes.drop (a - b.addr)).take n).length (ofBytes ((b.bytes.drop (a - b.addr)).take n)))) ∧
  (∀ (s : State) (h pc a : Nat) (b : List (BitVec 8)), s.coreFree h = true → s.hazelStatus h a b.length true = stOk →
    (s.core h).buffer.length < 32 →
    ∃ t, exec (.hazelStore h pc a b) s = .next t ∧
      (t.core h).buffer = (s.core h).buffer ++ [{ addr := a, bytes := b, early := s.earlyMode a, sent := none }] ∧
      t.hz.shm = s.hz.shm ∧ (t.core h).scratch = (s.core h).scratch) ∧
  (∀ (s : State) (h pc a : Nat) (b : List (BitVec 8)), s.coreFree h = true → s.hazelStatus h a b.length true = stOk →
    State.localBlock a = false → State.doorbell? a = none → (s.core h).nt = [] → maskRange (a % 64) b.length ≠ maskAll →
    ∃ t, exec (.hazelNtStore h pc a b) s = .next t ∧ (t.core h).nt = [(⟨a / 64, maskRange (a % 64) b.length,
      mergeLine 0 (BitVec.ofNat 512 (ofBytes b * 2 ^ (8 * (a % 64)))) (maskRange (a % 64) b.length), s.clk⟩ : NtBuf)]) ∧
  (∀ (s : State) (h pc a x d : Nat) (op : AmoOp) (o : List (BitVec 8)), s.coreFree h = true → a % 8 = 0 →
    s.hazelStatus h a 8 true = stOk → State.localBlock a = true → a < codeBase → (s.core h).nt = [] → s.coreQuiet h = true →
    (s.core h).dropped = false → d ≠ 0 → d < 32 → (s.core h).x.length = 32 →
    ∃ t, exec (.hazelAmo h pc op a true (BitVec.ofNat 64 x) d o) s = .next t ∧
      (t.core h).x[d]? = some (extend true 8 (ofBytes (s.localRead h a 8))) ∧
      t.localRead h a 8 = leBytes 8 (amoResult op 64 (ofBytes (s.localRead h a 8)) (x % 2 ^ 64))) ∧
  (∀ (s : State) (h pc a d : Nat) (o : List (BitVec 8)), s.coreFree h = true → a % 8 = 0 →
    s.hazelStatus h a 8 false = stOk → State.localBlock a = true → (s.core h).nt = [] → s.coreQuiet h = true →
    (s.core h).dropped = false → d ≠ 0 → d < 32 → (s.core h).x.length = 32 →
    ∃ t, exec (.hazelLr h pc a true d o) s = .next t ∧ (t.core h).resv = some (a / 64) ∧
      (t.core h).x[d]? = some (extend true (s.localRead h a 8).length (ofBytes (s.localRead h a 8)))) ∧
  (∀ (s : State) (h pc a d : Nat) (v : BitVec 64), s.coreFree h = true → a % 8 = 0 → s.hazelStatus h a 8 true = stOk →
    State.localBlock a = true → a < codeBase → (s.core h).nt = [] → s.coreQuiet h = true → (s.core h).dropped = false → d ≠ 0 →
    d < 32 → (s.core h).x.length = 32 → (s.core h).resv = some (a / 64) →
    ∃ t, exec (.hazelSc h pc a true v d) s = .next t ∧ (t.core h).resv = none ∧ (t.core h).x[d]? = some 0 ∧
      t.localRead h a 8 = leBytes 8 v.toNat) ∧
  (∀ (s : State) (h pc a d : Nat) (v : BitVec 64), s.coreFree h = true → a % 8 = 0 → s.hazelStatus h a 8 true = stOk →
    (s.core h).nt = [] → s.coreQuiet h = true → (s.core h).dropped = false → d ≠ 0 → d < 32 → (s.core h).x.length = 32 →
    (s.core h).resv ≠ some (a / 64) →
    ∃ t, exec (.hazelSc h pc a true v d) s = .next t ∧ (t.core h).resv = none ∧ (t.core h).x[d]? = some 1 ∧
      (t.core h).scratch = (s.core h).scratch ∧ t.hz.shm = s.hz.shm ∧ t.out = s.out) ∧
  (∀ (s : State) (h pc : Nat), s.coreFree h = true → (s.core h).nt = [] → s.coreQuiet h = true → (s.core h).dropped = false →
    ∃ t, exec (.fence h pc) s = .next t ∧ (t.core h).barrier = none ∧ (t.core h).pc = BitVec.ofNat 64 pc) ∧
  (∀ (s : State) (h pc : Nat), s.coreFree h = true → (s.core h).nt = [] → (s.core h).buffer ≠ [] →
    ∃ t, exec (.fence h pc) s = .next t ∧ (t.core h).barrier = some .fence ∧ (t.core h).buffer = (s.core h).buffer) ∧
  (∀ (s : State) (h pc : Nat), s.coreFree h = true → (s.core h).nt = [] → s.coreQuiet h = true → (s.core h).dropped = false →
    ∃ t, exec (.fenceI h pc) s = .next t ∧ (t.core h).barrier = none ∧ (t.core h).pc = BitVec.ofNat 64 pc)

/-- Buffers drain, stores are acknowledged or dropped, and exceptions are taken (R338, R344, R349 to R355, R404). -/
def Obligations.HazelBuffersDrainAndFault : Prop :=
  (∀ (s : State) (h l : Nat) (b : NtBuf), (s.core h).nt.find? (fun b => b.line = l) = some b → b.since + 1000 ≤ s.clk →
    ∃ t, exec (.combiningBufferIdle h l) s = .next t ∧ (t.core h).nt.any (fun b => b.line = l) = false) ∧
  (∀ (s : State) (h : Nat) (b : BufStore) (l : List BufStore), (s.core h).buffer = b :: l → b.sent = none →
    State.localBlock b.addr = true → (s.core h).barrier = none → (s.core h).fault = none →
    ∃ t, exec (.storeAck h) s = .next t ∧ (t.core h).buffer = l) ∧
  (∀ (s : State) (h k : Nat) (b : BufStore) (l : List BufStore), h < 256 → (s.core h).buffer = b :: l → b.sent = some k →
    regionAt b.addr = .host → k + s.storeTimeout b.addr ≤ s.clk → (s.core h).barrier = none → (s.core h).fault = none →
    ∃ t, exec (.storeTimeout h) s = .next t ∧ (t.core h).buffer = l ∧
      t.get F.espEarlyFaultCountCount = satInc 32 (s.get F.espEarlyFaultCountCount) ∧
      t.lastEvent = some (250, sevWarning, s.coreDom h)) ∧
  (∀ (s : State) (x : DropSource) (a d : Nat),
    ∃ t, exec (.earlyStoreDrop x a d) s = .next t ∧
      t.get F.espEarlyFaultCountCount = satInc 32 (s.get F.espEarlyFaultCountCount) ∧
      t.get F.espEarlyFaultAddrAddress = a % 2 ^ 48 ∧ t.lastEvent = some (250, sevWarning, d)) ∧
  (∀ (s : State) (h pc a : Nat), s.coreFree h = true → (s.core h).nt = [] → (s.core h).buffer ≠ [] →
    ∃ t, exec (.hazelException h pc .illegal a) s = .next t ∧
      (t.core h).fault = some { code := 2, status := stBadDescriptor, pc := BitVec.ofNat 64 pc, addr := a, dropped := false }) ∧
  (∀ (s : State) (h pc a : Nat), s.coreFree h = true → s.get F.pvDebugStatusState = 3 →
    ∃ t, exec (.hazelException h pc .ebreak a) s = .next t ∧ (t.core h).halted = true ∧ (t.core h).pc = BitVec.ofNat 64 pc) ∧
  (∀ (s : State) (h : Nat), s.coreFree h = true → s.coreState h = coreHandler →
    ∃ t, exec (.handlerReturn h) s = .next t ∧ (t.core h).pc = ((s.core h).x[10]?).getD 0 ∧ t.coreState h = coreRunning)

/-- Kernels are launched, start, synchronise, end and are reset (R394 to R406, R409). -/
def Obligations.HazelKernelsRun : Prop :=
  (∀ (s : State) (r h k : Nat) (d : Desc), s.startedDesc? r h opHzLaunch = some d →
    s.hz.kernels.any (fun k => k.ring = r && k.handle = h) = false → d.num 36 2 ≠ 0xFFFF →
    s.launchDie (some (d.num 36 2)) = .ok k →
    ∃ t, exec (.hzLaunch r h) s = .next t ∧ t.hz.kernels.length = s.hz.kernels.length + 1 ∧
      t.hz.kernels.getLast?.map (fun x => (x.ring, x.handle, x.die, x.phase)) = some (r, h, k, .queued)) ∧
  (∀ (s : State) (k : Nat) (x : Kernel) (i : KImage) (m g : List (BitVec 8)),
    s.hz.kernels.find? (fun x => x.die = k && x.phase = .queued) = some x → s.clusterOnline k = true →
    s.get F.perStatusState ≠ 4 → s.packageLevel ≠ 4 → s.reach x.dom x.image 64 = stOk →
    s.hz.images.find? (fun i => i.die = k && i.addr = x.image &&
      i.crc = (State.makeImage k x.image (s.imageBytes x.dom x.image m) s.clk).crc) = some i →
    s.imageStatus x { i with used := s.clk } = stOk → i.minCores ≤ (s.freeCores k).length → i.sramKiB ≤ s.poolFree k →
    x.timed = none →
    ∃ t, exec (.kernelStart k m g) s = .next t ∧
      (t.kernel? x.id).map (fun y => (y.phase, y.cores)) = some (.running, (s.freeCores k).take x.want)) ∧
  (∀ (s : State) (h pc : Nat) (k : Kernel), s.coreFree h = true → (s.core h).nt = [] → s.coreQuiet h = true →
    (s.core h).dropped = false → s.kernelOf? h = some k → k.die < 8 →
    ∃ t, exec (.exit h pc) s = .next t ∧ t.coreState h = coreIdle ∧ (t.kernel? k.id).map (·.left) = some (k.left ++ [h])) ∧
  (∀ (s : State) (h pc : Nat) (k : Kernel), s.coreFree h = true → (s.core h).nt = [] → s.coreQuiet h = true →
    (s.core h).dropped = false → s.kernelOf? h = some k → k.syncs = [] → k.cores.all (fun c => c = h) = false →
    ∃ t, exec (.coresSync h pc) s = .next t ∧ (t.core h).barrier = some .coresSync ∧ (t.kernel? k.id).map (·.syncs) = some [h]) ∧
  (∀ (s : State) (n : Nat) (k : Kernel), s.kernel? n = some k → k.phase = .running →
    k.cores.all (fun c => k.left.contains c) = true → k.group = none → k.die < 8 →
    ∃ t, exec (.kernelCompletion n) s = .next t ∧ t.kernel? n = none ∧
      t.get (F.hzClKernelCountCount k.die) = satInc 32 (s.get (F.hzClKernelCountCount k.die))) ∧
  (∀ (s : State) (n : Nat) (k : Kernel), s.kernel? n = some k → k.phase = .running → k.deadlineUs ≠ 0 →
    k.begun + k.deadlineUs * 1000 ≤ s.clk →
    ∃ t, exec (.kernelDeadline n) s = .next t ∧ (t.kernel? n).map (fun x => (x.phase, x.status)) = some (.ending, stTimeout)) ∧
  (∀ (s : State) (h : Nat) (k : Kernel), h < s.part.cores → s.coreState h ≠ coreOffline → s.kernelOf? h = some k →
    k.phase ≠ .ending →
    ∃ t, exec (.hzCoreReset h) s = .next t ∧ (t.kernel? k.id).map (fun x => (x.phase, x.status)) = some (.ending, stAbortedReset)) ∧
  (∀ (s : State) (h : Nat), h < 256 → s.coreState h = coreDraining → s.coreQuiet h = true → s.kernelOf? h = none →
    ∃ t, exec (.coreDrainComplete h) s = .next t ∧ t.coreState h = coreIdle) ∧
  (∀ (s : State) (k : Nat), exec (.imageflush k) s
    = .next { s with hz := { s.hz with images := s.hz.images.filter (fun i => i.die != k || s.imageUsed i) } }) ∧
  (∀ (s : State) (k : Nat) (v : BitVec 32), k < s.part.pick 256 128 → s.on (F.hzShmGrantValid k) = false →
    ∃ t, exec (.hzShmGrantWrite k v) s = .next t ∧ t.reg (R.hzShmGrant k) = v.setWidth 64 &&& 0x7FF) ∧
  (∀ (s : State) (k : Nat) (v : BitVec 32) (x : Kernel), s.on (F.hzShmGrantValid k) = true → s.hz.kernels = [x] →
    x.dom = s.get (F.hzShmGrantDomain k) → x.phase ≠ .ending → exec (.hzShmGrantWrite k v) s = .next s)

/-- Accesses to the HZ_ registers over the functions (R409). -/
def Obligations.HazelRegistersRespondThroughDomainZeroOnly : Prop :=
  (∀ (s : State) (dom a w : Nat) (v : BitVec 64), dom ≠ 0 → R.hzStatus ≤ a → a < R.hzStatus + 0x1000 →
    exec (.registerWrite dom a w v) s = .next s) ∧
  (∀ (s : State) (dom d a w : Nat) (v : BitVec 64), dom ≠ 0 → d < 8 → R.hzClCtl d ≤ a → a < R.hzClCtl d + 0x12000 →
    exec (.registerWrite dom a w v) s = .next s) ∧
  (∀ (s : State) (dom a w : Nat) (r : Bool), dom ≠ 0 → R.hzStatus ≤ a → a < R.hzStatus + 0x1000 →
    exec (.registerAccessBadWidth dom a w r) s = .next s) ∧
  (∀ (s : State) (dom d a w : Nat) (r : Bool), dom ≠ 0 → d < 8 → R.hzClCtl d ≤ a → a < R.hzClCtl d + 0x12000 →
    exec (.registerAccessBadWidth dom a w r) s = .next s) ∧
  (∀ (s : State) (a w : Nat) (v : BitVec 64) (x : RegPlace), R.hzStatus ≤ a → a < R.hzStatus + 0x1000 →
    exactReg? s.part a w = some x →
    exec (.registerWrite 0 a w v) s = .next (s.writeReg x a (v &&& BitVec.ofNat 64 (2 ^ (8 * w) - 1)))) ∧
  (∀ (s : State) (d a w : Nat) (v : BitVec 64) (x : RegPlace), d < 8 → R.hzClCtl d ≤ a → a < R.hzClCtl d + 0x12000 →
    exactReg? s.part a w = some x →
    exec (.registerWrite 0 a w v) s = .next (s.writeReg x a (v &&& BitVec.ofNat 64 (2 ^ (8 * w) - 1))))

/-- Doorbells, enable, disable, abort and binding of a ring pair, and the fetch of descriptors (R356 to R365, R376, R377). -/
def Obligations.RingPairsAreEnabledDrivenAndEmptied : Prop :=
  (∀ (s : State) (r dom : Nat) (v : BitVec 16), r < 4096 → s.pageRefused r dom = true →
    exec (.ringSqTailDoorbell r dom v) s = .next (s.raise 160 sevNotice 0 noDom [d4 r, d4 dom])) ∧
  (∀ (s : State) (r dom : Nat) (v : BitVec 16), r < 4096 → s.pageRefused r dom = false → s.remoteMode r = false →
    s.ringState r = ringEnabled → s.get (F.ringIndexSqTail r) ≠ v.toNat →
    State.sub16 v.toNat (s.get (F.ringIndexSqHead r)) ≤ s.sqSize r →
    ∃ t, exec (.ringSqTailDoorbell r dom v) s = .next t ∧ t.get (F.ringIndexSqTail r) = v.toNat ∧
      t.get (F.ringDbSqTailTail r) = v.toNat ∧ t.get (F.ringIndexSqHead r) = s.get (F.ringIndexSqHead r)) ∧
  (∀ (s : State) (r dom : Nat) (v : BitVec 16), r < 4096 → s.pageRefused r dom = false → s.ringState r ≠ ringDisabled →
    s.get (F.ringIndexCqHead r) ≠ v.toNat → State.sub16 (s.get (F.ringIndexCqTail r)) v.toNat ≤ s.cqUsed r →
    ∃ t, exec (.ringCqHeadDoorbell r dom v) s = .next t ∧ t.get (F.ringIndexCqHead r) = v.toNat ∧
      t.get (F.ringDbCqHeadHead r) = v.toNat ∧ t.get (F.ringIndexCqTail r) = s.get (F.ringIndexCqTail r)) ∧
  (∀ (s : State) (r : Nat), r < 4096 → s.ringState r = ringDisabled → s.enableRefusal r = none →
    ∃ t, exec (.ringEnable r) s = .next t ∧ t.ringState r = ringEnabled ∧ t.reg (R.ringIndex r) = 0 ∧
      t.on (F.ringStatusPhase r) = true ∧ t.get (F.ringStatusHaltCause r) = 0 ∧ t.rg.descs = s.rg.descs) ∧
  (∀ (s : State) (r c : Nat), r < 4096 → s.ringState r = ringDisabled → s.enableRefusal r = some c →
    exec (.ringEnable r) s
      = .next ((s.put (F.ringStatusEnableRefused r) true).raise 162 sevNotice 0 noDom [d4 r, d4 (Config.codeOf 10 c)])) ∧
  (∀ (s : State) (r : Nat), r < 4096 → s.ringState r = ringEnabled ∨ s.ringState r = ringHalted → s.ringDescs r ≠ [] →
    ∃ t, exec (.ringDisable r) s = .next t ∧ t.ringState r = ringDraining ∧ t.rg = s.rg ∧ t.on (F.ringCtlEnable r) = false) ∧
  (∀ (s : State) (r : Nat), r < 4096 → s.ringState r = ringEnabled ∨ s.ringState r = ringHalted → s.ringDescs r = [] →
    ∃ t, exec (.ringDisable r) s = .next t ∧ t.ringState r = ringDisabled ∧ t.lastEvent = some (164, sevInfo, noDom)) ∧
  (∀ (s : State) (r : Nat), r < 4096 → s.ringState r ≠ ringDisabled → s.ringState r ≠ ringAborting → s.ringDescs r = [] →
    ∃ t, exec (.abort r) s = .next t ∧ t.ringState r = ringDisabled ∧ t.lastEvent = some (164, sevInfo, noDom)) ∧
  (∀ (s : State) (d : Desc), d.ring < 4096 → s.ringState d.ring ≠ ringDisabled → s.ringState d.ring ≠ ringAborting →
    s.rg.descs = [d] → d.phase = .ready → s.md.armed = [] → s.hz.kernels = [] → s.heldSlots d.ring d.handle = [] →
    s.srcWaits (.ring d.ring d.handle) = false →
    ∃ t, exec (.abort d.ring) s = .next t ∧ t.ringState d.ring = ringAborting ∧
      t.rg.descs = [{ d with phase := .finished (worse stFlushed d.worst) 0 }]) ∧
  (∀ (s : State) (r : Nat) (v : BitVec 32), r < 4096 → s.ringState r = ringDisabled →
    exec (.ringBindWrite r v) s = .next (s.setReg (R.ringBind r) (v.setWidth 64 &&& 0xFFFFFF))) ∧
  (∀ (s : State) (r n : Nat), r < 4096 → s.ringState r = ringEnabled → 0 < n → n ≤ 8 →
    n ≤ State.sub16 (s.get (F.ringIndexSqTail r)) ((s.get (F.ringIndexSqHead r) +
      ((s.ringDescs r).filter (fun (d : Desc) => decide (d.phase = DescPhase.fetching))).length) % 65536) →
    (s.ringDescs r).length + n ≤ s.get (F.ringBindInFlightMax r) → s.cqUsed r + (s.ringDescs r).length + n ≤ s.cqSize r →
    s.rg.descs.length + n ≤ 16384 → s.get F.perStatusState ≠ 4 → s.on F.pvSelftestBusy = false →
    ∃ t, exec (.descriptorFetch r n) s = .next t ∧ t.rg.descs.take s.rg.descs.length = s.rg.descs ∧
      (t.rg.descs.drop s.rg.descs.length).map (fun d => (d.ring, decide (d.phase = DescPhase.fetching)))
        = List.replicate n (r, true)) ∧
  (∀ (s : State) (r : Nat) (d : Desc) (w : List (BitVec 64)), r < 4096 →
    (s.ringDescs r).find? (fun d => d.phase = .fetching) = some d → s.ringState r = ringEnabled →
    regionAt (s.sqSlot r d.index) ≠ .window →
    exec (.descriptorReadComplete r (some w)) s = .next (((s.set (F.ringIndexSqHead r) ((d.index + 1) % 65536)).setDesc
      { d with words := w, stamp := s.nowDtb }).admitDesc { d with words := w, stamp := s.nowDtb })) ∧
  (∀ (s : State) (r : Nat) (d : Desc), r < 4096 → (s.ringDescs r).find? (fun d => d.phase = .fetching) = some d →
    s.ringState r = ringEnabled → regionAt (s.sqSlot r d.index) ≠ .window →
    ∃ t, exec (.descriptorReadComplete r none) s = .next t ∧ t.ringState r = ringHalted ∧
      t.get (F.ringStatusHaltCause r) = 2 ∧ t.lastEvent = some (161, sevWarning, noDom) ∧
      (t.ringDescs r).any (fun d => d.phase = .fetching) = false) ∧
  (∀ (s : State) (r n : Nat) (m : Nat × List (BitVec 8)), r < 4096 → s.remoteMode r = true → s.ringState r = ringEnabled →
    (s.rg.queues.filter (fun (x : Queue) => 32 ≤ x.q && x.q < 96)).findSome? (fun (x : Queue) =>
      x.items.find? (fun i => i.1 = s.get (F.ringRemoteQp r))) = some m →
    m.2.length = 64 * n → 0 < n → n ≤ 16 →
    State.sub16 ((s.popQueue (s.get (F.ringRemoteQp r))).get (F.ringIndexSqTail r))
        ((s.popQueue (s.get (F.ringRemoteQp r))).get (F.ringIndexSqHead r))
      + ((s.popQueue (s.get (F.ringRemoteQp r))).ringDescs r).length + n
        ≤ (s.popQueue (s.get (F.ringRemoteQp r))).sqSize r →
    exec (.remoteSubmission r) s = .next ((s.popQueue (s.get (F.ringRemoteQp r))).placeDescs r n m.2))

/-- RING_NOP, MOVE, cuts, snapshots, shutdown, checkpoint, completion, progress and notification (R317 to R323, R366 to
R375). -/
def Obligations.DescriptorsRunAndComplete : Prop :=
  (∀ (s : State) (r h : Nat) (d : Desc), s.startedDesc? r h opNop = some d → s.srcWaits (.ring r h) = false →
    ∃ t, exec (.ringNop r h) s = .next t ∧ (t.desc? r h).map (·.phase) = some (.finished (worse stOk d.worst) 0) ∧
      t.regs = s.regs) ∧
  (∀ (s u : State) (r h : Nat) (d : Desc) (o : List (BitVec 8)), s.startedDesc? r h opMove = some d → s.opRefusal d = none →
    s.ready (.ring r h) [(d.num 16 8, State.moveLen d)] = true →
    State.copyRange (.ring r h) (s.ringDom r) d.stamp (d.num 16 8) (d.num 24 8) ((s.taken (.ring r h)).linePoison (s.ringDom r))
      (State.moveLen d / 16 + 4) 0 ((s.taken (.ring r h)).loadRegion (s.ringDom r) (d.num 16 8) (State.moveLen d) o).1 none
      (s.taken (.ring r h)) = (u, none) →
    exec (.move r h o) s = .next (u.finish r h stOk (State.moveLen d))) ∧
  (∀ (s : State) (r h st : Nat) (d : Desc) (o : List (BitVec 8)), s.startedDesc? r h opMove = some d →
    s.opRefusal d = some st → s.srcWaits (.ring r h) = false →
    ∃ t, exec (.move r h o) s = .next t ∧ (t.desc? r h).map (·.phase) = some (.finished (worse st d.worst) 0) ∧ t.regs = s.regs) ∧
  (∀ (s u : State) (r h : Nat) (d : Desc), s.startedDesc? r h opEpochCut = some d → s.journalFull false = false →
    s.md.armed.any (fun c => c.ring = r && c.handle = h) = false → s.md.armed.any (fun c => c.epoch = d.num 16 4) = false →
    d.num 16 4 = s.md.openEpoch → s.md.lastEpochCut = none → s.time.dtb < d.launch → d.ring = r → d.handle = h →
    s.armCut? ⟨d.num 16 4, false, d.launch, r, h⟩ d.dropLate = some u →
    exec (.epochCut r h) s = .next u) ∧
  (∀ (s u : State) (r h : Nat) (d : Desc), s.startedDesc? r h opSnapCut = some d → s.journalFull false = false →
    s.md.armed.any (fun c => c.ring = r && c.handle = h) = false → s.md.armed.any (fun c => c.epoch = d.num 16 4) = false →
    d.num 16 4 = s.md.openEpoch → s.md.lastSnapCut = none → s.time.dtb < d.launch → d.ring = r → d.handle = h →
    s.md.snaps.length + (s.md.armed.filter (·.snapshot)).length < 16 →
    s.armCut? ⟨d.num 16 4, true, d.launch, r, h⟩ d.dropLate = some u →
    exec (.snapshotCut r h) s = .next u) ∧
  (∀ (s : State) (r h : Nat) (d : Desc) (x : Snapshot), s.startedDesc? r h opSnapDelete = some d → s.journalFull false = false →
    s.md.snaps.find? (fun x => x.epoch = d.num 16 4) = some x →
    exec (.snapshotDelete r h) s = .next ((s.journal (.snapState { x with state := .deleting })).finish r h stOk 0)) ∧
  (∀ (s u : State) (r h : Nat) (d : Desc) (x : Snapshot), s.startedDesc? r h opSnapRead = some d → s.opRefusal d = none →
    s.md.snaps.find? (fun x => x.epoch = d.num 16 4) = some x → x.state = .active →
    s.modifiedLines (d.num 24 8) (State.moveLen d) = [] →
    State.storeLines (.ring r h) (s.ringDom r) d.stamp (d.num 40 8) 0 ((List.range (State.moveLen d / 64)).map (fun k =>
      s.snapLine (s.ringDom r) (d.num 24 8 / 64 + k)
        ((s.md.snaps.filter (fun y => x.epoch ≤ y.epoch)).map (·.epoch)).mergeSort)) none s = (u, none) →
    exec (.snapshotRead r h) s = .next (u.finish r h stOk (State.moveLen d))) ∧
  (∀ (s : State) (r h : Nat) (d : Desc), s.startedDesc? r h opShutdown = some d → s.get F.pwrStatusState = 3 →
    s.get F.perStatusState < 4 →
    ∃ t, exec (.adminShutdown r h) s = .next t ∧ t.get F.pwrStatusState = 4 ∧ t.get F.pwrStatusLastTrigger = 4 ∧
      t.get F.perStatusState = 4 ∧ t.rg = s.rg ∧ t.lastEvent = some (112, sevNotice, noDom)) ∧
  (∀ (s : State) (r h : Nat) (d : Desc), s.startedDesc? r h opCheckpoint = some d → s.per.ckptWait.contains (r, h) = false →
    ∃ t, exec (.adminCheckpoint r h) s = .next t ∧ t.per.ckptWait = s.per.ckptWait ++ [(r, h)] ∧ t.rg = s.rg) ∧
  (∀ (s : State) (r h st n : Nat) (d : Desc), r < 4096 → s.desc? r h = some d → d.phase = .finished st n → d.late = false →
    s.srcHeld (.ring r h) = false → s.get F.perStatusState ≠ 4 → s.get (F.ringStatusHaltCause r) ≠ 3 → s.remoteMode r = false →
    regionAt (s.cqSlot r (s.get (F.ringIndexCqTail r))) = .host →
    ∃ t, exec (.descriptorComplete r h false) s = .next t ∧ t.desc? r h = none ∧
      t.get (F.ringIndexCqTail r) = (s.get (F.ringIndexCqTail r) + 1) % 65536 ∧
      t.out.take (s.out.length + 1) = s.out ++ [.hostWrite (s.cqSlot r (s.get (F.ringIndexCqTail r)))
        (s.entryBytes r d.tag st n d.op false false)]) ∧
  (∀ (s : State) (r h m p : Nat) (d : Desc), r < 4096 → s.desc? r h = some d → d.phase = .started → d.progress = true →
    longOp d.op = true →
    d.begun + (d.periods + 1) * (max 1 (s.get (F.ringCoalesceProgressPeriod r)) * 10000000) ≤ s.clk →
    s.get (F.ringStatusHaltCause r) ≠ 3 → s.get F.perStatusState ≠ 4 → s.cqUsed r + (s.ringDescs r).length < s.cqSize r →
    exec (.progressRecord r h m p) s = .next ((s.setDesc { d with periods := d.periods + 1 }).writeEntry r
      ((s.setDesc { d with periods := d.periods + 1 }).entryBytes r d.tag stOk (min 999 m + p * 1024) d.op true false) false)) ∧
  (∀ (s : State) (r h m p : Nat) (d : Desc), r < 4096 → s.desc? r h = some d → d.phase = .started → d.progress = true →
    longOp d.op = true →
    d.begun + (d.periods + 1) * (max 1 (s.get (F.ringCoalesceProgressPeriod r)) * 10000000) ≤ s.clk →
    s.get (F.ringStatusHaltCause r) ≠ 3 → s.get F.perStatusState ≠ 4 → s.cqSize r ≤ s.cqUsed r + (s.ringDescs r).length →
    ∃ t, exec (.progressRecord r h m p) s = .next t ∧ (t.desc? r h).map (·.periods) = some (d.periods + 1) ∧
      t.get (F.ringProgSkipCount r) = satInc (F.ringProgSkipCount r).w (s.get (F.ringProgSkipCount r)) ∧ t.out = s.out) ∧
  (∀ (s : State) (r : Nat) (u : Unnotified), s.rg.unnotified.find? (fun x => x.ring = r) = some u →
    u.since + s.get (F.ringCoalesceUs r) * 1000 ≤ s.clk →
    ∃ t, exec (.notificationCoalesceTimer r) s = .next t ∧ t.rg.unnotified = s.rg.unnotified.filter (fun x => x.ring != r))

/-- Range operations through a register slot, Q_FLUSH and spill quotas (R140 to R147, R380, R381). -/
def Obligations.RangeOperationsQueuesAndQuotas : Prop :=
  (∀ (s : State) (i : Nat), i < 8 → s.slotBusy i = false → s.get (F.lcRangeOpCtlOwner i) = 0 →
    (s.set (F.lcRangeOpCtlOp i) opClean).rangeRefusal opClean (s.get (F.lcRangeOpAddrSector i)) (s.get (F.lcRangeOpLenSectors i)) 0 = none →
    ∃ t, exec (.clean (.slot i)) s = .next t ∧ t.lc.ops.map (fun o => (o.slot, o.op)) = s.lc.ops.map (fun o => (o.slot, o.op)) ++ [(i, opClean)] ∧
      t.on (F.lcRangeOpStatBusy i) = true) ∧
  (∀ (s : State) (i : Nat), i < 8 → s.slotBusy i = false → s.get (F.lcRangeOpCtlOwner i) = 0 →
    (s.set (F.lcRangeOpCtlOp i) opInvalidate).rangeRefusal opInvalidate (s.get (F.lcRangeOpAddrSector i)) (s.get (F.lcRangeOpLenSectors i)) 0 = none →
    ∃ t, exec (.invalidate (.slot i)) s = .next t ∧ t.lc.ops.map (fun o => (o.slot, o.op)) = s.lc.ops.map (fun o => (o.slot, o.op)) ++ [(i, opInvalidate)] ∧
      t.on (F.lcRangeOpStatBusy i) = true) ∧
  (∀ (s : State) (i : Nat), i < 8 → s.slotBusy i = false → s.get (F.lcRangeOpCtlOwner i) = 0 →
    (s.set (F.lcRangeOpCtlOp i) opPrefetch).rangeRefusal opPrefetch (s.get (F.lcRangeOpAddrSector i)) (s.get (F.lcRangeOpLenSectors i)) 0 = none →
    ∃ t, exec (.prefetch (.slot i)) s = .next t ∧ t.lc.ops.map (fun o => (o.slot, o.op)) = s.lc.ops.map (fun o => (o.slot, o.op)) ++ [(i, opPrefetch)] ∧
      t.on (F.lcRangeOpStatBusy i) = true) ∧
  (∀ (s : State) (i : Nat), i < 8 → s.slotBusy i = false → s.get (F.lcRangeOpCtlOwner i) = 0 →
    (s.set (F.lcRangeOpCtlOp i) opLock).rangeRefusal opLock (s.get (F.lcRangeOpAddrSector i)) (s.get (F.lcRangeOpLenSectors i)) 0 = none →
    ∃ t, exec (.lockRange (.slot i)) s = .next t ∧ t.lc.ops.map (fun o => (o.slot, o.op)) = s.lc.ops.map (fun o => (o.slot, o.op)) ++ [(i, opLock)] ∧
      t.on (F.lcRangeOpStatBusy i) = true) ∧
  (∀ (s : State) (i : Nat), i < 8 → s.slotBusy i = false → s.get (F.lcRangeOpCtlOwner i) = 0 →
    (s.set (F.lcRangeOpCtlOp i) opUnlock).rangeRefusal opUnlock (s.get (F.lcRangeOpAddrSector i)) (s.get (F.lcRangeOpLenSectors i)) 0 = none →
    ∃ t, exec (.unlock (.slot i)) s = .next t ∧ t.lc.ops.map (fun o => (o.slot, o.op)) = s.lc.ops.map (fun o => (o.slot, o.op)) ++ [(i, opUnlock)] ∧
      t.on (F.lcRangeOpStatBusy i) = true) ∧
  (∀ (s : State) (i : Nat), i < 8 → s.slotBusy i = false → s.get (F.lcRangeOpCtlOwner i) = 0 →
    ∃ t, exec (.invalidateall (.slot i)) s = .next t ∧
      t.lc.ops.map (fun o => (o.slot, o.op)) = s.lc.ops.map (fun o => (o.slot, o.op)) ++ [(i, opInvalidateAll)] ∧
      t.on (F.lcRangeOpStatBusy i) = true) ∧
  (∀ (s : State) (q : Nat), 32 ≤ q → q < 96 → s.queuePresent q = true →
    ∃ t, exec (.qFlush q) s = .next t ∧ (t.queue q).items = [] ∧ t.on (F.qStatusFlushed q) = true ∧
      t.lastEvent = some (166, sevInfo, noDom) ∧
      t.get (F.qFlushCountCount q) = satInc (F.qFlushCountCount q).w (s.get (F.qFlushCountCount q))) ∧
  (∀ (s : State) (q n : Nat), 32 ≤ q → q < 112 → s.queuePresent q = true → s.queueItems q = 0 →
    ((((List.range 80).map (· + 32)).filter (fun x => s.queuePresent x && x != q)).map
      (fun x => s.get (F.qCfgSpillQuotaMiB x))).sum + n ≤ s.part.pick 4096 2048 →
    exec (.spillQuotaWrite q n) s = .next (s.set (F.qCfgSpillQuotaMiB q) n)) ∧
  (∀ (s : State) (q n : Nat), 32 ≤ q → q < 112 → s.queuePresent q = true → s.part.pick 4096 2048 < n →
    exec (.spillQuotaWrite q n) s = .next (s.raise 165 sevWarning 0 noDom [d4 q, d4 (s.get (F.qDropCount q))]))

/-- Commits of queue pairs, regions and GIDs, port links, frames, pause and rate control (R410, R412, R414, R415, R418,
R429 to R433). -/
def Obligations.NetworkContextsRegionsAndPorts : Prop :=
  (∀ (s : State) (n : Nat) (v : BitVec 64), n < 65536 → s.qp? n = none → bits (v &&& 0x7FFFFFFFF) 0 3 = 1 →
    s.qpBinding (v &&& 0x7FFFFFFFF) = true → 3 ≤ bits (s.stagedQp 2) 50 3 → bits (s.stagedQp 2) 50 3 ≤ 5 →
    ∃ t, exec (.netQpCtx0Commit n v) s = .next t ∧ (t.qp? n).map (fun q => (q.ctx0, q.ctx1, q.ctx2, q.ctx3)) =
      some (v &&& 0x7FFFFFFFF, s.stagedQp 0, s.stagedQp 1, s.stagedQp 2)) ∧
  (∀ (s : State) (n : Nat) (v : BitVec 64) (q : Qp), n < 65536 → s.qp? n = some q → bits q.ctx0 0 3 = 2 →
    bits (v &&& 0x7FFFFFFFF) 0 3 = 3 → bits q.ctx0 3 22 = bits (v &&& 0x7FFFFFFFF) 3 22 →
    3 ≤ bits (s.stagedQp 2) 50 3 → bits (s.stagedQp 2) 50 3 ≤ 5 → s.on F.perMirrorCfgEnable = false →
    ∃ t, exec (.netQpCtx0Commit n v) s = .next t ∧ (t.qp? n).map (fun q => (q.ctx0, q.ctx1, q.ctx2, q.ctx3)) =
      some (v &&& 0x7FFFFFFFF, s.stagedQp 0, s.stagedQp 1, s.stagedQp 2)) ∧
  (∀ (s : State) (n : Nat) (v : BitVec 64), n < 65536 → State.qpMove (s.qpState n) (bits (v &&& 0x7FFFFFFFF) 0 3) = false →
    exec (.netQpCtx0Commit n v) s = .next (s.raise 201 sevNotice 0 noDom [d4 0x48, d4 n, d4 (Config.codeOf 13 0)])) ∧
  (∀ (s : State) (i base len : Nat) (v : BitVec 32), i < 131072 → base = bits ((s.net.stageMr[0]?).getD 0) 0 48 →
    len = bits ((s.net.stageMr[1]?).getD 0) 0 48 → base % 4096 = 0 → len % 4096 = 0 → regionOf base len = .window →
    base + len ≤ s.winPlots * plotBytes → s.windowGranted (bits (v.setWidth 64) 8 10) base len = true →
    ∃ t, exec (.netMrCtlCommit i v) s = .next t ∧ t.mr? i = some ⟨i, base, len,
      putBits ((v.setWidth 64) &&& 0x3FFF00) 0 8 (((s.mr? i).map (fun m => bits m.ctl 0 8)).getD 0 + 1)⟩ ∧ t.regs = s.regs) ∧
  (∀ (s : State) (i : Nat) (v : BitVec 32), i < 256 → v.getLsbD 17 = true ∨ s.net.qps = [] →
    exec (.netGidCtlCommit i v) s = .next { s with net := { s.net with gids := s.net.gids.filter (fun (x : Gid) => x.idx != i)
      ++ [⟨i, (s.net.stageGid[0]?).getD 0, (s.net.stageGid[1]?).getD 0, (v.setWidth 64) &&& 0x3FFFF⟩] } }) ∧
  (∀ (s : State) (p : Nat), p < 8 → s.ethPresent p = true → s.bit F.netStatusPortUp p = false → s.get F.pvModeMode < 3 →
    ∃ t, exec (.portLinkUp p) s = .next t ∧ t.bit F.netStatusPortUp p = true ∧ t.on (F.netPortStatusUp p) = true ∧
      t.get (F.netPortStatusSpeed p) = s.get F.netLaneCfgMode0 ∧ t.lastEvent = some (193, sevInfo, noDom)) ∧
  (∀ (s : State) (p : Nat), p < 16 → s.bit F.netStatusPortUp p = true →
    ∃ t, exec (.portLinkDown p) s = .next t ∧ t.bit F.netStatusPortUp p = false ∧ t.on (F.netPortStatusUp p) = false ∧
      t.get (F.netPortStatusLinkDowns p) = satInc (F.netPortStatusLinkDowns p).w (s.get (F.netPortStatusLinkDowns p))) ∧
  (∀ (s : State) (p : Nat), s.ethPresent p = true → s.net.paused.filter (fun x => x.1 = p) = [] →
    ∃ t, exec (.pfcPauseReceive p true) s = .next t ∧ t.bit F.netStatusPaused p = true ∧
      t.net.paused = s.net.paused.filter (fun x => x.1 != p) ++ [(p, s.clk)]) ∧
  (∀ (s : State) (p : Nat), s.ethPresent p = true → s.net.qps.filter (fun (q : Qp) => q.port = p) = [] →
    ∃ t, exec (.pfcPauseReceive p false) s = .next t ∧ t.bit F.netStatusPaused p = false ∧
      t.net.paused = s.net.paused.filter (fun x => x.1 != p) ∧ t.net.qps = s.net.qps) ∧
  (∀ (s : State) (p : Nat), s.net.paused.any (fun x => x.1 = p && x.2 + 100000000 ≤ s.clk) = true → s.net.said.contains p = false →
    ∃ t, exec (.portPaused100ms p) s = .next t ∧ t.net.said = s.net.said ++ [p] ∧ t.lastEvent = some (199, sevNotice, noDom)) ∧
  (∀ (s : State) (p n : Nat) (m : BitVec 48) (f : Frame), s.ethPresent p = true → s.bit F.netStatusPortUp p = true →
    exec (.ethFrameReceive p n m false f) s = .next (s.bump F.netDropCountCount)) ∧
  (∀ (s : State) (p n : Nat) (m : BitVec 48) (g : BitVec 128), s.ethPresent p = true → s.bit F.netStatusPortUp p = true →
    n ≤ 9216 → m.toNat = s.get (F.netPortCfgMac p) → s.portGid p g = true →
    ∃ t, exec (.ethFrameReceive p n m true (.resolve g)) s = .next t ∧ t.out.getLast? = some (.resolved p g) ∧ t.net = s.net) ∧
  (∀ (s : State) (n : Nat) (q : Qp), s.liveQp? n = some q → s.on F.netCcCfgEnable = true →
    exec (.cnpReceive n) s = .next (s.setQp { q with
      target := q.rate,
      rate := max s.minRate (q.rate * (2 ^ 33 - q.alpha) / 2 ^ 33),
      alpha := q.alpha + (2 ^ 32 - q.alpha) / 2 ^ s.get F.netCcCfgG,
      lastCnp := s.clk })) ∧
  (∀ (s : State) (n : Nat) (q : Qp), s.liveQp? n = some q → s.on F.netCcCfgEnable = true →
    max q.lastCnp q.lastAlpha + max 1 (s.get F.netCcCfgAlphaUs) * 1000 ≤ s.clk →
    exec (.ccAlphaTimer n) s
      = .next (s.setQp { q with alpha := q.alpha - q.alpha / 2 ^ s.get F.netCcCfgG, lastAlpha := s.clk })) ∧
  (∀ (s : State) (n : Nat) (q : Qp), s.liveQp? n = some q → s.on F.netCcCfgEnable = true →
    q.lastInc + max 1 (s.get F.netCcCfgIncUs) * 1000 ≤ s.clk →
    exec (.ccIncreaseTimer n) s = .next (s.setQp { q with
      target := min (q.target + s.get F.netCcCfgRai * 100) (s.ethRate q.port),
      rate := max s.minRate ((q.rate + min (q.target + s.get F.netCcCfgRai * 100) (s.ethRate q.port)) / 2),
      lastInc := s.clk }))

/-- SEND, RDMA WRITE, RDMA READ and the atomics of a peer, and their acknowledgements (R416 to R423, R428). -/
def Obligations.ResponderTakesPeerRequests : Prop :=
  (∀ (s u : State) (n : Nat) (q : Qp) (b : List (BitVec 8)), s.liveQp? n = some q → s.netServes q = true → q.rxEnable = true →
    b.length ≤ 4096 → s.pushQueue? q.rxQueue n b = some u →
    exec (.send n q.rqPsn true true b) s
      = .next ((u.setQp { q with inbound := none, ctx3 := putBits q.ctx3 0 24 (psnAdd q.rqPsn 1) }).send (.roceAck n q.rqPsn))) ∧
  (∀ (s : State) (n a k : Nat) (q : Qp) (b : List (BitVec 8)), s.liveQp? n = some q → s.netServes q = true →
    s.checkWrite q true a k b.length 0 b.length = none → s.bulkBytes q.port + b.length ≤ s.queueRoom (96 + q.port) * 64 →
    exec (.rdmaWrite n q.rqPsn true true a k b.length b) s = .next
      (((s.setQp { q with inbound := none, ctx3 := putBits q.ctx3 0 24 (psnAdd q.rqPsn 1), acks := q.acks ++ [(q.rqPsn, none)] }
        ).storeRegion (.rdma q.num q.rqPsn) q.domain s.nowDtb a b).showBulk q.port)) ∧
  (∀ (s : State) (n p : Nat) (q : Qp) (l : List (Nat × Option (BitVec 64))), s.liveQp? n = some q → q.acks = (p, none) :: l →
    s.srcHeld (.rdma n p) = false → s.bit F.netStatusPaused q.port = false →
    exec (.rdmaWriteAckSend n) s = .next ((s.setQp { q with acks := l }).send (.roceAck n p))) ∧
  (∀ (s : State) (n p : Nat) (q : Qp) (v : BitVec 64) (l : List (Nat × Option (BitVec 64))), s.liveQp? n = some q →
    q.acks = (p, some v) :: l → s.srcHeld (.rdma n p) = false → s.bit F.netStatusPaused q.port = false →
    exec (.rdmaWriteAckSend n) s = .next ((s.setQp { q with acks := l }).send (.roceAtomicAck n p v))) ∧
  (∀ (s : State) (n a k len : Nat) (q : Qp), s.liveQp? n = some q → s.netServes q = true → len ≤ 2 ^ 30 →
    State.pendingReads q < q.maxDestRd → s.remoteRefusal q k a len 18 = none →
    exec (.rdmaRead n q.rqPsn a k len) s = .next (s.setQp { q with
      reads := q.reads ++ [⟨q.rqPsn, a, len, 0⟩],
      ctx3 := putBits q.ctx3 0 24 (psnAdd q.rqPsn (q.packets len)) })) ∧
  (∀ (s : State) (n : Nat) (q : Qp) (r : PeerRead) (l : List PeerRead) (b : List (BitVec 8)), s.liveQp? n = some q →
    q.reads = r :: l → q.acks = [] → s.bit F.netStatusPaused q.port = false → r.packets * q.mtu < r.len →
    s.modifiedLines (r.addr + r.packets * q.mtu) (min q.mtu (r.len - r.packets * q.mtu)) = [] →
    s.loadRegion q.domain (r.addr + r.packets * q.mtu) (min q.mtu (r.len - r.packets * q.mtu)) [] = (b, false) →
    exec (.readResponseSend n) s = .next ((s.setQp { q with
      reads := if q.packets r.len ≤ r.packets + 1 then l else { r with packets := r.packets + 1 } :: l }).send
        (.roceReadResponse n (psnAdd r.psn r.packets) b))) ∧
  (∀ (s : State) (n a k : Nat) (q : Qp) (x : BitVec 64) (b : List (BitVec 8)), s.liveQp? n = some q → s.netServes q = true →
    a % 8 = 0 → State.pendingReads q < q.maxDestRd → s.remoteRefusal q k a 8 20 = none → s.modifiedLines a 8 = [] →
    q.acks = [] → s.loadRegion q.domain a 8 [] = (b, false) →
    exec (.fetchAndAdd n q.rqPsn a k x) s = .next ((s.setQp { q with
      ctx3 := putBits q.ctx3 0 24 (psnAdd q.rqPsn 1),
      atomics := (q.atomics ++ [(q.rqPsn, BitVec.ofNat 64 (ofBytes b))]).drop (q.atomics.length + 1 - 16),
      acks := [(q.rqPsn, some (BitVec.ofNat 64 (ofBytes b)))] }).storeRegion (.rdma n q.rqPsn) q.domain s.nowDtb a
        (leBytes 8 (BitVec.ofNat 64 (ofBytes b) + x).toNat))) ∧
  (∀ (s : State) (n a k : Nat) (q : Qp) (x y : BitVec 64) (b : List (BitVec 8)), s.liveQp? n = some q → s.netServes q = true →
    a % 8 = 0 → State.pendingReads q < q.maxDestRd → s.remoteRefusal q k a 8 20 = none → s.modifiedLines a 8 = [] →
    q.acks = [] → s.loadRegion q.domain a 8 [] = (b, false) →
    exec (.compareAndSwap n q.rqPsn a k x y) s = .next ((s.setQp { q with
      ctx3 := putBits q.ctx3 0 24 (psnAdd q.rqPsn 1),
      atomics := (q.atomics ++ [(q.rqPsn, BitVec.ofNat 64 (ofBytes b))]).drop (q.atomics.length + 1 - 16),
      acks := [(q.rqPsn, some (BitVec.ofNat 64 (ofBytes b)))] }).storeRegion (.rdma n q.rqPsn) q.domain s.nowDtb a
        (leBytes 8 (if BitVec.ofNat 64 (ofBytes b) = x then y else BitVec.ofNat 64 (ofBytes b)).toNat)))

/-- Peer transfers of a ring, acknowledgements, NAKs and retries (R415, R416, R425). -/
def Obligations.RequesterTransfersAndRetries : Prop :=
  (∀ (s : State) (r h : Nat) (d : Desc) (o : List (BitVec 8)) (x : Nat × List (BitVec 8)),
    s.startedDesc? r h opPeerWrite = some d → s.peerStarted d = false → s.peerRefusal d = none →
    s.ready (.ring r h) [(d.num 16 8, State.moveLen d)] = true →
    (s.taken (.ring r h)).goodRuns (s.ringDom r) (d.num 16 8) (State.moveLen d / 32 + 4) 0
      ((s.taken (.ring r h)).loadRegion (s.ringDom r) (d.num 16 8) (State.moveLen d) o).1 = ([x], none) →
    exec (.movePeerWrite r h o) s = .next (((s.taken (.ring r h)).setDesc
      { d with left := 1, worst := stOk, acc := State.moveLen d }).request (d.num 36 2) (.write (d.num 24 8 + x.1) x.2) r h
        (d.num 40 4) x.2.length)) ∧
  (∀ (s : State) (r h st : Nat) (d : Desc) (o : List (BitVec 8)), s.startedDesc? r h opPeerWrite = some d →
    s.peerStarted d = false → s.peerRefusal d = some st → s.srcWaits (.ring r h) = false →
    ∃ t, exec (.movePeerWrite r h o) s = .next t ∧ (t.desc? r h).map (·.phase) = some (.finished (worse st d.worst) 0) ∧
      t.regs = s.regs ∧ t.net = s.net) ∧
  (∀ (s : State) (r h : Nat) (d : Desc), s.startedDesc? r h opPeerRead = some d → s.peerStarted d = false →
    s.peerRefusal d = none → 0 < State.moveLen d → State.moveLen d ≤ 2 ^ 30 →
    exec (.movePeerRead r h) s = .next ((s.setDesc { d with left := 1, acc := State.moveLen d }).request (d.num 36 2)
      (.read (d.num 16 8) (d.num 24 8)) r h (d.num 40 4) (State.moveLen d))) ∧
  (∀ (s : State) (n p : Nat) (q : Qp) (r : PeerReq) (dst : Nat) (x b : List (BitVec 8)), s.liveQp? n = some q →
    q.requests = [r] → r.kind = .write dst x → r.sent.isSome = true → psnDiff p r.last < 2 ^ 23 →
    exec (.ackReceive n p b) s = .next (((s.setQp { q with requests := [], retries := q.retryCnt, rnr := q.rnrRetry }).peerDone r).pump n)) ∧
  (∀ (s : State) (n : Nat) (q : Qp) (r : PeerReq), s.liveQp? n = some q → q.requests.find? (fun r => r.sent.isSome) = some r →
    r.sent.getD 0 + q.timeout ≤ s.clk → q.retries ≠ 0 →
    exec (.qpRetryTimeout n) s = .next ((s.setQp { q with retries := q.retries - 1 }).resend n r.psn)) ∧
  (∀ (s : State) (n : Nat) (q : Qp) (r : PeerReq), s.liveQp? n = some q → q.requests.find? (fun r => r.sent.isSome) = some r →
    r.sent.getD 0 + q.timeout ≤ s.clk → q.retries = 0 →
    ∃ t, exec (.qpRetryTimeout n) s = .next t ∧ t.qpState n = 4 ∧ t.lastEvent = some (198, sevWarning, noDom)) ∧
  (∀ (s : State) (n p : Nat) (q : Qp), s.liveQp? n = some q → q.retries ≠ 0 →
    exec (.nakReceive n p .sequence) s = .next ((s.setQp { q with retries := q.retries - 1 }).resend n p)) ∧
  (∀ (s : State) (n p : Nat) (q : Qp), s.liveQp? n = some q → q.rnrRetry ≠ 7 → q.rnr ≠ 0 →
    exec (.nakReceive n p .notReady) s = .next ((s.setQp { q with rnr := q.rnr - 1 }).resend n p)) ∧
  (∀ (s : State) (n p : Nat) (q : Qp), s.liveQp? n = some q →
    ∃ t, exec (.nakReceive n p .accessError) s = .next t ∧ t.qpState n = 4 ∧ t.lastEvent = some (196, sevWarning, noDom))

/-- Mirror lines, end of epoch, apply, acknowledgement, resync, enable and disable (R324 to R327, R426, R427). -/
def Obligations.MirrorSendsAppliesAndAcknowledges : Prop :=
  (∀ (s : State) (n e q : Nat) (l : List (Nat × BitVec 512)), s.mirrorRole n 2 = true → q % 2 ^ 64 < 2 ^ 63 →
    s.per.receive.length + l.length ≤ State.mirrorReceiveSize →
    ∃ t, exec (.mirrorLines n e q l true) s = .next t ∧ t.per.receive = s.per.receive ++ l.map (fun x => ⟨x.1, x.2, false, e⟩)) ∧
  (∀ (s : State) (n e q : Nat) (l : List (Nat × BitVec 512)), s.mirrorRole n 2 = true →
    exec (.mirrorLines n e q l false) s
      = .next ((s.popQueue n).raise 200 sevWarning 0 noDom [d4 n, d4 e]).mirrorResync) ∧
  (∀ (s : State) (n e q : Nat) (x : MirrorLine), s.mirrorRole n 2 = true → q % 2 ^ 64 < 2 ^ 63 → s.per.receive = [x] →
    x.epoch ≤ e →
    exec (.mirrorEndOfEpoch n e q true) s = .next ((State.showMirror { (s.popQueue n).journal (.mirrorApply e true) with
        per := { ((s.popQueue n).journal (.mirrorApply e true)).per with receive := [] } }).windowWrite
      { src := .device, line := x.line, dom := s.qpDomain n, mask := maskAll, data := x.data, poison := x.poison,
        stamp := s.nowDtb })) ∧
  (∀ (s : State) (e : Nat), s.md.applying = some e → e < 2 ^ 32 → s.srcHeld .device = false → s.on F.perMirrorCfgEnable = true →
    s.get F.perMirrorCfgRole = 2 →
    ∃ t, exec .mirrorApplyComplete s = .next t ∧ t.get F.perMirrorStatusAckedEpoch = e ∧ t.get F.perMirrorStatusState = 1 ∧
      t.md.applying = none) ∧
  (∀ (s : State) (n e q : Nat), s.mirrorRole n 1 = true → 2 ^ 63 ≤ q % 2 ^ 64 → e < 2 ^ 32 →
    ∃ t, exec (.mirrorAcknowledgement n e q true) s = .next t ∧ t.get F.perMirrorStatusAckedEpoch = e ∧
      t.per.send = s.per.send.filter (fun x => e < x.epoch)) ∧
  (∀ (s : State) (n e q : Nat), s.mirrorRole n 1 = true → 2 ^ 63 ≤ q % 2 ^ 64 → s.per.send.any (fun x => x.epoch = e) = true →
    exec (.mirrorRequestEpochAgain n e q true) s = .next ((s.popQueue n).sendEpoch e)) ∧
  (∀ s : State, s.on F.perMirrorCfgEnable = true → s.get F.perMirrorCfgRole = 1 →
    s.qpState (s.get F.perMirrorCfgPeerQp) = 3 → s.mirrorKey = true → s.get F.perMirrorStatusState = 1 →
    s.per.sent < s.md.openEpoch →
    exec .mirrorEndMarkerSend s = .next { s.sendEpoch s.per.sent with
      per := { (s.sendEpoch s.per.sent).per with sent := s.per.sent + 1 } }) ∧
  (∀ s : State, s.on F.perMirrorCfgEnable = true → s.get F.perMirrorCfgRole = 1 →
    s.qpState (s.get F.perMirrorCfgPeerQp) = 3 → s.mirrorKey = true → s.get F.perMirrorStatusState = 2 → s.per.resend = [] →
    exec .mirrorEndMarkerSend s = .next (s.sendMirror (.endMarker s.md.openEpoch) 0)) ∧
  (∀ (s : State) (v : BitVec 64), s.on F.perMirrorCfgEnable = false → v.getLsbD 2 = true → bits v 0 2 = 1 →
    ∃ t, exec (.mirrorEnable v) s = .next t ∧ t.on F.perMirrorCfgEnable = true ∧ t.get F.perMirrorStatusState = 2 ∧
      t.reg R.perMirrorCfg = v &&& 0xFFFF0000FF07 ∧ t.per.send = [] ∧ t.per.mirrorSeq = 0) ∧
  (∀ (s : State) (v : BitVec 64), s.on F.perMirrorCfgEnable = true → v.getLsbD 2 = false →
    ∃ t, exec (.mirrorDisable v) s = .next t ∧ t.on F.perMirrorCfgEnable = false ∧ t.get F.perMirrorStatusState = 0 ∧
      t.get F.perMirrorCfgRole = s.get F.perMirrorCfgRole ∧ t.per.send = [] ∧ t.per.receive = [])

/-- Training of a Kilius port, its attempts, losses and retraining (R456 to R462, R472 to R474). -/
def Obligations.KiliusPortsTrainAndRetrain : Prop :=
  (∀ (s : State) (k : Nat), k < 11 → s.part.port k = true → s.klState k = portReset → s.partnerRails k = true →
    s.on (F.klLinkCtlDisable k) = false →
    ∃ t, exec (.kiliusTrainingStart k) s = .next t ∧ t.klState k = portTraining ∧ t.get (F.klLinkStatusTrainStep k) = 1) ∧
  (∀ (s : State) (k : Nat) (d : BitVec 64) (l : LaneTest), s.part.port k = true → s.klState k = portTraining →
    (s.klPort k).backoff = none → s.get (F.klLinkStatusTrainStep k) = 2 → State.idRefused k d = false →
    exec (.kiliusTrainingStep k d l) s = .next ((s.setReg (R.klPartnerId k) d).set (F.klLinkStatusTrainStep k) 3)) ∧
  (∀ (s : State) (k : Nat) (d : BitVec 64) (l : LaneTest), s.part.port k = true → s.klState k = portTraining →
    (s.klPort k).backoff = none → s.get (F.klLinkStatusTrainStep k) = 2 → State.idRefused k d = true →
    exec (.kiliusTrainingStep k d l) s
      = .next (((s.setReg (R.klPartnerId k) d).raise 246 sevError 0 noDom [d4 k, d8 d.toNat]).linkLost k 8)) ∧
  (∀ (s : State) (k : Nat) (d : BitVec 64) (l : LaneTest), k < 11 → s.part.port k = true → s.klState k = portTraining →
    (s.klPort k).backoff = none → s.get (F.klLinkStatusTrainStep k) = 9 →
    ∃ t, exec (.kiliusTrainingStep k d l) s = .next t ∧ t.klState k = portUp ∧ t.get (F.klLinkStatusTrainStep k) = 10) ∧
  (∀ (s : State) (k n : Nat), k < 11 → k < s.kl.length → s.part.port k = true → s.klState k = portTraining →
    (s.klPort k).backoff = none → s.get (F.klLinkStatusTrainStep k) = n → n ≠ 4 → n ≠ 5 → (s.klPort k).tries + 1 < s.attempts k →
    ∃ t, exec (.kiliusTrainingStepFail k) s = .next t ∧ t.klState k = portTraining ∧ t.get (F.klLinkStatusTrainStep k) = 0 ∧
      (t.klPort k).tries = (s.klPort k).tries + 1 ∧ (t.klPort k).backoff = some (s.clk + 1000000)) ∧
  (∀ (s : State) (k n : Nat), k < 11 → (s.klPort k).backoff = some n → n ≤ s.clk → s.klState k = portTraining →
    ∃ t, exec (.trainingBackoff k) s = .next t ∧ t.klState k = portTraining ∧ t.get (F.klLinkStatusTrainStep k) = 1 ∧
      (t.klPort k).backoff = none) ∧
  (∀ (s : State) (k : Nat), k < 10 → s.part.port k = true → s.klState k = portUp ∨ s.klState k = portL1 →
    ∃ t, exec (.klRetrain k) s = .next t ∧ t.klState k = portRetraining ∧
      t.get (F.klRetrainCountCount k) = satInc (F.klRetrainCountCount k).w (s.get (F.klRetrainCountCount k))) ∧
  (∀ (s : State) (k : Nat), k < 11 → s.portIsUp k = true →
    ∃ t, exec (.phyretrainRequest k) s = .next t ∧ t.klState k = portRetraining ∧
      t.get (F.klRetrainCountCount k) = satInc (F.klRetrainCountCount k).w (s.get (F.klRetrainCountCount k))) ∧
  (∀ (s : State) (k : Nat), k < 10 → s.part.port k = true → s.klState k ≠ portReset →
    exec (.klDisable k true) s = .next ((s.put (F.klLinkCtlDisable k) true).linkLost k 7)) ∧
  (∀ (s : State) (k : Nat), k < 10 → s.part.port k = true →
    exec (.klDisable k false) s = .next (s.put (F.klLinkCtlDisable k) false)) ∧
  (∀ (s : State) (k : Nat), s.part.port k = true → 2 ≤ s.klState k → s.klState k ≤ 4 →
    exec (.sidebandLoss k) s = .next (s.linkLost k 5)) ∧
  (∀ (s : State) (f : Flit) (k : Nat), k = 8 ∨ k = 9 → s.part.port k = true → 2 ≤ s.klState k → s.klState k ≤ 4 →
    State.badFlit f = false → s.get (F.klAgentStatusState (k - 8)) = 0 →
    ∃ t, exec (.downnotice k f) s = .next t ∧ t.klState k = portDown ∧ t.get (F.klLinkStatusDownCause k) = 4 ∧
      t.bit F.pvUnitsLostKiliusPort k = true) ∧
  (∀ (s u : State) (k d : Nat) (l : LaneTest), k < 11 → s.part.port k = true → s.klState k = portRetraining →
    (s.klPort k).backoff = none → s.testLanes k l = some u → s.measured? k = some d → (u.klPort k).txBuf = [] →
    ∃ t, exec (.retrainingComplete k true (s.reg (R.klPartnerId k)) l) s = .next t ∧ t.klState k = portUp) ∧
  (∀ (s : State) (k : Nat) (d : BitVec 64) (l : LaneTest), s.part.port k = true → s.klState k = portRetraining →
    (s.klPort k).backoff = none →
    exec (.retrainingComplete k false d l) s = .next (s.attemptFails k))

/-- Control, Payload and Idle flits, L1, CRC errors and replay of a Kilius port (R464 to R470, R475). -/
def Obligations.KiliusFlitsPowerStatesAndReplay : Prop :=
  (∀ (s : State) (k : Nat) (f : Flit), k < s.kl.length → s.part.port k = true → s.klState k = portTraining →
    s.get (F.klLinkStatusTrainStep k) = 7 → (s.klPort k).backoff = none → State.badFlit f = false → f.ctlOp = 1 →
    ∃ t, exec (.align k f) s = .next t ∧ (t.klPort k).aligned = (s.klPort k).aligned + 1 ∧ t.regs = s.regs) ∧
  (∀ (s : State) (k : Nat) (f : Flit), s.part.port k = true → s.klState k ≠ portReset → s.klState k ≠ portDown →
    State.badFlit f = false →
    exec (.delayprobe k f) s
      = .next (s.send (.klControl k 3 (f.ctlArg % 256 + 256 * (s.freeWord.toNat % 2 ^ 24)))).drew) ∧
  (∀ (s : State) (k n : Nat) (f : Flit), s.part.port k = true → s.klState k = portRetraining → State.badFlit f = false →
    f.ctlArg % 256 < 16 → (s.klPort k).echoes.any (fun x => x.1 = f.ctlArg % 256) = false →
    exec (.delayecho k f n) s = .next (s.setKl k { s.klPort k with
      echoes := (s.klPort k).echoes ++ [(f.ctlArg % 256, (n - f.ctlArg / 256 % 2 ^ 24) / 2)] })) ∧
  (∀ (s u : State) (k : Nat) (f : Flit), s.part.port k = true → s.klState k = portUp ∨ s.klState k = portL1 →
    State.badFlit f = false → u = (s.cKl k 0x59 0 1).takeAck k f → u.klState k = portUp → f.ctlArg % 4 = 1 → u.mayL1 k = true →
    ∃ t, exec (.pmreq k f) s = .next t ∧ t.klState k = portL1 ∧ t.out = u.out ++ [.klControl k 5 1]) ∧
  (∀ (s u : State) (k : Nat) (f : Flit), s.part.port k = true → s.klState k = portUp ∨ s.klState k = portL1 →
    State.badFlit f = false → u = (s.cKl k 0x59 0 1).takeAck k f → u.klState k = portUp → f.ctlArg % 4 ≠ 1 →
    exec (.pmreq k f) s = .next (u.send (.klControl k 6 (f.ctlArg % 4)))) ∧
  (∀ (s u : State) (k : Nat) (f : Flit) (q : PmReq), s.part.port k = true → s.klState k = portUp ∨ s.klState k = portL1 →
    State.badFlit f = false → u = (s.cKl k 0x59 0 1).takeAck k f → (u.klPort k).pm = some q → q.want = 1 → f.ctlArg % 4 = 1 →
    ∃ t, exec (.pmack k f) s = .next t ∧ t.klState k = portL1 ∧ (t.klPort k).pm = none) ∧
  (∀ (s u : State) (k : Nat) (f : Flit) (q : PmReq), s.part.port k = true → s.klState k = portUp ∨ s.klState k = portL1 →
    State.badFlit f = false → u = (s.cKl k 0x59 0 1).takeAck k f → (u.klPort k).pm = some q → q.want = f.ctlArg % 4 →
    exec (.pmnak k f) s = .next (u.setKl k { u.klPort k with pm := none, lastPayload := u.clk })) ∧
  (∀ (s : State) (k : Nat) (q : PmReq), s.portIsUp k = true → (s.klPort k).pm = some q → q.last + 1000 ≤ s.clk → q.sent < 5 →
    exec (.pmreqRetry k) s = .next ((s.setKl k { s.klPort k with pm := some { q with sent := q.sent + 1, last := s.clk } }).send
      (.klControl k 4 q.want))) ∧
  (∀ (s : State) (k : Nat) (f : Flit), s.part.port k = true → s.klState k = portUp ∨ s.klState k = portL1 →
    State.badFlit f = false → f.flitType = 1 →
    exec (.payloadFlit k f) s = .next (((s.cKl k 0x59 0 1).takeAck k f).takePayload k f)) ∧
  (∀ (s : State) (k : Nat) (f : Flit), s.part.port k = true → s.klState k = portUp ∨ s.klState k = portL1 →
    State.badFlit f = false → f.flitType = 0 →
    exec (.idleFlit k f) s = .next ((s.cKl k 0x59 0 1).takeAck k f)) ∧
  (∀ (s : State) (k : Nat) (f : Flit), s.part.port k = true → s.klState k = portUp ∨ s.klState k = portL1 →
    State.badFlit f = false → f.flitType = 2 → 7 < f.ctlOp →
    exec (.idleFlit k f) s = .next (((s.cKl k 0x59 0 1).takeAck k f).bump (F.klCtlDiscardCountCount k))) ∧
  (∀ (s : State) (k : Nat) (b : List (BitVec 8)), k < 11 → s.portIsUp k = true → flitGood b = false →
    ∃ t, exec (.flitCrcError k b) s = .next t ∧
      t.get (F.klCrcErrCountCount k) = satInc (F.klCrcErrCountCount k).w (s.get (F.klCrcErrCountCount k))) ∧
  (∀ (s : State) (k : Nat) (b : List (BitVec 8)), k < 11 → s.portIsUp k = true → flitGood b = false → 7 ≤ (s.klPort k).badRun →
    ∃ t, exec (.flitCrcError k b) s = .next t ∧ t.klState k = portRetraining) ∧
  (∀ (s : State) (k : Nat) (x : KlSent) (l : List KlSent), s.portIsUp k = true → (s.klPort k).txBuf = x :: l →
    x.last + max 64 (s.get (F.klReplayCfgAckTimeoutNs k)) ≤ s.clk →
    exec (.ackTimeout k) s = .next (s.replayFrom k x.seq)) ∧
  (∀ (s : State) (k : Nat), s.portIsUp k = true → s.mayL1 k = true → (s.klPort k).pm = none →
    exec (.l1IdleTimer k) s = .next ((s.setKl k { s.klPort k with pm := some ⟨1, 1, s.clk, s.clk⟩ }).send (.klControl k 4 1))) ∧
  (∀ (s : State) (k : Nat), s.part.port k = true → s.klState k = portL1 →
    exec (.l1Exit k true true) s = .next (s.leaveL1 k)) ∧
  (∀ (s : State) (k : Nat), s.part.port k = true → s.klState k = portL1 → (s.klPort k).txWait ≠ [] →
    exec (.l1Exit k false false) s = .next (s.startLinkRetrain k 4))

/-- Key commands of a domain, the XTS key switch, pins, replicas and lost cipher cores (R438 to R446). -/
def Obligations.KeyCommandsAndKeyResidence : Prop :=
  (∀ (s : State) (d k : Nat), d < 1024 → k < 8 → s.keyBusy d = false →
    ∃ t, exec (.loadGcmSlot d k) s = .next t ∧ t.keyBusy d = true ∧ t.cip.cmds = s.cip.cmds ++
      [⟨d, 1, k, (List.range 5).flatMap (fun i => leBytes 8 (s.get (F.cipDomWrapWrapped d i)))⟩] ∧ t.cip.slots = s.cip.slots) ∧
  (∀ (s : State) (d k : Nat), d < 1024 → k < 8 → s.keyBusy d = false →
    ∃ t, exec (.clearGcmSlot d k) s = .next t ∧ t.keyBusy d = true ∧ t.cip.cmds = s.cip.cmds ++ [⟨d, 2, k, []⟩] ∧
      t.cip.slots = s.cip.slots) ∧
  (∀ (s : State) (d : Nat), d < 1024 → s.keyBusy d = false → s.keyInUse d = false →
    ∃ t, exec (.replaceXtsKey d 0) s = .next t ∧ t.keyBusy d = true ∧ t.cip.cmds = s.cip.cmds ++ [⟨d, 3, 0, []⟩] ∧
      t.cip.keys = s.cip.keys) ∧
  (∀ (s : State) (d m : Nat), d < 1024 → m ≠ 0 →
    exec (.replaceXtsKey d m) s = .next (s.raise 225 sevNotice 0 noDom [d4 d, d4 3, d4 stDomainDenied])) ∧
  (∀ (s : State) (d : Nat) (c : KeyCmd), d < 1024 → s.cip.cmds.find? (fun c => c.dom = d && c.op != 3) = some c → c.op = 2 →
    c.slot < 8 →
    ∃ t, exec (.keyCommandComplete d) s = .next t ∧ t.cip.slots.any (fun x => x.1 = d && x.2.1 = c.slot) = false ∧
      t.bit (F.cipDomStatusSlotValid d) c.slot = false ∧ t.keyBusy d = false ∧ t.lastEvent = some (224, sevInfo, noDom)) ∧
  (∀ (s : State) (d : Nat) (c : KeyCmd) (x y : List (BitVec 8)), d < 1024 →
    s.cip.cmds.find? (fun c => c.dom = d && c.op != 3) = some c → c.op = 1 → c.slot < 8 →
    Store.find? s.pv.keks d = some x → keyUnwrap x c.wrapped = some y →
    ∃ t, exec (.keyCommandComplete d) s = .next t ∧ t.cip.slots.contains (d, c.slot, y) = true ∧
      t.bit (F.cipDomStatusSlotValid d) c.slot = true ∧ t.keyBusy d = false ∧ t.lastEvent = some (224, sevInfo, noDom)) ∧
  (∀ (s : State) (d : Nat) (c : KeyCmd), d < 1024 → s.cip.cmds.find? (fun c => c.dom = d && c.op != 3) = some c → c.op = 1 →
    (Store.find? s.pv.keks d).bind (fun x => keyUnwrap x c.wrapped) = none →
    ∃ t, exec (.keyCommandComplete d) s = .next t ∧ t.cip.slots = s.cip.slots ∧ t.keyBusy d = false ∧
      t.lastEvent = some (230, sevWarning, noDom)) ∧
  (∀ (s : State) (d : Nat), d < 1024 → s.cip.cmds.any (fun c => c.dom = d && c.op = 3) = true →
    s.qs.any (fun e => e.dom = d) = false →
    ∃ t, exec (.xtsKeySwitch d) s = .next t ∧ t.get (F.cipDomXtsGeneration d) = (s.get (F.cipDomXtsGeneration d) + 1) % 65536 ∧
      t.keyBusy d = false ∧ t.lastEvent = some (224, sevInfo, noDom)) ∧
  (∀ (s : State) (d : Nat), s.cip.idle.any (fun i => i.1 = d && i.2 + 1000000000 ≤ s.clk) = true → s.keyActive d = false →
    ∃ t, exec (.keyPinRelease d) s = .next t ∧ t.cip.xts.any (fun e => e.dom = d && e.pinned) = false ∧
      t.cip.xts.map (fun e => (e.core, e.dom)) = s.cip.xts.map (fun e => (e.core, e.dom)) ∧
      t.cip.idle.any (fun i => i.1 = d) = false) ∧
  (∀ (s : State) (d c : Nat), s.on F.cipCtlReplicaEnable = true → s.cip.xts.any (fun e => e.dom = d) = true →
    s.xtsOnline.find? (fun c => !(s.keysIn c).any (fun e => e.dom = d) && s.pinsIn c < 64) = some c →
    ∃ t, exec (.keyReplicaLoad d) s = .next t ∧ t.cip.xts.contains ⟨c, d, false, s.clk⟩ = true) ∧
  (∀ (s : State) (c : Nat), c < 15 → s.bit F.cipStatusGcmOnline c = true →
    ∃ t, exec (.cipherCoreOffline true c) s = .next t ∧ t.bit F.cipStatusGcmOnline c = false ∧
      t.cip.gcm = s.cip.gcm.filter (fun e => e.core != c) ∧ t.lastEvent = some (228, sevCritical, noDom)) ∧
  (∀ (s : State) (c k : Nat), c < 16 → k < 16 → k ≠ c → s.bit F.cipStatusXtsOnline c = true → s.bit F.cipStatusXtsOnline k = true →
    ∃ t, exec (.cipherCoreOffline false c) s = .next t ∧ t.bit F.cipStatusXtsOnline c = false ∧
      t.cip.xts.any (fun e => e.core = c) = false) ∧
  (∀ (s : State) (d : Nat), d < s.part.dies → s.cip.lanes.contains d = false →
    ∃ t, exec (.nearPathLaneFailure d) s = .next t ∧ t.cip.lanes = s.cip.lanes ++ [d] ∧
      t.lastEvent = some (229, sevCritical, noDom))

/-- SEAL and OPEN descriptors (R370, R373, R444, R447). -/
def Obligations.GcmDescriptorsSealAndOpen : Prop :=
  (∀ (s u : State) (r h n : Nat) (d : Desc) (k o x y : List (BitVec 8)), s.startedDesc? r h opSeal = some d →
    s.takenKey? r h = some k → s.ready (.ring r h) (State.gcmReads d) = true → u = s.taken (.ring r h) →
    u.gcmOperands d o = (x, y, false) → u.gcmRefusal d y false = none → n = State.moveLen d →
    exec (.gcmSeal r h o) s = .next (((((u.useGcmKey k).gcmText64 (u.ringDom r) (State.units64 n)).storeRegion (.ring r h) (u.ringDom r)
        d.stamp (d.num 24 8) (gcmText k (y.take 12) ((x.drop (d.num 38 2)).take n))).storeRegion (.ring r h) (u.ringDom r)
        d.stamp (d.num 40 8 + 16) (gcmTag k (y.take 12) (x.take (d.num 38 2))
          (gcmText k (y.take 12) ((x.drop (d.num 38 2)).take n)))).endGcm r h stOk n)) ∧
  (∀ (s u : State) (r h n : Nat) (d : Desc) (k o x y : List (BitVec 8)), s.startedDesc? r h opOpen = some d →
    s.takenKey? r h = some k → s.ready (.ring r h) (State.gcmReads d) = true → u = s.taken (.ring r h) →
    u.gcmOperands d o = (x, y, false) → u.gcmRefusal d y false = none → n = State.moveLen d →
    gcmTag k (y.take 12) (x.take (d.num 38 2)) ((x.drop (d.num 38 2)).take n) = (y.drop 16).take 16 →
    exec (.gcmOpen r h o) s = .next ((((u.useGcmKey k).gcmText64 (u.ringDom r) (State.units64 n)).storeRegion (.ring r h) (u.ringDom r)
        d.stamp (d.num 24 8) (gcmText k (y.take 12) ((x.drop (d.num 38 2)).take n))).endGcm r h stOk n)) ∧
  (∀ (s u : State) (r h n : Nat) (d : Desc) (k o x y : List (BitVec 8)), s.startedDesc? r h opOpen = some d →
    s.takenKey? r h = some k → s.ready (.ring r h) (State.gcmReads d) = true → u = s.taken (.ring r h) →
    u.gcmOperands d o = (x, y, false) → u.gcmRefusal d y false = none → n = State.moveLen d →
    gcmTag k (y.take 12) (x.take (d.num 38 2)) ((x.drop (d.num 38 2)).take n) ≠ (y.drop 16).take 16 →
    ∃ t, exec (.gcmOpen r h o) s = .next t ∧ t.lastEvent = some (226, sevNotice, noDom)) ∧
  (∀ (s : State) (r h st : Nat) (d : Desc) (k o x y : List (BitVec 8)) (p : Bool), s.startedDesc? r h opSeal = some d →
    s.takenKey? r h = some k → s.ready (.ring r h) (State.gcmReads d) = true →
    (s.taken (.ring r h)).gcmOperands d o = (x, y, p) → (s.taken (.ring r h)).gcmRefusal d y p = some st →
    exec (.gcmSeal r h o) s = .next ((s.taken (.ring r h)).endGcm r h st 0)) ∧
  (∀ (s : State) (r h st : Nat) (d : Desc) (k o x y : List (BitVec 8)) (p : Bool), s.startedDesc? r h opOpen = some d →
    s.takenKey? r h = some k → s.ready (.ring r h) (State.gcmReads d) = true →
    (s.taken (.ring r h)).gcmOperands d o = (x, y, p) → (s.taken (.ring r h)).gcmRefusal d y p = some st →
    exec (.gcmOpen r h o) s = .next ((s.taken (.ring r h)).endGcm r h st 0))

/-- Boot, firmware transfer and activation, Commit and Revert (R118, R516 to R519). -/
def Obligations.FirmwareUpdateStartsAndCommits : Prop :=
  (∀ (s : State) (a b : FlashBank) (k : List Nat) (u : Bool), s.pw.inReset = false → s.pw.booted = false → s.pw.lost = false →
    ∃ t, exec (.privetBoot a b k u) s = .next t ∧ t.pw.booted = true ∧ t.get F.pvModeStartPhase = 1) ∧
  (∀ (s : State) (n : Nat), n < s.ldCount → exec (.getFwInfo n) s = .next (s.send (.mailbox n 0x200 .success
    [2, s.get F.pvStatusBootBank + 1, s.get F.pvStatusPending, s.get F.pvFwVersionVersion]))) ∧
  (∀ (s : State) (n : Nat) (d : List (BitVec 8)), n < s.ldCount → s.isMgmt n = true → s.pv.transfer = none →
    d.length ≤ 48 * 2 ^ 20 →
    exec (.transferFw n 0 0 d) s = .next
      (({ s with pv := { s.pv with lastBank := some (!s.on F.pvStatusBootBank) } }.send
        (.flashWrite (if s.on F.pvStatusBootBank then 0x00100000 else 0x03200000) d)).send (.mailbox n 0x201 .success []))) ∧
  (∀ (s : State) (n : Nat) (d : List (BitVec 8)), n < s.ldCount → s.isMgmt n = true → s.pv.transfer = none →
    d.length ≤ 48 * 2 ^ 20 →
    ∃ t, exec (.transferFw n 1 0 d) s = .next t ∧ t.pv = { s.pv with transfer := some d.length }) ∧
  (∀ (s : State) (n k : Nat) (d : List (BitVec 8)), n < s.ldCount → s.isMgmt n = true → s.pv.transfer = some k →
    k + d.length ≤ 48 * 2 ^ 20 →
    ∃ t, exec (.transferFw n 2 k d) s = .next t ∧ t.pv = { s.pv with transfer := some (k + d.length) }) ∧
  (∀ (s : State) (n k : Nat) (d : List (BitVec 8)), n < s.ldCount → s.isMgmt n = true → s.pv.transfer = some k →
    k + d.length ≤ 48 * 2 ^ 20 →
    ∃ t, exec (.transferFw n 3 k d) s = .next t ∧
      t.pv = { s.pv with transfer := none, lastBank := some (!s.on F.pvStatusBootBank) }) ∧
  (∀ (s : State) (n k o : Nat) (d : List (BitVec 8)), n < s.ldCount → s.isMgmt n = true → s.pv.transfer = some k → o ≠ k →
    exec (.transferFw n 2 o d) s = .next (s.send (.mailbox n 0x201 .invalidInput []))) ∧
  (∀ (s : State) (n slot : Nat) (b : Bool), n < s.ldCount → s.isMgmt n = true → s.pv.lastBank = some b →
    s.pv.transfer = none → slot = State.bankNum b + 1 →
    ∃ t, exec (.activateFw n 1 slot) s = .next t ∧ t.pv.pending = some b ∧ t.pv.trials = 0 ∧
      t.get F.pvStatusPending = State.bankNum b + 1 ∧ t.out = s.out ++ [.mailbox n 0x202 .success []]) ∧
  (∀ (s : State) (b : FlashBank), s.pv.image = some b → s.on F.pvStatusTrial = true → s.windowServes = true →
    ∃ t, exec .commit s = .next t ∧ t.pv.active = s.on F.pvStatusBootBank ∧ t.pv.pending = none ∧ t.pv.trials = 0 ∧
      t.on F.pvStatusTrial = false ∧ t.lastEvent = some (2, sevInfo, noDom)) ∧
  (∀ s : State, s.on F.pvStatusTrial = false →
    ∃ t, exec .revert s = .next t ∧ t.pv = { s.pv with pending := none, trials := 0 } ∧ t.get F.pvStatusPending = 0)

/-- SPDM requests over a function, and the instructions of the debug port (R522, R523, R527). -/
def Obligations.SpdmAndDebugPortAnswer : Prop :=
  (∀ (s : State) (n : Nat), n < s.ldCount → 5 ≤ s.get F.pvModeStartPhase →
    exec (.getVersion n) s = .next (s.send (.spdm n 0x04 [0x12]))) ∧
  (∀ (s : State) (n : Nat), n < s.ldCount → 5 ≤ s.get F.pvModeStartPhase →
    exec (.getCapabilities n) s = .next (s.send (.spdm n 0x61 [0x16]))) ∧
  (∀ (s : State) (n : Nat), n < s.ldCount → 5 ≤ s.get F.pvModeStartPhase →
    exec (.negotiateAlgorithms n true) s = .next (s.send (.spdm n 0x63 [0x80, 0x02]))) ∧
  (∀ (s : State) (n : Nat), n < s.ldCount → 5 ≤ s.get F.pvModeStartPhase →
    exec (.negotiateAlgorithms n false) s = .next (s.send (.spdm n 0x7F [1, 0xE3]))) ∧
  (∀ (s : State) (n : Nat), n < s.ldCount → 5 ≤ s.get F.pvModeStartPhase →
    exec (.getDigests n) s = .next (s.send (.spdm n 0x01 [1, Config.spdmBytes s.pv.uds (s.componentDigest 1) 0]))) ∧
  (∀ (s : State) (n o k : Nat), n < s.ldCount → 5 ≤ s.get F.pvModeStartPhase →
    exec (.getCertificate n 0 o k) s = .next (s.send (.spdm n 0x02
      [0, o, k, Config.spdmBytes s.pv.uds (s.componentDigest 1) (1 + o * 65536 + k)]))) ∧
  (∀ (s : State) (n slot : Nat) (x : BitVec 256), n < s.ldCount → 5 ≤ s.get F.pvModeStartPhase → slot ≠ 0 →
    exec (.challenge n slot x) s = .next (s.send (.spdm n 0x7F [1, 0x83]))) ∧
  (∀ (s : State) (n : Nat) (x : BitVec 256), n < s.ldCount → 5 ≤ s.get F.pvModeStartPhase →
    exec (.challenge n 0 x) s = .next (s.send (.spdm n 0x03
      [0, Config.spdmBytes s.pv.uds (s.componentDigest 1) (2 ^ 64 + x.toNat)]))) ∧
  (∀ (s : State) (n i : Nat), n < s.ldCount → 5 ≤ s.get F.pvModeStartPhase → 1 ≤ i → i ≤ 8 →
    exec (.getMeasurements n i) s = .next (s.send (.spdm n 0x60 (s.measurement i)))) ∧
  (∀ (s : State) (n i : Nat), n < s.ldCount → 5 ≤ s.get F.pvModeStartPhase → 8 < i → i ≠ 255 →
    exec (.getMeasurements n i) s = .next (s.send (.spdm n 0x7F [1, 0xE0]))) ∧
  (∀ (s : State) (n r : Nat), n < s.ldCount → 5 ≤ s.get F.pvModeStartPhase →
    exec (.spdmUnsupportedRequest n r) s = .next (s.send (.spdm n 0x7F [7, r]))) ∧
  (∀ s : State, exec .idcode s = .next (s.send (.debugPort (leBytes 4 Config.idcode.toNat)))) ∧
  (∀ (s : State) (b : Bool), exec (.bypass b) s = .next (s.send (.debugPort [if b then 1 else 0]))) ∧
  (∀ s : State, exec .nonce s
    = .next (s.send (.debugPort ((List.range 4).flatMap (fun i => leBytes 8 (s.reg (R.pvDebugNonce i)).toNat)))))

/-- KEK commands, debug tokens, and reads and writes of the parameter store (R526 to R534). -/
def Obligations.KeysTokensAndTheParameterStore : Prop :=
  (∀ (s : State) (d : Nat), d < 1024 → s.on F.pvKeyStatusBusy = false →
    ∃ t, exec (.eraseKek d) s = .next t ∧ t.pv = { s.pv with kek := some { op := 2, dom := d, block := none } } ∧
      t.on F.pvKeyStatusBusy = true ∧ t.get F.pvKeyCtlDomain = d) ∧
  (∀ (s : State) (d : Nat), d < 1024 → s.on F.pvKeyStatusBusy = true →
    exec (.eraseKek d) s = .next (s.raise 9 sevError 0 noDom [d4 d, d4 stBusyOnline])) ∧
  (∀ (s : State) (d : Nat) (x : List (BitVec 8)), d < 1024 → s.on F.pvKeyStatusBusy = false →
    s.ready .device [(s.get F.pvKeyAddrAddr * 64, 136)] = true →
    ∃ t, exec (.importKek d x) s = .next t ∧ t.on F.pvKeyStatusBusy = true ∧ t.get F.pvKeyCtlOp = 1 ∧
      (t.pv.kek.map (fun c => (c.op, c.dom))) = some (1, d)) ∧
  (∀ (s : State) (c : KekCmd) (v : Bool), s.pv.kek = some c → c.op = 2 →
    ∃ t, exec (.kekCommandComplete v) s = .next t ∧ Store.find? t.pv.keks c.dom = none ∧ t.on F.pvKeyStatusBusy = false ∧
      t.get F.pvKeyStatusLastStatus = stOk ∧ t.pv.kek = none) ∧
  (∀ (s : State) (c : KekCmd) (b : List Byte), s.pv.kek = some c → c.op = 1 → c.block = some b →
    ∃ t, exec (.kekCommandComplete true) s = .next t ∧ t.on F.pvKeyStatusBusy = false ∧ t.pv.kek = none ∧
      t.pv.keks = (match keyUnwrap (leBytes 32
          (Config.kekWrapKey s.pv.uds c.dom (BitVec.ofNat 768 (ofBytes (b.take 96)))).toNat) (b.drop 96) with
        | some k => Store.insert c.dom k s.pv.keks
        | none => s.pv.keks)) ∧
  (∀ (s : State) (c : KekCmd) (v : Bool), s.pv.kek = some c → c.op = 1 → c.block = none →
    ∃ t, exec (.kekCommandComplete v) s = .next t ∧ t.get F.pvKeyStatusLastStatus = stDomainDenied ∧ t.pv.keks = s.pv.keks) ∧
  (∀ (s : State) (x : List (BitVec 8)) (k v : Bool), s.get F.pvDebugStatusState = 0 →
    s.ready .device [(s.get F.pvDebugUnlockTokenAddr * 64, 256)] = true → s.on F.pvDebugStatusLockedOut = true →
    ∃ t, exec (.pvDebugUnlockStart x k v) s = .next t ∧ t.get F.pvDebugStatusLastStatus = stDomainDenied ∧
      t.pv.opening = s.pv.opening) ∧
  (∀ (s : State) (x : List (BitVec 8)) (k v : Bool), s.get F.pvDebugStatusState = 0 → s.on F.pvDebugStatusLockedOut = false →
    s.tokenGood x k v = true →
    ∃ t, exec (.debugUnlockInstruction x k v) s = .next t ∧ t.pv.opening = 1 ∧ t.get F.pvDebugStatusState = 2 ∧
      t.out = s.out ++ [.debugPort (leBytes 2 stOk)]) ∧
  (∀ (s : State) (x : List (BitVec 8)) (k v : Bool), s.get F.pvDebugStatusState = 0 → s.on F.pvDebugStatusLockedOut = false →
    s.tokenGood x k v = false → s.get F.pvDebugStatusRefusals < 15 →
    ∃ t, exec (.debugUnlockInstruction x k v) s = .next t ∧ t.lastEvent = some (4, sevNotice, noDom) ∧
      t.get F.pvDebugStatusRefusals = s.get F.pvDebugStatusRefusals + 1 ∧ t.get F.pvDebugStatusState = 0 ∧
      t.out = s.out ++ [.debugPort (leBytes 2 stAuthFailed)]) ∧
  (∀ s : State, s.on F.psWrCtlStart = false → s.psRefusal (s.get F.psWrAddrAddress) (s.get F.psWrCtlLength) true = none →
    ∃ t, exec .psWrite s = .next t ∧ t.on F.psWrCtlStart = true ∧ t.pv.cells = s.pv.cells ∧
      t.pv.writes.map (fun w => (w.source, w.addr)) = s.pv.writes.map (fun w => (w.source, w.addr))
        ++ [(0, s.get F.psWrAddrAddress)]) ∧
  (∀ (s : State) (e : Nat), s.on F.psWrCtlStart = false →
    s.psRefusal (s.get F.psWrAddrAddress) (s.get F.psWrCtlLength) true = some e →
    exec .psWrite s = .next ((s.set F.psWrCtlStatus e).raise 8 sevNotice 0 noDom [d8 (s.get F.psWrAddrAddress), d4 e])) ∧
  (∀ (s : State) (w : PsWrite) (rest : List PsWrite), s.pv.writes = w :: rest → w.bytes.length ≤ 128 - w.addr % 128 →
    s.pv.stalled = none →
    ∃ t, exec .psPageWriteComplete s = .next t ∧ t.pv.writes = rest ∧
      t.pv.cells = (s.putPs w.addr w.bytes).pv.cells) ∧
  (∀ s : State, s.on F.psRdCtlStart = false → s.psRefusal (s.get F.psRdAddrAddress) (s.get F.psRdCtlLength) false = none →
    s.psStalls (s.get F.psRdAddrAddress) (s.get F.psRdCtlLength) = false →
    exec (.psRead none) s = .next (s.endRead (s.get F.psRdAddrAddress) (s.get F.psRdCtlLength))) ∧
  (∀ (s : State) (p : Nat), p < 2048 →
    ∃ t, exec (.marginRefresh p false) s = .next t ∧
      t.pv = { s.pv with writes := s.pv.writes ++ [{ source := 2, addr := p * 128, bytes := s.psBytes (p * 128) 128 }] }) ∧
  (∀ (s : State) (p : Nat), p < 2048 → exec (.marginRefresh p true) s = .next (s.raise 6 sevWarning 0 noDom [d4 p]))

/-- Power-up and power-down steps, aborts, backoff and rail faults (R545 to R549, R567). -/
def Obligations.SequencerStepsAbortsAndRestarts : Prop :=
  (∀ (s : State) (k : Nat), s.supervisor = pwSequencing → s.pw.hold = none → s.get F.pwrStatusStep = k → 0 < k → k < 9 →
    (s.stepRails k).all (fun n => s.pw.stepAt + s.stableNs n ≤ s.clk &&
      s.pw.drops.all (fun d => d.1 != n || d.2.2 + s.stableNs n ≤ s.clk)) = true →
    exec .sequenceStepComplete s = .next ((s.setPg (s.stepRails k) true).enableStep (k + 1))) ∧
  (∀ s : State, s.supervisor = pwSequencing → s.pw.hold = none → s.get F.pwrStatusStep = 9 →
    (s.stepRails 9).all (fun n => s.pw.stepAt + s.stableNs n ≤ s.clk &&
      s.pw.drops.all (fun d => d.1 != n || d.2.2 + s.stableNs n ≤ s.clk)) = true →
    ∃ t, exec .sequenceStepComplete s = .next t ∧ t.supervisor = pwOn ∧ t.get F.pvModeStartPhase = 3 ∧ t.pw.since = s.clk ∧
      t.lastEvent = some (14, sevInfo, noDom)) ∧
  (∀ (s : State) (n : Nat), s.supervisor = pwSequencing → n < 24 → s.bit F.pwrRailEnRails n = true →
    s.pw.drops.find? (fun d => d.1 = n) = none →
    ∃ t, exec (.seqPgDrop n) s = .next t ∧ t.bit F.pwrRailPgRails n = false ∧ t.supervisor = pwSequencing ∧
      t.pw.drops = s.pw.drops.filter (fun d => d.1 != n) ++ [(n, 1, s.clk)]) ∧
  (∀ (s : State) (n x : Nat), s.supervisor = pwSequencing → n < 24 → s.bit F.pwrRailEnRails n = true →
    s.pw.drops.find? (fun d => d.1 = n) = some (n, 2, x) →
    exec (.seqPgDrop n) s = .next ((State.setPg { s with pw := { s.pw with
      drops := s.pw.drops.filter (fun d => d.1 != n) ++ [(n, 3, s.clk)] } } [n] false).abortSequence n 2)) ∧
  (∀ (s : State) (n : Nat), s.supervisor = pwSequencing → s.pw.hold = none →
    (s.stepRails (s.get F.pwrStatusStep)).contains n = true → s.pw.stepAt + s.windowNs n ≤ s.clk →
    exec (.sequenceWindowExpiry n) s = .next (s.abortSequence n 1)) ∧
  (∀ (s u : State) (k : Nat), s.supervisor = pwPoweringDown →
    u = s.setPg ((List.range 24).filter (fun n => !s.bit F.pwrRailEnRails n && none != some n)) false → u.topStep? = some k →
    exec (.powerDownStep none) s
      = .next ({ u.setEn (u.stepRails k) false with pw := { u.pw with stepAt := u.clk } }.set F.pwrStatusStep k)) ∧
  (∀ (s u : State), s.supervisor = pwPoweringDown →
    u = s.setPg ((List.range 24).filter (fun n => !s.bit F.pwrRailEnRails n && none != some n)) false → u.topStep? = none →
    exec (.powerDownStep none) s = .next (State.powerDownEnds { u with pw := { u.pw with stepAt := u.clk } })) ∧
  (∀ (s : State) (a : Nat), s.supervisor = pwBackoff → s.get F.pwrStatusAttempt = a → s.pw.since + ms (250 * 2 ^ a) ≤ s.clk →
    exec .backoffExpiry s = .next (s.powerOn (a + 1) 2)) ∧
  (∀ s : State, s.supervisor = pwOn → s.pw.since + ms 600000 ≤ s.clk →
    exec .attemptCountReset s = .next (s.set F.pwrStatusAttempt 0)) ∧
  (∀ (s : State) (n w : Nat), s.supervisor = pwOn → n < 24 → s.railUsed n = true → s.bit F.pwrRailEnRails n = true → 4000 ≤ w →
    s.railOnFault n = 0 →
    ∃ t, exec (.runningRailFault n w) s = .next t ∧ t.supervisor = pwStopping ∧ t.get F.pwrStatusLastTrigger = 2 ∧
      t.get F.pwrFaultRail = n ∧ t.get F.pwrFaultKind = 3 ∧ t.bit F.pwrRailPgRails n = false) ∧
  (∀ (s : State) (x : Nat), s.supervisor = pwSequencing → s.pw.hold = some x → x + ms 600000 ≤ s.clk →
    exec .startHoldTimeout s
      = .next ((((s.railFault 0 5).raise 12 sevFatal 0 noDom [d4 0, d4 5]).spreadInc 6).powerDown pwLatchedOff))

/-- PF_WARN, the flush limit, L2, input return, hold-up tests, sensors, throttling and trips (R550 to R567). -/
def Obligations.PowerFailHoldUpAndThermalSupervision : Prop :=
  (∀ (s : State) (n : Nat), s.pw.booted = true → n < max 1 (s.get F.pwrPfCfgFilterUs) →
    exec (.pfWarnNTrigger n) s = .next (s.bump F.pwrPfGlitchCountCount)) ∧
  (∀ (s : State) (n : Nat), s.pw.booted = true → max 1 (s.get F.pwrPfCfgFilterUs) ≤ n → s.supervisor = pwOn → s.pw.cold < 2 →
    s.on F.pwrPfCfgVectorEnable = false →
    ∃ t, exec (.pfWarnNTrigger n) s = .next t ∧ t.on F.pwrStatusPfWarn = true ∧ t.pw.pfWarn = true ∧ t.supervisor = pwStopping ∧
      t.get F.pwrStatusLastTrigger = 1) ∧
  (∀ s : State, s.supervisor = pwStopping → s.pw.l2At = none → s.pw.stopAt + ms (max 5 (s.get F.pwrPfCfgLimitMs)) ≤ s.clk →
    exec .flushLimitExpiry s = .next s.pmL2) ∧
  (∀ (s : State) (x : Nat), s.supervisor = pwStopping → s.pw.l2At = some x → x + 10000 ≤ s.clk →
    exec .l2Timeout s = .next (s.powerDown s.stopEnd)) ∧
  (∀ s : State, s.supervisor = pwWaitInput → s.pw.since + ms 100 ≤ s.clk →
    exec .inputReturn s = .next ((State.raise { s.put F.pwrStatusPfWarn false with pw := { s.pw with pfWarn := false } } 15 sevInfo 0
      noDom [d8 (s.clk - s.pw.since)]).powerOn 0 2)) ∧
  (∀ (s : State) (v : Nat), s.supervisor = pwOn → s.pw.test = none →
    ∃ t, exec (.holduptest v) s = .next t ∧ t.pw.test = some (v, s.clk) ∧ t.pw.load = true ∧ t.pw.due = false) ∧
  (∀ (s : State) (v : Nat), s.supervisor ≠ pwOn → exec (.holduptest v) s = .next { s with pw := { s.pw with due := true } }) ∧
  (∀ (s : State) (v : Nat), s.supervisor = pwOn → s.pw.test = none → s.pw.due = true ∨ (s.get F.pwrHoldupCfgIntervalHours ≠ 0 ∧
      s.pw.tested + s.get F.pwrHoldupCfgIntervalHours * 3600000000000 ≤ s.clk) →
    ∃ t, exec (.holdupInterval v) s = .next t ∧ t.pw.test = some (v, s.clk) ∧ t.pw.tested = s.clk) ∧
  (∀ (s : State) (v0 v1 x e : Nat), s.pw.test = some (v0, x) → x + ms 10 ≤ s.clk → v1 + 50 ≤ v0 →
    s.get F.pwrHoldupCfgVminMv < v0 → s.get F.pwrHoldupCfgEffPct ≠ 0 → s.get F.pwrHoldupCfgTestMa ≠ 0 →
    e = min 100 (s.get F.pwrHoldupCfgEffPct) * s.get F.pwrHoldupCfgTestMa * 10 *
      (v0 * v0 - s.get F.pwrHoldupCfgVminMv * s.get F.pwrHoldupCfgVminMv) / (200 * (v0 - v1) * 1000000) →
    ∃ t, exec (.holdupTestComplete v1) s = .next t ∧ t.pw.test = none ∧ t.on F.pwrHoldupStatusFailed = false ∧
      t.on F.perHoldupVerified = true ∧ t.get F.perHoldupVerifiedMj = min e (s.get F.perHoldupDeclaredMj)) ∧
  (∀ (s : State) (v0 v1 x : Nat), s.pw.test = some (v0, x) → x + ms 10 ≤ s.clk → v1 < v0 → v0 < v1 + 50 →
    ∃ t, exec (.holdupTestComplete v1) s = .next t ∧ t.pw.test = none ∧ t.on F.pwrHoldupStatusFailed = true ∧
      t.on F.perHoldupVerified = false ∧ t.get F.perHoldupVerifiedMj = 0) ∧
  (∀ (s u : State) (n f : Nat) (x : Int), s.pw.booted = true → 32 ≤ n → n < 96 → s.sensorUsed n = true → s.pw.hold = none →
    u = (s.readSensor n x f).trackClear (State.loopOf n) → u.tempQ n < u.limitQ (F.thmLimitThrottleAt n) →
    u.tempQ n < u.limitQ (F.thmLimitStopAt n) → u.tempQ n < u.limitQ (F.thmLimitTripAt n) →
    exec (.sensorSample n x f) s = .next u) ∧
  (∀ (s u : State) (n f : Nat) (x : Int), s.pw.booted = true → 32 ≤ n → n < 48 → s.sensorUsed n = true → s.pw.hold = none →
    u = (s.readSensor n x f).trackClear (State.loopOf n) → u.limitQ (F.thmLimitThrottleAt n) ≤ u.tempQ n →
    u.tempQ n < u.limitQ (F.thmLimitStopAt n) → u.tempQ n < u.limitQ (F.thmLimitTripAt n) →
    u.get (State.loopField (State.loopOf n)) < 4 → Store.find? u.pw.rose (State.loopOf n) = none →
    ∃ t, exec (.sensorSample n x f) s = .next t ∧
      t.get (State.loopField (State.loopOf n)) = u.get (State.loopField (State.loopOf n)) + 1 ∧
      t.lastEvent = some (18, sevWarning, noDom)) ∧
  (∀ (s : State) (l x : Nat), 0 < l → l < 25 → s.get (State.loopField l) ≠ 0 → Store.find? s.pw.clearSince l = some x →
    x + ms 1000 ≤ s.clk →
    ∃ t, exec (.throttleFall l) s = .next t ∧ t.get (State.loopField l) = s.get (State.loopField l) - 1 ∧
      Store.find? t.pw.clearSince l = some s.clk) ∧
  (∀ (s : State) (w : Nat), w * 100 ≤ s.get F.pwrPowerLimitW * 97 →
    ∃ t, exec (.powerEstimate w) s = .next t ∧ t.get F.pwrPowerEstimateW = min w 1023 ∧ t.out = s.out) ∧
  (∀ (s : State) (n : Nat), n < 56 → s.sensorUsed n = true → s.pw.inReset = false → s.pw.booted = true →
    s.limitQ (F.thmLimitTripAt n) ≤ s.tempQ n →
    ∃ t, exec (.hardwareTrip n) s = .next t ∧ t.pw.trip = true ∧ t.pw.inReset = true ∧ t.pw.tripAt = s.clk) ∧
  (∀ s : State, s.pw.trip = true → s.pw.inReset = true → s.pw.tripAt + ms 100 ≤ s.clk →
    ∃ t, exec .tripResetRelease s = .next t ∧ t.pw.inReset = false ∧ t.on F.pwrStatusTripSeen = true ∧ t.supervisor = pwOff ∧
      t.lastEvent = some (21, sevFatal, noDom))

/-- KILIUS_READ, WRITENP, atomics and posted writes of an agent, and answers to the hub's requests (R485 to R488, R494 to
R504). -/
def Obligations.AgentRequestsArePerformedAndAnswered : Prop :=
  (∀ (s u : State) (a g p n : Nat) (o : Option (List (BitVec 8))) (l : List (BitVec 8)), s.agentHeard a = true →
    (s.agentSt a).waiting.any (fun w => w.2.1 = g) = false → n < 256 →
    u = (s.setAgentSt a { s.agentSt a with requests := ((s.agentSt a).requests + 1) % 2 ^ 32, waiting := (s.agentSt a).waiting
      ++ [(((s.agentSt a).requests + 1) % 2 ^ 32, g, dataSlots p (n + 1))] }).showOut a →
    u.get (F.klAgentStatusState a) = 2 → u.agentRefusal a p (n + 1) 0 false = none → regionAt p = .window →
    u.modifiedLines p (n + 1) = [] → p % 64 + n < 64 → u.loadRegion (u.agentDom a) p (n + 1) [] = (l, false) →
    exec (.kiliusRead a g p n o) s = .next (u.answerAgent a g (.readData g stOk 0 (slotBytes p l)))) ∧
  (∀ (s u : State) (a g p n st : Nat) (o : Option (List (BitVec 8))), s.agentHeard a = true →
    (s.agentSt a).waiting.any (fun w => w.2.1 = g) = false → n < 256 →
    u = (s.setAgentSt a { s.agentSt a with requests := ((s.agentSt a).requests + 1) % 2 ^ 32, waiting := (s.agentSt a).waiting
      ++ [(((s.agentSt a).requests + 1) % 2 ^ 32, g, dataSlots p (n + 1))] }).showOut a →
    u.get (F.klAgentStatusState a) = 2 → u.agentRefusal a p (n + 1) 0 false = some st →
    exec (.kiliusRead a g p n o) s = .next ((u.denyAgent a 1 p (n + 1) st).answerAgent a g (.readData g st 0 []))) ∧
  (∀ (s u : State) (a g p n : Nat) (o : Option (List (BitVec 8))), s.agentHeard a = true →
    (s.agentSt a).waiting.any (fun w => w.2.1 = g) = false → n < 256 →
    u = (s.setAgentSt a { s.agentSt a with requests := ((s.agentSt a).requests + 1) % 2 ^ 32, waiting := (s.agentSt a).waiting
      ++ [(((s.agentSt a).requests + 1) % 2 ^ 32, g, dataSlots p (n + 1))] }).showOut a →
    u.get (F.klAgentStatusState a) = 1 →
    exec (.kiliusRead a g p n o) s
      = .next ((u.bump (F.klAgentDenyCountCount a)).answerAgent a g (.readData g stDomainDenied 0 []))) ∧
  (∀ (s u : State) (a g p k : Nat) (b : List (BitVec 8)) (x : Bool), s.agentHeard a = true →
    (s.agentSt a).waiting.any (fun w => w.2.1 = g) = false → 0 < b.length → b.length ≤ 256 →
    u = (s.setAgentSt a { s.agentSt a with requests := ((s.agentSt a).requests + 1) % 2 ^ 32, waiting := (s.agentSt a).waiting
      ++ [(((s.agentSt a).requests + 1) % 2 ^ 32, g, dataSlots p b.length)] }).showOut a →
    u.get (F.klAgentStatusState a) = 2 → u.agentRefusal a p b.length 1 false = none → regionAt p = .shm →
    exec (.writenp a g p (b.length - 1) k b x) s
      = .next ((u.agentStore (.kilius a g false) a p k b).answerAgent a g (.cmp g stOk))) ∧
  (∀ (s u : State) (a g p : Nat) (x : BitVec 64) (l : List (BitVec 8)), s.agentHeard a = true →
    (s.agentSt a).waiting.any (fun w => w.2.1 = g) = false →
    u = (s.setAgentSt a { s.agentSt a with requests := ((s.agentSt a).requests + 1) % 2 ^ 32, waiting := (s.agentSt a).waiting
      ++ [(((s.agentSt a).requests + 1) % 2 ^ 32, g, dataSlots p 8)] }).showOut a →
    u.get (F.klAgentStatusState a) = 2 → u.agentRefusal a p 8 2 false = none → u.modifiedLines p 8 = [] →
    u.win.held = [] → u.loadRegion (u.agentDom a) p 8 [] = (l, false) →
    exec (.fetchadd a g p 7 x) s = .next (((u.breakResv (p / 64) (.kilius a g false)).storeRegion .device (u.agentDom a) u.nowDtb p
      (leBytes 8 ((ofBytes l + x.toNat) % 2 ^ 64))).answerAgent a g (.atomicData g stOk (BitVec.ofNat 64 (ofBytes l))))) ∧
  (∀ (s u : State) (a g p : Nat) (x : BitVec 64) (l : List (BitVec 8)), s.agentHeard a = true →
    (s.agentSt a).waiting.any (fun w => w.2.1 = g) = false →
    u = (s.setAgentSt a { s.agentSt a with requests := ((s.agentSt a).requests + 1) % 2 ^ 32, waiting := (s.agentSt a).waiting
      ++ [(((s.agentSt a).requests + 1) % 2 ^ 32, g, dataSlots p 8)] }).showOut a →
    u.get (F.klAgentStatusState a) = 2 → u.agentRefusal a p 8 2 false = none → u.modifiedLines p 8 = [] →
    u.win.held = [] → u.loadRegion (u.agentDom a) p 8 [] = (l, false) →
    exec (.swap a g p 7 x) s = .next (((u.breakResv (p / 64) (.kilius a g false)).storeRegion .device (u.agentDom a) u.nowDtb p
      (leBytes 8 x.toNat)).answerAgent a g (.atomicData g stOk (BitVec.ofNat 64 (ofBytes l))))) ∧
  (∀ (s u : State) (a g p : Nat) (x y : BitVec 64) (l : List (BitVec 8)), s.agentHeard a = true →
    (s.agentSt a).waiting.any (fun w => w.2.1 = g) = false →
    u = (s.setAgentSt a { s.agentSt a with requests := ((s.agentSt a).requests + 1) % 2 ^ 32, waiting := (s.agentSt a).waiting
      ++ [(((s.agentSt a).requests + 1) % 2 ^ 32, g, dataSlots p 8)] }).showOut a →
    u.get (F.klAgentStatusState a) = 2 → u.agentRefusal a p 8 2 false = none → u.modifiedLines p 8 = [] →
    u.win.held = [] → u.loadRegion (u.agentDom a) p 8 [] = (l, false) →
    exec (.compareswap a g p 7 x y) s = .next (((u.breakResv (p / 64) (.kilius a g false)).storeRegion .device (u.agentDom a)
      u.nowDtb p (leBytes 8 (if ofBytes l = x.toNat then y.toNat else ofBytes l % 2 ^ 64))).answerAgent a g
        (.atomicData g stOk (BitVec.ofNat 64 (ofBytes l))))) ∧
  (∀ (s u : State) (a p k : Nat) (b : List (BitVec 8)), s.agentHeard a = true → 0 < b.length → b.length ≤ 256 →
    s.get (F.klAgentStatusState a) = 2 →
    u = s.setAgentSt a { s.agentSt a with posted := ((s.agentSt a).posted + 1) % 2 ^ 32 } →
    u.agentRefusal a p b.length 1 true = none →
    exec (.kiliusWrite a p (b.length - 1) k b) s = .next ((u.setAgentSt a { u.agentSt a with
      queue := (u.agentSt a).queue ++ [(((s.agentSt a).posted + 1) % 2 ^ 32, p, k, b)] }).postedGo a)) ∧
  (∀ (s : State) (a p n k : Nat) (b : List (BitVec 8)), a < 2 → s.agentHeard a = true → s.get (F.klAgentStatusState a) ≠ 2 →
    ∃ t, exec (.kiliusWrite a p n k b) s = .next t ∧ t.get (F.klAgentDropCountCount a)
      = satInc (F.klAgentDropCountCount a).w (s.get (F.klAgentDropCountCount a)) ∧ t.out = s.out) ∧
  (∀ (s : State) (a g st h : Nat) (q : HubReq), s.agentHeard a = true → s.hubReq? a g 1 = some q → st < 0x100 →
    q.src = .hazel h →
    exec (.cmp a g st) s = .next ((State.settleRequests { s with kt := { s.kt with
      reqs := s.kt.reqs.filter (fun r => !(r.agent = a && r.tag = g)) } }).hubRequests a)) ∧
  (∀ (s : State) (a g st : Nat), s.agentHeard a = true → s.hubReq? a g 1 = none →
    exec (.cmp a g st) s = .next (s.bump (F.klAgentLateCountCount a))) ∧
  (∀ (s : State) (a g st k r h : Nat) (b : List (BitVec 8)) (q : HubReq), s.agentHeard a = true → s.hubReq? a g 0 = some q →
    st < 0x100 → q.src = .ring r h →
    exec (.readdata a g st k b) s = .next ((State.settleRequests { s with kt := { s.kt with
      reqs := s.kt.reqs.filter (fun r => !(r.agent = a && r.tag = g)),
      answers := s.kt.answers ++ [⟨q.src, q.addr, State.fit q.len b, k⟩] } }).hubRequests a)) ∧
  (∀ (s : State) (a g st : Nat) (v : BitVec 64) (q : HubReq), s.agentHeard a = true → s.hubReq? a g 2 = some q → st < 0x100 →
    exec (.atomicdata a g st v) s = .next ((State.settleRequests { s with kt := { s.kt with
      reqs := s.kt.reqs.filter (fun r => !(r.agent = a && r.tag = g)),
      answers := s.kt.answers ++ [⟨q.src, q.addr, leBytes 8 v.toNat, 0⟩] } }).hubRequests a)) ∧
  (∀ (s : State) (a g x : Nat) (q : HubReq), s.kt.reqs.find? (fun r => r.agent = a && r.tag = g) = some q → q.sent = some x →
    s.agentHeard a = true → s.get (F.klAgentStatusState a) = 2 → x + s.agentTimeout a ≤ s.clk →
    exec (.agentRequestTimeout a g) s = .next (s.agentDead a (some q.addr))) ∧
  (∀ (s : State) (a g x : Nat) (h : Nat × Bool × Nat), a < s.part.sites → (s.agentSt a).host.find? (fun h => h.1 = g) = some h →
    h = (g, true, x) → x + 50000000 ≤ s.clk →
    exec (.hostApertureTimeout a g) s = .next ((s.setAgentSt a { s.agentSt a with
      host := (s.agentSt a).host.filter (fun h => h.1 != g) }).answerAgent a g (.cmp g stTimeout)))

/-- Barriers, interrupts, errors, launches, events, admission, the permission table and mesh links (R482, R492 to R498,
R502, R510, R513). -/
def Obligations.AgentMessagesAdmissionAndMesh : Prop :=
  (∀ (s : State) (a g p n : Nat), a < s.kt.agents.length → s.agentHeard a = true → (s.agentSt a).barriers.length < 8 →
    ∃ t, exec (.barrier a g p n) s = .next t ∧ (t.agentSt a).barriers = (s.agentSt a).barriers ++ [⟨g, p, n⟩] ∧
      t.get (F.klAgentStatusBarriersWaiting a) = (s.agentSt a).barriers.length + 1 ∧ t.out = s.out) ∧
  (∀ (s : State) (a g : Nat) (b : KlBarrier), a < s.part.sites → (s.agentSt a).barriers.find? (fun b => b.tag = g) = some b →
    s.barrierMet a b = true →
    exec (.barrierComplete a g) s = .next (((s.setAgentSt a { s.agentSt a with
        barriers := (s.agentSt a).barriers.filter (fun y => y != b) }).set (F.klAgentStatusBarriersWaiting a)
          ((s.agentSt a).barriers.filter (fun y => y != b)).length).klSend (8 + a) (.barrierDone g (s.barrierStatus a b)))) ∧
  (∀ (s : State) (a n v : Nat), s.agentHeard a = true → s.on (F.klAgentCtlHostIrqAllow a) = true → s.ldEnabled n = true →
    s.ldDomain n = s.agentDom a →
    exec (.hostinterrupt a n v) s = .next (s.msix n v)) ∧
  (∀ (s : State) (a p st i x r h d : Nat), s.agentHeard a = true →
    (s.agentSt a).early.find? (fun e => e.1 = i) = some (i, x, .ring r h, d) →
    exec (.postederror a p st i) s = .next ((s.setAgentSt a { s.agentSt a with
      early := (s.agentSt a).early.filter (fun y => y.1 != i) }).dropStore 1 r x d true)) ∧
  (∀ (s : State) (a i x y : Nat) (l : Bool), s.agentHeard a = true →
    s.time.agentSlots.any (fun z => z.1 = a && z.2.1 = i) = true →
    exec (.launchfired a i x y l) s = .next (State.setBit { s with time := { s.time with
      agentSlots := s.time.agentSlots.filter (fun z => !(z.1 = a && z.2.1 = i)) } } (F.klAgentStatusSlotsArmed a) i false)) ∧
  (∀ (s : State) (a v c : Nat) (b : List (BitVec 8)), s.agentHeard a = true → s.on (F.klAgentCtlEventAllow a) = true →
    ((s.agentSt a).events.filter (fun t => s.clk < t + 1000000000)).length < 1000 →
    exec (.event a v c b) s = .next ((s.setAgentSt a { s.agentSt a with
      events := (s.agentSt a).events.filter (fun t => s.clk < t + 1000000000) ++ [s.clk] }).raise (252 + a) (min v sevError) c
        (s.agentDom a) (d4 c :: (State.fit 32 b).map (fun b => (1, b.toNat))))) ∧
  (∀ (s u : State) (a : Nat) (v : BitVec 32), a < s.part.sites → u = s.agentCtl a (v.setWidth 64) → bits (v.setWidth 64) 16 1 = 1 →
    u.get (F.klAgentStatusState a) = 1 → u.agentDom a ≠ 0 →
    ∃ t, exec (.admitAgent a v) s = .next t ∧ t.get (F.klAgentStatusState a) = 2 ∧ t.agentDom a = u.agentDom a ∧
      t.lastEvent = some (248, sevInfo, noDom)) ∧
  (∀ (s u : State) (a : Nat) (v : BitVec 32), a < s.part.sites → u = s.agentCtl a (v.setWidth 64) → bits (v.setWidth 64) 17 1 = 1 →
    u.get (F.klAgentStatusState a) = 2 →
    ∃ t, exec (.revoke a v) s = .next t ∧ t.lastEvent = some (248, sevInfo, noDom) ∧
      t.regs = (((u.set (F.klAgentStatusState a) 1).endRequests a stAbortedReset).raise 248 sevInfo 0 noDom
        [d4 a, d4 (((u.set (F.klAgentStatusState a) 1).endRequests a stAbortedReset).agentDom a), d4 1]).regs) ∧
  (∀ (s : State) (a e : Nat) (v x : BitVec 64), a < s.part.sites → e < 16 →
    x = (Store.find? s.kt.aptBase (16 * a + e)).getD (s.reg (R.klAptBase a e)) →
    regionOf (bits x 12 36 * 4096) (max 1 (bits v 0 32) * 4096) = .window →
    ∃ t, exec (.klAptCommit a e v) s = .next t ∧ t.reg (R.klAptBase a e) = x &&& 0xFFFFFFFFF000 ∧
      t.reg (R.klAptCtl a e) = v &&& 0x80000007FFFFFFFF ∧ t.out = s.out) ∧
  (∀ (s : State) (a e : Nat) (v x : BitVec 64), a < s.part.sites → e < 16 →
    x = (Store.find? s.kt.aptBase (16 * a + e)).getD (s.reg (R.klAptBase a e)) →
    regionOf (bits x 12 36 * 4096) (max 1 (bits v 0 32) * 4096) = .nowhere →
    exec (.klAptCommit a e v) s = .next (s.raise 251 sevNotice 0 noDom
      [d4 a, d8 (bits x 12 36 * 4096), d4 (Config.codeOf 21 5), d4 (Config.codeOf 21 6)])) ∧
  (∀ (s : State) (d r x : Nat), d < s.part.dies → r < 8 → x < 4 →
    exec (.meshFlitError d r x false) s = .next (State.bump { s with kt := { s.kt with mesh := s.kt.mesh.filter (fun y =>
      !(decide (y.1 = d) && decide (y.2.1 = r) && decide (y.2.2.1 = x))) ++ [(d, r, x, 1)] } } F.espLinkRetryCountCount)) ∧
  (∀ (s : State) (r x : Nat), r < 48 → x < 4 →
    (s.kt.mesh.find? (fun y => y.1 = 15 && y.2.1 = r && y.2.2.1 = x)).map (·.2.2.2) = some 15 →
    ∃ t, exec (.meshFlitError 15 r x true) s = .next t ∧ t.get F.espLinkFailRouter = r ∧ t.get F.espLinkFailDirection = x ∧
      t.get F.espLinkFailDie = 15 ∧ t.on F.espLinkFailValid = true ∧ t.on F.espStatusMeshOk = false ∧
      t.lastEvent = some (254, sevCritical, noDom))

/-- The event intake, the record writer, routes, persistent copies, the cursor and clears (R575 to R587). -/
def Obligations.EventsAreRecordedCopiedAndRead : Prop :=
  (∀ (s : State) (e : Event) (l : List Event), s.obs.raised = e :: l → e.sev < s.recordMin →
    exec .eventIntake s = .next { s with obs := { s.obs with raised := l } }) ∧
  (∀ (s : State) (e : Event) (l : List Event) (r : Record), s.obs.raised = e :: l → s.recordMin ≤ e.sev → s.obs.intake = [] →
    s.obs.writing = some r → r.ev.same e = false →
    exec .eventIntake s = .next { s with obs := { s.obs with raised := l, intake := [e.entry] } }) ∧
  (∀ (s : State) (e : Event) (l : List Event) (r : Record), s.obs.raised = e :: l → s.recordMin ≤ e.sev → s.obs.intake = [] →
    s.obs.writing = some r → r.ev.same e = true → r.repeats < 65535 →
    ∃ t, exec .eventIntake s = .next t ∧ t.obs.raised = l ∧ t.obs.intake = [] ∧
      t.obs.writing.map (·.repeats) = some (r.repeats + 1)) ∧
  (∀ (s : State) (e : Event) (l : List Event), s.obs.raised = e :: l → s.recordMin ≤ e.sev →
    (s.obs.intake.getLast?.any (fun r => r.ev.same e)) = false → 64 ≤ s.obs.intake.length →
    ∃ t, exec .eventIntake s = .next t ∧ t.obs.raised = l ∧ t.obs.intake = s.obs.intake ∧ t.on F.evrStatusLost = true ∧
      t.get F.evrDropCount = satInc F.evrDropCount.w (s.get F.evrDropCount)) ∧
  (∀ (s : State) (r : Record), s.obs.writing = some r → exec .eventRecordWrite s = .next (s.finishRecord r).startNext) ∧
  (∀ (s : State) (n x d : Nat), s.obs.routeWait[n]? = some true → s.obs.routeLast[n]? = some (some x) →
    x + s.get (F.evrRouteHoldUs n) * 1000 ≤ s.clk → s.on (F.evrRouteEnable n) = true → s.routeDomain? n = some d →
    exec (.routeHoldExpiry n) s = .next (s.routeNotify n)) ∧
  (∀ (s : State) (r : Record) (l : List Record), s.obs.backlog = r :: l → s.obs.persist.any (fun x => x.seq = r.seq) = false →
    s.obs.persist.length < 1024 →
    ∃ t, exec .persistentCopyWrite s = .next t ∧ t.obs.persist = s.obs.persist ++ [r] ∧ t.obs.backlog = l ∧
      t.get F.evrStatusPersistCount = s.obs.persist.length + 1) ∧
  (∀ (s : State) (n : Nat) (r : Record), s.obs.ram.find? (fun r => r.seq = n) = some r → r.persisted = true → r.stale = true →
    r.copied + 60000000000 ≤ s.clk → s.obs.backlog.length < 64 →
    ∃ t, exec (.repeatRewrite n) s = .next t ∧ t.obs.backlog = s.obs.backlog ++ [{ r with stale := false, copied := s.clk }] ∧
      t.obs.ram.length = s.obs.ram.length) ∧
  (∀ (s : State) (v : BitVec 64), bits v 48 1 = 0 →
    ∃ t, exec (.evrCursorWrite v) s = .next t ∧ t.get F.evrCursorSeq = bits v 0 48 ∧
      t.on F.evrCursorFound = s.obs.ram.any (fun r => bits v 0 48 ≤ r.seq) ∧
      t.obs.window.all (fun r => s.obs.ram.contains r && bits v 0 48 ≤ r.seq) = true) ∧
  (∀ (s : State) (r : Record), s.obs.window = some r → r.seq + 1 < 2 ^ 48 → s.on F.evrCursorLog = false →
    ∃ t, exec .next s = .next t ∧ t.get F.evrCursorSeq = r.seq + 1 ∧
      t.on F.evrCursorFound = s.obs.ram.any (fun x => r.seq < x.seq)) ∧
  (∀ s : State, ∃ t, exec .clearram s = .next t ∧ t.obs.ram.map (·.ev.src) = [27] ∧ t.obs.persist = s.obs.persist) ∧
  (∀ s : State, ∃ t, exec .clearpersist s = .next t ∧ t.obs.persist.map (·.ev.src) = [27] ∧ t.obs.ram = s.obs.ram ∧
    t.get F.evrStatusPersistCount = 1)

/-- Performance counters, freezes, bandwidth windows and samples (R591 to R601). -/
def Obligations.CountersBandwidthAndSamples : Prop :=
  (∀ (s : State) (n : Nat), counterPresent s.part n = true → (s.counter n).sampling = false → (s.counter n).ovf = false →
    ∃ t, exec (.counterWrap n) s = .next t ∧ (t.counter n).cnt = 0 ∧ (t.counter n).ovf = true ∧
      t.lastEvent = some (24, sevNotice, noDom)) ∧
  (∀ (s : State) (n : Nat) (v : BitVec 64), counterPresent s.part n = true →
    ∃ t, exec (.pmcCntWrite n v) s = .next t ∧ (t.counter n).cnt = v.toNat % 2 ^ 48 ∧
      (t.counter n).ovf = (s.counter n).ovf ∧ (t.counter n).sel = (s.counter n).sel ∧ t.regs = s.regs) ∧
  (∀ (s : State) (g : BitVec 64) (i : Nat), i < 64 →
    ∃ t, exec (.pmcFreeze g) s = .next t ∧ t.bit F.pmcFrozenGroups i = (s.bit F.pmcFrozenGroups i || g.getLsbD i)) ∧
  (∀ (s : State) (g : BitVec 64) (i : Nat), i < 64 →
    ∃ t, exec (.pmcThaw g) s = .next t ∧ t.bit F.pmcFrozenGroups i = (s.bit F.pmcFrozenGroups i && !g.getLsbD i) ∧
      t.obs.frozenCores = s.obs.frozenCores.filter (fun h => !g.getLsbD (24 + h / 32))) ∧
  (∀ (s : State) (p : Nat) (v : BitVec 32), p < 64 → s.bwPresent p = true → s.obs.bw.any (fun w => w.idx = p) = false →
    ∃ t, exec (.bwWindowOpen p v) s = .next t ∧ t.on (F.pmcBwCtlStart p) = true ∧ t.get (F.pmcBwInCount p) = 0 ∧
      t.get (F.pmcBwOutCount p) = 0 ∧ t.obs.bw.map (·.idx) = s.obs.bw.map (·.idx) ++ [p]) ∧
  (∀ (s : State) (p : Nat) (v : BitVec 32), p < 64 → s.obs.bw.any (fun w => w.idx = p) = true →
    ∃ t, exec (.bwWindowOpen p v) s = .next t ∧ t.on (F.pmcBwCtlRefused p) = true ∧ t.obs = s.obs) ∧
  (∀ (s : State) (p : Nat) (w : BwWindow), p < 64 → s.obs.bw.find? (fun w => w.idx = p) = some w → w.until_ ≤ s.nowDtb →
    ∃ t, exec (.bwWindowClose p) s = .next t ∧ t.on (F.pmcBwCtlStart p) = false ∧
      t.obs.bw = s.obs.bw.filter (fun x => x.idx != p)) ∧
  (∀ (s : State) (n pc a l : Nat) (x y : Bool), 1152 ≤ n → (s.counter n).sampling = true → (s.counter n).enabled = true →
    s.frozen n = false → (n - 1152) / 8 < s.part.cores → s.on F.pmcSampleCtlDomainOnly = false →
    (s.obs.staged.filter (fun x => x.1 = (n - 1152) / 8 / 32)).length < 64 →
    ∃ t, exec (.sampleTake n pc a l x y) s = .next t ∧ (t.counter n).cnt = 2 ^ 48 - (s.counter n).period ∧
      t.obs.staged.map (fun z => (z.1, z.2.pc, z.2.core, z.2.event)) =
        s.obs.staged.map (fun z => (z.1, z.2.pc, z.2.core, z.2.event))
          ++ [((n - 1152) / 8 / 32, pc, (n - 1152) / 8, (s.counter n).event)]) ∧
  (∀ (s : State) (c : Nat) (x : Sample), s.obs.staged.find? (fun x => x.1 = c) = some (c, x) → s.on F.pmcSampleCtlEnable = true →
    s.on F.pmcSampleCtlWrap = false → s.get F.pmcSampleWrCount - s.get F.pmcSampleRdCount ≠ 2 ^ (s.sampleLog2 - 6) →
    exec (.sampleArrival c) s = .next (State.storeSample { s with obs := { s.obs with
      staged := s.obs.staged.eraseP (fun y => y.1 = c) } } x (s.get F.pmcSampleWrCount))) ∧
  (∀ (s : State) (v : BitVec 32), bits (v.setWidth 64) 0 1 = 0 →
    ∃ t, exec (.pmcSampleEnable v) s = .next t ∧ t.on F.pmcSampleCtlEnable = false ∧
      t.get F.pmcSampleWrCount = s.get F.pmcSampleWrCount) ∧
  (∀ (s u : State) (v : BitVec 32), bits (v.setWidth 64) 0 1 = 1 →
    u = (((s.set F.pmcSampleCtlWrap (bits (v.setWidth 64) 1 1)).set F.pmcSampleCtlDomainOnly (bits (v.setWidth 64) 2 1)).set
      F.pmcSampleCtlSizeLog2 (bits (v.setWidth 64) 8 5)).set F.pmcSampleCtlDomain (bits (v.setWidth 64) 16 10) →
    u.sampleBufferOk = true →
    ∃ t, exec (.pmcSampleEnable v) s = .next t ∧ t.on F.pmcSampleCtlEnable = true ∧ t.get F.pmcSampleWrCount = 0 ∧
      t.get F.pmcSampleRdCount = 0 ∧ t.on F.pmcSampleCtlFull = false) ∧
  (∀ (s : State) (v : BitVec 64), v.toNat ≤ s.get F.pmcSampleWrCount →
    exec (.pmcSampleRdWrite v) s = .next (s.set F.pmcSampleRdCount v.toNat)) ∧
  (∀ (s : State) (v : BitVec 64), s.get F.pmcSampleWrCount < v.toNat → exec (.pmcSampleRdWrite v) s = .next s)

/-- Power-on, cold reset, milestones, debug opening, and the loss of dies, stacks, clocks and links (R554, R604 to R616). -/
def Obligations.PowerResetsAndLossesOfUnits : Prop :=
  (∀ s : State, s.supervisor = pwStandby → s.pw.booted = true → s.pw.trip = false → s.pw.lost = false → s.get F.pvModeMode ≠ 4 →
    s.pw.pfWarn = false →
    ∃ t, exec .powerOn s = .next t ∧ t.supervisor = pwSequencing ∧ t.get F.pwrStatusStep = 0 ∧ t.get F.pwrStatusAttempt = 0) ∧
  (∀ s : State, ∃ t, exec .porstNAssert s = .next t ∧ t.get F.pwrRailEnRails = 0 ∧ t.get F.pwrRailPgRails = 0 ∧
    t.pw.booted = false ∧ t.pw.trip = false) ∧
  (∀ s : State, ∃ t, exec .standbyRailLoss s = .next t ∧ t.get F.pwrRailEnRails = 0 ∧ t.get F.pwrRailPgRails = 0 ∧
    t.pw.booted = false ∧ t.pw.trip = false ∧ t.time.standbyOk = false) ∧
  (∀ s : State, s.supervisor = pwOn → s.get F.perStatusState < 4 → s.pw.cold = 0 → s.on F.pvSelftestBusy = false →
    ∃ t, exec .coldreset s = .next t ∧ t.pw.cold = 1 ∧ t.pw.coldKind = 5 ∧ t.get F.perStatusState = 4 ∧
      t.lastEvent = some (112, sevNotice, noDom)) ∧
  (∀ s : State, s.supervisor ≠ pwOn ∨ 4 ≤ s.get F.perStatusState ∨ s.pw.cold ≠ 0 ∨ s.on F.pvSelftestBusy = true →
    exec .coldreset s = .next (s.put F.pvResetStatusRefused true)) ∧
  (∀ (s : State) (a b : FlashBank) (l : List Nat) (u : Bool), s.pw.cold = 1 → s.per.flushStep = 7 →
    exec (.coldResetStep a b l u) s = .next { s.resetDies true with
      pw := { (s.resetDies true).pw with cold := 2, coldAt := (s.resetDies true).clk, resetClean := true } }) ∧
  (∀ (s v : State) (a b : FlashBank) (l : List Nat) (u : Bool), s.pw.cold = 2 → s.pw.coldAt + ms 1 ≤ s.clk →
    v = (State.privetAgain { s with pw := { s.pw with resetKind := s.pw.coldKind, resetClean := s.pw.coldKind != 7 } } a b l
      u).showReset →
    exec (.coldResetStep a b l u) s = .next (if v.pv.image = none then { v with pw := { v.pw with cold := 0 } }
      else State.startAgain { v with pw := { v.pw with cold := 3, selfStep := 0, selfLeft := [] } })) ∧
  (∀ (s : State) (f : StartFindings), s.get F.pvModeMode ≠ 4 → s.pw.lost = false → s.get F.pvModeStartPhase = 6 →
    s.get F.ftStatusState = 2 →
    exec (.startupMilestone 5 f) s = .next ((s.set F.pvModeStartPhase 7).set (F.pvMilestoneTime 5) s.nowDtb)) ∧
  (∀ (s : State) (n : Nat), s.pw.booted = true → s.pv.image ≠ none → s.get F.pvModeStartPhase = 3 →
    ∃ t, exec (.componentCheckFailure n) s = .next t ∧ t.pv.failed = some (s.on F.pvStatusBootBank) ∧ t.pw.cold = 2 ∧
      t.pw.coldKind = 7) ∧
  (∀ (s : State) (n : Nat), s.pv.opening = n → 2 ≤ n → n ≤ 4 →
    ∃ t, exec .debugOpeningStep s = .next t ∧ t.pv.opening = n + 1) ∧
  (∀ s : State, s.pv.opening = 1 → exec .debugOpeningStep s = .next s.closeDomains.nextOpening) ∧
  (∀ s : State, s.pv.opening = 5 → exec .debugOpeningStep s = .next s.debugOpen) ∧
  (∀ s : State, s.pw.booted = true → exec .poweredHoursIncrement s = .next (s.spreadInc 1)) ∧
  (∀ (s : State) (d : Nat), d < s.part.dies → s.bit F.pvUnitsLostMediaDie d = false →
    ∃ t, exec (.mediaDieLoss d) s = .next t ∧ t.bit F.pvUnitsLostMediaDie d = true) ∧
  (∀ (s : State) (k : Nat), k < s.part.stacks → s.bit F.pvUnitsLostHbmStack k = false → s.supervisor = pwOn → s.perUp = false →
    ∃ t, exec (.hbmStackFailure k) s = .next t ∧ t.bit F.pvUnitsLostHbmStack k = true ∧
      t.lastEvent = some (103, sevCritical, noDom)) ∧
  (∀ (s : State) (k : Nat), k < s.part.stacks → s.stacksWhole = true → s.supervisor = pwOn → s.perUp = true →
    ∃ t, exec (.hbmStackFailure k) s = .next t ∧ t.get F.perStatusState = 3 ∧ t.get F.winStatusWindowState = 3 ∧
      t.get F.perStatusRoCause = 4 ∧ t.lastEvent = some (116, sevCritical, noDom)) ∧
  (∀ s : State, s.get F.pvModeMode < 4 →
    ∃ t, exec (.clockMonitorLoss .hub) s = .next t ∧ t.get F.pvModeMode = 4 ∧ t.get F.pvModeCause = 7 ∧
      t.get F.winStatusWindowState = 0 ∧ t.get F.ftStatusState = 0) ∧
  (∀ (s : State) (l : Nat), s.linkPresent l = true → s.linkUp l = true →
    ∃ t, exec (.cxlLinkDown l) s = .next t ∧ t.linkUp l = false ∧ t.bit F.pvUnitsLostCxlLink l = true) ∧
  (∀ (s : State) (l : Nat), s.linkPresent l = true → s.linkUp l = true →
    ∃ t, exec (.cxlLinkReset l) s = .next t ∧ t.linkUp l = false ∧ t.bit F.pvUnitsLostCxlLink l = true) ∧
  (∀ (s : State) (n : Nat), n < s.ldCount →
    ∃ t, exec (.ldReset n) s = .next t ∧ t.win.msixMasked = s.win.msixMasked.filter (fun x => x.1 != n) ∧
      t.win.decoders = s.win.decoders ∧ t.win.reads.any (fun r => r.ld = n && r.src.link < 4) = false) ∧
  (∀ s : State, exec .hbmInterfaceRecalibration s = .next s)

/-- SANITIZE through the mailbox and a ring, its phases and batches, and the self-test (R368, R373, R617 to R621). -/
def Obligations.SanitizeAndSelfTestRun : Prop :=
  (∀ (s : State) (n : Nat), n < s.ldCount → s.isMgmt n = true → s.sanitizeRefusal = none →
    exec (.sanitize n) s = .next ((s.sanitizeStart 3).send (.mailbox n 0x4400 .success []))) ∧
  (∀ (s : State) (n st : Nat), n < s.ldCount → s.isMgmt n = true → s.sanitizeRefusal = some st →
    exec (.sanitize n) s = .next (s.send (.mailbox n 0x4400 .invalidInput [st]))) ∧
  (∀ (s : State) (r h : Nat) (d : Desc), s.startedDesc? r h opSanitize = some d → d.left ≠ 1 → s.sanitizeRefusal = none →
    ∃ t, exec (.adminSanitize r h) s = .next t ∧ t.get F.pvSanitizeState = 1 ∧
      t.get F.pvSanitizeScope = d.num 16 1 % 4 ∧ t.get F.pvSanitizePosition = 0 ∧ (t.desc? r h).map (·.left) = some 1) ∧
  (∀ (s : State) (r h st : Nat) (d : Desc), s.startedDesc? r h opSanitize = some d → d.left ≠ 1 → s.sanitizeRefusal = some st →
    exec (.adminSanitize r h) s = .next (s.finish r h st 0)) ∧
  (∀ s : State, s.perUp = true → s.get F.pvSanitizeState = 1 →
    exec .sanitizePhase s = .next (s.sanitizeKeys.sanitizeNext 2)) ∧
  (∀ s : State, s.perUp = true → s.get F.pvSanitizeState = 2 → s.get F.pvSanitizeScope ≠ 2 →
    ∃ t, exec .sanitizePhase s = .next t ∧ t.get F.pvSanitizeState = 3 ∧ t.qs = [] ∧ t.md.written = [] ∧ t.md.snaps = []) ∧
  (∀ s : State, s.perUp = true → s.get F.pvSanitizeState = 3 → s.sanitizeTiles ≤ s.get F.pvSanitizePosition →
    s.get F.pvSanitizeScope = 1 →
    exec .sanitizePhase s = .next (s.sanitizeNext 5)) ∧
  (∀ s : State, s.perUp = true → s.get F.pvSanitizeState = 4 →
    ∃ t, exec .sanitizePhase s = .next t ∧ t.get F.pvSanitizeState = 5 ∧ t.fm.map = [] ∧ t.fm.slots = [] ∧ t.fm.bands = []) ∧
  (∀ s : State, s.perUp = true → s.get F.pvSanitizeState = 5 →
    ∃ t, exec .sanitizePhase s = .next t ∧ t.get F.pvSanitizeState = 0 ∧ t.get F.pvSanitizeLastStatus = stOk ∧
      t.get F.ftStatusState = 2) ∧
  (∀ (s : State) (n : Nat), s.perUp = true → s.get F.pvSanitizeState = 3 → s.get F.pvSanitizePosition = n → n < s.sanitizeTiles →
    ∃ t, exec .sanitizeOverwriteBatch s = .next t ∧
      t.get F.pvSanitizePosition = n + min 65536 (s.sanitizeTiles - n) ∧ t.get F.pvSanitizeState = 3) ∧
  (∀ (s : State) (r h : Nat) (d : Desc), s.startedDesc? r h opSelftest = some d → d.left = 0 → d.num 16 4 = 0 →
    exec (.adminSelftest r h) s = .next (s.finish r h stBadDescriptor 0)) ∧
  (∀ (s : State) (r h : Nat) (d : Desc), s.startedDesc? r h opSelftest = some d → d.left = 0 → d.num 16 4 ≠ 0 →
    d.num 16 4 < 2 ^ 11 → s.ringInHost r = true → s.on F.pvModeMaintenance = false → d.quiesce = false →
    exec (.adminSelftest r h) s = .next (s.finish r h stBusyOnline 0)) ∧
  (∀ (s : State) (r h : Nat) (d : Desc), s.startedDesc? r h opSelftest = some d → d.left = 0 → d.num 16 4 ≠ 0 →
    d.num 16 4 < 2 ^ 11 → s.ringInHost r = true → d.quiesce = true → s.on F.pvSelftestBusy = false →
    ∃ t, exec (.adminSelftest r h) s = .next t ∧ t.pw.selfStep = 1 ∧ t.on F.pvSelftestBusy = true) ∧
  (∀ (s : State) (r h : Nat) (d : Desc), s.startedDesc? r h opSelftest = some d → d.left ≠ 0 → s.pw.selfStep = 2 →
    s.per.window.phase = .idle → s.per.ftier.phase = .idle →
    ∃ t, exec (.adminSelftest r h) s = .next t ∧ t.pw.selfStep = 3 ∧ t.on F.pvModeMaintenance = true ∧
      t.get F.winStatusWindowState = 0 ∧ t.pw.selfLeft = (List.range 11).filter (fun k => (d.num 16 4).testBit k)) ∧
  (∀ (s : State) (c k : Nat) (l : List Nat) (d : Desc) (u : BitVec 64), s.pw.selfStep = 3 → s.pw.selfLeft = c :: k :: l →
    s.selfDesc? = some d →
    exec (.selftestClassComplete false u) s = .next { s.setBit F.pvSelftestRun c true with
      pw := { s.pw with selfLeft := k :: l, selfStep := 3 } }) ∧
  (∀ (s : State) (c : Nat) (d : Desc) (u : BitVec 64), s.pw.selfStep = 3 → s.pw.selfLeft = [c] → s.selfDesc? = some d →
    d.phase = .started → s.desc? d.ring d.handle = some d → s.srcWaits (.ring d.ring d.handle) = false →
    ∃ t, exec (.selftestClassComplete false u) s = .next t ∧ t.pw.selfStep = 4 ∧ t.pw.selfLeft = [] ∧
      (t.desc? d.ring d.handle).map (fun x => match x.phase with
        | .finished st _ => st
        | _ => 0xFFFF) = some (worse stOk d.worst)) ∧
  (∀ (s : State) (f : Bool) (u : BitVec 64), s.pw.selfStep = 4 → s.selfDesc? = none →
    exec (.selftestClassComplete f u) s
      = .next ((State.coldRequest { s with pw := { s.pw with selfStep := 0 } } 6).put F.pvSelftestBusy false))
end

