-- ==== Sys2Proof/Laws/Store.lean ====
section
/-!
SUPPORT. The laws of sparse tables: what a read gives after a write, and that every operation keeps the canonical form.
-/
namespace Sys2Proof.Machine

variable {β : Type}

/-! ### Reads after writes -/

theorem Store.find?_insert_same (a : Nat) (v : β) (l : List (Nat × β)) : Store.find? (Store.insert a v l) a = some v := by
  induction l with
  | nil => simp [Store.insert, Store.find?]
  | cons x l ih =>
    obtain ⟨k, w⟩ := x
    simp only [Store.insert]
    split
    · simp [Store.find?]
    · split
      · simp [Store.find?]
      · rename_i h
        simp [Store.find?, Ne.symm h, ih]

theorem Store.find?_insert_other {a b : Nat} (v : β) (l : List (Nat × β)) (h : b ≠ a) :
    Store.find? (Store.insert a v l) b = Store.find? l b := by
  induction l with
  | nil => simp [Store.insert, Store.find?, Ne.symm h]
  | cons x l ih =>
    obtain ⟨k, w⟩ := x
    simp only [Store.insert]
    split
    · simp [Store.find?, Ne.symm h]
    · split
      · rename_i e
        subst e
        simp [Store.find?, Ne.symm h]
      · simp [Store.find?, ih]

theorem Store.find?_erase_same (a : Nat) (l : List (Nat × β)) : Store.find? (Store.erase a l) a = none := by
  induction l with
  | nil => rfl
  | cons x l ih =>
    obtain ⟨k, w⟩ := x
    simp only [Store.erase]
    split
    · exact ih
    · rename_i h
      simp [Store.find?, h, ih]

theorem Store.find?_erase_other {a b : Nat} (l : List (Nat × β)) (h : b ≠ a) :
    Store.find? (Store.erase a l) b = Store.find? l b := by
  induction l with
  | nil => rfl
  | cons x l ih =>
    obtain ⟨k, w⟩ := x
    simp only [Store.erase]
    split
    · rename_i e
      subst e
      simp [Store.find?, Ne.symm h, ih]
    · simp [Store.find?, ih]

variable [DecidableEq β] {d : Nat → β}

/-- A key reads as what was last written to it. -/
@[simp] theorem Store.read_write_same (a : Nat) (v : β) (l : List (Nat × β)) : Store.read d (Store.write d a v l) a = v := by
  simp only [Store.write, Store.read]
  split
  · rename_i h
    simp [Store.find?_erase_same, h]
  · simp [Store.find?_insert_same]

/-- A write leaves every other key as it was. -/
theorem Store.read_write_other {a b : Nat} (v : β) (l : List (Nat × β)) (h : b ≠ a) :
    Store.read d (Store.write d a v l) b = Store.read d l b := by
  simp only [Store.write, Store.read]
  split
  · rw [Store.find?_erase_other l h]
  · rw [Store.find?_insert_other v l h]

/-! ### The canonical form -/

/-- Every key of a table is greater than `a`. -/
def Store.above (a : Nat) (l : List (Nat × β)) : Prop := ∀ e ∈ l, a < e.1

omit [DecidableEq β] in
theorem Store.sorted_cons (x : Nat × β) (l : List (Nat × β)) :
    Store.sorted (x :: l) = true ↔ Store.above x.1 l ∧ Store.sorted l = true := by
  induction l generalizing x with
  | nil => simp [Store.sorted, Store.above]
  | cons y l ih =>
    simp only [Store.sorted, Bool.and_eq_true, decide_eq_true_eq]
    constructor
    · rintro ⟨h, g⟩
      refine ⟨?_, g⟩
      intro e he
      rcases List.mem_cons.1 he with rfl | he
      · exact h
      · exact Nat.lt_trans h (((ih y).1 g).1 e he)
    · rintro ⟨h, g⟩
      exact ⟨h y List.mem_cons_self, g⟩

omit [DecidableEq β] in
theorem Store.mem_insert {a : Nat} {v : β} {l : List (Nat × β)} {e : Nat × β} (h : e ∈ Store.insert a v l) :
    e = (a, v) ∨ e ∈ l := by
  induction l with
  | nil => simpa [Store.insert] using h
  | cons x l ih =>
    obtain ⟨k, w⟩ := x
    simp only [Store.insert] at h
    split at h
    · simpa using h
    · split at h
      · rcases List.mem_cons.1 h with h | h
        · exact .inl h
        · exact .inr (List.mem_cons_of_mem _ h)
      · rcases List.mem_cons.1 h with h | h
        · exact .inr (h ▸ List.mem_cons_self)
        · rcases ih h with h | h
          · exact .inl h
          · exact .inr (List.mem_cons_of_mem _ h)

omit [DecidableEq β] in
theorem Store.mem_erase {a : Nat} {l : List (Nat × β)} {e : Nat × β} (h : e ∈ Store.erase a l) : e ∈ l := by
  induction l with
  | nil => simp [Store.erase] at h
  | cons x l ih =>
    obtain ⟨k, w⟩ := x
    simp only [Store.erase] at h
    split at h
    · exact List.mem_cons_of_mem _ (ih h)
    · rcases List.mem_cons.1 h with h | h
      · exact h ▸ List.mem_cons_self
      · exact List.mem_cons_of_mem _ (ih h)

omit [DecidableEq β] in
theorem Store.sorted_insert (a : Nat) (v : β) {l : List (Nat × β)} (h : Store.sorted l = true) :
    Store.sorted (Store.insert a v l) = true := by
  induction l with
  | nil => rfl
  | cons x l ih =>
    obtain ⟨k, w⟩ := x
    obtain ⟨hk, hl⟩ := (Store.sorted_cons _ _).1 h
    simp only [Store.insert]
    split
    · rename_i hlt
      refine (Store.sorted_cons _ _).2 ⟨?_, h⟩
      intro e he
      rcases List.mem_cons.1 he with rfl | he
      · exact hlt
      · exact Nat.lt_trans hlt (hk e he)
    · split
      · rename_i e
        subst e
        exact (Store.sorted_cons _ _).2 ⟨hk, hl⟩
      · rename_i h1 h2
        refine (Store.sorted_cons _ _).2 ⟨?_, ih hl⟩
        intro e he
        rcases Store.mem_insert he with rfl | he
        · exact Nat.lt_of_le_of_ne (Nat.le_of_not_lt h1) (Ne.symm h2)
        · exact hk e he

omit [DecidableEq β] in
theorem Store.sorted_erase (a : Nat) {l : List (Nat × β)} (h : Store.sorted l = true) : Store.sorted (Store.erase a l) = true := by
  induction l with
  | nil => rfl
  | cons x l ih =>
    obtain ⟨k, w⟩ := x
    obtain ⟨hk, hl⟩ := (Store.sorted_cons _ _).1 h
    simp only [Store.erase]
    split
    · exact ih hl
    · exact (Store.sorted_cons _ _).2 ⟨fun e he => hk e (Store.mem_erase he), ih hl⟩

omit [DecidableEq β] in
theorem Store.sorted_filter (p : Nat × β → Bool) {l : List (Nat × β)} (h : Store.sorted l = true) :
    Store.sorted (l.filter p) = true := by
  induction l with
  | nil => rfl
  | cons x l ih =>
    obtain ⟨hk, hl⟩ := (Store.sorted_cons _ _).1 h
    rw [List.filter_cons]
    split
    · exact (Store.sorted_cons _ _).2 ⟨fun e he => hk e (List.mem_filter.1 he).1, ih hl⟩
    · exact ih hl

theorem Store.wf_iff {l : List (Nat × β)} :
    Store.wf d l = true ↔ Store.sorted l = true ∧ ∀ e ∈ l, e.2 ≠ d e.1 := by
  simp [Store.wf]

/-- A write keeps the canonical form. -/
theorem Store.wf_write {a : Nat} {v : β} {l : List (Nat × β)} (h : Store.wf d l = true) : Store.wf d (Store.write d a v l) = true := by
  obtain ⟨hs, hv⟩ := Store.wf_iff.1 h
  simp only [Store.write]
  split
  · exact Store.wf_iff.2 ⟨Store.sorted_erase a hs, fun e he => hv e (Store.mem_erase he)⟩
  · rename_i hne
    refine Store.wf_iff.2 ⟨Store.sorted_insert a v hs, ?_⟩
    intro e he
    rcases Store.mem_insert he with rfl | he
    · exact hne
    · exact hv e he

/-- Leaving entries out keeps the canonical form. -/
theorem Store.wf_filter {p : Nat × β → Bool} {l : List (Nat × β)} (h : Store.wf d l = true) : Store.wf d (l.filter p) = true := by
  obtain ⟨hs, hv⟩ := Store.wf_iff.1 h
  exact Store.wf_iff.2 ⟨Store.sorted_filter p hs, fun e he => hv e (List.mem_filter.1 he).1⟩

end Sys2Proof.Machine
end

