-- ==== Sys2Proof/Laws/Mem.lean ====
section
/-!
SUPPORT. The laws of addressed memories: a byte reads as what was last put there, and every operation keeps the canonical form.
-/
namespace Sys2Proof.Machine

/-! ### Bytes -/

theorem wf_putBytes (b : List Byte) (a : Nat) {c : List Host.Cell} (h : Store.wf (fun _ => (0 : Byte)) c = true) :
    Store.wf (fun _ => (0 : Byte)) (putBytes b a c) = true := by
  induction b generalizing a c with
  | nil => exact h
  | cons x b ih => exact ih (a + 1) (Store.wf_write h)

/-- A byte outside the bytes put reads as before. -/
theorem read_putBytes_outside (b : List Byte) (a k : Nat) (c : List Host.Cell) (h : k < a ∨ a + b.length ≤ k) :
    Store.read (fun _ => (0 : Byte)) (putBytes b a c) k = Store.read (fun _ => (0 : Byte)) c k := by
  induction b generalizing a c with
  | nil => rfl
  | cons x b ih =>
    simp only [List.length_cons] at h
    simp only [putBytes]
    rw [ih (a + 1) _ (by omega), Store.read_write_other x c (by omega)]

/-- A byte among the bytes put reads as it was put. -/
theorem read_putBytes_inside (b : List Byte) (a k : Nat) (c : List Host.Cell) (h : k < b.length) :
    Store.read (fun _ => (0 : Byte)) (putBytes b a c) (a + k) = b.getD k 0 := by
  induction b generalizing a k c with
  | nil => exact absurd h (Nat.not_lt_zero _)
  | cons x b ih =>
    simp only [putBytes]
    cases k with
    | zero =>
      exact (read_putBytes_outside b (a + 1) a _ (Or.inl (Nat.lt_succ_self a))).trans (Store.read_write_same a x c)
    | succ k =>
      simp only [List.length_cons] at h
      have g := ih (a + 1) k (Store.write (fun _ => 0) a x c) (by omega)
      rw [show a + (k + 1) = a + 1 + k by omega, g]
      simp

theorem Store.wf_foldl {α : Type} {d : Nat → Byte} (f : α → Nat × Byte) (l : List α) {c : List Host.Cell}
    (h : Store.wf d c = true) : Store.wf d (l.foldl (fun c x => Store.write d (f x).1 (f x).2 c) c) = true := by
  induction l generalizing c with
  | nil => exact h
  | cons x l ih => exact ih (Store.wf_write h)

/-! ### Lines -/

theorem Mem.wf_iff {m : Mem} : m.wf = true ↔ Store.wf (fun _ => (0 : Byte)) m.cells = true ∧ Store.sorted m.tags = true := by
  simp [Mem.wf]

theorem Mem.wf_empty : Mem.empty.wf = true := rfl

/-- Writing a line keeps the canonical form. -/
theorem Mem.wf_putLine {m : Mem} (l : Nat) (d : Line) (t : LineTag) (h : m.wf = true) : (m.putLine l d t).wf = true := by
  rw [Mem.wf_iff] at h ⊢
  simp only [Mem.putLine]
  exact ⟨wf_putBytes _ _ h.1, Store.sorted_insert _ _ h.2⟩

/-- Forgetting a line keeps the canonical form. -/
theorem Mem.wf_clearLine {m : Mem} (l : Nat) (h : m.wf = true) : (m.clearLine l).wf = true := by
  rw [Mem.wf_iff] at h ⊢
  simp only [Mem.clearLine]
  exact ⟨wf_putBytes _ _ h.1, Store.sorted_erase _ h.2⟩

/-- Writing bytes for a domain keeps the canonical form. -/
theorem Mem.wf_writeMem (s : State) (dom n a : Nat) (b : List Byte) {m : Mem} (h : m.wf = true) :
    (s.writeMem dom n a b m).wf = true := by
  induction n generalizing a b m with
  | zero => exact h
  | succ n ih =>
    simp only [State.writeMem]
    split
    · exact h
    · exact ih _ _ (Mem.wf_putLine _ _ _ h)

/-- Leaving out what lies in chosen places keeps the canonical form. -/
theorem Mem.wf_filter {m : Mem} (p : Host.Cell → Bool) (q : Nat × LineTag → Bool) (h : m.wf = true) :
    Mem.wf { m with cells := m.cells.filter p, tags := m.tags.filter q } = true :=
  Mem.wf_iff.2 ⟨Store.wf_filter (Mem.wf_iff.1 h).1, Store.sorted_filter _ (Mem.wf_iff.1 h).2⟩

/-- A line's tag is the one it was last written with. -/
@[simp] theorem Mem.tag?_putLine_same (m : Mem) (l : Nat) (d : Line) (t : LineTag) : (m.putLine l d t).tag? l = some t :=
  Store.find?_insert_same _ _ _

theorem Mem.tag?_putLine_other (m : Mem) {l k : Nat} (d : Line) (t : LineTag) (h : k ≠ l) :
    (m.putLine l d t).tag? k = m.tag? k :=
  Store.find?_insert_other _ _ h

/-- The bytes of every other line read as before. -/
theorem Mem.byte_putLine_other (m : Mem) {l a : Nat} (d : Line) (t : LineTag) (h : a / 64 ≠ l) :
    (m.putLine l d t).byte a = m.byte a := by
  simp only [Mem.byte, Mem.putLine]
  refine read_putBytes_outside _ _ _ _ ?_
  simp only [lineBytes, List.length_map, List.length_range]
  omega

end Sys2Proof.Machine
end

