-- ==== Sys2Proof/Laws/Keeps.lean ====
section
/-!
SUPPORT. What every operation of the block keeps, said once: the part, the queue, the clock, what has been sent, the
count of free values drawn, the canonical form of the registers and of the addressed memories, and every part of the state that
a mask does not name (bit `c.idx` for the part `c`).
-/
set_option Elab.async false

namespace Sys2Proof.Machine

/-- `t` follows from `s` by work that neither takes time nor touches the queue, and that changes no part of the state outside
the mask. -/
structure Keeps (m : Nat) (s t : State) : Prop where
  part : t.part = s.part
  pending : t.pending = s.pending
  clk : t.clk = s.clk
  free : s.free ≤ t.free
  out : s.out <+: t.out
  regs : s.regsWf = true → t.regsWf = true
  mem : s.memWf = true → t.memWf = true
  same : ∀ c : Comp, m.testBit c.idx = false → c.same s t

/-- A step that goes on keeps it. -/
def KeepsOut (m : Nat) (s : State) (o : Host.Outcome State Fault Refusal) : Prop := ∀ t, o = .next t → Keeps m s t

namespace Keeps

/-- A mask lies within another. -/
def sub (a b : Nat) : Prop := a &&& b = a

theorem sub_trans {a k m : Nat} (h : sub k m) (e : a &&& k = a) : sub a m := by
  unfold sub at *
  rw [← e, Nat.and_assoc, h]

theorem sub_bit {k m : Nat} (h : sub k m) {i : Nat} (g : m.testBit i = false) : k.testBit i = false := by
  unfold sub at h
  rw [← h, Nat.testBit_and, g, Bool.and_false]

theorem refl (m : Nat) (s : State) : Keeps m s s :=
  ⟨rfl, rfl, rfl, Nat.le_refl _, List.prefix_rfl, id, id, fun c _ => by cases c <;> rfl⟩

theorem trans {m : Nat} {s t u : State} (h : Keeps m s t) (g : Keeps m t u) : Keeps m s u :=
  ⟨g.part.trans h.part, g.pending.trans h.pending, g.clk.trans h.clk, Nat.le_trans h.free g.free,
   h.out.trans g.out, fun x => g.regs (h.regs x), fun x => g.mem (h.mem x), fun c hc => by
     have a := h.same c hc
     have b := g.same c hc
     cases c <;> exact Eq.trans b a⟩

/-- A mask that holds the mask of what was done. -/
theorem within {k m : Nat} (hk : sub k m) {s t : State} (h : Keeps k s t) : Keeps m s t :=
  ⟨h.part, h.pending, h.clk, h.free, h.out, h.regs, h.mem, fun c hc => h.same c (sub_bit hk hc)⟩

/-- A new value of the fields that the other laws of this file are not about. -/
theorem upd {m k : Nat} {s0 t : State} {time : TimeState} {obs : ObsState} {win : WinState} {qs : List QsEntry} {lc : LcState}
    {mt : MtState} {md : Meta} {fm : FtMeta} {ft : FtState} {top : TopState} {per : PerState} {rg : RingState} {pv : PvState}
    {hz : HzState} {net : NetState} {cip : CipState} {kl : List KlPort} {kt : KtState} {pw : PwState} (h : Keeps m s0 t)
    (hm : mt.media = t.mt.media) (hz' : hz.shm = t.hz.shm) (hp : pv.cells = t.pv.cells)
    (hk : sub k m := by assumption)
    (hs : (k.testBit 1 = true ∨ time = t.time) ∧ (k.testBit 2 = true ∨ obs = t.obs) ∧ (k.testBit 3 = true ∨ win = t.win) ∧
      (k.testBit 4 = true ∨ qs = t.qs) ∧ (k.testBit 5 = true ∨ lc = t.lc) ∧ (k.testBit 6 = true ∨ mt = t.mt) ∧ (k.testBit 7
      = true ∨ md = t.md) ∧ (k.testBit 8 = true ∨ fm = t.fm) ∧ (k.testBit 9 = true ∨ ft = t.ft) ∧ (k.testBit 10 = true ∨ top
      = t.top) ∧ (k.testBit 11 = true ∨ per = t.per) ∧ (k.testBit 12 = true ∨ rg = t.rg) ∧ (k.testBit 13 = true ∨ pv = t.pv)
      ∧ (k.testBit 14 = true ∨ hz = t.hz) ∧ (k.testBit 15 = true ∨ net = t.net) ∧ (k.testBit 16 = true ∨ cip = t.cip) ∧
      (k.testBit 17 = true ∨ kl = t.kl) ∧ (k.testBit 18 = true ∨ kt = t.kt) ∧ (k.testBit 19 = true ∨ pw = t.pw) := by
      and_intros <;> first | with_reducible exact Or.inr rfl | exact Or.inl (by decide) | exact Or.inr rfl) :
    Keeps m s0
      { part := t.part, clk := t.clk, regs := t.regs, free := t.free, out := t.out, time := time, obs := obs, win := win,
        qs := qs, lc := lc, mt := mt, md := md, fm := fm, ft := ft, top := top, per := per, rg := rg, pv := pv, hz := hz,
        net := net, cip := cip, kl := kl, kt := kt, pw := pw, pending := t.pending } :=
  h.trans (within hk ⟨rfl, rfl, rfl, Nat.le_refl _, List.prefix_rfl, id, fun x => by
    simpa only [State.memWf, hm, hz', hp] using x, fun c hc => by
    have g : ∀ {i : Nat} {p : Prop}, k.testBit i = false → k.testBit i = true ∨ p → p := fun a b => b.resolve_left (by simp [a])
    obtain ⟨h1, h2, h3, h4, h5, h6, h7, h8, h9, h10, h11, h12, h13, h14, h15, h16, h17, h18, h19⟩ := hs
    cases c
    case regs => rfl
    case out => rfl
    case free => rfl
    all_goals exact g hc (by assumption)⟩)

theorem ite {m : Nat} {s0 a b : State} {c : Prop} [Decidable c] (ha : Keeps m s0 a) (hb : Keeps m s0 b) :
    Keeps m s0 (if c then a else b) := by
  split
  · exact ha
  · exact hb

theorem foldl {m : Nat} {α : Type} {f : State → α → State} {s0 s : State} (h : Keeps m s0 s)
    (hf : ∀ t x, Keeps m s0 t → Keeps m s0 (f t x)) (l : List α) : Keeps m s0 (l.foldl f s) := by
  induction l generalizing s with
  | nil => exact h
  | cons x l ih => exact ih (hf s x h)

theorem setReg {m : Nat} {s0 s : State} (h : Keeps m s0 s) (a : Nat) (v : Word)
    (hm : sub 1 m := by exact sub_trans (by assumption) (by decide)) : Keeps m s0 (s.setReg a v) :=
  h.trans (within hm ⟨rfl, rfl, rfl, Nat.le_refl _, List.prefix_rfl, fun x => Store.wf_write x, id, by
    intro c; cases c <;> first | (intro h; exact absurd h (by decide)) | (intro _; rfl)⟩)

theorem drew {m : Nat} {s0 s : State} (h : Keeps m s0 s)
    (hm : sub 2097152 m := by exact sub_trans (by assumption) (by decide)) : Keeps m s0 s.drew :=
  h.trans (within hm ⟨rfl, rfl, rfl, Nat.le_succ _, List.prefix_rfl, id, id, by
    intro c; cases c <;> first | (intro h; exact absurd h (by decide)) | (intro _; rfl)⟩)

/-- Several free values drawn at once. -/
theorem drewMany {m : Nat} {s0 s : State} (h : Keeps m s0 s) (n : Nat)
    (hm : sub 2097152 m := by exact sub_trans (by assumption) (by decide)) : Keeps m s0 { s with free := s.free + n } :=
  h.trans (within hm ⟨rfl, rfl, rfl, Nat.le_add_right _ _, List.prefix_rfl, id, id, by
    intro c; cases c <;> first | (intro h; exact absurd h (by decide)) | (intro _; rfl)⟩)

theorem send {m : Nat} {s0 s : State} (h : Keeps m s0 s) (x : Msg)
    (hm : sub 1048576 m := by exact sub_trans (by assumption) (by decide)) : Keeps m s0 (s.send x) :=
  h.trans (within hm ⟨rfl, rfl, rfl, Nat.le_refl _, List.prefix_append _ _, id, id, by
    intro c; cases c <;> first | (intro h; exact absurd h (by decide)) | (intro _; rfl)⟩)

/-- Leaving registers out keeps their canonical form. -/
theorem regsFilter {m : Nat} {s0 s : State} (h : Keeps m s0 s) (p : Nat × Word → Bool)
    (hm : sub 1 m := by exact sub_trans (by assumption) (by decide)) : Keeps m s0 { s with regs := s.regs.filter p } :=
  h.trans (within hm ⟨rfl, rfl, rfl, Nat.le_refl _, List.prefix_rfl, fun x => Store.wf_filter x, id, by
    intro c; cases c <;> first | (intro h; exact absurd h (by decide)) | (intro _; rfl)⟩)

theorem next {m : Nat} {s0 t : State} (h : Keeps m s0 t) : KeepsOut m s0 (.next t) := by
  intro u e
  cases e
  exact h

end Keeps

end Sys2Proof.Machine
end

