-- ==== Sys2Proof/Laws/KeepsBase.lean ====
section
/-!
SUPPORT. Every operation keeps what `Keeps` says: the shared operations, the counters and the clocks.  One lemma per operation, named after it; `run<X>` is the lemma of
the meaning `exec<X>`.
-/
set_option Elab.async false
set_option linter.unusedTactic false
set_option linter.unreachableTactic false

namespace Sys2Proof.Machine
namespace Keeps

theorem set {allowed : Nat} {s0 s : State} (h : Keeps allowed s0 s) (f : Fld) (x : Nat)
    (hm : sub 1 allowed := by exact sub_trans (by assumption) (by decide)) :
    Keeps allowed s0 (State.set s f x) := by
  unfold State.set
  with_reducible repeat' first
    | (intro _) | assumption | exact sub_trans hm (by decide) | apply Keeps.setReg | apply Keeps.ite
    | refine Keeps.foldl ?_ ?_ _ | split | dsimp only | (apply Keeps.upd (k := 1) <;> first | with_unfolding_all rfl | skip)

theorem put {allowed : Nat} {s0 s : State} (h : Keeps allowed s0 s) (f : Fld) (b : Bool)
    (hm : sub 1 allowed := by exact sub_trans (by assumption) (by decide)) :
    Keeps allowed s0 (State.put s f b) := by
  unfold State.put
  with_reducible repeat' first
    | (intro _) | assumption | exact sub_trans hm (by decide) | apply Keeps.set | apply Keeps.ite | refine Keeps.foldl ?_ ?_ _
    | split | dsimp only | (apply Keeps.upd (k := 1) <;> first | with_unfolding_all rfl | skip)

theorem bump {allowed : Nat} {s0 s : State} (h : Keeps allowed s0 s) (f : Fld)
    (hm : sub 1 allowed := by exact sub_trans (by assumption) (by decide)) :
    Keeps allowed s0 (State.bump s f) := by
  unfold State.bump
  with_reducible repeat' first
    | (intro _) | assumption | exact sub_trans hm (by decide) | apply Keeps.set | apply Keeps.ite | refine Keeps.foldl ?_ ?_ _
    | split | dsimp only | (apply Keeps.upd (k := 1) <;> first | with_unfolding_all rfl | skip)

theorem bumpBy {allowed : Nat} {s0 s : State} (h : Keeps allowed s0 s) (f : Fld) (n : Nat)
    (hm : sub 1 allowed := by exact sub_trans (by assumption) (by decide)) :
    Keeps allowed s0 (State.bumpBy s f n) := by
  unfold State.bumpBy
  with_reducible repeat' first
    | (intro _) | assumption | exact sub_trans hm (by decide) | apply Keeps.set | apply Keeps.ite | refine Keeps.foldl ?_ ?_ _
    | split | dsimp only | (apply Keeps.upd (k := 1) <;> first | with_unfolding_all rfl | skip)

theorem setBit {allowed : Nat} {s0 s : State} (h : Keeps allowed s0 s) (f : Fld) (k : Nat) (b : Bool)
    (hm : sub 1 allowed := by exact sub_trans (by assumption) (by decide)) :
    Keeps allowed s0 (State.setBit s f k b) := by
  unfold State.setBit
  with_reducible repeat' first
    | (intro _) | assumption | exact sub_trans hm (by decide) | apply Keeps.put | apply Keeps.ite | refine Keeps.foldl ?_ ?_ _
    | split | dsimp only | (apply Keeps.upd (k := 1) <;> first | with_unfolding_all rfl | skip)

theorem raiseAt {allowed : Nat} {s0 s : State} (h : Keeps allowed s0 s) (src : Nat) (sev : Nat) (code : Nat) (dom : Nat) (data : List (Nat × Nat)) (addr : Option Nat)
    (hm : sub 4 allowed := by exact sub_trans (by assumption) (by decide)) :
    Keeps allowed s0 (State.raiseAt s src sev code dom data addr) := by
  unfold State.raiseAt
  with_reducible repeat' first
    | (intro _) | assumption | exact sub_trans hm (by decide) | apply Keeps.ite | refine Keeps.foldl ?_ ?_ _ | split
    | dsimp only | (apply Keeps.upd (k := 4) <;> first | with_unfolding_all rfl | skip)

theorem raise {allowed : Nat} {s0 s : State} (h : Keeps allowed s0 s) (src : Nat) (sev : Nat) (code : Nat) (dom : Nat) (data : List (Nat × Nat))
    (hm : sub 4 allowed := by exact sub_trans (by assumption) (by decide)) :
    Keeps allowed s0 (State.raise s src sev code dom data) := by
  unfold State.raise
  with_reducible repeat' first
    | (intro _) | assumption | exact sub_trans hm (by decide) | apply Keeps.raiseAt | apply Keeps.ite
    | refine Keeps.foldl ?_ ?_ _ | split | dsimp only | (apply Keeps.upd (k := 4) <;> first | with_unfolding_all rfl | skip)

theorem raiseFree {allowed : Nat} {s0 s : State} (h : Keeps allowed s0 s) (src : Nat) (sev : Nat) (code : Nat) (dom : Nat)
    (hm : sub 2097156 allowed := by exact sub_trans (by assumption) (by decide)) :
    Keeps allowed s0 (State.raiseFree s src sev code dom) := by
  unfold State.raiseFree
  with_reducible repeat' first
    | (intro _) | assumption | exact sub_trans hm (by decide) | apply Keeps.drew | apply Keeps.raise | apply Keeps.ite
    | refine Keeps.foldl ?_ ?_ _ | split | dsimp only
    | (apply Keeps.upd (k := 2097156) <;> first | with_unfolding_all rfl | skip)

theorem setCounter {allowed : Nat} {s0 s : State} (h : Keeps allowed s0 s) (c : Counter)
    (hm : sub 4 allowed := by exact sub_trans (by assumption) (by decide)) :
    Keeps allowed s0 (State.setCounter s c) := by
  unfold State.setCounter
  with_reducible repeat' first
    | (intro _) | assumption | exact sub_trans hm (by decide) | apply Keeps.ite | refine Keeps.foldl ?_ ?_ _ | split
    | dsimp only | (apply Keeps.upd (k := 4) <;> first | with_unfolding_all rfl | skip)

theorem wrapCounter {allowed : Nat} {s0 s : State} (h : Keeps allowed s0 s) (c : Counter) (cnt : Nat)
    (hm : sub 4 allowed := by exact sub_trans (by assumption) (by decide)) :
    Keeps allowed s0 (State.wrapCounter s c cnt) := by
  unfold State.wrapCounter
  with_reducible repeat' first
    | (intro _) | assumption | exact sub_trans hm (by decide) | apply Keeps.setCounter | apply Keeps.raise | apply Keeps.ite
    | refine Keeps.foldl ?_ ?_ _ | split | dsimp only | (apply Keeps.upd (k := 4) <;> first | with_unfolding_all rfl | skip)

theorem addCounter {allowed : Nat} {s0 s : State} (h : Keeps allowed s0 s) (n : Nat) (c : Counter)
    (hm : sub 4 allowed := by exact sub_trans (by assumption) (by decide)) :
    Keeps allowed s0 (State.addCounter n s c) := by
  unfold State.addCounter
  with_reducible repeat' first
    | (intro _) | assumption | exact sub_trans hm (by decide) | apply Keeps.setCounter | apply Keeps.wrapCounter
    | apply Keeps.ite | refine Keeps.foldl ?_ ?_ _ | split | dsimp only
    | (apply Keeps.upd (k := 4) <;> first | with_unfolding_all rfl | skip)

theorem count {allowed : Nat} {s0 s : State} (h : Keeps allowed s0 s) (lo : Nat) (hi : Nat) (code : Nat) (qual : Nat) (n : Nat)
    (hm : sub 4 allowed := by exact sub_trans (by assumption) (by decide)) :
    Keeps allowed s0 (State.count s lo hi code qual n) := by
  unfold State.count
  with_reducible repeat' first
    | (intro _) | assumption | exact sub_trans hm (by decide) | apply Keeps.addCounter | apply Keeps.ite
    | refine Keeps.foldl ?_ ?_ _ | split | dsimp only | (apply Keeps.upd (k := 4) <;> first | with_unfolding_all rfl | skip)

theorem cKl {allowed : Nat} {s0 s : State} (h : Keeps allowed s0 s) (k : Nat) (code : Nat) (vc : Nat) (n : Nat)
    (hm : sub 4 allowed := by exact sub_trans (by assumption) (by decide)) :
    Keeps allowed s0 (State.cKl s k code vc n) := by
  unfold State.cKl
  with_reducible repeat' first
    | (intro _) | assumption | exact sub_trans hm (by decide) | apply Keeps.count | apply Keeps.ite | refine Keeps.foldl ?_ ?_ _
    | split | dsimp only | (apply Keeps.upd (k := 4) <;> first | with_unfolding_all rfl | skip)

theorem openBw {allowed : Nat} {s0 s : State} (h : Keeps allowed s0 s) (p : Nat) (us : Nat)
    (hm : sub 5 allowed := by exact sub_trans (by assumption) (by decide)) :
    Keeps allowed s0 (State.openBw s p us) := by
  unfold State.openBw
  with_reducible repeat' first
    | (intro _) | assumption | exact sub_trans hm (by decide) | apply Keeps.setReg | apply Keeps.set | apply Keeps.put
    | apply Keeps.ite | refine Keeps.foldl ?_ ?_ _ | split | dsimp only
    | (apply Keeps.upd (k := 5) <;> first | with_unfolding_all rfl | skip)

theorem traffic {allowed : Nat} {s0 s : State} (h : Keeps allowed s0 s) (p : Nat) (inB : Nat) (outB : Nat)
    (hm : sub 5 allowed := by exact sub_trans (by assumption) (by decide)) :
    Keeps allowed s0 (State.traffic s p inB outB) := by
  unfold State.traffic
  with_reducible repeat' first
    | (intro _) | assumption | exact sub_trans hm (by decide) | apply Keeps.bumpBy | apply Keeps.set | apply Keeps.ite
    | refine Keeps.foldl ?_ ?_ _ | split | dsimp only | (apply Keeps.upd (k := 5) <;> first | with_unfolding_all rfl | skip)

theorem setKl {allowed : Nat} {s0 s : State} (h : Keeps allowed s0 s) (k : Nat) (p : KlPort)
    (hm : sub 131072 allowed := by exact sub_trans (by assumption) (by decide)) :
    Keeps allowed s0 (State.setKl s k p) := by
  unfold State.setKl
  with_reducible repeat' first
    | (intro _) | assumption | exact sub_trans hm (by decide) | apply Keeps.ite | refine Keeps.foldl ?_ ?_ _ | split
    | dsimp only | (apply Keeps.upd (k := 131072) <;> first | with_unfolding_all rfl | skip)

theorem showCredits {allowed : Nat} {s0 s : State} (h : Keeps allowed s0 s) (k : Nat)
    (hm : sub 1 allowed := by exact sub_trans (by assumption) (by decide)) :
    Keeps allowed s0 (State.showCredits s k) := by
  unfold State.showCredits
  with_reducible repeat' first
    | (intro _) | assumption | exact sub_trans hm (by decide) | apply Keeps.setReg | apply Keeps.ite
    | refine Keeps.foldl ?_ ?_ _ | split | dsimp only | (apply Keeps.upd (k := 1) <;> first | with_unfolding_all rfl | skip)

theorem klOut {allowed : Nat} {s0 s : State} (h : Keeps allowed s0 s) (k : Nat) (t : KlTx)
    (hm : sub 1179653 allowed := by exact sub_trans (by assumption) (by decide)) :
    Keeps allowed s0 (State.klOut s k t) := by
  unfold State.klOut
  with_reducible repeat' first
    | (intro _) | assumption | exact sub_trans hm (by decide) | apply Keeps.setKl | apply Keeps.traffic | apply Keeps.cKl
    | apply Keeps.showCredits | apply Keeps.send | apply Keeps.ite | refine Keeps.foldl ?_ ?_ _ | split | dsimp only
    | (apply Keeps.upd (k := 1179653) <;> first | with_unfolding_all rfl | skip)

theorem klSend {allowed : Nat} {s0 s : State} (h : Keeps allowed s0 s) (k : Nat) (t : KlTx)
    (hm : sub 1179653 allowed := by exact sub_trans (by assumption) (by decide)) :
    Keeps allowed s0 (State.klSend s k t) := by
  unfold State.klSend
  with_reducible repeat' first
    | (intro _) | assumption | exact sub_trans hm (by decide) | apply Keeps.klOut | apply Keeps.setKl | apply Keeps.ite
    | refine Keeps.foldl ?_ ?_ _ | split | dsimp only
    | (apply Keeps.upd (k := 1179653) <;> first | with_unfolding_all rfl | skip)

theorem pmL2 {allowed : Nat} {s0 s : State} (h : Keeps allowed s0 s)
    (hm : sub 1703936 allowed := by exact sub_trans (by assumption) (by decide)) :
    Keeps allowed s0 (State.pmL2 s) := by
  unfold State.pmL2
  with_reducible repeat' first
    | (intro _) | assumption | exact sub_trans hm (by decide) | apply Keeps.send | apply Keeps.setKl | apply Keeps.ite
    | refine Keeps.foldl ?_ ?_ _ | split | dsimp only
    | (apply Keeps.upd (k := 1703936) <;> first | with_unfolding_all rfl | skip)

theorem setAgentSt {allowed : Nat} {s0 s : State} (h : Keeps allowed s0 s) (a : Nat) (x : AgentState)
    (hm : sub 262144 allowed := by exact sub_trans (by assumption) (by decide)) :
    Keeps allowed s0 (State.setAgentSt s a x) := by
  unfold State.setAgentSt
  with_reducible repeat' first
    | (intro _) | assumption | exact sub_trans hm (by decide) | apply Keeps.ite | refine Keeps.foldl ?_ ?_ _ | split
    | dsimp only | (apply Keeps.upd (k := 262144) <;> first | with_unfolding_all rfl | skip)

theorem showOut {allowed : Nat} {s0 s : State} (h : Keeps allowed s0 s) (a : Nat)
    (hm : sub 1 allowed := by exact sub_trans (by assumption) (by decide)) :
    Keeps allowed s0 (State.showOut s a) := by
  unfold State.showOut
  with_reducible repeat' first
    | (intro _) | assumption | exact sub_trans hm (by decide) | apply Keeps.set | apply Keeps.ite | refine Keeps.foldl ?_ ?_ _
    | split | dsimp only | (apply Keeps.upd (k := 1) <;> first | with_unfolding_all rfl | skip)

theorem klInterrupt {allowed : Nat} {s0 s : State} (h : Keeps allowed s0 s) (a : Nat) (vector : Nat) (ring : Nat)
    (hm : sub 1441797 allowed := by exact sub_trans (by assumption) (by decide)) :
    Keeps allowed s0 (State.klInterrupt s a vector ring) := by
  unfold State.klInterrupt
  with_reducible repeat' first
    | (intro _) | assumption | exact sub_trans hm (by decide) | apply Keeps.klOut | apply Keeps.setAgentSt | apply Keeps.ite
    | refine Keeps.foldl ?_ ?_ _ | split | dsimp only
    | (apply Keeps.upd (k := 1441797) <;> first | with_unfolding_all rfl | skip)

theorem klPostedError {allowed : Nat} {s0 s : State} (h : Keeps allowed s0 s) (a : Nat) (addr : Nat) (status : Nat) (index : Nat)
    (hm : sub 1179653 allowed := by exact sub_trans (by assumption) (by decide)) :
    Keeps allowed s0 (State.klPostedError s a addr status index) := by
  unfold State.klPostedError
  with_reducible repeat' first
    | (intro _) | assumption | exact sub_trans hm (by decide) | apply Keeps.klOut | apply Keeps.bump | apply Keeps.ite
    | refine Keeps.foldl ?_ ?_ _ | split | dsimp only
    | (apply Keeps.upd (k := 1179653) <;> first | with_unfolding_all rfl | skip)

theorem klPumpFrom {allowed : Nat} {s0 s : State} (h : Keeps allowed s0 s) (k : Nat) (l : List KlTx) (shut : List Nat) (kept : List KlTx)
    (hm : sub 1179653 allowed := by exact sub_trans (by assumption) (by decide)) :
    Keeps allowed s0 (State.klPumpFrom k l shut kept s) := by
  induction l generalizing s shut kept with
  | nil => exact h.setKl _ _
  | cons t l ih =>
    unfold State.klPumpFrom
    split
    · exact ih (h.klOut _ _) _ _
    · exact ih h _ _

theorem klPump {allowed : Nat} {s0 s : State} (h : Keeps allowed s0 s) (k : Nat)
    (hm : sub 1441797 allowed := by exact sub_trans (by assumption) (by decide)) :
    Keeps allowed s0 (State.klPump s k) := by
  unfold State.klPump
  with_reducible repeat' first
    | (intro _) | assumption | exact sub_trans hm (by decide) | apply Keeps.klPumpFrom | apply Keeps.klOut
    | apply Keeps.setAgentSt | apply Keeps.ite | refine Keeps.foldl ?_ ?_ _ | split | dsimp only
    | (apply Keeps.upd (k := 1441797) <;> first | with_unfolding_all rfl | skip)

theorem answerAgent {allowed : Nat} {s0 s : State} (h : Keeps allowed s0 s) (a : Nat) (tag : Nat) (t : KlTx)
    (hm : sub 1441797 allowed := by exact sub_trans (by assumption) (by decide)) :
    Keeps allowed s0 (State.answerAgent s a tag t) := by
  unfold State.answerAgent
  with_reducible repeat' first
    | (intro _) | assumption | exact sub_trans hm (by decide) | apply Keeps.showOut | apply Keeps.klSend
    | apply Keeps.setAgentSt | apply Keeps.ite | refine Keeps.foldl ?_ ?_ _ | split | dsimp only
    | (apply Keeps.upd (k := 1441797) <;> first | with_unfolding_all rfl | skip)

theorem lineAnswered {allowed : Nat} {s0 s : State} (h : Keeps allowed s0 s) (a : Nat) (tag : Nat)
    (hm : sub 1441797 allowed := by exact sub_trans (by assumption) (by decide)) :
    Keeps allowed s0 (State.lineAnswered s a tag) := by
  unfold State.lineAnswered
  with_reducible repeat' first
    | (intro _) | assumption | exact sub_trans hm (by decide) | apply Keeps.answerAgent | apply Keeps.setAgentSt
    | apply Keeps.ite | refine Keeps.foldl ?_ ?_ _ | split | dsimp only
    | (apply Keeps.upd (k := 1441797) <;> first | with_unfolding_all rfl | skip)

theorem takeTag {allowed : Nat} {s0 s : State} (h : Keeps allowed s0 s) (a : Nat)
    (hm : sub 262144 allowed := by exact sub_trans (by assumption) (by decide)) :
    Keeps allowed s0 (State.takeTag s a).1 := by
  unfold State.takeTag
  with_reducible repeat' first
    | (intro _) | assumption | exact sub_trans hm (by decide) | apply Keeps.setAgentSt | apply Keeps.ite
    | refine Keeps.foldl ?_ ?_ _ | split | dsimp only
    | (apply Keeps.upd (k := 262144) <;> first | with_unfolding_all rfl | skip)

theorem takeTag_eq {allowed : Nat} {s0 s : State} (h : Keeps allowed s0 s) {a1 : Nat} {t0 : State} {x} (e : State.takeTag s a1 = (t0, x))
    (hm : sub 262144 allowed := by exact sub_trans (by assumption) (by decide)) :
    Keeps allowed s0 t0 := by
  have g := Keeps.takeTag h a1
  rw [e] at g
  exact g

theorem hubRequests {allowed : Nat} {s0 s : State} (h : Keeps allowed s0 s) (a : Nat)
    (hm : sub 1441797 allowed := by exact sub_trans (by assumption) (by decide)) :
    Keeps allowed s0 (State.hubRequests s a) := by
  unfold State.hubRequests
  with_reducible repeat' first
    | (intro _) | assumption | exact sub_trans hm (by decide) | apply Keeps.showOut | apply Keeps.klSend | apply Keeps.ite
    | refine Keeps.foldl ?_ ?_ _ | split | dsimp only
    | (apply Keeps.upd (k := 1441797) <;> first | with_unfolding_all rfl | skip)

theorem hubRequest {allowed : Nat} {s0 s : State} (h : Keeps allowed s0 s) (a : Nat) (kind : Nat) (addr : Nat) (len : Nat) (src : WinSrc) (f : Nat → KlTx)
    (hm : sub 1441797 allowed := by exact sub_trans (by assumption) (by decide)) :
    Keeps allowed s0 (State.hubRequest s a kind addr len src f) := by
  unfold State.hubRequest
  with_reducible repeat' first
    | (intro _) | assumption | exact sub_trans hm (by decide) | apply Keeps.takeTag | apply Keeps.hubRequests
    | refine Keeps.takeTag_eq ?_ (e := by assumption) | apply Keeps.ite | refine Keeps.foldl ?_ ?_ _ | split | dsimp only
    | (apply Keeps.upd (k := 1441797) <;> first | with_unfolding_all rfl | skip)

theorem agentWrite {allowed : Nat} {s0 s : State} (h : Keeps allowed s0 s) (src : WinSrc) (dom : Nat) (a : Nat) (addr : Nat) (poison : Nat) (b : List Byte) (early : Bool)
    (hm : sub 1441797 allowed := by exact sub_trans (by assumption) (by decide)) :
    Keeps allowed s0 (State.agentWrite s src dom a addr poison b early) := by
  unfold State.agentWrite
  with_reducible repeat' first
    | (intro _) | assumption | exact sub_trans hm (by decide) | apply Keeps.setAgentSt | apply Keeps.klSend
    | apply Keeps.hubRequest | apply Keeps.ite | refine Keeps.foldl ?_ ?_ _ | split | dsimp only
    | (apply Keeps.upd (k := 1441797) <;> first | with_unfolding_all rfl | skip)

theorem postedFail {allowed : Nat} {s0 s : State} (h : Keeps allowed s0 s) (a : Nat) (index : Nat) (addr : Nat) (status : Nat)
    (hm : sub 1441797 allowed := by exact sub_trans (by assumption) (by decide)) :
    Keeps allowed s0 (State.postedFail s a index addr status) := by
  unfold State.postedFail
  with_reducible repeat' first
    | (intro _) | assumption | exact sub_trans hm (by decide) | apply Keeps.klPostedError | apply Keeps.setAgentSt
    | apply Keeps.ite | refine Keeps.foldl ?_ ?_ _ | split | dsimp only
    | (apply Keeps.upd (k := 1441797) <;> first | with_unfolding_all rfl | skip)

theorem putShm {allowed : Nat} {s0 s : State} (h : Keeps allowed s0 s) {m : Mem} (g : s.hz.shm.wf = true → m.wf = true)
    (hm : sub 16384 allowed := by exact sub_trans (by assumption) (by decide)) :
    Keeps allowed s0 { s with hz := { s.hz with shm := m } } :=
  h.trans <| within hm ⟨rfl, rfl, rfl, Nat.le_refl _, List.prefix_rfl, id, fun x => by
    simp only [State.memWf, Bool.and_eq_true] at x ⊢
    exact ⟨⟨x.1.1, g x.1.2⟩, x.2⟩, by
    intro c; cases c <;> first | (intro h; exact absurd h (by decide)) | (intro _; rfl)⟩

theorem storeOut {allowed : Nat} {s0 s : State} (h : Keeps allowed s0 s) (a : Nat) (b : List Byte)
    (hm : sub 1064960 allowed := by exact sub_trans (by assumption) (by decide)) : Keeps allowed s0 (State.storeOut s a b) := by
  unfold State.storeOut
  split
  · exact h.send _
  · split
    · exact h.putShm (fun x => Mem.wf_writeMem _ _ _ _ _ x)
    · exact h

theorem msix {allowed : Nat} {s0 s : State} (h : Keeps allowed s0 s) (n : Nat) (v : Nat)
    (hm : sub 1048584 allowed := by exact sub_trans (by assumption) (by decide)) :
    Keeps allowed s0 (State.msix s n v) := by
  unfold State.msix
  with_reducible repeat' first
    | (intro _) | assumption | exact sub_trans hm (by decide) | apply Keeps.send | apply Keeps.ite | refine Keeps.foldl ?_ ?_ _
    | split | dsimp only | (apply Keeps.upd (k := 1048584) <;> first | with_unfolding_all rfl | skip)

theorem setServo {allowed : Nat} {s0 s : State} (h : Keeps allowed s0 s) (x : Nat)
    (hm : sub 1 allowed := by exact sub_trans (by assumption) (by decide)) :
    Keeps allowed s0 (State.setServo s x) := by
  unfold State.setServo
  with_reducible repeat' first
    | (intro _) | assumption | exact sub_trans hm (by decide) | apply Keeps.set | apply Keeps.ite | refine Keeps.foldl ?_ ?_ _
    | split | dsimp only | (apply Keeps.upd (k := 1) <;> first | with_unfolding_all rfl | skip)

theorem refuseSource {allowed : Nat} {s0 s : State} (h : Keeps allowed s0 s)
    (hm : sub 2097157 allowed := by exact sub_trans (by assumption) (by decide)) :
    Keeps allowed s0 (State.refuseSource s) := by
  unfold State.refuseSource
  with_reducible repeat' first
    | (intro _) | assumption | exact sub_trans hm (by decide) | apply Keeps.raiseFree | apply Keeps.put | apply Keeps.ite
    | refine Keeps.foldl ?_ ?_ _ | split | dsimp only
    | (apply Keeps.upd (k := 2097157) <;> first | with_unfolding_all rfl | skip)

theorem stepDtb {allowed : Nat} {s0 s : State} (h : Keeps allowed s0 s) (t : Nat)
    (hm : sub 2 allowed := by exact sub_trans (by assumption) (by decide)) :
    Keeps allowed s0 (State.stepDtb s t) := by
  unfold State.stepDtb
  with_reducible repeat' first
    | (intro _) | assumption | exact sub_trans hm (by decide) | apply Keeps.ite | refine Keeps.foldl ?_ ?_ _ | split
    | dsimp only | (apply Keeps.upd (k := 2) <;> first | with_unfolding_all rfl | skip)

theorem shiftFix {allowed : Nat} {s0 s : State} (h : Keeps allowed s0 s) (n : Nat)
    (hm : sub 1 allowed := by exact sub_trans (by assumption) (by decide)) : Keeps allowed s0 (State.shiftFix n s) := by
  induction n with
  | zero => exact h
  | succ n ih =>
    unfold State.shiftFix
    exact (ih.setReg _ _).setReg _ _

theorem addStampFix {allowed : Nat} {s0 s : State} (h : Keeps allowed s0 s) (g : Nat) (p : Nat) (o : Nat)
    (hm : sub 3 allowed := by exact sub_trans (by assumption) (by decide)) :
    Keeps allowed s0 (State.addStampFix s g p o) := by
  unfold State.addStampFix
  with_reducible repeat' first
    | (intro _) | assumption | exact sub_trans hm (by decide) | apply Keeps.shiftFix | apply Keeps.set | apply Keeps.put
    | apply Keeps.ite | refine Keeps.foldl ?_ ?_ _ | split | dsimp only
    | (apply Keeps.upd (k := 3) <;> first | with_unfolding_all rfl | skip)

theorem firstSync {allowed : Nat} {s0 s : State} (h : Keeps allowed s0 s) (src : Nat) (t : Nat)
    (hm : sub 7 allowed := by exact sub_trans (by assumption) (by decide)) :
    Keeps allowed s0 (State.firstSync s src t) := by
  unfold State.firstSync
  with_reducible repeat' first
    | (intro _) | assumption | exact sub_trans hm (by decide) | apply Keeps.stepDtb | apply Keeps.put | apply Keeps.set
    | apply Keeps.addStampFix | apply Keeps.raise | apply Keeps.ite | refine Keeps.foldl ?_ ?_ _ | split | dsimp only
    | (apply Keeps.upd (k := 7) <;> first | with_unfolding_all rfl | skip)

theorem follow {allowed : Nat} {s0 s : State} (h : Keeps allowed s0 s) (t : Nat)
    (hm : sub 7 allowed := by exact sub_trans (by assumption) (by decide)) :
    Keeps allowed s0 (State.follow s t) := by
  unfold State.follow
  with_reducible repeat' first
    | (intro _) | assumption | exact sub_trans hm (by decide) | apply Keeps.raise | apply Keeps.bump | apply Keeps.stepDtb
    | apply Keeps.ite | refine Keeps.foldl ?_ ?_ _ | split | dsimp only
    | (apply Keeps.upd (k := 7) <;> first | with_unfolding_all rfl | skip)

theorem servoOffset {allowed : Nat} {s0 s : State} (h : Keeps allowed s0 s) (off : Int)
    (hm : sub 7 allowed := by exact sub_trans (by assumption) (by decide)) :
    Keeps allowed s0 (State.servoOffset s off) := by
  unfold State.servoOffset
  with_reducible repeat' first
    | (intro _) | assumption | exact sub_trans hm (by decide) | apply Keeps.setServo | apply Keeps.raise | apply Keeps.ite
    | refine Keeps.foldl ?_ ?_ _ | split | dsimp only | (apply Keeps.upd (k := 7) <;> first | with_unfolding_all rfl | skip)

theorem measure {allowed : Nat} {s0 s : State} (h : Keeps allowed s0 s) (src : Nat) (t : Nat)
    (hm : sub 2097159 allowed := by exact sub_trans (by assumption) (by decide)) :
    Keeps allowed s0 (State.measure s src t) := by
  unfold State.measure
  repeat' first
    | with_reducible (intro _) | with_reducible assumption | with_reducible exact sub_trans hm (by decide)
    | with_reducible apply Keeps.refuseSource | with_reducible apply Keeps.firstSync | with_reducible apply Keeps.setReg
    | with_reducible apply Keeps.setServo | with_reducible apply Keeps.set | with_reducible apply Keeps.drew
    | with_reducible apply Keeps.servoOffset | with_reducible apply Keeps.follow | with_reducible apply Keeps.ite
    | with_reducible refine Keeps.foldl ?_ ?_ _ | split | dsimp only
    | (with_reducible apply Keeps.upd (k := 2097159)) <;> first | rfl | skip

theorem loseSource {allowed : Nat} {s0 s : State} (h : Keeps allowed s0 s)
    (hm : sub 7 allowed := by exact sub_trans (by assumption) (by decide)) :
    Keeps allowed s0 (State.loseSource s) := by
  unfold State.loseSource
  with_reducible repeat' first
    | (intro _) | assumption | exact sub_trans hm (by decide) | apply Keeps.set | apply Keeps.setServo | apply Keeps.raise
    | apply Keeps.ite | refine Keeps.foldl ?_ ?_ _ | split | dsimp only
    | (apply Keeps.upd (k := 7) <;> first | with_unfolding_all rfl | skip)

theorem hostSet {allowed : Nat} {s0 s : State} (h : Keeps allowed s0 s) (t : Nat)
    (hm : sub 2097159 allowed := by exact sub_trans (by assumption) (by decide)) :
    Keeps allowed s0 (State.hostSet s t) := by
  unfold State.hostSet
  repeat' first
    | with_reducible (intro _) | with_reducible assumption | with_reducible exact sub_trans hm (by decide)
    | with_reducible apply Keeps.refuseSource | with_reducible apply Keeps.firstSync | with_reducible apply Keeps.setReg
    | with_reducible apply Keeps.setServo | with_reducible apply Keeps.follow | with_reducible apply Keeps.set
    | with_reducible apply Keeps.ite | with_reducible refine Keeps.foldl ?_ ?_ _ | split | dsimp only
    | (with_reducible apply Keeps.upd (k := 2097159)) <;> first | rfl | skip

theorem tbSet {allowed : Nat} {s0 s : State} (h : Keeps allowed s0 s) (t : Nat)
    (hm : sub 2097159 allowed := by exact sub_trans (by assumption) (by decide)) :
    Keeps allowed s0 (State.tbSet s t) := by
  unfold State.tbSet
  with_reducible repeat' first
    | (intro _) | assumption | exact sub_trans hm (by decide) | apply Keeps.refuseSource | apply Keeps.hostSet | apply Keeps.ite
    | refine Keeps.foldl ?_ ?_ _ | split | dsimp only
    | (apply Keeps.upd (k := 2097159) <;> first | with_unfolding_all rfl | skip)

theorem ptpPortCheck {allowed : Nat} {s0 s : State} (h : Keeps allowed s0 s)
    (hm : sub 2097157 allowed := by exact sub_trans (by assumption) (by decide)) :
    Keeps allowed s0 (State.ptpPortCheck s) := by
  unfold State.ptpPortCheck
  with_reducible repeat' first
    | (intro _) | assumption | exact sub_trans hm (by decide) | apply Keeps.refuseSource | apply Keeps.ite
    | refine Keeps.foldl ?_ ?_ _ | split | dsimp only
    | (apply Keeps.upd (k := 2097157) <;> first | with_unfolding_all rfl | skip)

theorem runPtpMessageReceive {allowed : Nat} {s0 s : State} (h : Keeps allowed s0 s) (port : Nat) (sourceTime : Nat)
    (hm : sub 2097159 allowed := by exact sub_trans (by assumption) (by decide)) :
    KeepsOut allowed s0 (execPtpMessageReceive port sourceTime s) := by
  unfold execPtpMessageReceive
  refine Keeps.next ?_
  with_reducible repeat' first
    | (intro _) | assumption | exact sub_trans hm (by decide) | apply Keeps.measure | apply Keeps.ite
    | refine Keeps.foldl ?_ ?_ _ | split | dsimp only
    | (apply Keeps.upd (k := 2097159) <;> first | with_unfolding_all rfl | skip)

theorem runPtpSourceLoss {allowed : Nat} {s0 s : State} (h : Keeps allowed s0 s)
    (hm : sub 7 allowed := by exact sub_trans (by assumption) (by decide)) :
    KeepsOut allowed s0 (execPtpSourceLoss s) := by
  unfold execPtpSourceLoss
  refine Keeps.next ?_
  with_reducible repeat' first
    | (intro _) | assumption | exact sub_trans hm (by decide) | apply Keeps.loseSource | apply Keeps.ite
    | refine Keeps.foldl ?_ ?_ _ | split | dsimp only | (apply Keeps.upd (k := 7) <;> first | with_unfolding_all rfl | skip)

theorem runPpsInSourceLoss {allowed : Nat} {s0 s : State} (h : Keeps allowed s0 s)
    (hm : sub 7 allowed := by exact sub_trans (by assumption) (by decide)) :
    KeepsOut allowed s0 (execPpsInSourceLoss s) := by
  unfold execPpsInSourceLoss
  refine Keeps.next ?_
  with_reducible repeat' first
    | (intro _) | assumption | exact sub_trans hm (by decide) | apply Keeps.loseSource | apply Keeps.ite
    | refine Keeps.foldl ?_ ?_ _ | split | dsimp only | (apply Keeps.upd (k := 7) <;> first | with_unfolding_all rfl | skip)

theorem runPpsInEdge {allowed : Nat} {s0 s : State} (h : Keeps allowed s0 s)
    (hm : sub 2097159 allowed := by exact sub_trans (by assumption) (by decide)) :
    KeepsOut allowed s0 (execPpsInEdge s) := by
  unfold execPpsInEdge
  refine Keeps.next ?_
  with_reducible repeat' first
    | (intro _) | assumption | exact sub_trans hm (by decide) | apply Keeps.setReg | apply Keeps.measure | apply Keeps.ite
    | refine Keeps.foldl ?_ ?_ _ | split | dsimp only
    | (apply Keeps.upd (k := 2097159) <;> first | with_unfolding_all rfl | skip)

theorem runTbSetWrite {allowed : Nat} {s0 s : State} (h : Keeps allowed s0 s) (value : BitVec 64)
    (hm : sub 2097159 allowed := by exact sub_trans (by assumption) (by decide)) :
    KeepsOut allowed s0 (execTbSetWrite value s) := by
  unfold execTbSetWrite
  refine Keeps.next ?_
  with_reducible repeat' first
    | (intro _) | assumption | exact sub_trans hm (by decide) | apply Keeps.tbSet | apply Keeps.ite | refine Keeps.foldl ?_ ?_ _
    | split | dsimp only | (apply Keeps.upd (k := 2097159) <;> first | with_unfolding_all rfl | skip)

theorem runTbCtlWrite {allowed : Nat} {s0 s : State} (h : Keeps allowed s0 s) (value : BitVec 32)
    (hm : sub 2097159 allowed := by exact sub_trans (by assumption) (by decide)) :
    KeepsOut allowed s0 (execTbCtlWrite value s) := by
  unfold execTbCtlWrite
  refine Keeps.next ?_
  with_reducible repeat' first
    | (intro _) | assumption | exact sub_trans hm (by decide) | apply Keeps.setReg | apply Keeps.ptpPortCheck
    | apply Keeps.loseSource | apply Keeps.ite | refine Keeps.foldl ?_ ?_ _ | split | dsimp only
    | (apply Keeps.upd (k := 2097159) <;> first | with_unfolding_all rfl | skip)

theorem runHoldoverExpiry {allowed : Nat} {s0 s : State} (h : Keeps allowed s0 s)
    (hm : sub 5 allowed := by exact sub_trans (by assumption) (by decide)) :
    KeepsOut allowed s0 (execHoldoverExpiry s) := by
  unfold execHoldoverExpiry
  refine Keeps.next ?_
  with_reducible repeat' first
    | (intro _) | assumption | exact sub_trans hm (by decide) | apply Keeps.raise | apply Keeps.setServo | apply Keeps.ite
    | refine Keeps.foldl ?_ ?_ _ | split | dsimp only | (apply Keeps.upd (k := 5) <;> first | with_unfolding_all rfl | skip)

theorem runTcxoFailure {allowed : Nat} {s0 s : State} (h : Keeps allowed s0 s)
    (hm : sub 5 allowed := by exact sub_trans (by assumption) (by decide)) :
    KeepsOut allowed s0 (execTcxoFailure s) := by
  unfold execTcxoFailure
  refine Keeps.next ?_
  with_reducible repeat' first
    | (intro _) | assumption | exact sub_trans hm (by decide) | apply Keeps.raise | apply Keeps.put | apply Keeps.ite
    | refine Keeps.foldl ?_ ?_ _ | split | dsimp only | (apply Keeps.upd (k := 5) <;> first | with_unfolding_all rfl | skip)

theorem runPpsOutPulse {allowed : Nat} {s0 s : State} (h : Keeps allowed s0 s)
    (hm : sub 1048578 allowed := by exact sub_trans (by assumption) (by decide)) :
    KeepsOut allowed s0 (execPpsOutPulse s) := by
  unfold execPpsOutPulse
  refine Keeps.next ?_
  with_reducible repeat' first
    | (intro _) | assumption | exact sub_trans hm (by decide) | apply Keeps.send | apply Keeps.ite | refine Keeps.foldl ?_ ?_ _
    | split | dsimp only | (apply Keeps.upd (k := 1048578) <;> first | with_unfolding_all rfl | skip)

theorem runTimeMessageReceive {allowed : Nat} {s0 s : State} (h : Keeps allowed s0 s) (port : Nat) (hubTime : Nat) (delayNs : Nat)
    (hm : sub 3 allowed := by exact sub_trans (by assumption) (by decide)) :
    KeepsOut allowed s0 (execTimeMessageReceive port hubTime delayNs s) := by
  unfold execTimeMessageReceive
  refine Keeps.next ?_
  with_reducible repeat' first
    | (intro _) | assumption | exact sub_trans hm (by decide) | apply Keeps.setBit | apply Keeps.ite
    | refine Keeps.foldl ?_ ?_ _ | split | dsimp only | (apply Keeps.upd (k := 3) <;> first | with_unfolding_all rfl | skip)

theorem runDieTimeLost {allowed : Nat} {s0 s : State} (h : Keeps allowed s0 s) (die : Nat)
    (hm : sub 5 allowed := by exact sub_trans (by assumption) (by decide)) :
    KeepsOut allowed s0 (execDieTimeLost die s) := by
  unfold execDieTimeLost
  refine Keeps.next ?_
  with_reducible repeat' first
    | (intro _) | assumption | exact sub_trans hm (by decide) | apply Keeps.raise | apply Keeps.setBit | apply Keeps.ite
    | refine Keeps.foldl ?_ ?_ _ | split | dsimp only | (apply Keeps.upd (k := 5) <;> first | with_unfolding_all rfl | skip)

theorem runDieLaunchHold {allowed : Nat} {s0 s : State} (h : Keeps allowed s0 s) (die : Nat)
    (hm : sub 2 allowed := by exact sub_trans (by assumption) (by decide)) :
    KeepsOut allowed s0 (execDieLaunchHold die s) := by
  unfold execDieLaunchHold
  refine Keeps.next ?_
  with_reducible repeat' first
    | (intro _) | assumption | exact sub_trans hm (by decide) | apply Keeps.ite | refine Keeps.foldl ?_ ?_ _ | split
    | dsimp only | (apply Keeps.upd (k := 2) <;> first | with_unfolding_all rfl | skip)

theorem putPs {allowed : Nat} {s0 s : State} (h : Keeps allowed s0 s) (a : Nat) (b : List Byte)
    (hm : sub 8192 allowed := by exact sub_trans (by assumption) (by decide)) : Keeps allowed s0 (State.putPs s a b) :=
  h.trans <| within hm ⟨rfl, rfl, rfl, Nat.le_refl _, List.prefix_rfl, id, fun x => by
    simp only [State.memWf, State.putPs, Bool.and_eq_true] at x ⊢
    exact ⟨x.1, Store.wf_foldl (fun (y : Byte × Nat) => (a + y.2, y.1)) _ x.2⟩, by
    intro c; cases c <;> first | (intro h; exact absurd h (by decide)) | (intro _; rfl)⟩

theorem spreadInc {allowed : Nat} {s0 s : State} (h : Keeps allowed s0 s) (c : Nat)
    (hm : sub 8192 allowed := by exact sub_trans (by assumption) (by decide)) :
    Keeps allowed s0 (State.spreadInc s c) := by
  unfold State.spreadInc
  with_reducible repeat' first
    | (intro _) | assumption | exact sub_trans hm (by decide) | apply Keeps.putPs | apply Keeps.ite | refine Keeps.foldl ?_ ?_ _
    | split | dsimp only | (apply Keeps.upd (k := 8192) <;> first | with_unfolding_all rfl | skip)

theorem takeSeq {allowed : Nat} {s0 s : State} (h : Keeps allowed s0 s)
    (hm : sub 8193 allowed := by exact sub_trans (by assumption) (by decide)) :
    Keeps allowed s0 (State.takeSeq s).2 := by
  unfold State.takeSeq
  with_reducible repeat' first
    | (intro _) | assumption | exact sub_trans hm (by decide) | apply Keeps.spreadInc | apply Keeps.set | apply Keeps.ite
    | refine Keeps.foldl ?_ ?_ _ | split | dsimp only | (apply Keeps.upd (k := 8193) <;> first | with_unfolding_all rfl | skip)

theorem takeSeq_eq {allowed : Nat} {s0 s : State} (h : Keeps allowed s0 s)  {t0 : State} {x} (e : State.takeSeq s = (x, t0))
    (hm : sub 8193 allowed := by exact sub_trans (by assumption) (by decide)) :
    Keeps allowed s0 t0 := by
  have g := Keeps.takeSeq h 
  rw [e] at g
  exact g

theorem repeatYoungest {allowed : Nat} {s0 s : State} (h : Keeps allowed s0 s) (sec : Nat)
    (hm : sub 4 allowed := by exact sub_trans (by assumption) (by decide)) :
    Keeps allowed s0 (State.repeatYoungest s sec) := by
  unfold State.repeatYoungest
  with_reducible repeat' first
    | (intro _) | assumption | exact sub_trans hm (by decide) | apply Keeps.ite | refine Keeps.foldl ?_ ?_ _ | split
    | dsimp only | (apply Keeps.upd (k := 4) <;> first | with_unfolding_all rfl | skip)

theorem dropEvent {allowed : Nat} {s0 s : State} (h : Keeps allowed s0 s) (e : Event)
    (hm : sub 5 allowed := by exact sub_trans (by assumption) (by decide)) :
    Keeps allowed s0 (State.dropEvent s e) := by
  unfold State.dropEvent
  with_reducible repeat' first
    | (intro _) | assumption | exact sub_trans hm (by decide) | apply Keeps.put | apply Keeps.bump | apply Keeps.ite
    | refine Keeps.foldl ?_ ?_ _ | split | dsimp only | (apply Keeps.upd (k := 5) <;> first | with_unfolding_all rfl | skip)

theorem startRecord {allowed : Nat} {s0 s : State} (h : Keeps allowed s0 s) (r : Record)
    (hm : sub 8197 allowed := by exact sub_trans (by assumption) (by decide)) :
    Keeps allowed s0 (State.startRecord s r) := by
  unfold State.startRecord
  with_reducible repeat' first
    | (intro _) | assumption | exact sub_trans hm (by decide) | apply Keeps.takeSeq | apply Keeps.put | apply Keeps.bump
    | refine Keeps.takeSeq_eq ?_ (e := by assumption) | apply Keeps.ite | refine Keeps.foldl ?_ ?_ _ | split | dsimp only
    | (apply Keeps.upd (k := 8197) <;> first | with_unfolding_all rfl | skip)

theorem startNextFrom {allowed : Nat} {s0 s : State} (h : Keeps allowed s0 s) (l : List Record)
    (hm : sub 8197 allowed := by exact sub_trans (by assumption) (by decide)) : Keeps allowed s0 (State.startNextFrom l s) := by
  induction l generalizing s with
  | nil => exact h.upd rfl rfl rfl
  | cons r l ih =>
    unfold State.startNextFrom
    dsimp only
    split
    · exact (h.upd rfl rfl rfl).startRecord _
    · exact ih ((h.upd rfl rfl rfl).startRecord _)

theorem startNext {allowed : Nat} {s0 s : State} (h : Keeps allowed s0 s)
    (hm : sub 8197 allowed := by exact sub_trans (by assumption) (by decide)) :
    Keeps allowed s0 (State.startNext s) := by
  unfold State.startNext
  with_reducible repeat' first
    | (intro _) | assumption | exact sub_trans hm (by decide) | apply Keeps.startRecord | apply Keeps.startNextFrom
    | apply Keeps.ite | refine Keeps.foldl ?_ ?_ _ | split | dsimp only
    | (apply Keeps.upd (k := 8197) <;> first | with_unfolding_all rfl | skip)

theorem queueCopy {allowed : Nat} {s0 s : State} (h : Keeps allowed s0 s) (r : Record)
    (hm : sub 5 allowed := by exact sub_trans (by assumption) (by decide)) :
    Keeps allowed s0 (State.queueCopy s r) := by
  unfold State.queueCopy
  with_reducible repeat' first
    | (intro _) | assumption | exact sub_trans hm (by decide) | apply Keeps.put | apply Keeps.bump | apply Keeps.raise
    | apply Keeps.ite | refine Keeps.foldl ?_ ?_ _ | split | dsimp only
    | (apply Keeps.upd (k := 5) <;> first | with_unfolding_all rfl | skip)

theorem routeNotify {allowed : Nat} {s0 s : State} (h : Keeps allowed s0 s) (r : Nat)
    (hm : sub 1441805 allowed := by exact sub_trans (by assumption) (by decide)) :
    Keeps allowed s0 (State.routeNotify s r) := by
  unfold State.routeNotify
  with_reducible repeat' first
    | (intro _) | assumption | exact sub_trans hm (by decide) | apply Keeps.klInterrupt | apply Keeps.msix | apply Keeps.ite
    | refine Keeps.foldl ?_ ?_ _ | split | dsimp only
    | (apply Keeps.upd (k := 1441805) <;> first | with_unfolding_all rfl | skip)

theorem routeOne {allowed : Nat} {s0 s : State} (h : Keeps allowed s0 s) (x : Record) (r : Nat)
    (hm : sub 1441805 allowed := by exact sub_trans (by assumption) (by decide)) :
    Keeps allowed s0 (State.routeOne x s r) := by
  unfold State.routeOne
  with_reducible repeat' first
    | (intro _) | assumption | exact sub_trans hm (by decide) | apply Keeps.routeNotify | apply Keeps.ite
    | refine Keeps.foldl ?_ ?_ _ | split | dsimp only
    | (apply Keeps.upd (k := 1441805) <;> first | with_unfolding_all rfl | skip)

theorem cxlLog {allowed : Nat} {s0 s : State} (h : Keeps allowed s0 s) (e : Event) (x : Nat × Option Nat)
    (hm : sub 8 allowed := by exact sub_trans (by assumption) (by decide)) :
    Keeps allowed s0 (State.cxlLog e s x) := by
  unfold State.cxlLog
  with_reducible repeat' first
    | (intro _) | assumption | exact sub_trans hm (by decide) | apply Keeps.ite | refine Keeps.foldl ?_ ?_ _ | split
    | dsimp only | (apply Keeps.upd (k := 8) <;> first | with_unfolding_all rfl | skip)

theorem cxlCopy {allowed : Nat} {s0 s : State} (h : Keeps allowed s0 s) (e : Event)
    (hm : sub 8 allowed := by exact sub_trans (by assumption) (by decide)) :
    Keeps allowed s0 (State.cxlCopy s e) := by
  unfold State.cxlCopy
  with_reducible repeat' first
    | (intro _) | assumption | exact sub_trans hm (by decide) | apply Keeps.cxlLog | apply Keeps.ite
    | refine Keeps.foldl ?_ ?_ _ | split | dsimp only | (apply Keeps.upd (k := 8) <;> first | with_unfolding_all rfl | skip)

theorem finishRecord {allowed : Nat} {s0 s : State} (h : Keeps allowed s0 s) (x : Record)
    (hm : sub 1441805 allowed := by exact sub_trans (by assumption) (by decide)) :
    Keeps allowed s0 (State.finishRecord s x) := by
  unfold State.finishRecord
  with_reducible repeat' first
    | (intro _) | assumption | exact sub_trans hm (by decide) | apply Keeps.queueCopy | apply Keeps.cxlCopy | apply Keeps.set
    | apply Keeps.routeOne | apply Keeps.ite | refine Keeps.foldl ?_ ?_ _ | split | dsimp only
    | (apply Keeps.upd (k := 1441805) <;> first | with_unfolding_all rfl | skip)

theorem selectRecord {allowed : Nat} {s0 s : State} (h : Keeps allowed s0 s) (log : Bool) (seq : Nat)
    (hm : sub 5 allowed := by exact sub_trans (by assumption) (by decide)) :
    Keeps allowed s0 (State.selectRecord s log seq) := by
  unfold State.selectRecord
  with_reducible repeat' first
    | (intro _) | assumption | exact sub_trans hm (by decide) | apply Keeps.put | apply Keeps.ite | refine Keeps.foldl ?_ ?_ _
    | split | dsimp only | (apply Keeps.upd (k := 5) <;> first | with_unfolding_all rfl | skip)

theorem runEventIntake {allowed : Nat} {s0 s : State} (h : Keeps allowed s0 s)
    (hm : sub 8197 allowed := by exact sub_trans (by assumption) (by decide)) :
    KeepsOut allowed s0 (execEventIntake s) := by
  unfold execEventIntake
  refine Keeps.next ?_
  with_reducible repeat' first
    | (intro _) | assumption | exact sub_trans hm (by decide) | apply Keeps.repeatYoungest | apply Keeps.startNext
    | apply Keeps.dropEvent | apply Keeps.ite | refine Keeps.foldl ?_ ?_ _ | split | dsimp only
    | (apply Keeps.upd (k := 8197) <;> first | with_unfolding_all rfl | skip)

theorem runEventRecordWrite {allowed : Nat} {s0 s : State} (h : Keeps allowed s0 s)
    (hm : sub 1449997 allowed := by exact sub_trans (by assumption) (by decide)) :
    KeepsOut allowed s0 (execEventRecordWrite s) := by
  unfold execEventRecordWrite
  refine Keeps.next ?_
  with_reducible repeat' first
    | (intro _) | assumption | exact sub_trans hm (by decide) | apply Keeps.startNext | apply Keeps.finishRecord
    | apply Keeps.ite | refine Keeps.foldl ?_ ?_ _ | split | dsimp only
    | (apply Keeps.upd (k := 1449997) <;> first | with_unfolding_all rfl | skip)

theorem runRouteHoldExpiry {allowed : Nat} {s0 s : State} (h : Keeps allowed s0 s) (route : Nat)
    (hm : sub 1441805 allowed := by exact sub_trans (by assumption) (by decide)) :
    KeepsOut allowed s0 (execRouteHoldExpiry route s) := by
  unfold execRouteHoldExpiry
  refine Keeps.next ?_
  with_reducible repeat' first
    | (intro _) | assumption | exact sub_trans hm (by decide) | apply Keeps.routeNotify | apply Keeps.ite
    | refine Keeps.foldl ?_ ?_ _ | split | dsimp only
    | (apply Keeps.upd (k := 1441805) <;> first | with_unfolding_all rfl | skip)

theorem runPersistentCopyWrite {allowed : Nat} {s0 s : State} (h : Keeps allowed s0 s)
    (hm : sub 5 allowed := by exact sub_trans (by assumption) (by decide)) :
    KeepsOut allowed s0 (execPersistentCopyWrite s) := by
  unfold execPersistentCopyWrite
  refine Keeps.next ?_
  with_reducible repeat' first
    | (intro _) | assumption | exact sub_trans hm (by decide) | apply Keeps.set | apply Keeps.ite | refine Keeps.foldl ?_ ?_ _
    | split | dsimp only | (apply Keeps.upd (k := 5) <;> first | with_unfolding_all rfl | skip)

theorem runRepeatRewrite {allowed : Nat} {s0 s : State} (h : Keeps allowed s0 s) (seq : Nat)
    (hm : sub 4 allowed := by exact sub_trans (by assumption) (by decide)) :
    KeepsOut allowed s0 (execRepeatRewrite seq s) := by
  unfold execRepeatRewrite
  refine Keeps.next ?_
  with_reducible repeat' first
    | (intro _) | assumption | exact sub_trans hm (by decide) | apply Keeps.ite | refine Keeps.foldl ?_ ?_ _ | split
    | dsimp only | (apply Keeps.upd (k := 4) <;> first | with_unfolding_all rfl | skip)

theorem runEvrCursorWrite {allowed : Nat} {s0 s : State} (h : Keeps allowed s0 s) (value : BitVec 64)
    (hm : sub 5 allowed := by exact sub_trans (by assumption) (by decide)) :
    KeepsOut allowed s0 (execEvrCursorWrite value s) := by
  unfold execEvrCursorWrite
  refine Keeps.next ?_
  with_reducible repeat' first
    | (intro _) | assumption | exact sub_trans hm (by decide) | apply Keeps.set | apply Keeps.selectRecord | apply Keeps.ite
    | refine Keeps.foldl ?_ ?_ _ | split | dsimp only | (apply Keeps.upd (k := 5) <;> first | with_unfolding_all rfl | skip)

theorem runNext {allowed : Nat} {s0 s : State} (h : Keeps allowed s0 s)
    (hm : sub 5 allowed := by exact sub_trans (by assumption) (by decide)) :
    KeepsOut allowed s0 (execNext s) := by
  unfold execNext
  refine Keeps.next ?_
  with_reducible repeat' first
    | (intro _) | assumption | exact sub_trans hm (by decide) | apply Keeps.selectRecord | apply Keeps.set | apply Keeps.ite
    | refine Keeps.foldl ?_ ?_ _ | split | dsimp only | (apply Keeps.upd (k := 5) <;> first | with_unfolding_all rfl | skip)

theorem clearedRecord {allowed : Nat} {s0 s : State} (h : Keeps allowed s0 s) (log : Nat) (n : Nat)
    (hm : sub 1449997 allowed := by exact sub_trans (by assumption) (by decide)) :
    Keeps allowed s0 (State.clearedRecord s log n) := by
  unfold State.clearedRecord
  with_reducible repeat' first
    | (intro _) | assumption | exact sub_trans hm (by decide) | apply Keeps.takeSeq | apply Keeps.finishRecord | apply Keeps.set
    | refine Keeps.takeSeq_eq ?_ (e := by assumption) | apply Keeps.ite | refine Keeps.foldl ?_ ?_ _ | split | dsimp only
    | (apply Keeps.upd (k := 1449997) <;> first | with_unfolding_all rfl | skip)

theorem runClearram {allowed : Nat} {s0 s : State} (h : Keeps allowed s0 s)
    (hm : sub 1449997 allowed := by exact sub_trans (by assumption) (by decide)) :
    KeepsOut allowed s0 (execClearram s) := by
  unfold execClearram
  refine Keeps.next ?_
  with_reducible repeat' first
    | (intro _) | assumption | exact sub_trans hm (by decide) | apply Keeps.clearedRecord | apply Keeps.ite
    | refine Keeps.foldl ?_ ?_ _ | split | dsimp only
    | (apply Keeps.upd (k := 1449997) <;> first | with_unfolding_all rfl | skip)

theorem runClearpersist {allowed : Nat} {s0 s : State} (h : Keeps allowed s0 s)
    (hm : sub 1449997 allowed := by exact sub_trans (by assumption) (by decide)) :
    KeepsOut allowed s0 (execClearpersist s) := by
  unfold execClearpersist
  refine Keeps.next ?_
  with_reducible repeat' first
    | (intro _) | assumption | exact sub_trans hm (by decide) | apply Keeps.clearedRecord | apply Keeps.ite
    | refine Keeps.foldl ?_ ?_ _ | split | dsimp only
    | (apply Keeps.upd (k := 1449997) <;> first | with_unfolding_all rfl | skip)

theorem runCounterWrap {allowed : Nat} {s0 s : State} (h : Keeps allowed s0 s) (counter : Nat)
    (hm : sub 4 allowed := by exact sub_trans (by assumption) (by decide)) :
    KeepsOut allowed s0 (execCounterWrap counter s) := by
  unfold execCounterWrap
  refine Keeps.next ?_
  with_reducible repeat' first
    | (intro _) | assumption | exact sub_trans hm (by decide) | apply Keeps.wrapCounter | apply Keeps.ite
    | refine Keeps.foldl ?_ ?_ _ | split | dsimp only | (apply Keeps.upd (k := 4) <;> first | with_unfolding_all rfl | skip)

theorem runPmcCntWrite {allowed : Nat} {s0 s : State} (h : Keeps allowed s0 s) (counter : Nat) (value : BitVec 64)
    (hm : sub 4 allowed := by exact sub_trans (by assumption) (by decide)) :
    KeepsOut allowed s0 (execPmcCntWrite counter value s) := by
  unfold execPmcCntWrite
  refine Keeps.next ?_
  with_reducible repeat' first
    | (intro _) | assumption | exact sub_trans hm (by decide) | apply Keeps.setCounter | apply Keeps.ite
    | refine Keeps.foldl ?_ ?_ _ | split | dsimp only | (apply Keeps.upd (k := 4) <;> first | with_unfolding_all rfl | skip)

theorem runPmcFreeze {allowed : Nat} {s0 s : State} (h : Keeps allowed s0 s) (groups : BitVec 64)
    (hm : sub 1 allowed := by exact sub_trans (by assumption) (by decide)) :
    KeepsOut allowed s0 (execPmcFreeze groups s) := by
  unfold execPmcFreeze
  refine Keeps.next ?_
  with_reducible repeat' first
    | (intro _) | assumption | exact sub_trans hm (by decide) | apply Keeps.setReg | apply Keeps.ite
    | refine Keeps.foldl ?_ ?_ _ | split | dsimp only | (apply Keeps.upd (k := 1) <;> first | with_unfolding_all rfl | skip)

theorem runPmcThaw {allowed : Nat} {s0 s : State} (h : Keeps allowed s0 s) (groups : BitVec 64)
    (hm : sub 5 allowed := by exact sub_trans (by assumption) (by decide)) :
    KeepsOut allowed s0 (execPmcThaw groups s) := by
  unfold execPmcThaw
  refine Keeps.next ?_
  with_reducible repeat' first
    | (intro _) | assumption | exact sub_trans hm (by decide) | apply Keeps.setReg | apply Keeps.ite
    | refine Keeps.foldl ?_ ?_ _ | split | dsimp only | (apply Keeps.upd (k := 5) <;> first | with_unfolding_all rfl | skip)

theorem runBwWindowOpen {allowed : Nat} {s0 s : State} (h : Keeps allowed s0 s) (index : Nat) (value : BitVec 32)
    (hm : sub 5 allowed := by exact sub_trans (by assumption) (by decide)) :
    KeepsOut allowed s0 (execBwWindowOpen index value s) := by
  unfold execBwWindowOpen
  refine Keeps.next ?_
  with_reducible repeat' first
    | (intro _) | assumption | exact sub_trans hm (by decide) | apply Keeps.set | apply Keeps.put | apply Keeps.openBw
    | apply Keeps.ite | refine Keeps.foldl ?_ ?_ _ | split | dsimp only
    | (apply Keeps.upd (k := 5) <;> first | with_unfolding_all rfl | skip)

theorem runBwWindowClose {allowed : Nat} {s0 s : State} (h : Keeps allowed s0 s) (index : Nat)
    (hm : sub 5 allowed := by exact sub_trans (by assumption) (by decide)) :
    KeepsOut allowed s0 (execBwWindowClose index s) := by
  unfold execBwWindowClose
  refine Keeps.next ?_
  with_reducible repeat' first
    | (intro _) | assumption | exact sub_trans hm (by decide) | apply Keeps.put | apply Keeps.raise | apply Keeps.ite
    | refine Keeps.foldl ?_ ?_ _ | split | dsimp only | (apply Keeps.upd (k := 5) <;> first | with_unfolding_all rfl | skip)

theorem runSampleTake {allowed : Nat} {s0 s : State} (h : Keeps allowed s0 s) (counter : Nat) (pc : Nat) (dataAddr : Nat) (latencyNs : Nat) (addrValid : Bool) (latencyValid : Bool)
    (hm : sub 5 allowed := by exact sub_trans (by assumption) (by decide)) :
    KeepsOut allowed s0 (execSampleTake counter pc dataAddr latencyNs addrValid latencyValid s) := by
  unfold execSampleTake
  refine Keeps.next ?_
  with_reducible repeat' first
    | (intro _) | assumption | exact sub_trans hm (by decide) | apply Keeps.setCounter | apply Keeps.bump | apply Keeps.raise
    | apply Keeps.ite | refine Keeps.foldl ?_ ?_ _ | split | dsimp only
    | (apply Keeps.upd (k := 5) <;> first | with_unfolding_all rfl | skip)

theorem storeSample {allowed : Nat} {s0 s : State} (h : Keeps allowed s0 s) (x : Sample) (n : Nat)
    (hm : sub 1064961 allowed := by exact sub_trans (by assumption) (by decide)) :
    Keeps allowed s0 (State.storeSample s x n) := by
  unfold State.storeSample
  with_reducible repeat' first
    | (intro _) | assumption | exact sub_trans hm (by decide) | apply Keeps.set | apply Keeps.storeOut | apply Keeps.ite
    | refine Keeps.foldl ?_ ?_ _ | split | dsimp only
    | (apply Keeps.upd (k := 1064961) <;> first | with_unfolding_all rfl | skip)

theorem runSampleArrival {allowed : Nat} {s0 s : State} (h : Keeps allowed s0 s) (cluster : Nat)
    (hm : sub 1064965 allowed := by exact sub_trans (by assumption) (by decide)) :
    KeepsOut allowed s0 (execSampleArrival cluster s) := by
  unfold execSampleArrival
  refine Keeps.next ?_
  with_reducible repeat' first
    | (intro _) | assumption | exact sub_trans hm (by decide) | apply Keeps.raise | apply Keeps.put | apply Keeps.storeSample
    | apply Keeps.ite | refine Keeps.foldl ?_ ?_ _ | split | dsimp only
    | (apply Keeps.upd (k := 1064965) <;> first | with_unfolding_all rfl | skip)

theorem runPmcSampleEnable {allowed : Nat} {s0 s : State} (h : Keeps allowed s0 s) (value : BitVec 32)
    (hm : sub 1 allowed := by exact sub_trans (by assumption) (by decide)) :
    KeepsOut allowed s0 (execPmcSampleEnable value s) := by
  unfold execPmcSampleEnable
  refine Keeps.next ?_
  with_reducible repeat' first
    | (intro _) | assumption | exact sub_trans hm (by decide) | apply Keeps.set | apply Keeps.put | apply Keeps.ite
    | refine Keeps.foldl ?_ ?_ _ | split | dsimp only | (apply Keeps.upd (k := 1) <;> first | with_unfolding_all rfl | skip)

theorem runPmcSampleRdWrite {allowed : Nat} {s0 s : State} (h : Keeps allowed s0 s) (value : BitVec 64)
    (hm : sub 1 allowed := by exact sub_trans (by assumption) (by decide)) :
    KeepsOut allowed s0 (execPmcSampleRdWrite value s) := by
  unfold execPmcSampleRdWrite
  refine Keeps.next ?_
  with_reducible repeat' first
    | (intro _) | assumption | exact sub_trans hm (by decide) | apply Keeps.set | apply Keeps.ite | refine Keeps.foldl ?_ ?_ _
    | split | dsimp only | (apply Keeps.upd (k := 1) <;> first | with_unfolding_all rfl | skip)

theorem cWin {allowed : Nat} {s0 s : State} (h : Keeps allowed s0 s) (code : Nat) (link : Nat) (n : Nat)
    (hm : sub 4 allowed := by exact sub_trans (by assumption) (by decide)) :
    Keeps allowed s0 (State.cWin s code link n) := by
  unfold State.cWin
  with_reducible repeat' first
    | (intro _) | assumption | exact sub_trans hm (by decide) | apply Keeps.count | apply Keeps.ite | refine Keeps.foldl ?_ ?_ _
    | split | dsimp only | (apply Keeps.upd (k := 4) <;> first | with_unfolding_all rfl | skip)

theorem cLc {allowed : Nat} {s0 s : State} (h : Keeps allowed s0 s) (code : Nat) (n : Nat)
    (hm : sub 4 allowed := by exact sub_trans (by assumption) (by decide)) :
    Keeps allowed s0 (State.cLc s code n) := by
  unfold State.cLc
  with_reducible repeat' first
    | (intro _) | assumption | exact sub_trans hm (by decide) | apply Keeps.count | apply Keeps.ite | refine Keeps.foldl ?_ ?_ _
    | split | dsimp only | (apply Keeps.upd (k := 4) <;> first | with_unfolding_all rfl | skip)

theorem cPer {allowed : Nat} {s0 s : State} (h : Keeps allowed s0 s) (code : Nat) (n : Nat)
    (hm : sub 4 allowed := by exact sub_trans (by assumption) (by decide)) :
    Keeps allowed s0 (State.cPer s code n) := by
  unfold State.cPer
  with_reducible repeat' first
    | (intro _) | assumption | exact sub_trans hm (by decide) | apply Keeps.count | apply Keeps.ite | refine Keeps.foldl ?_ ?_ _
    | split | dsimp only | (apply Keeps.upd (k := 4) <;> first | with_unfolding_all rfl | skip)

theorem cTop {allowed : Nat} {s0 s : State} (h : Keeps allowed s0 s) (code : Nat) (n : Nat)
    (hm : sub 4 allowed := by exact sub_trans (by assumption) (by decide)) :
    Keeps allowed s0 (State.cTop s code n) := by
  unfold State.cTop
  with_reducible repeat' first
    | (intro _) | assumption | exact sub_trans hm (by decide) | apply Keeps.count | apply Keeps.ite | refine Keeps.foldl ?_ ?_ _
    | split | dsimp only | (apply Keeps.upd (k := 4) <;> first | with_unfolding_all rfl | skip)

theorem cRing {allowed : Nat} {s0 s : State} (h : Keeps allowed s0 s) (code : Nat) (n : Nat)
    (hm : sub 4 allowed := by exact sub_trans (by assumption) (by decide)) :
    Keeps allowed s0 (State.cRing s code n) := by
  unfold State.cRing
  with_reducible repeat' first
    | (intro _) | assumption | exact sub_trans hm (by decide) | apply Keeps.count | apply Keeps.ite | refine Keeps.foldl ?_ ?_ _
    | split | dsimp only | (apply Keeps.upd (k := 4) <;> first | with_unfolding_all rfl | skip)

theorem cNet {allowed : Nat} {s0 s : State} (h : Keeps allowed s0 s) (p : Nat) (code : Nat) (n : Nat)
    (hm : sub 4 allowed := by exact sub_trans (by assumption) (by decide)) :
    Keeps allowed s0 (State.cNet s p code n) := by
  unfold State.cNet
  with_reducible repeat' first
    | (intro _) | assumption | exact sub_trans hm (by decide) | apply Keeps.count | apply Keeps.ite | refine Keeps.foldl ?_ ?_ _
    | split | dsimp only | (apply Keeps.upd (k := 4) <;> first | with_unfolding_all rfl | skip)

theorem cCip {allowed : Nat} {s0 s : State} (h : Keeps allowed s0 s) (code : Nat) (n : Nat)
    (hm : sub 4 allowed := by exact sub_trans (by assumption) (by decide)) :
    Keeps allowed s0 (State.cCip s code n) := by
  unfold State.cCip
  with_reducible repeat' first
    | (intro _) | assumption | exact sub_trans hm (by decide) | apply Keeps.count | apply Keeps.ite | refine Keeps.foldl ?_ ?_ _
    | split | dsimp only | (apply Keeps.upd (k := 4) <;> first | with_unfolding_all rfl | skip)

theorem cEsp {allowed : Nat} {s0 s : State} (h : Keeps allowed s0 s) (code : Nat) (router : Nat) (n : Nat)
    (hm : sub 4 allowed := by exact sub_trans (by assumption) (by decide)) :
    Keeps allowed s0 (State.cEsp s code router n) := by
  unfold State.cEsp
  with_reducible repeat' first
    | (intro _) | assumption | exact sub_trans hm (by decide) | apply Keeps.count | apply Keeps.ite | refine Keeps.foldl ?_ ?_ _
    | split | dsimp only | (apply Keeps.upd (k := 4) <;> first | with_unfolding_all rfl | skip)

theorem cHbm {allowed : Nat} {s0 s : State} (h : Keeps allowed s0 s) (st : Nat) (code : Nat) (n : Nat)
    (hm : sub 4 allowed := by exact sub_trans (by assumption) (by decide)) :
    Keeps allowed s0 (State.cHbm s st code n) := by
  unfold State.cHbm
  with_reducible repeat' first
    | (intro _) | assumption | exact sub_trans hm (by decide) | apply Keeps.count | apply Keeps.ite | refine Keeps.foldl ?_ ?_ _
    | split | dsimp only | (apply Keeps.upd (k := 4) <;> first | with_unfolding_all rfl | skip)

theorem cFt {allowed : Nat} {s0 s : State} (h : Keeps allowed s0 s) (code : Nat) (stream : Nat) (n : Nat)
    (hm : sub 4 allowed := by exact sub_trans (by assumption) (by decide)) :
    Keeps allowed s0 (State.cFt s code stream n) := by
  unfold State.cFt
  with_reducible repeat' first
    | (intro _) | assumption | exact sub_trans hm (by decide) | apply Keeps.count | apply Keeps.ite | refine Keeps.foldl ?_ ?_ _
    | split | dsimp only | (apply Keeps.upd (k := 4) <;> first | with_unfolding_all rfl | skip)

theorem cMch {allowed : Nat} {s0 s : State} (h : Keeps allowed s0 s) (c : Nat) (code : Nat) (n : Nat)
    (hm : sub 4 allowed := by exact sub_trans (by assumption) (by decide)) :
    Keeps allowed s0 (State.cMch s c code n) := by
  unfold State.cMch
  with_reducible repeat' first
    | (intro _) | assumption | exact sub_trans hm (by decide) | apply Keeps.count | apply Keeps.ite | refine Keeps.foldl ?_ ?_ _
    | split | dsimp only | (apply Keeps.upd (k := 4) <;> first | with_unfolding_all rfl | skip)

theorem cFch {allowed : Nat} {s0 s : State} (h : Keeps allowed s0 s) (c : Nat) (code : Nat) (n : Nat)
    (hm : sub 4 allowed := by exact sub_trans (by assumption) (by decide)) :
    Keeps allowed s0 (State.cFch s c code n) := by
  unfold State.cFch
  with_reducible repeat' first
    | (intro _) | assumption | exact sub_trans hm (by decide) | apply Keeps.count | apply Keeps.ite | refine Keeps.foldl ?_ ?_ _
    | split | dsimp only | (apply Keeps.upd (k := 4) <;> first | with_unfolding_all rfl | skip)

theorem cFtl {allowed : Nat} {s0 s : State} (h : Keeps allowed s0 s) (d : Nat) (code : Nat) (n : Nat)
    (hm : sub 4 allowed := by exact sub_trans (by assumption) (by decide)) :
    Keeps allowed s0 (State.cFtl s d code n) := by
  unfold State.cFtl
  with_reducible repeat' first
    | (intro _) | assumption | exact sub_trans hm (by decide) | apply Keeps.count | apply Keeps.ite | refine Keeps.foldl ?_ ?_ _
    | split | dsimp only | (apply Keeps.upd (k := 4) <;> first | with_unfolding_all rfl | skip)

theorem cHz {allowed : Nat} {s0 s : State} (h : Keeps allowed s0 s) (a1 : Nat) (code : Nat) (n : Nat)
    (hm : sub 4 allowed := by exact sub_trans (by assumption) (by decide)) :
    Keeps allowed s0 (State.cHz s a1 code n) := by
  unfold State.cHz
  with_reducible repeat' first
    | (intro _) | assumption | exact sub_trans hm (by decide) | apply Keeps.count | apply Keeps.ite | refine Keeps.foldl ?_ ?_ _
    | split | dsimp only | (apply Keeps.upd (k := 4) <;> first | with_unfolding_all rfl | skip)

theorem count48 {allowed : Nat} {s0 s : State} (h : Keeps allowed s0 s) (f : Fld) (off : Nat) (n : Nat)
    (hm : sub 5 allowed := by exact sub_trans (by assumption) (by decide)) :
    Keeps allowed s0 (State.count48 s f off n) := by
  unfold State.count48
  with_reducible repeat' first
    | (intro _) | assumption | exact sub_trans hm (by decide) | apply Keeps.set | apply Keeps.raise | apply Keeps.ite
    | refine Keeps.foldl ?_ ?_ _ | split | dsimp only | (apply Keeps.upd (k := 5) <;> first | with_unfolding_all rfl | skip)

theorem xtsLine {allowed : Nat} {s0 s : State} (h : Keeps allowed s0 s) (dom : Nat) (n : Nat)
    (hm : sub 5 allowed := by exact sub_trans (by assumption) (by decide)) :
    Keeps allowed s0 (State.xtsLine s dom n) := by
  unfold State.xtsLine
  with_reducible repeat' first
    | (intro _) | assumption | exact sub_trans hm (by decide) | apply Keeps.count48 | apply Keeps.cCip | apply Keeps.ite
    | refine Keeps.foldl ?_ ?_ _ | split | dsimp only | (apply Keeps.upd (k := 5) <;> first | with_unfolding_all rfl | skip)

theorem gcmText64 {allowed : Nat} {s0 s : State} (h : Keeps allowed s0 s) (dom : Nat) (n : Nat)
    (hm : sub 5 allowed := by exact sub_trans (by assumption) (by decide)) :
    Keeps allowed s0 (State.gcmText64 s dom n) := by
  unfold State.gcmText64
  with_reducible repeat' first
    | (intro _) | assumption | exact sub_trans hm (by decide) | apply Keeps.count48 | apply Keeps.cCip | apply Keeps.ite
    | refine Keeps.foldl ?_ ?_ _ | split | dsimp only | (apply Keeps.upd (k := 5) <;> first | with_unfolding_all rfl | skip)

theorem showKeys {allowed : Nat} {s0 s : State} (h : Keeps allowed s0 s) (dom : Nat)
    (hm : sub 1 allowed := by exact sub_trans (by assumption) (by decide)) :
    Keeps allowed s0 (State.showKeys s dom) := by
  unfold State.showKeys
  with_reducible repeat' first
    | (intro _) | assumption | exact sub_trans hm (by decide) | apply Keeps.put | apply Keeps.set | apply Keeps.ite
    | refine Keeps.foldl ?_ ?_ _ | split | dsimp only | (apply Keeps.upd (k := 1) <;> first | with_unfolding_all rfl | skip)

theorem loadKey {allowed : Nat} {s0 s : State} (h : Keeps allowed s0 s) (core : Nat) (dom : Nat) (pinned : Bool)
    (hm : sub 65541 allowed := by exact sub_trans (by assumption) (by decide)) :
    Keeps allowed s0 (State.loadKey s core dom pinned) := by
  unfold State.loadKey
  with_reducible repeat' first
    | (intro _) | assumption | exact sub_trans hm (by decide) | apply Keeps.showKeys | apply Keeps.cCip | apply Keeps.bump
    | apply Keeps.ite | refine Keeps.foldl ?_ ?_ _ | split | dsimp only
    | (apply Keeps.upd (k := 65541) <;> first | with_unfolding_all rfl | skip)

theorem pinKey {allowed : Nat} {s0 s : State} (h : Keeps allowed s0 s) (dom : Nat)
    (hm : sub 65541 allowed := by exact sub_trans (by assumption) (by decide)) :
    Keeps allowed s0 (State.pinKey s dom) := by
  unfold State.pinKey
  with_reducible repeat' first
    | (intro _) | assumption | exact sub_trans hm (by decide) | apply Keeps.showKeys | apply Keeps.loadKey | apply Keeps.ite
    | refine Keeps.foldl ?_ ?_ _ | split | dsimp only | (apply Keeps.upd (k := 65541) <;> first | with_unfolding_all rfl | skip)

theorem touchKey {allowed : Nat} {s0 s : State} (h : Keeps allowed s0 s) (dom : Nat)
    (hm : sub 65541 allowed := by exact sub_trans (by assumption) (by decide)) :
    Keeps allowed s0 (State.touchKey s dom) := by
  unfold State.touchKey
  with_reducible repeat' first
    | (intro _) | assumption | exact sub_trans hm (by decide) | apply Keeps.showKeys | apply Keeps.pinKey | apply Keeps.ite
    | refine Keeps.foldl ?_ ?_ _ | split | dsimp only | (apply Keeps.upd (k := 65541) <;> first | with_unfolding_all rfl | skip)

theorem showMeta {allowed : Nat} {s0 s : State} (h : Keeps allowed s0 s)
    (hm : sub 1 allowed := by exact sub_trans (by assumption) (by decide)) :
    Keeps allowed s0 (State.showMeta s) := by
  unfold State.showMeta
  with_reducible repeat' first
    | (intro _) | assumption | exact sub_trans hm (by decide) | apply Keeps.set | apply Keeps.put | apply Keeps.ite
    | refine Keeps.foldl ?_ ?_ _ | split | dsimp only | (apply Keeps.upd (k := 1) <;> first | with_unfolding_all rfl | skip)

theorem journal {allowed : Nat} {s0 s : State} (h : Keeps allowed s0 s) (b : JBody)
    (hm : sub 2437 allowed := by exact sub_trans (by assumption) (by decide)) :
    Keeps allowed s0 (State.journal s b) := by
  unfold State.journal
  with_reducible repeat' first
    | (intro _) | assumption | exact sub_trans hm (by decide) | apply Keeps.cPer | apply Keeps.showMeta | apply Keeps.set
    | apply Keeps.ite | refine Keeps.foldl ?_ ?_ _ | split | dsimp only
    | (apply Keeps.upd (k := 2437) <;> first | with_unfolding_all rfl | skip)

theorem setPlot {allowed : Nat} {s0 s : State} (h : Keeps allowed s0 s) (p : Plot)
    (hm : sub 2437 allowed := by exact sub_trans (by assumption) (by decide)) :
    Keeps allowed s0 (State.setPlot s p) := by
  unfold State.setPlot
  with_reducible repeat' first
    | (intro _) | assumption | exact sub_trans hm (by decide) | apply Keeps.journal | apply Keeps.ite
    | refine Keeps.foldl ?_ ?_ _ | split | dsimp only | (apply Keeps.upd (k := 2437) <;> first | with_unfolding_all rfl | skip)

theorem setGroup {allowed : Nat} {s0 s : State} (h : Keeps allowed s0 s) (g : Nat) (v : Group)
    (hm : sub 2437 allowed := by exact sub_trans (by assumption) (by decide)) :
    Keeps allowed s0 (State.setGroup s g v) := by
  unfold State.setGroup
  with_reducible repeat' first
    | (intro _) | assumption | exact sub_trans hm (by decide) | apply Keeps.journal | apply Keeps.ite
    | refine Keeps.foldl ?_ ?_ _ | split | dsimp only | (apply Keeps.upd (k := 2437) <;> first | with_unfolding_all rfl | skip)

theorem newDecision {allowed : Nat} {s0 s : State} (h : Keeps allowed s0 s)
    (hm : sub 2437 allowed := by exact sub_trans (by assumption) (by decide)) :
    Keeps allowed s0 (State.newDecision s) := by
  unfold State.newDecision
  with_reducible repeat' first
    | (intro _) | assumption | exact sub_trans hm (by decide) | apply Keeps.journal | apply Keeps.ite
    | refine Keeps.foldl ?_ ?_ _ | split | dsimp only | (apply Keeps.upd (k := 2437) <;> first | with_unfolding_all rfl | skip)

theorem setWritten {allowed : Nat} {s0 s : State} (h : Keeps allowed s0 s) (page : Nat) (v : Bool)
    (hm : sub 2437 allowed := by exact sub_trans (by assumption) (by decide)) :
    Keeps allowed s0 (State.setWritten s page v) := by
  unfold State.setWritten
  with_reducible repeat' first
    | (intro _) | assumption | exact sub_trans hm (by decide) | apply Keeps.journal | apply Keeps.ite
    | refine Keeps.foldl ?_ ?_ _ | split | dsimp only | (apply Keeps.upd (k := 2437) <;> first | with_unfolding_all rfl | skip)

theorem setReborn {allowed : Nat} {s0 s : State} (h : Keeps allowed s0 s) (page : Nat) (v : Bool)
    (hm : sub 2437 allowed := by exact sub_trans (by assumption) (by decide)) :
    Keeps allowed s0 (State.setReborn s page v) := by
  unfold State.setReborn
  with_reducible repeat' first
    | (intro _) | assumption | exact sub_trans hm (by decide) | apply Keeps.journal | apply Keeps.ite
    | refine Keeps.foldl ?_ ?_ _ | split | dsimp only | (apply Keeps.upd (k := 2437) <;> first | with_unfolding_all rfl | skip)

theorem takeSlot {allowed : Nat} {s0 s : State} (h : Keeps allowed s0 s) (u : LaunchUnit) (i : Nat) (action : Nat) (arg : Nat) (time : Nat) (dom : Nat) (dropLate : Bool)
    (hm : sub 1 allowed := by exact sub_trans (by assumption) (by decide)) :
    Keeps allowed s0 (State.takeSlot s u i action arg time dom dropLate) := by
  unfold State.takeSlot
  with_reducible repeat' first
    | (intro _) | assumption | exact sub_trans hm (by decide) | apply Keeps.setReg | apply Keeps.put | apply Keeps.set
    | apply Keeps.ite | refine Keeps.foldl ?_ ?_ _ | split | dsimp only
    | (apply Keeps.upd (k := 1) <;> first | with_unfolding_all rfl | skip)

theorem leaveSlot {allowed : Nat} {s0 s : State} (h : Keeps allowed s0 s) (u : LaunchUnit) (i : Nat) (state : Nat)
    (hm : sub 1 allowed := by exact sub_trans (by assumption) (by decide)) :
    Keeps allowed s0 (State.leaveSlot s u i state) := by
  unfold State.leaveSlot
  with_reducible repeat' first
    | (intro _) | assumption | exact sub_trans hm (by decide) | apply Keeps.put | apply Keeps.set | apply Keeps.ite
    | refine Keeps.foldl ?_ ?_ _ | split | dsimp only | (apply Keeps.upd (k := 1) <;> first | with_unfolding_all rfl | skip)

theorem armCut? {allowed : Nat} {s0 s : State} (h : Keeps allowed s0 s) {c : ArmedCut} {dropLate : Bool} {t0 : State} (e : (State.armCut? s c dropLate) = some t0)
    (hm : sub 2437 allowed := by exact sub_trans (by assumption) (by decide)) :
    Keeps allowed s0 t0 := by
  unfold State.armCut? at e
  try dsimp only at e
  repeat' split at e
  all_goals first | contradiction | (injection e with e; subst e)
  all_goals with_reducible repeat' first
    | (intro _) | assumption | exact sub_trans hm (by decide) | apply Keeps.takeSlot | apply Keeps.journal | apply Keeps.ite
    | refine Keeps.foldl ?_ ?_ _ | split | dsimp only | (apply Keeps.upd (k := 2437) <;> first | with_unfolding_all rfl | skip)

theorem setChan {allowed : Nat} {s0 s : State} (h : Keeps allowed s0 s) (c : Nat) (v : Chan)
    (hm : sub 64 allowed := by exact sub_trans (by assumption) (by decide)) :
    Keeps allowed s0 (State.setChan s c v) := by
  unfold State.setChan
  with_reducible repeat' first
    | (intro _) | assumption | exact sub_trans hm (by decide) | apply Keeps.ite | refine Keeps.foldl ?_ ?_ _ | split
    | dsimp only | (apply Keeps.upd (k := 64) <;> first | with_unfolding_all rfl | skip)

theorem storeSlot {allowed : Nat} {s0 s : State} (h : Keeps allowed s0 s) (c : CachedSlot)
    (hm : sub 64 allowed := by exact sub_trans (by assumption) (by decide)) :
    Keeps allowed s0 (State.storeSlot s c) := by
  unfold State.storeSlot
  with_reducible repeat' first
    | (intro _) | assumption | exact sub_trans hm (by decide) | apply Keeps.ite | refine Keeps.foldl ?_ ?_ _ | split
    | dsimp only | (apply Keeps.upd (k := 64) <;> first | with_unfolding_all rfl | skip)

theorem checkRoom {allowed : Nat} {s0 s : State} (h : Keeps allowed s0 s) (l : Nat)
    (hm : sub 64 allowed := by exact sub_trans (by assumption) (by decide)) :
    Keeps allowed s0 (State.checkRoom s l) := by
  unfold State.checkRoom
  with_reducible repeat' first
    | (intro _) | assumption | exact sub_trans hm (by decide) | apply Keeps.storeSlot | apply Keeps.ite
    | refine Keeps.foldl ?_ ?_ _ | split | dsimp only | (apply Keeps.upd (k := 64) <;> first | with_unfolding_all rfl | skip)

theorem setSlot {allowed : Nat} {s0 s : State} (h : Keeps allowed s0 s) (l : Nat) (v : CheckSlot)
    (hm : sub 64 allowed := by exact sub_trans (by assumption) (by decide)) :
    Keeps allowed s0 (State.setSlot s l v) := by
  unfold State.setSlot
  with_reducible repeat' first
    | (intro _) | assumption | exact sub_trans hm (by decide) | apply Keeps.checkRoom | apply Keeps.ite
    | refine Keeps.foldl ?_ ?_ _ | split | dsimp only | (apply Keeps.upd (k := 64) <;> first | with_unfolding_all rfl | skip)

theorem setTile {allowed : Nat} {s0 s : State} (h : Keeps allowed s0 s) (t : Nat) (v : Tile)
    (hm : sub 64 allowed := by exact sub_trans (by assumption) (by decide)) :
    Keeps allowed s0 (State.setTile s t v) := by
  unfold State.setTile
  with_reducible repeat' first
    | (intro _) | assumption | exact sub_trans hm (by decide) | apply Keeps.ite | refine Keeps.foldl ?_ ?_ _ | split
    | dsimp only | (apply Keeps.upd (k := 64) <;> first | with_unfolding_all rfl | skip)

theorem touchTile {allowed : Nat} {s0 s : State} (h : Keeps allowed s0 s) (l : Nat)
    (hm : sub 2501 allowed := by exact sub_trans (by assumption) (by decide)) :
    Keeps allowed s0 (State.touchTile s l) := by
  unfold State.touchTile
  with_reducible repeat' first
    | (intro _) | assumption | exact sub_trans hm (by decide) | apply Keeps.journal | apply Keeps.setTile | apply Keeps.ite
    | refine Keeps.foldl ?_ ?_ _ | split | dsimp only | (apply Keeps.upd (k := 2501) <;> first | with_unfolding_all rfl | skip)

theorem refill {allowed : Nat} {s0 s : State} (h : Keeps allowed s0 s)
    (hm : sub 64 allowed := by exact sub_trans (by assumption) (by decide)) :
    Keeps allowed s0 (State.refill s) := by
  unfold State.refill
  with_reducible repeat' first
    | (intro _) | assumption | exact sub_trans hm (by decide) | apply Keeps.ite | refine Keeps.foldl ?_ ?_ _ | split
    | dsimp only | (apply Keeps.upd (k := 64) <;> first | with_unfolding_all rfl | skip)

theorem takeTokens {allowed : Nat} {s0 s : State} (h : Keeps allowed s0 s) (n : Nat)
    (hm : sub 64 allowed := by exact sub_trans (by assumption) (by decide)) :
    Keeps allowed s0 (State.takeTokens s n) := by
  unfold State.takeTokens
  with_reducible repeat' first
    | (intro _) | assumption | exact sub_trans hm (by decide) | apply Keeps.refill | apply Keeps.ite
    | refine Keeps.foldl ?_ ?_ _ | split | dsimp only | (apply Keeps.upd (k := 64) <;> first | with_unfolding_all rfl | skip)

theorem putMedia {allowed : Nat} {s0 s : State} (h : Keeps allowed s0 s) (l : Nat) (x : LineData)
    (hm : sub 64 allowed := by exact sub_trans (by assumption) (by decide)) : Keeps allowed s0 (State.putMedia s l x) :=
  h.trans <| within hm ⟨rfl, rfl, rfl, Nat.le_refl _, List.prefix_rfl, id, fun x => by
    simp only [State.memWf, State.putMedia, Bool.and_eq_true] at x ⊢
    exact ⟨⟨Mem.wf_putLine _ _ _ x.1.1, x.1.2⟩, x.2⟩, by
    intro c; cases c <;> first | (intro h; exact absurd h (by decide)) | (intro _; rfl)⟩

theorem putMedia' {allowed : Nat} {s0 s : State} (h : Keeps allowed s0 s) {mt : MtState} (g : s.mt.media.wf = true → mt.media.wf = true)
    (hm : sub 64 allowed := by exact sub_trans (by assumption) (by decide)) :
    Keeps allowed s0 { s with mt := mt } :=
  h.trans <| within hm ⟨rfl, rfl, rfl, Nat.le_refl _, List.prefix_rfl, id, fun x => by
    simp only [State.memWf, Bool.and_eq_true] at x ⊢
    exact ⟨⟨g x.1.1, x.1.2⟩, x.2⟩, by
    intro c; cases c <;> first | (intro h; exact absurd h (by decide)) | (intro _; rfl)⟩

theorem loadLines {allowed : Nat} {s0 s : State} (h : Keeps allowed s0 s) (l : Nat) (x : List LineData)
    (hm : sub 2501 allowed := by exact sub_trans (by assumption) (by decide)) :
    Keeps allowed s0 (State.loadLines s l x) := by
  unfold State.loadLines
  with_reducible repeat' first
    | (intro _) | assumption | exact sub_trans hm (by decide) | apply Keeps.putMedia | apply Keeps.setSlot
    | apply Keeps.touchTile | apply Keeps.ite | refine Keeps.foldl ?_ ?_ _ | split | dsimp only
    | (apply Keeps.upd (k := 2501) <;> first | with_unfolding_all rfl | skip)

theorem writeRecord {allowed : Nat} {s0 s : State} (h : Keeps allowed s0 s) (l : Nat) (stamp : Nat) (temp : Nat) (unsynced : Bool) (rewritten : Bool)
    (hm : sub 64 allowed := by exact sub_trans (by assumption) (by decide)) :
    Keeps allowed s0 (State.writeRecord s l stamp temp unsynced rewritten) := by
  unfold State.writeRecord
  with_reducible repeat' first
    | (intro _) | assumption | exact sub_trans hm (by decide) | apply Keeps.setSlot | apply Keeps.ite
    | refine Keeps.foldl ?_ ?_ _ | split | dsimp only | (apply Keeps.upd (k := 64) <;> first | with_unfolding_all rfl | skip)

theorem setWin {allowed : Nat} {s0 s : State} (h : Keeps allowed s0 s) (w : WinState)
    (hm : sub 8 allowed := by exact sub_trans (by assumption) (by decide)) :
    Keeps allowed s0 (State.setWin s w) := by
  unfold State.setWin
  with_reducible repeat' first
    | (intro _) | assumption | exact sub_trans hm (by decide) | apply Keeps.ite | refine Keeps.foldl ?_ ?_ _ | split
    | dsimp only | (apply Keeps.upd (k := 8) <;> first | with_unfolding_all rfl | skip)

theorem listLost {allowed : Nat} {s0 s : State} (h : Keeps allowed s0 s) (line : Nat) (dom : Nat) (stamp : Nat)
    (hm : sub 2437 allowed := by exact sub_trans (by assumption) (by decide)) :
    Keeps allowed s0 (State.listLost s line dom stamp) := by
  unfold State.listLost
  with_reducible repeat' first
    | (intro _) | assumption | exact sub_trans hm (by decide) | apply Keeps.journal | apply Keeps.raiseAt | apply Keeps.ite
    | refine Keeps.foldl ?_ ?_ _ | split | dsimp only | (apply Keeps.upd (k := 2437) <;> first | with_unfolding_all rfl | skip)

theorem showCache {allowed : Nat} {s0 s : State} (h : Keeps allowed s0 s)
    (hm : sub 5 allowed := by exact sub_trans (by assumption) (by decide)) :
    Keeps allowed s0 (State.showCache s) := by
  unfold State.showCache
  with_reducible repeat' first
    | (intro _) | assumption | exact sub_trans hm (by decide) | apply Keeps.set | apply Keeps.put | apply Keeps.raise
    | apply Keeps.ite | refine Keeps.foldl ?_ ?_ _ | split | dsimp only
    | (apply Keeps.upd (k := 5) <;> first | with_unfolding_all rfl | skip)

theorem showQs {allowed : Nat} {s0 s : State} (h : Keeps allowed s0 s)
    (hm : sub 1 allowed := by exact sub_trans (by assumption) (by decide)) :
    Keeps allowed s0 (State.showQs s) := by
  unfold State.showQs
  with_reducible repeat' first
    | (intro _) | assumption | exact sub_trans hm (by decide) | apply Keeps.set | apply Keeps.put | apply Keeps.ite
    | refine Keeps.foldl ?_ ?_ _ | split | dsimp only | (apply Keeps.upd (k := 1) <;> first | with_unfolding_all rfl | skip)

theorem returnCredit {allowed : Nat} {s0 s : State} (h : Keeps allowed s0 s) (link : Nat)
    (hm : sub 1048585 allowed := by exact sub_trans (by assumption) (by decide)) :
    Keeps allowed s0 (State.returnCredit s link) := by
  unfold State.returnCredit
  with_reducible repeat' first
    | (intro _) | assumption | exact sub_trans hm (by decide) | apply Keeps.showQs | apply Keeps.send | apply Keeps.ite
    | refine Keeps.foldl ?_ ?_ _ | split | dsimp only
    | (apply Keeps.upd (k := 1048585) <;> first | with_unfolding_all rfl | skip)

theorem creditFreed {allowed : Nat} {s0 s : State} (h : Keeps allowed s0 s)
    (hm : sub 1048585 allowed := by exact sub_trans (by assumption) (by decide)) :
    Keeps allowed s0 (State.creditFreed s) := by
  unfold State.creditFreed
  with_reducible repeat' first
    | (intro _) | assumption | exact sub_trans hm (by decide) | apply Keeps.returnCredit | apply Keeps.showQs | apply Keeps.ite
    | refine Keeps.foldl ?_ ?_ _ | split | dsimp only
    | (apply Keeps.upd (k := 1048585) <;> first | with_unfolding_all rfl | skip)

theorem qsFree {allowed : Nat} {s0 s : State} (h : Keeps allowed s0 s) (line : Nat)
    (hm : sub 1048601 allowed := by exact sub_trans (by assumption) (by decide)) :
    Keeps allowed s0 (State.qsFree s line) := by
  unfold State.qsFree
  with_reducible repeat' first
    | (intro _) | assumption | exact sub_trans hm (by decide) | apply Keeps.creditFreed | apply Keeps.ite
    | refine Keeps.foldl ?_ ?_ _ | split | dsimp only
    | (apply Keeps.upd (k := 1048601) <;> first | with_unfolding_all rfl | skip)

theorem turnReadOnly {allowed : Nat} {s0 s : State} (h : Keeps allowed s0 s) (plot : Nat)
    (hm : sub 2549 allowed := by exact sub_trans (by assumption) (by decide)) :
    Keeps allowed s0 (State.turnReadOnly s plot) := by
  unfold State.turnReadOnly
  with_reducible repeat' first
    | (intro _) | assumption | exact sub_trans hm (by decide) | apply Keeps.setPlot | apply Keeps.raiseAt | apply Keeps.listLost
    | apply Keeps.showQs | apply Keeps.showCache | apply Keeps.ite | refine Keeps.foldl ?_ ?_ _ | split | dsimp only
    | (apply Keeps.upd (k := 2549) <;> first | with_unfolding_all rfl | skip)

theorem sfUpdate {allowed : Nat} {s0 s : State} (h : Keeps allowed s0 s) (line : Nat) (f : SfLine → SfLine)
    (hm : sub 8 allowed := by exact sub_trans (by assumption) (by decide)) :
    Keeps allowed s0 (State.sfUpdate s line f) := by
  unfold State.sfUpdate
  with_reducible repeat' first
    | (intro _) | assumption | exact sub_trans hm (by decide) | apply Keeps.ite | refine Keeps.foldl ?_ ?_ _ | split
    | dsimp only | (apply Keeps.upd (k := 8) <;> first | with_unfolding_all rfl | skip)

theorem sfDrop {allowed : Nat} {s0 s : State} (h : Keeps allowed s0 s) (line : Nat) (link : Nat)
    (hm : sub 8 allowed := by exact sub_trans (by assumption) (by decide)) :
    Keeps allowed s0 (State.sfDrop s line link) := by
  unfold State.sfDrop
  with_reducible repeat' first
    | (intro _) | assumption | exact sub_trans hm (by decide) | apply Keeps.sfUpdate | apply Keeps.ite
    | refine Keeps.foldl ?_ ?_ _ | split | dsimp only | (apply Keeps.upd (k := 8) <;> first | with_unfolding_all rfl | skip)

theorem sfRecord {allowed : Nat} {s0 s : State} (h : Keeps allowed s0 s) (line : Nat) (link : Nat)
    (hm : sub 8 allowed := by exact sub_trans (by assumption) (by decide)) :
    Keeps allowed s0 (State.sfRecord s line link) := by
  unfold State.sfRecord
  with_reducible repeat' first
    | (intro _) | assumption | exact sub_trans hm (by decide) | apply Keeps.ite | refine Keeps.foldl ?_ ?_ _ | split
    | dsimp only | (apply Keeps.upd (k := 8) <;> first | with_unfolding_all rfl | skip)

theorem sfEvict {allowed : Nat} {s0 s : State} (h : Keeps allowed s0 s) (sector : Nat)
    (hm : sub 1048584 allowed := by exact sub_trans (by assumption) (by decide)) :
    Keeps allowed s0 (State.sfEvict s sector) := by
  unfold State.sfEvict
  with_reducible repeat' first
    | (intro _) | assumption | exact sub_trans hm (by decide) | apply Keeps.send | apply Keeps.ite | refine Keeps.foldl ?_ ?_ _
    | split | dsimp only | (apply Keeps.upd (k := 1048584) <;> first | with_unfolding_all rfl | skip)

theorem sfAllocate {allowed : Nat} {s0 s : State} (h : Keeps allowed s0 s) (line : Nat) (link : Nat)
    (hm : sub 1048584 allowed := by exact sub_trans (by assumption) (by decide)) :
    Keeps allowed s0 (State.sfAllocate s line link).1 := by
  unfold State.sfAllocate
  with_reducible repeat' first
    | (intro _) | assumption | exact sub_trans hm (by decide) | apply Keeps.sfRecord | apply Keeps.sfEvict | apply Keeps.ite
    | refine Keeps.foldl ?_ ?_ _ | split | dsimp only
    | (apply Keeps.upd (k := 1048584) <;> first | with_unfolding_all rfl | skip)

theorem sfAllocate_eq {allowed : Nat} {s0 s : State} (h : Keeps allowed s0 s) {a1 : Nat} {a2 : Nat} {t0 : State} {x} (e : State.sfAllocate s a1 a2 = (t0, x))
    (hm : sub 1048584 allowed := by exact sub_trans (by assumption) (by decide)) :
    Keeps allowed s0 t0 := by
  have g := Keeps.sfAllocate h a1 a2
  rw [e] at g
  exact g

theorem showStaged {allowed : Nat} {s0 s : State} (h : Keeps allowed s0 s)
    (hm : sub 1 allowed := by exact sub_trans (by assumption) (by decide)) :
    Keeps allowed s0 (State.showStaged s) := by
  unfold State.showStaged
  with_reducible repeat' first
    | (intro _) | assumption | exact sub_trans hm (by decide) | apply Keeps.set | apply Keeps.ite | refine Keeps.foldl ?_ ?_ _
    | split | dsimp only | (apply Keeps.upd (k := 1) <;> first | with_unfolding_all rfl | skip)

theorem mergeCapture {allowed : Nat} {s0 s : State} (h : Keeps allowed s0 s) (line : Nat) (held : Nat) (e : Nat) (x : LineData)
    (hm : sub 2437 allowed := by exact sub_trans (by assumption) (by decide)) :
    Keeps allowed s0 (State.mergeCapture s line held e x) := by
  unfold State.mergeCapture
  with_reducible repeat' first
    | (intro _) | assumption | exact sub_trans hm (by decide) | apply Keeps.showStaged | apply Keeps.journal | apply Keeps.cPer
    | apply Keeps.ite | refine Keeps.foldl ?_ ?_ _ | split | dsimp only
    | (apply Keeps.upd (k := 2437) <;> first | with_unfolding_all rfl | skip)

theorem mirrorState {allowed : Nat} {s0 s : State} (h : Keeps allowed s0 s) (x : Nat) (cause : Option Nat)
    (hm : sub 5 allowed := by exact sub_trans (by assumption) (by decide)) :
    Keeps allowed s0 (State.mirrorState s x cause) := by
  unfold State.mirrorState
  with_reducible repeat' first
    | (intro _) | assumption | exact sub_trans hm (by decide) | apply Keeps.set | apply Keeps.raise | apply Keeps.ite
    | refine Keeps.foldl ?_ ?_ _ | split | dsimp only | (apply Keeps.upd (k := 5) <;> first | with_unfolding_all rfl | skip)

theorem showMirror {allowed : Nat} {s0 s : State} (h : Keeps allowed s0 s)
    (hm : sub 1 allowed := by exact sub_trans (by assumption) (by decide)) :
    Keeps allowed s0 (State.showMirror s) := by
  unfold State.showMirror
  with_reducible repeat' first
    | (intro _) | assumption | exact sub_trans hm (by decide) | apply Keeps.set | apply Keeps.ite | refine Keeps.foldl ?_ ?_ _
    | split | dsimp only | (apply Keeps.upd (k := 1) <;> first | with_unfolding_all rfl | skip)

theorem mirrorQueue {allowed : Nat} {s0 s : State} (h : Keeps allowed s0 s) (line : Nat) (data : Line) (poison : Bool) (epoch : Nat)
    (hm : sub 2437 allowed := by exact sub_trans (by assumption) (by decide)) :
    Keeps allowed s0 (State.mirrorQueue s line data poison epoch) := by
  unfold State.mirrorQueue
  split
  · extract_lets s1 u1 x s2 open_ units t
    have h1 : Keeps allowed s0 s1 := by with_reducible exact Keeps.ite h (h.journal _)
    have h2 : Keeps allowed s0 s2 := by with_reducible exact (h1.upd rfl rfl rfl).showMirror
    refine Keeps.ite (Keeps.ite h1 (h1.upd rfl rfl rfl)) (Keeps.ite ?_ ((h1.upd rfl rfl rfl).mirrorState _ _))
    refine Keeps.ite ?_ h2
    cases e : s2.armCut? { epoch := s2.md.openEpoch, snapshot := false, time := t, ring := 0, handle := 0 } false with
    | none => exact h2
    | some v => exact Keeps.armCut? h2 e
  · exact h

theorem heatUp {allowed : Nat} {s0 s : State} (h : Keeps allowed s0 s) (plot : Nat)
    (hm : sub 1024 allowed := by exact sub_trans (by assumption) (by decide)) :
    Keeps allowed s0 (State.heatUp s plot) := by
  unfold State.heatUp
  with_reducible repeat' first
    | (intro _) | assumption | exact sub_trans hm (by decide) | apply Keeps.ite | refine Keeps.foldl ?_ ?_ _ | split
    | dsimp only | (apply Keeps.upd (k := 1024) <;> first | with_unfolding_all rfl | skip)

theorem countBytes {allowed : Nat} {s0 s : State} (h : Keeps allowed s0 s) (n : Nat)
    (hm : sub 2048 allowed := by exact sub_trans (by assumption) (by decide)) :
    Keeps allowed s0 (State.countBytes s n) := by
  unfold State.countBytes
  with_reducible repeat' first
    | (intro _) | assumption | exact sub_trans hm (by decide) | apply Keeps.ite | refine Keeps.foldl ?_ ?_ _ | split
    | dsimp only | (apply Keeps.upd (k := 2048) <;> first | with_unfolding_all rfl | skip)

theorem answer {allowed : Nat} {s0 s : State} (h : Keeps allowed s0 s) (w : WinWrite)
    (hm : sub 1441805 allowed := by exact sub_trans (by assumption) (by decide)) :
    Keeps allowed s0 (State.answer s w) := by
  unfold State.answer
  with_reducible repeat' first
    | (intro _) | assumption | exact sub_trans hm (by decide) | apply Keeps.returnCredit | apply Keeps.send
    | apply Keeps.lineAnswered | apply Keeps.ite | refine Keeps.foldl ?_ ?_ _ | split | dsimp only
    | (apply Keeps.upd (k := 1441805) <;> first | with_unfolding_all rfl | skip)

theorem breakResv {allowed : Nat} {s0 s : State} (h : Keeps allowed s0 s) (line : Nat) (src : WinSrc)
    (hm : sub 16384 allowed := by exact sub_trans (by assumption) (by decide)) :
    Keeps allowed s0 (State.breakResv s line src) := by
  unfold State.breakResv
  with_reducible repeat' first
    | (intro _) | assumption | exact sub_trans hm (by decide) | apply Keeps.ite | refine Keeps.foldl ?_ ?_ _ | split
    | dsimp only | (apply Keeps.upd (k := 16384) <;> first | with_unfolding_all rfl | skip)

theorem spendCredit {allowed : Nat} {s0 s : State} (h : Keeps allowed s0 s) (w : WinWrite)
    (hm : sub 8 allowed := by exact sub_trans (by assumption) (by decide)) :
    Keeps allowed s0 (State.spendCredit s w) := by
  unfold State.spendCredit
  with_reducible repeat' first
    | (intro _) | assumption | exact sub_trans hm (by decide) | apply Keeps.ite | refine Keeps.foldl ?_ ?_ _ | split
    | dsimp only | (apply Keeps.upd (k := 8) <;> first | with_unfolding_all rfl | skip)

theorem accept {allowed : Nat} {s0 s : State} (h : Keeps allowed s0 s) (w : WinWrite)
    (hm : sub 1461661 allowed := by exact sub_trans (by assumption) (by decide)) :
    Keeps allowed s0 (State.accept s w) := by
  unfold State.accept
  with_reducible repeat' first
    | (intro _) | assumption | exact sub_trans hm (by decide) | apply Keeps.mergeCapture | apply Keeps.spendCredit
    | apply Keeps.raiseAt | apply Keeps.breakResv | apply Keeps.xtsLine | apply Keeps.cPer | apply Keeps.showQs
    | apply Keeps.countBytes | apply Keeps.heatUp | apply Keeps.mirrorQueue | apply Keeps.answer | apply Keeps.ite
    | refine Keeps.foldl ?_ ?_ _ | split | dsimp only
    | (apply Keeps.upd (k := 1461661) <;> first | with_unfolding_all rfl | skip)

theorem dropWriter {allowed : Nat} {s0 s : State} (h : Keeps allowed s0 s) (w : WinWrite)
    (hm : sub 8 allowed := by exact sub_trans (by assumption) (by decide)) :
    Keeps allowed s0 (State.dropWriter s w) := by
  unfold State.dropWriter
  with_reducible repeat' first
    | (intro _) | assumption | exact sub_trans hm (by decide) | apply Keeps.sfDrop | apply Keeps.ite
    | refine Keeps.foldl ?_ ?_ _ | split | dsimp only | (apply Keeps.upd (k := 8) <;> first | with_unfolding_all rfl | skip)

end Keeps

end Sys2Proof.Machine
end

