-- ==== Sys2Proof/Laws/KeepsWindow.lean ====
section
/-!
SUPPORT. Every operation keeps what `Keeps` says: the memory window and the line cache.  One lemma per operation, named after it; `run<X>` is the lemma of
the meaning `exec<X>`.
-/
set_option Elab.async false
set_option linter.unusedTactic false
set_option linter.unreachableTactic false

namespace Sys2Proof.Machine
namespace Keeps

theorem showSpare {allowed : Nat} {s0 s : State} (h : Keeps allowed s0 s) (c : Nat)
    (hm : sub 5 allowed := by exact sub_trans (by assumption) (by decide)) :
    Keeps allowed s0 (State.showSpare s c) := by
  unfold State.showSpare
  with_reducible repeat' first
    | (intro _) | assumption | exact sub_trans hm (by decide) | apply Keeps.put | apply Keeps.set | apply Keeps.raise
    | apply Keeps.ite | refine Keeps.foldl ?_ ?_ _ | split | dsimp only
    | (apply Keeps.upd (k := 5) <;> first | with_unfolding_all rfl | skip)

theorem takeSpare {allowed : Nat} {s0 s : State} (h : Keeps allowed s0 s) (l : Nat)
    (hm : sub 69 allowed := by exact sub_trans (by assumption) (by decide)) :
    Keeps allowed s0 (State.takeSpare s l) := by
  unfold State.takeSpare
  with_reducible repeat' first
    | (intro _) | assumption | exact sub_trans hm (by decide) | apply Keeps.showSpare | apply Keeps.ite
    | refine Keeps.foldl ?_ ?_ _ | split | dsimp only | (apply Keeps.upd (k := 69) <;> first | with_unfolding_all rfl | skip)

theorem freeSpare {allowed : Nat} {s0 s : State} (h : Keeps allowed s0 s) (l : Nat)
    (hm : sub 69 allowed := by exact sub_trans (by assumption) (by decide)) :
    Keeps allowed s0 (State.freeSpare s l) := by
  unfold State.freeSpare
  with_reducible repeat' first
    | (intro _) | assumption | exact sub_trans hm (by decide) | apply Keeps.showSpare | apply Keeps.ite
    | refine Keeps.foldl ?_ ?_ _ | split | dsimp only | (apply Keeps.upd (k := 69) <;> first | with_unfolding_all rfl | skip)

theorem makeSpan {allowed : Nat} {s0 s : State} (h : Keeps allowed s0 s) (x : List Nat × Nat)
    (hm : sub 69 allowed := by exact sub_trans (by assumption) (by decide)) :
    Keeps allowed s0 (State.makeSpan s x).1 := by
  unfold State.makeSpan
  with_reducible repeat' first
    | (intro _) | assumption | exact sub_trans hm (by decide) | apply Keeps.takeSpare | apply Keeps.ite
    | refine Keeps.foldl ?_ ?_ _ | split | dsimp only | (apply Keeps.upd (k := 69) <;> first | with_unfolding_all rfl | skip)

theorem makeSpan_eq {allowed : Nat} {s0 s : State} (h : Keeps allowed s0 s) {a1 : List Nat × Nat} {t0 : State} {x} (e : State.makeSpan s a1 = (t0, x))
    (hm : sub 69 allowed := by exact sub_trans (by assumption) (by decide)) :
    Keeps allowed s0 t0 := by
  have g := Keeps.makeSpan h a1
  rw [e] at g
  exact g

theorem placePlot {allowed : Nat} {s0 s : State} (h : Keeps allowed s0 s) (i : Nat)
    (hm : sub 2501 allowed := by exact sub_trans (by assumption) (by decide)) :
    Keeps allowed s0 (State.placePlot s i).1 := by
  unfold State.placePlot
  with_reducible repeat' first
    | (intro _) | assumption | exact sub_trans hm (by decide) | apply Keeps.makeSpan | apply Keeps.newDecision
    | apply Keeps.setPlot | refine Keeps.makeSpan_eq ?_ (e := by assumption) | apply Keeps.ite | refine Keeps.foldl ?_ ?_ _
    | split | dsimp only | (apply Keeps.upd (k := 2501) <;> first | with_unfolding_all rfl | skip)

theorem placePlot_eq {allowed : Nat} {s0 s : State} (h : Keeps allowed s0 s) {a1 : Nat} {t0 : State} {x} (e : State.placePlot s a1 = (t0, x))
    (hm : sub 2501 allowed := by exact sub_trans (by assumption) (by decide)) :
    Keeps allowed s0 t0 := by
  have g := Keeps.placePlot h a1
  rw [e] at g
  exact g

theorem releaseSpan {allowed : Nat} {s0 s : State} (h : Keeps allowed s0 s) (e : Span)
    (hm : sub 69 allowed := by exact sub_trans (by assumption) (by decide)) :
    Keeps allowed s0 (State.releaseSpan s e) := by
  unfold State.releaseSpan
  with_reducible repeat' first
    | (intro _) | assumption | exact sub_trans hm (by decide) | apply Keeps.freeSpare | apply Keeps.ite
    | refine Keeps.foldl ?_ ?_ _ | split | dsimp only | (apply Keeps.upd (k := 69) <;> first | with_unfolding_all rfl | skip)

theorem showFcache {allowed : Nat} {s0 s : State} (h : Keeps allowed s0 s)
    (hm : sub 1 allowed := by exact sub_trans (by assumption) (by decide)) :
    Keeps allowed s0 (State.showFcache s) := by
  unfold State.showFcache
  with_reducible repeat' first
    | (intro _) | assumption | exact sub_trans hm (by decide) | apply Keeps.set | apply Keeps.ite | refine Keeps.foldl ?_ ?_ _
    | split | dsimp only | (apply Keeps.upd (k := 1) <;> first | with_unfolding_all rfl | skip)

theorem spanFreed {allowed : Nat} {s0 s : State} (h : Keeps allowed s0 s)
    (hm : sub 3525 allowed := by exact sub_trans (by assumption) (by decide)) :
    Keeps allowed s0 (State.spanFreed s) := by
  unfold State.spanFreed
  with_reducible repeat' first
    | (intro _) | assumption | exact sub_trans hm (by decide) | apply Keeps.placePlot | apply Keeps.showFcache
    | refine Keeps.placePlot_eq ?_ (e := by assumption) | apply Keeps.ite | refine Keeps.foldl ?_ ?_ _ | split | dsimp only
    | (apply Keeps.upd (k := 3525) <;> first | with_unfolding_all rfl | skip)

theorem shrinkStep {allowed : Nat} {s0 s : State} (h : Keeps allowed s0 s)
    (hm : sub 3525 allowed := by exact sub_trans (by assumption) (by decide)) :
    Keeps allowed s0 (State.shrinkStep s) := by
  unfold State.shrinkStep
  with_reducible repeat' first
    | (intro _) | assumption | exact sub_trans hm (by decide) | apply Keeps.spanFreed | apply Keeps.releaseSpan
    | apply Keeps.setPlot | apply Keeps.ite | refine Keeps.foldl ?_ ?_ _ | split | dsimp only
    | (apply Keeps.upd (k := 3525) <;> first | with_unfolding_all rfl | skip)

theorem needSpan {allowed : Nat} {s0 s : State} (h : Keeps allowed s0 s) (i : Nat)
    (hm : sub 3573 allowed := by exact sub_trans (by assumption) (by decide)) :
    Keeps allowed s0 (State.needSpan s i) := by
  unfold State.needSpan
  with_reducible repeat' first
    | (intro _) | assumption | exact sub_trans hm (by decide) | apply Keeps.placePlot | apply Keeps.shrinkStep
    | apply Keeps.turnReadOnly | refine Keeps.placePlot_eq ?_ (e := by assumption) | apply Keeps.ite
    | refine Keeps.foldl ?_ ?_ _ | split | dsimp only | (apply Keeps.upd (k := 3573) <;> first | with_unfolding_all rfl | skip)

theorem showMoves {allowed : Nat} {s0 s : State} (h : Keeps allowed s0 s)
    (hm : sub 1 allowed := by exact sub_trans (by assumption) (by decide)) :
    Keeps allowed s0 (State.showMoves s) := by
  unfold State.showMoves
  with_reducible repeat' first
    | (intro _) | assumption | exact sub_trans hm (by decide) | apply Keeps.set | apply Keeps.put | apply Keeps.ite
    | refine Keeps.foldl ?_ ?_ _ | split | dsimp only | (apply Keeps.upd (k := 1) <;> first | with_unfolding_all rfl | skip)

theorem setMig {allowed : Nat} {s0 s : State} (h : Keeps allowed s0 s) (k : Nat) (m : Option Migration)
    (hm : sub 2437 allowed := by exact sub_trans (by assumption) (by decide)) :
    Keeps allowed s0 (State.setMig s k m) := by
  unfold State.setMig
  with_reducible repeat' first
    | (intro _) | assumption | exact sub_trans hm (by decide) | apply Keeps.showMoves | apply Keeps.journal | apply Keeps.ite
    | refine Keeps.foldl ?_ ?_ _ | split | dsimp only | (apply Keeps.upd (k := 2437) <;> first | with_unfolding_all rfl | skip)

theorem wantMove {allowed : Nat} {s0 s : State} (h : Keeps allowed s0 s) (i : Nat) (reason : Nat)
    (hm : sub 2437 allowed := by exact sub_trans (by assumption) (by decide)) :
    Keeps allowed s0 (State.wantMove s i reason) := by
  unfold State.wantMove
  with_reducible repeat' first
    | (intro _) | assumption | exact sub_trans hm (by decide) | apply Keeps.newDecision | apply Keeps.setMig | apply Keeps.ite
    | refine Keeps.foldl ?_ ?_ _ | split | dsimp only | (apply Keeps.upd (k := 2437) <;> first | with_unfolding_all rfl | skip)

theorem setWays {allowed : Nat} {s0 s : State} (h : Keeps allowed s0 s) (l : List Way)
    (hm : sub 37 allowed := by exact sub_trans (by assumption) (by decide)) :
    Keeps allowed s0 (State.setWays s l) := by
  unfold State.setWays
  with_reducible repeat' first
    | (intro _) | assumption | exact sub_trans hm (by decide) | apply Keeps.showCache | apply Keeps.ite
    | refine Keeps.foldl ?_ ?_ _ | split | dsimp only | (apply Keeps.upd (k := 37) <;> first | with_unfolding_all rfl | skip)

theorem onWay {allowed : Nat} {s0 s : State} (h : Keeps allowed s0 s) (sector : Nat) (f : Way → Way)
    (hm : sub 37 allowed := by exact sub_trans (by assumption) (by decide)) :
    Keeps allowed s0 (State.onWay s sector f) := by
  unfold State.onWay
  with_reducible repeat' first
    | (intro _) | assumption | exact sub_trans hm (by decide) | apply Keeps.setWays | apply Keeps.ite
    | refine Keeps.foldl ?_ ?_ _ | split | dsimp only | (apply Keeps.upd (k := 37) <;> first | with_unfolding_all rfl | skip)

theorem ageHit {allowed : Nat} {s0 s : State} (h : Keeps allowed s0 s) (sector : Nat)
    (hm : sub 32 allowed := by exact sub_trans (by assumption) (by decide)) :
    Keeps allowed s0 (State.ageHit s sector) := by
  unfold State.ageHit
  with_reducible repeat' first
    | (intro _) | assumption | exact sub_trans hm (by decide) | apply Keeps.ite | refine Keeps.foldl ?_ ?_ _ | split
    | dsimp only | (apply Keeps.upd (k := 32) <;> first | with_unfolding_all rfl | skip)

theorem allocWay {allowed : Nat} {s0 s : State} (h : Keeps allowed s0 s) (sector : Nat)
    (hm : sub 32 allowed := by exact sub_trans (by assumption) (by decide)) :
    Keeps allowed s0 (State.allocWay s sector).1 := by
  unfold State.allocWay
  with_reducible repeat' first
    | (intro _) | assumption | exact sub_trans hm (by decide) | apply Keeps.ite | refine Keeps.foldl ?_ ?_ _ | split
    | dsimp only | (apply Keeps.upd (k := 32) <;> first | with_unfolding_all rfl | skip)

theorem allocWay_eq {allowed : Nat} {s0 s : State} (h : Keeps allowed s0 s) {a1 : Nat} {t0 : State} {x} (e : State.allocWay s a1 = (t0, x))
    (hm : sub 32 allowed := by exact sub_trans (by assumption) (by decide)) :
    Keeps allowed s0 t0 := by
  have g := Keeps.allocWay h a1
  rw [e] at g
  exact g

theorem fillLine {allowed : Nat} {s0 s : State} (h : Keeps allowed s0 s) (line : Nat) (x : LineData)
    (hm : sub 37 allowed := by exact sub_trans (by assumption) (by decide)) :
    Keeps allowed s0 (State.fillLine s line x) := by
  unfold State.fillLine
  with_reducible repeat' first
    | (intro _) | assumption | exact sub_trans hm (by decide) | apply Keeps.onWay | apply Keeps.ite | refine Keeps.foldl ?_ ?_ _
    | split | dsimp only | (apply Keeps.upd (k := 37) <;> first | with_unfolding_all rfl | skip)

theorem unreserve {allowed : Nat} {s0 s : State} (h : Keeps allowed s0 s) (sector : Nat)
    (hm : sub 37 allowed := by exact sub_trans (by assumption) (by decide)) :
    Keeps allowed s0 (State.unreserve s sector) := by
  unfold State.unreserve
  with_reducible repeat' first
    | (intro _) | assumption | exact sub_trans hm (by decide) | apply Keeps.onWay | apply Keeps.ite | refine Keeps.foldl ?_ ?_ _
    | split | dsimp only | (apply Keeps.upd (k := 37) <;> first | with_unfolding_all rfl | skip)

theorem pushWrite {allowed : Nat} {s0 s : State} (h : Keeps allowed s0 s) (kind : WriteKind) (page : Option Nat) (loc : Nat) (group : Nat) (epoch : Nat) (l : List LineData)
    (hm : sub 64 allowed := by exact sub_trans (by assumption) (by decide)) :
    Keeps allowed s0 (State.pushWrite s kind page loc group epoch l) := by
  unfold State.pushWrite
  with_reducible repeat' first
    | (intro _) | assumption | exact sub_trans hm (by decide) | apply Keeps.ite | refine Keeps.foldl ?_ ?_ _ | split
    | dsimp only | (apply Keeps.upd (k := 64) <;> first | with_unfolding_all rfl | skip)

theorem queuePage {allowed : Nat} {s0 s : State} (h : Keeps allowed s0 s) (kind : WriteKind) (page : Nat) (epoch : Nat) (l : List LineData)
    (hm : sub 3573 allowed := by exact sub_trans (by assumption) (by decide)) :
    Keeps allowed s0 (State.queuePage s kind page epoch l) := by
  unfold State.queuePage
  with_reducible repeat' first
    | (intro _) | assumption | exact sub_trans hm (by decide) | apply Keeps.needSpan | apply Keeps.pushWrite | apply Keeps.ite
    | refine Keeps.foldl ?_ ?_ _ | split | dsimp only | (apply Keeps.upd (k := 3573) <;> first | with_unfolding_all rfl | skip)

theorem writeBack {allowed : Nat} {s0 s : State} (h : Keeps allowed s0 s) (sector : Nat)
    (hm : sub 3573 allowed := by exact sub_trans (by assumption) (by decide)) :
    Keeps allowed s0 (State.writeBack s sector) := by
  unfold State.writeBack
  with_reducible repeat' first
    | (intro _) | assumption | exact sub_trans hm (by decide) | apply Keeps.queuePage | apply Keeps.cLc | apply Keeps.onWay
    | apply Keeps.ite | refine Keeps.foldl ?_ ?_ _ | split | dsimp only
    | (apply Keeps.upd (k := 3573) <;> first | with_unfolding_all rfl | skip)

theorem clean {allowed : Nat} {s0 s : State} (h : Keeps allowed s0 s)
    (hm : sub 3573 allowed := by exact sub_trans (by assumption) (by decide)) :
    Keeps allowed s0 (State.clean s) := by
  unfold State.clean
  with_reducible repeat' first
    | (intro _) | assumption | exact sub_trans hm (by decide) | apply Keeps.writeBack | apply Keeps.ite
    | refine Keeps.foldl ?_ ?_ _ | split | dsimp only | (apply Keeps.upd (k := 3573) <;> first | with_unfolding_all rfl | skip)

theorem setLine {allowed : Nat} {s0 s : State} (h : Keeps allowed s0 s) (line : Nat) (x : LineData) (dirty : Bool) (epoch : Nat)
    (hm : sub 37 allowed := by exact sub_trans (by assumption) (by decide)) :
    Keeps allowed s0 (State.setLine s line x dirty epoch) := by
  unfold State.setLine
  with_reducible repeat' first
    | (intro _) | assumption | exact sub_trans hm (by decide) | apply Keeps.onWay | apply Keeps.ite | refine Keeps.foldl ?_ ?_ _
    | split | dsimp only | (apply Keeps.upd (k := 37) <;> first | with_unfolding_all rfl | skip)

theorem nearWrite {allowed : Nat} {s0 s : State} (h : Keeps allowed s0 s) (w : WinWrite)
    (hm : sub 19957 allowed := by exact sub_trans (by assumption) (by decide)) :
    Keeps allowed s0 (State.nearWrite s w) := by
  unfold State.nearWrite
  with_reducible repeat' first
    | (intro _) | assumption | exact sub_trans hm (by decide) | apply Keeps.heatUp | apply Keeps.breakResv
    | apply Keeps.queuePage | apply Keeps.mergeCapture | apply Keeps.ite | refine Keeps.foldl ?_ ?_ _ | split | dsimp only
    | (apply Keeps.upd (k := 19957) <;> first | with_unfolding_all rfl | skip)

theorem nearDone {allowed : Nat} {s0 s : State} (h : Keeps allowed s0 s) (m : MediaWrite) (srcs : List WinSrc)
    (hm : sub 1444237 allowed := by exact sub_trans (by assumption) (by decide)) :
    Keeps allowed s0 (State.nearDone s m srcs) := by
  unfold State.nearDone
  with_reducible repeat' first
    | (intro _) | assumption | exact sub_trans hm (by decide) | apply Keeps.answer | apply Keeps.mirrorQueue | apply Keeps.ite
    | refine Keeps.foldl ?_ ?_ _ | split | dsimp only
    | (apply Keeps.upd (k := 1444237) <;> first | with_unfolding_all rfl | skip)

theorem windowWrite {allowed : Nat} {s0 s : State} (h : Keeps allowed s0 s) (w : WinWrite)
    (hm : sub 1461757 allowed := by exact sub_trans (by assumption) (by decide)) :
    Keeps allowed s0 (State.windowWrite s w) := by
  unfold State.windowWrite
  with_reducible repeat' first
    | (intro _) | assumption | exact sub_trans hm (by decide) | apply Keeps.dropWriter | apply Keeps.answer
    | apply Keeps.spendCredit | apply Keeps.listLost | apply Keeps.send | apply Keeps.nearWrite | apply Keeps.accept
    | apply Keeps.ite | refine Keeps.foldl ?_ ?_ _ | split | dsimp only
    | (apply Keeps.upd (k := 1461757) <;> first | with_unfolding_all rfl | skip)

theorem windowBytes {allowed : Nat} {s0 s : State} (h : Keeps allowed s0 s) (src : WinSrc) (dom stamp n a : Nat) (b : List Byte)
    (hm : sub 1461757 allowed := by exact sub_trans (by assumption) (by decide)) :
    Keeps allowed s0 (State.windowBytes src dom stamp n a b s) := by
  induction n generalizing s a b with
  | zero => exact h
  | succ n ih =>
    unfold State.windowBytes
    split
    · exact h
    · exact ih (h.windowWrite _) _ _

theorem setDesc {allowed : Nat} {s0 s : State} (h : Keeps allowed s0 s) (d : Desc)
    (hm : sub 4096 allowed := by exact sub_trans (by assumption) (by decide)) :
    Keeps allowed s0 (State.setDesc s d) := by
  unfold State.setDesc
  with_reducible repeat' first
    | (intro _) | assumption | exact sub_trans hm (by decide) | apply Keeps.ite | refine Keeps.foldl ?_ ?_ _ | split
    | dsimp only | (apply Keeps.upd (k := 4096) <;> first | with_unfolding_all rfl | skip)

theorem finish {allowed : Nat} {s0 s : State} (h : Keeps allowed s0 s) (r : Nat) (a2 : Nat) (status : Nat) (result : Nat)
    (hm : sub 266240 allowed := by exact sub_trans (by assumption) (by decide)) :
    Keeps allowed s0 (State.finish s r a2 status result) := by
  unfold State.finish
  with_reducible repeat' first
    | (intro _) | assumption | exact sub_trans hm (by decide) | apply Keeps.setDesc | apply Keeps.ite
    | refine Keeps.foldl ?_ ?_ _ | split | dsimp only
    | (apply Keeps.upd (k := 266240) <;> first | with_unfolding_all rfl | skip)

theorem startDesc {allowed : Nat} {s0 s : State} (h : Keeps allowed s0 s) (d : Desc)
    (hm : sub 4096 allowed := by exact sub_trans (by assumption) (by decide)) :
    Keeps allowed s0 (State.startDesc s d) := by
  unfold State.startDesc
  with_reducible repeat' first
    | (intro _) | assumption | exact sub_trans hm (by decide) | apply Keeps.setDesc | apply Keeps.ite
    | refine Keeps.foldl ?_ ?_ _ | split | dsimp only | (apply Keeps.upd (k := 4096) <;> first | with_unfolding_all rfl | skip)

theorem startIn {allowed : Nat} {s0 s : State} (h : Keeps allowed s0 s) (l m : List Desc)
    (hm : sub 4096 allowed := by exact sub_trans (by assumption) (by decide)) : Keeps allowed s0 (State.startIn s l m) := by
  induction m generalizing s l with
  | nil => exact h
  | cons d m ih =>
    unfold State.startIn
    dsimp only
    split
    · exact ih (h.startDesc _) _
    · exact ih h _

theorem startReady {allowed : Nat} {s0 s : State} (h : Keeps allowed s0 s) (r : Nat)
    (hm : sub 4096 allowed := by exact sub_trans (by assumption) (by decide)) :
    Keeps allowed s0 (State.startReady s r) := by
  unfold State.startReady
  with_reducible repeat' first
    | (intro _) | assumption | exact sub_trans hm (by decide) | apply Keeps.startIn | apply Keeps.ite
    | refine Keeps.foldl ?_ ?_ _ | split | dsimp only | (apply Keeps.upd (k := 4096) <;> first | with_unfolding_all rfl | skip)

theorem startRings {allowed : Nat} {s0 s : State} (h : Keeps allowed s0 s)
    (hm : sub 4096 allowed := by exact sub_trans (by assumption) (by decide)) :
    Keeps allowed s0 (State.startRings s) := by
  unfold State.startRings
  with_reducible repeat' first
    | (intro _) | assumption | exact sub_trans hm (by decide) | apply Keeps.startReady | apply Keeps.ite
    | refine Keeps.foldl ?_ ?_ _ | split | dsimp only | (apply Keeps.upd (k := 4096) <;> first | with_unfolding_all rfl | skip)

theorem toMode {allowed : Nat} {s0 s : State} (h : Keeps allowed s0 s) (mode : Nat) (cause : Nat)
    (hm : sub 1 allowed := by exact sub_trans (by assumption) (by decide)) :
    Keeps allowed s0 (State.toMode s mode cause) := by
  unfold State.toMode
  with_reducible repeat' first
    | (intro _) | assumption | exact sub_trans hm (by decide) | apply Keeps.set | apply Keeps.ite | refine Keeps.foldl ?_ ?_ _
    | split | dsimp only | (apply Keeps.upd (k := 1) <;> first | with_unfolding_all rfl | skip)

theorem safeMode {allowed : Nat} {s0 s : State} (h : Keeps allowed s0 s) (cause : Nat)
    (hm : sub 1 allowed := by exact sub_trans (by assumption) (by decide)) :
    Keeps allowed s0 (State.safeMode s cause) := by
  unfold State.safeMode
  with_reducible repeat' first
    | (intro _) | assumption | exact sub_trans hm (by decide) | apply Keeps.set | apply Keeps.toMode | apply Keeps.put
    | apply Keeps.ite | refine Keeps.foldl ?_ ?_ _ | split | dsimp only
    | (apply Keeps.upd (k := 1) <;> first | with_unfolding_all rfl | skip)

theorem basicUnits {allowed : Nat} {s0 s : State} (h : Keeps allowed s0 s)
    (hm : sub 1 allowed := by exact sub_trans (by assumption) (by decide)) :
    Keeps allowed s0 (State.basicUnits s) := by
  unfold State.basicUnits
  with_reducible repeat' first
    | (intro _) | assumption | exact sub_trans hm (by decide) | apply Keeps.set | apply Keeps.put | apply Keeps.ite
    | refine Keeps.foldl ?_ ?_ _ | split | dsimp only | (apply Keeps.upd (k := 1) <;> first | with_unfolding_all rfl | skip)

theorem reduced {allowed : Nat} {s0 s : State} (h : Keeps allowed s0 s)
    (hm : sub 524289 allowed := by exact sub_trans (by assumption) (by decide)) :
    Keeps allowed s0 (State.reduced s) := by
  unfold State.reduced
  with_reducible repeat' first
    | (intro _) | assumption | exact sub_trans hm (by decide) | apply Keeps.toMode | apply Keeps.ite
    | refine Keeps.foldl ?_ ?_ _ | split | dsimp only
    | (apply Keeps.upd (k := 524289) <;> first | with_unfolding_all rfl | skip)

theorem writeBackAll {allowed : Nat} {s0 s : State} (h : Keeps allowed s0 s)
    (hm : sub 3573 allowed := by exact sub_trans (by assumption) (by decide)) :
    Keeps allowed s0 (State.writeBackAll s) := by
  unfold State.writeBackAll
  with_reducible repeat' first
    | (intro _) | assumption | exact sub_trans hm (by decide) | apply Keeps.writeBack | apply Keeps.ite
    | refine Keeps.foldl ?_ ?_ _ | split | dsimp only | (apply Keeps.upd (k := 3573) <;> first | with_unfolding_all rfl | skip)

theorem enterReadOnly {allowed : Nat} {s0 s : State} (h : Keeps allowed s0 s) (ro : Nat)
    (hm : sub 3573 allowed := by exact sub_trans (by assumption) (by decide)) :
    Keeps allowed s0 (State.enterReadOnly s ro) := by
  unfold State.enterReadOnly
  with_reducible repeat' first
    | (intro _) | assumption | exact sub_trans hm (by decide) | apply Keeps.set | apply Keeps.raise | apply Keeps.writeBackAll
    | apply Keeps.toMode | apply Keeps.ite | refine Keeps.foldl ?_ ?_ _ | split | dsimp only
    | (apply Keeps.upd (k := 3573) <;> first | with_unfolding_all rfl | skip)

theorem leaveReadOnly {allowed : Nat} {s0 s : State} (h : Keeps allowed s0 s) (ro : Nat)
    (hm : sub 1 allowed := by exact sub_trans (by assumption) (by decide)) :
    Keeps allowed s0 (State.leaveReadOnly s ro) := by
  unfold State.leaveReadOnly
  with_reducible repeat' first
    | (intro _) | assumption | exact sub_trans hm (by decide) | apply Keeps.set | apply Keeps.ite | refine Keeps.foldl ?_ ?_ _
    | split | dsimp only | (apply Keeps.upd (k := 1) <;> first | with_unfolding_all rfl | skip)

theorem tidyHints {allowed : Nat} {s0 s : State} (h : Keeps allowed s0 s)
    (hm : sub 2437 allowed := by exact sub_trans (by assumption) (by decide)) :
    Keeps allowed s0 (State.tidyHints s) := by
  unfold State.tidyHints
  with_reducible repeat' first
    | (intro _) | assumption | exact sub_trans hm (by decide) | apply Keeps.journal | apply Keeps.setPlot | apply Keeps.ite
    | refine Keeps.foldl ?_ ?_ _ | split | dsimp only | (apply Keeps.upd (k := 2437) <;> first | with_unfolding_all rfl | skip)

theorem unitLost {allowed : Nat} {s0 s : State} (h : Keeps allowed s0 s) (f : Fld) (k : Nat)
    (hm : sub 524289 allowed := by exact sub_trans (by assumption) (by decide)) :
    Keeps allowed s0 (State.unitLost s f k) := by
  unfold State.unitLost
  with_reducible repeat' first
    | (intro _) | assumption | exact sub_trans hm (by decide) | apply Keeps.reduced | apply Keeps.setBit | apply Keeps.ite
    | refine Keeps.foldl ?_ ?_ _ | split | dsimp only
    | (apply Keeps.upd (k := 524289) <;> first | with_unfolding_all rfl | skip)

theorem qsLeaving {allowed : Nat} {s0 s : State} (h : Keeps allowed s0 s) (line : Nat)
    (hm : sub 16 allowed := by exact sub_trans (by assumption) (by decide)) :
    Keeps allowed s0 (State.qsLeaving s line) := by
  unfold State.qsLeaving
  with_reducible repeat' first
    | (intro _) | assumption | exact sub_trans hm (by decide) | apply Keeps.ite | refine Keeps.foldl ?_ ?_ _ | split
    | dsimp only | (apply Keeps.upd (k := 16) <;> first | with_unfolding_all rfl | skip)

theorem mergePoison {allowed : Nat} {s0 s : State} (h : Keeps allowed s0 s) (e : QsEntry) (p : Bool)
    (hm : sub 4 allowed := by exact sub_trans (by assumption) (by decide)) :
    Keeps allowed s0 (State.mergePoison s e p) := by
  unfold State.mergePoison
  with_reducible repeat' first
    | (intro _) | assumption | exact sub_trans hm (by decide) | apply Keeps.raiseAt | apply Keeps.ite
    | refine Keeps.foldl ?_ ?_ _ | split | dsimp only | (apply Keeps.upd (k := 4) <;> first | with_unfolding_all rfl | skip)

theorem writeAround {allowed : Nat} {s0 s : State} (h : Keeps allowed s0 s) (e : QsEntry)
    (hm : sub 3573 allowed := by exact sub_trans (by assumption) (by decide)) :
    Keeps allowed s0 (State.writeAround s e) := by
  unfold State.writeAround
  with_reducible repeat' first
    | (intro _) | assumption | exact sub_trans hm (by decide) | apply Keeps.mergePoison | apply Keeps.cLc | apply Keeps.bump
    | apply Keeps.qsLeaving | apply Keeps.queuePage | apply Keeps.ite | refine Keeps.foldl ?_ ?_ _ | split | dsimp only
    | (apply Keeps.upd (k := 3573) <;> first | with_unfolding_all rfl | skip)

theorem mergeDirty {allowed : Nat} {s0 s : State} (h : Keeps allowed s0 s) (e : QsEntry)
    (hm : sub 1051069 allowed := by exact sub_trans (by assumption) (by decide)) :
    Keeps allowed s0 (State.mergeDirty s e) := by
  unfold State.mergeDirty
  with_reducible repeat' first
    | (intro _) | assumption | exact sub_trans hm (by decide) | apply Keeps.mergeCapture | apply Keeps.setLine
    | apply Keeps.mergePoison | apply Keeps.cLc | apply Keeps.qsFree | apply Keeps.ageHit | apply Keeps.ite
    | refine Keeps.foldl ?_ ?_ _ | split | dsimp only
    | (apply Keeps.upd (k := 1051069) <;> first | with_unfolding_all rfl | skip)

theorem mergeEntry {allowed : Nat} {s0 s : State} (h : Keeps allowed s0 s) (e : QsEntry)
    (hm : sub 1052157 allowed := by exact sub_trans (by assumption) (by decide)) :
    Keeps allowed s0 (State.mergeEntry s e) := by
  unfold State.mergeEntry
  with_reducible repeat' first
    | (intro _) | assumption | exact sub_trans hm (by decide) | apply Keeps.mergeDirty | apply Keeps.writeAround
    | apply Keeps.setLine | apply Keeps.allocWay | refine Keeps.allocWay_eq ?_ (e := by assumption) | apply Keeps.ite
    | refine Keeps.foldl ?_ ?_ _ | split | dsimp only
    | (apply Keeps.upd (k := 1052157) <;> first | with_unfolding_all rfl | skip)

theorem acceptRange {allowed : Nat} {s0 s : State} (h : Keeps allowed s0 s) (slot : Nat) (op : Nat) (first : Nat) (sectors : Nat) (dom : Nat) (owner : Nat) (ring : Nat) (handle : Nat)
    (hm : sub 33 allowed := by exact sub_trans (by assumption) (by decide)) :
    Keeps allowed s0 (State.acceptRange s slot op first sectors dom owner ring handle) := by
  unfold State.acceptRange
  with_reducible repeat' first
    | (intro _) | assumption | exact sub_trans hm (by decide) | apply Keeps.set | apply Keeps.put | apply Keeps.setReg
    | apply Keeps.setBit | apply Keeps.ite | refine Keeps.foldl ?_ ?_ _ | split | dsimp only
    | (apply Keeps.upd (k := 33) <;> first | with_unfolding_all rfl | skip)

theorem startRegister {allowed : Nat} {s0 s : State} (h : Keeps allowed s0 s) (slot : Nat) (op : Nat)
    (hm : sub 37 allowed := by exact sub_trans (by assumption) (by decide)) :
    Keeps allowed s0 (State.startRegister s slot op) := by
  unfold State.startRegister
  with_reducible repeat' first
    | (intro _) | assumption | exact sub_trans hm (by decide) | apply Keeps.raise | apply Keeps.set | apply Keeps.acceptRange
    | apply Keeps.ite | refine Keeps.foldl ?_ ?_ _ | split | dsimp only
    | (apply Keeps.upd (k := 37) <;> first | with_unfolding_all rfl | skip)

theorem startRange {allowed : Nat} {s0 s : State} (h : Keeps allowed s0 s) (w : RangeWait)
    (hm : sub 33 allowed := by exact sub_trans (by assumption) (by decide)) :
    Keeps allowed s0 (State.startRange s w) := by
  unfold State.startRange
  with_reducible repeat' first
    | (intro _) | assumption | exact sub_trans hm (by decide) | apply Keeps.acceptRange | apply Keeps.ite
    | refine Keeps.foldl ?_ ?_ _ | split | dsimp only | (apply Keeps.upd (k := 33) <;> first | with_unfolding_all rfl | skip)

theorem rangeNext {allowed : Nat} {s0 s : State} (h : Keeps allowed s0 s)
    (hm : sub 33 allowed := by exact sub_trans (by assumption) (by decide)) :
    Keeps allowed s0 (State.rangeNext s) := by
  unfold State.rangeNext
  with_reducible repeat' first
    | (intro _) | assumption | exact sub_trans hm (by decide) | apply Keeps.acceptRange | apply Keeps.ite
    | refine Keeps.foldl ?_ ?_ _ | split | dsimp only | (apply Keeps.upd (k := 33) <;> first | with_unfolding_all rfl | skip)

theorem invalidateSector {allowed : Nat} {s0 s : State} (h : Keeps allowed s0 s) (sector : Nat)
    (hm : sub 3573 allowed := by exact sub_trans (by assumption) (by decide)) :
    Keeps allowed s0 (State.invalidateSector s sector) := by
  unfold State.invalidateSector
  with_reducible repeat' first
    | (intro _) | assumption | exact sub_trans hm (by decide) | apply Keeps.writeBack | apply Keeps.onWay | apply Keeps.ite
    | refine Keeps.foldl ?_ ?_ _ | split | dsimp only | (apply Keeps.upd (k := 3573) <;> first | with_unfolding_all rfl | skip)

theorem fillSector {allowed : Nat} {s0 s : State} (h : Keeps allowed s0 s) (sector : Nat)
    (hm : sub 37 allowed := by exact sub_trans (by assumption) (by decide)) :
    Keeps allowed s0 (State.fillSector s sector) := by
  unfold State.fillSector
  with_reducible repeat' first
    | (intro _) | assumption | exact sub_trans hm (by decide) | apply Keeps.unreserve | apply Keeps.fillLine | apply Keeps.ite
    | refine Keeps.foldl ?_ ?_ _ | split | dsimp only | (apply Keeps.upd (k := 37) <;> first | with_unfolding_all rfl | skip)

theorem opAt {allowed : Nat} {s0 s : State} (h : Keeps allowed s0 s) (o : RangeOp) (sector : Nat)
    (hm : sub 3573 allowed := by exact sub_trans (by assumption) (by decide)) :
    Keeps allowed s0 (State.opAt s o sector).1 := by
  unfold State.opAt
  with_reducible repeat' first
    | (intro _) | assumption | exact sub_trans hm (by decide) | apply Keeps.writeBack | apply Keeps.invalidateSector
    | apply Keeps.onWay | apply Keeps.allocWay | apply Keeps.fillSector | refine Keeps.allocWay_eq ?_ (e := by assumption)
    | apply Keeps.ite | refine Keeps.foldl ?_ ?_ _ | split | dsimp only
    | (apply Keeps.upd (k := 3573) <;> first | with_unfolding_all rfl | skip)

theorem opAt_eq {allowed : Nat} {s0 s : State} (h : Keeps allowed s0 s) {a1 : RangeOp} {a2 : Nat} {t0 : State} {x} (e : State.opAt s a1 a2 = (t0, x))
    (hm : sub 3573 allowed := by exact sub_trans (by assumption) (by decide)) :
    Keeps allowed s0 t0 := by
  have g := Keeps.opAt h a1 a2
  rw [e] at g
  exact g

theorem setOp {allowed : Nat} {s0 s : State} (h : Keeps allowed s0 s) (o : RangeOp)
    (hm : sub 32 allowed := by exact sub_trans (by assumption) (by decide)) :
    Keeps allowed s0 (State.setOp s o) := by
  unfold State.setOp
  with_reducible repeat' first
    | (intro _) | assumption | exact sub_trans hm (by decide) | apply Keeps.ite | refine Keeps.foldl ?_ ?_ _ | split
    | dsimp only | (apply Keeps.upd (k := 32) <;> first | with_unfolding_all rfl | skip)

theorem turnOp {allowed : Nat} {s0 s : State} (h : Keeps allowed s0 s) (o : RangeOp)
    (hm : sub 3573 allowed := by exact sub_trans (by assumption) (by decide)) :
    Keeps allowed s0 (State.turnOp s o) := by
  unfold State.turnOp
  with_reducible repeat' first
    | (intro _) | assumption | exact sub_trans hm (by decide) | apply Keeps.set | apply Keeps.setOp | apply Keeps.opAt
    | apply Keeps.cLc | refine Keeps.opAt_eq ?_ (e := by assumption) | apply Keeps.ite | refine Keeps.foldl ?_ ?_ _ | split
    | dsimp only | (apply Keeps.upd (k := 3573) <;> first | with_unfolding_all rfl | skip)

theorem endOp {allowed : Nat} {s0 s : State} (h : Keeps allowed s0 s) (o : RangeOp)
    (hm : sub 37 allowed := by exact sub_trans (by assumption) (by decide)) :
    Keeps allowed s0 (State.endOp s o).1 := by
  unfold State.endOp
  repeat' first
    | with_reducible (intro _) | with_reducible assumption | with_reducible exact sub_trans hm (by decide)
    | with_reducible apply Keeps.put | with_reducible apply Keeps.set | with_reducible apply Keeps.setBit
    | with_reducible apply Keeps.setWays | with_reducible apply Keeps.rangeNext | with_reducible apply Keeps.ite
    | with_reducible refine Keeps.foldl ?_ ?_ _ | split | dsimp only
    | (with_reducible apply Keeps.upd (k := 37)) <;> first | rfl | skip

theorem endOp_eq {allowed : Nat} {s0 s : State} (h : Keeps allowed s0 s) {a1 : RangeOp} {t0 : State} {x} (e : State.endOp s a1 = (t0, x))
    (hm : sub 37 allowed := by exact sub_trans (by assumption) (by decide)) :
    Keeps allowed s0 t0 := by
  have g := Keeps.endOp h a1
  rw [e] at g
  exact g

theorem lcCtl {allowed : Nat} {s0 s : State} (h : Keeps allowed s0 s) (value : BitVec 32)
    (hm : sub 1 allowed := by exact sub_trans (by assumption) (by decide)) :
    Keeps allowed s0 (State.lcCtl s value) := by
  unfold State.lcCtl
  with_reducible repeat' first
    | (intro _) | assumption | exact sub_trans hm (by decide) | apply Keeps.set | apply Keeps.ite | refine Keeps.foldl ?_ ?_ _
    | split | dsimp only | (apply Keeps.upd (k := 1) <;> first | with_unfolding_all rfl | skip)

theorem runLcEnable {allowed : Nat} {s0 s : State} (h : Keeps allowed s0 s) (value : BitVec 32)
    (hm : sub 37 allowed := by exact sub_trans (by assumption) (by decide)) :
    KeepsOut allowed s0 (execLcEnable value s) := by
  unfold execLcEnable
  refine Keeps.next ?_
  with_reducible repeat' first
    | (intro _) | assumption | exact sub_trans hm (by decide) | apply Keeps.lcCtl | apply Keeps.put | apply Keeps.raise
    | apply Keeps.ite | refine Keeps.foldl ?_ ?_ _ | split | dsimp only
    | (apply Keeps.upd (k := 37) <;> first | with_unfolding_all rfl | skip)

theorem runLcDisable {allowed : Nat} {s0 s : State} (h : Keeps allowed s0 s) (value : BitVec 32)
    (hm : sub 45 allowed := by exact sub_trans (by assumption) (by decide)) :
    KeepsOut allowed s0 (execLcDisable value s) := by
  unfold execLcDisable
  refine Keeps.next ?_
  with_reducible repeat' first
    | (intro _) | assumption | exact sub_trans hm (by decide) | apply Keeps.lcCtl | apply Keeps.raise | apply Keeps.put
    | apply Keeps.setWays | apply Keeps.ite | refine Keeps.foldl ?_ ?_ _ | split | dsimp only
    | (apply Keeps.upd (k := 45) <;> first | with_unfolding_all rfl | skip)

theorem runRangeOpTurn {allowed : Nat} {s0 s : State} (h : Keeps allowed s0 s)
    (hm : sub 3573 allowed := by exact sub_trans (by assumption) (by decide)) :
    KeepsOut allowed s0 (execRangeOpTurn s) := by
  unfold execRangeOpTurn
  refine Keeps.next ?_
  with_reducible repeat' first
    | (intro _) | assumption | exact sub_trans hm (by decide) | apply Keeps.turnOp | apply Keeps.ite
    | refine Keeps.foldl ?_ ?_ _ | split | dsimp only | (apply Keeps.upd (k := 3573) <;> first | with_unfolding_all rfl | skip)

theorem runHbmUncorrectable {allowed : Nat} {s0 s : State} (h : Keeps allowed s0 s) (line : Nat)
    (hm : sub 2100725 allowed := by exact sub_trans (by assumption) (by decide)) :
    KeepsOut allowed s0 (execHbmUncorrectable line s) := by
  unfold execHbmUncorrectable
  refine Keeps.next ?_
  with_reducible repeat' first
    | (intro _) | assumption | exact sub_trans hm (by decide) | apply Keeps.onWay | apply Keeps.bump | apply Keeps.raiseAt
    | apply Keeps.queuePage | apply Keeps.drew | apply Keeps.ite | refine Keeps.foldl ?_ ?_ _ | split | dsimp only
    | (apply Keeps.upd (k := 2100725) <;> first | with_unfolding_all rfl | skip)

theorem runTagUncorrectable {allowed : Nat} {s0 s : State} (h : Keeps allowed s0 s) (set : Nat) (way : Nat) (mayHoldDirty : Bool)
    (hm : sub 3573 allowed := by exact sub_trans (by assumption) (by decide)) :
    KeepsOut allowed s0 (execTagUncorrectable set way mayHoldDirty s) := by
  unfold execTagUncorrectable
  refine Keeps.next ?_
  with_reducible repeat' first
    | (intro _) | assumption | exact sub_trans hm (by decide) | apply Keeps.setWays | apply Keeps.put | apply Keeps.bump
    | apply Keeps.enterReadOnly | apply Keeps.raise | apply Keeps.ite | refine Keeps.foldl ?_ ?_ _ | split | dsimp only
    | (apply Keeps.upd (k := 3573) <;> first | with_unfolding_all rfl | skip)

theorem tallyEvent {allowed : Nat} {s0 s : State} (h : Keeps allowed s0 s) (e : TallyEntry)
    (hm : sub 4 allowed := by exact sub_trans (by assumption) (by decide)) :
    Keeps allowed s0 (State.tallyEvent s e) := by
  unfold State.tallyEvent
  with_reducible repeat' first
    | (intro _) | assumption | exact sub_trans hm (by decide) | apply Keeps.raiseAt | apply Keeps.ite
    | refine Keeps.foldl ?_ ?_ _ | split | dsimp only | (apply Keeps.upd (k := 4) <;> first | with_unfolding_all rfl | skip)

theorem setTally {allowed : Nat} {s0 s : State} (h : Keeps allowed s0 s) (l : List TallyEntry)
    (hm : sub 65 allowed := by exact sub_trans (by assumption) (by decide)) :
    Keeps allowed s0 (State.setTally s l) := by
  unfold State.setTally
  with_reducible repeat' first
    | (intro _) | assumption | exact sub_trans hm (by decide) | apply Keeps.set | apply Keeps.ite | refine Keeps.foldl ?_ ?_ _
    | split | dsimp only | (apply Keeps.upd (k := 65) <;> first | with_unfolding_all rfl | skip)

theorem tallyOne {allowed : Nat} {s0 s : State} (h : Keeps allowed s0 s) (l : Nat) (line : Nat) (word : Nat)
    (hm : sub 69 allowed := by exact sub_trans (by assumption) (by decide)) :
    Keeps allowed s0 (State.tallyOne s l line word) := by
  unfold State.tallyOne
  with_reducible repeat' first
    | (intro _) | assumption | exact sub_trans hm (by decide) | apply Keeps.tallyEvent | apply Keeps.setTally | apply Keeps.bump
    | apply Keeps.ite | refine Keeps.foldl ?_ ?_ _ | split | dsimp only
    | (apply Keeps.upd (k := 69) <;> first | with_unfolding_all rfl | skip)

theorem setRate {allowed : Nat} {s0 s : State} (h : Keeps allowed s0 s) (c : Nat) (r : Nat) (l : List Nat)
    (hm : sub 65 allowed := by exact sub_trans (by assumption) (by decide)) :
    Keeps allowed s0 (State.setRate s c r l) := by
  unfold State.setRate
  with_reducible repeat' first
    | (intro _) | assumption | exact sub_trans hm (by decide) | apply Keeps.set | apply Keeps.setChan | apply Keeps.ite
    | refine Keeps.foldl ?_ ?_ _ | split | dsimp only | (apply Keeps.upd (k := 65) <;> first | with_unfolding_all rfl | skip)

theorem drainChannel {allowed : Nat} {s0 s : State} (h : Keeps allowed s0 s) (c : Nat) (reason : Nat)
    (hm : sub 2437 allowed := by exact sub_trans (by assumption) (by decide)) :
    Keeps allowed s0 (State.drainChannel s c reason) := by
  unfold State.drainChannel
  with_reducible repeat' first
    | (intro _) | assumption | exact sub_trans hm (by decide) | apply Keeps.wantMove | apply Keeps.ite
    | refine Keeps.foldl ?_ ?_ _ | split | dsimp only | (apply Keeps.upd (k := 2437) <;> first | with_unfolding_all rfl | skip)

theorem rateEvent {allowed : Nat} {s0 s : State} (h : Keeps allowed s0 s) (c : Nat) (r : Nat) (n : Nat)
    (hm : sub 3461 allowed := by exact sub_trans (by assumption) (by decide)) :
    Keeps allowed s0 (State.rateEvent s c r n) := by
  unfold State.rateEvent
  with_reducible repeat' first
    | (intro _) | assumption | exact sub_trans hm (by decide) | apply Keeps.raise | apply Keeps.drainChannel | apply Keeps.ite
    | refine Keeps.foldl ?_ ?_ _ | split | dsimp only | (apply Keeps.upd (k := 3461) <;> first | with_unfolding_all rfl | skip)

theorem rateOne {allowed : Nat} {s0 s : State} (h : Keeps allowed s0 s) (l : Nat)
    (hm : sub 3525 allowed := by exact sub_trans (by assumption) (by decide)) :
    Keeps allowed s0 (State.rateOne s l) := by
  unfold State.rateOne
  with_reducible repeat' first
    | (intro _) | assumption | exact sub_trans hm (by decide) | apply Keeps.cMch | apply Keeps.setRate | apply Keeps.bump
    | apply Keeps.rateEvent | apply Keeps.ite | refine Keeps.foldl ?_ ?_ _ | split | dsimp only
    | (apply Keeps.upd (k := 3525) <;> first | with_unfolding_all rfl | skip)

theorem correct {allowed : Nat} {s0 s : State} (h : Keeps allowed s0 s) (l : Nat) (line : Nat) (word : Nat)
    (hm : sub 3525 allowed := by exact sub_trans (by assumption) (by decide)) :
    Keeps allowed s0 (State.correct s l line word) := by
  unfold State.correct
  with_reducible repeat' first
    | (intro _) | assumption | exact sub_trans hm (by decide) | apply Keeps.rateOne | apply Keeps.tallyOne | apply Keeps.ite
    | refine Keeps.foldl ?_ ?_ _ | split | dsimp only | (apply Keeps.upd (k := 3525) <;> first | with_unfolding_all rfl | skip)

theorem correctAll {allowed : Nat} {s0 s : State} (h : Keeps allowed s0 s) (l : Nat) (x : List (Nat × Nat))
    (hm : sub 3525 allowed := by exact sub_trans (by assumption) (by decide)) :
    Keeps allowed s0 (State.correctAll s l x) := by
  unfold State.correctAll
  with_reducible repeat' first
    | (intro _) | assumption | exact sub_trans hm (by decide) | apply Keeps.correct | apply Keeps.ite
    | refine Keeps.foldl ?_ ?_ _ | split | dsimp only | (apply Keeps.upd (k := 3525) <;> first | with_unfolding_all rfl | skip)

theorem clearTally {allowed : Nat} {s0 s : State} (h : Keeps allowed s0 s) (l : Nat)
    (hm : sub 65 allowed := by exact sub_trans (by assumption) (by decide)) :
    Keeps allowed s0 (State.clearTally s l) := by
  unfold State.clearTally
  with_reducible repeat' first
    | (intro _) | assumption | exact sub_trans hm (by decide) | apply Keeps.setTally | apply Keeps.ite
    | refine Keeps.foldl ?_ ?_ _ | split | dsimp only | (apply Keeps.upd (k := 65) <;> first | with_unfolding_all rfl | skip)

theorem decodeFailed {allowed : Nat} {s0 s : State} (h : Keeps allowed s0 s) (l : Nat)
    (hm : sub 68 allowed := by exact sub_trans (by assumption) (by decide)) :
    Keeps allowed s0 (State.decodeFailed s l) := by
  unfold State.decodeFailed
  with_reducible repeat' first
    | (intro _) | assumption | exact sub_trans hm (by decide) | apply Keeps.setChan | apply Keeps.raise | apply Keeps.ite
    | refine Keeps.foldl ?_ ?_ _ | split | dsimp only | (apply Keeps.upd (k := 68) <;> first | with_unfolding_all rfl | skip)

theorem uncorrectableRead {allowed : Nat} {s0 s : State} (h : Keeps allowed s0 s) (l : Nat) (line : Nat)
    (hm : sub 69 allowed := by exact sub_trans (by assumption) (by decide)) :
    Keeps allowed s0 (State.uncorrectableRead s l line) := by
  unfold State.uncorrectableRead
  with_reducible repeat' first
    | (intro _) | assumption | exact sub_trans hm (by decide) | apply Keeps.decodeFailed | apply Keeps.raiseAt
    | apply Keeps.bump | apply Keeps.ite | refine Keeps.foldl ?_ ?_ _ | split | dsimp only
    | (apply Keeps.upd (k := 69) <;> first | with_unfolding_all rfl | skip)

theorem setRead {allowed : Nat} {s0 s : State} (h : Keeps allowed s0 s) (r : OutRead)
    (hm : sub 8 allowed := by exact sub_trans (by assumption) (by decide)) :
    Keeps allowed s0 (State.setRead s r) := by
  unfold State.setRead
  with_reducible repeat' first
    | (intro _) | assumption | exact sub_trans hm (by decide) | apply Keeps.ite | refine Keeps.foldl ?_ ?_ _ | split
    | dsimp only | (apply Keeps.upd (k := 8) <;> first | with_unfolding_all rfl | skip)

theorem removeRead {allowed : Nat} {s0 s : State} (h : Keeps allowed s0 s) (id : Nat)
    (hm : sub 8 allowed := by exact sub_trans (by assumption) (by decide)) :
    Keeps allowed s0 (State.removeRead s id) := by
  unfold State.removeRead
  with_reducible repeat' first
    | (intro _) | assumption | exact sub_trans hm (by decide) | apply Keeps.ite | refine Keeps.foldl ?_ ?_ _ | split
    | dsimp only | (apply Keeps.upd (k := 8) <;> first | with_unfolding_all rfl | skip)

theorem answerRead {allowed : Nat} {s0 s : State} (h : Keeps allowed s0 s) (r : OutRead) (data : Line) (poison : Bool)
    (hm : sub 1048581 allowed := by exact sub_trans (by assumption) (by decide)) :
    Keeps allowed s0 (State.answerRead s r data poison) := by
  unfold State.answerRead
  with_reducible repeat' first
    | (intro _) | assumption | exact sub_trans hm (by decide) | apply Keeps.traffic | apply Keeps.send | apply Keeps.cWin
    | apply Keeps.ite | refine Keeps.foldl ?_ ?_ _ | split | dsimp only
    | (apply Keeps.upd (k := 1048581) <;> first | with_unfolding_all rfl | skip)

theorem noFill {allowed : Nat} {s0 s : State} (h : Keeps allowed s0 s) (r : OutRead)
    (hm : sub 37 allowed := by exact sub_trans (by assumption) (by decide)) :
    Keeps allowed s0 (State.noFill s r) := by
  unfold State.noFill
  with_reducible repeat' first
    | (intro _) | assumption | exact sub_trans hm (by decide) | apply Keeps.unreserve | apply Keeps.ite
    | refine Keeps.foldl ?_ ?_ _ | split | dsimp only | (apply Keeps.upd (k := 37) <;> first | with_unfolding_all rfl | skip)

theorem readPoison {allowed : Nat} {s0 s : State} (h : Keeps allowed s0 s) (r : OutRead)
    (hm : sub 1048621 allowed := by exact sub_trans (by assumption) (by decide)) :
    Keeps allowed s0 (State.readPoison s r) := by
  unfold State.readPoison
  with_reducible repeat' first
    | (intro _) | assumption | exact sub_trans hm (by decide) | apply Keeps.noFill | apply Keeps.removeRead
    | apply Keeps.answerRead | apply Keeps.ite | refine Keeps.foldl ?_ ?_ _ | split | dsimp only
    | (apply Keeps.upd (k := 1048621) <;> first | with_unfolding_all rfl | skip)

theorem readGood {allowed : Nat} {s0 s : State} (h : Keeps allowed s0 s) (r : OutRead) (x : Option LineData)
    (hm : sub 1048621 allowed := by exact sub_trans (by assumption) (by decide)) :
    Keeps allowed s0 (State.readGood s r x) := by
  unfold State.readGood
  with_reducible repeat' first
    | (intro _) | assumption | exact sub_trans hm (by decide) | apply Keeps.removeRead | apply Keeps.cLc | apply Keeps.fillLine
    | apply Keeps.noFill | apply Keeps.answerRead | apply Keeps.xtsLine | apply Keeps.ite | refine Keeps.foldl ?_ ?_ _ | split
    | dsimp only | (apply Keeps.upd (k := 1048621) <;> first | with_unfolding_all rfl | skip)

theorem setBank {allowed : Nat} {s0 s : State} (h : Keeps allowed s0 s) (b : Bank)
    (hm : sub 64 allowed := by exact sub_trans (by assumption) (by decide)) :
    Keeps allowed s0 (State.setBank s b) := by
  unfold State.setBank
  with_reducible repeat' first
    | (intro _) | assumption | exact sub_trans hm (by decide) | apply Keeps.ite | refine Keeps.foldl ?_ ?_ _ | split
    | dsimp only | (apply Keeps.upd (k := 64) <;> first | with_unfolding_all rfl | skip)

theorem setWrite {allowed : Nat} {s0 s : State} (h : Keeps allowed s0 s) (w : MediaWrite)
    (hm : sub 64 allowed := by exact sub_trans (by assumption) (by decide)) :
    Keeps allowed s0 (State.setWrite s w) := by
  unfold State.setWrite
  with_reducible repeat' first
    | (intro _) | assumption | exact sub_trans hm (by decide) | apply Keeps.ite | refine Keeps.foldl ?_ ?_ _ | split
    | dsimp only | (apply Keeps.upd (k := 64) <;> first | with_unfolding_all rfl | skip)

theorem startSegment {allowed : Nat} {s0 s : State} (h : Keeps allowed s0 s) (b : Bank) (w : MediaWrite)
    (hm : sub 68 allowed := by exact sub_trans (by assumption) (by decide)) :
    Keeps allowed s0 (State.startSegment s b w) := by
  unfold State.startSegment
  with_reducible repeat' first
    | (intro _) | assumption | exact sub_trans hm (by decide) | apply Keeps.cMch | apply Keeps.setBank | apply Keeps.setWrite
    | apply Keeps.ite | refine Keeps.foldl ?_ ?_ _ | split | dsimp only
    | (apply Keeps.upd (k := 68) <;> first | with_unfolding_all rfl | skip)

theorem issueRead {allowed : Nat} {s0 s : State} (h : Keeps allowed s0 s) (k : Nat) (id : Nat)
    (hm : sub 76 allowed := by exact sub_trans (by assumption) (by decide)) :
    Keeps allowed s0 (State.issueRead s k id) := by
  unfold State.issueRead
  with_reducible repeat' first
    | (intro _) | assumption | exact sub_trans hm (by decide) | apply Keeps.setBank | apply Keeps.setRead | apply Keeps.cMch
    | apply Keeps.ite | refine Keeps.foldl ?_ ?_ _ | split | dsimp only
    | (apply Keeps.upd (k := 76) <;> first | with_unfolding_all rfl | skip)

theorem bankNext {allowed : Nat} {s0 s : State} (h : Keeps allowed s0 s) (k : Nat)
    (hm : sub 76 allowed := by exact sub_trans (by assumption) (by decide)) :
    Keeps allowed s0 (State.bankNext s k) := by
  unfold State.bankNext
  with_reducible repeat' first
    | (intro _) | assumption | exact sub_trans hm (by decide) | apply Keeps.issueRead | apply Keeps.setBank
    | apply Keeps.setRead | apply Keeps.startSegment | apply Keeps.ite | refine Keeps.foldl ?_ ?_ _ | split | dsimp only
    | (apply Keeps.upd (k := 76) <;> first | with_unfolding_all rfl | skip)

theorem leaveBank {allowed : Nat} {s0 s : State} (h : Keeps allowed s0 s) (k : Nat) (id : Nat)
    (hm : sub 64 allowed := by exact sub_trans (by assumption) (by decide)) :
    Keeps allowed s0 (State.leaveBank s k id) := by
  unfold State.leaveBank
  with_reducible repeat' first
    | (intro _) | assumption | exact sub_trans hm (by decide) | apply Keeps.setBank | apply Keeps.ite
    | refine Keeps.foldl ?_ ?_ _ | split | dsimp only | (apply Keeps.upd (k := 64) <;> first | with_unfolding_all rfl | skip)

theorem showAdmit {allowed : Nat} {s0 s : State} (h : Keeps allowed s0 s)
    (hm : sub 1 allowed := by exact sub_trans (by assumption) (by decide)) :
    Keeps allowed s0 (State.showAdmit s) := by
  unfold State.showAdmit
  with_reducible repeat' first
    | (intro _) | assumption | exact sub_trans hm (by decide) | apply Keeps.put | apply Keeps.ite | refine Keeps.foldl ?_ ?_ _
    | split | dsimp only | (apply Keeps.upd (k := 1) <;> first | with_unfolding_all rfl | skip)

theorem admitRead {allowed : Nat} {s0 s : State} (h : Keeps allowed s0 s) (r : OutRead)
    (hm : sub 13 allowed := by exact sub_trans (by assumption) (by decide)) :
    Keeps allowed s0 (State.admitRead s r) := by
  unfold State.admitRead
  with_reducible repeat' first
    | (intro _) | assumption | exact sub_trans hm (by decide) | apply Keeps.cWin | apply Keeps.bump | apply Keeps.raise
    | apply Keeps.put | apply Keeps.ite | refine Keeps.foldl ?_ ?_ _ | split | dsimp only
    | (apply Keeps.upd (k := 13) <;> first | with_unfolding_all rfl | skip)

theorem missWay {allowed : Nat} {s0 s : State} (h : Keeps allowed s0 s) (line : Nat)
    (hm : sub 37 allowed := by exact sub_trans (by assumption) (by decide)) :
    Keeps allowed s0 (State.missWay s line).1 := by
  unfold State.missWay
  with_reducible repeat' first
    | (intro _) | assumption | exact sub_trans hm (by decide) | apply Keeps.allocWay | apply Keeps.cLc | apply Keeps.bump
    | refine Keeps.allocWay_eq ?_ (e := by assumption) | apply Keeps.ite | refine Keeps.foldl ?_ ?_ _ | split | dsimp only
    | (apply Keeps.upd (k := 37) <;> first | with_unfolding_all rfl | skip)

theorem missWay_eq {allowed : Nat} {s0 s : State} (h : Keeps allowed s0 s) {a1 : Nat} {t0 : State} {x} (e : State.missWay s a1 = (t0, x))
    (hm : sub 37 allowed := by exact sub_trans (by assumption) (by decide)) :
    Keeps allowed s0 t0 := by
  have g := Keeps.missWay h a1
  rw [e] at g
  exact g

theorem lookup {allowed : Nat} {s0 s : State} (h : Keeps allowed s0 s) (r : OutRead)
    (hm : sub 1049645 allowed := by exact sub_trans (by assumption) (by decide)) :
    Keeps allowed s0 (State.lookup s r) := by
  unfold State.lookup
  with_reducible repeat' first
    | (intro _) | assumption | exact sub_trans hm (by decide) | apply Keeps.heatUp | apply Keeps.answerRead
    | apply Keeps.traffic | apply Keeps.cHbm | apply Keeps.cLc | apply Keeps.ageHit | apply Keeps.xtsLine | apply Keeps.missWay
    | apply Keeps.admitRead | refine Keeps.missWay_eq ?_ (e := by assumption) | apply Keeps.ite | refine Keeps.foldl ?_ ?_ _
    | split | dsimp only | (apply Keeps.upd (k := 1049645) <;> first | with_unfolding_all rfl | skip)

theorem passFilter {allowed : Nat} {s0 s : State} (h : Keeps allowed s0 s) (r : OutRead)
    (hm : sub 1049645 allowed := by exact sub_trans (by assumption) (by decide)) :
    Keeps allowed s0 (State.passFilter s r) := by
  unfold State.passFilter
  with_reducible repeat' first
    | (intro _) | assumption | exact sub_trans hm (by decide) | apply Keeps.sfAllocate | apply Keeps.lookup
    | apply Keeps.raiseAt | apply Keeps.bump | refine Keeps.sfAllocate_eq ?_ (e := by assumption) | apply Keeps.ite
    | refine Keeps.foldl ?_ ?_ _ | split | dsimp only
    | (apply Keeps.upd (k := 1049645) <;> first | with_unfolding_all rfl | skip)

theorem resume {allowed : Nat} {s0 s : State} (h : Keeps allowed s0 s) (p : OutRead → Bool)
    (hm : sub 1049645 allowed := by exact sub_trans (by assumption) (by decide)) :
    Keeps allowed s0 (State.resume s p) := by
  unfold State.resume
  with_reducible repeat' first
    | (intro _) | assumption | exact sub_trans hm (by decide) | apply Keeps.passFilter | apply Keeps.ite
    | refine Keeps.foldl ?_ ?_ _ | split | dsimp only
    | (apply Keeps.upd (k := 1049645) <;> first | with_unfolding_all rfl | skip)

theorem resumeLine {allowed : Nat} {s0 s : State} (h : Keeps allowed s0 s) (line : Nat)
    (hm : sub 1049645 allowed := by exact sub_trans (by assumption) (by decide)) :
    Keeps allowed s0 (State.resumeLine s line) := by
  unfold State.resumeLine
  with_reducible repeat' first
    | (intro _) | assumption | exact sub_trans hm (by decide) | apply Keeps.resume | apply Keeps.ite
    | refine Keeps.foldl ?_ ?_ _ | split | dsimp only
    | (apply Keeps.upd (k := 1049645) <;> first | with_unfolding_all rfl | skip)

theorem redoHeld {allowed : Nat} {s0 s : State} (h : Keeps allowed s0 s)
    (hm : sub 1461757 allowed := by exact sub_trans (by assumption) (by decide)) :
    Keeps allowed s0 (State.redoHeld s) := by
  unfold State.redoHeld
  with_reducible repeat' first
    | (intro _) | assumption | exact sub_trans hm (by decide) | apply Keeps.windowWrite | apply Keeps.resumeLine
    | apply Keeps.ite | refine Keeps.foldl ?_ ?_ _ | split | dsimp only
    | (apply Keeps.upd (k := 1461757) <;> first | with_unfolding_all rfl | skip)

theorem poisonOffline {allowed : Nat} {s0 s : State} (h : Keeps allowed s0 s)
    (hm : sub 1048685 allowed := by exact sub_trans (by assumption) (by decide)) :
    Keeps allowed s0 (State.poisonOffline s) := by
  unfold State.poisonOffline
  with_reducible repeat' first
    | (intro _) | assumption | exact sub_trans hm (by decide) | apply Keeps.showAdmit | apply Keeps.readPoison
    | apply Keeps.leaveBank | apply Keeps.ite | refine Keeps.foldl ?_ ?_ _ | split | dsimp only
    | (apply Keeps.upd (k := 1048685) <;> first | with_unfolding_all rfl | skip)

theorem runBankReadArrival {allowed : Nat} {s0 s : State} (h : Keeps allowed s0 s) (read : Nat)
    (hm : sub 1048685 allowed := by exact sub_trans (by assumption) (by decide)) :
    KeepsOut allowed s0 (execBankReadArrival read s) := by
  unfold execBankReadArrival
  refine Keeps.next ?_
  with_reducible repeat' first
    | (intro _) | assumption | exact sub_trans hm (by decide) | apply Keeps.readPoison | apply Keeps.cMch | apply Keeps.setBank
    | apply Keeps.setRead | apply Keeps.bankNext | apply Keeps.ite | refine Keeps.foldl ?_ ?_ _ | split | dsimp only
    | (apply Keeps.upd (k := 1048685) <;> first | with_unfolding_all rfl | skip)

theorem bankFreed {allowed : Nat} {s0 s : State} (h : Keeps allowed s0 s) (k : Nat)
    (hm : sub 76 allowed := by exact sub_trans (by assumption) (by decide)) :
    Keeps allowed s0 (State.bankFreed s k) := by
  unfold State.bankFreed
  with_reducible repeat' first
    | (intro _) | assumption | exact sub_trans hm (by decide) | apply Keeps.bankNext | apply Keeps.ite
    | refine Keeps.foldl ?_ ?_ _ | split | dsimp only | (apply Keeps.upd (k := 76) <;> first | with_unfolding_all rfl | skip)

theorem fetchSlot {allowed : Nat} {s0 s : State} (h : Keeps allowed s0 s) (l : Nat)
    (hm : sub 64 allowed := by exact sub_trans (by assumption) (by decide)) :
    Keeps allowed s0 (State.fetchSlot s l) := by
  unfold State.fetchSlot
  with_reducible repeat' first
    | (intro _) | assumption | exact sub_trans hm (by decide) | apply Keeps.checkRoom | apply Keeps.ite
    | refine Keeps.foldl ?_ ?_ _ | split | dsimp only | (apply Keeps.upd (k := 64) <;> first | with_unfolding_all rfl | skip)

theorem runArrayReadComplete {allowed : Nat} {s0 s : State} (h : Keeps allowed s0 s) (read : Nat) (decode : LightDecode)
    (hm : sub 1052141 allowed := by exact sub_trans (by assumption) (by decide)) :
    KeepsOut allowed s0 (execArrayReadComplete read decode s) := by
  unfold execArrayReadComplete
  refine Keeps.next ?_
  with_reducible repeat' first
    | (intro _) | assumption | exact sub_trans hm (by decide) | apply Keeps.leaveBank | apply Keeps.bankFreed
    | apply Keeps.readPoison | apply Keeps.readGood | apply Keeps.correctAll | apply Keeps.setBank | apply Keeps.setRead
    | apply Keeps.fetchSlot | apply Keeps.cMch | apply Keeps.uncorrectableRead | apply Keeps.ite | refine Keeps.foldl ?_ ?_ _
    | split | dsimp only | (apply Keeps.upd (k := 1052141) <;> first | with_unfolding_all rfl | skip)

theorem runPageReadComplete {allowed : Nat} {s0 s : State} (h : Keeps allowed s0 s) (read : Nat) (corrected : List (Nat × Nat)) (uncorrectable : List Nat)
    (hm : sub 1052141 allowed := by exact sub_trans (by assumption) (by decide)) :
    KeepsOut allowed s0 (execPageReadComplete read corrected uncorrectable s) := by
  unfold execPageReadComplete
  refine Keeps.next ?_
  with_reducible repeat' first
    | (intro _) | assumption | exact sub_trans hm (by decide) | apply Keeps.leaveBank | apply Keeps.setBank
    | apply Keeps.correctAll | apply Keeps.readPoison | apply Keeps.readGood | apply Keeps.cMch | apply Keeps.setRead
    | apply Keeps.bankNext | apply Keeps.ite | refine Keeps.foldl ?_ ?_ _ | split | dsimp only
    | (apply Keeps.upd (k := 1052141) <;> first | with_unfolding_all rfl | skip)

theorem runStrongDecodeComplete {allowed : Nat} {s0 s : State} (h : Keeps allowed s0 s) (read : Nat) (corrected : List (Nat × Nat)) (success : Bool)
    (hm : sub 1052141 allowed := by exact sub_trans (by assumption) (by decide)) :
    KeepsOut allowed s0 (execStrongDecodeComplete read corrected success s) := by
  unfold execStrongDecodeComplete
  refine Keeps.next ?_
  with_reducible repeat' first
    | (intro _) | assumption | exact sub_trans hm (by decide) | apply Keeps.readGood | apply Keeps.correctAll
    | apply Keeps.readPoison | apply Keeps.uncorrectableRead | apply Keeps.ite | refine Keeps.foldl ?_ ?_ _ | split | dsimp only
    | (apply Keeps.upd (k := 1052141) <;> first | with_unfolding_all rfl | skip)

theorem discardRead {allowed : Nat} {s0 s : State} (h : Keeps allowed s0 s) (r : OutRead)
    (hm : sub 109 allowed := by exact sub_trans (by assumption) (by decide)) :
    Keeps allowed s0 (State.discardRead s r) := by
  unfold State.discardRead
  with_reducible repeat' first
    | (intro _) | assumption | exact sub_trans hm (by decide) | apply Keeps.noFill | apply Keeps.leaveBank
    | apply Keeps.removeRead | apply Keeps.ite | refine Keeps.foldl ?_ ?_ _ | split | dsimp only
    | (apply Keeps.upd (k := 109) <;> first | with_unfolding_all rfl | skip)

theorem discardReads {allowed : Nat} {s0 s : State} (h : Keeps allowed s0 s) (p : OutRead → Bool)
    (hm : sub 109 allowed := by exact sub_trans (by assumption) (by decide)) :
    Keeps allowed s0 (State.discardReads s p) := by
  unfold State.discardReads
  with_reducible repeat' first
    | (intro _) | assumption | exact sub_trans hm (by decide) | apply Keeps.discardRead | apply Keeps.showAdmit
    | apply Keeps.bankNext | apply Keeps.ite | refine Keeps.foldl ?_ ?_ _ | split | dsimp only
    | (apply Keeps.upd (k := 109) <;> first | with_unfolding_all rfl | skip)

theorem forgetLink {allowed : Nat} {s0 s : State} (h : Keeps allowed s0 s) (l : Nat)
    (hm : sub 8 allowed := by exact sub_trans (by assumption) (by decide)) :
    Keeps allowed s0 (State.forgetLink s l) := by
  unfold State.forgetLink
  with_reducible repeat' first
    | (intro _) | assumption | exact sub_trans hm (by decide) | apply Keeps.ite | refine Keeps.foldl ?_ ?_ _ | split
    | dsimp only | (apply Keeps.upd (k := 8) <;> first | with_unfolding_all rfl | skip)

theorem refuseLd {allowed : Nat} {s0 s : State} (h : Keeps allowed s0 s) (n : Nat) (off : Nat)
    (hm : sub 4 allowed := by exact sub_trans (by assumption) (by decide)) :
    Keeps allowed s0 (State.refuseLd s n off) := by
  unfold State.refuseLd
  with_reducible repeat' first
    | (intro _) | assumption | exact sub_trans hm (by decide) | apply Keeps.raise | apply Keeps.ite | refine Keeps.foldl ?_ ?_ _
    | split | dsimp only | (apply Keeps.upd (k := 4) <;> first | with_unfolding_all rfl | skip)

theorem undecoded {allowed : Nat} {s0 s : State} (h : Keeps allowed s0 s) (link : Nat) (ld : Nat) (hpa : Nat)
    (hm : sub 4 allowed := by exact sub_trans (by assumption) (by decide)) :
    Keeps allowed s0 (State.undecoded s link ld hpa) := by
  unfold State.undecoded
  with_reducible repeat' first
    | (intro _) | assumption | exact sub_trans hm (by decide) | apply Keeps.raise | apply Keeps.ite | refine Keeps.foldl ?_ ?_ _
    | split | dsimp only | (apply Keeps.upd (k := 4) <;> first | with_unfolding_all rfl | skip)

theorem cxlWrite {allowed : Nat} {s0 s : State} (h : Keeps allowed s0 s) (link : Nat) (ld : Nat) (tag : Nat) (hpa : Nat) (mask : Mask) (data : Line) (poison : Bool)
    (hm : sub 1461757 allowed := by exact sub_trans (by assumption) (by decide)) :
    Keeps allowed s0 (State.cxlWrite s link ld tag hpa mask data poison) := by
  unfold State.cxlWrite
  with_reducible repeat' first
    | (intro _) | assumption | exact sub_trans hm (by decide) | apply Keeps.traffic | apply Keeps.cWin | apply Keeps.windowWrite
    | apply Keeps.undecoded | apply Keeps.returnCredit | apply Keeps.send | apply Keeps.ite | refine Keeps.foldl ?_ ?_ _ | split
    | dsimp only | (apply Keeps.upd (k := 1461757) <;> first | with_unfolding_all rfl | skip)

theorem reply {allowed : Nat} {s0 s : State} (h : Keeps allowed s0 s) (ld : Nat) (op : Nat) (c : MboxCode) (l : List Nat)
    (hm : sub 1048576 allowed := by exact sub_trans (by assumption) (by decide)) :
    Keeps allowed s0 (State.reply s ld op c l) := by
  unfold State.reply
  with_reducible repeat' first
    | (intro _) | assumption | exact sub_trans hm (by decide) | apply Keeps.send | apply Keeps.ite | refine Keeps.foldl ?_ ?_ _
    | split | dsimp only | (apply Keeps.upd (k := 1048576) <;> first | with_unfolding_all rfl | skip)

theorem mgmtOnly {allowed : Nat} {s0 s : State} (h : Keeps allowed s0 s) (ld : Nat) (op : Nat) (f : State → State) (hf : ∀ t, Keeps allowed s0 t → Keeps allowed s0 (f t))
    (hm : sub 1048576 allowed := by exact sub_trans (by assumption) (by decide)) :
    Keeps allowed s0 (State.mgmtOnly s ld op f) := by
  unfold State.mgmtOnly
  with_reducible repeat' first
    | (intro _) | assumption | exact sub_trans hm (by decide) | apply hf | apply Keeps.reply | apply Keeps.ite
    | refine Keeps.foldl ?_ ?_ _ | split | dsimp only
    | (apply Keeps.upd (k := 1048576) <;> first | with_unfolding_all rfl | skip)

theorem anyLd {allowed : Nat} {s0 s : State} (h : Keeps allowed s0 s) (ld : Nat) (f : State → State) (hf : ∀ t, Keeps allowed s0 t → Keeps allowed s0 (f t))
    (hm : sub 0 allowed := by exact sub_trans (by assumption) (by decide)) :
    Keeps allowed s0 (State.anyLd s ld f) := by
  unfold State.anyLd
  with_reducible repeat' first
    | (intro _) | assumption | exact sub_trans hm (by decide) | apply hf | apply Keeps.ite | refine Keeps.foldl ?_ ?_ _ | split
    | dsimp only | (apply Keeps.upd (k := 0) <;> first | with_unfolding_all rfl | skip)

theorem runCxlLinkTrained {allowed : Nat} {s0 s : State} (h : Keeps allowed s0 s) (link : Nat) (width : Nat) (rate : Nat)
    (hm : sub 5 allowed := by exact sub_trans (by assumption) (by decide)) :
    KeepsOut allowed s0 (execCxlLinkTrained link width rate s) := by
  unfold execCxlLinkTrained
  refine Keeps.next ?_
  with_reducible repeat' first
    | (intro _) | assumption | exact sub_trans hm (by decide) | apply Keeps.setBit | apply Keeps.raise | apply Keeps.ite
    | refine Keeps.foldl ?_ ?_ _ | split | dsimp only | (apply Keeps.upd (k := 5) <;> first | with_unfolding_all rfl | skip)

theorem linkDown {allowed : Nat} {s0 s : State} (h : Keeps allowed s0 s) (link : Nat)
    (hm : sub 109 allowed := by exact sub_trans (by assumption) (by decide)) :
    Keeps allowed s0 (State.linkDown s link) := by
  unfold State.linkDown
  with_reducible repeat' first
    | (intro _) | assumption | exact sub_trans hm (by decide) | apply Keeps.raise | apply Keeps.setBit | apply Keeps.forgetLink
    | apply Keeps.discardReads | apply Keeps.ite | refine Keeps.foldl ?_ ?_ _ | split | dsimp only
    | (apply Keeps.upd (k := 109) <;> first | with_unfolding_all rfl | skip)

theorem runWinLdBindWrite {allowed : Nat} {s0 s : State} (h : Keeps allowed s0 s) (ld : Nat) (value : BitVec 32)
    (hm : sub 67973 allowed := by exact sub_trans (by assumption) (by decide)) :
    KeepsOut allowed s0 (execWinLdBindWrite ld value s) := by
  unfold execWinLdBindWrite
  refine Keeps.next ?_
  with_reducible repeat' first
    | (intro _) | assumption | exact sub_trans hm (by decide) | apply Keeps.setReg | apply Keeps.refuseLd | apply Keeps.touchKey
    | apply Keeps.tidyHints | apply Keeps.ite | refine Keeps.foldl ?_ ?_ _ | split | dsimp only
    | (apply Keeps.upd (k := 67973) <;> first | with_unfolding_all rfl | skip)

theorem runWinLdExtentWrite {allowed : Nat} {s0 s : State} (h : Keeps allowed s0 s) (ld : Nat) (extent : Nat) (value : BitVec 64)
    (hm : sub 2437 allowed := by exact sub_trans (by assumption) (by decide)) :
    KeepsOut allowed s0 (execWinLdExtentWrite ld extent value s) := by
  unfold execWinLdExtentWrite
  refine Keeps.next ?_
  with_reducible repeat' first
    | (intro _) | assumption | exact sub_trans hm (by decide) | apply Keeps.setReg | apply Keeps.refuseLd
    | apply Keeps.tidyHints | apply Keeps.ite | refine Keeps.foldl ?_ ?_ _ | split | dsimp only
    | (apply Keeps.upd (k := 2437) <;> first | with_unfolding_all rfl | skip)

theorem runHdmDecoderCommit {allowed : Nat} {s0 s : State} (h : Keeps allowed s0 s) (ld : Nat) (decoder : Nat) (base : Nat) (size : Nat) (ways : Nat) (granularity : Nat) (skip : Nat) (position : Nat) (bi : Bool) (biEnabled : Bool)
    (hm : sub 1048588 allowed := by exact sub_trans (by assumption) (by decide)) :
    KeepsOut allowed s0 (execHdmDecoderCommit ld decoder base size ways granularity skip position bi biEnabled s) := by
  unfold execHdmDecoderCommit
  refine Keeps.next ?_
  with_reducible repeat' first
    | (intro _) | assumption | exact sub_trans hm (by decide) | apply Keeps.send | apply Keeps.raise | apply Keeps.ite
    | refine Keeps.foldl ?_ ?_ _ | split | dsimp only
    | (apply Keeps.upd (k := 1048588) <;> first | with_unfolding_all rfl | skip)

theorem runCxlMemRead {allowed : Nat} {s0 s : State} (h : Keeps allowed s0 s) (link : Nat) (ld : Nat) (tag : Nat) (hpa : Nat) (cacheable : Bool)
    (hm : sub 1049645 allowed := by exact sub_trans (by assumption) (by decide)) :
    KeepsOut allowed s0 (execCxlMemRead link ld tag hpa cacheable s) := by
  unfold execCxlMemRead
  refine Keeps.next ?_
  with_reducible repeat' first
    | (intro _) | assumption | exact sub_trans hm (by decide) | apply Keeps.cWin | apply Keeps.send | apply Keeps.undecoded
    | apply Keeps.passFilter | apply Keeps.ite | refine Keeps.foldl ?_ ?_ _ | split | dsimp only
    | (apply Keeps.upd (k := 1049645) <;> first | with_unfolding_all rfl | skip)

theorem runMemwr {allowed : Nat} {s0 s : State} (h : Keeps allowed s0 s) (link : Nat) (ld : Nat) (tag : Nat) (hpa : Nat) (data : BitVec 512) (poison : Bool)
    (hm : sub 1461757 allowed := by exact sub_trans (by assumption) (by decide)) :
    KeepsOut allowed s0 (execMemwr link ld tag hpa data poison s) := by
  unfold execMemwr
  refine Keeps.next ?_
  with_reducible repeat' first
    | (intro _) | assumption | exact sub_trans hm (by decide) | apply Keeps.cxlWrite | apply Keeps.ite
    | refine Keeps.foldl ?_ ?_ _ | split | dsimp only
    | (apply Keeps.upd (k := 1461757) <;> first | with_unfolding_all rfl | skip)

theorem runMemwrptl {allowed : Nat} {s0 s : State} (h : Keeps allowed s0 s) (link : Nat) (ld : Nat) (tag : Nat) (hpa : Nat) (data : BitVec 512) (mask : BitVec 64) (poison : Bool)
    (hm : sub 1461757 allowed := by exact sub_trans (by assumption) (by decide)) :
    KeepsOut allowed s0 (execMemwrptl link ld tag hpa data mask poison s) := by
  unfold execMemwrptl
  refine Keeps.next ?_
  with_reducible repeat' first
    | (intro _) | assumption | exact sub_trans hm (by decide) | apply Keeps.cWin | apply Keeps.cxlWrite | apply Keeps.ite
    | refine Keeps.foldl ?_ ?_ _ | split | dsimp only
    | (apply Keeps.upd (k := 1461757) <;> first | with_unfolding_all rfl | skip)

theorem runSfEvictionComplete {allowed : Nat} {s0 s : State} (h : Keeps allowed s0 s) (sector : Nat)
    (hm : sub 1049645 allowed := by exact sub_trans (by assumption) (by decide)) :
    KeepsOut allowed s0 (execSfEvictionComplete sector s) := by
  unfold execSfEvictionComplete
  refine Keeps.next ?_
  with_reducible repeat' first
    | (intro _) | assumption | exact sub_trans hm (by decide) | apply Keeps.resume | apply Keeps.ite
    | refine Keeps.foldl ?_ ?_ _ | split | dsimp only
    | (apply Keeps.upd (k := 1049645) <;> first | with_unfolding_all rfl | skip)

theorem runAdmissionRelease {allowed : Nat} {s0 s : State} (h : Keeps allowed s0 s) (read : Nat)
    (hm : sub 9 allowed := by exact sub_trans (by assumption) (by decide)) :
    KeepsOut allowed s0 (execAdmissionRelease read s) := by
  unfold execAdmissionRelease
  refine Keeps.next ?_
  with_reducible repeat' first
    | (intro _) | assumption | exact sub_trans hm (by decide) | apply Keeps.showAdmit | apply Keeps.setRead | apply Keeps.ite
    | refine Keeps.foldl ?_ ?_ _ | split | dsimp only | (apply Keeps.upd (k := 9) <;> first | with_unfolding_all rfl | skip)

theorem runReadDeadline {allowed : Nat} {s0 s : State} (h : Keeps allowed s0 s) (read : Nat)
    (hm : sub 1048589 allowed := by exact sub_trans (by assumption) (by decide)) :
    KeepsOut allowed s0 (execReadDeadline read s) := by
  unfold execReadDeadline
  refine Keeps.next ?_
  with_reducible repeat' first
    | (intro _) | assumption | exact sub_trans hm (by decide) | apply Keeps.cWin | apply Keeps.bump | apply Keeps.raiseAt
    | apply Keeps.answerRead | apply Keeps.removeRead | apply Keeps.setRead | apply Keeps.ite | refine Keeps.foldl ?_ ?_ _
    | split | dsimp only | (apply Keeps.upd (k := 1048589) <;> first | with_unfolding_all rfl | skip)

theorem runClearentry {allowed : Nat} {s0 s : State} (h : Keeps allowed s0 s)
    (hm : sub 2437 allowed := by exact sub_trans (by assumption) (by decide)) :
    KeepsOut allowed s0 (execClearentry s) := by
  unfold execClearentry
  refine Keeps.next ?_
  with_reducible repeat' first
    | (intro _) | assumption | exact sub_trans hm (by decide) | apply Keeps.raise | apply Keeps.journal | apply Keeps.ite
    | refine Keeps.foldl ?_ ?_ _ | split | dsimp only | (apply Keeps.upd (k := 2437) <;> first | with_unfolding_all rfl | skip)

theorem runClearall {allowed : Nat} {s0 s : State} (h : Keeps allowed s0 s)
    (hm : sub 2437 allowed := by exact sub_trans (by assumption) (by decide)) :
    KeepsOut allowed s0 (execClearall s) := by
  unfold execClearall
  refine Keeps.next ?_
  with_reducible repeat' first
    | (intro _) | assumption | exact sub_trans hm (by decide) | apply Keeps.raise | apply Keeps.journal | apply Keeps.ite
    | refine Keeps.foldl ?_ ?_ _ | split | dsimp only | (apply Keeps.upd (k := 2437) <;> first | with_unfolding_all rfl | skip)

theorem runClearoverflow {allowed : Nat} {s0 s : State} (h : Keeps allowed s0 s)
    (hm : sub 2437 allowed := by exact sub_trans (by assumption) (by decide)) :
    KeepsOut allowed s0 (execClearoverflow s) := by
  unfold execClearoverflow
  refine Keeps.next ?_
  with_reducible repeat' first
    | (intro _) | assumption | exact sub_trans hm (by decide) | apply Keeps.raise | apply Keeps.journal | apply Keeps.ite
    | refine Keeps.foldl ?_ ?_ _ | split | dsimp only | (apply Keeps.upd (k := 2437) <;> first | with_unfolding_all rfl | skip)

theorem runGpfPhase1 {allowed : Nat} {s0 s : State} (h : Keeps allowed s0 s) (link : Nat)
    (hm : sub 1048588 allowed := by exact sub_trans (by assumption) (by decide)) :
    KeepsOut allowed s0 (execGpfPhase1 link s) := by
  unfold execGpfPhase1
  refine Keeps.next ?_
  with_reducible repeat' first
    | (intro _) | assumption | exact sub_trans hm (by decide) | apply Keeps.raise | apply Keeps.send | apply Keeps.ite
    | refine Keeps.foldl ?_ ?_ _ | split | dsimp only
    | (apply Keeps.upd (k := 1048588) <;> first | with_unfolding_all rfl | skip)

theorem runGpfPhase2 {allowed : Nat} {s0 s : State} (h : Keeps allowed s0 s) (link : Nat)
    (hm : sub 1048589 allowed := by exact sub_trans (by assumption) (by decide)) :
    KeepsOut allowed s0 (execGpfPhase2 link s) := by
  unfold execGpfPhase2
  refine Keeps.next ?_
  with_reducible repeat' first
    | (intro _) | assumption | exact sub_trans hm (by decide) | apply Keeps.raise | apply Keeps.send | apply Keeps.returnCredit
    | apply Keeps.ite | refine Keeps.foldl ?_ ?_ _ | split | dsimp only
    | (apply Keeps.upd (k := 1048589) <;> first | with_unfolding_all rfl | skip)

theorem runGetEventRecords {allowed : Nat} {s0 s : State} (h : Keeps allowed s0 s) (ld : Nat) (log : Nat)
    (hm : sub 1048576 allowed := by exact sub_trans (by assumption) (by decide)) :
    KeepsOut allowed s0 (execGetEventRecords ld log s) := by
  unfold execGetEventRecords
  refine Keeps.next ?_
  with_reducible repeat' first
    | (intro _) | assumption | exact sub_trans hm (by decide) | apply Keeps.anyLd | apply Keeps.reply | apply Keeps.ite
    | refine Keeps.foldl ?_ ?_ _ | split | dsimp only
    | (apply Keeps.upd (k := 1048576) <;> first | with_unfolding_all rfl | skip)

theorem runClearEventRecords {allowed : Nat} {s0 s : State} (h : Keeps allowed s0 s) (ld : Nat) (log : Nat) (handles : List Nat) (all : Bool)
    (hm : sub 1048584 allowed := by exact sub_trans (by assumption) (by decide)) :
    KeepsOut allowed s0 (execClearEventRecords ld log handles all s) := by
  unfold execClearEventRecords
  refine Keeps.next ?_
  with_reducible repeat' first
    | (intro _) | assumption | exact sub_trans hm (by decide) | apply Keeps.anyLd | apply Keeps.reply | apply Keeps.ite
    | refine Keeps.foldl ?_ ?_ _ | split | dsimp only
    | (apply Keeps.upd (k := 1048584) <;> first | with_unfolding_all rfl | skip)

theorem runGetEventInterruptPolicy {allowed : Nat} {s0 s : State} (h : Keeps allowed s0 s) (ld : Nat)
    (hm : sub 1048576 allowed := by exact sub_trans (by assumption) (by decide)) :
    KeepsOut allowed s0 (execGetEventInterruptPolicy ld s) := by
  unfold execGetEventInterruptPolicy
  refine Keeps.next ?_
  with_reducible repeat' first
    | (intro _) | assumption | exact sub_trans hm (by decide) | apply Keeps.anyLd | apply Keeps.reply | apply Keeps.ite
    | refine Keeps.foldl ?_ ?_ _ | split | dsimp only
    | (apply Keeps.upd (k := 1048576) <;> first | with_unfolding_all rfl | skip)

theorem runSetEventInterruptPolicy {allowed : Nat} {s0 s : State} (h : Keeps allowed s0 s) (ld : Nat) (policy : BitVec 32)
    (hm : sub 1048584 allowed := by exact sub_trans (by assumption) (by decide)) :
    KeepsOut allowed s0 (execSetEventInterruptPolicy ld policy s) := by
  unfold execSetEventInterruptPolicy
  refine Keeps.next ?_
  with_reducible repeat' first
    | (intro _) | assumption | exact sub_trans hm (by decide) | apply Keeps.anyLd | apply Keeps.reply | apply Keeps.ite
    | refine Keeps.foldl ?_ ?_ _ | split | dsimp only
    | (apply Keeps.upd (k := 1048584) <;> first | with_unfolding_all rfl | skip)

theorem runGetTimestamp {allowed : Nat} {s0 s : State} (h : Keeps allowed s0 s) (ld : Nat)
    (hm : sub 1048576 allowed := by exact sub_trans (by assumption) (by decide)) :
    KeepsOut allowed s0 (execGetTimestamp ld s) := by
  unfold execGetTimestamp
  refine Keeps.next ?_
  with_reducible repeat' first
    | (intro _) | assumption | exact sub_trans hm (by decide) | apply Keeps.anyLd | apply Keeps.reply | apply Keeps.ite
    | refine Keeps.foldl ?_ ?_ _ | split | dsimp only
    | (apply Keeps.upd (k := 1048576) <;> first | with_unfolding_all rfl | skip)

theorem runSetTimestamp {allowed : Nat} {s0 s : State} (h : Keeps allowed s0 s) (ld : Nat) (value : BitVec 64)
    (hm : sub 3145735 allowed := by exact sub_trans (by assumption) (by decide)) :
    KeepsOut allowed s0 (execSetTimestamp ld value s) := by
  unfold execSetTimestamp
  refine Keeps.next ?_
  with_reducible repeat' first
    | (intro _) | assumption | exact sub_trans hm (by decide) | apply Keeps.mgmtOnly | apply Keeps.reply | apply Keeps.tbSet
    | apply Keeps.ite | refine Keeps.foldl ?_ ?_ _ | split | dsimp only
    | (apply Keeps.upd (k := 3145735) <;> first | with_unfolding_all rfl | skip)

theorem runGetSupportedLogs {allowed : Nat} {s0 s : State} (h : Keeps allowed s0 s) (ld : Nat)
    (hm : sub 3145728 allowed := by exact sub_trans (by assumption) (by decide)) :
    KeepsOut allowed s0 (execGetSupportedLogs ld s) := by
  unfold execGetSupportedLogs
  refine Keeps.next ?_
  with_reducible repeat' first
    | (intro _) | assumption | exact sub_trans hm (by decide) | apply Keeps.anyLd | apply Keeps.drew | apply Keeps.reply
    | apply Keeps.ite | refine Keeps.foldl ?_ ?_ _ | split | dsimp only
    | (apply Keeps.upd (k := 3145728) <;> first | with_unfolding_all rfl | skip)

theorem runGetLog {allowed : Nat} {s0 s : State} (h : Keeps allowed s0 s) (ld : Nat) (log : Nat) (offset : Nat) (length : Nat)
    (hm : sub 3145728 allowed := by exact sub_trans (by assumption) (by decide)) :
    KeepsOut allowed s0 (execGetLog ld log offset length s) := by
  unfold execGetLog
  refine Keeps.next ?_
  with_reducible repeat' first
    | (intro _) | assumption | exact sub_trans hm (by decide) | apply Keeps.anyLd | apply Keeps.drew | apply Keeps.reply
    | apply Keeps.ite | refine Keeps.foldl ?_ ?_ _ | split | dsimp only
    | (apply Keeps.upd (k := 3145728) <;> first | with_unfolding_all rfl | skip)

theorem runIdentifyMemoryDevice {allowed : Nat} {s0 s : State} (h : Keeps allowed s0 s) (ld : Nat)
    (hm : sub 1048576 allowed := by exact sub_trans (by assumption) (by decide)) :
    KeepsOut allowed s0 (execIdentifyMemoryDevice ld s) := by
  unfold execIdentifyMemoryDevice
  refine Keeps.next ?_
  with_reducible repeat' first
    | (intro _) | assumption | exact sub_trans hm (by decide) | apply Keeps.anyLd | apply Keeps.reply | apply Keeps.ite
    | refine Keeps.foldl ?_ ?_ _ | split | dsimp only
    | (apply Keeps.upd (k := 1048576) <;> first | with_unfolding_all rfl | skip)

theorem runGetPartitionInfo {allowed : Nat} {s0 s : State} (h : Keeps allowed s0 s) (ld : Nat)
    (hm : sub 1048576 allowed := by exact sub_trans (by assumption) (by decide)) :
    KeepsOut allowed s0 (execGetPartitionInfo ld s) := by
  unfold execGetPartitionInfo
  refine Keeps.next ?_
  with_reducible repeat' first
    | (intro _) | assumption | exact sub_trans hm (by decide) | apply Keeps.anyLd | apply Keeps.reply | apply Keeps.ite
    | refine Keeps.foldl ?_ ?_ _ | split | dsimp only
    | (apply Keeps.upd (k := 1048576) <;> first | with_unfolding_all rfl | skip)

theorem runGetHealthInfo {allowed : Nat} {s0 s : State} (h : Keeps allowed s0 s) (ld : Nat)
    (hm : sub 1048576 allowed := by exact sub_trans (by assumption) (by decide)) :
    KeepsOut allowed s0 (execGetHealthInfo ld s) := by
  unfold execGetHealthInfo
  refine Keeps.next ?_
  with_reducible repeat' first
    | (intro _) | assumption | exact sub_trans hm (by decide) | apply Keeps.anyLd | apply Keeps.reply | apply Keeps.ite
    | refine Keeps.foldl ?_ ?_ _ | split | dsimp only
    | (apply Keeps.upd (k := 1048576) <;> first | with_unfolding_all rfl | skip)

theorem runGetAlertConfiguration {allowed : Nat} {s0 s : State} (h : Keeps allowed s0 s) (ld : Nat)
    (hm : sub 1048576 allowed := by exact sub_trans (by assumption) (by decide)) :
    KeepsOut allowed s0 (execGetAlertConfiguration ld s) := by
  unfold execGetAlertConfiguration
  refine Keeps.next ?_
  with_reducible repeat' first
    | (intro _) | assumption | exact sub_trans hm (by decide) | apply Keeps.anyLd | apply Keeps.reply | apply Keeps.ite
    | refine Keeps.foldl ?_ ?_ _ | split | dsimp only
    | (apply Keeps.upd (k := 1048576) <;> first | with_unfolding_all rfl | skip)

theorem runSetAlertConfiguration {allowed : Nat} {s0 s : State} (h : Keeps allowed s0 s) (ld : Nat) (alerts : BitVec 64)
    (hm : sub 1048584 allowed := by exact sub_trans (by assumption) (by decide)) :
    KeepsOut allowed s0 (execSetAlertConfiguration ld alerts s) := by
  unfold execSetAlertConfiguration
  refine Keeps.next ?_
  with_reducible repeat' first
    | (intro _) | assumption | exact sub_trans hm (by decide) | apply Keeps.anyLd | apply Keeps.reply | apply Keeps.ite
    | refine Keeps.foldl ?_ ?_ _ | split | dsimp only
    | (apply Keeps.upd (k := 1048584) <;> first | with_unfolding_all rfl | skip)

theorem runGetPoisonList {allowed : Nat} {s0 s : State} (h : Keeps allowed s0 s) (ld : Nat) (dpa : Nat) (length : Nat) (limit : Nat)
    (hm : sub 1048576 allowed := by exact sub_trans (by assumption) (by decide)) :
    KeepsOut allowed s0 (execGetPoisonList ld dpa length limit s) := by
  unfold execGetPoisonList
  refine Keeps.next ?_
  with_reducible repeat' first
    | (intro _) | assumption | exact sub_trans hm (by decide) | apply Keeps.anyLd | apply Keeps.reply | apply Keeps.ite
    | refine Keeps.foldl ?_ ?_ _ | split | dsimp only
    | (apply Keeps.upd (k := 1048576) <;> first | with_unfolding_all rfl | skip)

theorem runInjectPoison {allowed : Nat} {s0 s : State} (h : Keeps allowed s0 s) (ld : Nat) (dpa : Nat)
    (hm : sub 1461757 allowed := by exact sub_trans (by assumption) (by decide)) :
    KeepsOut allowed s0 (execInjectPoison ld dpa s) := by
  unfold execInjectPoison
  refine Keeps.next ?_
  with_reducible repeat' first
    | (intro _) | assumption | exact sub_trans hm (by decide) | apply Keeps.mgmtOnly | apply Keeps.reply
    | apply Keeps.windowWrite | apply Keeps.ite | refine Keeps.foldl ?_ ?_ _ | split | dsimp only
    | (apply Keeps.upd (k := 1461757) <;> first | with_unfolding_all rfl | skip)

theorem runClearPoison {allowed : Nat} {s0 s : State} (h : Keeps allowed s0 s) (ld : Nat) (dpa : Nat) (data : BitVec 512)
    (hm : sub 1461757 allowed := by exact sub_trans (by assumption) (by decide)) :
    KeepsOut allowed s0 (execClearPoison ld dpa data s) := by
  unfold execClearPoison
  refine Keeps.next ?_
  with_reducible repeat' first
    | (intro _) | assumption | exact sub_trans hm (by decide) | apply Keeps.anyLd | apply Keeps.reply | apply Keeps.windowWrite
    | apply Keeps.ite | refine Keeps.foldl ?_ ?_ _ | split | dsimp only
    | (apply Keeps.upd (k := 1461757) <;> first | with_unfolding_all rfl | skip)

theorem runUnsupportedMailboxCommand {allowed : Nat} {s0 s : State} (h : Keeps allowed s0 s) (ld : Nat) (opcode : Nat)
    (hm : sub 1048576 allowed := by exact sub_trans (by assumption) (by decide)) :
    KeepsOut allowed s0 (execUnsupportedMailboxCommand ld opcode s) := by
  unfold execUnsupportedMailboxCommand
  refine Keeps.next ?_
  with_reducible repeat' first
    | (intro _) | assumption | exact sub_trans hm (by decide) | apply Keeps.anyLd | apply Keeps.reply | apply Keeps.ite
    | refine Keeps.foldl ?_ ?_ _ | split | dsimp only
    | (apply Keeps.upd (k := 1048576) <;> first | with_unfolding_all rfl | skip)

theorem fmLd {allowed : Nat} {s0 s : State} (h : Keeps allowed s0 s) (link : Nat) (f : State → State) (hf : ∀ t, Keeps allowed s0 t → Keeps allowed s0 (f t))
    (hm : sub 0 allowed := by exact sub_trans (by assumption) (by decide)) :
    Keeps allowed s0 (State.fmLd s link f) := by
  unfold State.fmLd
  with_reducible repeat' first
    | (intro _) | assumption | exact sub_trans hm (by decide) | apply hf | apply Keeps.ite | refine Keeps.foldl ?_ ?_ _ | split
    | dsimp only | (apply Keeps.upd (k := 0) <;> first | with_unfolding_all rfl | skip)

theorem runGetLdInfo {allowed : Nat} {s0 s : State} (h : Keeps allowed s0 s) (link : Nat)
    (hm : sub 1048576 allowed := by exact sub_trans (by assumption) (by decide)) :
    KeepsOut allowed s0 (execGetLdInfo link s) := by
  unfold execGetLdInfo
  refine Keeps.next ?_
  with_reducible repeat' first
    | (intro _) | assumption | exact sub_trans hm (by decide) | apply Keeps.fmLd | apply Keeps.send | apply Keeps.ite
    | refine Keeps.foldl ?_ ?_ _ | split | dsimp only
    | (apply Keeps.upd (k := 1048576) <;> first | with_unfolding_all rfl | skip)

theorem runGetLdAllocations {allowed : Nat} {s0 s : State} (h : Keeps allowed s0 s) (link : Nat) (start : Nat) (limit : Nat)
    (hm : sub 1048576 allowed := by exact sub_trans (by assumption) (by decide)) :
    KeepsOut allowed s0 (execGetLdAllocations link start limit s) := by
  unfold execGetLdAllocations
  refine Keeps.next ?_
  with_reducible repeat' first
    | (intro _) | assumption | exact sub_trans hm (by decide) | apply Keeps.fmLd | apply Keeps.send | apply Keeps.ite
    | refine Keeps.foldl ?_ ?_ _ | split | dsimp only
    | (apply Keeps.upd (k := 1048576) <;> first | with_unfolding_all rfl | skip)

theorem runSetLdAllocations {allowed : Nat} {s0 s : State} (h : Keeps allowed s0 s) (link : Nat) (_payload : List Nat)
    (hm : sub 1048576 allowed := by exact sub_trans (by assumption) (by decide)) :
    KeepsOut allowed s0 (execSetLdAllocations link _payload s) := by
  unfold execSetLdAllocations
  refine Keeps.next ?_
  with_reducible repeat' first
    | (intro _) | assumption | exact sub_trans hm (by decide) | apply Keeps.fmLd | apply Keeps.send | apply Keeps.ite
    | refine Keeps.foldl ?_ ?_ _ | split | dsimp only
    | (apply Keeps.upd (k := 1048576) <;> first | with_unfolding_all rfl | skip)

theorem setCkpt {allowed : Nat} {s0 s : State} (h : Keeps allowed s0 s) (ftier : Bool) (c : Ckpt)
    (hm : sub 2048 allowed := by exact sub_trans (by assumption) (by decide)) :
    Keeps allowed s0 (State.setCkpt s ftier c) := by
  unfold State.setCkpt
  with_reducible repeat' first
    | (intro _) | assumption | exact sub_trans hm (by decide) | apply Keeps.ite | refine Keeps.foldl ?_ ?_ _ | split
    | dsimp only | (apply Keeps.upd (k := 2048) <;> first | with_unfolding_all rfl | skip)

theorem startCkpt {allowed : Nat} {s0 s : State} (h : Keeps allowed s0 s) (ftier : Bool)
    (hm : sub 2437 allowed := by exact sub_trans (by assumption) (by decide)) :
    Keeps allowed s0 (State.startCkpt s ftier) := by
  unfold State.startCkpt
  with_reducible repeat' first
    | (intro _) | assumption | exact sub_trans hm (by decide) | apply Keeps.journal | apply Keeps.setCkpt | apply Keeps.ite
    | refine Keeps.foldl ?_ ?_ _ | split | dsimp only | (apply Keeps.upd (k := 2437) <;> first | with_unfolding_all rfl | skip)

theorem dropCkpt {allowed : Nat} {s0 s : State} (h : Keeps allowed s0 s) (ftier : Bool)
    (hm : sub 2048 allowed := by exact sub_trans (by assumption) (by decide)) :
    Keeps allowed s0 (State.dropCkpt s ftier) := by
  unfold State.dropCkpt
  with_reducible repeat' first
    | (intro _) | assumption | exact sub_trans hm (by decide) | apply Keeps.setCkpt | apply Keeps.ite
    | refine Keeps.foldl ?_ ?_ _ | split | dsimp only | (apply Keeps.upd (k := 2048) <;> first | with_unfolding_all rfl | skip)

theorem failWindowCkpt {allowed : Nat} {s0 s : State} (h : Keeps allowed s0 s) (phase : Nat)
    (hm : sub 3573 allowed := by exact sub_trans (by assumption) (by decide)) :
    Keeps allowed s0 (State.failWindowCkpt s phase) := by
  unfold State.failWindowCkpt
  with_reducible repeat' first
    | (intro _) | assumption | exact sub_trans hm (by decide) | apply Keeps.raise | apply Keeps.dropCkpt | apply Keeps.startCkpt
    | apply Keeps.enterReadOnly | apply Keeps.ite | refine Keeps.foldl ?_ ?_ _ | split | dsimp only
    | (apply Keeps.upd (k := 3573) <;> first | with_unfolding_all rfl | skip)

theorem ckptLosesPart {allowed : Nat} {s0 s : State} (h : Keeps allowed s0 s)
    (hm : sub 3573 allowed := by exact sub_trans (by assumption) (by decide)) :
    Keeps allowed s0 (State.ckptLosesPart s) := by
  unfold State.ckptLosesPart
  with_reducible repeat' first
    | (intro _) | assumption | exact sub_trans hm (by decide) | apply Keeps.failWindowCkpt | apply Keeps.ite
    | refine Keeps.foldl ?_ ?_ _ | split | dsimp only | (apply Keeps.upd (k := 3573) <;> first | with_unfolding_all rfl | skip)

theorem setPair {allowed : Nat} {s0 s : State} (h : Keeps allowed s0 s) (p : Nat × Nat)
    (hm : sub 1 allowed := by exact sub_trans (by assumption) (by decide)) :
    Keeps allowed s0 (State.setPair s p) := by
  unfold State.setPair
  with_reducible repeat' first
    | (intro _) | assumption | exact sub_trans hm (by decide) | apply Keeps.set | apply Keeps.ite | refine Keeps.foldl ?_ ?_ _
    | split | dsimp only | (apply Keeps.upd (k := 1) <;> first | with_unfolding_all rfl | skip)

theorem journalLoss {allowed : Nat} {s0 s : State} (h : Keeps allowed s0 s) (c : Nat)
    (hm : sub 3573 allowed := by exact sub_trans (by assumption) (by decide)) :
    Keeps allowed s0 (State.journalLoss s c) := by
  unfold State.journalLoss
  with_reducible repeat' first
    | (intro _) | assumption | exact sub_trans hm (by decide) | apply Keeps.raise | apply Keeps.put | apply Keeps.startCkpt
    | apply Keeps.dropCkpt | apply Keeps.setPair | apply Keeps.enterReadOnly | apply Keeps.ite | refine Keeps.foldl ?_ ?_ _
    | split | dsimp only | (apply Keeps.upd (k := 3573) <;> first | with_unfolding_all rfl | skip)

theorem clearBank {allowed : Nat} {s0 s : State} (h : Keeps allowed s0 s) (w : MediaWrite)
    (hm : sub 76 allowed := by exact sub_trans (by assumption) (by decide)) :
    Keeps allowed s0 (State.clearBank s w) := by
  unfold State.clearBank
  with_reducible repeat' first
    | (intro _) | assumption | exact sub_trans hm (by decide) | apply Keeps.setBank | apply Keeps.bankNext | apply Keeps.ite
    | refine Keeps.foldl ?_ ?_ _ | split | dsimp only | (apply Keeps.upd (k := 76) <;> first | with_unfolding_all rfl | skip)

theorem resetRewrite {allowed : Nat} {s0 s : State} (h : Keeps allowed s0 s) (id : Nat)
    (hm : sub 76 allowed := by exact sub_trans (by assumption) (by decide)) :
    Keeps allowed s0 (State.resetRewrite s id) := by
  unfold State.resetRewrite
  with_reducible repeat' first
    | (intro _) | assumption | exact sub_trans hm (by decide) | apply Keeps.clearBank | apply Keeps.ite
    | refine Keeps.foldl ?_ ?_ _ | split | dsimp only | (apply Keeps.upd (k := 76) <;> first | with_unfolding_all rfl | skip)

theorem dropRewrites {allowed : Nat} {s0 s : State} (h : Keeps allowed s0 s) (p : Rewrite → Bool)
    (hm : sub 76 allowed := by exact sub_trans (by assumption) (by decide)) :
    Keeps allowed s0 (State.dropRewrites s p) := by
  unfold State.dropRewrites
  with_reducible repeat' first
    | (intro _) | assumption | exact sub_trans hm (by decide) | apply Keeps.resetRewrite | apply Keeps.ite
    | refine Keeps.foldl ?_ ?_ _ | split | dsimp only | (apply Keeps.upd (k := 76) <;> first | with_unfolding_all rfl | skip)

theorem discardWrite {allowed : Nat} {s0 s : State} (h : Keeps allowed s0 s) (w : MediaWrite)
    (hm : sub 1444349 allowed := by exact sub_trans (by assumption) (by decide)) :
    Keeps allowed s0 (State.discardWrite s w) := by
  unfold State.discardWrite
  with_reducible repeat' first
    | (intro _) | assumption | exact sub_trans hm (by decide) | apply Keeps.resetRewrite | apply Keeps.clearBank
    | apply Keeps.listLost | apply Keeps.onWay | apply Keeps.answer | apply Keeps.qsFree | apply Keeps.ite
    | refine Keeps.foldl ?_ ?_ _ | split | dsimp only
    | (apply Keeps.upd (k := 1444349) <;> first | with_unfolding_all rfl | skip)

theorem discardOffline {allowed : Nat} {s0 s : State} (h : Keeps allowed s0 s)
    (hm : sub 1444349 allowed := by exact sub_trans (by assumption) (by decide)) :
    Keeps allowed s0 (State.discardOffline s) := by
  unfold State.discardOffline
  with_reducible repeat' first
    | (intro _) | assumption | exact sub_trans hm (by decide) | apply Keeps.discardWrite | apply Keeps.ite
    | refine Keeps.foldl ?_ ?_ _ | split | dsimp only
    | (apply Keeps.upd (k := 1444349) <;> first | with_unfolding_all rfl | skip)

theorem migrationDiscard {allowed : Nat} {s0 s : State} (h : Keeps allowed s0 s) (m : Migration)
    (hm : sub 3533 allowed := by exact sub_trans (by assumption) (by decide)) :
    Keeps allowed s0 (State.migrationDiscard s m) := by
  unfold State.migrationDiscard
  with_reducible repeat' first
    | (intro _) | assumption | exact sub_trans hm (by decide) | apply Keeps.dropRewrites | apply Keeps.setMig
    | apply Keeps.spanFreed | apply Keeps.releaseSpan | apply Keeps.ite | refine Keeps.foldl ?_ ?_ _ | split | dsimp only
    | (apply Keeps.upd (k := 3533) <;> first | with_unfolding_all rfl | skip)

theorem discardMigrations {allowed : Nat} {s0 s : State} (h : Keeps allowed s0 s) (c : Nat)
    (hm : sub 3533 allowed := by exact sub_trans (by assumption) (by decide)) :
    Keeps allowed s0 (State.discardMigrations s c) := by
  unfold State.discardMigrations
  with_reducible repeat' first
    | (intro _) | assumption | exact sub_trans hm (by decide) | apply Keeps.migrationDiscard | apply Keeps.ite
    | refine Keeps.foldl ?_ ?_ _ | split | dsimp only | (apply Keeps.upd (k := 3533) <;> first | with_unfolding_all rfl | skip)

theorem pauseMigrations {allowed : Nat} {s0 s : State} (h : Keeps allowed s0 s)
    (hm : sub 2437 allowed := by exact sub_trans (by assumption) (by decide)) :
    Keeps allowed s0 (State.pauseMigrations s) := by
  unfold State.pauseMigrations
  with_reducible repeat' first
    | (intro _) | assumption | exact sub_trans hm (by decide) | apply Keeps.setMig | apply Keeps.ite
    | refine Keeps.foldl ?_ ?_ _ | split | dsimp only | (apply Keeps.upd (k := 2437) <;> first | with_unfolding_all rfl | skip)

theorem copyPage {allowed : Nat} {s0 s : State} (h : Keeps allowed s0 s) (src : Nat) (dst : Nat)
    (hm : sub 2501 allowed := by exact sub_trans (by assumption) (by decide)) :
    Keeps allowed s0 (State.copyPage s src dst) := by
  unfold State.copyPage
  with_reducible repeat' first
    | (intro _) | assumption | exact sub_trans hm (by decide) | apply Keeps.putMedia | apply Keeps.setSlot
    | apply Keeps.touchTile | apply Keeps.writeRecord | apply Keeps.ite | refine Keeps.foldl ?_ ?_ _ | split | dsimp only
    | (apply Keeps.upd (k := 2501) <;> first | with_unfolding_all rfl | skip)

theorem replacePlot {allowed : Nat} {s0 s : State} (h : Keeps allowed s0 s) (i : Nat)
    (hm : sub 3533 allowed := by exact sub_trans (by assumption) (by decide)) :
    Keeps allowed s0 (State.replacePlot s i) := by
  unfold State.replacePlot
  with_reducible repeat' first
    | (intro _) | assumption | exact sub_trans hm (by decide) | apply Keeps.dropRewrites | apply Keeps.placePlot
    | apply Keeps.raise | apply Keeps.copyPage | apply Keeps.setReborn | apply Keeps.setPlot | apply Keeps.setMig
    | apply Keeps.releaseSpan | apply Keeps.spanFreed | refine Keeps.placePlot_eq ?_ (e := by assumption) | apply Keeps.ite
    | refine Keeps.foldl ?_ ?_ _ | split | dsimp only | (apply Keeps.upd (k := 3533) <;> first | with_unfolding_all rfl | skip)

theorem loseSlots {allowed : Nat} {s0 s : State} (h : Keeps allowed s0 s) (i : Nat)
    (hm : sub 2437 allowed := by exact sub_trans (by assumption) (by decide)) :
    Keeps allowed s0 (State.loseSlots s i) := by
  unfold State.loseSlots
  with_reducible repeat' first
    | (intro _) | assumption | exact sub_trans hm (by decide) | apply Keeps.journal | apply Keeps.ite
    | refine Keeps.foldl ?_ ?_ _ | split | dsimp only | (apply Keeps.upd (k := 2437) <;> first | with_unfolding_all rfl | skip)

theorem replaceBroken {allowed : Nat} {s0 s : State} (h : Keeps allowed s0 s)
    (hm : sub 3533 allowed := by exact sub_trans (by assumption) (by decide)) :
    Keeps allowed s0 (State.replaceBroken s) := by
  unfold State.replaceBroken
  with_reducible repeat' first
    | (intro _) | assumption | exact sub_trans hm (by decide) | apply Keeps.replacePlot | apply Keeps.loseSlots
    | apply Keeps.ite | refine Keeps.foldl ?_ ?_ _ | split | dsimp only
    | (apply Keeps.upd (k := 3533) <;> first | with_unfolding_all rfl | skip)

theorem afterLoss {allowed : Nat} {s0 s : State} (h : Keeps allowed s0 s) (c : Nat)
    (hm : sub 1969661 allowed := by exact sub_trans (by assumption) (by decide)) :
    Keeps allowed s0 (State.afterLoss s c) := by
  unfold State.afterLoss
  with_reducible repeat' first
    | (intro _) | assumption | exact sub_trans hm (by decide) | apply Keeps.discardMigrations | apply Keeps.discardOffline
    | apply Keeps.poisonOffline | apply Keeps.reduced | apply Keeps.replaceBroken | apply Keeps.ckptLosesPart
    | apply Keeps.journalLoss | apply Keeps.ite | refine Keeps.foldl ?_ ?_ _ | split | dsimp only
    | (apply Keeps.upd (k := 1969661) <;> first | with_unfolding_all rfl | skip)

theorem channelOffline {allowed : Nat} {s0 s : State} (h : Keeps allowed s0 s) (c : Nat) (cause : Nat)
    (hm : sub 1969661 allowed := by exact sub_trans (by assumption) (by decide)) :
    Keeps allowed s0 (State.channelOffline s c cause) := by
  unfold State.channelOffline
  with_reducible repeat' first
    | (intro _) | assumption | exact sub_trans hm (by decide) | apply Keeps.set | apply Keeps.raise | apply Keeps.afterLoss
    | apply Keeps.ite | refine Keeps.foldl ?_ ?_ _ | split | dsimp only
    | (apply Keeps.upd (k := 1969661) <;> first | with_unfolding_all rfl | skip)

theorem rankOffline {allowed : Nat} {s0 s : State} (h : Keeps allowed s0 s) (c : Nat) (r : Nat) (cause : Nat)
    (hm : sub 4066813 allowed := by exact sub_trans (by assumption) (by decide)) :
    Keeps allowed s0 (State.rankOffline s c r cause) := by
  unfold State.rankOffline
  with_reducible repeat' first
    | (intro _) | assumption | exact sub_trans hm (by decide) | apply Keeps.setBit | apply Keeps.channelOffline
    | apply Keeps.raise | apply Keeps.set | apply Keeps.afterLoss | apply Keeps.drew | apply Keeps.ite
    | refine Keeps.foldl ?_ ?_ _ | split | dsimp only
    | (apply Keeps.upd (k := 4066813) <;> first | with_unfolding_all rfl | skip)

theorem startRetrain {allowed : Nat} {s0 s : State} (h : Keeps allowed s0 s) (c : Nat) (trigger : Nat)
    (hm : sub 2501 allowed := by exact sub_trans (by assumption) (by decide)) :
    Keeps allowed s0 (State.startRetrain s c trigger) := by
  unfold State.startRetrain
  with_reducible repeat' first
    | (intro _) | assumption | exact sub_trans hm (by decide) | apply Keeps.setChan | apply Keeps.set
    | apply Keeps.pauseMigrations | apply Keeps.ite | refine Keeps.foldl ?_ ?_ _ | split | dsimp only
    | (apply Keeps.upd (k := 2501) <;> first | with_unfolding_all rfl | skip)

theorem reportWrite {allowed : Nat} {s0 s : State} (h : Keeps allowed s0 s) (k : Nat) (w : MediaWrite) (failing : Word)
    (hm : sub 77 allowed := by exact sub_trans (by assumption) (by decide)) :
    Keeps allowed s0 (State.reportWrite s k w failing) := by
  unfold State.reportWrite
  with_reducible repeat' first
    | (intro _) | assumption | exact sub_trans hm (by decide) | apply Keeps.setBank | apply Keeps.setWrite | apply Keeps.raise
    | apply Keeps.bump | apply Keeps.bankNext | apply Keeps.ite | refine Keeps.foldl ?_ ?_ _ | split | dsimp only
    | (apply Keeps.upd (k := 77) <;> first | with_unfolding_all rfl | skip)

theorem cleanLines {allowed : Nat} {s0 s : State} (h : Keeps allowed s0 s) (w : MediaWrite) (p : Nat)
    (hm : sub 37 allowed := by exact sub_trans (by assumption) (by decide)) :
    Keeps allowed s0 (State.cleanLines s w p) := by
  unfold State.cleanLines
  with_reducible repeat' first
    | (intro _) | assumption | exact sub_trans hm (by decide) | apply Keeps.onWay | apply Keeps.ite | refine Keeps.foldl ?_ ?_ _
    | split | dsimp only | (apply Keeps.upd (k := 37) <;> first | with_unfolding_all rfl | skip)

theorem groupDone {allowed : Nat} {s0 s : State} (h : Keeps allowed s0 s) (w : MediaWrite) (p : Nat)
    (hm : sub 2437 allowed := by exact sub_trans (by assumption) (by decide)) :
    Keeps allowed s0 (State.groupDone s w p) := by
  unfold State.groupDone
  with_reducible repeat' first
    | (intro _) | assumption | exact sub_trans hm (by decide) | apply Keeps.setWritten | apply Keeps.setReborn
    | apply Keeps.raise | apply Keeps.setPlot | apply Keeps.ite | refine Keeps.foldl ?_ ?_ _ | split | dsimp only
    | (apply Keeps.upd (k := 2437) <;> first | with_unfolding_all rfl | skip)

theorem addRewrite {allowed : Nat} {s0 s : State} (h : Keeps allowed s0 s) (kind : RewriteKind) (page : Option Nat) (src : Nat) (dst : Nat)
    (hm : sub 64 allowed := by exact sub_trans (by assumption) (by decide)) :
    Keeps allowed s0 (State.addRewrite s kind page src dst) := by
  unfold State.addRewrite
  with_reducible repeat' first
    | (intro _) | assumption | exact sub_trans hm (by decide) | apply Keeps.ite | refine Keeps.foldl ?_ ?_ _ | split
    | dsimp only | (apply Keeps.upd (k := 64) <;> first | with_unfolding_all rfl | skip)

theorem setPlotWrites {allowed : Nat} {s0 s : State} (h : Keeps allowed s0 s) (i : Nat) (n : Nat)
    (hm : sub 64 allowed := by exact sub_trans (by assumption) (by decide)) :
    Keeps allowed s0 (State.setPlotWrites s i n) := by
  unfold State.setPlotWrites
  with_reducible repeat' first
    | (intro _) | assumption | exact sub_trans hm (by decide) | apply Keeps.ite | refine Keeps.foldl ?_ ?_ _ | split
    | dsimp only | (apply Keeps.upd (k := 64) <;> first | with_unfolding_all rfl | skip)

theorem gapDone {allowed : Nat} {s0 s : State} (h : Keeps allowed s0 s) (i : Nat)
    (hm : sub 2437 allowed := by exact sub_trans (by assumption) (by decide)) :
    Keeps allowed s0 (State.gapDone s i) := by
  unfold State.gapDone
  with_reducible repeat' first
    | (intro _) | assumption | exact sub_trans hm (by decide) | apply Keeps.setPlot | apply Keeps.ite
    | refine Keeps.foldl ?_ ?_ _ | split | dsimp only | (apply Keeps.upd (k := 2437) <;> first | with_unfolding_all rfl | skip)

theorem gapMove {allowed : Nat} {s0 s : State} (h : Keeps allowed s0 s) (i : Nat)
    (hm : sub 2501 allowed := by exact sub_trans (by assumption) (by decide)) :
    Keeps allowed s0 (State.gapMove s i) := by
  unfold State.gapMove
  with_reducible repeat' first
    | (intro _) | assumption | exact sub_trans hm (by decide) | apply Keeps.setPlotWrites | apply Keeps.gapDone
    | apply Keeps.addRewrite | apply Keeps.ite | refine Keeps.foldl ?_ ?_ _ | split | dsimp only
    | (apply Keeps.upd (k := 2501) <;> first | with_unfolding_all rfl | skip)

theorem wearMove {allowed : Nat} {s0 s : State} (h : Keeps allowed s0 s) (i : Nat)
    (hm : sub 2437 allowed := by exact sub_trans (by assumption) (by decide)) :
    Keeps allowed s0 (State.wearMove s i) := by
  unfold State.wearMove
  with_reducible repeat' first
    | (intro _) | assumption | exact sub_trans hm (by decide) | apply Keeps.wantMove | apply Keeps.ite
    | refine Keeps.foldl ?_ ?_ _ | split | dsimp only | (apply Keeps.upd (k := 2437) <;> first | with_unfolding_all rfl | skip)

theorem countWrite {allowed : Nat} {s0 s : State} (h : Keeps allowed s0 s) (l : Nat)
    (hm : sub 2501 allowed := by exact sub_trans (by assumption) (by decide)) :
    Keeps allowed s0 (State.countWrite s l) := by
  unfold State.countWrite
  with_reducible repeat' first
    | (intro _) | assumption | exact sub_trans hm (by decide) | apply Keeps.setPlotWrites | apply Keeps.wearMove
    | apply Keeps.gapMove | apply Keeps.ite | refine Keeps.foldl ?_ ?_ _ | split | dsimp only
    | (apply Keeps.upd (k := 2501) <;> first | with_unfolding_all rfl | skip)

theorem tileRefreshed {allowed : Nat} {s0 s : State} (h : Keeps allowed s0 s) (t : Nat)
    (hm : sub 65 allowed := by exact sub_trans (by assumption) (by decide)) :
    Keeps allowed s0 (State.tileRefreshed s t) := by
  unfold State.tileRefreshed
  with_reducible repeat' first
    | (intro _) | assumption | exact sub_trans hm (by decide) | apply Keeps.setTile | apply Keeps.set | apply Keeps.ite
    | refine Keeps.foldl ?_ ?_ _ | split | dsimp only | (apply Keeps.upd (k := 65) <;> first | with_unfolding_all rfl | skip)

theorem finishRewrite {allowed : Nat} {s0 s : State} (h : Keeps allowed s0 s) (x : Rewrite)
    (hm : sub 2501 allowed := by exact sub_trans (by assumption) (by decide)) :
    Keeps allowed s0 (State.finishRewrite s x) := by
  unfold State.finishRewrite
  with_reducible repeat' first
    | (intro _) | assumption | exact sub_trans hm (by decide) | apply Keeps.clearTally | apply Keeps.tileRefreshed
    | apply Keeps.gapDone | apply Keeps.ite | refine Keeps.foldl ?_ ?_ _ | split | dsimp only
    | (apply Keeps.upd (k := 2501) <;> first | with_unfolding_all rfl | skip)

theorem freeLines {allowed : Nat} {s0 s : State} (h : Keeps allowed s0 s) (w : MediaWrite) (p : Nat)
    (hm : sub 1048637 allowed := by exact sub_trans (by assumption) (by decide)) :
    Keeps allowed s0 (State.freeLines s w p) := by
  unfold State.freeLines
  with_reducible repeat' first
    | (intro _) | assumption | exact sub_trans hm (by decide) | apply Keeps.cleanLines | apply Keeps.qsFree | apply Keeps.ite
    | refine Keeps.foldl ?_ ?_ _ | split | dsimp only
    | (apply Keeps.upd (k := 1048637) <;> first | with_unfolding_all rfl | skip)

theorem rewriteStep {allowed : Nat} {s0 s : State} (h : Keeps allowed s0 s) (id : Nat)
    (hm : sub 2501 allowed := by exact sub_trans (by assumption) (by decide)) :
    Keeps allowed s0 (State.rewriteStep s id) := by
  unfold State.rewriteStep
  with_reducible repeat' first
    | (intro _) | assumption | exact sub_trans hm (by decide) | apply Keeps.finishRewrite | apply Keeps.ite
    | refine Keeps.foldl ?_ ?_ _ | split | dsimp only | (apply Keeps.upd (k := 2501) <;> first | with_unfolding_all rfl | skip)

theorem runChannelTrainingStep {allowed : Nat} {s0 s : State} (h : Keeps allowed s0 s) (chan : Nat) (step : Nat) (fail0 : Bool) (fail1 : Bool) (id0 : BitVec 64) (id1 : BitVec 64) (margin : Nat)
    (hm : sub 4066813 allowed := by exact sub_trans (by assumption) (by decide)) :
    KeepsOut allowed s0 (execChannelTrainingStep chan step fail0 fail1 id0 id1 margin s) := by
  unfold execChannelTrainingStep
  refine Keeps.next ?_
  with_reducible repeat' first
    | (intro _) | assumption | exact sub_trans hm (by decide) | apply Keeps.set | apply Keeps.setChan | apply Keeps.rankOffline
    | apply Keeps.setReg | apply Keeps.raise | apply Keeps.ite | refine Keeps.foldl ?_ ?_ _ | split | dsimp only
    | (apply Keeps.upd (k := 4066813) <;> first | with_unfolding_all rfl | skip)

theorem runWriteTokenGrant {allowed : Nat} {s0 s : State} (h : Keeps allowed s0 s) (write : Nat)
    (hm : sub 1444349 allowed := by exact sub_trans (by assumption) (by decide)) :
    KeepsOut allowed s0 (execWriteTokenGrant write s) := by
  unfold execWriteTokenGrant
  refine Keeps.next ?_
  with_reducible repeat' first
    | (intro _) | assumption | exact sub_trans hm (by decide) | apply Keeps.discardWrite | apply Keeps.refill | apply Keeps.put
    | apply Keeps.setWrite | apply Keeps.takeTokens | apply Keeps.cMch | apply Keeps.setBank | apply Keeps.ite
    | refine Keeps.foldl ?_ ?_ _ | split | dsimp only
    | (apply Keeps.upd (k := 1444349) <;> first | with_unfolding_all rfl | skip)

theorem runComparisonReadComplete {allowed : Nat} {s0 s : State} (h : Keeps allowed s0 s) (chan : Nat) (lane : Nat)
    (hm : sub 2509 allowed := by exact sub_trans (by assumption) (by decide)) :
    KeepsOut allowed s0 (execComparisonReadComplete chan lane s) := by
  unfold execComparisonReadComplete
  refine Keeps.next ?_
  with_reducible repeat' first
    | (intro _) | assumption | exact sub_trans hm (by decide) | apply Keeps.cMch | apply Keeps.loadLines | apply Keeps.fetchSlot
    | apply Keeps.setBank | apply Keeps.setWrite | apply Keeps.bankNext | apply Keeps.reportWrite | apply Keeps.ite
    | refine Keeps.foldl ?_ ?_ _ | split | dsimp only | (apply Keeps.upd (k := 2509) <;> first | with_unfolding_all rfl | skip)

theorem runSegmentEnd {allowed : Nat} {s0 s : State} (h : Keeps allowed s0 s) (chan : Nat) (lane : Nat) (failing : BitVec 64)
    (hm : sub 77 allowed := by exact sub_trans (by assumption) (by decide)) :
    KeepsOut allowed s0 (execSegmentEnd chan lane failing s) := by
  unfold execSegmentEnd
  refine Keeps.next ?_
  with_reducible repeat' first
    | (intro _) | assumption | exact sub_trans hm (by decide) | apply Keeps.setBank | apply Keeps.setWrite
    | apply Keeps.reportWrite | apply Keeps.bankNext | apply Keeps.cMch | apply Keeps.bump | apply Keeps.ite
    | refine Keeps.foldl ?_ ?_ _ | split | dsimp only | (apply Keeps.upd (k := 77) <;> first | with_unfolding_all rfl | skip)

theorem runForcedSegment {allowed : Nat} {s0 s : State} (h : Keeps allowed s0 s) (chan : Nat) (lane : Nat)
    (hm : sub 69 allowed := by exact sub_trans (by assumption) (by decide)) :
    KeepsOut allowed s0 (execForcedSegment chan lane s) := by
  unfold execForcedSegment
  refine Keeps.next ?_
  with_reducible repeat' first
    | (intro _) | assumption | exact sub_trans hm (by decide) | apply Keeps.bump | apply Keeps.startSegment | apply Keeps.ite
    | refine Keeps.foldl ?_ ?_ _ | split | dsimp only | (apply Keeps.upd (k := 69) <;> first | with_unfolding_all rfl | skip)

theorem runCaAlert {allowed : Nat} {s0 s : State} (h : Keeps allowed s0 s) (chan : Nat) (rank : Nat) (command : Nat) (again : Bool)
    (hm : sub 4066813 allowed := by exact sub_trans (by assumption) (by decide)) :
    KeepsOut allowed s0 (execCaAlert chan rank command again s) := by
  unfold execCaAlert
  refine Keeps.next ?_
  with_reducible repeat' first
    | (intro _) | assumption | exact sub_trans hm (by decide) | apply Keeps.bump | apply Keeps.setChan
    | apply Keeps.startRetrain | apply Keeps.raise | apply Keeps.rankOffline | apply Keeps.ite | refine Keeps.foldl ?_ ?_ _
    | split | dsimp only | (apply Keeps.upd (k := 4066813) <;> first | with_unfolding_all rfl | skip)

theorem runRetrainnow {allowed : Nat} {s0 s : State} (h : Keeps allowed s0 s) (chan : Nat)
    (hm : sub 2501 allowed := by exact sub_trans (by assumption) (by decide)) :
    KeepsOut allowed s0 (execRetrainnow chan s) := by
  unfold execRetrainnow
  refine Keeps.next ?_
  with_reducible repeat' first
    | (intro _) | assumption | exact sub_trans hm (by decide) | apply Keeps.startRetrain | apply Keeps.ite
    | refine Keeps.foldl ?_ ?_ _ | split | dsimp only | (apply Keeps.upd (k := 2501) <;> first | with_unfolding_all rfl | skip)

theorem runRetrainPeriodExpiry {allowed : Nat} {s0 s : State} (h : Keeps allowed s0 s) (chan : Nat)
    (hm : sub 2501 allowed := by exact sub_trans (by assumption) (by decide)) :
    KeepsOut allowed s0 (execRetrainPeriodExpiry chan s) := by
  unfold execRetrainPeriodExpiry
  refine Keeps.next ?_
  with_reducible repeat' first
    | (intro _) | assumption | exact sub_trans hm (by decide) | apply Keeps.startRetrain | apply Keeps.ite
    | refine Keeps.foldl ?_ ?_ _ | split | dsimp only | (apply Keeps.upd (k := 2501) <;> first | with_unfolding_all rfl | skip)

theorem runRetrainSliceComplete {allowed : Nat} {s0 s : State} (h : Keeps allowed s0 s) (chan : Nat) (margin : Nat)
    (hm : sub 2501 allowed := by exact sub_trans (by assumption) (by decide)) :
    KeepsOut allowed s0 (execRetrainSliceComplete chan margin s) := by
  unfold execRetrainSliceComplete
  refine Keeps.next ?_
  with_reducible repeat' first
    | (intro _) | assumption | exact sub_trans hm (by decide) | apply Keeps.set | apply Keeps.raise | apply Keeps.setChan
    | apply Keeps.setReg | apply Keeps.bump | apply Keeps.pauseMigrations | apply Keeps.ite | refine Keeps.foldl ?_ ?_ _ | split
    | dsimp only | (apply Keeps.upd (k := 2501) <;> first | with_unfolding_all rfl | skip)

theorem runMediaWriteComplete {allowed : Nat} {s0 s : State} (h : Keeps allowed s0 s) (write : Nat)
    (hm : sub 1461757 allowed := by exact sub_trans (by assumption) (by decide)) :
    KeepsOut allowed s0 (execMediaWriteComplete write s) := by
  unfold execMediaWriteComplete
  refine Keeps.next ?_
  with_reducible repeat' first
    | (intro _) | assumption | exact sub_trans hm (by decide) | apply Keeps.writeRecord | apply Keeps.groupDone
    | apply Keeps.freeLines | apply Keeps.rewriteStep | apply Keeps.nearDone | apply Keeps.redoHeld | apply Keeps.clean
    | apply Keeps.countWrite | apply Keeps.ite | refine Keeps.foldl ?_ ?_ _ | split | dsimp only
    | (apply Keeps.upd (k := 1461757) <;> first | with_unfolding_all rfl | skip)

theorem beginRewrite {allowed : Nat} {s0 s : State} (h : Keeps allowed s0 s) (x : Rewrite) (bad : List Nat)
    (hm : sub 2501 allowed := by exact sub_trans (by assumption) (by decide)) :
    Keeps allowed s0 (State.beginRewrite s x bad) := by
  unfold State.beginRewrite
  with_reducible repeat' first
    | (intro _) | assumption | exact sub_trans hm (by decide) | apply Keeps.raiseAt | apply Keeps.finishRewrite
    | apply Keeps.pushWrite | apply Keeps.ite | refine Keeps.foldl ?_ ?_ _ | split | dsimp only
    | (apply Keeps.upd (k := 2501) <;> first | with_unfolding_all rfl | skip)

theorem showRefresh {allowed : Nat} {s0 s : State} (h : Keeps allowed s0 s)
    (hm : sub 1 allowed := by exact sub_trans (by assumption) (by decide)) :
    Keeps allowed s0 (State.showRefresh s) := by
  unfold State.showRefresh
  with_reducible repeat' first
    | (intro _) | assumption | exact sub_trans hm (by decide) | apply Keeps.set | apply Keeps.ite | refine Keeps.foldl ?_ ?_ _
    | split | dsimp only | (apply Keeps.upd (k := 1) <;> first | with_unfolding_all rfl | skip)

theorem ageTile {allowed : Nat} {s0 s : State} (h : Keeps allowed s0 s) (t : Nat)
    (hm : sub 69 allowed := by exact sub_trans (by assumption) (by decide)) :
    Keeps allowed s0 (State.ageTile s t) := by
  unfold State.ageTile
  with_reducible repeat' first
    | (intro _) | assumption | exact sub_trans hm (by decide) | apply Keeps.raise | apply Keeps.bump | apply Keeps.setTile
    | apply Keeps.ite | refine Keeps.foldl ?_ ?_ _ | split | dsimp only
    | (apply Keeps.upd (k := 69) <;> first | with_unfolding_all rfl | skip)

theorem rekeyLedger {allowed : Nat} {s0 s : State} (h : Keeps allowed s0 s)
    (hm : sub 66 allowed := by exact sub_trans (by assumption) (by decide)) :
    Keeps allowed s0 (State.rekeyLedger s) := by
  unfold State.rekeyLedger
  with_reducible repeat' first
    | (intro _) | assumption | exact sub_trans hm (by decide) | apply Keeps.setTile | apply Keeps.ite
    | refine Keeps.foldl ?_ ?_ _ | split | dsimp only | (apply Keeps.upd (k := 66) <;> first | with_unfolding_all rfl | skip)

theorem noteLedger {allowed : Nat} {s0 s : State} (h : Keeps allowed s0 s)
    (hm : sub 64 allowed := by exact sub_trans (by assumption) (by decide)) :
    Keeps allowed s0 (State.noteLedger s) := by
  unfold State.noteLedger
  with_reducible repeat' first
    | (intro _) | assumption | exact sub_trans hm (by decide) | apply Keeps.ite | refine Keeps.foldl ?_ ?_ _ | split
    | dsimp only | (apply Keeps.upd (k := 64) <;> first | with_unfolding_all rfl | skip)

theorem lapDone {allowed : Nat} {s0 s : State} (h : Keeps allowed s0 s) (c : Nat)
    (hm : sub 69 allowed := by exact sub_trans (by assumption) (by decide)) :
    Keeps allowed s0 (State.lapDone s c) := by
  unfold State.lapDone
  with_reducible repeat' first
    | (intro _) | assumption | exact sub_trans hm (by decide) | apply Keeps.put | apply Keeps.set | apply Keeps.setChan
    | apply Keeps.bump | apply Keeps.raise | apply Keeps.ite | refine Keeps.foldl ?_ ?_ _ | split | dsimp only
    | (apply Keeps.upd (k := 69) <;> first | with_unfolding_all rfl | skip)

theorem scrubFailed {allowed : Nat} {s0 s : State} (h : Keeps allowed s0 s) (l : Nat) (bad : List Nat)
    (hm : sub 69 allowed := by exact sub_trans (by assumption) (by decide)) :
    Keeps allowed s0 (State.scrubFailed s l bad) := by
  unfold State.scrubFailed
  with_reducible repeat' first
    | (intro _) | assumption | exact sub_trans hm (by decide) | apply Keeps.decodeFailed | apply Keeps.raiseAt
    | apply Keeps.bump | apply Keeps.ite | refine Keeps.foldl ?_ ?_ _ | split | dsimp only
    | (apply Keeps.upd (k := 69) <;> first | with_unfolding_all rfl | skip)

theorem retireEnd {allowed : Nat} {s0 s : State} (h : Keeps allowed s0 s) (status : Nat)
    (hm : sub 266241 allowed := by exact sub_trans (by assumption) (by decide)) :
    Keeps allowed s0 (State.retireEnd s status) := by
  unfold State.retireEnd
  with_reducible repeat' first
    | (intro _) | assumption | exact sub_trans hm (by decide) | apply Keeps.set | apply Keeps.put | apply Keeps.finish
    | apply Keeps.ite | refine Keeps.foldl ?_ ?_ _ | split | dsimp only
    | (apply Keeps.upd (k := 266241) <;> first | with_unfolding_all rfl | skip)

theorem retireRefuse {allowed : Nat} {s0 s : State} (h : Keeps allowed s0 s) (issue : RetireIssue) (status : Nat)
    (hm : sub 266241 allowed := by exact sub_trans (by assumption) (by decide)) :
    Keeps allowed s0 (State.retireRefuse s issue status) := by
  unfold State.retireRefuse
  with_reducible repeat' first
    | (intro _) | assumption | exact sub_trans hm (by decide) | apply Keeps.put | apply Keeps.set | apply Keeps.finish
    | apply Keeps.ite | refine Keeps.foldl ?_ ?_ _ | split | dsimp only
    | (apply Keeps.upd (k := 266241) <;> first | with_unfolding_all rfl | skip)

theorem retireNotice {allowed : Nat} {s0 s : State} (h : Keeps allowed s0 s) (status : Nat)
    (hm : sub 4 allowed := by exact sub_trans (by assumption) (by decide)) :
    Keeps allowed s0 (State.retireNotice s status) := by
  unfold State.retireNotice
  with_reducible repeat' first
    | (intro _) | assumption | exact sub_trans hm (by decide) | apply Keeps.raise | apply Keeps.ite | refine Keeps.foldl ?_ ?_ _
    | split | dsimp only | (apply Keeps.upd (k := 4) <;> first | with_unfolding_all rfl | skip)

theorem retireNoRoom {allowed : Nat} {s0 s : State} (h : Keeps allowed s0 s) (plot : Nat) (l : Nat)
    (hm : sub 2549 allowed := by exact sub_trans (by assumption) (by decide)) :
    Keeps allowed s0 (State.retireNoRoom s plot l) := by
  unfold State.retireNoRoom
  with_reducible repeat' first
    | (intro _) | assumption | exact sub_trans hm (by decide) | apply Keeps.raise | apply Keeps.turnReadOnly | apply Keeps.ite
    | refine Keeps.foldl ?_ ?_ _ | split | dsimp only | (apply Keeps.upd (k := 2549) <;> first | with_unfolding_all rfl | skip)

theorem retirePage {allowed : Nat} {s0 s : State} (h : Keeps allowed s0 s) (issue : RetireIssue) (op : Nat) (plot : Nat) (l : Nat) (page : Option Nat)
    (hm : sub 268789 allowed := by exact sub_trans (by assumption) (by decide)) :
    Keeps allowed s0 (State.retirePage s issue op plot l page) := by
  unfold State.retirePage
  with_reducible repeat' first
    | (intro _) | assumption | exact sub_trans hm (by decide) | apply Keeps.retireRefuse | apply Keeps.retireNoRoom
    | apply Keeps.journal | apply Keeps.takeSpare | apply Keeps.put | apply Keeps.addRewrite | apply Keeps.set | apply Keeps.ite
    | refine Keeps.foldl ?_ ?_ _ | split | dsimp only
    | (apply Keeps.upd (k := 268789) <;> first | with_unfolding_all rfl | skip)

theorem retireStart {allowed : Nat} {s0 s : State} (h : Keeps allowed s0 s) (issue : RetireIssue) (op : Nat) (f : Nat → State → State) (hf : ∀ x0 x1, Keeps allowed s0 x1 → Keeps allowed s0 (f x0 x1))
    (hm : sub 266245 allowed := by exact sub_trans (by assumption) (by decide)) :
    Keeps allowed s0 (State.retireStart s issue op f) := by
  unfold State.retireStart
  with_reducible repeat' first
    | (intro _) | assumption | exact sub_trans hm (by decide) | apply hf | apply Keeps.retireNotice | apply Keeps.finish
    | apply Keeps.put | apply Keeps.set | apply Keeps.ite | refine Keeps.foldl ?_ ?_ _ | split | dsimp only
    | (apply Keeps.upd (k := 266245) <;> first | with_unfolding_all rfl | skip)

theorem retireNone {allowed : Nat} {s0 s : State} (h : Keeps allowed s0 s) (issue : RetireIssue)
    (hm : sub 266245 allowed := by exact sub_trans (by assumption) (by decide)) :
    Keeps allowed s0 (State.retireNone s issue) := by
  unfold State.retireNone
  with_reducible repeat' first
    | (intro _) | assumption | exact sub_trans hm (by decide) | apply Keeps.retireStart | apply Keeps.retireRefuse
    | apply Keeps.retireNotice | apply Keeps.ite | refine Keeps.foldl ?_ ?_ _ | split | dsimp only
    | (apply Keeps.upd (k := 266245) <;> first | with_unfolding_all rfl | skip)

theorem drainStep {allowed : Nat} {s0 s : State} (h : Keeps allowed s0 s)
    (hm : sub 2363397 allowed := by exact sub_trans (by assumption) (by decide)) :
    Keeps allowed s0 (State.drainStep s) := by
  unfold State.drainStep
  with_reducible repeat' first
    | (intro _) | assumption | exact sub_trans hm (by decide) | apply Keeps.retireEnd | apply Keeps.drew | apply Keeps.raise
    | apply Keeps.set | apply Keeps.ite | refine Keeps.foldl ?_ ?_ _ | split | dsimp only
    | (apply Keeps.upd (k := 2363397) <;> first | with_unfolding_all rfl | skip)

theorem runInternalRewriteStart {allowed : Nat} {s0 s : State} (h : Keeps allowed s0 s) (rewrite : Nat) (corrected : List (Nat × Nat)) (uncorrectable : List Nat)
    (hm : sub 3525 allowed := by exact sub_trans (by assumption) (by decide)) :
    KeepsOut allowed s0 (execInternalRewriteStart rewrite corrected uncorrectable s) := by
  unfold execInternalRewriteStart
  refine Keeps.next ?_
  with_reducible repeat' first
    | (intro _) | assumption | exact sub_trans hm (by decide) | apply Keeps.correctAll | apply Keeps.beginRewrite
    | apply Keeps.ite | refine Keeps.foldl ?_ ?_ _ | split | dsimp only
    | (apply Keeps.upd (k := 3525) <;> first | with_unfolding_all rfl | skip)

theorem runAgeMapRecompute {allowed : Nat} {s0 s : State} (h : Keeps allowed s0 s)
    (hm : sub 71 allowed := by exact sub_trans (by assumption) (by decide)) :
    KeepsOut allowed s0 (execAgeMapRecompute s) := by
  unfold execAgeMapRecompute
  refine Keeps.next ?_
  with_reducible repeat' first
    | (intro _) | assumption | exact sub_trans hm (by decide) | apply Keeps.noteLedger | apply Keeps.rekeyLedger
    | apply Keeps.ageTile | apply Keeps.put | apply Keeps.showRefresh | apply Keeps.ite | refine Keeps.foldl ?_ ?_ _ | split
    | dsimp only | (apply Keeps.upd (k := 71) <;> first | with_unfolding_all rfl | skip)

theorem runDriftRefreshTile {allowed : Nat} {s0 s : State} (h : Keeps allowed s0 s) (tile : Nat)
    (hm : sub 65 allowed := by exact sub_trans (by assumption) (by decide)) :
    KeepsOut allowed s0 (execDriftRefreshTile tile s) := by
  unfold execDriftRefreshTile
  refine Keeps.next ?_
  with_reducible repeat' first
    | (intro _) | assumption | exact sub_trans hm (by decide) | apply Keeps.tileRefreshed | apply Keeps.addRewrite
    | apply Keeps.ite | refine Keeps.foldl ?_ ?_ _ | split | dsimp only
    | (apply Keeps.upd (k := 65) <;> first | with_unfolding_all rfl | skip)

theorem runRefreshBehind {allowed : Nat} {s0 s : State} (h : Keeps allowed s0 s)
    (hm : sub 5 allowed := by exact sub_trans (by assumption) (by decide)) :
    KeepsOut allowed s0 (execRefreshBehind s) := by
  unfold execRefreshBehind
  refine Keeps.next ?_
  with_reducible repeat' first
    | (intro _) | assumption | exact sub_trans hm (by decide) | apply Keeps.raise | apply Keeps.put | apply Keeps.ite
    | refine Keeps.foldl ?_ ?_ _ | split | dsimp only | (apply Keeps.upd (k := 5) <;> first | with_unfolding_all rfl | skip)

theorem runScrubPageRead {allowed : Nat} {s0 s : State} (h : Keeps allowed s0 s) (chan : Nat) (corrected : List (Nat × Nat)) (uncorrectable : List Nat) (strongCorrected : List (Nat × Nat)) (success : Bool) (recordGood : Bool)
    (hm : sub 3525 allowed := by exact sub_trans (by assumption) (by decide)) :
    KeepsOut allowed s0 (execScrubPageRead chan corrected uncorrectable strongCorrected success recordGood s) := by
  unfold execScrubPageRead
  refine Keeps.next ?_
  with_reducible repeat' first
    | (intro _) | assumption | exact sub_trans hm (by decide) | apply Keeps.cMch | apply Keeps.setChan | apply Keeps.set
    | apply Keeps.bump | apply Keeps.correctAll | apply Keeps.scrubFailed | apply Keeps.raise | apply Keeps.setSlot
    | apply Keeps.lapDone | apply Keeps.ite | refine Keeps.foldl ?_ ?_ _ | split | dsimp only
    | (apply Keeps.upd (k := 3525) <;> first | with_unfolding_all rfl | skip)

theorem runScrubStarved {allowed : Nat} {s0 s : State} (h : Keeps allowed s0 s) (chan : Nat)
    (hm : sub 5 allowed := by exact sub_trans (by assumption) (by decide)) :
    KeepsOut allowed s0 (execScrubStarved chan s) := by
  unfold execScrubStarved
  refine Keeps.next ?_
  with_reducible repeat' first
    | (intro _) | assumption | exact sub_trans hm (by decide) | apply Keeps.raise | apply Keeps.put | apply Keeps.ite
    | refine Keeps.foldl ?_ ?_ _ | split | dsimp only | (apply Keeps.upd (k := 5) <;> first | with_unfolding_all rfl | skip)

theorem runScrubLapOverLimit {allowed : Nat} {s0 s : State} (h : Keeps allowed s0 s) (chan : Nat)
    (hm : sub 5 allowed := by exact sub_trans (by assumption) (by decide)) :
    KeepsOut allowed s0 (execScrubLapOverLimit chan s) := by
  unfold execScrubLapOverLimit
  refine Keeps.next ?_
  with_reducible repeat' first
    | (intro _) | assumption | exact sub_trans hm (by decide) | apply Keeps.raise | apply Keeps.put | apply Keeps.ite
    | refine Keeps.foldl ?_ ?_ _ | split | dsimp only | (apply Keeps.upd (k := 5) <;> first | with_unfolding_all rfl | skip)

theorem runRetirePageByAddress {allowed : Nat} {s0 s : State} (h : Keeps allowed s0 s) (issue : RetireIssue)
    (hm : sub 268789 allowed := by exact sub_trans (by assumption) (by decide)) :
    KeepsOut allowed s0 (execRetirePageByAddress issue s) := by
  unfold execRetirePageByAddress
  refine Keeps.next ?_
  with_reducible repeat' first
    | (intro _) | assumption | exact sub_trans hm (by decide) | apply Keeps.retireStart | apply Keeps.retirePage
    | apply Keeps.retireRefuse | apply Keeps.ite | refine Keeps.foldl ?_ ?_ _ | split | dsimp only
    | (apply Keeps.upd (k := 268789) <;> first | with_unfolding_all rfl | skip)

theorem runRetirePageByLocation {allowed : Nat} {s0 s : State} (h : Keeps allowed s0 s) (issue : RetireIssue)
    (hm : sub 268789 allowed := by exact sub_trans (by assumption) (by decide)) :
    KeepsOut allowed s0 (execRetirePageByLocation issue s) := by
  unfold execRetirePageByLocation
  refine Keeps.next ?_
  with_reducible repeat' first
    | (intro _) | assumption | exact sub_trans hm (by decide) | apply Keeps.retireStart | apply Keeps.retirePage
    | apply Keeps.retireRefuse | apply Keeps.ite | refine Keeps.foldl ?_ ?_ _ | split | dsimp only
    | (apply Keeps.upd (k := 268789) <;> first | with_unfolding_all rfl | skip)

theorem runRetireRank {allowed : Nat} {s0 s : State} (h : Keeps allowed s0 s) (issue : RetireIssue)
    (hm : sub 2366973 allowed := by exact sub_trans (by assumption) (by decide)) :
    KeepsOut allowed s0 (execRetireRank issue s) := by
  unfold execRetireRank
  refine Keeps.next ?_
  with_reducible repeat' first
    | (intro _) | assumption | exact sub_trans hm (by decide) | apply Keeps.retireStart | apply Keeps.retireRefuse
    | apply Keeps.setBit | apply Keeps.journal | apply Keeps.set | apply Keeps.put | apply Keeps.setChan | apply Keeps.drainStep
    | apply Keeps.drainChannel | apply Keeps.ckptLosesPart | apply Keeps.journalLoss | apply Keeps.discardMigrations
    | apply Keeps.ite | refine Keeps.foldl ?_ ?_ _ | split | dsimp only
    | (apply Keeps.upd (k := 2366973) <;> first | with_unfolding_all rfl | skip)

theorem runRetirementCopyComplete {allowed : Nat} {s0 s : State} (h : Keeps allowed s0 s)
    (hm : sub 2365941 allowed := by exact sub_trans (by assumption) (by decide)) :
    KeepsOut allowed s0 (execRetirementCopyComplete s) := by
  unfold execRetirementCopyComplete
  refine Keeps.next ?_
  with_reducible repeat' first
    | (intro _) | assumption | exact sub_trans hm (by decide) | apply Keeps.retireEnd | apply Keeps.raise | apply Keeps.journal
    | apply Keeps.setPlot | apply Keeps.drew | apply Keeps.freeSpare | apply Keeps.put | apply Keeps.retireNoRoom
    | apply Keeps.ite | refine Keeps.foldl ?_ ?_ _ | split | dsimp only
    | (apply Keeps.upd (k := 2365941) <;> first | with_unfolding_all rfl | skip)

theorem refused45 {allowed : Nat} {s0 s : State} (h : Keeps allowed s0 s) (a : Nat) (dom : Nat) (src : WinSrc) (status : Nat)
    (hm : sub 4 allowed := by exact sub_trans (by assumption) (by decide)) :
    Keeps allowed s0 (State.refused45 s a dom src status) := by
  unfold State.refused45
  with_reducible repeat' first
    | (intro _) | assumption | exact sub_trans hm (by decide) | apply Keeps.raise | apply Keeps.ite | refine Keeps.foldl ?_ ?_ _
    | split | dsimp only | (apply Keeps.upd (k := 4) <;> first | with_unfolding_all rfl | skip)

theorem park {allowed : Nat} {s0 s : State} (h : Keeps allowed s0 s) (line : Nat) (c : Parked)
    (hm : sub 8 allowed := by exact sub_trans (by assumption) (by decide)) :
    Keeps allowed s0 (State.park s line c) := by
  unfold State.park
  with_reducible repeat' first
    | (intro _) | assumption | exact sub_trans hm (by decide) | apply Keeps.ite | refine Keeps.foldl ?_ ?_ _ | split
    | dsimp only | (apply Keeps.upd (k := 8) <;> first | with_unfolding_all rfl | skip)

theorem snoopData {allowed : Nat} {s0 s : State} (h : Keeps allowed s0 s) (l : List Nat)
    (hm : sub 1048584 allowed := by exact sub_trans (by assumption) (by decide)) :
    Keeps allowed s0 (State.snoopData s l) := by
  unfold State.snoopData
  with_reducible repeat' first
    | (intro _) | assumption | exact sub_trans hm (by decide) | apply Keeps.send | apply Keeps.ite | refine Keeps.foldl ?_ ?_ _
    | split | dsimp only | (apply Keeps.upd (k := 1048584) <;> first | with_unfolding_all rfl | skip)

theorem askAgent {allowed : Nat} {s0 s : State} (h : Keeps allowed s0 s) (src : WinSrc) (dom : Nat) (a : Nat) (addr : Nat) (n : Nat)
    (hm : sub 1441797 allowed := by exact sub_trans (by assumption) (by decide)) :
    Keeps allowed s0 (State.askAgent s src dom a addr n) := by
  unfold State.askAgent
  with_reducible repeat' first
    | (intro _) | assumption | exact sub_trans hm (by decide) | apply Keeps.hubRequest | apply Keeps.ite
    | refine Keeps.foldl ?_ ?_ _ | split | dsimp only
    | (apply Keeps.upd (k := 1441797) <;> first | with_unfolding_all rfl | skip)

theorem fetch {allowed : Nat} {s0 s : State} (h : Keeps allowed s0 s) (src : WinSrc) (dom : Nat) (l : List (Nat × Nat))
    (hm : sub 1441805 allowed := by exact sub_trans (by assumption) (by decide)) :
    Keeps allowed s0 (State.fetch s src dom l) := by
  unfold State.fetch
  with_reducible repeat' first
    | (intro _) | assumption | exact sub_trans hm (by decide) | apply Keeps.askAgent | apply Keeps.snoopData | apply Keeps.ite
    | refine Keeps.foldl ?_ ?_ _ | split | dsimp only
    | (apply Keeps.upd (k := 1441805) <;> first | with_unfolding_all rfl | skip)

theorem taken {allowed : Nat} {s0 s : State} (h : Keeps allowed s0 s) (src : WinSrc)
    (hm : sub 262144 allowed := by exact sub_trans (by assumption) (by decide)) :
    Keeps allowed s0 (State.taken s src) := by
  unfold State.taken
  with_reducible repeat' first
    | (intro _) | assumption | exact sub_trans hm (by decide) | apply Keeps.ite | refine Keeps.foldl ?_ ?_ _ | split
    | dsimp only | (apply Keeps.upd (k := 262144) <;> first | with_unfolding_all rfl | skip)

theorem storeRegion {allowed : Nat} {s0 s : State} (h : Keeps allowed s0 s) (src : WinSrc) (dom stamp a : Nat) (b : List Byte)
    (hm : sub 1461757 allowed := by exact sub_trans (by assumption) (by decide)) :
    Keeps allowed s0 (State.storeRegion s src dom stamp a b) := by
  unfold State.storeRegion
  split
  · exact h.windowBytes _ _ _ _ _ _
  · exact (h.xtsLine _ _).putShm (fun x => Mem.wf_writeMem _ _ _ _ _ x)
  · exact h.send _
  · exact h.agentWrite _ _ _ _ _ _ _
  · exact h.agentWrite _ _ _ _ _ _ _
  · exact h

end Keeps

end Sys2Proof.Machine
end

