-- ==== Sys2Proof/Laws/KeepsTiers.lean ====
section
/-!
SUPPORT. Every operation keeps what `Keeps` says: the F-tier, Topiary and the recovery of both.  One lemma per operation, named after it; `run<X>` is the lemma of
the meaning `exec<X>`.
-/
set_option Elab.async false
set_option linter.unusedTactic false
set_option linter.unreachableTactic false

namespace Sys2Proof.Machine
namespace Keeps

theorem setFt {allowed : Nat} {s0 s : State} (h : Keeps allowed s0 s) (f : FtState)
    (hm : sub 512 allowed := by exact sub_trans (by assumption) (by decide)) :
    Keeps allowed s0 (State.setFt s f) := by
  unfold State.setFt
  with_reducible repeat' first
    | (intro _) | assumption | exact sub_trans hm (by decide) | apply Keeps.ite | refine Keeps.foldl ?_ ?_ _ | split
    | dsimp only | (apply Keeps.upd (k := 512) <;> first | with_unfolding_all rfl | skip)

theorem putBand {allowed : Nat} {s0 s : State} (h : Keeps allowed s0 s) (b : Band)
    (hm : sub 256 allowed := by exact sub_trans (by assumption) (by decide)) :
    Keeps allowed s0 (State.putBand s b) := by
  unfold State.putBand
  with_reducible repeat' first
    | (intro _) | assumption | exact sub_trans hm (by decide) | apply Keeps.ite | refine Keeps.foldl ?_ ?_ _ | split
    | dsimp only | (apply Keeps.upd (k := 256) <;> first | with_unfolding_all rfl | skip)

theorem setBand {allowed : Nat} {s0 s : State} (h : Keeps allowed s0 s) (n : Nat) (b : Option Band)
    (hm : sub 2437 allowed := by exact sub_trans (by assumption) (by decide)) :
    Keeps allowed s0 (State.setBand s n b) := by
  unfold State.setBand
  with_reducible repeat' first
    | (intro _) | assumption | exact sub_trans hm (by decide) | apply Keeps.journal | apply Keeps.ite
    | refine Keeps.foldl ?_ ?_ _ | split | dsimp only | (apply Keeps.upd (k := 2437) <;> first | with_unfolding_all rfl | skip)

theorem event23 {allowed : Nat} {s0 s : State} (h : Keeps allowed s0 s) (code : Nat) (sev : Nat)
    (hm : sub 4 allowed := by exact sub_trans (by assumption) (by decide)) :
    Keeps allowed s0 (State.event23 s code sev) := by
  unfold State.event23
  with_reducible repeat' first
    | (intro _) | assumption | exact sub_trans hm (by decide) | apply Keeps.raise | apply Keeps.ite | refine Keeps.foldl ?_ ?_ _
    | split | dsimp only | (apply Keeps.upd (k := 4) <;> first | with_unfolding_all rfl | skip)

theorem showFlash {allowed : Nat} {s0 s : State} (h : Keeps allowed s0 s)
    (hm : sub 5 allowed := by exact sub_trans (by assumption) (by decide)) :
    Keeps allowed s0 (State.showFlash s) := by
  unfold State.showFlash
  with_reducible repeat' first
    | (intro _) | assumption | exact sub_trans hm (by decide) | apply Keeps.set | apply Keeps.event23 | apply Keeps.put
    | apply Keeps.ite | refine Keeps.foldl ?_ ?_ _ | split | dsimp only
    | (apply Keeps.upd (k := 5) <;> first | with_unfolding_all rfl | skip)

theorem openBand {allowed : Nat} {s0 s : State} (h : Keeps allowed s0 s) (stream : Nat)
    (hm : sub 2437 allowed := by exact sub_trans (by assumption) (by decide)) :
    Keeps allowed s0 (State.openBand s stream) := by
  unfold State.openBand
  with_reducible repeat' first
    | (intro _) | assumption | exact sub_trans hm (by decide) | apply Keeps.showFlash | apply Keeps.setBand | apply Keeps.ite
    | refine Keeps.foldl ?_ ?_ _ | split | dsimp only | (apply Keeps.upd (k := 2437) <;> first | with_unfolding_all rfl | skip)

theorem streamBand {allowed : Nat} {s0 s : State} (h : Keeps allowed s0 s) (stream : Nat)
    (hm : sub 2437 allowed := by exact sub_trans (by assumption) (by decide)) :
    Keeps allowed s0 (State.streamBand s stream).1 := by
  unfold State.streamBand
  with_reducible repeat' first
    | (intro _) | assumption | exact sub_trans hm (by decide) | apply Keeps.openBand | apply Keeps.ite
    | refine Keeps.foldl ?_ ?_ _ | split | dsimp only | (apply Keeps.upd (k := 2437) <;> first | with_unfolding_all rfl | skip)

theorem streamBand_eq {allowed : Nat} {s0 s : State} (h : Keeps allowed s0 s) {a1 : Nat} {t0 : State} {x} (e : State.streamBand s a1 = (t0, x))
    (hm : sub 2437 allowed := by exact sub_trans (by assumption) (by decide)) :
    Keeps allowed s0 t0 := by
  have g := Keeps.streamBand h a1
  rw [e] at g
  exact g

theorem issueGroup {allowed : Nat} {s0 s : State} (h : Keeps allowed s0 s) (stream : Nat)
    (hm : sub 2949 allowed := by exact sub_trans (by assumption) (by decide)) :
    Keeps allowed s0 (State.issueGroup s stream) := by
  unfold State.issueGroup
  with_reducible repeat' first
    | (intro _) | assumption | exact sub_trans hm (by decide) | apply Keeps.streamBand | apply Keeps.setFt
    | refine Keeps.streamBand_eq ?_ (e := by assumption) | apply Keeps.ite | refine Keeps.foldl ?_ ?_ _ | split | dsimp only
    | (apply Keeps.upd (k := 2949) <;> first | with_unfolding_all rfl | skip)

theorem stagePage {allowed : Nat} {s0 s : State} (h : Keeps allowed s0 s) (kind : ProgKind) (page : FlashPage)
    (hm : sub 2949 allowed := by exact sub_trans (by assumption) (by decide)) :
    Keeps allowed s0 (State.stagePage s kind page) := by
  unfold State.stagePage
  with_reducible repeat' first
    | (intro _) | assumption | exact sub_trans hm (by decide) | apply Keeps.issueGroup | apply Keeps.setFt | apply Keeps.ite
    | refine Keeps.foldl ?_ ?_ _ | split | dsimp only | (apply Keeps.upd (k := 2949) <;> first | with_unfolding_all rfl | skip)

theorem issueAll {allowed : Nat} {s0 s : State} (h : Keeps allowed s0 s)
    (hm : sub 2949 allowed := by exact sub_trans (by assumption) (by decide)) :
    Keeps allowed s0 (State.issueAll s) := by
  unfold State.issueAll
  with_reducible repeat' first
    | (intro _) | assumption | exact sub_trans hm (by decide) | apply Keeps.issueGroup | apply Keeps.ite
    | refine Keeps.foldl ?_ ?_ _ | split | dsimp only | (apply Keeps.upd (k := 2949) <;> first | with_unfolding_all rfl | skip)

theorem setSlotRec {allowed : Nat} {s0 s : State} (h : Keeps allowed s0 s) (i : Nat) (v : Option Slot)
    (hm : sub 2437 allowed := by exact sub_trans (by assumption) (by decide)) :
    Keeps allowed s0 (State.setSlotRec s i v) := by
  unfold State.setSlotRec
  with_reducible repeat' first
    | (intro _) | assumption | exact sub_trans hm (by decide) | apply Keeps.journal | apply Keeps.ite
    | refine Keeps.foldl ?_ ?_ _ | split | dsimp only | (apply Keeps.upd (k := 2437) <;> first | with_unfolding_all rfl | skip)

theorem newVersion {allowed : Nat} {s0 s : State} (h : Keeps allowed s0 s)
    (hm : sub 256 allowed := by exact sub_trans (by assumption) (by decide)) :
    Keeps allowed s0 (State.newVersion s).2 := by
  unfold State.newVersion
  with_reducible repeat' first
    | (intro _) | assumption | exact sub_trans hm (by decide) | apply Keeps.ite | refine Keeps.foldl ?_ ?_ _ | split
    | dsimp only | (apply Keeps.upd (k := 256) <;> first | with_unfolding_all rfl | skip)

theorem newVersion_eq {allowed : Nat} {s0 s : State} (h : Keeps allowed s0 s)  {t0 : State} {x} (e : State.newVersion s = (x, t0))
    (hm : sub 256 allowed := by exact sub_trans (by assumption) (by decide)) :
    Keeps allowed s0 t0 := by
  have g := Keeps.newVersion h 
  rw [e] at g
  exact g

theorem heatUnit {allowed : Nat} {s0 s : State} (h : Keeps allowed s0 s) (u : Nat)
    (hm : sub 512 allowed := by exact sub_trans (by assumption) (by decide)) :
    Keeps allowed s0 (State.heatUnit s u) := by
  unfold State.heatUnit
  with_reducible repeat' first
    | (intro _) | assumption | exact sub_trans hm (by decide) | apply Keeps.setFt | apply Keeps.ite | refine Keeps.foldl ?_ ?_ _
    | split | dsimp only | (apply Keeps.upd (k := 512) <;> first | with_unfolding_all rfl | skip)

theorem setSuspended {allowed : Nat} {s0 s : State} (h : Keeps allowed s0 s) (c : Nat) (k : Nat) (v : Option Suspended)
    (hm : sub 512 allowed := by exact sub_trans (by assumption) (by decide)) :
    Keeps allowed s0 (State.setSuspended s c k v) := by
  unfold State.setSuspended
  with_reducible repeat' first
    | (intro _) | assumption | exact sub_trans hm (by decide) | apply Keeps.setFt | apply Keeps.ite | refine Keeps.foldl ?_ ?_ _
    | split | dsimp only | (apply Keeps.upd (k := 512) <;> first | with_unfolding_all rfl | skip)

theorem suspend {allowed : Nat} {s0 s : State} (h : Keeps allowed s0 s) (c : Nat) (k : Nat)
    (hm : sub 516 allowed := by exact sub_trans (by assumption) (by decide)) :
    Keeps allowed s0 (State.suspend s c k) := by
  unfold State.suspend
  with_reducible repeat' first
    | (intro _) | assumption | exact sub_trans hm (by decide) | apply Keeps.cFch | apply Keeps.setSuspended | apply Keeps.ite
    | refine Keeps.foldl ?_ ?_ _ | split | dsimp only | (apply Keeps.upd (k := 516) <;> first | with_unfolding_all rfl | skip)

theorem endSuspension {allowed : Nat} {s0 s : State} (h : Keeps allowed s0 s) (b : Band)
    (hm : sub 512 allowed := by exact sub_trans (by assumption) (by decide)) :
    Keeps allowed s0 (State.endSuspension s b) := by
  unfold State.endSuspension
  with_reducible repeat' first
    | (intro _) | assumption | exact sub_trans hm (by decide) | apply Keeps.setFt | apply Keeps.ite | refine Keeps.foldl ?_ ?_ _
    | split | dsimp only | (apply Keeps.upd (k := 512) <;> first | with_unfolding_all rfl | skip)

theorem putMember {allowed : Nat} {s0 s : State} (h : Keeps allowed s0 s) (b : Band) (m : Member)
    (hm : sub 256 allowed := by exact sub_trans (by assumption) (by decide)) :
    Keeps allowed s0 (State.putMember s b m) := by
  unfold State.putMember
  with_reducible repeat' first
    | (intro _) | assumption | exact sub_trans hm (by decide) | apply Keeps.putBand | apply Keeps.ite
    | refine Keeps.foldl ?_ ?_ _ | split | dsimp only | (apply Keeps.upd (k := 256) <;> first | with_unfolding_all rfl | skip)

theorem queueReloc {allowed : Nat} {s0 s : State} (h : Keeps allowed s0 s) (n : Nat)
    (hm : sub 256 allowed := by exact sub_trans (by assumption) (by decide)) :
    Keeps allowed s0 (State.queueReloc s n) := by
  unfold State.queueReloc
  with_reducible repeat' first
    | (intro _) | assumption | exact sub_trans hm (by decide) | apply Keeps.putBand | apply Keeps.ite
    | refine Keeps.foldl ?_ ?_ _ | split | dsimp only | (apply Keeps.upd (k := 256) <;> first | with_unfolding_all rfl | skip)

theorem suspectBlock {allowed : Nat} {s0 s : State} (h : Keeps allowed s0 s) (n : Nat) (l : Nat)
    (hm : sub 256 allowed := by exact sub_trans (by assumption) (by decide)) :
    Keeps allowed s0 (State.suspectBlock s n l) := by
  unfold State.suspectBlock
  with_reducible repeat' first
    | (intro _) | assumption | exact sub_trans hm (by decide) | apply Keeps.putBand | apply Keeps.queueReloc | apply Keeps.ite
    | refine Keeps.foldl ?_ ?_ _ | split | dsimp only | (apply Keeps.upd (k := 256) <;> first | with_unfolding_all rfl | skip)

theorem disturb {allowed : Nat} {s0 s : State} (h : Keeps allowed s0 s) (n : Nat) (l : Nat)
    (hm : sub 260 allowed := by exact sub_trans (by assumption) (by decide)) :
    Keeps allowed s0 (State.disturb s n l) := by
  unfold State.disturb
  with_reducible repeat' first
    | (intro _) | assumption | exact sub_trans hm (by decide) | apply Keeps.suspectBlock | apply Keeps.raise | apply Keeps.ite
    | refine Keeps.foldl ?_ ?_ _ | split | dsimp only | (apply Keeps.upd (k := 260) <;> first | with_unfolding_all rfl | skip)

theorem sense {allowed : Nat} {s0 s : State} (h : Keeps allowed s0 s) (l : Nat)
    (hm : sub 772 allowed := by exact sub_trans (by assumption) (by decide)) :
    Keeps allowed s0 (State.sense s l) := by
  unfold State.sense
  with_reducible repeat' first
    | (intro _) | assumption | exact sub_trans hm (by decide) | apply Keeps.cFch | apply Keeps.putMember | apply Keeps.suspend
    | apply Keeps.disturb | apply Keeps.ite | refine Keeps.foldl ?_ ?_ _ | split | dsimp only
    | (apply Keeps.upd (k := 772) <;> first | with_unfolding_all rfl | skip)

theorem startNand {allowed : Nat} {s0 s : State} (h : Keeps allowed s0 s) (l : Nat) (unit : Nat) (codewords : List Nat) (lost : List Nat) (want : NandFor)
    (hm : sub 772 allowed := by exact sub_trans (by assumption) (by decide)) :
    Keeps allowed s0 (State.startNand s l unit codewords lost want) := by
  unfold State.startNand
  with_reducible repeat' first
    | (intro _) | assumption | exact sub_trans hm (by decide) | apply Keeps.sense | apply Keeps.setFt | apply Keeps.ite
    | refine Keeps.foldl ?_ ?_ _ | split | dsimp only | (apply Keeps.upd (k := 772) <;> first | with_unfolding_all rfl | skip)

theorem copyPages {allowed : Nat} {s0 s : State} (h : Keeps allowed s0 s) (l : List Nat) (stream : Nat)
    (hm : sub 772 allowed := by exact sub_trans (by assumption) (by decide)) :
    Keeps allowed s0 (State.copyPages s l stream) := by
  unfold State.copyPages
  with_reducible repeat' first
    | (intro _) | assumption | exact sub_trans hm (by decide) | apply Keeps.startNand | apply Keeps.ite
    | refine Keeps.foldl ?_ ?_ _ | split | dsimp only | (apply Keeps.upd (k := 772) <;> first | with_unfolding_all rfl | skip)

theorem eraseEmpty {allowed : Nat} {s0 s : State} (h : Keeps allowed s0 s)
    (hm : sub 2437 allowed := by exact sub_trans (by assumption) (by decide)) :
    Keeps allowed s0 (State.eraseEmpty s) := by
  unfold State.eraseEmpty
  with_reducible repeat' first
    | (intro _) | assumption | exact sub_trans hm (by decide) | apply Keeps.showFlash | apply Keeps.setBand | apply Keeps.ite
    | refine Keeps.foldl ?_ ?_ _ | split | dsimp only | (apply Keeps.upd (k := 2437) <;> first | with_unfolding_all rfl | skip)

theorem showVictim {allowed : Nat} {s0 s : State} (h : Keeps allowed s0 s)
    (hm : sub 1 allowed := by exact sub_trans (by assumption) (by decide)) :
    Keeps allowed s0 (State.showVictim s) := by
  unfold State.showVictim
  with_reducible repeat' first
    | (intro _) | assumption | exact sub_trans hm (by decide) | apply Keeps.set | apply Keeps.ite | refine Keeps.foldl ?_ ?_ _
    | split | dsimp only | (apply Keeps.upd (k := 1) <;> first | with_unfolding_all rfl | skip)

theorem markBad {allowed : Nat} {s0 s : State} (h : Keeps allowed s0 s) (b : Nat) (code : Nat)
    (hm : sub 2437 allowed := by exact sub_trans (by assumption) (by decide)) :
    Keeps allowed s0 (State.markBad s b code) := by
  unfold State.markBad
  with_reducible repeat' first
    | (intro _) | assumption | exact sub_trans hm (by decide) | apply Keeps.raise | apply Keeps.journal | apply Keeps.ite
    | refine Keeps.foldl ?_ ?_ _ | split | dsimp only | (apply Keeps.upd (k := 2437) <;> first | with_unfolding_all rfl | skip)

theorem releaseBand {allowed : Nat} {s0 s : State} (h : Keeps allowed s0 s) (b : Band)
    (hm : sub 2949 allowed := by exact sub_trans (by assumption) (by decide)) :
    Keeps allowed s0 (State.releaseBand s b) := by
  unfold State.releaseBand
  with_reducible repeat' first
    | (intro _) | assumption | exact sub_trans hm (by decide) | apply Keeps.setFt | apply Keeps.markBad | apply Keeps.setBand
    | apply Keeps.endSuspension | apply Keeps.issueAll | apply Keeps.showVictim | apply Keeps.showFlash | apply Keeps.ite
    | refine Keeps.foldl ?_ ?_ _ | split | dsimp only | (apply Keeps.upd (k := 2949) <;> first | with_unfolding_all rfl | skip)

theorem closeBroken {allowed : Nat} {s0 s : State} (h : Keeps allowed s0 s) (n : Nat)
    (hm : sub 2437 allowed := by exact sub_trans (by assumption) (by decide)) :
    Keeps allowed s0 (State.closeBroken s n) := by
  unfold State.closeBroken
  with_reducible repeat' first
    | (intro _) | assumption | exact sub_trans hm (by decide) | apply Keeps.setBand | apply Keeps.ite
    | refine Keeps.foldl ?_ ?_ _ | split | dsimp only | (apply Keeps.upd (k := 2437) <;> first | with_unfolding_all rfl | skip)

theorem failGroup {allowed : Nat} {s0 s : State} (h : Keeps allowed s0 s) (n : Nat)
    (hm : sub 512 allowed := by exact sub_trans (by assumption) (by decide)) :
    Keeps allowed s0 (State.failGroup s n) := by
  unfold State.failGroup
  with_reducible repeat' first
    | (intro _) | assumption | exact sub_trans hm (by decide) | apply Keeps.setFt | apply Keeps.ite | refine Keeps.foldl ?_ ?_ _
    | split | dsimp only | (apply Keeps.upd (k := 512) <;> first | with_unfolding_all rfl | skip)

theorem bandsLose {allowed : Nat} {s0 s : State} (h : Keeps allowed s0 s) (c : Nat) (k : Nat)
    (hm : sub 2949 allowed := by exact sub_trans (by assumption) (by decide)) :
    Keeps allowed s0 (State.bandsLose s c k) := by
  unfold State.bandsLose
  with_reducible repeat' first
    | (intro _) | assumption | exact sub_trans hm (by decide) | apply Keeps.closeBroken | apply Keeps.failGroup
    | apply Keeps.ite | refine Keeps.foldl ?_ ?_ _ | split | dsimp only
    | (apply Keeps.upd (k := 2949) <;> first | with_unfolding_all rfl | skip)

theorem dieLost {allowed : Nat} {s0 s : State} (h : Keeps allowed s0 s) (c : Nat) (k : Nat)
    (hm : sub 2949 allowed := by exact sub_trans (by assumption) (by decide)) :
    Keeps allowed s0 (State.dieLost s c k) := by
  unfold State.dieLost
  with_reducible repeat' first
    | (intro _) | assumption | exact sub_trans hm (by decide) | apply Keeps.setBit | apply Keeps.bandsLose
    | apply Keeps.setSuspended | apply Keeps.ite | refine Keeps.foldl ?_ ?_ _ | split | dsimp only
    | (apply Keeps.upd (k := 2949) <;> first | with_unfolding_all rfl | skip)

theorem fchanOffline {allowed : Nat} {s0 s : State} (h : Keeps allowed s0 s) (c : Nat) (cause : Nat)
    (hm : sub 2949 allowed := by exact sub_trans (by assumption) (by decide)) :
    Keeps allowed s0 (State.fchanOffline s c cause) := by
  unfold State.fchanOffline
  with_reducible repeat' first
    | (intro _) | assumption | exact sub_trans hm (by decide) | apply Keeps.raise | apply Keeps.set | apply Keeps.issueAll
    | apply Keeps.showFlash | apply Keeps.dieLost | apply Keeps.ite | refine Keeps.foldl ?_ ?_ _ | split | dsimp only
    | (apply Keeps.upd (k := 2949) <;> first | with_unfolding_all rfl | skip)

theorem showFull {allowed : Nat} {s0 s : State} (h : Keeps allowed s0 s)
    (hm : sub 5 allowed := by exact sub_trans (by assumption) (by decide)) :
    Keeps allowed s0 (State.showFull s) := by
  unfold State.showFull
  with_reducible repeat' first
    | (intro _) | assumption | exact sub_trans hm (by decide) | apply Keeps.showFcache | apply Keeps.raise | apply Keeps.put
    | apply Keeps.ite | refine Keeps.foldl ?_ ?_ _ | split | dsimp only
    | (apply Keeps.upd (k := 5) <;> first | with_unfolding_all rfl | skip)

theorem writeSlot {allowed : Nat} {s0 s : State} (h : Keeps allowed s0 s) (u : Nat) (new : List (Nat × HostBlock)) (zero : List Nat)
    (hm : sub 2949 allowed := by exact sub_trans (by assumption) (by decide)) :
    Keeps allowed s0 (State.writeSlot s u new zero) := by
  unfold State.writeSlot
  with_reducible repeat' first
    | (intro _) | assumption | exact sub_trans hm (by decide) | apply Keeps.newVersion | apply Keeps.heatUnit
    | apply Keeps.setSlotRec | apply Keeps.showFull | apply Keeps.journal | refine Keeps.newVersion_eq ?_ (e := by assumption)
    | apply Keeps.ite | refine Keeps.foldl ?_ ?_ _ | split | dsimp only
    | (apply Keeps.upd (k := 2949) <;> first | with_unfolding_all rfl | skip)

theorem freeSlotRec {allowed : Nat} {s0 s : State} (h : Keeps allowed s0 s) (i : Nat)
    (hm : sub 3525 allowed := by exact sub_trans (by assumption) (by decide)) :
    Keeps allowed s0 (State.freeSlotRec s i) := by
  unfold State.freeSlotRec
  with_reducible repeat' first
    | (intro _) | assumption | exact sub_trans hm (by decide) | apply Keeps.shrinkStep | apply Keeps.showFull
    | apply Keeps.setSlotRec | apply Keeps.ite | refine Keeps.foldl ?_ ?_ _ | split | dsimp only
    | (apply Keeps.upd (k := 3525) <;> first | with_unfolding_all rfl | skip)

theorem overtakeDirect {allowed : Nat} {s0 s : State} (h : Keeps allowed s0 s) (u : Nat)
    (hm : sub 512 allowed := by exact sub_trans (by assumption) (by decide)) :
    Keeps allowed s0 (State.overtakeDirect s u) := by
  unfold State.overtakeDirect
  with_reducible repeat' first
    | (intro _) | assumption | exact sub_trans hm (by decide) | apply Keeps.setFt | apply Keeps.ite | refine Keeps.foldl ?_ ?_ _
    | split | dsimp only | (apply Keeps.upd (k := 512) <;> first | with_unfolding_all rfl | skip)

theorem trimUnit {allowed : Nat} {s0 s : State} (h : Keeps allowed s0 s) (u : Nat)
    (hm : sub 4037 allowed := by exact sub_trans (by assumption) (by decide)) :
    Keeps allowed s0 (State.trimUnit s u) := by
  unfold State.trimUnit
  with_reducible repeat' first
    | (intro _) | assumption | exact sub_trans hm (by decide) | apply Keeps.overtakeDirect | apply Keeps.newVersion
    | apply Keeps.heatUnit | apply Keeps.freeSlotRec | apply Keeps.journal | refine Keeps.newVersion_eq ?_ (e := by assumption)
    | apply Keeps.ite | refine Keeps.foldl ?_ ?_ _ | split | dsimp only
    | (apply Keeps.upd (k := 4037) <;> first | with_unfolding_all rfl | skip)

theorem blockDone {allowed : Nat} {s0 s : State} (h : Keeps allowed s0 s) (ring : Nat) (handle : Nat) (i : Nat) (x : BlockSource) (corrected : Bool)
    (hm : sub 1465853 allowed := by exact sub_trans (by assumption) (by decide)) :
    Keeps allowed s0 (State.blockDone s ring handle i x corrected) := by
  unfold State.blockDone
  with_reducible repeat' first
    | (intro _) | assumption | exact sub_trans hm (by decide) | apply Keeps.setDesc | apply Keeps.storeRegion
    | apply Keeps.xtsLine | apply Keeps.ite | refine Keeps.foldl ?_ ?_ _ | split | dsimp only
    | (apply Keeps.upd (k := 1465853) <;> first | with_unfolding_all rfl | skip)

theorem partDone {allowed : Nat} {s0 s : State} (h : Keeps allowed s0 s) (ring : Nat) (handle : Nat)
    (hm : sub 266240 allowed := by exact sub_trans (by assumption) (by decide)) :
    Keeps allowed s0 (State.partDone s ring handle) := by
  unfold State.partDone
  with_reducible repeat' first
    | (intro _) | assumption | exact sub_trans hm (by decide) | apply Keeps.setDesc | apply Keeps.finish | apply Keeps.ite
    | refine Keeps.foldl ?_ ?_ _ | split | dsimp only
    | (apply Keeps.upd (k := 266240) <;> first | with_unfolding_all rfl | skip)

theorem destage {allowed : Nat} {s0 s : State} (h : Keeps allowed s0 s) (x : Slot) (old : Option FlashPage) (lost : List Nat)
    (hm : sub 2949 allowed := by exact sub_trans (by assumption) (by decide)) :
    Keeps allowed s0 (State.destage s x old lost) := by
  unfold State.destage
  with_reducible repeat' first
    | (intro _) | assumption | exact sub_trans hm (by decide) | apply Keeps.stagePage | apply Keeps.ite
    | refine Keeps.foldl ?_ ?_ _ | split | dsimp only | (apply Keeps.upd (k := 2949) <;> first | with_unfolding_all rfl | skip)

theorem startDestage {allowed : Nat} {s0 s : State} (h : Keeps allowed s0 s) (x : Slot)
    (hm : sub 2949 allowed := by exact sub_trans (by assumption) (by decide)) :
    Keeps allowed s0 (State.startDestage s x) := by
  unfold State.startDestage
  with_reducible repeat' first
    | (intro _) | assumption | exact sub_trans hm (by decide) | apply Keeps.cTop | apply Keeps.destage | apply Keeps.startNand
    | apply Keeps.ite | refine Keeps.foldl ?_ ?_ _ | split | dsimp only
    | (apply Keeps.upd (k := 2949) <;> first | with_unfolding_all rfl | skip)

theorem nandDone {allowed : Nat} {s0 s : State} (h : Keeps allowed s0 s) (r : NandRead)
    (hm : sub 269189 allowed := by exact sub_trans (by assumption) (by decide)) :
    Keeps allowed s0 (State.nandDone s r) := by
  unfold State.nandDone
  with_reducible repeat' first
    | (intro _) | assumption | exact sub_trans hm (by decide) | apply Keeps.setFt | apply Keeps.partDone | apply Keeps.destage
    | apply Keeps.showVictim | apply Keeps.eraseEmpty | apply Keeps.journal | apply Keeps.count | apply Keeps.stagePage
    | apply Keeps.ite | refine Keeps.foldl ?_ ?_ _ | split | dsimp only
    | (apply Keeps.upd (k := 269189) <;> first | with_unfolding_all rfl | skip)

theorem codewordDone {allowed : Nat} {s0 s : State} (h : Keeps allowed s0 s) (r : NandRead) (k : Nat) (ok : Bool) (corrected : Bool)
    (hm : sub 1465853 allowed := by exact sub_trans (by assumption) (by decide)) :
    Keeps allowed s0 (State.codewordDone s r k ok corrected) := by
  unfold State.codewordDone
  with_reducible repeat' first
    | (intro _) | assumption | exact sub_trans hm (by decide) | apply Keeps.blockDone | apply Keeps.setDesc | apply Keeps.ite
    | refine Keeps.foldl ?_ ?_ _ | split | dsimp only
    | (apply Keeps.upd (k := 1465853) <;> first | with_unfolding_all rfl | skip)

theorem blockLost {allowed : Nat} {s0 s : State} (h : Keeps allowed s0 s) (r : NandRead) (k : Nat)
    (hm : sub 1466365 allowed := by exact sub_trans (by assumption) (by decide)) :
    Keeps allowed s0 (State.blockLost s r k) := by
  unfold State.blockLost
  with_reducible repeat' first
    | (intro _) | assumption | exact sub_trans hm (by decide) | apply Keeps.raise | apply Keeps.bump | apply Keeps.codewordDone
    | apply Keeps.startNand | apply Keeps.ite | refine Keeps.foldl ?_ ?_ _ | split | dsimp only
    | (apply Keeps.upd (k := 1466365) <;> first | with_unfolding_all rfl | skip)

theorem rebuild {allowed : Nat} {s0 s : State} (h : Keeps allowed s0 s) (r : NandRead) (b : Band) (m : Member) (rebuilt : List Nat)
    (hm : sub 1466365 allowed := by exact sub_trans (by assumption) (by decide)) :
    Keeps allowed s0 (State.rebuild s r b m rebuilt) := by
  unfold State.rebuild
  with_reducible repeat' first
    | (intro _) | assumption | exact sub_trans hm (by decide) | apply Keeps.setFt | apply Keeps.raise | apply Keeps.bump
    | apply Keeps.codewordDone | apply Keeps.count | apply Keeps.blockLost | apply Keeps.nandDone | apply Keeps.ite
    | refine Keeps.foldl ?_ ?_ _ | split | dsimp only
    | (apply Keeps.upd (k := 1466365) <;> first | with_unfolding_all rfl | skip)

theorem startReads {allowed : Nat} {s0 s : State} (h : Keeps allowed s0 s) (ring : Nat) (handle : Nat) (first : Nat) (l : List (Nat × Nat × Nat))
    (hm : sub 772 allowed := by exact sub_trans (by assumption) (by decide)) :
    Keeps allowed s0 (State.startReads s ring handle first l) := by
  unfold State.startReads
  with_reducible repeat' first
    | (intro _) | assumption | exact sub_trans hm (by decide) | apply Keeps.startNand | apply Keeps.ite
    | refine Keeps.foldl ?_ ?_ _ | split | dsimp only | (apply Keeps.upd (k := 772) <;> first | with_unfolding_all rfl | skip)

theorem pageProgrammed {allowed : Nat} {s0 s : State} (h : Keeps allowed s0 s) (x : Staged) (l : Nat)
    (hm : sub 269765 allowed := by exact sub_trans (by assumption) (by decide)) :
    Keeps allowed s0 (State.pageProgrammed s x l) := by
  unfold State.pageProgrammed
  with_reducible repeat' first
    | (intro _) | assumption | exact sub_trans hm (by decide) | apply Keeps.freeSlotRec | apply Keeps.journal
    | apply Keeps.setSlotRec | apply Keeps.partDone | apply Keeps.showStaged | apply Keeps.ite | refine Keeps.foldl ?_ ?_ _
    | split | dsimp only | (apply Keeps.upd (k := 269765) <;> first | with_unfolding_all rfl | skip)

theorem programPage {allowed : Nat} {s0 s : State} (h : Keeps allowed s0 s) (b : Band) (row : Nat) (x : Staged × Nat)
    (hm : sub 270277 allowed := by exact sub_trans (by assumption) (by decide)) :
    Keeps allowed s0 (State.programPage b row s x) := by
  unfold State.programPage
  with_reducible repeat' first
    | (intro _) | assumption | exact sub_trans hm (by decide) | apply Keeps.pageProgrammed | apply Keeps.setFt | apply Keeps.ite
    | refine Keeps.foldl ?_ ?_ _ | split | dsimp only
    | (apply Keeps.upd (k := 270277) <;> first | with_unfolding_all rfl | skip)

theorem runFtRead {allowed : Nat} {s0 s : State} (h : Keeps allowed s0 s) (ring : Nat) (handle : Nat)
    (hm : sub 1466365 allowed := by exact sub_trans (by assumption) (by decide)) :
    KeepsOut allowed s0 (execFtRead ring handle s) := by
  unfold execFtRead
  refine Keeps.next ?_
  with_reducible repeat' first
    | (intro _) | assumption | exact sub_trans hm (by decide) | apply Keeps.finish | apply Keeps.count | apply Keeps.setDesc
    | apply Keeps.blockDone | apply Keeps.startReads | apply Keeps.ite | refine Keeps.foldl ?_ ?_ _ | split | dsimp only
    | (apply Keeps.upd (k := 1466365) <;> first | with_unfolding_all rfl | skip)

theorem runFtWrite {allowed : Nat} {s0 s : State} (h : Keeps allowed s0 s) (ring : Nat) (handle : Nat) (outside : List (BitVec 8))
    (hm : sub 1449933 allowed := by exact sub_trans (by assumption) (by decide)) :
    KeepsOut allowed s0 (execFtWrite ring handle outside s) := by
  unfold execFtWrite
  refine Keeps.next ?_
  with_reducible repeat' first
    | (intro _) | assumption | exact sub_trans hm (by decide) | apply Keeps.finish | apply Keeps.fetch | apply Keeps.taken
    | apply Keeps.xtsLine | apply Keeps.overtakeDirect | apply Keeps.freeSlotRec | apply Keeps.journal | apply Keeps.newVersion
    | apply Keeps.stagePage | apply Keeps.heatUnit | apply Keeps.setDesc | apply Keeps.countBytes | apply Keeps.writeSlot
    | refine Keeps.newVersion_eq ?_ (e := by assumption) | apply Keeps.ite | refine Keeps.foldl ?_ ?_ _ | split | dsimp only
    | (apply Keeps.upd (k := 1449933) <;> first | with_unfolding_all rfl | skip)

theorem runFtTrim {allowed : Nat} {s0 s : State} (h : Keeps allowed s0 s) (ring : Nat) (handle : Nat)
    (hm : sub 270277 allowed := by exact sub_trans (by assumption) (by decide)) :
    KeepsOut allowed s0 (execFtTrim ring handle s) := by
  unfold execFtTrim
  refine Keeps.next ?_
  with_reducible repeat' first
    | (intro _) | assumption | exact sub_trans hm (by decide) | apply Keeps.finish | apply Keeps.trimUnit
    | apply Keeps.writeSlot | apply Keeps.showVictim | apply Keeps.ite | refine Keeps.foldl ?_ ?_ _ | split | dsimp only
    | (apply Keeps.upd (k := 270277) <;> first | with_unfolding_all rfl | skip)

theorem runFtFlush {allowed : Nat} {s0 s : State} (h : Keeps allowed s0 s) (ring : Nat) (handle : Nat)
    (hm : sub 266240 allowed := by exact sub_trans (by assumption) (by decide)) :
    KeepsOut allowed s0 (execFtFlush ring handle s) := by
  unfold execFtFlush
  refine Keeps.next ?_
  with_reducible repeat' first
    | (intro _) | assumption | exact sub_trans hm (by decide) | apply Keeps.finish | apply Keeps.ite
    | refine Keeps.foldl ?_ ?_ _ | split | dsimp only
    | (apply Keeps.upd (k := 266240) <;> first | with_unfolding_all rfl | skip)

theorem runNandDieOffline {allowed : Nat} {s0 s : State} (h : Keeps allowed s0 s) (chan : Nat) (die : Nat)
    (hm : sub 2949 allowed := by exact sub_trans (by assumption) (by decide)) :
    KeepsOut allowed s0 (execNandDieOffline chan die s) := by
  unfold execNandDieOffline
  refine Keeps.next ?_
  with_reducible repeat' first
    | (intro _) | assumption | exact sub_trans hm (by decide) | apply Keeps.raise | apply Keeps.dieLost
    | apply Keeps.fchanOffline | apply Keeps.issueAll | apply Keeps.showFlash | apply Keeps.ite | refine Keeps.foldl ?_ ?_ _
    | split | dsimp only | (apply Keeps.upd (k := 2949) <;> first | with_unfolding_all rfl | skip)

theorem runProgramResume {allowed : Nat} {s0 s : State} (h : Keeps allowed s0 s) (chan : Nat) (die : Nat)
    (hm : sub 512 allowed := by exact sub_trans (by assumption) (by decide)) :
    KeepsOut allowed s0 (execProgramResume chan die s) := by
  unfold execProgramResume
  refine Keeps.next ?_
  with_reducible repeat' first
    | (intro _) | assumption | exact sub_trans hm (by decide) | apply Keeps.setSuspended | apply Keeps.ite
    | refine Keeps.foldl ?_ ?_ _ | split | dsimp only | (apply Keeps.upd (k := 512) <;> first | with_unfolding_all rfl | skip)

theorem runDieCalibration {allowed : Nat} {s0 s : State} (h : Keeps allowed s0 s) (chan : Nat) (die : Nat)
    (hm : sub 1 allowed := by exact sub_trans (by assumption) (by decide)) :
    KeepsOut allowed s0 (execDieCalibration chan die s) := by
  unfold execDieCalibration
  refine Keeps.next ?_
  with_reducible repeat' first
    | (intro _) | assumption | exact sub_trans hm (by decide) | apply Keeps.setBit | apply Keeps.ite
    | refine Keeps.foldl ?_ ?_ _ | split | dsimp only | (apply Keeps.upd (k := 1) <;> first | with_unfolding_all rfl | skip)

theorem runCalibrationComplete {allowed : Nat} {s0 s : State} (h : Keeps allowed s0 s) (chan : Nat) (die : Nat)
    (hm : sub 2949 allowed := by exact sub_trans (by assumption) (by decide)) :
    KeepsOut allowed s0 (execCalibrationComplete chan die s) := by
  unfold execCalibrationComplete
  refine Keeps.next ?_
  with_reducible repeat' first
    | (intro _) | assumption | exact sub_trans hm (by decide) | apply Keeps.setFt | apply Keeps.issueAll | apply Keeps.raise
    | apply Keeps.setBit | apply Keeps.ite | refine Keeps.foldl ?_ ?_ _ | split | dsimp only
    | (apply Keeps.upd (k := 2949) <;> first | with_unfolding_all rfl | skip)

theorem runNandPageReadComplete {allowed : Nat} {s0 s : State} (h : Keeps allowed s0 s) (read : Nat) (decoded : List Nat) (rebuilt : List Nat)
    (hm : sub 1466365 allowed := by exact sub_trans (by assumption) (by decide)) :
    KeepsOut allowed s0 (execNandPageReadComplete read decoded rebuilt s) := by
  unfold execNandPageReadComplete
  refine Keeps.next ?_
  with_reducible repeat' first
    | (intro _) | assumption | exact sub_trans hm (by decide) | apply Keeps.nandDone | apply Keeps.blockLost
    | apply Keeps.rebuild | apply Keeps.putMember | apply Keeps.cFtl | apply Keeps.codewordDone | apply Keeps.disturb
    | apply Keeps.setFt | apply Keeps.bump | apply Keeps.sense | apply Keeps.count | apply Keeps.raise
    | apply Keeps.suspectBlock | apply Keeps.ite | refine Keeps.foldl ?_ ?_ _ | split | dsimp only
    | (apply Keeps.upd (k := 1466365) <;> first | with_unfolding_all rfl | skip)

theorem runDestage {allowed : Nat} {s0 s : State} (h : Keeps allowed s0 s) (slot : Nat)
    (hm : sub 2949 allowed := by exact sub_trans (by assumption) (by decide)) :
    KeepsOut allowed s0 (execDestage slot s) := by
  unfold execDestage
  refine Keeps.next ?_
  with_reducible repeat' first
    | (intro _) | assumption | exact sub_trans hm (by decide) | apply Keeps.startDestage | apply Keeps.ite
    | refine Keeps.foldl ?_ ?_ _ | split | dsimp only | (apply Keeps.upd (k := 2949) <;> first | with_unfolding_all rfl | skip)

theorem runProgramGroupComplete {allowed : Nat} {s0 s : State} (h : Keeps allowed s0 s) (band : Nat)
    (hm : sub 270277 allowed := by exact sub_trans (by assumption) (by decide)) :
    KeepsOut allowed s0 (execProgramGroupComplete band s) := by
  unfold execProgramGroupComplete
  refine Keeps.next ?_
  with_reducible repeat' first
    | (intro _) | assumption | exact sub_trans hm (by decide) | apply Keeps.setFt | apply Keeps.endSuspension
    | apply Keeps.putBand | apply Keeps.programPage | apply Keeps.count48 | apply Keeps.cFt | apply Keeps.cFch
    | apply Keeps.setBand | apply Keeps.issueAll | apply Keeps.showVictim | apply Keeps.eraseEmpty | apply Keeps.showFlash
    | apply Keeps.ite | refine Keeps.foldl ?_ ?_ _ | split | dsimp only
    | (apply Keeps.upd (k := 270277) <;> first | with_unfolding_all rfl | skip)

theorem runPadTimer {allowed : Nat} {s0 s : State} (h : Keeps allowed s0 s) (stream : Nat)
    (hm : sub 2949 allowed := by exact sub_trans (by assumption) (by decide)) :
    KeepsOut allowed s0 (execPadTimer stream s) := by
  unfold execPadTimer
  refine Keeps.next ?_
  with_reducible repeat' first
    | (intro _) | assumption | exact sub_trans hm (by decide) | apply Keeps.streamBand | apply Keeps.issueGroup
    | apply Keeps.setFt | refine Keeps.streamBand_eq ?_ (e := by assumption) | apply Keeps.ite | refine Keeps.foldl ?_ ?_ _
    | split | dsimp only | (apply Keeps.upd (k := 2949) <;> first | with_unfolding_all rfl | skip)

theorem runRelocation {allowed : Nat} {s0 s : State} (h : Keeps allowed s0 s) (band : Nat)
    (hm : sub 2949 allowed := by exact sub_trans (by assumption) (by decide)) :
    KeepsOut allowed s0 (execRelocation band s) := by
  unfold execRelocation
  refine Keeps.next ?_
  with_reducible repeat' first
    | (intro _) | assumption | exact sub_trans hm (by decide) | apply Keeps.setBand | apply Keeps.queueReloc
    | apply Keeps.eraseEmpty | apply Keeps.copyPages | apply Keeps.ite | refine Keeps.foldl ?_ ?_ _ | split | dsimp only
    | (apply Keeps.upd (k := 2949) <;> first | with_unfolding_all rfl | skip)

theorem runCoppiceReclaim {allowed : Nat} {s0 s : State} (h : Keeps allowed s0 s)
    (hm : sub 2949 allowed := by exact sub_trans (by assumption) (by decide)) :
    KeepsOut allowed s0 (execCoppiceReclaim s) := by
  unfold execCoppiceReclaim
  refine Keeps.next ?_
  with_reducible repeat' first
    | (intro _) | assumption | exact sub_trans hm (by decide) | apply Keeps.put | apply Keeps.copyPages | apply Keeps.setFt
    | apply Keeps.eraseEmpty | apply Keeps.showVictim | apply Keeps.ite | refine Keeps.foldl ?_ ?_ _ | split | dsimp only
    | (apply Keeps.upd (k := 2949) <;> first | with_unfolding_all rfl | skip)

theorem runBandEraseComplete {allowed : Nat} {s0 s : State} (h : Keeps allowed s0 s) (band : Nat)
    (hm : sub 2949 allowed := by exact sub_trans (by assumption) (by decide)) :
    KeepsOut allowed s0 (execBandEraseComplete band s) := by
  unfold execBandEraseComplete
  refine Keeps.next ?_
  with_reducible repeat' first
    | (intro _) | assumption | exact sub_trans hm (by decide) | apply Keeps.cFch | apply Keeps.count | apply Keeps.releaseBand
    | apply Keeps.ite | refine Keeps.foldl ?_ ?_ _ | split | dsimp only
    | (apply Keeps.upd (k := 2949) <;> first | with_unfolding_all rfl | skip)

theorem runProgramFailure {allowed : Nat} {s0 s : State} (h : Keeps allowed s0 s) (chan : Nat) (die : Nat) (plane : Nat)
    (hm : sub 2949 allowed := by exact sub_trans (by assumption) (by decide)) :
    KeepsOut allowed s0 (execProgramFailure chan die plane s) := by
  unfold execProgramFailure
  refine Keeps.next ?_
  with_reducible repeat' first
    | (intro _) | assumption | exact sub_trans hm (by decide) | apply Keeps.markBad | apply Keeps.failGroup
    | apply Keeps.endSuspension | apply Keeps.bump | apply Keeps.issueAll | apply Keeps.showFlash | apply Keeps.closeBroken
    | apply Keeps.ite | refine Keeps.foldl ?_ ?_ _ | split | dsimp only
    | (apply Keeps.upd (k := 2949) <;> first | with_unfolding_all rfl | skip)

theorem runEraseFailure {allowed : Nat} {s0 s : State} (h : Keeps allowed s0 s) (chan : Nat) (die : Nat) (plane : Nat)
    (hm : sub 2949 allowed := by exact sub_trans (by assumption) (by decide)) :
    KeepsOut allowed s0 (execEraseFailure chan die plane s) := by
  unfold execEraseFailure
  refine Keeps.next ?_
  with_reducible repeat' first
    | (intro _) | assumption | exact sub_trans hm (by decide) | apply Keeps.markBad | apply Keeps.releaseBand | apply Keeps.bump
    | apply Keeps.ite | refine Keeps.foldl ?_ ?_ _ | split | dsimp only
    | (apply Keeps.upd (k := 2949) <;> first | with_unfolding_all rfl | skip)

theorem runFtGrantEntryWrite {allowed : Nat} {s0 s : State} (h : Keeps allowed s0 s) (value : BitVec 64)
    (hm : sub 68485 allowed := by exact sub_trans (by assumption) (by decide)) :
    KeepsOut allowed s0 (execFtGrantEntryWrite value s) := by
  unfold execFtGrantEntryWrite
  refine Keeps.next ?_
  with_reducible repeat' first
    | (intro _) | assumption | exact sub_trans hm (by decide) | apply Keeps.touchKey | apply Keeps.tidyHints | apply Keeps.setFt
    | apply Keeps.ite | refine Keeps.foldl ?_ ?_ _ | split | dsimp only
    | (apply Keeps.upd (k := 68485) <;> first | with_unfolding_all rfl | skip)

theorem runFtStreamCfgWrite {allowed : Nat} {s0 s : State} (h : Keeps allowed s0 s) (stream : Nat) (value : BitVec 32)
    (hm : sub 2949 allowed := by exact sub_trans (by assumption) (by decide)) :
    KeepsOut allowed s0 (execFtStreamCfgWrite stream value s) := by
  unfold execFtStreamCfgWrite
  refine Keeps.next ?_
  with_reducible repeat' first
    | (intro _) | assumption | exact sub_trans hm (by decide) | apply Keeps.issueGroup | apply Keeps.set | apply Keeps.ite
    | refine Keeps.foldl ?_ ?_ _ | split | dsimp only | (apply Keeps.upd (k := 2949) <;> first | with_unfolding_all rfl | skip)

theorem onHint {allowed : Nat} {s0 s : State} (h : Keeps allowed s0 s) (ring : Nat) (handle : Nat) (kind : Nat) (f : Desc → State → State) (hf : ∀ x0 x1, Keeps allowed s0 x1 → Keeps allowed s0 (f x0 x1))
    (hm : sub 266245 allowed := by exact sub_trans (by assumption) (by decide)) :
    Keeps allowed s0 (State.onHint s ring handle kind f) := by
  unfold State.onHint
  with_reducible repeat' first
    | (intro _) | assumption | exact sub_trans hm (by decide) | apply hf | apply Keeps.finish | apply Keeps.raise
    | apply Keeps.bump | apply Keeps.cTop | apply Keeps.ite | refine Keeps.foldl ?_ ?_ _ | split | dsimp only
    | (apply Keeps.upd (k := 266245) <;> first | with_unfolding_all rfl | skip)

theorem colocate {allowed : Nat} {s0 s : State} (h : Keeps allowed s0 s) (g : Nat)
    (hm : sub 2437 allowed := by exact sub_trans (by assumption) (by decide)) :
    Keeps allowed s0 (State.colocate s g) := by
  unfold State.colocate
  with_reducible repeat' first
    | (intro _) | assumption | exact sub_trans hm (by decide) | apply Keeps.raise | apply Keeps.setGroup | apply Keeps.wantMove
    | apply Keeps.ite | refine Keeps.foldl ?_ ?_ _ | split | dsimp only
    | (apply Keeps.upd (k := 2437) <;> first | with_unfolding_all rfl | skip)

theorem setHazel {allowed : Nat} {s0 s : State} (h : Keeps allowed s0 s) (g : Nat) (v : Option (Nat × Nat × Nat × Nat))
    (hm : sub 1024 allowed := by exact sub_trans (by assumption) (by decide)) :
    Keeps allowed s0 (State.setHazel s g v) := by
  unfold State.setHazel
  with_reducible repeat' first
    | (intro _) | assumption | exact sub_trans hm (by decide) | apply Keeps.ite | refine Keeps.foldl ?_ ?_ _ | split
    | dsimp only | (apply Keeps.upd (k := 1024) <;> first | with_unfolding_all rfl | skip)

theorem hazelEnd {allowed : Nat} {s0 s : State} (h : Keeps allowed s0 s) (g : Nat) (ring : Nat) (handle : Nat) (status : Nat)
    (hm : sub 269701 allowed := by exact sub_trans (by assumption) (by decide)) :
    Keeps allowed s0 (State.hazelEnd s g ring handle status) := by
  unfold State.hazelEnd
  with_reducible repeat' first
    | (intro _) | assumption | exact sub_trans hm (by decide) | apply Keeps.finish | apply Keeps.setGroup | apply Keeps.setHazel
    | apply Keeps.ite | refine Keeps.foldl ?_ ?_ _ | split | dsimp only
    | (apply Keeps.upd (k := 269701) <;> first | with_unfolding_all rfl | skip)

theorem hazelStep {allowed : Nat} {s0 s : State} (h : Keeps allowed s0 s) (g : Nat)
    (hm : sub 269733 allowed := by exact sub_trans (by assumption) (by decide)) :
    Keeps allowed s0 (State.hazelStep s g) := by
  unfold State.hazelStep
  with_reducible repeat' first
    | (intro _) | assumption | exact sub_trans hm (by decide) | apply Keeps.hazelEnd | apply Keeps.setHazel
    | apply Keeps.startRange | apply Keeps.ite | refine Keeps.foldl ?_ ?_ _ | split | dsimp only
    | (apply Keeps.upd (k := 269733) <;> first | with_unfolding_all rfl | skip)

theorem hazelGrant {allowed : Nat} {s0 s : State} (h : Keeps allowed s0 s) (g : Nat)
    (hm : sub 269701 allowed := by exact sub_trans (by assumption) (by decide)) :
    Keeps allowed s0 (State.hazelGrant s g) := by
  unfold State.hazelGrant
  with_reducible repeat' first
    | (intro _) | assumption | exact sub_trans hm (by decide) | apply Keeps.setPlot | apply Keeps.newDecision
    | apply Keeps.setGroup | apply Keeps.finish | apply Keeps.raise | apply Keeps.setHazel | apply Keeps.ite
    | refine Keeps.foldl ?_ ?_ _ | split | dsimp only
    | (apply Keeps.upd (k := 269701) <;> first | with_unfolding_all rfl | skip)

theorem hazelRelease {allowed : Nat} {s0 s : State} (h : Keeps allowed s0 s) (g : Nat)
    (hm : sub 18821 allowed := by exact sub_trans (by assumption) (by decide)) :
    Keeps allowed s0 (State.hazelRelease s g) := by
  unfold State.hazelRelease
  with_reducible repeat' first
    | (intro _) | assumption | exact sub_trans hm (by decide) | apply Keeps.setPlot | apply Keeps.newDecision
    | apply Keeps.setGroup | apply Keeps.raise | apply Keeps.ite | refine Keeps.foldl ?_ ?_ _ | split | dsimp only
    | (apply Keeps.upd (k := 18821) <;> first | with_unfolding_all rfl | skip)

theorem moveCursor {allowed : Nat} {s0 s : State} (h : Keeps allowed s0 s) (m : Migration) (c : Nat)
    (hm : sub 2437 allowed := by exact sub_trans (by assumption) (by decide)) :
    Keeps allowed s0 (State.moveCursor s m c) := by
  unfold State.moveCursor
  with_reducible repeat' first
    | (intro _) | assumption | exact sub_trans hm (by decide) | apply Keeps.setMig | apply Keeps.ite
    | refine Keeps.foldl ?_ ?_ _ | split | dsimp only | (apply Keeps.upd (k := 2437) <;> first | with_unfolding_all rfl | skip)

theorem switchPlot {allowed : Nat} {s0 s : State} (h : Keeps allowed s0 s) (m : Migration)
    (hm : sub 2437 allowed := by exact sub_trans (by assumption) (by decide)) :
    Keeps allowed s0 (State.switchPlot s m) := by
  unfold State.switchPlot
  with_reducible repeat' first
    | (intro _) | assumption | exact sub_trans hm (by decide) | apply Keeps.setPlot | apply Keeps.setMig | apply Keeps.ite
    | refine Keeps.foldl ?_ ?_ _ | split | dsimp only | (apply Keeps.upd (k := 2437) <;> first | with_unfolding_all rfl | skip)

theorem copyOn {allowed : Nat} {s0 s : State} (h : Keeps allowed s0 s) (m : Migration)
    (hm : sub 2501 allowed := by exact sub_trans (by assumption) (by decide)) :
    Keeps allowed s0 (State.copyOn s m) := by
  unfold State.copyOn
  with_reducible repeat' first
    | (intro _) | assumption | exact sub_trans hm (by decide) | apply Keeps.moveCursor | apply Keeps.addRewrite
    | apply Keeps.switchPlot | apply Keeps.ite | refine Keeps.foldl ?_ ?_ _ | split | dsimp only
    | (apply Keeps.upd (k := 2501) <;> first | with_unfolding_all rfl | skip)

theorem setMeasured {allowed : Nat} {s0 s : State} (h : Keeps allowed s0 s) (i : Nat) (c : Nat)
    (hm : sub 3525 allowed := by exact sub_trans (by assumption) (by decide)) :
    Keeps allowed s0 (State.setMeasured s i c) := by
  unfold State.setMeasured
  with_reducible repeat' first
    | (intro _) | assumption | exact sub_trans hm (by decide) | apply Keeps.setPlot | apply Keeps.ite
    | refine Keeps.foldl ?_ ?_ _ | split | dsimp only | (apply Keeps.upd (k := 3525) <;> first | with_unfolding_all rfl | skip)

theorem noteLoads {allowed : Nat} {s0 s : State} (h : Keeps allowed s0 s)
    (hm : sub 1024 allowed := by exact sub_trans (by assumption) (by decide)) :
    Keeps allowed s0 (State.noteLoads s) := by
  unfold State.noteLoads
  with_reducible repeat' first
    | (intro _) | assumption | exact sub_trans hm (by decide) | apply Keeps.ite | refine Keeps.foldl ?_ ?_ _ | split
    | dsimp only | (apply Keeps.upd (k := 1024) <;> first | with_unfolding_all rfl | skip)

theorem destageDown {allowed : Nat} {s0 s : State} (h : Keeps allowed s0 s) (target : Nat) (l : List Slot) (n : Nat)
    (hm : sub 2949 allowed := by exact sub_trans (by assumption) (by decide)) :
    Keeps allowed s0 (State.destageDown s target l n) := by
  induction l generalizing s n with
  | nil => exact h
  | cons x l ih =>
    unfold State.destageDown
    split
    · exact h
    · exact ih (h.startDestage _) _

theorem snapIncomplete {allowed : Nat} {s0 s : State} (h : Keeps allowed s0 s) (x : Snapshot) (cause : Nat)
    (hm : sub 2437 allowed := by exact sub_trans (by assumption) (by decide)) :
    Keeps allowed s0 (State.snapIncomplete s x cause) := by
  unfold State.snapIncomplete
  with_reducible repeat' first
    | (intro _) | assumption | exact sub_trans hm (by decide) | apply Keeps.raise | apply Keeps.journal | apply Keeps.ite
    | refine Keeps.foldl ?_ ?_ _ | split | dsimp only | (apply Keeps.upd (k := 2437) <;> first | with_unfolding_all rfl | skip)

theorem spaceFull {allowed : Nat} {s0 s : State} (h : Keeps allowed s0 s) (epoch : Nat)
    (hm : sub 2437 allowed := by exact sub_trans (by assumption) (by decide)) :
    Keeps allowed s0 (State.spaceFull s epoch) := by
  unfold State.spaceFull
  with_reducible repeat' first
    | (intro _) | assumption | exact sub_trans hm (by decide) | apply Keeps.snapIncomplete | apply Keeps.raise | apply Keeps.put
    | apply Keeps.ite | refine Keeps.foldl ?_ ?_ _ | split | dsimp only
    | (apply Keeps.upd (k := 2437) <;> first | with_unfolding_all rfl | skip)

theorem drainStaging {allowed : Nat} {s0 s : State} (h : Keeps allowed s0 s)
    (hm : sub 2437 allowed := by exact sub_trans (by assumption) (by decide)) :
    Keeps allowed s0 (State.drainStaging s) := by
  unfold State.drainStaging
  with_reducible repeat' first
    | (intro _) | assumption | exact sub_trans hm (by decide) | apply Keeps.journal | apply Keeps.ite
    | refine Keeps.foldl ?_ ?_ _ | split | dsimp only | (apply Keeps.upd (k := 2437) <;> first | with_unfolding_all rfl | skip)

theorem packSnapshot {allowed : Nat} {s0 s : State} (h : Keeps allowed s0 s)
    (hm : sub 2949 allowed := by exact sub_trans (by assumption) (by decide)) :
    Keeps allowed s0 (State.packSnapshot s) := by
  unfold State.packSnapshot
  with_reducible repeat' first
    | (intro _) | assumption | exact sub_trans hm (by decide) | apply Keeps.spaceFull | apply Keeps.journal
    | apply Keeps.newVersion | apply Keeps.stagePage | refine Keeps.newVersion_eq ?_ (e := by assumption) | apply Keeps.ite
    | refine Keeps.foldl ?_ ?_ _ | split | dsimp only | (apply Keeps.upd (k := 2949) <;> first | with_unfolding_all rfl | skip)

theorem placeRegions {allowed : Nat} {s0 s : State} (h : Keeps allowed s0 s)
    (hm : sub 2501 allowed := by exact sub_trans (by assumption) (by decide)) :
    Keeps allowed s0 (State.placeRegions s) := by
  unfold State.placeRegions
  with_reducible repeat' first
    | (intro _) | assumption | exact sub_trans hm (by decide) | apply Keeps.showFcache | apply Keeps.placePlot
    | refine Keeps.placePlot_eq ?_ (e := by assumption) | apply Keeps.ite | refine Keeps.foldl ?_ ?_ _ | split | dsimp only
    | (apply Keeps.upd (k := 2501) <;> first | with_unfolding_all rfl | skip)

theorem runHeat {allowed : Nat} {s0 s : State} (h : Keeps allowed s0 s) (ring : Nat) (handle : Nat)
    (hm : sub 268677 allowed := by exact sub_trans (by assumption) (by decide)) :
    KeepsOut allowed s0 (execHeat ring handle s) := by
  unfold execHeat
  refine Keeps.next ?_
  with_reducible repeat' first
    | (intro _) | assumption | exact sub_trans hm (by decide) | apply Keeps.onHint | apply Keeps.setPlot | apply Keeps.journal
    | apply Keeps.finish | apply Keeps.ite | refine Keeps.foldl ?_ ?_ _ | split | dsimp only
    | (apply Keeps.upd (k := 268677) <;> first | with_unfolding_all rfl | skip)

theorem runPin {allowed : Nat} {s0 s : State} (h : Keeps allowed s0 s) (ring : Nat) (handle : Nat)
    (hm : sub 268677 allowed := by exact sub_trans (by assumption) (by decide)) :
    KeepsOut allowed s0 (execPin ring handle s) := by
  unfold execPin
  refine Keeps.next ?_
  with_reducible repeat' first
    | (intro _) | assumption | exact sub_trans hm (by decide) | apply Keeps.onHint | apply Keeps.setPlot | apply Keeps.finish
    | apply Keeps.ite | refine Keeps.foldl ?_ ?_ _ | split | dsimp only
    | (apply Keeps.upd (k := 268677) <;> first | with_unfolding_all rfl | skip)

theorem runGroup {allowed : Nat} {s0 s : State} (h : Keeps allowed s0 s) (ring : Nat) (handle : Nat)
    (hm : sub 268677 allowed := by exact sub_trans (by assumption) (by decide)) :
    KeepsOut allowed s0 (execGroup ring handle s) := by
  unfold execGroup
  refine Keeps.next ?_
  with_reducible repeat' first
    | (intro _) | assumption | exact sub_trans hm (by decide) | apply Keeps.onHint | apply Keeps.setPlot | apply Keeps.journal
    | apply Keeps.colocate | apply Keeps.finish | apply Keeps.ite | refine Keeps.foldl ?_ ?_ _ | split | dsimp only
    | (apply Keeps.upd (k := 268677) <;> first | with_unfolding_all rfl | skip)

theorem runColocate {allowed : Nat} {s0 s : State} (h : Keeps allowed s0 s) (ring : Nat) (handle : Nat)
    (hm : sub 268677 allowed := by exact sub_trans (by assumption) (by decide)) :
    KeepsOut allowed s0 (execColocate ring handle s) := by
  unfold execColocate
  refine Keeps.next ?_
  with_reducible repeat' first
    | (intro _) | assumption | exact sub_trans hm (by decide) | apply Keeps.onHint | apply Keeps.setGroup | apply Keeps.finish
    | apply Keeps.colocate | apply Keeps.ite | refine Keeps.foldl ?_ ?_ _ | split | dsimp only
    | (apply Keeps.upd (k := 268677) <;> first | with_unfolding_all rfl | skip)

theorem runHazelown {allowed : Nat} {s0 s : State} (h : Keeps allowed s0 s) (ring : Nat) (handle : Nat)
    (hm : sub 286117 allowed := by exact sub_trans (by assumption) (by decide)) :
    KeepsOut allowed s0 (execHazelown ring handle s) := by
  unfold execHazelown
  refine Keeps.next ?_
  with_reducible repeat' first
    | (intro _) | assumption | exact sub_trans hm (by decide) | apply Keeps.onHint | apply Keeps.setGroup | apply Keeps.finish
    | apply Keeps.hazelRelease | apply Keeps.setHazel | apply Keeps.hazelStep | apply Keeps.wantMove | apply Keeps.ite
    | refine Keeps.foldl ?_ ?_ _ | split | dsimp only
    | (apply Keeps.upd (k := 286117) <;> first | with_unfolding_all rfl | skip)

theorem runTopGroupCfgWrite {allowed : Nat} {s0 s : State} (h : Keeps allowed s0 s) (value : BitVec 64)
    (hm : sub 2437 allowed := by exact sub_trans (by assumption) (by decide)) :
    KeepsOut allowed s0 (execTopGroupCfgWrite value s) := by
  unfold execTopGroupCfgWrite
  refine Keeps.next ?_
  with_reducible repeat' first
    | (intro _) | assumption | exact sub_trans hm (by decide) | apply Keeps.raise | apply Keeps.setGroup | apply Keeps.ite
    | refine Keeps.foldl ?_ ?_ _ | split | dsimp only | (apply Keeps.upd (k := 2437) <;> first | with_unfolding_all rfl | skip)

theorem runHeatRanking {allowed : Nat} {s0 s : State} (h : Keeps allowed s0 s)
    (hm : sub 3525 allowed := by exact sub_trans (by assumption) (by decide)) :
    KeepsOut allowed s0 (execHeatRanking s) := by
  unfold execHeatRanking
  refine Keeps.next ?_
  with_reducible repeat' first
    | (intro _) | assumption | exact sub_trans hm (by decide) | apply Keeps.noteLoads | apply Keeps.setMeasured
    | apply Keeps.ite | refine Keeps.foldl ?_ ?_ _ | split | dsimp only
    | (apply Keeps.upd (k := 3525) <;> first | with_unfolding_all rfl | skip)

theorem runHeatHalving {allowed : Nat} {s0 s : State} (h : Keeps allowed s0 s)
    (hm : sub 1536 allowed := by exact sub_trans (by assumption) (by decide)) :
    KeepsOut allowed s0 (execHeatHalving s) := by
  unfold execHeatHalving
  refine Keeps.next ?_
  with_reducible repeat' first
    | (intro _) | assumption | exact sub_trans hm (by decide) | apply Keeps.ite | refine Keeps.foldl ?_ ?_ _ | split
    | dsimp only | (apply Keeps.upd (k := 1536) <;> first | with_unfolding_all rfl | skip)

theorem runBalanceMove {allowed : Nat} {s0 s : State} (h : Keeps allowed s0 s)
    (hm : sub 3461 allowed := by exact sub_trans (by assumption) (by decide)) :
    KeepsOut allowed s0 (execBalanceMove s) := by
  unfold execBalanceMove
  refine Keeps.next ?_
  with_reducible repeat' first
    | (intro _) | assumption | exact sub_trans hm (by decide) | apply Keeps.noteLoads | apply Keeps.wantMove | apply Keeps.ite
    | refine Keeps.foldl ?_ ?_ _ | split | dsimp only | (apply Keeps.upd (k := 3461) <;> first | with_unfolding_all rfl | skip)

theorem runReadOnlyPlotMigration {allowed : Nat} {s0 s : State} (h : Keeps allowed s0 s) (plot : Nat)
    (hm : sub 2437 allowed := by exact sub_trans (by assumption) (by decide)) :
    KeepsOut allowed s0 (execReadOnlyPlotMigration plot s) := by
  unfold execReadOnlyPlotMigration
  refine Keeps.next ?_
  with_reducible repeat' first
    | (intro _) | assumption | exact sub_trans hm (by decide) | apply Keeps.wantMove | apply Keeps.ite
    | refine Keeps.foldl ?_ ?_ _ | split | dsimp only | (apply Keeps.upd (k := 2437) <;> first | with_unfolding_all rfl | skip)

theorem runMigrationStart {allowed : Nat} {s0 s : State} (h : Keeps allowed s0 s)
    (hm : sub 2501 allowed := by exact sub_trans (by assumption) (by decide)) :
    KeepsOut allowed s0 (execMigrationStart s) := by
  unfold execMigrationStart
  refine Keeps.next ?_
  with_reducible repeat' first
    | (intro _) | assumption | exact sub_trans hm (by decide) | apply Keeps.setMig | apply Keeps.raise | apply Keeps.makeSpan
    | apply Keeps.copyOn | apply Keeps.pauseMigrations | refine Keeps.makeSpan_eq ?_ (e := by assumption) | apply Keeps.ite
    | refine Keeps.foldl ?_ ?_ _ | split | dsimp only | (apply Keeps.upd (k := 2501) <;> first | with_unfolding_all rfl | skip)

theorem runMigrationPageCopy {allowed : Nat} {s0 s : State} (h : Keeps allowed s0 s) (plot : Nat)
    (hm : sub 2501 allowed := by exact sub_trans (by assumption) (by decide)) :
    KeepsOut allowed s0 (execMigrationPageCopy plot s) := by
  unfold execMigrationPageCopy
  refine Keeps.next ?_
  with_reducible repeat' first
    | (intro _) | assumption | exact sub_trans hm (by decide) | apply Keeps.moveCursor | apply Keeps.cTop | apply Keeps.copyOn
    | apply Keeps.ite | refine Keeps.foldl ?_ ?_ _ | split | dsimp only
    | (apply Keeps.upd (k := 2501) <;> first | with_unfolding_all rfl | skip)

theorem runMigrationRelease {allowed : Nat} {s0 s : State} (h : Keeps allowed s0 s) (plot : Nat)
    (hm : sub 2366949 allowed := by exact sub_trans (by assumption) (by decide)) :
    KeepsOut allowed s0 (execMigrationRelease plot s) := by
  unfold execMigrationRelease
  refine Keeps.next ?_
  with_reducible repeat' first
    | (intro _) | assumption | exact sub_trans hm (by decide) | apply Keeps.setMig | apply Keeps.spanFreed
    | apply Keeps.releaseSpan | apply Keeps.raise | apply Keeps.bump | apply Keeps.drainStep | apply Keeps.hazelGrant
    | apply Keeps.hazelStep | apply Keeps.ite | refine Keeps.foldl ?_ ?_ _ | split | dsimp only
    | (apply Keeps.upd (k := 2366949) <;> first | with_unfolding_all rfl | skip)

theorem runSlotDestageDecision {allowed : Nat} {s0 s : State} (h : Keeps allowed s0 s)
    (hm : sub 2949 allowed := by exact sub_trans (by assumption) (by decide)) :
    KeepsOut allowed s0 (execSlotDestageDecision s) := by
  unfold execSlotDestageDecision
  refine Keeps.next ?_
  with_reducible repeat' first
    | (intro _) | assumption | exact sub_trans hm (by decide) | apply Keeps.startDestage | apply Keeps.showFull
    | apply Keeps.destageDown | apply Keeps.ite | refine Keeps.foldl ?_ ?_ _ | split | dsimp only
    | (apply Keeps.upd (k := 2949) <;> first | with_unfolding_all rfl | skip)

theorem runPageCaptureComplete {allowed : Nat} {s0 s : State} (h : Keeps allowed s0 s) (page : Nat)
    (hm : sub 2949 allowed := by exact sub_trans (by assumption) (by decide)) :
    KeepsOut allowed s0 (execPageCaptureComplete page s) := by
  unfold execPageCaptureComplete
  refine Keeps.next ?_
  with_reducible repeat' first
    | (intro _) | assumption | exact sub_trans hm (by decide) | apply Keeps.raise | apply Keeps.put | apply Keeps.journal
    | apply Keeps.cPer | apply Keeps.showStaged | apply Keeps.packSnapshot | apply Keeps.drainStaging | apply Keeps.ite
    | refine Keeps.foldl ?_ ?_ _ | split | dsimp only | (apply Keeps.upd (k := 2949) <;> first | with_unfolding_all rfl | skip)

theorem runRangeOpComplete {allowed : Nat} {s0 s : State} (h : Keeps allowed s0 s) (slot : Nat)
    (hm : sub 269733 allowed := by exact sub_trans (by assumption) (by decide)) :
    KeepsOut allowed s0 (execRangeOpComplete slot s) := by
  unfold execRangeOpComplete
  refine Keeps.next ?_
  with_reducible repeat' first
    | (intro _) | assumption | exact sub_trans hm (by decide) | apply Keeps.endOp | apply Keeps.startRings | apply Keeps.finish
    | apply Keeps.hazelGrant | refine Keeps.endOp_eq ?_ (e := by assumption) | apply Keeps.ite | refine Keeps.foldl ?_ ?_ _
    | split | dsimp only | (apply Keeps.upd (k := 269733) <;> first | with_unfolding_all rfl | skip)

theorem tryCkpt {allowed : Nat} {s0 s : State} (h : Keeps allowed s0 s) (ftier : Bool)
    (hm : sub 2437 allowed := by exact sub_trans (by assumption) (by decide)) :
    Keeps allowed s0 (State.tryCkpt s ftier) := by
  unfold State.tryCkpt
  with_reducible repeat' first
    | (intro _) | assumption | exact sub_trans hm (by decide) | apply Keeps.startCkpt | apply Keeps.ite
    | refine Keeps.foldl ?_ ?_ _ | split | dsimp only | (apply Keeps.upd (k := 2437) <;> first | with_unfolding_all rfl | skip)

theorem recordStamp {allowed : Nat} {s0 s : State} (h : Keeps allowed s0 s)
    (hm : sub 2 allowed := by exact sub_trans (by assumption) (by decide)) :
    Keeps allowed s0 (State.recordStamp s) := by
  unfold State.recordStamp
  with_reducible repeat' first
    | (intro _) | assumption | exact sub_trans hm (by decide) | apply Keeps.ite | refine Keeps.foldl ?_ ?_ _ | split
    | dsimp only | (apply Keeps.upd (k := 2) <;> first | with_unfolding_all rfl | skip)

theorem finishCkpt {allowed : Nat} {s0 s : State} (h : Keeps allowed s0 s) (ftier : Bool) (since : Nat)
    (hm : sub 268295 allowed := by exact sub_trans (by assumption) (by decide)) :
    Keeps allowed s0 (State.finishCkpt s ftier since) := by
  unfold State.finishCkpt
  repeat' first
    | with_reducible (intro _) | with_reducible assumption | with_reducible exact sub_trans hm (by decide)
    | with_reducible apply Keeps.setCkpt | with_reducible apply Keeps.set | with_reducible apply Keeps.showMeta
    | with_reducible apply Keeps.recordStamp | with_reducible apply Keeps.raise | with_reducible apply Keeps.leaveReadOnly
    | with_reducible apply Keeps.put | with_reducible apply Keeps.finish | with_reducible apply Keeps.ite
    | with_reducible refine Keeps.foldl ?_ ?_ _ | split | dsimp only
    | (with_reducible apply Keeps.upd (k := 268295)) <;> first | rfl | skip

theorem setBudget {allowed : Nat} {s0 s : State} (h : Keeps allowed s0 s)
    (hm : sub 5 allowed := by exact sub_trans (by assumption) (by decide)) :
    Keeps allowed s0 (State.setBudget s) := by
  unfold State.setBudget
  with_reducible repeat' first
    | (intro _) | assumption | exact sub_trans hm (by decide) | apply Keeps.showCache | apply Keeps.set | apply Keeps.raise
    | apply Keeps.ite | refine Keeps.foldl ?_ ?_ _ | split | dsimp only
    | (apply Keeps.upd (k := 5) <;> first | with_unfolding_all rfl | skip)

theorem holdupChanged {allowed : Nat} {s0 s : State} (h : Keeps allowed s0 s)
    (hm : sub 3573 allowed := by exact sub_trans (by assumption) (by decide)) :
    Keeps allowed s0 (State.holdupChanged s) := by
  unfold State.holdupChanged
  with_reducible repeat' first
    | (intro _) | assumption | exact sub_trans hm (by decide) | apply Keeps.setBudget | apply Keeps.put
    | apply Keeps.leaveReadOnly | apply Keeps.enterReadOnly | apply Keeps.ite | refine Keeps.foldl ?_ ?_ _ | split | dsimp only
    | (apply Keeps.upd (k := 3573) <;> first | with_unfolding_all rfl | skip)

theorem beginFlush {allowed : Nat} {s0 s : State} (h : Keeps allowed s0 s) (trigger : Nat)
    (hm : sub 2053 allowed := by exact sub_trans (by assumption) (by decide)) :
    Keeps allowed s0 (State.beginFlush s trigger) := by
  unfold State.beginFlush
  with_reducible repeat' first
    | (intro _) | assumption | exact sub_trans hm (by decide) | apply Keeps.set | apply Keeps.raise | apply Keeps.ite
    | refine Keeps.foldl ?_ ?_ _ | split | dsimp only | (apply Keeps.upd (k := 2053) <;> first | with_unfolding_all rfl | skip)

theorem startFlush {allowed : Nat} {s0 s : State} (h : Keeps allowed s0 s) (trigger : Nat)
    (hm : sub 526341 allowed := by exact sub_trans (by assumption) (by decide)) :
    Keeps allowed s0 (State.startFlush s trigger) := by
  unfold State.startFlush
  with_reducible repeat' first
    | (intro _) | assumption | exact sub_trans hm (by decide) | apply Keeps.set | apply Keeps.beginFlush | apply Keeps.ite
    | refine Keeps.foldl ?_ ?_ _ | split | dsimp only
    | (apply Keeps.upd (k := 526341) <;> first | with_unfolding_all rfl | skip)

theorem flushOvertakes {allowed : Nat} {s0 s : State} (h : Keeps allowed s0 s) (page : Nat) (epoch : Nat)
    (hm : sub 2048 allowed := by exact sub_trans (by assumption) (by decide)) :
    Keeps allowed s0 (State.flushOvertakes s page epoch) := by
  unfold State.flushOvertakes
  with_reducible repeat' first
    | (intro _) | assumption | exact sub_trans hm (by decide) | apply Keeps.ite | refine Keeps.foldl ?_ ?_ _ | split
    | dsimp only | (apply Keeps.upd (k := 2048) <;> first | with_unfolding_all rfl | skip)

theorem flushLoad {allowed : Nat} {s0 s : State} (h : Keeps allowed s0 s) (l : Nat) (x : List LineData)
    (hm : sub 2501 allowed := by exact sub_trans (by assumption) (by decide)) :
    Keeps allowed s0 (State.flushLoad s l x) := by
  unfold State.flushLoad
  with_reducible repeat' first
    | (intro _) | assumption | exact sub_trans hm (by decide) | apply Keeps.writeRecord | apply Keeps.loadLines
    | apply Keeps.putMedia | apply Keeps.touchTile | apply Keeps.ite | refine Keeps.foldl ?_ ?_ _ | split | dsimp only
    | (apply Keeps.upd (k := 2501) <;> first | with_unfolding_all rfl | skip)

theorem flushWrite {allowed : Nat} {s0 s : State} (h : Keeps allowed s0 s) (page : Nat) (epoch : Nat) (x : List LineData)
    (hm : sub 3573 allowed := by exact sub_trans (by assumption) (by decide)) :
    Keeps allowed s0 (State.flushWrite s page epoch x) := by
  unfold State.flushWrite
  with_reducible repeat' first
    | (intro _) | assumption | exact sub_trans hm (by decide) | apply Keeps.flushOvertakes | apply Keeps.needSpan
    | apply Keeps.listLost | apply Keeps.flushLoad | apply Keeps.setWritten | apply Keeps.setReborn | apply Keeps.ite
    | refine Keeps.foldl ?_ ?_ _ | split | dsimp only | (apply Keeps.upd (k := 3573) <;> first | with_unfolding_all rfl | skip)

theorem flushStop {allowed : Nat} {s0 s : State} (h : Keeps allowed s0 s)
    (hm : sub 2469 allowed := by exact sub_trans (by assumption) (by decide)) :
    Keeps allowed s0 (State.flushStop s) := by
  unfold State.flushStop
  with_reducible repeat' first
    | (intro _) | assumption | exact sub_trans hm (by decide) | apply Keeps.pauseMigrations | apply Keeps.ite
    | refine Keeps.foldl ?_ ?_ _ | split | dsimp only | (apply Keeps.upd (k := 2469) <;> first | with_unfolding_all rfl | skip)

theorem flushRequests {allowed : Nat} {s0 s : State} (h : Keeps allowed s0 s)
    (hm : sub 1461661 allowed := by exact sub_trans (by assumption) (by decide)) :
    Keeps allowed s0 (State.flushRequests s) := by
  unfold State.flushRequests
  with_reducible repeat' first
    | (intro _) | assumption | exact sub_trans hm (by decide) | apply Keeps.accept | apply Keeps.removeRead
    | apply Keeps.answerRead | apply Keeps.ite | refine Keeps.foldl ?_ ?_ _ | split | dsimp only
    | (apply Keeps.upd (k := 1461661) <;> first | with_unfolding_all rfl | skip)

theorem flushData {allowed : Nat} {s0 s : State} (h : Keeps allowed s0 s)
    (hm : sub 3573 allowed := by exact sub_trans (by assumption) (by decide)) :
    Keeps allowed s0 (State.flushData s) := by
  unfold State.flushData
  with_reducible repeat' first
    | (intro _) | assumption | exact sub_trans hm (by decide) | apply Keeps.flushWrite | apply Keeps.showQs
    | apply Keeps.setWays | apply Keeps.ite | refine Keeps.foldl ?_ ?_ _ | split | dsimp only
    | (apply Keeps.upd (k := 3573) <;> first | with_unfolding_all rfl | skip)

theorem flushSlotsDirty {allowed : Nat} {s0 s : State} (h : Keeps allowed s0 s)
    (hm : sub 64 allowed := by exact sub_trans (by assumption) (by decide)) :
    Keeps allowed s0 (State.flushSlotsDirty s) := by
  unfold State.flushSlotsDirty
  with_reducible repeat' first
    | (intro _) | assumption | exact sub_trans hm (by decide) | apply Keeps.storeSlot | apply Keeps.ite
    | refine Keeps.foldl ?_ ?_ _ | split | dsimp only | (apply Keeps.upd (k := 64) <;> first | with_unfolding_all rfl | skip)

theorem sealJournal {allowed : Nat} {s0 s : State} (h : Keeps allowed s0 s)
    (hm : sub 2049 allowed := by exact sub_trans (by assumption) (by decide)) :
    Keeps allowed s0 (State.sealJournal s) := by
  unfold State.sealJournal
  with_reducible repeat' first
    | (intro _) | assumption | exact sub_trans hm (by decide) | apply Keeps.showMeta | apply Keeps.ite
    | refine Keeps.foldl ?_ ?_ _ | split | dsimp only | (apply Keeps.upd (k := 2049) <;> first | with_unfolding_all rfl | skip)

theorem flushEnd {allowed : Nat} {s0 s : State} (h : Keeps allowed s0 s)
    (hm : sub 2439 allowed := by exact sub_trans (by assumption) (by decide)) :
    Keeps allowed s0 (State.flushEnd s) := by
  unfold State.flushEnd
  with_reducible repeat' first
    | (intro _) | assumption | exact sub_trans hm (by decide) | apply Keeps.snapIncomplete | apply Keeps.journal
    | apply Keeps.recordStamp | apply Keeps.sealJournal | apply Keeps.put | apply Keeps.set | apply Keeps.raise
    | apply Keeps.ite | refine Keeps.foldl ?_ ?_ _ | split | dsimp only
    | (apply Keeps.upd (k := 2439) <;> first | with_unfolding_all rfl | skip)

theorem flushWork {allowed : Nat} {s0 s : State} (h : Keeps allowed s0 s) (a1 : Nat)
    (hm : sub 1986047 allowed := by exact sub_trans (by assumption) (by decide)) :
    Keeps allowed s0 (State.flushWork s a1) := by
  unfold State.flushWork
  with_reducible repeat' first
    | (intro _) | assumption | exact sub_trans hm (by decide) | apply Keeps.flushStop | apply Keeps.flushRequests
    | apply Keeps.sealJournal | apply Keeps.journal | apply Keeps.flushData | apply Keeps.flushSlotsDirty | apply Keeps.flushEnd
    | apply Keeps.pmL2 | apply Keeps.set | apply Keeps.ite | refine Keeps.foldl ?_ ?_ _ | split | dsimp only
    | (apply Keeps.upd (k := 1986047) <;> first | with_unfolding_all rfl | skip)

theorem dropVolatile {allowed : Nat} {s0 s : State} (h : Keeps allowed s0 s)
    (hm : sub 24184 allowed := by exact sub_trans (by assumption) (by decide)) : Keeps allowed s0 (State.dropVolatile s) := by
  unfold State.dropVolatile
  refine Keeps.upd ?_ rfl rfl rfl
  exact h.trans <| within hm ⟨rfl, rfl, rfl, Nat.le_refl _, List.prefix_rfl, id, fun x => by
    simp only [State.memWf, Bool.and_eq_true] at x ⊢
    exact ⟨⟨x.1.1, rfl⟩, x.2⟩, by
    intro c; cases c <;> first | (intro h; exact absurd h (by decide)) | (intro _; rfl)⟩

theorem startRecovery {allowed : Nat} {s0 s : State} (h : Keeps allowed s0 s)
    (hm : sub 2049 allowed := by exact sub_trans (by assumption) (by decide)) :
    Keeps allowed s0 (State.startRecovery s) := by
  unfold State.startRecovery
  with_reducible repeat' first
    | (intro _) | assumption | exact sub_trans hm (by decide) | apply Keeps.set | apply Keeps.ite | refine Keeps.foldl ?_ ?_ _
    | split | dsimp only | (apply Keeps.upd (k := 2049) <;> first | with_unfolding_all rfl | skip)

theorem formatKind {allowed : Nat} {s0 s : State} (h : Keeps allowed s0 s) (ftier : Bool) (bad : List Nat)
    (hm : sub 2624 allowed := by exact sub_trans (by assumption) (by decide)) :
    Keeps allowed s0 (State.formatKind s ftier bad) := by
  unfold State.formatKind
  refine Keeps.ite h (Keeps.ite ?_ ?_)
  · exact ((h.setCkpt _ _).upd rfl rfl rfl).setFt _
  · refine Keeps.putMedia' ?_ ?_
    · exact (h.setCkpt _ _).upd rfl rfl rfl
    · exact fun _ => rfl

theorem loadWindow {allowed : Nat} {s0 s : State} (h : Keeps allowed s0 s) (bad : List Nat)
    (hm : sub 2753 allowed := by exact sub_trans (by assumption) (by decide)) :
    Keeps allowed s0 (State.loadWindow s bad) := by
  unfold State.loadWindow
  with_reducible repeat' first
    | (intro _) | assumption | exact sub_trans hm (by decide) | apply Keeps.formatKind | apply Keeps.set | apply Keeps.ite
    | refine Keeps.foldl ?_ ?_ _ | split | dsimp only | (apply Keeps.upd (k := 2753) <;> first | with_unfolding_all rfl | skip)

theorem resumeAging {allowed : Nat} {s0 s : State} (h : Keeps allowed s0 s)
    (hm : sub 65 allowed := by exact sub_trans (by assumption) (by decide)) :
    Keeps allowed s0 (State.resumeAging s) := by
  unfold State.resumeAging
  with_reducible repeat' first
    | (intro _) | assumption | exact sub_trans hm (by decide) | apply Keeps.set | apply Keeps.ite | refine Keeps.foldl ?_ ?_ _
    | split | dsimp only | (apply Keeps.upd (k := 65) <;> first | with_unfolding_all rfl | skip)

theorem replayWindow {allowed : Nat} {s0 s : State} (h : Keeps allowed s0 s)
    (hm : sub 2245 allowed := by exact sub_trans (by assumption) (by decide)) :
    Keeps allowed s0 (State.replayWindow s) := by
  unfold State.replayWindow
  with_reducible repeat' first
    | (intro _) | assumption | exact sub_trans hm (by decide) | apply Keeps.resumeAging | apply Keeps.showMeta | apply Keeps.set
    | apply Keeps.put | apply Keeps.bump | apply Keeps.raise | apply Keeps.ite | refine Keeps.foldl ?_ ?_ _ | split | dsimp only
    | (apply Keeps.upd (k := 2245) <;> first | with_unfolding_all rfl | skip)

theorem rescanTile {allowed : Nat} {s0 s : State} (h : Keeps allowed s0 s) (t : Nat)
    (hm : sub 2501 allowed := by exact sub_trans (by assumption) (by decide)) :
    Keeps allowed s0 (State.rescanTile s t) := by
  unfold State.rescanTile
  with_reducible repeat' first
    | (intro _) | assumption | exact sub_trans hm (by decide) | apply Keeps.setWritten | apply Keeps.setTile | apply Keeps.ite
    | refine Keeps.foldl ?_ ?_ _ | split | dsimp only | (apply Keeps.upd (k := 2501) <;> first | with_unfolding_all rfl | skip)

theorem scanTiles {allowed : Nat} {s0 s : State} (h : Keeps allowed s0 s)
    (hm : sub 2501 allowed := by exact sub_trans (by assumption) (by decide)) :
    Keeps allowed s0 (State.scanTiles s) := by
  unfold State.scanTiles
  with_reducible repeat' first
    | (intro _) | assumption | exact sub_trans hm (by decide) | apply Keeps.setTile | apply Keeps.rescanTile | apply Keeps.ite
    | refine Keeps.foldl ?_ ?_ _ | split | dsimp only | (apply Keeps.upd (k := 2501) <;> first | with_unfolding_all rfl | skip)

theorem showRebuild {allowed : Nat} {s0 s : State} (h : Keeps allowed s0 s)
    (hm : sub 1 allowed := by exact sub_trans (by assumption) (by decide)) :
    Keeps allowed s0 (State.showRebuild s) := by
  unfold State.showRebuild
  with_reducible repeat' first
    | (intro _) | assumption | exact sub_trans hm (by decide) | apply Keeps.put | apply Keeps.set | apply Keeps.ite
    | refine Keeps.foldl ?_ ?_ _ | split | dsimp only | (apply Keeps.upd (k := 1) <;> first | with_unfolding_all rfl | skip)

theorem tileChecked {allowed : Nat} {s0 s : State} (h : Keeps allowed s0 s) (t : Nat)
    (hm : sub 64 allowed := by exact sub_trans (by assumption) (by decide)) :
    Keeps allowed s0 (State.tileChecked s t) := by
  unfold State.tileChecked
  with_reducible repeat' first
    | (intro _) | assumption | exact sub_trans hm (by decide) | apply Keeps.setTile | apply Keeps.ite
    | refine Keeps.foldl ?_ ?_ _ | split | dsimp only | (apply Keeps.upd (k := 64) <;> first | with_unfolding_all rfl | skip)

theorem rebuildEnd {allowed : Nat} {s0 s : State} (h : Keeps allowed s0 s)
    (hm : sub 4 allowed := by exact sub_trans (by assumption) (by decide)) :
    Keeps allowed s0 (State.rebuildEnd s) := by
  unfold State.rebuildEnd
  with_reducible repeat' first
    | (intro _) | assumption | exact sub_trans hm (by decide) | apply Keeps.raise | apply Keeps.ite | refine Keeps.foldl ?_ ?_ _
    | split | dsimp only | (apply Keeps.upd (k := 4) <;> first | with_unfolding_all rfl | skip)

theorem startRebuild {allowed : Nat} {s0 s : State} (h : Keeps allowed s0 s)
    (hm : sub 2117 allowed := by exact sub_trans (by assumption) (by decide)) :
    Keeps allowed s0 (State.startRebuild s) := by
  unfold State.startRebuild
  with_reducible repeat' first
    | (intro _) | assumption | exact sub_trans hm (by decide) | apply Keeps.showRebuild | apply Keeps.set
    | apply Keeps.rebuildEnd | apply Keeps.tileChecked | apply Keeps.ite | refine Keeps.foldl ?_ ?_ _ | split | dsimp only
    | (apply Keeps.upd (k := 2117) <;> first | with_unfolding_all rfl | skip)

theorem recountSpares {allowed : Nat} {s0 s : State} (h : Keeps allowed s0 s)
    (hm : sub 69 allowed := by exact sub_trans (by assumption) (by decide)) :
    Keeps allowed s0 (State.recountSpares s) := by
  unfold State.recountSpares
  with_reducible repeat' first
    | (intro _) | assumption | exact sub_trans hm (by decide) | apply Keeps.showSpare | apply Keeps.ite
    | refine Keeps.foldl ?_ ?_ _ | split | dsimp only | (apply Keeps.upd (k := 69) <;> first | with_unfolding_all rfl | skip)

theorem mirrorResync {allowed : Nat} {s0 s : State} (h : Keeps allowed s0 s)
    (hm : sub 2437 allowed := by exact sub_trans (by assumption) (by decide)) :
    Keeps allowed s0 (State.mirrorResync s) := by
  unfold State.mirrorResync
  with_reducible repeat' first
    | (intro _) | assumption | exact sub_trans hm (by decide) | apply Keeps.journal | apply Keeps.showMirror
    | apply Keeps.mirrorState | apply Keeps.ite | refine Keeps.foldl ?_ ?_ _ | split | dsimp only
    | (apply Keeps.upd (k := 2437) <;> first | with_unfolding_all rfl | skip)

theorem resumeWork {allowed : Nat} {s0 s : State} (h : Keeps allowed s0 s)
    (hm : sub 18885 allowed := by exact sub_trans (by assumption) (by decide)) :
    Keeps allowed s0 (State.resumeWork s) := by
  unfold State.resumeWork
  with_reducible repeat' first
    | (intro _) | assumption | exact sub_trans hm (by decide) | apply Keeps.raise | apply Keeps.journal
    | apply Keeps.snapIncomplete | apply Keeps.hazelRelease | apply Keeps.set | apply Keeps.put | apply Keeps.addRewrite
    | apply Keeps.setBit | apply Keeps.drainChannel | apply Keeps.copyOn | apply Keeps.pauseMigrations | apply Keeps.mirrorState
    | apply Keeps.mirrorResync | apply Keeps.ite | refine Keeps.foldl ?_ ?_ _ | split | dsimp only
    | (apply Keeps.upd (k := 18885) <;> first | with_unfolding_all rfl | skip)

theorem freshHashes {allowed : Nat} {s0 s : State} (h : Keeps allowed s0 s)
    (hm : sub 2097216 allowed := by exact sub_trans (by assumption) (by decide)) :
    Keeps allowed s0 (State.freshHashes s) := by
  unfold State.freshHashes
  with_reducible repeat' first
    | (intro _) | assumption | exact sub_trans hm (by decide) | apply Keeps.drew | apply Keeps.ite | refine Keeps.foldl ?_ ?_ _
    | split | dsimp only | (apply Keeps.upd (k := 2097216) <;> first | with_unfolding_all rfl | skip)

theorem freshClocks {allowed : Nat} {s0 s : State} (h : Keeps allowed s0 s)
    (hm : sub 2048 allowed := by exact sub_trans (by assumption) (by decide)) :
    Keeps allowed s0 (State.freshClocks s) := by
  unfold State.freshClocks
  with_reducible repeat' first
    | (intro _) | assumption | exact sub_trans hm (by decide) | apply Keeps.ite | refine Keeps.foldl ?_ ?_ _ | split
    | dsimp only | (apply Keeps.upd (k := 2048) <;> first | with_unfolding_all rfl | skip)

theorem freshFilter {allowed : Nat} {s0 s : State} (h : Keeps allowed s0 s)
    (hm : sub 8 allowed := by exact sub_trans (by assumption) (by decide)) :
    Keeps allowed s0 (State.freshFilter s) := by
  unfold State.freshFilter
  with_reducible repeat' first
    | (intro _) | assumption | exact sub_trans hm (by decide) | apply Keeps.ite | refine Keeps.foldl ?_ ?_ _ | split
    | dsimp only | (apply Keeps.upd (k := 8) <;> first | with_unfolding_all rfl | skip)

theorem windowFresh {allowed : Nat} {s0 s : State} (h : Keeps allowed s0 s)
    (hm : sub 2099277 allowed := by exact sub_trans (by assumption) (by decide)) :
    Keeps allowed s0 (State.windowFresh s) := by
  unfold State.windowFresh
  with_reducible repeat' first
    | (intro _) | assumption | exact sub_trans hm (by decide) | apply Keeps.freshClocks | apply Keeps.freshHashes
    | apply Keeps.setBudget | apply Keeps.recountSpares | apply Keeps.freshFilter | apply Keeps.ageTile | apply Keeps.ite
    | refine Keeps.foldl ?_ ?_ _ | split | dsimp only
    | (apply Keeps.upd (k := 2099277) <;> first | with_unfolding_all rfl | skip)

theorem choosePair {allowed : Nat} {s0 s : State} (h : Keeps allowed s0 s)
    (hm : sub 1 allowed := by exact sub_trans (by assumption) (by decide)) :
    Keeps allowed s0 (State.choosePair s) := by
  unfold State.choosePair
  with_reducible repeat' first
    | (intro _) | assumption | exact sub_trans hm (by decide) | apply Keeps.setPair | apply Keeps.ite
    | refine Keeps.foldl ?_ ?_ _ | split | dsimp only | (apply Keeps.upd (k := 1) <;> first | with_unfolding_all rfl | skip)

theorem onlineMode {allowed : Nat} {s0 s : State} (h : Keeps allowed s0 s)
    (hm : sub 3573 allowed := by exact sub_trans (by assumption) (by decide)) :
    Keeps allowed s0 (State.onlineMode s) := by
  unfold State.onlineMode
  with_reducible repeat' first
    | (intro _) | assumption | exact sub_trans hm (by decide) | apply Keeps.put | apply Keeps.set | apply Keeps.raise
    | apply Keeps.toMode | apply Keeps.basicUnits | apply Keeps.enterReadOnly | apply Keeps.ite | refine Keeps.foldl ?_ ?_ _
    | split | dsimp only | (apply Keeps.upd (k := 3573) <;> first | with_unfolding_all rfl | skip)

theorem windowOnline {allowed : Nat} {s0 s : State} (h : Keeps allowed s0 s)
    (hm : sub 2117117 allowed := by exact sub_trans (by assumption) (by decide)) :
    Keeps allowed s0 (State.windowOnline s) := by
  unfold State.windowOnline
  with_reducible repeat' first
    | (intro _) | assumption | exact sub_trans hm (by decide) | apply Keeps.onlineMode | apply Keeps.choosePair
    | apply Keeps.windowFresh | apply Keeps.startCkpt | apply Keeps.startRebuild | apply Keeps.resumeWork
    | apply Keeps.placeRegions | apply Keeps.ite | refine Keeps.foldl ?_ ?_ _ | split | dsimp only
    | (apply Keeps.upd (k := 2117117) <;> first | with_unfolding_all rfl | skip)

theorem footerReplay {allowed : Nat} {s0 s : State} (h : Keeps allowed s0 s) (b : Band)
    (hm : sub 2437 allowed := by exact sub_trans (by assumption) (by decide)) :
    Keeps allowed s0 (State.footerReplay s b) := by
  unfold State.footerReplay
  with_reducible repeat' first
    | (intro _) | assumption | exact sub_trans hm (by decide) | apply Keeps.journal | apply Keeps.setBand | apply Keeps.ite
    | refine Keeps.foldl ?_ ?_ _ | split | dsimp only | (apply Keeps.upd (k := 2437) <;> first | with_unfolding_all rfl | skip)

theorem ftierOnline {allowed : Nat} {s0 s : State} (h : Keeps allowed s0 s)
    (hm : sub 2437 allowed := by exact sub_trans (by assumption) (by decide)) :
    Keeps allowed s0 (State.ftierOnline s) := by
  unfold State.ftierOnline
  with_reducible repeat' first
    | (intro _) | assumption | exact sub_trans hm (by decide) | apply Keeps.journal | apply Keeps.showFlash | apply Keeps.set
    | apply Keeps.tryCkpt | apply Keeps.showFull | apply Keeps.showFcache | apply Keeps.ite | refine Keeps.foldl ?_ ?_ _ | split
    | dsimp only | (apply Keeps.upd (k := 2437) <;> first | with_unfolding_all rfl | skip)

theorem phaseWork {allowed : Nat} {s0 s : State} (h : Keeps allowed s0 s) (bad : List Nat) (a2 : Nat)
    (hm : sub 2117629 allowed := by exact sub_trans (by assumption) (by decide)) :
    Keeps allowed s0 (State.phaseWork s bad a2) := by
  unfold State.phaseWork
  with_reducible repeat' first
    | (intro _) | assumption | exact sub_trans hm (by decide) | apply Keeps.loadWindow | apply Keeps.replayWindow
    | apply Keeps.scanTiles | apply Keeps.windowOnline | apply Keeps.set | apply Keeps.footerReplay | apply Keeps.ftierOnline
    | apply Keeps.ite | refine Keeps.foldl ?_ ?_ _ | split | dsimp only
    | (apply Keeps.upd (k := 2117629) <;> first | with_unfolding_all rfl | skip)

theorem runQuicksetEntryError {allowed : Nat} {s0 s : State} (h : Keeps allowed s0 s) (line : Nat)
    (hm : sub 3149309 allowed := by exact sub_trans (by assumption) (by decide)) :
    KeepsOut allowed s0 (execQuicksetEntryError line s) := by
  unfold execQuicksetEntryError
  refine Keeps.next ?_
  with_reducible repeat' first
    | (intro _) | assumption | exact sub_trans hm (by decide) | apply Keeps.onWay | apply Keeps.drew | apply Keeps.qsFree
    | apply Keeps.queuePage | apply Keeps.raiseAt | apply Keeps.ite | refine Keeps.foldl ?_ ?_ _ | split | dsimp only
    | (apply Keeps.upd (k := 3149309) <;> first | with_unfolding_all rfl | skip)

theorem runJournalCopyWriteComplete {allowed : Nat} {s0 s : State} (h : Keeps allowed s0 s) (count : Nat)
    (hm : sub 2049 allowed := by exact sub_trans (by assumption) (by decide)) :
    KeepsOut allowed s0 (execJournalCopyWriteComplete count s) := by
  unfold execJournalCopyWriteComplete
  refine Keeps.next ?_
  with_reducible repeat' first
    | (intro _) | assumption | exact sub_trans hm (by decide) | apply Keeps.showMeta | apply Keeps.ite
    | refine Keeps.foldl ?_ ?_ _ | split | dsimp only | (apply Keeps.upd (k := 2049) <;> first | with_unfolding_all rfl | skip)

theorem runCheckpointTimer {allowed : Nat} {s0 s : State} (h : Keeps allowed s0 s) (ftier : Bool)
    (hm : sub 2437 allowed := by exact sub_trans (by assumption) (by decide)) :
    KeepsOut allowed s0 (execCheckpointTimer ftier s) := by
  unfold execCheckpointTimer
  refine Keeps.next ?_
  with_reducible repeat' first
    | (intro _) | assumption | exact sub_trans hm (by decide) | apply Keeps.tryCkpt | apply Keeps.ite
    | refine Keeps.foldl ?_ ?_ _ | split | dsimp only | (apply Keeps.upd (k := 2437) <;> first | with_unfolding_all rfl | skip)

theorem runCheckpointnow {allowed : Nat} {s0 s : State} (h : Keeps allowed s0 s)
    (hm : sub 2437 allowed := by exact sub_trans (by assumption) (by decide)) :
    KeepsOut allowed s0 (execCheckpointnow s) := by
  unfold execCheckpointnow
  refine Keeps.next ?_
  with_reducible repeat' first
    | (intro _) | assumption | exact sub_trans hm (by decide) | apply Keeps.tryCkpt | apply Keeps.ite
    | refine Keeps.foldl ?_ ?_ _ | split | dsimp only | (apply Keeps.upd (k := 2437) <;> first | with_unfolding_all rfl | skip)

theorem runCheckpointImageWritten {allowed : Nat} {s0 s : State} (h : Keeps allowed s0 s) (ftier : Bool)
    (hm : sub 2437 allowed := by exact sub_trans (by assumption) (by decide)) :
    KeepsOut allowed s0 (execCheckpointImageWritten ftier s) := by
  unfold execCheckpointImageWritten
  refine Keeps.next ?_
  with_reducible repeat' first
    | (intro _) | assumption | exact sub_trans hm (by decide) | apply Keeps.journal | apply Keeps.setCkpt | apply Keeps.ite
    | refine Keeps.foldl ?_ ?_ _ | split | dsimp only | (apply Keeps.upd (k := 2437) <;> first | with_unfolding_all rfl | skip)

theorem runCheckpointEndDurable {allowed : Nat} {s0 s : State} (h : Keeps allowed s0 s) (ftier : Bool)
    (hm : sub 268295 allowed := by exact sub_trans (by assumption) (by decide)) :
    KeepsOut allowed s0 (execCheckpointEndDurable ftier s) := by
  unfold execCheckpointEndDurable
  refine Keeps.next ?_
  with_reducible repeat' first
    | (intro _) | assumption | exact sub_trans hm (by decide) | apply Keeps.finishCkpt | apply Keeps.ite
    | refine Keeps.foldl ?_ ?_ _ | split | dsimp only
    | (apply Keeps.upd (k := 268295) <;> first | with_unfolding_all rfl | skip)

theorem runCheckpointFailure {allowed : Nat} {s0 s : State} (h : Keeps allowed s0 s)
    (hm : sub 3573 allowed := by exact sub_trans (by assumption) (by decide)) :
    KeepsOut allowed s0 (execCheckpointFailure s) := by
  unfold execCheckpointFailure
  refine Keeps.next ?_
  with_reducible repeat' first
    | (intro _) | assumption | exact sub_trans hm (by decide) | apply Keeps.ckptLosesPart | apply Keeps.ite
    | refine Keeps.foldl ?_ ?_ _ | split | dsimp only | (apply Keeps.upd (k := 3573) <;> first | with_unfolding_all rfl | skip)

theorem runShutdownnow {allowed : Nat} {s0 s : State} (h : Keeps allowed s0 s)
    (hm : sub 526341 allowed := by exact sub_trans (by assumption) (by decide)) :
    KeepsOut allowed s0 (execShutdownnow s) := by
  unfold execShutdownnow
  refine Keeps.next ?_
  with_reducible repeat' first
    | (intro _) | assumption | exact sub_trans hm (by decide) | apply Keeps.startFlush | apply Keeps.ite
    | refine Keeps.foldl ?_ ?_ _ | split | dsimp only
    | (apply Keeps.upd (k := 526341) <;> first | with_unfolding_all rfl | skip)

theorem runFlushStepComplete {allowed : Nat} {s0 s : State} (h : Keeps allowed s0 s)
    (hm : sub 1986047 allowed := by exact sub_trans (by assumption) (by decide)) :
    KeepsOut allowed s0 (execFlushStepComplete s) := by
  unfold execFlushStepComplete
  refine Keeps.next ?_
  with_reducible repeat' first
    | (intro _) | assumption | exact sub_trans hm (by decide) | apply Keeps.flushWork | apply Keeps.set | apply Keeps.ite
    | refine Keeps.foldl ?_ ?_ _ | split | dsimp only
    | (apply Keeps.upd (k := 1986047) <;> first | with_unfolding_all rfl | skip)

theorem runRecoveryPhaseComplete {allowed : Nat} {s0 s : State} (h : Keeps allowed s0 s) (badBlocks : List Nat)
    (hm : sub 2117629 allowed := by exact sub_trans (by assumption) (by decide)) :
    KeepsOut allowed s0 (execRecoveryPhaseComplete badBlocks s) := by
  unfold execRecoveryPhaseComplete
  refine Keeps.next ?_
  with_reducible repeat' first
    | (intro _) | assumption | exact sub_trans hm (by decide) | apply Keeps.raise | apply Keeps.phaseWork | apply Keeps.set
    | apply Keeps.ite | refine Keeps.foldl ?_ ?_ _ | split | dsimp only
    | (apply Keeps.upd (k := 2117629) <;> first | with_unfolding_all rfl | skip)

theorem runRecoveryBoundExpiry {allowed : Nat} {s0 s : State} (h : Keeps allowed s0 s)
    (hm : sub 4 allowed := by exact sub_trans (by assumption) (by decide)) :
    KeepsOut allowed s0 (execRecoveryBoundExpiry s) := by
  unfold execRecoveryBoundExpiry
  refine Keeps.next ?_
  with_reducible repeat' first
    | (intro _) | assumption | exact sub_trans hm (by decide) | apply Keeps.raise | apply Keeps.ite | refine Keeps.foldl ?_ ?_ _
    | split | dsimp only | (apply Keeps.upd (k := 4) <;> first | with_unfolding_all rfl | skip)

theorem runCheckRebuildPage {allowed : Nat} {s0 s : State} (h : Keeps allowed s0 s) (loc : Nat) (bad : List Nat) (decoded : Bool)
    (hm : sub 2117 allowed := by exact sub_trans (by assumption) (by decide)) :
    KeepsOut allowed s0 (execCheckRebuildPage loc bad decoded s) := by
  unfold execCheckRebuildPage
  refine Keeps.next ?_
  with_reducible repeat' first
    | (intro _) | assumption | exact sub_trans hm (by decide) | apply Keeps.raiseAt | apply Keeps.putMedia | apply Keeps.setSlot
    | apply Keeps.showRebuild | apply Keeps.tileChecked | apply Keeps.rebuildEnd | apply Keeps.ite | refine Keeps.foldl ?_ ?_ _
    | split | dsimp only | (apply Keeps.upd (k := 2117) <;> first | with_unfolding_all rfl | skip)

theorem runSnapshotUnitFree {allowed : Nat} {s0 s : State} (h : Keeps allowed s0 s) (slot : Nat)
    (hm : sub 2437 allowed := by exact sub_trans (by assumption) (by decide)) :
    KeepsOut allowed s0 (execSnapshotUnitFree slot s) := by
  unfold execSnapshotUnitFree
  refine Keeps.next ?_
  with_reducible repeat' first
    | (intro _) | assumption | exact sub_trans hm (by decide) | apply Keeps.journal | apply Keeps.showStaged | apply Keeps.ite
    | refine Keeps.foldl ?_ ?_ _ | split | dsimp only | (apply Keeps.upd (k := 2437) <;> first | with_unfolding_all rfl | skip)

end Keeps

end Sys2Proof.Machine
end

