-- ==== Sys2Proof/Laws/KeepsHazel.lean ====
section
/-!
SUPPORT. Every operation keeps what `Keeps` says: the kernels, the rings and their engines.  One lemma per operation, named after it; `run<X>` is the lemma of
the meaning `exec<X>`.
-/
set_option Elab.async false
set_option linter.unusedTactic false
set_option linter.unreachableTactic false

namespace Sys2Proof.Machine
namespace Keeps

theorem setCore {allowed : Nat} {s0 s : State} (h : Keeps allowed s0 s) (a1 : Nat) (c : HzCore)
    (hm : sub 16384 allowed := by exact sub_trans (by assumption) (by decide)) :
    Keeps allowed s0 (State.setCore s a1 c) := by
  unfold State.setCore
  with_reducible repeat' first
    | (intro _) | assumption | exact sub_trans hm (by decide) | apply Keeps.ite | refine Keeps.foldl ?_ ?_ _ | split
    | dsimp only | (apply Keeps.upd (k := 16384) <;> first | with_unfolding_all rfl | skip)

theorem dropCore {allowed : Nat} {s0 s : State} (h : Keeps allowed s0 s) (a1 : Nat)
    (hm : sub 16384 allowed := by exact sub_trans (by assumption) (by decide)) :
    Keeps allowed s0 (State.dropCore s a1) := by
  unfold State.dropCore
  with_reducible repeat' first
    | (intro _) | assumption | exact sub_trans hm (by decide) | apply Keeps.ite | refine Keeps.foldl ?_ ?_ _ | split
    | dsimp only | (apply Keeps.upd (k := 16384) <;> first | with_unfolding_all rfl | skip)

theorem setKernel {allowed : Nat} {s0 s : State} (h : Keeps allowed s0 s) (k : Kernel)
    (hm : sub 16384 allowed := by exact sub_trans (by assumption) (by decide)) :
    Keeps allowed s0 (State.setKernel s k) := by
  unfold State.setKernel
  with_reducible repeat' first
    | (intro _) | assumption | exact sub_trans hm (by decide) | apply Keeps.ite | refine Keeps.foldl ?_ ?_ _ | split
    | dsimp only | (apply Keeps.upd (k := 16384) <;> first | with_unfolding_all rfl | skip)

theorem showCluster {allowed : Nat} {s0 s : State} (h : Keeps allowed s0 s) (d : Nat)
    (hm : sub 1 allowed := by exact sub_trans (by assumption) (by decide)) :
    Keeps allowed s0 (State.showCluster s d) := by
  unfold State.showCluster
  with_reducible repeat' first
    | (intro _) | assumption | exact sub_trans hm (by decide) | apply Keeps.set | apply Keeps.ite | refine Keeps.foldl ?_ ?_ _
    | split | dsimp only | (apply Keeps.upd (k := 1) <;> first | with_unfolding_all rfl | skip)

theorem dropStore {allowed : Nat} {s0 s : State} (h : Keeps allowed s0 s) (kind : Nat) (index : Nat) (addr : Nat) (dom : Nat) (early : Bool)
    (hm : sub 5 allowed := by exact sub_trans (by assumption) (by decide)) :
    Keeps allowed s0 (State.dropStore s kind index addr dom early) := by
  unfold State.dropStore
  with_reducible repeat' first
    | (intro _) | assumption | exact sub_trans hm (by decide) | apply Keeps.set | apply Keeps.bump | apply Keeps.put
    | apply Keeps.raise | apply Keeps.ite | refine Keeps.foldl ?_ ?_ _ | split | dsimp only
    | (apply Keeps.upd (k := 5) <;> first | with_unfolding_all rfl | skip)

theorem drainBuf {allowed : Nat} {s0 s : State} (h : Keeps allowed s0 s) (a1 : Nat) (dom : Nat) (b : NtBuf)
    (hm : sub 1461757 allowed := by exact sub_trans (by assumption) (by decide)) :
    Keeps allowed s0 (State.drainBuf s a1 dom b) := by
  unfold State.drainBuf
  with_reducible repeat' first
    | (intro _) | assumption | exact sub_trans hm (by decide) | apply Keeps.setCore | apply Keeps.windowWrite
    | apply Keeps.dropStore | apply Keeps.storeRegion | apply Keeps.ite | refine Keeps.foldl ?_ ?_ _ | split | dsimp only
    | (apply Keeps.upd (k := 1461757) <;> first | with_unfolding_all rfl | skip)

theorem drainNt {allowed : Nat} {s0 s : State} (h : Keeps allowed s0 s) (a1 : Nat)
    (hm : sub 1461757 allowed := by exact sub_trans (by assumption) (by decide)) :
    Keeps allowed s0 (State.drainNt s a1) := by
  unfold State.drainNt
  with_reducible repeat' first
    | (intro _) | assumption | exact sub_trans hm (by decide) | apply Keeps.drainBuf | apply Keeps.ite
    | refine Keeps.foldl ?_ ?_ _ | split | dsimp only
    | (apply Keeps.upd (k := 1461757) <;> first | with_unfolding_all rfl | skip)

theorem resetCore {allowed : Nat} {s0 s : State} (h : Keeps allowed s0 s) (a1 : Nat)
    (hm : sub 1461757 allowed := by exact sub_trans (by assumption) (by decide)) :
    Keeps allowed s0 (State.resetCore s a1) := by
  unfold State.resetCore
  with_reducible repeat' first
    | (intro _) | assumption | exact sub_trans hm (by decide) | apply Keeps.drainNt | apply Keeps.set | apply Keeps.setCore
    | apply Keeps.ite | refine Keeps.foldl ?_ ?_ _ | split | dsimp only
    | (apply Keeps.upd (k := 1461757) <;> first | with_unfolding_all rfl | skip)

theorem releaseCore {allowed : Nat} {s0 s : State} (h : Keeps allowed s0 s) (a1 : Nat)
    (hm : sub 16385 allowed := by exact sub_trans (by assumption) (by decide)) :
    Keeps allowed s0 (State.releaseCore s a1) := by
  unfold State.releaseCore
  with_reducible repeat' first
    | (intro _) | assumption | exact sub_trans hm (by decide) | apply Keeps.dropCore | apply Keeps.set | apply Keeps.setReg
    | apply Keeps.ite | refine Keeps.foldl ?_ ?_ _ | split | dsimp only
    | (apply Keeps.upd (k := 16385) <;> first | with_unfolding_all rfl | skip)

theorem cancelCore {allowed : Nat} {s0 s : State} (h : Keeps allowed s0 s) (a1 : Nat) (id : Nat)
    (hm : sub 1 allowed := by exact sub_trans (by assumption) (by decide)) :
    Keeps allowed s0 (State.cancelCore s a1 id) := by
  unfold State.cancelCore
  with_reducible repeat' first
    | (intro _) | assumption | exact sub_trans hm (by decide) | apply Keeps.leaveSlot | apply Keeps.ite
    | refine Keeps.foldl ?_ ?_ _ | split | dsimp only | (apply Keeps.upd (k := 1) <;> first | with_unfolding_all rfl | skip)

theorem endKernel {allowed : Nat} {s0 s : State} (h : Keeps allowed s0 s) (k : Kernel) (status : Nat) (code : Nat) (a4 : Nat) (silent : Bool)
    (hm : sub 1461757 allowed := by exact sub_trans (by assumption) (by decide)) :
    Keeps allowed s0 (State.endKernel s k status code a4 silent) := by
  unfold State.endKernel
  with_reducible repeat' first
    | (intro _) | assumption | exact sub_trans hm (by decide) | apply Keeps.setKernel | apply Keeps.resetCore
    | apply Keeps.releaseCore | apply Keeps.cancelCore | apply Keeps.bump | apply Keeps.showCluster | apply Keeps.raise
    | apply Keeps.ite | refine Keeps.foldl ?_ ?_ _ | split | dsimp only
    | (apply Keeps.upd (k := 1461757) <;> first | with_unfolding_all rfl | skip)

theorem refuseKernel {allowed : Nat} {s0 s : State} (h : Keeps allowed s0 s) (k : Kernel) (status : Nat)
    (hm : sub 285061 allowed := by exact sub_trans (by assumption) (by decide)) :
    Keeps allowed s0 (State.refuseKernel s k status) := by
  unfold State.refuseKernel
  with_reducible repeat' first
    | (intro _) | assumption | exact sub_trans hm (by decide) | apply Keeps.finish | apply Keeps.showCluster
    | apply Keeps.hazelRelease | apply Keeps.ite | refine Keeps.foldl ?_ ?_ _ | split | dsimp only
    | (apply Keeps.upd (k := 285061) <;> first | with_unfolding_all rfl | skip)

theorem recordFault {allowed : Nat} {s0 s : State} (h : Keeps allowed s0 s) (a1 : Nat) (f : CoreFault)
    (hm : sub 1 allowed := by exact sub_trans (by assumption) (by decide)) :
    Keeps allowed s0 (State.recordFault s a1 f) := by
  unfold State.recordFault
  with_reducible repeat' first
    | (intro _) | assumption | exact sub_trans hm (by decide) | apply Keeps.set | apply Keeps.put | apply Keeps.ite
    | refine Keeps.foldl ?_ ?_ _ | split | dsimp only | (apply Keeps.upd (k := 1) <;> first | with_unfolding_all rfl | skip)

theorem enterHandler {allowed : Nat} {s0 s : State} (h : Keeps allowed s0 s) (a1 : Nat) (f : CoreFault) (entry : Nat)
    (hm : sub 16385 allowed := by exact sub_trans (by assumption) (by decide)) :
    Keeps allowed s0 (State.enterHandler s a1 f entry) := by
  unfold State.enterHandler
  with_reducible repeat' first
    | (intro _) | assumption | exact sub_trans hm (by decide) | apply Keeps.set | apply Keeps.setCore | apply Keeps.ite
    | refine Keeps.foldl ?_ ?_ _ | split | dsimp only | (apply Keeps.upd (k := 16385) <;> first | with_unfolding_all rfl | skip)

theorem handleFault {allowed : Nat} {s0 s : State} (h : Keeps allowed s0 s) (a1 : Nat) (f : CoreFault)
    (hm : sub 1461757 allowed := by exact sub_trans (by assumption) (by decide)) :
    Keeps allowed s0 (State.handleFault s a1 f) := by
  unfold State.handleFault
  with_reducible repeat' first
    | (intro _) | assumption | exact sub_trans hm (by decide) | apply Keeps.enterHandler | apply Keeps.endKernel
    | apply Keeps.ite | refine Keeps.foldl ?_ ?_ _ | split | dsimp only
    | (apply Keeps.upd (k := 1461757) <;> first | with_unfolding_all rfl | skip)

theorem deliverFault {allowed : Nat} {s0 s : State} (h : Keeps allowed s0 s) (a1 : Nat) (f : CoreFault)
    (hm : sub 1461757 allowed := by exact sub_trans (by assumption) (by decide)) :
    Keeps allowed s0 (State.deliverFault s a1 f) := by
  unfold State.deliverFault
  with_reducible repeat' first
    | (intro _) | assumption | exact sub_trans hm (by decide) | apply Keeps.handleFault | apply Keeps.recordFault
    | apply Keeps.ite | refine Keeps.foldl ?_ ?_ _ | split | dsimp only
    | (apply Keeps.upd (k := 1461757) <;> first | with_unfolding_all rfl | skip)

theorem leaveKernel {allowed : Nat} {s0 s : State} (h : Keeps allowed s0 s) (a1 : Nat)
    (hm : sub 16385 allowed := by exact sub_trans (by assumption) (by decide)) :
    Keeps allowed s0 (State.leaveKernel s a1) := by
  unfold State.leaveKernel
  with_reducible repeat' first
    | (intro _) | assumption | exact sub_trans hm (by decide) | apply Keeps.showCluster | apply Keeps.releaseCore
    | apply Keeps.setKernel | apply Keeps.ite | refine Keeps.foldl ?_ ?_ _ | split | dsimp only
    | (apply Keeps.upd (k := 16385) <;> first | with_unfolding_all rfl | skip)

theorem syncCore {allowed : Nat} {s0 s : State} (h : Keeps allowed s0 s) (a1 : Nat)
    (hm : sub 16384 allowed := by exact sub_trans (by assumption) (by decide)) :
    Keeps allowed s0 (State.syncCore s a1) := by
  unfold State.syncCore
  with_reducible repeat' first
    | (intro _) | assumption | exact sub_trans hm (by decide) | apply Keeps.setKernel | apply Keeps.setCore | apply Keeps.ite
    | refine Keeps.foldl ?_ ?_ _ | split | dsimp only | (apply Keeps.upd (k := 16384) <;> first | with_unfolding_all rfl | skip)

theorem settle {allowed : Nat} {s0 s : State} (h : Keeps allowed s0 s) (a1 : Nat)
    (hm : sub 1461757 allowed := by exact sub_trans (by assumption) (by decide)) :
    Keeps allowed s0 (State.settle s a1) := by
  unfold State.settle
  with_reducible repeat' first
    | (intro _) | assumption | exact sub_trans hm (by decide) | apply Keeps.deliverFault | apply Keeps.setCore
    | apply Keeps.leaveKernel | apply Keeps.syncCore | apply Keeps.ite | refine Keeps.foldl ?_ ?_ _ | split | dsimp only
    | (apply Keeps.upd (k := 1461757) <;> first | with_unfolding_all rfl | skip)

theorem coreFault {allowed : Nat} {s0 s : State} (h : Keeps allowed s0 s) (a1 : Nat) (f : CoreFault)
    (hm : sub 1461757 allowed := by exact sub_trans (by assumption) (by decide)) :
    Keeps allowed s0 (State.coreFault s a1 f) := by
  unfold State.coreFault
  with_reducible repeat' first
    | (intro _) | assumption | exact sub_trans hm (by decide) | apply Keeps.drainNt | apply Keeps.settle | apply Keeps.setCore
    | apply Keeps.ite | refine Keeps.foldl ?_ ?_ _ | split | dsimp only
    | (apply Keeps.upd (k := 1461757) <;> first | with_unfolding_all rfl | skip)

theorem loadCore {allowed : Nat} {s0 s : State} (h : Keeps allowed s0 s) (k : Kernel) (i : KImage) (arg : List Byte) (a4 : Nat) (rank : Nat) (state : Nat)
    (hm : sub 16385 allowed := by exact sub_trans (by assumption) (by decide)) :
    Keeps allowed s0 (State.loadCore s k i arg a4 rank state) := by
  unfold State.loadCore
  with_reducible repeat' first
    | (intro _) | assumption | exact sub_trans hm (by decide) | apply Keeps.set | apply Keeps.setCore | apply Keeps.ite
    | refine Keeps.foldl ?_ ?_ _ | split | dsimp only | (apply Keeps.upd (k := 16385) <;> first | with_unfolding_all rfl | skip)

theorem markLate {allowed : Nat} {s0 s : State} (h : Keeps allowed s0 s) (ring : Nat) (handle : Nat)
    (hm : sub 4096 allowed := by exact sub_trans (by assumption) (by decide)) :
    Keeps allowed s0 (State.markLate s ring handle) := by
  unfold State.markLate
  with_reducible repeat' first
    | (intro _) | assumption | exact sub_trans hm (by decide) | apply Keeps.setDesc | apply Keeps.ite
    | refine Keeps.foldl ?_ ?_ _ | split | dsimp only | (apply Keeps.upd (k := 4096) <;> first | with_unfolding_all rfl | skip)

theorem startArmed {allowed : Nat} {s0 s : State} (h : Keeps allowed s0 s) (a1 : Nat) (id : Nat) (late : Bool)
    (hm : sub 20481 allowed := by exact sub_trans (by assumption) (by decide)) :
    Keeps allowed s0 (State.startArmed s a1 id late) := by
  unfold State.startArmed
  with_reducible repeat' first
    | (intro _) | assumption | exact sub_trans hm (by decide) | apply Keeps.setKernel | apply Keeps.bump | apply Keeps.markLate
    | apply Keeps.showCluster | apply Keeps.set | apply Keeps.ite | refine Keeps.foldl ?_ ?_ _ | split | dsimp only
    | (apply Keeps.upd (k := 20481) <;> first | with_unfolding_all rfl | skip)

theorem dropArmed {allowed : Nat} {s0 s : State} (h : Keeps allowed s0 s) (a1 : Nat) (id : Nat) (status : Nat)
    (hm : sub 285061 allowed := by exact sub_trans (by assumption) (by decide)) :
    Keeps allowed s0 (State.dropArmed s a1 id status) := by
  unfold State.dropArmed
  with_reducible repeat' first
    | (intro _) | assumption | exact sub_trans hm (by decide) | apply Keeps.releaseCore | apply Keeps.refuseKernel
    | apply Keeps.showCluster | apply Keeps.setKernel | apply Keeps.ite | refine Keeps.foldl ?_ ?_ _ | split | dsimp only
    | (apply Keeps.upd (k := 285061) <;> first | with_unfolding_all rfl | skip)

theorem setRingState {allowed : Nat} {s0 s : State} (h : Keeps allowed s0 s) (r : Nat) (x : Nat)
    (hm : sub 1 allowed := by exact sub_trans (by assumption) (by decide)) :
    Keeps allowed s0 (State.setRingState s r x) := by
  unfold State.setRingState
  with_reducible repeat' first
    | (intro _) | assumption | exact sub_trans hm (by decide) | apply Keeps.set | apply Keeps.ite | refine Keeps.foldl ?_ ?_ _
    | split | dsimp only | (apply Keeps.upd (k := 1) <;> first | with_unfolding_all rfl | skip)

theorem showRing {allowed : Nat} {s0 s : State} (h : Keeps allowed s0 s) (r : Nat)
    (hm : sub 1 allowed := by exact sub_trans (by assumption) (by decide)) :
    Keeps allowed s0 (State.showRing s r) := by
  unfold State.showRing
  with_reducible repeat' first
    | (intro _) | assumption | exact sub_trans hm (by decide) | apply Keeps.set | apply Keeps.ite | refine Keeps.foldl ?_ ?_ _
    | split | dsimp only | (apply Keeps.upd (k := 1) <;> first | with_unfolding_all rfl | skip)

theorem enableRing {allowed : Nat} {s0 s : State} (h : Keeps allowed s0 s) (r : Nat)
    (hm : sub 69637 allowed := by exact sub_trans (by assumption) (by decide)) :
    Keeps allowed s0 (State.enableRing s r) := by
  unfold State.enableRing
  with_reducible repeat' first
    | (intro _) | assumption | exact sub_trans hm (by decide) | apply Keeps.raise | apply Keeps.put | apply Keeps.set
    | apply Keeps.setReg | apply Keeps.touchKey | apply Keeps.setRingState | apply Keeps.ite | refine Keeps.foldl ?_ ?_ _
    | split | dsimp only | (apply Keeps.upd (k := 69637) <;> first | with_unfolding_all rfl | skip)

theorem haltRing {allowed : Nat} {s0 s : State} (h : Keeps allowed s0 s) (r : Nat) (cause : Nat)
    (hm : sub 5 allowed := by exact sub_trans (by assumption) (by decide)) :
    Keeps allowed s0 (State.haltRing s r cause) := by
  unfold State.haltRing
  with_reducible repeat' first
    | (intro _) | assumption | exact sub_trans hm (by decide) | apply Keeps.bump | apply Keeps.set | apply Keeps.raise
    | apply Keeps.setRingState | apply Keeps.ite | refine Keeps.foldl ?_ ?_ _ | split | dsimp only
    | (apply Keeps.upd (k := 5) <;> first | with_unfolding_all rfl | skip)

theorem applyBind {allowed : Nat} {s0 s : State} (h : Keeps allowed s0 s) (r : Nat) (v : Word)
    (hm : sub 1 allowed := by exact sub_trans (by assumption) (by decide)) :
    Keeps allowed s0 (State.applyBind s r v) := by
  unfold State.applyBind
  with_reducible repeat' first
    | (intro _) | assumption | exact sub_trans hm (by decide) | apply Keeps.setReg | apply Keeps.ite
    | refine Keeps.foldl ?_ ?_ _ | split | dsimp only | (apply Keeps.upd (k := 1) <;> first | with_unfolding_all rfl | skip)

theorem disabledRing {allowed : Nat} {s0 s : State} (h : Keeps allowed s0 s) (r : Nat)
    (hm : sub 69637 allowed := by exact sub_trans (by assumption) (by decide)) :
    Keeps allowed s0 (State.disabledRing s r) := by
  unfold State.disabledRing
  with_reducible repeat' first
    | (intro _) | assumption | exact sub_trans hm (by decide) | apply Keeps.touchKey | apply Keeps.put
    | apply Keeps.setRingState | apply Keeps.applyBind | apply Keeps.ite | refine Keeps.foldl ?_ ?_ _ | split | dsimp only
    | (apply Keeps.upd (k := 69637) <;> first | with_unfolding_all rfl | skip)

theorem ringEmpty {allowed : Nat} {s0 s : State} (h : Keeps allowed s0 s) (r : Nat)
    (hm : sub 69637 allowed := by exact sub_trans (by assumption) (by decide)) :
    Keeps allowed s0 (State.ringEmpty s r) := by
  unfold State.ringEmpty
  with_reducible repeat' first
    | (intro _) | assumption | exact sub_trans hm (by decide) | apply Keeps.raise | apply Keeps.disabledRing | apply Keeps.ite
    | refine Keeps.foldl ?_ ?_ _ | split | dsimp only | (apply Keeps.upd (k := 69637) <;> first | with_unfolding_all rfl | skip)

theorem dropDesc {allowed : Nat} {s0 s : State} (h : Keeps allowed s0 s) (d : Desc)
    (hm : sub 69637 allowed := by exact sub_trans (by assumption) (by decide)) :
    Keeps allowed s0 (State.dropDesc s d) := by
  unfold State.dropDesc
  with_reducible repeat' first
    | (intro _) | assumption | exact sub_trans hm (by decide) | apply Keeps.ringEmpty | apply Keeps.showRing | apply Keeps.ite
    | refine Keeps.foldl ?_ ?_ _ | split | dsimp only | (apply Keeps.upd (k := 69637) <;> first | with_unfolding_all rfl | skip)

theorem disableRing {allowed : Nat} {s0 s : State} (h : Keeps allowed s0 s) (r : Nat)
    (hm : sub 69637 allowed := by exact sub_trans (by assumption) (by decide)) :
    Keeps allowed s0 (State.disableRing s r) := by
  unfold State.disableRing
  with_reducible repeat' first
    | (intro _) | assumption | exact sub_trans hm (by decide) | apply Keeps.ringEmpty | apply Keeps.setRingState
    | apply Keeps.put | apply Keeps.ite | refine Keeps.foldl ?_ ?_ _ | split | dsimp only
    | (apply Keeps.upd (k := 69637) <;> first | with_unfolding_all rfl | skip)

theorem cancelLaunch {allowed : Nat} {s0 s : State} (h : Keeps allowed s0 s) (d : Desc) (status : Nat)
    (hm : sub 1464711 allowed := by exact sub_trans (by assumption) (by decide)) :
    Keeps allowed s0 (State.cancelLaunch s d status) := by
  unfold State.cancelLaunch
  with_reducible repeat' first
    | (intro _) | assumption | exact sub_trans hm (by decide) | apply Keeps.leaveSlot | apply Keeps.setBit | apply Keeps.klSend
    | apply Keeps.journal | apply Keeps.refuseKernel | apply Keeps.releaseCore | apply Keeps.cancelCore | apply Keeps.ite
    | refine Keeps.foldl ?_ ?_ _ | split | dsimp only
    | (apply Keeps.upd (k := 1464711) <;> first | with_unfolding_all rfl | skip)

theorem abortRing {allowed : Nat} {s0 s : State} (h : Keeps allowed s0 s) (r : Nat)
    (hm : sub 1530247 allowed := by exact sub_trans (by assumption) (by decide)) :
    Keeps allowed s0 (State.abortRing s r) := by
  unfold State.abortRing
  with_reducible repeat' first
    | (intro _) | assumption | exact sub_trans hm (by decide) | apply Keeps.setRingState | apply Keeps.put | apply Keeps.finish
    | apply Keeps.cancelLaunch | apply Keeps.ringEmpty | apply Keeps.showRing | apply Keeps.ite | refine Keeps.foldl ?_ ?_ _
    | split | dsimp only | (apply Keeps.upd (k := 1530247) <;> first | with_unfolding_all rfl | skip)

theorem resetRing {allowed : Nat} {s0 s : State} (h : Keeps allowed s0 s) (r : Nat)
    (hm : sub 1531391 allowed := by exact sub_trans (by assumption) (by decide)) :
    Keeps allowed s0 (State.resetRing s r) := by
  unfold State.resetRing
  with_reducible repeat' first
    | (intro _) | assumption | exact sub_trans hm (by decide) | apply Keeps.cancelLaunch | apply Keeps.setKernel
    | apply Keeps.endKernel | apply Keeps.disabledRing | apply Keeps.showRing | apply Keeps.ite | refine Keeps.foldl ?_ ?_ _
    | split | dsimp only | (apply Keeps.upd (k := 1531391) <;> first | with_unfolding_all rfl | skip)

theorem refusePage {allowed : Nat} {s0 s : State} (h : Keeps allowed s0 s) (r : Nat) (dom : Nat)
    (hm : sub 4 allowed := by exact sub_trans (by assumption) (by decide)) :
    Keeps allowed s0 (State.refusePage s r dom) := by
  unfold State.refusePage
  with_reducible repeat' first
    | (intro _) | assumption | exact sub_trans hm (by decide) | apply Keeps.raise | apply Keeps.ite | refine Keeps.foldl ?_ ?_ _
    | split | dsimp only | (apply Keeps.upd (k := 4) <;> first | with_unfolding_all rfl | skip)

theorem ringTail {allowed : Nat} {s0 s : State} (h : Keeps allowed s0 s) (r : Nat) (t : Nat)
    (hm : sub 2097157 allowed := by exact sub_trans (by assumption) (by decide)) :
    Keeps allowed s0 (State.ringTail s r t) := by
  unfold State.ringTail
  with_reducible repeat' first
    | (intro _) | assumption | exact sub_trans hm (by decide) | apply Keeps.drew | apply Keeps.raise | apply Keeps.set
    | apply Keeps.haltRing | apply Keeps.ite | refine Keeps.foldl ?_ ?_ _ | split | dsimp only
    | (apply Keeps.upd (k := 2097157) <;> first | with_unfolding_all rfl | skip)

theorem ringHead {allowed : Nat} {s0 s : State} (h : Keeps allowed s0 s) (r : Nat) (a2 : Nat)
    (hm : sub 5 allowed := by exact sub_trans (by assumption) (by decide)) :
    Keeps allowed s0 (State.ringHead s r a2) := by
  unfold State.ringHead
  with_reducible repeat' first
    | (intro _) | assumption | exact sub_trans hm (by decide) | apply Keeps.set | apply Keeps.haltRing | apply Keeps.ite
    | refine Keeps.foldl ?_ ?_ _ | split | dsimp only | (apply Keeps.upd (k := 5) <;> first | with_unfolding_all rfl | skip)

theorem ringCtl {allowed : Nat} {s0 s : State} (h : Keeps allowed s0 s) (r : Nat) (v : Nat)
    (hm : sub 1530247 allowed := by exact sub_trans (by assumption) (by decide)) :
    Keeps allowed s0 (State.ringCtl s r v) := by
  unfold State.ringCtl
  with_reducible repeat' first
    | (intro _) | assumption | exact sub_trans hm (by decide) | apply Keeps.abortRing | apply Keeps.enableRing
    | apply Keeps.disableRing | apply Keeps.ite | refine Keeps.foldl ?_ ?_ _ | split | dsimp only
    | (apply Keeps.upd (k := 1530247) <;> first | with_unfolding_all rfl | skip)

theorem pageWrite {allowed : Nat} {s0 s : State} (h : Keeps allowed s0 s) (r : Nat) (o : Nat) (v : Word)
    (hm : sub 3627399 allowed := by exact sub_trans (by assumption) (by decide)) :
    Keeps allowed s0 (State.pageWrite s r o v) := by
  unfold State.pageWrite
  with_reducible repeat' first
    | (intro _) | assumption | exact sub_trans hm (by decide) | apply Keeps.ringTail | apply Keeps.ringHead
    | apply Keeps.ringCtl | apply Keeps.put | apply Keeps.setReg | apply Keeps.ite | refine Keeps.foldl ?_ ?_ _ | split
    | dsimp only | (apply Keeps.upd (k := 3627399) <;> first | with_unfolding_all rfl | skip)

theorem setDst {allowed : Nat} {s0 s : State} (h : Keeps allowed s0 s) (a1 : Nat) (dst : Nat) (signed : Bool) (b : List Byte)
    (hm : sub 16384 allowed := by exact sub_trans (by assumption) (by decide)) :
    Keeps allowed s0 (State.setDst s a1 dst signed b) := by
  unfold State.setDst
  with_reducible repeat' first
    | (intro _) | assumption | exact sub_trans hm (by decide) | apply Keeps.setCore | apply Keeps.ite
    | refine Keeps.foldl ?_ ?_ _ | split | dsimp only | (apply Keeps.upd (k := 16384) <;> first | with_unfolding_all rfl | skip)

theorem atPc {allowed : Nat} {s0 s : State} (h : Keeps allowed s0 s) (a1 : Nat) (pc : Nat)
    (hm : sub 16384 allowed := by exact sub_trans (by assumption) (by decide)) :
    Keeps allowed s0 (State.atPc s a1 pc) := by
  unfold State.atPc
  with_reducible repeat' first
    | (intro _) | assumption | exact sub_trans hm (by decide) | apply Keeps.setCore | apply Keeps.ite
    | refine Keeps.foldl ?_ ?_ _ | split | dsimp only | (apply Keeps.upd (k := 16384) <;> first | with_unfolding_all rfl | skip)

theorem accessFault {allowed : Nat} {s0 s : State} (h : Keeps allowed s0 s) (a1 : Nat) (pc : Nat) (a : Nat) (status : Nat) (store : Bool)
    (hm : sub 1461757 allowed := by exact sub_trans (by assumption) (by decide)) :
    Keeps allowed s0 (State.accessFault s a1 pc a status store) := by
  unfold State.accessFault
  with_reducible repeat' first
    | (intro _) | assumption | exact sub_trans hm (by decide) | apply Keeps.refusePage | apply Keeps.refused45
    | apply Keeps.coreFault | apply Keeps.ite | refine Keeps.foldl ?_ ?_ _ | split | dsimp only
    | (apply Keeps.upd (k := 1461757) <;> first | with_unfolding_all rfl | skip)

theorem localWrite {allowed : Nat} {s0 s : State} (h : Keeps allowed s0 s) (a1 : Nat) (a : Nat) (b : List Byte)
    (hm : sub 16384 allowed := by exact sub_trans (by assumption) (by decide)) :
    Keeps allowed s0 (State.localWrite s a1 a b) := by
  unfold State.localWrite
  with_reducible repeat' first
    | (intro _) | assumption | exact sub_trans hm (by decide) | apply Keeps.setCore | apply Keeps.setKernel | apply Keeps.ite
    | refine Keeps.foldl ?_ ?_ _ | split | dsimp only | (apply Keeps.upd (k := 16384) <;> first | with_unfolding_all rfl | skip)

theorem hazelWrite {allowed : Nat} {s0 s : State} (h : Keeps allowed s0 s) (a1 : Nat) (a : Nat) (b : List Byte)
    (hm : sub 3628543 allowed := by exact sub_trans (by assumption) (by decide)) :
    Keeps allowed s0 (State.hazelWrite s a1 a b) := by
  unfold State.hazelWrite
  with_reducible repeat' first
    | (intro _) | assumption | exact sub_trans hm (by decide) | apply Keeps.localWrite | apply Keeps.pageWrite
    | apply Keeps.breakResv | apply Keeps.storeRegion | apply Keeps.ite | refine Keeps.foldl ?_ ?_ _ | split | dsimp only
    | (apply Keeps.upd (k := 3628543) <;> first | with_unfolding_all rfl | skip)

theorem behindBarrier {allowed : Nat} {s0 s : State} (h : Keeps allowed s0 s) (a1 : Nat) (pc : Nat) (f : State → State) (hf : ∀ t, Keeps allowed s0 t → Keeps allowed s0 (f t))
    (hm : sub 1461757 allowed := by exact sub_trans (by assumption) (by decide)) :
    Keeps allowed s0 (State.behindBarrier s a1 pc f) := by
  unfold State.behindBarrier
  with_reducible repeat' first
    | (intro _) | assumption | exact sub_trans hm (by decide) | apply hf | apply Keeps.drainNt | apply Keeps.coreFault
    | apply Keeps.setCore | apply Keeps.ite | refine Keeps.foldl ?_ ?_ _ | split | dsimp only
    | (apply Keeps.upd (k := 1461757) <;> first | with_unfolding_all rfl | skip)

theorem beginBarrier {allowed : Nat} {s0 s : State} (h : Keeps allowed s0 s) (a1 : Nat) (pc : Nat) (b : BarrierKind)
    (hm : sub 1461757 allowed := by exact sub_trans (by assumption) (by decide)) :
    Keeps allowed s0 (State.beginBarrier s a1 pc b) := by
  unfold State.beginBarrier
  with_reducible repeat' first
    | (intro _) | assumption | exact sub_trans hm (by decide) | apply Keeps.drainNt | apply Keeps.atPc | apply Keeps.settle
    | apply Keeps.cHz | apply Keeps.setCore | apply Keeps.ite | refine Keeps.foldl ?_ ?_ _ | split | dsimp only
    | (apply Keeps.upd (k := 1461757) <;> first | with_unfolding_all rfl | skip)

theorem countLoad {allowed : Nat} {s0 s : State} (h : Keeps allowed s0 s) (a1 : Nat) (a : Nat)
    (hm : sub 4 allowed := by exact sub_trans (by assumption) (by decide)) :
    Keeps allowed s0 (State.countLoad s a1 a) := by
  unfold State.countLoad
  with_reducible repeat' first
    | (intro _) | assumption | exact sub_trans hm (by decide) | apply Keeps.cHz | apply Keeps.ite | refine Keeps.foldl ?_ ?_ _
    | split | dsimp only | (apply Keeps.upd (k := 4) <;> first | with_unfolding_all rfl | skip)

theorem headStore {allowed : Nat} {s0 s : State} (h : Keeps allowed s0 s) (a1 : Nat) (b : BufStore)
    (hm : sub 3628543 allowed := by exact sub_trans (by assumption) (by decide)) :
    Keeps allowed s0 (State.headStore s a1 b) := by
  unfold State.headStore
  with_reducible repeat' first
    | (intro _) | assumption | exact sub_trans hm (by decide) | apply Keeps.setCore | apply Keeps.dropStore
    | apply Keeps.agentWrite | apply Keeps.hazelWrite | apply Keeps.ite | refine Keeps.foldl ?_ ?_ _ | split | dsimp only
    | (apply Keeps.upd (k := 3628543) <;> first | with_unfolding_all rfl | skip)

theorem endRequest {allowed : Nat} {s0 s : State} (h : Keeps allowed s0 s) (q : HubReq) (status : Nat)
    (hm : sub 1465853 allowed := by exact sub_trans (by assumption) (by decide)) :
    Keeps allowed s0 (State.endRequest s q status) := by
  unfold State.endRequest
  with_reducible repeat' first
    | (intro _) | assumption | exact sub_trans hm (by decide) | apply Keeps.finish | apply Keeps.dropStore
    | apply Keeps.accessFault | apply Keeps.postedFail | apply Keeps.answerAgent | apply Keeps.ite | refine Keeps.foldl ?_ ?_ _
    | split | dsimp only | (apply Keeps.upd (k := 1465853) <;> first | with_unfolding_all rfl | skip)

theorem settleRequests {allowed : Nat} {s0 s : State} (h : Keeps allowed s0 s)
    (hm : sub 266240 allowed := by exact sub_trans (by assumption) (by decide)) :
    Keeps allowed s0 (State.settleRequests s) := by
  unfold State.settleRequests
  with_reducible repeat' first
    | (intro _) | assumption | exact sub_trans hm (by decide) | apply Keeps.finish | apply Keeps.ite
    | refine Keeps.foldl ?_ ?_ _ | split | dsimp only
    | (apply Keeps.upd (k := 266240) <;> first | with_unfolding_all rfl | skip)

theorem endRequests {allowed : Nat} {s0 s : State} (h : Keeps allowed s0 s) (a : Nat) (status : Nat)
    (hm : sub 1465853 allowed := by exact sub_trans (by assumption) (by decide)) :
    Keeps allowed s0 (State.endRequests s a status) := by
  unfold State.endRequests
  with_reducible repeat' first
    | (intro _) | assumption | exact sub_trans hm (by decide) | apply Keeps.showOut | apply Keeps.settleRequests
    | apply Keeps.endRequest | apply Keeps.ite | refine Keeps.foldl ?_ ?_ _ | split | dsimp only
    | (apply Keeps.upd (k := 1465853) <;> first | with_unfolding_all rfl | skip)

theorem agentDead {allowed : Nat} {s0 s : State} (h : Keeps allowed s0 s) (a : Nat) (addr : Option Nat)
    (hm : sub 3563005 allowed := by exact sub_trans (by assumption) (by decide)) :
    Keeps allowed s0 (State.agentDead s a addr) := by
  unfold State.agentDead
  with_reducible repeat' first
    | (intro _) | assumption | exact sub_trans hm (by decide) | apply Keeps.raise | apply Keeps.set | apply Keeps.drew
    | apply Keeps.endRequests | apply Keeps.ite | refine Keeps.foldl ?_ ?_ _ | split | dsimp only
    | (apply Keeps.upd (k := 3563005) <;> first | with_unfolding_all rfl | skip)

theorem markDead {allowed : Nat} {s0 s : State} (h : Keeps allowed s0 s) (a : Nat) (link : Nat)
    (hm : sub 3563005 allowed := by exact sub_trans (by assumption) (by decide)) :
    Keeps allowed s0 (State.markDead s a link) := by
  unfold State.markDead
  with_reducible repeat' first
    | (intro _) | assumption | exact sub_trans hm (by decide) | apply Keeps.agentDead | apply Keeps.ite
    | refine Keeps.foldl ?_ ?_ _ | split | dsimp only
    | (apply Keeps.upd (k := 3563005) <;> first | with_unfolding_all rfl | skip)

theorem evictImages {allowed : Nat} {s0 s : State} (h : Keeps allowed s0 s) (need d n : Nat)
    (hm : sub 16384 allowed := by exact sub_trans (by assumption) (by decide)) : Keeps allowed s0 (State.evictImages need d n s) := by
  induction n generalizing s with
  | zero => exact h
  | succ n ih =>
    unfold State.evictImages
    dsimp only
    split
    · exact h
    · split
      · exact h
      · exact ih (h.upd rfl rfl rfl)

theorem refuseImage {allowed : Nat} {s0 s : State} (h : Keeps allowed s0 s) (k : Kernel) (status : Nat)
    (hm : sub 285061 allowed := by exact sub_trans (by assumption) (by decide)) :
    Keeps allowed s0 (State.refuseImage s k status) := by
  unfold State.refuseImage
  with_reducible repeat' first
    | (intro _) | assumption | exact sub_trans hm (by decide) | apply Keeps.refuseKernel | apply Keeps.raise | apply Keeps.ite
    | refine Keeps.foldl ?_ ?_ _ | split | dsimp only
    | (apply Keeps.upd (k := 285061) <;> first | with_unfolding_all rfl | skip)

theorem stageKernel {allowed : Nat} {s0 s : State} (h : Keeps allowed s0 s) (k : Kernel) (i : KImage) (args : List Byte)
    (hm : sub 285061 allowed := by exact sub_trans (by assumption) (by decide)) :
    Keeps allowed s0 (State.stageKernel s k i args) := by
  unfold State.stageKernel
  with_reducible repeat' first
    | (intro _) | assumption | exact sub_trans hm (by decide) | apply Keeps.refuseKernel | apply Keeps.setKernel
    | apply Keeps.loadCore | apply Keeps.bump | apply Keeps.takeSlot | apply Keeps.markLate | apply Keeps.showCluster
    | apply Keeps.ite | refine Keeps.foldl ?_ ?_ _ | split | dsimp only
    | (apply Keeps.upd (k := 285061) <;> first | with_unfolding_all rfl | skip)

theorem runHazelLoad {allowed : Nat} {s0 s : State} (h : Keeps allowed s0 s) (core : Nat) (pc : Nat) (addr : Nat) (size : Nat) (signed : Bool) (dst : Nat) (outside : List (BitVec 8))
    (hm : sub 1461757 allowed := by exact sub_trans (by assumption) (by decide)) :
    KeepsOut allowed s0 (execHazelLoad core pc addr size signed dst outside s) := by
  unfold execHazelLoad
  refine Keeps.next ?_
  with_reducible repeat' first
    | (intro _) | assumption | exact sub_trans hm (by decide) | apply Keeps.atPc | apply Keeps.accessFault
    | apply Keeps.countLoad | apply Keeps.setDst | apply Keeps.drainBuf | apply Keeps.fetch | apply Keeps.taken
    | apply Keeps.heatUp | apply Keeps.ite | refine Keeps.foldl ?_ ?_ _ | split | dsimp only
    | (apply Keeps.upd (k := 1461757) <;> first | with_unfolding_all rfl | skip)

theorem runHazelStore {allowed : Nat} {s0 s : State} (h : Keeps allowed s0 s) (core : Nat) (pc : Nat) (addr : Nat) (bytes : List (BitVec 8))
    (hm : sub 1461757 allowed := by exact sub_trans (by assumption) (by decide)) :
    KeepsOut allowed s0 (execHazelStore core pc addr bytes s) := by
  unfold execHazelStore
  refine Keeps.next ?_
  with_reducible repeat' first
    | (intro _) | assumption | exact sub_trans hm (by decide) | apply Keeps.atPc | apply Keeps.accessFault | apply Keeps.cHz
    | apply Keeps.setCore | apply Keeps.ite | refine Keeps.foldl ?_ ?_ _ | split | dsimp only
    | (apply Keeps.upd (k := 1461757) <;> first | with_unfolding_all rfl | skip)

theorem runHazelNtStore {allowed : Nat} {s0 s : State} (h : Keeps allowed s0 s) (core : Nat) (pc : Nat) (addr : Nat) (bytes : List (BitVec 8))
    (hm : sub 1461757 allowed := by exact sub_trans (by assumption) (by decide)) :
    KeepsOut allowed s0 (execHazelNtStore core pc addr bytes s) := by
  unfold execHazelNtStore
  refine Keeps.next ?_
  with_reducible repeat' first
    | (intro _) | assumption | exact sub_trans hm (by decide) | apply Keeps.atPc | apply Keeps.accessFault | apply Keeps.cHz
    | apply Keeps.setCore | apply Keeps.drainBuf | apply Keeps.ite | refine Keeps.foldl ?_ ?_ _ | split | dsimp only
    | (apply Keeps.upd (k := 1461757) <;> first | with_unfolding_all rfl | skip)

theorem askAtomic {allowed : Nat} {s0 s : State} (h : Keeps allowed s0 s) (src : WinSrc) (dom : Nat) (op : AmoOp) (addr : Nat) (x : Word)
    (hm : sub 1441797 allowed := by exact sub_trans (by assumption) (by decide)) :
    Keeps allowed s0 (State.askAtomic s src dom op addr x) := by
  unfold State.askAtomic
  with_reducible repeat' first
    | (intro _) | assumption | exact sub_trans hm (by decide) | apply Keeps.hubRequest | apply Keeps.ite
    | refine Keeps.foldl ?_ ?_ _ | split | dsimp only
    | (apply Keeps.upd (k := 1441797) <;> first | with_unfolding_all rfl | skip)

theorem runHazelAmo {allowed : Nat} {s0 s : State} (h : Keeps allowed s0 s) (core : Nat) (pc : Nat) (op : AmoOp) (addr : Nat) (wide : Bool) (operand : BitVec 64) (dst : Nat) (outside : List (BitVec 8))
    (hm : sub 3628543 allowed := by exact sub_trans (by assumption) (by decide)) :
    KeepsOut allowed s0 (execHazelAmo core pc op addr wide operand dst outside s) := by
  unfold execHazelAmo
  refine Keeps.next ?_
  with_reducible repeat' first
    | (intro _) | assumption | exact sub_trans hm (by decide) | apply Keeps.atPc | apply Keeps.accessFault
    | apply Keeps.behindBarrier | apply Keeps.askAtomic | apply Keeps.fetch | apply Keeps.taken | apply Keeps.cHz
    | apply Keeps.setDst | apply Keeps.hazelWrite | apply Keeps.ite | refine Keeps.foldl ?_ ?_ _ | split | dsimp only
    | (apply Keeps.upd (k := 3628543) <;> first | with_unfolding_all rfl | skip)

theorem runHazelLr {allowed : Nat} {s0 s : State} (h : Keeps allowed s0 s) (core : Nat) (pc : Nat) (addr : Nat) (wide : Bool) (dst : Nat) (outside : List (BitVec 8))
    (hm : sub 1461757 allowed := by exact sub_trans (by assumption) (by decide)) :
    KeepsOut allowed s0 (execHazelLr core pc addr wide dst outside s) := by
  unfold execHazelLr
  refine Keeps.next ?_
  with_reducible repeat' first
    | (intro _) | assumption | exact sub_trans hm (by decide) | apply Keeps.atPc | apply Keeps.accessFault
    | apply Keeps.behindBarrier | apply Keeps.fetch | apply Keeps.taken | apply Keeps.countLoad | apply Keeps.setDst
    | apply Keeps.setCore | apply Keeps.ite | refine Keeps.foldl ?_ ?_ _ | split | dsimp only
    | (apply Keeps.upd (k := 1461757) <;> first | with_unfolding_all rfl | skip)

theorem runHazelSc {allowed : Nat} {s0 s : State} (h : Keeps allowed s0 s) (core : Nat) (pc : Nat) (addr : Nat) (wide : Bool) (operand : BitVec 64) (dst : Nat)
    (hm : sub 3628543 allowed := by exact sub_trans (by assumption) (by decide)) :
    KeepsOut allowed s0 (execHazelSc core pc addr wide operand dst s) := by
  unfold execHazelSc
  refine Keeps.next ?_
  with_reducible repeat' first
    | (intro _) | assumption | exact sub_trans hm (by decide) | apply Keeps.atPc | apply Keeps.accessFault
    | apply Keeps.behindBarrier | apply Keeps.setCore | apply Keeps.setDst | apply Keeps.cHz | apply Keeps.hazelWrite
    | apply Keeps.ite | refine Keeps.foldl ?_ ?_ _ | split | dsimp only
    | (apply Keeps.upd (k := 3628543) <;> first | with_unfolding_all rfl | skip)

theorem runFence {allowed : Nat} {s0 s : State} (h : Keeps allowed s0 s) (core : Nat) (pc : Nat)
    (hm : sub 1461757 allowed := by exact sub_trans (by assumption) (by decide)) :
    KeepsOut allowed s0 (execFence core pc s) := by
  unfold execFence
  refine Keeps.next ?_
  with_reducible repeat' first
    | (intro _) | assumption | exact sub_trans hm (by decide) | apply Keeps.beginBarrier | apply Keeps.ite
    | refine Keeps.foldl ?_ ?_ _ | split | dsimp only
    | (apply Keeps.upd (k := 1461757) <;> first | with_unfolding_all rfl | skip)

theorem runFenceI {allowed : Nat} {s0 s : State} (h : Keeps allowed s0 s) (core : Nat) (pc : Nat)
    (hm : sub 1461757 allowed := by exact sub_trans (by assumption) (by decide)) :
    KeepsOut allowed s0 (execFenceI core pc s) := by
  unfold execFenceI
  refine Keeps.next ?_
  with_reducible repeat' first
    | (intro _) | assumption | exact sub_trans hm (by decide) | apply Keeps.beginBarrier | apply Keeps.ite
    | refine Keeps.foldl ?_ ?_ _ | split | dsimp only
    | (apply Keeps.upd (k := 1461757) <;> first | with_unfolding_all rfl | skip)

theorem runCombiningBufferIdle {allowed : Nat} {s0 s : State} (h : Keeps allowed s0 s) (core : Nat) (line : Nat)
    (hm : sub 1461757 allowed := by exact sub_trans (by assumption) (by decide)) :
    KeepsOut allowed s0 (execCombiningBufferIdle core line s) := by
  unfold execCombiningBufferIdle
  refine Keeps.next ?_
  with_reducible repeat' first
    | (intro _) | assumption | exact sub_trans hm (by decide) | apply Keeps.drainBuf | apply Keeps.ite
    | refine Keeps.foldl ?_ ?_ _ | split | dsimp only
    | (apply Keeps.upd (k := 1461757) <;> first | with_unfolding_all rfl | skip)

theorem runStoreAck {allowed : Nat} {s0 s : State} (h : Keeps allowed s0 s) (core : Nat)
    (hm : sub 3628543 allowed := by exact sub_trans (by assumption) (by decide)) :
    KeepsOut allowed s0 (execStoreAck core s) := by
  unfold execStoreAck
  refine Keeps.next ?_
  with_reducible repeat' first
    | (intro _) | assumption | exact sub_trans hm (by decide) | apply Keeps.headStore | apply Keeps.settle | apply Keeps.ite
    | refine Keeps.foldl ?_ ?_ _ | split | dsimp only
    | (apply Keeps.upd (k := 3628543) <;> first | with_unfolding_all rfl | skip)

theorem runStoreTimeout {allowed : Nat} {s0 s : State} (h : Keeps allowed s0 s) (core : Nat)
    (hm : sub 3563005 allowed := by exact sub_trans (by assumption) (by decide)) :
    KeepsOut allowed s0 (execStoreTimeout core s) := by
  unfold execStoreTimeout
  refine Keeps.next ?_
  with_reducible repeat' first
    | (intro _) | assumption | exact sub_trans hm (by decide) | apply Keeps.settle | apply Keeps.setCore | apply Keeps.set
    | apply Keeps.put | apply Keeps.markDead | apply Keeps.dropStore | apply Keeps.ite | refine Keeps.foldl ?_ ?_ _ | split
    | dsimp only | (apply Keeps.upd (k := 3563005) <;> first | with_unfolding_all rfl | skip)

theorem runEarlyStoreDrop {allowed : Nat} {s0 s : State} (h : Keeps allowed s0 s) (src : DropSource) (addr : Nat) (dom : Nat)
    (hm : sub 16389 allowed := by exact sub_trans (by assumption) (by decide)) :
    KeepsOut allowed s0 (execEarlyStoreDrop src addr dom s) := by
  unfold execEarlyStoreDrop
  refine Keeps.next ?_
  with_reducible repeat' first
    | (intro _) | assumption | exact sub_trans hm (by decide) | apply Keeps.dropStore | apply Keeps.setCore | apply Keeps.set
    | apply Keeps.ite | refine Keeps.foldl ?_ ?_ _ | split | dsimp only
    | (apply Keeps.upd (k := 16389) <;> first | with_unfolding_all rfl | skip)

theorem runHazelException {allowed : Nat} {s0 s : State} (h : Keeps allowed s0 s) (core : Nat) (pc : Nat) (cause : HazelCause) (addr : Nat)
    (hm : sub 1461757 allowed := by exact sub_trans (by assumption) (by decide)) :
    KeepsOut allowed s0 (execHazelException core pc cause addr s) := by
  unfold execHazelException
  refine Keeps.next ?_
  with_reducible repeat' first
    | (intro _) | assumption | exact sub_trans hm (by decide) | apply Keeps.atPc | apply Keeps.setCore | apply Keeps.coreFault
    | apply Keeps.ite | refine Keeps.foldl ?_ ?_ _ | split | dsimp only
    | (apply Keeps.upd (k := 1461757) <;> first | with_unfolding_all rfl | skip)

theorem runHzLaunch {allowed : Nat} {s0 s : State} (h : Keeps allowed s0 s) (ring : Nat) (handle : Nat)
    (hm : sub 282625 allowed := by exact sub_trans (by assumption) (by decide)) :
    KeepsOut allowed s0 (execHzLaunch ring handle s) := by
  unfold execHzLaunch
  refine Keeps.next ?_
  with_reducible repeat' first
    | (intro _) | assumption | exact sub_trans hm (by decide) | apply Keeps.finish | apply Keeps.showCluster | apply Keeps.ite
    | refine Keeps.foldl ?_ ?_ _ | split | dsimp only
    | (apply Keeps.upd (k := 282625) <;> first | with_unfolding_all rfl | skip)

theorem runKernelStart {allowed : Nat} {s0 s : State} (h : Keeps allowed s0 s) (die : Nat) (image : List (BitVec 8)) (args : List (BitVec 8))
    (hm : sub 285061 allowed := by exact sub_trans (by assumption) (by decide)) :
    KeepsOut allowed s0 (execKernelStart die image args s) := by
  unfold execKernelStart
  refine Keeps.next ?_
  with_reducible repeat' first
    | (intro _) | assumption | exact sub_trans hm (by decide) | apply Keeps.refuseImage | apply Keeps.evictImages
    | apply Keeps.stageKernel | apply Keeps.ite | refine Keeps.foldl ?_ ?_ _ | split | dsimp only
    | (apply Keeps.upd (k := 285061) <;> first | with_unfolding_all rfl | skip)

theorem runExit {allowed : Nat} {s0 s : State} (h : Keeps allowed s0 s) (core : Nat) (pc : Nat)
    (hm : sub 1461757 allowed := by exact sub_trans (by assumption) (by decide)) :
    KeepsOut allowed s0 (execExit core pc s) := by
  unfold execExit
  refine Keeps.next ?_
  with_reducible repeat' first
    | (intro _) | assumption | exact sub_trans hm (by decide) | apply Keeps.beginBarrier | apply Keeps.ite
    | refine Keeps.foldl ?_ ?_ _ | split | dsimp only
    | (apply Keeps.upd (k := 1461757) <;> first | with_unfolding_all rfl | skip)

theorem runCoresSync {allowed : Nat} {s0 s : State} (h : Keeps allowed s0 s) (core : Nat) (pc : Nat)
    (hm : sub 1461757 allowed := by exact sub_trans (by assumption) (by decide)) :
    KeepsOut allowed s0 (execCoresSync core pc s) := by
  unfold execCoresSync
  refine Keeps.next ?_
  with_reducible repeat' first
    | (intro _) | assumption | exact sub_trans hm (by decide) | apply Keeps.beginBarrier | apply Keeps.ite
    | refine Keeps.foldl ?_ ?_ _ | split | dsimp only
    | (apply Keeps.upd (k := 1461757) <;> first | with_unfolding_all rfl | skip)

theorem runHandlerReturn {allowed : Nat} {s0 s : State} (h : Keeps allowed s0 s) (core : Nat)
    (hm : sub 16385 allowed := by exact sub_trans (by assumption) (by decide)) :
    KeepsOut allowed s0 (execHandlerReturn core s) := by
  unfold execHandlerReturn
  refine Keeps.next ?_
  with_reducible repeat' first
    | (intro _) | assumption | exact sub_trans hm (by decide) | apply Keeps.set | apply Keeps.setCore | apply Keeps.ite
    | refine Keeps.foldl ?_ ?_ _ | split | dsimp only | (apply Keeps.upd (k := 16385) <;> first | with_unfolding_all rfl | skip)

theorem runKernelCompletion {allowed : Nat} {s0 s : State} (h : Keeps allowed s0 s) (kernel : Nat)
    (hm : sub 285061 allowed := by exact sub_trans (by assumption) (by decide)) :
    KeepsOut allowed s0 (execKernelCompletion kernel s) := by
  unfold execKernelCompletion
  refine Keeps.next ?_
  with_reducible repeat' first
    | (intro _) | assumption | exact sub_trans hm (by decide) | apply Keeps.finish | apply Keeps.showCluster | apply Keeps.bump
    | apply Keeps.hazelRelease | apply Keeps.ite | refine Keeps.foldl ?_ ?_ _ | split | dsimp only
    | (apply Keeps.upd (k := 285061) <;> first | with_unfolding_all rfl | skip)

theorem runKernelDeadline {allowed : Nat} {s0 s : State} (h : Keeps allowed s0 s) (kernel : Nat)
    (hm : sub 3558909 allowed := by exact sub_trans (by assumption) (by decide)) :
    KeepsOut allowed s0 (execKernelDeadline kernel s) := by
  unfold execKernelDeadline
  refine Keeps.next ?_
  with_reducible repeat' first
    | (intro _) | assumption | exact sub_trans hm (by decide) | apply Keeps.raise | apply Keeps.set | apply Keeps.drew
    | apply Keeps.endKernel | apply Keeps.ite | refine Keeps.foldl ?_ ?_ _ | split | dsimp only
    | (apply Keeps.upd (k := 3558909) <;> first | with_unfolding_all rfl | skip)

theorem runHzCoreReset {allowed : Nat} {s0 s : State} (h : Keeps allowed s0 s) (core : Nat)
    (hm : sub 3558909 allowed := by exact sub_trans (by assumption) (by decide)) :
    KeepsOut allowed s0 (execHzCoreReset core s) := by
  unfold execHzCoreReset
  refine Keeps.next ?_
  with_reducible repeat' first
    | (intro _) | assumption | exact sub_trans hm (by decide) | apply Keeps.drew | apply Keeps.endKernel | apply Keeps.ite
    | refine Keeps.foldl ?_ ?_ _ | split | dsimp only
    | (apply Keeps.upd (k := 3558909) <;> first | with_unfolding_all rfl | skip)

theorem runCoreDrainComplete {allowed : Nat} {s0 s : State} (h : Keeps allowed s0 s) (core : Nat)
    (hm : sub 16385 allowed := by exact sub_trans (by assumption) (by decide)) :
    KeepsOut allowed s0 (execCoreDrainComplete core s) := by
  unfold execCoreDrainComplete
  refine Keeps.next ?_
  with_reducible repeat' first
    | (intro _) | assumption | exact sub_trans hm (by decide) | apply Keeps.showCluster | apply Keeps.releaseCore
    | apply Keeps.setKernel | apply Keeps.ite | refine Keeps.foldl ?_ ?_ _ | split | dsimp only
    | (apply Keeps.upd (k := 16385) <;> first | with_unfolding_all rfl | skip)

theorem runImageflush {allowed : Nat} {s0 s : State} (h : Keeps allowed s0 s) (die : Nat)
    (hm : sub 16384 allowed := by exact sub_trans (by assumption) (by decide)) :
    KeepsOut allowed s0 (execImageflush die s) := by
  unfold execImageflush
  refine Keeps.next ?_
  with_reducible repeat' first
    | (intro _) | assumption | exact sub_trans hm (by decide) | apply Keeps.ite | refine Keeps.foldl ?_ ?_ _ | split
    | dsimp only | (apply Keeps.upd (k := 16384) <;> first | with_unfolding_all rfl | skip)

theorem runHzShmGrantWrite {allowed : Nat} {s0 s : State} (h : Keeps allowed s0 s) (unit : Nat) (value : BitVec 32)
    (hm : sub 65541 allowed := by exact sub_trans (by assumption) (by decide)) :
    KeepsOut allowed s0 (execHzShmGrantWrite unit value s) := by
  unfold execHzShmGrantWrite
  refine Keeps.next ?_
  with_reducible repeat' first
    | (intro _) | assumption | exact sub_trans hm (by decide) | apply Keeps.setReg | apply Keeps.touchKey | apply Keeps.ite
    | refine Keeps.foldl ?_ ?_ _ | split | dsimp only | (apply Keeps.upd (k := 65541) <;> first | with_unfolding_all rfl | skip)

theorem freezeOwn {allowed : Nat} {s0 s : State} (h : Keeps allowed s0 s) (u : LaunchUnit) (mask : Word) (on : Bool)
    (hm : sub 5 allowed := by exact sub_trans (by assumption) (by decide)) :
    Keeps allowed s0 (State.freezeOwn s u mask on) := by
  unfold State.freezeOwn
  with_reducible repeat' first
    | (intro _) | assumption | exact sub_trans hm (by decide) | apply Keeps.setReg | apply Keeps.ite
    | refine Keeps.foldl ?_ ?_ _ | split | dsimp only | (apply Keeps.upd (k := 5) <;> first | with_unfolding_all rfl | skip)

theorem submitHeld {allowed : Nat} {s0 s : State} (h : Keeps allowed s0 s) (ring : Nat) (handle : Nat) (late : Bool)
    (hm : sub 4096 allowed := by exact sub_trans (by assumption) (by decide)) :
    Keeps allowed s0 (State.submitHeld s ring handle late) := by
  unfold State.submitHeld
  with_reducible repeat' first
    | (intro _) | assumption | exact sub_trans hm (by decide) | apply Keeps.startReady | apply Keeps.setDesc | apply Keeps.ite
    | refine Keeps.foldl ?_ ?_ _ | split | dsimp only | (apply Keeps.upd (k := 4096) <;> first | with_unfolding_all rfl | skip)

theorem takeCut {allowed : Nat} {s0 s : State} (h : Keeps allowed s0 s) (c : ArmedCut) (late : Bool)
    (hm : sub 268677 allowed := by exact sub_trans (by assumption) (by decide)) :
    Keeps allowed s0 (State.takeCut s c late) := by
  unfold State.takeCut
  with_reducible repeat' first
    | (intro _) | assumption | exact sub_trans hm (by decide) | apply Keeps.markLate | apply Keeps.journal | apply Keeps.raise
    | apply Keeps.finish | apply Keeps.ite | refine Keeps.foldl ?_ ?_ _ | split | dsimp only
    | (apply Keeps.upd (k := 268677) <;> first | with_unfolding_all rfl | skip)

theorem actSlot {allowed : Nat} {s0 s : State} (h : Keeps allowed s0 s) (u : LaunchUnit) (action : Nat) (arg : Word) (late : Bool)
    (hm : sub 285061 allowed := by exact sub_trans (by assumption) (by decide)) :
    Keeps allowed s0 (State.actSlot s u action arg late) := by
  unfold State.actSlot
  with_reducible repeat' first
    | (intro _) | assumption | exact sub_trans hm (by decide) | apply Keeps.submitHeld | apply Keeps.takeCut
    | apply Keeps.freezeOwn | apply Keeps.raise | apply Keeps.openBw | apply Keeps.startArmed | apply Keeps.ite
    | refine Keeps.foldl ?_ ?_ _ | split | dsimp only
    | (apply Keeps.upd (k := 285061) <;> first | with_unfolding_all rfl | skip)

theorem fireSlot {allowed : Nat} {s0 s : State} (h : Keeps allowed s0 s) (u : LaunchUnit) (i : Nat) (past : Bool)
    (hm : sub 285061 allowed := by exact sub_trans (by assumption) (by decide)) :
    Keeps allowed s0 (State.fireSlot s u i past) := by
  unfold State.fireSlot
  with_reducible repeat' first
    | (intro _) | assumption | exact sub_trans hm (by decide) | apply Keeps.set | apply Keeps.put | apply Keeps.leaveSlot
    | apply Keeps.raise | apply Keeps.actSlot | apply Keeps.ite | refine Keeps.foldl ?_ ?_ _ | split | dsimp only
    | (apply Keeps.upd (k := 285061) <;> first | with_unfolding_all rfl | skip)

theorem dropSlot {allowed : Nat} {s0 s : State} (h : Keeps allowed s0 s) (u : LaunchUnit) (i : Nat)
    (hm : sub 285061 allowed := by exact sub_trans (by assumption) (by decide)) :
    Keeps allowed s0 (State.dropSlot s u i) := by
  unfold State.dropSlot
  with_reducible repeat' first
    | (intro _) | assumption | exact sub_trans hm (by decide) | apply Keeps.leaveSlot | apply Keeps.finish
    | apply Keeps.dropArmed | apply Keeps.ite | refine Keeps.foldl ?_ ?_ _ | split | dsimp only
    | (apply Keeps.upd (k := 285061) <;> first | with_unfolding_all rfl | skip)

theorem lateAtArm {allowed : Nat} {s0 s : State} (h : Keeps allowed s0 s) (u : LaunchUnit) (i : Nat)
    (hm : sub 285061 allowed := by exact sub_trans (by assumption) (by decide)) :
    Keeps allowed s0 (State.lateAtArm s u i) := by
  unfold State.lateAtArm
  with_reducible repeat' first
    | (intro _) | assumption | exact sub_trans hm (by decide) | apply Keeps.dropSlot | apply Keeps.fireSlot | apply Keeps.ite
    | refine Keeps.foldl ?_ ?_ _ | split | dsimp only
    | (apply Keeps.upd (k := 285061) <;> first | with_unfolding_all rfl | skip)

theorem launchConfig {allowed : Nat} {s0 s : State} (h : Keeps allowed s0 s) (u : LaunchUnit) (i : Nat) (v : Word)
    (hm : sub 1 allowed := by exact sub_trans (by assumption) (by decide)) :
    Keeps allowed s0 (State.launchConfig s u i v) := by
  unfold State.launchConfig
  with_reducible repeat' first
    | (intro _) | assumption | exact sub_trans hm (by decide) | apply Keeps.put | apply Keeps.set | apply Keeps.ite
    | refine Keeps.foldl ?_ ?_ _ | split | dsimp only | (apply Keeps.upd (k := 1) <;> first | with_unfolding_all rfl | skip)

theorem sendTime {allowed : Nat} {s0 s : State} (h : Keeps allowed s0 s) (k : Nat)
    (hm : sub 1179655 allowed := by exact sub_trans (by assumption) (by decide)) :
    Keeps allowed s0 (State.sendTime s k) := by
  unfold State.sendTime
  with_reducible repeat' first
    | (intro _) | assumption | exact sub_trans hm (by decide) | apply Keeps.klOut | apply Keeps.setBit | apply Keeps.ite
    | refine Keeps.foldl ?_ ?_ _ | split | dsimp only
    | (apply Keeps.upd (k := 1179655) <;> first | with_unfolding_all rfl | skip)

theorem runTimeMessageSend {allowed : Nat} {s0 s : State} (h : Keeps allowed s0 s)
    (hm : sub 1179655 allowed := by exact sub_trans (by assumption) (by decide)) :
    KeepsOut allowed s0 (execTimeMessageSend s) := by
  unfold execTimeMessageSend
  refine Keeps.next ?_
  with_reducible repeat' first
    | (intro _) | assumption | exact sub_trans hm (by decide) | apply Keeps.sendTime | apply Keeps.ite
    | refine Keeps.foldl ?_ ?_ _ | split | dsimp only
    | (apply Keeps.upd (k := 1179655) <;> first | with_unfolding_all rfl | skip)

theorem runAgentTimeLost {allowed : Nat} {s0 s : State} (h : Keeps allowed s0 s) (agent : Nat)
    (hm : sub 5 allowed := by exact sub_trans (by assumption) (by decide)) :
    KeepsOut allowed s0 (execAgentTimeLost agent s) := by
  unfold execAgentTimeLost
  refine Keeps.next ?_
  with_reducible repeat' first
    | (intro _) | assumption | exact sub_trans hm (by decide) | apply Keeps.raise | apply Keeps.setBit | apply Keeps.ite
    | refine Keeps.foldl ?_ ?_ _ | split | dsimp only | (apply Keeps.upd (k := 5) <;> first | with_unfolding_all rfl | skip)

theorem runLaunchSlotArm {allowed : Nat} {s0 s : State} (h : Keeps allowed s0 s) (unit : LaunchUnit) (slot : Nat) (value : BitVec 32)
    (hm : sub 2382213 allowed := by exact sub_trans (by assumption) (by decide)) :
    KeepsOut allowed s0 (execLaunchSlotArm unit slot value s) := by
  unfold execLaunchSlotArm
  refine Keeps.next ?_
  with_reducible repeat' first
    | (intro _) | assumption | exact sub_trans hm (by decide) | apply Keeps.raiseFree | apply Keeps.set | apply Keeps.put
    | apply Keeps.launchConfig | apply Keeps.lateAtArm | apply Keeps.ite | refine Keeps.foldl ?_ ?_ _ | split | dsimp only
    | (apply Keeps.upd (k := 2382213) <;> first | with_unfolding_all rfl | skip)

theorem runLaunchSlotCancel {allowed : Nat} {s0 s : State} (h : Keeps allowed s0 s) (unit : LaunchUnit) (slot : Nat) (value : BitVec 32)
    (hm : sub 2097157 allowed := by exact sub_trans (by assumption) (by decide)) :
    KeepsOut allowed s0 (execLaunchSlotCancel unit slot value s) := by
  unfold execLaunchSlotCancel
  refine Keeps.next ?_
  with_reducible repeat' first
    | (intro _) | assumption | exact sub_trans hm (by decide) | apply Keeps.raiseFree | apply Keeps.leaveSlot | apply Keeps.ite
    | refine Keeps.foldl ?_ ?_ _ | split | dsimp only
    | (apply Keeps.upd (k := 2097157) <;> first | with_unfolding_all rfl | skip)

theorem runLaunchSlotFire {allowed : Nat} {s0 s : State} (h : Keeps allowed s0 s) (unit : LaunchUnit) (slot : Nat)
    (hm : sub 285061 allowed := by exact sub_trans (by assumption) (by decide)) :
    KeepsOut allowed s0 (execLaunchSlotFire unit slot s) := by
  unfold execLaunchSlotFire
  refine Keeps.next ?_
  with_reducible repeat' first
    | (intro _) | assumption | exact sub_trans hm (by decide) | apply Keeps.fireSlot | apply Keeps.ite
    | refine Keeps.foldl ?_ ?_ _ | split | dsimp only
    | (apply Keeps.upd (k := 285061) <;> first | with_unfolding_all rfl | skip)

theorem runLaunchArmSend {allowed : Nat} {s0 s : State} (h : Keeps allowed s0 s) (agent : Nat) (slot : Nat)
    (hm : sub 1179655 allowed := by exact sub_trans (by assumption) (by decide)) :
    KeepsOut allowed s0 (execLaunchArmSend agent slot s) := by
  unfold execLaunchArmSend
  refine Keeps.next ?_
  with_reducible repeat' first
    | (intro _) | assumption | exact sub_trans hm (by decide) | apply Keeps.klSend | apply Keeps.setBit | apply Keeps.ite
    | refine Keeps.foldl ?_ ?_ _ | split | dsimp only
    | (apply Keeps.upd (k := 1179655) <;> first | with_unfolding_all rfl | skip)

theorem setQp {allowed : Nat} {s0 s : State} (h : Keeps allowed s0 s) (q : Qp)
    (hm : sub 32768 allowed := by exact sub_trans (by assumption) (by decide)) :
    Keeps allowed s0 (State.setQp s q) := by
  unfold State.setQp
  with_reducible repeat' first
    | (intro _) | assumption | exact sub_trans hm (by decide) | apply Keeps.ite | refine Keeps.foldl ?_ ?_ _ | split
    | dsimp only | (apply Keeps.upd (k := 32768) <;> first | with_unfolding_all rfl | skip)

theorem setQueue {allowed : Nat} {s0 s : State} (h : Keeps allowed s0 s) (x : Queue)
    (hm : sub 4097 allowed := by exact sub_trans (by assumption) (by decide)) :
    Keeps allowed s0 (State.setQueue s x) := by
  unfold State.setQueue
  with_reducible repeat' first
    | (intro _) | assumption | exact sub_trans hm (by decide) | apply Keeps.put | apply Keeps.set | apply Keeps.ite
    | refine Keeps.foldl ?_ ?_ _ | split | dsimp only | (apply Keeps.upd (k := 4097) <;> first | with_unfolding_all rfl | skip)

theorem pushQueue? {allowed : Nat} {s0 s : State} (h : Keeps allowed s0 s) {q : Nat} {qp : Nat} {b : List Byte} {t0 : State} (e : (State.pushQueue? s q qp b) = some t0)
    (hm : sub 4097 allowed := by exact sub_trans (by assumption) (by decide)) :
    Keeps allowed s0 t0 := by
  unfold State.pushQueue? at e
  try dsimp only at e
  repeat' split at e
  all_goals first | contradiction | (injection e with e; subst e)
  all_goals with_reducible repeat' first
    | (intro _) | assumption | exact sub_trans hm (by decide) | apply Keeps.setQueue | apply Keeps.ite
    | refine Keeps.foldl ?_ ?_ _ | split | dsimp only | (apply Keeps.upd (k := 4097) <;> first | with_unfolding_all rfl | skip)

theorem dropQueue {allowed : Nat} {s0 s : State} (h : Keeps allowed s0 s) (q : Nat)
    (hm : sub 5 allowed := by exact sub_trans (by assumption) (by decide)) :
    Keeps allowed s0 (State.dropQueue s q) := by
  unfold State.dropQueue
  with_reducible repeat' first
    | (intro _) | assumption | exact sub_trans hm (by decide) | apply Keeps.bump | apply Keeps.raise | apply Keeps.ite
    | refine Keeps.foldl ?_ ?_ _ | split | dsimp only | (apply Keeps.upd (k := 5) <;> first | with_unfolding_all rfl | skip)

theorem popQueue {allowed : Nat} {s0 s : State} (h : Keeps allowed s0 s) (qp : Nat)
    (hm : sub 4097 allowed := by exact sub_trans (by assumption) (by decide)) :
    Keeps allowed s0 (State.popQueue s qp) := by
  unfold State.popQueue
  with_reducible repeat' first
    | (intro _) | assumption | exact sub_trans hm (by decide) | apply Keeps.setQueue | apply Keeps.ite
    | refine Keeps.foldl ?_ ?_ _ | split | dsimp only | (apply Keeps.upd (k := 4097) <;> first | with_unfolding_all rfl | skip)

theorem showBulk {allowed : Nat} {s0 s : State} (h : Keeps allowed s0 s) (p : Nat)
    (hm : sub 1048577 allowed := by exact sub_trans (by assumption) (by decide)) :
    Keeps allowed s0 (State.showBulk s p) := by
  unfold State.showBulk
  with_reducible repeat' first
    | (intro _) | assumption | exact sub_trans hm (by decide) | apply Keeps.put | apply Keeps.set | apply Keeps.send
    | apply Keeps.ite | refine Keeps.foldl ?_ ?_ _ | split | dsimp only
    | (apply Keeps.upd (k := 1048577) <;> first | with_unfolding_all rfl | skip)

theorem transmit {allowed : Nat} {s0 s : State} (h : Keeps allowed s0 s) (q : Nat) (r : PeerReq)
    (hm : sub 1048581 allowed := by exact sub_trans (by assumption) (by decide)) :
    Keeps allowed s0 (State.transmit s q r) := by
  unfold State.transmit
  with_reducible repeat' first
    | (intro _) | assumption | exact sub_trans hm (by decide) | apply Keeps.traffic | apply Keeps.cNet | apply Keeps.send
    | apply Keeps.ite | refine Keeps.foldl ?_ ?_ _ | split | dsimp only
    | (apply Keeps.upd (k := 1048581) <;> first | with_unfolding_all rfl | skip)

theorem pumpList {allowed : Nat} {s0 s : State} (h : Keeps allowed s0 s) (n : Nat) (l : List PeerReq)
    (hm : sub 1081349 allowed := by exact sub_trans (by assumption) (by decide)) : Keeps allowed s0 (State.pumpList s n l) := by
  induction l generalizing s with
  | nil => exact h
  | cons r l ih =>
    unfold State.pumpList
    split
    · exact ih h
    · split
      · exact h
      · extract_lets +onlyGivenNames held
        refine Keeps.ite h ?_
        exact ih ((h.setQp _).transmit _ _)

theorem pump {allowed : Nat} {s0 s : State} (h : Keeps allowed s0 s) (n : Nat)
    (hm : sub 1081349 allowed := by exact sub_trans (by assumption) (by decide)) :
    Keeps allowed s0 (State.pump s n) := by
  unfold State.pump
  with_reducible repeat' first
    | (intro _) | assumption | exact sub_trans hm (by decide) | apply Keeps.pumpList | apply Keeps.ite
    | refine Keeps.foldl ?_ ?_ _ | split | dsimp only
    | (apply Keeps.upd (k := 1081349) <;> first | with_unfolding_all rfl | skip)

theorem request {allowed : Nat} {s0 s : State} (h : Keeps allowed s0 s) (n : Nat) (kind : PeerKind) (ring : Nat) (handle : Nat) (rkey : Nat) (len : Nat)
    (hm : sub 1081349 allowed := by exact sub_trans (by assumption) (by decide)) :
    Keeps allowed s0 (State.request s n kind ring handle rkey len) := by
  unfold State.request
  with_reducible repeat' first
    | (intro _) | assumption | exact sub_trans hm (by decide) | apply Keeps.pump | apply Keeps.setQp | apply Keeps.ite
    | refine Keeps.foldl ?_ ?_ _ | split | dsimp only
    | (apply Keeps.upd (k := 1081349) <;> first | with_unfolding_all rfl | skip)

theorem netSend {allowed : Nat} {s0 s : State} (h : Keeps allowed s0 s) (n : Nat) (kind : PeerKind) (len : Nat)
    (hm : sub 1081349 allowed := by exact sub_trans (by assumption) (by decide)) :
    Keeps allowed s0 (State.netSend s n kind len) := by
  unfold State.netSend
  with_reducible repeat' first
    | (intro _) | assumption | exact sub_trans hm (by decide) | apply Keeps.request | apply Keeps.ite
    | refine Keeps.foldl ?_ ?_ _ | split | dsimp only
    | (apply Keeps.upd (k := 1081349) <;> first | with_unfolding_all rfl | skip)

theorem sendMirror {allowed : Nat} {s0 s : State} (h : Keeps allowed s0 s) (m : MirrorMsg) (lines : Nat)
    (hm : sub 1083397 allowed := by exact sub_trans (by assumption) (by decide)) :
    Keeps allowed s0 (State.sendMirror s m lines) := by
  unfold State.sendMirror
  with_reducible repeat' first
    | (intro _) | assumption | exact sub_trans hm (by decide) | apply Keeps.netSend | apply Keeps.ite
    | refine Keeps.foldl ?_ ?_ _ | split | dsimp only
    | (apply Keeps.upd (k := 1083397) <;> first | with_unfolding_all rfl | skip)

theorem ringsOfQp {allowed : Nat} {s0 s : State} (h : Keeps allowed s0 s) (n : Nat)
    (hm : sub 5 allowed := by exact sub_trans (by assumption) (by decide)) :
    Keeps allowed s0 (State.ringsOfQp s n) := by
  unfold State.ringsOfQp
  with_reducible repeat' first
    | (intro _) | assumption | exact sub_trans hm (by decide) | apply Keeps.set | apply Keeps.haltRing | apply Keeps.ite
    | refine Keeps.foldl ?_ ?_ _ | split | dsimp only | (apply Keeps.upd (k := 5) <;> first | with_unfolding_all rfl | skip)

theorem mirrorDown {allowed : Nat} {s0 s : State} (h : Keeps allowed s0 s) (n : Nat)
    (hm : sub 5 allowed := by exact sub_trans (by assumption) (by decide)) :
    Keeps allowed s0 (State.mirrorDown s n) := by
  unfold State.mirrorDown
  with_reducible repeat' first
    | (intro _) | assumption | exact sub_trans hm (by decide) | apply Keeps.mirrorState | apply Keeps.ite
    | refine Keeps.foldl ?_ ?_ _ | split | dsimp only | (apply Keeps.upd (k := 5) <;> first | with_unfolding_all rfl | skip)

theorem qpError {allowed : Nat} {s0 s : State} (h : Keeps allowed s0 s) (n : Nat) (notStarted : Nat) (started : Nat)
    (hm : sub 1347589 allowed := by exact sub_trans (by assumption) (by decide)) :
    Keeps allowed s0 (State.qpError s n notStarted started) := by
  unfold State.qpError
  with_reducible repeat' first
    | (intro _) | assumption | exact sub_trans hm (by decide) | apply Keeps.finish | apply Keeps.setQp | apply Keeps.showBulk
    | apply Keeps.mirrorDown | apply Keeps.ringsOfQp | apply Keeps.ite | refine Keeps.foldl ?_ ?_ _ | split | dsimp only
    | (apply Keeps.upd (k := 1347589) <;> first | with_unfolding_all rfl | skip)

theorem fatalNak {allowed : Nat} {s0 s : State} (h : Keeps allowed s0 s) (n : Nat) (k : NakKind)
    (hm : sub 1347589 allowed := by exact sub_trans (by assumption) (by decide)) :
    Keeps allowed s0 (State.fatalNak s n k) := by
  unfold State.fatalNak
  with_reducible repeat' first
    | (intro _) | assumption | exact sub_trans hm (by decide) | apply Keeps.raise | apply Keeps.qpError | apply Keeps.ite
    | refine Keeps.foldl ?_ ?_ _ | split | dsimp only
    | (apply Keeps.upd (k := 1347589) <;> first | with_unfolding_all rfl | skip)

theorem sendNak {allowed : Nat} {s0 s : State} (h : Keeps allowed s0 s) (n : Nat) (psn : Nat) (k : NakKind) (addr : Nat) (status : Nat)
    (hm : sub 1347589 allowed := by exact sub_trans (by assumption) (by decide)) :
    Keeps allowed s0 (State.sendNak s n psn k addr status) := by
  unfold State.sendNak
  with_reducible repeat' first
    | (intro _) | assumption | exact sub_trans hm (by decide) | apply Keeps.cNet | apply Keeps.bump | apply Keeps.send
    | apply Keeps.raise | apply Keeps.fatalNak | apply Keeps.ite | refine Keeps.foldl ?_ ?_ _ | split | dsimp only
    | (apply Keeps.upd (k := 1347589) <;> first | with_unfolding_all rfl | skip)

theorem refuseDesc {allowed : Nat} {s0 s : State} (h : Keeps allowed s0 s) (d : Desc) (st : Nat)
    (hm : sub 266245 allowed := by exact sub_trans (by assumption) (by decide)) :
    Keeps allowed s0 (State.refuseDesc s d st) := by
  unfold State.refuseDesc
  with_reducible repeat' first
    | (intro _) | assumption | exact sub_trans hm (by decide) | apply Keeps.raise | apply Keeps.bump | apply Keeps.finish
    | apply Keeps.ite | refine Keeps.foldl ?_ ?_ _ | split | dsimp only
    | (apply Keeps.upd (k := 266245) <;> first | with_unfolding_all rfl | skip)

theorem holdDesc {allowed : Nat} {s0 s : State} (h : Keeps allowed s0 s) (d : Desc)
    (hm : sub 285061 allowed := by exact sub_trans (by assumption) (by decide)) :
    Keeps allowed s0 (State.holdDesc s d) := by
  unfold State.holdDesc
  with_reducible repeat' first
    | (intro _) | assumption | exact sub_trans hm (by decide) | apply Keeps.finish | apply Keeps.setDesc | apply Keeps.takeSlot
    | apply Keeps.lateAtArm | apply Keeps.ite | refine Keeps.foldl ?_ ?_ _ | split | dsimp only
    | (apply Keeps.upd (k := 285061) <;> first | with_unfolding_all rfl | skip)

theorem takeGcm {allowed : Nat} {s0 s : State} (h : Keeps allowed s0 s) {d : Desc} {t0 : State} (e : (State.takeGcm s d) = some t0)
    (hm : sub 65536 allowed := by exact sub_trans (by assumption) (by decide)) :
    Keeps allowed s0 t0 := by
  unfold State.takeGcm at e
  try dsimp only at e
  repeat' split at e
  all_goals first | contradiction | (injection e with e; subst e)
  all_goals with_reducible repeat' first
    | (intro _) | assumption | exact sub_trans hm (by decide) | apply Keeps.ite | refine Keeps.foldl ?_ ?_ _ | split
    | dsimp only | (apply Keeps.upd (k := 65536) <;> first | with_unfolding_all rfl | skip)

theorem admitDesc {allowed : Nat} {s0 s : State} (h : Keeps allowed s0 s) (d : Desc)
    (hm : sub 350597 allowed := by exact sub_trans (by assumption) (by decide)) :
    Keeps allowed s0 (State.admitDesc s d) := by
  unfold State.admitDesc
  with_reducible repeat' first
    | (intro _) | assumption | exact sub_trans hm (by decide) | refine Keeps.takeGcm ?_ (e := by assumption)
    | apply Keeps.refuseDesc | apply Keeps.holdDesc | apply Keeps.startReady | apply Keeps.setDesc | apply Keeps.ite
    | refine Keeps.foldl ?_ ?_ _ | split | dsimp only
    | (apply Keeps.upd (k := 350597) <;> first | with_unfolding_all rfl | skip)

theorem notifyRing {allowed : Nat} {s0 s : State} (h : Keeps allowed s0 s) (r : Nat)
    (hm : sub 1445901 allowed := by exact sub_trans (by assumption) (by decide)) :
    Keeps allowed s0 (State.notifyRing s r) := by
  unfold State.notifyRing
  with_reducible repeat' first
    | (intro _) | assumption | exact sub_trans hm (by decide) | apply Keeps.cRing | apply Keeps.msix | apply Keeps.klInterrupt
    | apply Keeps.ite | refine Keeps.foldl ?_ ?_ _ | split | dsimp only
    | (apply Keeps.upd (k := 1445901) <;> first | with_unfolding_all rfl | skip)

theorem entryVisible {allowed : Nat} {s0 s : State} (h : Keeps allowed s0 s) (r : Nat) (now : Bool)
    (hm : sub 1445901 allowed := by exact sub_trans (by assumption) (by decide)) :
    Keeps allowed s0 (State.entryVisible s r now) := by
  unfold State.entryVisible
  with_reducible repeat' first
    | (intro _) | assumption | exact sub_trans hm (by decide) | apply Keeps.notifyRing | apply Keeps.ite
    | refine Keeps.foldl ?_ ?_ _ | split | dsimp only
    | (apply Keeps.upd (k := 1445901) <;> first | with_unfolding_all rfl | skip)

theorem writeEntry {allowed : Nat} {s0 s : State} (h : Keeps allowed s0 s) (r : Nat) (b : List Byte) (now : Bool)
    (hm : sub 1498621 allowed := by exact sub_trans (by assumption) (by decide)) :
    Keeps allowed s0 (State.writeEntry s r b now) := by
  unfold State.writeEntry
  with_reducible repeat' first
    | (intro _) | assumption | exact sub_trans hm (by decide) | apply Keeps.netSend | apply Keeps.storeRegion | apply Keeps.put
    | apply Keeps.set | apply Keeps.entryVisible | apply Keeps.ite | refine Keeps.foldl ?_ ?_ _ | split | dsimp only
    | (apply Keeps.upd (k := 1498621) <;> first | with_unfolding_all rfl | skip)

theorem copyRange {allowed : Nat} {s0 s : State} (h : Keeps allowed s0 s) (src : WinSrc) (dom stamp a b : Nat) (poison : Nat → Bool) (n o : Nat)
    (l : List Byte) (bad : Option Nat)
    (hm : sub 1461757 allowed := by exact sub_trans (by assumption) (by decide)) : Keeps allowed s0 (State.copyRange src dom stamp a b poison n o l bad s).1 := by
  induction n generalizing s o l bad with
  | zero => exact h
  | succ n ih =>
    unfold State.copyRange
    split
    · exact h
    · dsimp only
      split
      · split
        · exact ih (h.windowWrite _) _ _ _
        · exact ih h _ _ _
      · exact ih (h.storeRegion _ _ _ _ _) _ _ _

theorem copyRange_eq {allowed : Nat} {s0 s : State} (h : Keeps allowed s0 s) {a0 : WinSrc} {a1 : Nat} {a2 : Nat} {a3 : Nat} {a4 : Nat} {a5 : Nat → Bool} {a6 : Nat} {a7 : Nat} {a8 : List Byte} {a9 : Option Nat} {t0 : State} {x} (e : State.copyRange a0 a1 a2 a3 a4 a5 a6 a7 a8 a9 s = (t0, x))
    (hm : sub 1461757 allowed := by exact sub_trans (by assumption) (by decide)) :
    Keeps allowed s0 t0 := by
  have g := Keeps.copyRange h a0 a1 a2 a3 a4 a5 a6 a7 a8 a9
  rw [e] at g
  exact g

theorem storeLines {allowed : Nat} {s0 s : State} (h : Keeps allowed s0 s) (src : WinSrc) (dom stamp dst o : Nat) (l : List (Line × Bool))
    (bad : Option Nat)
    (hm : sub 1461757 allowed := by exact sub_trans (by assumption) (by decide)) : Keeps allowed s0 (State.storeLines src dom stamp dst o l bad s).1 := by
  induction l generalizing s dst o bad with
  | nil => exact h
  | cons x l ih =>
    unfold State.storeLines
    dsimp only
    split
    · split
      · exact ih (h.windowWrite _) _ _ _
      · exact ih h _ _ _
    · exact ih (h.storeRegion _ _ _ _ _) _ _ _

theorem storeLines_eq {allowed : Nat} {s0 s : State} (h : Keeps allowed s0 s) {a0 : WinSrc} {a1 : Nat} {a2 : Nat} {a3 : Nat} {a4 : Nat} {a5 : List (Line × Bool)} {a6 : Option Nat} {t0 : State} {x} (e : State.storeLines a0 a1 a2 a3 a4 a5 a6 s = (t0, x))
    (hm : sub 1461757 allowed := by exact sub_trans (by assumption) (by decide)) :
    Keeps allowed s0 t0 := by
  have g := Keeps.storeLines h a0 a1 a2 a3 a4 a5 a6
  rw [e] at g
  exact g

theorem startCut {allowed : Nat} {s0 s : State} (h : Keeps allowed s0 s) (d : Desc) (snapshot : Bool)
    (hm : sub 285061 allowed := by exact sub_trans (by assumption) (by decide)) :
    Keeps allowed s0 (State.startCut s d snapshot) := by
  unfold State.startCut
  with_reducible repeat' first
    | (intro _) | assumption | exact sub_trans hm (by decide) | apply Keeps.finish
    | refine Keeps.armCut? ?_ (e := by assumption) | apply Keeps.lateAtArm | apply Keeps.ite | refine Keeps.foldl ?_ ?_ _
    | split | dsimp only | (apply Keeps.upd (k := 285061) <;> first | with_unfolding_all rfl | skip)

theorem rangeStart {allowed : Nat} {s0 s : State} (h : Keeps allowed s0 s) (issue : RangeIssue) (op : Nat)
    (hm : sub 266277 allowed := by exact sub_trans (by assumption) (by decide)) :
    Keeps allowed s0 (State.rangeStart s issue op) := by
  unfold State.rangeStart
  with_reducible repeat' first
    | (intro _) | assumption | exact sub_trans hm (by decide) | apply Keeps.startRegister | apply Keeps.finish
    | apply Keeps.startRange | apply Keeps.ite | refine Keeps.foldl ?_ ?_ _ | split | dsimp only
    | (apply Keeps.upd (k := 266277) <;> first | with_unfolding_all rfl | skip)

theorem runRingSqTailDoorbell {allowed : Nat} {s0 s : State} (h : Keeps allowed s0 s) (ring : Nat) (dom : Nat) (value : BitVec 16)
    (hm : sub 2097157 allowed := by exact sub_trans (by assumption) (by decide)) :
    KeepsOut allowed s0 (execRingSqTailDoorbell ring dom value s) := by
  unfold execRingSqTailDoorbell
  refine Keeps.next ?_
  with_reducible repeat' first
    | (intro _) | assumption | exact sub_trans hm (by decide) | apply Keeps.refusePage | apply Keeps.ringTail | apply Keeps.ite
    | refine Keeps.foldl ?_ ?_ _ | split | dsimp only
    | (apply Keeps.upd (k := 2097157) <;> first | with_unfolding_all rfl | skip)

theorem runRingCqHeadDoorbell {allowed : Nat} {s0 s : State} (h : Keeps allowed s0 s) (ring : Nat) (dom : Nat) (value : BitVec 16)
    (hm : sub 5 allowed := by exact sub_trans (by assumption) (by decide)) :
    KeepsOut allowed s0 (execRingCqHeadDoorbell ring dom value s) := by
  unfold execRingCqHeadDoorbell
  refine Keeps.next ?_
  with_reducible repeat' first
    | (intro _) | assumption | exact sub_trans hm (by decide) | apply Keeps.refusePage | apply Keeps.ringHead | apply Keeps.ite
    | refine Keeps.foldl ?_ ?_ _ | split | dsimp only | (apply Keeps.upd (k := 5) <;> first | with_unfolding_all rfl | skip)

theorem runRingEnable {allowed : Nat} {s0 s : State} (h : Keeps allowed s0 s) (ring : Nat)
    (hm : sub 69637 allowed := by exact sub_trans (by assumption) (by decide)) :
    KeepsOut allowed s0 (execRingEnable ring s) := by
  unfold execRingEnable
  refine Keeps.next ?_
  with_reducible repeat' first
    | (intro _) | assumption | exact sub_trans hm (by decide) | apply Keeps.enableRing | apply Keeps.ite
    | refine Keeps.foldl ?_ ?_ _ | split | dsimp only | (apply Keeps.upd (k := 69637) <;> first | with_unfolding_all rfl | skip)

theorem runRingDisable {allowed : Nat} {s0 s : State} (h : Keeps allowed s0 s) (ring : Nat)
    (hm : sub 69637 allowed := by exact sub_trans (by assumption) (by decide)) :
    KeepsOut allowed s0 (execRingDisable ring s) := by
  unfold execRingDisable
  refine Keeps.next ?_
  with_reducible repeat' first
    | (intro _) | assumption | exact sub_trans hm (by decide) | apply Keeps.disableRing | apply Keeps.ite
    | refine Keeps.foldl ?_ ?_ _ | split | dsimp only | (apply Keeps.upd (k := 69637) <;> first | with_unfolding_all rfl | skip)

theorem runAbort {allowed : Nat} {s0 s : State} (h : Keeps allowed s0 s) (ring : Nat)
    (hm : sub 1530247 allowed := by exact sub_trans (by assumption) (by decide)) :
    KeepsOut allowed s0 (execAbort ring s) := by
  unfold execAbort
  refine Keeps.next ?_
  with_reducible repeat' first
    | (intro _) | assumption | exact sub_trans hm (by decide) | apply Keeps.abortRing | apply Keeps.ite
    | refine Keeps.foldl ?_ ?_ _ | split | dsimp only
    | (apply Keeps.upd (k := 1530247) <;> first | with_unfolding_all rfl | skip)

theorem runRingBindWrite {allowed : Nat} {s0 s : State} (h : Keeps allowed s0 s) (ring : Nat) (value : BitVec 32)
    (hm : sub 1531391 allowed := by exact sub_trans (by assumption) (by decide)) :
    KeepsOut allowed s0 (execRingBindWrite ring value s) := by
  unfold execRingBindWrite
  refine Keeps.next ?_
  with_reducible repeat' first
    | (intro _) | assumption | exact sub_trans hm (by decide) | apply Keeps.applyBind | apply Keeps.resetRing | apply Keeps.ite
    | refine Keeps.foldl ?_ ?_ _ | split | dsimp only
    | (apply Keeps.upd (k := 1531391) <;> first | with_unfolding_all rfl | skip)

theorem runDescriptorFetch {allowed : Nat} {s0 s : State} (h : Keeps allowed s0 s) (ring : Nat) (count : Nat)
    (hm : sub 4101 allowed := by exact sub_trans (by assumption) (by decide)) :
    KeepsOut allowed s0 (execDescriptorFetch ring count s) := by
  unfold execDescriptorFetch
  refine Keeps.next ?_
  with_reducible repeat' first
    | (intro _) | assumption | exact sub_trans hm (by decide) | apply Keeps.cRing | apply Keeps.showRing | apply Keeps.ite
    | refine Keeps.foldl ?_ ?_ _ | split | dsimp only | (apply Keeps.upd (k := 4101) <;> first | with_unfolding_all rfl | skip)

theorem runDescriptorReadComplete {allowed : Nat} {s0 s : State} (h : Keeps allowed s0 s) (ring : Nat) (words : Option (List (BitVec 64)))
    (hm : sub 1399181 allowed := by exact sub_trans (by assumption) (by decide)) :
    KeepsOut allowed s0 (execDescriptorReadComplete ring words s) := by
  unfold execDescriptorReadComplete
  refine Keeps.next ?_
  with_reducible repeat' first
    | (intro _) | assumption | exact sub_trans hm (by decide) | apply Keeps.ringEmpty | apply Keeps.showRing
    | apply Keeps.snoopData | apply Keeps.haltRing | apply Keeps.set | apply Keeps.admitDesc | apply Keeps.setDesc
    | apply Keeps.ite | refine Keeps.foldl ?_ ?_ _ | split | dsimp only
    | (apply Keeps.upd (k := 1399181) <;> first | with_unfolding_all rfl | skip)

theorem runDescriptorComplete {allowed : Nat} {s0 s : State} (h : Keeps allowed s0 s) (ring : Nat) (handle : Nat) (fails : Bool)
    (hm : sub 1564157 allowed := by exact sub_trans (by assumption) (by decide)) :
    KeepsOut allowed s0 (execDescriptorComplete ring handle fails s) := by
  unfold execDescriptorComplete
  refine Keeps.next ?_
  with_reducible repeat' first
    | (intro _) | assumption | exact sub_trans hm (by decide) | apply Keeps.haltRing | apply Keeps.writeEntry
    | apply Keeps.cRing | apply Keeps.startReady | apply Keeps.dropDesc | apply Keeps.ite | refine Keeps.foldl ?_ ?_ _ | split
    | dsimp only | (apply Keeps.upd (k := 1564157) <;> first | with_unfolding_all rfl | skip)

theorem runRingNop {allowed : Nat} {s0 s : State} (h : Keeps allowed s0 s) (ring : Nat) (handle : Nat)
    (hm : sub 266240 allowed := by exact sub_trans (by assumption) (by decide)) :
    KeepsOut allowed s0 (execRingNop ring handle s) := by
  unfold execRingNop
  refine Keeps.next ?_
  with_reducible repeat' first
    | (intro _) | assumption | exact sub_trans hm (by decide) | apply Keeps.finish | apply Keeps.ite
    | refine Keeps.foldl ?_ ?_ _ | split | dsimp only
    | (apply Keeps.upd (k := 266240) <;> first | with_unfolding_all rfl | skip)

theorem runMove {allowed : Nat} {s0 s : State} (h : Keeps allowed s0 s) (ring : Nat) (handle : Nat) (outside : List (BitVec 8))
    (hm : sub 1465853 allowed := by exact sub_trans (by assumption) (by decide)) :
    KeepsOut allowed s0 (execMove ring handle outside s) := by
  unfold execMove
  refine Keeps.next ?_
  with_reducible repeat' first
    | (intro _) | assumption | exact sub_trans hm (by decide) | apply Keeps.finish | apply Keeps.fetch | apply Keeps.taken
    | apply Keeps.copyRange | refine Keeps.copyRange_eq ?_ (e := by assumption) | apply Keeps.ite | refine Keeps.foldl ?_ ?_ _
    | split | dsimp only | (apply Keeps.upd (k := 1465853) <;> first | with_unfolding_all rfl | skip)

theorem runEpochCut {allowed : Nat} {s0 s : State} (h : Keeps allowed s0 s) (ring : Nat) (handle : Nat)
    (hm : sub 285061 allowed := by exact sub_trans (by assumption) (by decide)) :
    KeepsOut allowed s0 (execEpochCut ring handle s) := by
  unfold execEpochCut
  refine Keeps.next ?_
  with_reducible repeat' first
    | (intro _) | assumption | exact sub_trans hm (by decide) | apply Keeps.startCut | apply Keeps.ite
    | refine Keeps.foldl ?_ ?_ _ | split | dsimp only
    | (apply Keeps.upd (k := 285061) <;> first | with_unfolding_all rfl | skip)

theorem runSnapshotCut {allowed : Nat} {s0 s : State} (h : Keeps allowed s0 s) (ring : Nat) (handle : Nat)
    (hm : sub 285061 allowed := by exact sub_trans (by assumption) (by decide)) :
    KeepsOut allowed s0 (execSnapshotCut ring handle s) := by
  unfold execSnapshotCut
  refine Keeps.next ?_
  with_reducible repeat' first
    | (intro _) | assumption | exact sub_trans hm (by decide) | apply Keeps.startCut | apply Keeps.ite
    | refine Keeps.foldl ?_ ?_ _ | split | dsimp only
    | (apply Keeps.upd (k := 285061) <;> first | with_unfolding_all rfl | skip)

theorem runSnapshotDelete {allowed : Nat} {s0 s : State} (h : Keeps allowed s0 s) (ring : Nat) (handle : Nat)
    (hm : sub 268677 allowed := by exact sub_trans (by assumption) (by decide)) :
    KeepsOut allowed s0 (execSnapshotDelete ring handle s) := by
  unfold execSnapshotDelete
  refine Keeps.next ?_
  with_reducible repeat' first
    | (intro _) | assumption | exact sub_trans hm (by decide) | apply Keeps.finish | apply Keeps.journal | apply Keeps.ite
    | refine Keeps.foldl ?_ ?_ _ | split | dsimp only
    | (apply Keeps.upd (k := 268677) <;> first | with_unfolding_all rfl | skip)

theorem runSnapshotRead {allowed : Nat} {s0 s : State} (h : Keeps allowed s0 s) (ring : Nat) (handle : Nat)
    (hm : sub 1465853 allowed := by exact sub_trans (by assumption) (by decide)) :
    KeepsOut allowed s0 (execSnapshotRead ring handle s) := by
  unfold execSnapshotRead
  refine Keeps.next ?_
  with_reducible repeat' first
    | (intro _) | assumption | exact sub_trans hm (by decide) | apply Keeps.finish | apply Keeps.snoopData
    | apply Keeps.storeLines | refine Keeps.storeLines_eq ?_ (e := by assumption) | apply Keeps.ite | refine Keeps.foldl ?_ ?_ _
    | split | dsimp only | (apply Keeps.upd (k := 1465853) <;> first | with_unfolding_all rfl | skip)

theorem runAdminShutdown {allowed : Nat} {s0 s : State} (h : Keeps allowed s0 s) (ring : Nat) (handle : Nat)
    (hm : sub 526341 allowed := by exact sub_trans (by assumption) (by decide)) :
    KeepsOut allowed s0 (execAdminShutdown ring handle s) := by
  unfold execAdminShutdown
  refine Keeps.next ?_
  with_reducible repeat' first
    | (intro _) | assumption | exact sub_trans hm (by decide) | apply Keeps.startFlush | apply Keeps.ite
    | refine Keeps.foldl ?_ ?_ _ | split | dsimp only
    | (apply Keeps.upd (k := 526341) <;> first | with_unfolding_all rfl | skip)

theorem runAdminCheckpoint {allowed : Nat} {s0 s : State} (h : Keeps allowed s0 s) (ring : Nat) (handle : Nat)
    (hm : sub 2437 allowed := by exact sub_trans (by assumption) (by decide)) :
    KeepsOut allowed s0 (execAdminCheckpoint ring handle s) := by
  unfold execAdminCheckpoint
  refine Keeps.next ?_
  with_reducible repeat' first
    | (intro _) | assumption | exact sub_trans hm (by decide) | apply Keeps.tryCkpt | apply Keeps.ite
    | refine Keeps.foldl ?_ ?_ _ | split | dsimp only | (apply Keeps.upd (k := 2437) <;> first | with_unfolding_all rfl | skip)

theorem runClean {allowed : Nat} {s0 s : State} (h : Keeps allowed s0 s) (issue : RangeIssue)
    (hm : sub 266277 allowed := by exact sub_trans (by assumption) (by decide)) :
    KeepsOut allowed s0 (execClean issue s) := by
  unfold execClean
  refine Keeps.next ?_
  with_reducible repeat' first
    | (intro _) | assumption | exact sub_trans hm (by decide) | apply Keeps.rangeStart | apply Keeps.ite
    | refine Keeps.foldl ?_ ?_ _ | split | dsimp only
    | (apply Keeps.upd (k := 266277) <;> first | with_unfolding_all rfl | skip)

theorem runInvalidate {allowed : Nat} {s0 s : State} (h : Keeps allowed s0 s) (issue : RangeIssue)
    (hm : sub 266277 allowed := by exact sub_trans (by assumption) (by decide)) :
    KeepsOut allowed s0 (execInvalidate issue s) := by
  unfold execInvalidate
  refine Keeps.next ?_
  with_reducible repeat' first
    | (intro _) | assumption | exact sub_trans hm (by decide) | apply Keeps.rangeStart | apply Keeps.ite
    | refine Keeps.foldl ?_ ?_ _ | split | dsimp only
    | (apply Keeps.upd (k := 266277) <;> first | with_unfolding_all rfl | skip)

theorem runPrefetch {allowed : Nat} {s0 s : State} (h : Keeps allowed s0 s) (issue : RangeIssue)
    (hm : sub 266277 allowed := by exact sub_trans (by assumption) (by decide)) :
    KeepsOut allowed s0 (execPrefetch issue s) := by
  unfold execPrefetch
  refine Keeps.next ?_
  with_reducible repeat' first
    | (intro _) | assumption | exact sub_trans hm (by decide) | apply Keeps.rangeStart | apply Keeps.ite
    | refine Keeps.foldl ?_ ?_ _ | split | dsimp only
    | (apply Keeps.upd (k := 266277) <;> first | with_unfolding_all rfl | skip)

theorem runLockRange {allowed : Nat} {s0 s : State} (h : Keeps allowed s0 s) (issue : RangeIssue)
    (hm : sub 266277 allowed := by exact sub_trans (by assumption) (by decide)) :
    KeepsOut allowed s0 (execLockRange issue s) := by
  unfold execLockRange
  refine Keeps.next ?_
  with_reducible repeat' first
    | (intro _) | assumption | exact sub_trans hm (by decide) | apply Keeps.rangeStart | apply Keeps.ite
    | refine Keeps.foldl ?_ ?_ _ | split | dsimp only
    | (apply Keeps.upd (k := 266277) <;> first | with_unfolding_all rfl | skip)

theorem runUnlock {allowed : Nat} {s0 s : State} (h : Keeps allowed s0 s) (issue : RangeIssue)
    (hm : sub 266277 allowed := by exact sub_trans (by assumption) (by decide)) :
    KeepsOut allowed s0 (execUnlock issue s) := by
  unfold execUnlock
  refine Keeps.next ?_
  with_reducible repeat' first
    | (intro _) | assumption | exact sub_trans hm (by decide) | apply Keeps.rangeStart | apply Keeps.ite
    | refine Keeps.foldl ?_ ?_ _ | split | dsimp only
    | (apply Keeps.upd (k := 266277) <;> first | with_unfolding_all rfl | skip)

theorem runInvalidateall {allowed : Nat} {s0 s : State} (h : Keeps allowed s0 s) (issue : RangeIssue)
    (hm : sub 266277 allowed := by exact sub_trans (by assumption) (by decide)) :
    KeepsOut allowed s0 (execInvalidateall issue s) := by
  unfold execInvalidateall
  refine Keeps.next ?_
  with_reducible repeat' first
    | (intro _) | assumption | exact sub_trans hm (by decide) | apply Keeps.rangeStart | apply Keeps.ite
    | refine Keeps.foldl ?_ ?_ _ | split | dsimp only
    | (apply Keeps.upd (k := 266277) <;> first | with_unfolding_all rfl | skip)

theorem runProgressRecord {allowed : Nat} {s0 s : State} (h : Keeps allowed s0 s) (ring : Nat) (handle : Nat) (permille : Nat) (position : Nat)
    (hm : sub 1498621 allowed := by exact sub_trans (by assumption) (by decide)) :
    KeepsOut allowed s0 (execProgressRecord ring handle permille position s) := by
  unfold execProgressRecord
  refine Keeps.next ?_
  with_reducible repeat' first
    | (intro _) | assumption | exact sub_trans hm (by decide) | apply Keeps.setDesc | apply Keeps.bump | apply Keeps.writeEntry
    | apply Keeps.ite | refine Keeps.foldl ?_ ?_ _ | split | dsimp only
    | (apply Keeps.upd (k := 1498621) <;> first | with_unfolding_all rfl | skip)

theorem runNotificationCoalesceTimer {allowed : Nat} {s0 s : State} (h : Keeps allowed s0 s) (ring : Nat)
    (hm : sub 1445901 allowed := by exact sub_trans (by assumption) (by decide)) :
    KeepsOut allowed s0 (execNotificationCoalesceTimer ring s) := by
  unfold execNotificationCoalesceTimer
  refine Keeps.next ?_
  with_reducible repeat' first
    | (intro _) | assumption | exact sub_trans hm (by decide) | apply Keeps.notifyRing | apply Keeps.ite
    | refine Keeps.foldl ?_ ?_ _ | split | dsimp only
    | (apply Keeps.upd (k := 1445901) <;> first | with_unfolding_all rfl | skip)

theorem refuseRemote {allowed : Nat} {s0 s : State} (h : Keeps allowed s0 s) (r : Nat) (st : Nat)
    (hm : sub 1081349 allowed := by exact sub_trans (by assumption) (by decide)) :
    Keeps allowed s0 (State.refuseRemote s r st) := by
  unfold State.refuseRemote
  with_reducible repeat' first
    | (intro _) | assumption | exact sub_trans hm (by decide) | apply Keeps.netSend | apply Keeps.raise | apply Keeps.ite
    | refine Keeps.foldl ?_ ?_ _ | split | dsimp only
    | (apply Keeps.upd (k := 1081349) <;> first | with_unfolding_all rfl | skip)

theorem placeDescs {allowed : Nat} {s0 s : State} (h : Keeps allowed s0 s) (r n : Nat) (b : List Byte)
    (hm : sub 1461757 allowed := by exact sub_trans (by assumption) (by decide)) : Keeps allowed s0 (State.placeDescs s r n b) := by
  induction n generalizing s b with
  | zero => exact h
  | succ n ih =>
    unfold State.placeDescs
    exact ih (((h.storeRegion _ _ _ _ _).set _ _).set _ _) _

theorem runRemoteSubmission {allowed : Nat} {s0 s : State} (h : Keeps allowed s0 s) (ring : Nat)
    (hm : sub 1498621 allowed := by exact sub_trans (by assumption) (by decide)) :
    KeepsOut allowed s0 (execRemoteSubmission ring s) := by
  unfold execRemoteSubmission
  refine Keeps.next ?_
  with_reducible repeat' first
    | (intro _) | assumption | exact sub_trans hm (by decide) | apply Keeps.popQueue | apply Keeps.refuseRemote
    | apply Keeps.placeDescs | apply Keeps.ite | refine Keeps.foldl ?_ ?_ _ | split | dsimp only
    | (apply Keeps.upd (k := 1498621) <;> first | with_unfolding_all rfl | skip)

theorem flushBulk {allowed : Nat} {s0 s : State} (h : Keeps allowed s0 s) (p : Nat)
    (hm : sub 1081345 allowed := by exact sub_trans (by assumption) (by decide)) :
    Keeps allowed s0 (State.flushBulk s p) := by
  unfold State.flushBulk
  with_reducible repeat' first
    | (intro _) | assumption | exact sub_trans hm (by decide) | apply Keeps.showBulk | apply Keeps.ite
    | refine Keeps.foldl ?_ ?_ _ | split | dsimp only
    | (apply Keeps.upd (k := 1081345) <;> first | with_unfolding_all rfl | skip)

theorem runQFlush {allowed : Nat} {s0 s : State} (h : Keeps allowed s0 s) (queue : Nat)
    (hm : sub 1498621 allowed := by exact sub_trans (by assumption) (by decide)) :
    KeepsOut allowed s0 (execQFlush queue s) := by
  unfold execQFlush
  refine Keeps.next ?_
  with_reducible repeat' first
    | (intro _) | assumption | exact sub_trans hm (by decide) | apply Keeps.flushBulk | apply Keeps.setQueue
    | apply Keeps.endKernel | apply Keeps.raise | apply Keeps.bump | apply Keeps.put | apply Keeps.ite
    | refine Keeps.foldl ?_ ?_ _ | split | dsimp only
    | (apply Keeps.upd (k := 1498621) <;> first | with_unfolding_all rfl | skip)

theorem runSpillQuotaWrite {allowed : Nat} {s0 s : State} (h : Keeps allowed s0 s) (queue : Nat) (quotaMiB : Nat)
    (hm : sub 5 allowed := by exact sub_trans (by assumption) (by decide)) :
    KeepsOut allowed s0 (execSpillQuotaWrite queue quotaMiB s) := by
  unfold execSpillQuotaWrite
  refine Keeps.next ?_
  with_reducible repeat' first
    | (intro _) | assumption | exact sub_trans hm (by decide) | apply Keeps.raise | apply Keeps.set | apply Keeps.ite
    | refine Keeps.foldl ?_ ?_ _ | split | dsimp only | (apply Keeps.upd (k := 5) <;> first | with_unfolding_all rfl | skip)

end Keeps

end Sys2Proof.Machine
end

