-- ==== Sys2Proof/Laws/KeepsNet.lean ====
section
/-!
SUPPORT. Every operation keeps what `Keeps` says: the network, the mirror, the cipher and Privet.  One lemma per operation, named after it; `run<X>` is the lemma of
the meaning `exec<X>`.
-/
set_option Elab.async false
set_option linter.unusedTactic false
set_option linter.unreachableTactic false

namespace Sys2Proof.Machine
namespace Keeps

theorem refuseCommit {allowed : Nat} {s0 s : State} (h : Keeps allowed s0 s) (reg : Nat) (index : Nat) (cause : Nat)
    (hm : sub 4 allowed := by exact sub_trans (by assumption) (by decide)) :
    Keeps allowed s0 (State.refuseCommit s reg index cause) := by
  unfold State.refuseCommit
  with_reducible repeat' first
    | (intro _) | assumption | exact sub_trans hm (by decide) | apply Keeps.raise | apply Keeps.ite | refine Keeps.foldl ?_ ?_ _
    | split | dsimp only | (apply Keeps.upd (k := 4) <;> first | with_unfolding_all rfl | skip)

theorem putQp {allowed : Nat} {s0 s : State} (h : Keeps allowed s0 s) (n : Nat) (v : Word)
    (hm : sub 32768 allowed := by exact sub_trans (by assumption) (by decide)) :
    Keeps allowed s0 (State.putQp s n v) := by
  unfold State.putQp
  with_reducible repeat' first
    | (intro _) | assumption | exact sub_trans hm (by decide) | apply Keeps.ite | refine Keeps.foldl ?_ ?_ _ | split
    | dsimp only | (apply Keeps.upd (k := 32768) <;> first | with_unfolding_all rfl | skip)

theorem runNetQpCtx0Commit {allowed : Nat} {s0 s : State} (h : Keeps allowed s0 s) (qp : Nat) (value : BitVec 64)
    (hm : sub 1415557 allowed := by exact sub_trans (by assumption) (by decide)) :
    KeepsOut allowed s0 (execNetQpCtx0Commit qp value s) := by
  unfold execNetQpCtx0Commit
  refine Keeps.next ?_
  with_reducible repeat' first
    | (intro _) | assumption | exact sub_trans hm (by decide) | apply Keeps.refuseCommit | apply Keeps.qpError
    | apply Keeps.touchKey | apply Keeps.putQp | apply Keeps.mirrorResync | apply Keeps.sendMirror | apply Keeps.ite
    | refine Keeps.foldl ?_ ?_ _ | split | dsimp only
    | (apply Keeps.upd (k := 1415557) <;> first | with_unfolding_all rfl | skip)

theorem runNetMrCtlCommit {allowed : Nat} {s0 s : State} (h : Keeps allowed s0 s) (region : Nat) (value : BitVec 32)
    (hm : sub 32772 allowed := by exact sub_trans (by assumption) (by decide)) :
    KeepsOut allowed s0 (execNetMrCtlCommit region value s) := by
  unfold execNetMrCtlCommit
  refine Keeps.next ?_
  with_reducible repeat' first
    | (intro _) | assumption | exact sub_trans hm (by decide) | apply Keeps.refuseCommit | apply Keeps.ite
    | refine Keeps.foldl ?_ ?_ _ | split | dsimp only | (apply Keeps.upd (k := 32772) <;> first | with_unfolding_all rfl | skip)

theorem runNetGidCtlCommit {allowed : Nat} {s0 s : State} (h : Keeps allowed s0 s) (index : Nat) (value : BitVec 32)
    (hm : sub 32772 allowed := by exact sub_trans (by assumption) (by decide)) :
    KeepsOut allowed s0 (execNetGidCtlCommit index value s) := by
  unfold execNetGidCtlCommit
  refine Keeps.next ?_
  with_reducible repeat' first
    | (intro _) | assumption | exact sub_trans hm (by decide) | apply Keeps.refuseCommit | apply Keeps.ite
    | refine Keeps.foldl ?_ ?_ _ | split | dsimp only | (apply Keeps.upd (k := 32772) <;> first | with_unfolding_all rfl | skip)

theorem congestion {allowed : Nat} {s0 s : State} (h : Keeps allowed s0 s) (p : Nat) (q : Qp)
    (hm : sub 1081348 allowed := by exact sub_trans (by assumption) (by decide)) :
    Keeps allowed s0 (State.congestion s p q) := by
  unfold State.congestion
  with_reducible repeat' first
    | (intro _) | assumption | exact sub_trans hm (by decide) | apply Keeps.cNet | apply Keeps.send | apply Keeps.setQp
    | apply Keeps.ite | refine Keeps.foldl ?_ ?_ _ | split | dsimp only
    | (apply Keeps.upd (k := 1081348) <;> first | with_unfolding_all rfl | skip)

theorem roceFrame {allowed : Nat} {s0 s : State} (h : Keeps allowed s0 s) (p : Nat) (qpn : Nat) (psn : Nat) (sound : Bool) (supported : Bool) (congested : Bool)
    (hm : sub 1347589 allowed := by exact sub_trans (by assumption) (by decide)) :
    Keeps allowed s0 (State.roceFrame s p qpn psn sound supported congested) := by
  unfold State.roceFrame
  with_reducible repeat' first
    | (intro _) | assumption | exact sub_trans hm (by decide) | apply Keeps.raise | apply Keeps.congestion | apply Keeps.sendNak
    | apply Keeps.ite | refine Keeps.foldl ?_ ?_ _ | split | dsimp only
    | (apply Keeps.upd (k := 1347589) <;> first | with_unfolding_all rfl | skip)

theorem runEthFrameReceive {allowed : Nat} {s0 s : State} (h : Keeps allowed s0 s) (port : Nat) (bytes : Nat) (mac : BitVec 48) (fcsGood : Bool) (frame : Frame)
    (hm : sub 1347589 allowed := by exact sub_trans (by assumption) (by decide)) :
    KeepsOut allowed s0 (execEthFrameReceive port bytes mac fcsGood frame s) := by
  unfold execEthFrameReceive
  refine Keeps.next ?_
  with_reducible repeat' first
    | (intro _) | assumption | exact sub_trans hm (by decide) | apply Keeps.bump | apply Keeps.traffic | apply Keeps.cNet
    | apply Keeps.roceFrame | apply Keeps.send | apply Keeps.set | apply Keeps.ite | refine Keeps.foldl ?_ ?_ _ | split
    | dsimp only | (apply Keeps.upd (k := 1347589) <;> first | with_unfolding_all rfl | skip)

theorem expectPsn {allowed : Nat} {s0 s : State} (h : Keeps allowed s0 s) (q : Qp) (p : Nat)
    (hm : sub 32768 allowed := by exact sub_trans (by assumption) (by decide)) :
    Keeps allowed s0 (State.expectPsn s q p) := by
  unfold State.expectPsn
  with_reducible repeat' first
    | (intro _) | assumption | exact sub_trans hm (by decide) | apply Keeps.setQp | apply Keeps.ite | refine Keeps.foldl ?_ ?_ _
    | split | dsimp only | (apply Keeps.upd (k := 32768) <;> first | with_unfolding_all rfl | skip)

theorem onPsn {allowed : Nat} {s0 s : State} (h : Keeps allowed s0 s) (q : Qp) (psn : Nat) (fresh : State → State) (hfresh : ∀ t, Keeps allowed s0 t → Keeps allowed s0 (fresh t)) (duplicate : State → State) (hduplicate : ∀ t, Keeps allowed s0 t → Keeps allowed s0 (duplicate t))
    (hm : sub 1347589 allowed := by exact sub_trans (by assumption) (by decide)) :
    Keeps allowed s0 (State.onPsn s q psn fresh duplicate) := by
  unfold State.onPsn
  with_reducible repeat' first
    | (intro _) | assumption | exact sub_trans hm (by decide) | apply hfresh | apply hduplicate | apply Keeps.sendNak
    | apply Keeps.ite | refine Keeps.foldl ?_ ?_ _ | split | dsimp only
    | (apply Keeps.upd (k := 1347589) <;> first | with_unfolding_all rfl | skip)

theorem performWrite {allowed : Nat} {s0 s : State} (h : Keeps allowed s0 s) (q : Qp) (psn : Nat) (m : Inbound)
    (hm : sub 1461757 allowed := by exact sub_trans (by assumption) (by decide)) :
    Keeps allowed s0 (State.performWrite s q psn m) := by
  unfold State.performWrite
  with_reducible repeat' first
    | (intro _) | assumption | exact sub_trans hm (by decide) | apply Keeps.storeRegion | apply Keeps.ite
    | refine Keeps.foldl ?_ ?_ _ | split | dsimp only
    | (apply Keeps.upd (k := 1461757) <;> first | with_unfolding_all rfl | skip)

theorem writePacket {allowed : Nat} {s0 s : State} (h : Keeps allowed s0 s) (q : Qp) (psn : Nat) (m : Inbound) (b : List Byte) (last : Bool) (again : Bool)
    (hm : sub 1498621 allowed := by exact sub_trans (by assumption) (by decide)) :
    Keeps allowed s0 (State.writePacket s q psn m b last again) := by
  unfold State.writePacket
  with_reducible repeat' first
    | (intro _) | assumption | exact sub_trans hm (by decide) | apply Keeps.setQp | apply Keeps.sendNak
    | apply Keeps.performWrite | apply Keeps.showBulk | apply Keeps.ite | refine Keeps.foldl ?_ ?_ _ | split | dsimp only
    | (apply Keeps.upd (k := 1498621) <;> first | with_unfolding_all rfl | skip)

theorem takeWrite {allowed : Nat} {s0 s : State} (h : Keeps allowed s0 s) (q : Qp) (psn : Nat) (first : Bool) (last : Bool) (addr : Nat) (rkey : Nat) (len : Nat) (b : List Byte) (again : Bool)
    (hm : sub 1498621 allowed := by exact sub_trans (by assumption) (by decide)) :
    Keeps allowed s0 (State.takeWrite s q psn first last addr rkey len b again) := by
  unfold State.takeWrite
  with_reducible repeat' first
    | (intro _) | assumption | exact sub_trans hm (by decide) | apply Keeps.sendNak | apply Keeps.writePacket | apply Keeps.ite
    | refine Keeps.foldl ?_ ?_ _ | split | dsimp only
    | (apply Keeps.upd (k := 1498621) <;> first | with_unfolding_all rfl | skip)

theorem runSend {allowed : Nat} {s0 s : State} (h : Keeps allowed s0 s) (qp : Nat) (psn : Nat) (first : Bool) (last : Bool) (bytes : List (BitVec 8))
    (hm : sub 1347589 allowed := by exact sub_trans (by assumption) (by decide)) :
    KeepsOut allowed s0 (execSend qp psn first last bytes s) := by
  unfold execSend
  refine Keeps.next ?_
  with_reducible repeat' first
    | (intro _) | assumption | exact sub_trans hm (by decide) | apply Keeps.onPsn | apply Keeps.sendNak | apply Keeps.setQp
    | refine Keeps.pushQueue? ?_ (e := by assumption) | apply Keeps.dropQueue | apply Keeps.send | apply Keeps.ite
    | refine Keeps.foldl ?_ ?_ _ | split | dsimp only
    | (apply Keeps.upd (k := 1347589) <;> first | with_unfolding_all rfl | skip)

theorem runRdmaWrite {allowed : Nat} {s0 s : State} (h : Keeps allowed s0 s) (qp : Nat) (psn : Nat) (first : Bool) (last : Bool) (addr : Nat) (rkey : Nat) (len : Nat) (bytes : List (BitVec 8))
    (hm : sub 1498621 allowed := by exact sub_trans (by assumption) (by decide)) :
    KeepsOut allowed s0 (execRdmaWrite qp psn first last addr rkey len bytes s) := by
  unfold execRdmaWrite
  refine Keeps.next ?_
  with_reducible repeat' first
    | (intro _) | assumption | exact sub_trans hm (by decide) | apply Keeps.onPsn | apply Keeps.takeWrite | apply Keeps.ite
    | refine Keeps.foldl ?_ ?_ _ | split | dsimp only
    | (apply Keeps.upd (k := 1498621) <;> first | with_unfolding_all rfl | skip)

theorem runRdmaWriteAckSend {allowed : Nat} {s0 s : State} (h : Keeps allowed s0 s) (qp : Nat)
    (hm : sub 1081344 allowed := by exact sub_trans (by assumption) (by decide)) :
    KeepsOut allowed s0 (execRdmaWriteAckSend qp s) := by
  unfold execRdmaWriteAckSend
  refine Keeps.next ?_
  with_reducible repeat' first
    | (intro _) | assumption | exact sub_trans hm (by decide) | apply Keeps.setQp | apply Keeps.send | apply Keeps.ite
    | refine Keeps.foldl ?_ ?_ _ | split | dsimp only
    | (apply Keeps.upd (k := 1081344) <;> first | with_unfolding_all rfl | skip)

theorem runRdmaRead {allowed : Nat} {s0 s : State} (h : Keeps allowed s0 s) (qp : Nat) (psn : Nat) (addr : Nat) (rkey : Nat) (len : Nat)
    (hm : sub 1347589 allowed := by exact sub_trans (by assumption) (by decide)) :
    KeepsOut allowed s0 (execRdmaRead qp psn addr rkey len s) := by
  unfold execRdmaRead
  refine Keeps.next ?_
  with_reducible repeat' first
    | (intro _) | assumption | exact sub_trans hm (by decide) | apply Keeps.sendNak | apply Keeps.setQp | apply Keeps.onPsn
    | apply Keeps.ite | refine Keeps.foldl ?_ ?_ _ | split | dsimp only
    | (apply Keeps.upd (k := 1347589) <;> first | with_unfolding_all rfl | skip)

theorem runReadResponseSend {allowed : Nat} {s0 s : State} (h : Keeps allowed s0 s) (qp : Nat)
    (hm : sub 1347597 allowed := by exact sub_trans (by assumption) (by decide)) :
    KeepsOut allowed s0 (execReadResponseSend qp s) := by
  unfold execReadResponseSend
  refine Keeps.next ?_
  with_reducible repeat' first
    | (intro _) | assumption | exact sub_trans hm (by decide) | apply Keeps.snoopData | apply Keeps.sendNak | apply Keeps.send
    | apply Keeps.setQp | apply Keeps.ite | refine Keeps.foldl ?_ ?_ _ | split | dsimp only
    | (apply Keeps.upd (k := 1347597) <;> first | with_unfolding_all rfl | skip)

theorem peerAtomic {allowed : Nat} {s0 s : State} (h : Keeps allowed s0 s) (op : Nat) (qp : Nat) (psn : Nat) (addr : Nat) (rkey : Nat) (a : Word) (b : Word)
    (hm : sub 1498621 allowed := by exact sub_trans (by assumption) (by decide)) :
    Keeps allowed s0 (State.peerAtomic s op qp psn addr rkey a b) := by
  unfold State.peerAtomic
  with_reducible repeat' first
    | (intro _) | assumption | exact sub_trans hm (by decide) | apply Keeps.onPsn | apply Keeps.sendNak | apply Keeps.park
    | apply Keeps.snoopData | apply Keeps.setQp | apply Keeps.storeRegion | apply Keeps.send | apply Keeps.ite
    | refine Keeps.foldl ?_ ?_ _ | split | dsimp only
    | (apply Keeps.upd (k := 1498621) <;> first | with_unfolding_all rfl | skip)

theorem runCompareAndSwap {allowed : Nat} {s0 s : State} (h : Keeps allowed s0 s) (qp : Nat) (psn : Nat) (addr : Nat) (rkey : Nat) (compare : BitVec 64) (swap : BitVec 64)
    (hm : sub 1498621 allowed := by exact sub_trans (by assumption) (by decide)) :
    KeepsOut allowed s0 (execCompareAndSwap qp psn addr rkey compare swap s) := by
  unfold execCompareAndSwap
  refine Keeps.next ?_
  with_reducible repeat' first
    | (intro _) | assumption | exact sub_trans hm (by decide) | apply Keeps.peerAtomic | apply Keeps.ite
    | refine Keeps.foldl ?_ ?_ _ | split | dsimp only
    | (apply Keeps.upd (k := 1498621) <;> first | with_unfolding_all rfl | skip)

theorem runFetchAndAdd {allowed : Nat} {s0 s : State} (h : Keeps allowed s0 s) (qp : Nat) (psn : Nat) (addr : Nat) (rkey : Nat) (add : BitVec 64)
    (hm : sub 1498621 allowed := by exact sub_trans (by assumption) (by decide)) :
    KeepsOut allowed s0 (execFetchAndAdd qp psn addr rkey add s) := by
  unfold execFetchAndAdd
  refine Keeps.next ?_
  with_reducible repeat' first
    | (intro _) | assumption | exact sub_trans hm (by decide) | apply Keeps.peerAtomic | apply Keeps.ite
    | refine Keeps.foldl ?_ ?_ _ | split | dsimp only
    | (apply Keeps.upd (k := 1498621) <;> first | with_unfolding_all rfl | skip)

theorem resend {allowed : Nat} {s0 s : State} (h : Keeps allowed s0 s) (n : Nat) (upTo : Nat)
    (hm : sub 1081349 allowed := by exact sub_trans (by assumption) (by decide)) :
    Keeps allowed s0 (State.resend s n upTo) := by
  unfold State.resend
  with_reducible repeat' first
    | (intro _) | assumption | exact sub_trans hm (by decide) | apply Keeps.transmit | apply Keeps.cNet | apply Keeps.setQp
    | apply Keeps.ite | refine Keeps.foldl ?_ ?_ _ | split | dsimp only
    | (apply Keeps.upd (k := 1081349) <;> first | with_unfolding_all rfl | skip)

theorem exhausted {allowed : Nat} {s0 s : State} (h : Keeps allowed s0 s) (n : Nat)
    (hm : sub 1347589 allowed := by exact sub_trans (by assumption) (by decide)) :
    Keeps allowed s0 (State.exhausted s n) := by
  unfold State.exhausted
  with_reducible repeat' first
    | (intro _) | assumption | exact sub_trans hm (by decide) | apply Keeps.raise | apply Keeps.qpError | apply Keeps.ite
    | refine Keeps.foldl ?_ ?_ _ | split | dsimp only
    | (apply Keeps.upd (k := 1347589) <;> first | with_unfolding_all rfl | skip)

theorem peerDone {allowed : Nat} {s0 s : State} (h : Keeps allowed s0 s) (r : PeerReq)
    (hm : sub 266240 allowed := by exact sub_trans (by assumption) (by decide)) :
    Keeps allowed s0 (State.peerDone s r) := by
  unfold State.peerDone
  with_reducible repeat' first
    | (intro _) | assumption | exact sub_trans hm (by decide) | apply Keeps.partDone | apply Keeps.ite
    | refine Keeps.foldl ?_ ?_ _ | split | dsimp only
    | (apply Keeps.upd (k := 266240) <;> first | with_unfolding_all rfl | skip)

theorem runMovePeerWrite {allowed : Nat} {s0 s : State} (h : Keeps allowed s0 s) (ring : Nat) (handle : Nat) (outside : List (BitVec 8))
    (hm : sub 1478669 allowed := by exact sub_trans (by assumption) (by decide)) :
    KeepsOut allowed s0 (execMovePeerWrite ring handle outside s) := by
  unfold execMovePeerWrite
  refine Keeps.next ?_
  with_reducible repeat' first
    | (intro _) | assumption | exact sub_trans hm (by decide) | apply Keeps.finish | apply Keeps.fetch | apply Keeps.taken
    | apply Keeps.setDesc | apply Keeps.request | apply Keeps.ite | refine Keeps.foldl ?_ ?_ _ | split | dsimp only
    | (apply Keeps.upd (k := 1478669) <;> first | with_unfolding_all rfl | skip)

theorem runMovePeerRead {allowed : Nat} {s0 s : State} (h : Keeps allowed s0 s) (ring : Nat) (handle : Nat)
    (hm : sub 1347589 allowed := by exact sub_trans (by assumption) (by decide)) :
    KeepsOut allowed s0 (execMovePeerRead ring handle s) := by
  unfold execMovePeerRead
  refine Keeps.next ?_
  with_reducible repeat' first
    | (intro _) | assumption | exact sub_trans hm (by decide) | apply Keeps.finish | apply Keeps.setDesc | apply Keeps.request
    | apply Keeps.ite | refine Keeps.foldl ?_ ?_ _ | split | dsimp only
    | (apply Keeps.upd (k := 1347589) <;> first | with_unfolding_all rfl | skip)

theorem runQpRetryTimeout {allowed : Nat} {s0 s : State} (h : Keeps allowed s0 s) (qp : Nat)
    (hm : sub 1347589 allowed := by exact sub_trans (by assumption) (by decide)) :
    KeepsOut allowed s0 (execQpRetryTimeout qp s) := by
  unfold execQpRetryTimeout
  refine Keeps.next ?_
  with_reducible repeat' first
    | (intro _) | assumption | exact sub_trans hm (by decide) | apply Keeps.exhausted | apply Keeps.resend | apply Keeps.setQp
    | apply Keeps.ite | refine Keeps.foldl ?_ ?_ _ | split | dsimp only
    | (apply Keeps.upd (k := 1347589) <;> first | with_unfolding_all rfl | skip)

theorem runAckReceive {allowed : Nat} {s0 s : State} (h : Keeps allowed s0 s) (qp : Nat) (psn : Nat) (bytes : List (BitVec 8))
    (hm : sub 1498621 allowed := by exact sub_trans (by assumption) (by decide)) :
    KeepsOut allowed s0 (execAckReceive qp psn bytes s) := by
  unfold execAckReceive
  refine Keeps.next ?_
  with_reducible repeat' first
    | (intro _) | assumption | exact sub_trans hm (by decide) | apply Keeps.peerDone | apply Keeps.setQp
    | apply Keeps.storeRegion | apply Keeps.pump | apply Keeps.ite | refine Keeps.foldl ?_ ?_ _ | split | dsimp only
    | (apply Keeps.upd (k := 1498621) <;> first | with_unfolding_all rfl | skip)

theorem runNakReceive {allowed : Nat} {s0 s : State} (h : Keeps allowed s0 s) (qp : Nat) (psn : Nat) (kind : NakKind)
    (hm : sub 1347589 allowed := by exact sub_trans (by assumption) (by decide)) :
    KeepsOut allowed s0 (execNakReceive qp psn kind s) := by
  unfold execNakReceive
  refine Keeps.next ?_
  with_reducible repeat' first
    | (intro _) | assumption | exact sub_trans hm (by decide) | apply Keeps.exhausted | apply Keeps.resend | apply Keeps.setQp
    | apply Keeps.fatalNak | apply Keeps.ite | refine Keeps.foldl ?_ ?_ _ | split | dsimp only
    | (apply Keeps.upd (k := 1347589) <;> first | with_unfolding_all rfl | skip)

theorem runPfcPauseReceive {allowed : Nat} {s0 s : State} (h : Keeps allowed s0 s) (port : Nat) (pause : Bool)
    (hm : sub 1081349 allowed := by exact sub_trans (by assumption) (by decide)) :
    KeepsOut allowed s0 (execPfcPauseReceive port pause s) := by
  unfold execPfcPauseReceive
  refine Keeps.next ?_
  with_reducible repeat' first
    | (intro _) | assumption | exact sub_trans hm (by decide) | apply Keeps.put | apply Keeps.setBit | apply Keeps.pump
    | apply Keeps.ite | refine Keeps.foldl ?_ ?_ _ | split | dsimp only
    | (apply Keeps.upd (k := 1081349) <;> first | with_unfolding_all rfl | skip)

theorem runPortPaused100ms {allowed : Nat} {s0 s : State} (h : Keeps allowed s0 s) (port : Nat)
    (hm : sub 32772 allowed := by exact sub_trans (by assumption) (by decide)) :
    KeepsOut allowed s0 (execPortPaused100ms port s) := by
  unfold execPortPaused100ms
  refine Keeps.next ?_
  with_reducible repeat' first
    | (intro _) | assumption | exact sub_trans hm (by decide) | apply Keeps.raise | apply Keeps.ite | refine Keeps.foldl ?_ ?_ _
    | split | dsimp only | (apply Keeps.upd (k := 32772) <;> first | with_unfolding_all rfl | skip)

theorem runCnpReceive {allowed : Nat} {s0 s : State} (h : Keeps allowed s0 s) (qp : Nat)
    (hm : sub 32768 allowed := by exact sub_trans (by assumption) (by decide)) :
    KeepsOut allowed s0 (execCnpReceive qp s) := by
  unfold execCnpReceive
  refine Keeps.next ?_
  with_reducible repeat' first
    | (intro _) | assumption | exact sub_trans hm (by decide) | apply Keeps.setQp | apply Keeps.ite | refine Keeps.foldl ?_ ?_ _
    | split | dsimp only | (apply Keeps.upd (k := 32768) <;> first | with_unfolding_all rfl | skip)

theorem runCcAlphaTimer {allowed : Nat} {s0 s : State} (h : Keeps allowed s0 s) (qp : Nat)
    (hm : sub 32768 allowed := by exact sub_trans (by assumption) (by decide)) :
    KeepsOut allowed s0 (execCcAlphaTimer qp s) := by
  unfold execCcAlphaTimer
  refine Keeps.next ?_
  with_reducible repeat' first
    | (intro _) | assumption | exact sub_trans hm (by decide) | apply Keeps.setQp | apply Keeps.ite | refine Keeps.foldl ?_ ?_ _
    | split | dsimp only | (apply Keeps.upd (k := 32768) <;> first | with_unfolding_all rfl | skip)

theorem runCcIncreaseTimer {allowed : Nat} {s0 s : State} (h : Keeps allowed s0 s) (qp : Nat)
    (hm : sub 32768 allowed := by exact sub_trans (by assumption) (by decide)) :
    KeepsOut allowed s0 (execCcIncreaseTimer qp s) := by
  unfold execCcIncreaseTimer
  refine Keeps.next ?_
  with_reducible repeat' first
    | (intro _) | assumption | exact sub_trans hm (by decide) | apply Keeps.setQp | apply Keeps.ite | refine Keeps.foldl ?_ ?_ _
    | split | dsimp only | (apply Keeps.upd (k := 32768) <;> first | with_unfolding_all rfl | skip)

theorem runPortLinkUp {allowed : Nat} {s0 s : State} (h : Keeps allowed s0 s) (port : Nat)
    (hm : sub 5 allowed := by exact sub_trans (by assumption) (by decide)) :
    KeepsOut allowed s0 (execPortLinkUp port s) := by
  unfold execPortLinkUp
  refine Keeps.next ?_
  with_reducible repeat' first
    | (intro _) | assumption | exact sub_trans hm (by decide) | apply Keeps.setBit | apply Keeps.put | apply Keeps.set
    | apply Keeps.raise | apply Keeps.ite | refine Keeps.foldl ?_ ?_ _ | split | dsimp only
    | (apply Keeps.upd (k := 5) <;> first | with_unfolding_all rfl | skip)

theorem ethDown {allowed : Nat} {s0 s : State} (h : Keeps allowed s0 s) (port : Nat)
    (hm : sub 524293 allowed := by exact sub_trans (by assumption) (by decide)) :
    Keeps allowed s0 (State.ethDown s port) := by
  unfold State.ethDown
  with_reducible repeat' first
    | (intro _) | assumption | exact sub_trans hm (by decide) | apply Keeps.put | apply Keeps.setBit | apply Keeps.unitLost
    | apply Keeps.raise | apply Keeps.bump | apply Keeps.ite | refine Keeps.foldl ?_ ?_ _ | split | dsimp only
    | (apply Keeps.upd (k := 524293) <;> first | with_unfolding_all rfl | skip)

theorem runPortLinkDown {allowed : Nat} {s0 s : State} (h : Keeps allowed s0 s) (port : Nat)
    (hm : sub 524293 allowed := by exact sub_trans (by assumption) (by decide)) :
    KeepsOut allowed s0 (execPortLinkDown port s) := by
  unfold execPortLinkDown
  refine Keeps.next ?_
  with_reducible repeat' first
    | (intro _) | assumption | exact sub_trans hm (by decide) | apply Keeps.ethDown | apply Keeps.ite
    | refine Keeps.foldl ?_ ?_ _ | split | dsimp only
    | (apply Keeps.upd (k := 524293) <;> first | with_unfolding_all rfl | skip)

theorem mirrorBad {allowed : Nat} {s0 s : State} (h : Keeps allowed s0 s) (qp : Nat) (epoch : Nat)
    (hm : sub 6533 allowed := by exact sub_trans (by assumption) (by decide)) :
    Keeps allowed s0 (State.mirrorBad s qp epoch) := by
  unfold State.mirrorBad
  with_reducible repeat' first
    | (intro _) | assumption | exact sub_trans hm (by decide) | apply Keeps.mirrorResync | apply Keeps.raise
    | apply Keeps.popQueue | apply Keeps.ite | refine Keeps.foldl ?_ ?_ _ | split | dsimp only
    | (apply Keeps.upd (k := 6533) <;> first | with_unfolding_all rfl | skip)

theorem mirrorOpen {allowed : Nat} {s0 s : State} (h : Keeps allowed s0 s) (qp : Nat) (epoch : Nat) (seq : Nat) (role : Nat) (high : Bool) (opens : Bool) (f : State → State) (hf : ∀ t, Keeps allowed s0 t → Keeps allowed s0 (f t))
    (hm : sub 6533 allowed := by exact sub_trans (by assumption) (by decide)) :
    Keeps allowed s0 (State.mirrorOpen s qp epoch seq role high opens f) := by
  unfold State.mirrorOpen
  with_reducible repeat' first
    | (intro _) | assumption | exact sub_trans hm (by decide) | apply hf | apply Keeps.mirrorBad | apply Keeps.popQueue
    | apply Keeps.ite | refine Keeps.foldl ?_ ?_ _ | split | dsimp only
    | (apply Keeps.upd (k := 6533) <;> first | with_unfolding_all rfl | skip)

theorem sendLines {allowed : Nat} {s0 s : State} (h : Keeps allowed s0 s) (epoch n : Nat) (l : List (Nat × Line × Bool))
    (hm : sub 1083397 allowed := by exact sub_trans (by assumption) (by decide)) :
    Keeps allowed s0 (State.sendLines epoch n l s) := by
  induction n generalizing s l with
  | zero => exact h
  | succ n ih =>
    unfold State.sendLines
    split
    · exact h
    · exact ih (h.sendMirror _ _) _

theorem sendEpoch {allowed : Nat} {s0 s : State} (h : Keeps allowed s0 s) (e : Nat)
    (hm : sub 1083397 allowed := by exact sub_trans (by assumption) (by decide)) :
    Keeps allowed s0 (State.sendEpoch s e) := by
  unfold State.sendEpoch
  with_reducible repeat' first
    | (intro _) | assumption | exact sub_trans hm (by decide) | apply Keeps.sendMirror | apply Keeps.sendLines | apply Keeps.ite
    | refine Keeps.foldl ?_ ?_ _ | split | dsimp only
    | (apply Keeps.upd (k := 1083397) <;> first | with_unfolding_all rfl | skip)

theorem mirrorClean {allowed : Nat} {s0 s : State} (h : Keeps allowed s0 s)
    (hm : sub 2437 allowed := by exact sub_trans (by assumption) (by decide)) :
    Keeps allowed s0 (State.mirrorClean s) := by
  unfold State.mirrorClean
  with_reducible repeat' first
    | (intro _) | assumption | exact sub_trans hm (by decide) | apply Keeps.journal | apply Keeps.ite
    | refine Keeps.foldl ?_ ?_ _ | split | dsimp only | (apply Keeps.upd (k := 2437) <;> first | with_unfolding_all rfl | skip)

theorem runMirrorLines {allowed : Nat} {s0 s : State} (h : Keeps allowed s0 s) (qp : Nat) (epoch : Nat) (seq : Nat) (lines : List (Nat × BitVec 512)) (opens : Bool)
    (hm : sub 6533 allowed := by exact sub_trans (by assumption) (by decide)) :
    KeepsOut allowed s0 (execMirrorLines qp epoch seq lines opens s) := by
  unfold execMirrorLines
  refine Keeps.next ?_
  with_reducible repeat' first
    | (intro _) | assumption | exact sub_trans hm (by decide) | apply Keeps.mirrorOpen | apply Keeps.mirrorResync
    | apply Keeps.showMirror | apply Keeps.ite | refine Keeps.foldl ?_ ?_ _ | split | dsimp only
    | (apply Keeps.upd (k := 6533) <;> first | with_unfolding_all rfl | skip)

theorem runMirrorEndOfEpoch {allowed : Nat} {s0 s : State} (h : Keeps allowed s0 s) (qp : Nat) (epoch : Nat) (seq : Nat) (opens : Bool)
    (hm : sub 1465853 allowed := by exact sub_trans (by assumption) (by decide)) :
    KeepsOut allowed s0 (execMirrorEndOfEpoch qp epoch seq opens s) := by
  unfold execMirrorEndOfEpoch
  refine Keeps.next ?_
  with_reducible repeat' first
    | (intro _) | assumption | exact sub_trans hm (by decide) | apply Keeps.mirrorOpen | apply Keeps.journal
    | apply Keeps.showMirror | apply Keeps.windowWrite | apply Keeps.ite | refine Keeps.foldl ?_ ?_ _ | split | dsimp only
    | (apply Keeps.upd (k := 1465853) <;> first | with_unfolding_all rfl | skip)

theorem runMirrorApplyComplete {allowed : Nat} {s0 s : State} (h : Keeps allowed s0 s)
    (hm : sub 1083781 allowed := by exact sub_trans (by assumption) (by decide)) :
    KeepsOut allowed s0 (execMirrorApplyComplete s) := by
  unfold execMirrorApplyComplete
  refine Keeps.next ?_
  with_reducible repeat' first
    | (intro _) | assumption | exact sub_trans hm (by decide) | apply Keeps.sendMirror | apply Keeps.journal
    | apply Keeps.mirrorState | apply Keeps.set | apply Keeps.ite | refine Keeps.foldl ?_ ?_ _ | split | dsimp only
    | (apply Keeps.upd (k := 1083781) <;> first | with_unfolding_all rfl | skip)

theorem runMirrorAcknowledgement {allowed : Nat} {s0 s : State} (h : Keeps allowed s0 s) (qp : Nat) (epoch : Nat) (seq : Nat) (opens : Bool)
    (hm : sub 6533 allowed := by exact sub_trans (by assumption) (by decide)) :
    KeepsOut allowed s0 (execMirrorAcknowledgement qp epoch seq opens s) := by
  unfold execMirrorAcknowledgement
  refine Keeps.next ?_
  with_reducible repeat' first
    | (intro _) | assumption | exact sub_trans hm (by decide) | apply Keeps.mirrorOpen | apply Keeps.set
    | apply Keeps.showMirror | apply Keeps.mirrorClean | apply Keeps.mirrorState | apply Keeps.ite | refine Keeps.foldl ?_ ?_ _
    | split | dsimp only | (apply Keeps.upd (k := 6533) <;> first | with_unfolding_all rfl | skip)

theorem runMirrorRequestEpochAgain {allowed : Nat} {s0 s : State} (h : Keeps allowed s0 s) (qp : Nat) (epoch : Nat) (seq : Nat) (opens : Bool)
    (hm : sub 1087877 allowed := by exact sub_trans (by assumption) (by decide)) :
    KeepsOut allowed s0 (execMirrorRequestEpochAgain qp epoch seq opens s) := by
  unfold execMirrorRequestEpochAgain
  refine Keeps.next ?_
  with_reducible repeat' first
    | (intro _) | assumption | exact sub_trans hm (by decide) | apply Keeps.mirrorOpen | apply Keeps.sendEpoch
    | apply Keeps.mirrorResync | apply Keeps.ite | refine Keeps.foldl ?_ ?_ _ | split | dsimp only
    | (apply Keeps.upd (k := 1087877) <;> first | with_unfolding_all rfl | skip)

theorem resendPlot {allowed : Nat} {s0 s : State} (h : Keeps allowed s0 s) (p : Nat) (rest : List Nat)
    (hm : sub 1083397 allowed := by exact sub_trans (by assumption) (by decide)) : Keeps allowed s0 (State.resendPlot s p rest) := by
  unfold State.resendPlot
  extract_lets +onlyGivenNames s1
  have h1 : Keeps allowed s0 s1 := by with_reducible exact h.sendLines _ _ _
  clear_value s1
  exact h1.upd rfl rfl rfl

theorem runMirrorEndMarkerSend {allowed : Nat} {s0 s : State} (h : Keeps allowed s0 s)
    (hm : sub 1083405 allowed := by exact sub_trans (by assumption) (by decide)) :
    KeepsOut allowed s0 (execMirrorEndMarkerSend s) := by
  unfold execMirrorEndMarkerSend
  refine Keeps.next ?_
  with_reducible repeat' first
    | (intro _) | assumption | exact sub_trans hm (by decide) | apply Keeps.sendEpoch | apply Keeps.sendMirror
    | apply Keeps.snoopData | apply Keeps.resendPlot | apply Keeps.ite | refine Keeps.foldl ?_ ?_ _ | split | dsimp only
    | (apply Keeps.upd (k := 1083405) <;> first | with_unfolding_all rfl | skip)

theorem runMirrorEnable {allowed : Nat} {s0 s : State} (h : Keeps allowed s0 s) (value : BitVec 64)
    (hm : sub 2437 allowed := by exact sub_trans (by assumption) (by decide)) :
    KeepsOut allowed s0 (execMirrorEnable value s) := by
  unfold execMirrorEnable
  refine Keeps.next ?_
  with_reducible repeat' first
    | (intro _) | assumption | exact sub_trans hm (by decide) | apply Keeps.setReg | apply Keeps.mirrorResync | apply Keeps.ite
    | refine Keeps.foldl ?_ ?_ _ | split | dsimp only | (apply Keeps.upd (k := 2437) <;> first | with_unfolding_all rfl | skip)

theorem runMirrorDisable {allowed : Nat} {s0 s : State} (h : Keeps allowed s0 s) (value : BitVec 64)
    (hm : sub 2053 allowed := by exact sub_trans (by assumption) (by decide)) :
    KeepsOut allowed s0 (execMirrorDisable value s) := by
  unfold execMirrorDisable
  refine Keeps.next ?_
  with_reducible repeat' first
    | (intro _) | assumption | exact sub_trans hm (by decide) | apply Keeps.set | apply Keeps.setReg | apply Keeps.showMirror
    | apply Keeps.mirrorState | apply Keeps.ite | refine Keeps.foldl ?_ ?_ _ | split | dsimp only
    | (apply Keeps.upd (k := 2053) <;> first | with_unfolding_all rfl | skip)

theorem refuseKey {allowed : Nat} {s0 s : State} (h : Keeps allowed s0 s) (dom : Nat) (op : Nat) (st : Nat)
    (hm : sub 4 allowed := by exact sub_trans (by assumption) (by decide)) :
    Keeps allowed s0 (State.refuseKey s dom op st) := by
  unfold State.refuseKey
  with_reducible repeat' first
    | (intro _) | assumption | exact sub_trans hm (by decide) | apply Keeps.raise | apply Keeps.ite | refine Keeps.foldl ?_ ?_ _
    | split | dsimp only | (apply Keeps.upd (k := 4) <;> first | with_unfolding_all rfl | skip)

theorem startKey {allowed : Nat} {s0 s : State} (h : Keeps allowed s0 s) (dom : Nat) (op : Nat) (slot : Nat) (wrapped : List Byte)
    (hm : sub 65541 allowed := by exact sub_trans (by assumption) (by decide)) :
    Keeps allowed s0 (State.startKey s dom op slot wrapped) := by
  unfold State.startKey
  with_reducible repeat' first
    | (intro _) | assumption | exact sub_trans hm (by decide) | apply Keeps.refuseKey | apply Keeps.put | apply Keeps.ite
    | refine Keeps.foldl ?_ ?_ _ | split | dsimp only | (apply Keeps.upd (k := 65541) <;> first | with_unfolding_all rfl | skip)

theorem endKey {allowed : Nat} {s0 s : State} (h : Keeps allowed s0 s) (dom : Nat) (st : Nat)
    (hm : sub 65537 allowed := by exact sub_trans (by assumption) (by decide)) :
    Keeps allowed s0 (State.endKey s dom st) := by
  unfold State.endKey
  with_reducible repeat' first
    | (intro _) | assumption | exact sub_trans hm (by decide) | apply Keeps.set | apply Keeps.put | apply Keeps.ite
    | refine Keeps.foldl ?_ ?_ _ | split | dsimp only | (apply Keeps.upd (k := 65537) <;> first | with_unfolding_all rfl | skip)

theorem putSlot {allowed : Nat} {s0 s : State} (h : Keeps allowed s0 s) (dom : Nat) (slot : Nat) (key : Option (List Byte))
    (hm : sub 65537 allowed := by exact sub_trans (by assumption) (by decide)) :
    Keeps allowed s0 (State.putSlot s dom slot key) := by
  unfold State.putSlot
  with_reducible repeat' first
    | (intro _) | assumption | exact sub_trans hm (by decide) | apply Keeps.setBit | apply Keeps.ite
    | refine Keeps.foldl ?_ ?_ _ | split | dsimp only | (apply Keeps.upd (k := 65537) <;> first | with_unfolding_all rfl | skip)

theorem keyChanged {allowed : Nat} {s0 s : State} (h : Keeps allowed s0 s) (dom : Nat) (op : Nat) (slot : Nat)
    (hm : sub 4 allowed := by exact sub_trans (by assumption) (by decide)) :
    Keeps allowed s0 (State.keyChanged s dom op slot) := by
  unfold State.keyChanged
  with_reducible repeat' first
    | (intro _) | assumption | exact sub_trans hm (by decide) | apply Keeps.raise | apply Keeps.ite | refine Keeps.foldl ?_ ?_ _
    | split | dsimp only | (apply Keeps.upd (k := 4) <;> first | with_unfolding_all rfl | skip)

theorem nextKey {allowed : Nat} {s0 s : State} (h : Keeps allowed s0 s) (dom : Nat)
    (hm : sub 65536 allowed := by exact sub_trans (by assumption) (by decide)) :
    Keeps allowed s0 (State.nextKey s dom) := by
  unfold State.nextKey
  with_reducible repeat' first
    | (intro _) | assumption | exact sub_trans hm (by decide) | apply Keeps.ite | refine Keeps.foldl ?_ ?_ _ | split
    | dsimp only | (apply Keeps.upd (k := 65536) <;> first | with_unfolding_all rfl | skip)

theorem replaceKey {allowed : Nat} {s0 s : State} (h : Keeps allowed s0 s) (dom : Nat)
    (hm : sub 65537 allowed := by exact sub_trans (by assumption) (by decide)) :
    Keeps allowed s0 (State.replaceKey s dom) := by
  unfold State.replaceKey
  with_reducible repeat' first
    | (intro _) | assumption | exact sub_trans hm (by decide) | apply Keeps.set | apply Keeps.nextKey | apply Keeps.ite
    | refine Keeps.foldl ?_ ?_ _ | split | dsimp only | (apply Keeps.upd (k := 65537) <;> first | with_unfolding_all rfl | skip)

theorem useGcmKey {allowed : Nat} {s0 s : State} (h : Keeps allowed s0 s) (key : List Byte)
    (hm : sub 65541 allowed := by exact sub_trans (by assumption) (by decide)) :
    Keeps allowed s0 (State.useGcmKey s key) := by
  unfold State.useGcmKey
  with_reducible repeat' first
    | (intro _) | assumption | exact sub_trans hm (by decide) | apply Keeps.cCip | apply Keeps.bump | apply Keeps.ite
    | refine Keeps.foldl ?_ ?_ _ | split | dsimp only | (apply Keeps.upd (k := 65541) <;> first | with_unfolding_all rfl | skip)

theorem endGcm {allowed : Nat} {s0 s : State} (h : Keeps allowed s0 s) (ring : Nat) (handle : Nat) (st : Nat) (result : Nat)
    (hm : sub 331776 allowed := by exact sub_trans (by assumption) (by decide)) :
    Keeps allowed s0 (State.endGcm s ring handle st result) := by
  unfold State.endGcm
  with_reducible repeat' first
    | (intro _) | assumption | exact sub_trans hm (by decide) | apply Keeps.finish | apply Keeps.ite
    | refine Keeps.foldl ?_ ?_ _ | split | dsimp only
    | (apply Keeps.upd (k := 331776) <;> first | with_unfolding_all rfl | skip)

theorem runLoadGcmSlot {allowed : Nat} {s0 s : State} (h : Keeps allowed s0 s) (dom : Nat) (slot : Nat)
    (hm : sub 65541 allowed := by exact sub_trans (by assumption) (by decide)) :
    KeepsOut allowed s0 (execLoadGcmSlot dom slot s) := by
  unfold execLoadGcmSlot
  refine Keeps.next ?_
  with_reducible repeat' first
    | (intro _) | assumption | exact sub_trans hm (by decide) | apply Keeps.startKey | apply Keeps.ite
    | refine Keeps.foldl ?_ ?_ _ | split | dsimp only | (apply Keeps.upd (k := 65541) <;> first | with_unfolding_all rfl | skip)

theorem runClearGcmSlot {allowed : Nat} {s0 s : State} (h : Keeps allowed s0 s) (dom : Nat) (slot : Nat)
    (hm : sub 65541 allowed := by exact sub_trans (by assumption) (by decide)) :
    KeepsOut allowed s0 (execClearGcmSlot dom slot s) := by
  unfold execClearGcmSlot
  refine Keeps.next ?_
  with_reducible repeat' first
    | (intro _) | assumption | exact sub_trans hm (by decide) | apply Keeps.startKey | apply Keeps.ite
    | refine Keeps.foldl ?_ ?_ _ | split | dsimp only | (apply Keeps.upd (k := 65541) <;> first | with_unfolding_all rfl | skip)

theorem runReplaceXtsKey {allowed : Nat} {s0 s : State} (h : Keeps allowed s0 s) (dom : Nat) (issuer : Nat)
    (hm : sub 65541 allowed := by exact sub_trans (by assumption) (by decide)) :
    KeepsOut allowed s0 (execReplaceXtsKey dom issuer s) := by
  unfold execReplaceXtsKey
  refine Keeps.next ?_
  with_reducible repeat' first
    | (intro _) | assumption | exact sub_trans hm (by decide) | apply Keeps.refuseKey | apply Keeps.set | apply Keeps.startKey
    | apply Keeps.ite | refine Keeps.foldl ?_ ?_ _ | split | dsimp only
    | (apply Keeps.upd (k := 65541) <;> first | with_unfolding_all rfl | skip)

theorem runKeyCommandComplete {allowed : Nat} {s0 s : State} (h : Keeps allowed s0 s) (dom : Nat)
    (hm : sub 65541 allowed := by exact sub_trans (by assumption) (by decide)) :
    KeepsOut allowed s0 (execKeyCommandComplete dom s) := by
  unfold execKeyCommandComplete
  refine Keeps.next ?_
  with_reducible repeat' first
    | (intro _) | assumption | exact sub_trans hm (by decide) | apply Keeps.keyChanged | apply Keeps.endKey
    | apply Keeps.putSlot | apply Keeps.raise | apply Keeps.ite | refine Keeps.foldl ?_ ?_ _ | split | dsimp only
    | (apply Keeps.upd (k := 65541) <;> first | with_unfolding_all rfl | skip)

theorem runXtsKeySwitch {allowed : Nat} {s0 s : State} (h : Keeps allowed s0 s) (dom : Nat)
    (hm : sub 65541 allowed := by exact sub_trans (by assumption) (by decide)) :
    KeepsOut allowed s0 (execXtsKeySwitch dom s) := by
  unfold execXtsKeySwitch
  refine Keeps.next ?_
  with_reducible repeat' first
    | (intro _) | assumption | exact sub_trans hm (by decide) | apply Keeps.keyChanged | apply Keeps.endKey
    | apply Keeps.replaceKey | apply Keeps.ite | refine Keeps.foldl ?_ ?_ _ | split | dsimp only
    | (apply Keeps.upd (k := 65541) <;> first | with_unfolding_all rfl | skip)

theorem runKeyPinRelease {allowed : Nat} {s0 s : State} (h : Keeps allowed s0 s) (dom : Nat)
    (hm : sub 65537 allowed := by exact sub_trans (by assumption) (by decide)) :
    KeepsOut allowed s0 (execKeyPinRelease dom s) := by
  unfold execKeyPinRelease
  refine Keeps.next ?_
  with_reducible repeat' first
    | (intro _) | assumption | exact sub_trans hm (by decide) | apply Keeps.showKeys | apply Keeps.ite
    | refine Keeps.foldl ?_ ?_ _ | split | dsimp only | (apply Keeps.upd (k := 65537) <;> first | with_unfolding_all rfl | skip)

theorem runKeyReplicaLoad {allowed : Nat} {s0 s : State} (h : Keeps allowed s0 s) (dom : Nat)
    (hm : sub 65541 allowed := by exact sub_trans (by assumption) (by decide)) :
    KeepsOut allowed s0 (execKeyReplicaLoad dom s) := by
  unfold execKeyReplicaLoad
  refine Keeps.next ?_
  with_reducible repeat' first
    | (intro _) | assumption | exact sub_trans hm (by decide) | apply Keeps.loadKey | apply Keeps.ite
    | refine Keeps.foldl ?_ ?_ _ | split | dsimp only | (apply Keeps.upd (k := 65541) <;> first | with_unfolding_all rfl | skip)

theorem showThrash {allowed : Nat} {s0 s : State} (h : Keeps allowed s0 s)
    (hm : sub 5 allowed := by exact sub_trans (by assumption) (by decide)) :
    Keeps allowed s0 (State.showThrash s) := by
  unfold State.showThrash
  with_reducible repeat' first
    | (intro _) | assumption | exact sub_trans hm (by decide) | apply Keeps.raise | apply Keeps.put | apply Keeps.ite
    | refine Keeps.foldl ?_ ?_ _ | split | dsimp only | (apply Keeps.upd (k := 5) <;> first | with_unfolding_all rfl | skip)

theorem pipelineLost {allowed : Nat} {s0 s : State} (h : Keeps allowed s0 s)
    (hm : sub 1 allowed := by exact sub_trans (by assumption) (by decide)) :
    Keeps allowed s0 (State.pipelineLost s) := by
  unfold State.pipelineLost
  with_reducible repeat' first
    | (intro _) | assumption | exact sub_trans hm (by decide) | apply Keeps.safeMode | apply Keeps.ite
    | refine Keeps.foldl ?_ ?_ _ | split | dsimp only | (apply Keeps.upd (k := 1) <;> first | with_unfolding_all rfl | skip)

theorem runCipherCoreOffline {allowed : Nat} {s0 s : State} (h : Keeps allowed s0 s) (gcm : Bool) (core : Nat)
    (hm : sub 589829 allowed := by exact sub_trans (by assumption) (by decide)) :
    KeepsOut allowed s0 (execCipherCoreOffline gcm core s) := by
  unfold execCipherCoreOffline
  refine Keeps.next ?_
  with_reducible repeat' first
    | (intro _) | assumption | exact sub_trans hm (by decide) | apply Keeps.unitLost | apply Keeps.raise | apply Keeps.set
    | apply Keeps.setBit | apply Keeps.pinKey | apply Keeps.put | apply Keeps.pipelineLost | apply Keeps.ite
    | refine Keeps.foldl ?_ ?_ _ | split | dsimp only
    | (apply Keeps.upd (k := 589829) <;> first | with_unfolding_all rfl | skip)

theorem runNearPathLaneFailure {allowed : Nat} {s0 s : State} (h : Keeps allowed s0 s) (die : Nat)
    (hm : sub 589829 allowed := by exact sub_trans (by assumption) (by decide)) :
    KeepsOut allowed s0 (execNearPathLaneFailure die s) := by
  unfold execNearPathLaneFailure
  refine Keeps.next ?_
  with_reducible repeat' first
    | (intro _) | assumption | exact sub_trans hm (by decide) | apply Keeps.unitLost | apply Keeps.raise | apply Keeps.ite
    | refine Keeps.foldl ?_ ?_ _ | split | dsimp only
    | (apply Keeps.upd (k := 589829) <;> first | with_unfolding_all rfl | skip)

theorem runGcmSeal {allowed : Nat} {s0 s : State} (h : Keeps allowed s0 s) (ring : Nat) (handle : Nat) (outside : List (BitVec 8))
    (hm : sub 1531389 allowed := by exact sub_trans (by assumption) (by decide)) :
    KeepsOut allowed s0 (execGcmSeal ring handle outside s) := by
  unfold execGcmSeal
  refine Keeps.next ?_
  with_reducible repeat' first
    | (intro _) | assumption | exact sub_trans hm (by decide) | apply Keeps.fetch | apply Keeps.taken | apply Keeps.endGcm
    | apply Keeps.storeRegion | apply Keeps.gcmText64 | apply Keeps.useGcmKey | apply Keeps.ite | refine Keeps.foldl ?_ ?_ _
    | split | dsimp only | (apply Keeps.upd (k := 1531389) <;> first | with_unfolding_all rfl | skip)

theorem runGcmOpen {allowed : Nat} {s0 s : State} (h : Keeps allowed s0 s) (ring : Nat) (handle : Nat) (outside : List (BitVec 8))
    (hm : sub 1531389 allowed := by exact sub_trans (by assumption) (by decide)) :
    KeepsOut allowed s0 (execGcmOpen ring handle outside s) := by
  unfold execGcmOpen
  refine Keeps.next ?_
  with_reducible repeat' first
    | (intro _) | assumption | exact sub_trans hm (by decide) | apply Keeps.fetch | apply Keeps.taken | apply Keeps.endGcm
    | apply Keeps.gcmText64 | apply Keeps.useGcmKey | apply Keeps.storeRegion | apply Keeps.raise | apply Keeps.bump
    | apply Keeps.ite | refine Keeps.foldl ?_ ?_ _ | split | dsimp only
    | (apply Keeps.upd (k := 1531389) <;> first | with_unfolding_all rfl | skip)

theorem showBoot {allowed : Nat} {s0 s : State} (h : Keeps allowed s0 s)
    (hm : sub 1 allowed := by exact sub_trans (by assumption) (by decide)) :
    Keeps allowed s0 (State.showBoot s) := by
  unfold State.showBoot
  with_reducible repeat' first
    | (intro _) | assumption | exact sub_trans hm (by decide) | apply Keeps.set | apply Keeps.ite | refine Keeps.foldl ?_ ?_ _
    | split | dsimp only | (apply Keeps.upd (k := 1) <;> first | with_unfolding_all rfl | skip)

theorem showImage {allowed : Nat} {s0 s : State} (h : Keeps allowed s0 s) (bank : Bool) (b : FlashBank) (trial : Bool)
    (hm : sub 8193 allowed := by exact sub_trans (by assumption) (by decide)) :
    Keeps allowed s0 (State.showImage s bank b trial) := by
  unfold State.showImage
  with_reducible repeat' first
    | (intro _) | assumption | exact sub_trans hm (by decide) | apply Keeps.put | apply Keeps.set | apply Keeps.ite
    | refine Keeps.foldl ?_ ?_ _ | split | dsimp only | (apply Keeps.upd (k := 8193) <;> first | with_unfolding_all rfl | skip)

theorem chooseBank {allowed : Nat} {s0 s : State} (h : Keeps allowed s0 s)
    (hm : sub 8196 allowed := by exact sub_trans (by assumption) (by decide)) :
    Keeps allowed s0 (State.chooseBank s).1 := by
  unfold State.chooseBank
  with_reducible repeat' first
    | (intro _) | assumption | exact sub_trans hm (by decide) | apply Keeps.raise | apply Keeps.ite | refine Keeps.foldl ?_ ?_ _
    | split | dsimp only | (apply Keeps.upd (k := 8196) <;> first | with_unfolding_all rfl | skip)

theorem chooseBank_eq {allowed : Nat} {s0 s : State} (h : Keeps allowed s0 s)  {t0 : State} {x} (e : State.chooseBank s = (t0, x))
    (hm : sub 8196 allowed := by exact sub_trans (by assumption) (by decide)) :
    Keeps allowed s0 t0 := by
  have g := Keeps.chooseBank h 
  rw [e] at g
  exact g

theorem noBank {allowed : Nat} {s0 s : State} (h : Keeps allowed s0 s)
    (hm : sub 5 allowed := by exact sub_trans (by assumption) (by decide)) :
    Keeps allowed s0 (State.noBank s) := by
  unfold State.noBank
  with_reducible repeat' first
    | (intro _) | assumption | exact sub_trans hm (by decide) | apply Keeps.safeMode | apply Keeps.put | apply Keeps.raise
    | apply Keeps.ite | refine Keeps.foldl ?_ ?_ _ | split | dsimp only
    | (apply Keeps.upd (k := 5) <;> first | with_unfolding_all rfl | skip)

theorem bootBank {allowed : Nat} {s0 s : State} (h : Keeps allowed s0 s) (a : FlashBank) (b : FlashBank)
    (hm : sub 8197 allowed := by exact sub_trans (by assumption) (by decide)) :
    Keeps allowed s0 (State.bootBank s a b) := by
  unfold State.bootBank
  repeat' first
    | with_reducible (intro _) | with_reducible assumption | with_reducible exact sub_trans hm (by decide)
    | with_reducible apply Keeps.chooseBank | with_reducible apply Keeps.put | with_reducible apply Keeps.showImage
    | with_reducible apply Keeps.raise | with_reducible apply Keeps.noBank | with_reducible apply Keeps.showBoot
    | with_reducible refine Keeps.chooseBank_eq ?_ (e := by assumption) | with_reducible apply Keeps.ite
    | with_reducible refine Keeps.foldl ?_ ?_ _ | split | dsimp only
    | (with_reducible apply Keeps.upd (k := 8197)) <;> first | rfl | skip

theorem newSecrets {allowed : Nat} {s0 s : State} (h : Keeps allowed s0 s)
    (hm : sub 73729 allowed := by exact sub_trans (by assumption) (by decide)) : Keeps allowed s0 (State.newSecrets s) := by
  unfold State.newSecrets
  extract_lets +onlyGivenNames s1
  have h1 : Keeps allowed s0 s1 := by with_reducible exact Keeps.foldl h (fun _ _ g => (g.nextKey _).set _ _) _
  clear_value s1
  extract_lets +onlyGivenNames u01 s2
  have h2 : Keeps allowed s0 s2 := h1.upd rfl rfl rfl
  exact (h2.set _ _).put _ _

theorem showImport {allowed : Nat} {s0 s : State} (h : Keeps allowed s0 s)
    (hm : sub 1 allowed := by exact sub_trans (by assumption) (by decide)) :
    Keeps allowed s0 (State.showImport s) := by
  unfold State.showImport
  with_reducible repeat' first
    | (intro _) | assumption | exact sub_trans hm (by decide) | apply Keeps.setReg | apply Keeps.ite
    | refine Keeps.foldl ?_ ?_ _ | split | dsimp only | (apply Keeps.upd (k := 1) <;> first | with_unfolding_all rfl | skip)

theorem newNonce {allowed : Nat} {s0 s : State} (h : Keeps allowed s0 s)
    (hm : sub 2097153 allowed := by exact sub_trans (by assumption) (by decide)) :
    Keeps allowed s0 (State.newNonce s) := by
  unfold State.newNonce
  with_reducible repeat' first
    | (intro _) | assumption | exact sub_trans hm (by decide) | apply Keeps.drew | apply Keeps.setReg | apply Keeps.ite
    | refine Keeps.foldl ?_ ?_ _ | split | dsimp only
    | (apply Keeps.upd (k := 2097153) <;> first | with_unfolding_all rfl | skip)

theorem checkKeys {allowed : Nat} {s0 s : State} (h : Keeps allowed s0 s) (bad : List Nat) (udsBad : Bool)
    (hm : sub 73733 allowed := by exact sub_trans (by assumption) (by decide)) :
    Keeps allowed s0 (State.checkKeys s bad udsBad) := by
  unfold State.checkKeys
  with_reducible repeat' first
    | (intro _) | assumption | exact sub_trans hm (by decide) | apply Keeps.newSecrets | apply Keeps.raise | apply Keeps.put
    | apply Keeps.ite | refine Keeps.foldl ?_ ?_ _ | split | dsimp only
    | (apply Keeps.upd (k := 73733) <;> first | with_unfolding_all rfl | skip)

theorem privetStarts {allowed : Nat} {s0 s : State} (h : Keeps allowed s0 s) (bankA : FlashBank) (bankB : FlashBank) (badKeys : List Nat) (udsBad : Bool)
    (hm : sub 2170885 allowed := by exact sub_trans (by assumption) (by decide)) :
    Keeps allowed s0 (State.privetStarts s bankA bankB badKeys udsBad) := by
  unfold State.privetStarts
  repeat' first
    | with_reducible (intro _) | with_reducible assumption | with_reducible exact sub_trans hm (by decide)
    | with_reducible apply Keeps.checkKeys | with_reducible apply Keeps.setReg | with_reducible apply Keeps.put
    | with_reducible apply Keeps.set | with_reducible apply Keeps.newNonce | with_reducible apply Keeps.showImport
    | with_reducible apply Keeps.bootBank | with_reducible apply Keeps.ite | with_reducible refine Keeps.foldl ?_ ?_ _ | split
    | dsimp only | (with_reducible apply Keeps.upd (k := 2170885)) <;> first | rfl | skip

theorem showReset {allowed : Nat} {s0 s : State} (h : Keeps allowed s0 s)
    (hm : sub 1 allowed := by exact sub_trans (by assumption) (by decide)) :
    Keeps allowed s0 (State.showReset s) := by
  unfold State.showReset
  with_reducible repeat' first
    | (intro _) | assumption | exact sub_trans hm (by decide) | apply Keeps.put | apply Keeps.set | apply Keeps.ite
    | refine Keeps.foldl ?_ ?_ _ | split | dsimp only | (apply Keeps.upd (k := 1) <;> first | with_unfolding_all rfl | skip)

theorem eraseAtBoot {allowed : Nat} {s0 s : State} (h : Keeps allowed s0 s)
    (hm : sub 73733 allowed := by exact sub_trans (by assumption) (by decide)) : Keeps allowed s0 (State.eraseAtBoot s) := by
  unfold State.eraseAtBoot
  extract_lets +onlyGivenNames s1
  have h1 : Keeps allowed s0 s1 := by with_reducible exact h.newSecrets.spreadInc _
  clear_value s1
  extract_lets +onlyGivenNames u1 s2
  have h2 : Keeps allowed s0 s2 := h1.upd rfl rfl rfl
  exact h2.raise _ _ _ _ _

theorem provision {allowed : Nat} {s0 s : State} (h : Keeps allowed s0 s)
    (hm : sub 8192 allowed := by exact sub_trans (by assumption) (by decide)) :
    Keeps allowed s0 (State.provision s) := by
  unfold State.provision
  with_reducible repeat' first
    | (intro _) | assumption | exact sub_trans hm (by decide) | apply Keeps.ite | refine Keeps.foldl ?_ ?_ _ | split
    | dsimp only | (apply Keeps.upd (k := 8192) <;> first | with_unfolding_all rfl | skip)

theorem noteBooted {allowed : Nat} {s0 s : State} (h : Keeps allowed s0 s)
    (hm : sub 524288 allowed := by exact sub_trans (by assumption) (by decide)) :
    Keeps allowed s0 (State.noteBooted s) := by
  unfold State.noteBooted
  with_reducible repeat' first
    | (intro _) | assumption | exact sub_trans hm (by decide) | apply Keeps.ite | refine Keeps.foldl ?_ ?_ _ | split
    | dsimp only | (apply Keeps.upd (k := 524288) <;> first | with_unfolding_all rfl | skip)

theorem runPrivetBoot {allowed : Nat} {s0 s : State} (h : Keeps allowed s0 s) (bankA : FlashBank) (bankB : FlashBank) (badKeys : List Nat) (udsBad : Bool)
    (hm : sub 2695173 allowed := by exact sub_trans (by assumption) (by decide)) :
    KeepsOut allowed s0 (execPrivetBoot bankA bankB badKeys udsBad s) := by
  unfold execPrivetBoot
  refine Keeps.next ?_
  with_reducible repeat' first
    | (intro _) | assumption | exact sub_trans hm (by decide) | apply Keeps.provision | apply Keeps.eraseAtBoot
    | apply Keeps.noteBooted | apply Keeps.set | apply Keeps.showReset | apply Keeps.privetStarts | apply Keeps.ite
    | refine Keeps.foldl ?_ ?_ _ | split | dsimp only
    | (apply Keeps.upd (k := 2695173) <;> first | with_unfolding_all rfl | skip)

theorem runCommit {allowed : Nat} {s0 s : State} (h : Keeps allowed s0 s)
    (hm : sub 8197 allowed := by exact sub_trans (by assumption) (by decide)) :
    KeepsOut allowed s0 (execCommit s) := by
  unfold execCommit
  refine Keeps.next ?_
  with_reducible repeat' first
    | (intro _) | assumption | exact sub_trans hm (by decide) | apply Keeps.spreadInc | apply Keeps.showBoot | apply Keeps.put
    | apply Keeps.raise | apply Keeps.set | apply Keeps.ite | refine Keeps.foldl ?_ ?_ _ | split | dsimp only
    | (apply Keeps.upd (k := 8197) <;> first | with_unfolding_all rfl | skip)

theorem runRevert {allowed : Nat} {s0 s : State} (h : Keeps allowed s0 s)
    (hm : sub 8193 allowed := by exact sub_trans (by assumption) (by decide)) :
    KeepsOut allowed s0 (execRevert s) := by
  unfold execRevert
  refine Keeps.next ?_
  with_reducible repeat' first
    | (intro _) | assumption | exact sub_trans hm (by decide) | apply Keeps.showBoot | apply Keeps.ite
    | refine Keeps.foldl ?_ ?_ _ | split | dsimp only | (apply Keeps.upd (k := 8193) <;> first | with_unfolding_all rfl | skip)

theorem runGetFwInfo {allowed : Nat} {s0 s : State} (h : Keeps allowed s0 s) (ld : Nat)
    (hm : sub 1048576 allowed := by exact sub_trans (by assumption) (by decide)) :
    KeepsOut allowed s0 (execGetFwInfo ld s) := by
  unfold execGetFwInfo
  refine Keeps.next ?_
  with_reducible repeat' first
    | (intro _) | assumption | exact sub_trans hm (by decide) | apply Keeps.anyLd | apply Keeps.reply | apply Keeps.ite
    | refine Keeps.foldl ?_ ?_ _ | split | dsimp only
    | (apply Keeps.upd (k := 1048576) <;> first | with_unfolding_all rfl | skip)

theorem flashStep {allowed : Nat} {s0 s : State} (h : Keeps allowed s0 s) (ld : Nat) (bank : Bool) (addr : Nat) (data : List Byte) (t : Option Nat) (done : Bool)
    (hm : sub 1056768 allowed := by exact sub_trans (by assumption) (by decide)) :
    Keeps allowed s0 (State.flashStep s ld bank addr data t done) := by
  unfold State.flashStep
  with_reducible repeat' first
    | (intro _) | assumption | exact sub_trans hm (by decide) | apply Keeps.reply | apply Keeps.send | apply Keeps.ite
    | refine Keeps.foldl ?_ ?_ _ | split | dsimp only
    | (apply Keeps.upd (k := 1056768) <;> first | with_unfolding_all rfl | skip)

theorem dropTransfer {allowed : Nat} {s0 s : State} (h : Keeps allowed s0 s)
    (hm : sub 8192 allowed := by exact sub_trans (by assumption) (by decide)) :
    Keeps allowed s0 (State.dropTransfer s) := by
  unfold State.dropTransfer
  with_reducible repeat' first
    | (intro _) | assumption | exact sub_trans hm (by decide) | apply Keeps.ite | refine Keeps.foldl ?_ ?_ _ | split
    | dsimp only | (apply Keeps.upd (k := 8192) <;> first | with_unfolding_all rfl | skip)

theorem runTransferFw {allowed : Nat} {s0 s : State} (h : Keeps allowed s0 s) (ld : Nat) (action : Nat) (offset : Nat) (data : List (BitVec 8))
    (hm : sub 1056768 allowed := by exact sub_trans (by assumption) (by decide)) :
    KeepsOut allowed s0 (execTransferFw ld action offset data s) := by
  unfold execTransferFw
  refine Keeps.next ?_
  with_reducible repeat' first
    | (intro _) | assumption | exact sub_trans hm (by decide) | apply Keeps.mgmtOnly | apply Keeps.reply | apply Keeps.flashStep
    | apply Keeps.dropTransfer | apply Keeps.ite | refine Keeps.foldl ?_ ?_ _ | split | dsimp only
    | (apply Keeps.upd (k := 1056768) <;> first | with_unfolding_all rfl | skip)

theorem runActivateFw {allowed : Nat} {s0 s : State} (h : Keeps allowed s0 s) (ld : Nat) (action : Nat) (slot : Nat)
    (hm : sub 1056769 allowed := by exact sub_trans (by assumption) (by decide)) :
    KeepsOut allowed s0 (execActivateFw ld action slot s) := by
  unfold execActivateFw
  refine Keeps.next ?_
  with_reducible repeat' first
    | (intro _) | assumption | exact sub_trans hm (by decide) | apply Keeps.mgmtOnly | apply Keeps.reply | apply Keeps.showBoot
    | apply Keeps.ite | refine Keeps.foldl ?_ ?_ _ | split | dsimp only
    | (apply Keeps.upd (k := 1056769) <;> first | with_unfolding_all rfl | skip)

theorem spdmAnswer {allowed : Nat} {s0 s : State} (h : Keeps allowed s0 s) (ld : Nat) (code : Nat) (fields : List Nat)
    (hm : sub 1048576 allowed := by exact sub_trans (by assumption) (by decide)) :
    Keeps allowed s0 (State.spdmAnswer s ld code fields) := by
  unfold State.spdmAnswer
  with_reducible repeat' first
    | (intro _) | assumption | exact sub_trans hm (by decide) | apply Keeps.send | apply Keeps.ite | refine Keeps.foldl ?_ ?_ _
    | split | dsimp only | (apply Keeps.upd (k := 1048576) <;> first | with_unfolding_all rfl | skip)

theorem spdmError {allowed : Nat} {s0 s : State} (h : Keeps allowed s0 s) (ld : Nat) (cause : Nat) (request : Nat)
    (hm : sub 1048576 allowed := by exact sub_trans (by assumption) (by decide)) :
    Keeps allowed s0 (State.spdmError s ld cause request) := by
  unfold State.spdmError
  with_reducible repeat' first
    | (intro _) | assumption | exact sub_trans hm (by decide) | apply Keeps.spdmAnswer | apply Keeps.ite
    | refine Keeps.foldl ?_ ?_ _ | split | dsimp only
    | (apply Keeps.upd (k := 1048576) <;> first | with_unfolding_all rfl | skip)

theorem runGetVersion {allowed : Nat} {s0 s : State} (h : Keeps allowed s0 s) (ld : Nat)
    (hm : sub 1048576 allowed := by exact sub_trans (by assumption) (by decide)) :
    KeepsOut allowed s0 (execGetVersion ld s) := by
  unfold execGetVersion
  refine Keeps.next ?_
  with_reducible repeat' first
    | (intro _) | assumption | exact sub_trans hm (by decide) | apply Keeps.spdmAnswer | apply Keeps.ite
    | refine Keeps.foldl ?_ ?_ _ | split | dsimp only
    | (apply Keeps.upd (k := 1048576) <;> first | with_unfolding_all rfl | skip)

theorem runGetCapabilities {allowed : Nat} {s0 s : State} (h : Keeps allowed s0 s) (ld : Nat)
    (hm : sub 1048576 allowed := by exact sub_trans (by assumption) (by decide)) :
    KeepsOut allowed s0 (execGetCapabilities ld s) := by
  unfold execGetCapabilities
  refine Keeps.next ?_
  with_reducible repeat' first
    | (intro _) | assumption | exact sub_trans hm (by decide) | apply Keeps.spdmAnswer | apply Keeps.ite
    | refine Keeps.foldl ?_ ?_ _ | split | dsimp only
    | (apply Keeps.upd (k := 1048576) <;> first | with_unfolding_all rfl | skip)

theorem runNegotiateAlgorithms {allowed : Nat} {s0 s : State} (h : Keeps allowed s0 s) (ld : Nat) (offered : Bool)
    (hm : sub 1048576 allowed := by exact sub_trans (by assumption) (by decide)) :
    KeepsOut allowed s0 (execNegotiateAlgorithms ld offered s) := by
  unfold execNegotiateAlgorithms
  refine Keeps.next ?_
  with_reducible repeat' first
    | (intro _) | assumption | exact sub_trans hm (by decide) | apply Keeps.spdmAnswer | apply Keeps.spdmError | apply Keeps.ite
    | refine Keeps.foldl ?_ ?_ _ | split | dsimp only
    | (apply Keeps.upd (k := 1048576) <;> first | with_unfolding_all rfl | skip)

theorem runGetDigests {allowed : Nat} {s0 s : State} (h : Keeps allowed s0 s) (ld : Nat)
    (hm : sub 1048576 allowed := by exact sub_trans (by assumption) (by decide)) :
    KeepsOut allowed s0 (execGetDigests ld s) := by
  unfold execGetDigests
  refine Keeps.next ?_
  with_reducible repeat' first
    | (intro _) | assumption | exact sub_trans hm (by decide) | apply Keeps.spdmAnswer | apply Keeps.ite
    | refine Keeps.foldl ?_ ?_ _ | split | dsimp only
    | (apply Keeps.upd (k := 1048576) <;> first | with_unfolding_all rfl | skip)

theorem runGetCertificate {allowed : Nat} {s0 s : State} (h : Keeps allowed s0 s) (ld : Nat) (slot : Nat) (offset : Nat) (length : Nat)
    (hm : sub 1048576 allowed := by exact sub_trans (by assumption) (by decide)) :
    KeepsOut allowed s0 (execGetCertificate ld slot offset length s) := by
  unfold execGetCertificate
  refine Keeps.next ?_
  with_reducible repeat' first
    | (intro _) | assumption | exact sub_trans hm (by decide) | apply Keeps.spdmAnswer | apply Keeps.spdmError | apply Keeps.ite
    | refine Keeps.foldl ?_ ?_ _ | split | dsimp only
    | (apply Keeps.upd (k := 1048576) <;> first | with_unfolding_all rfl | skip)

theorem runChallenge {allowed : Nat} {s0 s : State} (h : Keeps allowed s0 s) (ld : Nat) (slot : Nat) (nonce : BitVec 256)
    (hm : sub 1048576 allowed := by exact sub_trans (by assumption) (by decide)) :
    KeepsOut allowed s0 (execChallenge ld slot nonce s) := by
  unfold execChallenge
  refine Keeps.next ?_
  with_reducible repeat' first
    | (intro _) | assumption | exact sub_trans hm (by decide) | apply Keeps.spdmAnswer | apply Keeps.spdmError | apply Keeps.ite
    | refine Keeps.foldl ?_ ?_ _ | split | dsimp only
    | (apply Keeps.upd (k := 1048576) <;> first | with_unfolding_all rfl | skip)

theorem runGetMeasurements {allowed : Nat} {s0 s : State} (h : Keeps allowed s0 s) (ld : Nat) (index : Nat)
    (hm : sub 1048576 allowed := by exact sub_trans (by assumption) (by decide)) :
    KeepsOut allowed s0 (execGetMeasurements ld index s) := by
  unfold execGetMeasurements
  refine Keeps.next ?_
  with_reducible repeat' first
    | (intro _) | assumption | exact sub_trans hm (by decide) | apply Keeps.spdmAnswer | apply Keeps.spdmError | apply Keeps.ite
    | refine Keeps.foldl ?_ ?_ _ | split | dsimp only
    | (apply Keeps.upd (k := 1048576) <;> first | with_unfolding_all rfl | skip)

theorem runSpdmUnsupportedRequest {allowed : Nat} {s0 s : State} (h : Keeps allowed s0 s) (ld : Nat) (request : Nat)
    (hm : sub 1048576 allowed := by exact sub_trans (by assumption) (by decide)) :
    KeepsOut allowed s0 (execSpdmUnsupportedRequest ld request s) := by
  unfold execSpdmUnsupportedRequest
  refine Keeps.next ?_
  with_reducible repeat' first
    | (intro _) | assumption | exact sub_trans hm (by decide) | apply Keeps.spdmError | apply Keeps.ite
    | refine Keeps.foldl ?_ ?_ _ | split | dsimp only
    | (apply Keeps.upd (k := 1048576) <;> first | with_unfolding_all rfl | skip)

theorem startKek {allowed : Nat} {s0 s : State} (h : Keeps allowed s0 s) (c : KekCmd)
    (hm : sub 8193 allowed := by exact sub_trans (by assumption) (by decide)) :
    Keeps allowed s0 (State.startKek s c) := by
  unfold State.startKek
  with_reducible repeat' first
    | (intro _) | assumption | exact sub_trans hm (by decide) | apply Keeps.put | apply Keeps.set | apply Keeps.ite
    | refine Keeps.foldl ?_ ?_ _ | split | dsimp only | (apply Keeps.upd (k := 8193) <;> first | with_unfolding_all rfl | skip)

theorem kekIgnored {allowed : Nat} {s0 s : State} (h : Keeps allowed s0 s) (dom : Nat)
    (hm : sub 4 allowed := by exact sub_trans (by assumption) (by decide)) :
    Keeps allowed s0 (State.kekIgnored s dom) := by
  unfold State.kekIgnored
  with_reducible repeat' first
    | (intro _) | assumption | exact sub_trans hm (by decide) | apply Keeps.raise | apply Keeps.ite | refine Keeps.foldl ?_ ?_ _
    | split | dsimp only | (apply Keeps.upd (k := 4) <;> first | with_unfolding_all rfl | skip)

theorem endKek {allowed : Nat} {s0 s : State} (h : Keeps allowed s0 s) (st : Nat)
    (hm : sub 8193 allowed := by exact sub_trans (by assumption) (by decide)) :
    Keeps allowed s0 (State.endKek s st) := by
  unfold State.endKek
  with_reducible repeat' first
    | (intro _) | assumption | exact sub_trans hm (by decide) | apply Keeps.set | apply Keeps.put | apply Keeps.ite
    | refine Keeps.foldl ?_ ?_ _ | split | dsimp only | (apply Keeps.upd (k := 8193) <;> first | with_unfolding_all rfl | skip)

theorem runImportKek {allowed : Nat} {s0 s : State} (h : Keeps allowed s0 s) (dom : Nat) (outside : List (BitVec 8))
    (hm : sub 1449997 allowed := by exact sub_trans (by assumption) (by decide)) :
    KeepsOut allowed s0 (execImportKek dom outside s) := by
  unfold execImportKek
  refine Keeps.next ?_
  with_reducible repeat' first
    | (intro _) | assumption | exact sub_trans hm (by decide) | apply Keeps.kekIgnored | apply Keeps.fetch | apply Keeps.taken
    | apply Keeps.startKek | apply Keeps.ite | refine Keeps.foldl ?_ ?_ _ | split | dsimp only
    | (apply Keeps.upd (k := 1449997) <;> first | with_unfolding_all rfl | skip)

theorem runEraseKek {allowed : Nat} {s0 s : State} (h : Keeps allowed s0 s) (dom : Nat)
    (hm : sub 8197 allowed := by exact sub_trans (by assumption) (by decide)) :
    KeepsOut allowed s0 (execEraseKek dom s) := by
  unfold execEraseKek
  refine Keeps.next ?_
  with_reducible repeat' first
    | (intro _) | assumption | exact sub_trans hm (by decide) | apply Keeps.kekIgnored | apply Keeps.startKek | apply Keeps.ite
    | refine Keeps.foldl ?_ ?_ _ | split | dsimp only | (apply Keeps.upd (k := 8197) <;> first | with_unfolding_all rfl | skip)

theorem runKekCommandComplete {allowed : Nat} {s0 s : State} (h : Keeps allowed s0 s) (onCurve : Bool)
    (hm : sub 8197 allowed := by exact sub_trans (by assumption) (by decide)) :
    KeepsOut allowed s0 (execKekCommandComplete onCurve s) := by
  unfold execKekCommandComplete
  refine Keeps.next ?_
  with_reducible repeat' first
    | (intro _) | assumption | exact sub_trans hm (by decide) | apply Keeps.endKek | apply Keeps.raise | apply Keeps.ite
    | refine Keeps.foldl ?_ ?_ _ | split | dsimp only | (apply Keeps.upd (k := 8197) <;> first | with_unfolding_all rfl | skip)

theorem runIdcode {allowed : Nat} {s0 s : State} (h : Keeps allowed s0 s)
    (hm : sub 1048576 allowed := by exact sub_trans (by assumption) (by decide)) :
    KeepsOut allowed s0 (execIdcode s) := by
  unfold execIdcode
  refine Keeps.next ?_
  with_reducible repeat' first
    | (intro _) | assumption | exact sub_trans hm (by decide) | apply Keeps.send | apply Keeps.ite | refine Keeps.foldl ?_ ?_ _
    | split | dsimp only | (apply Keeps.upd (k := 1048576) <;> first | with_unfolding_all rfl | skip)

theorem runBypass {allowed : Nat} {s0 s : State} (h : Keeps allowed s0 s) (bit : Bool)
    (hm : sub 1048576 allowed := by exact sub_trans (by assumption) (by decide)) :
    KeepsOut allowed s0 (execBypass bit s) := by
  unfold execBypass
  refine Keeps.next ?_
  with_reducible repeat' first
    | (intro _) | assumption | exact sub_trans hm (by decide) | apply Keeps.send | apply Keeps.ite | refine Keeps.foldl ?_ ?_ _
    | split | dsimp only | (apply Keeps.upd (k := 1048576) <;> first | with_unfolding_all rfl | skip)

theorem runNonce {allowed : Nat} {s0 s : State} (h : Keeps allowed s0 s)
    (hm : sub 1048576 allowed := by exact sub_trans (by assumption) (by decide)) :
    KeepsOut allowed s0 (execNonce s) := by
  unfold execNonce
  refine Keeps.next ?_
  with_reducible repeat' first
    | (intro _) | assumption | exact sub_trans hm (by decide) | apply Keeps.send | apply Keeps.ite | refine Keeps.foldl ?_ ?_ _
    | split | dsimp only | (apply Keeps.upd (k := 1048576) <;> first | with_unfolding_all rfl | skip)

theorem presentToken {allowed : Nat} {s0 s : State} (h : Keeps allowed s0 s) (t : List Byte) (keyMatches : Bool) (signatureValid : Bool)
    (hm : sub 2105349 allowed := by exact sub_trans (by assumption) (by decide)) :
    Keeps allowed s0 (State.presentToken s t keyMatches signatureValid) := by
  unfold State.presentToken
  with_reducible repeat' first
    | (intro _) | assumption | exact sub_trans hm (by decide) | apply Keeps.raise | apply Keeps.set | apply Keeps.newNonce
    | apply Keeps.put | apply Keeps.ite | refine Keeps.foldl ?_ ?_ _ | split | dsimp only
    | (apply Keeps.upd (k := 2105349) <;> first | with_unfolding_all rfl | skip)

theorem runPvDebugUnlockStart {allowed : Nat} {s0 s : State} (h : Keeps allowed s0 s) (outside : List (BitVec 8)) (keyMatches : Bool) (signatureValid : Bool)
    (hm : sub 3547149 allowed := by exact sub_trans (by assumption) (by decide)) :
    KeepsOut allowed s0 (execPvDebugUnlockStart outside keyMatches signatureValid s) := by
  unfold execPvDebugUnlockStart
  refine Keeps.next ?_
  with_reducible repeat' first
    | (intro _) | assumption | exact sub_trans hm (by decide) | apply Keeps.fetch | apply Keeps.taken | apply Keeps.presentToken
    | apply Keeps.ite | refine Keeps.foldl ?_ ?_ _ | split | dsimp only
    | (apply Keeps.upd (k := 3547149) <;> first | with_unfolding_all rfl | skip)

theorem runDebugUnlockInstruction {allowed : Nat} {s0 s : State} (h : Keeps allowed s0 s) (token : List (BitVec 8)) (keyMatches : Bool) (signatureValid : Bool)
    (hm : sub 3153925 allowed := by exact sub_trans (by assumption) (by decide)) :
    KeepsOut allowed s0 (execDebugUnlockInstruction token keyMatches signatureValid s) := by
  unfold execDebugUnlockInstruction
  refine Keeps.next ?_
  with_reducible repeat' first
    | (intro _) | assumption | exact sub_trans hm (by decide) | apply Keeps.presentToken | apply Keeps.send | apply Keeps.ite
    | refine Keeps.foldl ?_ ?_ _ | split | dsimp only
    | (apply Keeps.upd (k := 3153925) <;> first | with_unfolding_all rfl | skip)

theorem showPs {allowed : Nat} {s0 s : State} (h : Keeps allowed s0 s)
    (hm : sub 1 allowed := by exact sub_trans (by assumption) (by decide)) :
    Keeps allowed s0 (State.showPs s) := by
  unfold State.showPs
  with_reducible repeat' first
    | (intro _) | assumption | exact sub_trans hm (by decide) | apply Keeps.set | apply Keeps.put | apply Keeps.ite
    | refine Keeps.foldl ?_ ?_ _ | split | dsimp only | (apply Keeps.upd (k := 1) <;> first | with_unfolding_all rfl | skip)

theorem endRead {allowed : Nat} {s0 s : State} (h : Keeps allowed s0 s) (a n : Nat)
    (hm : sub 2105345 allowed := by exact sub_trans (by assumption) (by decide)) : Keeps allowed s0 (State.endRead s a n) := by
  unfold State.endRead
  extract_lets +onlyGivenNames b s1 u01 s2 s3
  have h1 : Keeps allowed s0 s1 := by with_reducible exact Keeps.foldl h (fun _ _ g => g.setReg _ _) _
  have h2 : Keeps allowed s0 s2 := (h1.drewMany _).upd rfl rfl rfl
  have h3 : Keeps allowed s0 s3 := by with_reducible exact ((h2.put _ _).put _ _).put _ _
  exact h3.set _ _

theorem runPsWrite {allowed : Nat} {s0 s : State} (h : Keeps allowed s0 s)
    (hm : sub 8197 allowed := by exact sub_trans (by assumption) (by decide)) :
    KeepsOut allowed s0 (execPsWrite s) := by
  unfold execPsWrite
  refine Keeps.next ?_
  with_reducible repeat' first
    | (intro _) | assumption | exact sub_trans hm (by decide) | apply Keeps.raise | apply Keeps.set | apply Keeps.showPs
    | apply Keeps.put | apply Keeps.ite | refine Keeps.foldl ?_ ?_ _ | split | dsimp only
    | (apply Keeps.upd (k := 8197) <;> first | with_unfolding_all rfl | skip)

theorem runPsPageWriteComplete {allowed : Nat} {s0 s : State} (h : Keeps allowed s0 s)
    (hm : sub 2105345 allowed := by exact sub_trans (by assumption) (by decide)) :
    KeepsOut allowed s0 (execPsPageWriteComplete s) := by
  unfold execPsPageWriteComplete
  refine Keeps.next ?_
  with_reducible repeat' first
    | (intro _) | assumption | exact sub_trans hm (by decide) | apply Keeps.putPs | apply Keeps.set | apply Keeps.put
    | apply Keeps.bump | apply Keeps.showPs | apply Keeps.endRead | apply Keeps.ite | refine Keeps.foldl ?_ ?_ _ | split
    | dsimp only | (apply Keeps.upd (k := 2105345) <;> first | with_unfolding_all rfl | skip)

theorem runPsRead {allowed : Nat} {s0 s : State} (h : Keeps allowed s0 s) (bad : Option Nat)
    (hm : sub 2105349 allowed := by exact sub_trans (by assumption) (by decide)) :
    KeepsOut allowed s0 (execPsRead bad s) := by
  unfold execPsRead
  refine Keeps.next ?_
  with_reducible repeat' first
    | (intro _) | assumption | exact sub_trans hm (by decide) | apply Keeps.set | apply Keeps.raise | apply Keeps.bump
    | apply Keeps.put | apply Keeps.endRead | apply Keeps.ite | refine Keeps.foldl ?_ ?_ _ | split | dsimp only
    | (apply Keeps.upd (k := 2105349) <;> first | with_unfolding_all rfl | skip)

theorem runMarginRefresh {allowed : Nat} {s0 s : State} (h : Keeps allowed s0 s) (page : Nat) (fails : Bool)
    (hm : sub 8197 allowed := by exact sub_trans (by assumption) (by decide)) :
    KeepsOut allowed s0 (execMarginRefresh page fails s) := by
  unfold execMarginRefresh
  refine Keeps.next ?_
  with_reducible repeat' first
    | (intro _) | assumption | exact sub_trans hm (by decide) | apply Keeps.raise | apply Keeps.showPs | apply Keeps.ite
    | refine Keeps.foldl ?_ ?_ _ | split | dsimp only | (apply Keeps.upd (k := 8197) <;> first | with_unfolding_all rfl | skip)

theorem resetDies {allowed : Nat} {s0 s : State} (h : Keeps allowed s0 s) (cold : Bool)
    (hm : sub 2612863 allowed := by exact sub_trans (by assumption) (by decide)) : Keeps allowed s0 (State.resetDies s cold) := by
  unfold State.resetDies
  extract_lets +onlyGivenNames provisional regs s1 c u01 time time2 u02 u03 s2 s3 u04 s4
  have h1 : Keeps allowed s0 s1 := by with_reducible exact (h.regsFilter _).dropVolatile
  have h2 : Keeps allowed s0 s2 := by with_reducible exact h1.upd rfl rfl rfl
  have h3 : Keeps allowed s0 s3 := by with_reducible exact Keeps.ite h2 (h2.setReg _ _)
  have h4 : Keeps allowed s0 s4 := by with_reducible exact (h3.upd rfl rfl rfl).drew
  exact ((h4.upd rfl rfl rfl).drew).showMeta

theorem tearWrite {allowed : Nat} {s0 s : State} (h : Keeps allowed s0 s)
    (hm : sub 2105344 allowed := by exact sub_trans (by assumption) (by decide)) :
    Keeps allowed s0 (State.tearWrite s) := by
  unfold State.tearWrite
  with_reducible repeat' first
    | (intro _) | assumption | exact sub_trans hm (by decide) | apply Keeps.drew | apply Keeps.putPs | apply Keeps.ite
    | refine Keeps.foldl ?_ ?_ _ | split | dsimp only
    | (apply Keeps.upd (k := 2105344) <;> first | with_unfolding_all rfl | skip)

theorem resetPrivet {allowed : Nat} {s0 s : State} (h : Keeps allowed s0 s) (kind : Nat)
    (hm : sub 2695175 allowed := by exact sub_trans (by assumption) (by decide)) : Keeps allowed s0 (State.resetPrivet s kind) := by
  unfold State.resetPrivet
  extract_lets +onlyGivenNames s1 sec s2 u01 u02 u03 u04 s3
  have h1 : Keeps allowed s0 s1 := by with_reducible exact h.tearWrite
  have h2 : Keeps allowed s0 s2 := by with_reducible exact h1.regsFilter _
  have h3 : Keeps allowed s0 s3 := by with_reducible exact h2.upd rfl rfl rfl
  exact h3.upd rfl rfl rfl

theorem cutRails {allowed : Nat} {s0 s : State} (h : Keeps allowed s0 s)
    (hm : sub 2612863 allowed := by exact sub_trans (by assumption) (by decide)) :
    Keeps allowed s0 (State.cutRails s) := by
  unfold State.cutRails
  with_reducible repeat' first
    | (intro _) | assumption | exact sub_trans hm (by decide) | apply Keeps.resetDies | apply Keeps.ite
    | refine Keeps.foldl ?_ ?_ _ | split | dsimp only
    | (apply Keeps.upd (k := 2612863) <;> first | with_unfolding_all rfl | skip)

theorem losePrivet {allowed : Nat} {s0 s : State} (h : Keeps allowed s0 s)
    (hm : sub 3137151 allowed := by exact sub_trans (by assumption) (by decide)) :
    Keeps allowed s0 (State.losePrivet s) := by
  unfold State.losePrivet
  with_reducible repeat' first
    | (intro _) | assumption | exact sub_trans hm (by decide) | apply Keeps.cutRails | apply Keeps.set | apply Keeps.ite
    | refine Keeps.foldl ?_ ?_ _ | split | dsimp only
    | (apply Keeps.upd (k := 3137151) <;> first | with_unfolding_all rfl | skip)

theorem clusterGone {allowed : Nat} {s0 s : State} (h : Keeps allowed s0 s) (d : Nat) (cause : Nat)
    (hm : sub 285061 allowed := by exact sub_trans (by assumption) (by decide)) :
    Keeps allowed s0 (State.clusterGone s d cause) := by
  unfold State.clusterGone
  with_reducible repeat' first
    | (intro _) | assumption | exact sub_trans hm (by decide) | apply Keeps.set | apply Keeps.setBit | apply Keeps.refuseKernel
    | apply Keeps.raise | apply Keeps.ite | refine Keeps.foldl ?_ ?_ _ | split | dsimp only
    | (apply Keeps.upd (k := 285061) <;> first | with_unfolding_all rfl | skip)

theorem dieGone {allowed : Nat} {s0 s : State} (h : Keeps allowed s0 s) (d : Nat)
    (hm : sub 1990653 allowed := by exact sub_trans (by assumption) (by decide)) :
    Keeps allowed s0 (State.dieGone s d) := by
  unfold State.dieGone
  with_reducible repeat' first
    | (intro _) | assumption | exact sub_trans hm (by decide) | apply Keeps.setBit | apply Keeps.channelOffline
    | apply Keeps.fchanOffline | apply Keeps.reduced | apply Keeps.clusterGone | apply Keeps.ite | refine Keeps.foldl ?_ ?_ _
    | split | dsimp only | (apply Keeps.upd (k := 1990653) <;> first | with_unfolding_all rfl | skip)

theorem freshPort {allowed : Nat} {s0 s : State} (h : Keeps allowed s0 s) (k : Nat)
    (hm : sub 131073 allowed := by exact sub_trans (by assumption) (by decide)) :
    Keeps allowed s0 (State.freshPort s k) := by
  unfold State.freshPort
  with_reducible repeat' first
    | (intro _) | assumption | exact sub_trans hm (by decide) | apply Keeps.showCredits | apply Keeps.setKl | apply Keeps.ite
    | refine Keeps.foldl ?_ ?_ _ | split | dsimp only
    | (apply Keeps.upd (k := 131073) <;> first | with_unfolding_all rfl | skip)

theorem partnerLost {allowed : Nat} {s0 s : State} (h : Keeps allowed s0 s) (k : Nat)
    (hm : sub 4186111 allowed := by exact sub_trans (by assumption) (by decide)) :
    Keeps allowed s0 (State.partnerLost s k) := by
  unfold State.partnerLost
  with_reducible repeat' first
    | (intro _) | assumption | exact sub_trans hm (by decide) | apply Keeps.dieGone | apply Keeps.losePrivet | apply Keeps.set
    | apply Keeps.agentDead | apply Keeps.showOut | apply Keeps.setAgentSt | apply Keeps.ite | refine Keeps.foldl ?_ ?_ _
    | split | dsimp only | (apply Keeps.upd (k := 4186111) <;> first | with_unfolding_all rfl | skip)

theorem linkLost {allowed : Nat} {s0 s : State} (h : Keeps allowed s0 s) (k : Nat) (cause : Nat)
    (hm : sub 4186111 allowed := by exact sub_trans (by assumption) (by decide)) :
    Keeps allowed s0 (State.linkLost s k cause) := by
  unfold State.linkLost
  with_reducible repeat' first
    | (intro _) | assumption | exact sub_trans hm (by decide) | apply Keeps.set | apply Keeps.bump | apply Keeps.raise
    | apply Keeps.freshPort | apply Keeps.partnerLost | apply Keeps.unitLost | apply Keeps.ite | refine Keeps.foldl ?_ ?_ _
    | split | dsimp only | (apply Keeps.upd (k := 4186111) <;> first | with_unfolding_all rfl | skip)

theorem protocolError {allowed : Nat} {s0 s : State} (h : Keeps allowed s0 s) (k : Nat)
    (hm : sub 4186111 allowed := by exact sub_trans (by assumption) (by decide)) :
    Keeps allowed s0 (State.protocolError s k) := by
  unfold State.protocolError
  with_reducible repeat' first
    | (intro _) | assumption | exact sub_trans hm (by decide) | apply Keeps.linkLost | apply Keeps.ite
    | refine Keeps.foldl ?_ ?_ _ | split | dsimp only
    | (apply Keeps.upd (k := 4186111) <;> first | with_unfolding_all rfl | skip)

theorem beginTraining {allowed : Nat} {s0 s : State} (h : Keeps allowed s0 s) (k : Nat)
    (hm : sub 131073 allowed := by exact sub_trans (by assumption) (by decide)) :
    Keeps allowed s0 (State.beginTraining s k) := by
  unfold State.beginTraining
  with_reducible repeat' first
    | (intro _) | assumption | exact sub_trans hm (by decide) | apply Keeps.set | apply Keeps.freshPort | apply Keeps.setKl
    | apply Keeps.ite | refine Keeps.foldl ?_ ?_ _ | split | dsimp only
    | (apply Keeps.upd (k := 131073) <;> first | with_unfolding_all rfl | skip)

theorem attemptFails {allowed : Nat} {s0 s : State} (h : Keeps allowed s0 s) (k : Nat)
    (hm : sub 4186111 allowed := by exact sub_trans (by assumption) (by decide)) :
    Keeps allowed s0 (State.attemptFails s k) := by
  unfold State.attemptFails
  with_reducible repeat' first
    | (intro _) | assumption | exact sub_trans hm (by decide) | apply Keeps.linkLost | apply Keeps.setKl | apply Keeps.set
    | apply Keeps.ite | refine Keeps.foldl ?_ ?_ _ | split | dsimp only
    | (apply Keeps.upd (k := 4186111) <;> first | with_unfolding_all rfl | skip)

theorem testLanes {allowed : Nat} {s0 s : State} (h : Keeps allowed s0 s) {k : Nat} {t : LaneTest} {t0 : State} (e : (State.testLanes s k t) = some t0)
    (hm : sub 5 allowed := by exact sub_trans (by assumption) (by decide)) :
    Keeps allowed s0 t0 := by
  unfold State.testLanes at e
  try dsimp only at e
  repeat' split at e
  all_goals first | contradiction | (injection e with e; subst e)
  all_goals with_reducible repeat' first
    | (intro _) | assumption | exact sub_trans hm (by decide) | apply Keeps.set | apply Keeps.put | apply Keeps.raise
    | apply Keeps.ite | refine Keeps.foldl ?_ ?_ _ | split | dsimp only
    | (apply Keeps.upd (k := 5) <;> first | with_unfolding_all rfl | skip)

theorem showDegraded {allowed : Nat} {s0 s : State} (h : Keeps allowed s0 s) (k : Nat)
    (hm : sub 5 allowed := by exact sub_trans (by assumption) (by decide)) :
    Keeps allowed s0 (State.showDegraded s k) := by
  unfold State.showDegraded
  with_reducible repeat' first
    | (intro _) | assumption | exact sub_trans hm (by decide) | apply Keeps.put | apply Keeps.raise | apply Keeps.ite
    | refine Keeps.foldl ?_ ?_ _ | split | dsimp only | (apply Keeps.upd (k := 5) <;> first | with_unfolding_all rfl | skip)

theorem sendProbes {allowed : Nat} {s0 s : State} (h : Keeps allowed s0 s) (k : Nat)
    (hm : sub 1179648 allowed := by exact sub_trans (by assumption) (by decide)) :
    Keeps allowed s0 (State.sendProbes s k) := by
  unfold State.sendProbes
  with_reducible repeat' first
    | (intro _) | assumption | exact sub_trans hm (by decide) | apply Keeps.setKl | apply Keeps.send | apply Keeps.ite
    | refine Keeps.foldl ?_ ?_ _ | split | dsimp only
    | (apply Keeps.upd (k := 1179648) <;> first | with_unfolding_all rfl | skip)

theorem giveL1 {allowed : Nat} {s0 s : State} (h : Keeps allowed s0 s) (k : Nat)
    (hm : sub 1179648 allowed := by exact sub_trans (by assumption) (by decide)) :
    Keeps allowed s0 (State.giveL1 s k) := by
  unfold State.giveL1
  with_reducible repeat' first
    | (intro _) | assumption | exact sub_trans hm (by decide) | apply Keeps.send | apply Keeps.setKl | apply Keeps.ite
    | refine Keeps.foldl ?_ ?_ _ | split | dsimp only
    | (apply Keeps.upd (k := 1179648) <;> first | with_unfolding_all rfl | skip)

theorem portComesUp {allowed : Nat} {s0 s : State} (h : Keeps allowed s0 s) (k : Nat)
    (hm : sub 1441797 allowed := by exact sub_trans (by assumption) (by decide)) :
    Keeps allowed s0 (State.portComesUp s k) := by
  unfold State.portComesUp
  with_reducible repeat' first
    | (intro _) | assumption | exact sub_trans hm (by decide) | apply Keeps.set | apply Keeps.setKl | apply Keeps.raise
    | apply Keeps.setBit | apply Keeps.giveL1 | apply Keeps.showDegraded | apply Keeps.setAgentSt | apply Keeps.ite
    | refine Keeps.foldl ?_ ?_ _ | split | dsimp only
    | (apply Keeps.upd (k := 1441797) <;> first | with_unfolding_all rfl | skip)

theorem startLinkRetrain {allowed : Nat} {s0 s : State} (h : Keeps allowed s0 s) (k : Nat) (trigger : Nat)
    (hm : sub 1179649 allowed := by exact sub_trans (by assumption) (by decide)) :
    Keeps allowed s0 (State.startLinkRetrain s k trigger) := by
  unfold State.startLinkRetrain
  with_reducible repeat' first
    | (intro _) | assumption | exact sub_trans hm (by decide) | apply Keeps.bump | apply Keeps.set | apply Keeps.setKl
    | apply Keeps.sendProbes | apply Keeps.ite | refine Keeps.foldl ?_ ?_ _ | split | dsimp only
    | (apply Keeps.upd (k := 1179649) <;> first | with_unfolding_all rfl | skip)

theorem shiftTimers {allowed : Nat} {s0 s : State} (h : Keeps allowed s0 s) (k : Nat)
    (hm : sub 262144 allowed := by exact sub_trans (by assumption) (by decide)) :
    Keeps allowed s0 (State.shiftTimers s k) := by
  unfold State.shiftTimers
  with_reducible repeat' first
    | (intro _) | assumption | exact sub_trans hm (by decide) | apply Keeps.ite | refine Keeps.foldl ?_ ?_ _ | split
    | dsimp only | (apply Keeps.upd (k := 262144) <;> first | with_unfolding_all rfl | skip)

theorem replayFrom {allowed : Nat} {s0 s : State} (h : Keeps allowed s0 s) (k : Nat) (seq : Nat)
    (hm : sub 1179653 allowed := by exact sub_trans (by assumption) (by decide)) :
    Keeps allowed s0 (State.replayFrom s k seq) := by
  unfold State.replayFrom
  with_reducible repeat' first
    | (intro _) | assumption | exact sub_trans hm (by decide) | apply Keeps.setKl | apply Keeps.send | apply Keeps.cKl
    | apply Keeps.bump | apply Keeps.startLinkRetrain | apply Keeps.ite | refine Keeps.foldl ?_ ?_ _ | split | dsimp only
    | (apply Keeps.upd (k := 1179653) <;> first | with_unfolding_all rfl | skip)

theorem takeAck {allowed : Nat} {s0 s : State} (h : Keeps allowed s0 s) (k : Nat) (f : Flit)
    (hm : sub 1441797 allowed := by exact sub_trans (by assumption) (by decide)) :
    Keeps allowed s0 (State.takeAck s k f) := by
  unfold State.takeAck
  with_reducible repeat' first
    | (intro _) | assumption | exact sub_trans hm (by decide) | apply Keeps.showCredits | apply Keeps.setKl
    | apply Keeps.replayFrom | apply Keeps.klPump | apply Keeps.ite | refine Keeps.foldl ?_ ?_ _ | split | dsimp only
    | (apply Keeps.upd (k := 1441797) <;> first | with_unfolding_all rfl | skip)

theorem flitIn {allowed : Nat} {s0 s : State} (h : Keeps allowed s0 s) (k : Nat) (f : Flit) (g : State → State) (hg : ∀ t, Keeps allowed s0 t → Keeps allowed s0 (g t))
    (hm : sub 4186111 allowed := by exact sub_trans (by assumption) (by decide)) :
    Keeps allowed s0 (State.flitIn s k f g) := by
  unfold State.flitIn
  with_reducible repeat' first
    | (intro _) | assumption | exact sub_trans hm (by decide) | apply hg | apply Keeps.protocolError | apply Keeps.takeAck
    | apply Keeps.cKl | apply Keeps.ite | refine Keeps.foldl ?_ ?_ _ | split | dsimp only
    | (apply Keeps.upd (k := 4186111) <;> first | with_unfolding_all rfl | skip)

theorem takeSlots {allowed : Nat} {s0 s : State} (h : Keeps allowed s0 s) (k : Nat) (l : List Nat)
    (hm : sub 4186111 allowed := by exact sub_trans (by assumption) (by decide)) :
    Keeps allowed s0 (State.takeSlots s k l) := by
  unfold State.takeSlots
  with_reducible repeat' first
    | (intro _) | assumption | exact sub_trans hm (by decide) | apply Keeps.protocolError | apply Keeps.drew | apply Keeps.raise
    | apply Keeps.cKl | apply Keeps.traffic | apply Keeps.setKl | apply Keeps.ite | refine Keeps.foldl ?_ ?_ _ | split
    | dsimp only | (apply Keeps.upd (k := 4186111) <;> first | with_unfolding_all rfl | skip)

theorem setNak {allowed : Nat} {s0 s : State} (h : Keeps allowed s0 s) (k : Nat)
    (hm : sub 131073 allowed := by exact sub_trans (by assumption) (by decide)) :
    Keeps allowed s0 (State.setNak s k) := by
  unfold State.setNak
  with_reducible repeat' first
    | (intro _) | assumption | exact sub_trans hm (by decide) | apply Keeps.bump | apply Keeps.setKl | apply Keeps.ite
    | refine Keeps.foldl ?_ ?_ _ | split | dsimp only
    | (apply Keeps.upd (k := 131073) <;> first | with_unfolding_all rfl | skip)

theorem takePayload {allowed : Nat} {s0 s : State} (h : Keeps allowed s0 s) (k : Nat) (f : Flit)
    (hm : sub 4186111 allowed := by exact sub_trans (by assumption) (by decide)) :
    Keeps allowed s0 (State.takePayload s k f) := by
  unfold State.takePayload
  with_reducible repeat' first
    | (intro _) | assumption | exact sub_trans hm (by decide) | apply Keeps.setKl | apply Keeps.takeSlots | apply Keeps.setNak
    | apply Keeps.ite | refine Keeps.foldl ?_ ?_ _ | split | dsimp only
    | (apply Keeps.upd (k := 4186111) <;> first | with_unfolding_all rfl | skip)

theorem leaveL1 {allowed : Nat} {s0 s : State} (h : Keeps allowed s0 s) (k : Nat)
    (hm : sub 1441799 allowed := by exact sub_trans (by assumption) (by decide)) :
    Keeps allowed s0 (State.leaveL1 s k) := by
  unfold State.leaveL1
  with_reducible repeat' first
    | (intro _) | assumption | exact sub_trans hm (by decide) | apply Keeps.set | apply Keeps.shiftTimers | apply Keeps.setKl
    | apply Keeps.klPump | apply Keeps.sendTime | apply Keeps.ite | refine Keeps.foldl ?_ ?_ _ | split | dsimp only
    | (apply Keeps.upd (k := 1441799) <;> first | with_unfolding_all rfl | skip)

theorem runKiliusTrainingStart {allowed : Nat} {s0 s : State} (h : Keeps allowed s0 s) (port : Nat)
    (hm : sub 131073 allowed := by exact sub_trans (by assumption) (by decide)) :
    KeepsOut allowed s0 (execKiliusTrainingStart port s) := by
  unfold execKiliusTrainingStart
  refine Keeps.next ?_
  with_reducible repeat' first
    | (intro _) | assumption | exact sub_trans hm (by decide) | apply Keeps.beginTraining | apply Keeps.ite
    | refine Keeps.foldl ?_ ?_ _ | split | dsimp only
    | (apply Keeps.upd (k := 131073) <;> first | with_unfolding_all rfl | skip)

theorem runKiliusTrainingStep {allowed : Nat} {s0 s : State} (h : Keeps allowed s0 s) (port : Nat) (id : BitVec 64) (lanes : LaneTest)
    (hm : sub 4186111 allowed := by exact sub_trans (by assumption) (by decide)) :
    KeepsOut allowed s0 (execKiliusTrainingStep port id lanes s) := by
  unfold execKiliusTrainingStep
  refine Keeps.next ?_
  with_reducible repeat' first
    | (intro _) | assumption | exact sub_trans hm (by decide) | apply Keeps.set | apply Keeps.setReg | apply Keeps.linkLost
    | apply Keeps.raise | refine Keeps.testLanes ?_ (e := by assumption) | apply Keeps.attemptFails | apply Keeps.setKl
    | apply Keeps.send | apply Keeps.sendProbes | apply Keeps.portComesUp | apply Keeps.ite | refine Keeps.foldl ?_ ?_ _ | split
    | dsimp only | (apply Keeps.upd (k := 4186111) <;> first | with_unfolding_all rfl | skip)

theorem runKiliusTrainingStepFail {allowed : Nat} {s0 s : State} (h : Keeps allowed s0 s) (port : Nat)
    (hm : sub 4186111 allowed := by exact sub_trans (by assumption) (by decide)) :
    KeepsOut allowed s0 (execKiliusTrainingStepFail port s) := by
  unfold execKiliusTrainingStepFail
  refine Keeps.next ?_
  with_reducible repeat' first
    | (intro _) | assumption | exact sub_trans hm (by decide) | apply Keeps.send | apply Keeps.setKl | apply Keeps.attemptFails
    | apply Keeps.ite | refine Keeps.foldl ?_ ?_ _ | split | dsimp only
    | (apply Keeps.upd (k := 4186111) <;> first | with_unfolding_all rfl | skip)

theorem runTrainingBackoff {allowed : Nat} {s0 s : State} (h : Keeps allowed s0 s) (port : Nat)
    (hm : sub 1179649 allowed := by exact sub_trans (by assumption) (by decide)) :
    KeepsOut allowed s0 (execTrainingBackoff port s) := by
  unfold execTrainingBackoff
  refine Keeps.next ?_
  with_reducible repeat' first
    | (intro _) | assumption | exact sub_trans hm (by decide) | apply Keeps.beginTraining | apply Keeps.sendProbes
    | apply Keeps.setKl | apply Keeps.ite | refine Keeps.foldl ?_ ?_ _ | split | dsimp only
    | (apply Keeps.upd (k := 1179649) <;> first | with_unfolding_all rfl | skip)

theorem runAlign {allowed : Nat} {s0 s : State} (h : Keeps allowed s0 s) (port : Nat) (flit : Flit)
    (hm : sub 4186111 allowed := by exact sub_trans (by assumption) (by decide)) :
    KeepsOut allowed s0 (execAlign port flit s) := by
  unfold execAlign
  refine Keeps.next ?_
  with_reducible repeat' first
    | (intro _) | assumption | exact sub_trans hm (by decide) | apply Keeps.protocolError | apply Keeps.bump | apply Keeps.setKl
    | apply Keeps.send | apply Keeps.ite | refine Keeps.foldl ?_ ?_ _ | split | dsimp only
    | (apply Keeps.upd (k := 4186111) <;> first | with_unfolding_all rfl | skip)

theorem runDelayprobe {allowed : Nat} {s0 s : State} (h : Keeps allowed s0 s) (port : Nat) (flit : Flit)
    (hm : sub 4186111 allowed := by exact sub_trans (by assumption) (by decide)) :
    KeepsOut allowed s0 (execDelayprobe port flit s) := by
  unfold execDelayprobe
  refine Keeps.next ?_
  with_reducible repeat' first
    | (intro _) | assumption | exact sub_trans hm (by decide) | apply Keeps.protocolError | apply Keeps.drew | apply Keeps.send
    | apply Keeps.ite | refine Keeps.foldl ?_ ?_ _ | split | dsimp only
    | (apply Keeps.upd (k := 4186111) <;> first | with_unfolding_all rfl | skip)

theorem runDelayecho {allowed : Nat} {s0 s : State} (h : Keeps allowed s0 s) (port : Nat) (flit : Flit) (roundTripPs : Nat)
    (hm : sub 4186111 allowed := by exact sub_trans (by assumption) (by decide)) :
    KeepsOut allowed s0 (execDelayecho port flit roundTripPs s) := by
  unfold execDelayecho
  refine Keeps.next ?_
  with_reducible repeat' first
    | (intro _) | assumption | exact sub_trans hm (by decide) | apply Keeps.protocolError | apply Keeps.setKl | apply Keeps.ite
    | refine Keeps.foldl ?_ ?_ _ | split | dsimp only
    | (apply Keeps.upd (k := 4186111) <;> first | with_unfolding_all rfl | skip)

theorem runPmreq {allowed : Nat} {s0 s : State} (h : Keeps allowed s0 s) (port : Nat) (flit : Flit)
    (hm : sub 4186111 allowed := by exact sub_trans (by assumption) (by decide)) :
    KeepsOut allowed s0 (execPmreq port flit s) := by
  unfold execPmreq
  refine Keeps.next ?_
  with_reducible repeat' first
    | (intro _) | assumption | exact sub_trans hm (by decide) | apply Keeps.flitIn | apply Keeps.set | apply Keeps.send
    | apply Keeps.setKl | apply Keeps.ite | refine Keeps.foldl ?_ ?_ _ | split | dsimp only
    | (apply Keeps.upd (k := 4186111) <;> first | with_unfolding_all rfl | skip)

theorem runPmack {allowed : Nat} {s0 s : State} (h : Keeps allowed s0 s) (port : Nat) (flit : Flit)
    (hm : sub 4186111 allowed := by exact sub_trans (by assumption) (by decide)) :
    KeepsOut allowed s0 (execPmack port flit s) := by
  unfold execPmack
  refine Keeps.next ?_
  with_reducible repeat' first
    | (intro _) | assumption | exact sub_trans hm (by decide) | apply Keeps.flitIn | apply Keeps.setKl | apply Keeps.set
    | apply Keeps.freshPort | apply Keeps.ite | refine Keeps.foldl ?_ ?_ _ | split | dsimp only
    | (apply Keeps.upd (k := 4186111) <;> first | with_unfolding_all rfl | skip)

theorem runPmnak {allowed : Nat} {s0 s : State} (h : Keeps allowed s0 s) (port : Nat) (flit : Flit)
    (hm : sub 4186111 allowed := by exact sub_trans (by assumption) (by decide)) :
    KeepsOut allowed s0 (execPmnak port flit s) := by
  unfold execPmnak
  refine Keeps.next ?_
  with_reducible repeat' first
    | (intro _) | assumption | exact sub_trans hm (by decide) | apply Keeps.flitIn | apply Keeps.setKl | apply Keeps.ite
    | refine Keeps.foldl ?_ ?_ _ | split | dsimp only
    | (apply Keeps.upd (k := 4186111) <;> first | with_unfolding_all rfl | skip)

theorem runDownnotice {allowed : Nat} {s0 s : State} (h : Keeps allowed s0 s) (port : Nat) (flit : Flit)
    (hm : sub 4186111 allowed := by exact sub_trans (by assumption) (by decide)) :
    KeepsOut allowed s0 (execDownnotice port flit s) := by
  unfold execDownnotice
  refine Keeps.next ?_
  with_reducible repeat' first
    | (intro _) | assumption | exact sub_trans hm (by decide) | apply Keeps.protocolError | apply Keeps.linkLost
    | apply Keeps.ite | refine Keeps.foldl ?_ ?_ _ | split | dsimp only
    | (apply Keeps.upd (k := 4186111) <;> first | with_unfolding_all rfl | skip)

theorem runPmreqRetry {allowed : Nat} {s0 s : State} (h : Keeps allowed s0 s) (port : Nat)
    (hm : sub 1179648 allowed := by exact sub_trans (by assumption) (by decide)) :
    KeepsOut allowed s0 (execPmreqRetry port s) := by
  unfold execPmreqRetry
  refine Keeps.next ?_
  with_reducible repeat' first
    | (intro _) | assumption | exact sub_trans hm (by decide) | apply Keeps.send | apply Keeps.setKl | apply Keeps.ite
    | refine Keeps.foldl ?_ ?_ _ | split | dsimp only
    | (apply Keeps.upd (k := 1179648) <;> first | with_unfolding_all rfl | skip)

theorem runPayloadFlit {allowed : Nat} {s0 s : State} (h : Keeps allowed s0 s) (port : Nat) (flit : Flit)
    (hm : sub 4186111 allowed := by exact sub_trans (by assumption) (by decide)) :
    KeepsOut allowed s0 (execPayloadFlit port flit s) := by
  unfold execPayloadFlit
  refine Keeps.next ?_
  with_reducible repeat' first
    | (intro _) | assumption | exact sub_trans hm (by decide) | apply Keeps.flitIn | apply Keeps.takePayload | apply Keeps.ite
    | refine Keeps.foldl ?_ ?_ _ | split | dsimp only
    | (apply Keeps.upd (k := 4186111) <;> first | with_unfolding_all rfl | skip)

theorem runIdleFlit {allowed : Nat} {s0 s : State} (h : Keeps allowed s0 s) (port : Nat) (flit : Flit)
    (hm : sub 4186111 allowed := by exact sub_trans (by assumption) (by decide)) :
    KeepsOut allowed s0 (execIdleFlit port flit s) := by
  unfold execIdleFlit
  refine Keeps.next ?_
  with_reducible repeat' first
    | (intro _) | assumption | exact sub_trans hm (by decide) | apply Keeps.flitIn | apply Keeps.bump | apply Keeps.ite
    | refine Keeps.foldl ?_ ?_ _ | split | dsimp only
    | (apply Keeps.upd (k := 4186111) <;> first | with_unfolding_all rfl | skip)

theorem runFlitCrcError {allowed : Nat} {s0 s : State} (h : Keeps allowed s0 s) (port : Nat) (bytes : List (BitVec 8))
    (hm : sub 1179653 allowed := by exact sub_trans (by assumption) (by decide)) :
    KeepsOut allowed s0 (execFlitCrcError port bytes s) := by
  unfold execFlitCrcError
  refine Keeps.next ?_
  with_reducible repeat' first
    | (intro _) | assumption | exact sub_trans hm (by decide) | apply Keeps.bump | apply Keeps.setKl | apply Keeps.setNak
    | apply Keeps.startLinkRetrain | apply Keeps.raise | apply Keeps.ite | refine Keeps.foldl ?_ ?_ _ | split | dsimp only
    | (apply Keeps.upd (k := 1179653) <;> first | with_unfolding_all rfl | skip)

theorem runAckTimeout {allowed : Nat} {s0 s : State} (h : Keeps allowed s0 s) (port : Nat)
    (hm : sub 1179653 allowed := by exact sub_trans (by assumption) (by decide)) :
    KeepsOut allowed s0 (execAckTimeout port s) := by
  unfold execAckTimeout
  refine Keeps.next ?_
  with_reducible repeat' first
    | (intro _) | assumption | exact sub_trans hm (by decide) | apply Keeps.replayFrom | apply Keeps.ite
    | refine Keeps.foldl ?_ ?_ _ | split | dsimp only
    | (apply Keeps.upd (k := 1179653) <;> first | with_unfolding_all rfl | skip)

theorem runKlRetrain {allowed : Nat} {s0 s : State} (h : Keeps allowed s0 s) (port : Nat)
    (hm : sub 1179649 allowed := by exact sub_trans (by assumption) (by decide)) :
    KeepsOut allowed s0 (execKlRetrain port s) := by
  unfold execKlRetrain
  refine Keeps.next ?_
  with_reducible repeat' first
    | (intro _) | assumption | exact sub_trans hm (by decide) | apply Keeps.startLinkRetrain | apply Keeps.beginTraining
    | apply Keeps.ite | refine Keeps.foldl ?_ ?_ _ | split | dsimp only
    | (apply Keeps.upd (k := 1179649) <;> first | with_unfolding_all rfl | skip)

theorem runKlDisable {allowed : Nat} {s0 s : State} (h : Keeps allowed s0 s) (port : Nat) (disable : Bool)
    (hm : sub 4186111 allowed := by exact sub_trans (by assumption) (by decide)) :
    KeepsOut allowed s0 (execKlDisable port disable s) := by
  unfold execKlDisable
  refine Keeps.next ?_
  with_reducible repeat' first
    | (intro _) | assumption | exact sub_trans hm (by decide) | apply Keeps.put | apply Keeps.linkLost | apply Keeps.ite
    | refine Keeps.foldl ?_ ?_ _ | split | dsimp only
    | (apply Keeps.upd (k := 4186111) <;> first | with_unfolding_all rfl | skip)

theorem retrained {allowed : Nat} {s0 s : State} (h : Keeps allowed s0 s) (k : Nat) (d : Nat)
    (hm : sub 393221 allowed := by exact sub_trans (by assumption) (by decide)) :
    Keeps allowed s0 (State.retrained s k d) := by
  unfold State.retrained
  with_reducible repeat' first
    | (intro _) | assumption | exact sub_trans hm (by decide) | apply Keeps.set | apply Keeps.shiftTimers | apply Keeps.raise
    | apply Keeps.showDegraded | apply Keeps.setKl | apply Keeps.ite | refine Keeps.foldl ?_ ?_ _ | split | dsimp only
    | (apply Keeps.upd (k := 393221) <;> first | with_unfolding_all rfl | skip)

theorem replayAll {allowed : Nat} {s0 s : State} (h : Keeps allowed s0 s) (k : Nat)
    (hm : sub 1179653 allowed := by exact sub_trans (by assumption) (by decide)) :
    Keeps allowed s0 (State.replayAll s k) := by
  unfold State.replayAll
  with_reducible repeat' first
    | (intro _) | assumption | exact sub_trans hm (by decide) | apply Keeps.replayFrom | apply Keeps.ite
    | refine Keeps.foldl ?_ ?_ _ | split | dsimp only
    | (apply Keeps.upd (k := 1179653) <;> first | with_unfolding_all rfl | skip)

theorem trained? {allowed : Nat} {s0 s : State} (h : Keeps allowed s0 s) {k : Nat} {success : Bool} {lanes : LaneTest} {t0 : State}
    (e : (State.trained? s k success lanes) = some t0)
    (hm : sub 5 allowed := by exact sub_trans (by assumption) (by decide)) : Keeps allowed s0 t0 := by
  unfold State.trained? at e
  split at e
  · exact h.testLanes e
  · contradiction

theorem runRetrainingComplete {allowed : Nat} {s0 s : State} (h : Keeps allowed s0 s) (port : Nat) (success : Bool) (id : BitVec 64) (lanes : LaneTest)
    (hm : sub 4186111 allowed := by exact sub_trans (by assumption) (by decide)) :
    KeepsOut allowed s0 (execRetrainingComplete port success id lanes s) := by
  unfold execRetrainingComplete
  refine Keeps.next ?_
  with_reducible repeat' first
    | (intro _) | assumption | exact sub_trans hm (by decide) | apply Keeps.linkLost | apply Keeps.raise
    | refine Keeps.trained? ?_ (e := by assumption) | apply Keeps.attemptFails | apply Keeps.klPump | apply Keeps.replayAll
    | apply Keeps.retrained | apply Keeps.ite | refine Keeps.foldl ?_ ?_ _ | split | dsimp only
    | (apply Keeps.upd (k := 4186111) <;> first | with_unfolding_all rfl | skip)

theorem runL1IdleTimer {allowed : Nat} {s0 s : State} (h : Keeps allowed s0 s) (port : Nat)
    (hm : sub 1179648 allowed := by exact sub_trans (by assumption) (by decide)) :
    KeepsOut allowed s0 (execL1IdleTimer port s) := by
  unfold execL1IdleTimer
  refine Keeps.next ?_
  with_reducible repeat' first
    | (intro _) | assumption | exact sub_trans hm (by decide) | apply Keeps.send | apply Keeps.setKl | apply Keeps.ite
    | refine Keeps.foldl ?_ ?_ _ | split | dsimp only
    | (apply Keeps.upd (k := 1179648) <;> first | with_unfolding_all rfl | skip)

theorem runL1Exit {allowed : Nat} {s0 s : State} (h : Keeps allowed s0 s) (port : Nat) (asked : Bool) (success : Bool)
    (hm : sub 1441799 allowed := by exact sub_trans (by assumption) (by decide)) :
    KeepsOut allowed s0 (execL1Exit port asked success s) := by
  unfold execL1Exit
  refine Keeps.next ?_
  with_reducible repeat' first
    | (intro _) | assumption | exact sub_trans hm (by decide) | apply Keeps.leaveL1 | apply Keeps.startLinkRetrain
    | apply Keeps.ite | refine Keeps.foldl ?_ ?_ _ | split | dsimp only
    | (apply Keeps.upd (k := 1441799) <;> first | with_unfolding_all rfl | skip)

theorem runSidebandLoss {allowed : Nat} {s0 s : State} (h : Keeps allowed s0 s) (port : Nat)
    (hm : sub 4186111 allowed := by exact sub_trans (by assumption) (by decide)) :
    KeepsOut allowed s0 (execSidebandLoss port s) := by
  unfold execSidebandLoss
  refine Keeps.next ?_
  with_reducible repeat' first
    | (intro _) | assumption | exact sub_trans hm (by decide) | apply Keeps.linkLost | apply Keeps.ite
    | refine Keeps.foldl ?_ ?_ _ | split | dsimp only
    | (apply Keeps.upd (k := 4186111) <;> first | with_unfolding_all rfl | skip)

theorem runPhyretrainRequest {allowed : Nat} {s0 s : State} (h : Keeps allowed s0 s) (port : Nat)
    (hm : sub 1179649 allowed := by exact sub_trans (by assumption) (by decide)) :
    KeepsOut allowed s0 (execPhyretrainRequest port s) := by
  unfold execPhyretrainRequest
  refine Keeps.next ?_
  with_reducible repeat' first
    | (intro _) | assumption | exact sub_trans hm (by decide) | apply Keeps.startLinkRetrain | apply Keeps.ite
    | refine Keeps.foldl ?_ ?_ _ | split | dsimp only
    | (apply Keeps.upd (k := 1179649) <;> first | with_unfolding_all rfl | skip)

end Keeps

end Sys2Proof.Machine
end

