-- ==== Sys2Proof/Laws/KeepsLife.lean ====
section
/-!
SUPPORT. Every operation keeps what `Keeps` says: power, agents, the host path and the life cycle.  One lemma per operation, named after it; `run<X>` is the lemma of
the meaning `exec<X>`.
-/
set_option Elab.async false
set_option linter.unusedTactic false
set_option linter.unreachableTactic false

namespace Sys2Proof.Machine
namespace Keeps

theorem setEn {allowed : Nat} {s0 s : State} (h : Keeps allowed s0 s) (l : List Nat) (on : Bool)
    (hm : sub 1 allowed := by exact sub_trans (by assumption) (by decide)) :
    Keeps allowed s0 (State.setEn s l on) := by
  unfold State.setEn
  with_reducible repeat' first
    | (intro _) | assumption | exact sub_trans hm (by decide) | apply Keeps.setBit | apply Keeps.ite
    | refine Keeps.foldl ?_ ?_ _ | split | dsimp only | (apply Keeps.upd (k := 1) <;> first | with_unfolding_all rfl | skip)

theorem setPg {allowed : Nat} {s0 s : State} (h : Keeps allowed s0 s) (l : List Nat) (on : Bool)
    (hm : sub 1 allowed := by exact sub_trans (by assumption) (by decide)) :
    Keeps allowed s0 (State.setPg s l on) := by
  unfold State.setPg
  with_reducible repeat' first
    | (intro _) | assumption | exact sub_trans hm (by decide) | apply Keeps.setBit | apply Keeps.ite
    | refine Keeps.foldl ?_ ?_ _ | split | dsimp only | (apply Keeps.upd (k := 1) <;> first | with_unfolding_all rfl | skip)

theorem railFault {allowed : Nat} {s0 s : State} (h : Keeps allowed s0 s) (rail : Nat) (kind : Nat)
    (hm : sub 1 allowed := by exact sub_trans (by assumption) (by decide)) :
    Keeps allowed s0 (State.railFault s rail kind) := by
  unfold State.railFault
  with_reducible repeat' first
    | (intro _) | assumption | exact sub_trans hm (by decide) | apply Keeps.set | apply Keeps.put | apply Keeps.ite
    | refine Keeps.foldl ?_ ?_ _ | split | dsimp only | (apply Keeps.upd (k := 1) <;> first | with_unfolding_all rfl | skip)

theorem enableStep {allowed : Nat} {s0 s : State} (h : Keeps allowed s0 s) (k : Nat)
    (hm : sub 524289 allowed := by exact sub_trans (by assumption) (by decide)) :
    Keeps allowed s0 (State.enableStep s k) := by
  unfold State.enableStep
  with_reducible repeat' first
    | (intro _) | assumption | exact sub_trans hm (by decide) | apply Keeps.set | apply Keeps.setEn | apply Keeps.ite
    | refine Keeps.foldl ?_ ?_ _ | split | dsimp only
    | (apply Keeps.upd (k := 524289) <;> first | with_unfolding_all rfl | skip)

theorem railsLow {allowed : Nat} {s0 s : State} (h : Keeps allowed s0 s)
    (hm : sub 1 allowed := by exact sub_trans (by assumption) (by decide)) :
    Keeps allowed s0 (State.railsLow s) := by
  unfold State.railsLow
  with_reducible repeat' first
    | (intro _) | assumption | exact sub_trans hm (by decide) | apply Keeps.set | apply Keeps.ite | refine Keeps.foldl ?_ ?_ _
    | split | dsimp only | (apply Keeps.upd (k := 1) <;> first | with_unfolding_all rfl | skip)

theorem latchOff {allowed : Nat} {s0 s : State} (h : Keeps allowed s0 s)
    (hm : sub 1 allowed := by exact sub_trans (by assumption) (by decide)) :
    Keeps allowed s0 (State.latchOff s) := by
  unfold State.latchOff
  with_reducible repeat' first
    | (intro _) | assumption | exact sub_trans hm (by decide) | apply Keeps.safeMode | apply Keeps.set | apply Keeps.ite
    | refine Keeps.foldl ?_ ?_ _ | split | dsimp only | (apply Keeps.upd (k := 1) <;> first | with_unfolding_all rfl | skip)

theorem powerDownEnds {allowed : Nat} {s0 s : State} (h : Keeps allowed s0 s)
    (hm : sub 532485 allowed := by exact sub_trans (by assumption) (by decide)) :
    Keeps allowed s0 (State.powerDownEnds s) := by
  unfold State.powerDownEnds
  with_reducible repeat' first
    | (intro _) | assumption | exact sub_trans hm (by decide) | apply Keeps.latchOff | apply Keeps.spreadInc | apply Keeps.raise
    | apply Keeps.set | apply Keeps.ite | refine Keeps.foldl ?_ ?_ _ | split | dsimp only
    | (apply Keeps.upd (k := 532485) <;> first | with_unfolding_all rfl | skip)

theorem dropTop {allowed : Nat} {s0 s : State} (h : Keeps allowed s0 s)
    (hm : sub 532485 allowed := by exact sub_trans (by assumption) (by decide)) :
    Keeps allowed s0 (State.dropTop s) := by
  unfold State.dropTop
  with_reducible repeat' first
    | (intro _) | assumption | exact sub_trans hm (by decide) | apply Keeps.powerDownEnds | apply Keeps.set | apply Keeps.setEn
    | apply Keeps.ite | refine Keeps.foldl ?_ ?_ _ | split | dsimp only
    | (apply Keeps.upd (k := 532485) <;> first | with_unfolding_all rfl | skip)

theorem nextDown {allowed : Nat} {s0 s : State} (h : Keeps allowed s0 s)
    (hm : sub 532485 allowed := by exact sub_trans (by assumption) (by decide)) :
    Keeps allowed s0 (State.nextDown s) := by
  unfold State.nextDown
  with_reducible repeat' first
    | (intro _) | assumption | exact sub_trans hm (by decide) | apply Keeps.dropTop | apply Keeps.ite
    | refine Keeps.foldl ?_ ?_ _ | split | dsimp only
    | (apply Keeps.upd (k := 532485) <;> first | with_unfolding_all rfl | skip)

theorem powerDown {allowed : Nat} {s0 s : State} (h : Keeps allowed s0 s) (after : Nat)
    (hm : sub 3145343 allowed := by exact sub_trans (by assumption) (by decide)) :
    Keeps allowed s0 (State.powerDown s after) := by
  unfold State.powerDown
  with_reducible repeat' first
    | (intro _) | assumption | exact sub_trans hm (by decide) | apply Keeps.resetDies | apply Keeps.dropTop | apply Keeps.set
    | apply Keeps.ite | refine Keeps.foldl ?_ ?_ _ | split | dsimp only
    | (apply Keeps.upd (k := 3145343) <;> first | with_unfolding_all rfl | skip)

theorem abortSequence {allowed : Nat} {s0 s : State} (h : Keeps allowed s0 s) (rail : Nat) (kind : Nat)
    (hm : sub 3145343 allowed := by exact sub_trans (by assumption) (by decide)) :
    Keeps allowed s0 (State.abortSequence s rail kind) := by
  unfold State.abortSequence
  with_reducible repeat' first
    | (intro _) | assumption | exact sub_trans hm (by decide) | apply Keeps.railFault | apply Keeps.spreadInc
    | apply Keeps.raise | apply Keeps.powerDown | apply Keeps.ite | refine Keeps.foldl ?_ ?_ _ | split | dsimp only
    | (apply Keeps.upd (k := 3145343) <;> first | with_unfolding_all rfl | skip)

theorem setProvisional {allowed : Nat} {s0 s : State} (h : Keeps allowed s0 s)
    (hm : sub 1 allowed := by exact sub_trans (by assumption) (by decide)) :
    Keeps allowed s0 (State.setProvisional s) := by
  unfold State.setProvisional
  with_reducible repeat' first
    | (intro _) | assumption | exact sub_trans hm (by decide) | apply Keeps.put | apply Keeps.set | apply Keeps.ite
    | refine Keeps.foldl ?_ ?_ _ | split | dsimp only | (apply Keeps.upd (k := 1) <;> first | with_unfolding_all rfl | skip)

theorem modeAfresh {allowed : Nat} {s0 s : State} (h : Keeps allowed s0 s)
    (hm : sub 524289 allowed := by exact sub_trans (by assumption) (by decide)) :
    Keeps allowed s0 (State.modeAfresh s) := by
  unfold State.modeAfresh
  with_reducible repeat' first
    | (intro _) | assumption | exact sub_trans hm (by decide) | apply Keeps.put | apply Keeps.set | apply Keeps.setReg
    | apply Keeps.ite | refine Keeps.foldl ?_ ?_ _ | split | dsimp only
    | (apply Keeps.upd (k := 524289) <;> first | with_unfolding_all rfl | skip)

theorem startClocks {allowed : Nat} {s0 s : State} (h : Keeps allowed s0 s)
    (hm : sub 2 allowed := by exact sub_trans (by assumption) (by decide)) :
    Keeps allowed s0 (State.startClocks s) := by
  unfold State.startClocks
  with_reducible repeat' first
    | (intro _) | assumption | exact sub_trans hm (by decide) | apply Keeps.ite | refine Keeps.foldl ?_ ?_ _ | split
    | dsimp only | (apply Keeps.upd (k := 2) <;> first | with_unfolding_all rfl | skip)

theorem startSequence {allowed : Nat} {s0 s : State} (h : Keeps allowed s0 s)
    (hm : sub 524288 allowed := by exact sub_trans (by assumption) (by decide)) :
    Keeps allowed s0 (State.startSequence s) := by
  unfold State.startSequence
  with_reducible repeat' first
    | (intro _) | assumption | exact sub_trans hm (by decide) | apply Keeps.ite | refine Keeps.foldl ?_ ?_ _ | split
    | dsimp only | (apply Keeps.upd (k := 524288) <;> first | with_unfolding_all rfl | skip)

theorem sinceNow {allowed : Nat} {s0 s : State} (h : Keeps allowed s0 s)
    (hm : sub 524288 allowed := by exact sub_trans (by assumption) (by decide)) :
    Keeps allowed s0 (State.sinceNow s) := by
  unfold State.sinceNow
  with_reducible repeat' first
    | (intro _) | assumption | exact sub_trans hm (by decide) | apply Keeps.ite | refine Keeps.foldl ?_ ?_ _ | split
    | dsimp only | (apply Keeps.upd (k := 524288) <;> first | with_unfolding_all rfl | skip)

theorem endHold {allowed : Nat} {s0 s : State} (h : Keeps allowed s0 s)
    (hm : sub 524288 allowed := by exact sub_trans (by assumption) (by decide)) :
    Keeps allowed s0 (State.endHold s) := by
  unfold State.endHold
  with_reducible repeat' first
    | (intro _) | assumption | exact sub_trans hm (by decide) | apply Keeps.ite | refine Keeps.foldl ?_ ?_ _ | split
    | dsimp only | (apply Keeps.upd (k := 524288) <;> first | with_unfolding_all rfl | skip)

theorem powerOn {allowed : Nat} {s0 s : State} (h : Keeps allowed s0 s) (attempt : Nat) (kind : Nat)
    (hm : sub 3145343 allowed := by exact sub_trans (by assumption) (by decide)) :
    Keeps allowed s0 (State.powerOn s attempt kind) := by
  unfold State.powerOn
  with_reducible repeat' first
    | (intro _) | assumption | exact sub_trans hm (by decide) | apply Keeps.startClocks | apply Keeps.resetDies
    | apply Keeps.spreadInc | apply Keeps.modeAfresh | apply Keeps.setProvisional | apply Keeps.newNonce | apply Keeps.setReg
    | apply Keeps.put | apply Keeps.set | apply Keeps.enableStep | apply Keeps.startSequence | apply Keeps.powerDown
    | apply Keeps.ite | refine Keeps.foldl ?_ ?_ _ | split | dsimp only
    | (apply Keeps.upd (k := 3145343) <;> first | with_unfolding_all rfl | skip)

theorem startTest {allowed : Nat} {s0 s : State} (h : Keeps allowed s0 s) (v0 : Nat)
    (hm : sub 532480 allowed := by exact sub_trans (by assumption) (by decide)) :
    Keeps allowed s0 (State.startTest s v0) := by
  unfold State.startTest
  with_reducible repeat' first
    | (intro _) | assumption | exact sub_trans hm (by decide) | apply Keeps.spreadInc | apply Keeps.ite
    | refine Keeps.foldl ?_ ?_ _ | split | dsimp only
    | (apply Keeps.upd (k := 532480) <;> first | with_unfolding_all rfl | skip)

theorem abortTest {allowed : Nat} {s0 s : State} (h : Keeps allowed s0 s)
    (hm : sub 524289 allowed := by exact sub_trans (by assumption) (by decide)) :
    Keeps allowed s0 (State.abortTest s) := by
  unfold State.abortTest
  with_reducible repeat' first
    | (intro _) | assumption | exact sub_trans hm (by decide) | apply Keeps.put | apply Keeps.ite | refine Keeps.foldl ?_ ?_ _
    | split | dsimp only | (apply Keeps.upd (k := 524289) <;> first | with_unfolding_all rfl | skip)

theorem showFailed {allowed : Nat} {s0 s : State} (h : Keeps allowed s0 s) (n : Nat) (bad : Bool)
    (hm : sub 1 allowed := by exact sub_trans (by assumption) (by decide)) :
    Keeps allowed s0 (State.showFailed s n bad) := by
  unfold State.showFailed
  with_reducible repeat' first
    | (intro _) | assumption | exact sub_trans hm (by decide) | apply Keeps.put | apply Keeps.setBit | apply Keeps.ite
    | refine Keeps.foldl ?_ ?_ _ | split | dsimp only | (apply Keeps.upd (k := 1) <;> first | with_unfolding_all rfl | skip)

theorem countGood {allowed : Nat} {s0 s : State} (h : Keeps allowed s0 s) (n : Nat) (c : Nat)
    (hm : sub 524289 allowed := by exact sub_trans (by assumption) (by decide)) :
    Keeps allowed s0 (State.countGood s n c) := by
  unfold State.countGood
  with_reducible repeat' first
    | (intro _) | assumption | exact sub_trans hm (by decide) | apply Keeps.set | apply Keeps.showFailed | apply Keeps.ite
    | refine Keeps.foldl ?_ ?_ _ | split | dsimp only
    | (apply Keeps.upd (k := 524289) <;> first | with_unfolding_all rfl | skip)

theorem judgeSensor {allowed : Nat} {s0 s : State} (h : Keeps allowed s0 s) (n : Nat) (raw : Int) (x : Nat × Bool)
    (hm : sub 524293 allowed := by exact sub_trans (by assumption) (by decide)) :
    Keeps allowed s0 (State.judgeSensor s n raw x) := by
  unfold State.judgeSensor
  with_reducible repeat' first
    | (intro _) | assumption | exact sub_trans hm (by decide) | apply Keeps.countGood | apply Keeps.raise | apply Keeps.set
    | apply Keeps.showFailed | apply Keeps.ite | refine Keeps.foldl ?_ ?_ _ | split | dsimp only
    | (apply Keeps.upd (k := 524293) <;> first | with_unfolding_all rfl | skip)

theorem noteLonely {allowed : Nat} {s0 s : State} (h : Keeps allowed s0 s) (n : Nat)
    (hm : sub 524292 allowed := by exact sub_trans (by assumption) (by decide)) :
    Keeps allowed s0 (State.noteLonely s n) := by
  unfold State.noteLonely
  with_reducible repeat' first
    | (intro _) | assumption | exact sub_trans hm (by decide) | apply Keeps.raise | apply Keeps.ite | refine Keeps.foldl ?_ ?_ _
    | split | dsimp only | (apply Keeps.upd (k := 524292) <;> first | with_unfolding_all rfl | skip)

theorem valueSensor {allowed : Nat} {s0 s : State} (h : Keeps allowed s0 s) (n : Nat) (raw : Int)
    (hm : sub 524293 allowed := by exact sub_trans (by assumption) (by decide)) :
    Keeps allowed s0 (State.valueSensor s n raw) := by
  unfold State.valueSensor
  with_reducible repeat' first
    | (intro _) | assumption | exact sub_trans hm (by decide) | apply Keeps.put | apply Keeps.set | apply Keeps.noteLonely
    | apply Keeps.ite | refine Keeps.foldl ?_ ?_ _ | split | dsimp only
    | (apply Keeps.upd (k := 524293) <;> first | with_unfolding_all rfl | skip)

theorem showHottest {allowed : Nat} {s0 s : State} (h : Keeps allowed s0 s)
    (hm : sub 1 allowed := by exact sub_trans (by assumption) (by decide)) :
    Keeps allowed s0 (State.showHottest s) := by
  unfold State.showHottest
  with_reducible repeat' first
    | (intro _) | assumption | exact sub_trans hm (by decide) | apply Keeps.set | apply Keeps.ite | refine Keeps.foldl ?_ ?_ _
    | split | dsimp only | (apply Keeps.upd (k := 1) <;> first | with_unfolding_all rfl | skip)

theorem readSensor {allowed : Nat} {s0 s : State} (h : Keeps allowed s0 s) (n : Nat) (raw : Int) (fault : Nat)
    (hm : sub 524293 allowed := by exact sub_trans (by assumption) (by decide)) :
    Keeps allowed s0 (State.readSensor s n raw fault) := by
  unfold State.readSensor
  with_reducible repeat' first
    | (intro _) | assumption | exact sub_trans hm (by decide) | apply Keeps.put | apply Keeps.set | apply Keeps.valueSensor
    | apply Keeps.judgeSensor | apply Keeps.showHottest | apply Keeps.ite | refine Keeps.foldl ?_ ?_ _ | split | dsimp only
    | (apply Keeps.upd (k := 524293) <;> first | with_unfolding_all rfl | skip)

theorem showLevels {allowed : Nat} {s0 s : State} (h : Keeps allowed s0 s)
    (hm : sub 1 allowed := by exact sub_trans (by assumption) (by decide)) :
    Keeps allowed s0 (State.showLevels s) := by
  unfold State.showLevels
  with_reducible repeat' first
    | (intro _) | assumption | exact sub_trans hm (by decide) | apply Keeps.set | apply Keeps.ite | refine Keeps.foldl ?_ ?_ _
    | split | dsimp only | (apply Keeps.upd (k := 1) <;> first | with_unfolding_all rfl | skip)

theorem raiseLevel {allowed : Nat} {s0 s : State} (h : Keeps allowed s0 s) (l : Nat) (minNs : Nat) (sensor : Nat × Nat)
    (hm : sub 524293 allowed := by exact sub_trans (by assumption) (by decide)) :
    Keeps allowed s0 (State.raiseLevel s l minNs sensor) := by
  unfold State.raiseLevel
  with_reducible repeat' first
    | (intro _) | assumption | exact sub_trans hm (by decide) | apply Keeps.raise | apply Keeps.showLevels | apply Keeps.set
    | apply Keeps.ite | refine Keeps.foldl ?_ ?_ _ | split | dsimp only
    | (apply Keeps.upd (k := 524293) <;> first | with_unfolding_all rfl | skip)

theorem trackClear {allowed : Nat} {s0 s : State} (h : Keeps allowed s0 s) (l : Nat)
    (hm : sub 524288 allowed := by exact sub_trans (by assumption) (by decide)) :
    Keeps allowed s0 (State.trackClear s l) := by
  unfold State.trackClear
  with_reducible repeat' first
    | (intro _) | assumption | exact sub_trans hm (by decide) | apply Keeps.ite | refine Keeps.foldl ?_ ?_ _ | split
    | dsimp only | (apply Keeps.upd (k := 524288) <;> first | with_unfolding_all rfl | skip)

theorem ageDie {allowed : Nat} {s0 s : State} (h : Keeps allowed s0 s) (d : Nat)
    (hm : sub 65 allowed := by exact sub_trans (by assumption) (by decide)) :
    Keeps allowed s0 (State.ageDie s d) := by
  unfold State.ageDie
  with_reducible repeat' first
    | (intro _) | assumption | exact sub_trans hm (by decide) | apply Keeps.set | apply Keeps.ite | refine Keeps.foldl ?_ ?_ _
    | split | dsimp only | (apply Keeps.upd (k := 65) <;> first | with_unfolding_all rfl | skip)

theorem retrainByTemp {allowed : Nat} {s0 s : State} (h : Keeps allowed s0 s) (c : Nat)
    (hm : sub 2501 allowed := by exact sub_trans (by assumption) (by decide)) :
    Keeps allowed s0 (State.retrainByTemp s c) := by
  unfold State.retrainByTemp
  with_reducible repeat' first
    | (intro _) | assumption | exact sub_trans hm (by decide) | apply Keeps.startRetrain | apply Keeps.ite
    | refine Keeps.foldl ?_ ?_ _ | split | dsimp only | (apply Keeps.upd (k := 2501) <;> first | with_unfolding_all rfl | skip)

theorem thermalStop {allowed : Nat} {s0 s : State} (h : Keeps allowed s0 s) (n : Nat)
    (hm : sub 534533 allowed := by exact sub_trans (by assumption) (by decide)) :
    Keeps allowed s0 (State.thermalStop s n) := by
  unfold State.thermalStop
  with_reducible repeat' first
    | (intro _) | assumption | exact sub_trans hm (by decide) | apply Keeps.startFlush | apply Keeps.spreadInc
    | apply Keeps.raise | apply Keeps.ite | refine Keeps.foldl ?_ ?_ _ | split | dsimp only
    | (apply Keeps.upd (k := 534533) <;> first | with_unfolding_all rfl | skip)

theorem hardwareTrip {allowed : Nat} {s0 s : State} (h : Keeps allowed s0 s)
    (hm : sub 3145343 allowed := by exact sub_trans (by assumption) (by decide)) :
    Keeps allowed s0 (State.hardwareTrip s) := by
  unfold State.hardwareTrip
  with_reducible repeat' first
    | (intro _) | assumption | exact sub_trans hm (by decide) | apply Keeps.railsLow | apply Keeps.resetPrivet
    | apply Keeps.cutRails | apply Keeps.ite | refine Keeps.foldl ?_ ?_ _ | split | dsimp only
    | (apply Keeps.upd (k := 3145343) <;> first | with_unfolding_all rfl | skip)

theorem isolateRail {allowed : Nat} {s0 s : State} (h : Keeps allowed s0 s) (n : Nat)
    (hm : sub 4186111 allowed := by exact sub_trans (by assumption) (by decide)) :
    Keeps allowed s0 (State.isolateRail s n) := by
  unfold State.isolateRail
  with_reducible repeat' first
    | (intro _) | assumption | exact sub_trans hm (by decide) | apply Keeps.setPg | apply Keeps.setEn | apply Keeps.ethDown
    | apply Keeps.reduced | apply Keeps.set | apply Keeps.fchanOffline | apply Keeps.put | apply Keeps.linkLost
    | apply Keeps.ite | refine Keeps.foldl ?_ ?_ _ | split | dsimp only
    | (apply Keeps.upd (k := 4186111) <;> first | with_unfolding_all rfl | skip)

theorem runSequenceStepComplete {allowed : Nat} {s0 s : State} (h : Keeps allowed s0 s)
    (hm : sub 524293 allowed := by exact sub_trans (by assumption) (by decide)) :
    KeepsOut allowed s0 (execSequenceStepComplete s) := by
  unfold execSequenceStepComplete
  refine Keeps.next ?_
  with_reducible repeat' first
    | (intro _) | assumption | exact sub_trans hm (by decide) | apply Keeps.setPg | apply Keeps.enableStep | apply Keeps.set
    | apply Keeps.raise | apply Keeps.ite | refine Keeps.foldl ?_ ?_ _ | split | dsimp only
    | (apply Keeps.upd (k := 524293) <;> first | with_unfolding_all rfl | skip)

theorem runSeqPgDrop {allowed : Nat} {s0 s : State} (h : Keeps allowed s0 s) (rail : Nat)
    (hm : sub 3145343 allowed := by exact sub_trans (by assumption) (by decide)) :
    KeepsOut allowed s0 (execSeqPgDrop rail s) := by
  unfold execSeqPgDrop
  refine Keeps.next ?_
  with_reducible repeat' first
    | (intro _) | assumption | exact sub_trans hm (by decide) | apply Keeps.setPg | apply Keeps.abortSequence | apply Keeps.ite
    | refine Keeps.foldl ?_ ?_ _ | split | dsimp only
    | (apply Keeps.upd (k := 3145343) <;> first | with_unfolding_all rfl | skip)

theorem runSequenceWindowExpiry {allowed : Nat} {s0 s : State} (h : Keeps allowed s0 s) (rail : Nat)
    (hm : sub 3145343 allowed := by exact sub_trans (by assumption) (by decide)) :
    KeepsOut allowed s0 (execSequenceWindowExpiry rail s) := by
  unfold execSequenceWindowExpiry
  refine Keeps.next ?_
  with_reducible repeat' first
    | (intro _) | assumption | exact sub_trans hm (by decide) | apply Keeps.abortSequence | apply Keeps.ite
    | refine Keeps.foldl ?_ ?_ _ | split | dsimp only
    | (apply Keeps.upd (k := 3145343) <;> first | with_unfolding_all rfl | skip)

theorem runPowerDownStep {allowed : Nat} {s0 s : State} (h : Keeps allowed s0 s) (late : Option Nat)
    (hm : sub 532485 allowed := by exact sub_trans (by assumption) (by decide)) :
    KeepsOut allowed s0 (execPowerDownStep late s) := by
  unfold execPowerDownStep
  refine Keeps.next ?_
  with_reducible repeat' first
    | (intro _) | assumption | exact sub_trans hm (by decide) | apply Keeps.nextDown | apply Keeps.setPg | apply Keeps.railFault
    | apply Keeps.ite | refine Keeps.foldl ?_ ?_ _ | split | dsimp only
    | (apply Keeps.upd (k := 532485) <;> first | with_unfolding_all rfl | skip)

theorem runBackoffExpiry {allowed : Nat} {s0 s : State} (h : Keeps allowed s0 s)
    (hm : sub 3145343 allowed := by exact sub_trans (by assumption) (by decide)) :
    KeepsOut allowed s0 (execBackoffExpiry s) := by
  unfold execBackoffExpiry
  refine Keeps.next ?_
  with_reducible repeat' first
    | (intro _) | assumption | exact sub_trans hm (by decide) | apply Keeps.powerOn | apply Keeps.ite
    | refine Keeps.foldl ?_ ?_ _ | split | dsimp only
    | (apply Keeps.upd (k := 3145343) <;> first | with_unfolding_all rfl | skip)

theorem runAttemptCountReset {allowed : Nat} {s0 s : State} (h : Keeps allowed s0 s)
    (hm : sub 1 allowed := by exact sub_trans (by assumption) (by decide)) :
    KeepsOut allowed s0 (execAttemptCountReset s) := by
  unfold execAttemptCountReset
  refine Keeps.next ?_
  with_reducible repeat' first
    | (intro _) | assumption | exact sub_trans hm (by decide) | apply Keeps.set | apply Keeps.ite | refine Keeps.foldl ?_ ?_ _
    | split | dsimp only | (apply Keeps.upd (k := 1) <;> first | with_unfolding_all rfl | skip)

theorem runRunningRailFault {allowed : Nat} {s0 s : State} (h : Keeps allowed s0 s) (rail : Nat) (lowNs : Nat)
    (hm : sub 4194303 allowed := by exact sub_trans (by assumption) (by decide)) :
    KeepsOut allowed s0 (execRunningRailFault rail lowNs s) := by
  unfold execRunningRailFault
  refine Keeps.next ?_
  with_reducible repeat' first
    | (intro _) | assumption | exact sub_trans hm (by decide) | apply Keeps.spreadInc | apply Keeps.raise
    | apply Keeps.railFault | apply Keeps.sinceNow | apply Keeps.setPg | apply Keeps.startFlush | apply Keeps.powerDown
    | apply Keeps.set | apply Keeps.isolateRail | apply Keeps.ite | refine Keeps.foldl ?_ ?_ _ | split | dsimp only
    | (apply Keeps.upd (k := 4194303) <;> first | with_unfolding_all rfl | skip)

theorem runPfWarnNTrigger {allowed : Nat} {s0 s : State} (h : Keeps allowed s0 s) (lowUs : Nat)
    (hm : sub 4193919 allowed := by exact sub_trans (by assumption) (by decide)) :
    KeepsOut allowed s0 (execPfWarnNTrigger lowUs s) := by
  unfold execPfWarnNTrigger
  refine Keeps.next ?_
  with_reducible repeat' first
    | (intro _) | assumption | exact sub_trans hm (by decide) | apply Keeps.bump | apply Keeps.put | apply Keeps.abortTest
    | apply Keeps.spreadInc | apply Keeps.raise | apply Keeps.powerDown | apply Keeps.msix | apply Keeps.startFlush
    | apply Keeps.ite | refine Keeps.foldl ?_ ?_ _ | split | dsimp only
    | (apply Keeps.upd (k := 4193919) <;> first | with_unfolding_all rfl | skip)

theorem runFlushLimitExpiry {allowed : Nat} {s0 s : State} (h : Keeps allowed s0 s)
    (hm : sub 1703936 allowed := by exact sub_trans (by assumption) (by decide)) :
    KeepsOut allowed s0 (execFlushLimitExpiry s) := by
  unfold execFlushLimitExpiry
  refine Keeps.next ?_
  with_reducible repeat' first
    | (intro _) | assumption | exact sub_trans hm (by decide) | apply Keeps.pmL2 | apply Keeps.ite | refine Keeps.foldl ?_ ?_ _
    | split | dsimp only | (apply Keeps.upd (k := 1703936) <;> first | with_unfolding_all rfl | skip)

theorem runL2Timeout {allowed : Nat} {s0 s : State} (h : Keeps allowed s0 s)
    (hm : sub 3145343 allowed := by exact sub_trans (by assumption) (by decide)) :
    KeepsOut allowed s0 (execL2Timeout s) := by
  unfold execL2Timeout
  refine Keeps.next ?_
  with_reducible repeat' first
    | (intro _) | assumption | exact sub_trans hm (by decide) | apply Keeps.powerDown | apply Keeps.ite
    | refine Keeps.foldl ?_ ?_ _ | split | dsimp only
    | (apply Keeps.upd (k := 3145343) <;> first | with_unfolding_all rfl | skip)

theorem runInputReturn {allowed : Nat} {s0 s : State} (h : Keeps allowed s0 s)
    (hm : sub 3145343 allowed := by exact sub_trans (by assumption) (by decide)) :
    KeepsOut allowed s0 (execInputReturn s) := by
  unfold execInputReturn
  refine Keeps.next ?_
  with_reducible repeat' first
    | (intro _) | assumption | exact sub_trans hm (by decide) | apply Keeps.put | apply Keeps.powerOn | apply Keeps.raise
    | apply Keeps.ite | refine Keeps.foldl ?_ ?_ _ | split | dsimp only
    | (apply Keeps.upd (k := 3145343) <;> first | with_unfolding_all rfl | skip)

theorem runHolduptest {allowed : Nat} {s0 s : State} (h : Keeps allowed s0 s) (v0Mv : Nat)
    (hm : sub 532480 allowed := by exact sub_trans (by assumption) (by decide)) :
    KeepsOut allowed s0 (execHolduptest v0Mv s) := by
  unfold execHolduptest
  refine Keeps.next ?_
  with_reducible repeat' first
    | (intro _) | assumption | exact sub_trans hm (by decide) | apply Keeps.startTest | apply Keeps.ite
    | refine Keeps.foldl ?_ ?_ _ | split | dsimp only
    | (apply Keeps.upd (k := 532480) <;> first | with_unfolding_all rfl | skip)

theorem runHoldupInterval {allowed : Nat} {s0 s : State} (h : Keeps allowed s0 s) (v0Mv : Nat)
    (hm : sub 532480 allowed := by exact sub_trans (by assumption) (by decide)) :
    KeepsOut allowed s0 (execHoldupInterval v0Mv s) := by
  unfold execHoldupInterval
  refine Keeps.next ?_
  with_reducible repeat' first
    | (intro _) | assumption | exact sub_trans hm (by decide) | apply Keeps.startTest | apply Keeps.ite
    | refine Keeps.foldl ?_ ?_ _ | split | dsimp only
    | (apply Keeps.upd (k := 532480) <;> first | with_unfolding_all rfl | skip)

theorem runHoldupTestComplete {allowed : Nat} {s0 s : State} (h : Keeps allowed s0 s) (v1Mv : Nat)
    (hm : sub 2625013 allowed := by exact sub_trans (by assumption) (by decide)) :
    KeepsOut allowed s0 (execHoldupTestComplete v1Mv s) := by
  unfold execHoldupTestComplete
  refine Keeps.next ?_
  with_reducible repeat' first
    | (intro _) | assumption | exact sub_trans hm (by decide) | apply Keeps.drew | apply Keeps.set | apply Keeps.put
    | apply Keeps.raise | apply Keeps.holdupChanged | apply Keeps.ite | refine Keeps.foldl ?_ ?_ _ | split | dsimp only
    | (apply Keeps.upd (k := 2625013) <;> first | with_unfolding_all rfl | skip)

theorem runSensorSample {allowed : Nat} {s0 s : State} (h : Keeps allowed s0 s) (sensor : Nat) (raw : Int) (fault : Nat)
    (hm : sub 3145727 allowed := by exact sub_trans (by assumption) (by decide)) :
    KeepsOut allowed s0 (execSensorSample sensor raw fault s) := by
  unfold execSensorSample
  refine Keeps.next ?_
  with_reducible repeat' first
    | (intro _) | assumption | exact sub_trans hm (by decide) | apply Keeps.readSensor | apply Keeps.trackClear
    | apply Keeps.raiseLevel | apply Keeps.retrainByTemp | apply Keeps.ageDie | apply Keeps.enableStep | apply Keeps.endHold
    | apply Keeps.thermalStop | apply Keeps.hardwareTrip | apply Keeps.ite | refine Keeps.foldl ?_ ?_ _ | split | dsimp only
    | (apply Keeps.upd (k := 3145727) <;> first | with_unfolding_all rfl | skip)

theorem runThrottleFall {allowed : Nat} {s0 s : State} (h : Keeps allowed s0 s) (loop : Nat)
    (hm : sub 527237 allowed := by exact sub_trans (by assumption) (by decide)) :
    KeepsOut allowed s0 (execThrottleFall loop s) := by
  unfold execThrottleFall
  refine Keeps.next ?_
  with_reducible repeat' first
    | (intro _) | assumption | exact sub_trans hm (by decide) | apply Keeps.issueAll | apply Keeps.showLevels | apply Keeps.set
    | apply Keeps.raise | apply Keeps.ite | refine Keeps.foldl ?_ ?_ _ | split | dsimp only
    | (apply Keeps.upd (k := 527237) <;> first | with_unfolding_all rfl | skip)

theorem noteEstimate {allowed : Nat} {s0 s : State} (h : Keeps allowed s0 s) (watts : Nat) (limit : Nat)
    (hm : sub 524289 allowed := by exact sub_trans (by assumption) (by decide)) :
    Keeps allowed s0 (State.noteEstimate s watts limit) := by
  unfold State.noteEstimate
  with_reducible repeat' first
    | (intro _) | assumption | exact sub_trans hm (by decide) | apply Keeps.set | apply Keeps.ite | refine Keeps.foldl ?_ ?_ _
    | split | dsimp only | (apply Keeps.upd (k := 524289) <;> first | with_unfolding_all rfl | skip)

theorem runPowerEstimate {allowed : Nat} {s0 s : State} (h : Keeps allowed s0 s) (watts : Nat)
    (hm : sub 2621445 allowed := by exact sub_trans (by assumption) (by decide)) :
    KeepsOut allowed s0 (execPowerEstimate watts s) := by
  unfold execPowerEstimate
  refine Keeps.next ?_
  with_reducible repeat' first
    | (intro _) | assumption | exact sub_trans hm (by decide) | apply Keeps.noteEstimate | apply Keeps.drew
    | apply Keeps.raiseLevel | apply Keeps.ite | refine Keeps.foldl ?_ ?_ _ | split | dsimp only
    | (apply Keeps.upd (k := 2621445) <;> first | with_unfolding_all rfl | skip)

theorem runHardwareTrip {allowed : Nat} {s0 s : State} (h : Keeps allowed s0 s) (sensor : Nat)
    (hm : sub 3145343 allowed := by exact sub_trans (by assumption) (by decide)) :
    KeepsOut allowed s0 (execHardwareTrip sensor s) := by
  unfold execHardwareTrip
  refine Keeps.next ?_
  with_reducible repeat' first
    | (intro _) | assumption | exact sub_trans hm (by decide) | apply Keeps.hardwareTrip | apply Keeps.ite
    | refine Keeps.foldl ?_ ?_ _ | split | dsimp only
    | (apply Keeps.upd (k := 3145343) <;> first | with_unfolding_all rfl | skip)

theorem runTripResetRelease {allowed : Nat} {s0 s : State} (h : Keeps allowed s0 s)
    (hm : sub 532485 allowed := by exact sub_trans (by assumption) (by decide)) :
    KeepsOut allowed s0 (execTripResetRelease s) := by
  unfold execTripResetRelease
  refine Keeps.next ?_
  with_reducible repeat' first
    | (intro _) | assumption | exact sub_trans hm (by decide) | apply Keeps.set | apply Keeps.put | apply Keeps.spreadInc
    | apply Keeps.raise | apply Keeps.ite | refine Keeps.foldl ?_ ?_ _ | split | dsimp only
    | (apply Keeps.upd (k := 532485) <;> first | with_unfolding_all rfl | skip)

theorem runStartHoldTimeout {allowed : Nat} {s0 s : State} (h : Keeps allowed s0 s)
    (hm : sub 3145343 allowed := by exact sub_trans (by assumption) (by decide)) :
    KeepsOut allowed s0 (execStartHoldTimeout s) := by
  unfold execStartHoldTimeout
  refine Keeps.next ?_
  with_reducible repeat' first
    | (intro _) | assumption | exact sub_trans hm (by decide) | apply Keeps.railFault | apply Keeps.spreadInc
    | apply Keeps.raise | apply Keeps.powerDown | apply Keeps.ite | refine Keeps.foldl ?_ ?_ _ | split | dsimp only
    | (apply Keeps.upd (k := 3145343) <;> first | with_unfolding_all rfl | skip)

theorem landed {allowed : Nat} {s0 s : State} (h : Keeps allowed s0 s) {o : Host.Outcome State Fault Refusal} (g : KeepsOut allowed s0 o)
    (hm : sub 0 allowed := by exact sub_trans (by assumption) (by decide)) :
    Keeps allowed s0 (landed s o) := by
  cases o with
  | next t => exact g t rfl
  | fault _ => exact h
  | refused _ => exact h

theorem badAccess {allowed : Nat} {s0 s : State} (h : Keeps allowed s0 s) (dom : Nat) (a : Nat) (n : Nat)
    (hm : sub 4 allowed := by exact sub_trans (by assumption) (by decide)) :
    Keeps allowed s0 (State.badAccess s dom a n) := by
  unfold State.badAccess
  with_reducible repeat' first
    | (intro _) | assumption | exact sub_trans hm (by decide) | apply Keeps.raise | apply Keeps.ite | refine Keeps.foldl ?_ ?_ _
    | split | dsimp only | (apply Keeps.upd (k := 4) <;> first | with_unfolding_all rfl | skip)

theorem readRegister {allowed : Nat} {s0 s : State} (h : Keeps allowed s0 s) (a : Nat)
    (hm : sub 1 allowed := by exact sub_trans (by assumption) (by decide)) :
    Keeps allowed s0 (State.readRegister s a).2 := by
  unfold State.readRegister
  with_reducible repeat' first
    | (intro _) | assumption | exact sub_trans hm (by decide) | apply Keeps.setReg | apply Keeps.ite
    | refine Keeps.foldl ?_ ?_ _ | split | dsimp only | (apply Keeps.upd (k := 1) <;> first | with_unfolding_all rfl | skip)

theorem readRegister_eq {allowed : Nat} {s0 s : State} (h : Keeps allowed s0 s) {a1 : Nat} {t0 : State} {x} (e : State.readRegister s a1 = (x, t0))
    (hm : sub 1 allowed := by exact sub_trans (by assumption) (by decide)) :
    Keeps allowed s0 t0 := by
  have g := Keeps.readRegister h a1
  rw [e] at g
  exact g

theorem keyPageWrite {allowed : Nat} {s0 s : State} (h : Keeps allowed s0 s) (dom : Nat) (issuer : Nat) (o : Nat) (v : Word)
    (hm : sub 65541 allowed := by exact sub_trans (by assumption) (by decide)) :
    Keeps allowed s0 (State.keyPageWrite s dom issuer o v) := by
  unfold State.keyPageWrite
  with_reducible repeat' first
    | (intro _) | assumption | exact sub_trans hm (by decide) | apply Keeps.setReg | apply Keeps.landed | apply Keeps.ite
    | refine Keeps.foldl ?_ ?_ _ | split | dsimp only | (apply Keeps.upd (k := 65541) <;> first | with_unfolding_all rfl | skip)
    | apply Keeps.runLoadGcmSlot | apply Keeps.runClearGcmSlot | apply Keeps.runReplaceXtsKey

theorem denyAgent {allowed : Nat} {s0 s : State} (h : Keeps allowed s0 s) (a : Nat) (op : Nat) (addr : Nat) (len : Nat) (status : Nat)
    (hm : sub 5 allowed := by exact sub_trans (by assumption) (by decide)) :
    Keeps allowed s0 (State.denyAgent s a op addr len status) := by
  unfold State.denyAgent
  with_reducible repeat' first
    | (intro _) | assumption | exact sub_trans hm (by decide) | apply Keeps.put | apply Keeps.set | apply Keeps.bump
    | apply Keeps.raise | apply Keeps.refusePage | apply Keeps.refused45 | apply Keeps.ite | refine Keeps.foldl ?_ ?_ _ | split
    | dsimp only | (apply Keeps.upd (k := 5) <;> first | with_unfolding_all rfl | skip)

theorem agentRequest {allowed : Nat} {s0 s : State} (h : Keeps allowed s0 s) (a : Nat) (tag : Nat) (op : Nat) (addr : Nat) (len : Nat) (right : Nat) (respond : Nat → KlTx) (perform : State → State) (hperform : ∀ t, Keeps allowed s0 t → Keeps allowed s0 (perform t))
    (hm : sub 4186111 allowed := by exact sub_trans (by assumption) (by decide)) :
    Keeps allowed s0 (State.agentRequest s a tag op addr len right respond perform) := by
  unfold State.agentRequest
  with_reducible repeat' first
    | (intro _) | assumption | exact sub_trans hm (by decide) | apply hperform | apply Keeps.protocolError | apply Keeps.raise
    | apply Keeps.showOut | apply Keeps.setAgentSt | apply Keeps.answerAgent | apply Keeps.denyAgent | apply Keeps.bump
    | apply Keeps.ite | refine Keeps.foldl ?_ ?_ _ | split | dsimp only
    | (apply Keeps.upd (k := 4186111) <;> first | with_unfolding_all rfl | skip)

theorem awaitHost {allowed : Nat} {s0 s : State} (h : Keeps allowed s0 s) (a : Nat) (tag : Nat) (write : Bool)
    (hm : sub 262144 allowed := by exact sub_trans (by assumption) (by decide)) :
    Keeps allowed s0 (State.awaitHost s a tag write) := by
  unfold State.awaitHost
  with_reducible repeat' first
    | (intro _) | assumption | exact sub_trans hm (by decide) | apply Keeps.setAgentSt | apply Keeps.ite
    | refine Keeps.foldl ?_ ?_ _ | split | dsimp only
    | (apply Keeps.upd (k := 262144) <;> first | with_unfolding_all rfl | skip)

theorem agentRead {allowed : Nat} {s0 s : State} (h : Keeps allowed s0 s) (a : Nat) (tag : Nat) (addr : Nat) (len : Nat) (host : Option (List Byte))
    (hm : sub 1441805 allowed := by exact sub_trans (by assumption) (by decide)) :
    Keeps allowed s0 (State.agentRead s a tag addr len host) := by
  unfold State.agentRead
  with_reducible repeat' first
    | (intro _) | assumption | exact sub_trans hm (by decide) | apply Keeps.answerAgent | apply Keeps.readRegister
    | apply Keeps.badAccess | apply Keeps.askAgent | apply Keeps.awaitHost | apply Keeps.park | apply Keeps.snoopData
    | refine Keeps.readRegister_eq ?_ (e := by assumption) | apply Keeps.ite | refine Keeps.foldl ?_ ?_ _ | split | dsimp only
    | (apply Keeps.upd (k := 1441805) <;> first | with_unfolding_all rfl | skip)

theorem agentPageWrite {allowed : Nat} {s0 s : State} (h : Keeps allowed s0 s) (a : Nat) (addr : Nat) (b : List Byte)
    (hm : sub 3627399 allowed := by exact sub_trans (by assumption) (by decide)) :
    Keeps allowed s0 (State.agentPageWrite s a addr b) := by
  unfold State.agentPageWrite
  with_reducible repeat' first
    | (intro _) | assumption | exact sub_trans hm (by decide) | apply Keeps.badAccess | apply Keeps.pageWrite
    | apply Keeps.keyPageWrite | apply Keeps.ite | refine Keeps.foldl ?_ ?_ _ | split | dsimp only
    | (apply Keeps.upd (k := 3627399) <;> first | with_unfolding_all rfl | skip)

theorem poison_sorted (l : List Nat) {m : List (Nat × LineTag)} (h : Store.sorted m = true) :
    Store.sorted (l.foldl (fun (m : List (Nat × LineTag)) i => match Store.find? m i with
      | some t => Store.insert i { t with poison := true } m
      | none => m) m) = true := by
  induction l generalizing m with
  | nil => exact h
  | cons i l ih =>
    rw [List.foldl_cons]
    apply ih
    split
    · exact Store.sorted_insert _ _ h
    · exact h

theorem shmPoison {allowed : Nat} {s0 s : State} (h : Keeps allowed s0 s) (addr len poison : Nat)
    (hm : sub 16384 allowed := by exact sub_trans (by assumption) (by decide)) : Keeps allowed s0 (State.shmPoison s addr len poison) := by
  unfold State.shmPoison
  refine h.putShm (fun x => ?_)
  rw [Mem.wf_iff] at x ⊢
  exact ⟨x.1, poison_sorted _ x.2⟩

theorem agentStore {allowed : Nat} {s0 s : State} (h : Keeps allowed s0 s) (src : WinSrc) (a : Nat) (addr : Nat) (poison : Nat) (b : List Byte)
    (hm : sub 1461757 allowed := by exact sub_trans (by assumption) (by decide)) :
    Keeps allowed s0 (State.agentStore s src a addr poison b) := by
  unfold State.agentStore
  with_reducible repeat' first
    | (intro _) | assumption | exact sub_trans hm (by decide) | apply Keeps.windowWrite | apply Keeps.breakResv
    | apply Keeps.shmPoison | apply Keeps.storeRegion | apply Keeps.ite | refine Keeps.foldl ?_ ?_ _ | split | dsimp only
    | (apply Keeps.upd (k := 1461757) <;> first | with_unfolding_all rfl | skip)

theorem agentWriteNp {allowed : Nat} {s0 s : State} (h : Keeps allowed s0 s) (a : Nat) (tag : Nat) (addr : Nat) (poison : Nat) (b : List Byte) (hostDone : Bool)
    (hm : sub 3628543 allowed := by exact sub_trans (by assumption) (by decide)) :
    Keeps allowed s0 (State.agentWriteNp s a tag addr poison b hostDone) := by
  unfold State.agentWriteNp
  with_reducible repeat' first
    | (intro _) | assumption | exact sub_trans hm (by decide) | apply Keeps.answerAgent | apply Keeps.agentPageWrite
    | apply Keeps.agentStore | apply Keeps.agentWrite | apply Keeps.send | apply Keeps.awaitHost | apply Keeps.ite
    | refine Keeps.foldl ?_ ?_ _ | split | dsimp only
    | (apply Keeps.upd (k := 3628543) <;> first | with_unfolding_all rfl | skip)

theorem agentPosted {allowed : Nat} {s0 s : State} (h : Keeps allowed s0 s) (a : Nat) (index : Nat) (addr : Nat) (poison : Nat) (b : List Byte)
    (hm : sub 3628543 allowed := by exact sub_trans (by assumption) (by decide)) :
    Keeps allowed s0 (State.agentPosted s a index addr poison b) := by
  unfold State.agentPosted
  with_reducible repeat' first
    | (intro _) | assumption | exact sub_trans hm (by decide) | apply Keeps.agentPageWrite | apply Keeps.agentWrite
    | apply Keeps.send | apply Keeps.agentStore | apply Keeps.ite | refine Keeps.foldl ?_ ?_ _ | split | dsimp only
    | (apply Keeps.upd (k := 3628543) <;> first | with_unfolding_all rfl | skip)

theorem runPosted {allowed : Nat} {s0 s : State} (h : Keeps allowed s0 s) (a n : Nat)
    (hm : sub 3628543 allowed := by exact sub_trans (by assumption) (by decide)) : Keeps allowed s0 (State.runPosted a n s) := by
  induction n generalizing s with
  | zero => exact h
  | succ n ih =>
    unfold State.runPosted
    split
    · exact h
    · split
      · exact h
      · exact ih ((h.setAgentSt _ _).agentPosted _ _ _ _ _)

theorem postedGo {allowed : Nat} {s0 s : State} (h : Keeps allowed s0 s) (a : Nat)
    (hm : sub 3628543 allowed := by exact sub_trans (by assumption) (by decide)) :
    Keeps allowed s0 (State.postedGo s a) := by
  unfold State.postedGo
  with_reducible repeat' first
    | (intro _) | assumption | exact sub_trans hm (by decide) | apply Keeps.runPosted | apply Keeps.ite
    | refine Keeps.foldl ?_ ?_ _ | split | dsimp only
    | (apply Keeps.upd (k := 3628543) <;> first | with_unfolding_all rfl | skip)

theorem agentAtomicOp {allowed : Nat} {s0 s : State} (h : Keeps allowed s0 s) (op : Nat) (a : Nat) (tag : Nat) (addr : Nat) (x : Word) (y : Word)
    (hm : sub 1461757 allowed := by exact sub_trans (by assumption) (by decide)) :
    Keeps allowed s0 (State.agentAtomicOp s op a tag addr x y) := by
  unfold State.agentAtomicOp
  with_reducible repeat' first
    | (intro _) | assumption | exact sub_trans hm (by decide) | apply Keeps.park | apply Keeps.snoopData
    | apply Keeps.answerAgent | apply Keeps.breakResv | apply Keeps.storeRegion | apply Keeps.ite | refine Keeps.foldl ?_ ?_ _
    | split | dsimp only | (apply Keeps.upd (k := 1461757) <;> first | with_unfolding_all rfl | skip)

theorem agentAtomicIn {allowed : Nat} {s0 s : State} (h : Keeps allowed s0 s) (op : Nat) (a : Nat) (tag : Nat) (addr : Nat) (lenM1 : Nat) (x : Word) (y : Word)
    (hm : sub 4186111 allowed := by exact sub_trans (by assumption) (by decide)) :
    Keeps allowed s0 (State.agentAtomicIn s op a tag addr lenM1 x y) := by
  unfold State.agentAtomicIn
  with_reducible repeat' first
    | (intro _) | assumption | exact sub_trans hm (by decide) | apply Keeps.agentRequest | apply Keeps.agentAtomicOp
    | apply Keeps.ite | refine Keeps.foldl ?_ ?_ _ | split | dsimp only
    | (apply Keeps.upd (k := 4186111) <;> first | with_unfolding_all rfl | skip)

theorem runKiliusRead {allowed : Nat} {s0 s : State} (h : Keeps allowed s0 s) (agent : Nat) (tag : Nat) (addr : Nat) (lenM1 : Nat) (host : Option (List (BitVec 8)))
    (hm : sub 4186111 allowed := by exact sub_trans (by assumption) (by decide)) :
    KeepsOut allowed s0 (execKiliusRead agent tag addr lenM1 host s) := by
  unfold execKiliusRead
  refine Keeps.next ?_
  with_reducible repeat' first
    | (intro _) | assumption | exact sub_trans hm (by decide) | apply Keeps.agentRequest | apply Keeps.agentRead
    | apply Keeps.ite | refine Keeps.foldl ?_ ?_ _ | split | dsimp only
    | (apply Keeps.upd (k := 4186111) <;> first | with_unfolding_all rfl | skip)

theorem runWritenp {allowed : Nat} {s0 s : State} (h : Keeps allowed s0 s) (agent : Nat) (tag : Nat) (addr : Nat) (lenM1 : Nat) (poison : Nat) (bytes : List (BitVec 8)) (hostDone : Bool)
    (hm : sub 4186111 allowed := by exact sub_trans (by assumption) (by decide)) :
    KeepsOut allowed s0 (execWritenp agent tag addr lenM1 poison bytes hostDone s) := by
  unfold execWritenp
  refine Keeps.next ?_
  with_reducible repeat' first
    | (intro _) | assumption | exact sub_trans hm (by decide) | apply Keeps.agentRequest | apply Keeps.agentWriteNp
    | apply Keeps.ite | refine Keeps.foldl ?_ ?_ _ | split | dsimp only
    | (apply Keeps.upd (k := 4186111) <;> first | with_unfolding_all rfl | skip)

theorem runFetchadd {allowed : Nat} {s0 s : State} (h : Keeps allowed s0 s) (agent : Nat) (tag : Nat) (addr : Nat) (lenM1 : Nat) (addend : BitVec 64)
    (hm : sub 4186111 allowed := by exact sub_trans (by assumption) (by decide)) :
    KeepsOut allowed s0 (execFetchadd agent tag addr lenM1 addend s) := by
  unfold execFetchadd
  refine Keeps.next ?_
  with_reducible repeat' first
    | (intro _) | assumption | exact sub_trans hm (by decide) | apply Keeps.agentAtomicIn | apply Keeps.ite
    | refine Keeps.foldl ?_ ?_ _ | split | dsimp only
    | (apply Keeps.upd (k := 4186111) <;> first | with_unfolding_all rfl | skip)

theorem runSwap {allowed : Nat} {s0 s : State} (h : Keeps allowed s0 s) (agent : Nat) (tag : Nat) (addr : Nat) (lenM1 : Nat) (value : BitVec 64)
    (hm : sub 4186111 allowed := by exact sub_trans (by assumption) (by decide)) :
    KeepsOut allowed s0 (execSwap agent tag addr lenM1 value s) := by
  unfold execSwap
  refine Keeps.next ?_
  with_reducible repeat' first
    | (intro _) | assumption | exact sub_trans hm (by decide) | apply Keeps.agentAtomicIn | apply Keeps.ite
    | refine Keeps.foldl ?_ ?_ _ | split | dsimp only
    | (apply Keeps.upd (k := 4186111) <;> first | with_unfolding_all rfl | skip)

theorem runCompareswap {allowed : Nat} {s0 s : State} (h : Keeps allowed s0 s) (agent : Nat) (tag : Nat) (addr : Nat) (lenM1 : Nat) (compare : BitVec 64) (value : BitVec 64)
    (hm : sub 4186111 allowed := by exact sub_trans (by assumption) (by decide)) :
    KeepsOut allowed s0 (execCompareswap agent tag addr lenM1 compare value s) := by
  unfold execCompareswap
  refine Keeps.next ?_
  with_reducible repeat' first
    | (intro _) | assumption | exact sub_trans hm (by decide) | apply Keeps.agentAtomicIn | apply Keeps.ite
    | refine Keeps.foldl ?_ ?_ _ | split | dsimp only
    | (apply Keeps.upd (k := 4186111) <;> first | with_unfolding_all rfl | skip)

theorem runKiliusWrite {allowed : Nat} {s0 s : State} (h : Keeps allowed s0 s) (agent : Nat) (addr : Nat) (lenM1 : Nat) (poison : Nat) (bytes : List (BitVec 8))
    (hm : sub 3628543 allowed := by exact sub_trans (by assumption) (by decide)) :
    KeepsOut allowed s0 (execKiliusWrite agent addr lenM1 poison bytes s) := by
  unfold execKiliusWrite
  refine Keeps.next ?_
  with_reducible repeat' first
    | (intro _) | assumption | exact sub_trans hm (by decide) | apply Keeps.setAgentSt | apply Keeps.bump
    | apply Keeps.postedFail | apply Keeps.denyAgent | apply Keeps.postedGo | apply Keeps.ite | refine Keeps.foldl ?_ ?_ _
    | split | dsimp only | (apply Keeps.upd (k := 3628543) <;> first | with_unfolding_all rfl | skip)

theorem response {allowed : Nat} {s0 s : State} (h : Keeps allowed s0 s) (a : Nat) (tag : Nat) (kind : Nat) (f : State → HubReq → State) (hf : ∀ x0 x1, Keeps allowed s0 x0 → Keeps allowed s0 (f x0 x1))
    (hm : sub 1445893 allowed := by exact sub_trans (by assumption) (by decide)) :
    Keeps allowed s0 (State.response s a tag kind f) := by
  unfold State.response
  with_reducible repeat' first
    | (intro _) | assumption | exact sub_trans hm (by decide) | apply hf | apply Keeps.bump | apply Keeps.hubRequests
    | apply Keeps.settleRequests | apply Keeps.ite | refine Keeps.foldl ?_ ?_ _ | split | dsimp only
    | (apply Keeps.upd (k := 1445893) <;> first | with_unfolding_all rfl | skip)

theorem runCmp {allowed : Nat} {s0 s : State} (h : Keeps allowed s0 s) (agent : Nat) (tag : Nat) (status : Nat)
    (hm : sub 1465853 allowed := by exact sub_trans (by assumption) (by decide)) :
    KeepsOut allowed s0 (execCmp agent tag status s) := by
  unfold execCmp
  refine Keeps.next ?_
  with_reducible repeat' first
    | (intro _) | assumption | exact sub_trans hm (by decide) | apply Keeps.response | apply Keeps.endRequest
    | apply Keeps.answerAgent | apply Keeps.ite | refine Keeps.foldl ?_ ?_ _ | split | dsimp only
    | (apply Keeps.upd (k := 1465853) <;> first | with_unfolding_all rfl | skip)

theorem runReaddata {allowed : Nat} {s0 s : State} (h : Keeps allowed s0 s) (agent : Nat) (tag : Nat) (status : Nat) (poison : Nat) (bytes : List (BitVec 8))
    (hm : sub 1465853 allowed := by exact sub_trans (by assumption) (by decide)) :
    KeepsOut allowed s0 (execReaddata agent tag status poison bytes s) := by
  unfold execReaddata
  refine Keeps.next ?_
  with_reducible repeat' first
    | (intro _) | assumption | exact sub_trans hm (by decide) | apply Keeps.response | apply Keeps.endRequest
    | apply Keeps.answerAgent | apply Keeps.ite | refine Keeps.foldl ?_ ?_ _ | split | dsimp only
    | (apply Keeps.upd (k := 1465853) <;> first | with_unfolding_all rfl | skip)

theorem runAtomicdata {allowed : Nat} {s0 s : State} (h : Keeps allowed s0 s) (agent : Nat) (tag : Nat) (status : Nat) (old : BitVec 64)
    (hm : sub 1465853 allowed := by exact sub_trans (by assumption) (by decide)) :
    KeepsOut allowed s0 (execAtomicdata agent tag status old s) := by
  unfold execAtomicdata
  refine Keeps.next ?_
  with_reducible repeat' first
    | (intro _) | assumption | exact sub_trans hm (by decide) | apply Keeps.response | apply Keeps.endRequest | apply Keeps.ite
    | refine Keeps.foldl ?_ ?_ _ | split | dsimp only
    | (apply Keeps.upd (k := 1465853) <;> first | with_unfolding_all rfl | skip)

theorem runBarrier {allowed : Nat} {s0 s : State} (h : Keeps allowed s0 s) (agent : Nat) (tag : Nat) (posted : Nat) (requests : Nat)
    (hm : sub 1441797 allowed := by exact sub_trans (by assumption) (by decide)) :
    KeepsOut allowed s0 (execBarrier agent tag posted requests s) := by
  unfold execBarrier
  refine Keeps.next ?_
  with_reducible repeat' first
    | (intro _) | assumption | exact sub_trans hm (by decide) | apply Keeps.klSend | apply Keeps.setAgentSt | apply Keeps.set
    | apply Keeps.ite | refine Keeps.foldl ?_ ?_ _ | split | dsimp only
    | (apply Keeps.upd (k := 1441797) <;> first | with_unfolding_all rfl | skip)

theorem runBarrierComplete {allowed : Nat} {s0 s : State} (h : Keeps allowed s0 s) (agent : Nat) (tag : Nat)
    (hm : sub 1441797 allowed := by exact sub_trans (by assumption) (by decide)) :
    KeepsOut allowed s0 (execBarrierComplete agent tag s) := by
  unfold execBarrierComplete
  refine Keeps.next ?_
  with_reducible repeat' first
    | (intro _) | assumption | exact sub_trans hm (by decide) | apply Keeps.set | apply Keeps.setAgentSt | apply Keeps.klSend
    | apply Keeps.ite | refine Keeps.foldl ?_ ?_ _ | split | dsimp only
    | (apply Keeps.upd (k := 1441797) <;> first | with_unfolding_all rfl | skip)

theorem runHostinterrupt {allowed : Nat} {s0 s : State} (h : Keeps allowed s0 s) (agent : Nat) (ld : Nat) (vector : Nat)
    (hm : sub 3145740 allowed := by exact sub_trans (by assumption) (by decide)) :
    KeepsOut allowed s0 (execHostinterrupt agent ld vector s) := by
  unfold execHostinterrupt
  refine Keeps.next ?_
  with_reducible repeat' first
    | (intro _) | assumption | exact sub_trans hm (by decide) | apply Keeps.msix | apply Keeps.drew | apply Keeps.raise
    | apply Keeps.ite | refine Keeps.foldl ?_ ?_ _ | split | dsimp only
    | (apply Keeps.upd (k := 3145740) <;> first | with_unfolding_all rfl | skip)

theorem runPostederror {allowed : Nat} {s0 s : State} (h : Keeps allowed s0 s) (agent : Nat) (addr : Nat) (status : Nat) (index : Nat)
    (hm : sub 278533 allowed := by exact sub_trans (by assumption) (by decide)) :
    KeepsOut allowed s0 (execPostederror agent addr status index s) := by
  unfold execPostederror
  refine Keeps.next ?_
  with_reducible repeat' first
    | (intro _) | assumption | exact sub_trans hm (by decide) | apply Keeps.setAgentSt | apply Keeps.dropStore
    | apply Keeps.setCore | apply Keeps.ite | refine Keeps.foldl ?_ ?_ _ | split | dsimp only
    | (apply Keeps.upd (k := 278533) <;> first | with_unfolding_all rfl | skip)

theorem runLaunchfired {allowed : Nat} {s0 s : State} (h : Keeps allowed s0 s) (agent : Nat) (slot : Nat) (state : Nat) (lateness : Nat) (late : Bool)
    (hm : sub 3 allowed := by exact sub_trans (by assumption) (by decide)) :
    KeepsOut allowed s0 (execLaunchfired agent slot state lateness late s) := by
  unfold execLaunchfired
  refine Keeps.next ?_
  with_reducible repeat' first
    | (intro _) | assumption | exact sub_trans hm (by decide) | apply Keeps.setBit | apply Keeps.ite
    | refine Keeps.foldl ?_ ?_ _ | split | dsimp only | (apply Keeps.upd (k := 3) <;> first | with_unfolding_all rfl | skip)

theorem runEvent {allowed : Nat} {s0 s : State} (h : Keeps allowed s0 s) (agent : Nat) (severity : Nat) (code : Nat) (data : List (BitVec 8))
    (hm : sub 262149 allowed := by exact sub_trans (by assumption) (by decide)) :
    KeepsOut allowed s0 (execEvent agent severity code data s) := by
  unfold execEvent
  refine Keeps.next ?_
  with_reducible repeat' first
    | (intro _) | assumption | exact sub_trans hm (by decide) | apply Keeps.bump | apply Keeps.setAgentSt | apply Keeps.raise
    | apply Keeps.ite | refine Keeps.foldl ?_ ?_ _ | split | dsimp only
    | (apply Keeps.upd (k := 262149) <;> first | with_unfolding_all rfl | skip)

theorem agentCtl {allowed : Nat} {s0 s : State} (h : Keeps allowed s0 s) (a : Nat) (v : Word)
    (hm : sub 65541 allowed := by exact sub_trans (by assumption) (by decide)) :
    Keeps allowed s0 (State.agentCtl s a v) := by
  unfold State.agentCtl
  with_reducible repeat' first
    | (intro _) | assumption | exact sub_trans hm (by decide) | apply Keeps.set | apply Keeps.touchKey | apply Keeps.ite
    | refine Keeps.foldl ?_ ?_ _ | split | dsimp only | (apply Keeps.upd (k := 65541) <;> first | with_unfolding_all rfl | skip)

theorem runAdmitAgent {allowed : Nat} {s0 s : State} (h : Keeps allowed s0 s) (agent : Nat) (value : BitVec 32)
    (hm : sub 2162693 allowed := by exact sub_trans (by assumption) (by decide)) :
    KeepsOut allowed s0 (execAdmitAgent agent value s) := by
  unfold execAdmitAgent
  refine Keeps.next ?_
  with_reducible repeat' first
    | (intro _) | assumption | exact sub_trans hm (by decide) | apply Keeps.agentCtl | apply Keeps.raise | apply Keeps.set
    | apply Keeps.drew | apply Keeps.ite | refine Keeps.foldl ?_ ?_ _ | split | dsimp only
    | (apply Keeps.upd (k := 2162693) <;> first | with_unfolding_all rfl | skip)

theorem runRevoke {allowed : Nat} {s0 s : State} (h : Keeps allowed s0 s) (agent : Nat) (value : BitVec 32)
    (hm : sub 1531389 allowed := by exact sub_trans (by assumption) (by decide)) :
    KeepsOut allowed s0 (execRevoke agent value s) := by
  unfold execRevoke
  refine Keeps.next ?_
  with_reducible repeat' first
    | (intro _) | assumption | exact sub_trans hm (by decide) | apply Keeps.agentCtl | apply Keeps.endRequests | apply Keeps.set
    | apply Keeps.raise | apply Keeps.ite | refine Keeps.foldl ?_ ?_ _ | split | dsimp only
    | (apply Keeps.upd (k := 1531389) <;> first | with_unfolding_all rfl | skip)

theorem runAgentRequestTimeout {allowed : Nat} {s0 s : State} (h : Keeps allowed s0 s) (agent : Nat) (tag : Nat)
    (hm : sub 3563005 allowed := by exact sub_trans (by assumption) (by decide)) :
    KeepsOut allowed s0 (execAgentRequestTimeout agent tag s) := by
  unfold execAgentRequestTimeout
  refine Keeps.next ?_
  with_reducible repeat' first
    | (intro _) | assumption | exact sub_trans hm (by decide) | apply Keeps.agentDead | apply Keeps.ite
    | refine Keeps.foldl ?_ ?_ _ | split | dsimp only
    | (apply Keeps.upd (k := 3563005) <;> first | with_unfolding_all rfl | skip)

theorem runHostApertureTimeout {allowed : Nat} {s0 s : State} (h : Keeps allowed s0 s) (agent : Nat) (tag : Nat)
    (hm : sub 1441797 allowed := by exact sub_trans (by assumption) (by decide)) :
    KeepsOut allowed s0 (execHostApertureTimeout agent tag s) := by
  unfold execHostApertureTimeout
  refine Keeps.next ?_
  with_reducible repeat' first
    | (intro _) | assumption | exact sub_trans hm (by decide) | apply Keeps.setAgentSt | apply Keeps.answerAgent
    | apply Keeps.ite | refine Keeps.foldl ?_ ?_ _ | split | dsimp only
    | (apply Keeps.upd (k := 1441797) <;> first | with_unfolding_all rfl | skip)

theorem runKlAptCommit {allowed : Nat} {s0 s : State} (h : Keeps allowed s0 s) (agent : Nat) (entry : Nat) (value : BitVec 64)
    (hm : sub 5 allowed := by exact sub_trans (by assumption) (by decide)) :
    KeepsOut allowed s0 (execKlAptCommit agent entry value s) := by
  unfold execKlAptCommit
  refine Keeps.next ?_
  with_reducible repeat' first
    | (intro _) | assumption | exact sub_trans hm (by decide) | apply Keeps.setReg | apply Keeps.raise | apply Keeps.ite
    | refine Keeps.foldl ?_ ?_ _ | split | dsimp only | (apply Keeps.upd (k := 5) <;> first | with_unfolding_all rfl | skip)

theorem runMeshFlitError {allowed : Nat} {s0 s : State} (h : Keeps allowed s0 s) (die : Nat) (router : Nat) (direction : Nat) (again : Bool)
    (hm : sub 1990653 allowed := by exact sub_trans (by assumption) (by decide)) :
    KeepsOut allowed s0 (execMeshFlitError die router direction again s) := by
  unfold execMeshFlitError
  refine Keeps.next ?_
  with_reducible repeat' first
    | (intro _) | assumption | exact sub_trans hm (by decide) | apply Keeps.bump | apply Keeps.set | apply Keeps.raise
    | apply Keeps.put | apply Keeps.safeMode | apply Keeps.dieGone | apply Keeps.ite | refine Keeps.foldl ?_ ?_ _ | split
    | dsimp only | (apply Keeps.upd (k := 1990653) <;> first | with_unfolding_all rfl | skip)

theorem performParked {allowed : Nat} {s0 s : State} (h : Keeps allowed s0 s) (c : Parked)
    (hm : sub 1498621 allowed := by exact sub_trans (by assumption) (by decide)) :
    Keeps allowed s0 (State.performParked s c) := by
  unfold State.performParked
  with_reducible repeat' first
    | (intro _) | assumption | exact sub_trans hm (by decide) | apply Keeps.agentRead | apply Keeps.agentAtomicOp
    | apply Keeps.peerAtomic | apply Keeps.ite | refine Keeps.foldl ?_ ?_ _ | split | dsimp only
    | (apply Keeps.upd (k := 1498621) <;> first | with_unfolding_all rfl | skip)

theorem unpark {allowed : Nat} {s0 s : State} (h : Keeps allowed s0 s)
    (hm : sub 1498621 allowed := by exact sub_trans (by assumption) (by decide)) :
    Keeps allowed s0 (State.unpark s) := by
  unfold State.unpark
  with_reducible repeat' first
    | (intro _) | assumption | exact sub_trans hm (by decide) | apply Keeps.performParked | apply Keeps.ite
    | refine Keeps.foldl ?_ ?_ _ | split | dsimp only
    | (apply Keeps.upd (k := 1498621) <;> first | with_unfolding_all rfl | skip)

theorem answerGpf {allowed : Nat} {s0 s : State} (h : Keeps allowed s0 s)
    (hm : sub 1048584 allowed := by exact sub_trans (by assumption) (by decide)) :
    Keeps allowed s0 (State.answerGpf s) := by
  unfold State.answerGpf
  with_reducible repeat' first
    | (intro _) | assumption | exact sub_trans hm (by decide) | apply Keeps.send | apply Keeps.ite | refine Keeps.foldl ?_ ?_ _
    | split | dsimp only | (apply Keeps.upd (k := 1048584) <;> first | with_unfolding_all rfl | skip)

theorem goOn {allowed : Nat} {s0 s : State} (h : Keeps allowed s0 s)
    (hm : sub 3661311 allowed := by exact sub_trans (by assumption) (by decide)) :
    Keeps allowed s0 (State.goOn s) := by
  unfold State.goOn
  with_reducible repeat' first
    | (intro _) | assumption | exact sub_trans hm (by decide) | apply Keeps.unpark | apply Keeps.answerGpf
    | apply Keeps.redoHeld | apply Keeps.postedGo | apply Keeps.ite | refine Keeps.foldl ?_ ?_ _ | split | dsimp only
    | (apply Keeps.upd (k := 3661311) <;> first | with_unfolding_all rfl | skip)

theorem hostCopy {allowed : Nat} {s0 s : State} (h : Keeps allowed s0 s) (line : Nat) (data : Line)
    (hm : sub 1461661 allowed := by exact sub_trans (by assumption) (by decide)) :
    Keeps allowed s0 (State.hostCopy s line data) := by
  unfold State.hostCopy
  with_reducible repeat' first
    | (intro _) | assumption | exact sub_trans hm (by decide) | apply Keeps.listLost | apply Keeps.accept | apply Keeps.ite
    | refine Keeps.foldl ?_ ?_ _ | split | dsimp only
    | (apply Keeps.upd (k := 1461661) <;> first | with_unfolding_all rfl | skip)

theorem dropHolder {allowed : Nat} {s0 s : State} (h : Keeps allowed s0 s) (line : Nat) (link : Nat)
    (hm : sub 8 allowed := by exact sub_trans (by assumption) (by decide)) :
    Keeps allowed s0 (State.dropHolder s line link) := by
  unfold State.dropHolder
  with_reducible repeat' first
    | (intro _) | assumption | exact sub_trans hm (by decide) | apply Keeps.ite | refine Keeps.foldl ?_ ?_ _ | split
    | dsimp only | (apply Keeps.upd (k := 8) <;> first | with_unfolding_all rfl | skip)

theorem dropSnoop {allowed : Nat} {s0 s : State} (h : Keeps allowed s0 s) (line : Nat) (link : Nat)
    (hm : sub 8 allowed := by exact sub_trans (by assumption) (by decide)) :
    Keeps allowed s0 (State.dropSnoop s line link) := by
  unfold State.dropSnoop
  with_reducible repeat' first
    | (intro _) | assumption | exact sub_trans hm (by decide) | apply Keeps.ite | refine Keeps.foldl ?_ ?_ _ | split
    | dsimp only | (apply Keeps.upd (k := 8) <;> first | with_unfolding_all rfl | skip)

theorem runBirsp {allowed : Nat} {s0 s : State} (h : Keeps allowed s0 s) (link : Nat) (line : Nat) (dirty : Option (BitVec 512))
    (hm : sub 3661311 allowed := by exact sub_trans (by assumption) (by decide)) :
    KeepsOut allowed s0 (execBirsp link line dirty s) := by
  unfold execBirsp
  refine Keeps.next ?_
  with_reducible repeat' first
    | (intro _) | assumption | exact sub_trans hm (by decide) | apply Keeps.hostCopy | apply Keeps.dropSnoop
    | apply Keeps.dropHolder | apply Keeps.sfUpdate | apply Keeps.sfDrop | apply Keeps.goOn | apply Keeps.ite
    | refine Keeps.foldl ?_ ?_ _ | split | dsimp only
    | (apply Keeps.upd (k := 3661311) <;> first | with_unfolding_all rfl | skip)

theorem runBiTimeout {allowed : Nat} {s0 s : State} (h : Keeps allowed s0 s) (link : Nat) (line : Nat)
    (hm : sub 3661311 allowed := by exact sub_trans (by assumption) (by decide)) :
    KeepsOut allowed s0 (execBiTimeout link line s) := by
  unfold execBiTimeout
  refine Keeps.next ?_
  with_reducible repeat' first
    | (intro _) | assumption | exact sub_trans hm (by decide) | apply Keeps.sfDrop | apply Keeps.dropSnoop
    | apply Keeps.dropHolder | apply Keeps.bump | apply Keeps.drew | apply Keeps.raiseAt | apply Keeps.goOn | apply Keeps.ite
    | refine Keeps.foldl ?_ ?_ _ | split | dsimp only
    | (apply Keeps.upd (k := 3661311) <;> first | with_unfolding_all rfl | skip)

theorem runQuicksetMerge {allowed : Nat} {s0 s : State} (h : Keeps allowed s0 s) (line : Nat)
    (hm : sub 3661311 allowed := by exact sub_trans (by assumption) (by decide)) :
    KeepsOut allowed s0 (execQuicksetMerge line s) := by
  unfold execQuicksetMerge
  refine Keeps.next ?_
  with_reducible repeat' first
    | (intro _) | assumption | exact sub_trans hm (by decide) | apply Keeps.goOn | apply Keeps.clean | apply Keeps.mergeEntry
    | apply Keeps.ite | refine Keeps.foldl ?_ ?_ _ | split | dsimp only
    | (apply Keeps.upd (k := 3661311) <;> first | with_unfolding_all rfl | skip)

theorem coldRequest {allowed : Nat} {s0 s : State} (h : Keeps allowed s0 s) (kind : Nat)
    (hm : sub 526341 allowed := by exact sub_trans (by assumption) (by decide)) :
    Keeps allowed s0 (State.coldRequest s kind) := by
  unfold State.coldRequest
  with_reducible repeat' first
    | (intro _) | assumption | exact sub_trans hm (by decide) | apply Keeps.put | apply Keeps.beginFlush | apply Keeps.ite
    | refine Keeps.foldl ?_ ?_ _ | split | dsimp only
    | (apply Keeps.upd (k := 526341) <;> first | with_unfolding_all rfl | skip)

theorem runColdreset {allowed : Nat} {s0 s : State} (h : Keeps allowed s0 s)
    (hm : sub 526341 allowed := by exact sub_trans (by assumption) (by decide)) :
    KeepsOut allowed s0 (execColdreset s) := by
  unfold execColdreset
  refine Keeps.next ?_
  with_reducible repeat' first
    | (intro _) | assumption | exact sub_trans hm (by decide) | apply Keeps.coldRequest | apply Keeps.ite
    | refine Keeps.foldl ?_ ?_ _ | split | dsimp only
    | (apply Keeps.upd (k := 526341) <;> first | with_unfolding_all rfl | skip)

theorem writeTb {allowed : Nat} {s0 s : State} (h : Keeps allowed s0 s) (a : Nat) (v : Word) (new : Word)
    (hm : sub 2097159 allowed := by exact sub_trans (by assumption) (by decide)) :
    Keeps allowed s0 (State.writeTb s a v new) := by
  unfold State.writeTb
  with_reducible repeat' first
    | (intro _) | assumption | exact sub_trans hm (by decide) | apply Keeps.setReg | apply Keeps.landed | apply Keeps.ite
    | refine Keeps.foldl ?_ ?_ _ | split | dsimp only
    | (apply Keeps.upd (k := 2097159) <;> first | with_unfolding_all rfl | skip) | apply Keeps.runTbCtlWrite
    | apply Keeps.runTbSetWrite

theorem writeLaunchSlot {allowed : Nat} {s0 s : State} (h : Keeps allowed s0 s) (u : LaunchUnit) (i : Nat) (a : Nat) (v : Word) (new : Word)
    (hm : sub 2382213 allowed := by exact sub_trans (by assumption) (by decide)) :
    Keeps allowed s0 (State.writeLaunchSlot s u i a v new) := by
  unfold State.writeLaunchSlot
  with_reducible repeat' first
    | (intro _) | assumption | exact sub_trans hm (by decide) | apply Keeps.setReg | apply Keeps.landed | apply Keeps.ite
    | refine Keeps.foldl ?_ ?_ _ | split | dsimp only
    | (apply Keeps.upd (k := 2382213) <;> first | with_unfolding_all rfl | skip) | apply Keeps.runLaunchSlotArm
    | apply Keeps.runLaunchSlotCancel

theorem writeWin {allowed : Nat} {s0 s : State} (h : Keeps allowed s0 s) (x : RegPlace) (a : Nat) (v : Word) (new : Word)
    (hm : sub 67973 allowed := by exact sub_trans (by assumption) (by decide)) :
    Keeps allowed s0 (State.writeWin s x a v new) := by
  unfold State.writeWin
  with_reducible repeat' first
    | (intro _) | assumption | exact sub_trans hm (by decide) | apply Keeps.setReg | apply Keeps.landed | apply Keeps.ite
    | refine Keeps.foldl ?_ ?_ _ | split | dsimp only | (apply Keeps.upd (k := 67973) <;> first | with_unfolding_all rfl | skip)
    | apply Keeps.runClearentry | apply Keeps.runClearall | apply Keeps.runClearoverflow | apply Keeps.runWinLdBindWrite
    | apply Keeps.runWinLdExtentWrite

theorem startSlot {allowed : Nat} {s0 s : State} (h : Keeps allowed s0 s) (i : Nat) (op : Nat)
    (hm : sub 266277 allowed := by exact sub_trans (by assumption) (by decide)) :
    Keeps allowed s0 (State.startSlot s i op) := by
  unfold State.startSlot
  with_reducible repeat' first
    | (intro _) | assumption | exact sub_trans hm (by decide) | apply Keeps.startRegister | apply Keeps.landed | apply Keeps.ite
    | refine Keeps.foldl ?_ ?_ _ | split | dsimp only
    | (apply Keeps.upd (k := 266277) <;> first | with_unfolding_all rfl | skip) | apply Keeps.runClean
    | apply Keeps.runInvalidate | apply Keeps.runPrefetch | apply Keeps.runLockRange | apply Keeps.runUnlock
    | apply Keeps.runInvalidateall

theorem writeLc {allowed : Nat} {s0 s : State} (h : Keeps allowed s0 s) (x : RegPlace) (a : Nat) (v : Word) (new : Word)
    (hm : sub 266285 allowed := by exact sub_trans (by assumption) (by decide)) :
    Keeps allowed s0 (State.writeLc s x a v new) := by
  unfold State.writeLc
  with_reducible repeat' first
    | (intro _) | assumption | exact sub_trans hm (by decide) | apply Keeps.startSlot | apply Keeps.setReg | apply Keeps.landed
    | apply Keeps.ite | refine Keeps.foldl ?_ ?_ _ | split | dsimp only
    | (apply Keeps.upd (k := 266285) <;> first | with_unfolding_all rfl | skip) | apply Keeps.runLcEnable
    | apply Keeps.runLcDisable

theorem writeMt {allowed : Nat} {s0 s : State} (h : Keeps allowed s0 s) (x : RegPlace) (a : Nat) (v : Word) (new : Word)
    (hm : sub 2366973 allowed := by exact sub_trans (by assumption) (by decide)) :
    Keeps allowed s0 (State.writeMt s x a v new) := by
  unfold State.writeMt
  with_reducible repeat' first
    | (intro _) | assumption | exact sub_trans hm (by decide) | apply Keeps.setReg | apply Keeps.set | apply Keeps.retireNone
    | apply Keeps.landed | apply Keeps.ite | refine Keeps.foldl ?_ ?_ _ | split | dsimp only
    | (apply Keeps.upd (k := 2366973) <;> first | with_unfolding_all rfl | skip) | apply Keeps.runRetirePageByAddress
    | apply Keeps.runRetirePageByLocation | apply Keeps.runRetireRank | apply Keeps.runRetrainnow

theorem writeFt {allowed : Nat} {s0 s : State} (h : Keeps allowed s0 s) (x : RegPlace) (a : Nat) (v : Word) (new : Word)
    (hm : sub 68485 allowed := by exact sub_trans (by assumption) (by decide)) :
    Keeps allowed s0 (State.writeFt s x a v new) := by
  unfold State.writeFt
  with_reducible repeat' first
    | (intro _) | assumption | exact sub_trans hm (by decide) | apply Keeps.setReg | apply Keeps.landed | apply Keeps.ite
    | refine Keeps.foldl ?_ ?_ _ | split | dsimp only | (apply Keeps.upd (k := 68485) <;> first | with_unfolding_all rfl | skip)
    | apply Keeps.runFtGrantEntryWrite | apply Keeps.runFtStreamCfgWrite

theorem writeTopPer {allowed : Nat} {s0 s : State} (h : Keeps allowed s0 s) (x : RegPlace) (a : Nat) (v : Word) (new : Word)
    (hm : sub 526725 allowed := by exact sub_trans (by assumption) (by decide)) :
    Keeps allowed s0 (State.writeTopPer s x a v new) := by
  unfold State.writeTopPer
  with_reducible repeat' first
    | (intro _) | assumption | exact sub_trans hm (by decide) | apply Keeps.setReg | apply Keeps.setBudget | apply Keeps.landed
    | apply Keeps.ite | refine Keeps.foldl ?_ ?_ _ | split | dsimp only
    | (apply Keeps.upd (k := 526725) <;> first | with_unfolding_all rfl | skip) | apply Keeps.runTopGroupCfgWrite
    | apply Keeps.runCheckpointnow | apply Keeps.runShutdownnow | apply Keeps.runMirrorEnable | apply Keeps.runMirrorDisable

theorem writeRingHz {allowed : Nat} {s0 s : State} (h : Keeps allowed s0 s) (x : RegPlace) (a : Nat) (v : Word) (new : Word)
    (hm : sub 3661311 allowed := by exact sub_trans (by assumption) (by decide)) :
    Keeps allowed s0 (State.writeRingHz s x a v new) := by
  unfold State.writeRingHz
  with_reducible repeat' first
    | (intro _) | assumption | exact sub_trans hm (by decide) | apply Keeps.setReg | apply Keeps.writeLaunchSlot
    | apply Keeps.landed | apply Keeps.ite | refine Keeps.foldl ?_ ?_ _ | split | dsimp only
    | (apply Keeps.upd (k := 3661311) <;> first | with_unfolding_all rfl | skip) | apply Keeps.runRingBindWrite
    | apply Keeps.runQFlush | apply Keeps.runSpillQuotaWrite | apply Keeps.runHzShmGrantWrite | apply Keeps.runImageflush
    | apply Keeps.runHzCoreReset

theorem writeNet {allowed : Nat} {s0 s : State} (h : Keeps allowed s0 s) (a : Nat) (v : Word) (new : Word)
    (hm : sub 1415557 allowed := by exact sub_trans (by assumption) (by decide)) :
    Keeps allowed s0 (State.writeNet s a v new) := by
  unfold State.writeNet
  with_reducible repeat' first
    | (intro _) | assumption | exact sub_trans hm (by decide) | apply Keeps.setReg | apply Keeps.landed | apply Keeps.ite
    | refine Keeps.foldl ?_ ?_ _ | split | dsimp only
    | (apply Keeps.upd (k := 1415557) <;> first | with_unfolding_all rfl | skip) | apply Keeps.runNetGidCtlCommit
    | apply Keeps.runNetQpCtx0Commit | apply Keeps.runNetMrCtlCommit

theorem writeKl {allowed : Nat} {s0 s : State} (h : Keeps allowed s0 s) (x : RegPlace) (a : Nat) (v : Word) (new : Word)
    (hm : sub 4186111 allowed := by exact sub_trans (by assumption) (by decide)) :
    Keeps allowed s0 (State.writeKl s x a v new) := by
  unfold State.writeKl
  with_reducible repeat' first
    | (intro _) | assumption | exact sub_trans hm (by decide) | apply Keeps.giveL1 | apply Keeps.setReg | apply Keeps.landed
    | apply Keeps.ite | refine Keeps.foldl ?_ ?_ _ | split | dsimp only
    | (apply Keeps.upd (k := 4186111) <;> first | with_unfolding_all rfl | skip) | apply Keeps.runKlDisable
    | apply Keeps.runKlRetrain | apply Keeps.runRevoke | apply Keeps.runAdmitAgent | apply Keeps.runKlAptCommit

theorem writePv {allowed : Nat} {s0 s : State} (h : Keeps allowed s0 s) (x : RegPlace) (a : Nat) (v : Word) (new : Word)
    (hm : sub 4073485 allowed := by exact sub_trans (by assumption) (by decide)) :
    Keeps allowed s0 (State.writePv s x a v new) := by
  unfold State.writePv
  with_reducible repeat' first
    | (intro _) | assumption | exact sub_trans hm (by decide) | apply Keeps.setReg | apply Keeps.landed | apply Keeps.ite
    | refine Keeps.foldl ?_ ?_ _ | split | dsimp only
    | (apply Keeps.upd (k := 4073485) <;> first | with_unfolding_all rfl | skip) | apply Keeps.runCommit | apply Keeps.runRevert
    | apply Keeps.runEraseKek | apply Keeps.runImportKek | apply Keeps.runPsRead | apply Keeps.runPsWrite
    | apply Keeps.runColdreset

theorem writePwr {allowed : Nat} {s0 s : State} (h : Keeps allowed s0 s) (x : RegPlace) (a : Nat) (new : Word)
    (hm : sub 1 allowed := by exact sub_trans (by assumption) (by decide)) :
    Keeps allowed s0 (State.writePwr s x a new) := by
  unfold State.writePwr
  with_reducible repeat' first
    | (intro _) | assumption | exact sub_trans hm (by decide) | apply Keeps.setReg | apply Keeps.ite
    | refine Keeps.foldl ?_ ?_ _ | split | dsimp only | (apply Keeps.upd (k := 1) <;> first | with_unfolding_all rfl | skip)

theorem writeObs {allowed : Nat} {s0 s : State} (h : Keeps allowed s0 s) (x : RegPlace) (a : Nat) (v : Word) (new : Word)
    (hm : sub 1449997 allowed := by exact sub_trans (by assumption) (by decide)) :
    Keeps allowed s0 (State.writeObs s x a v new) := by
  unfold State.writeObs
  with_reducible repeat' first
    | (intro _) | assumption | exact sub_trans hm (by decide) | apply Keeps.setReg | apply Keeps.setCounter | apply Keeps.landed
    | apply Keeps.ite | refine Keeps.foldl ?_ ?_ _ | split | dsimp only
    | (apply Keeps.upd (k := 1449997) <;> first | with_unfolding_all rfl | skip) | apply Keeps.runClearram
    | apply Keeps.runClearpersist | apply Keeps.runEvrCursorWrite | apply Keeps.runPmcFreeze | apply Keeps.runPmcThaw
    | apply Keeps.runPmcCntWrite | apply Keeps.runPmcSampleEnable | apply Keeps.runPmcSampleRdWrite
    | apply Keeps.runBwWindowOpen

theorem writeReg {allowed : Nat} {s0 s : State} (h : Keeps allowed s0 s) (x : RegPlace) (a : Nat) (v : Word)
    (hm : sub 4194303 allowed := by exact sub_trans (by assumption) (by decide)) :
    Keeps allowed s0 (State.writeReg s x a v) := by
  unfold State.writeReg
  with_reducible repeat' first
    | (intro _) | assumption | exact sub_trans hm (by decide) | apply Keeps.pageWrite | apply Keeps.keyPageWrite
    | apply Keeps.writeLaunchSlot | apply Keeps.writeTb | apply Keeps.writeWin | apply Keeps.writeLc | apply Keeps.writeMt
    | apply Keeps.writeFt | apply Keeps.writeTopPer | apply Keeps.writeRingHz | apply Keeps.writeNet | apply Keeps.writeKl
    | apply Keeps.writePv | apply Keeps.writePwr | apply Keeps.writeObs | apply Keeps.setReg | apply Keeps.ite
    | refine Keeps.foldl ?_ ?_ _ | split | dsimp only
    | (apply Keeps.upd (k := 4194303) <;> first | with_unfolding_all rfl | skip)

theorem hostWriteReg {allowed : Nat} {s0 s : State} (h : Keeps allowed s0 s) (dom : Nat) (a : Nat) (width : Nat) (v : Word)
    (hm : sub 4194303 allowed := by exact sub_trans (by assumption) (by decide)) :
    Keeps allowed s0 (State.hostWriteReg s dom a width v) := by
  unfold State.hostWriteReg
  with_reducible repeat' first
    | (intro _) | assumption | exact sub_trans hm (by decide) | apply Keeps.refusePage | apply Keeps.badAccess
    | apply Keeps.keyPageWrite | apply Keeps.writeReg | apply Keeps.ite | refine Keeps.foldl ?_ ?_ _ | split | dsimp only
    | (apply Keeps.upd (k := 4194303) <;> first | with_unfolding_all rfl | skip)

theorem runRegisterWrite {allowed : Nat} {s0 s : State} (h : Keeps allowed s0 s) (dom addr width : Nat) (value : BitVec 64)
    (hm : sub 4194303 allowed := by exact sub_trans (by assumption) (by decide)) :
    KeepsOut allowed s0 (execRegisterWrite dom addr width value s) := by
  unfold execRegisterWrite
  split
  · intro t e
    cases e
  · exact Keeps.next (h.hostWriteReg _ _ _ _)

theorem runRegisterAccessBadWidth {allowed : Nat} {s0 s : State} (h : Keeps allowed s0 s) (dom addr width : Nat) (read : Bool)
    (hm : sub 1048580 allowed := by exact sub_trans (by assumption) (by decide)) :
    KeepsOut allowed s0 (execRegisterAccessBadWidth dom addr width read s) := by
  unfold execRegisterAccessBadWidth
  split
  · intro t e
    cases e
  · refine Keeps.next ?_
    split
    · exact h.refusePage _ _
    · exact h
    · split
      · exact h
      · exact Keeps.ite ((h.badAccess _ _ _).send _) (h.badAccess _ _ _)

theorem configWrite {allowed : Nat} {s0 s : State} (h : Keeps allowed s0 s) (a : Nat) (v : Word)
    (hm : sub 4194303 allowed := by exact sub_trans (by assumption) (by decide)) :
    Keeps allowed s0 (State.configWrite s a v).1 := by
  unfold State.configWrite
  with_reducible repeat' first
    | (intro _) | assumption | exact sub_trans hm (by decide) | apply Keeps.set | apply Keeps.writeReg | apply Keeps.ite
    | refine Keeps.foldl ?_ ?_ _ | split | dsimp only
    | (apply Keeps.upd (k := 4194303) <;> first | with_unfolding_all rfl | skip)

theorem configWrite_eq {allowed : Nat} {s0 s : State} (h : Keeps allowed s0 s) {a1 : Nat} {a2 : Word} {t0 : State} {x} (e : State.configWrite s a1 a2 = (t0, x))
    (hm : sub 4194303 allowed := by exact sub_trans (by assumption) (by decide)) :
    Keeps allowed s0 t0 := by
  have g := Keeps.configWrite h a1 a2
  rw [e] at g
  exact g

theorem configEvent {allowed : Nat} {s0 s : State} (h : Keeps allowed s0 s) (skipped : Option Nat)
    (hm : sub 2097156 allowed := by exact sub_trans (by assumption) (by decide)) :
    Keeps allowed s0 (State.configEvent s skipped) := by
  unfold State.configEvent
  with_reducible repeat' first
    | (intro _) | assumption | exact sub_trans hm (by decide) | apply Keeps.raise | apply Keeps.drew | apply Keeps.ite
    | refine Keeps.foldl ?_ ?_ _ | split | dsimp only
    | (apply Keeps.upd (k := 2097156) <;> first | with_unfolding_all rfl | skip)

theorem foldlPair {α β : Type} {f : State × β → α → State × β} {s0 : State} {x : State × β} (h : Keeps allowed s0 x.1)
    (hf : ∀ t y, Keeps allowed s0 t.1 → Keeps allowed s0 (f t y).1) (l : List α) : Keeps allowed s0 (l.foldl f x).1 := by
  induction l generalizing x with
  | nil => exact h
  | cons y l ih => exact ih (hf x y h)

theorem applyEntries {allowed : Nat} {s0 s : State} (h : Keeps allowed s0 s) (sel : Nat → Bool)
    (hm : sub 4194303 allowed := by exact sub_trans (by assumption) (by decide)) : Keeps allowed s0 (State.applyEntries s sel).1 := by
  unfold State.applyEntries
  refine foldlPair h (fun t e g => ?_) _
  refine foldlPair g (fun t k g => ?_) _
  dsimp only
  split
  · exact g.configWrite _ _
  · exact g

theorem applyEntries_eq {allowed : Nat} {s0 s : State} (h : Keeps allowed s0 s) {a1 : Nat → Bool} {t0 : State} {x} (e : State.applyEntries s a1 = (t0, x))
    (hm : sub 4194303 allowed := by exact sub_trans (by assumption) (by decide)) :
    Keeps allowed s0 t0 := by
  have g := Keeps.applyEntries h a1
  rw [e] at g
  exact g

theorem settleWindow {allowed : Nat} {s0 s : State} (h : Keeps allowed s0 s)
    (hm : sub 2621445 allowed := by exact sub_trans (by assumption) (by decide)) :
    Keeps allowed s0 (State.settleWindow s) := by
  unfold State.settleWindow
  with_reducible repeat' first
    | (intro _) | assumption | exact sub_trans hm (by decide) | apply Keeps.setReg | apply Keeps.put | apply Keeps.drew
    | apply Keeps.raise | apply Keeps.set | apply Keeps.ite | refine Keeps.foldl ?_ ?_ _ | split | dsimp only
    | (apply Keeps.upd (k := 2621445) <;> first | with_unfolding_all rfl | skip)

theorem settleSizes {allowed : Nat} {s0 s : State} (h : Keeps allowed s0 s)
    (hm : sub 2105349 allowed := by exact sub_trans (by assumption) (by decide)) :
    Keeps allowed s0 (State.settleSizes s) := by
  unfold State.settleSizes
  with_reducible repeat' first
    | (intro _) | assumption | exact sub_trans hm (by decide) | apply Keeps.drew | apply Keeps.raise | apply Keeps.set
    | apply Keeps.ite | refine Keeps.foldl ?_ ?_ _ | split | dsimp only
    | (apply Keeps.upd (k := 2105349) <;> first | with_unfolding_all rfl | skip)

theorem setLocks {allowed : Nat} {s0 s : State} (h : Keeps allowed s0 s)
    (hm : sub 1 allowed := by exact sub_trans (by assumption) (by decide)) :
    Keeps allowed s0 (State.setLocks s) := by
  unfold State.setLocks
  with_reducible repeat' first
    | (intro _) | assumption | exact sub_trans hm (by decide) | apply Keeps.set | apply Keeps.put | apply Keeps.ite
    | refine Keeps.foldl ?_ ?_ _ | split | dsimp only | (apply Keeps.upd (k := 1) <;> first | with_unfolding_all rfl | skip)

theorem applyConfig {allowed : Nat} {s0 s : State} (h : Keeps allowed s0 s)
    (hm : sub 4194303 allowed := by exact sub_trans (by assumption) (by decide)) :
    Keeps allowed s0 (State.applyConfig s) := by
  unfold State.applyConfig
  with_reducible repeat' first
    | (intro _) | assumption | exact sub_trans hm (by decide) | apply Keeps.applyEntries | apply Keeps.setLocks
    | apply Keeps.settleSizes | apply Keeps.settleWindow | apply Keeps.configEvent
    | refine Keeps.applyEntries_eq ?_ (e := by assumption) | apply Keeps.ite | refine Keeps.foldl ?_ ?_ _ | split | dsimp only
    | (apply Keeps.upd (k := 4194303) <;> first | with_unfolding_all rfl | skip)

theorem startFchan {allowed : Nat} {s0 s : State} (h : Keeps allowed s0 s) (l : List FchanFound) (profile : Nat) (c : Nat)
    (hm : sub 5 allowed := by exact sub_trans (by assumption) (by decide)) :
    Keeps allowed s0 (State.startFchan s l profile c) := by
  unfold State.startFchan
  with_reducible repeat' first
    | (intro _) | assumption | exact sub_trans hm (by decide) | apply Keeps.raise | apply Keeps.set | apply Keeps.setReg
    | apply Keeps.put | apply Keeps.ite | refine Keeps.foldl ?_ ?_ _ | split | dsimp only
    | (apply Keeps.upd (k := 5) <;> first | with_unfolding_all rfl | skip)

theorem keepFailed {allowed : Nat} {s0 s : State} (h : Keeps allowed s0 s)
    (hm : sub 1990653 allowed := by exact sub_trans (by assumption) (by decide)) :
    Keeps allowed s0 (State.keepFailed s) := by
  unfold State.keepFailed
  with_reducible repeat' first
    | (intro _) | assumption | exact sub_trans hm (by decide) | apply Keeps.setReg | apply Keeps.dieGone | apply Keeps.setBit
    | apply Keeps.ite | refine Keeps.foldl ?_ ?_ _ | split | dsimp only
    | (apply Keeps.upd (k := 1990653) <;> first | with_unfolding_all rfl | skip)

theorem reducedIfLost {allowed : Nat} {s0 s : State} (h : Keeps allowed s0 s)
    (hm : sub 524289 allowed := by exact sub_trans (by assumption) (by decide)) :
    Keeps allowed s0 (State.reducedIfLost s) := by
  unfold State.reducedIfLost
  with_reducible repeat' first
    | (intro _) | assumption | exact sub_trans hm (by decide) | apply Keeps.reduced | apply Keeps.ite
    | refine Keeps.foldl ?_ ?_ _ | split | dsimp only
    | (apply Keeps.upd (k := 524289) <;> first | with_unfolding_all rfl | skip)

theorem firmwareLoaded {allowed : Nat} {s0 s : State} (h : Keeps allowed s0 s) (f : StartFindings)
    (hm : sub 2056189 allowed := by exact sub_trans (by assumption) (by decide)) :
    Keeps allowed s0 (State.firmwareLoaded s f) := by
  unfold State.firmwareLoaded
  with_reducible repeat' first
    | (intro _) | assumption | exact sub_trans hm (by decide) | apply Keeps.startFchan | apply Keeps.clusterGone
    | apply Keeps.setBit | apply Keeps.set | apply Keeps.touchKey | apply Keeps.reducedIfLost | apply Keeps.keepFailed
    | apply Keeps.put | apply Keeps.ite | refine Keeps.foldl ?_ ?_ _ | split | dsimp only
    | (apply Keeps.upd (k := 2056189) <;> first | with_unfolding_all rfl | skip)

theorem stacksTrained {allowed : Nat} {s0 s : State} (h : Keeps allowed s0 s) (f : StartFindings)
    (hm : sub 4194303 allowed := by exact sub_trans (by assumption) (by decide)) : Keeps allowed s0 (State.stacksTrained s f) := by
  unfold State.stacksTrained
  extract_lets +onlyGivenNames s1
  have h1 : Keeps allowed s0 s1 := by
    with_reducible exact Keeps.foldl h (fun _ _ g => (g.setBit _ _ _).raise _ _ _ _ _) _
  clear_value s1
  extract_lets +onlyGivenNames s2
  have h2 : Keeps allowed s0 s2 := by with_reducible exact Keeps.ite (h1.applyEntries _) h1
  clear_value s2
  extract_lets +onlyGivenNames s3
  have h3 : Keeps allowed s0 s3 := h2.reducedIfLost
  clear_value s3
  extract_lets +onlyGivenNames u4 s4
  have h4 : Keeps allowed s0 s4 := h3.upd rfl rfl rfl
  clear_value s4
  with_reducible exact Keeps.ite (h4.startRecovery.set _ _) (h4.safeMode _)

theorem dropAboveSize {allowed : Nat} {s0 s : State} (h : Keeps allowed s0 s)
    (hm : sub 526725 allowed := by exact sub_trans (by assumption) (by decide)) :
    Keeps allowed s0 (State.dropAboveSize s) := by
  unfold State.dropAboveSize
  with_reducible repeat' first
    | (intro _) | assumption | exact sub_trans hm (by decide) | apply Keeps.setPlot | apply Keeps.journal | apply Keeps.setGroup
    | apply Keeps.ite | refine Keeps.foldl ?_ ?_ _ | split | dsimp only
    | (apply Keeps.upd (k := 526725) <;> first | with_unfolding_all rfl | skip)

theorem saveGood {allowed : Nat} {s0 s : State} (h : Keeps allowed s0 s)
    (hm : sub 8193 allowed := by exact sub_trans (by assumption) (by decide)) :
    Keeps allowed s0 (State.saveGood s) := by
  unfold State.saveGood
  with_reducible repeat' first
    | (intro _) | assumption | exact sub_trans hm (by decide) | apply Keeps.showPs | apply Keeps.ite
    | refine Keeps.foldl ?_ ?_ _ | split | dsimp only | (apply Keeps.upd (k := 8193) <;> first | with_unfolding_all rfl | skip)

theorem windowServed {allowed : Nat} {s0 s : State} (h : Keeps allowed s0 s)
    (hm : sub 534917 allowed := by exact sub_trans (by assumption) (by decide)) :
    Keeps allowed s0 (State.windowServed s) := by
  unfold State.windowServed
  with_reducible repeat' first
    | (intro _) | assumption | exact sub_trans hm (by decide) | apply Keeps.dropAboveSize | apply Keeps.set
    | apply Keeps.saveGood | apply Keeps.showCluster | apply Keeps.ite | refine Keeps.foldl ?_ ?_ _ | split | dsimp only
    | (apply Keeps.upd (k := 534917) <;> first | with_unfolding_all rfl | skip)

theorem milestone {allowed : Nat} {s0 s : State} (h : Keeps allowed s0 s) {f : StartFindings} {a2 : Nat} {t0 : State} (e : (State.milestone s f a2) = some t0)
    (hm : sub 4194303 allowed := by exact sub_trans (by assumption) (by decide)) :
    Keeps allowed s0 t0 := by
  unfold State.milestone at e
  try dsimp only at e
  repeat' split at e
  all_goals first | contradiction | (injection e with e; subst e)
  all_goals with_reducible repeat' first
    | (intro _) | assumption | exact sub_trans hm (by decide) | apply Keeps.applyConfig | apply Keeps.set
    | apply Keeps.firmwareLoaded | apply Keeps.stacksTrained | apply Keeps.windowServed | apply Keeps.ite
    | refine Keeps.foldl ?_ ?_ _ | split | dsimp only
    | (apply Keeps.upd (k := 4194303) <;> first | with_unfolding_all rfl | skip)

theorem privetAgain {allowed : Nat} {s0 s : State} (h : Keeps allowed s0 s) (bankA bankB : FlashBank) (badKeys : List Nat) (udsBad : Bool)
    (hm : sub 2170885 allowed := by exact sub_trans (by assumption) (by decide)) :
    Keeps allowed s0 (State.privetAgain s bankA bankB badKeys udsBad) := by
  unfold State.privetAgain
  extract_lets +onlyGivenNames s1 u01 s2
  have h1 : Keeps allowed s0 s1 := by with_reducible exact h.tearWrite
  have h2 : Keeps allowed s0 s2 := by with_reducible exact (h1.regsFilter (fun x => State.keptAtRestart x.1)).upd rfl rfl rfl
  exact h2.privetStarts _ _ _ _

theorem startAgain {allowed : Nat} {s0 s : State} (h : Keeps allowed s0 s)
    (hm : sub 4194303 allowed := by exact sub_trans (by assumption) (by decide)) :
    Keeps allowed s0 (State.startAgain s) := by
  unfold State.startAgain
  with_reducible repeat' first
    | (intro _) | assumption | exact sub_trans hm (by decide) | apply Keeps.set | apply Keeps.modeAfresh
    | apply Keeps.applyConfig | apply Keeps.ite | refine Keeps.foldl ?_ ?_ _ | split | dsimp only
    | (apply Keeps.upd (k := 4194303) <;> first | with_unfolding_all rfl | skip)

theorem noteConfigured {allowed : Nat} {s0 s : State} (h : Keeps allowed s0 s)
    (hm : sub 524288 allowed := by exact sub_trans (by assumption) (by decide)) :
    Keeps allowed s0 (State.noteConfigured s) := by
  unfold State.noteConfigured
  with_reducible repeat' first
    | (intro _) | assumption | exact sub_trans hm (by decide) | apply Keeps.ite | refine Keeps.foldl ?_ ?_ _ | split
    | dsimp only | (apply Keeps.upd (k := 524288) <;> first | with_unfolding_all rfl | skip)

theorem configurePower {allowed : Nat} {s0 s : State} (h : Keeps allowed s0 s)
    (hm : sub 4194303 allowed := by exact sub_trans (by assumption) (by decide)) :
    Keeps allowed s0 (State.configurePower s) := by
  unfold State.configurePower
  with_reducible repeat' first
    | (intro _) | assumption | exact sub_trans hm (by decide) | apply Keeps.applyEntries | apply Keeps.raise
    | apply Keeps.noteConfigured | apply Keeps.put | refine Keeps.applyEntries_eq ?_ (e := by assumption) | apply Keeps.ite
    | refine Keeps.foldl ?_ ?_ _ | split | dsimp only
    | (apply Keeps.upd (k := 4194303) <;> first | with_unfolding_all rfl | skip)

theorem runPowerOn {allowed : Nat} {s0 s : State} (h : Keeps allowed s0 s)
    (hm : sub 4194303 allowed := by exact sub_trans (by assumption) (by decide)) :
    KeepsOut allowed s0 (execPowerOn s) := by
  unfold execPowerOn
  refine Keeps.next ?_
  with_reducible repeat' first
    | (intro _) | assumption | exact sub_trans hm (by decide) | apply Keeps.powerOn | apply Keeps.configurePower
    | apply Keeps.ite | refine Keeps.foldl ?_ ?_ _ | split | dsimp only
    | (apply Keeps.upd (k := 4194303) <;> first | with_unfolding_all rfl | skip)

theorem runPorstNAssert {allowed : Nat} {s0 s : State} (h : Keeps allowed s0 s)
    (hm : sub 3145343 allowed := by exact sub_trans (by assumption) (by decide)) :
    KeepsOut allowed s0 (execPorstNAssert s) := by
  unfold execPorstNAssert
  refine Keeps.next ?_
  with_reducible repeat' first
    | (intro _) | assumption | exact sub_trans hm (by decide) | apply Keeps.railsLow | apply Keeps.resetPrivet
    | apply Keeps.cutRails | apply Keeps.ite | refine Keeps.foldl ?_ ?_ _ | split | dsimp only
    | (apply Keeps.upd (k := 3145343) <;> first | with_unfolding_all rfl | skip)

theorem runStandbyRailLoss {allowed : Nat} {s0 s : State} (h : Keeps allowed s0 s)
    (hm : sub 3145343 allowed := by exact sub_trans (by assumption) (by decide)) :
    KeepsOut allowed s0 (execStandbyRailLoss s) := by
  unfold execStandbyRailLoss
  refine Keeps.next ?_
  with_reducible repeat' first
    | (intro _) | assumption | exact sub_trans hm (by decide) | apply Keeps.railsLow | apply Keeps.resetPrivet
    | apply Keeps.cutRails | apply Keeps.ite | refine Keeps.foldl ?_ ?_ _ | split | dsimp only
    | (apply Keeps.upd (k := 3145343) <;> first | with_unfolding_all rfl | skip)

theorem runStartupMilestone {allowed : Nat} {s0 s : State} (h : Keeps allowed s0 s) (milestone : Nat) (found : StartFindings)
    (hm : sub 4194303 allowed := by exact sub_trans (by assumption) (by decide)) :
    KeepsOut allowed s0 (execStartupMilestone milestone found s) := by
  unfold execStartupMilestone
  refine Keeps.next ?_
  with_reducible repeat' first
    | (intro _) | assumption | exact sub_trans hm (by decide) | refine Keeps.milestone ?_ (e := by assumption) | apply Keeps.set
    | apply Keeps.ite | refine Keeps.foldl ?_ ?_ _ | split | dsimp only
    | (apply Keeps.upd (k := 4194303) <;> first | with_unfolding_all rfl | skip)

theorem runColdResetStep {allowed : Nat} {s0 s : State} (h : Keeps allowed s0 s) (bankA : FlashBank) (bankB : FlashBank) (badKeys : List Nat) (udsBad : Bool)
    (hm : sub 4194303 allowed := by exact sub_trans (by assumption) (by decide)) :
    KeepsOut allowed s0 (execColdResetStep bankA bankB badKeys udsBad s) := by
  unfold execColdResetStep
  refine Keeps.next ?_
  with_reducible repeat' first
    | (intro _) | assumption | exact sub_trans hm (by decide) | apply Keeps.resetDies | apply Keeps.showReset
    | apply Keeps.privetAgain | apply Keeps.startAgain | apply Keeps.ite | refine Keeps.foldl ?_ ?_ _ | split | dsimp only
    | (apply Keeps.upd (k := 4194303) <;> first | with_unfolding_all rfl | skip)

theorem runComponentCheckFailure {allowed : Nat} {s0 s : State} (h : Keeps allowed s0 s) (component : Nat)
    (hm : sub 3145343 allowed := by exact sub_trans (by assumption) (by decide)) :
    KeepsOut allowed s0 (execComponentCheckFailure component s) := by
  unfold execComponentCheckFailure
  refine Keeps.next ?_
  with_reducible repeat' first
    | (intro _) | assumption | exact sub_trans hm (by decide) | apply Keeps.resetDies | apply Keeps.raise | apply Keeps.ite
    | refine Keeps.foldl ?_ ?_ _ | split | dsimp only
    | (apply Keeps.upd (k := 3145343) <;> first | with_unfolding_all rfl | skip)

theorem nextOpening {allowed : Nat} {s0 s : State} (h : Keeps allowed s0 s)
    (hm : sub 8192 allowed := by exact sub_trans (by assumption) (by decide)) :
    Keeps allowed s0 (State.nextOpening s) := by
  unfold State.nextOpening
  with_reducible repeat' first
    | (intro _) | assumption | exact sub_trans hm (by decide) | apply Keeps.ite | refine Keeps.foldl ?_ ?_ _ | split
    | dsimp only | (apply Keeps.upd (k := 8192) <;> first | with_unfolding_all rfl | skip)

theorem emptySlots {allowed : Nat} {s0 s : State} (h : Keeps allowed s0 s)
    (hm : sub 65536 allowed := by exact sub_trans (by assumption) (by decide)) :
    Keeps allowed s0 (State.emptySlots s) := by
  unfold State.emptySlots
  with_reducible repeat' first
    | (intro _) | assumption | exact sub_trans hm (by decide) | apply Keeps.ite | refine Keeps.foldl ?_ ?_ _ | split
    | dsimp only | (apply Keeps.upd (k := 65536) <;> first | with_unfolding_all rfl | skip)

theorem domainsIdle {allowed : Nat} {s0 s : State} (h : Keeps allowed s0 s) (n : Nat)
    (hm : sub 1 allowed := by exact sub_trans (by assumption) (by decide)) :
    Keeps allowed s0 (State.domainsIdle s n) := by
  unfold State.domainsIdle
  with_reducible repeat' first
    | (intro _) | assumption | exact sub_trans hm (by decide) | apply Keeps.setReg | apply Keeps.ite
    | refine Keeps.foldl ?_ ?_ _ | split | dsimp only | (apply Keeps.upd (k := 1) <;> first | with_unfolding_all rfl | skip)

theorem closeDomains {allowed : Nat} {s0 s : State} (h : Keeps allowed s0 s)
    (hm : sub 2612863 allowed := by exact sub_trans (by assumption) (by decide)) :
    Keeps allowed s0 (State.closeDomains s) := by
  unfold State.closeDomains
  with_reducible repeat' first
    | (intro _) | assumption | exact sub_trans hm (by decide) | apply Keeps.emptySlots | apply Keeps.domainsIdle
    | apply Keeps.resetDies | apply Keeps.ite | refine Keeps.foldl ?_ ?_ _ | split | dsimp only
    | (apply Keeps.upd (k := 2612863) <;> first | with_unfolding_all rfl | skip)

theorem markDebugErase {allowed : Nat} {s0 s : State} (h : Keeps allowed s0 s)
    (hm : sub 8192 allowed := by exact sub_trans (by assumption) (by decide)) :
    Keeps allowed s0 (State.markDebugErase s) := by
  unfold State.markDebugErase
  with_reducible repeat' first
    | (intro _) | assumption | exact sub_trans hm (by decide) | apply Keeps.ite | refine Keeps.foldl ?_ ?_ _ | split
    | dsimp only | (apply Keeps.upd (k := 8192) <;> first | with_unfolding_all rfl | skip)

theorem noteDebugErase {allowed : Nat} {s0 s : State} (h : Keeps allowed s0 s)
    (hm : sub 8196 allowed := by exact sub_trans (by assumption) (by decide)) :
    Keeps allowed s0 (State.noteDebugErase s) := by
  unfold State.noteDebugErase
  with_reducible repeat' first
    | (intro _) | assumption | exact sub_trans hm (by decide) | apply Keeps.spreadInc | apply Keeps.raise | apply Keeps.ite
    | refine Keeps.foldl ?_ ?_ _ | split | dsimp only | (apply Keeps.upd (k := 8196) <;> first | with_unfolding_all rfl | skip)

theorem debugOpen {allowed : Nat} {s0 s : State} (h : Keeps allowed s0 s)
    (hm : sub 4194303 allowed := by exact sub_trans (by assumption) (by decide)) :
    Keeps allowed s0 (State.debugOpen s) := by
  unfold State.debugOpen
  with_reducible repeat' first
    | (intro _) | assumption | exact sub_trans hm (by decide) | apply Keeps.showImport | apply Keeps.set
    | apply Keeps.startAgain | apply Keeps.ite | refine Keeps.foldl ?_ ?_ _ | split | dsimp only
    | (apply Keeps.upd (k := 4194303) <;> first | with_unfolding_all rfl | skip)

theorem runDebugOpeningStep {allowed : Nat} {s0 s : State} (h : Keeps allowed s0 s)
    (hm : sub 4194303 allowed := by exact sub_trans (by assumption) (by decide)) :
    KeepsOut allowed s0 (execDebugOpeningStep s) := by
  unfold execDebugOpeningStep
  refine Keeps.next ?_
  with_reducible repeat' first
    | (intro _) | assumption | exact sub_trans hm (by decide) | apply Keeps.nextOpening | apply Keeps.closeDomains
    | apply Keeps.markDebugErase | apply Keeps.newSecrets | apply Keeps.noteDebugErase | apply Keeps.debugOpen | apply Keeps.ite
    | refine Keeps.foldl ?_ ?_ _ | split | dsimp only
    | (apply Keeps.upd (k := 4194303) <;> first | with_unfolding_all rfl | skip)

theorem runPoweredHoursIncrement {allowed : Nat} {s0 s : State} (h : Keeps allowed s0 s)
    (hm : sub 8192 allowed := by exact sub_trans (by assumption) (by decide)) :
    KeepsOut allowed s0 (execPoweredHoursIncrement s) := by
  unfold execPoweredHoursIncrement
  refine Keeps.next ?_
  with_reducible repeat' first
    | (intro _) | assumption | exact sub_trans hm (by decide) | apply Keeps.spreadInc | apply Keeps.ite
    | refine Keeps.foldl ?_ ?_ _ | split | dsimp only | (apply Keeps.upd (k := 8192) <;> first | with_unfolding_all rfl | skip)

theorem loseStackLines {allowed : Nat} {s0 s : State} (h : Keeps allowed s0 s) (k : Nat)
    (hm : sub 2100725 allowed := by exact sub_trans (by assumption) (by decide)) :
    Keeps allowed s0 (State.loseStackLines s k) := by
  unfold State.loseStackLines
  with_reducible repeat' first
    | (intro _) | assumption | exact sub_trans hm (by decide) | apply Keeps.setWays | apply Keeps.queuePage | apply Keeps.drew
    | apply Keeps.ite | refine Keeps.foldl ?_ ?_ _ | split | dsimp only
    | (apply Keeps.upd (k := 2100725) <;> first | with_unfolding_all rfl | skip)

theorem endForBasic {allowed : Nat} {s0 s : State} (h : Keeps allowed s0 s)
    (hm : sub 285093 allowed := by exact sub_trans (by assumption) (by decide)) :
    Keeps allowed s0 (State.endForBasic s) := by
  unfold State.endForBasic
  with_reducible repeat' first
    | (intro _) | assumption | exact sub_trans hm (by decide) | apply Keeps.refuseKernel | apply Keeps.finish | apply Keeps.ite
    | refine Keeps.foldl ?_ ?_ _ | split | dsimp only
    | (apply Keeps.upd (k := 285093) <;> first | with_unfolding_all rfl | skip)

theorem stackFails {allowed : Nat} {s0 s : State} (h : Keeps allowed s0 s) (k : Nat)
    (hm : sub 2907645 allowed := by exact sub_trans (by assumption) (by decide)) :
    Keeps allowed s0 (State.stackFails s k) := by
  unfold State.stackFails
  repeat' first
    | with_reducible (intro _) | with_reducible assumption | with_reducible exact sub_trans hm (by decide)
    | with_reducible apply Keeps.raise | with_reducible apply Keeps.unitLost | with_reducible apply Keeps.writeBackAll
    | with_reducible apply Keeps.loseStackLines | with_reducible apply Keeps.setWays | with_reducible apply Keeps.basicUnits
    | with_reducible apply Keeps.writeAround | with_reducible apply Keeps.set | with_reducible apply Keeps.endForBasic
    | with_reducible apply Keeps.toMode | with_reducible apply Keeps.ite | with_reducible refine Keeps.foldl ?_ ?_ _ | split
    | dsimp only | (with_reducible apply Keeps.upd (k := 2907645)) <;> first | rfl | skip

theorem resetRingsOf {allowed : Nat} {s0 s : State} (h : Keeps allowed s0 s) (l : List Nat)
    (hm : sub 1531391 allowed := by exact sub_trans (by assumption) (by decide)) :
    Keeps allowed s0 (State.resetRingsOf s l) := by
  unfold State.resetRingsOf
  with_reducible repeat' first
    | (intro _) | assumption | exact sub_trans hm (by decide) | apply Keeps.resetRing | apply Keeps.ite
    | refine Keeps.foldl ?_ ?_ _ | split | dsimp only
    | (apply Keeps.upd (k := 1531391) <;> first | with_unfolding_all rfl | skip)

theorem linkGone {allowed : Nat} {s0 s : State} (h : Keeps allowed s0 s) (l : Nat)
    (hm : sub 2055679 allowed := by exact sub_trans (by assumption) (by decide)) :
    Keeps allowed s0 (State.linkGone s l) := by
  unfold State.linkGone
  with_reducible repeat' first
    | (intro _) | assumption | exact sub_trans hm (by decide) | apply Keeps.unitLost | apply Keeps.linkDown
    | apply Keeps.resetRingsOf | apply Keeps.safeMode | apply Keeps.ite | refine Keeps.foldl ?_ ?_ _ | split | dsimp only
    | (apply Keeps.upd (k := 2055679) <;> first | with_unfolding_all rfl | skip)

theorem clockLost {allowed : Nat} {s0 s : State} (h : Keeps allowed s0 s) (a1 : ClockSource)
    (hm : sub 4186111 allowed := by exact sub_trans (by assumption) (by decide)) :
    Keeps allowed s0 (State.clockLost s a1) := by
  unfold State.clockLost
  with_reducible repeat' first
    | (intro _) | assumption | exact sub_trans hm (by decide) | apply Keeps.safeMode | apply Keeps.raise
    | apply Keeps.stackFails | apply Keeps.linkLost | apply Keeps.reduced | apply Keeps.channelOffline
    | apply Keeps.fchanOffline | apply Keeps.clusterGone | apply Keeps.linkGone | apply Keeps.ethDown | apply Keeps.losePrivet
    | apply Keeps.ite | refine Keeps.foldl ?_ ?_ _ | split | dsimp only
    | (apply Keeps.upd (k := 4186111) <;> first | with_unfolding_all rfl | skip)

theorem runMediaDieLoss {allowed : Nat} {s0 s : State} (h : Keeps allowed s0 s) (die : Nat)
    (hm : sub 1990653 allowed := by exact sub_trans (by assumption) (by decide)) :
    KeepsOut allowed s0 (execMediaDieLoss die s) := by
  unfold execMediaDieLoss
  refine Keeps.next ?_
  with_reducible repeat' first
    | (intro _) | assumption | exact sub_trans hm (by decide) | apply Keeps.dieGone | apply Keeps.ite
    | refine Keeps.foldl ?_ ?_ _ | split | dsimp only
    | (apply Keeps.upd (k := 1990653) <;> first | with_unfolding_all rfl | skip)

theorem runHbmStackFailure {allowed : Nat} {s0 s : State} (h : Keeps allowed s0 s) (stack : Nat)
    (hm : sub 2907645 allowed := by exact sub_trans (by assumption) (by decide)) :
    KeepsOut allowed s0 (execHbmStackFailure stack s) := by
  unfold execHbmStackFailure
  refine Keeps.next ?_
  with_reducible repeat' first
    | (intro _) | assumption | exact sub_trans hm (by decide) | apply Keeps.stackFails | apply Keeps.ite
    | refine Keeps.foldl ?_ ?_ _ | split | dsimp only
    | (apply Keeps.upd (k := 2907645) <;> first | with_unfolding_all rfl | skip)

theorem runClockMonitorLoss {allowed : Nat} {s0 s : State} (h : Keeps allowed s0 s) (clock : ClockSource)
    (hm : sub 4186111 allowed := by exact sub_trans (by assumption) (by decide)) :
    KeepsOut allowed s0 (execClockMonitorLoss clock s) := by
  unfold execClockMonitorLoss
  refine Keeps.next ?_
  with_reducible repeat' first
    | (intro _) | assumption | exact sub_trans hm (by decide) | apply Keeps.clockLost | apply Keeps.ite
    | refine Keeps.foldl ?_ ?_ _ | split | dsimp only
    | (apply Keeps.upd (k := 4186111) <;> first | with_unfolding_all rfl | skip)

theorem runCxlLinkDown {allowed : Nat} {s0 s : State} (h : Keeps allowed s0 s) (link : Nat)
    (hm : sub 2055679 allowed := by exact sub_trans (by assumption) (by decide)) :
    KeepsOut allowed s0 (execCxlLinkDown link s) := by
  unfold execCxlLinkDown
  refine Keeps.next ?_
  with_reducible repeat' first
    | (intro _) | assumption | exact sub_trans hm (by decide) | apply Keeps.linkGone | apply Keeps.ite
    | refine Keeps.foldl ?_ ?_ _ | split | dsimp only
    | (apply Keeps.upd (k := 2055679) <;> first | with_unfolding_all rfl | skip)

theorem runCxlLinkReset {allowed : Nat} {s0 s : State} (h : Keeps allowed s0 s) (link : Nat)
    (hm : sub 2055679 allowed := by exact sub_trans (by assumption) (by decide)) :
    KeepsOut allowed s0 (execCxlLinkReset link s) := by
  unfold execCxlLinkReset
  refine Keeps.next ?_
  with_reducible repeat' first
    | (intro _) | assumption | exact sub_trans hm (by decide) | apply Keeps.linkGone | apply Keeps.ite
    | refine Keeps.foldl ?_ ?_ _ | split | dsimp only
    | (apply Keeps.upd (k := 2055679) <;> first | with_unfolding_all rfl | skip)

theorem runLdReset {allowed : Nat} {s0 s : State} (h : Keeps allowed s0 s) (ld : Nat)
    (hm : sub 1531391 allowed := by exact sub_trans (by assumption) (by decide)) :
    KeepsOut allowed s0 (execLdReset ld s) := by
  unfold execLdReset
  refine Keeps.next ?_
  with_reducible repeat' first
    | (intro _) | assumption | exact sub_trans hm (by decide) | apply Keeps.resetRingsOf | apply Keeps.discardReads
    | apply Keeps.ite | refine Keeps.foldl ?_ ?_ _ | split | dsimp only
    | (apply Keeps.upd (k := 1531391) <;> first | with_unfolding_all rfl | skip)

theorem runHbmInterfaceRecalibration {allowed : Nat} {s0 s : State} (h : Keeps allowed s0 s)
    (hm : sub 0 allowed := by exact sub_trans (by assumption) (by decide)) :
    KeepsOut allowed s0 (execHbmInterfaceRecalibration s) := by
  unfold execHbmInterfaceRecalibration
  refine Keeps.next ?_
  with_reducible repeat' first
    | (intro _) | assumption | exact sub_trans hm (by decide) | apply Keeps.ite | refine Keeps.foldl ?_ ?_ _ | split
    | dsimp only | (apply Keeps.upd (k := 0) <;> first | with_unfolding_all rfl | skip)

theorem sanitizeStart {allowed : Nat} {s0 s : State} (h : Keeps allowed s0 s) (scope : Nat)
    (hm : sub 1 allowed := by exact sub_trans (by assumption) (by decide)) :
    Keeps allowed s0 (State.sanitizeStart s scope) := by
  unfold State.sanitizeStart
  with_reducible repeat' first
    | (intro _) | assumption | exact sub_trans hm (by decide) | apply Keeps.set | apply Keeps.ite | refine Keeps.foldl ?_ ?_ _
    | split | dsimp only | (apply Keeps.upd (k := 1) <;> first | with_unfolding_all rfl | skip)

theorem sanitizeNext {allowed : Nat} {s0 s : State} (h : Keeps allowed s0 s) (n : Nat)
    (hm : sub 1 allowed := by exact sub_trans (by assumption) (by decide)) :
    Keeps allowed s0 (State.sanitizeNext s n) := by
  unfold State.sanitizeNext
  with_reducible repeat' first
    | (intro _) | assumption | exact sub_trans hm (by decide) | apply Keeps.set | apply Keeps.ite | refine Keeps.foldl ?_ ?_ _
    | split | dsimp only | (apply Keeps.upd (k := 1) <;> first | with_unfolding_all rfl | skip)

theorem sanitizeKeys {allowed : Nat} {s0 s : State} (h : Keeps allowed s0 s)
    (hm : sub 65537 allowed := by exact sub_trans (by assumption) (by decide)) :
    Keeps allowed s0 (State.sanitizeKeys s) := by
  unfold State.sanitizeKeys
  with_reducible repeat' first
    | (intro _) | assumption | exact sub_trans hm (by decide) | apply Keeps.replaceKey | apply Keeps.ite
    | refine Keeps.foldl ?_ ?_ _ | split | dsimp only | (apply Keeps.upd (k := 65537) <;> first | with_unfolding_all rfl | skip)

theorem freshRoot {allowed : Nat} {s0 s : State} (h : Keeps allowed s0 s) (ftier : Bool)
    (hm : sub 2048 allowed := by exact sub_trans (by assumption) (by decide)) :
    Keeps allowed s0 (State.freshRoot s ftier) := by
  unfold State.freshRoot
  with_reducible repeat' first
    | (intro _) | assumption | exact sub_trans hm (by decide) | apply Keeps.setCkpt | apply Keeps.ite
    | refine Keeps.foldl ?_ ?_ _ | split | dsimp only | (apply Keeps.upd (k := 2048) <;> first | with_unfolding_all rfl | skip)

theorem sanitizeClear {allowed : Nat} {s0 s : State} (h : Keeps allowed s0 s)
    (hm : sub 2301 allowed := by exact sub_trans (by assumption) (by decide)) :
    Keeps allowed s0 (State.sanitizeClear s) := by
  unfold State.sanitizeClear
  with_reducible repeat' first
    | (intro _) | assumption | exact sub_trans hm (by decide) | apply Keeps.showMirror | apply Keeps.showRebuild
    | apply Keeps.showQs | apply Keeps.setWays | apply Keeps.set | apply Keeps.freshRoot | apply Keeps.ite
    | refine Keeps.foldl ?_ ?_ _ | split | dsimp only | (apply Keeps.upd (k := 2301) <;> first | with_unfolding_all rfl | skip)

theorem sanitizeErase {allowed : Nat} {s0 s : State} (h : Keeps allowed s0 s)
    (hm : sub 773 allowed := by exact sub_trans (by assumption) (by decide)) :
    Keeps allowed s0 (State.sanitizeErase s) := by
  unfold State.sanitizeErase
  with_reducible repeat' first
    | (intro _) | assumption | exact sub_trans hm (by decide) | apply Keeps.setFt | apply Keeps.showVictim
    | apply Keeps.showFull | apply Keeps.showFcache | apply Keeps.showFlash | apply Keeps.ite | refine Keeps.foldl ?_ ?_ _
    | split | dsimp only | (apply Keeps.upd (k := 773) <;> first | with_unfolding_all rfl | skip)

theorem sanitizeFinish {allowed : Nat} {s0 s : State} (h : Keeps allowed s0 s)
    (hm : sub 276481 allowed := by exact sub_trans (by assumption) (by decide)) :
    Keeps allowed s0 (State.sanitizeFinish s) := by
  unfold State.sanitizeFinish
  with_reducible repeat' first
    | (intro _) | assumption | exact sub_trans hm (by decide) | apply Keeps.freshRoot | apply Keeps.set
    | apply Keeps.sanitizeNext | apply Keeps.showMeta | apply Keeps.finish | apply Keeps.ite | refine Keeps.foldl ?_ ?_ _
    | split | dsimp only | (apply Keeps.upd (k := 276481) <;> first | with_unfolding_all rfl | skip)

theorem overwriteTiles {allowed : Nat} {s0 s : State} (h : Keeps allowed s0 s) (first n : Nat)
    (hm : sub 64 allowed := by exact sub_trans (by assumption) (by decide)) : Keeps allowed s0 (State.overwriteTiles s first n) := by
  unfold State.overwriteTiles
  extract_lets +onlyGivenNames chans hit m media
  exact h.putMedia' (fun x => Mem.wf_filter _ _ x)

theorem selfQuiesce {allowed : Nat} {s0 s : State} (h : Keeps allowed s0 s)
    (hm : sub 1990141 allowed := by exact sub_trans (by assumption) (by decide)) :
    Keeps allowed s0 (State.selfQuiesce s) := by
  unfold State.selfQuiesce
  with_reducible repeat' first
    | (intro _) | assumption | exact sub_trans hm (by decide) | apply Keeps.endKernel | apply Keeps.refuseKernel
    | apply Keeps.set | apply Keeps.put | apply Keeps.writeBackAll | apply Keeps.ite | refine Keeps.foldl ?_ ?_ _ | split
    | dsimp only | (apply Keeps.upd (k := 1990141) <;> first | with_unfolding_all rfl | skip)

theorem runSanitize {allowed : Nat} {s0 s : State} (h : Keeps allowed s0 s) (ld : Nat)
    (hm : sub 1048577 allowed := by exact sub_trans (by assumption) (by decide)) :
    KeepsOut allowed s0 (execSanitize ld s) := by
  unfold execSanitize
  refine Keeps.next ?_
  with_reducible repeat' first
    | (intro _) | assumption | exact sub_trans hm (by decide) | apply Keeps.mgmtOnly | apply Keeps.reply
    | apply Keeps.sanitizeStart | apply Keeps.ite | refine Keeps.foldl ?_ ?_ _ | split | dsimp only
    | (apply Keeps.upd (k := 1048577) <;> first | with_unfolding_all rfl | skip)

theorem runAdminSanitize {allowed : Nat} {s0 s : State} (h : Keeps allowed s0 s) (ring : Nat) (handle : Nat)
    (hm : sub 266241 allowed := by exact sub_trans (by assumption) (by decide)) :
    KeepsOut allowed s0 (execAdminSanitize ring handle s) := by
  unfold execAdminSanitize
  refine Keeps.next ?_
  with_reducible repeat' first
    | (intro _) | assumption | exact sub_trans hm (by decide) | apply Keeps.finish | apply Keeps.sanitizeStart
    | apply Keeps.setDesc | apply Keeps.ite | refine Keeps.foldl ?_ ?_ _ | split | dsimp only
    | (apply Keeps.upd (k := 266241) <;> first | with_unfolding_all rfl | skip)

theorem runSanitizePhase {allowed : Nat} {s0 s : State} (h : Keeps allowed s0 s)
    (hm : sub 343037 allowed := by exact sub_trans (by assumption) (by decide)) :
    KeepsOut allowed s0 (execSanitizePhase s) := by
  unfold execSanitizePhase
  refine Keeps.next ?_
  with_reducible repeat' first
    | (intro _) | assumption | exact sub_trans hm (by decide) | apply Keeps.sanitizeNext | apply Keeps.sanitizeKeys
    | apply Keeps.sanitizeClear | apply Keeps.sanitizeErase | apply Keeps.sanitizeFinish | apply Keeps.ite
    | refine Keeps.foldl ?_ ?_ _ | split | dsimp only
    | (apply Keeps.upd (k := 343037) <;> first | with_unfolding_all rfl | skip)

theorem runSanitizeOverwriteBatch {allowed : Nat} {s0 s : State} (h : Keeps allowed s0 s)
    (hm : sub 65 allowed := by exact sub_trans (by assumption) (by decide)) :
    KeepsOut allowed s0 (execSanitizeOverwriteBatch s) := by
  unfold execSanitizeOverwriteBatch
  refine Keeps.next ?_
  with_reducible repeat' first
    | (intro _) | assumption | exact sub_trans hm (by decide) | apply Keeps.set | apply Keeps.overwriteTiles | apply Keeps.ite
    | refine Keeps.foldl ?_ ?_ _ | split | dsimp only | (apply Keeps.upd (k := 65) <;> first | with_unfolding_all rfl | skip)

theorem runAdminSelftest {allowed : Nat} {s0 s : State} (h : Keeps allowed s0 s) (ring : Nat) (handle : Nat)
    (hm : sub 1990141 allowed := by exact sub_trans (by assumption) (by decide)) :
    KeepsOut allowed s0 (execAdminSelftest ring handle s) := by
  unfold execAdminSelftest
  refine Keeps.next ?_
  with_reducible repeat' first
    | (intro _) | assumption | exact sub_trans hm (by decide) | apply Keeps.finish | apply Keeps.selfQuiesce
    | apply Keeps.setDesc | apply Keeps.tryCkpt | apply Keeps.writeBackAll | apply Keeps.put | apply Keeps.set | apply Keeps.ite
    | refine Keeps.foldl ?_ ?_ _ | split | dsimp only
    | (apply Keeps.upd (k := 1990141) <;> first | with_unfolding_all rfl | skip)

theorem runSelftestClassComplete {allowed : Nat} {s0 s : State} (h : Keeps allowed s0 s) (failed : Bool) (units : BitVec 64)
    (hm : sub 792581 allowed := by exact sub_trans (by assumption) (by decide)) :
    KeepsOut allowed s0 (execSelftestClassComplete failed units s) := by
  unfold execSelftestClassComplete
  refine Keeps.next ?_
  with_reducible repeat' first
    | (intro _) | assumption | exact sub_trans hm (by decide) | apply Keeps.setBit | apply Keeps.setReg | apply Keeps.finish
    | apply Keeps.put | apply Keeps.coldRequest | apply Keeps.ite | refine Keeps.foldl ?_ ?_ _ | split | dsimp only
    | (apply Keeps.upd (k := 792581) <;> first | with_unfolding_all rfl | skip)

end Keeps

end Sys2Proof.Machine
end

