-- ==== Sys2Proof/Laws/PerInstr.lean ====
section
/-!
SUPPORT. The family of statements made for each command as syntax: a well-formed command lies inside the address space.
-/
set_option Elab.async false

namespace Sys2Proof.Laws.Inside
open Sys2Proof.Machine

/-- A well-formed command is not one that stops the block: its register address, where it has one, has at most 48 bits. -/
def Statement (i : Instr) : Prop := i.wf = true → outsideCommand i = false

theorem registerWrite (dom addr width : Nat) (value : BitVec 64) :
    Statement (.registerWrite dom addr width value) := fun h =>
  have hw : (isDomain dom && isEspalier addr) = true := h
  decide_eq_false (by
    have ha : addr < 2 ^ 48 := of_decide_eq_true (Bool.and_eq_true_iff.mp hw).2
    omega)
theorem registerAccessBadWidth (dom addr width : Nat) (read : Bool) :
    Statement (.registerAccessBadWidth dom addr width read) := fun h =>
  have hw : (isDomain dom && isEspalier addr) = true := h
  decide_eq_false (by
    have ha : addr < 2 ^ 48 := of_decide_eq_true (Bool.and_eq_true_iff.mp hw).2
    omega)
theorem powerOn : Statement .powerOn := fun _ => rfl
theorem porstNAssert : Statement .porstNAssert := fun _ => rfl
theorem hbmStackFailure (stack : Nat) : Statement (.hbmStackFailure stack) := fun _ => rfl
theorem clockMonitorLoss (clock : ClockSource) : Statement (.clockMonitorLoss clock) := fun _ => rfl
theorem mediaDieLoss (die : Nat) : Statement (.mediaDieLoss die) := fun _ => rfl
theorem ptpMessageReceive (port sourceTime : Nat) : Statement (.ptpMessageReceive port sourceTime) := fun _ => rfl
theorem ptpSourceLoss : Statement .ptpSourceLoss := fun _ => rfl
theorem ppsInEdge : Statement .ppsInEdge := fun _ => rfl
theorem tbSetWrite (value : BitVec 64) : Statement (.tbSetWrite value) := fun _ => rfl
theorem tbCtlWrite (value : BitVec 32) : Statement (.tbCtlWrite value) := fun _ => rfl
theorem holdoverExpiry : Statement .holdoverExpiry := fun _ => rfl
theorem tcxoFailure : Statement .tcxoFailure := fun _ => rfl
theorem ppsOutPulse : Statement .ppsOutPulse := fun _ => rfl
theorem timeMessageSend : Statement .timeMessageSend := fun _ => rfl
theorem timeMessageReceive (port hubTime delayNs : Nat) :
    Statement (.timeMessageReceive port hubTime delayNs) := fun _ => rfl
theorem dieTimeLost (die : Nat) : Statement (.dieTimeLost die) := fun _ => rfl
theorem dieLaunchHold (die : Nat) : Statement (.dieLaunchHold die) := fun _ => rfl
theorem agentTimeLost (agent : Nat) : Statement (.agentTimeLost agent) := fun _ => rfl
theorem launchSlotArm (unit : LaunchUnit) (slot : Nat) (value : BitVec 32) :
    Statement (.launchSlotArm unit slot value) := fun _ => rfl
theorem launchSlotCancel (unit : LaunchUnit) (slot : Nat) (value : BitVec 32) :
    Statement (.launchSlotCancel unit slot value) := fun _ => rfl
theorem launchSlotFire (unit : LaunchUnit) (slot : Nat) : Statement (.launchSlotFire unit slot) := fun _ => rfl
theorem launchArmSend (agent slot : Nat) : Statement (.launchArmSend agent slot) := fun _ => rfl
theorem cxlLinkTrained (link width rate : Nat) : Statement (.cxlLinkTrained link width rate) := fun _ => rfl
theorem cxlLinkDown (link : Nat) : Statement (.cxlLinkDown link) := fun _ => rfl
theorem cxlLinkReset (link : Nat) : Statement (.cxlLinkReset link) := fun _ => rfl
theorem ldReset (ld : Nat) : Statement (.ldReset ld) := fun _ => rfl
theorem winLdBindWrite (ld : Nat) (value : BitVec 32) : Statement (.winLdBindWrite ld value) := fun _ => rfl
theorem winLdExtentWrite (ld extent : Nat) (value : BitVec 64) :
    Statement (.winLdExtentWrite ld extent value) := fun _ => rfl
theorem hdmDecoderCommit (ld decoder base size ways granularity skip position : Nat) (bi biEnabled : Bool) :
    Statement (.hdmDecoderCommit ld decoder base size ways granularity skip position bi biEnabled) := fun _ => rfl
theorem cxlMemRead (link ld tag hpa : Nat) (cacheable : Bool) :
    Statement (.cxlMemRead link ld tag hpa cacheable) := fun _ => rfl
theorem memwr (link ld tag hpa : Nat) (data : BitVec 512) (poison : Bool) :
    Statement (.memwr link ld tag hpa data poison) := fun _ => rfl
theorem memwrptl (link ld tag hpa : Nat) (data : BitVec 512) (mask : BitVec 64) (poison : Bool) :
    Statement (.memwrptl link ld tag hpa data mask poison) := fun _ => rfl
theorem birsp (link line : Nat) (dirty : Option (BitVec 512)) : Statement (.birsp link line dirty) := fun _ => rfl
theorem biTimeout (link line : Nat) : Statement (.biTimeout link line) := fun _ => rfl
theorem sfEvictionComplete (sector : Nat) : Statement (.sfEvictionComplete sector) := fun _ => rfl
theorem admissionRelease (read : Nat) : Statement (.admissionRelease read) := fun _ => rfl
theorem readDeadline (read : Nat) : Statement (.readDeadline read) := fun _ => rfl
theorem clearentry : Statement .clearentry := fun _ => rfl
theorem clearall : Statement .clearall := fun _ => rfl
theorem clearoverflow : Statement .clearoverflow := fun _ => rfl
theorem gpfPhase1 (link : Nat) : Statement (.gpfPhase1 link) := fun _ => rfl
theorem gpfPhase2 (link : Nat) : Statement (.gpfPhase2 link) := fun _ => rfl
theorem getEventRecords (ld log : Nat) : Statement (.getEventRecords ld log) := fun _ => rfl
theorem clearEventRecords (ld log : Nat) (handles : List Nat) (all : Bool) :
    Statement (.clearEventRecords ld log handles all) := fun _ => rfl
theorem getEventInterruptPolicy (ld : Nat) : Statement (.getEventInterruptPolicy ld) := fun _ => rfl
theorem setEventInterruptPolicy (ld : Nat) (policy : BitVec 32) :
    Statement (.setEventInterruptPolicy ld policy) := fun _ => rfl
theorem getFwInfo (ld : Nat) : Statement (.getFwInfo ld) := fun _ => rfl
theorem transferFw (ld action offset : Nat) (data : List (BitVec 8)) :
    Statement (.transferFw ld action offset data) := fun _ => rfl
theorem activateFw (ld action slot : Nat) : Statement (.activateFw ld action slot) := fun _ => rfl
theorem getTimestamp (ld : Nat) : Statement (.getTimestamp ld) := fun _ => rfl
theorem setTimestamp (ld : Nat) (value : BitVec 64) : Statement (.setTimestamp ld value) := fun _ => rfl
theorem getSupportedLogs (ld : Nat) : Statement (.getSupportedLogs ld) := fun _ => rfl
theorem getLog (ld log offset length : Nat) : Statement (.getLog ld log offset length) := fun _ => rfl
theorem identifyMemoryDevice (ld : Nat) : Statement (.identifyMemoryDevice ld) := fun _ => rfl
theorem getPartitionInfo (ld : Nat) : Statement (.getPartitionInfo ld) := fun _ => rfl
theorem getHealthInfo (ld : Nat) : Statement (.getHealthInfo ld) := fun _ => rfl
theorem getAlertConfiguration (ld : Nat) : Statement (.getAlertConfiguration ld) := fun _ => rfl
theorem setAlertConfiguration (ld : Nat) (alerts : BitVec 64) :
    Statement (.setAlertConfiguration ld alerts) := fun _ => rfl
theorem getPoisonList (ld dpa length limit : Nat) : Statement (.getPoisonList ld dpa length limit) := fun _ => rfl
theorem injectPoison (ld dpa : Nat) : Statement (.injectPoison ld dpa) := fun _ => rfl
theorem clearPoison (ld dpa : Nat) (data : BitVec 512) : Statement (.clearPoison ld dpa data) := fun _ => rfl
theorem sanitize (ld : Nat) : Statement (.sanitize ld) := fun _ => rfl
theorem unsupportedMailboxCommand (ld opcode : Nat) : Statement (.unsupportedMailboxCommand ld opcode) := fun _ => rfl
theorem getLdInfo (link : Nat) : Statement (.getLdInfo link) := fun _ => rfl
theorem getLdAllocations (link start limit : Nat) : Statement (.getLdAllocations link start limit) := fun _ => rfl
theorem setLdAllocations (link : Nat) (payload : List Nat) : Statement (.setLdAllocations link payload) := fun _ => rfl
theorem quicksetMerge (line : Nat) : Statement (.quicksetMerge line) := fun _ => rfl
theorem mediaWriteComplete (write : Nat) : Statement (.mediaWriteComplete write) := fun _ => rfl
theorem lcEnable (value : BitVec 32) : Statement (.lcEnable value) := fun _ => rfl
theorem lcDisable (value : BitVec 32) : Statement (.lcDisable value) := fun _ => rfl
theorem clean (issue : RangeIssue) : Statement (.clean issue) := fun _ => rfl
theorem invalidate (issue : RangeIssue) : Statement (.invalidate issue) := fun _ => rfl
theorem prefetch (issue : RangeIssue) : Statement (.prefetch issue) := fun _ => rfl
theorem lockRange (issue : RangeIssue) : Statement (.lockRange issue) := fun _ => rfl
theorem unlock (issue : RangeIssue) : Statement (.unlock issue) := fun _ => rfl
theorem invalidateall (issue : RangeIssue) : Statement (.invalidateall issue) := fun _ => rfl
theorem rangeOpTurn : Statement .rangeOpTurn := fun _ => rfl
theorem rangeOpComplete (slot : Nat) : Statement (.rangeOpComplete slot) := fun _ => rfl
theorem hbmUncorrectable (line : Nat) : Statement (.hbmUncorrectable line) := fun _ => rfl
theorem tagUncorrectable (set way : Nat) (mayHoldDirty : Bool) :
    Statement (.tagUncorrectable set way mayHoldDirty) := fun _ => rfl
theorem channelTrainingStep (chan step : Nat) (fail0 fail1 : Bool) (id0 id1 : BitVec 64) (margin : Nat) :
    Statement (.channelTrainingStep chan step fail0 fail1 id0 id1 margin) := fun _ => rfl
theorem bankReadArrival (read : Nat) : Statement (.bankReadArrival read) := fun _ => rfl
theorem arrayReadComplete (read : Nat) (decode : LightDecode) :
    Statement (.arrayReadComplete read decode) := fun _ => rfl
theorem pageReadComplete (read : Nat) (corrected : List (Nat × Nat)) (uncorrectable : List Nat) :
    Statement (.pageReadComplete read corrected uncorrectable) := fun _ => rfl
theorem strongDecodeComplete (read : Nat) (corrected : List (Nat × Nat)) (success : Bool) :
    Statement (.strongDecodeComplete read corrected success) := fun _ => rfl
theorem writeTokenGrant (write : Nat) : Statement (.writeTokenGrant write) := fun _ => rfl
theorem comparisonReadComplete (chan lane : Nat) : Statement (.comparisonReadComplete chan lane) := fun _ => rfl
theorem segmentEnd (chan lane : Nat) (failing : BitVec 64) : Statement (.segmentEnd chan lane failing) := fun _ => rfl
theorem forcedSegment (chan lane : Nat) : Statement (.forcedSegment chan lane) := fun _ => rfl
theorem caAlert (chan rank command : Nat) (again : Bool) : Statement (.caAlert chan rank command again) := fun _ => rfl
theorem retrainnow (chan : Nat) : Statement (.retrainnow chan) := fun _ => rfl
theorem retrainPeriodExpiry (chan : Nat) : Statement (.retrainPeriodExpiry chan) := fun _ => rfl
theorem retrainSliceComplete (chan margin : Nat) : Statement (.retrainSliceComplete chan margin) := fun _ => rfl
theorem internalRewriteStart (rewrite : Nat) (corrected : List (Nat × Nat)) (uncorrectable : List Nat) :
    Statement (.internalRewriteStart rewrite corrected uncorrectable) := fun _ => rfl
theorem ageMapRecompute : Statement .ageMapRecompute := fun _ => rfl
theorem driftRefreshTile (tile : Nat) : Statement (.driftRefreshTile tile) := fun _ => rfl
theorem refreshBehind : Statement .refreshBehind := fun _ => rfl
theorem scrubPageRead (chan : Nat) (corrected : List (Nat × Nat)) (uncorrectable : List Nat) (strongCorrected : List (Nat × Nat)) (success recordGood : Bool) :
    Statement (.scrubPageRead chan corrected uncorrectable strongCorrected success recordGood) := fun _ => rfl
theorem scrubStarved (chan : Nat) : Statement (.scrubStarved chan) := fun _ => rfl
theorem scrubLapOverLimit (chan : Nat) : Statement (.scrubLapOverLimit chan) := fun _ => rfl
theorem retirePageByAddress (issue : RetireIssue) : Statement (.retirePageByAddress issue) := fun _ => rfl
theorem retirePageByLocation (issue : RetireIssue) : Statement (.retirePageByLocation issue) := fun _ => rfl
theorem retireRank (issue : RetireIssue) : Statement (.retireRank issue) := fun _ => rfl
theorem retirementCopyComplete : Statement .retirementCopyComplete := fun _ => rfl
theorem nandDieOffline (chan die : Nat) : Statement (.nandDieOffline chan die) := fun _ => rfl
theorem nandPageReadComplete (read : Nat) (decoded rebuilt : List Nat) :
    Statement (.nandPageReadComplete read decoded rebuilt) := fun _ => rfl
theorem programResume (chan die : Nat) : Statement (.programResume chan die) := fun _ => rfl
theorem destage (slot : Nat) : Statement (.destage slot) := fun _ => rfl
theorem programGroupComplete (band : Nat) : Statement (.programGroupComplete band) := fun _ => rfl
theorem padTimer (stream : Nat) : Statement (.padTimer stream) := fun _ => rfl
theorem relocation (band : Nat) : Statement (.relocation band) := fun _ => rfl
theorem dieCalibration (chan die : Nat) : Statement (.dieCalibration chan die) := fun _ => rfl
theorem calibrationComplete (chan die : Nat) : Statement (.calibrationComplete chan die) := fun _ => rfl
theorem coppiceReclaim : Statement .coppiceReclaim := fun _ => rfl
theorem bandEraseComplete (band : Nat) : Statement (.bandEraseComplete band) := fun _ => rfl
theorem programFailure (chan die plane : Nat) : Statement (.programFailure chan die plane) := fun _ => rfl
theorem eraseFailure (chan die plane : Nat) : Statement (.eraseFailure chan die plane) := fun _ => rfl
theorem ftGrantEntryWrite (value : BitVec 64) : Statement (.ftGrantEntryWrite value) := fun _ => rfl
theorem ftStreamCfgWrite (stream : Nat) (value : BitVec 32) : Statement (.ftStreamCfgWrite stream value) := fun _ => rfl
theorem heat (ring handle : Nat) : Statement (.heat ring handle) := fun _ => rfl
theorem pin (ring handle : Nat) : Statement (.pin ring handle) := fun _ => rfl
theorem group (ring handle : Nat) : Statement (.group ring handle) := fun _ => rfl
theorem colocate (ring handle : Nat) : Statement (.colocate ring handle) := fun _ => rfl
theorem hazelown (ring handle : Nat) : Statement (.hazelown ring handle) := fun _ => rfl
theorem topGroupCfgWrite (value : BitVec 64) : Statement (.topGroupCfgWrite value) := fun _ => rfl
theorem heatRanking : Statement .heatRanking := fun _ => rfl
theorem heatHalving : Statement .heatHalving := fun _ => rfl
theorem balanceMove : Statement .balanceMove := fun _ => rfl
theorem readOnlyPlotMigration (plot : Nat) : Statement (.readOnlyPlotMigration plot) := fun _ => rfl
theorem migrationStart : Statement .migrationStart := fun _ => rfl
theorem migrationPageCopy (plot : Nat) : Statement (.migrationPageCopy plot) := fun _ => rfl
theorem migrationRelease (plot : Nat) : Statement (.migrationRelease plot) := fun _ => rfl
theorem slotDestageDecision : Statement .slotDestageDecision := fun _ => rfl
theorem pageCaptureComplete (page : Nat) : Statement (.pageCaptureComplete page) := fun _ => rfl
theorem quicksetEntryError (line : Nat) : Statement (.quicksetEntryError line) := fun _ => rfl
theorem journalCopyWriteComplete (count : Nat) : Statement (.journalCopyWriteComplete count) := fun _ => rfl
theorem checkpointTimer (ftier : Bool) : Statement (.checkpointTimer ftier) := fun _ => rfl
theorem checkpointnow : Statement .checkpointnow := fun _ => rfl
theorem checkpointImageWritten (ftier : Bool) : Statement (.checkpointImageWritten ftier) := fun _ => rfl
theorem checkpointEndDurable (ftier : Bool) : Statement (.checkpointEndDurable ftier) := fun _ => rfl
theorem checkpointFailure : Statement .checkpointFailure := fun _ => rfl
theorem shutdownnow : Statement .shutdownnow := fun _ => rfl
theorem flushStepComplete : Statement .flushStepComplete := fun _ => rfl
theorem recoveryPhaseComplete (badBlocks : List Nat) : Statement (.recoveryPhaseComplete badBlocks) := fun _ => rfl
theorem checkRebuildPage (loc : Nat) (bad : List Nat) (decoded : Bool) :
    Statement (.checkRebuildPage loc bad decoded) := fun _ => rfl
theorem snapshotUnitFree (slot : Nat) : Statement (.snapshotUnitFree slot) := fun _ => rfl
theorem mirrorLines (qp epoch seq : Nat) (lines : List (Nat × BitVec 512)) (opens : Bool) :
    Statement (.mirrorLines qp epoch seq lines opens) := fun _ => rfl
theorem mirrorEndOfEpoch (qp epoch seq : Nat) (opens : Bool) :
    Statement (.mirrorEndOfEpoch qp epoch seq opens) := fun _ => rfl
theorem mirrorApplyComplete : Statement .mirrorApplyComplete := fun _ => rfl
theorem mirrorAcknowledgement (qp epoch seq : Nat) (opens : Bool) :
    Statement (.mirrorAcknowledgement qp epoch seq opens) := fun _ => rfl
theorem mirrorRequestEpochAgain (qp epoch seq : Nat) (opens : Bool) :
    Statement (.mirrorRequestEpochAgain qp epoch seq opens) := fun _ => rfl
theorem mirrorEndMarkerSend : Statement .mirrorEndMarkerSend := fun _ => rfl
theorem mirrorEnable (value : BitVec 64) : Statement (.mirrorEnable value) := fun _ => rfl
theorem mirrorDisable (value : BitVec 64) : Statement (.mirrorDisable value) := fun _ => rfl
theorem hazelLoad (core pc addr size : Nat) (signed : Bool) (dst : Nat) (outside : List (BitVec 8)) :
    Statement (.hazelLoad core pc addr size signed dst outside) := fun _ => rfl
theorem hazelStore (core pc addr : Nat) (bytes : List (BitVec 8)) :
    Statement (.hazelStore core pc addr bytes) := fun _ => rfl
theorem hazelNtStore (core pc addr : Nat) (bytes : List (BitVec 8)) :
    Statement (.hazelNtStore core pc addr bytes) := fun _ => rfl
theorem hazelAmo (core pc : Nat) (op : AmoOp) (addr : Nat) (wide : Bool) (operand : BitVec 64) (dst : Nat) (outside : List (BitVec 8)) :
    Statement (.hazelAmo core pc op addr wide operand dst outside) := fun _ => rfl
theorem hazelLr (core pc addr : Nat) (wide : Bool) (dst : Nat) (outside : List (BitVec 8)) :
    Statement (.hazelLr core pc addr wide dst outside) := fun _ => rfl
theorem hazelSc (core pc addr : Nat) (wide : Bool) (operand : BitVec 64) (dst : Nat) :
    Statement (.hazelSc core pc addr wide operand dst) := fun _ => rfl
theorem fence (core pc : Nat) : Statement (.fence core pc) := fun _ => rfl
theorem fenceI (core pc : Nat) : Statement (.fenceI core pc) := fun _ => rfl
theorem combiningBufferIdle (core line : Nat) : Statement (.combiningBufferIdle core line) := fun _ => rfl
theorem storeAck (core : Nat) : Statement (.storeAck core) := fun _ => rfl
theorem storeTimeout (core : Nat) : Statement (.storeTimeout core) := fun _ => rfl
theorem earlyStoreDrop (src : DropSource) (addr dom : Nat) : Statement (.earlyStoreDrop src addr dom) := fun _ => rfl
theorem hazelException (core pc : Nat) (cause : HazelCause) (addr : Nat) :
    Statement (.hazelException core pc cause addr) := fun _ => rfl
theorem ringSqTailDoorbell (ring dom : Nat) (value : BitVec 16) :
    Statement (.ringSqTailDoorbell ring dom value) := fun _ => rfl
theorem ringCqHeadDoorbell (ring dom : Nat) (value : BitVec 16) :
    Statement (.ringCqHeadDoorbell ring dom value) := fun _ => rfl
theorem ringEnable (ring : Nat) : Statement (.ringEnable ring) := fun _ => rfl
theorem ringDisable (ring : Nat) : Statement (.ringDisable ring) := fun _ => rfl
theorem abort (ring : Nat) : Statement (.abort ring) := fun _ => rfl
theorem ringBindWrite (ring : Nat) (value : BitVec 32) : Statement (.ringBindWrite ring value) := fun _ => rfl
theorem descriptorFetch (ring count : Nat) : Statement (.descriptorFetch ring count) := fun _ => rfl
theorem descriptorReadComplete (ring : Nat) (words : Option (List (BitVec 64))) :
    Statement (.descriptorReadComplete ring words) := fun _ => rfl
theorem descriptorComplete (ring handle : Nat) (fails : Bool) :
    Statement (.descriptorComplete ring handle fails) := fun _ => rfl
theorem ringNop (ring handle : Nat) : Statement (.ringNop ring handle) := fun _ => rfl
theorem ftRead (ring handle : Nat) : Statement (.ftRead ring handle) := fun _ => rfl
theorem ftWrite (ring handle : Nat) (outside : List (BitVec 8)) :
    Statement (.ftWrite ring handle outside) := fun _ => rfl
theorem ftTrim (ring handle : Nat) : Statement (.ftTrim ring handle) := fun _ => rfl
theorem ftFlush (ring handle : Nat) : Statement (.ftFlush ring handle) := fun _ => rfl
theorem move (ring handle : Nat) (outside : List (BitVec 8)) : Statement (.move ring handle outside) := fun _ => rfl
theorem movePeerWrite (ring handle : Nat) (outside : List (BitVec 8)) :
    Statement (.movePeerWrite ring handle outside) := fun _ => rfl
theorem movePeerRead (ring handle : Nat) : Statement (.movePeerRead ring handle) := fun _ => rfl
theorem hzLaunch (ring handle : Nat) : Statement (.hzLaunch ring handle) := fun _ => rfl
theorem gcmSeal (ring handle : Nat) (outside : List (BitVec 8)) :
    Statement (.gcmSeal ring handle outside) := fun _ => rfl
theorem gcmOpen (ring handle : Nat) (outside : List (BitVec 8)) :
    Statement (.gcmOpen ring handle outside) := fun _ => rfl
theorem epochCut (ring handle : Nat) : Statement (.epochCut ring handle) := fun _ => rfl
theorem snapshotCut (ring handle : Nat) : Statement (.snapshotCut ring handle) := fun _ => rfl
theorem snapshotDelete (ring handle : Nat) : Statement (.snapshotDelete ring handle) := fun _ => rfl
theorem snapshotRead (ring handle : Nat) : Statement (.snapshotRead ring handle) := fun _ => rfl
theorem adminShutdown (ring handle : Nat) : Statement (.adminShutdown ring handle) := fun _ => rfl
theorem adminSanitize (ring handle : Nat) : Statement (.adminSanitize ring handle) := fun _ => rfl
theorem adminSelftest (ring handle : Nat) : Statement (.adminSelftest ring handle) := fun _ => rfl
theorem adminCheckpoint (ring handle : Nat) : Statement (.adminCheckpoint ring handle) := fun _ => rfl
theorem progressRecord (ring handle permille position : Nat) :
    Statement (.progressRecord ring handle permille position) := fun _ => rfl
theorem notificationCoalesceTimer (ring : Nat) : Statement (.notificationCoalesceTimer ring) := fun _ => rfl
theorem remoteSubmission (ring : Nat) : Statement (.remoteSubmission ring) := fun _ => rfl
theorem qFlush (queue : Nat) : Statement (.qFlush queue) := fun _ => rfl
theorem spillQuotaWrite (queue : Nat) (quotaMiB : Nat) : Statement (.spillQuotaWrite queue quotaMiB) := fun _ => rfl
theorem kernelStart (die : Nat) (image args : List (BitVec 8)) : Statement (.kernelStart die image args) := fun _ => rfl
theorem exit (core pc : Nat) : Statement (.exit core pc) := fun _ => rfl
theorem coresSync (core pc : Nat) : Statement (.coresSync core pc) := fun _ => rfl
theorem handlerReturn (core : Nat) : Statement (.handlerReturn core) := fun _ => rfl
theorem kernelCompletion (kernel : Nat) : Statement (.kernelCompletion kernel) := fun _ => rfl
theorem kernelDeadline (kernel : Nat) : Statement (.kernelDeadline kernel) := fun _ => rfl
theorem hzCoreReset (core : Nat) : Statement (.hzCoreReset core) := fun _ => rfl
theorem coreDrainComplete (core : Nat) : Statement (.coreDrainComplete core) := fun _ => rfl
theorem imageflush (die : Nat) : Statement (.imageflush die) := fun _ => rfl
theorem hzShmGrantWrite (unit : Nat) (value : BitVec 32) : Statement (.hzShmGrantWrite unit value) := fun _ => rfl
theorem ethFrameReceive (port bytes : Nat) (mac : BitVec 48) (fcsGood : Bool) (frame : Frame) :
    Statement (.ethFrameReceive port bytes mac fcsGood frame) := fun _ => rfl
theorem netQpCtx0Commit (qp : Nat) (value : BitVec 64) : Statement (.netQpCtx0Commit qp value) := fun _ => rfl
theorem netMrCtlCommit (region : Nat) (value : BitVec 32) : Statement (.netMrCtlCommit region value) := fun _ => rfl
theorem netGidCtlCommit (index : Nat) (value : BitVec 32) : Statement (.netGidCtlCommit index value) := fun _ => rfl
theorem send (qp psn : Nat) (first last : Bool) (bytes : List (BitVec 8)) :
    Statement (.send qp psn first last bytes) := fun _ => rfl
theorem rdmaWrite (qp psn : Nat) (first last : Bool) (addr rkey len : Nat) (bytes : List (BitVec 8)) :
    Statement (.rdmaWrite qp psn first last addr rkey len bytes) := fun _ => rfl
theorem rdmaWriteAckSend (qp : Nat) : Statement (.rdmaWriteAckSend qp) := fun _ => rfl
theorem rdmaRead (qp psn addr rkey len : Nat) : Statement (.rdmaRead qp psn addr rkey len) := fun _ => rfl
theorem readResponseSend (qp : Nat) : Statement (.readResponseSend qp) := fun _ => rfl
theorem compareAndSwap (qp psn addr rkey : Nat) (compare swap : BitVec 64) :
    Statement (.compareAndSwap qp psn addr rkey compare swap) := fun _ => rfl
theorem fetchAndAdd (qp psn addr rkey : Nat) (add : BitVec 64) :
    Statement (.fetchAndAdd qp psn addr rkey add) := fun _ => rfl
theorem qpRetryTimeout (qp : Nat) : Statement (.qpRetryTimeout qp) := fun _ => rfl
theorem ackReceive (qp psn : Nat) (bytes : List (BitVec 8)) : Statement (.ackReceive qp psn bytes) := fun _ => rfl
theorem nakReceive (qp psn : Nat) (kind : NakKind) : Statement (.nakReceive qp psn kind) := fun _ => rfl
theorem pfcPauseReceive (port : Nat) (pause : Bool) : Statement (.pfcPauseReceive port pause) := fun _ => rfl
theorem portPaused100ms (port : Nat) : Statement (.portPaused100ms port) := fun _ => rfl
theorem cnpReceive (qp : Nat) : Statement (.cnpReceive qp) := fun _ => rfl
theorem ccAlphaTimer (qp : Nat) : Statement (.ccAlphaTimer qp) := fun _ => rfl
theorem ccIncreaseTimer (qp : Nat) : Statement (.ccIncreaseTimer qp) := fun _ => rfl
theorem portLinkUp (port : Nat) : Statement (.portLinkUp port) := fun _ => rfl
theorem portLinkDown (port : Nat) : Statement (.portLinkDown port) := fun _ => rfl
theorem loadGcmSlot (dom slot : Nat) : Statement (.loadGcmSlot dom slot) := fun _ => rfl
theorem clearGcmSlot (dom slot : Nat) : Statement (.clearGcmSlot dom slot) := fun _ => rfl
theorem replaceXtsKey (dom issuer : Nat) : Statement (.replaceXtsKey dom issuer) := fun _ => rfl
theorem keyCommandComplete (dom : Nat) : Statement (.keyCommandComplete dom) := fun _ => rfl
theorem xtsKeySwitch (dom : Nat) : Statement (.xtsKeySwitch dom) := fun _ => rfl
theorem keyPinRelease (dom : Nat) : Statement (.keyPinRelease dom) := fun _ => rfl
theorem keyReplicaLoad (dom : Nat) : Statement (.keyReplicaLoad dom) := fun _ => rfl
theorem cipherCoreOffline (gcm : Bool) (core : Nat) : Statement (.cipherCoreOffline gcm core) := fun _ => rfl
theorem nearPathLaneFailure (die : Nat) : Statement (.nearPathLaneFailure die) := fun _ => rfl
theorem kiliusTrainingStart (port : Nat) : Statement (.kiliusTrainingStart port) := fun _ => rfl
theorem kiliusTrainingStep (port : Nat) (id : BitVec 64) (lanes : LaneTest) :
    Statement (.kiliusTrainingStep port id lanes) := fun _ => rfl
theorem kiliusTrainingStepFail (port : Nat) : Statement (.kiliusTrainingStepFail port) := fun _ => rfl
theorem trainingBackoff (port : Nat) : Statement (.trainingBackoff port) := fun _ => rfl
theorem align (port : Nat) (flit : Flit) : Statement (.align port flit) := fun _ => rfl
theorem delayprobe (port : Nat) (flit : Flit) : Statement (.delayprobe port flit) := fun _ => rfl
theorem delayecho (port : Nat) (flit : Flit) (roundTripPs : Nat) :
    Statement (.delayecho port flit roundTripPs) := fun _ => rfl
theorem pmreq (port : Nat) (flit : Flit) : Statement (.pmreq port flit) := fun _ => rfl
theorem pmack (port : Nat) (flit : Flit) : Statement (.pmack port flit) := fun _ => rfl
theorem pmnak (port : Nat) (flit : Flit) : Statement (.pmnak port flit) := fun _ => rfl
theorem downnotice (port : Nat) (flit : Flit) : Statement (.downnotice port flit) := fun _ => rfl
theorem pmreqRetry (port : Nat) : Statement (.pmreqRetry port) := fun _ => rfl
theorem payloadFlit (port : Nat) (flit : Flit) : Statement (.payloadFlit port flit) := fun _ => rfl
theorem idleFlit (port : Nat) (flit : Flit) : Statement (.idleFlit port flit) := fun _ => rfl
theorem flitCrcError (port : Nat) (bytes : List (BitVec 8)) : Statement (.flitCrcError port bytes) := fun _ => rfl
theorem ackTimeout (port : Nat) : Statement (.ackTimeout port) := fun _ => rfl
theorem klRetrain (port : Nat) : Statement (.klRetrain port) := fun _ => rfl
theorem klDisable (port : Nat) (disable : Bool) : Statement (.klDisable port disable) := fun _ => rfl
theorem retrainingComplete (port : Nat) (success : Bool) (id : BitVec 64) (lanes : LaneTest) :
    Statement (.retrainingComplete port success id lanes) := fun _ => rfl
theorem l1IdleTimer (port : Nat) : Statement (.l1IdleTimer port) := fun _ => rfl
theorem l1Exit (port : Nat) (asked success : Bool) : Statement (.l1Exit port asked success) := fun _ => rfl
theorem l2Timeout : Statement .l2Timeout := fun _ => rfl
theorem sidebandLoss (port : Nat) : Statement (.sidebandLoss port) := fun _ => rfl
theorem kiliusRead (agent tag addr lenM1 : Nat) (host : Option (List (BitVec 8))) :
    Statement (.kiliusRead agent tag addr lenM1 host) := fun _ => rfl
theorem writenp (agent tag addr lenM1 poison : Nat) (bytes : List (BitVec 8)) (hostDone : Bool) :
    Statement (.writenp agent tag addr lenM1 poison bytes hostDone) := fun _ => rfl
theorem fetchadd (agent tag addr lenM1 : Nat) (addend : BitVec 64) :
    Statement (.fetchadd agent tag addr lenM1 addend) := fun _ => rfl
theorem swap (agent tag addr lenM1 : Nat) (value : BitVec 64) :
    Statement (.swap agent tag addr lenM1 value) := fun _ => rfl
theorem compareswap (agent tag addr lenM1 : Nat) (compare value : BitVec 64) :
    Statement (.compareswap agent tag addr lenM1 compare value) := fun _ => rfl
theorem kiliusWrite (agent addr lenM1 poison : Nat) (bytes : List (BitVec 8)) :
    Statement (.kiliusWrite agent addr lenM1 poison bytes) := fun _ => rfl
theorem cmp (agent tag status : Nat) : Statement (.cmp agent tag status) := fun _ => rfl
theorem readdata (agent tag status poison : Nat) (bytes : List (BitVec 8)) :
    Statement (.readdata agent tag status poison bytes) := fun _ => rfl
theorem atomicdata (agent tag status : Nat) (old : BitVec 64) :
    Statement (.atomicdata agent tag status old) := fun _ => rfl
theorem barrier (agent tag posted requests : Nat) : Statement (.barrier agent tag posted requests) := fun _ => rfl
theorem barrierComplete (agent tag : Nat) : Statement (.barrierComplete agent tag) := fun _ => rfl
theorem hostinterrupt (agent ld vector : Nat) : Statement (.hostinterrupt agent ld vector) := fun _ => rfl
theorem postederror (agent addr status index : Nat) : Statement (.postederror agent addr status index) := fun _ => rfl
theorem launchfired (agent slot state lateness : Nat) (late : Bool) :
    Statement (.launchfired agent slot state lateness late) := fun _ => rfl
theorem event (agent severity code : Nat) (data : List (BitVec 8)) :
    Statement (.event agent severity code data) := fun _ => rfl
theorem admitAgent (agent : Nat) (value : BitVec 32) : Statement (.admitAgent agent value) := fun _ => rfl
theorem revoke (agent : Nat) (value : BitVec 32) : Statement (.revoke agent value) := fun _ => rfl
theorem agentRequestTimeout (agent tag : Nat) : Statement (.agentRequestTimeout agent tag) := fun _ => rfl
theorem klAptCommit (agent entry : Nat) (value : BitVec 64) : Statement (.klAptCommit agent entry value) := fun _ => rfl
theorem meshFlitError (die router direction : Nat) (again : Bool) :
    Statement (.meshFlitError die router direction again) := fun _ => rfl
theorem privetBoot (bankA bankB : FlashBank) (badKeys : List Nat) (udsBad : Bool) :
    Statement (.privetBoot bankA bankB badKeys udsBad) := fun _ => rfl
theorem componentCheckFailure (component : Nat) : Statement (.componentCheckFailure component) := fun _ => rfl
theorem commit : Statement .commit := fun _ => rfl
theorem revert : Statement .revert := fun _ => rfl
theorem getVersion (ld : Nat) : Statement (.getVersion ld) := fun _ => rfl
theorem getCapabilities (ld : Nat) : Statement (.getCapabilities ld) := fun _ => rfl
theorem negotiateAlgorithms (ld : Nat) (offered : Bool) : Statement (.negotiateAlgorithms ld offered) := fun _ => rfl
theorem getDigests (ld : Nat) : Statement (.getDigests ld) := fun _ => rfl
theorem getCertificate (ld slot offset length : Nat) : Statement (.getCertificate ld slot offset length) := fun _ => rfl
theorem challenge (ld slot : Nat) (nonce : BitVec 256) : Statement (.challenge ld slot nonce) := fun _ => rfl
theorem getMeasurements (ld index : Nat) : Statement (.getMeasurements ld index) := fun _ => rfl
theorem spdmUnsupportedRequest (ld request : Nat) : Statement (.spdmUnsupportedRequest ld request) := fun _ => rfl
theorem importKek (dom : Nat) (outside : List (BitVec 8)) : Statement (.importKek dom outside) := fun _ => rfl
theorem eraseKek (dom : Nat) : Statement (.eraseKek dom) := fun _ => rfl
theorem kekCommandComplete (onCurve : Bool) : Statement (.kekCommandComplete onCurve) := fun _ => rfl
theorem idcode : Statement .idcode := fun _ => rfl
theorem bypass (bit : Bool) : Statement (.bypass bit) := fun _ => rfl
theorem nonce : Statement .nonce := fun _ => rfl
theorem pvDebugUnlockStart (outside : List (BitVec 8)) (keyMatches signatureValid : Bool) :
    Statement (.pvDebugUnlockStart outside keyMatches signatureValid) := fun _ => rfl
theorem debugOpeningStep : Statement .debugOpeningStep := fun _ => rfl
theorem psWrite : Statement .psWrite := fun _ => rfl
theorem psPageWriteComplete : Statement .psPageWriteComplete := fun _ => rfl
theorem psRead (bad : Option Nat) : Statement (.psRead bad) := fun _ => rfl
theorem marginRefresh (page : Nat) (fails : Bool) : Statement (.marginRefresh page fails) := fun _ => rfl
theorem sequenceStepComplete : Statement .sequenceStepComplete := fun _ => rfl
theorem seqPgDrop (rail : Nat) : Statement (.seqPgDrop rail) := fun _ => rfl
theorem sequenceWindowExpiry (rail : Nat) : Statement (.sequenceWindowExpiry rail) := fun _ => rfl
theorem powerDownStep (late : Option Nat) : Statement (.powerDownStep late) := fun _ => rfl
theorem backoffExpiry : Statement .backoffExpiry := fun _ => rfl
theorem attemptCountReset : Statement .attemptCountReset := fun _ => rfl
theorem runningRailFault (rail lowNs : Nat) : Statement (.runningRailFault rail lowNs) := fun _ => rfl
theorem pfWarnNTrigger (lowUs : Nat) : Statement (.pfWarnNTrigger lowUs) := fun _ => rfl
theorem flushLimitExpiry : Statement .flushLimitExpiry := fun _ => rfl
theorem inputReturn : Statement .inputReturn := fun _ => rfl
theorem holduptest (v0Mv : Nat) : Statement (.holduptest v0Mv) := fun _ => rfl
theorem holdupInterval (v0Mv : Nat) : Statement (.holdupInterval v0Mv) := fun _ => rfl
theorem holdupTestComplete (v1Mv : Nat) : Statement (.holdupTestComplete v1Mv) := fun _ => rfl
theorem sensorSample (sensor : Nat) (raw : Int) (fault : Nat) :
    Statement (.sensorSample sensor raw fault) := fun _ => rfl
theorem throttleFall (loop : Nat) : Statement (.throttleFall loop) := fun _ => rfl
theorem powerEstimate (watts : Nat) : Statement (.powerEstimate watts) := fun _ => rfl
theorem hardwareTrip (sensor : Nat) : Statement (.hardwareTrip sensor) := fun _ => rfl
theorem tripResetRelease : Statement .tripResetRelease := fun _ => rfl
theorem startHoldTimeout : Statement .startHoldTimeout := fun _ => rfl
theorem eventIntake : Statement .eventIntake := fun _ => rfl
theorem eventRecordWrite : Statement .eventRecordWrite := fun _ => rfl
theorem routeHoldExpiry (route : Nat) : Statement (.routeHoldExpiry route) := fun _ => rfl
theorem persistentCopyWrite : Statement .persistentCopyWrite := fun _ => rfl
theorem repeatRewrite (seq : Nat) : Statement (.repeatRewrite seq) := fun _ => rfl
theorem evrCursorWrite (value : BitVec 64) : Statement (.evrCursorWrite value) := fun _ => rfl
theorem next : Statement .next := fun _ => rfl
theorem clearram : Statement .clearram := fun _ => rfl
theorem clearpersist : Statement .clearpersist := fun _ => rfl
theorem counterWrap (counter : Nat) : Statement (.counterWrap counter) := fun _ => rfl
theorem pmcCntWrite (counter : Nat) (value : BitVec 64) : Statement (.pmcCntWrite counter value) := fun _ => rfl
theorem pmcFreeze (groups : BitVec 64) : Statement (.pmcFreeze groups) := fun _ => rfl
theorem pmcThaw (groups : BitVec 64) : Statement (.pmcThaw groups) := fun _ => rfl
theorem bwWindowOpen (index : Nat) (value : BitVec 32) : Statement (.bwWindowOpen index value) := fun _ => rfl
theorem bwWindowClose (index : Nat) : Statement (.bwWindowClose index) := fun _ => rfl
theorem sampleTake (counter pc dataAddr latencyNs : Nat) (addrValid latencyValid : Bool) :
    Statement (.sampleTake counter pc dataAddr latencyNs addrValid latencyValid) := fun _ => rfl
theorem sampleArrival (cluster : Nat) : Statement (.sampleArrival cluster) := fun _ => rfl
theorem pmcSampleEnable (value : BitVec 32) : Statement (.pmcSampleEnable value) := fun _ => rfl
theorem pmcSampleRdWrite (value : BitVec 64) : Statement (.pmcSampleRdWrite value) := fun _ => rfl
theorem coldreset : Statement .coldreset := fun _ => rfl
theorem coldResetStep (bankA bankB : FlashBank) (badKeys : List Nat) (udsBad : Bool) :
    Statement (.coldResetStep bankA bankB badKeys udsBad) := fun _ => rfl
theorem startupMilestone (milestone : Nat) (found : StartFindings) :
    Statement (.startupMilestone milestone found) := fun _ => rfl
theorem sanitizePhase : Statement .sanitizePhase := fun _ => rfl
theorem sanitizeOverwriteBatch : Statement .sanitizeOverwriteBatch := fun _ => rfl
theorem selftestClassComplete (failed : Bool) (units : BitVec 64) :
    Statement (.selftestClassComplete failed units) := fun _ => rfl
theorem ppsInSourceLoss : Statement .ppsInSourceLoss := fun _ => rfl
theorem standbyRailLoss : Statement .standbyRailLoss := fun _ => rfl
theorem debugUnlockInstruction (token : List (BitVec 8)) (keyMatches signatureValid : Bool) :
    Statement (.debugUnlockInstruction token keyMatches signatureValid) := fun _ => rfl
theorem phyretrainRequest (port : Nat) : Statement (.phyretrainRequest port) := fun _ => rfl
theorem recoveryBoundExpiry : Statement .recoveryBoundExpiry := fun _ => rfl
theorem hostApertureTimeout (agent tag : Nat) : Statement (.hostApertureTimeout agent tag) := fun _ => rfl
theorem hbmInterfaceRecalibration : Statement .hbmInterfaceRecalibration := fun _ => rfl
theorem poweredHoursIncrement : Statement .poweredHoursIncrement := fun _ => rfl

end Sys2Proof.Laws.Inside
end

