-- ==== Sys2Proof/Laws/State.lean ====
section
/-!
SUPPORT. The laws of the shared updates: what each leaves of every field, and what a register or a field of one reads after it.
-/
set_option Elab.async false

namespace Sys2Proof.Machine

/-! ### Fields of a register value -/

/-- The bits of a field, one by one. -/
theorem testBit_bits (v : Word) (lo w i : Nat) : (bits v lo w).testBit i = (decide (i < w) && v.toNat.testBit (lo + i)) := by
  unfold bits
  rw [Nat.testBit_mod_two_pow, Nat.testBit_div_two_pow, Nat.add_comm i lo]

/-- The bits of a value with a field replaced, one by one. -/
theorem testBit_putBits (v : Word) {lo w : Nat} (x i : Nat) (h : lo + w ≤ 64) :
    (putBits v lo w x).toNat.testBit i =
      if lo ≤ i ∧ i < lo + w then x.testBit (i - lo) else v.toNat.testBit i := by
  have hb : v.toNat % 2 ^ lo < 2 ^ lo := Nat.mod_lt _ (Nat.two_pow_pos lo)
  have hx : x % 2 ^ w < 2 ^ w := Nat.mod_lt _ (Nat.two_pow_pos w)
  have hm : x % 2 ^ w * 2 ^ lo + v.toNat % 2 ^ lo < 2 ^ (lo + w) := by
    calc x % 2 ^ w * 2 ^ lo + v.toNat % 2 ^ lo < x % 2 ^ w * 2 ^ lo + 2 ^ lo := by omega
      _ = (x % 2 ^ w + 1) * 2 ^ lo := by ring
      _ ≤ 2 ^ w * 2 ^ lo := Nat.mul_le_mul_right _ hx
      _ = 2 ^ (lo + w) := by rw [← Nat.pow_add, Nat.add_comm]
  have hlt : v.toNat / 2 ^ (lo + w) * 2 ^ (lo + w) + x % 2 ^ w * 2 ^ lo + v.toNat % 2 ^ lo < 2 ^ 64 := by
    have hv := v.isLt
    have hd : v.toNat / 2 ^ (lo + w) < 2 ^ (64 - (lo + w)) := by
      rw [Nat.div_lt_iff_lt_mul (Nat.two_pow_pos _), ← Nat.pow_add]
      exact Nat.lt_of_lt_of_eq hv (congrArg (2 ^ ·) (by omega))
    calc v.toNat / 2 ^ (lo + w) * 2 ^ (lo + w) + x % 2 ^ w * 2 ^ lo + v.toNat % 2 ^ lo
        < v.toNat / 2 ^ (lo + w) * 2 ^ (lo + w) + 2 ^ (lo + w) := by omega
      _ = (v.toNat / 2 ^ (lo + w) + 1) * 2 ^ (lo + w) := by ring
      _ ≤ 2 ^ (64 - (lo + w)) * 2 ^ (lo + w) := Nat.mul_le_mul_right _ hd
      _ = 2 ^ 64 := by rw [← Nat.pow_add]; congr 1; omega
  unfold putBits
  rw [BitVec.toNat_ofNat, Nat.mod_eq_of_lt hlt, Nat.add_assoc, Nat.mul_comm _ (2 ^ (lo + w)),
    Nat.testBit_two_pow_mul_add _ hm, Nat.mul_comm _ (2 ^ lo), Nat.testBit_two_pow_mul_add _ hb]
  by_cases h1 : i < lo
  · have : ¬ (lo ≤ i ∧ i < lo + w) := by omega
    rw [if_neg this, if_pos (by omega), if_pos h1, Nat.testBit_mod_two_pow, decide_eq_true h1, Bool.true_and]
  · by_cases h2 : i < lo + w
    · rw [if_pos h2, if_neg h1, if_pos ⟨by omega, h2⟩, Nat.testBit_mod_two_pow, decide_eq_true (by omega), Bool.true_and]
    · rw [if_neg h2, if_neg (by omega), Nat.testBit_div_two_pow]
      congr 1
      omega

/-- A field reads what was put there, cut to its width. -/
theorem bits_putBits_same (v : Word) {lo w : Nat} (x : Nat) (h : lo + w ≤ 64) : bits (putBits v lo w x) lo w = x % 2 ^ w := by
  apply Nat.eq_of_testBit_eq
  intro i
  rw [testBit_bits, testBit_putBits v x _ h, Nat.testBit_mod_two_pow]
  by_cases hi : i < w
  · rw [if_pos (by omega), Nat.add_sub_cancel_left]
  · simp [hi]

/-- A field does not see another field replaced. -/
theorem bits_putBits_other (v : Word) {lo w lo' w' : Nat} (x : Nat) (h : lo + w ≤ 64) (g : lo' + w' ≤ lo ∨ lo + w ≤ lo') :
    bits (putBits v lo w x) lo' w' = bits v lo' w' := by
  apply Nat.eq_of_testBit_eq
  intro i
  rw [testBit_bits, testBit_bits, testBit_putBits v x _ h]
  by_cases hi : i < w'
  · rw [if_neg (by omega)]
  · simp [hi]

/-- A field is below its width's power. -/
theorem bits_lt (v : Word) (lo w : Nat) : bits v lo w < 2 ^ w := Nat.mod_lt _ (Nat.two_pow_pos w)

namespace State

/-! ### Registers and their fields -/

@[simp] theorem reg_setReg_same (s : State) (a : Nat) (v : Word) : (s.setReg a v).reg a = v := Store.read_write_same a v s.regs

theorem reg_setReg_other (s : State) {a b : Nat} (v : Word) (h : b ≠ a) : (s.setReg a v).reg b = s.reg b :=
  Store.read_write_other v s.regs h

/-- The register that a field lies in. -/
theorem reg_set_same (s : State) (f : Fld) (x : Nat) : (s.set f x).reg f.reg = putBits (s.reg f.reg) f.lo f.w x :=
  reg_setReg_same _ _ _

theorem reg_set_other (s : State) {f : Fld} {b : Nat} (x : Nat) (h : b ≠ f.reg) : (s.set f x).reg b = s.reg b :=
  reg_setReg_other s _ h

/-- A field that was set reads the value, cut to its width. -/
theorem get_set_same (s : State) {f : Fld} (x : Nat) (h : f.lo + f.w ≤ 64) : (s.set f x).get f = x % 2 ^ f.w := by
  unfold get
  rw [reg_set_same]
  exact bits_putBits_same _ x h

/-- A field of another register, or other bits of the same one, is not touched. -/
theorem get_set_other (s : State) {f g : Fld} (x : Nat)
    (h : g.reg ≠ f.reg ∨ (f.lo + f.w ≤ 64 ∧ (g.lo + g.w ≤ f.lo ∨ f.lo + f.w ≤ g.lo))) : (s.set f x).get g = s.get g := by
  unfold get
  by_cases e : g.reg = f.reg
  · obtain h | ⟨h, d⟩ := h
    · exact absurd e h
    · rw [e, reg_set_same]
      exact bits_putBits_other _ x h d
  · rw [reg_set_other s x e]

theorem get_setReg_same (s : State) (f : Fld) (v : Word) : (s.setReg f.reg v).get f = bits v f.lo f.w := by
  unfold get
  rw [reg_setReg_same]

theorem get_setReg_other (s : State) {a : Nat} {g : Fld} (v : Word) (h : g.reg ≠ a) : (s.setReg a v).get g = s.get g := by
  unfold get
  rw [reg_setReg_other s v h]

theorem get_put_same (s : State) {f : Fld} (b : Bool) (h : f.lo + f.w ≤ 64) (g : 0 < f.w) :
    (s.put f b).get f = if b then 1 else 0 := by
  unfold put
  rw [get_set_same s _ h]
  have : 1 < 2 ^ f.w := Nat.one_lt_two_pow (Nat.pos_iff_ne_zero.mp g)
  cases b
  · exact Nat.zero_mod _
  · exact Nat.mod_eq_of_lt this

theorem get_put_other (s : State) {f g : Fld} (b : Bool)
    (h : g.reg ≠ f.reg ∨ (f.lo + f.w ≤ 64 ∧ (g.lo + g.w ≤ f.lo ∨ f.lo + f.w ≤ g.lo))) : (s.put f b).get g = s.get g :=
  get_set_other s _ h

theorem on_put_same (s : State) {f : Fld} (b : Bool) (h : f.lo + f.w ≤ 64) (g : 0 < f.w) : (s.put f b).on f = b := by
  unfold on
  rw [get_put_same s b h g]
  cases b <;> rfl

theorem on_put_other (s : State) {f g : Fld} (b : Bool)
    (h : g.reg ≠ f.reg ∨ (f.lo + f.w ≤ 64 ∧ (g.lo + g.w ≤ f.lo ∨ f.lo + f.w ≤ g.lo))) : (s.put f b).on g = s.on g := by
  unfold on
  rw [get_put_other s b h]

theorem on_set_other (s : State) {f g : Fld} (x : Nat)
    (h : g.reg ≠ f.reg ∨ (f.lo + f.w ≤ 64 ∧ (g.lo + g.w ≤ f.lo ∨ f.lo + f.w ≤ g.lo))) : (s.set f x).on g = s.on g := by
  unfold on
  rw [get_set_other s x h]

theorem on_setReg_other (s : State) {a : Nat} {g : Fld} (v : Word) (h : g.reg ≠ a) : (s.setReg a v).on g = s.on g := by
  unfold on
  rw [get_setReg_other s v h]

/-- A count goes up by one, and stays at its highest value. -/
theorem get_bump_same (s : State) {f : Fld} (h : f.lo + f.w ≤ 64) : (s.bump f).get f = satInc f.w (s.get f) := by
  unfold bump
  rw [get_set_same s _ h, Nat.mod_eq_of_lt]
  have := Nat.two_pow_pos f.w
  unfold satInc
  omega

theorem get_bump_other (s : State) {f g : Fld}
    (h : g.reg ≠ f.reg ∨ (f.lo + f.w ≤ 64 ∧ (g.lo + g.w ≤ f.lo ∨ f.lo + f.w ≤ g.lo))) : (s.bump f).get g = s.get g :=
  get_set_other s _ h

/-! ### What the shared updates leave -/
@[simp] theorem setReg_part (s : State) (a : Nat) (v : Word) : (s.setReg a v).part = s.part := rfl
@[simp] theorem setReg_clk (s : State) (a : Nat) (v : Word) : (s.setReg a v).clk = s.clk := rfl
@[simp] theorem setReg_free (s : State) (a : Nat) (v : Word) : (s.setReg a v).free = s.free := rfl
@[simp] theorem setReg_out (s : State) (a : Nat) (v : Word) : (s.setReg a v).out = s.out := rfl
@[simp] theorem setReg_time (s : State) (a : Nat) (v : Word) : (s.setReg a v).time = s.time := rfl
@[simp] theorem setReg_obs (s : State) (a : Nat) (v : Word) : (s.setReg a v).obs = s.obs := rfl
@[simp] theorem setReg_win (s : State) (a : Nat) (v : Word) : (s.setReg a v).win = s.win := rfl
@[simp] theorem setReg_qs (s : State) (a : Nat) (v : Word) : (s.setReg a v).qs = s.qs := rfl
@[simp] theorem setReg_lc (s : State) (a : Nat) (v : Word) : (s.setReg a v).lc = s.lc := rfl
@[simp] theorem setReg_mt (s : State) (a : Nat) (v : Word) : (s.setReg a v).mt = s.mt := rfl
@[simp] theorem setReg_md (s : State) (a : Nat) (v : Word) : (s.setReg a v).md = s.md := rfl
@[simp] theorem setReg_fm (s : State) (a : Nat) (v : Word) : (s.setReg a v).fm = s.fm := rfl
@[simp] theorem setReg_ft (s : State) (a : Nat) (v : Word) : (s.setReg a v).ft = s.ft := rfl
@[simp] theorem setReg_top (s : State) (a : Nat) (v : Word) : (s.setReg a v).top = s.top := rfl
@[simp] theorem setReg_per (s : State) (a : Nat) (v : Word) : (s.setReg a v).per = s.per := rfl
@[simp] theorem setReg_rg (s : State) (a : Nat) (v : Word) : (s.setReg a v).rg = s.rg := rfl
@[simp] theorem setReg_pv (s : State) (a : Nat) (v : Word) : (s.setReg a v).pv = s.pv := rfl
@[simp] theorem setReg_hz (s : State) (a : Nat) (v : Word) : (s.setReg a v).hz = s.hz := rfl
@[simp] theorem setReg_net (s : State) (a : Nat) (v : Word) : (s.setReg a v).net = s.net := rfl
@[simp] theorem setReg_cip (s : State) (a : Nat) (v : Word) : (s.setReg a v).cip = s.cip := rfl
@[simp] theorem setReg_kl (s : State) (a : Nat) (v : Word) : (s.setReg a v).kl = s.kl := rfl
@[simp] theorem setReg_kt (s : State) (a : Nat) (v : Word) : (s.setReg a v).kt = s.kt := rfl
@[simp] theorem setReg_pw (s : State) (a : Nat) (v : Word) : (s.setReg a v).pw = s.pw := rfl
@[simp] theorem setReg_pending (s : State) (a : Nat) (v : Word) : (s.setReg a v).pending = s.pending := rfl
@[simp] theorem set_part (s : State) (f : Fld) (x : Nat) : (s.set f x).part = s.part := rfl
@[simp] theorem set_clk (s : State) (f : Fld) (x : Nat) : (s.set f x).clk = s.clk := rfl
@[simp] theorem set_free (s : State) (f : Fld) (x : Nat) : (s.set f x).free = s.free := rfl
@[simp] theorem set_out (s : State) (f : Fld) (x : Nat) : (s.set f x).out = s.out := rfl
@[simp] theorem set_time (s : State) (f : Fld) (x : Nat) : (s.set f x).time = s.time := rfl
@[simp] theorem set_obs (s : State) (f : Fld) (x : Nat) : (s.set f x).obs = s.obs := rfl
@[simp] theorem set_win (s : State) (f : Fld) (x : Nat) : (s.set f x).win = s.win := rfl
@[simp] theorem set_qs (s : State) (f : Fld) (x : Nat) : (s.set f x).qs = s.qs := rfl
@[simp] theorem set_lc (s : State) (f : Fld) (x : Nat) : (s.set f x).lc = s.lc := rfl
@[simp] theorem set_mt (s : State) (f : Fld) (x : Nat) : (s.set f x).mt = s.mt := rfl
@[simp] theorem set_md (s : State) (f : Fld) (x : Nat) : (s.set f x).md = s.md := rfl
@[simp] theorem set_fm (s : State) (f : Fld) (x : Nat) : (s.set f x).fm = s.fm := rfl
@[simp] theorem set_ft (s : State) (f : Fld) (x : Nat) : (s.set f x).ft = s.ft := rfl
@[simp] theorem set_top (s : State) (f : Fld) (x : Nat) : (s.set f x).top = s.top := rfl
@[simp] theorem set_per (s : State) (f : Fld) (x : Nat) : (s.set f x).per = s.per := rfl
@[simp] theorem set_rg (s : State) (f : Fld) (x : Nat) : (s.set f x).rg = s.rg := rfl
@[simp] theorem set_pv (s : State) (f : Fld) (x : Nat) : (s.set f x).pv = s.pv := rfl
@[simp] theorem set_hz (s : State) (f : Fld) (x : Nat) : (s.set f x).hz = s.hz := rfl
@[simp] theorem set_net (s : State) (f : Fld) (x : Nat) : (s.set f x).net = s.net := rfl
@[simp] theorem set_cip (s : State) (f : Fld) (x : Nat) : (s.set f x).cip = s.cip := rfl
@[simp] theorem set_kl (s : State) (f : Fld) (x : Nat) : (s.set f x).kl = s.kl := rfl
@[simp] theorem set_kt (s : State) (f : Fld) (x : Nat) : (s.set f x).kt = s.kt := rfl
@[simp] theorem set_pw (s : State) (f : Fld) (x : Nat) : (s.set f x).pw = s.pw := rfl
@[simp] theorem set_pending (s : State) (f : Fld) (x : Nat) : (s.set f x).pending = s.pending := rfl
@[simp] theorem put_part (s : State) (f : Fld) (b : Bool) : (s.put f b).part = s.part := rfl
@[simp] theorem put_clk (s : State) (f : Fld) (b : Bool) : (s.put f b).clk = s.clk := rfl
@[simp] theorem put_free (s : State) (f : Fld) (b : Bool) : (s.put f b).free = s.free := rfl
@[simp] theorem put_out (s : State) (f : Fld) (b : Bool) : (s.put f b).out = s.out := rfl
@[simp] theorem put_time (s : State) (f : Fld) (b : Bool) : (s.put f b).time = s.time := rfl
@[simp] theorem put_obs (s : State) (f : Fld) (b : Bool) : (s.put f b).obs = s.obs := rfl
@[simp] theorem put_win (s : State) (f : Fld) (b : Bool) : (s.put f b).win = s.win := rfl
@[simp] theorem put_qs (s : State) (f : Fld) (b : Bool) : (s.put f b).qs = s.qs := rfl
@[simp] theorem put_lc (s : State) (f : Fld) (b : Bool) : (s.put f b).lc = s.lc := rfl
@[simp] theorem put_mt (s : State) (f : Fld) (b : Bool) : (s.put f b).mt = s.mt := rfl
@[simp] theorem put_md (s : State) (f : Fld) (b : Bool) : (s.put f b).md = s.md := rfl
@[simp] theorem put_fm (s : State) (f : Fld) (b : Bool) : (s.put f b).fm = s.fm := rfl
@[simp] theorem put_ft (s : State) (f : Fld) (b : Bool) : (s.put f b).ft = s.ft := rfl
@[simp] theorem put_top (s : State) (f : Fld) (b : Bool) : (s.put f b).top = s.top := rfl
@[simp] theorem put_per (s : State) (f : Fld) (b : Bool) : (s.put f b).per = s.per := rfl
@[simp] theorem put_rg (s : State) (f : Fld) (b : Bool) : (s.put f b).rg = s.rg := rfl
@[simp] theorem put_pv (s : State) (f : Fld) (b : Bool) : (s.put f b).pv = s.pv := rfl
@[simp] theorem put_hz (s : State) (f : Fld) (b : Bool) : (s.put f b).hz = s.hz := rfl
@[simp] theorem put_net (s : State) (f : Fld) (b : Bool) : (s.put f b).net = s.net := rfl
@[simp] theorem put_cip (s : State) (f : Fld) (b : Bool) : (s.put f b).cip = s.cip := rfl
@[simp] theorem put_kl (s : State) (f : Fld) (b : Bool) : (s.put f b).kl = s.kl := rfl
@[simp] theorem put_kt (s : State) (f : Fld) (b : Bool) : (s.put f b).kt = s.kt := rfl
@[simp] theorem put_pw (s : State) (f : Fld) (b : Bool) : (s.put f b).pw = s.pw := rfl
@[simp] theorem put_pending (s : State) (f : Fld) (b : Bool) : (s.put f b).pending = s.pending := rfl
@[simp] theorem setBit_part (s : State) (f : Fld) (k : Nat) (b : Bool) : (s.setBit f k b).part = s.part := rfl
@[simp] theorem setBit_clk (s : State) (f : Fld) (k : Nat) (b : Bool) : (s.setBit f k b).clk = s.clk := rfl
@[simp] theorem setBit_free (s : State) (f : Fld) (k : Nat) (b : Bool) : (s.setBit f k b).free = s.free := rfl
@[simp] theorem setBit_out (s : State) (f : Fld) (k : Nat) (b : Bool) : (s.setBit f k b).out = s.out := rfl
@[simp] theorem setBit_time (s : State) (f : Fld) (k : Nat) (b : Bool) : (s.setBit f k b).time = s.time := rfl
@[simp] theorem setBit_obs (s : State) (f : Fld) (k : Nat) (b : Bool) : (s.setBit f k b).obs = s.obs := rfl
@[simp] theorem setBit_win (s : State) (f : Fld) (k : Nat) (b : Bool) : (s.setBit f k b).win = s.win := rfl
@[simp] theorem setBit_qs (s : State) (f : Fld) (k : Nat) (b : Bool) : (s.setBit f k b).qs = s.qs := rfl
@[simp] theorem setBit_lc (s : State) (f : Fld) (k : Nat) (b : Bool) : (s.setBit f k b).lc = s.lc := rfl
@[simp] theorem setBit_mt (s : State) (f : Fld) (k : Nat) (b : Bool) : (s.setBit f k b).mt = s.mt := rfl
@[simp] theorem setBit_md (s : State) (f : Fld) (k : Nat) (b : Bool) : (s.setBit f k b).md = s.md := rfl
@[simp] theorem setBit_fm (s : State) (f : Fld) (k : Nat) (b : Bool) : (s.setBit f k b).fm = s.fm := rfl
@[simp] theorem setBit_ft (s : State) (f : Fld) (k : Nat) (b : Bool) : (s.setBit f k b).ft = s.ft := rfl
@[simp] theorem setBit_top (s : State) (f : Fld) (k : Nat) (b : Bool) : (s.setBit f k b).top = s.top := rfl
@[simp] theorem setBit_per (s : State) (f : Fld) (k : Nat) (b : Bool) : (s.setBit f k b).per = s.per := rfl
@[simp] theorem setBit_rg (s : State) (f : Fld) (k : Nat) (b : Bool) : (s.setBit f k b).rg = s.rg := rfl
@[simp] theorem setBit_pv (s : State) (f : Fld) (k : Nat) (b : Bool) : (s.setBit f k b).pv = s.pv := rfl
@[simp] theorem setBit_hz (s : State) (f : Fld) (k : Nat) (b : Bool) : (s.setBit f k b).hz = s.hz := rfl
@[simp] theorem setBit_net (s : State) (f : Fld) (k : Nat) (b : Bool) : (s.setBit f k b).net = s.net := rfl
@[simp] theorem setBit_cip (s : State) (f : Fld) (k : Nat) (b : Bool) : (s.setBit f k b).cip = s.cip := rfl
@[simp] theorem setBit_kl (s : State) (f : Fld) (k : Nat) (b : Bool) : (s.setBit f k b).kl = s.kl := rfl
@[simp] theorem setBit_kt (s : State) (f : Fld) (k : Nat) (b : Bool) : (s.setBit f k b).kt = s.kt := rfl
@[simp] theorem setBit_pw (s : State) (f : Fld) (k : Nat) (b : Bool) : (s.setBit f k b).pw = s.pw := rfl
@[simp] theorem setBit_pending (s : State) (f : Fld) (k : Nat) (b : Bool) : (s.setBit f k b).pending = s.pending := rfl
@[simp] theorem bump_part (s : State) (f : Fld) : (s.bump f).part = s.part := rfl
@[simp] theorem bump_clk (s : State) (f : Fld) : (s.bump f).clk = s.clk := rfl
@[simp] theorem bump_free (s : State) (f : Fld) : (s.bump f).free = s.free := rfl
@[simp] theorem bump_out (s : State) (f : Fld) : (s.bump f).out = s.out := rfl
@[simp] theorem bump_time (s : State) (f : Fld) : (s.bump f).time = s.time := rfl
@[simp] theorem bump_obs (s : State) (f : Fld) : (s.bump f).obs = s.obs := rfl
@[simp] theorem bump_win (s : State) (f : Fld) : (s.bump f).win = s.win := rfl
@[simp] theorem bump_qs (s : State) (f : Fld) : (s.bump f).qs = s.qs := rfl
@[simp] theorem bump_lc (s : State) (f : Fld) : (s.bump f).lc = s.lc := rfl
@[simp] theorem bump_mt (s : State) (f : Fld) : (s.bump f).mt = s.mt := rfl
@[simp] theorem bump_md (s : State) (f : Fld) : (s.bump f).md = s.md := rfl
@[simp] theorem bump_fm (s : State) (f : Fld) : (s.bump f).fm = s.fm := rfl
@[simp] theorem bump_ft (s : State) (f : Fld) : (s.bump f).ft = s.ft := rfl
@[simp] theorem bump_top (s : State) (f : Fld) : (s.bump f).top = s.top := rfl
@[simp] theorem bump_per (s : State) (f : Fld) : (s.bump f).per = s.per := rfl
@[simp] theorem bump_rg (s : State) (f : Fld) : (s.bump f).rg = s.rg := rfl
@[simp] theorem bump_pv (s : State) (f : Fld) : (s.bump f).pv = s.pv := rfl
@[simp] theorem bump_hz (s : State) (f : Fld) : (s.bump f).hz = s.hz := rfl
@[simp] theorem bump_net (s : State) (f : Fld) : (s.bump f).net = s.net := rfl
@[simp] theorem bump_cip (s : State) (f : Fld) : (s.bump f).cip = s.cip := rfl
@[simp] theorem bump_kl (s : State) (f : Fld) : (s.bump f).kl = s.kl := rfl
@[simp] theorem bump_kt (s : State) (f : Fld) : (s.bump f).kt = s.kt := rfl
@[simp] theorem bump_pw (s : State) (f : Fld) : (s.bump f).pw = s.pw := rfl
@[simp] theorem bump_pending (s : State) (f : Fld) : (s.bump f).pending = s.pending := rfl
@[simp] theorem bumpBy_part (s : State) (f : Fld) (n : Nat) : (s.bumpBy f n).part = s.part := rfl
@[simp] theorem bumpBy_clk (s : State) (f : Fld) (n : Nat) : (s.bumpBy f n).clk = s.clk := rfl
@[simp] theorem bumpBy_free (s : State) (f : Fld) (n : Nat) : (s.bumpBy f n).free = s.free := rfl
@[simp] theorem bumpBy_out (s : State) (f : Fld) (n : Nat) : (s.bumpBy f n).out = s.out := rfl
@[simp] theorem bumpBy_time (s : State) (f : Fld) (n : Nat) : (s.bumpBy f n).time = s.time := rfl
@[simp] theorem bumpBy_obs (s : State) (f : Fld) (n : Nat) : (s.bumpBy f n).obs = s.obs := rfl
@[simp] theorem bumpBy_win (s : State) (f : Fld) (n : Nat) : (s.bumpBy f n).win = s.win := rfl
@[simp] theorem bumpBy_qs (s : State) (f : Fld) (n : Nat) : (s.bumpBy f n).qs = s.qs := rfl
@[simp] theorem bumpBy_lc (s : State) (f : Fld) (n : Nat) : (s.bumpBy f n).lc = s.lc := rfl
@[simp] theorem bumpBy_mt (s : State) (f : Fld) (n : Nat) : (s.bumpBy f n).mt = s.mt := rfl
@[simp] theorem bumpBy_md (s : State) (f : Fld) (n : Nat) : (s.bumpBy f n).md = s.md := rfl
@[simp] theorem bumpBy_fm (s : State) (f : Fld) (n : Nat) : (s.bumpBy f n).fm = s.fm := rfl
@[simp] theorem bumpBy_ft (s : State) (f : Fld) (n : Nat) : (s.bumpBy f n).ft = s.ft := rfl
@[simp] theorem bumpBy_top (s : State) (f : Fld) (n : Nat) : (s.bumpBy f n).top = s.top := rfl
@[simp] theorem bumpBy_per (s : State) (f : Fld) (n : Nat) : (s.bumpBy f n).per = s.per := rfl
@[simp] theorem bumpBy_rg (s : State) (f : Fld) (n : Nat) : (s.bumpBy f n).rg = s.rg := rfl
@[simp] theorem bumpBy_pv (s : State) (f : Fld) (n : Nat) : (s.bumpBy f n).pv = s.pv := rfl
@[simp] theorem bumpBy_hz (s : State) (f : Fld) (n : Nat) : (s.bumpBy f n).hz = s.hz := rfl
@[simp] theorem bumpBy_net (s : State) (f : Fld) (n : Nat) : (s.bumpBy f n).net = s.net := rfl
@[simp] theorem bumpBy_cip (s : State) (f : Fld) (n : Nat) : (s.bumpBy f n).cip = s.cip := rfl
@[simp] theorem bumpBy_kl (s : State) (f : Fld) (n : Nat) : (s.bumpBy f n).kl = s.kl := rfl
@[simp] theorem bumpBy_kt (s : State) (f : Fld) (n : Nat) : (s.bumpBy f n).kt = s.kt := rfl
@[simp] theorem bumpBy_pw (s : State) (f : Fld) (n : Nat) : (s.bumpBy f n).pw = s.pw := rfl
@[simp] theorem bumpBy_pending (s : State) (f : Fld) (n : Nat) : (s.bumpBy f n).pending = s.pending := rfl
@[simp] theorem drew_part (s : State) : (s.drew).part = s.part := rfl
@[simp] theorem drew_clk (s : State) : (s.drew).clk = s.clk := rfl
@[simp] theorem drew_regs (s : State) : (s.drew).regs = s.regs := rfl
@[simp] theorem drew_out (s : State) : (s.drew).out = s.out := rfl
@[simp] theorem drew_time (s : State) : (s.drew).time = s.time := rfl
@[simp] theorem drew_obs (s : State) : (s.drew).obs = s.obs := rfl
@[simp] theorem drew_win (s : State) : (s.drew).win = s.win := rfl
@[simp] theorem drew_qs (s : State) : (s.drew).qs = s.qs := rfl
@[simp] theorem drew_lc (s : State) : (s.drew).lc = s.lc := rfl
@[simp] theorem drew_mt (s : State) : (s.drew).mt = s.mt := rfl
@[simp] theorem drew_md (s : State) : (s.drew).md = s.md := rfl
@[simp] theorem drew_fm (s : State) : (s.drew).fm = s.fm := rfl
@[simp] theorem drew_ft (s : State) : (s.drew).ft = s.ft := rfl
@[simp] theorem drew_top (s : State) : (s.drew).top = s.top := rfl
@[simp] theorem drew_per (s : State) : (s.drew).per = s.per := rfl
@[simp] theorem drew_rg (s : State) : (s.drew).rg = s.rg := rfl
@[simp] theorem drew_pv (s : State) : (s.drew).pv = s.pv := rfl
@[simp] theorem drew_hz (s : State) : (s.drew).hz = s.hz := rfl
@[simp] theorem drew_net (s : State) : (s.drew).net = s.net := rfl
@[simp] theorem drew_cip (s : State) : (s.drew).cip = s.cip := rfl
@[simp] theorem drew_kl (s : State) : (s.drew).kl = s.kl := rfl
@[simp] theorem drew_kt (s : State) : (s.drew).kt = s.kt := rfl
@[simp] theorem drew_pw (s : State) : (s.drew).pw = s.pw := rfl
@[simp] theorem drew_pending (s : State) : (s.drew).pending = s.pending := rfl
@[simp] theorem reg_drew (s : State) (n : Nat) : (s.drew).reg n = s.reg n := rfl
@[simp] theorem get_drew (s : State) (f : Fld) : (s.drew).get f = s.get f := rfl
@[simp] theorem on_drew (s : State) (f : Fld) : (s.drew).on f = s.on f := rfl
@[simp] theorem send_part (s : State) (m : Msg) : (s.send m).part = s.part := rfl
@[simp] theorem send_clk (s : State) (m : Msg) : (s.send m).clk = s.clk := rfl
@[simp] theorem send_regs (s : State) (m : Msg) : (s.send m).regs = s.regs := rfl
@[simp] theorem send_free (s : State) (m : Msg) : (s.send m).free = s.free := rfl
@[simp] theorem send_time (s : State) (m : Msg) : (s.send m).time = s.time := rfl
@[simp] theorem send_obs (s : State) (m : Msg) : (s.send m).obs = s.obs := rfl
@[simp] theorem send_win (s : State) (m : Msg) : (s.send m).win = s.win := rfl
@[simp] theorem send_qs (s : State) (m : Msg) : (s.send m).qs = s.qs := rfl
@[simp] theorem send_lc (s : State) (m : Msg) : (s.send m).lc = s.lc := rfl
@[simp] theorem send_mt (s : State) (m : Msg) : (s.send m).mt = s.mt := rfl
@[simp] theorem send_md (s : State) (m : Msg) : (s.send m).md = s.md := rfl
@[simp] theorem send_fm (s : State) (m : Msg) : (s.send m).fm = s.fm := rfl
@[simp] theorem send_ft (s : State) (m : Msg) : (s.send m).ft = s.ft := rfl
@[simp] theorem send_top (s : State) (m : Msg) : (s.send m).top = s.top := rfl
@[simp] theorem send_per (s : State) (m : Msg) : (s.send m).per = s.per := rfl
@[simp] theorem send_rg (s : State) (m : Msg) : (s.send m).rg = s.rg := rfl
@[simp] theorem send_pv (s : State) (m : Msg) : (s.send m).pv = s.pv := rfl
@[simp] theorem send_hz (s : State) (m : Msg) : (s.send m).hz = s.hz := rfl
@[simp] theorem send_net (s : State) (m : Msg) : (s.send m).net = s.net := rfl
@[simp] theorem send_cip (s : State) (m : Msg) : (s.send m).cip = s.cip := rfl
@[simp] theorem send_kl (s : State) (m : Msg) : (s.send m).kl = s.kl := rfl
@[simp] theorem send_kt (s : State) (m : Msg) : (s.send m).kt = s.kt := rfl
@[simp] theorem send_pw (s : State) (m : Msg) : (s.send m).pw = s.pw := rfl
@[simp] theorem send_pending (s : State) (m : Msg) : (s.send m).pending = s.pending := rfl
@[simp] theorem reg_send (s : State) (m : Msg) (n : Nat) : (s.send m).reg n = s.reg n := rfl
@[simp] theorem get_send (s : State) (m : Msg) (f : Fld) : (s.send m).get f = s.get f := rfl
@[simp] theorem on_send (s : State) (m : Msg) (f : Fld) : (s.send m).on f = s.on f := rfl
@[simp] theorem raiseAt_part (s : State) (a b c d : Nat) (l : List (Nat × Nat)) (o : Option Nat) : (s.raiseAt a b c d l o).part = s.part := rfl
@[simp] theorem raiseAt_clk (s : State) (a b c d : Nat) (l : List (Nat × Nat)) (o : Option Nat) : (s.raiseAt a b c d l o).clk = s.clk := rfl
@[simp] theorem raiseAt_regs (s : State) (a b c d : Nat) (l : List (Nat × Nat)) (o : Option Nat) : (s.raiseAt a b c d l o).regs = s.regs := rfl
@[simp] theorem raiseAt_free (s : State) (a b c d : Nat) (l : List (Nat × Nat)) (o : Option Nat) : (s.raiseAt a b c d l o).free = s.free := rfl
@[simp] theorem raiseAt_out (s : State) (a b c d : Nat) (l : List (Nat × Nat)) (o : Option Nat) : (s.raiseAt a b c d l o).out = s.out := rfl
@[simp] theorem raiseAt_time (s : State) (a b c d : Nat) (l : List (Nat × Nat)) (o : Option Nat) : (s.raiseAt a b c d l o).time = s.time := rfl
@[simp] theorem raiseAt_win (s : State) (a b c d : Nat) (l : List (Nat × Nat)) (o : Option Nat) : (s.raiseAt a b c d l o).win = s.win := rfl
@[simp] theorem raiseAt_qs (s : State) (a b c d : Nat) (l : List (Nat × Nat)) (o : Option Nat) : (s.raiseAt a b c d l o).qs = s.qs := rfl
@[simp] theorem raiseAt_lc (s : State) (a b c d : Nat) (l : List (Nat × Nat)) (o : Option Nat) : (s.raiseAt a b c d l o).lc = s.lc := rfl
@[simp] theorem raiseAt_mt (s : State) (a b c d : Nat) (l : List (Nat × Nat)) (o : Option Nat) : (s.raiseAt a b c d l o).mt = s.mt := rfl
@[simp] theorem raiseAt_md (s : State) (a b c d : Nat) (l : List (Nat × Nat)) (o : Option Nat) : (s.raiseAt a b c d l o).md = s.md := rfl
@[simp] theorem raiseAt_fm (s : State) (a b c d : Nat) (l : List (Nat × Nat)) (o : Option Nat) : (s.raiseAt a b c d l o).fm = s.fm := rfl
@[simp] theorem raiseAt_ft (s : State) (a b c d : Nat) (l : List (Nat × Nat)) (o : Option Nat) : (s.raiseAt a b c d l o).ft = s.ft := rfl
@[simp] theorem raiseAt_top (s : State) (a b c d : Nat) (l : List (Nat × Nat)) (o : Option Nat) : (s.raiseAt a b c d l o).top = s.top := rfl
@[simp] theorem raiseAt_per (s : State) (a b c d : Nat) (l : List (Nat × Nat)) (o : Option Nat) : (s.raiseAt a b c d l o).per = s.per := rfl
@[simp] theorem raiseAt_rg (s : State) (a b c d : Nat) (l : List (Nat × Nat)) (o : Option Nat) : (s.raiseAt a b c d l o).rg = s.rg := rfl
@[simp] theorem raiseAt_pv (s : State) (a b c d : Nat) (l : List (Nat × Nat)) (o : Option Nat) : (s.raiseAt a b c d l o).pv = s.pv := rfl
@[simp] theorem raiseAt_hz (s : State) (a b c d : Nat) (l : List (Nat × Nat)) (o : Option Nat) : (s.raiseAt a b c d l o).hz = s.hz := rfl
@[simp] theorem raiseAt_net (s : State) (a b c d : Nat) (l : List (Nat × Nat)) (o : Option Nat) : (s.raiseAt a b c d l o).net = s.net := rfl
@[simp] theorem raiseAt_cip (s : State) (a b c d : Nat) (l : List (Nat × Nat)) (o : Option Nat) : (s.raiseAt a b c d l o).cip = s.cip := rfl
@[simp] theorem raiseAt_kl (s : State) (a b c d : Nat) (l : List (Nat × Nat)) (o : Option Nat) : (s.raiseAt a b c d l o).kl = s.kl := rfl
@[simp] theorem raiseAt_kt (s : State) (a b c d : Nat) (l : List (Nat × Nat)) (o : Option Nat) : (s.raiseAt a b c d l o).kt = s.kt := rfl
@[simp] theorem raiseAt_pw (s : State) (a b c d : Nat) (l : List (Nat × Nat)) (o : Option Nat) : (s.raiseAt a b c d l o).pw = s.pw := rfl
@[simp] theorem raiseAt_pending (s : State) (a b c d : Nat) (l : List (Nat × Nat)) (o : Option Nat) : (s.raiseAt a b c d l o).pending = s.pending := rfl
@[simp] theorem reg_raiseAt (s : State) (a b c d : Nat) (l : List (Nat × Nat)) (o : Option Nat) (n : Nat) : (s.raiseAt a b c d l o).reg n = s.reg n := rfl
@[simp] theorem get_raiseAt (s : State) (a b c d : Nat) (l : List (Nat × Nat)) (o : Option Nat) (f : Fld) : (s.raiseAt a b c d l o).get f = s.get f := rfl
@[simp] theorem on_raiseAt (s : State) (a b c d : Nat) (l : List (Nat × Nat)) (o : Option Nat) (f : Fld) : (s.raiseAt a b c d l o).on f = s.on f := rfl
@[simp] theorem raise_part (s : State) (a b c d : Nat) (l : List (Nat × Nat)) : (s.raise a b c d l).part = s.part := rfl
@[simp] theorem raise_clk (s : State) (a b c d : Nat) (l : List (Nat × Nat)) : (s.raise a b c d l).clk = s.clk := rfl
@[simp] theorem raise_regs (s : State) (a b c d : Nat) (l : List (Nat × Nat)) : (s.raise a b c d l).regs = s.regs := rfl
@[simp] theorem raise_free (s : State) (a b c d : Nat) (l : List (Nat × Nat)) : (s.raise a b c d l).free = s.free := rfl
@[simp] theorem raise_out (s : State) (a b c d : Nat) (l : List (Nat × Nat)) : (s.raise a b c d l).out = s.out := rfl
@[simp] theorem raise_time (s : State) (a b c d : Nat) (l : List (Nat × Nat)) : (s.raise a b c d l).time = s.time := rfl
@[simp] theorem raise_win (s : State) (a b c d : Nat) (l : List (Nat × Nat)) : (s.raise a b c d l).win = s.win := rfl
@[simp] theorem raise_qs (s : State) (a b c d : Nat) (l : List (Nat × Nat)) : (s.raise a b c d l).qs = s.qs := rfl
@[simp] theorem raise_lc (s : State) (a b c d : Nat) (l : List (Nat × Nat)) : (s.raise a b c d l).lc = s.lc := rfl
@[simp] theorem raise_mt (s : State) (a b c d : Nat) (l : List (Nat × Nat)) : (s.raise a b c d l).mt = s.mt := rfl
@[simp] theorem raise_md (s : State) (a b c d : Nat) (l : List (Nat × Nat)) : (s.raise a b c d l).md = s.md := rfl
@[simp] theorem raise_fm (s : State) (a b c d : Nat) (l : List (Nat × Nat)) : (s.raise a b c d l).fm = s.fm := rfl
@[simp] theorem raise_ft (s : State) (a b c d : Nat) (l : List (Nat × Nat)) : (s.raise a b c d l).ft = s.ft := rfl
@[simp] theorem raise_top (s : State) (a b c d : Nat) (l : List (Nat × Nat)) : (s.raise a b c d l).top = s.top := rfl
@[simp] theorem raise_per (s : State) (a b c d : Nat) (l : List (Nat × Nat)) : (s.raise a b c d l).per = s.per := rfl
@[simp] theorem raise_rg (s : State) (a b c d : Nat) (l : List (Nat × Nat)) : (s.raise a b c d l).rg = s.rg := rfl
@[simp] theorem raise_pv (s : State) (a b c d : Nat) (l : List (Nat × Nat)) : (s.raise a b c d l).pv = s.pv := rfl
@[simp] theorem raise_hz (s : State) (a b c d : Nat) (l : List (Nat × Nat)) : (s.raise a b c d l).hz = s.hz := rfl
@[simp] theorem raise_net (s : State) (a b c d : Nat) (l : List (Nat × Nat)) : (s.raise a b c d l).net = s.net := rfl
@[simp] theorem raise_cip (s : State) (a b c d : Nat) (l : List (Nat × Nat)) : (s.raise a b c d l).cip = s.cip := rfl
@[simp] theorem raise_kl (s : State) (a b c d : Nat) (l : List (Nat × Nat)) : (s.raise a b c d l).kl = s.kl := rfl
@[simp] theorem raise_kt (s : State) (a b c d : Nat) (l : List (Nat × Nat)) : (s.raise a b c d l).kt = s.kt := rfl
@[simp] theorem raise_pw (s : State) (a b c d : Nat) (l : List (Nat × Nat)) : (s.raise a b c d l).pw = s.pw := rfl
@[simp] theorem raise_pending (s : State) (a b c d : Nat) (l : List (Nat × Nat)) : (s.raise a b c d l).pending = s.pending := rfl
@[simp] theorem reg_raise (s : State) (a b c d : Nat) (l : List (Nat × Nat)) (n : Nat) : (s.raise a b c d l).reg n = s.reg n := rfl
@[simp] theorem get_raise (s : State) (a b c d : Nat) (l : List (Nat × Nat)) (f : Fld) : (s.raise a b c d l).get f = s.get f := rfl
@[simp] theorem on_raise (s : State) (a b c d : Nat) (l : List (Nat × Nat)) (f : Fld) : (s.raise a b c d l).on f = s.on f := rfl
@[simp] theorem raiseFree_part (s : State) (a b c d : Nat) : (s.raiseFree a b c d).part = s.part := rfl
@[simp] theorem raiseFree_clk (s : State) (a b c d : Nat) : (s.raiseFree a b c d).clk = s.clk := rfl
@[simp] theorem raiseFree_regs (s : State) (a b c d : Nat) : (s.raiseFree a b c d).regs = s.regs := rfl
@[simp] theorem raiseFree_out (s : State) (a b c d : Nat) : (s.raiseFree a b c d).out = s.out := rfl
@[simp] theorem raiseFree_time (s : State) (a b c d : Nat) : (s.raiseFree a b c d).time = s.time := rfl
@[simp] theorem raiseFree_win (s : State) (a b c d : Nat) : (s.raiseFree a b c d).win = s.win := rfl
@[simp] theorem raiseFree_qs (s : State) (a b c d : Nat) : (s.raiseFree a b c d).qs = s.qs := rfl
@[simp] theorem raiseFree_lc (s : State) (a b c d : Nat) : (s.raiseFree a b c d).lc = s.lc := rfl
@[simp] theorem raiseFree_mt (s : State) (a b c d : Nat) : (s.raiseFree a b c d).mt = s.mt := rfl
@[simp] theorem raiseFree_md (s : State) (a b c d : Nat) : (s.raiseFree a b c d).md = s.md := rfl
@[simp] theorem raiseFree_fm (s : State) (a b c d : Nat) : (s.raiseFree a b c d).fm = s.fm := rfl
@[simp] theorem raiseFree_ft (s : State) (a b c d : Nat) : (s.raiseFree a b c d).ft = s.ft := rfl
@[simp] theorem raiseFree_top (s : State) (a b c d : Nat) : (s.raiseFree a b c d).top = s.top := rfl
@[simp] theorem raiseFree_per (s : State) (a b c d : Nat) : (s.raiseFree a b c d).per = s.per := rfl
@[simp] theorem raiseFree_rg (s : State) (a b c d : Nat) : (s.raiseFree a b c d).rg = s.rg := rfl
@[simp] theorem raiseFree_pv (s : State) (a b c d : Nat) : (s.raiseFree a b c d).pv = s.pv := rfl
@[simp] theorem raiseFree_hz (s : State) (a b c d : Nat) : (s.raiseFree a b c d).hz = s.hz := rfl
@[simp] theorem raiseFree_net (s : State) (a b c d : Nat) : (s.raiseFree a b c d).net = s.net := rfl
@[simp] theorem raiseFree_cip (s : State) (a b c d : Nat) : (s.raiseFree a b c d).cip = s.cip := rfl
@[simp] theorem raiseFree_kl (s : State) (a b c d : Nat) : (s.raiseFree a b c d).kl = s.kl := rfl
@[simp] theorem raiseFree_kt (s : State) (a b c d : Nat) : (s.raiseFree a b c d).kt = s.kt := rfl
@[simp] theorem raiseFree_pw (s : State) (a b c d : Nat) : (s.raiseFree a b c d).pw = s.pw := rfl
@[simp] theorem raiseFree_pending (s : State) (a b c d : Nat) : (s.raiseFree a b c d).pending = s.pending := rfl
@[simp] theorem reg_raiseFree (s : State) (a b c d : Nat) (n : Nat) : (s.raiseFree a b c d).reg n = s.reg n := rfl
@[simp] theorem get_raiseFree (s : State) (a b c d : Nat) (f : Fld) : (s.raiseFree a b c d).get f = s.get f := rfl
@[simp] theorem on_raiseFree (s : State) (a b c d : Nat) (f : Fld) : (s.raiseFree a b c d).on f = s.on f := rfl
@[simp] theorem drew_freeCount (s : State) : s.drew.free = s.free + 1 := rfl
@[simp] theorem raiseFree_freeCount (s : State) (a b c d : Nat) : (s.raiseFree a b c d).free = s.free + 1 := rfl
@[simp] theorem send_sent (s : State) (m : Msg) : (s.send m).out = s.out ++ [m] := rfl
@[simp] theorem bit_setBit_same (s : State) {f : Fld} {k : Nat} (b : Bool) (h : f.lo + k < 64) : (s.setBit f k b).bit f k = b :=
  on_put_same s b h Nat.one_pos

/-- An event that was raised is the last that waits to be recorded. -/
@[simp] theorem raise_raised (s : State) (src sev code dom : Nat) (data : List (Nat × Nat)) :
    (s.raise src sev code dom data).obs.raised = s.obs.raised ++
      [{ src := src, sev := sev, code := code, dom := dom, time := s.nowDtb,
         unsynced := !s.on F.tbStatusEverSynced, data := data, addr := none }] := rfl

end State

end Sys2Proof.Machine
end

