-- ==== Sys2Proof/Tests/Slice0.lean ====
section
/-!
SUPPORT. The model's own tests: ill-formed commands that `Instr.wf` refuses, one-step tests, and states that meet the
hypotheses of every statement.
-/
set_option Elab.async false

namespace Sys2Proof.Tests
open Sys2Proof.Machine

/-! ### Ill-formed commands: each check refuses one -/

theorem test_wf_refuses_domain : Instr.wf (.xtsKeySwitch 1024) = false := by decide
theorem test_wf_refuses_espalier : Instr.wf (.registerWrite 0 0x1000000000000 4 0) = false := by decide
theorem test_wf_refuses_stack : Instr.wf (.hbmStackFailure 4) = false := by decide
theorem test_wf_refuses_clockSource : Instr.wf (.clockMonitorLoss (.port 11)) = false := by decide
theorem test_wf_refuses_mediaDie : Instr.wf (.mediaDieLoss 8) = false := by decide
theorem test_wf_refuses_ethPort : Instr.wf (.portLinkUp 16) = false := by decide
theorem test_wf_refuses_kiliusPort : Instr.wf (.klRetrain 11) = false := by decide
theorem test_wf_refuses_agent : Instr.wf (.agentTimeLost 2) = false := by decide
theorem test_wf_refuses_launchUnit : Instr.wf (.launchSlotFire (.core 256) 0) = false := by decide
theorem test_wf_refuses_link : Instr.wf (.cxlLinkDown 4) = false := by decide
theorem test_wf_refuses_ld : Instr.wf (.ldReset 64) = false := by decide
theorem test_wf_refuses_extent : Instr.wf (.winLdExtentWrite 0 8 0) = false := by decide
theorem test_wf_refuses_sue : Instr.wf (.clean (.slot 8)) = false := by decide
theorem test_wf_refuses_mchan : Instr.wf (.retrainnow 32) = false := by decide
theorem test_wf_refuses_lane : Instr.wf (.comparisonReadComplete 0 32) = false := by decide
theorem test_wf_refuses_rank : Instr.wf (.caAlert 0 2 0 false) = false := by decide
theorem test_wf_refuses_fchan : Instr.wf (.nandDieOffline 64 0) = false := by decide
theorem test_wf_refuses_nandDie : Instr.wf (.nandDieOffline 0 16) = false := by decide
theorem test_wf_refuses_stream : Instr.wf (.padTimer 8) = false := by decide
theorem test_wf_refuses_plane : Instr.wf (.programFailure 0 0 4) = false := by decide
theorem test_wf_refuses_ring : Instr.wf (.ringEnable 4096) = false := by decide
theorem test_wf_refuses_qp : Instr.wf (.mirrorEndOfEpoch 65536 0 0 0) = false := by decide
theorem test_wf_refuses_hazelCore : Instr.wf (.fence 256 0) = false := by decide
theorem test_wf_refuses_permille : Instr.wf (.progressRecord 0 0 1000 0) = false := by decide
theorem test_wf_refuses_queue : Instr.wf (.qFlush 640) = false := by decide
theorem test_wf_refuses_shmUnit : Instr.wf (.hzShmGrantWrite 256 0) = false := by decide
theorem test_wf_refuses_psn : Instr.wf (.send 0 0x1000000 true true []) = false := by decide
theorem test_wf_refuses_cipherCore : Instr.wf (.cipherCoreOffline true 16) = false := by decide
theorem test_wf_refuses_meshDie : Instr.wf (.meshFlitError 9 0 0 false) = false := by decide
theorem test_wf_refuses_rail : Instr.wf (.seqPgDrop 24) = false := by decide
theorem test_wf_refuses_sensor : Instr.wf (.sensorSample 96 0 0) = false := by decide
theorem test_wf_refuses_counter : Instr.wf (.counterWrap 3200) = false := by decide
theorem test_wf_refuses_milestone : Instr.wf (.startupMilestone 8 { fchans := [], lostStacks := [], lostClusters := [], xts := 16, gcm := 16 }) = false := by decide

/-! ### Worked examples of the spec -/

/-- Address 0x0123_4567_8040 lies in plot 0x48D, in page 0x1234_5678, on line 1 of the page (the worked example of 01_architecture.md). -/
theorem test_address_units : linePlot (0x01234567_8040 / 64) = 0x48D ∧ linePage (0x01234567_8040 / 64) = 0x12345678 ∧
    0x01234567_8040 / 64 % 64 = 1 := by decide

/-- Event data are little-endian (R11): the address of an event takes eight bytes, another datum four. -/
theorem test_little_endian : leBytes 4 0x12345678 = [0x78, 0x56, 0x34, 0x12] := by decide

/-- A hold-up test is in progress with the settings of the worked example of R557. -/
def holdupExample : State :=
  { ((((State.reset.set F.pwrHoldupCfgTestMa 2000).set F.pwrHoldupCfgVminMv 9000).set F.pwrHoldupCfgEffPct 90).set
      F.perHoldupDeclaredMj 6500) with clk := 10000000, pw := { State.reset.pw with test := some (12000, 0), load := true } }

/-- The worked example of R557: 12.00 V falling to 11.91 V is 6.30 J, and 6300 mJ are verified. -/
theorem test_holdup_example : (match execHoldupTestComplete 11910 holdupExample with
    | .next t => (t.get F.perHoldupVerifiedMj, t.get F.pwrHoldupStatusCapMf, t.on F.perHoldupVerified)
    | _ => (0, 0, false)) = (6300, 222, true) := by decide +kernel

/-- A command at the front of the queue runs before those behind it. -/
theorem test_step_takes_the_front : (match step { State.reset with pending := [.idcode, .bypass false] } with
    | .next t => (t.pending, t.out)
    | _ => ([], [])) = ([.bypass false], [.debugPort (leBytes 4 Config.idcode.toNat)]) := by rfl


/-! ### States that meet the hypotheses of the statements -/

/-- The persistence manager is up and the F-tier serves. -/
def wUp : State := (State.reset.set F.perStatusState 1).set F.ftStatusState 2
/-- A started descriptor of ring 5, by the words that follow its first. -/
def wStarted (op : Nat) (words : List Word) : Desc :=
  { ring := 5, handle := 3, index := 0, words := BitVec.ofNat 64 op :: words, stamp := 0, phase := .started, late := false, begun := 0, periods := 0, left := 0, worst := 0, acc := 0 }

/-- The timebase counts, and PTP on port 0 is enabled and up. -/
def wPtp : State :=
  { ((State.reset.put F.tbCtlPtpEnable true).set F.tbCtlPtpPort 0).put (F.netPortStatusUp 0) true with
    time := { State.reset.time with running := true, dtb := 100 } }
def wPtpSynced : State := wPtp.put F.tbStatusEverSynced true
/-- PPS_IN is enabled and an edge came a second ago. -/
def wPps : State :=
  { (State.reset.put F.tbCtlPpsEnable true).put F.tbStatusEverSynced true with
    clk := 1000000000, time := { State.reset.time with running := true, dtb := 900, lastEdge := some 0 } }
def wHostClock : State := State.reset.put F.tbCtlHostEnable true
def wHostSynced : State := wHostClock.put F.tbStatusEverSynced true
def wHoldover : State := { State.reset.setServo servoHoldover with clk := 90000000000000 }
/-- The servo is Locked to a source. -/
def wFollow (src : Nat) : State := (State.reset.setServo servoLocked).set F.tbStatusActiveSrc src
def wPpsOut : State := { (State.reset.put F.tbCtlPpsOutEnable true).setServo servoLocked with
    time := { State.reset.time with running := true, dtb := 1000000000 } }
def wLate : State := { State.reset with clk := 1000000 }
/-- A customer agent is active. -/
def wAgent (a : Nat) : State := { State.reset.set (F.klAgentStatusState a) 2 with clk := 16000 }
/-- A slot with a time ahead, in a state. -/
def wSlot (u : LaunchUnit) (i state : Nat) : State := (State.reset.setReg (slotTime u i) 50).set (slotState u i) state
/-- A slot whose time has come. -/
def wSlotDue (u : LaunchUnit) (i : Nat) : State := State.reset.set (slotState u i) slotArmed
/-- A cut is armed, and a customer agent is active. -/
def wCut (a : Nat) : State :=
  { wAgent a with md := { State.reset.md with armed := [{ epoch := 4, snapshot := false, time := 0, ring := 0, handle := 0 }] } }

/-- The places of a read-write register, of one with bits that 1 clears, and of one with a lock. -/
def wBiTimeoutPlace : RegPlace := { row := { off := 0x14, width := 32, rst := .const 0x14, rw := 0xFFFF }, base := R.winCtl, k := 0, j := 0, i := 0 }
def wClearPlace : RegPlace := { row := { off := 0, width := 32, w1c := 0xFF }, base := 0, k := 0, j := 0, i := 0 }
def wLockPlace : RegPlace := { row := { off := 0x8, width := 32, rwl := 0xFFFF, w1s := 0x80000000, lock := 32 }, base := R.winCtl, k := 0, j := 0, i := 0 }

/-- Link 0 is up and the window is Online. -/
def wOnline : State := (State.reset.setBit F.winStatusLinkUp 0 true).set F.winStatusWindowState 1
/-- LD 0 has an extent of four plots. -/
def wExtent : State := { wOnline with regs := wOnline.regs ++ [(R.winLdExtent 0 0, 0x8000000000040000)] }
/-- A decoder of LD 0 is committed. -/
def wServing : State :=
  { wExtent with win := { wExtent.win with decoders := [wExtent.makeDecoder 0 0 0x100000000 0x40000000 1 256 0 0 false] } }
def wDecoder : State := wServing
/-- Quickset holds one byte of a line. -/
def wQs (line : Nat) : State :=
  { wServing with qs := [{ line := line, dom := 0, mask := 1, data := 0xFF, poison := false, epoch := 0, leaving := false }] }
/-- A write of line 1 from link 0 waits. -/
def wHeld : State :=
  { wServing with clk := 100000, win := { wServing.win with held :=
      [{ w := { src := .cxl 0 4, line := 1, dom := 0, mask := 1, data := 0, poison := false, stamp := 0 },
         holders := [0], since := 0 }] } }
/-- Link 1 holds line 5. -/
def wHolder : State :=
  { State.reset.setBit F.winStatusLinkUp 1 true with win := { WinState.reset with filter :=
      [{ sector := 0, lines := [{ line := 5, links := [1], modified := true }], evicting := false }] } }
/-- A read of line 5 waits for link 1's answer. -/
def wSnooped : State := { wHolder with win := { wHolder.win with snoops := [(5, 1, 0)] } }
def wEvicting : State :=
  { State.reset with win := { WinState.reset with filter := [{ sector := 0, lines := [], evicting := true }] } }
/-- An outstanding read at a stage. -/
def wOut (g : ReadStage) : OutRead :=
  { id := 3, src := .cxl 0 4, ld := 0, line := 1, dom := 0, stamp := 0, since := 0, stage := g, loc := 0, retried := false,
    late := false, fills := false, cacheable := false }
def wRead (g : ReadStage) : State := { wServing with clk := 100000, win := { wServing.win with reads := [wOut g] } }
/-- The lost-write list holds one write. -/
def wLost : State :=
  { State.reset with md := { Meta.empty with lwlOverflow := true, lost := [(0, { line := 3, dom := 0, count := 1, stamp := 0 })] } }

/-- The log of LD 2 holds a record. -/
def wLogs : State :=
  { State.reset with win := { WinState.reset with cxlLogs := [
      { ld := 2, log := 1, handle := 7, dpa := none,
        ev := { src := 33, sev := 2, code := 0, dom := 0, time := 0, unsynced := true, data := [], addr := none } }] } }
/-- Poison may be injected, and LD 0 has an extent. -/
def wInject : State := wExtent.put F.winCtlInjectPoisonEnable true
/-- Link 0 carries two LDs. -/
def wMld : State := State.reset.set F.winPortCfgLdCount 1

def wClean : RangeOp := { slot := 7, op := opClean, first := 0, sectors := 4, dom := 0, owner := 0, ring := 0, handle := 0, tagWalk := false, pos := 0, queued := false, skipped := 0, seq := 0 }
def wRangeOp : State := { State.reset with lc := { State.reset.lc with ops := [wClean] } }
/-- A line of sector 0, its way, and a cache that holds it. -/
def wLine (d : Bool) : CacheLine := { idx := 5, dirty := d, data := 9, tag := { dom := 0, gen := 0, poison := false }, epoch := 0, flying := false, leaving := false }
def wWay (d : Bool) : Way :=
  { set := 1, way := 2, sector := 0, locked := false, reserved := false, dead := false, age := 0,
    dirtyAt := if d then some 0 else none, lines := [wLine d] }
def wCached (d : Bool) : State := { State.reset.put F.lcCtlEnable true with lc := { State.reset.lc with ways := [wWay d] } }

/-- Channel 31 at a state and a step of its training, with both ranks. -/
def wTrainable (state step : Nat) : State :=
  (((State.reset.set (F.mtChStatusState 31) state).set (F.mtChStatusRankOnline 31) 3).put (F.mtChCtlEnable 31) true).setChan 31
    { Chan.reset with step := step }
/-- Channel 0 online. -/
def wChannel : State := (State.reset.set (F.mtChStatusState 0) 2).set (F.mtChStatusRankOnline 0) 3
/-- A read at a stage and its bank. -/
def wBanked (g : ReadStage) (b : BankState) (latch : Option Nat) : State :=
  { wChannel with win := { WinState.reset with reads := [wOut g] },
                  mt := { wChannel.mt with banks := [{ key := 0, state := b, latch := latch, queue := [], flying := [], pages := [], write := none }] } }
/-- A media write at a phase and its bank. -/
def wMw (p : WritePhase) (paused : Option Nat) : MediaWrite :=
  { id := 4, kind := .writeBack, page := none, loc := 0, lines := [{ idx := 0, data := 0, tag := { dom := 0, gen := 0, poison := false } }],
    group := 0, epoch := 0, phase := p, resets := false, sets := false, segments := 0, paused := paused, stamp := 0,
    unsynced := false, temp := 0, failed := 0 }
def wBankOf (b : BankState) (queue : List Nat) (w : Option Nat) : Bank :=
  { key := 0, state := b, latch := none, queue := queue, flying := [], pages := [], write := w }
def wWrite (p : WritePhase) (b : BankState) (w : Option Nat) (paused : Option Nat) : State :=
  { wChannel with mt := { wChannel.mt with tokens := 65536, writes := [wMw p paused], nextWrite := 5, banks := [wBankOf b [] w] } }
def wPaused (b : BankState) (paused : Option Nat) (queue : List Nat) : State :=
  { wChannel with clk := 20000, mt := { wChannel.mt with writes := [{ wMw .loaded paused with resets := true, sets := true }], banks := [wBankOf b queue (some 4)] } }

/-- A rewrite of page 0 is queued. -/
def wRewrite : State :=
  { wChannel with mt := { wChannel.mt with rewrites := [{ id := 9, kind := .refresh, page := none, src := 0, dst := 0, started := false, done := false }] } }
/-- Two pages of channel 0 hold data, and the lap stands at the first. -/
def wScrub (clk : Nat) : State :=
  { wChannel.set F.mtScrubCfgInterval 1 with clk := clk, mt := ((wChannel.putMedia checkRow { idx := 0, data := 5, tag := { dom := 0, gen := 0, poison := false } }).putMedia (checkRow + 4194304) { idx := 0, data := 6, tag := { dom := 0, gen := 0, poison := false } }).mt }
/-- Plot 0 has a span on the channels of die 0. -/
def wPlot : Plot :=
  { idx := 0, span := some { chans := [0, 1, 2, 3], baseRow := 0, key := 0, gapPage := 65535 }, start := 0, gap := pagesPerPlot, interval := 0, readOnly := false, hazelOwned := false, reborn := false, pinned := false, heat := none, group := none, hinted := 0 }
def wPlaced : State := { wChannel.set F.winSizePlots 4 with md := { Meta.empty with plots := [wPlot] } }
/-- The copy of a page that retires is complete. -/
def wRetiring : State :=
  { wChannel with md := { Meta.empty with retire := some { op := 2, src := 7, dst := 8, page := none } }, mt := { wChannel.mt with rewrites := [{ id := 9, kind := .retirement, page := none, src := 7, dst := 8, started := true, done := true }] } }
/-- The lap of channel 0 has two pages. -/
theorem wScrub_lap (clk : Nat) : (wScrub clk).lapPages 0 = [checkRow, checkRow + 4194304] := by
  change (wScrub 0).lapPages 0 = _
  unfold State.lapPages
  refine (congrArg (fun l => List.mergeSort l _) (?_ : _ = [checkRow, checkRow + 4194304])).trans ?_
  · decide +kernel
  · simp [List.mergeSort, List.merge, List.MergeSort.Internal.splitInTwo]; decide

/-- The F-tier serves, and die 2 and 15 of channel 5 are online. -/
def wFlash : State :=
  ((((wUp.set (F.ftChStatusState 5) 2).set (F.ftChStatusDieOnline 5) 0x8004).set F.ftNsSizeUnits 1000).set F.winSizePlots 4)
/-- A descriptor of one host block, and one of a range of four, with shared memory as buffer. -/
def wFtD (op : Nat) : Desc := wStarted op [0, 8, 1, 0x200000000000]
def wFtRangeD (op : Nat) : Desc := wStarted op [0, 8, 4, 0]
def wFcachePlot : Plot :=
  { wPlot with idx := fcachePlot 0 }
def wFt (op : Nat) : State :=
  { ((wFlash.set F.topFcacheStatusTotal 10000).put (F.hzShmGrantValid 0) true) with md := { Meta.empty with plots := [wFcachePlot] }, rg := { RingState.reset with descs := [wFtD op] } }
def wFtRange (op : Nat) : State := { wFlash with rg := { RingState.reset with descs := [wFtRangeD op] } }
/-- A band with a member on die 2 of channel 5, and a read of it. -/
def wMember : Member :=
  { chan := 5, die := 2, blocks := [0, 0, 0, 0], reads := 0, stamp := 0, unsynced := false, temp := 0, learned := none }
def wBand : Band :=
  { num := 9, group := 0, stream := 1, state := .closed, members := [wMember], rows := 0, closedAt := 0, degraded := false, queued := false, suspect := [] }
def wNandRead : NandRead :=
  { id := 6, loc := wMember.row 0, unit := 2, blocks := [2], want := .descriptor 5 3 0, start := 0, attempts := 1, soft := false, corrected := [], lost := [] }
def wNand : State :=
  { wFlash with fm := { FtMeta.empty with bands := [wBand] }, ft := { FtState.reset with reads := [wNandRead] } }
def wErasing : State :=
  { wFlash with fm := { FtMeta.empty with bands := [{ wBand with state := .erasing }] } }
def wFslot : Slot :=
  { idx := 0, unit := 4, version := 7, zero := [], backing := .unmapped, blocks := [], written := 0, first := 7, destaging := none }
def wSlotted : State := { wFlash with fm := { FtMeta.empty with slots := [wFslot] } }
/-- A direct write of stream 1 has waited. -/
def wPad : State :=
  { wNand with clk := 1000000000, fm := { FtMeta.empty with bands := [{ wBand with state := .opened }] }, ft := { FtState.reset with staged := [{ kind := .direct 5 3 0, page := { blankPage with stream := 1 }, dead := false }] } }

/-- A started hint descriptor, and a state in which domain 0 may give it. -/
def wHintD (kind space value base : Nat) : Desc :=
  wStarted opHint [0, BitVec.ofNat 64 (kind + space * 2 ^ 8 + value * 2 ^ 16 + base * 2 ^ 32), 1]
def wHint (kind space value base : Nat) : State :=
  { ((wExtent.set F.winSizePlots 4).put F.topCtlHazelGrantEnable true).set (F.mtChStatusState 0) 2 with md := { Meta.empty with plots := [wPlot], groups := [(12, { Group.empty with valid := true, hazelAllowed := true })] }, rg := { RingState.reset with descs := [wHintD kind space value base] } }
theorem wHint_base : (wHintD 5 2 1 12).hintBase = 12 := by decide +kernel
theorem wHint_plots : (wHint 5 2 1 12).groupPlots 12 = [] := by
  unfold State.groupPlots
  refine (congrArg (fun l => List.mergeSort l _) (?_ : _ = [])).trans ?_
  · decide +kernel
  · simp
theorem wHint_mapped : (wHint 5 2 1 12).groupMapped 12 = false := by
  simp only [State.groupMapped, State.groupWindow, wHint_plots]; rfl
theorem wHint_dies : (wHint 5 2 1 12).diesByLoad = List.range 8 := by
  unfold State.diesByLoad
  exact List.mergeSort_of_pairwise (by decide +kernel)
theorem wHint_die : (wHint 5 2 1 12).grantDie? 12 = some 0 := by
  simp only [State.grantDie?, State.groupOn, wHint_plots, wHint_dies]
  decide +kernel
/-- Die 0 has held one hot plot for long. -/
def wBalance : State :=
  { wPlaced.put F.topCtlBalanceEnable true with clk := 10000000000000, top := { TopState.reset with heat := [(0, 5)], overSince := [(0, 0)] } }
theorem wBalance_hottest : wBalance.hottest = [0] := by
  unfold State.hottest
  refine (congrArg (fun l => List.mergeSort l _) (?_ : _ = [0])).trans ?_
  · decide +kernel
  · simp
/-- A migration of plot 0, withdrawn or not. -/
def wMig (st : MigState) (withdrawn : Bool) : Migration :=
  { plot := 0, reason := if withdrawn then 5 else 7, state := st, cursor := 0, journalled := 0, dst := none, old := none, decision := 1 }
def wMoving (st : MigState) (withdrawn : Bool) : State :=
  { wPlaced with md := { Meta.empty with plots := [{ wPlot with pinned := withdrawn }], migrations := [wMig st withdrawn] } }
theorem wMoving_pending (b : Bool) : (wMoving .pending b).pendingMoves = [wMig .pending b] := by
  unfold State.pendingMoves
  refine (congrArg (fun l => List.mergeSort l _) (?_ : _ = [wMig .pending b])).trans ?_
  · cases b <;> decide +kernel
  · simp
/-- A group granted to die 0 whose plot is to move there. -/
def wOwned : State :=
  { wPlaced with md := { Meta.empty with plots := [{ wPlot with group := some 12 }], migrations := [wMig .pending false], groups := [(12, { Group.empty with valid := true, hazelGranted := true })] } }
theorem wOwned_pending : wOwned.pendingMoves = [wMig .pending false] := by
  unfold State.pendingMoves
  refine (congrArg (fun l => List.mergeSort l _) (?_ : _ = [wMig .pending false])).trans ?_
  · decide +kernel
  · simp
theorem wOwned_chans : wOwned.chansByWrites 0 = [0] := by
  unfold State.chansByWrites
  refine (congrArg (fun l => List.mergeSort l _) (?_ : _ = [0])).trans ?_
  · decide +kernel
  · simp
theorem wOwned_span : wOwned.moveSpan? (wMig .pending false) = some ([0], 8192) := by
  have h : wOwned.moveSpan? (wMig .pending false) = wOwned.spanOf? 0 1 := by decide +kernel
  rw [h]
  simp only [State.spanOf?, wOwned_chans]
  decide +kernel
/-- A write of page 0 waits for the capture of the page. -/
def wCapturing : State :=
  { wPlaced with md := { Meta.empty with plots := [wPlot], snaps := [{ slot := 3, epoch := 8, state := .active }] }, per := { wPlaced.per with capturing := [0] }, mt := { wPlaced.mt with writes := [{ wMw .waiting none with page := some 0, epoch := 9 }] } }

def wJournal : State :=
  { wUp with per := { wUp.per with journal := [{ seq := 1, time := 0, ftier := false, body := .tailSealed, durable := true }, { seq := 2, time := 0, ftier := false, body := .tailSealed, durable := false }] } }
/-- A window checkpoint stands at a phase. -/
def wCkpt (p : CkptPhase) : State := { wUp with per := { wUp.per with window := { Ckpt.reset with phase := p } } }
/-- A flush has done some of its steps. -/
def wFlush (n : Nat) : State := { wUp.set F.perStatusState 4 with per := { wUp.per with flushStep := n } }
/-- A snapshot is being deleted. -/
def wCapture : Capture := { epoch := 8, page := 5, whole := true, lines := [], place := .staging }
def wDeleting (l : List Capture) : State :=
  { wUp with md := { Meta.empty with snaps := [{ slot := 3, epoch := 8, state := .deleting }], captures := l } }

/-- A kernel that runs on core 33 of die 1, and the core. -/
def wKernel : Kernel :=
  { id := 7, ring := 5, handle := 3, tag := 1, dom := 0, group := none, die := 1, image := 0x200000000000, arg := 0, argLen := 0, want := 2, deadlineUs := 5, timed := none, dropLate := false, late := false, phase := .running, crc := 0, sramKiB := 0, handler := none, cores := [33], armed := [], left := [], syncs := [], pool := [], status := stOk, code := 0, core := 0, result := 0, begun := 0, silent := false }
def wCoreOf (c : HzCore) (k : Kernel) : State :=
  { ((((State.reset.set (F.hzCoreStatusState 33) 3).put (F.hzShmGrantValid 0) true).set F.winSizePlots 4).set (F.hzClStatusState 1) 1) with clk := 2000, hz := { HzState.reset with cores := [(33, c)], kernels := [k] } }
def wCore : State := wCoreOf HzCore.idle wKernel
def wCore2 : State := wCoreOf HzCore.idle { wKernel with cores := [33, 34] }
def wBuf : BufStore := { addr := scratchBase, bytes := [1, 2, 3, 4], early := false, sent := none }
def wBuffered : State := wCoreOf { HzCore.idle with buffer := [wBuf] } wKernel
def wReserved : State := wCoreOf { HzCore.idle with resv := some (scratchBase / 64) } wKernel
def wCombining : State := wCoreOf { HzCore.idle with nt := [{ line := 0x8000000000, mask := 1, data := 5, since := 0 }] } wKernel
def wSent : State :=
  wCoreOf { HzCore.idle with buffer := [{ addr := 0x400000000000, bytes := [1], early := true, sent := some 0 }] } wKernel
/-- A launch into a granted group of die 1. -/
def wLaunchD : Desc := wStarted opHzLaunch [0, 0, 0, 0x0000000C00000000]
def wLaunch : State :=
  { wCore with md := { Meta.empty with groups := [(12, { Group.empty with valid := true, hazelGranted := true, hazelDie := 1 })] }, rg := { RingState.reset with descs := [wLaunchD] }, hz := HzState.reset }
/-- A kernel at the head of the queue of die 1, and its image in the cache. -/
def wImage : KImage :=
  { die := 1, addr := 0x200000000000, crc := 0, header := leBytes 64 (0x4C5A4148 + 2 ^ 32 + 4 * 2 ^ 64 + 0x2144DF1C * 2 ^ 256), code := [0, 0, 0, 0], data := [], used := 0 }
def wQueued : State :=
  { wCore with hz := { HzState.reset with kernels := [{ wKernel with phase := .queued, cores := [] }], images := [wImage] } }

/-- Ring pair 5 of domain 0 lies in the window, 16 entries a part, Enabled. -/
def wRing : State :=
  ((((((State.reset.set F.winSizePlots 4).set F.winStatusWindowState 1).put (F.ringBindValid 5) true).set (F.ringSizeSqLog2 5) 4).set (F.ringSizeCqLog2 5) 4).set (F.ringCqBaseBase 5) 1).set (F.ringBindInFlightMax 5) 8
def wRingOn : State := wRing.set (F.ringStatusState 5) 1
/-- The same with one descriptor. -/
def wRingD (d : Desc) : State := { wRingOn with rg := { RingState.reset with descs := [d] } }
/-- A descriptor that is being fetched. -/
def wFetching : Desc := { wStarted 0 [] with words := [], phase := .fetching }
/-- Its submission ring, or its completion ring, lies in host memory. -/
def wRingHost (d : Desc) : State := ((wRingD d).set (F.ringSqBaseBase 5) 0x400000000).set (F.ringCqBaseBase 5) 0x400000001
/-- A MOVE of one line within the window, and the state after it. -/
def wMove : Desc := wStarted opMove [0, 0x1000, 0x2000, 64]
/-- A cut of the open epoch at a time to come. -/
def wCutD (op : Nat) : Desc := wStarted (op + 0x400) [0x100000000, 0]
/-- A snapshot of epoch 8 stands, the window is Online. -/
def wSnap (d : Desc) : State :=
  { wRingD d with md := { Meta.empty with snaps := [{ slot := 3, epoch := 8, state := .active }] } }
def wSnapRead : Desc := wStarted opSnapRead [0, 8, 0x1000, 64, 0x2000]
/-- Remote mode: a message of one descriptor waits on queue pair 7. -/
def wRemote : State :=
  { ((wRingOn.put (F.ringRemoteEnable 5) true).set (F.ringRemoteQp 5) 7) with rg := { RingState.reset with queues := [{ q := 40, write := 4, read := 0, items := [(7, List.replicate 64 1)] }] } }
/-- The line cache serves two plots. -/
def wRange : State := (State.reset.set F.winSizePlots 4).set F.lcCtlEnable 1

/-- Queue pair 7 of domain 0 on port 0, in RTS, with an MTU of 1024 bytes; port 0 is up and two plots are Online. -/
def wQp : Qp :=
  { num := 7, ctx0 := 0x80000003, ctx1 := 0, ctx2 := 0, ctx3 := 0x000C1C8000000000, dgidLo := 0, dgidHi := 0, inbound := none, redo := none, acks := [], reads := [], atomics := [], requests := [], retries := 7, rnr := 1, rate := 800000, target := 800000, alpha := 2 ^ 32, lastCnp := 0, lastAlpha := 0, lastInc := 0, cnpSent := none }
/-- A region of one page that grants every access: key 0x501. -/
def wMr : Mr := { idx := 5, base := 0x1000, len := 0x1000, ctl := 0x3C0001 }
def wNetQ (q : Qp) : State :=
  { (((State.reset.setBit F.netStatusPortUp 0 true).set F.winSizePlots 4).set F.winStatusWindowState 1) with clk := 300000000, net := { NetState.reset with qps := [q], mrs := [wMr] } }
def wPeerReq (k : PeerKind) : PeerReq :=
  { psn := 0, last := 0, kind := k, ring := 5, handle := 3, rkey := 0x501, len := 64, sent := some 0, got := 0 }
/-- A peer transfer of ring 5 over queue pair 7. -/
def wPeer (d : Desc) : State := { wNetQ wQp with rg := { RingState.reset with descs := [d] } }
def wPeerW : Desc := wStarted opPeerWrite [0, 0x1000, 0x2000, 0x0000000700000040, 0x501]
def wPeerR : Desc := wStarted opPeerRead [0, 0x1000, 0x2000, 0x0000000700000040, 0x501]
/-- A GID entry of port 0, and values staged for a commit. -/
def wStage : State :=
  { State.reset with net := { NetState.reset with gids := [{ idx := 0, lo := 0, hi := 0, ctl := 0x20000 }], stageQp := [1, 2, 0x000C000000000000, 0, 0] } }
def wStageMr : State :=
  { State.reset.set F.winSizePlots 4 with net := { NetState.reset with stageMr := [0x1000, 0x2000] } }
def wCc (q : Qp) : State := (wNetQ q).put F.netCcCfgEnable true

/-- A mirror over queue pair 7, by its role, its state and the lines it holds; the domain's key is loaded. -/
def wMirror (role st : Nat) (l : List MirrorLine) : State :=
  { (((State.reset.put F.perMirrorCfgEnable true).set F.perMirrorCfgRole role).set F.perMirrorCfgPeerQp 7).set F.perMirrorStatusState st with net := { NetState.reset with qps := [wQp] }, cip := { CipState.reset with slots := [(0, 0, [])] }, per := { State.reset.per with receive := l, send := l, sent := 0 }, md := { Meta.empty with openEpoch := 3 } }
def wMLine (e : Nat) : MirrorLine := { line := 5, data := 7, poison := false, epoch := e }

/-- Port 8 in a state, and the state of its port. -/
def wKl (n : Nat) (p : KlPort) : State :=
  { ((State.reset.set (F.klLinkStatusState 8) n).set F.pwrRailPgRails 0xFFFFFFFF) with clk := 5000000, kl := State.reset.kl.set 8 p }
/-- Training of port 8 has reached a step. -/
def wTrain (n : Nat) (p : KlPort) : State := (wKl portTraining p).set (F.klLinkStatusTrainStep 8) n
/-- A Control flit. -/
def wCtl (op arg : Nat) : Flit :=
  { flitType := 2, version := 1, descs := [], crd := [0, 0, 0, 0], ctlOp := op, ctlArg := arg, seq := 0, seqValid := false, replay := false, ackSeq := 0, ackValid := false, nak := false }
def wPm (n : Nat) : KlPort := { KlPort.reset with pm := some { want := n, sent := 1, first := 0, last := 0 } }
def wL1 : State :=
  ((wKl portUp { KlPort.reset with l1Allow := true }).put (F.klLinkCfgL1Enable 8) true).put (F.klPartnerIdL1Capable 8) true
def wLanes : LaneTest := { tx := [], rx := [], txCtl := false, rxCtl := false }
def wKlSent : KlSent := { seq := 0, tx := .interrupt 0 0, last := 0 }

/-- Key domain 5 has a key command under way. -/
def wKeyCmd (op : Nat) : State :=
  { State.reset.put (F.cipDomStatusBusy 5) true with cip := { CipState.reset with slots := [(5, 2, [1])], cmds := [{ dom := 5, op := op, slot := 2, wrapped := List.replicate 8 0xA6 }] }, pv := { PvState.reset with keks := [(5, [])] } }
/-- Cores 3 and 4 of both kinds are online; core 3 holds a key that was pinned 2 s ago. -/
def wXts : State :=
  { (State.reset.set F.cipStatusXtsOnline 0x18).set F.cipStatusGcmOnline 0x18 with clk := 2000000000, cip := { CipState.reset with xts := [{ core := 3, dom := 5, pinned := true, used := 0 }], gcm := [{ core := 3, key := [1], used := 0 }], idle := [(5, 0)] } }
/-- A SEAL or OPEN of ring 5 over no text; its key has been taken. -/
def wGcmD (op : Nat) : Desc := wStarted op [0, 0x1000, 0x2000, 0, 0x3000]
def wGcm (op : Nat) : State :=
  { (wRingD (wGcmD op)).set F.cipStatusGcmOnline 1 with cip := { CipState.reset with taken := [(5, 3, List.replicate 32 0)] } }
/-- The same OPEN, with the tag of the empty text behind its IV in Quickset. -/
def wGcmBlock : List Byte := List.replicate 16 0 ++ [83, 15, 138, 251, 199, 69, 54, 185, 169, 99, 180, 241, 196, 203, 115, 139]
def wGcmTagged : State :=
  { wGcm opOpen with qs := [{ line := 0xC0, dom := 0, mask := maskAll, data := BitVec.ofNat 512 (ofBytes wGcmBlock), poison := false, epoch := 0, leaving := false }] }

/-- A firmware bank with a version. -/
def wBank (v : Nat) : FlashBank :=
  { magic := 0, formatVersion := 1, svn := 0, flags := 0, version := v, keyIndex := 0, components := [],
    keyMatches := true, signatureValid := true, privetDigest := true }
def wTransfer : State := { State.reset with pv := { PvState.reset with transfer := some 2 } }
/-- A trial image runs and the window is Online. -/
def wTrial : State :=
  { (State.reset.put F.pvStatusTrial true).set F.winStatusWindowState 1 with
    pv := { PvState.reset with image := some (wBank 3) } }
def wPhase5 : State := State.reset.set F.pvModeStartPhase 5
/-- A KEK command runs for domain 5. -/
def wKek (op : Nat) : State :=
  { State.reset.put F.pvKeyStatusBusy true with pv := { PvState.reset with
      kek := some { op := op, dom := 5, block := none }, keks := [(5, [9])] } }
def wKekBlock : State := { wKek 1 with pv := { (wKek 1).pv with kek := some { op := 1, dom := 5, block := some [1] } } }
def wLockedOut : State := State.reset.put F.pvDebugStatusLockedOut true
/-- A register-path access of 8 bytes of the parameter store is set up. -/
def wPs : State := (State.reset.set F.psWrCtlLength 8).set F.psRdCtlLength 8
def wPsQueued : State := { State.reset with pv := { PvState.reset with writes := [{ source := 0, addr := 64, bytes := [7, 8] }] } }

/-- The supervisor in a state, a second after everything began. -/
def wPw (x : Nat) : State := { State.reset.set F.pwrStatusState x with clk := 700000000000 }
/-- Privet is booted; the supervisor is On with the flush not begun. -/
def wOn : State := { (wPw 3).set F.perStatusState 1 with pw := { State.reset.pw with booted := true } }
def wSeqStep (k : Nat) : State := (wPw 1).set F.pwrStatusStep k
/-- A test with a load current and an efficiency. -/
def wTest : State :=
  { (((wOn.set F.pwrHoldupCfgTestMa 1000).set F.pwrHoldupCfgVminMv 5000).set F.pwrHoldupCfgEffPct 90) with pw := { wOn.pw with test := some (12000, 5) } }
def wLoop : State := { (wOn.set (State.loopField 3) 2) with pw := { wOn.pw with clearSince := [(3, 5)] } }

/-- Agent 0 is Admitted, may reach the first pages of the window and of shared memory, and holds some state. -/
def wAg (x : AgentState) : State :=
  { ((((((wKl portUp KlPort.reset).set F.winSizePlots 4).set F.winStatusWindowState 1).set (F.klAgentStatusState 0) 2).setReg (R.klAptCtl 0 0) 0x8000000700000010).setReg (R.klAptCtl 0 1) 0x8000000700000010).setReg (R.klAptBase 0 1) 0x200000000000 with kt := { State.reset.kt with agents := [x, AgentState.reset] } }
def wAgS (x : AgentState) : State := (wAg x).put (F.hzShmGrantValid 0) true
/-- Request 4 of agent 0 has arrived. -/
def wAgU : State :=
  ((wAg AgentState.reset).setAgentSt 0 { AgentState.reset with requests := 1, waiting := [(1, 4, 1)] }).showOut 0
def wAgUS : State :=
  ((wAgS AgentState.reset).setAgentSt 0 { AgentState.reset with requests := 1, waiting := [(1, 4, 1)] }).showOut 0
/-- The hub waits for an answer of agent 0. -/
def wHubReq (k : Nat) (src : WinSrc) : HubReq :=
  { agent := 0, tag := 4, kind := k, addr := 0x300000000000, len := 8, src := src, tx := .interrupt 0 0, sent := some 0 }
def wAsked (q : HubReq) : State :=
  { wAg AgentState.reset with kt := { (wAg AgentState.reset).kt with reqs := [q] } }
def wBarrier : KlBarrier := { tag := 6, posted := 0, requests := 0 }

def wEv (c : Nat) : Event := { src := 5, sev := 2, code := c, dom := noDom, time := 0, unsynced := false, data := [], addr := none }
def wRec (n : Nat) : Record := { (wEv 1).entry with seq := n }
def wObs (o : ObsState) : State := { State.reset with clk := 100000000000, obs := o }
def wSamp : Sample :=
  { time := 0, pc := 0, dataAddr := 0, core := 0, event := 1, flags := 1, latencyNs := 0, tag := 0, ring := 0, dom := 0 }
/-- A counter of core 0 that samples. -/
def wCounter : Counter := { idx := 1152, cnt := 5, sel := 0x301, ovf := false }

/-- The window is Online, three channels serve and the persistence manager is up. -/
def wLife : State :=
  (((wOn.set F.winStatusWindowState 1).set (F.mtChStatusState 0) 2).set F.ftStatusState 2).set F.winSizePlots 4
def wFound : StartFindings := { fchans := [], lostStacks := [], lostClusters := [], xts := 0, gcm := 0 }
/-- A sanitize is in a phase. -/
def wSan (n k : Nat) : State := (wLife.set F.pvSanitizeState n).set F.pvSanitizeScope k
/-- A descriptor with parts left. -/
def wLeft (n : Nat) (d : Desc) : Desc := { d with left := n }
def wSelfD : Desc := wStarted (opSelftest + 0x1000) [0, 3]
def wSelf (n : Nat) (l : List Nat) (d : Desc) : State := { wRingHost d with pw := { wOn.pw with selfStep := n, selfLeft := l } }
def wMgmt : State := State.reset.setReg (R.winLdBind 0) 0x400

/-- A step that goes on from a state that meets the invariant: an idle one, and one that runs a command. -/
theorem hyps_EveryStepKeepsTheInvariant : (∃ s t : State, s.Inv ∧ s.pending = [] ∧ step s = .next t) ∧
    ∃ s t : State, s.Inv ∧ s.pending ≠ [] ∧ step s = .next t :=
  ⟨⟨State.reset, _, by decide, rfl, rfl⟩, ⟨{ State.reset with pending := [.tcxoFailure] }, _, by decide, by decide, rfl⟩⟩

/-- A step that goes on, with a command and without one. -/
theorem hyps_StepsAccountForPartQueueClockAndMessages : (∃ s t : State, s.pending = [] ∧ step s = .next t) ∧
    ∃ s t : State, s.pending ≠ [] ∧ step s = .next t :=
  ⟨⟨State.reset, _, rfl, rfl⟩, ⟨{ State.reset with pending := [.tcxoFailure] }, _, by decide, rfl⟩⟩

/-- A command that goes on, and a part of the state that it has no access to. -/
theorem hyps_CommandsKeepToTheirFootprint : ∃ (c : Instr) (s t : State) (p : Comp), p ∉ footprint c ∧ exec c s = .next t :=
  ⟨.tcxoFailure, State.reset, _, .hz, by decide, rfl⟩

/-- The hypotheses of `Obligations.StepRunsTheFrontCommand` can be met, clause by clause. -/
theorem hyps_StepRunsTheFrontCommand :
  ∃ (s : State) (c : Instr) (rest : List Instr), s.pending = c :: rest :=
  ⟨{ State.reset with pending := [.idcode] }, .idcode, [], by decide +kernel⟩

/-- The hypotheses of `Obligations.IdleStepTakesANanosecond` can be met, clause by clause. -/
theorem hyps_IdleStepTakesANanosecond :
    (∃ s : State, s.pending = []) ∧
    (∃ s : State, s.time.running = true) :=
  ⟨⟨State.reset, by decide +kernel⟩,
   ⟨{ State.reset with time := { State.reset.time with running := true } }, by decide +kernel⟩⟩

/-- The hypotheses of `Obligations.OnlyAccessesOutsideTheAddressSpaceStop` can be met, clause by clause. -/
theorem hyps_OnlyAccessesOutsideTheAddressSpaceStop :
    (∃ s : State, s.stops = false) ∧
    (∃ s : State, s.stops = true) ∧
    (∃ (c : Instr) (s : State), c.wf = true) :=
  ⟨⟨State.reset, by decide +kernel⟩,
   ⟨{ State.reset with pending := [.registerWrite 0 0x1000000000000 4 0] }, by decide +kernel⟩,
   ⟨.idcode, State.reset, by decide +kernel⟩⟩

/-- The hypotheses of `Obligations.SourceMeasurementsCorrectTheTimebase` can be met, clause by clause. -/
theorem hyps_SourceMeasurementsCorrectTheTimebase :
    (∃ (s : State) (port t : Nat), s.on F.tbCtlPtpEnable = true ∧ s.get F.tbCtlPtpPort = port ∧ s.ethPresent port = true ∧ s.on (F.netPortStatusUp port) = true ∧ s.on F.tbStatusEverSynced = false ∧ s.time.dtb ≤ t) ∧
    (∃ (s : State) (port t : Nat), s.on F.tbCtlPtpEnable = true ∧ s.get F.tbCtlPtpPort = port ∧ s.ethPresent port = true ∧ s.on (F.netPortStatusUp port) = true ∧ s.on F.tbStatusEverSynced = false ∧ t < s.time.dtb) ∧
    (∃ (s : State) (port t : Nat), s.on F.tbCtlPtpEnable = true ∧ s.get F.tbCtlPtpPort = port ∧ s.ethPresent port = true ∧ s.on (F.netPortStatusUp port) = true ∧ s.on F.tbStatusEverSynced = true) ∧
    (∃ s : State, s.edgeCounts = true ∧ s.on F.tbCtlPpsEnable = true ∧ s.ptpUp = false ∧ s.on F.tbStatusEverSynced = true) ∧
    (∃ (s : State) (v : BitVec 64), s.on F.tbCtlHostEnable = true ∧ s.ptpUp = false ∧ s.ppsUp = false ∧ s.on F.tbStatusEverSynced = false ∧ s.time.dtb ≤ v.toNat) ∧
    (∃ (s : State) (v : BitVec 64), s.on F.tbCtlHostEnable = true ∧ s.ptpUp = false ∧ s.ppsUp = false ∧ s.on F.tbStatusEverSynced = true) ∧
    (∃ (s : State) (v : BitVec 64), (s.on F.tbCtlHostEnable = false ∨ s.ptpUp = true ∨ s.ppsUp = true)) :=
  ⟨⟨wPtp, 0, 5000, by decide +kernel⟩,
   ⟨wPtp, 0, 50, by decide +kernel⟩,
   ⟨wPtpSynced, 0, 50, by decide +kernel⟩,
   ⟨wPps, by decide +kernel⟩,
   ⟨wHostClock, 5000, by decide +kernel⟩,
   ⟨wHostSynced, 5000, by decide +kernel⟩,
   ⟨State.reset.put F.tbCtlHostEnable false, 5000, by decide +kernel⟩⟩

/-- The hypotheses of `Obligations.ServoPulsesAndTimeMessages` can be met, clause by clause. -/
theorem hyps_ServoPulsesAndTimeMessages :
    (∃ s : State, s.servo = servoHoldover ∧ s.get F.tbHoldLimitSeconds * 1000000000 ≤ s.clk - s.time.holdFrom) ∧
    (∃ s : State, s.get F.tbStatusActiveSrc = 1 ∧ (s.servo = servoAcquiring ∨ s.servo = servoLocked) ∧ s.ppsUp = false) ∧
    (∃ s : State, s.get F.tbStatusActiveSrc ≠ 1) ∧
    (∃ s : State, s.get F.tbStatusActiveSrc = 2 ∧ (s.servo = servoAcquiring ∨ s.servo = servoLocked) ∧ s.ptpUp = false) ∧
    (∃ s : State, s.get F.tbStatusActiveSrc ≠ 2) ∧
    (∃ s : State, s.ppsOutAllowed = true) ∧
    (∃ (s : State) (k h d : Nat) (x : DieTime), k < s.part.dies ∧ s.time.dies[k]? = some x) ∧
    (∃ (s : State) (k : Nat) (x : DieTime), k < s.part.dies ∧ s.time.dies[k]? = some x ∧ x.last + 16000 ≤ s.clk ∧ s.bit F.tbStatusDieTimeLost k = false) ∧
    (∃ (s : State) (k : Nat) (x : DieTime), k < s.part.dies ∧ s.time.dies[k]? = some x ∧ x.last + 1000000 ≤ s.clk) ∧
    (∃ (s : State) (a : Nat), a < s.part.sites ∧ s.get (F.klAgentStatusState a) = 2 ∧ s.bit F.tbStatusAgentTimeLost a = false ∧ s.klState (8 + a) ≠ portL1 ∧ (s.time.agentSent[a]?).getD 0 + 16000 ≤ s.clk) ∧
    (∃ s : State, s.time.running = true) :=
  ⟨⟨wHoldover, by decide +kernel⟩,
   ⟨wFollow 1, by decide +kernel⟩,
   ⟨State.reset, by decide +kernel⟩,
   ⟨wFollow 2, by decide +kernel⟩,
   ⟨State.reset, by decide +kernel⟩,
   ⟨wPpsOut, by decide +kernel⟩,
   ⟨State.reset, 3, 100, 7, { replica := 0, last := 0, held := false }, by decide +kernel⟩,
   ⟨wLate, 7, { replica := 0, last := 0, held := false }, by decide +kernel⟩,
   ⟨wLate, 0, { replica := 0, last := 0, held := false }, by decide +kernel⟩,
   ⟨wAgent 1, 1, by decide +kernel⟩,
   ⟨wPtp, by decide +kernel⟩⟩

/-- The hypotheses of `Obligations.LaunchSlotsArmCancelAndFire` can be met, clause by clause. -/
theorem hyps_LaunchSlotsArmCancelAndFire :
    (∃ (s : State) (u : LaunchUnit) (i : Nat) (v : BitVec 32), u.present s.part = true ∧ i < u.slots ∧ bits (v.setWidth 64) 8 1 = 1 ∧ bits (v.setWidth 64) 9 1 = 0 ∧ s.get (slotState u i) ≠ slotArmed ∧ State.registerAction u (bits (v.setWidth 64) 0 8) = true ∧ s.unitTime u < (s.reg (slotTime u i)).toNat) ∧
    (∃ (s : State) (u : LaunchUnit) (i : Nat) (v : BitVec 32), u.present s.part = true ∧ i < u.slots ∧ bits (v.setWidth 64) 8 1 = 1 ∧ bits (v.setWidth 64) 9 1 = 0 ∧ s.get (slotState u i) ≠ slotArmed ∧ State.registerAction u (bits (v.setWidth 64) 0 8) = true ∧ s.unitTime u < (s.reg (slotTime u i)).toNat) ∧
    (∃ (s : State) (u : LaunchUnit) (i : Nat) (v : BitVec 32), u.present s.part = true ∧ i < u.slots ∧ bits (v.setWidth 64) 8 1 = 1 ∧ bits (v.setWidth 64) 9 1 = 0 ∧ s.get (slotState u i) ≠ slotArmed ∧ State.registerAction u (bits (v.setWidth 64) 0 8) = true ∧ s.unitTime u < (s.reg (slotTime u i)).toNat) ∧
    (∃ (s : State) (u : LaunchUnit) (i : Nat) (v : BitVec 32), u.present s.part = true ∧ i < u.slots ∧ bits (v.setWidth 64) 8 1 = 0 ∧ bits (v.setWidth 64) 9 1 = 1 ∧ s.get (slotState u i) = slotArmed ∧ s.on (slotOwner u i) = false) ∧
    (∃ (s : State) (u : LaunchUnit) (i : Nat), u.present s.part = true ∧ i < u.slots ∧ s.get (slotState u i) = slotArmed ∧ s.unitHolds u = false ∧ (s.reg (slotTime u i)).toNat ≤ s.unitTime u) ∧
    (∃ (s : State) (u : LaunchUnit) (i : Nat), u.present s.part = true ∧ i < u.slots ∧ s.get (slotState u i) = slotArmed ∧ s.unitHolds u = false ∧ (s.reg (slotTime u i)).toNat ≤ s.unitTime u ∧ s.get (slotAction u i) = 6) ∧
    (∃ (s : State) (a i : Nat) (c : ArmedCut), a < s.part.sites ∧ s.get (F.klAgentStatusState a) = 2 ∧ i < 4 ∧ s.time.agentSlots.any (fun x => x.1 = a && x.2.1 = i) = false ∧ s.md.armed.find? (fun c => !c.snapshot && c.time ≤ s.time.dtb + 100000 && !s.time.agentSlots.any (fun x => x.1 = a && x.2.2 = c.epoch)) = some c) :=
  ⟨⟨wSlot .hub 127 0, .hub, 127, 0x106, by decide +kernel⟩,
   ⟨wSlot (.die 3) 31 0, .die 3, 31, 0x105, by decide +kernel⟩,
   ⟨wSlot (.core 255) 3 0, .core 255, 3, 0x100, by decide +kernel⟩,
   ⟨wSlot (.die 3) 31 1, .die 3, 31, 0x200, by decide +kernel⟩,
   ⟨wSlotDue (.die 2) 5, .die 2, 5, by decide +kernel⟩,
   ⟨(wSlotDue .hub 9).set (slotAction .hub 9) 6, .hub, 9, by decide +kernel⟩,
   ⟨wCut 1, 1, 3, { epoch := 4, snapshot := false, time := 0, ring := 0, handle := 0 }, by decide +kernel⟩⟩

/-- The hypotheses of `Obligations.AccessesThatReachNoRegisterAreReported` can be met, clause by clause. -/
theorem hyps_AccessesThatReachNoRegisterAreReported :
    (∃ (s : State) (dom a w n : Nat) (v : BitVec 64), a < 2 ^ 48 ∧ s.pathTo dom a = .page n) ∧
    (∃ (s : State) (dom a w n : Nat) (v : BitVec 64), a < 2 ^ 48 ∧ s.pathTo dom a = .page n) ∧
    (∃ (s : State) (dom a w : Nat) (v : BitVec 64), a < 2 ^ 48 ∧ s.pathTo dom a = .nothing) ∧
    (∃ (s : State) (dom a w r : Nat) (v : BitVec 64) (x : RegPlace) (l : List (Nat × RegPlace)), a < 2 ^ 48 ∧ s.pathTo dom a = .reaches ∧ exactReg? s.part a w = none ∧ touchedRegs s.part a w = (r, x) :: l) ∧
    (∃ (s : State) (dom a w r : Nat) (x : RegPlace) (l : List (Nat × RegPlace)), a < 2 ^ 48 ∧ s.pathTo dom a = .reaches ∧ exactReg? s.part a w = none ∧ touchedRegs s.part a w = (r, x) :: l) ∧
    (∃ (s : State) (dom a w r : Nat) (x : RegPlace) (l : List (Nat × RegPlace)), a < 2 ^ 48 ∧ s.pathTo dom a = .reaches ∧ exactReg? s.part a w = none ∧ touchedRegs s.part a w = (r, x) :: l) :=
  ⟨⟨State.reset, 5, 0xF00010003000, 4, 3, 1, by decide +kernel⟩,
   ⟨State.reset, 5, 0xF0000C006000, 4, 6, 1, by decide +kernel⟩,
   ⟨State.reset, 5, R.winDeadline, 4, 1, by decide +kernel⟩,
   ⟨State.reset, 0, R.winDeadline, 2, R.winDeadline, 1, ((touchedRegs .mhl8082 R.winDeadline 2).head (by decide)).2, [], by decide +kernel⟩,
   ⟨State.reset, 0, R.winDeadline, 2, R.winDeadline, ((touchedRegs .mhl8082 R.winDeadline 2).head (by decide)).2, [], by decide +kernel⟩,
   ⟨State.reset, 0, R.winDeadline, 2, R.winDeadline, ((touchedRegs .mhl8082 R.winDeadline 2).head (by decide)).2, [], by decide +kernel⟩⟩

/-- The hypotheses of `Obligations.FieldsFollowTheirAccessCodes` can be met, clause by clause. -/
theorem hyps_FieldsFollowTheirAccessCodes :
    (∃ (s : State) (x : RegPlace) (a : Nat) (v : Word) (i : Nat), i < 64 ∧ x.row.rw.testBit i = true ∧ x.row.w1c.testBit i = false ∧ x.row.w1s.testBit i = false) ∧
    (∃ (s : State) (x : RegPlace) (a : Nat) (v : Word) (i : Nat), i < 64 ∧ x.row.rw.testBit i = false ∧ x.row.rwl.testBit i = false ∧ x.row.w1c.testBit i = false ∧ x.row.w1s.testBit i = false) ∧
    (∃ (s : State) (x : RegPlace) (a : Nat) (v : Word) (i : Nat), i < 64 ∧ x.row.w1c.testBit i = true ∧ x.row.rw.testBit i = false ∧ x.row.rwl.testBit i = false ∧ x.row.w1s.testBit i = false) ∧
    (∃ (s : State) (x : RegPlace) (a : Nat) (v : Word) (i : Nat), i < 64 ∧ x.row.w1s.testBit i = true ∧ x.row.rw.testBit i = false ∧ x.row.rwl.testBit i = false ∧ x.row.w1c.testBit i = false) ∧
    (∃ (s : State) (x : RegPlace) (a : Nat) (v : Word) (i : Nat), i < 64 ∧ x.row.rwl.testBit i = true ∧ x.row.rw.testBit i = false ∧ x.row.w1c.testBit i = false ∧ x.row.w1s.testBit i = false) :=
  ⟨⟨State.reset, wBiTimeoutPlace, R.winBiTimeout, 5, 0, by decide +kernel⟩,
   ⟨State.reset, wBiTimeoutPlace, R.winBiTimeout, 5, 20, by decide +kernel⟩,
   ⟨State.reset, wClearPlace, 0, 1, 3, by decide +kernel⟩,
   ⟨State.reset, wLockPlace, R.winSize, 1, 31, by decide +kernel⟩,
   ⟨State.reset, wLockPlace, R.winSize, 1, 0, by decide +kernel⟩⟩

/-- The hypotheses of `Obligations.LinksDevicesAndDecodersAreSetUp` can be met, clause by clause. -/
theorem hyps_LinksDevicesAndDecodersAreSetUp :
    (∃ (s : State) (l w r : Nat), s.linkPresent l = true ∧ (r = 64 ∨ r = 32 ∨ r = 16) ∧ (w < s.linkWidth l ∨ r < s.linkRate)) ∧
    (∃ (s : State) (l w r : Nat), s.linkPresent l = true ∧ (r = 64 ∨ r = 32 ∨ r = 16) ∧ s.linkWidth l ≤ w ∧ s.linkRate ≤ r) ∧
    (∃ (s : State) (n : Nat) (v : BitVec 32), n < s.ldCount ∧ s.ldCommitted n = false ∧ (s.setReg (R.winLdBind n) (v.setWidth 64 &&& 0xFFF)).oneMgmt = true ∧ (s.setReg (R.winLdBind n) (v.setWidth 64 &&& 0xFFF)).extentsOk = true) ∧
    (∃ (s : State) (n e : Nat) (v : BitVec 64), n < s.ldCount ∧ e < 8 ∧ s.ldCommitted n = false ∧ (s.setReg (R.winLdExtent n e) (v &&& 0x80000000FFFFFFFF)).extentsOk = true) ∧
    (∃ (s : State) (ld d base size ways gran skip pos : Nat) (bi en : Bool), s.commitRefusal (s.makeDecoder ld d base size ways gran skip pos bi) en = none) ∧
    (∃ (s : State) (ld d base size ways gran skip pos : Nat) (bi en : Bool), s.commitRefusal (s.makeDecoder ld d base size ways gran skip pos bi) en = none) ∧
    (∃ (s : State) (ld d base size ways gran skip pos c : Nat) (bi en : Bool), s.commitRefusal (s.makeDecoder ld d base size ways gran skip pos bi) en = some c) :=
  ⟨⟨State.reset, 0, 4, 32, by decide +kernel⟩,
   ⟨State.reset, 0, 16, 64, by decide +kernel⟩,
   ⟨State.reset, 63, 0x405, by decide +kernel⟩,
   ⟨State.reset, 3, 7, 0x8000000000000000, by decide +kernel⟩,
   ⟨wExtent, 0, 0, 0x100000000, 0x40000000, 1, 256, 0, 0, false, false, by decide +kernel⟩,
   ⟨wExtent, 0, 7, 0, 0, 1, 256, 0, 0, false, false, by decide +kernel⟩,
   ⟨State.reset, 0, 0, 1, 0x40000000, 1, 256, 0, 0, 1, false, false, by decide +kernel⟩⟩

/-- The hypotheses of `Obligations.BindAndExtentWritesAreIgnoredWhileCommitted` can be met, clause by clause. -/
theorem hyps_BindAndExtentWritesAreIgnoredWhileCommitted :
    (∃ (s : State) (n : Nat) (v : BitVec 32) (d : Decoder), n < s.ldCount ∧ d ∈ s.win.decoders ∧ d.ld = n) ∧
    (∃ (s : State) (n e : Nat) (v : BitVec 64) (d : Decoder), n < s.ldCount ∧ e < 8 ∧ d ∈ s.win.decoders ∧ d.ld = n) ∧
    (∃ (s : State) (n e : Nat) (v : BitVec 64) (d : Decoder), n < s.ldCount ∧ e < 8 ∧ d ∈ s.win.decoders ∧ d.ld = n) :=
  ⟨⟨wDecoder, 0, 0x405, wDecoder.win.decoders.head (by decide +kernel), by decide +kernel⟩,
   ⟨wDecoder, 0, 0, 0x8000000000000000, wDecoder.win.decoders.head (by decide +kernel), by decide +kernel⟩,
   ⟨wDecoder, 0, 7, 0, wDecoder.win.decoders.head (by decide +kernel), by decide +kernel⟩⟩

/-- The hypotheses of `Obligations.CxlReadsAndWritesReachTheirLine` can be met, clause by clause. -/
theorem hyps_CxlReadsAndWritesReachTheirLine :
    (∃ (s : State) (l ld tag hpa : Nat) (c : Bool), s.windowServes = true ∧ s.linkUp l = true ∧ s.cxlTarget? ld hpa = none) ∧
    (∃ (s : State) (l ld tag hpa a : Nat) (c : Bool) (d : Decoder), s.windowServes = true ∧ s.linkUp l = true ∧ s.cxlTarget? ld hpa = some (d, a) ∧ s.sanitizing = false) ∧
    (∃ (s : State) (l ld tag hpa a : Nat) (c : Bool) (d : Decoder), s.windowServes = true ∧ s.linkUp l = true ∧ s.cxlTarget? ld hpa = some (d, a) ∧ s.sanitizing = false ∧ s.win.held.any (fun h => h.w.line = a / 64) = true) ∧
    (∃ (s : State) (l ld tag hpa a : Nat) (data : BitVec 512) (p : Bool) (d : Decoder), s.windowServes = true ∧ s.linkUp l = true ∧ s.cxlTarget? ld hpa = some (d, a) ∧ l ≠ 15 ∧ s.sanitizing = false ∧ s.plotReadOnly (linePlot (a / 64)) = false ∧ s.laneDown (linePlot (a / 64)) = false ∧ s.win.held.any (fun h => h.w.line = a / 64) = false ∧ s.holders (a / 64) = [] ∧ (s.plot (linePlot (a / 64))).hazelOwned = false) ∧
    (∃ (s : State) (l ld tag hpa a : Nat) (data : BitVec 512) (p : Bool) (d : Decoder), s.windowServes = true ∧ s.linkUp l = true ∧ s.cxlTarget? ld hpa = some (d, a) ∧ l ≠ 15 ∧ s.sanitizing = false ∧ s.plotReadOnly (linePlot (a / 64)) = false ∧ s.laneDown (linePlot (a / 64)) = false ∧ s.win.held.any (fun h => h.w.line = a / 64) = false ∧ s.holders (a / 64) = [] ∧ (s.plot (linePlot (a / 64))).hazelOwned = false ∧ s.qs? (a / 64) = none) ∧
    (∃ (s : State) (l ld tag hpa a : Nat) (data : BitVec 512) (m : BitVec 64) (p : Bool) (d : Decoder) (e : QsEntry), s.windowServes = true ∧ s.linkUp l = true ∧ s.cxlTarget? ld hpa = some (d, a) ∧ l ≠ 15 ∧ s.sanitizing = false ∧ s.plotReadOnly (linePlot (a / 64)) = false ∧ s.laneDown (linePlot (a / 64)) = false ∧ s.win.held.any (fun h => h.w.line = a / 64) = false ∧ s.holders (a / 64) = [] ∧ (s.plot (linePlot (a / 64))).hazelOwned = false ∧ s.qs? (a / 64) = some e) ∧
    (∃ (s : State) (l ld tag hpa a : Nat) (data : BitVec 512) (m : BitVec 64) (p : Bool) (d : Decoder), s.windowServes = true ∧ s.linkUp l = true ∧ s.cxlTarget? ld hpa = some (d, a) ∧ s.sanitizing = false ∧ s.plotReadOnly (linePlot (a / 64)) = false ∧ s.laneDown (linePlot (a / 64)) = false ∧ s.win.held.any (fun h => h.w.line = a / 64) = true) :=
  ⟨⟨wOnline, 0, 0, 9, 0x1000, true, by decide +kernel⟩,
   ⟨wServing, 0, 0, 9, 0x100000040, 0x40, false, wServing.makeDecoder 0 0 0x100000000 0x40000000 1 256 0 0 false, by decide +kernel⟩,
   ⟨wHeld, 0, 0, 9, 0x100000040, 0x40, false, wServing.makeDecoder 0 0 0x100000000 0x40000000 1 256 0 0 false, by decide +kernel⟩,
   ⟨wServing, 0, 0, 9, 0x100000040, 0x40, 0x1234, true, wServing.makeDecoder 0 0 0x100000000 0x40000000 1 256 0 0 false, by decide +kernel⟩,
   ⟨wServing, 0, 0, 9, 0x100000040, 0x40, 0x1234, false, wServing.makeDecoder 0 0 0x100000000 0x40000000 1 256 0 0 false, by decide +kernel⟩,
   ⟨wQs 1, 0, 0, 9, 0x100000040, 0x40, 0x1234, 2, false, wServing.makeDecoder 0 0 0x100000000 0x40000000 1 256 0 0 false, { line := 1, dom := 0, mask := 1, data := 0xFF, poison := false, epoch := 0, leaving := false }, by decide +kernel⟩,
   ⟨wHeld, 0, 0, 9, 0x100000040, 0x40, 0x1234, 2, false, wServing.makeDecoder 0 0 0x100000000 0x40000000 1 256 0 0 false, by decide +kernel⟩⟩

/-- The hypotheses of `Obligations.BackInvalidationAndReadDeadlines` can be met, clause by clause. -/
theorem hyps_BackInvalidationAndReadDeadlines :
    (∃ (s : State) (l line : Nat), s.linkUp l = true ∧ (s.holders line).contains l = true ∧ s.win.snoops.any (fun x => x.1 = line && x.2.1 = l) = false) ∧
    (∃ (s : State) (l line : Nat) (d : BitVec 512), s.linkUp l = true ∧ (s.holders line).contains l = true ∧ (s.hostCopy line d).win.snoops.any (fun x => x.1 = line && x.2.1 = l) = false) ∧
    (∃ (s : State) (l line : Nat), s.linkUp l = true ∧ (s.holders line).contains l = true ∧ s.win.snoops.any (fun x => x.1 = line && x.2.1 = l) = true ∧ s.win.held.any (fun h => h.w.line = line && h.holders.contains l) = false ∧ s.win.filter.any (fun e => e.sector = linePage line && e.evicting) = false ∧ (s.dropSnoop line l).win.snoops.any (fun x => x.1 = line) = false) ∧
    (∃ (s : State) (l line : Nat) (h : HeldWrite), s.win.held.find? (fun h => h.w.line = line && h.holders.contains l && h.since + 100 * max 10 (min 160 (s.get F.winBiTimeoutUnits)) ≤ s.clk) = some h) ∧
    (∃ (s : State) (x : Nat), s.win.filter.any (fun e => e.sector = x && e.evicting) = true ∧ s.win.reads.all (fun r => decide (r.stage ≠ ReadStage.filter)) = true) ∧
    (∃ (s : State) (n : Nat) (r : OutRead), s.outRead? n = some r ∧ r.stage = .admission ∧ (s.win.reads.find? (fun x => decide (x.stage = ReadStage.admission) && pageBank x.loc = pageBank r.loc)).map (·.id) = some n ∧ s.bankLoad (pageBank r.loc) < s.bankDepth) ∧
    (∃ (s : State) (n : Nat) (r : OutRead), s.outRead? n = some r ∧ r.late = false ∧ r.since + s.get F.winDeadlineNs ≤ s.clk) ∧
    (∃ (s : State) (n : Nat) (r : OutRead), s.outRead? n = some r ∧ r.late = false ∧ r.since + s.get F.winDeadlineNs ≤ s.clk) ∧
    (∃ (s : State) (line : Nat) (e : QsEntry), s.qs? line = some e ∧ e.leaving = false ∧ s.journalFull false = false) :=
  ⟨⟨wHolder, 1, 5, by decide +kernel⟩,
   ⟨wHolder, 1, 5, 77, by decide +kernel⟩,
   ⟨wSnooped, 1, 5, by decide +kernel⟩,
   ⟨wHeld, 0, 1, { w := { src := .cxl 0 4, line := 1, dom := 0, mask := 1, data := 0, poison := false, stamp := 0 }, holders := [0], since := 0 }, by decide +kernel⟩,
   ⟨wEvicting, 0, by decide +kernel⟩,
   ⟨wRead .admission, 3, wOut .admission, by decide +kernel⟩,
   ⟨wRead .held, 3, wOut .held, by decide +kernel⟩,
   ⟨wRead .transit, 3, wOut .transit, by decide +kernel⟩,
   ⟨wQs 1, 1, { line := 1, dom := 0, mask := 1, data := 0xFF, poison := false, epoch := 0, leaving := false }, by decide +kernel⟩⟩

/-- The hypotheses of `Obligations.LostWritesAndPersistentFlush` can be met, clause by clause. -/
theorem hyps_LostWritesAndPersistentFlush :
    (∃ (s : State) (l : Nat), s.linkUp l = true ∧ s.linkHeld l = false) ∧
    (∃ (s : State) (l : Nat), s.linkUp l = true ∧ s.linkHeld l = true) ∧
    (∃ (s : State) (l : Nat), s.linkUp l = true) :=
  ⟨⟨wOnline, 0, by decide +kernel⟩,
   ⟨wHeld, 0, by decide +kernel⟩,
   ⟨wOnline, 0, by decide +kernel⟩⟩

/-- The hypotheses of `Obligations.MailboxQueriesAnswer` can be met, clause by clause. -/
theorem hyps_MailboxQueriesAnswer :
    (∃ (s : State) (n log : Nat), n < s.ldCount) ∧
    (∃ (s : State) (n : Nat), n < s.ldCount) ∧
    (∃ (s : State) (n : Nat), n < s.ldCount) ∧
    (∃ (s : State) (n : Nat), n < s.ldCount) ∧
    (∃ (s : State) (n log o k : Nat), n < s.ldCount) ∧
    (∃ (s : State) (n : Nat), n < s.ldCount) ∧
    (∃ (s : State) (n : Nat), n < s.ldCount) ∧
    (∃ (s : State) (n : Nat), n < s.ldCount) ∧
    (∃ (s : State) (n : Nat), n < s.ldCount) ∧
    (∃ (s : State) (n dpa len limit : Nat), n < s.ldCount) :=
  ⟨⟨State.reset, 63, 1, by decide +kernel⟩,
   ⟨State.reset, 0, by decide +kernel⟩,
   ⟨State.reset, 0, by decide +kernel⟩,
   ⟨State.reset, 0, by decide +kernel⟩,
   ⟨State.reset, 0, 1, 2, 3, by decide +kernel⟩,
   ⟨State.reset, 0, by decide +kernel⟩,
   ⟨State.reset, 0, by decide +kernel⟩,
   ⟨State.reset, 0, by decide +kernel⟩,
   ⟨State.reset, 0, by decide +kernel⟩,
   ⟨State.reset, 0, 0, 64, 1, by decide +kernel⟩⟩

/-- The hypotheses of `Obligations.MailboxSettingsAndPoisonTakeEffect` can be met, clause by clause. -/
theorem hyps_MailboxSettingsAndPoisonTakeEffect :
    (∃ (s : State) (n log : Nat) (h : List Nat), n < s.ldCount) ∧
    (∃ (s : State) (n log h : Nat), n < s.ldCount ∧ s.win.cxlLogs.any (fun r => r.ld = n && r.log = log && r.handle = h) = true) ∧
    (∃ (s : State) (n log h : Nat), n < s.ldCount ∧ s.win.cxlLogs.any (fun r => r.ld = n && r.log = log && r.handle = h) = false) ∧
    (∃ (s : State) (n : Nat) (v : BitVec 32), n < s.ldCount) ∧
    (∃ (s : State) (n k : Nat) (v : BitVec 64), n < s.ldCount ∧ k ≠ n) ∧
    (∃ (s : State) (n : Nat) (v : BitVec 64), n < s.ldCount ∧ s.isMgmt n = true) ∧
    (∃ (s : State) (n : Nat) (v : BitVec 64), n < s.ldCount ∧ s.isMgmt n = false) ∧
    (∃ (s : State) (n dpa a : Nat), n < s.ldCount ∧ s.isMgmt n = true ∧ s.on F.winCtlInjectPoisonEnable = true ∧ dpaToAddr (s.extents n) dpa = some a) ∧
    (∃ (s : State) (n dpa a : Nat) (d : BitVec 512), n < s.ldCount ∧ dpaToAddr (s.extents n) dpa = some a) ∧
    (∃ (s : State) (n dpa : Nat) (d : BitVec 512), n < s.ldCount ∧ dpaToAddr (s.extents n) dpa = none) ∧
    (∃ (s : State) (n op : Nat), n < s.ldCount ∧ s.mboxSupported n op = false) ∧
    (∃ (s : State) (l : Nat), s.linkPresent l = true ∧ 1 < s.linkLds l) ∧
    (∃ (s : State) (l a n : Nat), s.linkPresent l = true ∧ 1 < s.linkLds l) ∧
    (∃ (s : State) (l : Nat) (p : List Nat), s.linkPresent l = true ∧ 1 < s.linkLds l) :=
  ⟨⟨wLogs, 2, 1, [], by decide +kernel⟩,
   ⟨wLogs, 2, 1, 7, by decide +kernel⟩,
   ⟨wLogs, 2, 1, 8, by decide +kernel⟩,
   ⟨State.reset, 5, 9, by decide +kernel⟩,
   ⟨State.reset, 5, 6, 9, by decide +kernel⟩,
   ⟨State.reset, 0, 9, by decide +kernel⟩,
   ⟨State.reset, 1, 9, by decide +kernel⟩,
   ⟨wInject, 0, 64, 64, by decide +kernel⟩,
   ⟨wInject, 0, 64, 64, 5, by decide +kernel⟩,
   ⟨State.reset, 0, 64, 5, by decide +kernel⟩,
   ⟨State.reset, 3, 0x4400, by decide +kernel⟩,
   ⟨wMld, 0, by decide +kernel⟩,
   ⟨wMld, 0, 1, 2, by decide +kernel⟩,
   ⟨wMld, 0, [], by decide +kernel⟩⟩

/-- The hypotheses of `Obligations.LineCacheEnableDisableAndErrors` can be met, clause by clause. -/
theorem hyps_LineCacheEnableDisableAndErrors :
    (∃ (s : State) (v : BitVec 32), s.get F.winStatusWindowState ≠ 3 ∧ s.cacheOn = false ∧ s.lc.retained = false) ∧
    (∃ (s : State) (v : BitVec 32), s.get F.winStatusWindowState ≠ 3 ∧ s.cacheOn = false ∧ s.lc.retained = true) ∧
    (∃ (s : State) (v : BitVec 32), s.cacheOn = true ∧ s.get F.lcStatusDirtyCount = 0 ∧ s.lc.ops.any (fun o => o.op = opLock || o.op = opPrefetch) = false) ∧
    (∃ (s : State) (v : BitVec 32), s.cacheOn = true ∧ s.get F.lcStatusDirtyCount ≠ 0) ∧
    (∃ (s : State) (o : RangeOp), s.lc.ops = [o] ∧ s.canTurn o = true ∧ o.slot < 8) ∧
    (∃ (s : State) (line : Nat) (c : CacheLine) (w : Way), s.cached? line = some c ∧ s.way? (linePage line) = some w ∧ c.dirty = false) ∧
    (∃ (s : State) (line : Nat) (c : CacheLine) (w : Way), s.cached? line = some c ∧ s.way? (linePage line) = some w ∧ c.dirty = true) ∧
    (∃ (s : State) (set way : Nat), set < s.lcSets ∧ way < 16 ∧ s.lc.ways.find? (fun w => w.set = set && w.way = way) = none) ∧
    (∃ (s : State) (set way : Nat), set < s.lcSets ∧ way < 16 ∧ s.lc.ways.find? (fun w => w.set = set && w.way = way) = none ∧ s.get F.perStatusState = 0) :=
  ⟨⟨State.reset, 1, by decide +kernel⟩,
   ⟨{ State.reset with lc := { State.reset.lc with retained := true } }, 1, by decide +kernel⟩,
   ⟨State.reset.put F.lcCtlEnable true, 0, by decide +kernel⟩,
   ⟨(State.reset.put F.lcCtlEnable true).set F.lcStatusDirtyCount 3, 0, by decide +kernel⟩,
   ⟨wRangeOp, wClean, by decide +kernel⟩,
   ⟨wCached false, 5, wLine false, wWay false, by decide +kernel⟩,
   ⟨wCached true, 5, wLine true, wWay true, by decide +kernel⟩,
   ⟨State.reset, 524287, 15, by decide +kernel⟩,
   ⟨State.reset, 524287, 15, by decide +kernel⟩⟩

/-- The hypotheses of `Obligations.BankReadsAndStrongDecodes` can be met, clause by clause. -/
theorem hyps_BankReadsAndStrongDecodes :
    (∃ (s : State) (n : Nat) (r : OutRead), s.outRead? n = some r ∧ r.stage = .transit ∧ s.pageOnline r.loc = true ∧ (s.bank (pageBank r.loc)).latch = some (pageRow r.loc) ∧ r.retried = false) ∧
    (∃ (s : State) (n : Nat) (r : OutRead), s.outRead? n = some r ∧ r.stage = .transit ∧ s.pageOnline r.loc = true ∧ (s.bank (pageBank r.loc)).latch = none ∧ (s.bank (pageBank r.loc)).state = .segment) ∧
    (∃ (s : State) (n : Nat) (r : OutRead), s.outRead? n = some r ∧ r.stage = .transit ∧ s.pageOnline r.loc = false) ∧
    (∃ (s : State) (n : Nat) (r : OutRead) (words : List Nat), s.outRead? n = some r ∧ r.stage = .sensing ∧ ((s.mediaLine? r.loc (r.line % 64)).map (·.tag.poison)).getD false = false) ∧
    (∃ (s : State) (n : Nat) (r : OutRead) (words : List Nat) (d : BitVec 512), s.outRead? n = some r ∧ r.stage = .sensing) ∧
    (∃ (s : State) (n : Nat) (r : OutRead), s.outRead? n = some r ∧ r.stage = .sensing ∧ r.retried = false) ∧
    (∃ (s : State) (n : Nat) (r : OutRead) (l : List (Nat × Nat)), s.outRead? n = some r ∧ r.stage = .pageSensing) ∧
    (∃ (s : State) (n k : Nat) (r : OutRead) (l : List (Nat × Nat)), s.outRead? n = some r ∧ r.stage = .pageSensing ∧ k = r.line % 64) ∧
    (∃ (s : State) (n : Nat) (r : OutRead) (l : List (Nat × Nat)), s.outRead? n = some r ∧ r.stage = .decoding) ∧
    (∃ (s : State) (n : Nat) (r : OutRead) (l : List (Nat × Nat)), s.outRead? n = some r ∧ r.stage = .decoding) :=
  ⟨⟨wBanked .transit .reading (some 0), 3, wOut .transit, by decide +kernel⟩,
   ⟨wBanked .transit .segment none, 3, wOut .transit, by decide +kernel⟩,
   ⟨wRead .transit, 3, wOut .transit, by decide +kernel⟩,
   ⟨wBanked .sensing .reading (some 0), 3, wOut .sensing, [], by decide +kernel⟩,
   ⟨wBanked .sensing .reading (some 0), 3, wOut .sensing, [], 5, by decide +kernel⟩,
   ⟨wBanked .sensing .reading (some 0), 3, wOut .sensing, by decide +kernel⟩,
   ⟨wBanked .pageSensing .pageReading (some 0), 3, wOut .pageSensing, [], by decide +kernel⟩,
   ⟨wBanked .pageSensing .pageReading (some 0), 3, 1, wOut .pageSensing, [], by decide +kernel⟩,
   ⟨wBanked .decoding .reading (some 0), 3, wOut .decoding, [], by decide +kernel⟩,
   ⟨wBanked .decoding .reading (some 0), 3, wOut .decoding, [], by decide +kernel⟩⟩

/-- The hypotheses of `Obligations.MediaWritesAtTheirBanks` can be met, clause by clause. -/
theorem hyps_MediaWritesAtTheirBanks :
    (∃ (s : State) (n l : Nat) (w : MediaWrite), s.mWrite? n = some w ∧ s.destination? w = some l ∧ w.phase = .waiting ∧ s.captureFor? w = none ∧ s.pageOnline l = true ∧ s.mayStart w l = true ∧ s.overtaken w = false ∧ s.refill.tokenCost (pageChan l) w.lines.length ≤ s.refill.mt.tokens) ∧
    (∃ (s : State) (n l : Nat) (w : MediaWrite), s.mWrite? n = some w ∧ s.destination? w = some l ∧ w.phase = .waiting ∧ s.captureFor? w = none ∧ s.pageOnline l = true ∧ s.mayStart w l = true ∧ s.overtaken w = false ∧ s.refill.mt.tokens < s.refill.tokenCost (pageChan l) w.lines.length) ∧
    (∃ (s : State) (c k : Nat) (w : MediaWrite), (s.bank (c * 32 + k)).write.bind s.mWrite? = some w ∧ w.phase = .comparing ∧ (s.bank (c * 32 + k)).state = .comparing ∧ s.flips w.loc w.lines = (false, false)) ∧
    (∃ (s : State) (c k : Nat) (w : MediaWrite), (s.bank (c * 32 + k)).write.bind s.mWrite? = some w ∧ (s.bank (c * 32 + k)).state = .segment ∧ w.resets = false) ∧
    (∃ (s : State) (c k : Nat) (f : BitVec 64) (w : MediaWrite), (s.bank (c * 32 + k)).write.bind s.mWrite? = some w ∧ (s.bank (c * 32 + k)).state = .segment ∧ w.resets = true ∧ w.sets = true ∧ w.segments + 1 < s.maxSegments c ∧ (s.bank (c * 32 + k)).queue ≠ []) ∧
    (∃ (s : State) (c k p : Nat) (w : MediaWrite), (s.bank (c * 32 + k)).write.bind s.mWrite? = some w ∧ w.paused = some p ∧ p + 10000 ≤ s.clk ∧ (s.bank (c * 32 + k)).flying = [] ∧ (s.bank (c * 32 + k)).state = .reading) ∧
    (∃ (s : State) (n : Nat) (w : MediaWrite), s.mWrite? n = some w ∧ w.phase = .reported ∧ w.kind = .writeBack ∧ w.page = none) :=
  ⟨⟨wWrite .waiting .idle none none, 4, 0, wMw .waiting none, by decide +kernel⟩,
   ⟨{ wWrite .waiting .idle none none with mt := { (wWrite .waiting .idle none none).mt with tokens := 0 } }, 4, 0, wMw .waiting none, by decide +kernel⟩,
   ⟨wWrite .comparing .comparing (some 4) none, 0, 0, wMw .comparing none, by decide +kernel⟩,
   ⟨wWrite .loaded .segment (some 4) none, 0, 0, wMw .loaded none, by decide +kernel⟩,
   ⟨wPaused .segment none [3], 0, 0, 1, { wMw .loaded none with resets := true, sets := true }, by decide +kernel⟩,
   ⟨wPaused .reading (some 0) [], 0, 0, 0, { wMw .loaded (some 0) with resets := true, sets := true }, by decide +kernel⟩,
   ⟨wWrite .reported .idle none none, 4, wMw .reported none, by decide +kernel⟩⟩

/-- The hypotheses of `Obligations.ChannelsTrainAndRetrain` can be met, clause by clause. -/
theorem hyps_ChannelsTrainAndRetrain :
    (∃ (s : State) (c : Nat) (a b : BitVec 64) (m : Nat), c < s.channels ∧ s.get (F.mtChStatusState c) ≤ 1 ∧ s.on (F.mtChCtlEnable c) = true ∧ (s.chan c).step = 0 ∧ (s.chan c).fails0 < 3 ∧ (s.chan c).fails1 < 3) ∧
    (∃ (s : State) (c n : Nat) (a b : BitVec 64) (m : Nat), c < s.channels ∧ s.get (F.mtChStatusState c) ≤ 1 ∧ s.on (F.mtChCtlEnable c) = true ∧ (s.chan c).step + 1 = n ∧ 2 ≤ n ∧ n ≤ 6 ∧ (s.chan c).fails0 < 3 ∧ (s.chan c).fails1 < 3) ∧
    (∃ (s : State) (c n : Nat) (a b : BitVec 64) (m : Nat), c < s.channels ∧ s.get (F.mtChStatusState c) ≤ 1 ∧ s.on (F.mtChCtlEnable c) = true ∧ (s.chan c).step + 1 = n ∧ 2 ≤ n ∧ n ≤ 6 ∧ (s.chan c).fails0 < 3 ∧ (s.chan c).fails1 < 3) ∧
    (∃ (s : State) (c : Nat) (a b : BitVec 64) (m : Nat), c < s.channels ∧ s.get (F.mtChStatusState c) ≤ 1 ∧ s.on (F.mtChCtlEnable c) = true ∧ (s.chan c).step = 7 ∧ (s.chan c).fails0 < 3 ∧ (s.chan c).fails1 < 3) ∧
    (∃ (s : State) (c : Nat), c < s.channels ∧ s.get (F.mtChStatusState c) = 2) ∧
    (∃ (s : State) (c : Nat), c < s.channels ∧ s.get (F.mtChStatusState c) = 2 ∧ s.get (F.mtChCtlRetrainPeriod c) ≠ 0 ∧ (s.chan c).trained + s.get (F.mtChCtlRetrainPeriod c) * 100000000 ≤ s.clk) ∧
    (∃ (s : State) (c m : Nat), c < s.channels ∧ s.get (F.mtChStatusState c) = 3 ∧ (s.chan c).slice < 35 ∧ 10 ≤ m) ∧
    (∃ (s : State) (c m : Nat), c < s.channels ∧ s.get (F.mtChStatusState c) = 3 ∧ 35 ≤ (s.chan c).slice ∧ 10 ≤ m) ∧
    (∃ (s : State) (c r m : Nat), c < s.channels ∧ r < 2 ∧ s.rankOnline c r = true ∧ ((s.chan c).caErrors.filter (fun t => s.clk < t + 1000000000)).length < 15) ∧
    (∃ (s : State) (c r m : Nat), c < s.channels ∧ r < 2 ∧ s.rankOnline c r = true ∧ (s.chan c).alerts = 1 ∧ s.get (F.mtChStatusState c) = 2) :=
  ⟨⟨wTrainable 0 0, 31, 0, 0, 0, by decide +kernel⟩,
   ⟨wTrainable 1 5, 31, 6, 0, 0, 0, by decide +kernel⟩,
   ⟨wTrainable 1 1, 31, 2, 0, 0, 0, by decide +kernel⟩,
   ⟨wTrainable 1 7, 31, 0, 0, 300, by decide +kernel⟩,
   ⟨wTrainable 2 8, 31, by decide +kernel⟩,
   ⟨{ (wTrainable 2 8).set (F.mtChCtlRetrainPeriod 31) 1 with clk := 100000000 }, 31, by decide +kernel⟩,
   ⟨wTrainable 3 8, 31, 10, by decide +kernel⟩,
   ⟨(wTrainable 3 8).setChan 31 { Chan.reset with slice := 35 }, 31, 10, by decide +kernel⟩,
   ⟨wTrainable 2 8, 31, 1, 5, by decide +kernel⟩,
   ⟨(wTrainable 2 8).setChan 31 { Chan.reset with alerts := 1 }, 31, 1, 5, by decide +kernel⟩⟩

/-- The hypotheses of `Obligations.RewritesRefreshAndScrubbing` can be met, clause by clause. -/
theorem hyps_RewritesRefreshAndScrubbing :
    (∃ (s : State) (n : Nat) (x : Rewrite) (l : List (Nat × Nat)) (bad : List Nat), s.mt.rewrites.find? (fun (x : Rewrite) => x.id = n) = some x ∧ x.started = false ∧ s.pageBusy x = false ∧ s.rewriteOpen x = true) ∧
    (∃ s : State, s.on F.mtDriftStatusBehind = false) ∧
    (∃ (s : State) (k : Nat), s.refreshNext? = some k ∧ s.mt.rewrites.any (fun x => decide (x.kind = RewriteKind.refresh) && State.tileOf x.src = k) = false ∧ (State.tilePages k).filter s.needsRefresh = []) ∧
    (∃ s : State, s.tileLate = true ∧ s.on F.mtDriftStatusBehind = false) ∧
    (∃ (s : State) (c p : Nat) (b : Bool), c < s.channels ∧ (s.lapPages c).find? (fun x => (s.chan c).pos ≤ State.lapPos x) = some p ∧ s.mayScrub c p = true ∧ (s.lapPages c).getLast? ≠ some p) ∧
    (∃ (s : State) (c : Nat), c < s.channels ∧ s.on (F.mtChScrubStatusStarved c) = false ∧ s.lapPages c ≠ [] ∧ (s.chan c).scrubbed + 3600000000000 ≤ s.clk) ∧
    (∃ (s : State) (c : Nat), c < s.channels ∧ s.on (F.mtChScrubStatusOverLimit c) = false ∧ s.lapPages c ≠ [] ∧ max 1 (s.get F.mtScrubCfgLapLimit) * 86400000000000 < s.clk - (s.chan c).lap) :=
  ⟨⟨wRewrite, 9, { id := 9, kind := .refresh, page := none, src := 0, dst := 0, started := false, done := false }, [], [], by decide +kernel⟩,
   ⟨State.reset, by decide +kernel⟩,
   ⟨{ wChannel with mt := { wChannel.mt with refresh := [(7, 0)] } }, 7, by decide +kernel⟩,
   ⟨{ wChannel with clk := 86400000000001, mt := { wChannel.mt with refresh := [(7, 0)] } }, by decide +kernel⟩,
   ⟨wScrub 5000000, 0, checkRow, false, by (simp only [wScrub_lap]; decide +kernel)⟩,
   ⟨wScrub 3600000000000, 0, by (simp only [wScrub_lap]; decide +kernel)⟩,
   ⟨wScrub 8640000000000000, 0, by (simp only [wScrub_lap]; decide +kernel)⟩⟩

/-- The hypotheses of `Obligations.PagesAndRanksRetire` can be met, clause by clause. -/
theorem hyps_PagesAndRanksRetire :
    (∃ (s : State) (l d : Nat), s.on F.mtRetireStatBusy = false ∧ s.get F.mtRetireAddrTarget % 2 ^ 44 / 4096 / pagesPerPlot < s.winPlots ∧ s.locate (s.get F.mtRetireAddrTarget % 2 ^ 44 / 4096) = some l ∧ s.spareFor? (pageChan l) = some d ∧ s.md.exc.length < 1048576) ∧
    (∃ (s : State) (p : Plot) (d : Nat), s.on F.mtRetireStatBusy = false ∧ s.pageAt? (s.get F.mtRetireAddrTarget % 2 ^ 32) = none ∧ s.gapOf? (s.get F.mtRetireAddrTarget % 2 ^ 32) = some p ∧ s.spareFor? (pageChan (s.get F.mtRetireAddrTarget % 2 ^ 32)) = some d ∧ s.md.exc.length < 1048576) ∧
    (∃ s : State, s.on F.mtRetireStatBusy = false ∧ s.get F.mtRetireAddrTarget % 32 < s.channels ∧ (s.plotsOn (s.get F.mtRetireAddrTarget % 32)).length ≤ s.freeElsewhere (s.get F.mtRetireAddrTarget % 32)) ∧
    (∃ s : State, s.on F.mtRetireStatBusy = true) ∧
    (∃ s : State, s.on F.mtRetireStatBusy = true) ∧
    (∃ s : State, s.on F.mtRetireStatBusy = true) ∧
    (∃ (s : State) (x : Rewrite) (i : RetireIntent), s.mt.rewrites.find? (fun (x : Rewrite) => decide (x.kind = RewriteKind.retirement) && x.done) = some x ∧ s.md.retire = some i ∧ s.gapOf? x.src = none ∧ s.md.exc.length < 943718) :=
  ⟨⟨wPlaced, (wPlaced.locate 0).getD 0, (wPlaced.spareFor? (pageChan ((wPlaced.locate 0).getD 0))).getD 0, by decide +kernel⟩,
   ⟨wPlaced.set F.mtRetireAddrTarget 65535, wPlot, (wPlaced.spareFor? 0).getD 0, by decide +kernel⟩,
   ⟨State.reset.set F.mtRetireAddrTarget 63, by decide +kernel⟩,
   ⟨State.reset.put F.mtRetireStatBusy true, by decide +kernel⟩,
   ⟨State.reset.put F.mtRetireStatBusy true, by decide +kernel⟩,
   ⟨State.reset.put F.mtRetireStatBusy true, by decide +kernel⟩,
   ⟨wRetiring, { id := 9, kind := .retirement, page := none, src := 7, dst := 8, started := true, done := true }, { op := 2, src := 7, dst := 8, page := none }, by decide +kernel⟩⟩

/-- The hypotheses of `Obligations.FlashDescriptorsFinish` can be met, clause by clause. -/
theorem hyps_FlashDescriptorsFinish :
    (∃ (s : State) (r h : Nat) (d : Desc), s.startedDesc? r h opFtRead = some d ∧ s.srcWaits (.ring r h) = false ∧ d.left = 0 ∧ s.ftStatus false = stOk ∧ s.ftRefusal d = none ∧ d.count = 1 ∧ regionAt d.ftBuffer = .shm ∧ s.blockSource (d.hostBlock / 4) (d.hostBlock % 4) = .zero) ∧
    (∃ (s : State) (r h : Nat) (d : Desc) (o : List (BitVec 8)), s.startedDesc? r h opFtWrite = some d ∧ s.srcWaits (.ring r h) = false ∧ d.left = 0 ∧ s.ftStatus true = stOk ∧ s.ftRefusal d = none ∧ d.num 28 4 = 0 ∧ regionAt d.ftBuffer = .shm ∧ s.ready (.ring r h) [(d.ftBuffer, d.count * 4096)] = true ∧ s.journalFull true = false ∧ s.get F.perStatusState ≠ 4 ∧ 4 ≤ s.freeSlots ∧ d.count ≤ 4 ∧ (s.loadRegion (s.ringDom r) d.ftBuffer (d.count * 4096) o).2 = false) ∧
    (∃ (s : State) (r h : Nat) (d : Desc), s.startedDesc? r h opFtTrim = some d ∧ s.srcWaits (.ring r h) = false ∧ s.ftStatus true = stOk ∧ s.ftRefusal d = none ∧ d.hostBlock % 4 = 0 ∧ d.count % 4 = 0 ∧ s.journalFull true = false ∧ s.get F.perStatusState ≠ 4) ∧
    (∃ (s : State) (r h : Nat) (d : Desc), s.startedDesc? r h opFtFlush = some d ∧ s.srcWaits (.ring r h) = false ∧ s.ftStatus true = stOk ∧ s.ftRefusal d = none ∧ s.flushWaits d d.left = []) ∧
    (∃ (s : State) (r h : Nat) (d : Desc), s.startedDesc? r h opFtTrim = some d ∧ s.ftStatus true ≠ stOk) :=
  ⟨⟨wFt opFtRead, 5, 3, wFtD opFtRead, by decide +kernel⟩,
   ⟨wFt opFtWrite, 5, 3, wFtD opFtWrite, [7], by decide +kernel⟩,
   ⟨wFtRange opFtTrim, 5, 3, wFtRangeD opFtTrim, by decide +kernel⟩,
   ⟨wFtRange opFtFlush, 5, 3, wFtRangeD opFtFlush, by decide +kernel⟩,
   ⟨(wFtRange opFtTrim).set F.ftStatusState 3, 5, 3, wFtRangeD opFtTrim, by decide +kernel⟩⟩

/-- The hypotheses of `Obligations.FlashDiesReadsAndCalibration` can be met, clause by clause. -/
theorem hyps_FlashDiesReadsAndCalibration :
    (∃ (s : State) (c k : Nat), k < 16 ∧ s.nandUp c k = true) ∧
    (∃ (s : State) (c k : Nat) (x : Suspended), s.suspended? c k = some x ∧ s.ft.reads.any (fun r => locChan r.loc = c && locDie r.loc = k) = false) ∧
    (∃ (s : State) (c k : Nat), k < 16 ∧ s.nandUp c k = true ∧ s.get F.ftCalCfgPeriodHours ≠ 0 ∧ s.ft.calibrated.find? (fun x => x.1 = nandKey c k) = none ∧ s.get F.ftCalCfgPeriodHours * 3600000000000 ≤ s.clk ∧ (s.groupDies (s.dieGroup c k)).any (fun x => s.nandCalibrating x.1 x.2) = false) ∧
    (∃ (s : State) (c k : Nat), k < 16 ∧ s.nandUp c k = true ∧ s.nandCalibrating c k = true) ∧
    (∃ (s : State) (n k r h f : Nat) (x : NandRead) (b : Band) (m : Member), s.ft.reads.find? (fun r => r.id = n) = some x ∧ x.blocks = [k] ∧ x.want = .descriptor r h f ∧ x.attempts = 1 ∧ x.soft = false ∧ s.memberAt? x.loc = some (b, m) ∧ s.nandCalibrating m.chan m.die = false ∧ s.memberMissing m = false) ∧
    (∃ (s : State) (v : BitVec 64), s.ft.grants.any (fun g => g.1 != s.get F.ftGrantCursorIndex && bits g.2 63 1 = 1 && bits g.2 36 10 != bits (v &&& 0x80003FFFFFFFFFFF) 36 10 && bits g.2 0 18 < bits (v &&& 0x80003FFFFFFFFFFF) 0 18 + bits (v &&& 0x80003FFFFFFFFFFF) 18 18 && bits (v &&& 0x80003FFFFFFFFFFF) 0 18 < bits g.2 0 18 + bits g.2 18 18) = false) ∧
    (∃ (s : State) (v : BitVec 64), bits (v &&& 0x80003FFFFFFFFFFF) 63 1 = 1 ∧ s.ft.grants.any (fun g => g.1 != s.get F.ftGrantCursorIndex && bits g.2 63 1 = 1 && bits g.2 36 10 != bits (v &&& 0x80003FFFFFFFFFFF) 36 10 && bits g.2 0 18 < bits (v &&& 0x80003FFFFFFFFFFF) 0 18 + bits (v &&& 0x80003FFFFFFFFFFF) 18 18 && bits (v &&& 0x80003FFFFFFFFFFF) 0 18 < bits g.2 0 18 + bits g.2 18 18) = true) ∧
    (∃ (s : State) (k : Nat) (v : BitVec 32), k < 8 ∧ v.toNat % 64 ≠ 0 ∧ v.toNat % 64 ≤ 32 ∧ (((List.range 8).filter (fun i => i != k)).map (fun i => s.get (F.ftStreamCfgBands i))).sum + v.toNat % 64 ≤ 64 ∧ (((List.range 8).filter (fun i => i != k)).map (fun i => s.get (F.ftStreamCfgBands i))).sum + v.toNat % 64 ≤ 4 * s.dieGroups) :=
  ⟨⟨wFlash, 5, 15, by decide +kernel⟩,
   ⟨{ wFlash with ft := { wFlash.ft with suspended := [{ chan := 5, die := 2, since := 0, running := none }] } }, 5, 2, { chan := 5, die := 2, since := 0, running := none }, by decide +kernel⟩,
   ⟨{ wFlash with clk := 3600000000000000 }, 5, 2, by decide +kernel⟩,
   ⟨wFlash.setBit (F.ftChCalCalibrating 5) 2 true, 5, 2, by decide +kernel⟩,
   ⟨wNand, 6, 2, 5, 3, 0, wNandRead, wBand, wMember, by decide +kernel⟩,
   ⟨wFlash, 0x8000000000040001, by decide +kernel⟩,
   ⟨{ wFlash with ft := { wFlash.ft with grants := [(4, 0x8000001000040001)] } }, 0x8000000000040001, by decide +kernel⟩,
   ⟨wFlash, 7, 2, by decide +kernel⟩⟩

/-- The hypotheses of `Obligations.FlashProgramsReclaimAndFailures` can be met, clause by clause. -/
theorem hyps_FlashProgramsReclaimAndFailures :
    (∃ (s : State) (k : Nat) (x : Slot), s.slot? k = some x ∧ s.mayDestage x = true ∧ x.backing = .unmapped) ∧
    (∃ (s : State) (n : Nat) (g : ProgGroup) (b : Band), s.ft.groups.find? (fun g => g.band = n) = some g ∧ s.band? n = some b ∧ s.bandSuspended b = false ∧ s.journalFull true = false ∧ s.get F.ftHostPagesCount + g.pages.length < 2 ^ 48) ∧
    (∃ (s u : State) (k : Nat) (b : Band), s.ft.staged.any (fun x => x.page.stream = k && match x.kind with | .direct _ _ since => since + max 1 (s.get F.ftCtlPadUs) * 100000 ≤ s.clk | _ => false) = true ∧ s.ftWorks = true ∧ s.streamBand k = (u, some b)) ∧
    (∃ (s : State) (n : Nat) (b : Band), s.band? n = some b ∧ s.ftWorks = true ∧ b.degraded = true ∧ b.state = .closed ∧ s.bandBusy n = false) ∧
    (∃ (s : State) (v : Nat), s.freeBelow s.gcStart = true ∧ s.ftWorks = true ∧ s.ft.victim = some v) ∧
    (∃ (s : State) (n : Nat) (b : Band), s.band? n = some b ∧ b.state = .erasing ∧ s.bandSuspended b = false ∧ s.ft.reads.any (fun r => (s.memberAt? r.loc).any (fun x => x.1.num = n)) = false) ∧
    (∃ (s : State) (c k p : Nat) (b : Band) (m : Member), c < 64 ∧ s.fm.bands.find? (fun b => s.bandBusy b.num && b.members.any (fun m => m.chan = c && m.die = k)) = some b ∧ b.members.find? (fun m => m.chan = c && m.die = k) = some m) ∧
    (∃ (s : State) (c k p : Nat) (b : Band) (m : Member), c < 64 ∧ s.fm.bands.find? (fun b => b.state = .erasing && b.members.any (fun m => m.chan = c && m.die = k)) = some b ∧ b.members.find? (fun m => m.chan = c && m.die = k) = some m ∧ s.ft.reads.any (fun r => (s.memberAt? r.loc).any (fun x => x.1.num = b.num)) = false) :=
  ⟨⟨wSlotted, 0, wFslot, by decide +kernel⟩,
   ⟨{ wNand with ft := { wNand.ft with groups := [{ band := 9, row := 0, pages := [] }] } }, 9, { band := 9, row := 0, pages := [] }, wBand, by decide +kernel⟩,
   ⟨wPad, (wPad.streamBand 1).1, 1, (wPad.streamBand 1).2.getD wBand, by decide +kernel⟩,
   ⟨{ wNand with fm := { wNand.fm with bands := [{ wBand with degraded := true }] } }, 9, { wBand with degraded := true }, by decide +kernel⟩,
   ⟨{ (wFlash.set F.ftFreeGood 100).set F.ftGcCfgStartPermille 50 with ft := { wFlash.ft with victim := some 3 } }, 3, by decide +kernel⟩,
   ⟨wErasing, 9, { wBand with state := .erasing }, by decide +kernel⟩,
   ⟨{ wNand with ft := { wNand.ft with groups := [{ band := 9, row := 0, pages := [] }] } }, 5, 2, 3, wBand, wMember, by decide +kernel⟩,
   ⟨wErasing, 5, 2, 3, { wBand with state := .erasing }, wMember, by decide +kernel⟩⟩

/-- The hypotheses of `Obligations.HintsAndGrants` can be met, clause by clause. -/
theorem hyps_HintsAndGrants :
    (∃ (s : State) (r h : Nat) (d : Desc), s.startedDesc? r h opHint = some d ∧ s.srcWaits (.ring r h) = false ∧ s.hintRefusal d = none ∧ s.journalFull false = false ∧ d.hintKind = 1 ∧ d.hintSpace = 0 ∧ d.hintCount = 1) ∧
    (∃ (s : State) (r h : Nat) (d : Desc), s.startedDesc? r h opHint = some d ∧ s.srcWaits (.ring r h) = false ∧ s.hintRefusal d = none ∧ s.journalFull false = false ∧ d.hintKind = 1 ∧ d.hintSpace = 0 ∧ d.hintCount = 1) ∧
    (∃ (s : State) (r h : Nat) (d : Desc), s.startedDesc? r h opHint = some d ∧ s.srcWaits (.ring r h) = false ∧ s.hintRefusal d = none ∧ s.journalFull false = false ∧ d.hintKind = 2 ∧ d.hintCount = 1) ∧
    (∃ (s : State) (r h : Nat) (d : Desc), s.startedDesc? r h opHint = some d ∧ s.srcWaits (.ring r h) = false ∧ s.hintRefusal d = none ∧ s.journalFull false = false ∧ d.hintKind = 3 ∧ d.hintSpace = 0 ∧ d.hintCount = 1) ∧
    (∃ (s : State) (r h : Nat) (d : Desc), s.startedDesc? r h opHint = some d ∧ s.srcWaits (.ring r h) = false ∧ s.hintRefusal d = none ∧ s.journalFull false = false ∧ d.hintKind = 3 ∧ d.hintSpace = 0 ∧ d.hintCount = 1) ∧
    (∃ (s : State) (r h : Nat) (d : Desc), s.startedDesc? r h opHint = some d ∧ s.srcWaits (.ring r h) = false ∧ s.hintRefusal d = none ∧ s.journalFull false = false ∧ d.hintKind = 4) ∧
    (∃ (s : State) (r h k : Nat) (d : Desc), s.startedDesc? r h opHint = some d ∧ s.hintRefusal d = none ∧ s.journalFull false = false ∧ d.hintKind = 5 ∧ d.hintValue = 1 ∧ s.hazelAt? d.hintBase = none ∧ (s.group d.hintBase).hazelGranted = false ∧ s.on F.topCtlHazelGrantEnable = true ∧ (s.group d.hintBase).hazelAllowed = true ∧ s.groupMapped d.hintBase = false ∧ s.grantDie? d.hintBase = some k) ∧
    (∃ (s : State) (r h : Nat) (d : Desc), s.startedDesc? r h opHint = some d ∧ s.srcWaits (.ring r h) = false ∧ s.hintRefusal d = none ∧ s.journalFull false = false ∧ d.hintKind = 5 ∧ d.hintValue = 1 ∧ s.hazelAt? d.hintBase = none ∧ (s.group d.hintBase).hazelGranted = false ∧ (s.group d.hintBase).hazelAllowed = false) ∧
    (∃ (s : State) (v : BitVec 64), s.groupPlots (s.get F.topGroupCursorGroup) = [] ∧ s.md.nsHints.any (fun h => h.group = some (s.get F.topGroupCursorGroup)) = false ∧ (s.group (s.get F.topGroupCursorGroup)).hazelGranted = false ∧ s.journalFull false = false) ∧
    (∃ (s : State) (v : BitVec 64), (s.group (s.get F.topGroupCursorGroup)).hazelGranted = true ∧ bits v 0 10 ≠ (s.group (s.get F.topGroupCursorGroup)).domain) ∧
    (∃ (s : State) (k : Nat) (o : RangeOp), s.lc.ops.find? (fun o => o.slot = k) = some o ∧ s.opDone o = true ∧ o.owner = 0) :=
  ⟨⟨wHint 1 0 3 0, 5, 3, wHintD 1 0 3 0, by decide +kernel⟩,
   ⟨wHint 1 0 15 0, 5, 3, wHintD 1 0 15 0, by decide +kernel⟩,
   ⟨wHint 2 0 1 0, 5, 3, wHintD 2 0 1 0, by decide +kernel⟩,
   ⟨wHint 3 0 12 0, 5, 3, wHintD 3 0 12 0, by decide +kernel⟩,
   ⟨wHint 3 0 0xFFFF 0, 5, 3, wHintD 3 0 0xFFFF 0, by decide +kernel⟩,
   ⟨wHint 4 2 1 12, 5, 3, wHintD 4 2 1 12, by decide +kernel⟩,
   ⟨wHint 5 2 1 12, 5, 3, 0, wHintD 5 2 1 12, by (simp only [wHint_base, wHint_mapped, wHint_die]; decide +kernel)⟩,
   ⟨{ wHint 5 2 1 12 with md := { (wHint 5 2 1 12).md with groups := [(12, { Group.empty with valid := true })] } }, 5, 3, wHintD 5 2 1 12, by decide +kernel⟩,
   ⟨State.reset, 0xC05, by decide +kernel⟩,
   ⟨{ State.reset with md := { Meta.empty with groups := [(0, { Group.empty with valid := true, hazelGranted := true })] } }, 0xC05, by decide +kernel⟩,
   ⟨{ State.reset.set (F.lcRangeOpStatProgress 7) 4 with lc := { State.reset.lc with ops := [{ wClean with pos := 4 }] } }, 7, { wClean with pos := 4 }, by decide +kernel⟩⟩

/-- The hypotheses of `Obligations.HeatAndMigrations` can be met, clause by clause. -/
theorem hyps_HeatAndMigrations :
    (∃ s : State, s.top.ranked + 10000000000 ≤ s.clk) ∧
    (∃ s : State, s.top.halved + max 1 (s.get F.topHeatCfgHalfLife) * 60000000000 ≤ s.clk) ∧
    (∃ (s : State) (x : Nat × Nat) (i : Nat), s.noteLoads.top.overSince.find? (fun x => x.2 + max 1 (s.get F.topHeatCfgBalanceMinutes) * 60000000000 ≤ s.clk) = some x ∧ s.on F.topCtlBalanceEnable = true ∧ s.top.lastBalance = 0 ∧ s.hottest = [i] ∧ s.plotDie? i = some x.1 ∧ (s.plot i).pinned = false ∧ s.md.migrations = [] ∧ (s.plot i).group = none) ∧
    (∃ (s : State) (i : Nat), (s.plot i).readOnly = true ∧ (List.range s.part.dies).any s.dieHasSpares = true ∧ s.md.migrations = [] ∧ (s.plot i).span.isSome = true) ∧
    (∃ (s : State) (m : Migration), s.pendingMoves = [m] ∧ s.journalFull false = false ∧ s.moveWithdrawn m = true) ∧
    (∃ (s u : State) (m : Migration) (x : List Nat × Nat) (e : Span), s.pendingMoves = [m] ∧ s.journalFull false = false ∧ s.moveWithdrawn m = false ∧ s.maxMigrations ≠ 0 ∧ s.md.migrations.any (fun x => decide (x.state = MigState.copying) || decide (x.state = MigState.paused)) = false ∧ s.get F.perStatusState ≠ 4 ∧ s.moveSpan? m = some x ∧ s.makeSpan x = (u, some e)) ∧
    (∃ (s : State) (i : Nat) (m : Migration), s.migration? i = some m ∧ m.state = .copying ∧ s.journalFull false = false ∧ s.mt.rewrites.find? (fun (x : Rewrite) => decide (x.kind = RewriteKind.migration i)) = none) ∧
    (∃ (s : State) (i : Nat) (m : Migration), s.md.migrations.find? (fun m => m.plot = i && decide (m.state = MigState.releasing)) = some m ∧ s.journalFull false = false ∧ m.old.all (fun e => pageChan e.gapPage < 32) = true) ∧
    (∃ (s : State) (x : Slot), s.fm.slots.filter s.slotDue = [x] ∧ (s.startDestage x).showFull.on F.topStatusFcacheFull = false) ∧
    (∃ (s : State) (p : Nat) (w : MediaWrite) (x : Snapshot), s.per.capturing = [p] ∧ s.journalFull false = false ∧ s.mt.writes = [w] ∧ w.page = some p ∧ w.phase = .waiting ∧ s.captureFor? w = some x ∧ s.staged < s.stagingPages) :=
  ⟨⟨{ State.reset with clk := 10000000000 }, by decide +kernel⟩,
   ⟨{ State.reset with clk := 10000000000000 }, by decide +kernel⟩,
   ⟨wBalance, (0, 0), 0, by (simp only [wBalance_hottest]; decide +kernel)⟩,
   ⟨{ wPlaced with md := { Meta.empty with plots := [{ wPlot with readOnly := true }] } }, 0, by decide +kernel⟩,
   ⟨wMoving .pending true, wMig .pending true, by (simp only [wMoving_pending]; decide +kernel)⟩,
   ⟨wOwned, (wOwned.makeSpan ([0], 8192)).1, wMig .pending false, ([0], 8192), ((wOwned.makeSpan ([0], 8192)).2).getD ⟨[], 0, 0, 0⟩, by (simp only [wOwned_pending, wOwned_span]; decide +kernel)⟩,
   ⟨wMoving .copying false, 0, wMig .copying false, by decide +kernel⟩,
   ⟨wMoving .releasing false, 0, wMig .releasing false, by decide +kernel⟩,
   ⟨{ wSlotted with md := { Meta.empty with plots := [wFcachePlot] }, top := { wSlotted.top with shrunk := [0x10000] } }, wFslot, by decide +kernel⟩,
   ⟨wCapturing, 0, { wMw .waiting none with page := some 0, epoch := 9 }, { slot := 3, epoch := 8, state := .active }, by decide +kernel⟩⟩

/-- The hypotheses of `Obligations.JournalsCheckpointsAndQuicksetErrors` can be met, clause by clause. -/
theorem hyps_JournalsCheckpointsAndQuicksetErrors :
    (∃ (s : State) (n : Nat), s.per.journal.length ≤ n) ∧
    (∃ (s : State) (f : Bool), s.ckptDue f = true ∧ s.ckptMay f = true ∧ (s.ckpt f).phase = .idle) ∧
    (∃ (s : State) (f : Bool), s.ckptDue f = true ∧ s.ckptMay f = true ∧ (s.ckpt f).phase = .idle) ∧
    (∃ s : State, s.perUp = true ∧ s.ftReads = true ∧ s.per.window.phase = .idle ∧ s.per.ftier.phase = .idle) ∧
    (∃ (s : State) (f : Bool) (n : Nat), (s.ckpt f).phase = .imaging n ∧ s.perUp = true) ∧
    (∃ (s : State) (f : Bool) (n q : Nat), (s.ckpt f).phase = .ending n q ∧ s.perUp = true ∧ s.per.journal.any (fun r => r.seq = q && !r.durable) = false) ∧
    (∃ (s : State) (n : Nat), s.per.window.phase = .imaging n) ∧
    (∃ (s : State) (line : Nat) (e : QsEntry), s.qs? line = some e) :=
  ⟨⟨wJournal, 2, by decide +kernel⟩,
   ⟨{ wUp with clk := 600000000000 }, false, by decide +kernel⟩,
   ⟨{ wUp with clk := 600000000000 }, true, by decide +kernel⟩,
   ⟨wUp, by decide +kernel⟩,
   ⟨wCkpt (.imaging 5), false, 5, by decide +kernel⟩,
   ⟨wCkpt (.ending 5 6), false, 5, 6, by decide +kernel⟩,
   ⟨wCkpt (.imaging 5), 5, by decide +kernel⟩,
   ⟨wQs 1, 1, { line := 1, dom := 0, mask := 1, data := 0xFF, poison := false, epoch := 0, leaving := false }, by decide +kernel⟩⟩

/-- The hypotheses of `Obligations.FlushRecoveryAndSnapshotDeletion` can be met, clause by clause. -/
theorem hyps_FlushRecoveryAndSnapshotDeletion :
    (∃ s : State, s.get F.pwrStatusState = 3 ∧ s.get F.perStatusState < 4) ∧
    (∃ s : State, s.get F.perStatusState = 4 ∧ s.pw.cold = 0 ∧ s.per.flushStep ≤ 6) ∧
    (∃ s : State, s.get F.perStatusState = 4 ∧ s.pw.cold = 0 ∧ s.per.flushStep ≤ 6) ∧
    (∃ s : State, s.get F.perStatusState = 4 ∧ s.pw.cold = 0 ∧ s.per.flushStep = 7) ∧
    (∃ (s : State) (bad : List Nat), s.get F.perRecoveryPhase ≠ 0 ∧ s.get F.perStatusState < 4) ∧
    (∃ (s : State) (bad : List Nat), s.get F.perRecoveryPhase = 8 ∧ s.get F.perStatusState < 4) ∧
    (∃ s : State, s.get F.perStatusState = 0 ∧ s.get F.perRecoveryPhase ≠ 0 ∧ s.get F.winStatusWindowState = 0) ∧
    (∃ (s : State) (l : Nat) (bad : List Nat) (d : Bool), s.per.rebuild.head? = some l ∧ s.perUp = true) ∧
    (∃ (s : State) (k : Nat) (x : Snapshot), s.md.snaps.find? (fun x => x.slot = k && decide (x.state = SnapState.deleting)) = some x ∧ s.journalFull false = false ∧ s.md.captures.filter (fun c => c.epoch = x.epoch) = []) ∧
    (∃ (s : State) (k : Nat) (x : Snapshot) (c : Capture), s.md.snaps.find? (fun x => x.slot = k && decide (x.state = SnapState.deleting)) = some x ∧ s.journalFull false = false ∧ (s.md.captures.filter (fun c => c.epoch = x.epoch)).head? = some c) :=
  ⟨⟨wUp.set F.pwrStatusState 3, by decide +kernel⟩,
   ⟨wFlush 1, by decide +kernel⟩,
   ⟨wFlush 6, by decide +kernel⟩,
   ⟨wFlush 7, by decide +kernel⟩,
   ⟨State.reset.set F.perRecoveryPhase 6, [], by decide +kernel⟩,
   ⟨State.reset.set F.perRecoveryPhase 8, [], by decide +kernel⟩,
   ⟨State.reset.set F.perRecoveryPhase 2, by decide +kernel⟩,
   ⟨{ wUp with per := { wUp.per with rebuild := [7, 9] } }, 7, [], true, by decide +kernel⟩,
   ⟨wDeleting [], 3, { slot := 3, epoch := 8, state := .deleting }, by decide +kernel⟩,
   ⟨wDeleting [wCapture], 3, { slot := 3, epoch := 8, state := .deleting }, wCapture, by decide +kernel⟩⟩

/-- The hypotheses of `Obligations.HazelCoresLoadStoreAndSynchronise` can be met, clause by clause. -/
theorem hyps_HazelCoresLoadStoreAndSynchronise :
    (∃ (s : State) (h pc a n d : Nat) (g : Bool) (o : List (BitVec 8)), s.coreFree h = true ∧ s.hazelStatus h a n false = stOk ∧ State.localBlock a = true ∧ s.bufferHit? h a n = none ∧ s.ntHit? h a = none ∧ s.srcHeld (.hazel h) = false ∧ d ≠ 0 ∧ d < 32 ∧ (s.core h).x.length = 32) ∧
    (∃ (s : State) (h pc a n d : Nat) (g : Bool) (o : List (BitVec 8)) (b : BufStore), s.coreFree h = true ∧ s.hazelStatus h a n false = stOk ∧ s.bufferHit? h a n = some b ∧ b.addr ≤ a ∧ a + n ≤ b.addr + b.bytes.length ∧ State.doorbell? a = none ∧ d ≠ 0 ∧ d < 32 ∧ (s.core h).x.length = 32) ∧
    (∃ (s : State) (h pc a : Nat) (b : List (BitVec 8)), s.coreFree h = true ∧ s.hazelStatus h a b.length true = stOk ∧ (s.core h).buffer.length < 32) ∧
    (∃ (s : State) (h pc a : Nat) (b : List (BitVec 8)), s.coreFree h = true ∧ s.hazelStatus h a b.length true = stOk ∧ State.localBlock a = false ∧ State.doorbell? a = none ∧ (s.core h).nt = [] ∧ maskRange (a % 64) b.length ≠ maskAll) ∧
    (∃ (s : State) (h pc a x d : Nat) (op : AmoOp) (o : List (BitVec 8)), s.coreFree h = true ∧ a % 8 = 0 ∧ s.hazelStatus h a 8 true = stOk ∧ State.localBlock a = true ∧ a < codeBase ∧ (s.core h).nt = [] ∧ s.coreQuiet h = true ∧ (s.core h).dropped = false ∧ d ≠ 0 ∧ d < 32 ∧ (s.core h).x.length = 32) ∧
    (∃ (s : State) (h pc a d : Nat) (o : List (BitVec 8)), s.coreFree h = true ∧ a % 8 = 0 ∧ s.hazelStatus h a 8 false = stOk ∧ State.localBlock a = true ∧ (s.core h).nt = [] ∧ s.coreQuiet h = true ∧ (s.core h).dropped = false ∧ d ≠ 0 ∧ d < 32 ∧ (s.core h).x.length = 32) ∧
    (∃ (s : State) (h pc a d : Nat) (v : BitVec 64), s.coreFree h = true ∧ a % 8 = 0 ∧ s.hazelStatus h a 8 true = stOk ∧ State.localBlock a = true ∧ a < codeBase ∧ (s.core h).nt = [] ∧ s.coreQuiet h = true ∧ (s.core h).dropped = false ∧ d ≠ 0 ∧ d < 32 ∧ (s.core h).x.length = 32 ∧ (s.core h).resv = some (a / 64)) ∧
    (∃ (s : State) (h pc a d : Nat) (v : BitVec 64), s.coreFree h = true ∧ a % 8 = 0 ∧ s.hazelStatus h a 8 true = stOk ∧ (s.core h).nt = [] ∧ s.coreQuiet h = true ∧ (s.core h).dropped = false ∧ d ≠ 0 ∧ d < 32 ∧ (s.core h).x.length = 32 ∧ (s.core h).resv ≠ some (a / 64)) ∧
    (∃ (s : State) (h pc : Nat), s.coreFree h = true ∧ (s.core h).nt = [] ∧ s.coreQuiet h = true ∧ (s.core h).dropped = false) ∧
    (∃ (s : State) (h pc : Nat), s.coreFree h = true ∧ (s.core h).nt = [] ∧ (s.core h).buffer ≠ []) ∧
    (∃ (s : State) (h pc : Nat), s.coreFree h = true ∧ (s.core h).nt = [] ∧ s.coreQuiet h = true ∧ (s.core h).dropped = false) :=
  ⟨⟨wCore, 33, 0xE00000100000, scratchBase, 4, 31, true, [], by decide +kernel⟩,
   ⟨wBuffered, 33, 0, scratchBase, 2, 5, false, [], wBuf, by decide +kernel⟩,
   ⟨wCore, 33, 4, scratchBase, [1, 2, 3, 4], by decide +kernel⟩,
   ⟨wCore, 33, 4, 0x200000000008, [1, 2, 3, 4], by decide +kernel⟩,
   ⟨wCore, 33, 0, scratchBase, 7, 5, .add, [], by decide +kernel⟩,
   ⟨wCore, 33, 0, scratchBase, 5, [], by decide +kernel⟩,
   ⟨wReserved, 33, 0, scratchBase, 5, 77, by decide +kernel⟩,
   ⟨wCore, 33, 0, scratchBase, 5, 77, by decide +kernel⟩,
   ⟨wCore, 33, 8, by decide +kernel⟩,
   ⟨wBuffered, 33, 8, by decide +kernel⟩,
   ⟨wCore, 33, 8, by decide +kernel⟩⟩

/-- The hypotheses of `Obligations.HazelBuffersDrainAndFault` can be met, clause by clause. -/
theorem hyps_HazelBuffersDrainAndFault :
    (∃ (s : State) (h l : Nat) (b : NtBuf), (s.core h).nt.find? (fun b => b.line = l) = some b ∧ b.since + 1000 ≤ s.clk) ∧
    (∃ (s : State) (h : Nat) (b : BufStore) (l : List BufStore), (s.core h).buffer = b :: l ∧ b.sent = none ∧ State.localBlock b.addr = true ∧ (s.core h).barrier = none ∧ (s.core h).fault = none) ∧
    (∃ (s : State) (h k : Nat) (b : BufStore) (l : List BufStore), h < 256 ∧ (s.core h).buffer = b :: l ∧ b.sent = some k ∧ regionAt b.addr = .host ∧ k + s.storeTimeout b.addr ≤ s.clk ∧ (s.core h).barrier = none ∧ (s.core h).fault = none) ∧
    (∃ (s : State) (h pc a : Nat), s.coreFree h = true ∧ (s.core h).nt = [] ∧ (s.core h).buffer ≠ []) ∧
    (∃ (s : State) (h pc a : Nat), s.coreFree h = true ∧ s.get F.pvDebugStatusState = 3) ∧
    (∃ (s : State) (h : Nat), s.coreFree h = true ∧ s.coreState h = coreHandler) :=
  ⟨⟨wCombining, 33, 0x8000000000, { line := 0x8000000000, mask := 1, data := 5, since := 0 }, by decide +kernel⟩,
   ⟨wBuffered, 33, wBuf, [], by decide +kernel⟩,
   ⟨wSent, 33, 0, { addr := 0x400000000000, bytes := [1], early := true, sent := some 0 }, [], by decide +kernel⟩,
   ⟨wBuffered, 33, 8, 0, by decide +kernel⟩,
   ⟨wCore.set F.pvDebugStatusState 3, 33, 8, 0, by decide +kernel⟩,
   ⟨wCore.set (F.hzCoreStatusState 33) 4, 33, by decide +kernel⟩⟩

/-- The hypotheses of `Obligations.HazelKernelsRun` can be met, clause by clause. -/
theorem hyps_HazelKernelsRun :
    (∃ (s : State) (r h k : Nat) (d : Desc), s.startedDesc? r h opHzLaunch = some d ∧ s.hz.kernels.any (fun k => k.ring = r && k.handle = h) = false ∧ d.num 36 2 ≠ 0xFFFF ∧ s.launchDie (some (d.num 36 2)) = .ok k) ∧
    (∃ (s : State) (k : Nat) (x : Kernel) (i : KImage) (m g : List (BitVec 8)), s.hz.kernels.find? (fun x => x.die = k && x.phase = .queued) = some x ∧ s.clusterOnline k = true ∧ s.get F.perStatusState ≠ 4 ∧ s.packageLevel ≠ 4 ∧ s.reach x.dom x.image 64 = stOk ∧ s.hz.images.find? (fun i => i.die = k && i.addr = x.image && i.crc = (State.makeImage k x.image (s.imageBytes x.dom x.image m) s.clk).crc) = some i ∧ s.imageStatus x { i with used := s.clk } = stOk ∧ i.minCores ≤ (s.freeCores k).length ∧ i.sramKiB ≤ s.poolFree k ∧ x.timed = none) ∧
    (∃ (s : State) (h pc : Nat) (k : Kernel), s.coreFree h = true ∧ (s.core h).nt = [] ∧ s.coreQuiet h = true ∧ (s.core h).dropped = false ∧ s.kernelOf? h = some k ∧ k.die < 8) ∧
    (∃ (s : State) (h pc : Nat) (k : Kernel), s.coreFree h = true ∧ (s.core h).nt = [] ∧ s.coreQuiet h = true ∧ (s.core h).dropped = false ∧ s.kernelOf? h = some k ∧ k.syncs = [] ∧ k.cores.all (fun c => c = h) = false) ∧
    (∃ (s : State) (n : Nat) (k : Kernel), s.kernel? n = some k ∧ k.phase = .running ∧ k.cores.all (fun c => k.left.contains c) = true ∧ k.group = none ∧ k.die < 8) ∧
    (∃ (s : State) (n : Nat) (k : Kernel), s.kernel? n = some k ∧ k.phase = .running ∧ k.deadlineUs ≠ 0 ∧ k.begun + k.deadlineUs * 1000 ≤ s.clk) ∧
    (∃ (s : State) (h : Nat) (k : Kernel), h < s.part.cores ∧ s.coreState h ≠ coreOffline ∧ s.kernelOf? h = some k ∧ k.phase ≠ .ending) ∧
    (∃ (s : State) (h : Nat), h < 256 ∧ s.coreState h = coreDraining ∧ s.coreQuiet h = true ∧ s.kernelOf? h = none) ∧
    (∃ (s : State) (k : Nat) (v : BitVec 32), k < s.part.pick 256 128 ∧ s.on (F.hzShmGrantValid k) = false) ∧
    (∃ (s : State) (k : Nat) (v : BitVec 32) (x : Kernel), s.on (F.hzShmGrantValid k) = true ∧ s.hz.kernels = [x] ∧ x.dom = s.get (F.hzShmGrantDomain k) ∧ x.phase ≠ .ending) :=
  ⟨⟨wLaunch, 5, 3, 1, wLaunchD, by decide +kernel⟩,
   ⟨wQueued, 1, { wKernel with phase := .queued, cores := [] }, wImage, [], [], by decide +kernel⟩,
   ⟨wCore, 33, 8, wKernel, by decide +kernel⟩,
   ⟨wCore2, 33, 8, { wKernel with cores := [33, 34] }, by decide +kernel⟩,
   ⟨{ wCore with hz := { wCore.hz with kernels := [{ wKernel with left := [33] }] } }, 7, { wKernel with left := [33] }, by decide +kernel⟩,
   ⟨{ wCore with clk := 5000 }, 7, wKernel, by decide +kernel⟩,
   ⟨wCore, 33, wKernel, by decide +kernel⟩,
   ⟨State.reset.set (F.hzCoreStatusState 33) 5, 33, by decide +kernel⟩,
   ⟨State.reset, 255, 0xFFFF, by decide +kernel⟩,
   ⟨wCore, 0, 0xFFFF, wKernel, by decide +kernel⟩⟩

/-- The hypotheses of `Obligations.HazelRegistersRespondThroughDomainZeroOnly` can be met, clause by clause. -/
theorem hyps_HazelRegistersRespondThroughDomainZeroOnly :
    (∃ (s : State) (dom a w : Nat) (v : BitVec 64), dom ≠ 0 ∧ R.hzStatus ≤ a ∧ a < R.hzStatus + 0x1000) ∧
    (∃ (s : State) (dom a w : Nat) (v : BitVec 64), dom ≠ 0 ∧ R.hzStatus ≤ a ∧ a < R.hzStatus + 0x1000) ∧
    (∃ (s : State) (dom d a w : Nat) (v : BitVec 64), dom ≠ 0 ∧ d < 8 ∧ R.hzClCtl d ≤ a ∧ a < R.hzClCtl d + 0x12000) ∧
    (∃ (s : State) (dom d a w : Nat) (v : BitVec 64), dom ≠ 0 ∧ d < 8 ∧ R.hzClCtl d ≤ a ∧ a < R.hzClCtl d + 0x12000) ∧
    (∃ (s : State) (dom a w : Nat) (r : Bool), dom ≠ 0 ∧ R.hzStatus ≤ a ∧ a < R.hzStatus + 0x1000) ∧
    (∃ (s : State) (dom d a w : Nat) (r : Bool), dom ≠ 0 ∧ d < 8 ∧ R.hzClCtl d ≤ a ∧ a < R.hzClCtl d + 0x12000) ∧
    (∃ (s : State) (a w : Nat) (v : BitVec 64) (x : RegPlace), R.hzStatus ≤ a ∧ a < R.hzStatus + 0x1000 ∧ exactReg? s.part a w = some x) ∧
    (∃ (s : State) (d a w : Nat) (v : BitVec 64) (x : RegPlace), d < 8 ∧ R.hzClCtl d ≤ a ∧ a < R.hzClCtl d + 0x12000 ∧ exactReg? s.part a w = some x) :=
  ⟨⟨State.reset, 1, R.hzShmGrant 0, 4, 0x401, by decide +kernel⟩,
   ⟨State.reset, 1023, R.hzShmGrant 255, 4, 0, by decide +kernel⟩,
   ⟨State.reset, 1, 0, R.hzClCtl 0, 4, 1, by decide +kernel⟩,
   ⟨State.reset, 9, 7, R.hzCoreCtl 255, 4, 1, by decide +kernel⟩,
   ⟨State.reset, 1, R.hzStatus, 2, true, by decide +kernel⟩,
   ⟨State.reset, 1, 7, R.hzClCtl 7, 2, true, by decide +kernel⟩,
   ⟨State.reset, R.hzShmGrant 0, 4, 0x401, (exactReg? .mhl8082 (R.hzShmGrant 0) 4).get (by decide +kernel), by decide +kernel⟩,
   ⟨State.reset, 7, R.hzClCtl 7, 4, 1, (exactReg? .mhl8082 (R.hzClCtl 7) 4).get (by decide +kernel), by decide +kernel⟩⟩

/-- The hypotheses of `Obligations.RingPairsAreEnabledDrivenAndEmptied` can be met, clause by clause. -/
theorem hyps_RingPairsAreEnabledDrivenAndEmptied :
    (∃ (s : State) (r dom : Nat) (v : BitVec 16), r < 4096 ∧ s.pageRefused r dom = true) ∧
    (∃ (s : State) (r dom : Nat) (v : BitVec 16), r < 4096 ∧ s.pageRefused r dom = false ∧ s.remoteMode r = false ∧ s.ringState r = ringEnabled ∧ s.get (F.ringIndexSqTail r) ≠ v.toNat ∧ State.sub16 v.toNat (s.get (F.ringIndexSqHead r)) ≤ s.sqSize r) ∧
    (∃ (s : State) (r dom : Nat) (v : BitVec 16), r < 4096 ∧ s.pageRefused r dom = false ∧ s.ringState r ≠ ringDisabled ∧ s.get (F.ringIndexCqHead r) ≠ v.toNat ∧ State.sub16 (s.get (F.ringIndexCqTail r)) v.toNat ≤ s.cqUsed r) ∧
    (∃ (s : State) (r : Nat), r < 4096 ∧ s.ringState r = ringDisabled ∧ s.enableRefusal r = none) ∧
    (∃ (s : State) (r c : Nat), r < 4096 ∧ s.ringState r = ringDisabled ∧ s.enableRefusal r = some c) ∧
    (∃ (s : State) (r : Nat), r < 4096 ∧ (s.ringState r = ringEnabled ∨ s.ringState r = ringHalted) ∧ s.ringDescs r ≠ []) ∧
    (∃ (s : State) (r : Nat), r < 4096 ∧ (s.ringState r = ringEnabled ∨ s.ringState r = ringHalted) ∧ s.ringDescs r = []) ∧
    (∃ (s : State) (r : Nat), r < 4096 ∧ s.ringState r ≠ ringDisabled ∧ s.ringState r ≠ ringAborting ∧ s.ringDescs r = []) ∧
    (∃ (s : State) (d : Desc), d.ring < 4096 ∧ s.ringState d.ring ≠ ringDisabled ∧ s.ringState d.ring ≠ ringAborting ∧ s.rg.descs = [d] ∧ d.phase = .ready ∧ s.md.armed = [] ∧ s.hz.kernels = [] ∧ s.heldSlots d.ring d.handle = [] ∧ s.srcWaits (.ring d.ring d.handle) = false) ∧
    (∃ (s : State) (r : Nat) (v : BitVec 32), r < 4096 ∧ s.ringState r = ringDisabled) ∧
    (∃ (s : State) (r n : Nat), r < 4096 ∧ s.ringState r = ringEnabled ∧ 0 < n ∧ n ≤ 8 ∧ n ≤ State.sub16 (s.get (F.ringIndexSqTail r)) ((s.get (F.ringIndexSqHead r) + ((s.ringDescs r).filter (fun (d : Desc) => decide (d.phase = DescPhase.fetching))).length) % 65536) ∧ (s.ringDescs r).length + n ≤ s.get (F.ringBindInFlightMax r) ∧ s.cqUsed r + (s.ringDescs r).length + n ≤ s.cqSize r ∧ s.rg.descs.length + n ≤ 16384 ∧ s.get F.perStatusState ≠ 4 ∧ s.on F.pvSelftestBusy = false) ∧
    (∃ (s : State) (r : Nat) (d : Desc) (w : List (BitVec 64)), r < 4096 ∧ (s.ringDescs r).find? (fun d => d.phase = .fetching) = some d ∧ s.ringState r = ringEnabled ∧ regionAt (s.sqSlot r d.index) ≠ .window) ∧
    (∃ (s : State) (r : Nat) (d : Desc), r < 4096 ∧ (s.ringDescs r).find? (fun d => d.phase = .fetching) = some d ∧ s.ringState r = ringEnabled ∧ regionAt (s.sqSlot r d.index) ≠ .window) ∧
    (∃ (s : State) (r n : Nat) (m : Nat × List (BitVec 8)), r < 4096 ∧ s.remoteMode r = true ∧ s.ringState r = ringEnabled ∧ (s.rg.queues.filter (fun (x : Queue) => 32 ≤ x.q && x.q < 96)).findSome? (fun (x : Queue) => x.items.find? (fun i => i.1 = s.get (F.ringRemoteQp r))) = some m ∧ m.2.length = 64 * n ∧ 0 < n ∧ n ≤ 16 ∧ State.sub16 ((s.popQueue (s.get (F.ringRemoteQp r))).get (F.ringIndexSqTail r)) ((s.popQueue (s.get (F.ringRemoteQp r))).get (F.ringIndexSqHead r)) + ((s.popQueue (s.get (F.ringRemoteQp r))).ringDescs r).length + n ≤ (s.popQueue (s.get (F.ringRemoteQp r))).sqSize r) :=
  ⟨⟨wRingOn, 5, 3, 1, by decide +kernel⟩,
   ⟨wRingOn, 5, 0, 16, by decide +kernel⟩,
   ⟨wRingOn.set (F.ringIndexCqTail 5) 3, 5, 0, 3, by decide +kernel⟩,
   ⟨wRing, 5, by decide +kernel⟩,
   ⟨State.reset, 5, 0, by decide +kernel⟩,
   ⟨wRingD wFetching, 5, by decide +kernel⟩,
   ⟨wRingOn, 5, by decide +kernel⟩,
   ⟨wRingOn, 5, by decide +kernel⟩,
   ⟨wRingD { wStarted opNop [] with phase := .ready }, { wStarted opNop [] with phase := .ready }, by decide +kernel⟩,
   ⟨State.reset, 4095, 0x401, by decide +kernel⟩,
   ⟨wRingOn.set (F.ringIndexSqTail 5) 8, 5, 8, by decide +kernel⟩,
   ⟨wRingHost wFetching, 5, wFetching, [0, 0, 0, 0, 0, 0, 0, 0], by decide +kernel⟩,
   ⟨wRingHost wFetching, 5, wFetching, by decide +kernel⟩,
   ⟨wRemote, 5, 1, (7, List.replicate 64 1), by decide +kernel⟩⟩

/-- The hypotheses of `Obligations.DescriptorsRunAndComplete` can be met, clause by clause. -/
theorem hyps_DescriptorsRunAndComplete :
    (∃ (s : State) (r h : Nat) (d : Desc), s.startedDesc? r h opNop = some d ∧ s.srcWaits (.ring r h) = false) ∧
    (∃ (s u : State) (r h : Nat) (d : Desc) (o : List (BitVec 8)), s.startedDesc? r h opMove = some d ∧ s.opRefusal d = none ∧ s.ready (.ring r h) [(d.num 16 8, State.moveLen d)] = true ∧ State.copyRange (.ring r h) (s.ringDom r) d.stamp (d.num 16 8) (d.num 24 8) ((s.taken (.ring r h)).linePoison (s.ringDom r)) (State.moveLen d / 16 + 4) 0 ((s.taken (.ring r h)).loadRegion (s.ringDom r) (d.num 16 8) (State.moveLen d) o).1 none (s.taken (.ring r h)) = (u, none)) ∧
    (∃ (s : State) (r h st : Nat) (d : Desc) (o : List (BitVec 8)), s.startedDesc? r h opMove = some d ∧ s.opRefusal d = some st ∧ s.srcWaits (.ring r h) = false) ∧
    (∃ (s u : State) (r h : Nat) (d : Desc), s.startedDesc? r h opEpochCut = some d ∧ s.journalFull false = false ∧ s.md.armed.any (fun c => c.ring = r && c.handle = h) = false ∧ s.md.armed.any (fun c => c.epoch = d.num 16 4) = false ∧ d.num 16 4 = s.md.openEpoch ∧ s.md.lastEpochCut = none ∧ s.time.dtb < d.launch ∧ d.ring = r ∧ d.handle = h ∧ s.armCut? ⟨d.num 16 4, false, d.launch, r, h⟩ d.dropLate = some u) ∧
    (∃ (s u : State) (r h : Nat) (d : Desc), s.startedDesc? r h opSnapCut = some d ∧ s.journalFull false = false ∧ s.md.armed.any (fun c => c.ring = r && c.handle = h) = false ∧ s.md.armed.any (fun c => c.epoch = d.num 16 4) = false ∧ d.num 16 4 = s.md.openEpoch ∧ s.md.lastSnapCut = none ∧ s.time.dtb < d.launch ∧ d.ring = r ∧ d.handle = h ∧ s.md.snaps.length + (s.md.armed.filter (·.snapshot)).length < 16 ∧ s.armCut? ⟨d.num 16 4, true, d.launch, r, h⟩ d.dropLate = some u) ∧
    (∃ (s : State) (r h : Nat) (d : Desc) (x : Snapshot), s.startedDesc? r h opSnapDelete = some d ∧ s.journalFull false = false ∧ s.md.snaps.find? (fun x => x.epoch = d.num 16 4) = some x) ∧
    (∃ (s u : State) (r h : Nat) (d : Desc) (x : Snapshot), s.startedDesc? r h opSnapRead = some d ∧ s.opRefusal d = none ∧ s.md.snaps.find? (fun x => x.epoch = d.num 16 4) = some x ∧ x.state = .active ∧ s.modifiedLines (d.num 24 8) (State.moveLen d) = [] ∧ State.storeLines (.ring r h) (s.ringDom r) d.stamp (d.num 40 8) 0 ((List.range (State.moveLen d / 64)).map (fun k => s.snapLine (s.ringDom r) (d.num 24 8 / 64 + k) ((s.md.snaps.filter (fun y => x.epoch ≤ y.epoch)).map (·.epoch)).mergeSort)) none s = (u, none)) ∧
    (∃ (s : State) (r h : Nat) (d : Desc), s.startedDesc? r h opShutdown = some d ∧ s.get F.pwrStatusState = 3 ∧ s.get F.perStatusState < 4) ∧
    (∃ (s : State) (r h : Nat) (d : Desc), s.startedDesc? r h opCheckpoint = some d ∧ s.per.ckptWait.contains (r, h) = false) ∧
    (∃ (s : State) (r h st n : Nat) (d : Desc), r < 4096 ∧ s.desc? r h = some d ∧ d.phase = .finished st n ∧ d.late = false ∧ s.srcHeld (.ring r h) = false ∧ s.get F.perStatusState ≠ 4 ∧ s.get (F.ringStatusHaltCause r) ≠ 3 ∧ s.remoteMode r = false ∧ regionAt (s.cqSlot r (s.get (F.ringIndexCqTail r))) = .host) ∧
    (∃ (s : State) (r h m p : Nat) (d : Desc), r < 4096 ∧ s.desc? r h = some d ∧ d.phase = .started ∧ d.progress = true ∧ longOp d.op = true ∧ d.begun + (d.periods + 1) * (max 1 (s.get (F.ringCoalesceProgressPeriod r)) * 10000000) ≤ s.clk ∧ s.get (F.ringStatusHaltCause r) ≠ 3 ∧ s.get F.perStatusState ≠ 4 ∧ s.cqUsed r + (s.ringDescs r).length < s.cqSize r) ∧
    (∃ (s : State) (r h m p : Nat) (d : Desc), r < 4096 ∧ s.desc? r h = some d ∧ d.phase = .started ∧ d.progress = true ∧ longOp d.op = true ∧ d.begun + (d.periods + 1) * (max 1 (s.get (F.ringCoalesceProgressPeriod r)) * 10000000) ≤ s.clk ∧ s.get (F.ringStatusHaltCause r) ≠ 3 ∧ s.get F.perStatusState ≠ 4 ∧ s.cqSize r ≤ s.cqUsed r + (s.ringDescs r).length) ∧
    (∃ (s : State) (r : Nat) (u : Unnotified), s.rg.unnotified.find? (fun x => x.ring = r) = some u ∧ u.since + s.get (F.ringCoalesceUs r) * 1000 ≤ s.clk) :=
  ⟨⟨wRingD (wStarted opNop []), 5, 3, wStarted opNop [], by decide +kernel⟩,
   ⟨wRingD wMove, (State.copyRange (.ring 5 3) 0 0 0x1000 0x2000 (((wRingD wMove).taken (.ring 5 3)).linePoison 0) 8 0 (((wRingD wMove).taken (.ring 5 3)).loadRegion 0 0x1000 64 []).1 none ((wRingD wMove).taken (.ring 5 3))).1, 5, 3, wMove, [], by decide +kernel⟩,
   ⟨wRingD (wStarted opMove [0, 0, 0, 0]), 5, 3, stBadDescriptor, wStarted opMove [0, 0, 0, 0], [], by decide +kernel⟩,
   ⟨wRingD (wCutD opEpochCut), ((wRingD (wCutD opEpochCut)).armCut? ⟨0, false, 0x100000000, 5, 3⟩ false).getD State.reset, 5, 3, wCutD opEpochCut, by decide +kernel⟩,
   ⟨wRingD (wCutD opSnapCut), ((wRingD (wCutD opSnapCut)).armCut? ⟨0, true, 0x100000000, 5, 3⟩ false).getD State.reset, 5, 3, wCutD opSnapCut, by decide +kernel⟩,
   ⟨wSnap (wStarted opSnapDelete [0, 8]), 5, 3, wStarted opSnapDelete [0, 8], { slot := 3, epoch := 8, state := .active }, by decide +kernel⟩,
   ⟨wSnap wSnapRead, (State.storeLines (.ring 5 3) 0 0 0x2000 0 ((List.range 1).map (fun k => (wSnap wSnapRead).snapLine 0 (64 + k) [8])) none (wSnap wSnapRead)).1, 5, 3, wSnapRead, { slot := 3, epoch := 8, state := .active }, by decide +kernel⟩,
   ⟨((wRingD (wStarted opShutdown [])).set F.perStatusState 1).set F.pwrStatusState 3, 5, 3, wStarted opShutdown [], by decide +kernel⟩,
   ⟨wRingD (wStarted opCheckpoint []), 5, 3, wStarted opCheckpoint [], by decide +kernel⟩,
   ⟨wRingHost { wStarted opNop [] with phase := .finished stOk 0 }, 5, 3, stOk, 0, { wStarted opNop [] with phase := .finished stOk 0 }, by decide +kernel⟩,
   ⟨{ wRingD (wStarted (opMove + 0x2000) []) with clk := 100000000000 }, 5, 3, 500, 0, wStarted (opMove + 0x2000) [], by decide +kernel⟩,
   ⟨{ (wRingD (wStarted (opMove + 0x2000) [])).set (F.ringIndexCqTail 5) 15 with clk := 100000000000 }, 5, 3, 500, 0, wStarted (opMove + 0x2000) [], by decide +kernel⟩,
   ⟨{ wRingOn with rg := { RingState.reset with unnotified := [{ ring := 5, count := 1, since := 0 }] } }, 5, { ring := 5, count := 1, since := 0 }, by decide +kernel⟩⟩

/-- The hypotheses of `Obligations.RangeOperationsQueuesAndQuotas` can be met, clause by clause. -/
theorem hyps_RangeOperationsQueuesAndQuotas :
    (∃ (s : State) (i : Nat), i < 8 ∧ s.slotBusy i = false ∧ s.get (F.lcRangeOpCtlOwner i) = 0 ∧ (s.set (F.lcRangeOpCtlOp i) opClean).rangeRefusal opClean (s.get (F.lcRangeOpAddrSector i)) (s.get (F.lcRangeOpLenSectors i)) 0 = none) ∧
    (∃ (s : State) (i : Nat), i < 8 ∧ s.slotBusy i = false ∧ s.get (F.lcRangeOpCtlOwner i) = 0 ∧ (s.set (F.lcRangeOpCtlOp i) opInvalidate).rangeRefusal opInvalidate (s.get (F.lcRangeOpAddrSector i)) (s.get (F.lcRangeOpLenSectors i)) 0 = none) ∧
    (∃ (s : State) (i : Nat), i < 8 ∧ s.slotBusy i = false ∧ s.get (F.lcRangeOpCtlOwner i) = 0 ∧ (s.set (F.lcRangeOpCtlOp i) opPrefetch).rangeRefusal opPrefetch (s.get (F.lcRangeOpAddrSector i)) (s.get (F.lcRangeOpLenSectors i)) 0 = none) ∧
    (∃ (s : State) (i : Nat), i < 8 ∧ s.slotBusy i = false ∧ s.get (F.lcRangeOpCtlOwner i) = 0 ∧ (s.set (F.lcRangeOpCtlOp i) opLock).rangeRefusal opLock (s.get (F.lcRangeOpAddrSector i)) (s.get (F.lcRangeOpLenSectors i)) 0 = none) ∧
    (∃ (s : State) (i : Nat), i < 8 ∧ s.slotBusy i = false ∧ s.get (F.lcRangeOpCtlOwner i) = 0 ∧ (s.set (F.lcRangeOpCtlOp i) opUnlock).rangeRefusal opUnlock (s.get (F.lcRangeOpAddrSector i)) (s.get (F.lcRangeOpLenSectors i)) 0 = none) ∧
    (∃ (s : State) (i : Nat), i < 8 ∧ s.slotBusy i = false ∧ s.get (F.lcRangeOpCtlOwner i) = 0) ∧
    (∃ (s : State) (q : Nat), 32 ≤ q ∧ q < 96 ∧ s.queuePresent q = true) ∧
    (∃ (s : State) (q : Nat), 32 ≤ q ∧ q < 96 ∧ s.queuePresent q = true) ∧
    (∃ (s : State) (q n : Nat), 32 ≤ q ∧ q < 112 ∧ s.queuePresent q = true ∧ s.queueItems q = 0 ∧ ((((List.range 80).map (· + 32)).filter (fun x => s.queuePresent x && x != q)).map (fun x => s.get (F.qCfgSpillQuotaMiB x))).sum + n ≤ s.part.pick 4096 2048) ∧
    (∃ (s : State) (q n : Nat), 32 ≤ q ∧ q < 112 ∧ s.queuePresent q = true ∧ s.part.pick 4096 2048 < n) :=
  ⟨⟨wRange.set (F.lcRangeOpLenSectors 7) 2, 7, by decide +kernel⟩,
   ⟨wRange.set (F.lcRangeOpLenSectors 7) 2, 7, by decide +kernel⟩,
   ⟨wRange.set (F.lcRangeOpLenSectors 7) 2, 7, by decide +kernel⟩,
   ⟨wRange.set (F.lcRangeOpLenSectors 7) 2, 7, by decide +kernel⟩,
   ⟨wRange.set (F.lcRangeOpLenSectors 7) 2, 7, by decide +kernel⟩,
   ⟨State.reset, 0, by decide +kernel⟩,
   ⟨wRemote, 40, by decide +kernel⟩,
   ⟨State.reset, 95, by decide +kernel⟩,
   ⟨State.reset, 32, 1, by decide +kernel⟩,
   ⟨State.reset, 111, 5000, by decide +kernel⟩⟩

/-- The hypotheses of `Obligations.NetworkContextsRegionsAndPorts` can be met, clause by clause. -/
theorem hyps_NetworkContextsRegionsAndPorts :
    (∃ (s : State) (n : Nat) (v : BitVec 64), n < 65536 ∧ s.qp? n = none ∧ bits (v &&& 0x7FFFFFFFF) 0 3 = 1 ∧ s.qpBinding (v &&& 0x7FFFFFFFF) = true ∧ 3 ≤ bits (s.stagedQp 2) 50 3 ∧ bits (s.stagedQp 2) 50 3 ≤ 5) ∧
    (∃ (s : State) (n : Nat) (v : BitVec 64) (q : Qp), n < 65536 ∧ s.qp? n = some q ∧ bits q.ctx0 0 3 = 2 ∧ bits (v &&& 0x7FFFFFFFF) 0 3 = 3 ∧ bits q.ctx0 3 22 = bits (v &&& 0x7FFFFFFFF) 3 22 ∧ 3 ≤ bits (s.stagedQp 2) 50 3 ∧ bits (s.stagedQp 2) 50 3 ≤ 5 ∧ s.on F.perMirrorCfgEnable = false) ∧
    (∃ (s : State) (n : Nat) (v : BitVec 64), n < 65536 ∧ State.qpMove (s.qpState n) (bits (v &&& 0x7FFFFFFFF) 0 3) = false) ∧
    (∃ (s : State) (i base len : Nat) (v : BitVec 32), i < 131072 ∧ base = bits ((s.net.stageMr[0]?).getD 0) 0 48 ∧ len = bits ((s.net.stageMr[1]?).getD 0) 0 48 ∧ base % 4096 = 0 ∧ len % 4096 = 0 ∧ regionOf base len = .window ∧ base + len ≤ s.winPlots * plotBytes ∧ s.windowGranted (bits (v.setWidth 64) 8 10) base len = true) ∧
    (∃ (s : State) (i : Nat) (v : BitVec 32), i < 256 ∧ (v.getLsbD 17 = true ∨ s.net.qps = [])) ∧
    (∃ (s : State) (i : Nat) (v : BitVec 32), i < 256 ∧ (v.getLsbD 17 = true ∨ s.net.qps = [])) ∧
    (∃ (s : State) (p : Nat), p < 8 ∧ s.ethPresent p = true ∧ s.bit F.netStatusPortUp p = false ∧ s.get F.pvModeMode < 3) ∧
    (∃ (s : State) (p : Nat), p < 16 ∧ s.bit F.netStatusPortUp p = true) ∧
    (∃ (s : State) (p : Nat), s.ethPresent p = true ∧ s.net.paused.filter (fun x => x.1 = p) = []) ∧
    (∃ (s : State) (p : Nat), s.ethPresent p = true ∧ s.net.qps.filter (fun (q : Qp) => q.port = p) = []) ∧
    (∃ (s : State) (p : Nat), s.net.paused.any (fun x => x.1 = p && x.2 + 100000000 ≤ s.clk) = true ∧ s.net.said.contains p = false) ∧
    (∃ (s : State) (p n : Nat) (m : BitVec 48) (f : Frame), s.ethPresent p = true ∧ s.bit F.netStatusPortUp p = true) ∧
    (∃ (s : State) (p n : Nat) (m : BitVec 48) (g : BitVec 128), s.ethPresent p = true ∧ s.bit F.netStatusPortUp p = true ∧ n ≤ 9216 ∧ m.toNat = s.get (F.netPortCfgMac p) ∧ s.portGid p g = true) ∧
    (∃ (s : State) (n : Nat) (q : Qp), s.liveQp? n = some q ∧ s.on F.netCcCfgEnable = true) ∧
    (∃ (s : State) (n : Nat) (q : Qp), s.liveQp? n = some q ∧ s.on F.netCcCfgEnable = true ∧ max q.lastCnp q.lastAlpha + max 1 (s.get F.netCcCfgAlphaUs) * 1000 ≤ s.clk) ∧
    (∃ (s : State) (n : Nat) (q : Qp), s.liveQp? n = some q ∧ s.on F.netCcCfgEnable = true ∧ q.lastInc + max 1 (s.get F.netCcCfgIncUs) * 1000 ≤ s.clk) :=
  ⟨⟨wStage, 65535, 1, by decide +kernel⟩,
   ⟨{ wStage with net := { wStage.net with qps := [{ wQp with ctx0 := 2 }] } }, 7, 3, { wQp with ctx0 := 2 }, by decide +kernel⟩,
   ⟨State.reset, 0, 2, by decide +kernel⟩,
   ⟨wStageMr, 131071, 0x1000, 0x2000, 0x200000, by decide +kernel⟩,
   ⟨State.reset, 255, 0x20003, by decide +kernel⟩,
   ⟨wStage, 0, 0, by decide +kernel⟩,
   ⟨State.reset, 0, by decide +kernel⟩,
   ⟨wNetQ wQp, 0, by decide +kernel⟩,
   ⟨State.reset, 0, by decide +kernel⟩,
   ⟨State.reset, 0, by decide +kernel⟩,
   ⟨{ wNetQ wQp with net := { NetState.reset with paused := [(0, 5)] } }, 0, by decide +kernel⟩,
   ⟨wNetQ wQp, 0, 64, 0, .other, by decide +kernel⟩,
   ⟨{ wStage with regs := (wNetQ wQp).regs }, 0, 64, 0, 0, by decide +kernel⟩,
   ⟨wCc wQp, 7, wQp, by decide +kernel⟩,
   ⟨wCc wQp, 7, wQp, by decide +kernel⟩,
   ⟨wCc wQp, 7, wQp, by decide +kernel⟩⟩

/-- The hypotheses of `Obligations.ResponderTakesPeerRequests` can be met, clause by clause. -/
theorem hyps_ResponderTakesPeerRequests :
    (∃ (s u : State) (n : Nat) (q : Qp) (b : List (BitVec 8)), s.liveQp? n = some q ∧ s.netServes q = true ∧ q.rxEnable = true ∧ b.length ≤ 4096 ∧ s.pushQueue? q.rxQueue n b = some u) ∧
    (∃ (s : State) (n a k : Nat) (q : Qp) (b : List (BitVec 8)), s.liveQp? n = some q ∧ s.netServes q = true ∧ s.checkWrite q true a k b.length 0 b.length = none ∧ s.bulkBytes q.port + b.length ≤ s.queueRoom (96 + q.port) * 64) ∧
    (∃ (s : State) (n p : Nat) (q : Qp) (l : List (Nat × Option (BitVec 64))), s.liveQp? n = some q ∧ q.acks = (p, none) :: l ∧ s.srcHeld (.rdma n p) = false ∧ s.bit F.netStatusPaused q.port = false) ∧
    (∃ (s : State) (n p : Nat) (q : Qp) (v : BitVec 64) (l : List (Nat × Option (BitVec 64))), s.liveQp? n = some q ∧ q.acks = (p, some v) :: l ∧ s.srcHeld (.rdma n p) = false ∧ s.bit F.netStatusPaused q.port = false) ∧
    (∃ (s : State) (n a k len : Nat) (q : Qp), s.liveQp? n = some q ∧ s.netServes q = true ∧ len ≤ 2 ^ 30 ∧ State.pendingReads q < q.maxDestRd ∧ s.remoteRefusal q k a len 18 = none) ∧
    (∃ (s : State) (n : Nat) (q : Qp) (r : PeerRead) (l : List PeerRead) (b : List (BitVec 8)), s.liveQp? n = some q ∧ q.reads = r :: l ∧ q.acks = [] ∧ s.bit F.netStatusPaused q.port = false ∧ r.packets * q.mtu < r.len ∧ s.modifiedLines (r.addr + r.packets * q.mtu) (min q.mtu (r.len - r.packets * q.mtu)) = [] ∧ s.loadRegion q.domain (r.addr + r.packets * q.mtu) (min q.mtu (r.len - r.packets * q.mtu)) [] = (b, false)) ∧
    (∃ (s : State) (n a k : Nat) (q : Qp) (x : BitVec 64) (b : List (BitVec 8)), s.liveQp? n = some q ∧ s.netServes q = true ∧ a % 8 = 0 ∧ State.pendingReads q < q.maxDestRd ∧ s.remoteRefusal q k a 8 20 = none ∧ s.modifiedLines a 8 = [] ∧ q.acks = [] ∧ s.loadRegion q.domain a 8 [] = (b, false)) ∧
    (∃ (s : State) (n a k : Nat) (q : Qp) (x y : BitVec 64) (b : List (BitVec 8)), s.liveQp? n = some q ∧ s.netServes q = true ∧ a % 8 = 0 ∧ State.pendingReads q < q.maxDestRd ∧ s.remoteRefusal q k a 8 20 = none ∧ s.modifiedLines a 8 = [] ∧ q.acks = [] ∧ s.loadRegion q.domain a 8 [] = (b, false)) :=
  ⟨⟨wNetQ wQp, ((wNetQ wQp).pushQueue? 32 7 [1, 2]).getD State.reset, 7, wQp, [1, 2], by decide +kernel⟩,
   ⟨wNetQ wQp, 7, 0x1000, 0x501, wQp, [1, 2, 3], by decide +kernel⟩,
   ⟨wNetQ { wQp with acks := [(4, none)] }, 7, 4, { wQp with acks := [(4, none)] }, [], by decide +kernel⟩,
   ⟨wNetQ { wQp with acks := [(4, some 9)] }, 7, 4, { wQp with acks := [(4, some 9)] }, 9, [], by decide +kernel⟩,
   ⟨wNetQ wQp, 7, 0x1000, 0x501, 0x800, wQp, by decide +kernel⟩,
   ⟨wNetQ { wQp with reads := [⟨0, 0x1000, 64, 0⟩] }, 7, { wQp with reads := [⟨0, 0x1000, 64, 0⟩] }, ⟨0, 0x1000, 64, 0⟩, [], List.replicate 64 0, by decide +kernel⟩,
   ⟨wNetQ wQp, 7, 0x1008, 0x501, wQp, 5, List.replicate 8 0, by decide +kernel⟩,
   ⟨wNetQ wQp, 7, 0x1008, 0x501, wQp, 0, 5, List.replicate 8 0, by decide +kernel⟩⟩

/-- The hypotheses of `Obligations.RequesterTransfersAndRetries` can be met, clause by clause. -/
theorem hyps_RequesterTransfersAndRetries :
    (∃ (s : State) (r h : Nat) (d : Desc) (o : List (BitVec 8)) (x : Nat × List (BitVec 8)), s.startedDesc? r h opPeerWrite = some d ∧ s.peerStarted d = false ∧ s.peerRefusal d = none ∧ s.ready (.ring r h) [(d.num 16 8, State.moveLen d)] = true ∧ (s.taken (.ring r h)).goodRuns (s.ringDom r) (d.num 16 8) (State.moveLen d / 32 + 4) 0 ((s.taken (.ring r h)).loadRegion (s.ringDom r) (d.num 16 8) (State.moveLen d) o).1 = ([x], none)) ∧
    (∃ (s : State) (r h st : Nat) (d : Desc) (o : List (BitVec 8)), s.startedDesc? r h opPeerWrite = some d ∧ s.peerStarted d = false ∧ s.peerRefusal d = some st ∧ s.srcWaits (.ring r h) = false) ∧
    (∃ (s : State) (r h : Nat) (d : Desc), s.startedDesc? r h opPeerRead = some d ∧ s.peerStarted d = false ∧ s.peerRefusal d = none ∧ 0 < State.moveLen d ∧ State.moveLen d ≤ 2 ^ 30) ∧
    (∃ (s : State) (n p : Nat) (q : Qp) (r : PeerReq) (dst : Nat) (x b : List (BitVec 8)), s.liveQp? n = some q ∧ q.requests = [r] ∧ r.kind = .write dst x ∧ r.sent.isSome = true ∧ psnDiff p r.last < 2 ^ 23) ∧
    (∃ (s : State) (n : Nat) (q : Qp) (r : PeerReq), s.liveQp? n = some q ∧ q.requests.find? (fun r => r.sent.isSome) = some r ∧ r.sent.getD 0 + q.timeout ≤ s.clk ∧ q.retries ≠ 0) ∧
    (∃ (s : State) (n : Nat) (q : Qp) (r : PeerReq), s.liveQp? n = some q ∧ q.requests.find? (fun r => r.sent.isSome) = some r ∧ r.sent.getD 0 + q.timeout ≤ s.clk ∧ q.retries = 0) ∧
    (∃ (s : State) (n p : Nat) (q : Qp), s.liveQp? n = some q ∧ q.retries ≠ 0) ∧
    (∃ (s : State) (n p : Nat) (q : Qp), s.liveQp? n = some q ∧ q.rnrRetry ≠ 7 ∧ q.rnr ≠ 0) ∧
    (∃ (s : State) (n p : Nat) (q : Qp), s.liveQp? n = some q) :=
  ⟨⟨wPeer wPeerW, 5, 3, wPeerW, [], (0, List.replicate 64 0), by decide +kernel⟩,
   ⟨wRingD wPeerW, 5, 3, stDomainDenied, wPeerW, [], by decide +kernel⟩,
   ⟨wPeer wPeerR, 5, 3, wPeerR, by decide +kernel⟩,
   ⟨wNetQ { wQp with requests := [wPeerReq (.write 0 [])] }, 7, 0, { wQp with requests := [wPeerReq (.write 0 [])] }, wPeerReq (.write 0 []), 0, [], [], by decide +kernel⟩,
   ⟨wNetQ { wQp with requests := [wPeerReq (.write 0 [])] }, 7, { wQp with requests := [wPeerReq (.write 0 [])] }, wPeerReq (.write 0 []), by decide +kernel⟩,
   ⟨wNetQ { wQp with retries := 0, requests := [wPeerReq (.write 0 [])] }, 7, { wQp with retries := 0, requests := [wPeerReq (.write 0 [])] }, wPeerReq (.write 0 []), by decide +kernel⟩,
   ⟨wNetQ wQp, 7, 0, wQp, by decide +kernel⟩,
   ⟨wNetQ wQp, 7, 0, wQp, by decide +kernel⟩,
   ⟨wNetQ wQp, 7, 0, wQp, by decide +kernel⟩⟩

/-- The hypotheses of `Obligations.MirrorSendsAppliesAndAcknowledges` can be met, clause by clause. -/
theorem hyps_MirrorSendsAppliesAndAcknowledges :
    (∃ (s : State) (n e q : Nat) (l : List (Nat × BitVec 512)), s.mirrorRole n 2 = true ∧ q % 2 ^ 64 < 2 ^ 63 ∧ s.per.receive.length + l.length ≤ State.mirrorReceiveSize) ∧
    (∃ (s : State) (n e q : Nat) (l : List (Nat × BitVec 512)), s.mirrorRole n 2 = true) ∧
    (∃ (s : State) (n e q : Nat) (x : MirrorLine), s.mirrorRole n 2 = true ∧ q % 2 ^ 64 < 2 ^ 63 ∧ s.per.receive = [x] ∧ x.epoch ≤ e) ∧
    (∃ (s : State) (e : Nat), s.md.applying = some e ∧ e < 2 ^ 32 ∧ s.srcHeld .device = false ∧ s.on F.perMirrorCfgEnable = true ∧ s.get F.perMirrorCfgRole = 2) ∧
    (∃ (s : State) (n e q : Nat), s.mirrorRole n 1 = true ∧ 2 ^ 63 ≤ q % 2 ^ 64 ∧ e < 2 ^ 32) ∧
    (∃ (s : State) (n e q : Nat), s.mirrorRole n 1 = true ∧ 2 ^ 63 ≤ q % 2 ^ 64 ∧ s.per.send.any (fun x => x.epoch = e) = true) ∧
    (∃ s : State, s.on F.perMirrorCfgEnable = true ∧ s.get F.perMirrorCfgRole = 1 ∧ s.qpState (s.get F.perMirrorCfgPeerQp) = 3 ∧ s.mirrorKey = true ∧ s.get F.perMirrorStatusState = 1 ∧ s.per.sent < s.md.openEpoch) ∧
    (∃ s : State, s.on F.perMirrorCfgEnable = true ∧ s.get F.perMirrorCfgRole = 1 ∧ s.qpState (s.get F.perMirrorCfgPeerQp) = 3 ∧ s.mirrorKey = true ∧ s.get F.perMirrorStatusState = 2 ∧ s.per.resend = []) ∧
    (∃ (s : State) (v : BitVec 64), s.on F.perMirrorCfgEnable = false ∧ v.getLsbD 2 = true ∧ bits v 0 2 = 1) ∧
    (∃ (s : State) (v : BitVec 64), s.on F.perMirrorCfgEnable = true ∧ v.getLsbD 2 = false) :=
  ⟨⟨wMirror 2 1 [], 7, 2, 0, [(5, 9)], by decide +kernel⟩,
   ⟨wMirror 2 1 [], 7, 2, 0, [], by decide +kernel⟩,
   ⟨wMirror 2 1 [wMLine 2], 7, 2, 0, wMLine 2, by decide +kernel⟩,
   ⟨{ wMirror 2 4 [] with md := { Meta.empty with applying := some 2 } }, 2, by decide +kernel⟩,
   ⟨wMirror 1 1 [wMLine 1, wMLine 2], 7, 1, 2 ^ 63, by decide +kernel⟩,
   ⟨wMirror 1 1 [wMLine 1, wMLine 2], 7, 1, 2 ^ 63, by decide +kernel⟩,
   ⟨wMirror 1 1 [wMLine 0], by decide +kernel⟩,
   ⟨wMirror 1 2 [], by decide +kernel⟩,
   ⟨State.reset, 0x700000005, by decide +kernel⟩,
   ⟨wMirror 1 1 [wMLine 2], 0, by decide +kernel⟩⟩

/-- The hypotheses of `Obligations.KiliusPortsTrainAndRetrain` can be met, clause by clause. -/
theorem hyps_KiliusPortsTrainAndRetrain :
    (∃ (s : State) (k : Nat), k < 11 ∧ s.part.port k = true ∧ s.klState k = portReset ∧ s.partnerRails k = true ∧ s.on (F.klLinkCtlDisable k) = false) ∧
    (∃ (s : State) (k : Nat) (d : BitVec 64) (l : LaneTest), s.part.port k = true ∧ s.klState k = portTraining ∧ (s.klPort k).backoff = none ∧ s.get (F.klLinkStatusTrainStep k) = 2 ∧ State.idRefused k d = false) ∧
    (∃ (s : State) (k : Nat) (d : BitVec 64) (l : LaneTest), s.part.port k = true ∧ s.klState k = portTraining ∧ (s.klPort k).backoff = none ∧ s.get (F.klLinkStatusTrainStep k) = 2 ∧ State.idRefused k d = true) ∧
    (∃ (s : State) (k : Nat) (d : BitVec 64) (l : LaneTest), k < 11 ∧ s.part.port k = true ∧ s.klState k = portTraining ∧ (s.klPort k).backoff = none ∧ s.get (F.klLinkStatusTrainStep k) = 9) ∧
    (∃ (s : State) (k n : Nat), k < 11 ∧ k < s.kl.length ∧ s.part.port k = true ∧ s.klState k = portTraining ∧ (s.klPort k).backoff = none ∧ s.get (F.klLinkStatusTrainStep k) = n ∧ n ≠ 4 ∧ n ≠ 5 ∧ (s.klPort k).tries + 1 < s.attempts k) ∧
    (∃ (s : State) (k n : Nat), k < 11 ∧ (s.klPort k).backoff = some n ∧ n ≤ s.clk ∧ s.klState k = portTraining) ∧
    (∃ (s : State) (k : Nat), k < 10 ∧ s.part.port k = true ∧ (s.klState k = portUp ∨ s.klState k = portL1)) ∧
    (∃ (s : State) (k : Nat), k < 10 ∧ s.part.port k = true ∧ (s.klState k = portUp ∨ s.klState k = portL1)) ∧
    (∃ (s : State) (k : Nat), k < 11 ∧ s.portIsUp k = true) ∧
    (∃ (s : State) (k : Nat), k < 10 ∧ s.part.port k = true ∧ s.klState k ≠ portReset) ∧
    (∃ (s : State) (k : Nat), k < 10 ∧ s.part.port k = true) ∧
    (∃ (s : State) (k : Nat), s.part.port k = true ∧ 2 ≤ s.klState k ∧ s.klState k ≤ 4) ∧
    (∃ (s : State) (k : Nat), s.part.port k = true ∧ 2 ≤ s.klState k ∧ s.klState k ≤ 4) ∧
    (∃ (s : State) (f : Flit) (k : Nat), (k = 8 ∨ k = 9) ∧ s.part.port k = true ∧ 2 ≤ s.klState k ∧ s.klState k ≤ 4 ∧ State.badFlit f = false ∧ s.get (F.klAgentStatusState (k - 8)) = 0) ∧
    (∃ (s u : State) (k d : Nat) (l : LaneTest), k < 11 ∧ s.part.port k = true ∧ s.klState k = portRetraining ∧ (s.klPort k).backoff = none ∧ s.testLanes k l = some u ∧ s.measured? k = some d ∧ (u.klPort k).txBuf = []) ∧
    (∃ (s : State) (k : Nat) (d : BitVec 64) (l : LaneTest), s.part.port k = true ∧ s.klState k = portRetraining ∧ (s.klPort k).backoff = none) :=
  ⟨⟨wKl portReset KlPort.reset, 8, by decide +kernel⟩,
   ⟨wTrain 2 KlPort.reset, 8, 0x8008010000000000, wLanes, by decide +kernel⟩,
   ⟨wTrain 2 KlPort.reset, 8, 0, wLanes, by decide +kernel⟩,
   ⟨wTrain 9 KlPort.reset, 8, 0, wLanes, by decide +kernel⟩,
   ⟨wTrain 3 KlPort.reset, 8, 3, by decide +kernel⟩,
   ⟨wTrain 0 { KlPort.reset with backoff := some 7 }, 8, 7, by decide +kernel⟩,
   ⟨wKl portUp KlPort.reset, 8, by decide +kernel⟩,
   ⟨wKl portL1 KlPort.reset, 8, by decide +kernel⟩,
   ⟨wKl portUp KlPort.reset, 8, by decide +kernel⟩,
   ⟨wKl portUp KlPort.reset, 8, by decide +kernel⟩,
   ⟨wKl portDown KlPort.reset, 8, by decide +kernel⟩,
   ⟨wKl portUp KlPort.reset, 8, by decide +kernel⟩,
   ⟨wKl portL1 KlPort.reset, 8, by decide +kernel⟩,
   ⟨wKl portUp KlPort.reset, wCtl 7 0, 8, by decide +kernel⟩,
   ⟨wKl portRetraining { KlPort.reset with echoes := List.replicate 8 (0, 50) }, ((wKl portRetraining { KlPort.reset with echoes := List.replicate 8 (0, 50) }).testLanes 8 wLanes).getD State.reset, 8, 50, wLanes, by decide +kernel⟩,
   ⟨wKl portRetraining KlPort.reset, 8, 0, wLanes, by decide +kernel⟩⟩

/-- The hypotheses of `Obligations.KiliusFlitsPowerStatesAndReplay` can be met, clause by clause. -/
theorem hyps_KiliusFlitsPowerStatesAndReplay :
    (∃ (s : State) (k : Nat) (f : Flit), k < s.kl.length ∧ s.part.port k = true ∧ s.klState k = portTraining ∧ s.get (F.klLinkStatusTrainStep k) = 7 ∧ (s.klPort k).backoff = none ∧ State.badFlit f = false ∧ f.ctlOp = 1) ∧
    (∃ (s : State) (k : Nat) (f : Flit), s.part.port k = true ∧ s.klState k ≠ portReset ∧ s.klState k ≠ portDown ∧ State.badFlit f = false) ∧
    (∃ (s : State) (k n : Nat) (f : Flit), s.part.port k = true ∧ s.klState k = portRetraining ∧ State.badFlit f = false ∧ f.ctlArg % 256 < 16 ∧ (s.klPort k).echoes.any (fun x => x.1 = f.ctlArg % 256) = false) ∧
    (∃ (s u : State) (k : Nat) (f : Flit), s.part.port k = true ∧ (s.klState k = portUp ∨ s.klState k = portL1) ∧ State.badFlit f = false ∧ u = (s.cKl k 0x59 0 1).takeAck k f ∧ u.klState k = portUp ∧ f.ctlArg % 4 = 1 ∧ u.mayL1 k = true) ∧
    (∃ (s u : State) (k : Nat) (f : Flit), s.part.port k = true ∧ (s.klState k = portUp ∨ s.klState k = portL1) ∧ State.badFlit f = false ∧ u = (s.cKl k 0x59 0 1).takeAck k f ∧ u.klState k = portUp ∧ f.ctlArg % 4 ≠ 1) ∧
    (∃ (s u : State) (k : Nat) (f : Flit) (q : PmReq), s.part.port k = true ∧ (s.klState k = portUp ∨ s.klState k = portL1) ∧ State.badFlit f = false ∧ u = (s.cKl k 0x59 0 1).takeAck k f ∧ (u.klPort k).pm = some q ∧ q.want = 1 ∧ f.ctlArg % 4 = 1) ∧
    (∃ (s u : State) (k : Nat) (f : Flit) (q : PmReq), s.part.port k = true ∧ (s.klState k = portUp ∨ s.klState k = portL1) ∧ State.badFlit f = false ∧ u = (s.cKl k 0x59 0 1).takeAck k f ∧ (u.klPort k).pm = some q ∧ q.want = f.ctlArg % 4) ∧
    (∃ (s : State) (k : Nat) (q : PmReq), s.portIsUp k = true ∧ (s.klPort k).pm = some q ∧ q.last + 1000 ≤ s.clk ∧ q.sent < 5) ∧
    (∃ (s : State) (k : Nat) (f : Flit), s.part.port k = true ∧ (s.klState k = portUp ∨ s.klState k = portL1) ∧ State.badFlit f = false ∧ f.flitType = 1) ∧
    (∃ (s : State) (k : Nat) (f : Flit), s.part.port k = true ∧ (s.klState k = portUp ∨ s.klState k = portL1) ∧ State.badFlit f = false ∧ f.flitType = 0) ∧
    (∃ (s : State) (k : Nat) (f : Flit), s.part.port k = true ∧ (s.klState k = portUp ∨ s.klState k = portL1) ∧ State.badFlit f = false ∧ f.flitType = 2 ∧ 7 < f.ctlOp) ∧
    (∃ (s : State) (k : Nat) (b : List (BitVec 8)), k < 11 ∧ s.portIsUp k = true ∧ flitGood b = false) ∧
    (∃ (s : State) (k : Nat) (b : List (BitVec 8)), k < 11 ∧ s.portIsUp k = true ∧ flitGood b = false ∧ 7 ≤ (s.klPort k).badRun) ∧
    (∃ (s : State) (k : Nat) (x : KlSent) (l : List KlSent), s.portIsUp k = true ∧ (s.klPort k).txBuf = x :: l ∧ x.last + max 64 (s.get (F.klReplayCfgAckTimeoutNs k)) ≤ s.clk) ∧
    (∃ (s : State) (k : Nat), s.portIsUp k = true ∧ s.mayL1 k = true ∧ (s.klPort k).pm = none) ∧
    (∃ (s : State) (k : Nat), s.part.port k = true ∧ s.klState k = portL1) ∧
    (∃ (s : State) (k : Nat), s.part.port k = true ∧ s.klState k = portL1 ∧ (s.klPort k).txWait ≠ []) :=
  ⟨⟨wTrain 7 KlPort.reset, 8, wCtl 1 0, by decide +kernel⟩,
   ⟨wTrain 8 KlPort.reset, 8, wCtl 2 5, by decide +kernel⟩,
   ⟨wKl portRetraining KlPort.reset, 8, 1000, wCtl 3 5, by decide +kernel⟩,
   ⟨wL1, (wL1.cKl 8 0x59 0 1).takeAck 8 (wCtl 4 1), 8, wCtl 4 1, by decide +kernel⟩,
   ⟨wL1, (wL1.cKl 8 0x59 0 1).takeAck 8 (wCtl 4 2), 8, wCtl 4 2, by decide +kernel⟩,
   ⟨wKl portUp (wPm 1), ((wKl portUp (wPm 1)).cKl 8 0x59 0 1).takeAck 8 (wCtl 5 1), 8, wCtl 5 1, { want := 1, sent := 1, first := 0, last := 0 }, by decide +kernel⟩,
   ⟨wKl portUp (wPm 1), ((wKl portUp (wPm 1)).cKl 8 0x59 0 1).takeAck 8 (wCtl 6 1), 8, wCtl 6 1, { want := 1, sent := 1, first := 0, last := 0 }, by decide +kernel⟩,
   ⟨wKl portUp (wPm 1), 8, { want := 1, sent := 1, first := 0, last := 0 }, by decide +kernel⟩,
   ⟨wKl portUp KlPort.reset, 8, { wCtl 0 0 with flitType := 1, seqValid := true }, by decide +kernel⟩,
   ⟨wKl portUp KlPort.reset, 8, { wCtl 0 0 with flitType := 0 }, by decide +kernel⟩,
   ⟨wKl portUp KlPort.reset, 8, wCtl 8 0, by decide +kernel⟩,
   ⟨wKl portUp KlPort.reset, 8, [], by decide +kernel⟩,
   ⟨wKl portUp { KlPort.reset with badRun := 7 }, 8, [], by decide +kernel⟩,
   ⟨wKl portUp { KlPort.reset with txBuf := [wKlSent] }, 8, wKlSent, [], by decide +kernel⟩,
   ⟨wL1, 8, by decide +kernel⟩,
   ⟨wKl portL1 KlPort.reset, 8, by decide +kernel⟩,
   ⟨wKl portL1 { KlPort.reset with txWait := [.interrupt 0 0] }, 8, by decide +kernel⟩⟩

/-- The hypotheses of `Obligations.KeyCommandsAndKeyResidence` can be met, clause by clause. -/
theorem hyps_KeyCommandsAndKeyResidence :
    (∃ (s : State) (d k : Nat), d < 1024 ∧ k < 8 ∧ s.keyBusy d = false) ∧
    (∃ (s : State) (d k : Nat), d < 1024 ∧ k < 8 ∧ s.keyBusy d = false) ∧
    (∃ (s : State) (d : Nat), d < 1024 ∧ s.keyBusy d = false ∧ s.keyInUse d = false) ∧
    (∃ (s : State) (d m : Nat), d < 1024 ∧ m ≠ 0) ∧
    (∃ (s : State) (d : Nat) (c : KeyCmd), d < 1024 ∧ s.cip.cmds.find? (fun c => c.dom = d && c.op != 3) = some c ∧ c.op = 2 ∧ c.slot < 8) ∧
    (∃ (s : State) (d : Nat) (c : KeyCmd) (x y : List (BitVec 8)), d < 1024 ∧ s.cip.cmds.find? (fun c => c.dom = d && c.op != 3) = some c ∧ c.op = 1 ∧ c.slot < 8 ∧ Store.find? s.pv.keks d = some x ∧ keyUnwrap x c.wrapped = some y) ∧
    (∃ (s : State) (d : Nat) (c : KeyCmd), d < 1024 ∧ s.cip.cmds.find? (fun c => c.dom = d && c.op != 3) = some c ∧ c.op = 1 ∧ (Store.find? s.pv.keks d).bind (fun x => keyUnwrap x c.wrapped) = none) ∧
    (∃ (s : State) (d : Nat), d < 1024 ∧ s.cip.cmds.any (fun c => c.dom = d && c.op = 3) = true ∧ s.qs.any (fun e => e.dom = d) = false) ∧
    (∃ (s : State) (d : Nat), s.cip.idle.any (fun i => i.1 = d && i.2 + 1000000000 ≤ s.clk) = true ∧ s.keyActive d = false) ∧
    (∃ (s : State) (d c : Nat), s.on F.cipCtlReplicaEnable = true ∧ s.cip.xts.any (fun e => e.dom = d) = true ∧ s.xtsOnline.find? (fun c => !(s.keysIn c).any (fun e => e.dom = d) && s.pinsIn c < 64) = some c) ∧
    (∃ (s : State) (c : Nat), c < 15 ∧ s.bit F.cipStatusGcmOnline c = true) ∧
    (∃ (s : State) (c k : Nat), c < 16 ∧ k < 16 ∧ k ≠ c ∧ s.bit F.cipStatusXtsOnline c = true ∧ s.bit F.cipStatusXtsOnline k = true) ∧
    (∃ (s : State) (d : Nat), d < s.part.dies ∧ s.cip.lanes.contains d = false) :=
  ⟨⟨State.reset, 1023, 7, by decide +kernel⟩,
   ⟨State.reset, 1023, 7, by decide +kernel⟩,
   ⟨State.reset, 1023, by decide +kernel⟩,
   ⟨State.reset, 0, 1, by decide +kernel⟩,
   ⟨wKeyCmd 2, 5, (wKeyCmd 2).cip.cmds.head (by decide), by decide +kernel⟩,
   ⟨wKeyCmd 1, 5, (wKeyCmd 1).cip.cmds.head (by decide), [], [], by decide +kernel⟩,
   ⟨{ wKeyCmd 1 with pv := PvState.reset }, 5, (wKeyCmd 1).cip.cmds.head (by decide), by decide +kernel⟩,
   ⟨wKeyCmd 3, 5, by decide +kernel⟩,
   ⟨wXts, 5, by decide +kernel⟩,
   ⟨wXts.put F.cipCtlReplicaEnable true, 5, 4, by decide +kernel⟩,
   ⟨wXts, 3, by decide +kernel⟩,
   ⟨wXts, 3, 4, by decide +kernel⟩,
   ⟨State.reset, 7, by decide +kernel⟩⟩

/-- The hypotheses of `Obligations.GcmDescriptorsSealAndOpen` can be met, clause by clause. -/
theorem hyps_GcmDescriptorsSealAndOpen :
    (∃ (s u : State) (r h n : Nat) (d : Desc) (k o x y : List (BitVec 8)), s.startedDesc? r h opSeal = some d ∧ s.takenKey? r h = some k ∧ s.ready (.ring r h) (State.gcmReads d) = true ∧ u = s.taken (.ring r h) ∧ u.gcmOperands d o = (x, y, false) ∧ u.gcmRefusal d y false = none ∧ n = State.moveLen d) ∧
    (∃ (s u : State) (r h n : Nat) (d : Desc) (k o x y : List (BitVec 8)), s.startedDesc? r h opOpen = some d ∧ s.takenKey? r h = some k ∧ s.ready (.ring r h) (State.gcmReads d) = true ∧ u = s.taken (.ring r h) ∧ u.gcmOperands d o = (x, y, false) ∧ u.gcmRefusal d y false = none ∧ n = State.moveLen d ∧ gcmTag k (y.take 12) (x.take (d.num 38 2)) ((x.drop (d.num 38 2)).take n) = (y.drop 16).take 16) ∧
    (∃ (s u : State) (r h n : Nat) (d : Desc) (k o x y : List (BitVec 8)), s.startedDesc? r h opOpen = some d ∧ s.takenKey? r h = some k ∧ s.ready (.ring r h) (State.gcmReads d) = true ∧ u = s.taken (.ring r h) ∧ u.gcmOperands d o = (x, y, false) ∧ u.gcmRefusal d y false = none ∧ n = State.moveLen d ∧ gcmTag k (y.take 12) (x.take (d.num 38 2)) ((x.drop (d.num 38 2)).take n) ≠ (y.drop 16).take 16) ∧
    (∃ (s : State) (r h st : Nat) (d : Desc) (k o x y : List (BitVec 8)) (p : Bool), s.startedDesc? r h opSeal = some d ∧ s.takenKey? r h = some k ∧ s.ready (.ring r h) (State.gcmReads d) = true ∧ (s.taken (.ring r h)).gcmOperands d o = (x, y, p) ∧ (s.taken (.ring r h)).gcmRefusal d y p = some st) ∧
    (∃ (s : State) (r h st : Nat) (d : Desc) (k o x y : List (BitVec 8)) (p : Bool), s.startedDesc? r h opOpen = some d ∧ s.takenKey? r h = some k ∧ s.ready (.ring r h) (State.gcmReads d) = true ∧ (s.taken (.ring r h)).gcmOperands d o = (x, y, p) ∧ (s.taken (.ring r h)).gcmRefusal d y p = some st) :=
  ⟨⟨wGcm opSeal, (wGcm opSeal).taken (.ring 5 3), 5, 3, 0, wGcmD opSeal, List.replicate 32 0, [], [], List.replicate 32 0, by decide +kernel⟩,
   ⟨wGcmTagged, wGcmTagged.taken (.ring 5 3), 5, 3, 0, wGcmD opOpen, List.replicate 32 0, wGcmBlock, [], wGcmBlock, by decide +kernel⟩,
   ⟨wGcm opOpen, (wGcm opOpen).taken (.ring 5 3), 5, 3, 0, wGcmD opOpen, List.replicate 32 0, [], [], List.replicate 32 0, by decide +kernel⟩,
   ⟨(wGcm opSeal).set F.cipStatusGcmOnline 0, 5, 3, stUnitOffline, wGcmD opSeal, List.replicate 32 0, [], [], List.replicate 32 0, false, by decide +kernel⟩,
   ⟨(wGcm opOpen).set F.cipStatusGcmOnline 0, 5, 3, stUnitOffline, wGcmD opOpen, List.replicate 32 0, [], [], List.replicate 32 0, false, by decide +kernel⟩⟩

/-- The hypotheses of `Obligations.FirmwareUpdateStartsAndCommits` can be met, clause by clause. -/
theorem hyps_FirmwareUpdateStartsAndCommits :
    (∃ (s : State) (a b : FlashBank) (k : List Nat) (u : Bool), s.pw.inReset = false ∧ s.pw.booted = false ∧ s.pw.lost = false) ∧
    (∃ (s : State) (n : Nat), n < s.ldCount) ∧
    (∃ (s : State) (n : Nat) (d : List (BitVec 8)), n < s.ldCount ∧ s.isMgmt n = true ∧ s.pv.transfer = none ∧ d.length ≤ 48 * 2 ^ 20) ∧
    (∃ (s : State) (n : Nat) (d : List (BitVec 8)), n < s.ldCount ∧ s.isMgmt n = true ∧ s.pv.transfer = none ∧ d.length ≤ 48 * 2 ^ 20) ∧
    (∃ (s : State) (n k : Nat) (d : List (BitVec 8)), n < s.ldCount ∧ s.isMgmt n = true ∧ s.pv.transfer = some k ∧ k + d.length ≤ 48 * 2 ^ 20) ∧
    (∃ (s : State) (n k : Nat) (d : List (BitVec 8)), n < s.ldCount ∧ s.isMgmt n = true ∧ s.pv.transfer = some k ∧ k + d.length ≤ 48 * 2 ^ 20) ∧
    (∃ (s : State) (n k o : Nat) (d : List (BitVec 8)), n < s.ldCount ∧ s.isMgmt n = true ∧ s.pv.transfer = some k ∧ o ≠ k) ∧
    (∃ (s : State) (n slot : Nat) (b : Bool), n < s.ldCount ∧ s.isMgmt n = true ∧ s.pv.lastBank = some b ∧ s.pv.transfer = none ∧ slot = State.bankNum b + 1) ∧
    (∃ (s : State) (b : FlashBank), s.pv.image = some b ∧ s.on F.pvStatusTrial = true ∧ s.windowServes = true) ∧
    (∃ s : State, s.on F.pvStatusTrial = false) :=
  ⟨⟨State.reset, wBank 3, wBank 4, [], false, by decide +kernel⟩,
   ⟨State.reset, 0, by decide +kernel⟩,
   ⟨State.reset, 0, [1, 2], by decide +kernel⟩,
   ⟨State.reset, 0, [1, 2], by decide +kernel⟩,
   ⟨wTransfer, 0, 2, [1, 2], by decide +kernel⟩,
   ⟨wTransfer, 0, 2, [1, 2], by decide +kernel⟩,
   ⟨wTransfer, 0, 2, 3, [], by decide +kernel⟩,
   ⟨{ State.reset with pv := { PvState.reset with lastBank := some true } }, 0, 2, true, by decide +kernel⟩,
   ⟨wTrial, wBank 3, by decide +kernel⟩,
   ⟨State.reset, by decide +kernel⟩⟩

/-- The hypotheses of `Obligations.SpdmAndDebugPortAnswer` can be met, clause by clause. -/
theorem hyps_SpdmAndDebugPortAnswer :
    (∃ (s : State) (n : Nat), n < s.ldCount ∧ 5 ≤ s.get F.pvModeStartPhase) ∧
    (∃ (s : State) (n : Nat), n < s.ldCount ∧ 5 ≤ s.get F.pvModeStartPhase) ∧
    (∃ (s : State) (n : Nat), n < s.ldCount ∧ 5 ≤ s.get F.pvModeStartPhase) ∧
    (∃ (s : State) (n : Nat), n < s.ldCount ∧ 5 ≤ s.get F.pvModeStartPhase) ∧
    (∃ (s : State) (n : Nat), n < s.ldCount ∧ 5 ≤ s.get F.pvModeStartPhase) ∧
    (∃ (s : State) (n o k : Nat), n < s.ldCount ∧ 5 ≤ s.get F.pvModeStartPhase) ∧
    (∃ (s : State) (n slot : Nat) (x : BitVec 256), n < s.ldCount ∧ 5 ≤ s.get F.pvModeStartPhase ∧ slot ≠ 0) ∧
    (∃ (s : State) (n : Nat) (x : BitVec 256), n < s.ldCount ∧ 5 ≤ s.get F.pvModeStartPhase) ∧
    (∃ (s : State) (n i : Nat), n < s.ldCount ∧ 5 ≤ s.get F.pvModeStartPhase ∧ 1 ≤ i ∧ i ≤ 8) ∧
    (∃ (s : State) (n i : Nat), n < s.ldCount ∧ 5 ≤ s.get F.pvModeStartPhase ∧ 8 < i ∧ i ≠ 255) ∧
    (∃ (s : State) (n r : Nat), n < s.ldCount ∧ 5 ≤ s.get F.pvModeStartPhase) :=
  ⟨⟨wPhase5, 0, by decide +kernel⟩,
   ⟨wPhase5, 0, by decide +kernel⟩,
   ⟨wPhase5, 0, by decide +kernel⟩,
   ⟨wPhase5, 0, by decide +kernel⟩,
   ⟨wPhase5, 0, by decide +kernel⟩,
   ⟨wPhase5, 0, 1, 2, by decide +kernel⟩,
   ⟨wPhase5, 0, 1, 2, by decide +kernel⟩,
   ⟨wPhase5, 0, 2, by decide +kernel⟩,
   ⟨wPhase5, 0, 8, by decide +kernel⟩,
   ⟨wPhase5, 0, 9, by decide +kernel⟩,
   ⟨wPhase5, 0, 0x85, by decide +kernel⟩⟩

/-- The hypotheses of `Obligations.KeysTokensAndTheParameterStore` can be met, clause by clause. -/
theorem hyps_KeysTokensAndTheParameterStore :
    (∃ (s : State) (d : Nat), d < 1024 ∧ s.on F.pvKeyStatusBusy = false) ∧
    (∃ (s : State) (d : Nat), d < 1024 ∧ s.on F.pvKeyStatusBusy = true) ∧
    (∃ (s : State) (d : Nat) (x : List (BitVec 8)), d < 1024 ∧ s.on F.pvKeyStatusBusy = false ∧ s.ready .device [(s.get F.pvKeyAddrAddr * 64, 136)] = true) ∧
    (∃ (s : State) (c : KekCmd) (v : Bool), s.pv.kek = some c ∧ c.op = 2) ∧
    (∃ (s : State) (c : KekCmd) (b : List Byte), s.pv.kek = some c ∧ c.op = 1 ∧ c.block = some b) ∧
    (∃ (s : State) (c : KekCmd) (v : Bool), s.pv.kek = some c ∧ c.op = 1 ∧ c.block = none) ∧
    (∃ (s : State) (x : List (BitVec 8)) (k v : Bool), s.get F.pvDebugStatusState = 0 ∧ s.ready .device [(s.get F.pvDebugUnlockTokenAddr * 64, 256)] = true ∧ s.on F.pvDebugStatusLockedOut = true) ∧
    (∃ (s : State) (x : List (BitVec 8)) (k v : Bool), s.get F.pvDebugStatusState = 0 ∧ s.on F.pvDebugStatusLockedOut = false ∧ s.tokenGood x k v = true) ∧
    (∃ (s : State) (x : List (BitVec 8)) (k v : Bool), s.get F.pvDebugStatusState = 0 ∧ s.on F.pvDebugStatusLockedOut = false ∧ s.tokenGood x k v = false ∧ s.get F.pvDebugStatusRefusals < 15) ∧
    (∃ s : State, s.on F.psWrCtlStart = false ∧ s.psRefusal (s.get F.psWrAddrAddress) (s.get F.psWrCtlLength) true = none) ∧
    (∃ (s : State) (e : Nat), s.on F.psWrCtlStart = false ∧ s.psRefusal (s.get F.psWrAddrAddress) (s.get F.psWrCtlLength) true = some e) ∧
    (∃ (s : State) (w : PsWrite) (rest : List PsWrite), s.pv.writes = w :: rest ∧ w.bytes.length ≤ 128 - w.addr % 128 ∧ s.pv.stalled = none) ∧
    (∃ s : State, s.on F.psRdCtlStart = false ∧ s.psRefusal (s.get F.psRdAddrAddress) (s.get F.psRdCtlLength) false = none ∧ s.psStalls (s.get F.psRdAddrAddress) (s.get F.psRdCtlLength) = false) ∧
    (∃ (s : State) (p : Nat), p < 2048) ∧
    (∃ (s : State) (p : Nat), p < 2048) :=
  ⟨⟨State.reset, 1023, by decide +kernel⟩,
   ⟨State.reset.put F.pvKeyStatusBusy true, 3, by decide +kernel⟩,
   ⟨State.reset, 3, [], by decide +kernel⟩,
   ⟨wKek 2, { op := 2, dom := 5, block := none }, true, by decide +kernel⟩,
   ⟨wKekBlock, { op := 1, dom := 5, block := some [1] }, [1], by decide +kernel⟩,
   ⟨wKek 1, { op := 1, dom := 5, block := none }, true, by decide +kernel⟩,
   ⟨wLockedOut, [], true, true, by decide +kernel⟩,
   ⟨State.reset, [0x55, 0x47, 0x42, 0x44] ++ List.replicate 252 0, true, true, by decide +kernel⟩,
   ⟨State.reset, [], true, true, by decide +kernel⟩,
   ⟨wPs, by decide +kernel⟩,
   ⟨State.reset, stBadDescriptor, by decide +kernel⟩,
   ⟨wPsQueued, { source := 0, addr := 64, bytes := [7, 8] }, [], by decide +kernel⟩,
   ⟨wPs, by decide +kernel⟩,
   ⟨wPs, 2047, by decide +kernel⟩,
   ⟨wPs, 2047, by decide +kernel⟩⟩

/-- The hypotheses of `Obligations.SequencerStepsAbortsAndRestarts` can be met, clause by clause. -/
theorem hyps_SequencerStepsAbortsAndRestarts :
    (∃ (s : State) (k : Nat), s.supervisor = pwSequencing ∧ s.pw.hold = none ∧ s.get F.pwrStatusStep = k ∧ 0 < k ∧ k < 9 ∧ (s.stepRails k).all (fun n => s.pw.stepAt + s.stableNs n ≤ s.clk && s.pw.drops.all (fun d => d.1 != n || d.2.2 + s.stableNs n ≤ s.clk)) = true) ∧
    (∃ (s : State) (k : Nat), s.supervisor = pwSequencing ∧ s.pw.hold = none ∧ s.get F.pwrStatusStep = k ∧ 0 < k ∧ k < 9 ∧ (s.stepRails k).all (fun n => s.pw.stepAt + s.stableNs n ≤ s.clk && s.pw.drops.all (fun d => d.1 != n || d.2.2 + s.stableNs n ≤ s.clk)) = true) ∧
    (∃ s : State, s.supervisor = pwSequencing ∧ s.pw.hold = none ∧ s.get F.pwrStatusStep = 9 ∧ (s.stepRails 9).all (fun n => s.pw.stepAt + s.stableNs n ≤ s.clk && s.pw.drops.all (fun d => d.1 != n || d.2.2 + s.stableNs n ≤ s.clk)) = true) ∧
    (∃ (s : State) (n : Nat), s.supervisor = pwSequencing ∧ n < 24 ∧ s.bit F.pwrRailEnRails n = true ∧ s.pw.drops.find? (fun d => d.1 = n) = none) ∧
    (∃ (s : State) (n x : Nat), s.supervisor = pwSequencing ∧ n < 24 ∧ s.bit F.pwrRailEnRails n = true ∧ s.pw.drops.find? (fun d => d.1 = n) = some (n, 2, x)) ∧
    (∃ (s : State) (n : Nat), s.supervisor = pwSequencing ∧ s.pw.hold = none ∧ (s.stepRails (s.get F.pwrStatusStep)).contains n = true ∧ s.pw.stepAt + s.windowNs n ≤ s.clk) ∧
    (∃ (s u : State) (k : Nat), s.supervisor = pwPoweringDown ∧ u = s.setPg ((List.range 24).filter (fun n => !s.bit F.pwrRailEnRails n && none != some n)) false ∧ u.topStep? = some k) ∧
    (∃ (s u : State), s.supervisor = pwPoweringDown ∧ u = s.setPg ((List.range 24).filter (fun n => !s.bit F.pwrRailEnRails n && none != some n)) false ∧ u.topStep? = none) ∧
    (∃ (s : State) (a : Nat), s.supervisor = pwBackoff ∧ s.get F.pwrStatusAttempt = a ∧ s.pw.since + ms (250 * 2 ^ a) ≤ s.clk) ∧
    (∃ s : State, s.supervisor = pwOn ∧ s.pw.since + ms 600000 ≤ s.clk) ∧
    (∃ (s : State) (n w : Nat), s.supervisor = pwOn ∧ n < 24 ∧ s.railUsed n = true ∧ s.bit F.pwrRailEnRails n = true ∧ 4000 ≤ w ∧ s.railOnFault n = 0) ∧
    (∃ (s : State) (x : Nat), s.supervisor = pwSequencing ∧ s.pw.hold = some x ∧ x + ms 600000 ≤ s.clk) :=
  ⟨⟨wSeqStep 1, 1, by decide +kernel⟩,
   ⟨wSeqStep 8, 8, by decide +kernel⟩,
   ⟨wSeqStep 9, by decide +kernel⟩,
   ⟨(wSeqStep 2).set F.pwrRailEnRails 0xFF, 5, by decide +kernel⟩,
   ⟨{ (wSeqStep 2).set F.pwrRailEnRails 0xFF with pw := { State.reset.pw with drops := [(5, 2, 9)] } }, 5, 9, by decide +kernel⟩,
   ⟨wSeqStep 2, 6, by decide +kernel⟩,
   ⟨(wPw 5).set F.pwrRailEnRails 0xFF, ((wPw 5).set F.pwrRailEnRails 0xFF).setPg ((List.range 24).filter (fun n => 8 ≤ n)) false, 3, by decide +kernel⟩,
   ⟨wPw 5, (wPw 5).setPg (List.range 24) false, by decide +kernel⟩,
   ⟨wPw 2, 0, by decide +kernel⟩,
   ⟨wOn.set F.pwrStatusAttempt 2, by decide +kernel⟩,
   ⟨(wOn.set F.pwrRailEnRails 0xFF).set (F.pwrSeqTableOnFault 5) 0, 5, 4000, by decide +kernel⟩,
   ⟨{ wPw 1 with pw := { State.reset.pw with hold := some 5 } }, 5, by decide +kernel⟩⟩

/-- The hypotheses of `Obligations.PowerFailHoldUpAndThermalSupervision` can be met, clause by clause. -/
theorem hyps_PowerFailHoldUpAndThermalSupervision :
    (∃ (s : State) (n : Nat), s.pw.booted = true ∧ n < max 1 (s.get F.pwrPfCfgFilterUs)) ∧
    (∃ (s : State) (n : Nat), s.pw.booted = true ∧ max 1 (s.get F.pwrPfCfgFilterUs) ≤ n ∧ s.supervisor = pwOn ∧ s.pw.cold < 2 ∧ s.on F.pwrPfCfgVectorEnable = false) ∧
    (∃ s : State, s.supervisor = pwStopping ∧ s.pw.l2At = none ∧ s.pw.stopAt + ms (max 5 (s.get F.pwrPfCfgLimitMs)) ≤ s.clk) ∧
    (∃ (s : State) (x : Nat), s.supervisor = pwStopping ∧ s.pw.l2At = some x ∧ x + 10000 ≤ s.clk) ∧
    (∃ s : State, s.supervisor = pwWaitInput ∧ s.pw.since + ms 100 ≤ s.clk) ∧
    (∃ (s : State) (v : Nat), s.supervisor = pwOn ∧ s.pw.test = none) ∧
    (∃ (s : State) (v : Nat), s.supervisor ≠ pwOn) ∧
    (∃ (s : State) (v : Nat), s.supervisor = pwOn ∧ s.pw.test = none ∧ (s.pw.due = true ∨ (s.get F.pwrHoldupCfgIntervalHours ≠ 0 ∧ s.pw.tested + s.get F.pwrHoldupCfgIntervalHours * 3600000000000 ≤ s.clk))) ∧
    (∃ (s : State) (v0 v1 x e : Nat), s.pw.test = some (v0, x) ∧ x + ms 10 ≤ s.clk ∧ v1 + 50 ≤ v0 ∧ s.get F.pwrHoldupCfgVminMv < v0 ∧ s.get F.pwrHoldupCfgEffPct ≠ 0 ∧ s.get F.pwrHoldupCfgTestMa ≠ 0 ∧ e = min 100 (s.get F.pwrHoldupCfgEffPct) * s.get F.pwrHoldupCfgTestMa * 10 * (v0 * v0 - s.get F.pwrHoldupCfgVminMv * s.get F.pwrHoldupCfgVminMv) / (200 * (v0 - v1) * 1000000)) ∧
    (∃ (s : State) (v0 v1 x : Nat), s.pw.test = some (v0, x) ∧ x + ms 10 ≤ s.clk ∧ v1 < v0 ∧ v0 < v1 + 50) ∧
    (∃ (s u : State) (n f : Nat) (x : Int), s.pw.booted = true ∧ 32 ≤ n ∧ n < 96 ∧ s.sensorUsed n = true ∧ s.pw.hold = none ∧ u = (s.readSensor n x f).trackClear (State.loopOf n) ∧ u.tempQ n < u.limitQ (F.thmLimitThrottleAt n) ∧ u.tempQ n < u.limitQ (F.thmLimitStopAt n) ∧ u.tempQ n < u.limitQ (F.thmLimitTripAt n)) ∧
    (∃ (s u : State) (n f : Nat) (x : Int), s.pw.booted = true ∧ 32 ≤ n ∧ n < 48 ∧ s.sensorUsed n = true ∧ s.pw.hold = none ∧ u = (s.readSensor n x f).trackClear (State.loopOf n) ∧ u.limitQ (F.thmLimitThrottleAt n) ≤ u.tempQ n ∧ u.tempQ n < u.limitQ (F.thmLimitStopAt n) ∧ u.tempQ n < u.limitQ (F.thmLimitTripAt n) ∧ u.get (State.loopField (State.loopOf n)) < 4 ∧ Store.find? u.pw.rose (State.loopOf n) = none) ∧
    (∃ (s : State) (l x : Nat), 0 < l ∧ l < 25 ∧ s.get (State.loopField l) ≠ 0 ∧ Store.find? s.pw.clearSince l = some x ∧ x + ms 1000 ≤ s.clk) ∧
    (∃ (s : State) (w : Nat), w * 100 ≤ s.get F.pwrPowerLimitW * 97) ∧
    (∃ (s : State) (n : Nat), n < 56 ∧ s.sensorUsed n = true ∧ s.pw.inReset = false ∧ s.pw.booted = true ∧ s.limitQ (F.thmLimitTripAt n) ≤ s.tempQ n) ∧
    (∃ s : State, s.pw.trip = true ∧ s.pw.inReset = true ∧ s.pw.tripAt + ms 100 ≤ s.clk) :=
  ⟨⟨wOn, 0, by decide +kernel⟩,
   ⟨wOn, 1000, by decide +kernel⟩,
   ⟨wPw 4, by decide +kernel⟩,
   ⟨{ wPw 4 with pw := { State.reset.pw with l2At := some 5 } }, 5, by decide +kernel⟩,
   ⟨wPw 6, by decide +kernel⟩,
   ⟨wOn, 12000, by decide +kernel⟩,
   ⟨wPw 4, 12000, by decide +kernel⟩,
   ⟨{ wOn with pw := { wOn.pw with due := true } }, 12000, by decide +kernel⟩,
   ⟨wTest, 12000, 11900, 5, 5355, by decide +kernel⟩,
   ⟨wTest, 12000, 11951, 5, by decide +kernel⟩,
   ⟨wOn, (wOn.readSensor 40 100 1).trackClear 17, 40, 1, 100, by decide +kernel⟩,
   ⟨wOn.set (F.thmSensorRaw 41) 250, ((wOn.set (F.thmSensorRaw 41) 250).readSensor 40 270 1).trackClear 17, 40, 1, 270, by decide +kernel⟩,
   ⟨wLoop, 3, 5, by decide +kernel⟩,
   ⟨State.reset, 300, by decide +kernel⟩,
   ⟨wOn.set (F.thmLimitTripAt 40) 64, 40, by decide +kernel⟩,
   ⟨{ wPw 0 with pw := { State.reset.pw with trip := true, inReset := true } }, by decide +kernel⟩⟩

/-- The hypotheses of `Obligations.AgentRequestsArePerformedAndAnswered` can be met, clause by clause. -/
theorem hyps_AgentRequestsArePerformedAndAnswered :
    (∃ (s u : State) (a g p n : Nat) (o : Option (List (BitVec 8))) (l : List (BitVec 8)), s.agentHeard a = true ∧ (s.agentSt a).waiting.any (fun w => w.2.1 = g) = false ∧ n < 256 ∧ u = (s.setAgentSt a { s.agentSt a with requests := ((s.agentSt a).requests + 1) % 2 ^ 32, waiting := (s.agentSt a).waiting ++ [(((s.agentSt a).requests + 1) % 2 ^ 32, g, dataSlots p (n + 1))] }).showOut a ∧ u.get (F.klAgentStatusState a) = 2 ∧ u.agentRefusal a p (n + 1) 0 false = none ∧ regionAt p = .window ∧ u.modifiedLines p (n + 1) = [] ∧ p % 64 + n < 64 ∧ u.loadRegion (u.agentDom a) p (n + 1) [] = (l, false)) ∧
    (∃ (s u : State) (a g p n st : Nat) (o : Option (List (BitVec 8))), s.agentHeard a = true ∧ (s.agentSt a).waiting.any (fun w => w.2.1 = g) = false ∧ n < 256 ∧ u = (s.setAgentSt a { s.agentSt a with requests := ((s.agentSt a).requests + 1) % 2 ^ 32, waiting := (s.agentSt a).waiting ++ [(((s.agentSt a).requests + 1) % 2 ^ 32, g, dataSlots p (n + 1))] }).showOut a ∧ u.get (F.klAgentStatusState a) = 2 ∧ u.agentRefusal a p (n + 1) 0 false = some st) ∧
    (∃ (s u : State) (a g p n st : Nat) (o : Option (List (BitVec 8))), s.agentHeard a = true ∧ (s.agentSt a).waiting.any (fun w => w.2.1 = g) = false ∧ n < 256 ∧ u = (s.setAgentSt a { s.agentSt a with requests := ((s.agentSt a).requests + 1) % 2 ^ 32, waiting := (s.agentSt a).waiting ++ [(((s.agentSt a).requests + 1) % 2 ^ 32, g, dataSlots p (n + 1))] }).showOut a ∧ u.get (F.klAgentStatusState a) = 2 ∧ u.agentRefusal a p (n + 1) 0 false = some st) ∧
    (∃ (s u : State) (a g p n : Nat) (o : Option (List (BitVec 8))), s.agentHeard a = true ∧ (s.agentSt a).waiting.any (fun w => w.2.1 = g) = false ∧ n < 256 ∧ u = (s.setAgentSt a { s.agentSt a with requests := ((s.agentSt a).requests + 1) % 2 ^ 32, waiting := (s.agentSt a).waiting ++ [(((s.agentSt a).requests + 1) % 2 ^ 32, g, dataSlots p (n + 1))] }).showOut a ∧ u.get (F.klAgentStatusState a) = 1) ∧
    (∃ (s u : State) (a g p k : Nat) (b : List (BitVec 8)) (x : Bool), s.agentHeard a = true ∧ (s.agentSt a).waiting.any (fun w => w.2.1 = g) = false ∧ 0 < b.length ∧ b.length ≤ 256 ∧ u = (s.setAgentSt a { s.agentSt a with requests := ((s.agentSt a).requests + 1) % 2 ^ 32, waiting := (s.agentSt a).waiting ++ [(((s.agentSt a).requests + 1) % 2 ^ 32, g, dataSlots p b.length)] }).showOut a ∧ u.get (F.klAgentStatusState a) = 2 ∧ u.agentRefusal a p b.length 1 false = none ∧ regionAt p = .shm) ∧
    (∃ (s u : State) (a g p : Nat) (x : BitVec 64) (l : List (BitVec 8)), s.agentHeard a = true ∧ (s.agentSt a).waiting.any (fun w => w.2.1 = g) = false ∧ u = (s.setAgentSt a { s.agentSt a with requests := ((s.agentSt a).requests + 1) % 2 ^ 32, waiting := (s.agentSt a).waiting ++ [(((s.agentSt a).requests + 1) % 2 ^ 32, g, dataSlots p 8)] }).showOut a ∧ u.get (F.klAgentStatusState a) = 2 ∧ u.agentRefusal a p 8 2 false = none ∧ u.modifiedLines p 8 = [] ∧ u.win.held = [] ∧ u.loadRegion (u.agentDom a) p 8 [] = (l, false)) ∧
    (∃ (s u : State) (a g p : Nat) (x : BitVec 64) (l : List (BitVec 8)), s.agentHeard a = true ∧ (s.agentSt a).waiting.any (fun w => w.2.1 = g) = false ∧ u = (s.setAgentSt a { s.agentSt a with requests := ((s.agentSt a).requests + 1) % 2 ^ 32, waiting := (s.agentSt a).waiting ++ [(((s.agentSt a).requests + 1) % 2 ^ 32, g, dataSlots p 8)] }).showOut a ∧ u.get (F.klAgentStatusState a) = 2 ∧ u.agentRefusal a p 8 2 false = none ∧ u.modifiedLines p 8 = [] ∧ u.win.held = [] ∧ u.loadRegion (u.agentDom a) p 8 [] = (l, false)) ∧
    (∃ (s u : State) (a g p : Nat) (x y : BitVec 64) (l : List (BitVec 8)), s.agentHeard a = true ∧ (s.agentSt a).waiting.any (fun w => w.2.1 = g) = false ∧ u = (s.setAgentSt a { s.agentSt a with requests := ((s.agentSt a).requests + 1) % 2 ^ 32, waiting := (s.agentSt a).waiting ++ [(((s.agentSt a).requests + 1) % 2 ^ 32, g, dataSlots p 8)] }).showOut a ∧ u.get (F.klAgentStatusState a) = 2 ∧ u.agentRefusal a p 8 2 false = none ∧ u.modifiedLines p 8 = [] ∧ u.win.held = [] ∧ u.loadRegion (u.agentDom a) p 8 [] = (l, false)) ∧
    (∃ (s u : State) (a p k : Nat) (b : List (BitVec 8)), s.agentHeard a = true ∧ 0 < b.length ∧ b.length ≤ 256 ∧ s.get (F.klAgentStatusState a) = 2 ∧ u = s.setAgentSt a { s.agentSt a with posted := ((s.agentSt a).posted + 1) % 2 ^ 32 } ∧ u.agentRefusal a p b.length 1 true = none) ∧
    (∃ (s : State) (a p n k : Nat) (b : List (BitVec 8)), a < 2 ∧ s.agentHeard a = true ∧ s.get (F.klAgentStatusState a) ≠ 2) ∧
    (∃ (s : State) (a g st h : Nat) (q : HubReq), s.agentHeard a = true ∧ s.hubReq? a g 1 = some q ∧ st < 0x100 ∧ q.src = .hazel h) ∧
    (∃ (s : State) (a g st : Nat), s.agentHeard a = true ∧ s.hubReq? a g 1 = none) ∧
    (∃ (s : State) (a g st k r h : Nat) (b : List (BitVec 8)) (q : HubReq), s.agentHeard a = true ∧ s.hubReq? a g 0 = some q ∧ st < 0x100 ∧ q.src = .ring r h) ∧
    (∃ (s : State) (a g st : Nat) (v : BitVec 64) (q : HubReq), s.agentHeard a = true ∧ s.hubReq? a g 2 = some q ∧ st < 0x100) ∧
    (∃ (s : State) (a g x : Nat) (q : HubReq), s.kt.reqs.find? (fun r => r.agent = a && r.tag = g) = some q ∧ q.sent = some x ∧ s.agentHeard a = true ∧ s.get (F.klAgentStatusState a) = 2 ∧ x + s.agentTimeout a ≤ s.clk) ∧
    (∃ (s : State) (a g x : Nat) (h : Nat × Bool × Nat), a < s.part.sites ∧ (s.agentSt a).host.find? (fun h => h.1 = g) = some h ∧ h = (g, true, x) ∧ x + 50000000 ≤ s.clk) :=
  ⟨⟨wAg AgentState.reset, wAgU, 0, 4, 0x1000, 63, none, List.replicate 64 0, by decide +kernel⟩,
   ⟨wAg AgentState.reset, ((wAg AgentState.reset).setAgentSt 0 { AgentState.reset with requests := 1, waiting := [(1, 4, 5)] }).showOut 0, 0, 4, 0x103F, 255, stBadDescriptor, none, by decide +kernel⟩,
   ⟨(wAg AgentState.reset), wAgU, 0, 4, 0xE00000000000, 63, stRangeFault, none, by decide +kernel⟩,
   ⟨(wAg AgentState.reset).set (F.klAgentStatusState 0) 1, wAgU.set (F.klAgentStatusState 0) 1, 0, 4, 0x1000, 63, none, by decide +kernel⟩,
   ⟨wAgS AgentState.reset, wAgUS, 0, 4, 0x200000000010, 0, [1, 2, 3], false, by decide +kernel⟩,
   ⟨wAg AgentState.reset, wAgU, 0, 4, 0x1008, 5, List.replicate 8 0, by decide +kernel⟩,
   ⟨wAg AgentState.reset, wAgU, 0, 4, 0x1008, 5, List.replicate 8 0, by decide +kernel⟩,
   ⟨wAg AgentState.reset, wAgU, 0, 4, 0x1008, 0, 5, List.replicate 8 0, by decide +kernel⟩,
   ⟨wAg AgentState.reset, (wAg AgentState.reset).setAgentSt 0 { AgentState.reset with posted := 1 }, 0, 0x1000, 0, [1, 2], by decide +kernel⟩,
   ⟨(wAg AgentState.reset).set (F.klAgentStatusState 0) 1, 0, 0x1000, 3, 0, [], by decide +kernel⟩,
   ⟨wAsked (wHubReq 1 (.hazel 33)), 0, 4, 0, 33, wHubReq 1 (.hazel 33), by decide +kernel⟩,
   ⟨wAg AgentState.reset, 0, 4, 0, by decide +kernel⟩,
   ⟨wAsked (wHubReq 0 (.ring 5 3)), 0, 4, 0, 0, 5, 3, List.replicate 8 1, wHubReq 0 (.ring 5 3), by decide +kernel⟩,
   ⟨wAsked (wHubReq 2 (.hazel 33)), 0, 4, 0, 9, wHubReq 2 (.hazel 33), by decide +kernel⟩,
   ⟨wAsked (wHubReq 1 (.hazel 33)), 0, 4, 0, wHubReq 1 (.hazel 33), by decide +kernel⟩,
   ⟨{ wAg { AgentState.reset with host := [(4, true, 0)] } with clk := 50000000 }, 0, 4, 0, (4, true, 0), by decide +kernel⟩⟩

/-- The hypotheses of `Obligations.AgentMessagesAdmissionAndMesh` can be met, clause by clause. -/
theorem hyps_AgentMessagesAdmissionAndMesh :
    (∃ (s : State) (a g p n : Nat), a < s.kt.agents.length ∧ s.agentHeard a = true ∧ (s.agentSt a).barriers.length < 8) ∧
    (∃ (s : State) (a g : Nat) (b : KlBarrier), a < s.part.sites ∧ (s.agentSt a).barriers.find? (fun b => b.tag = g) = some b ∧ s.barrierMet a b = true) ∧
    (∃ (s : State) (a n v : Nat), s.agentHeard a = true ∧ s.on (F.klAgentCtlHostIrqAllow a) = true ∧ s.ldEnabled n = true ∧ s.ldDomain n = s.agentDom a) ∧
    (∃ (s : State) (a p st i x r h d : Nat), s.agentHeard a = true ∧ (s.agentSt a).early.find? (fun e => e.1 = i) = some (i, x, .ring r h, d)) ∧
    (∃ (s : State) (a i x y : Nat) (l : Bool), s.agentHeard a = true ∧ s.time.agentSlots.any (fun z => z.1 = a && z.2.1 = i) = true) ∧
    (∃ (s : State) (a v c : Nat) (b : List (BitVec 8)), s.agentHeard a = true ∧ s.on (F.klAgentCtlEventAllow a) = true ∧ ((s.agentSt a).events.filter (fun t => s.clk < t + 1000000000)).length < 1000) ∧
    (∃ (s u : State) (a : Nat) (v : BitVec 32), a < s.part.sites ∧ u = s.agentCtl a (v.setWidth 64) ∧ bits (v.setWidth 64) 16 1 = 1 ∧ u.get (F.klAgentStatusState a) = 1 ∧ u.agentDom a ≠ 0) ∧
    (∃ (s u : State) (a : Nat) (v : BitVec 32), a < s.part.sites ∧ u = s.agentCtl a (v.setWidth 64) ∧ bits (v.setWidth 64) 17 1 = 1 ∧ u.get (F.klAgentStatusState a) = 2) ∧
    (∃ (s : State) (a e : Nat) (v x : BitVec 64), a < s.part.sites ∧ e < 16 ∧ x = (Store.find? s.kt.aptBase (16 * a + e)).getD (s.reg (R.klAptBase a e)) ∧ regionOf (bits x 12 36 * 4096) (max 1 (bits v 0 32) * 4096) = .window) ∧
    (∃ (s : State) (a e : Nat) (v x : BitVec 64), a < s.part.sites ∧ e < 16 ∧ x = (Store.find? s.kt.aptBase (16 * a + e)).getD (s.reg (R.klAptBase a e)) ∧ regionOf (bits x 12 36 * 4096) (max 1 (bits v 0 32) * 4096) = .nowhere) ∧
    (∃ (s : State) (d r x : Nat), d < s.part.dies ∧ r < 8 ∧ x < 4) ∧
    (∃ (s : State) (r x : Nat), r < 48 ∧ x < 4 ∧ (s.kt.mesh.find? (fun y => y.1 = 15 && y.2.1 = r && y.2.2.1 = x)).map (·.2.2.2) = some 15) :=
  ⟨⟨wAg AgentState.reset, 0, 6, 0, 0, by decide +kernel⟩,
   ⟨wAg { AgentState.reset with barriers := [wBarrier] }, 0, 6, wBarrier, by decide +kernel⟩,
   ⟨((wAg AgentState.reset).put (F.klAgentCtlHostIrqAllow 0) true).setReg (R.winLdBind 0) 0x400, 0, 0, 3, by decide +kernel⟩,
   ⟨wAg { AgentState.reset with early := [(2, 0x300000000000, .ring 5 3, 0)] }, 0, 0x300000000000, 0x201, 2, 0x300000000000, 5, 3, 0, by decide +kernel⟩,
   ⟨{ wAg AgentState.reset with time := { State.reset.time with agentSlots := [(0, 2, 7)] } }, 0, 2, 0, 0, false, by decide +kernel⟩,
   ⟨(wAg AgentState.reset).put (F.klAgentCtlEventAllow 0) true, 0, 1, 77, [], by decide +kernel⟩,
   ⟨(wAg AgentState.reset).set (F.klAgentStatusState 0) 1, ((wAg AgentState.reset).set (F.klAgentStatusState 0) 1).agentCtl 0 0x10005, 0, 0x10005, by decide +kernel⟩,
   ⟨wAg AgentState.reset, (wAg AgentState.reset).agentCtl 0 0x20000, 0, 0x20000, by decide +kernel⟩,
   ⟨wAg AgentState.reset, 0, 15, 0x8000000700000010, 0, by decide +kernel⟩,
   ⟨(wAg AgentState.reset).setReg (R.klAptBase 0 15) 0xE00000000000, 0, 15, 0x8000000700000010, 0xE00000000000, by decide +kernel⟩,
   ⟨State.reset, 7, 7, 3, by decide +kernel⟩,
   ⟨{ State.reset with kt := { State.reset.kt with mesh := [(15, 47, 3, 15)] } }, 47, 3, by decide +kernel⟩⟩

/-- The hypotheses of `Obligations.EventsAreRecordedCopiedAndRead` can be met, clause by clause. -/
theorem hyps_EventsAreRecordedCopiedAndRead :
    (∃ (s : State) (e : Event) (l : List Event), s.obs.raised = e :: l ∧ e.sev < s.recordMin) ∧
    (∃ (s : State) (e : Event) (l : List Event) (r : Record), s.obs.raised = e :: l ∧ s.recordMin ≤ e.sev ∧ s.obs.intake = [] ∧ s.obs.writing = some r ∧ r.ev.same e = false) ∧
    (∃ (s : State) (e : Event) (l : List Event) (r : Record), s.obs.raised = e :: l ∧ s.recordMin ≤ e.sev ∧ s.obs.intake = [] ∧ s.obs.writing = some r ∧ r.ev.same e = true ∧ r.repeats < 65535) ∧
    (∃ (s : State) (e : Event) (l : List Event), s.obs.raised = e :: l ∧ s.recordMin ≤ e.sev ∧ (s.obs.intake.getLast?.any (fun r => r.ev.same e)) = false ∧ 64 ≤ s.obs.intake.length) ∧
    (∃ (s : State) (r : Record), s.obs.writing = some r) ∧
    (∃ (s : State) (n x d : Nat), s.obs.routeWait[n]? = some true ∧ s.obs.routeLast[n]? = some (some x) ∧ x + s.get (F.evrRouteHoldUs n) * 1000 ≤ s.clk ∧ s.on (F.evrRouteEnable n) = true ∧ s.routeDomain? n = some d) ∧
    (∃ (s : State) (r : Record) (l : List Record), s.obs.backlog = r :: l ∧ s.obs.persist.any (fun x => x.seq = r.seq) = false ∧ s.obs.persist.length < 1024) ∧
    (∃ (s : State) (n : Nat) (r : Record), s.obs.ram.find? (fun r => r.seq = n) = some r ∧ r.persisted = true ∧ r.stale = true ∧ r.copied + 60000000000 ≤ s.clk ∧ s.obs.backlog.length < 64) ∧
    (∃ (s : State) (v : BitVec 64), bits v 48 1 = 0) ∧
    (∃ (s : State) (r : Record), s.obs.window = some r ∧ r.seq + 1 < 2 ^ 48 ∧ s.on F.evrCursorLog = false) :=
  ⟨⟨{ (wObs { ObsState.reset with raised := [{ wEv 1 with sev := 0 }] }) with regs := (State.reset.set F.evrCtlRecordMin 1).regs }, { wEv 1 with sev := 0 }, [], by decide +kernel⟩,
   ⟨wObs { ObsState.reset with raised := [wEv 1], writing := some { wRec 4 with ev := wEv 2 } }, wEv 1, [], { wRec 4 with ev := wEv 2 }, by decide +kernel⟩,
   ⟨wObs { ObsState.reset with raised := [wEv 1], writing := some (wRec 4) }, wEv 1, [], wRec 4, by decide +kernel⟩,
   ⟨wObs { ObsState.reset with raised := [wEv 1], intake := List.replicate 64 { wRec 4 with ev := wEv 2 } }, wEv 1, [], by decide +kernel⟩,
   ⟨wObs { ObsState.reset with writing := some (wRec 4) }, wRec 4, by decide +kernel⟩,
   ⟨((wObs { ObsState.reset with routeWait := [true], routeLast := [some 5] }).put (F.evrRouteEnable 0) true).setReg (R.winLdBind 0) 0x400, 0, 5, 0, by decide +kernel⟩,
   ⟨wObs { ObsState.reset with backlog := [wRec 4] }, wRec 4, [], by decide +kernel⟩,
   ⟨wObs { ObsState.reset with ram := [{ wRec 4 with persisted := true, stale := true }] }, 4, { wRec 4 with persisted := true, stale := true }, by decide +kernel⟩,
   ⟨wObs { ObsState.reset with ram := [wRec 3, wRec 4] }, 4, by decide +kernel⟩,
   ⟨wObs { ObsState.reset with ram := [wRec 3, wRec 4], window := some (wRec 3) }, wRec 3, by decide +kernel⟩⟩

/-- The hypotheses of `Obligations.CountersBandwidthAndSamples` can be met, clause by clause. -/
theorem hyps_CountersBandwidthAndSamples :
    (∃ (s : State) (n : Nat), counterPresent s.part n = true ∧ (s.counter n).sampling = false ∧ (s.counter n).ovf = false) ∧
    (∃ (s : State) (n : Nat) (v : BitVec 64), counterPresent s.part n = true) ∧
    (∃ (s : State) (g : BitVec 64) (i : Nat), i < 64) ∧
    (∃ (s : State) (g : BitVec 64) (i : Nat), i < 64) ∧
    (∃ (s : State) (p : Nat) (v : BitVec 32), p < 64 ∧ s.bwPresent p = true ∧ s.obs.bw.any (fun w => w.idx = p) = false) ∧
    (∃ (s : State) (p : Nat) (v : BitVec 32), p < 64 ∧ s.obs.bw.any (fun w => w.idx = p) = true) ∧
    (∃ (s : State) (p : Nat) (w : BwWindow), p < 64 ∧ s.obs.bw.find? (fun w => w.idx = p) = some w ∧ w.until_ ≤ s.nowDtb) ∧
    (∃ (s : State) (n pc a l : Nat) (x y : Bool), 1152 ≤ n ∧ (s.counter n).sampling = true ∧ (s.counter n).enabled = true ∧ s.frozen n = false ∧ (n - 1152) / 8 < s.part.cores ∧ s.on F.pmcSampleCtlDomainOnly = false ∧ (s.obs.staged.filter (fun x => x.1 = (n - 1152) / 8 / 32)).length < 64) ∧
    (∃ (s : State) (c : Nat) (x : Sample), s.obs.staged.find? (fun x => x.1 = c) = some (c, x) ∧ s.on F.pmcSampleCtlEnable = true ∧ s.on F.pmcSampleCtlWrap = false ∧ s.get F.pmcSampleWrCount - s.get F.pmcSampleRdCount ≠ 2 ^ (s.sampleLog2 - 6)) ∧
    (∃ (s : State) (v : BitVec 32), bits (v.setWidth 64) 0 1 = 0) ∧
    (∃ (s u : State) (v : BitVec 32), bits (v.setWidth 64) 0 1 = 1 ∧ u = (((s.set F.pmcSampleCtlWrap (bits (v.setWidth 64) 1 1)).set F.pmcSampleCtlDomainOnly (bits (v.setWidth 64) 2 1)).set F.pmcSampleCtlSizeLog2 (bits (v.setWidth 64) 8 5)).set F.pmcSampleCtlDomain (bits (v.setWidth 64) 16 10) ∧ u.sampleBufferOk = true) ∧
    (∃ (s : State) (v : BitVec 64), v.toNat ≤ s.get F.pmcSampleWrCount) ∧
    (∃ (s : State) (v : BitVec 64), s.get F.pmcSampleWrCount < v.toNat) :=
  ⟨⟨State.reset, 3199, by decide +kernel⟩,
   ⟨State.reset, 0, 0xFFFFFFFFFFFFFFFF, by decide +kernel⟩,
   ⟨State.reset, 5, 63, by decide +kernel⟩,
   ⟨State.reset, 5, 63, by decide +kernel⟩,
   ⟨State.reset, 48, 3, by decide +kernel⟩,
   ⟨wObs { ObsState.reset with bw := [{ idx := 0, until_ := 5, us := 0, usIn := 0, usOut := 0 }] }, 0, 1, by decide +kernel⟩,
   ⟨wObs { ObsState.reset with bw := [{ idx := 0, until_ := 0, us := 0, usIn := 0, usOut := 0 }] }, 0, { idx := 0, until_ := 0, us := 0, usIn := 0, usOut := 0 }, by decide +kernel⟩,
   ⟨wObs { ObsState.reset with counters := [wCounter] }, 1152, 0x1000, 0, 9, false, true, by decide +kernel⟩,
   ⟨(wObs { ObsState.reset with staged := [(0, wSamp)] }).put F.pmcSampleCtlEnable true, 0, wSamp, by decide +kernel⟩,
   ⟨State.reset, 0x1000, by decide +kernel⟩,
   ⟨State.reset.set F.pmcSampleBaseBase 0x400000000000, ((((State.reset.set F.pmcSampleBaseBase 0x400000000000).set F.pmcSampleCtlWrap 0).set F.pmcSampleCtlDomainOnly 0).set F.pmcSampleCtlSizeLog2 16).set F.pmcSampleCtlDomain 0, 0x1001, by decide +kernel⟩,
   ⟨State.reset.set F.pmcSampleWrCount 9, 9, by decide +kernel⟩,
   ⟨State.reset, 1, by decide +kernel⟩⟩

/-- The hypotheses of `Obligations.PowerResetsAndLossesOfUnits` can be met, clause by clause. -/
theorem hyps_PowerResetsAndLossesOfUnits :
    (∃ s : State, s.supervisor = pwStandby ∧ s.pw.booted = true ∧ s.pw.trip = false ∧ s.pw.lost = false ∧ s.get F.pvModeMode ≠ 4 ∧ s.pw.pfWarn = false) ∧
    (∃ s : State, s.supervisor = pwOn ∧ s.get F.perStatusState < 4 ∧ s.pw.cold = 0 ∧ s.on F.pvSelftestBusy = false) ∧
    (∃ s : State, (s.supervisor ≠ pwOn ∨ 4 ≤ s.get F.perStatusState ∨ s.pw.cold ≠ 0 ∨ s.on F.pvSelftestBusy = true)) ∧
    (∃ s : State, (s.supervisor ≠ pwOn ∨ 4 ≤ s.get F.perStatusState ∨ s.pw.cold ≠ 0 ∨ s.on F.pvSelftestBusy = true)) ∧
    (∃ (s : State) (a b : FlashBank) (l : List Nat) (u : Bool), s.pw.cold = 1 ∧ s.per.flushStep = 7) ∧
    (∃ (s v : State) (a b : FlashBank) (l : List Nat) (u : Bool), s.pw.cold = 2 ∧ s.pw.coldAt + ms 1 ≤ s.clk ∧ v = (State.privetAgain { s with pw := { s.pw with resetKind := s.pw.coldKind, resetClean := s.pw.coldKind != 7 } } a b l u).showReset) ∧
    (∃ (s : State) (f : StartFindings), s.get F.pvModeMode ≠ 4 ∧ s.pw.lost = false ∧ s.get F.pvModeStartPhase = 6 ∧ s.get F.ftStatusState = 2) ∧
    (∃ (s : State) (n : Nat), s.pw.booted = true ∧ s.pv.image ≠ none ∧ s.get F.pvModeStartPhase = 3) ∧
    (∃ (s : State) (n : Nat), s.pv.opening = n ∧ 2 ≤ n ∧ n ≤ 4) ∧
    (∃ (s : State) (n : Nat), s.pv.opening = n ∧ 2 ≤ n ∧ n ≤ 4) ∧
    (∃ s : State, s.pv.opening = 1) ∧
    (∃ s : State, s.pv.opening = 5) ∧
    (∃ s : State, s.pw.booted = true) ∧
    (∃ (s : State) (d : Nat), d < s.part.dies ∧ s.bit F.pvUnitsLostMediaDie d = false) ∧
    (∃ (s : State) (k : Nat), k < s.part.stacks ∧ s.bit F.pvUnitsLostHbmStack k = false ∧ s.supervisor = pwOn ∧ s.perUp = false) ∧
    (∃ (s : State) (k : Nat), k < s.part.stacks ∧ s.stacksWhole = true ∧ s.supervisor = pwOn ∧ s.perUp = true) ∧
    (∃ s : State, s.get F.pvModeMode < 4) ∧
    (∃ (s : State) (l : Nat), s.linkPresent l = true ∧ s.linkUp l = true) ∧
    (∃ (s : State) (l : Nat), s.linkPresent l = true ∧ s.linkUp l = true) ∧
    (∃ (s : State) (n : Nat), n < s.ldCount) :=
  ⟨⟨{ wPw 0 with pw := wOn.pw }, by decide +kernel⟩,
   ⟨wOn, by decide +kernel⟩,
   ⟨wPw 0, by decide +kernel⟩,
   ⟨wOn.put F.pvSelftestBusy true, by decide +kernel⟩,
   ⟨{ wOn with pw := { wOn.pw with cold := 1 }, per := { wOn.per with flushStep := 7 } }, wBank 3, wBank 4, [], false, by decide +kernel⟩,
   ⟨{ wOn with pw := { wOn.pw with cold := 2 } }, (State.privetAgain { wOn with pw := { wOn.pw with cold := 2, resetKind := 0, resetClean := true } } { wBank 3 with magic := 0 } { wBank 4 with magic := 0 } [] false).showReset, { wBank 3 with magic := 0 }, { wBank 4 with magic := 0 }, [], false, by (exact ⟨by decide +kernel, by decide +kernel, rfl⟩)⟩,
   ⟨wLife.set F.pvModeStartPhase 6, wFound, by decide +kernel⟩,
   ⟨{ wOn.set F.pvModeStartPhase 3 with pv := { PvState.reset with image := some (wBank 3) } }, 2, by decide +kernel⟩,
   ⟨{ wOn with pv := { PvState.reset with opening := 2 } }, 2, by decide +kernel⟩,
   ⟨{ wOn with pv := { PvState.reset with opening := 4 } }, 4, by decide +kernel⟩,
   ⟨{ wOn with pv := { PvState.reset with opening := 1 } }, by decide +kernel⟩,
   ⟨{ wOn with pv := { PvState.reset with opening := 5 } }, by decide +kernel⟩,
   ⟨wOn, by decide +kernel⟩,
   ⟨wLife, 0, by decide +kernel⟩,
   ⟨wPw 3, 0, by decide +kernel⟩,
   ⟨wLife, 0, by decide +kernel⟩,
   ⟨wLife, by decide +kernel⟩,
   ⟨wOnline, 0, by decide +kernel⟩,
   ⟨wOnline, 0, by decide +kernel⟩,
   ⟨wRead .transit, 0, by decide +kernel⟩⟩

/-- The hypotheses of `Obligations.SanitizeAndSelfTestRun` can be met, clause by clause. -/
theorem hyps_SanitizeAndSelfTestRun :
    (∃ (s : State) (n : Nat), n < s.ldCount ∧ s.isMgmt n = true ∧ s.sanitizeRefusal = none) ∧
    (∃ (s : State) (n st : Nat), n < s.ldCount ∧ s.isMgmt n = true ∧ s.sanitizeRefusal = some st) ∧
    (∃ (s : State) (r h : Nat) (d : Desc), s.startedDesc? r h opSanitize = some d ∧ d.left ≠ 1 ∧ s.sanitizeRefusal = none) ∧
    (∃ (s : State) (r h st : Nat) (d : Desc), s.startedDesc? r h opSanitize = some d ∧ d.left ≠ 1 ∧ s.sanitizeRefusal = some st) ∧
    (∃ s : State, s.perUp = true ∧ s.get F.pvSanitizeState = 1) ∧
    (∃ s : State, s.perUp = true ∧ s.get F.pvSanitizeState = 2 ∧ s.get F.pvSanitizeScope ≠ 2) ∧
    (∃ s : State, s.perUp = true ∧ s.get F.pvSanitizeState = 3 ∧ s.sanitizeTiles ≤ s.get F.pvSanitizePosition ∧ s.get F.pvSanitizeScope = 1) ∧
    (∃ s : State, s.perUp = true ∧ s.get F.pvSanitizeState = 4) ∧
    (∃ s : State, s.perUp = true ∧ s.get F.pvSanitizeState = 5) ∧
    (∃ (s : State) (n : Nat), s.perUp = true ∧ s.get F.pvSanitizeState = 3 ∧ s.get F.pvSanitizePosition = n ∧ n < s.sanitizeTiles) ∧
    (∃ (s : State) (n : Nat), s.perUp = true ∧ s.get F.pvSanitizeState = 3 ∧ s.get F.pvSanitizePosition = n ∧ n < s.sanitizeTiles) ∧
    (∃ (s : State) (r h : Nat) (d : Desc), s.startedDesc? r h opSelftest = some d ∧ d.left = 0 ∧ d.num 16 4 = 0) ∧
    (∃ (s : State) (r h : Nat) (d : Desc), s.startedDesc? r h opSelftest = some d ∧ d.left = 0 ∧ d.num 16 4 ≠ 0 ∧ d.num 16 4 < 2 ^ 11 ∧ s.ringInHost r = true ∧ s.on F.pvModeMaintenance = false ∧ d.quiesce = false) ∧
    (∃ (s : State) (r h : Nat) (d : Desc), s.startedDesc? r h opSelftest = some d ∧ d.left = 0 ∧ d.num 16 4 ≠ 0 ∧ d.num 16 4 < 2 ^ 11 ∧ s.ringInHost r = true ∧ d.quiesce = true ∧ s.on F.pvSelftestBusy = false) ∧
    (∃ (s : State) (r h : Nat) (d : Desc), s.startedDesc? r h opSelftest = some d ∧ d.left ≠ 0 ∧ s.pw.selfStep = 2 ∧ s.per.window.phase = .idle ∧ s.per.ftier.phase = .idle) ∧
    (∃ (s : State) (c k : Nat) (l : List Nat) (d : Desc) (u : BitVec 64), s.pw.selfStep = 3 ∧ s.pw.selfLeft = c :: k :: l ∧ s.selfDesc? = some d) ∧
    (∃ (s : State) (c : Nat) (d : Desc) (u : BitVec 64), s.pw.selfStep = 3 ∧ s.pw.selfLeft = [c] ∧ s.selfDesc? = some d ∧ d.phase = .started ∧ s.desc? d.ring d.handle = some d ∧ s.srcWaits (.ring d.ring d.handle) = false) ∧
    (∃ (s : State) (f : Bool) (u : BitVec 64), s.pw.selfStep = 4 ∧ s.selfDesc? = none) :=
  ⟨⟨wMgmt, 0, by decide +kernel⟩,
   ⟨wMgmt.set F.pvSanitizeState 2, 0, stSanitizeActive, by decide +kernel⟩,
   ⟨wRingD (wStarted opSanitize [0, 3]), 5, 3, wStarted opSanitize [0, 3], by decide +kernel⟩,
   ⟨(wRingD (wStarted opSanitize [0, 3])).set F.pvSanitizeState 2, 5, 3, stSanitizeActive, wStarted opSanitize [0, 3], by decide +kernel⟩,
   ⟨wSan 1 3, by decide +kernel⟩,
   ⟨wSan 2 3, by decide +kernel⟩,
   ⟨(wSan 3 1).set F.pvSanitizePosition 507904, by decide +kernel⟩,
   ⟨wSan 4 3, by decide +kernel⟩,
   ⟨wSan 5 3, by decide +kernel⟩,
   ⟨wSan 3 3, 0, by decide +kernel⟩,
   ⟨(wSan 3 3).set F.pvSanitizePosition 507903, 507903, by decide +kernel⟩,
   ⟨wRingHost (wStarted opSelftest []), 5, 3, wStarted opSelftest [], by decide +kernel⟩,
   ⟨wRingHost (wStarted opSelftest [0, 3]), 5, 3, wStarted opSelftest [0, 3], by decide +kernel⟩,
   ⟨wRingHost wSelfD, 5, 3, wSelfD, by decide +kernel⟩,
   ⟨wSelf 2 [] (wLeft 1 wSelfD), 5, 3, wLeft 1 wSelfD, by decide +kernel⟩,
   ⟨wSelf 3 [0, 1] (wLeft 1 wSelfD), 0, 1, [], wLeft 1 wSelfD, 0, by decide +kernel⟩,
   ⟨wSelf 3 [10] (wLeft 1 wSelfD), 10, wLeft 1 wSelfD, 0, by decide +kernel⟩,
   ⟨wSelf 4 [] (wStarted opNop []), false, 0, by decide +kernel⟩⟩

end Sys2Proof.Tests
end

/-!
PROOFS. The scope statements: what every step keeps (O4), accesses that reach no register (O13), and what a write leaves by
the access codes of the bits (O14).
-/
namespace Sys2Proof.Proofs.Scope
open Sys2Proof.Machine

/-! ### What a command keeps: every part outside its footprint, and the invariant -/

/-- The mask, in the sense of `Keeps`, of a list of parts of the state. -/
def mask : List Comp → Nat
  | [] => 0
  | c :: l => 2 ^ c.idx ||| mask l

theorem getElem?_idx_all (c : Comp) : Comp.all[c.idx]? = some c := by
  cases c <;> rfl

theorem idx_inj {c d : Comp} : c.idx = d.idx ↔ c = d where
  mp h := Option.some.inj (by rw [← getElem?_idx_all c, ← getElem?_idx_all d, h])
  mpr h := congrArg Comp.idx h

/-- The mask of a list holds exactly the bits of the parts listed. -/
theorem testBit_mask (p : Comp) (l : List Comp) : (mask l).testBit p.idx = decide (p ∈ l) := by
  induction l with
  | nil => simp [mask]
  | cons c l ih => simp [mask, Nat.testBit_or, Nat.testBit_two_pow, ih, idx_inj, eq_comm]

/-- Every command that goes on changes no part of the state outside its footprint, and keeps what `Keeps` lists besides: the
part, the queue, the clock and the canonical forms. Each case is the law of that command's meaning (Laws/Keeps*). -/
theorem exec_keeps (s : State) (c : Instr) : KeepsOut (mask (footprint c)) s (exec c s) := by
  have h : ∀ m, Keeps m s s := fun m => .refl m s
  cases c with dsimp only [footprint]
  | registerWrite dom addr width value => exact (h _).runRegisterWrite dom addr width value rfl
  | registerAccessBadWidth dom addr width read => exact (h _).runRegisterAccessBadWidth dom addr width read rfl
  | powerOn => exact (h _).runPowerOn rfl
  | porstNAssert => exact (h _).runPorstNAssert rfl
  | hbmStackFailure stack => exact (h _).runHbmStackFailure stack rfl
  | clockMonitorLoss clock => exact (h _).runClockMonitorLoss clock rfl
  | mediaDieLoss die => exact (h _).runMediaDieLoss die rfl
  | ptpMessageReceive port sourceTime => exact (h _).runPtpMessageReceive port sourceTime rfl
  | ptpSourceLoss => exact (h _).runPtpSourceLoss rfl
  | ppsInEdge => exact (h _).runPpsInEdge rfl
  | tbSetWrite value => exact (h _).runTbSetWrite value rfl
  | tbCtlWrite value => exact (h _).runTbCtlWrite value rfl
  | holdoverExpiry => exact (h _).runHoldoverExpiry rfl
  | tcxoFailure => exact (h _).runTcxoFailure rfl
  | ppsOutPulse => exact (h _).runPpsOutPulse rfl
  | timeMessageSend => exact (h _).runTimeMessageSend rfl
  | timeMessageReceive port hubTime delayNs => exact (h _).runTimeMessageReceive port hubTime delayNs rfl
  | dieTimeLost die => exact (h _).runDieTimeLost die rfl
  | dieLaunchHold die => exact (h _).runDieLaunchHold die rfl
  | agentTimeLost agent => exact (h _).runAgentTimeLost agent rfl
  | launchSlotArm unit slot value => exact (h _).runLaunchSlotArm unit slot value rfl
  | launchSlotCancel unit slot value => exact (h _).runLaunchSlotCancel unit slot value rfl
  | launchSlotFire unit slot => exact (h _).runLaunchSlotFire unit slot rfl
  | launchArmSend agent slot => exact (h _).runLaunchArmSend agent slot rfl
  | cxlLinkTrained link width rate => exact (h _).runCxlLinkTrained link width rate rfl
  | cxlLinkDown link => exact (h _).runCxlLinkDown link rfl
  | cxlLinkReset link => exact (h _).runCxlLinkReset link rfl
  | ldReset ld => exact (h _).runLdReset ld rfl
  | winLdBindWrite ld value => exact (h _).runWinLdBindWrite ld value rfl
  | winLdExtentWrite ld extent value => exact (h _).runWinLdExtentWrite ld extent value rfl
  | hdmDecoderCommit ld decoder base size ways granularity skip position bi biEnabled => exact (h _).runHdmDecoderCommit ld decoder base size ways granularity skip position bi biEnabled rfl
  | cxlMemRead link ld tag hpa cacheable => exact (h _).runCxlMemRead link ld tag hpa cacheable rfl
  | memwr link ld tag hpa data poison => exact (h _).runMemwr link ld tag hpa data poison rfl
  | memwrptl link ld tag hpa data mask poison => exact (h _).runMemwrptl link ld tag hpa data mask poison rfl
  | birsp link line dirty => exact (h _).runBirsp link line dirty rfl
  | biTimeout link line => exact (h _).runBiTimeout link line rfl
  | sfEvictionComplete sector => exact (h _).runSfEvictionComplete sector rfl
  | admissionRelease read => exact (h _).runAdmissionRelease read rfl
  | readDeadline read => exact (h _).runReadDeadline read rfl
  | clearentry => exact (h _).runClearentry rfl
  | clearall => exact (h _).runClearall rfl
  | clearoverflow => exact (h _).runClearoverflow rfl
  | gpfPhase1 link => exact (h _).runGpfPhase1 link rfl
  | gpfPhase2 link => exact (h _).runGpfPhase2 link rfl
  | getEventRecords ld log => exact (h _).runGetEventRecords ld log rfl
  | clearEventRecords ld log handles all => exact (h _).runClearEventRecords ld log handles all rfl
  | getEventInterruptPolicy ld => exact (h _).runGetEventInterruptPolicy ld rfl
  | setEventInterruptPolicy ld policy => exact (h _).runSetEventInterruptPolicy ld policy rfl
  | getFwInfo ld => exact (h _).runGetFwInfo ld rfl
  | transferFw ld action offset data => exact (h _).runTransferFw ld action offset data rfl
  | activateFw ld action slot => exact (h _).runActivateFw ld action slot rfl
  | getTimestamp ld => exact (h _).runGetTimestamp ld rfl
  | setTimestamp ld value => exact (h _).runSetTimestamp ld value rfl
  | getSupportedLogs ld => exact (h _).runGetSupportedLogs ld rfl
  | getLog ld log offset length => exact (h _).runGetLog ld log offset length rfl
  | identifyMemoryDevice ld => exact (h _).runIdentifyMemoryDevice ld rfl
  | getPartitionInfo ld => exact (h _).runGetPartitionInfo ld rfl
  | getHealthInfo ld => exact (h _).runGetHealthInfo ld rfl
  | getAlertConfiguration ld => exact (h _).runGetAlertConfiguration ld rfl
  | setAlertConfiguration ld alerts => exact (h _).runSetAlertConfiguration ld alerts rfl
  | getPoisonList ld dpa length limit => exact (h _).runGetPoisonList ld dpa length limit rfl
  | injectPoison ld dpa => exact (h _).runInjectPoison ld dpa rfl
  | clearPoison ld dpa data => exact (h _).runClearPoison ld dpa data rfl
  | sanitize ld => exact (h _).runSanitize ld rfl
  | unsupportedMailboxCommand ld opcode => exact (h _).runUnsupportedMailboxCommand ld opcode rfl
  | getLdInfo link => exact (h _).runGetLdInfo link rfl
  | getLdAllocations link start limit => exact (h _).runGetLdAllocations link start limit rfl
  | setLdAllocations link payload => exact (h _).runSetLdAllocations link payload rfl
  | quicksetMerge line => exact (h _).runQuicksetMerge line rfl
  | mediaWriteComplete write => exact (h _).runMediaWriteComplete write rfl
  | lcEnable value => exact (h _).runLcEnable value rfl
  | lcDisable value => exact (h _).runLcDisable value rfl
  | clean issue => exact (h _).runClean issue rfl
  | invalidate issue => exact (h _).runInvalidate issue rfl
  | prefetch issue => exact (h _).runPrefetch issue rfl
  | lockRange issue => exact (h _).runLockRange issue rfl
  | unlock issue => exact (h _).runUnlock issue rfl
  | invalidateall issue => exact (h _).runInvalidateall issue rfl
  | rangeOpTurn => exact (h _).runRangeOpTurn rfl
  | rangeOpComplete slot => exact (h _).runRangeOpComplete slot rfl
  | hbmUncorrectable line => exact (h _).runHbmUncorrectable line rfl
  | tagUncorrectable set way mayHoldDirty => exact (h _).runTagUncorrectable set way mayHoldDirty rfl
  | channelTrainingStep chan step fail0 fail1 id0 id1 margin => exact (h _).runChannelTrainingStep chan step fail0 fail1 id0 id1 margin rfl
  | bankReadArrival read => exact (h _).runBankReadArrival read rfl
  | arrayReadComplete read decode => exact (h _).runArrayReadComplete read decode rfl
  | pageReadComplete read corrected uncorrectable => exact (h _).runPageReadComplete read corrected uncorrectable rfl
  | strongDecodeComplete read corrected success => exact (h _).runStrongDecodeComplete read corrected success rfl
  | writeTokenGrant write => exact (h _).runWriteTokenGrant write rfl
  | comparisonReadComplete chan lane => exact (h _).runComparisonReadComplete chan lane rfl
  | segmentEnd chan lane failing => exact (h _).runSegmentEnd chan lane failing rfl
  | forcedSegment chan lane => exact (h _).runForcedSegment chan lane rfl
  | caAlert chan rank command again => exact (h _).runCaAlert chan rank command again rfl
  | retrainnow chan => exact (h _).runRetrainnow chan rfl
  | retrainPeriodExpiry chan => exact (h _).runRetrainPeriodExpiry chan rfl
  | retrainSliceComplete chan margin => exact (h _).runRetrainSliceComplete chan margin rfl
  | internalRewriteStart rewrite corrected uncorrectable => exact (h _).runInternalRewriteStart rewrite corrected uncorrectable rfl
  | ageMapRecompute => exact (h _).runAgeMapRecompute rfl
  | driftRefreshTile tile => exact (h _).runDriftRefreshTile tile rfl
  | refreshBehind => exact (h _).runRefreshBehind rfl
  | scrubPageRead chan corrected uncorrectable strongCorrected success recordGood => exact (h _).runScrubPageRead chan corrected uncorrectable strongCorrected success recordGood rfl
  | scrubStarved chan => exact (h _).runScrubStarved chan rfl
  | scrubLapOverLimit chan => exact (h _).runScrubLapOverLimit chan rfl
  | retirePageByAddress issue => exact (h _).runRetirePageByAddress issue rfl
  | retirePageByLocation issue => exact (h _).runRetirePageByLocation issue rfl
  | retireRank issue => exact (h _).runRetireRank issue rfl
  | retirementCopyComplete => exact (h _).runRetirementCopyComplete rfl
  | nandDieOffline chan die => exact (h _).runNandDieOffline chan die rfl
  | nandPageReadComplete read decoded rebuilt => exact (h _).runNandPageReadComplete read decoded rebuilt rfl
  | programResume chan die => exact (h _).runProgramResume chan die rfl
  | destage slot => exact (h _).runDestage slot rfl
  | programGroupComplete band => exact (h _).runProgramGroupComplete band rfl
  | padTimer stream => exact (h _).runPadTimer stream rfl
  | relocation band => exact (h _).runRelocation band rfl
  | dieCalibration chan die => exact (h _).runDieCalibration chan die rfl
  | calibrationComplete chan die => exact (h _).runCalibrationComplete chan die rfl
  | coppiceReclaim => exact (h _).runCoppiceReclaim rfl
  | bandEraseComplete band => exact (h _).runBandEraseComplete band rfl
  | programFailure chan die plane => exact (h _).runProgramFailure chan die plane rfl
  | eraseFailure chan die plane => exact (h _).runEraseFailure chan die plane rfl
  | ftGrantEntryWrite value => exact (h _).runFtGrantEntryWrite value rfl
  | ftStreamCfgWrite stream value => exact (h _).runFtStreamCfgWrite stream value rfl
  | heat ring handle => exact (h _).runHeat ring handle rfl
  | pin ring handle => exact (h _).runPin ring handle rfl
  | group ring handle => exact (h _).runGroup ring handle rfl
  | colocate ring handle => exact (h _).runColocate ring handle rfl
  | hazelown ring handle => exact (h _).runHazelown ring handle rfl
  | topGroupCfgWrite value => exact (h _).runTopGroupCfgWrite value rfl
  | heatRanking => exact (h _).runHeatRanking rfl
  | heatHalving => exact (h _).runHeatHalving rfl
  | balanceMove => exact (h _).runBalanceMove rfl
  | readOnlyPlotMigration plot => exact (h _).runReadOnlyPlotMigration plot rfl
  | migrationStart => exact (h _).runMigrationStart rfl
  | migrationPageCopy plot => exact (h _).runMigrationPageCopy plot rfl
  | migrationRelease plot => exact (h _).runMigrationRelease plot rfl
  | slotDestageDecision => exact (h _).runSlotDestageDecision rfl
  | pageCaptureComplete page => exact (h _).runPageCaptureComplete page rfl
  | quicksetEntryError line => exact (h _).runQuicksetEntryError line rfl
  | journalCopyWriteComplete count => exact (h _).runJournalCopyWriteComplete count rfl
  | checkpointTimer ftier => exact (h _).runCheckpointTimer ftier rfl
  | checkpointnow => exact (h _).runCheckpointnow rfl
  | checkpointImageWritten ftier => exact (h _).runCheckpointImageWritten ftier rfl
  | checkpointEndDurable ftier => exact (h _).runCheckpointEndDurable ftier rfl
  | checkpointFailure => exact (h _).runCheckpointFailure rfl
  | shutdownnow => exact (h _).runShutdownnow rfl
  | flushStepComplete => exact (h _).runFlushStepComplete rfl
  | recoveryPhaseComplete badBlocks => exact (h _).runRecoveryPhaseComplete badBlocks rfl
  | checkRebuildPage loc bad decoded => exact (h _).runCheckRebuildPage loc bad decoded rfl
  | snapshotUnitFree slot => exact (h _).runSnapshotUnitFree slot rfl
  | mirrorLines qp epoch seq lines opens => exact (h _).runMirrorLines qp epoch seq lines opens rfl
  | mirrorEndOfEpoch qp epoch seq opens => exact (h _).runMirrorEndOfEpoch qp epoch seq opens rfl
  | mirrorApplyComplete => exact (h _).runMirrorApplyComplete rfl
  | mirrorAcknowledgement qp epoch seq opens => exact (h _).runMirrorAcknowledgement qp epoch seq opens rfl
  | mirrorRequestEpochAgain qp epoch seq opens => exact (h _).runMirrorRequestEpochAgain qp epoch seq opens rfl
  | mirrorEndMarkerSend => exact (h _).runMirrorEndMarkerSend rfl
  | mirrorEnable value => exact (h _).runMirrorEnable value rfl
  | mirrorDisable value => exact (h _).runMirrorDisable value rfl
  | hazelLoad core pc addr size signed dst outside => exact (h _).runHazelLoad core pc addr size signed dst outside rfl
  | hazelStore core pc addr bytes => exact (h _).runHazelStore core pc addr bytes rfl
  | hazelNtStore core pc addr bytes => exact (h _).runHazelNtStore core pc addr bytes rfl
  | hazelAmo core pc op addr wide operand dst outside => exact (h _).runHazelAmo core pc op addr wide operand dst outside rfl
  | hazelLr core pc addr wide dst outside => exact (h _).runHazelLr core pc addr wide dst outside rfl
  | hazelSc core pc addr wide operand dst => exact (h _).runHazelSc core pc addr wide operand dst rfl
  | fence core pc => exact (h _).runFence core pc rfl
  | fenceI core pc => exact (h _).runFenceI core pc rfl
  | combiningBufferIdle core line => exact (h _).runCombiningBufferIdle core line rfl
  | storeAck core => exact (h _).runStoreAck core rfl
  | storeTimeout core => exact (h _).runStoreTimeout core rfl
  | earlyStoreDrop src addr dom => exact (h _).runEarlyStoreDrop src addr dom rfl
  | hazelException core pc cause addr => exact (h _).runHazelException core pc cause addr rfl
  | ringSqTailDoorbell ring dom value => exact (h _).runRingSqTailDoorbell ring dom value rfl
  | ringCqHeadDoorbell ring dom value => exact (h _).runRingCqHeadDoorbell ring dom value rfl
  | ringEnable ring => exact (h _).runRingEnable ring rfl
  | ringDisable ring => exact (h _).runRingDisable ring rfl
  | abort ring => exact (h _).runAbort ring rfl
  | ringBindWrite ring value => exact (h _).runRingBindWrite ring value rfl
  | descriptorFetch ring count => exact (h _).runDescriptorFetch ring count rfl
  | descriptorReadComplete ring words => exact (h _).runDescriptorReadComplete ring words rfl
  | descriptorComplete ring handle fails => exact (h _).runDescriptorComplete ring handle fails rfl
  | ringNop ring handle => exact (h _).runRingNop ring handle rfl
  | ftRead ring handle => exact (h _).runFtRead ring handle rfl
  | ftWrite ring handle outside => exact (h _).runFtWrite ring handle outside rfl
  | ftTrim ring handle => exact (h _).runFtTrim ring handle rfl
  | ftFlush ring handle => exact (h _).runFtFlush ring handle rfl
  | move ring handle outside => exact (h _).runMove ring handle outside rfl
  | movePeerWrite ring handle outside => exact (h _).runMovePeerWrite ring handle outside rfl
  | movePeerRead ring handle => exact (h _).runMovePeerRead ring handle rfl
  | hzLaunch ring handle => exact (h _).runHzLaunch ring handle rfl
  | gcmSeal ring handle outside => exact (h _).runGcmSeal ring handle outside rfl
  | gcmOpen ring handle outside => exact (h _).runGcmOpen ring handle outside rfl
  | epochCut ring handle => exact (h _).runEpochCut ring handle rfl
  | snapshotCut ring handle => exact (h _).runSnapshotCut ring handle rfl
  | snapshotDelete ring handle => exact (h _).runSnapshotDelete ring handle rfl
  | snapshotRead ring handle => exact (h _).runSnapshotRead ring handle rfl
  | adminShutdown ring handle => exact (h _).runAdminShutdown ring handle rfl
  | adminSanitize ring handle => exact (h _).runAdminSanitize ring handle rfl
  | adminSelftest ring handle => exact (h _).runAdminSelftest ring handle rfl
  | adminCheckpoint ring handle => exact (h _).runAdminCheckpoint ring handle rfl
  | progressRecord ring handle permille position => exact (h _).runProgressRecord ring handle permille position rfl
  | notificationCoalesceTimer ring => exact (h _).runNotificationCoalesceTimer ring rfl
  | remoteSubmission ring => exact (h _).runRemoteSubmission ring rfl
  | qFlush queue => exact (h _).runQFlush queue rfl
  | spillQuotaWrite queue quotaMiB => exact (h _).runSpillQuotaWrite queue quotaMiB rfl
  | kernelStart die image args => exact (h _).runKernelStart die image args rfl
  | exit core pc => exact (h _).runExit core pc rfl
  | coresSync core pc => exact (h _).runCoresSync core pc rfl
  | handlerReturn core => exact (h _).runHandlerReturn core rfl
  | kernelCompletion kernel => exact (h _).runKernelCompletion kernel rfl
  | kernelDeadline kernel => exact (h _).runKernelDeadline kernel rfl
  | hzCoreReset core => exact (h _).runHzCoreReset core rfl
  | coreDrainComplete core => exact (h _).runCoreDrainComplete core rfl
  | imageflush die => exact (h _).runImageflush die rfl
  | hzShmGrantWrite unit value => exact (h _).runHzShmGrantWrite unit value rfl
  | ethFrameReceive port bytes mac fcsGood frame => exact (h _).runEthFrameReceive port bytes mac fcsGood frame rfl
  | netQpCtx0Commit qp value => exact (h _).runNetQpCtx0Commit qp value rfl
  | netMrCtlCommit region value => exact (h _).runNetMrCtlCommit region value rfl
  | netGidCtlCommit index value => exact (h _).runNetGidCtlCommit index value rfl
  | send qp psn first last bytes => exact (h _).runSend qp psn first last bytes rfl
  | rdmaWrite qp psn first last addr rkey len bytes => exact (h _).runRdmaWrite qp psn first last addr rkey len bytes rfl
  | rdmaWriteAckSend qp => exact (h _).runRdmaWriteAckSend qp rfl
  | rdmaRead qp psn addr rkey len => exact (h _).runRdmaRead qp psn addr rkey len rfl
  | readResponseSend qp => exact (h _).runReadResponseSend qp rfl
  | compareAndSwap qp psn addr rkey compare swap => exact (h _).runCompareAndSwap qp psn addr rkey compare swap rfl
  | fetchAndAdd qp psn addr rkey add => exact (h _).runFetchAndAdd qp psn addr rkey add rfl
  | qpRetryTimeout qp => exact (h _).runQpRetryTimeout qp rfl
  | ackReceive qp psn bytes => exact (h _).runAckReceive qp psn bytes rfl
  | nakReceive qp psn kind => exact (h _).runNakReceive qp psn kind rfl
  | pfcPauseReceive port pause => exact (h _).runPfcPauseReceive port pause rfl
  | portPaused100ms port => exact (h _).runPortPaused100ms port rfl
  | cnpReceive qp => exact (h _).runCnpReceive qp rfl
  | ccAlphaTimer qp => exact (h _).runCcAlphaTimer qp rfl
  | ccIncreaseTimer qp => exact (h _).runCcIncreaseTimer qp rfl
  | portLinkUp port => exact (h _).runPortLinkUp port rfl
  | portLinkDown port => exact (h _).runPortLinkDown port rfl
  | loadGcmSlot dom slot => exact (h _).runLoadGcmSlot dom slot rfl
  | clearGcmSlot dom slot => exact (h _).runClearGcmSlot dom slot rfl
  | replaceXtsKey dom issuer => exact (h _).runReplaceXtsKey dom issuer rfl
  | keyCommandComplete dom => exact (h _).runKeyCommandComplete dom rfl
  | xtsKeySwitch dom => exact (h _).runXtsKeySwitch dom rfl
  | keyPinRelease dom => exact (h _).runKeyPinRelease dom rfl
  | keyReplicaLoad dom => exact (h _).runKeyReplicaLoad dom rfl
  | cipherCoreOffline gcm core => exact (h _).runCipherCoreOffline gcm core rfl
  | nearPathLaneFailure die => exact (h _).runNearPathLaneFailure die rfl
  | kiliusTrainingStart port => exact (h _).runKiliusTrainingStart port rfl
  | kiliusTrainingStep port id lanes => exact (h _).runKiliusTrainingStep port id lanes rfl
  | kiliusTrainingStepFail port => exact (h _).runKiliusTrainingStepFail port rfl
  | trainingBackoff port => exact (h _).runTrainingBackoff port rfl
  | align port flit => exact (h _).runAlign port flit rfl
  | delayprobe port flit => exact (h _).runDelayprobe port flit rfl
  | delayecho port flit roundTripPs => exact (h _).runDelayecho port flit roundTripPs rfl
  | pmreq port flit => exact (h _).runPmreq port flit rfl
  | pmack port flit => exact (h _).runPmack port flit rfl
  | pmnak port flit => exact (h _).runPmnak port flit rfl
  | downnotice port flit => exact (h _).runDownnotice port flit rfl
  | pmreqRetry port => exact (h _).runPmreqRetry port rfl
  | payloadFlit port flit => exact (h _).runPayloadFlit port flit rfl
  | idleFlit port flit => exact (h _).runIdleFlit port flit rfl
  | flitCrcError port bytes => exact (h _).runFlitCrcError port bytes rfl
  | ackTimeout port => exact (h _).runAckTimeout port rfl
  | klRetrain port => exact (h _).runKlRetrain port rfl
  | klDisable port disable => exact (h _).runKlDisable port disable rfl
  | retrainingComplete port success id lanes => exact (h _).runRetrainingComplete port success id lanes rfl
  | l1IdleTimer port => exact (h _).runL1IdleTimer port rfl
  | l1Exit port asked success => exact (h _).runL1Exit port asked success rfl
  | l2Timeout => exact (h _).runL2Timeout rfl
  | sidebandLoss port => exact (h _).runSidebandLoss port rfl
  | kiliusRead agent tag addr lenM1 host => exact (h _).runKiliusRead agent tag addr lenM1 host rfl
  | writenp agent tag addr lenM1 poison bytes hostDone => exact (h _).runWritenp agent tag addr lenM1 poison bytes hostDone rfl
  | fetchadd agent tag addr lenM1 addend => exact (h _).runFetchadd agent tag addr lenM1 addend rfl
  | swap agent tag addr lenM1 value => exact (h _).runSwap agent tag addr lenM1 value rfl
  | compareswap agent tag addr lenM1 compare value => exact (h _).runCompareswap agent tag addr lenM1 compare value rfl
  | kiliusWrite agent addr lenM1 poison bytes => exact (h _).runKiliusWrite agent addr lenM1 poison bytes rfl
  | cmp agent tag status => exact (h _).runCmp agent tag status rfl
  | readdata agent tag status poison bytes => exact (h _).runReaddata agent tag status poison bytes rfl
  | atomicdata agent tag status old => exact (h _).runAtomicdata agent tag status old rfl
  | barrier agent tag posted requests => exact (h _).runBarrier agent tag posted requests rfl
  | barrierComplete agent tag => exact (h _).runBarrierComplete agent tag rfl
  | hostinterrupt agent ld vector => exact (h _).runHostinterrupt agent ld vector rfl
  | postederror agent addr status index => exact (h _).runPostederror agent addr status index rfl
  | launchfired agent slot state lateness late => exact (h _).runLaunchfired agent slot state lateness late rfl
  | event agent severity code data => exact (h _).runEvent agent severity code data rfl
  | admitAgent agent value => exact (h _).runAdmitAgent agent value rfl
  | revoke agent value => exact (h _).runRevoke agent value rfl
  | agentRequestTimeout agent tag => exact (h _).runAgentRequestTimeout agent tag rfl
  | klAptCommit agent entry value => exact (h _).runKlAptCommit agent entry value rfl
  | meshFlitError die router direction again => exact (h _).runMeshFlitError die router direction again rfl
  | privetBoot bankA bankB badKeys udsBad => exact (h _).runPrivetBoot bankA bankB badKeys udsBad rfl
  | componentCheckFailure component => exact (h _).runComponentCheckFailure component rfl
  | commit => exact (h _).runCommit rfl
  | revert => exact (h _).runRevert rfl
  | getVersion ld => exact (h _).runGetVersion ld rfl
  | getCapabilities ld => exact (h _).runGetCapabilities ld rfl
  | negotiateAlgorithms ld offered => exact (h _).runNegotiateAlgorithms ld offered rfl
  | getDigests ld => exact (h _).runGetDigests ld rfl
  | getCertificate ld slot offset length => exact (h _).runGetCertificate ld slot offset length rfl
  | challenge ld slot nonce => exact (h _).runChallenge ld slot nonce rfl
  | getMeasurements ld index => exact (h _).runGetMeasurements ld index rfl
  | spdmUnsupportedRequest ld request => exact (h _).runSpdmUnsupportedRequest ld request rfl
  | importKek dom outside => exact (h _).runImportKek dom outside rfl
  | eraseKek dom => exact (h _).runEraseKek dom rfl
  | kekCommandComplete onCurve => exact (h _).runKekCommandComplete onCurve rfl
  | idcode => exact (h _).runIdcode rfl
  | bypass bit => exact (h _).runBypass bit rfl
  | nonce => exact (h _).runNonce rfl
  | pvDebugUnlockStart outside keyMatches signatureValid => exact (h _).runPvDebugUnlockStart outside keyMatches signatureValid rfl
  | debugOpeningStep => exact (h _).runDebugOpeningStep rfl
  | psWrite => exact (h _).runPsWrite rfl
  | psPageWriteComplete => exact (h _).runPsPageWriteComplete rfl
  | psRead bad => exact (h _).runPsRead bad rfl
  | marginRefresh page fails => exact (h _).runMarginRefresh page fails rfl
  | sequenceStepComplete => exact (h _).runSequenceStepComplete rfl
  | seqPgDrop rail => exact (h _).runSeqPgDrop rail rfl
  | sequenceWindowExpiry rail => exact (h _).runSequenceWindowExpiry rail rfl
  | powerDownStep late => exact (h _).runPowerDownStep late rfl
  | backoffExpiry => exact (h _).runBackoffExpiry rfl
  | attemptCountReset => exact (h _).runAttemptCountReset rfl
  | runningRailFault rail lowNs => exact (h _).runRunningRailFault rail lowNs rfl
  | pfWarnNTrigger lowUs => exact (h _).runPfWarnNTrigger lowUs rfl
  | flushLimitExpiry => exact (h _).runFlushLimitExpiry rfl
  | inputReturn => exact (h _).runInputReturn rfl
  | holduptest v0Mv => exact (h _).runHolduptest v0Mv rfl
  | holdupInterval v0Mv => exact (h _).runHoldupInterval v0Mv rfl
  | holdupTestComplete v1Mv => exact (h _).runHoldupTestComplete v1Mv rfl
  | sensorSample sensor raw fault => exact (h _).runSensorSample sensor raw fault rfl
  | throttleFall loop => exact (h _).runThrottleFall loop rfl
  | powerEstimate watts => exact (h _).runPowerEstimate watts rfl
  | hardwareTrip sensor => exact (h _).runHardwareTrip sensor rfl
  | tripResetRelease => exact (h _).runTripResetRelease rfl
  | startHoldTimeout => exact (h _).runStartHoldTimeout rfl
  | eventIntake => exact (h _).runEventIntake rfl
  | eventRecordWrite => exact (h _).runEventRecordWrite rfl
  | routeHoldExpiry route => exact (h _).runRouteHoldExpiry route rfl
  | persistentCopyWrite => exact (h _).runPersistentCopyWrite rfl
  | repeatRewrite seq => exact (h _).runRepeatRewrite seq rfl
  | evrCursorWrite value => exact (h _).runEvrCursorWrite value rfl
  | next => exact (h _).runNext rfl
  | clearram => exact (h _).runClearram rfl
  | clearpersist => exact (h _).runClearpersist rfl
  | counterWrap counter => exact (h _).runCounterWrap counter rfl
  | pmcCntWrite counter value => exact (h _).runPmcCntWrite counter value rfl
  | pmcFreeze groups => exact (h _).runPmcFreeze groups rfl
  | pmcThaw groups => exact (h _).runPmcThaw groups rfl
  | bwWindowOpen index value => exact (h _).runBwWindowOpen index value rfl
  | bwWindowClose index => exact (h _).runBwWindowClose index rfl
  | sampleTake counter pc dataAddr latencyNs addrValid latencyValid => exact (h _).runSampleTake counter pc dataAddr latencyNs addrValid latencyValid rfl
  | sampleArrival cluster => exact (h _).runSampleArrival cluster rfl
  | pmcSampleEnable value => exact (h _).runPmcSampleEnable value rfl
  | pmcSampleRdWrite value => exact (h _).runPmcSampleRdWrite value rfl
  | coldreset => exact (h _).runColdreset rfl
  | coldResetStep bankA bankB badKeys udsBad => exact (h _).runColdResetStep bankA bankB badKeys udsBad rfl
  | startupMilestone milestone found => exact (h _).runStartupMilestone milestone found rfl
  | sanitizePhase => exact (h _).runSanitizePhase rfl
  | sanitizeOverwriteBatch => exact (h _).runSanitizeOverwriteBatch rfl
  | selftestClassComplete failed units => exact (h _).runSelftestClassComplete failed units rfl
  | ppsInSourceLoss => exact (h _).runPpsInSourceLoss rfl
  | standbyRailLoss => exact (h _).runStandbyRailLoss rfl
  | debugUnlockInstruction token keyMatches signatureValid => exact (h _).runDebugUnlockInstruction token keyMatches signatureValid rfl
  | phyretrainRequest port => exact (h _).runPhyretrainRequest port rfl
  | recoveryBoundExpiry => exact (h _).runRecoveryBoundExpiry rfl
  | hostApertureTimeout agent tag => exact (h _).runHostApertureTimeout agent tag rfl
  | hbmInterfaceRecalibration => exact (h _).runHbmInterfaceRecalibration rfl
  | poweredHoursIncrement => exact (h _).runPoweredHoursIncrement rfl

/-- A nanosecond changes the clock and the timebase. -/
theorem tick_keeps (s : State) : Keeps (mask [.time]) { s with clk := s.clk + 1 } s.tick := by
  unfold State.tick
  dsimp only
  split
  · exact (Keeps.refl _ _).upd rfl rfl rfl (k := 2) rfl
  · exact (Keeps.refl _ _).upd rfl rfl rfl (k := 2) rfl

/-- An idle step is a nanosecond, the count of a throttled microsecond, and the work that can go on. -/
theorem idle_keeps (s : State) : Keeps (mask Comp.all) { s with clk := s.clk + 1 } s.idle := by
  have hmask : Keeps.sub (mask [.time]) (mask Comp.all) := rfl
  have htick : Keeps (mask Comp.all) { s with clk := s.clk + 1 } s.tick := (tick_keeps s).within hmask
  unfold State.idle
  exact (htick.bump _ rfl).ite htick |>.goOn rfl

/-- Whatever follows a state by `Keeps` has the invariant with it. -/
theorem inv_of_keeps {m : Nat} {s t : State} (h : Keeps m s t) : s.Inv → t.Inv :=
  fun ⟨hregs, hmem⟩ => ⟨h.regs hregs, h.mem hmem⟩

theorem step_of_idle {s : State} (h : s.pending = []) : step s = .next s.idle := by
  unfold step
  rw [h]

theorem step_of_command {s : State} {c : Instr} {rest : List Instr} (h : s.pending = c :: rest) :
    step s = exec c { s with pending := rest } := by
  unfold step
  rw [h]

/-- Settles O4: neither the clock nor the queue is part of the invariant, and what an idle step or a command does from there
keeps it. -/
theorem everyStepKeepsTheInvariant : Obligations.EveryStepKeepsTheInvariant := by
  intro s t hs hstep
  cases hp : s.pending with
  | nil =>
    rw [step_of_idle hp] at hstep
    cases hstep
    exact inv_of_keeps (idle_keeps s) hs
  | cons c rest =>
    rw [step_of_command hp] at hstep
    exact inv_of_keeps (exec_keeps { s with pending := rest } c t hstep) hs

/-! ### Accesses that reach no register -/

section
variable {s : State} {dom a w n r : Nat} {v : Word} {x : RegPlace} {l : List (Nat × RegPlace)}

theorem exec_registerWrite_inside (h : a < 2 ^ 48) : exec (.registerWrite dom a w v) s
    = .next (s.hostWriteReg dom a w (v &&& BitVec.ofNat 64 (2 ^ (8 * w) - 1))) :=
  if_neg (Nat.not_le.mpr h)

theorem hostWriteReg_of_page (h : s.pathTo dom a = .page n) : s.hostWriteReg dom a w v = s.refusePage n dom := by
  simp only [State.hostWriteReg, h]

theorem hostWriteReg_of_nothing (h : s.pathTo dom a = .nothing) : s.hostWriteReg dom a w v = s := by
  simp only [State.hostWriteReg, h]

theorem hostWriteReg_of_inexact (h : s.pathTo dom a = .reaches) (he : exactReg? s.part a w = none) :
    s.hostWriteReg dom a w v = s.badAccess dom a w := by
  simp only [State.hostWriteReg, h, he]

/-- Event 31 names the first register that the access touches (assumption 100). -/
theorem badAccess_of_touched (h : touchedRegs s.part a w = (r, x) :: l) :
    s.badAccess dom a w = s.raise 31 sevNotice 0 dom [d8 r, d4 dom, d4 w] := by
  simp only [State.badAccess, h]

theorem exec_registerAccessBadWidth_of_inexact (read : Bool) (h : a < 2 ^ 48) (hp : s.pathTo dom a = .reaches)
    (he : exactReg? s.part a w = none) (ht : touchedRegs s.part a w = (r, x) :: l) :
    exec (.registerAccessBadWidth dom a w read) s
      = .next (if read then (s.badAccess dom a w).send (.registerValue dom a w (2 ^ (8 * w) - 1))
          else s.badAccess dom a w) := by
  have hin : ¬ 2 ^ 48 ≤ a := Nat.not_le.mpr h
  simp only [exec, execRegisterAccessBadWidth, hin, hp, he, ht, if_false, Option.isSome_none, Bool.false_eq_true,
    reduceCtorEq, decide_false, Bool.or_self]

end

/-- Settles O13, by the path that the access takes. -/
theorem accessesThatReachNoRegisterAreReported : Obligations.AccessesThatReachNoRegisterAreReported := by
  refine ⟨?page, ?nothing, ?write, ?badRead, ?badWrite⟩
  case page =>
    intro s dom a w n v ha hp
    rw [exec_registerWrite_inside ha, hostWriteReg_of_page hp]
    rfl
  case nothing =>
    intro s dom a w v ha hp
    rw [exec_registerWrite_inside ha, hostWriteReg_of_nothing hp]
  case write =>
    intro s dom a w r v x l ha hp he ht
    rw [exec_registerWrite_inside ha, hostWriteReg_of_inexact hp he, badAccess_of_touched ht]
  case badRead =>
    intro s dom a w r x l ha hp he ht
    rw [exec_registerAccessBadWidth_of_inexact true ha hp he ht, badAccess_of_touched ht, if_pos rfl]
  case badWrite =>
    intro s dom a w r x l ha hp he ht
    rw [exec_registerAccessBadWidth_of_inexact false ha hp he ht, badAccess_of_touched ht, if_neg Bool.false_ne_true]

/-! ### What a write leaves, bit by bit -/

/-- A written bit is taken where the mask of read-write bits has it, or that of lockable bits while the lock is clear; then 1
clears and 1 sets. -/
theorem getLsbD_codeWrite (s : State) (x : RegPlace) (a : Nat) (v : Word) {i : Nat} (hi : i < 64) :
    (s.codeWrite x a v).getLsbD i =
      ((if x.row.rw.testBit i || !s.regLocked x a && x.row.rwl.testBit i then v.getLsbD i else (s.reg a).getLsbD i)
        && !(v.getLsbD i && x.row.w1c.testBit i) || v.getLsbD i && x.row.w1s.testBit i) := by
  have hmask : (if s.regLocked x a = true then x.row.rw else x.row.rw ||| x.row.rwl).testBit i
      = (x.row.rw.testBit i || !s.regLocked x a && x.row.rwl.testBit i) := by
    cases s.regLocked x a <;> simp
  simp only [State.codeWrite, BitVec.getLsbD_or, BitVec.getLsbD_and, BitVec.getLsbD_not, BitVec.getLsbD_ofNat, hi,
    decide_true, Bool.true_and, hmask]
  cases x.row.rw.testBit i || !s.regLocked x a && x.row.rwl.testBit i <;> simp

/-- BI_TIMEOUT in the register map. -/
def biTimeoutPlace : RegPlace :=
  { row := { off := 0x14, width := 32, rst := .const 0x14, rw := 0xFFFF }, base := blockWin.base, k := 0, j := 0, i := 0 }

theorem exactReg?_biTimeout (p : Part) : exactReg? p R.winBiTimeout 4 = some biTimeoutPlace := by
  cases p <;> rfl

theorem writeReg_biTimeout (s : State) (v : Word) : s.writeReg biTimeoutPlace R.winBiTimeout v
    = s.setReg R.winBiTimeout (clampField (s.codeWrite biTimeoutPlace R.winBiTimeout v) 0 16 10 160) := rfl

/-- A write over the host function of domain 0 meets no page (R37). -/
theorem hostWriteReg_biTimeout (s : State) (v : Word) :
    s.hostWriteReg 0 R.winBiTimeout 4 v = s.writeReg biTimeoutPlace R.winBiTimeout v := by
  have hp : s.pathTo 0 R.winBiTimeout = .reaches := rfl
  have hk : keyPage? R.winBiTimeout = none := rfl
  simp only [State.hostWriteReg, hp, exactReg?_biTimeout, hk]

/-- The bits of a field put into a value: the field's bits come from the number put. -/
theorem getLsbD_putBits (v : Word) {lo w : Nat} (y i : Nat) (h : lo + w ≤ 64) :
    (putBits v lo w y).getLsbD i = if lo ≤ i ∧ i < lo + w then y.testBit (i - lo) else v.getLsbD i := by
  simpa only [BitVec.testBit_toNat] using testBit_putBits v y i h

theorem getLsbD_codeWrite_biTimeout (s : State) (a : Nat) (v : Word) {i : Nat} (hi : i < 64) :
    (s.codeWrite biTimeoutPlace a v).getLsbD i = if i < 16 then v.getLsbD i else (s.reg a).getLsbD i := by
  have hrw : (0xFFFF : Nat).testBit i = decide (i < 16) := Nat.testBit_two_pow_sub_one 16 i
  rw [getLsbD_codeWrite s _ a v hi]
  simp [biTimeoutPlace, hrw]

/-- The units that BI_TIMEOUT takes are the written ones. -/
theorem bits_codeWrite_biTimeout (s : State) (a : Nat) (v : BitVec 64) :
    bits (s.codeWrite biTimeoutPlace a (v &&& BitVec.ofNat 64 (2 ^ (8 * 4) - 1))) 0 16 = bits v 0 16 := by
  apply Nat.eq_of_testBit_eq
  intro i
  rw [testBit_bits, testBit_bits, Nat.zero_add]
  by_cases hi : i < 16
  · have hc : (2 ^ (8 * 4) - 1 : Nat).testBit i = true := by
      rw [Nat.testBit_two_pow_sub_one]
      exact decide_eq_true (by omega)
    rw [BitVec.testBit_toNat, BitVec.testBit_toNat, getLsbD_codeWrite_biTimeout s a _ (by omega), if_pos hi,
      BitVec.getLsbD_and, BitVec.getLsbD_ofNat, hc, decide_eq_true (by omega : i < 64), Bool.and_true, Bool.and_true]
  · rw [decide_eq_false hi, Bool.false_and, Bool.false_and]

/-- What BI_TIMEOUT holds after a write: the written units limited to 10 to 160, beside the bits that no write changes. -/
theorem clampField_codeWrite_biTimeout (s : State) (a : Nat) (v : BitVec 64) :
    clampField (s.codeWrite biTimeoutPlace a (v &&& BitVec.ofNat 64 (2 ^ (8 * 4) - 1))) 0 16 10 160
      = s.reg a &&& ~~~0xFFFF#64 ||| BitVec.ofNat 64 (max 10 (min 160 (bits v 0 16))) := by
  unfold clampField
  rw [bits_codeWrite_biTimeout]
  have hy : max 10 (min 160 (bits v 0 16)) < 2 ^ 16 := by omega
  generalize max 10 (min 160 (bits v 0 16)) = y at hy
  apply BitVec.eq_of_getLsbD_eq
  intro i hi
  have hm : (0xFFFF : Nat).testBit i = decide (i < 16) := Nat.testBit_two_pow_sub_one 16 i
  rw [getLsbD_putBits _ y i (by omega), getLsbD_codeWrite_biTimeout s a _ hi]
  simp only [BitVec.getLsbD_or, BitVec.getLsbD_and, BitVec.getLsbD_not, BitVec.getLsbD_ofNat, hm]
  by_cases hlow : i < 16
  · simp [hi, hlow]
  · have hhigh : y.testBit i = false :=
      Nat.testBit_lt_two_pow (Nat.lt_of_lt_of_le hy (Nat.pow_le_pow_right Nat.two_pos (Nat.le_of_not_lt hlow)))
    simp [hi, hlow, hhigh]

/-- Settles O14, by the access code of the bit; the last case is the write of BI_TIMEOUT. -/
theorem fieldsFollowTheirAccessCodes : Obligations.FieldsFollowTheirAccessCodes := by
  refine ⟨?readWrite, ?readOnly, ?clears, ?sets, ?lockable, ?biTimeout⟩
  case readWrite =>
    intro s x a v i hi hrw hw1c hw1s
    simp [getLsbD_codeWrite s x a v hi, hrw, hw1c, hw1s]
  case readOnly =>
    intro s x a v i hi hrw hrwl hw1c hw1s
    simp [getLsbD_codeWrite s x a v hi, hrw, hrwl, hw1c, hw1s]
  case clears =>
    intro s x a v i hi hw1c hrw hrwl hw1s
    simp [getLsbD_codeWrite s x a v hi, hrw, hrwl, hw1c, hw1s]
  case sets =>
    intro s x a v i hi hw1s hrw hrwl hw1c
    simp [getLsbD_codeWrite s x a v hi, hrw, hrwl, hw1c, hw1s]
  case lockable =>
    intro s x a v i hi hrwl hrw hw1c hw1s
    cases hl : s.regLocked x a <;> simp [getLsbD_codeWrite s x a v hi, hrw, hrwl, hw1c, hw1s, hl]
  case biTimeout =>
    intro s v
    rw [exec_registerWrite_inside (by decide), hostWriteReg_biTimeout, writeReg_biTimeout,
      clampField_codeWrite_biTimeout]

end Sys2Proof.Proofs.Scope

/-!
PROOFS. The time base: what a measurement of each source does (O10); lost sources, pulses and time messages (O11).
-/
namespace Sys2Proof.Proofs.TimeBase
open Sys2Proof.Machine Sys2Proof.Machine.State

/-! ### Reading past an update -/

/-- The field read shares no bit with the field written. -/
abbrev Apart (written read : Fld) : Prop :=
  read.reg ≠ written.reg ∨
    (written.lo + written.w ≤ 64 ∧ (read.lo + read.w ≤ written.lo ∨ written.lo + written.w ≤ read.lo))

/-- The whole register at an address, as one field. -/
abbrev whole (a : Nat) : Fld := ⟨a, 0, 64⟩

theorem get_whole (s : State) (a : Nat) : s.get (whole a) = (s.reg a).toNat := by
  simp only [State.get, bits, Nat.pow_zero, Nat.div_one]
  exact Nat.mod_eq_of_lt (s.reg a).isLt

theorem reg_eq_of_get_whole {s u : State} {a : Nat} (h : u.get (whole a) = s.get (whole a)) : u.reg a = s.reg a :=
  BitVec.eq_of_toNat_eq (by rwa [get_whole, get_whole] at h)

theorem on_eq_of_get {s u : State} {f : Fld} (h : u.get f = s.get f) : u.on f = s.on f := by
  rw [State.on, State.on, h]

/-- The state with another time base; the rules below keep the proofs from comparing two time bases field by field. -/
def withTime (s : State) (x : TimeState) : State := { s with time := x }

section
variable (s : State) (x : TimeState)
@[simp] theorem withTime_time : (withTime s x).time = x := rfl
@[simp] theorem get_withTime (f : Fld) : (withTime s x).get f = s.get f := rfl
end

@[simp] theorem lastEvent_raise (s : State) (src sev code dom : Nat) (data : List (Nat × Nat)) :
    (s.raise src sev code dom data).lastEvent = some (src, sev, dom) := by
  simp [State.lastEvent]

/-- What the inputs have shown so far: which sources are valid, the last edge, and whether its time was written. -/
structure Sources where
  ptpValid : Bool
  ppsValid : Bool
  lastEdge : Option Nat
  todWritten : Bool

def sources (s : State) : Sources := ⟨s.time.ptpValid, s.time.ppsValid, s.time.lastEdge, s.time.todWritten⟩

section
variable (s : State) (f : Fld) (t x : Nat)
@[simp] theorem get_stepDtb : (s.stepDtb t).get f = s.get f := rfl
@[simp] theorem sources_stepDtb : sources (s.stepDtb t) = sources s := rfl
@[simp] theorem stepDtb_dtb : (s.stepDtb t).time.dtb = t := rfl
@[simp] theorem stepDtb_clk : (s.stepDtb t).clk = s.clk := rfl
@[simp] theorem sources_setReg (a : Nat) (v : Word) : sources (s.setReg a v) = sources s := rfl
@[simp] theorem sources_set : sources (s.set f x) = sources s := rfl
@[simp] theorem sources_drew : sources s.drew = sources s := rfl
@[simp] theorem sources_refuseSource : sources s.refuseSource = sources s := rfl
@[simp] theorem sources_bump : sources (s.bump f) = sources s := rfl
@[simp] theorem sources_setServo : sources (s.setServo x) = sources s := rfl
@[simp] theorem sources_raise (src sev code dom : Nat) (data : List (Nat × Nat)) :
    sources (s.raise src sev code dom data) = sources s := rfl
end

section
variable {s : State} {f : Fld} {src t g p o : Nat} {off : Int}

/-! ### The servo and a refused source -/

theorem servo_setServo {x : Nat} (h : x < 8) : (s.setServo x).servo = x :=
  (get_set_same s x (by decide)).trans (Nat.mod_eq_of_lt h)

@[simp] theorem setServo_time (x : Nat) : (s.setServo x).time = s.time := rfl

@[simp] theorem setServo_clk (x : Nat) : (s.setServo x).clk = s.clk := rfl

theorem get_setServo (x : Nat) (h : Apart F.tbStatusState f) : (s.setServo x).get f = s.get f :=
  get_set_other s x h

theorem get_refuseSource (h : Apart F.tbStatusSourceRefused f) : s.refuseSource.get f = s.get f :=
  get_put_other s true h

theorem refuseSource_reports : s.refuseSource.on F.tbStatusSourceRefused = true ∧
    s.refuseSource.lastEvent = some (131, sevNotice, noDom) :=
  ⟨on_put_same s true (by decide) (by decide), lastEvent_raise _ _ _ _ _ _⟩

/-! ### Stamp corrections and the first synchronisation (R55, R64) -/

/-- The stamp corrections stand above the other registers of the time base. -/
theorem ne_tbStampFix (h : f.reg < R.tbStampFixA 0) (i : Nat) : f.reg ≠ R.tbStampFixA i ∧ f.reg ≠ R.tbStampFixB i := by
  unfold R.tbStampFixA at *
  unfold R.tbStampFixB
  omega

theorem get_shiftFix (h : f.reg < R.tbStampFixA 0) (n : Nat) : (shiftFix n s).get f = s.get f := by
  induction n with
  | zero => rfl
  | succ n ih =>
    obtain ⟨hA, hB⟩ := ne_tbStampFix h n
    rw [shiftFix, get_setReg_other _ _ hB, get_setReg_other _ _ hA, ih]

theorem shiftFix_time (n : Nat) : (shiftFix n s).time = s.time := by
  induction n with
  | zero => rfl
  | succ n ih => exact ih

/-- Room for one more stamp correction: of sixteen the oldest is dropped (R64). -/
def roomForStamp (s : State) : State := if 16 ≤ s.get F.tbStatusStampFixUsed then shiftFix 15 s else s

theorem get_roomForStamp (h : f.reg < R.tbStampFixA 0) : (roomForStamp s).get f = s.get f := by
  unfold roomForStamp
  split
  · exact get_shiftFix h 15
  · rfl

theorem roomForStamp_time : (roomForStamp s).time = s.time := by
  unfold roomForStamp
  split
  · exact shiftFix_time 15
  · rfl

/-- The tile age map is to be rebuilt (R65). -/
def rebuild (s : State) : State := withTime s { s.time with ageRebuild := true }

@[simp] theorem get_rebuild : (rebuild s).get f = s.get f := rfl

@[simp] theorem rebuild_time : (rebuild s).time = { s.time with ageRebuild := true } := rfl

theorem addStampFix_eq (s : State) (g p o : Nat) : s.addStampFix g p o =
    let used := s.get F.tbStatusStampFixUsed
    let i := min used 15
    rebuild ((((((roomForStamp s).set (F.tbStampFixAG i) g).set (F.tbStampFixAS i) p).set (F.tbStampFixBO i) o).put
      (F.tbStampFixBValid i) true).set F.tbStatusStampFixUsed (min (used + 1) 16)) := rfl

/-- A stamp correction is written among the corrections, and counted in TB_STATUS. -/
theorem get_addStampFix (h : f.reg < R.tbStampFixA 0) (hu : Apart F.tbStatusStampFixUsed f) :
    (s.addStampFix g p o).get f = s.get f := by
  obtain ⟨hA, hB⟩ := ne_tbStampFix h (min (s.get F.tbStatusStampFixUsed) 15)
  rw [addStampFix_eq, get_rebuild, get_set_other _ _ hu, get_put_other _ _ (.inl hB), get_set_other _ _ (.inl hB),
    get_set_other _ _ (.inl hA), get_set_other _ _ (.inl hA), get_roomForStamp h]

theorem addStampFix_time : (s.addStampFix g p o).time = { s.time with ageRebuild := true } := by
  rw [addStampFix_eq, rebuild_time, set_time, put_time, set_time, set_time, set_time, roomForStamp_time]

/-- The correction that the first synchronisation records for a gap (R64). -/
def closeGap (s : State) (p o : Nat) : State :=
  if s.on F.tbStatusGapValid then (s.addStampFix (s.get F.tbProvGapMark) p o).put F.tbStatusGapValid false else s

theorem get_closeGap (h : f.reg < R.tbStampFixA 0) (hu : Apart F.tbStatusStampFixUsed f)
    (hg : Apart F.tbStatusGapValid f) : (closeGap s p o).get f = s.get f := by
  unfold closeGap
  split
  · rw [get_put_other _ _ hg, get_addStampFix h hu]
  · rfl

theorem closeGap_time : ∃ b, (closeGap s p o).time = { s.time with ageRebuild := b } := by
  unfold closeGap
  split
  · exact ⟨true, by rw [put_time, addStampFix_time]⟩
  · exact ⟨s.time.ageRebuild, rfl⟩

theorem closeGap_clk : (closeGap s p o).clk = s.clk := by
  unfold closeGap
  split
  · rw [put_clk]
    exact ((Keeps.refl 3 s).addStampFix _ p o rfl).clk
  · rfl

/-- The DTB at the source's time and marked as synchronised, before a gap is closed. -/
def synced (s : State) (t : Nat) : State :=
  ((s.stepDtb t).set F.tbSyncOffsetValue (t / 1000000000 - s.provisional)).put F.tbStatusEverSynced true

theorem firstSync_eq (s : State) (src t : Nat) : s.firstSync src t =
    ((closeGap (synced s t) s.provisional (t / 1000000000 - s.provisional)).set F.tbStatusActiveSrc src).raise
      128 sevNotice 0 noDom [d4 src, d4 (t / 1000000000 - s.provisional)] := rfl

theorem get_synced (hs : Apart F.tbStatusEverSynced f) (ho : Apart F.tbSyncOffsetValue f) :
    (synced s t).get f = s.get f := by
  rw [synced, get_put_other _ _ hs, get_set_other _ _ ho, get_stepDtb]

theorem synced_time : (synced s t).time = (s.stepDtb t).time := by
  rw [synced, put_time, set_time]

theorem synced_clk : (synced s t).clk = s.clk := by
  rw [synced, put_clk, set_clk, stepDtb_clk]

/-- The first synchronisation makes the DTB the source's time, and may ask for the age map to be built anew. -/
theorem firstSync_time : ∃ b, (s.firstSync src t).time = { (s.stepDtb t).time with ageRebuild := b } := by
  rw [firstSync_eq, raise_time, set_time, ← synced_time]
  exact closeGap_time

theorem firstSync_dtb : (s.firstSync src t).time.dtb = t := by
  obtain ⟨b, h⟩ := firstSync_time (s := s) (src := src) (t := t)
  rw [h, stepDtb_dtb]

theorem sources_firstSync : sources (s.firstSync src t) = sources s := by
  obtain ⟨b, h⟩ := firstSync_time (s := s) (src := src) (t := t)
  rw [sources, h]
  rfl

theorem firstSync_clk : (s.firstSync src t).clk = s.clk := by
  rw [firstSync_eq, raise_clk, set_clk, closeGap_clk, synced_clk]

theorem firstSync_activeSrc (h : src < 4) : (s.firstSync src t).get F.tbStatusActiveSrc = src := by
  rw [firstSync_eq, get_raise, get_set_same _ _ (by decide)]
  exact Nat.mod_eq_of_lt h

theorem firstSync_everSynced : (s.firstSync src t).on F.tbStatusEverSynced = true := by
  rw [firstSync_eq, on_raise, on_set_other _ _ (by decide),
    on_eq_of_get (get_closeGap (by decide) (by decide) (by decide)), synced, on_put_same _ _ (by decide) (by decide)]

/-- The first synchronisation writes TB_STATUS, TB_SYNC_OFFSET and the stamp corrections. -/
theorem get_firstSync (hs : f.reg ≠ R.tbStatus) (ho : f.reg ≠ R.tbSyncOffset) (h : f.reg < R.tbStampFixA 0) :
    (s.firstSync src t).get f = s.get f := by
  rw [firstSync_eq, get_raise, get_set_other _ _ (.inl hs), get_closeGap h (.inl hs) (.inl hs),
    get_synced (.inl hs) (.inl ho)]

/-! ### Following a source once synchronised (R56, R58) -/

theorem follow_eq : s.follow t =
    if s.time.dtb + s.stepLimit < t && s.on F.tbCtlStepEnable then
      ((s.stepDtb t).bump F.tbStepCountSteps).raise 130 sevNotice 0 noDom [d4 (t - s.time.dtb)]
    else withTime s { s.time with slew := ((t : Int) - (s.time.dtb : Int)) * 2 ^ 32 } := rfl

theorem get_follow (h : Apart F.tbStepCountSteps f) : (s.follow t).get f = s.get f := by
  rw [follow_eq]
  split
  · rw [get_raise, get_bump_other _ h, get_stepDtb]
  · rw [get_withTime]

theorem sources_follow : sources (s.follow t) = sources s := by
  rw [follow_eq]
  split
  · rw [sources_raise, sources_bump, sources_stepDtb]
  · rfl

/-- The servo's counts of consecutive offsets, near and far (Table 2.2). -/
def counted (s : State) (near far : Nat) : State := withTime s { s.time with near := near, far := far }

/-- The servo in a state, with its counts at zero. -/
def restarted (s : State) (x : Nat) : State := withTime (s.setServo x) { s.time with near := 0, far := 0 }

@[simp] theorem restarted_dtb (x : Nat) : (restarted s x).time.dtb = s.time.dtb := rfl

@[simp] theorem sources_restarted (x : Nat) : sources (restarted s x) = sources s := rfl

theorem servo_restarted {x : Nat} (h : x < 8) : (restarted s x).servo = x := servo_setServo h

theorem get_restarted (x : Nat) (h : Apart F.tbStatusState f) : (restarted s x).get f = s.get f := get_setServo x h

@[simp] theorem get_counted (near far : Nat) : (counted s near far).get f = s.get f := rfl

@[simp] theorem sources_counted (near far : Nat) : sources (counted s near far) = sources s := rfl

/-- The servo counts an offset, and may change its state and count anew; leaving Locked it raises event 129. -/
theorem servoOffset_cases : ∃ near far, s.servoOffset off = counted s near far ∨
    (∃ x, s.servoOffset off = restarted (counted s near far) x) ∨
    ∃ x data, s.servoOffset off
      = counted (((counted s near far).setServo x).raise 129 sevWarning 0 noDom data) 0 0 := by
  unfold State.servoOffset
  dsimp only
  split
  · generalize (if off.natAbs ≤ 100 then s.time.near + 1 else 0) = n
    refine ⟨n, s.time.far, ?_⟩
    split
    · exact .inr (.inl ⟨servoLocked, rfl⟩)
    · exact .inl rfl
  · split
    · generalize (if 1000 < off.natAbs then s.time.far + 1 else 0) = n
      refine ⟨s.time.near, n, ?_⟩
      split
      · exact .inr (.inr ⟨servoAcquiring, _, rfl⟩)
      · exact .inl rfl
    · exact ⟨s.time.near, s.time.far, .inr (.inl ⟨servoAcquiring, rfl⟩)⟩

theorem get_servoOffset (h : Apart F.tbStatusState f) : (s.servoOffset off).get f = s.get f := by
  obtain ⟨near, far, he | ⟨x, he⟩ | ⟨x, data, he⟩⟩ := servoOffset_cases (s := s) (off := off)
  · rw [he, get_counted]
  · rw [he, get_restarted _ h, get_counted]
  · rw [he, get_counted, get_raise, get_setServo _ h, get_counted]

theorem sources_servoOffset : sources (s.servoOffset off) = sources s := by
  obtain ⟨near, far, he | ⟨x, he⟩ | ⟨x, data, he⟩⟩ := servoOffset_cases (s := s) (off := off)
  · rw [he, sources_counted]
  · rw [he, sources_restarted, sources_counted]
  · rw [he, sources_counted, sources_raise, sources_setServo, sources_counted]

/-! ### A measurement (R55, R56) -/

theorem measure_of_behind (hs : s.on F.tbStatusEverSynced = false) (ht : t < s.time.dtb) :
    s.measure src t = s.refuseSource := by
  simp only [State.measure, hs, ht, Bool.not_false, if_true]

theorem measure_of_first (hs : s.on F.tbStatusEverSynced = false) (ht : s.time.dtb ≤ t) :
    s.measure src t =
      restarted ((s.setReg R.tbOffset (signed64 (s.offsetTo t))).firstSync src t) servoAcquiring := by
  simp only [State.measure, hs, Nat.not_lt.mpr ht, Bool.not_false, if_true, if_false]
  rfl

theorem measure_of_synced (hs : s.on F.tbStatusEverSynced = true) : ∃ r : Word, s.measure src t =
    (((((s.setReg R.tbOffset (signed64 (s.offsetTo t))).set F.tbStatusActiveSrc src).setReg R.tbRate r).drew).follow
      t).servoOffset (s.offsetTo t) := by
  simp only [State.measure, hs, Bool.not_true, Bool.false_eq_true, if_false]
  exact ⟨_, rfl⟩

theorem sources_measure : sources (s.measure src t) = sources s := by
  cases hs : s.on F.tbStatusEverSynced with
  | true =>
    obtain ⟨r, h⟩ := measure_of_synced (src := src) (t := t) hs
    rw [h, sources_servoOffset, sources_follow, sources_drew, sources_setReg, sources_set, sources_setReg]
  | false =>
    by_cases ht : t < s.time.dtb
    · rw [measure_of_behind hs ht, sources_refuseSource]
    · rw [measure_of_first hs (Nat.not_lt.mp ht), sources_restarted, sources_firstSync, sources_setReg]

/-- A measurement leaves the capture of the edge. -/
theorem measure_capture : (s.measure src t).reg R.tbPpsCapture = s.reg R.tbPpsCapture := by
  apply reg_eq_of_get_whole
  cases hs : s.on F.tbStatusEverSynced with
  | true =>
    obtain ⟨r, h⟩ := measure_of_synced (src := src) (t := t) hs
    rw [h, get_servoOffset (by decide), get_follow (by decide), get_drew, get_setReg_other _ _ (by decide),
      get_set_other _ _ (by decide), get_setReg_other _ _ (by decide)]
  | false =>
    by_cases ht : t < s.time.dtb
    · rw [measure_of_behind hs ht, get_refuseSource (by decide)]
    · rw [measure_of_first hs (Nat.not_lt.mp ht), get_restarted _ (by decide),
        get_firstSync (by decide) (by decide) (by decide), get_setReg_other _ _ (by decide)]

theorem measure_first (hsrc : src < 4) (hs : s.on F.tbStatusEverSynced = false) (ht : s.time.dtb ≤ t) :
    (s.measure src t).time.dtb = t ∧ (s.measure src t).on F.tbStatusEverSynced = true ∧
      (s.measure src t).get F.tbStatusActiveSrc = src ∧ (s.measure src t).servo = servoAcquiring := by
  rw [measure_of_first hs ht]
  refine ⟨?dtb, ?synced, ?active, servo_restarted (by decide)⟩
  case dtb => rw [restarted_dtb, firstSync_dtb]
  case synced => rw [on_eq_of_get (get_restarted _ (by decide)), firstSync_everSynced]
  case active => rw [get_restarted _ (by decide), firstSync_activeSrc hsrc]

theorem measure_synced (hsrc : src < 4) (hs : s.on F.tbStatusEverSynced = true) :
    (s.measure src t).get F.tbStatusActiveSrc = src ∧
      (s.measure src t).reg R.tbOffset = signed64 (s.offsetTo t) := by
  obtain ⟨r, h⟩ := measure_of_synced (src := src) (t := t) hs
  rw [h]
  constructor
  · rw [get_servoOffset (by decide), get_follow (by decide), get_drew, get_setReg_other _ _ (by decide),
      get_set_same _ _ (by decide)]
    exact Nat.mod_eq_of_lt hsrc
  · rw [reg_eq_of_get_whole (get_servoOffset (by decide)), reg_eq_of_get_whole (get_follow (by decide)), reg_drew,
      reg_setReg_other _ _ (by decide), reg_set_other _ _ (by decide), reg_setReg_same]

/-! ### TB_SET (R53) -/

theorem tbSet_of_refused (h : s.on F.tbCtlHostEnable = false ∨ s.ptpUp = true ∨ s.ppsUp = true) :
    s.tbSet t = s.refuseSource :=
  if_pos (by rcases h with h | h | h <;> simp [h])

theorem tbSet_of_accepted (he : s.on F.tbCtlHostEnable = true) (hptp : s.ptpUp = false) (hpps : s.ppsUp = false) :
    s.tbSet t = s.hostSet t :=
  if_neg (by simp [he, hptp, hpps])

/-- The holdover time begins now (R58). -/
def holdNow (s : State) : State := withTime s { s.time with holdFrom := s.clk }

@[simp] theorem get_holdNow : (holdNow s).get f = s.get f := rfl

@[simp] theorem sources_holdNow : sources (holdNow s) = sources s := rfl

@[simp] theorem lastEvent_holdNow : (holdNow s).lastEvent = s.lastEvent := rfl

@[simp] theorem holdNow_dtb : (holdNow s).time.dtb = s.time.dtb := rfl

@[simp] theorem holdNow_holdFrom : (holdNow s).time.holdFrom = s.clk := rfl

theorem hostSet_of_first (hs : s.on F.tbStatusEverSynced = false) (ht : s.time.dtb ≤ t) :
    s.hostSet t = holdNow ((((s.setReg R.tbOffset (signed64 (s.offsetTo t))).firstSync 3 t).setServo
      servoHoldover).setReg R.tbRate 0) := by
  simp only [State.hostSet, hs, Nat.not_lt.mpr ht, Bool.not_false, if_true, if_false]
  rfl

theorem hostSet_of_synced (hs : s.on F.tbStatusEverSynced = true) : s.hostSet t =
    let u := (s.setReg R.tbOffset (signed64 (s.offsetTo t))).follow t
    if u.servo = servoHoldover || u.servo = servoExpired then
      holdNow ((u.setServo servoHoldover).set F.tbStatusActiveSrc 3)
    else u := by
  simp only [State.hostSet, hs, Bool.not_true, Bool.false_eq_true, if_false]
  rfl

theorem hostSet_first (hs : s.on F.tbStatusEverSynced = false) (ht : s.time.dtb ≤ t) :
    (s.hostSet t).time.dtb = t ∧ (s.hostSet t).on F.tbStatusEverSynced = true ∧
      (s.hostSet t).get F.tbStatusActiveSrc = 3 ∧ (s.hostSet t).servo = servoHoldover ∧
      (s.hostSet t).time.holdFrom = s.clk := by
  rw [hostSet_of_first hs ht]
  refine ⟨?dtb, ?synced, ?active, ?servo, ?hold⟩
  case dtb => rw [holdNow_dtb, setReg_time, setServo_time, firstSync_dtb]
  case synced =>
    rw [on_eq_of_get get_holdNow, on_setReg_other _ _ (by decide), on_eq_of_get (get_setServo _ (by decide)),
      firstSync_everSynced]
  case active =>
    rw [get_holdNow, get_setReg_other _ _ (by decide), get_setServo _ (by decide), firstSync_activeSrc (by decide)]
  case servo =>
    rw [State.servo, get_holdNow, get_setReg_other _ _ (by decide)]
    exact servo_setServo (by decide)
  case hold => rw [holdNow_holdFrom, setReg_clk, setServo_clk, firstSync_clk, setReg_clk]

theorem hostSet_synced (hs : s.on F.tbStatusEverSynced = true) :
    (s.hostSet t).reg R.tbOffset = signed64 (s.offsetTo t) := by
  have hf : ((s.setReg R.tbOffset (signed64 (s.offsetTo t))).follow t).reg R.tbOffset = signed64 (s.offsetTo t) := by
    rw [reg_eq_of_get_whole (get_follow (by decide)), reg_setReg_same]
  rw [hostSet_of_synced hs]
  dsimp only
  split
  · rw [reg_eq_of_get_whole get_holdNow, reg_set_other _ _ (by decide),
      reg_eq_of_get_whole (get_setServo _ (by decide)), hf]
  · exact hf

/-! ### What PTP_MESSAGE_RECEIVE, PPS_IN_EDGE and TB_SET_WRITE do -/

theorem exec_ptpMessageReceive {port : Nat} (he : s.on F.tbCtlPtpEnable = true) (hp : s.get F.tbCtlPtpPort = port)
    (hpres : s.ethPresent port = true) (hup : s.on (F.netPortStatusUp port) = true) :
    exec (.ptpMessageReceive port t) s
      = .next ((withTime s { s.time with ptpValid := true }).measure 1 t) :=
  congrArg Host.Outcome.next (if_pos (by simp [he, hp, hpres, hup]))

/-- The state once an edge is captured (R57). -/
def captured (s : State) : State :=
  withTime (s.setReg R.tbPpsCapture (BitVec.ofNat 64 s.time.dtb))
    { s.time with lastEdge := some s.clk, todWritten := false }

/-- The state once an edge counts: PPS_IN is valid (R57). -/
def edgeCounted (s : State) : State := withTime (captured s) { (captured s).time with ppsValid := true }

theorem get_captured (h : f.reg ≠ R.tbPpsCapture) : (captured s).get f = s.get f :=
  get_setReg_other s _ h

theorem get_edgeCounted (h : f.reg ≠ R.tbPpsCapture) : (edgeCounted s).get f = s.get f :=
  get_captured h

theorem captured_edge : (captured s).reg R.tbPpsCapture = BitVec.ofNat 64 s.time.dtb ∧
    (captured s).time.lastEdge = some s.clk ∧ (captured s).time.todWritten = false :=
  ⟨reg_setReg_same s R.tbPpsCapture _, rfl, rfl⟩

theorem exec_ppsInEdge : exec .ppsInEdge s = .next
    (if s.edgeCounts && (captured s).on F.tbCtlPpsEnable then
      if (edgeCounted s).ptpUp then edgeCounted s else (edgeCounted s).measure 2 s.edgeTime
    else captured s) := rfl

theorem ptpUp_edgeCounted : (edgeCounted s).ptpUp = s.ptpUp := by
  have h : (edgeCounted s).on F.tbCtlPtpEnable = s.on F.tbCtlPtpEnable :=
    on_eq_of_get (get_edgeCounted (by decide))
  rw [State.ptpUp, State.ptpUp, h]
  rfl

theorem exec_ppsInEdge_of_measured (hc : s.edgeCounts = true) (he : s.on F.tbCtlPpsEnable = true)
    (hp : s.ptpUp = false) : exec .ppsInEdge s = .next ((edgeCounted s).measure 2 s.edgeTime) := by
  have he' : (captured s).on F.tbCtlPpsEnable = true := (on_eq_of_get (get_captured (by decide))).trans he
  rw [exec_ppsInEdge, hc, he', Bool.and_self, if_pos rfl, ptpUp_edgeCounted, hp, if_neg Bool.false_ne_true]

/-- Every edge is captured and noted, whether or not it counts (R57). -/
theorem exec_ppsInEdge_captures : ∃ u, exec .ppsInEdge s = .next u ∧
    u.reg R.tbPpsCapture = BitVec.ofNat 64 s.time.dtb ∧ u.time.lastEdge = some s.clk ∧ u.time.todWritten = false := by
  obtain ⟨hcap, hedge, htod⟩ := captured_edge (s := s)
  refine ⟨_, exec_ppsInEdge, ?_⟩
  split
  · split
    · exact ⟨hcap, hedge, htod⟩
    · exact ⟨measure_capture.trans hcap, (congrArg Sources.lastEdge sources_measure).trans hedge,
        (congrArg Sources.todWritten sources_measure).trans htod⟩
  · exact ⟨hcap, hedge, htod⟩

theorem exec_tbSetWrite (v : BitVec 64) : exec (.tbSetWrite v) s = .next (s.tbSet v.toNat) := rfl

end

/-- Settles O10: each command is a measurement of its source, before or after the first synchronisation. -/
theorem sourceMeasurementsCorrectTheTimebase : Obligations.SourceMeasurementsCorrectTheTimebase := by
  refine ⟨?ptpFirst, ?ptpBehind, ?ptpSynced, ?edge, ?ppsSynced, ?hostFirst, ?hostSynced, ?hostRefused⟩
  case ptpFirst =>
    intro s port t he hp hpres hup hs ht
    exact ⟨_, exec_ptpMessageReceive he hp hpres hup, congrArg Sources.ptpValid sources_measure,
      measure_first (by decide) hs ht⟩
  case ptpBehind =>
    intro s port t he hp hpres hup hs ht
    refine ⟨_, exec_ptpMessageReceive he hp hpres hup, ?_⟩
    rw [measure_of_behind (s := withTime s { s.time with ptpValid := true }) hs ht]
    exact ⟨rfl, refuseSource_reports⟩
  case ptpSynced =>
    intro s port t he hp hpres hup hs
    exact ⟨_, exec_ptpMessageReceive he hp hpres hup, congrArg Sources.ptpValid sources_measure,
      measure_synced (by decide) hs⟩
  case edge => exact fun s => exec_ppsInEdge_captures
  case ppsSynced =>
    intro s hc he hp hs
    exact ⟨_, exec_ppsInEdge_of_measured hc he hp, congrArg Sources.ppsValid sources_measure,
      measure_synced (by decide) ((on_eq_of_get (get_edgeCounted (by decide))).trans hs)⟩
  case hostFirst =>
    intro s v he hptp hpps hs ht
    refine ⟨_, exec_tbSetWrite v, ?_⟩
    rw [tbSet_of_accepted he hptp hpps]
    exact hostSet_first hs ht
  case hostSynced =>
    intro s v he hptp hpps hs
    refine ⟨_, exec_tbSetWrite v, ?_⟩
    rw [tbSet_of_accepted he hptp hpps]
    exact hostSet_synced hs
  case hostRefused =>
    intro s v h
    rw [exec_tbSetWrite, tbSet_of_refused h]
    rfl

/-! ### A source that is lost (R53, R58) -/

section
variable {s : State} {f : Fld}

/-- The servo no longer slews, and counts offsets anew. -/
def stopped (s : State) : State := withTime s { s.time with slew := 0, near := 0, far := 0 }

@[simp] theorem get_stopped : (stopped s).get f = s.get f := rfl

@[simp] theorem stopped_clk : (stopped s).clk = s.clk := rfl

@[simp] theorem sources_stopped : sources (stopped s) = sources s := rfl

@[simp] theorem ptpUp_stopped : (stopped s).ptpUp = s.ptpUp := rfl

@[simp] theorem ppsUp_stopped : (stopped s).ppsUp = s.ppsUp := rfl

theorem loseSource_eq : s.loseSource =
    if s.servo = servoAcquiring || s.servo = servoLocked then
      if (stopped s).ptpUp then ((stopped s).setServo servoAcquiring).set F.tbStatusActiveSrc 1
      else if (stopped s).ppsUp then ((stopped s).setServo servoAcquiring).set F.tbStatusActiveSrc 2
      else holdNow (((stopped s).setServo servoHoldover).raise 129 sevWarning 0 noDom
        [d4 ((stopped s).get F.tbStatusActiveSrc), d4 ((stopped s).reg R.tbOffset).toNat])
    else s := rfl

theorem get_loseSource (hs : Apart F.tbStatusState f) (ha : Apart F.tbStatusActiveSrc f) :
    s.loseSource.get f = s.get f := by
  rw [loseSource_eq]
  split
  · split
    · rw [get_set_other _ _ ha, get_setServo _ hs, get_stopped]
    · split
      · rw [get_set_other _ _ ha, get_setServo _ hs, get_stopped]
      · rw [get_holdNow, get_raise, get_setServo _ hs, get_stopped]
  · rfl

/-- With no other source valid, the loss of the followed source enters Holdover (Table 2.2). -/
theorem loseSource_holds (hservo : s.servo = servoAcquiring ∨ s.servo = servoLocked) (hptp : s.ptpUp = false)
    (hpps : s.ppsUp = false) : sources s.loseSource = sources s ∧ s.loseSource.servo = servoHoldover ∧
      s.loseSource.time.holdFrom = s.clk ∧ s.loseSource.lastEvent = some (129, sevWarning, noDom) := by
  have hfollows : (s.servo = servoAcquiring || s.servo = servoLocked) = true := by simpa using hservo
  rw [loseSource_eq, if_pos hfollows, ptpUp_stopped, hptp, if_neg Bool.false_ne_true, ppsUp_stopped, hpps,
    if_neg Bool.false_ne_true]
  refine ⟨?sources, ?servo, ?hold, ?event⟩
  case sources => rw [sources_holdNow, sources_raise, sources_setServo, sources_stopped]
  case servo =>
    rw [State.servo, get_holdNow, get_raise]
    exact servo_setServo (by decide)
  case hold => rw [holdNow_holdFrom, raise_clk, setServo_clk, stopped_clk]
  case event => exact (lastEvent_holdNow).trans (lastEvent_raise _ _ _ _ _ _)

theorem exec_ptpSourceLoss : exec .ptpSourceLoss s = .next
    (if s.get F.tbStatusActiveSrc = 1 then (withTime s { s.time with ptpValid := false }).loseSource
    else withTime s { s.time with ptpValid := false }) := rfl

theorem exec_ppsInSourceLoss : exec .ppsInSourceLoss s = .next
    (if s.get F.tbStatusActiveSrc = 2 then (withTime s { s.time with ppsValid := false }).loseSource
    else withTime s { s.time with ppsValid := false }) := rfl

/-- PTP that is no longer valid leaves PPS_IN as it was. -/
theorem loseSource_of_ptpLost (hservo : s.servo = servoAcquiring ∨ s.servo = servoLocked) (hpps : s.ppsUp = false) :
    let u := (withTime s { s.time with ptpValid := false }).loseSource
    u.time.ptpValid = false ∧ u.servo = servoHoldover ∧ u.time.holdFrom = s.clk ∧
      u.lastEvent = some (129, sevWarning, noDom) := by
  obtain ⟨hsrc, hrest⟩ := loseSource_holds (s := withTime s { s.time with ptpValid := false }) hservo
    (Bool.and_false _) hpps
  exact ⟨congrArg Sources.ptpValid hsrc, hrest⟩

/-- PPS_IN that is no longer valid leaves PTP as it was. -/
theorem loseSource_of_ppsLost (hservo : s.servo = servoAcquiring ∨ s.servo = servoLocked) (hptp : s.ptpUp = false) :
    let u := (withTime s { s.time with ppsValid := false }).loseSource
    u.time.ppsValid = false ∧ u.servo = servoHoldover ∧ u.time.holdFrom = s.clk ∧
      u.lastEvent = some (129, sevWarning, noDom) := by
  obtain ⟨hsrc, hrest⟩ := loseSource_holds (s := withTime s { s.time with ppsValid := false }) hservo
    hptp (Bool.and_false _)
  exact ⟨congrArg Sources.ppsValid hsrc, hrest⟩

/-! ### HOLDOVER_EXPIRY, TB_CTL_WRITE and PPS_OUT_PULSE (R54, R58, R60) -/

theorem exec_holdoverExpiry_of_over (hservo : s.servo = servoHoldover)
    (h : s.get F.tbHoldLimitSeconds * 1000000000 ≤ s.clk - s.time.holdFrom) : exec .holdoverExpiry s
      = .next ((s.setServo servoExpired).raise 134 sevError 0 noDom [d4 (s.get F.tbHoldLimitSeconds)]) :=
  congrArg Host.Outcome.next (if_pos (by rw [decide_eq_true hservo, decide_eq_true h, Bool.and_self]))

/-- A write that moves the PTP port ends PTP's validity and checks the port (R54). -/
def portMoved (s : State) (moved : Bool) : State :=
  if moved then (withTime s { s.time with ptpValid := false }).ptpPortCheck else s

/-- A source that is followed and no longer enabled is lost (R53). -/
def dropDisabled (s : State) : State :=
  if (s.get F.tbStatusActiveSrc = 1 && !s.ptpUp) || (s.get F.tbStatusActiveSrc = 2 && !s.ppsUp) then s.loseSource
  else s

theorem exec_tbCtlWrite (v : BitVec 32) : exec (.tbCtlWrite v) s = .next
    (let old := s.reg R.tbCtl
    let new : Word := v.setWidth 64 &&& 0x7FFFFFFF
    dropDisabled (portMoved (s.setReg R.tbCtl new)
      (bits old 0 1 != bits new 0 1 || bits old 3 4 != bits new 3 4))) := rfl

theorem get_portMoved (moved : Bool) (h : Apart F.tbStatusSourceRefused f) : (portMoved s moved).get f = s.get f := by
  unfold portMoved State.ptpPortCheck
  split
  · split
    · rw [get_refuseSource h, get_withTime]
    · rw [get_withTime]
  · rfl

theorem get_dropDisabled (hs : Apart F.tbStatusState f) (ha : Apart F.tbStatusActiveSrc f) :
    (dropDisabled s).get f = s.get f := by
  unfold dropDisabled
  split
  · exact get_loseSource hs ha
  · rfl

theorem exec_tbCtlWrite_sets (v : BitVec 32) :
    ∃ u, exec (.tbCtlWrite v) s = .next u ∧ u.reg R.tbCtl = v.setWidth 64 &&& 0x7FFFFFFF := by
  refine ⟨_, exec_tbCtlWrite v, ?_⟩
  dsimp only
  rw [reg_eq_of_get_whole (get_dropDisabled (by decide) (by decide)),
    reg_eq_of_get_whole (get_portMoved _ (by decide)), reg_setReg_same]

theorem exec_ppsOutPulse_of_allowed (h : s.ppsOutAllowed = true) : exec .ppsOutPulse s =
    let w := max 1 (s.get F.tbCtlPpsOutWidth)
    .next (withTime (s.send (.ppsOut w)) { s.time with ppsOut := true, ppsOutEnd := s.time.dtb + w * 1000000 }) :=
  congrArg Host.Outcome.next (if_pos h)

/-! ### Time messages, and a die or an agent without one (R61, R62, R490, R491) -/

variable {k h d : Nat} {x : DieTime}

theorem dies_le_eight (p : Part) : p.dies ≤ 8 := by cases p <;> decide

theorem exec_timeMessageReceive_privet : exec (.timeMessageReceive 10 h d) s
    = .next { s with time := { s.time with privet := max s.time.privet (h + d) } } :=
  congrArg Host.Outcome.next (if_pos rfl)

theorem exec_timeMessageReceive_die (hk : k < s.part.dies) : exec (.timeMessageReceive k h d) s = .next
    ((withTime s { s.time with dies := s.time.dies.modify k (fun x =>
      { replica := max x.replica (h + d), last := s.clk, held := false }) }).setBit F.tbStatusDieTimeLost k false) := by
  have hport : k ≠ 10 := by have := dies_le_eight s.part; omega
  exact congrArg Host.Outcome.next ((if_neg hport).trans (if_pos hk))

theorem exec_dieTimeLost_of_late (hk : k < s.part.dies) (hx : s.time.dies[k]? = some x) (hlate : x.last + 16000 ≤ s.clk)
    (hbit : s.bit F.tbStatusDieTimeLost k = false) : exec (.dieTimeLost k) s
      = .next ((s.setBit F.tbStatusDieTimeLost k true).raise 132 sevWarning 0 noDom [d4 k]) := by
  change execDieTimeLost k s = _
  unfold execDieTimeLost
  rw [hx]
  exact congrArg Host.Outcome.next (if_pos (by simp [hk, hlate, hbit]))

theorem exec_dieLaunchHold_of_late (hk : k < s.part.dies) (hx : s.time.dies[k]? = some x)
    (hlate : x.last + 1000000 ≤ s.clk) : exec (.dieLaunchHold k) s
      = .next (withTime s { s.time with dies := s.time.dies.modify k (fun y => { y with held := true }) }) := by
  change execDieLaunchHold k s = _
  unfold execDieLaunchHold
  rw [hx]
  exact congrArg Host.Outcome.next (if_pos (by simp [hk, hlate]))

theorem exec_agentTimeLost_of_late {a : Nat} (ha : a < s.part.sites) (hstate : s.get (F.klAgentStatusState a) = 2)
    (hbit : s.bit F.tbStatusAgentTimeLost a = false) (hport : s.klState (8 + a) ≠ portL1)
    (hlate : (s.time.agentSent[a]?).getD 0 + 16000 ≤ s.clk) : exec (.agentTimeLost a) s
      = .next ((s.setBit F.tbStatusAgentTimeLost a true).raise 132 sevWarning 0 noDom [d4 (8 + a)]) :=
  congrArg Host.Outcome.next (if_neg (by simp [ha, hstate, hbit, hport, hlate]))

end

/-- Settles O11, command by command; a message to a die and the hold of its slots turn on the one entry modified. -/
theorem servoPulsesAndTimeMessages : Obligations.ServoPulsesAndTimeMessages := by
  refine ⟨?tcxo, ?expiry, ?ptpLoss, ?ptpOther, ?ppsLoss, ?ppsOther, ?ctl, ?pulse, ?privet, ?die, ?dieLost, ?dieHold,
    ?agentLost, ?send⟩
  case tcxo => exact fun s => rfl
  case expiry => exact fun s hservo hlimit => exec_holdoverExpiry_of_over hservo hlimit
  case ptpLoss =>
    intro s hsrc hservo hpps
    refine ⟨_, exec_ptpSourceLoss, ?_⟩
    rw [if_pos hsrc]
    exact loseSource_of_ptpLost hservo hpps
  case ptpOther =>
    intro s hsrc
    rw [exec_ptpSourceLoss, if_neg hsrc]
    rfl
  case ppsLoss =>
    intro s hsrc hservo hptp
    refine ⟨_, exec_ppsInSourceLoss, ?_⟩
    rw [if_pos hsrc]
    exact loseSource_of_ppsLost hservo hptp
  case ppsOther =>
    intro s hsrc
    rw [exec_ppsInSourceLoss, if_neg hsrc]
    rfl
  case ctl => exact fun s v => exec_tbCtlWrite_sets v
  case pulse => exact fun s hallowed => ⟨_, exec_ppsOutPulse_of_allowed hallowed, rfl, rfl, rfl, rfl⟩
  case privet => exact fun s h d => exec_timeMessageReceive_privet
  case die =>
    intro s k h d x hk hx
    have hbit : F.tbStatusDieTimeLost.lo + k < 64 := by
      have := dies_le_eight s.part
      change 8 + k < 64
      omega
    refine ⟨_, exec_timeMessageReceive_die hk, bit_setBit_same _ _ hbit, ?_, ?_⟩
    · simp [hx]
    · simp
  case dieLost => exact fun s k x hk hx hlate hbit => exec_dieTimeLost_of_late hk hx hlate hbit
  case dieHold =>
    intro s k x hk hx hlate
    refine ⟨_, exec_dieLaunchHold_of_late hk hx hlate, ?_, rfl⟩
    simp [State.unitHolds, hx]
  case agentLost => exact fun s a ha hstate hbit hport hlate => exec_agentTimeLost_of_late ha hstate hbit hport hlate
  case send => exact fun s hrun => congrArg Host.Outcome.next (if_pos hrun)

end Sys2Proof.Proofs.TimeBase

/-!
PROOFS. The memory window: links, LD bindings and extents, decoder commits (O15, O16), the CXL writes that the snoop filter
keeps from Quickset (O17), and the mailbox commands that only read (O20).
-/
namespace Sys2Proof.Proofs.MemoryWindow
open Sys2Proof.Machine Sys2Proof.Machine.State

/-! ### Links as they train (R76) -/

/-- A trained link: up, degraded or not, and no longer lost. -/
def linkTrained (s : State) (l : Nat) (degraded : Bool) : State :=
  ((s.setBit F.winStatusLinkUp l true).setBit F.winStatusLinkDegraded l degraded).setBit F.pvUnitsLostCxlLink l false

section
variable {s : State} {l w r : Nat}

/-- The rates that Table 3.1 lists are those that training accepts. -/
theorem rates_contains (h : r = 64 ∨ r = 32 ∨ r = 16) : [64, 32, 16].contains r = true := by
  rcases h with rfl | rfl | rfl <;> rfl

theorem exec_cxlLinkTrained_of_below (hl : s.linkPresent l = true) (hr : r = 64 ∨ r = 32 ∨ r = 16)
    (hbelow : w < s.linkWidth l ∨ r < s.linkRate) : exec (.cxlLinkTrained l w r) s
      = .next ((linkTrained s l true).raise 42 sevWarning 0 noDom [d4 l, d4 w, d4 r]) := by
  have hbad : (decide (w < s.linkWidth l) || decide (r < s.linkRate)) = true := by simpa using hbelow
  change execCxlLinkTrained l w r s = _
  simp only [execCxlLinkTrained, hl, rates_contains hr, hbad, Bool.not_true, Bool.or_self, Bool.false_eq_true, if_true,
    if_false]
  rfl

theorem exec_cxlLinkTrained_of_full (hl : s.linkPresent l = true) (hr : r = 64 ∨ r = 32 ∨ r = 16)
    (hw : s.linkWidth l ≤ w) (hrate : s.linkRate ≤ r) :
    exec (.cxlLinkTrained l w r) s = .next (linkTrained s l false) := by
  have hgood : (decide (w < s.linkWidth l) || decide (r < s.linkRate)) = false := by simp [hw, hrate]
  change execCxlLinkTrained l w r s = _
  simp only [execCxlLinkTrained, hl, rates_contains hr, hgood, Bool.not_true, Bool.or_self, Bool.false_eq_true, if_false]
  rfl

end

/-! ### Registers of LDs among the updates that follow a binding (R78, R79) -/

/-- The addresses of WIN_LD_BIND and WIN_LD_EXTENT. -/
def IsLdReg (a : Nat) : Prop := 0xF00000031000 ≤ a ∧ a < 0xF00000033000

theorem isLdReg_bind {n : Nat} (h : n < 64) : IsLdReg (R.winLdBind n) := by
  unfold IsLdReg R.winLdBind
  omega

theorem isLdReg_extent {n e : Nat} (hn : n < 64) (he : e < 8) : IsLdReg (R.winLdExtent n e) := by
  unfold IsLdReg R.winLdExtent
  omega

theorem ldCount_le (s : State) : s.ldCount ≤ 64 := by
  unfold State.ldCount
  cases s.part <;> decide

/-- What leaves the registers as a whole leaves each of them. -/
theorem reg_of_keeps {m : Nat} {s t : State} (h : Keeps m s t) (hm : m.testBit 0 = false) (a : Nat) :
    t.reg a = s.reg a := by
  have hregs : t.regs = s.regs := h.same .regs hm
  rw [State.reg, State.reg, h.part, hregs]

theorem reg_cPer (s : State) (code n a : Nat) : (s.cPer code n).reg a = s.reg a :=
  reg_of_keeps ((Keeps.refl 4 s).cPer code n rfl) rfl a

theorem reg_cCip (s : State) (code n a : Nat) : (s.cCip code n).reg a = s.reg a :=
  reg_of_keeps ((Keeps.refl 4 s).cCip code n rfl) rfl a

theorem reg_foldl {α : Type} {f : State → α → State} {a : Nat} (hf : ∀ s x, (f s x).reg a = s.reg a) (l : List α)
    (s : State) : (l.foldl f s).reg a = s.reg a := by
  induction l generalizing s with
  | nil => rfl
  | cons x l ih => exact (ih (f s x)).trans (hf s x)

section
variable {a : Nat} (ha : IsLdReg a)
include ha

/-- A field outside these registers may be set. -/
theorem ldReg_set (s : State) {f : Fld} (x : Nat) (hf : f.reg < 0xF00000031000 ∨ 0xF00000033000 ≤ f.reg) :
    (s.set f x).reg a = s.reg a := by
  obtain ⟨hlo, hhi⟩ := ha
  exact reg_set_other s x (by omega)

theorem ldReg_put (s : State) {f : Fld} (b : Bool) (hf : f.reg < 0xF00000031000 ∨ 0xF00000033000 ≤ f.reg) :
    (s.put f b).reg a = s.reg a :=
  ldReg_set ha s _ hf

theorem ldReg_showMeta (s : State) : s.showMeta.reg a = s.reg a := by
  unfold State.showMeta
  dsimp only
  simp (disch := decide) only [ldReg_set ha, ldReg_put ha]

theorem ldReg_journal (s : State) (b : JBody) : (s.journal b).reg a = s.reg a := by
  unfold State.journal
  dsimp only
  rw [reg_cPer, reg_cPer, ldReg_showMeta ha, ldReg_set ha _ _ (by decide)]
  rfl

theorem ldReg_setPlot (s : State) (p : Plot) : (s.setPlot p).reg a = s.reg a :=
  ldReg_journal ha s _

/-- Hints are dropped by journal records. -/
theorem ldReg_tidyHints (s : State) : s.tidyHints.reg a = s.reg a := by
  unfold State.tidyHints
  exact (reg_foldl (fun s _ => ldReg_setPlot ha s _) _ _).trans (reg_foldl (fun s _ => ldReg_journal ha s _) _ _)

theorem ldReg_showKeys (s : State) (dom : Nat) : (s.showKeys dom).reg a = s.reg a := by
  have hdom : 0xF00000033000 ≤ R.cipDomXts dom := by
    unfold R.cipDomXts
    omega
  unfold State.showKeys
  dsimp only
  rw [ldReg_set ha _ _ (by decide), ldReg_set ha _ _ (by decide), ldReg_put ha _ _ (.inr hdom),
    ldReg_set ha _ _ (.inr hdom)]

theorem ldReg_loadKey (s : State) (core dom : Nat) (pinned : Bool) : (s.loadKey core dom pinned).reg a = s.reg a := by
  unfold State.loadKey
  dsimp only
  rw [ldReg_showKeys ha, reg_cCip]
  exact ldReg_set ha _ _ (by decide)

theorem ldReg_pinKey (s : State) (dom : Nat) : (s.pinKey dom).reg a = s.reg a := by
  unfold State.pinKey
  split
  · rfl
  · split
    · exact ldReg_showKeys ha _ dom
    · split
      · exact ldReg_loadKey ha s _ dom true
      · rfl

theorem ldReg_touchKey (s : State) (dom : Nat) : (s.touchKey dom).reg a = s.reg a := by
  unfold State.touchKey
  split
  · exact (ldReg_showKeys ha _ dom).trans (ldReg_pinKey ha _ dom)
  · split
    · exact ldReg_showKeys ha _ dom
    · rfl

end

/-! ### WIN_LD_BIND and WIN_LD_EXTENT (R78 to R80) -/

section
variable {s : State} {n e : Nat}

theorem ldCommitted_of_mem {d : Decoder} (hd : d ∈ s.win.decoders) (hn : d.ld = n) : s.ldCommitted n = true :=
  List.any_eq_true.mpr ⟨d, hd, decide_eq_true hn⟩

theorem exec_winLdBindWrite_of_committed (v : BitVec 32) (hn : n < s.ldCount) (hc : s.ldCommitted n = true) :
    exec (.winLdBindWrite n v) s = .next (s.refuseLd n (winLdBindOff n)) :=
  congrArg Host.Outcome.next ((if_neg (Nat.not_le.mpr hn)).trans (if_pos (by simp only [hc, Bool.true_or])))

theorem exec_winLdExtentWrite_of_committed (v : BitVec 64) (hn : n < s.ldCount) (he : e < 8)
    (hc : s.ldCommitted n = true) :
    exec (.winLdExtentWrite n e v) s = .next (s.refuseLd n (winLdExtentOff n e)) :=
  congrArg Host.Outcome.next ((if_neg (by simp [hn, he])).trans (if_pos (by simp only [hc, Bool.true_or])))

theorem exec_winLdBindWrite_of_allowed {v : BitVec 32} {u : State} (hn : n < s.ldCount) (hc : s.ldCommitted n = false)
    (hu : s.setReg (R.winLdBind n) (v.setWidth 64 &&& 0xFFF) = u) (hone : u.oneMgmt = true) (hext : u.extentsOk = true) :
    exec (.winLdBindWrite n v) s = .next ((u.tidyHints.touchKey (s.ldDomain n)).touchKey (u.ldDomain n)) := by
  subst hu
  exact congrArg Host.Outcome.next
    ((if_neg (Nat.not_le.mpr hn)).trans (if_neg (by simp only [hc, hone, hext]; decide)))

theorem exec_winLdExtentWrite_of_allowed {v : BitVec 64} {u : State} (hn : n < s.ldCount) (he : e < 8)
    (hc : s.ldCommitted n = false) (hu : s.setReg (R.winLdExtent n e) (v &&& 0x80000000FFFFFFFF) = u)
    (hext : u.extentsOk = true) : exec (.winLdExtentWrite n e v) s = .next u.tidyHints := by
  subst hu
  exact congrArg Host.Outcome.next
    ((if_neg (by simp [hn, he])).trans (if_neg (by simp only [hc, hext]; decide)))

end

/-- Settles O16: a decoder of the LD makes the write one that is refused. -/
theorem bindAndExtentWritesAreIgnoredWhileCommitted : Obligations.BindAndExtentWritesAreIgnoredWhileCommitted := by
  refine ⟨?bind, ?extent⟩
  case bind => exact fun s n v d hn hd hld => exec_winLdBindWrite_of_committed v hn (ldCommitted_of_mem hd hld)
  case extent =>
    exact fun s n e v d hn he hd hld => exec_winLdExtentWrite_of_committed v hn he (ldCommitted_of_mem hd hld)

/-! ### Decoder commits (R83, R84) -/

section
variable {s : State} {ld d base size ways gran skip pos : Nat} {bi en : Bool}

/-- A commit gives the decoder its new range, and one of size 0 takes the range away (assumption 37). -/
theorem exec_hdmDecoderCommit_of_allowed
    (h : s.commitRefusal (s.makeDecoder ld d base size ways gran skip pos bi) en = none) :
    exec (.hdmDecoderCommit ld d base size ways gran skip pos bi en) s
      = .next (State.send { s with win := { s.win with
          decoders := if size = 0 then s.win.decoders.filter (fun x => !(x.ld = ld && x.idx = d))
            else s.win.decoders.filter (fun x => !(x.ld = ld && x.idx = d))
              ++ [s.makeDecoder ld d base size ways gran skip pos bi] } } (.decoderCommit ld d true)) := by
  change execHdmDecoderCommit ld d base size ways gran skip pos bi en s = _
  simp only [execHdmDecoderCommit, h]

theorem exec_hdmDecoderCommit_of_refused {c : Nat}
    (h : s.commitRefusal (s.makeDecoder ld d base size ways gran skip pos bi) en = some c) :
    exec (.hdmDecoderCommit ld d base size ways gran skip pos bi en) s
      = .next ((s.raise 39 sevNotice 0 noDom [d4 ld, d4 d, d4 (Config.codeOf 4 c)]).send (.decoderCommit ld d false)) := by
  change execHdmDecoderCommit ld d base size ways gran skip pos bi en s = _
  simp only [execHdmDecoderCommit, h]

end

theorem lastEvent_send (s : State) (m : Msg) : (s.send m).lastEvent = s.lastEvent := rfl

/-- Settles O15; that a binding or an extent takes effect turns on what follows its write leaving the registers of LDs. -/
theorem linksDevicesAndDecodersAreSetUp : Obligations.LinksDevicesAndDecodersAreSetUp := by
  refine ⟨?below, ?full, ?bind, ?extent, ?commit, ?refused⟩
  case below => exact fun s l w r hl hr hbelow => exec_cxlLinkTrained_of_below hl hr hbelow
  case full => exact fun s l w r hl hr hw hrate => exec_cxlLinkTrained_of_full hl hr hw hrate
  case bind =>
    intro s n v hn hc hone hext
    have ha : IsLdReg (R.winLdBind n) := isLdReg_bind (Nat.lt_of_lt_of_le hn (ldCount_le s))
    refine ⟨_, exec_winLdBindWrite_of_allowed hn hc rfl hone hext, ?_⟩
    rw [ldReg_touchKey ha, ldReg_touchKey ha, ldReg_tidyHints ha, reg_setReg_same]
  case extent =>
    intro s n e v hn he hc hext
    have ha : IsLdReg (R.winLdExtent n e) := isLdReg_extent (Nat.lt_of_lt_of_le hn (ldCount_le s)) he
    refine ⟨_, exec_winLdExtentWrite_of_allowed hn he hc rfl hext, ?_⟩
    rw [ldReg_tidyHints ha, reg_setReg_same]
  case commit =>
    intro s ld d base size ways gran skip pos bi en h
    refine ⟨_, exec_hdmDecoderCommit_of_allowed h, ?_, rfl, rfl⟩
    by_cases hsize : size = 0 <;> simp [hsize]
  case refused =>
    intro s ld d base size ways gran skip pos c bi en h
    refine ⟨_, exec_hdmDecoderCommit_of_refused h, rfl, rfl, ?_, rfl⟩
    rw [lastEvent_send, TimeBase.lastEvent_raise]

/-! ### A sector with two entries in the snoop filter (R86, R87) -/

/-- Link 0 is up, the window is Online, and LD 0 has a decoder at 4 GiB over an extent of four plots. The filter has two
entries for sector 0: the older one has no record left, and the other one has line 1 at link 1. -/
def twoEntries : State :=
  let s := (State.reset.setBit F.winStatusLinkUp 0 true).set F.winStatusWindowState 1
  let s := s.setReg (R.winLdExtent 0 0) 0x8000000000040000
  { s with win := { s.win with
      decoders := [s.makeDecoder 0 0 0x100000000 0x40000000 1 256 0 0 false],
      filter := [{ sector := 0, lines := [], evicting := false },
        { sector := 0, lines := [{ line := 1, links := [1], modified := true }], evicting := false }] } }

theorem twoEntries_target : twoEntries.cxlTarget? 0 0x100000040
    = some (twoEntries.makeDecoder 0 0 0x100000000 0x40000000 1 256 0 0 false, 0x40) := by
  decide +kernel

/-- The lookup stops at the entry without records, so that line 1 seems to have no holder. -/
theorem twoEntries_holders : twoEntries.holders 1 = [] := by
  decide +kernel

/-- A write drops its own link from the record, and the empty entry with it; then link 1 is found, and the write is held for
its back-invalidation. -/
theorem twoEntries_cxlWrite : (twoEntries.cxlWrite 0 0 9 0x100000040 maskAll 0x1234 false).qs? 1 = none ∧
    (twoEntries.cxlWrite 0 0 9 0x100000040 maskAll 0x1234 false).win.held.map (fun h => (h.w.line, h.holders))
      = [(1, [1])] := by
  decide +kernel

/-- Refutes O17: the premise that nobody holds the line is about the filter before the write takes its own link out of it (R86),
and the statement asks nothing of the filter's form. In `twoEntries` a full write to line 1 meets every premise and is held,
and Quickset has no entry of its line. -/
theorem not_cxlReadsAndWritesReachTheirLine : ¬ Obligations.CxlReadsAndWritesReachTheirLine := by
  rintro ⟨_, _, _, hfull, _⟩
  obtain ⟨t, ht, hentry⟩ := hfull twoEntries 0 0 9 0x100000040 0x40 0x1234 false _ (by decide +kernel) (by decide +kernel)
    twoEntries_target (by decide) (by decide +kernel) (by decide +kernel) (by decide +kernel) (by decide +kernel)
    twoEntries_holders (by decide +kernel)
  have hstep : exec (.memwr 0 0 9 0x100000040 0x1234 false) twoEntries
      = .next (twoEntries.cxlWrite 0 0 9 0x100000040 maskAll 0x1234 false) := rfl
  obtain rfl := Host.Outcome.next.inj (hstep.symm.trans ht)
  obtain ⟨hnone, _⟩ := twoEntries_cxlWrite
  rw [show 0x40 / 64 = 1 from rfl, hnone, Option.map_none] at hentry
  cases hentry

/-! ### The mailbox (R118) -/

/-- A command that every LD answers, at an LD of the part. -/
theorem next_anyLd {s : State} {n : Nat} (f : State → State) (h : n < s.ldCount) :
    (.next (s.anyLd n f) : Host.Outcome State Fault Refusal) = .next (f s) :=
  congrArg Host.Outcome.next (if_pos h)

/-- Settles O20: each command is one that every LD answers, by a message alone. -/
theorem mailboxQueriesAnswer : Obligations.MailboxQueriesAnswer := by
  refine ⟨?events, ?policy, ?time, ?logs, ?log, ?identify, ?partition, ?health, ?alerts, ?poison⟩
  case events => exact fun s n log h => next_anyLd _ h
  case policy => exact fun s n h => next_anyLd _ h
  case time => exact fun s n h => next_anyLd _ h
  case logs => exact fun s n h => next_anyLd _ h
  case log => exact fun s n log o k h => next_anyLd _ h
  case identify => exact fun s n h => next_anyLd _ h
  case partition => exact fun s n h => next_anyLd _ h
  case health => exact fun s n h => next_anyLd _ h
  case alerts => exact fun s n h => next_anyLd _ h
  case poison => exact fun s n dpa len limit h => next_anyLd _ h

end Sys2Proof.Proofs.MemoryWindow

/-!
PROOFS. The Dorfoad channels: an event that follows the one of a retraining that ends (O25).
-/
namespace Sys2Proof.Proofs.Channels
open Sys2Proof.Machine Sys2Proof.Machine.State

/-! ### A journal record as a retraining ends (R172, R269, R591) -/

/-- A plot on channels 0 to 3. -/
def pausedPlot : Plot :=
  { idx := 0, span := some { chans := [0, 1, 2, 3], baseRow := 0, key := 0, gapPage := 65535 }, start := 0,
    gap := pagesPerPlot, interval := 32, readOnly := false, hazelOwned := false, reborn := false, pinned := false,
    heat := none, group := none, hinted := 0 }

/-- The migration of that plot to channels 4 to 7, paused (R269). -/
def pausedMigration : Migration :=
  { plot := 0, reason := 0, state := .paused, cursor := 0, journalled := 0,
    dst := some { chans := [4, 5, 6, 7], baseRow := 0, key := 0, gapPage := 65535 }, old := none, decision := 1 }

/-- Counter 160, of the persistence unit, counts journal records (code 0x32) and stands at its highest value. -/
def fullCounter : Counter := { idx := 160, cnt := 2 ^ 48 - 1, sel := 256 + 0x32, ovf := false }

/-- Channel 0 is Calibrating, with one slice to go, and its retraining holds the migration; `fullCounter` is on. -/
def lastSlice : State :=
  let s := ((State.reset.set (F.mtChStatusState 0) 3).set (F.mtChStatusRankOnline 0) 3).setChan 0
    { Chan.reset with slice := 35 }
  { s with
    md := { s.md with plots := [pausedPlot], migrations := [pausedMigration] }
    obs := { s.obs with counters := [fullCounter] } }

/-- It is the retraining that holds the migration: the model has nothing to continue before it ends. -/
theorem lastSlice_held : lastSlice.migHeld pausedMigration = true := by
  decide +kernel

/-- The migration continues after the event of the retraining; its journal record wraps the counter, which raises event 24. -/
theorem lastSlice_lastEvent : ∃ t, exec (.retrainSliceComplete 0 50) lastSlice = .next t ∧
    t.md.migrations.map (·.state) = [.copying] ∧ t.lastEvent = some (24, sevNotice, noDom) :=
  ⟨_, rfl, by decide +kernel, by decide +kernel⟩

/-- Refutes O25: the event of a retraining need not be the last that its last slice raises, since migrations that the channel
held continue after it, and their journal records are counted. From `lastSlice` the last event is that of a counter. -/
theorem not_channelsTrainAndRetrain : ¬ Obligations.ChannelsTrainAndRetrain := by
  rintro ⟨_, _, _, _, _, _, hends, _, _⟩
  obtain ⟨t, ht, _, _, _, hretrained⟩ := hends lastSlice 0 50 (by decide +kernel) (by decide +kernel) (by decide +kernel)
    (by decide)
  obtain ⟨u, hu, _, hcounter⟩ := lastSlice_lastEvent
  obtain rfl := Host.Outcome.next.inj (ht.symm.trans hu)
  exact absurd (hretrained.symm.trans hcounter) (by decide)

end Sys2Proof.Proofs.Channels

/-!
PROOFS. The flash: the registers that its bookkeeping and the journal write, and what the issue of program groups leaves.
-/
namespace Sys2Proof.Proofs.Flash
open Sys2Proof.Machine Sys2Proof.Machine.State

/-! ### Registers that bookkeeping shows (R218, R248, R253, R275, R293) -/

/-- Registers in which the journal, the bands, the victim, the F-cache and the snapshots show their state. -/
def shownRegs : List Nat :=
  [R.perJournalSeq, R.perEpoch, R.perEpochCut, R.perJournalStatus, R.winStatus, R.winLwlStatus, R.mtExcStatus,
    R.topDecisionSeq, R.topStatus, R.topFcacheStatus, R.topSnapStatus, R.ftStatus, R.ftFree, R.ftGcStatus, R.ftSpare]

/-- A register of that list, or one that shows the spare pages of an M-channel. -/
def Shown (a : Nat) : Prop := a ∈ shownRegs ∨ ∃ c, a = R.mtChSpare c

section
variable {a : Nat}

theorem not_shown_of_lt (hm : a ∉ shownRegs) (h : a < R.mtChSpare 0) : ¬ Shown a := by
  rintro (hs | ⟨c, rfl⟩)
  · exact hm hs
  · unfold R.mtChSpare at h
    omega

/-- The registers of F-channels stand above the list and have other offsets than MT_CH_SPARE. -/
theorem not_shown_of_channel (h : 0xF00040000000 ≤ a) (hoff : a % 0x1000 ≠ 0x82C) : ¬ Shown a := by
  rintro (hs | ⟨c, rfl⟩)
  · exact absurd ((by decide : ∀ x ∈ shownRegs, x < 0xF00040000000) a hs) (Nat.not_lt.mpr h)
  · unfold R.mtChSpare at hoff
    omega

theorem not_shown_ftHostPages : ¬ Shown R.ftHostPages := not_shown_of_lt (by decide) (by decide)

theorem not_shown_ftStreamCfg {k : Nat} (h : k < 8) : ¬ Shown (R.ftStreamCfg k) :=
  have ⟨hm, hlt⟩ := (by decide : ∀ k < 8, R.ftStreamCfg k ∉ shownRegs ∧ R.ftStreamCfg k < R.mtChSpare 0) k h
  not_shown_of_lt hm hlt

theorem not_shown_ftChStatus (c : Nat) : ¬ Shown (R.ftChStatus c) := by
  unfold R.ftChStatus
  exact not_shown_of_channel (by omega) (by omega)

theorem not_shown_ftChCal (c : Nat) : ¬ Shown (R.ftChCal c) := by
  unfold R.ftChCal
  exact not_shown_of_channel (by omega) (by omega)

theorem not_shown_ftChProgFailCount (c : Nat) : ¬ Shown (R.ftChProgFailCount c) := by
  unfold R.ftChProgFailCount
  exact not_shown_of_channel (by omega) (by omega)

theorem not_shown_ftChEraseFailCount (c : Nat) : ¬ Shown (R.ftChEraseFailCount c) := by
  unfold R.ftChEraseFailCount
  exact not_shown_of_channel (by omega) (by omega)

theorem ftChStatus_ne_ftChCal (c : Nat) : R.ftChStatus c ≠ R.ftChCal c := by
  unfold R.ftChStatus R.ftChCal
  omega

end

/-- `t` differs from `s`, among the registers, at most in those that bookkeeping shows. -/
def ShownOnly (s t : State) : Prop := ∀ a, ¬ Shown a → t.reg a = s.reg a

namespace ShownOnly

section
variable {s t u : State} {f : Fld}

theorem refl (s : State) : ShownOnly s s := fun _ _ => rfl

theorem trans (h : ShownOnly s t) (g : ShownOnly t u) : ShownOnly s u := fun a ha => (g a ha).trans (h a ha)

theorem get_eq (h : ShownOnly s t) (hf : ¬ Shown f.reg) : t.get f = s.get f := by
  rw [State.get, State.get, h f.reg hf]

theorem bit_eq (h : ShownOnly s t) (hf : ¬ Shown f.reg) (k : Nat) : t.bit f k = s.bit f k :=
  TimeBase.on_eq_of_get (h.get_eq hf)

theorem ite {c : Prop} [Decidable c] (ht : ShownOnly s t) (hu : ShownOnly s u) : ShownOnly s (if c then t else u) := by
  split
  · exact ht
  · exact hu

/-- What leaves the registers as a whole. -/
theorem of_keeps {m : Nat} (h : Keeps m s t) (hm : m.testBit 0 = false) : ShownOnly s t :=
  fun a _ => MemoryWindow.reg_of_keeps h hm a

theorem foldl {α : Type} {g : State → α → State} (hg : ∀ s x, ShownOnly s (g s x)) (l : List α) (s : State) :
    ShownOnly s (l.foldl g s) :=
  fun a ha => MemoryWindow.reg_foldl (fun s x => hg s x a ha) l s

theorem set_shown (h : ShownOnly s t) (x : Nat) (hf : Shown f.reg) : ShownOnly s (t.set f x) :=
  by
  intro a ha
  have hne : a ≠ f.reg := fun e => ha (e.symm ▸ hf)
  exact (reg_set_other t x hne).trans (h a ha)

theorem setFt (h : ShownOnly s t) (x : FtState) : ShownOnly s (t.setFt x) := h

theorem raise (h : ShownOnly s t) (src sev code dom : Nat) (data : List (Nat × Nat)) :
    ShownOnly s (t.raise src sev code dom data) := h

theorem event23 (h : ShownOnly s t) (code sev : Nat) : ShownOnly s (t.event23 code sev) := h

theorem set (h : ShownOnly s t) (x : Nat) (hf : f.reg ∈ shownRegs := by decide) : ShownOnly s (t.set f x) :=
  h.set_shown x (.inl hf)

theorem put (h : ShownOnly s t) (b : Bool) (hf : f.reg ∈ shownRegs := by decide) : ShownOnly s (t.put f b) :=
  h.set_shown _ (.inl hf)

end

/-! ### The journal and what it shows -/

theorem showMeta (s : State) : ShownOnly s s.showMeta := by
  unfold State.showMeta
  extract_lets s1 s2 s3 s4
  have h1 : ShownOnly s s1 := ((refl s).set _).set _
  have h2 : ShownOnly s s2 := (h1.put _).put _
  have h3 : ShownOnly s s3 := (h2.set _).set _
  have h4 : ShownOnly s s4 := (h3.put _).set _
  exact (h4.set _).set _

theorem cPer (s : State) (code n : Nat) : ShownOnly s (s.cPer code n) :=
  of_keeps ((Keeps.refl 4 s).cPer code n rfl) rfl

theorem journal (s : State) (b : JBody) : ShownOnly s (s.journal b) := by
  unfold State.journal
  dsimp only
  refine ((ShownOnly.trans (set ?_ _) (showMeta _)).trans (cPer _ _ _)).trans (cPer _ _ _)
  exact fun _ _ => rfl

theorem showFlash (s : State) : ShownOnly s s.showFlash := by
  unfold State.showFlash
  extract_lets dies s1 s2 s3 degraded s4 s5 s6 s7 s8 s9 n budget s10
  have h1 : ShownOnly s s1 := (refl s).set _
  have h2 : ShownOnly s s2 := h1.set _
  have h3 : ShownOnly s s3 := h2.set _
  have h4 : ShownOnly s s4 := ite (h3.event23 _ _) h3
  have h5 : ShownOnly s s5 := h4.set _
  have h6 : ShownOnly s s6 :=
    ite (ite h5 ((h5.put _).event23 _ _)) ((h5.put _).put _)
  have h7 : ShownOnly s s7 := h6.put _
  have h8 : ShownOnly s s8 := ite ((h7.put _).event23 _ _) h7
  have h9 : ShownOnly s s9 := h8.set _
  have h10 : ShownOnly s s10 := ite ((h9.put _).event23 _ _) h9
  exact ite ((h10.set _).event23 _ _) h10

theorem showVictim (s : State) : ShownOnly s s.showVictim := by
  unfold State.showVictim
  split <;> exact ((refl s).set _).set _

/-! ### Bands and program groups -/

theorem setBand (s : State) (n : Nat) (b : Option Band) : ShownOnly s (s.setBand n b) := journal s _

theorem openBand (s : State) (stream : Nat) : ShownOnly s (s.openBand stream) := by
  unfold State.openBand
  extract_lets all
  split
  · exact refl s
  · split
    · exact refl s
    · exact (setBand s _ _).trans (showFlash _)

theorem streamBand (s : State) (stream : Nat) : ShownOnly s (s.streamBand stream).1 := by
  unfold State.streamBand
  split
  · exact refl s
  · exact openBand s stream

theorem issueGroup (s : State) (stream : Nat) : ShownOnly s (s.issueGroup stream) := by
  have hband := streamBand s stream
  unfold State.issueGroup
  extract_lets mine
  split
  · exact refl s
  · split
    next hu =>
      rw [hu] at hband
      exact hband
    next hu =>
      rw [hu] at hband
      exact ite hband hband

theorem issueAll (s : State) : ShownOnly s s.issueAll := foldl issueGroup _ s

theorem eraseEmpty (s : State) : ShownOnly s s.eraseEmpty := by
  unfold State.eraseEmpty
  refine ite (refl s) (ShownOnly.trans (foldl (fun s b => ?_) _ s) (showFlash _))
  exact setBand s _ _

theorem markBad (s : State) (b code : Nat) : ShownOnly s (s.markBad b code) := by
  unfold State.markBad
  exact ite (refl s) ((journal s _).raise _ _ _ _ _)

theorem closeBroken (s : State) (n : Nat) : ShownOnly s (s.closeBroken n) := by
  unfold State.closeBroken
  split
  · exact ite (refl s) (setBand s _ _)
  · exact refl s

theorem failGroup (s : State) (n : Nat) : ShownOnly s (s.failGroup n) := (refl s).setFt _

theorem endSuspension (s : State) (b : Band) : ShownOnly s (s.endSuspension b) := (refl s).setFt _

theorem bandsLose (s : State) (c k : Nat) : ShownOnly s (s.bandsLose c k) := by
  unfold State.bandsLose
  refine foldl (fun s b => ?_) _ s
  exact (failGroup s b.num).trans (closeBroken _ _)

theorem releaseBand (s : State) (b : Band) : ShownOnly s (s.releaseBand b) := by
  unfold State.releaseBand
  extract_lets ft s1 s2 s3 ft' s4
  have h2 : ShownOnly s s2 := ((refl s).setFt _).trans (foldl (fun s x => markBad s x 3) _ s1)
  have h3 : ShownOnly s s3 := (h2.trans (endSuspension s2 b)).trans (setBand _ _ _)
  have h4 : ShownOnly s s4 := ite (h3.setFt _) h3
  exact ((h4.trans (showFlash s4)).trans (showVictim _)).trans (issueAll _)

/-! ### Slots, spare pages and spans, as pages are programmed -/

theorem showFcache (s : State) : ShownOnly s s.showFcache := ((refl s).set _).set _

theorem showFull (s : State) : ShownOnly s s.showFull := by
  unfold State.showFull
  extract_lets s1 used
  have h1 : ShownOnly s s1 := showFcache s
  exact ite (ite h1 ((h1.put _).raise _ _ _ _ _)) (h1.put _)

theorem showSpare (s : State) (c : Nat) : ShownOnly s (s.showSpare c) := by
  unfold State.showSpare
  extract_lets n low s1
  have h1 : ShownOnly s s1 := ((refl s).set_shown _ (.inr ⟨c, rfl⟩)).set_shown _ (.inr ⟨c, rfl⟩)
  exact ite (h1.raise _ _ _ _ _) h1

theorem takeSpare (s : State) (l : Nat) : ShownOnly s (s.takeSpare l) := showSpare _ _

theorem releaseSpan (s : State) (e : Span) : ShownOnly s (s.releaseSpan e) := showSpare _ _

theorem makeSpan (s : State) (x : List Nat × Nat) : ShownOnly s (s.makeSpan x).1 := by
  unfold State.makeSpan
  extract_lets die l
  split
  · exact refl s
  · exact takeSpare s _

theorem placePlot (s : State) (i : Nat) : ShownOnly s (s.placePlot i).1 := by
  unfold State.placePlot
  extract_lets p
  split
  · exact refl s
  next x _ =>
    have hspan := makeSpan s x
    split
    · exact refl s
    next hu =>
      rw [hu] at hspan
      exact (hspan.trans (journal _ _)).trans (journal _ _)

/-- The state that `placePlot` answers, whether or not it has placed the plot. -/
theorem of_placePlot {s u : State} {i : Nat} {placed : Bool} (h : s.placePlot i = (u, placed)) : ShownOnly s u := by
  have hu := placePlot s i
  rwa [h] at hu

theorem spanFreed (s : State) : ShownOnly s s.spanFreed := by
  unfold State.spanFreed
  extract_lets want s1
  have h1 : ShownOnly s s1 := by
    refine foldl (fun s i => ite (refl s) ?_) _ s
    split
    next h => exact fun a ha => of_placePlot h a ha
    · exact refl s
  refine ite h1 (ShownOnly.trans (h1.trans (foldl (fun s i => ?_) _ s1)) (showFcache _))
  split
  next h => exact fun a ha => of_placePlot h a ha
  · exact refl s

theorem shrinkStep (s : State) : ShownOnly s s.shrinkStep := by
  unfold State.shrinkStep
  split
  · exact refl s
  · split
    · exact refl s
    · exact ((journal s _).trans (releaseSpan _ _)).trans (spanFreed _)

theorem freeSlotRec (s : State) (i : Nat) : ShownOnly s (s.freeSlotRec i) :=
  ((journal s _).trans (showFull _)).trans (shrinkStep _)

theorem partDone (s : State) (r h : Nat) : ShownOnly s (s.partDone r h) :=
  of_keeps ((Keeps.refl 266240 s).partDone r h rfl) rfl

theorem showStaged (s : State) : ShownOnly s s.showStaged := ((refl s).set _).set _

/-- By the page's kind: of a destage, a direct write, a copy, a snapshot, or a filler. -/
theorem pageProgrammed (s : State) (x : Staged) (l : Nat) : ShownOnly s (s.pageProgrammed x l) := by
  unfold State.pageProgrammed
  extract_lets u fm s1 unit s2
  split
  next i =>
    split
    · exact ite (refl s) (ite ((journal s _).trans (freeSlotRec _ _)) (refl s))
    · exact refl s
  next r h _ _ =>
    refine ShownOnly.trans ?_ (partDone s1 r h)
    refine ite (refl s) ?_
    split
    · exact journal s _
    · exact journal s _
  next src =>
    refine ite (refl s) (ite (journal s _) ?_)
    split
    · exact ite (journal s _) (refl s)
    · exact refl s
  next =>
    refine ShownOnly.trans ((journal s _).trans (foldl (fun s c => ?_) _ s2)) (showStaged _)
    exact journal s _
  · exact refl s

theorem programPage (b : Band) (row : Nat) (s : State) (x : Staged × Nat) : ShownOnly s (programPage b row s x) := by
  unfold State.programPage
  split
  · exact refl s
  next m _ =>
    extract_lets l st p ft
    exact ((refl s).setFt _).trans (pageProgrammed _ _ _)

end ShownOnly

/-! ### What issuing program groups leaves of the flash -/

/-- The flash `g` is `f`, but for what is staged and what is on its way to dies. -/
def Restaged (f g : FtState) : Prop := ∃ staged groups, g = { f with staged := staged, groups := groups }

namespace Restaged

section
variable {f g h : FtState}

theorem refl (f : FtState) : Restaged f f := ⟨f.staged, f.groups, rfl⟩

theorem trans (hg : Restaged f g) (hh : Restaged g h) : Restaged f h := by
  obtain ⟨_, _, rfl⟩ := hg
  obtain ⟨staged, groups, rfl⟩ := hh
  exact ⟨staged, groups, rfl⟩

theorem calibrated_eq (hg : Restaged f g) : g.calibrated = f.calibrated := by
  obtain ⟨_, _, rfl⟩ := hg
  rfl

theorem pages_eq (hg : Restaged f g) : g.pages = f.pages := by
  obtain ⟨_, _, rfl⟩ := hg
  rfl

end

theorem issueGroup (s : State) (k : Nat) : Restaged s.ft (s.issueGroup k).ft := by
  have hband : (s.streamBand k).1.ft = s.ft := ((Keeps.refl 2437 s).streamBand k rfl).same .ft rfl
  unfold State.issueGroup
  extract_lets mine
  split
  · exact refl _
  · split
    next hu =>
      rw [hu] at hband
      rw [← hband]
      exact refl _
    next hu =>
      rw [hu] at hband
      rw [← hband]
      extract_lets n rest ft
      split
      · exact refl _
      · exact ⟨rest, _, rfl⟩

theorem issueAll (s : State) : Restaged s.ft s.issueAll.ft := by
  unfold State.issueAll
  generalize List.range 8 = l
  induction l generalizing s with
  | nil => exact refl _
  | cons k l ih => exact (issueGroup s k).trans (ih _)

end Restaged

section
variable (s : State) (k : Nat)

theorem fm_journal (b : JBody) : (s.journal b).fm = b.applyF s.fm := by
  unfold State.journal
  exact (((Keeps.refl 4 _).cPer 0x32 1 rfl).cPer 0x33 1 rfl).same .fm rfl

theorem fm_showFlash : s.showFlash.fm = s.fm := ((Keeps.refl 5 s).showFlash rfl).same .fm rfl

theorem slots_setBand (b : Option Band) : (s.setBand k b).fm.slots = s.fm.slots :=
  (congrArg FtMeta.slots (fm_journal s (.bandSet k b))).trans rfl

theorem slots_openBand : (s.openBand k).fm.slots = s.fm.slots := by
  unfold State.openBand
  extract_lets all
  split
  · rfl
  · split
    · rfl
    · exact (congrArg FtMeta.slots (fm_showFlash _)).trans (slots_setBand s _ _)

theorem slots_streamBand : (s.streamBand k).1.fm.slots = s.fm.slots := by
  unfold State.streamBand
  split
  · rfl
  · exact slots_openBand s k

theorem slots_issueGroup : (s.issueGroup k).fm.slots = s.fm.slots := by
  have hband := slots_streamBand s k
  unfold State.issueGroup
  extract_lets mine
  split
  · rfl
  · split
    next hu =>
      rw [hu] at hband
      exact hband
    next hu =>
      rw [hu] at hband
      extract_lets n rest
      split
      · exact hband
      · exact hband

end

end Sys2Proof.Proofs.Flash

/-!
PROOFS. The flash: dies that are lost, resumed or calibrated, a page read, grants and open bands (O29).
-/
namespace Sys2Proof.Proofs.Flash
open Sys2Proof.Machine Sys2Proof.Machine.State

/-! ### Dies: lost, resumed, calibrated (R221, R223, R243) -/

section
variable {s : State} {c k : Nat}

/-- A field that is set to 0 has no bit set. -/
theorem bit_set_zero (s : State) {f : Fld} (hf : f.lo + f.w ≤ 64) (hk : k < f.w) : (s.set f 0).bit f k = false := by
  have hget : (s.set f 0).get ⟨f.reg, f.lo + k, 1⟩ = 0 := by
    refine Nat.eq_of_testBit_eq fun i => ?_
    rw [State.get, reg_set_same, testBit_bits, testBit_putBits _ _ _ hf]
    dsimp only
    by_cases hi : i < 1
    · rw [if_pos (by omega), Nat.zero_testBit, Bool.and_false, Nat.zero_testBit]
    · rw [decide_eq_false hi, Bool.false_and, Nat.zero_testBit]
  rw [State.bit, State.on, hget]
  rfl

theorem nandUp_of_bit (h : s.bit (F.ftChStatusDieOnline c) k = false) : s.nandUp c k = false := by
  rw [State.nandUp, h, Bool.and_false]

theorem dieLost_bit (hk : k < 16) : (s.dieLost c k).bit (F.ftChStatusDieOnline c) k = false := by
  unfold State.dieLost
  extract_lets u
  have hu : u.bit (F.ftChStatusDieOnline c) k = false :=
    (on_put_other _ false (.inl (ftChStatus_ne_ftChCal c))).trans
      (bit_setBit_same s false (show 8 + k < 64 by omega))
  exact ((ShownOnly.bandsLose _ c k).bit_eq (not_shown_ftChStatus c) k).trans hu

/-- A channel that goes offline, or is offline already, has no die online. -/
theorem fchanOffline_bit (cause : Nat) (hk : k < 16) (h : s.bit (F.ftChStatusDieOnline c) k = false) :
    (s.fchanOffline c cause).bit (F.ftChStatusDieOnline c) k = false := by
  unfold State.fchanOffline
  split
  · exact h
  · extract_lets up u
    refine (((ShownOnly.showFlash _).trans (ShownOnly.issueAll _)).bit_eq (not_shown_ftChStatus c) k).trans ?_
    exact bit_set_zero _ (show 8 + 16 ≤ 64 by decide) hk

theorem exec_nandDieOffline_lost (hk : k < 16) (hup : s.nandUp c k = true) :
    ∃ t, exec (.nandDieOffline c k) s = .next t ∧ t.nandUp c k = false := by
  have hlost := dieLost_bit (s := s) (c := c) hk
  have hexec : exec (.nandDieOffline c k) s = execNandDieOffline c k s := rfl
  have hon : ¬ (decide (16 ≤ k) || !s.nandUp c k) = true := by simp [hk, hup]
  rw [hexec, execNandDieOffline, if_neg hon]
  refine ⟨_, rfl, nandUp_of_bit ?_⟩
  dsimp only
  split
  · exact fchanOffline_bit 4 hk hlost
  · exact (((ShownOnly.showFlash _).trans (ShownOnly.issueAll _)).bit_eq (not_shown_ftChStatus c) k).trans hlost

theorem suspended?_setSuspended_none : (s.setSuspended c k none).suspended? c k = none := by
  refine List.find?_eq_none.mpr fun x hx => ?_
  obtain ⟨_, hne⟩ := List.mem_filter.mp hx
  exact ne_true_of_eq_false ((Bool.not_eq_true' _).mp hne)

theorem exec_programResume_of_idle {x : Suspended} (hx : s.suspended? c k = some x)
    (hidle : s.ft.reads.any (fun r => locChan r.loc = c && locDie r.loc = k) = false) :
    exec (.programResume c k) s = .next (s.setSuspended c k none) := by
  change execProgramResume c k s = _
  simp only [execProgramResume, hx, hidle, Bool.not_false, if_true]

/-- A die that was never calibrated is due once a period has passed since time 0. -/
theorem exec_dieCalibration_of_due (hk : k < 16) (hup : s.nandUp c k = true) (hhours : s.get F.ftCalCfgPeriodHours ≠ 0)
    (hnew : s.ft.calibrated.find? (fun x => x.1 = nandKey c k) = none)
    (hdue : s.get F.ftCalCfgPeriodHours * 3600000000000 ≤ s.clk)
    (hfree : (s.groupDies (s.dieGroup c k)).any (fun x => s.nandCalibrating x.1 x.2) = false) :
    exec (.dieCalibration c k) s = .next (s.setBit (F.ftChCalCalibrating c) k true) := by
  change execDieCalibration c k s = _
  simp [execDieCalibration, hnew, hfree, hup, hhours, hdue, hk]

/-- The die with its calibration noted, before groups are issued on it. -/
def calibrationNoted (s : State) (c k : Nat) : State :=
  ((s.setFt { s.ft with calibrated := s.ft.calibrated.filter (fun x => x.1 != nandKey c k) ++
    [(nandKey c k, s.clk, s.tempCode (32 + c / 4))] }).setBit (F.ftChCalCalibrating c) k false).raise
      (dieSource (c / 8) 19) sevInfo 1 noDom [d4 c, d4 k]

theorem exec_calibrationComplete_of_calibrating (hk : k < 16) (hup : s.nandUp c k = true)
    (hcal : s.nandCalibrating c k = true) :
    exec (.calibrationComplete c k) s = .next (calibrationNoted s c k).issueAll := by
  change execCalibrationComplete c k s = _
  rw [execCalibrationComplete, if_neg (by simp [hk, hup, hcal])]
  rfl

theorem calibrationNoted_bit (hk : k < 16) : (calibrationNoted s c k).bit (F.ftChCalCalibrating c) k = false := by
  rw [calibrationNoted, State.bit, on_raise]
  exact bit_setBit_same _ false (show 0 + k < 64 by omega)

theorem calibrationNoted_calibrated : (calibrationNoted s c k).ft.calibrated =
    s.ft.calibrated.filter (fun x => x.1 != nandKey c k) ++ [(nandKey c k, s.clk, s.tempCode (32 + c / 4))] := rfl

theorem exec_calibrationComplete_ends (hk : k < 16) (hup : s.nandUp c k = true) (hcal : s.nandCalibrating c k = true) :
    ∃ t, exec (.calibrationComplete c k) s = .next t ∧ t.nandCalibrating c k = false ∧
      t.ft.calibrated.getLast? = some (nandKey c k, s.clk, s.tempCode (32 + c / 4)) := by
  refine ⟨_, exec_calibrationComplete_of_calibrating hk hup hcal, ?_, ?_⟩
  · exact ((ShownOnly.issueAll _).bit_eq (not_shown_ftChCal c) k).trans (calibrationNoted_bit hk)
  · rw [(Restaged.issueAll _).calibrated_eq, calibrationNoted_calibrated, List.getLast?_concat]

end

/-! ### A page read whose codeword decodes at the first attempt (R235, R236) -/

section
variable {s : State} {n k ring handle first : Nat} {r : NandRead} {b : Band} {m : Member}

/-- The read with its codeword decoded. -/
def decodedRead (r : NandRead) : NandRead := { r with blocks := [] }

theorem exec_nandPageReadComplete_of_decoded (hr : s.ft.reads.find? (fun r => r.id = n) = some r) (hblock : r.blocks = [k])
    (htry : r.attempts = 1) (hsoft : r.soft = false) (hm : s.memberAt? r.loc = some (b, m))
    (hcal : s.nandCalibrating m.chan m.die = false) (hpres : s.memberMissing m = false) :
    exec (.nandPageReadComplete n [k] []) s
      = .next (((s.codewordDone r k true false).cFtl (m.chan / 8) 0x9A 1).nandDone (decodedRead r)) := by
  change execNandPageReadComplete n [k] [] s = _
  simp [execNandPageReadComplete, hr, hblock, htry, hsoft, hm, hcal, hpres, decodedRead]

theorem nandDone_reads_of_descriptor (h : r.want = .descriptor ring handle first) :
    (s.nandDone r).ft.reads = s.ft.reads.filter (fun x => x.id != r.id) := by
  have hft := ((Keeps.refl 266240 (s.setFt { s.ft with reads := s.ft.reads.filter (fun x => x.id != r.id) })).partDone
    ring handle rfl).same .ft rfl
  simp only [State.nandDone, h]
  exact congrArg FtState.reads hft

/-- A codeword's outcome goes to its descriptor, and a descriptor's bytes reach no flash. -/
theorem codewordDone_cFtl_ft (die n : Nat) (ok late : Bool) :
    ((s.codewordDone r k ok late).cFtl die 0x9A n).ft = s.ft :=
  (((Keeps.refl 1465853 s).codewordDone r k ok late rfl).cFtl die 0x9A n rfl).same .ft rfl

theorem exec_nandPageReadComplete_ends (hr : s.ft.reads.find? (fun r => r.id = n) = some r) (hblock : r.blocks = [k])
    (hwant : r.want = .descriptor ring handle first) (htry : r.attempts = 1) (hsoft : r.soft = false)
    (hm : s.memberAt? r.loc = some (b, m)) (hcal : s.nandCalibrating m.chan m.die = false)
    (hpres : s.memberMissing m = false) :
    ∃ t, exec (.nandPageReadComplete n [k] []) s = .next t ∧ t.ft.reads.any (fun x => x.id = n) = false := by
  refine ⟨_, exec_nandPageReadComplete_of_decoded hr hblock htry hsoft hm hcal hpres, ?_⟩
  have hid : r.id = n := by simpa using List.find?_some hr
  rw [nandDone_reads_of_descriptor (r := decodedRead r) hwant, codewordDone_cFtl_ft]
  simp [decodedRead, hid]

end

/-! ### Grants of the namespace, and open bands of a stream (R227, R244) -/

section
variable {s : State}

/-- The grant meets one of another domain, other than the entry that it replaces. -/
def grantMeets (s : State) (v : BitVec 64) : Bool :=
  s.ft.grants.any (fun g => g.1 != s.get F.ftGrantCursorIndex && bits g.2 63 1 = 1 && bits g.2 36 10 != bits v 36 10 &&
    bits g.2 0 18 < bits v 0 18 + bits v 18 18 && bits v 0 18 < bits g.2 0 18 + bits g.2 18 18)

/-- The domain whose grant the entry at the cursor was. -/
def grantOwner (s : State) (v : BitVec 64) : Nat :=
  ((Store.find? s.ft.grants (s.get F.ftGrantCursorIndex)).map (fun g => bits g 36 10)).getD (bits v 36 10)

/-- The grants with a value entered at the cursor. -/
def grantEntered (s : State) (v : BitVec 64) : State :=
  s.setFt { s.ft with grants := Store.insert (s.get F.ftGrantCursorIndex) v s.ft.grants }

theorem exec_ftGrantEntryWrite (w : BitVec 64) : exec (.ftGrantEntryWrite w) s = .next
    (let v := w &&& 0x80003FFFFFFFFFFF
    if bits v 63 1 = 1 && grantMeets s v then s
    else ((grantEntered s v).tidyHints.touchKey (grantOwner s v)).touchKey (bits v 36 10)) := rfl

theorem touchKey_tidyHints_ft (a b : Nat) : ((s.tidyHints.touchKey a).touchKey b).ft = s.ft :=
  ((((Keeps.refl 67973 s).tidyHints rfl).touchKey a rfl).touchKey b rfl).same .ft rfl

theorem exec_ftGrantEntryWrite_enters {v : BitVec 64} (h : grantMeets s (v &&& 0x80003FFFFFFFFFFF) = false) :
    ∃ t, exec (.ftGrantEntryWrite v) s = .next t ∧
      Store.find? t.ft.grants (s.get F.ftGrantCursorIndex) = some (v &&& 0x80003FFFFFFFFFFF) := by
  refine ⟨_, exec_ftGrantEntryWrite v, ?_⟩
  dsimp only
  rw [h, Bool.and_false, if_neg Bool.false_ne_true, touchKey_tidyHints_ft]
  exact Store.find?_insert_same _ _ _

theorem exec_ftGrantEntryWrite_ignored {v : BitVec 64} (hvalid : bits (v &&& 0x80003FFFFFFFFFFF) 63 1 = 1)
    (h : grantMeets s (v &&& 0x80003FFFFFFFFFFF) = true) : exec (.ftGrantEntryWrite v) s = .next s := by
  rw [exec_ftGrantEntryWrite]
  dsimp only
  rw [h, Bool.and_true, decide_eq_true hvalid, if_pos rfl]

/-- Open bands that the other streams may have. -/
def otherBands (s : State) (k : Nat) : Nat :=
  (((List.range 8).filter (fun i => i != k)).map (fun i => s.get (F.ftStreamCfgBands i))).sum

theorem exec_ftStreamCfgWrite_of_allowed {k : Nat} {v : BitVec 32} (hk : k < 8) (hpos : v.toNat % 64 ≠ 0)
    (hmax : v.toNat % 64 ≤ 32) (hall : otherBands s k + v.toNat % 64 ≤ 64)
    (hsets : otherBands s k + v.toNat % 64 ≤ 4 * s.dieGroups) :
    exec (.ftStreamCfgWrite k v) s = .next ((s.set (F.ftStreamCfgBands k) (v.toNat % 64)).issueGroup k) := by
  change execFtStreamCfgWrite k v s = _
  unfold otherBands at hall hsets
  rw [execFtStreamCfgWrite, if_neg]
  simp [hk, hpos, hmax, hall, hsets]

theorem exec_ftStreamCfgWrite_takes {k : Nat} {v : BitVec 32} (hk : k < 8) (hpos : v.toNat % 64 ≠ 0)
    (hmax : v.toNat % 64 ≤ 32) (hall : otherBands s k + v.toNat % 64 ≤ 64)
    (hsets : otherBands s k + v.toNat % 64 ≤ 4 * s.dieGroups) :
    ∃ t, exec (.ftStreamCfgWrite k v) s = .next t ∧ t.get (F.ftStreamCfgBands k) = v.toNat % 64 := by
  refine ⟨_, exec_ftStreamCfgWrite_of_allowed hk hpos hmax hall hsets, ?_⟩
  rw [(ShownOnly.issueGroup _ k).get_eq (not_shown_ftStreamCfg hk), get_set_same _ _ (show 0 + 6 ≤ 64 by decide)]
  exact Nat.mod_mod _ _

end

/-- Settles O29, by what each command leaves of the registers and of the flash: a die that is lost, resumed or calibrated, a
read that ends, and the two register writes. -/
theorem flashDiesReadsAndCalibration : Obligations.FlashDiesReadsAndCalibration := by
  refine ⟨?offline, ?resume, ?calibrates, ?calibrated, ?read, ?granted, ?ignored, ?stream⟩
  case offline => exact fun _ _ _ => exec_nandDieOffline_lost
  case resume =>
    exact fun _ _ _ _ hx hidle => ⟨_, exec_programResume_of_idle hx hidle, suspended?_setSuspended_none⟩
  case calibrates => exact fun _ _ _ => exec_dieCalibration_of_due
  case calibrated => exact fun _ _ _ => exec_calibrationComplete_ends
  case read => exact fun _ _ _ _ _ _ _ _ _ => exec_nandPageReadComplete_ends
  case granted => exact fun _ _ => exec_ftGrantEntryWrite_enters
  case ignored => exact fun _ _ => exec_ftGrantEntryWrite_ignored
  case stream => exact fun _ _ _ => exec_ftStreamCfgWrite_takes

end Sys2Proof.Proofs.Flash

/-!
PROOFS. The flash: destage, program groups, filler pages, relocation, reclaim, erase and failures (O30).
-/
namespace Sys2Proof.Proofs.Flash
open Sys2Proof.Machine Sys2Proof.Machine.State

/-! ### Destage (R231, R233) -/

section
variable {s : State} {k : Nat} {x : Slot}

/-- The slot with its destage on its way. -/
def destaging (s : State) (x : Slot) : State :=
  { s with fm := { s.fm with
    slots := s.fm.slots.map (fun (y : Slot) => if y.idx = x.idx then { y with destaging := some x.version } else y) } }

theorem exec_destage_of_unmapped (hx : s.slot? k = some x) (hmay : s.mayDestage x = true) (hback : x.backing = .unmapped) :
    exec (.destage k) s = .next ((s.cTop 0x39 1).destage x none []) := by
  change execDestage k s = _
  simp only [execDestage, hx, State.startDestage, hmay, hback, Bool.not_true, Bool.false_eq_true, if_false]

theorem slot?_cTop (code n : Nat) : (s.cTop code n).slot? k = s.slot? k := by
  have hfm : (s.cTop code n).fm = s.fm := ((Keeps.refl 4 s).cTop code n rfl).same .fm rfl
  rw [State.slot?, State.slot?, hfm]

theorem slot?_destaging (hx : s.slot? k = some x) :
    (destaging s x).slot? k = some { x with destaging := some x.version } := by
  have hidx : x.idx = k := by simpa using List.find?_some hx
  have hsame : (fun (y : Slot) => decide (y.idx = k)) ∘ (fun (y : Slot) =>
      if y.idx = x.idx then { y with destaging := some x.version } else y) = fun y => decide (y.idx = k) := by
    funext y
    simp only [Function.comp_apply]
    split <;> rfl
  unfold State.slot? at hx
  simp only [State.slot?, destaging, List.find?_map, hsame, hx, Option.map_some, if_true]

theorem slot?_stagePage (kind : ProgKind) (page : FlashPage) : (s.stagePage kind page).slot? k = s.slot? k :=
  congrArg (fun l => l.find? (fun (x : Slot) => decide (x.idx = k))) (slots_issueGroup _ page.stream)

theorem slot?_destage (old : Option FlashPage) (lost : List Nat) (hx : s.slot? k = some x) :
    ((s.destage x old lost).slot? k).map (·.destaging) = some (some x.version) := by
  have hdest := slot?_destaging hx
  exact congrArg (Option.map (·.destaging)) ((slot?_stagePage _ _).trans hdest)

end

/-! ### A program group that completes (R233, R245) -/

section
variable {s : State} {n : Nat} {g : ProgGroup} {b : Band}

/-- Pages of a group that hold data of hosts, and pages that are no filler. -/
def hostPages (g : ProgGroup) : Nat :=
  (g.pages.filter (fun x => match x.kind with | .destage _ => true | .direct _ _ _ => true | _ => false)).length
def dataPages (g : ProgGroup) : Nat := (g.pages.filter (fun x => x.kind != .filler)).length

/-- The band's group has left its dies. -/
def groupTaken (s : State) (n : Nat) : State :=
  s.setFt { s.ft with groups := s.ft.groups.filter (fun x => x.band != n) }

/-- The pages of a group that has left its dies are programmed. -/
def groupProgrammed (s : State) (n : Nat) (g : ProgGroup) (b : Band) : State :=
  (g.pages.zipIdx).foldl (fun s x => programPage b g.row s x)
    (((groupTaken s n).putBand ((groupTaken s n).stampMembers b (s.nextRows b))).endSuspension b)

/-- The pages of the group in FT_HOST_PAGES and FT_PROG_PAGES. -/
def groupCounted (s : State) (g : ProgGroup) : State :=
  (s.count48 F.ftHostPagesCount 0x60028 (hostPages g)).count48 F.ftProgPagesCount 0x60030 (dataPages g)

/-- The program in the event counters of the stream and of the channels. -/
def programCounted (s : State) (g : ProgGroup) (b : Band) : State :=
  b.members.foldl (fun s m => s.cFch m.chan 0x91 1) (s.cFt 0x71 b.stream (dataPages g))

/-- The band closes with its last row. -/
def closedWhenFull (s : State) (n : Nat) (b : Band) : State :=
  if b.rows = s.rowsPerMember b.stream then s.setBand n (some { b with state := .closed, closedAt := s.nowDtb }) else s

theorem exec_programGroupComplete_of_running (hg : s.ft.groups.find? (fun g => g.band = n) = some g)
    (hb : s.band? n = some b) (hrun : s.bandSuspended b = false) (hspace : s.journalFull true = false) :
    ∃ b', exec (.programGroupComplete n) s = .next
      (closedWhenFull (programCounted (groupCounted (groupProgrammed s n g b) g) g b) n
        b').showFlash.eraseEmpty.showVictim.issueAll := by
  refine ⟨(groupTaken s n).stampMembers b (s.nextRows b), ?_⟩
  change execProgramGroupComplete n s = _
  simp only [execProgramGroupComplete, hg, hb, hrun, hspace, Bool.or_self, Bool.false_eq_true, if_false]
  rfl

theorem groupProgrammed_shownOnly : ShownOnly s (groupProgrammed s n g b) :=
  ShownOnly.trans (fun _ _ => rfl) (ShownOnly.foldl (fun s x => ShownOnly.programPage b g.row s x) _ _)

theorem programCounted_shownOnly : ShownOnly s (programCounted s g b) :=
  ShownOnly.of_keeps (Keeps.foldl ((Keeps.refl 4 s).cFt 0x71 b.stream (dataPages g) rfl)
    (fun _ m h => h.cFch m.chan 0x91 1 rfl) b.members) rfl

theorem closedWhenFull_shownOnly : ShownOnly s (closedWhenFull s n b) :=
  ShownOnly.ite (ShownOnly.setBand s n _) (ShownOnly.refl s)

theorem get_count48 (f h : Fld) (off x : Nat) : (s.count48 f off x).get h = (s.set f ((s.get f + x) % 2 ^ 48)).get h := by
  unfold State.count48
  extract_lets v u
  split
  · exact get_raise _ _ _ _ _ _ _
  · rfl

theorem get_groupCounted : (groupCounted s g).get F.ftHostPagesCount = (s.get F.ftHostPagesCount + hostPages g) % 2 ^ 48 := by
  rw [groupCounted, get_count48, get_set_other _ _ (.inl (by decide)), get_count48, get_set_same _ _ (by decide)]
  exact Nat.mod_mod _ _

theorem exec_programGroupComplete_counts (hg : s.ft.groups.find? (fun g => g.band = n) = some g)
    (hb : s.band? n = some b) (hrun : s.bandSuspended b = false) (hspace : s.journalFull true = false)
    (hroom : s.get F.ftHostPagesCount + g.pages.length < 2 ^ 48) :
    ∃ t, exec (.programGroupComplete n) s = .next t ∧
      t.get F.ftHostPagesCount = s.get F.ftHostPagesCount + hostPages g := by
  obtain ⟨b', hexec⟩ := exec_programGroupComplete_of_running hg hb hrun hspace
  refine ⟨_, hexec, ?_⟩
  have hreg : ¬ Shown F.ftHostPagesCount.reg := not_shown_ftHostPages
  have hafter : ∀ t : State, ShownOnly t
      (closedWhenFull (programCounted t g b) n b').showFlash.eraseEmpty.showVictim.issueAll := fun t =>
    ((((programCounted_shownOnly.trans closedWhenFull_shownOnly).trans (ShownOnly.showFlash _)).trans
      (ShownOnly.eraseEmpty _)).trans (ShownOnly.showVictim _)).trans (ShownOnly.issueAll _)
  have hle : hostPages g ≤ g.pages.length := List.length_filter_le _ _
  rw [(hafter _).get_eq hreg, get_groupCounted, groupProgrammed_shownOnly.get_eq hreg]
  exact Nat.mod_eq_of_lt (by omega)

end

/-! ### Filler pages (R245) -/

section
variable {s u : State} {k : Nat} {b : Band}

/-- A direct write of the stream has waited PadUs. -/
def padDue (s : State) (k : Nat) : Bool :=
  s.ft.staged.any (fun x => x.page.stream = k && match x.kind with
    | .direct _ _ since => since + max 1 (s.get F.ftCtlPadUs) * 100000 ≤ s.clk
    | _ => false)

theorem exec_padTimer_pads (hdue : padDue s k = true)
    (hworks : s.ftWorks = true) (hband : s.streamBand k = (u, some b)) :
    exec (.padTimer k) s = .next (State.issueGroup { u with ft := { u.ft with staged := (u.ft.staged ++
      List.replicate (u.groupPages b - (u.ft.staged.filter (fun x => x.page.stream = k)).length)
        { kind := .filler, page := { blankPage with stream := k }, dead := false }) } } k) := by
  have hrun : ¬ (!padDue s k || !s.ftWorks) = true := by
    rw [hdue, hworks]
    decide
  change execPadTimer k s = _
  unfold execPadTimer
  refine (congrArg Host.Outcome.next (if_neg hrun)).trans ?_
  rw [hband]
  rfl

end

/-! ### Relocation and reclaim (R248, R249, R252) -/

section
variable {s : State} {n v : Nat} {b : Band}

theorem exec_relocation_of_degraded (hb : s.band? n = some b) (hworks : s.ftWorks = true) (hdeg : b.degraded = true)
    (hclosed : b.state = .closed) (hidle : s.bandBusy n = false) :
    exec (.relocation n) s
      = .next (((s.queueReloc n).copyPages ((s.queueReloc n).validPages n) 6).eraseEmpty) := by
  change execRelocation n s = _
  simp [execRelocation, hb, hworks, hdeg, hclosed, hidle]

/-- GC_STATUS.Active is no part of what lets the flash work. -/
theorem ftWorks_put_active (a : Bool) : (s.put F.ftGcStatusActive a).ftWorks = s.ftWorks := by
  rw [State.ftWorks, State.ftWorks, get_put_other _ _ (.inl (by decide)), get_put_other _ _ (.inl (by decide))]

theorem exec_coppiceReclaim_of_victim (hlow : s.freeBelow s.gcStart = true) (hworks : s.ftWorks = true)
    (hv : s.ft.victim = some v) :
    exec .coppiceReclaim s
      = .next ((s.put F.ftGcStatusActive true).copyPages ((s.put F.ftGcStatusActive true).validPages v) 4) := by
  change execCoppiceReclaim s = _
  have hvict : (s.put F.ftGcStatusActive true).ft.victim = some v := hv
  simp only [execCoppiceReclaim, hlow, hworks, Bool.true_or, Bool.true_and, ftWorks_put_active, hvict, Bool.not_true,
    Bool.or_self, Bool.false_eq_true, if_false]

end

/-! ### Bands that are released (R249) -/

section
variable {s : State} {n : Nat} {b : Band}

theorem ft_foldl {α : Type} {f : State → α → State} (hf : ∀ s x, (f s x).ft = s.ft) (l : List α) (s : State) :
    (l.foldl f s).ft = s.ft := by
  induction l generalizing s with
  | nil => rfl
  | cons x l ih => exact (ih (f s x)).trans (hf s x)

theorem ft_markBad (s : State) (x code : Nat) : (s.markBad x code).ft = s.ft :=
  ((Keeps.refl 2437 s).markBad x code rfl).same .ft rfl

theorem pages_releaseBand : (s.releaseBand b).ft.pages = s.ft.pages.filter (fun x => x.2.band != b.num) := by
  unfold State.releaseBand
  extract_lets ft s1 s2 s3 ft' s4
  have h2 : s2.ft = s1.ft := ft_foldl (fun s x => ft_markBad s x 3) _ s1
  have h3 : s3.ft = (s2.endSuspension b).ft := ((Keeps.refl 2437 _).setBand b.num none rfl).same .ft rfl
  have h4 : s4.ft.pages = s3.ft.pages := by
    unfold s4
    split <;> rfl
  have hshow : s4.showFlash.showVictim.ft = s4.ft := (((Keeps.refl 5 s4).showFlash rfl).showVictim rfl).same .ft rfl
  calc s4.showFlash.showVictim.issueAll.ft.pages
      = s4.showFlash.showVictim.ft.pages := (Restaged.issueAll _).pages_eq
    _ = s4.ft.pages := congrArg FtState.pages hshow
    _ = s3.ft.pages := h4
    _ = (s2.endSuspension b).ft.pages := congrArg FtState.pages h3
    _ = s2.ft.pages := rfl
    _ = s1.ft.pages := congrArg FtState.pages h2

theorem pages_releaseBand_none : (s.releaseBand b).ft.pages.any (fun x => x.2.band = b.num) = false := by
  rw [pages_releaseBand]
  simp

/-- The erase counts on each member's channel. -/
def erasesCounted (s : State) (b : Band) : State :=
  b.members.foldl (fun s m => s.cFch m.chan 0x92 1) (s.count 608 640 0x72 0 1)

theorem exec_bandEraseComplete_of_erasing (hb : s.band? n = some b) (hstate : b.state = .erasing)
    (hrun : s.bandSuspended b = false)
    (hread : s.ft.reads.any (fun r => (s.memberAt? r.loc).any (fun x => x.1.num = n)) = false) :
    exec (.bandEraseComplete n) s = .next ((erasesCounted s b).releaseBand b) := by
  change execBandEraseComplete n s = _
  simp only [execBandEraseComplete, hb, hstate, hrun, hread, bne_self_eq_false, Bool.or_self, Bool.false_eq_true, if_false]
  rfl

theorem exec_bandEraseComplete_erases (hb : s.band? n = some b) (hstate : b.state = .erasing)
    (hrun : s.bandSuspended b = false)
    (hread : s.ft.reads.any (fun r => (s.memberAt? r.loc).any (fun x => x.1.num = n)) = false) :
    ∃ t, exec (.bandEraseComplete n) s = .next t ∧ t.ft.pages.any (fun x => x.2.band = n) = false := by
  have hnum : b.num = n := by simpa using List.find?_some hb
  refine ⟨_, exec_bandEraseComplete_of_erasing hb hstate hrun hread, ?_⟩
  rw [← hnum]
  exact pages_releaseBand_none

end

/-! ### Failures of programs and erases (R250, R251) -/

section
variable {s : State} {c k p : Nat} {b : Band} {m : Member}

/-- The block of a member in a plane. -/
def failedBlock (c k p : Nat) (m : Member) : Nat := blockNum c k (p % 4) (m.blocks.getD (p % 4) 0)

theorem exec_programFailure_of_busy (hb : s.fm.bands.find? (fun b => s.bandBusy b.num &&
      b.members.any (fun m => m.chan = c && m.die = k)) = some b)
    (hm : b.members.find? (fun m => m.chan = c && m.die = k) = some m) :
    exec (.programFailure c k p) s = .next (((((((s.failGroup b.num).markBad (failedBlock c k p m) 1).bump
      (F.ftChProgFailCountCount c)).endSuspension b).closeBroken b.num).showFlash).issueAll) := by
  change execProgramFailure c k p s = _
  simp only [execProgramFailure, hb, hm]
  rfl

theorem exec_programFailure_counts (hb : s.fm.bands.find? (fun b => s.bandBusy b.num &&
      b.members.any (fun m => m.chan = c && m.die = k)) = some b)
    (hm : b.members.find? (fun m => m.chan = c && m.die = k) = some m) :
    ∃ t, exec (.programFailure c k p) s = .next t ∧
      t.get (F.ftChProgFailCountCount c) = satInc 32 (s.get (F.ftChProgFailCountCount c)) := by
  have hreg : ¬ Shown (F.ftChProgFailCountCount c).reg := not_shown_ftChProgFailCount c
  refine ⟨_, exec_programFailure_of_busy hb hm, ?_⟩
  have hafter : ∀ t : State, ShownOnly t (((t.endSuspension b).closeBroken b.num).showFlash).issueAll := fun t =>
    (((ShownOnly.endSuspension t b).trans (ShownOnly.closeBroken _ _)).trans (ShownOnly.showFlash _)).trans
      (ShownOnly.issueAll _)
  have hbefore := (ShownOnly.failGroup s b.num).trans (ShownOnly.markBad _ (failedBlock c k p m) 1)
  rw [(hafter _).get_eq hreg, get_bump_same _ (show 0 + 32 ≤ 64 by decide), hbefore.get_eq hreg]
  rfl

theorem exec_eraseFailure_of_erasing (hb : s.fm.bands.find? (fun b => b.state = .erasing &&
      b.members.any (fun m => m.chan = c && m.die = k)) = some b)
    (hm : b.members.find? (fun m => m.chan = c && m.die = k) = some m)
    (hread : s.ft.reads.any (fun r => (s.memberAt? r.loc).any (fun x => x.1.num = b.num)) = false) :
    exec (.eraseFailure c k p) s = .next (((s.markBad (failedBlock c k p m) 2).bump
      (F.ftChEraseFailCountCount c)).releaseBand b) := by
  change execEraseFailure c k p s = _
  simp only [execEraseFailure, hb, hm, hread, Bool.false_eq_true, if_false]
  rfl

theorem exec_eraseFailure_counts (hb : s.fm.bands.find? (fun b => b.state = .erasing &&
      b.members.any (fun m => m.chan = c && m.die = k)) = some b)
    (hm : b.members.find? (fun m => m.chan = c && m.die = k) = some m)
    (hread : s.ft.reads.any (fun r => (s.memberAt? r.loc).any (fun x => x.1.num = b.num)) = false) :
    ∃ t, exec (.eraseFailure c k p) s = .next t ∧
      t.get (F.ftChEraseFailCountCount c) = satInc 32 (s.get (F.ftChEraseFailCountCount c)) := by
  have hreg : ¬ Shown (F.ftChEraseFailCountCount c).reg := not_shown_ftChEraseFailCount c
  refine ⟨_, exec_eraseFailure_of_erasing hb hm hread, ?_⟩
  rw [(ShownOnly.releaseBand _ b).get_eq hreg, get_bump_same _ (show 0 + 32 ≤ 64 by decide),
    (ShownOnly.markBad s _ 2).get_eq hreg]
  rfl

end

/-- Settles O30: the counts of pages and failures stand because what follows them writes only registers that bookkeeping
shows, and a released band's pages are gone because what follows only issues groups. -/
theorem flashProgramsReclaimAndFailures : Obligations.FlashProgramsReclaimAndFailures := by
  refine ⟨?destage, ?program, ?pad, ?relocation, ?reclaim, ?erase, ?programFailure, ?eraseFailure⟩
  case destage =>
    intro s k x hx hmay hback
    exact ⟨_, exec_destage_of_unmapped hx hmay hback, slot?_destage none [] ((slot?_cTop 0x39 1).trans hx)⟩
  case program => exact fun _ _ _ _ => exec_programGroupComplete_counts
  case pad => exact fun _ _ _ _ => exec_padTimer_pads
  case relocation => exact fun _ _ _ => exec_relocation_of_degraded
  case reclaim => exact fun _ _ => exec_coppiceReclaim_of_victim
  case erase => exact fun _ _ _ => exec_bandEraseComplete_erases
  case programFailure => exact fun _ _ _ _ _ _ _ => exec_programFailure_counts
  case eraseFailure => exact fun _ _ _ _ _ _ _ => exec_eraseFailure_counts

end Sys2Proof.Proofs.Flash

/-!
PROOFS. Topiary: what a journal record leaves of the metadata, heat rankings and halvings, moves that are wanted and started
(O32).
-/
namespace Sys2Proof.Proofs.Topiary
open Sys2Proof.Machine Sys2Proof.Machine.State Sys2Proof.Proofs.Flash

/-! ### What a journal record leaves (R293) -/

section
variable (s : State) (b : JBody)

theorem md_journal : (s.journal b).md = b.apply s.md := by
  unfold State.journal
  exact (((Keeps.refl 4 _).cPer 0x32 1 rfl).cPer 0x33 1 rfl).same .md rfl

theorem top_setPlot (p : Plot) : (s.setPlot p).top = s.top := ((Keeps.refl 2437 s).setPlot p rfl).same .top rfl

theorem per_cPer (code n : Nat) : (s.cPer code n).per = s.per := ((Keeps.refl 4 s).cPer code n rfl).same .per rfl

theorem capturing_journal : (s.journal b).per.capturing = s.per.capturing := by
  unfold State.journal
  simp only [per_cPer, State.showMeta, set_per, put_per]

end

/-! ### Heat rankings (R261, R264) -/

section
variable {s : State}

theorem ranked_setMeasured (s : State) (i c : Nat) : (s.setMeasured i c).top.ranked = s.top.ranked := by
  unfold State.setMeasured
  extract_lets u s1 p v
  split
  · rfl
  · rw [top_setPlot]

theorem ranked_foldl_setMeasured (n : Nat) (l : List (Nat × Nat)) (s : State) :
    (l.foldl (fun s x => s.setMeasured x.1 (rankClass x.2 n)) s).top.ranked = s.top.ranked := by
  induction l generalizing s with
  | nil => rfl
  | cons x l ih => exact (ih _).trans (ranked_setMeasured s _ _)

theorem exec_heatRanking_notes_time (h : s.top.ranked + 10000000000 ≤ s.clk) :
    ∃ t, exec .heatRanking s = .next t ∧ t.top.ranked = s.clk := by
  refine ⟨_, congrArg Host.Outcome.next (if_neg (Nat.not_lt.mpr h)), ?_⟩
  exact ranked_foldl_setMeasured _ _ { s with top := { s.top with ranked := s.clk } }

end

/-! ### Moves that are wanted (R266, R267, R272) -/

section
variable {s : State} {i : Nat} {x : Nat × Nat}

theorem md_showMoves (s : State) : s.showMoves.md = s.md := ((Keeps.refl 1 s).showMoves rfl).same .md rfl

theorem md_setMig (s : State) (k : Nat) (m : Option Migration) :
    (s.setMig k m).md = (JBody.migrateCursor k m).apply s.md :=
  (md_showMoves _).trans (md_journal s _)

theorem migrations_wantMove (hm : s.md.migrations = []) (hspan : (s.plot i).span.isSome = true) (reason : Nat) :
    (s.wantMove i reason).md.migrations.map (fun m => (m.plot, m.reason, m.state)) = [(i, reason, .pending)] := by
  have hnew : s.newDecision.md.migrations = [] := by rw [State.newDecision, md_journal]; exact hm
  have hnone : (s.plot i).span.isNone = false := Option.isNone_eq_false_iff.mpr hspan
  simp [State.wantMove, hm, hnone, md_setMig, JBody.apply, hnew, putBy]

theorem top_wantMove (s : State) (i reason : Nat) : (s.wantMove i reason).top = s.top :=
  ((Keeps.refl 2437 s).wantMove i reason rfl).same .top rfl

theorem exec_readOnlyPlotMigration_wants (hro : (s.plot i).readOnly = true)
    (hdie : (List.range s.part.dies).any s.dieHasSpares = true) :
    exec (.readOnlyPlotMigration i) s = .next (s.wantMove i 3) := by
  change execReadOnlyPlotMigration i s = _
  simp only [execReadOnlyPlotMigration, hro, hdie, Bool.and_self, if_true]

/-- The loads are noted and the balance has moved a plot now (R266). -/
def balanced (s : State) : State := { s.noteLoads with top := { s.noteLoads.top with lastBalance := s.clk } }

/-- Noting the loads changes nothing that the choice of a plot looks at. -/
theorem hottest_noteLoads (s : State) : s.noteLoads.hottest = s.hottest := rfl

theorem plot_noteLoads (s : State) : s.noteLoads.plot = s.plot := rfl

theorem plotDie?_noteLoads (s : State) : s.noteLoads.plotDie? = s.plotDie? := rfl

theorem exec_balanceMove_of_over
    (hover : s.noteLoads.top.overSince.find?
      (fun x => x.2 + max 1 (s.get F.topHeatCfgBalanceMinutes) * 60000000000 ≤ s.clk) = some x)
    (hon : s.on F.topCtlBalanceEnable = true) (hlast : s.top.lastBalance = 0) (hhot : s.hottest = [i])
    (hdie : s.plotDie? i = some x.1) (hpin : (s.plot i).pinned = false) (hm : s.md.migrations = [])
    (hgroup : (s.plot i).group = none) : exec .balanceMove s = .next ((balanced s).wantMove i 6) := by
  have hover' : s.noteLoads.top.overSince.find?
      (fun x => x.2 + max 1 (s.noteLoads.get F.topHeatCfgBalanceMinutes) * 60000000000 ≤ s.noteLoads.clk) = some x := hover
  have hon' : s.noteLoads.on F.topCtlBalanceEnable = true := hon
  have hlast' : s.noteLoads.top.lastBalance = 0 := hlast
  have hm' : s.noteLoads.md.migrations = [] := hm
  change execBalanceMove s = _
  simp only [execBalanceMove, hover', hon', hlast', hm', hottest_noteLoads, plot_noteLoads, plotDie?_noteLoads, hhot, hpin,
    hgroup, List.find?_cons, hdie, List.any_nil, Bool.not_true, Bool.not_false, bne_self_eq_false, Bool.false_and,
    Bool.or_self, Bool.and_self, Bool.false_eq_true, decide_true, if_false]
  rfl

theorem exec_balanceMove_moves
    (hover : s.noteLoads.top.overSince.find?
      (fun x => x.2 + max 1 (s.get F.topHeatCfgBalanceMinutes) * 60000000000 ≤ s.clk) = some x)
    (hon : s.on F.topCtlBalanceEnable = true) (hlast : s.top.lastBalance = 0) (hhot : s.hottest = [i])
    (hdie : s.plotDie? i = some x.1) (hpin : (s.plot i).pinned = false) (hm : s.md.migrations = [])
    (hgroup : (s.plot i).group = none) :
    ∃ t, exec .balanceMove s = .next t ∧ t.top.lastBalance = s.clk ∧
      t.md.migrations.map (fun m => (m.plot, m.reason, m.state)) = [(i, 6, .pending)] := by
  have hspan : (s.plot i).span.isSome = true := by
    have hdie' : ((s.plot i).span.map spanDie).isSome = true := Option.isSome_of_eq_some hdie
    rwa [Option.isSome_map] at hdie'
  refine ⟨_, exec_balanceMove_of_over hover hon hlast hhot hdie hpin hm hgroup, ?_, ?_⟩
  · rw [top_wantMove]
    rfl
  · exact migrations_wantMove (s := balanced s) hm hspan 6

end

/-! ### Migrations that start, and go on (R263, R267 to R270) -/

section
variable {s u : State} {i : Nat} {m : Migration} {x : List Nat × Nat} {e : Span}

theorem exec_migrationStart_of_withdrawn (hp : s.pendingMoves = [m]) (hj : s.journalFull false = false)
    (hw : s.moveWithdrawn m = true) : exec .migrationStart s = .next (s.setMig m.plot none) := by
  change execMigrationStart s = _
  simp only [execMigrationStart, hp, hj, hw, Bool.false_eq_true, if_false, if_true]

/-- A move at work: it copies from its first page to the span that was made for it. -/
def copying (m : Migration) (e : Span) : Migration :=
  { m with state := .copying, cursor := 0, journalled := 0, dst := some e }

theorem exec_migrationStart_of_span (hp : s.pendingMoves = [m]) (hj : s.journalFull false = false)
    (hw : s.moveWithdrawn m = false) (hmax : s.maxMigrations ≠ 0)
    (hnone : s.md.migrations.any (fun x => decide (x.state = MigState.copying) || decide (x.state = MigState.paused)) = false)
    (hper : s.get F.perStatusState ≠ 4) (hx : s.moveSpan? m = some x) (hu : s.makeSpan x = (u, some e)) :
    exec .migrationStart s = .next (((u.setMig m.plot (some (copying m e))).pauseMigrations).copyOn (copying m e)) := by
  have hidle : s.md.migrations.filter
      (fun x => decide (x.state = MigState.copying) || decide (x.state = MigState.paused)) = [] :=
    List.filter_eq_nil_iff.mpr fun y hy => by simpa using List.any_eq_false.mp hnone y hy
  have hroom : ¬ s.maxMigrations ≤ 0 := by omega
  change execMigrationStart s = _
  simp only [execMigrationStart, hp, hj, hw, hidle, hper, hx, hu, hroom, List.length_nil, decide_false, Bool.or_self,
    Bool.false_eq_true, if_false]
  rfl

theorem exec_migrationPageCopy_of_idle (hm : s.migration? i = some m) (hstate : m.state = .copying)
    (hj : s.journalFull false = false)
    (hr : s.mt.rewrites.find? (fun (x : Rewrite) => decide (x.kind = RewriteKind.migration i)) = none) :
    exec (.migrationPageCopy i) s = .next (s.copyOn m) := by
  change execMigrationPageCopy i s = _
  simp only [execMigrationPageCopy, hm, hstate, hj, hr, bne_self_eq_false, Bool.or_self, Bool.false_eq_true, if_false]

end

end Sys2Proof.Proofs.Topiary

/-!
PROOFS. Topiary: the count of migrations, and what a migration's end leaves of it (O32).
-/
namespace Sys2Proof.Proofs.Topiary
open Sys2Proof.Machine Sys2Proof.Machine.State Sys2Proof.Proofs.Flash

/-! ### Operations that leave TOP_MIGRATE_COUNT -/

theorem not_shown_topMigrateCount : ¬ Shown R.topMigrateCount := not_shown_of_lt (by decide) (by decide)

/-- The register that counts migrations holds in `t` what it holds in `s`. -/
def SameCount (s t : State) : Prop := t.reg R.topMigrateCount = s.reg R.topMigrateCount

namespace SameCount

section
variable {s t u : State} {f : Fld}

theorem refl (s : State) : SameCount s s := rfl

theorem trans (h : SameCount s t) (g : SameCount t u) : SameCount s u := Eq.trans g h

theorem of_shownOnly (h : ShownOnly s t) : SameCount s t := h _ not_shown_topMigrateCount

theorem get_eq (h : SameCount s t) : t.get F.topMigrateCountCount = s.get F.topMigrateCountCount :=
  congrArg (fun v => bits v 0 32) h

theorem ite {c : Prop} [Decidable c] (ht : SameCount s t) (hu : SameCount s u) : SameCount s (if c then t else u) := by
  split
  · exact ht
  · exact hu

theorem foldl {α : Type} {g : State → α → State} (hg : ∀ s x, SameCount s (g s x)) (l : List α) (s : State) :
    SameCount s (l.foldl g s) := MemoryWindow.reg_foldl hg l s

theorem setReg (h : SameCount s t) {a : Nat} (v : Word) (ha : a < R.topMigrateCount) : SameCount s (t.setReg a v) :=
  (reg_setReg_other t v (Nat.ne_of_gt ha)).trans h

theorem set (h : SameCount s t) (x : Nat) (hf : f.reg < R.topMigrateCount := by decide) : SameCount s (t.set f x) :=
  h.setReg _ hf

theorem put (h : SameCount s t) (b : Bool) (hf : f.reg < R.topMigrateCount := by decide) : SameCount s (t.put f b) :=
  h.setReg _ hf

end

theorem finish (s : State) (r h status result : Nat) : SameCount s (s.finish r h status result) :=
  MemoryWindow.reg_of_keeps ((Keeps.refl 266240 s).finish r h status result rfl) rfl _

theorem setPlot (s : State) (p : Plot) : SameCount s (s.setPlot p) := of_shownOnly (ShownOnly.journal s _)

theorem setGroup (s : State) (g : Nat) (v : Group) : SameCount s (s.setGroup g v) := of_shownOnly (ShownOnly.journal s _)

theorem newDecision (s : State) : SameCount s s.newDecision := of_shownOnly (ShownOnly.journal s _)

theorem setMig (s : State) (k : Nat) (m : Option Migration) : SameCount s (s.setMig k m) := by
  unfold State.setMig State.showMoves
  exact of_shownOnly ((((ShownOnly.journal s (.migrateCursor k m)).set _).set _).put _)

/-! ### Retirement (R217) -/

theorem retireEnd (s : State) (status : Nat) : SameCount s (s.retireEnd status) := by
  unfold State.retireEnd
  extract_lets s1 s2
  have h1 : SameCount s s1 := (((refl s).set _).put _).set _
  have h2 : SameCount s s2 := (h1.set _).put _
  exact h2.trans (foldl (fun s d => finish s _ _ _ _) _ s2)

theorem drainStep (s : State) : SameCount s s.drainStep := by
  unfold State.drainStep
  refine ite ?_ (refl s)
  split
  · exact ite (retireEnd _ _) ((refl s).set _)
  · exact refl s

/-! ### Range operations (R142 to R144) -/

/-- The eight slots of range operations stand below TOP_MIGRATE_COUNT. -/
theorem lcRangeOp_lt {i : Nat} (hi : i < 8) :
    R.lcRangeOpAddr i < R.topMigrateCount ∧ R.lcRangeOpLen i < R.topMigrateCount ∧ R.lcRangeOpCtl i < R.topMigrateCount ∧
      R.lcRangeOpStat i < R.topMigrateCount ∧ R.lcRangeOpCut i < R.topMigrateCount := by
  unfold R.lcRangeOpAddr R.lcRangeOpLen R.lcRangeOpCtl R.lcRangeOpStat R.lcRangeOpCut R.topMigrateCount
  omega

theorem acceptRange (s : State) {slot : Nat} (hslot : slot < 8) (op first sectors dom owner ring handle : Nat) :
    SameCount s (s.acceptRange slot op first sectors dom owner ring handle) := by
  obtain ⟨haddr, hlen, hctl, hstat, hcut⟩ := lcRangeOp_lt hslot
  unfold State.acceptRange
  extract_lets walk o o' lc s1 s2 s3 s4 s5
  have h2 : SameCount s s2 := SameCount.set (SameCount.set (SameCount.set (refl s) _ haddr) _ hlen) _ hctl
  have h3 : SameCount s s3 := SameCount.set (SameCount.set (SameCount.put h2 _ hctl) _ hctl) _ hctl
  have h4 : SameCount s s4 := SameCount.put (SameCount.put (SameCount.setReg h3 _ hstat) _ hstat) _ hstat
  have h5 : SameCount s s5 := SameCount.set (SameCount.put h4 _ hstat) _ hcut
  exact SameCount.put h5 _ (show R.lcStatus < R.topMigrateCount by decide)

theorem startRange (s : State) (w : RangeWait) : SameCount s (s.startRange w) := by
  unfold State.startRange
  split
  next i hfree =>
    split at hfree
    · exact acceptRange s (List.mem_range.mp (List.mem_of_find?_eq_some hfree)) _ _ _ _ _ _ _
    · cases hfree
  · exact refl s

/-! ### Hazel ownership (R279, R280) -/

theorem setHazel (s : State) (g : Nat) (v : Option (Nat × Nat × Nat × Nat)) : SameCount s (s.setHazel g v) := rfl

theorem raise (s : State) (src sev code dom : Nat) (data : List (Nat × Nat)) :
    SameCount s (s.raise src sev code dom data) := rfl

theorem hazelEnd (s : State) (g ring handle status : Nat) : SameCount s (s.hazelEnd g ring handle status) :=
  ((setHazel s g none).trans (setGroup _ g _)).trans (finish _ _ _ _ _)

theorem hazelStep (s : State) (g : Nat) : SameCount s (s.hazelStep g) := by
  unfold State.hazelStep
  split
  · extract_lets d s1 w
    exact ite (refl s) (ite (hazelEnd s _ _ _ _) ((setHazel s g _).trans (foldl (fun s i => startRange s _) _ s1)))
  · exact refl s

theorem hazelGrant (s : State) (g : Nat) : SameCount s (s.hazelGrant g) := by
  unfold State.hazelGrant
  split
  · extract_lets s1 v s2
    have h1 : SameCount s s1 := foldl (fun s i => setPlot s _) _ s
    have h2 : SameCount s s2 := (h1.trans (setGroup s1 g _)).trans (newDecision _)
    exact ite (refl s) (((h2.trans (setHazel s2 g none)).trans (raise _ _ _ _ _ _)).trans (finish _ _ _ _ _))
  · exact refl s

end SameCount

/-! ### A migration whose old place is released (R270) -/

section
variable {s : State} {i : Nat} {m : Migration}

/-- The migration is forgotten and its old span is free. -/
def released (s : State) (i : Nat) (m : Migration) : State :=
  match m.old with
  | some e => ((s.setMig i none).releaseSpan e).spanFreed
  | none => s.setMig i none

/-- The migration is counted and reported, and a retirement that waited for it goes on (R217). -/
def countedMove (s : State) (i : Nat) (m : Migration) : State :=
  (((released s i m).bump F.topMigrateCountCount).raise 144 sevInfo 0 noDom [d4 i, d4 m.reason, d8 m.decision]).drainStep

theorem sameCount_released : SameCount s (released s i m) := by
  have hset := SameCount.setMig s i none
  unfold released
  split
  · exact hset.trans (.of_shownOnly ((ShownOnly.releaseSpan _ _).trans (ShownOnly.spanFreed _)))
  · exact hset

theorem get_countedMove :
    (countedMove s i m).get F.topMigrateCountCount = satInc 32 (s.get F.topMigrateCountCount) := by
  unfold countedMove
  rw [(SameCount.drainStep _).get_eq, get_raise, get_bump_same _ (show 0 + 32 ≤ 64 by decide), sameCount_released.get_eq]
  rfl

/-- A grant that waited for the plot goes on (R280), which leaves the count. -/
theorem exec_migrationRelease_of_releasing
    (hm : s.md.migrations.find? (fun m => m.plot = i && decide (m.state = MigState.releasing)) = some m)
    (hj : s.journalFull false = false) :
    ∃ t, exec (.migrationRelease i) s = .next t ∧ SameCount (countedMove s i m) t := by
  change ∃ t, execMigrationRelease i s = .next t ∧ _
  simp only [execMigrationRelease, hm, hj, Bool.false_eq_true, if_false]
  refine ⟨_, rfl, ?_⟩
  split
  next g _ => exact (SameCount.hazelStep (countedMove s i m) g).trans (SameCount.hazelGrant _ g)
  · exact SameCount.refl (countedMove s i m)

theorem exec_migrationRelease_counts
    (hm : s.md.migrations.find? (fun m => m.plot = i && decide (m.state = MigState.releasing)) = some m)
    (hj : s.journalFull false = false) :
    ∃ t, exec (.migrationRelease i) s = .next t ∧
      t.get F.topMigrateCountCount = satInc 32 (s.get F.topMigrateCountCount) := by
  obtain ⟨t, ht, hsame⟩ := exec_migrationRelease_of_releasing hm hj
  exact ⟨t, ht, hsame.get_eq.trans get_countedMove⟩

end

end Sys2Proof.Proofs.Topiary

/-!
PROOFS. Topiary: slots that are due, and captured pages (O32).
-/
namespace Sys2Proof.Proofs.Topiary
open Sys2Proof.Machine Sys2Proof.Machine.State Sys2Proof.Proofs.Flash

/-! ### Slots that are due (R274, R275) -/

theorem exec_slotDestageDecision_of_due {s : State} {x : Slot} (hdue : s.fm.slots.filter s.slotDue = [x])
    (hfull : (s.startDestage x).showFull.on F.topStatusFcacheFull = false) :
    exec .slotDestageDecision s = .next (s.startDestage x).showFull := by
  change execSlotDestageDecision s = _
  simp only [execSlotDestageDecision, hdue, List.foldl_cons, List.foldl_nil, hfull, Bool.not_false, if_true]

/-! ### Entries that a record keeps -/

section
variable {α : Type} {p q : α → Bool} {v : α} {l : List α}

/-- An entry that has what the new one has is in the list whether it is replaced or appended. -/
theorem any_putBy_new (hv : q v = true) : (putBy p (some v) l).any q = true := by
  simp only [putBy]
  split
  next hp =>
    obtain ⟨y, hy, hpy⟩ := List.any_eq_true.mp hp
    exact List.any_eq_true.mpr ⟨v, List.mem_map.mpr ⟨y, hy, if_pos hpy⟩, hv⟩
  · exact List.any_eq_true.mpr ⟨v, by simp, hv⟩

theorem any_putBy_of_any (hq : ∀ y, p y = true → q y = true → q v = true) (hl : l.any q = true) :
    (putBy p (some v) l).any q = true := by
  obtain ⟨y, hy, hqy⟩ := List.any_eq_true.mp hl
  by_cases hp : p y = true
  · exact any_putBy_new (hq y hp hqy)
  · simp only [putBy]
    split
    · exact List.any_eq_true.mpr ⟨y, List.mem_map.mpr ⟨y, hy, if_neg hp⟩, hqy⟩
    · exact List.any_eq_true.mpr ⟨y, List.mem_append_left _ hy, hqy⟩

end

/-! ### Captures stay in the index (R277, R278) -/

/-- The index holds the page for the snapshot of the epoch. -/
def Indexed (m : Meta) (e p : Nat) : Prop := m.captures.any (fun c => c.epoch = e && c.page = p && c.whole) = true

section
variable {m : Meta} {e p : Nat} {c : Capture}

theorem indexed_snapIndex_new (he : c.epoch = e) (hp : c.page = p) (hw : c.whole = true) :
    Indexed ((JBody.snapIndex c).apply m) e p :=
  any_putBy_new (by simp [he, hp, hw])

theorem Indexed.snapIndex (h : Indexed m e p) (c : Capture) : Indexed ((JBody.snapIndex c).apply m) e p := by
  refine any_putBy_of_any (fun y hy hq => ?_) h
  simp only [Bool.and_eq_true, decide_eq_true_eq] at hy hq ⊢
  obtain ⟨⟨⟨hepoch, hpage⟩, hwhole⟩, -⟩ := hy
  obtain ⟨⟨hye, hyp⟩, hyw⟩ := hq
  exact ⟨⟨hepoch.symm.trans hye, hpage.symm.trans hyp⟩, hwhole.symm.trans hyw⟩

end

/-- `t` waits for the captures that `s` waits for, and its index has every page that the index of `s` has. -/
structure KeepsCaptures (s t : State) : Prop where
  capturing : t.per.capturing = s.per.capturing
  indexed : ∀ {e p : Nat}, Indexed s.md e p → Indexed t.md e p

namespace KeepsCaptures

section
variable {s t u : State}

theorem refl (s : State) : KeepsCaptures s s := ⟨rfl, id⟩

theorem trans (h : KeepsCaptures s t) (g : KeepsCaptures t u) : KeepsCaptures s u :=
  ⟨g.capturing.trans h.capturing, fun hs => g.indexed (h.indexed hs)⟩

/-- What leaves the metadata and the persistence state as they are. -/
theorem of_eq (hmd : t.md = s.md) (hper : t.per = s.per) : KeepsCaptures s t :=
  ⟨congrArg PerState.capturing hper, fun h => hmd.symm ▸ h⟩

theorem ite {c : Prop} [Decidable c] (ht : KeepsCaptures s t) (hu : KeepsCaptures s u) :
    KeepsCaptures s (if c then t else u) := by
  split
  · exact ht
  · exact hu

theorem foldl {α : Type} {g : State → α → State} (hg : ∀ s x, KeepsCaptures s (g s x)) (l : List α) (s : State) :
    KeepsCaptures s (l.foldl g s) := by
  induction l generalizing s with
  | nil => exact refl s
  | cons x l ih => exact (hg s x).trans (ih _)

end

theorem journal (s : State) (b : JBody) (hb : ∀ {m e p}, Indexed m e p → Indexed (b.apply m) e p) :
    KeepsCaptures s (s.journal b) :=
  ⟨capturing_journal s b, fun h => (md_journal s b).symm ▸ hb h⟩

theorem snapIndex (s : State) (c : Capture) : KeepsCaptures s (s.journal (.snapIndex c)) :=
  journal s _ (fun h => h.snapIndex c)

theorem set (s : State) (f : Fld) (x : Nat) : KeepsCaptures s (s.set f x) := of_eq (set_md s f x) (set_per s f x)

theorem put (s : State) (f : Fld) (b : Bool) : KeepsCaptures s (s.put f b) := set s f _

theorem raise (s : State) (src sev code dom : Nat) (data : List (Nat × Nat)) :
    KeepsCaptures s (s.raise src sev code dom data) := of_eq rfl rfl

theorem setFt (s : State) (ft : FtState) : KeepsCaptures s (s.setFt ft) := of_eq rfl rfl

theorem setBand (s : State) (n : Nat) (b : Option Band) : KeepsCaptures s (s.setBand n b) := journal s (.bandSet n b) id

theorem showFlash (s : State) : KeepsCaptures s s.showFlash :=
  have hkeeps : Keeps 5 s s.showFlash := (Keeps.refl 5 s).showFlash rfl
  of_eq (hkeeps.same .md rfl) (hkeeps.same .per rfl)

theorem showStaged (s : State) : KeepsCaptures s s.showStaged := (set s _ _).trans (set _ _ _)

/-! ### Program groups -/

theorem openBand (s : State) (stream : Nat) : KeepsCaptures s (s.openBand stream) := by
  unfold State.openBand
  extract_lets all
  split
  · exact refl s
  · split
    · exact refl s
    · exact (setBand s _ _).trans (showFlash _)

theorem streamBand (s : State) (stream : Nat) : KeepsCaptures s (s.streamBand stream).1 := by
  unfold State.streamBand
  split
  · exact refl s
  · exact openBand s stream

theorem issueGroup (s : State) (stream : Nat) : KeepsCaptures s (s.issueGroup stream) := by
  have hband := streamBand s stream
  unfold State.issueGroup
  extract_lets mine
  split
  · exact refl s
  · split
    next hu =>
      rw [hu] at hband
      exact hband
    next hu =>
      rw [hu] at hband
      exact ite hband (hband.trans (setFt _ _))

theorem stagePage (s : State) (kind : ProgKind) (page : FlashPage) : KeepsCaptures s (s.stagePage kind page) :=
  (setFt s _).trans (issueGroup _ page.stream)

/-! ### Captures on their way to the flash -/

theorem newVersion (s : State) : KeepsCaptures s s.newVersion.2 := of_eq rfl rfl

theorem drainStaging (s : State) : KeepsCaptures s s.drainStaging := by
  unfold State.drainStaging
  split
  · exact refl s
  · split
    · exact snapIndex s _
    · exact refl s

theorem snapIncomplete (s : State) (x : Snapshot) (cause : Nat) : KeepsCaptures s (s.snapIncomplete x cause) :=
  (journal s (.snapState { x with state := .incomplete }) id).trans (raise _ _ _ _ _ _)

theorem spaceFull (s : State) (epoch : Nat) : KeepsCaptures s (s.spaceFull epoch) := by
  unfold State.spaceFull
  split
  · exact refl s
  next x _ => exact ((put s _ _).trans (raise _ _ _ _ _ _)).trans (snapIncomplete _ x 0)

theorem packSnapshot (s : State) : KeepsCaptures s s.packSnapshot := by
  unfold State.packSnapshot
  extract_lets l
  split
  · exact refl s
  · split
    · exact spaceFull s _
    next u _ =>
      extract_lets s1
      have h1 : KeepsCaptures s s1 := foldl (fun s c => snapIndex s _) _ s
      exact h1.trans ((newVersion s1).trans (stagePage _ _ _))

end KeepsCaptures

/-! ### A page that is captured (R277, R320) -/

section
variable {s : State} {p : Nat} {w : MediaWrite} {x : Snapshot}

/-- What the media holds of a page. -/
def pageContent (s : State) (p : Nat) : List LineData :=
  if s.pageWritten p then ((s.locate p).map s.mediaLines).getD [] else []

/-- The page in HBM3E staging for the snapshot; the write that waits for it may proceed. -/
def pageCaptured (s : State) (p : Nat) (x : Snapshot) : State :=
  (State.cPer { s with per := { s.per with capturing := s.per.capturing.filter (fun q => q != p) } } 0x34 1).journal
    (.snapIndex { epoch := x.epoch, page := p, whole := true, lines := pageContent s p, place := .staging })

theorem exec_pageCaptureComplete_of_room (hc : s.per.capturing = [p]) (hj : s.journalFull false = false)
    (hwrites : s.mt.writes = [w]) (hpage : w.page = some p) (hphase : w.phase = .waiting) (hx : s.captureFor? w = some x)
    (hroom : s.staged < s.stagingPages) :
    exec (.pageCaptureComplete p) s =
      .next ((((pageCaptured s p x).put F.topStatusStagingFull false).drainStaging).packSnapshot).showStaged := by
  have hmember : s.per.capturing.contains p = true := by simp [hc]
  have hfits : ¬ s.stagingPages ≤ s.staged := Nat.not_le.mpr hroom
  change execPageCaptureComplete p s = _
  simp only [execPageCaptureComplete, hmember, hj, hwrites, List.findSome?_cons, hpage, hphase, hx, hfits, decide_true,
    decide_false, Bool.not_true, Bool.or_self, Bool.and_self, Bool.false_and, Bool.false_eq_true, if_false, if_true]
  rfl

theorem capturing_pageCaptured (hc : s.per.capturing = [p]) : (pageCaptured s p x).per.capturing = [] := by
  have hper := fun t : State => congrArg PerState.capturing (((Keeps.refl 4 t).cPer 0x34 1 rfl).same .per rfl)
  calc (pageCaptured s p x).per.capturing
      = s.per.capturing.filter (fun q => q != p) := (capturing_journal _ _).trans (hper _)
    _ = [] := by simp [hc]

theorem indexed_pageCaptured : Indexed (pageCaptured s p x).md x.epoch p := by
  rw [pageCaptured, md_journal]
  exact indexed_snapIndex_new rfl rfl rfl

theorem exec_pageCaptureComplete_indexes (hc : s.per.capturing = [p]) (hj : s.journalFull false = false)
    (hwrites : s.mt.writes = [w]) (hpage : w.page = some p) (hphase : w.phase = .waiting) (hx : s.captureFor? w = some x)
    (hroom : s.staged < s.stagingPages) :
    ∃ t, exec (.pageCaptureComplete p) s = .next t ∧ t.per.capturing = [] ∧ Indexed t.md x.epoch p := by
  have hafter := fun t : State => (((KeepsCaptures.put t F.topStatusStagingFull false).trans (.drainStaging _)).trans
    (.packSnapshot _)).trans (.showStaged _)
  exact ⟨_, exec_pageCaptureComplete_of_room hc hj hwrites hpage hphase hx hroom,
    (hafter _).capturing.trans (capturing_pageCaptured hc), (hafter _).indexed indexed_pageCaptured⟩

end

/-- Settles O32: a migration's count stands because what follows it writes other registers, and a captured page stays in the
index because what follows it only moves captures on. -/
theorem heatAndMigrations : Obligations.HeatAndMigrations := by
  refine ⟨?ranking, ?halving, ?balance, ?readOnly, ?withdrawn, ?start, ?copy, ?release, ?destage, ?capture⟩
  case ranking => exact fun _ => exec_heatRanking_notes_time
  case halving => exact fun _ h => congrArg Host.Outcome.next (if_neg (Nat.not_lt.mpr h))
  case balance => exact fun _ _ _ => exec_balanceMove_moves
  case readOnly => exact fun _ _ hro hdie hm hspan =>
    ⟨_, exec_readOnlyPlotMigration_wants hro hdie, migrations_wantMove hm hspan 3⟩
  case withdrawn => exact fun _ _ => exec_migrationStart_of_withdrawn
  case start => exact fun _ _ _ _ _ => exec_migrationStart_of_span
  case copy => exact fun _ _ _ => exec_migrationPageCopy_of_idle
  case release => exact fun _ _ _ hm hj _ => exec_migrationRelease_counts hm hj
  case destage => exact fun _ _ => exec_slotDestageDecision_of_due
  case capture => exact fun _ _ _ _ => exec_pageCaptureComplete_indexes

end Sys2Proof.Proofs.Topiary

/-!
PROOFS. Persistence: what journal records leave as they are, checkpoints, and Quickset errors (O33).
-/
namespace Sys2Proof.Proofs.Persistence
open Sys2Proof.Machine Sys2Proof.Machine.State

/-- The state with another persistence state. -/
def withPer (s : State) (x : PerState) : State := { s with per := x }

@[simp] theorem get_withPer (s : State) (x : PerState) (f : Fld) : (withPer s x).get f = s.get f := rfl

@[simp] theorem on_withPer (s : State) (x : PerState) (f : Fld) : (withPer s x).on f = s.on f := rfl

@[simp] theorem withPer_per (s : State) (x : PerState) : (withPer s x).per = x := rfl

@[simp] theorem withPer_rg (s : State) (x : PerState) : (withPer s x).rg = s.rg := rfl

/-- Another persistence state leaves the rest. -/
theorem keeps_withPer {m : Nat} {s t : State} (h : Keeps m s t) (x : PerState) (hm : Keeps.sub 2048 m) :
    Keeps m s (withPer t x) := h.upd (k := 2048) rfl rfl rfl

/-! ### What journal records leave (R293) -/

/-- The registers that a journal record writes. -/
def journalRegs : List Nat :=
  [R.perJournalSeq, R.perEpoch, R.perEpochCut, R.winStatus, R.winLwlStatus, R.topDecisionSeq, R.mtExcStatus,
    R.perJournalStatus]

/-- `t` follows from `s` by journal records. -/
structure Journalled (s t : State) : Prop where
  per : ∃ l, t.per = { s.per with journal := l }
  reg : ∀ a ∉ journalRegs, t.reg a = s.reg a
  keeps : Keeps 2437 s t

namespace Journalled

section
variable {s t u : State} {f : Fld}

theorem refl (s : State) : Journalled s s := ⟨⟨s.per.journal, rfl⟩, fun _ _ => rfl, .refl _ s⟩

theorem trans (h : Journalled s t) (g : Journalled t u) : Journalled s u := by
  obtain ⟨l, hl⟩ := h.per
  obtain ⟨m, hm⟩ := g.per
  exact ⟨⟨m, by rw [hm, hl]⟩, fun a ha => (g.reg a ha).trans (h.reg a ha), h.keeps.trans g.keeps⟩

theorem foldl {α : Type} {g : State → α → State} (hg : ∀ s x, Journalled s (g s x)) (l : List α) (s : State) :
    Journalled s (l.foldl g s) := by
  induction l generalizing s with
  | nil => exact refl s
  | cons x l ih => exact (hg s x).trans (ih _)

/-- Setting a register of the list changes none outside it. -/
theorem reg_set_listed {a : Nat} (ha : a ∉ journalRegs) (s : State) (x : Nat) (hf : f.reg ∈ journalRegs) :
    (s.set f x).reg a = s.reg a :=
  reg_set_other s x (fun e => ha (e ▸ hf))

theorem reg_showMeta {a : Nat} (ha : a ∉ journalRegs) (s : State) : s.showMeta.reg a = s.reg a := by
  unfold State.showMeta State.put
  simp (disch := decide) only [reg_set_listed ha]

theorem journal (s : State) (b : JBody) : Journalled s (s.journal b) := by
  refine ⟨⟨(s.journal b).per.journal, ?per⟩, fun a ha => ?reg, (Keeps.refl 2437 s).journal b rfl⟩
  case per =>
    unfold State.journal
    simp only [Topiary.per_cPer, State.showMeta, set_per, put_per]
  case reg =>
    unfold State.journal
    dsimp only
    rw [MemoryWindow.reg_cPer, MemoryWindow.reg_cPer, reg_showMeta ha, reg_set_listed ha _ _ (by decide)]
    rfl

theorem get_eq (h : Journalled s t) (hf : f.reg ∉ journalRegs := by decide) : t.get f = s.get f := by
  rw [State.get, State.get, h.reg f.reg hf]

end

end Journalled

/-! ### Records that become durable (R293) -/

theorem per_showMeta (s : State) : s.showMeta.per = s.per := ((Keeps.refl 1 s).showMeta rfl).same .per rfl

/-- The record is on both copies where its sequence number is among those written. -/
def sealIn (l : List Nat) (r : JRecord) : JRecord := if l.contains r.seq then { r with durable := true } else r

theorem seq_sealIn (l : List Nat) (r : JRecord) : (sealIn l r).seq = r.seq := by
  unfold sealIn
  split <;> rfl

/-- The sequence numbers of the records that wait. -/
def waitingSeqs (l : List JRecord) : List Nat := (l.filter (fun r => !r.durable)).map (·.seq)

theorem durable_sealIn_waiting {l : List JRecord} {r : JRecord} (hr : r ∈ l) :
    (sealIn (waitingSeqs l) r).durable = true := by
  unfold sealIn
  split
  next => rfl
  next hnot =>
    by_contra hd
    have hwaits : r.seq ∈ waitingSeqs l :=
      List.mem_map_of_mem (List.mem_filter.mpr ⟨hr, by simpa using hd⟩)
    exact hnot (List.contains_iff_mem.mpr hwaits)

section
variable {s : State} {n : Nat}

theorem exec_journalCopyWriteComplete_whole (h : s.per.journal.length ≤ n) :
    exec (.journalCopyWriteComplete n) s = .next (State.showMeta { s with per := { s.per with
      journal := s.per.journal.map (sealIn (waitingSeqs s.per.journal)) } }) := by
  have htake : (s.per.journal.filter (fun r => !r.durable)).take n = s.per.journal.filter (fun r => !r.durable) :=
    List.take_of_length_le ((List.length_filter_le _ _).trans h)
  change execJournalCopyWriteComplete n s = _
  simp only [execJournalCopyWriteComplete, htake]
  rfl

theorem exec_journalCopyWriteComplete_seals (h : s.per.journal.length ≤ n) :
    ∃ t, exec (.journalCopyWriteComplete n) s = .next t ∧ t.per.journal.all (·.durable) = true ∧
      t.per.journal.map (·.seq) = s.per.journal.map (·.seq) := by
  refine ⟨_, exec_journalCopyWriteComplete_whole h, ?_, ?_⟩
  · rw [per_showMeta, List.all_map, List.all_eq_true]
    exact fun r hr => durable_sealIn_waiting hr
  · rw [per_showMeta, List.map_map]
    exact List.map_congr_left fun r _ => seq_sealIn _ r

end

/-! ### Checkpoints that start (R297 to R299) -/

section
variable {s : State} {k : Bool} {f : Fld}

@[simp] theorem ckpt_setCkpt_same (s : State) (k : Bool) (c : Ckpt) : (s.setCkpt k c).ckpt k = c := by
  cases k <;> rfl

@[simp] theorem get_setCkpt (s : State) (k : Bool) (c : Ckpt) (f : Fld) : (s.setCkpt k c).get f = s.get f := rfl

/-- The checkpoint's first record. -/
def ckptBegun (s : State) (k : Bool) : State := s.journal (.checkpointStart k (s.get F.perJournalSeqNext))

theorem startCkpt_of_idle (hidle : (s.ckpt k).phase = .idle) (hup : s.perUp = true) :
    s.startCkpt k = (ckptBegun s k).setCkpt k { s.ckpt k with
      phase := .imaging (s.get F.perJournalSeqNext), image := (ckptBegun s k).imageNow, last := (ckptBegun s k).clk,
      bytes := 0 } := by
  simp only [State.startCkpt, hidle, hup, bne_self_eq_false, Bool.not_true, Bool.or_self, Bool.false_eq_true, if_false]
  rfl

theorem ckpt_startCkpt (hidle : (s.ckpt k).phase = .idle) (hup : s.perUp = true) :
    ((s.startCkpt k).ckpt k).phase = .imaging (s.get F.perJournalSeqNext) ∧ ((s.startCkpt k).ckpt k).last = s.clk := by
  rw [startCkpt_of_idle hidle hup, ckpt_setCkpt_same]
  exact ⟨rfl, (Journalled.journal s _).keeps.clk⟩

theorem get_startCkpt (hf : f.reg ∉ journalRegs := by decide) : (s.startCkpt k).get f = s.get f := by
  unfold State.startCkpt
  dsimp only
  split
  · rfl
  · rw [get_setCkpt, (Journalled.journal s _).get_eq hf]

theorem perUp_startCkpt : (s.startCkpt k).perUp = s.perUp := by
  rw [State.perUp, State.perUp, get_startCkpt]

theorem ftReads_startCkpt : (s.startCkpt k).ftReads = s.ftReads := by
  rw [State.ftReads, State.ftReads, get_startCkpt]

/-- Either checkpoint leaves what the other has come to, and those that wait for both. -/
theorem per_startCkpt : ((s.startCkpt k).per = { s.per with
    journal := (s.startCkpt k).per.journal, window := (s.startCkpt k).per.window, ftier := (s.startCkpt k).per.ftier }) ∧
    (s.startCkpt k).ckpt (!k) = s.ckpt (!k) := by
  unfold State.startCkpt
  dsimp only
  split
  · exact ⟨rfl, rfl⟩
  · obtain ⟨l, hl⟩ := (Journalled.journal s (.checkpointStart k (s.get F.perJournalSeqNext))).per
    cases k <;> simp [State.setCkpt, State.ckpt, hl]

theorem tryCkpt_of_may (h : s.ckptMay k = true) : s.tryCkpt k = s.startCkpt k := if_pos h

theorem perUp_of_ckptMay (h : s.ckptMay k = true) : s.perUp = true := (Bool.and_eq_true_iff.mp h).1

theorem exec_checkpointTimer_of_due (hdue : s.ckptDue k = true) (hmay : s.ckptMay k = true) :
    exec (.checkpointTimer k) s = .next (s.startCkpt k) :=
  congrArg Host.Outcome.next ((if_pos hdue).trans (tryCkpt_of_may hmay))

/-- The F-tier's checkpoint may run beside the window's. -/
theorem tryCkpt_both (hup : s.perUp = true) (hft : s.ftReads = true) :
    (s.tryCkpt false).tryCkpt true = (s.startCkpt false).startCkpt true := by
  have hwindow : s.ckptMay false = true := by simp [State.ckptMay, hup]
  have hftier : (s.startCkpt false).ckptMay true = true := by
    simp [State.ckptMay, perUp_startCkpt, ftReads_startCkpt, hup, hft]
  rw [tryCkpt_of_may hwindow, tryCkpt_of_may hftier]

theorem exec_checkpointnow_starts (hup : s.perUp = true) (hft : s.ftReads = true) (hw : s.per.window.phase = .idle)
    (hf : s.per.ftier.phase = .idle) :
    ∃ t, exec .checkpointnow s = .next t ∧ t.per.window.phase = .imaging (s.get F.perJournalSeqNext) ∧
      t.per.ftier.phase ≠ .idle := by
  obtain ⟨hwindow, -⟩ := ckpt_startCkpt (k := false) hw hup
  obtain ⟨-, hother⟩ := per_startCkpt (s := s) (k := false)
  have hidle : ((s.startCkpt false).ckpt true).phase = .idle := (congrArg Ckpt.phase hother).trans hf
  obtain ⟨hftier, -⟩ := ckpt_startCkpt hidle (perUp_startCkpt.trans hup)
  obtain ⟨-, hkept⟩ := per_startCkpt (s := s.startCkpt false) (k := true)
  refine ⟨_, congrArg Host.Outcome.next (tryCkpt_both hup hft), (congrArg Ckpt.phase hkept).trans hwindow, ?_⟩
  exact fun hnone => CkptPhase.noConfusion (hftier.symm.trans hnone)

end

/-! ### Checkpoints that end or fail (R299 to R301) -/

section
variable {s t u : State} {k : Bool} {n q : Nat}

theorem exec_checkpointImageWritten_ends (hp : (s.ckpt k).phase = .imaging n) (hup : s.perUp = true) :
    ∃ t, exec (.checkpointImageWritten k) s = .next t ∧
      (t.ckpt k).phase = .ending n (s.get F.perJournalSeqNext) := by
  change ∃ t, execCheckpointImageWritten k s = .next t ∧ _
  simp only [execCheckpointImageWritten, hp, hup, Bool.not_true, Bool.false_eq_true, if_false]
  exact ⟨_, rfl, by rw [ckpt_setCkpt_same]⟩

/-- A checkpoint whose root is that of record `n`, and the event that says so. -/
structure CkptEnded (k : Bool) (n : Nat) (t : State) : Prop where
  idle : (t.ckpt k).phase = .idle
  root : (t.ckpt k).root.map (·.s) = some n
  event : t.lastEvent = some (117, sevInfo, noDom)

theorem CkptEnded.of_eq (h : CkptEnded k n t) (hc : u.ckpt k = t.ckpt k) (ho : u.obs = t.obs) : CkptEnded k n u := by
  refine ⟨hc ▸ h.idle, hc ▸ h.root, ?_⟩
  rw [State.lastEvent, ho]
  exact h.event

theorem ckpt_eq_of_per (h : u.per = t.per) (k : Bool) : u.ckpt k = t.ckpt k := by
  rw [State.ckpt, State.ckpt, h]

/-- What leaves the persistence state and the events. -/
theorem CkptEnded.of_keeps {m : Nat} (h : CkptEnded k n t) (hk : Keeps m t u) (hper : m.testBit 11 = false)
    (hobs : m.testBit 2 = false) : CkptEnded k n u :=
  h.of_eq (ckpt_eq_of_per (hk.same .per hper) k) (hk.same .obs hobs)

/-- The first record that recovery still needs: that of the root before. -/
def keptFrom (s : State) (k : Bool) (n : Nat) : Nat := ((s.ckpt k).root.map (·.s)).getD n

/-- The new root, with the journal space before the previous one free. -/
def rooted (s : State) (k : Bool) (n : Nat) : State :=
  let root : Root := { s := n, image := (s.ckpt k).image, time := s.nowDtb }
  let u := s.setCkpt k { s.ckpt k with phase := .idle, root := some root, kept := keptFrom s k n }
  withPer u { u.per with journal := u.per.journal.filter (fun r => r.ftier != k || keptFrom s k n ≤ r.seq) }

/-- The time is recorded, and the checkpoint shown and reported. -/
def reported (s : State) (k : Bool) (n last : Nat) : State :=
  let u := (s.recordStamp.showMeta).set (if k then F.perCkptStatusFtierTime else F.perCkptStatusWindowTime) s.nowSec
  u.raise 117 sevInfo 0 noDom [d4 (ckptKind k), d8 n, d8 (u.clk - last)]

/-- A window checkpoint holds the window's size, and ends the read-only state that the lack of one began. -/
def sizeKept (s : State) (k : Bool) : State :=
  if k then s else (withPer s { s.per with sizeRecorded := s.winPlots, sizeCleared := false }).leaveReadOnly 3

/-- What waited for both checkpoints ends with them. -/
def waitersEnd (s : State) : State :=
  if s.per.window.phase = .idle && s.per.ftier.phase = .idle then
    s.per.ckptWait.foldl (fun s x => s.finish x.1 x.2 stOk 0)
      ((withPer s { s.per with ckptWait := [] }).put F.perStatusJournalSingle false)
  else s

theorem finishCkpt_eq (s : State) (k : Bool) (n : Nat) :
    s.finishCkpt k n = waitersEnd (sizeKept (reported (rooted s k n) k n (s.ckpt k).last) k) := rfl

theorem reported_rooted_ends (s : State) (k : Bool) (n last : Nat) : CkptEnded k n (reported (rooted s k n) k n last) := by
  have hper : (reported (rooted s k n) k n last).per = (rooted s k n).per :=
    (((((Keeps.refl 7 (rooted s k n)).recordStamp rfl).showMeta rfl).set _ _ rfl).raise _ _ _ _ _ rfl).same .per rfl
  have hc : (reported (rooted s k n) k n last).ckpt k = (rooted s k n).ckpt k := ckpt_eq_of_per hper k
  refine ⟨?idle, ?root, TimeBase.lastEvent_raise _ _ _ _ _ _⟩
  case idle =>
    rw [hc]
    cases k <;> rfl
  case root =>
    rw [hc]
    cases k <;> rfl

theorem CkptEnded.sizeKept (h : CkptEnded k n t) : CkptEnded k n (sizeKept t k) := by
  cases k with
  | true => exact h
  | false =>
    have hnoted : CkptEnded false n (withPer t { t.per with sizeRecorded := t.winPlots, sizeCleared := false }) :=
      h.of_eq rfl rfl
    exact hnoted.of_keeps ((Keeps.refl 1 _).leaveReadOnly 3 rfl) rfl rfl

theorem CkptEnded.waitersEnd (h : CkptEnded k n t) : CkptEnded k n (waitersEnd t) := by
  have hnone : CkptEnded k n ((withPer t { t.per with ckptWait := [] }).put F.perStatusJournalSingle false) :=
    h.of_eq rfl rfl
  unfold Persistence.waitersEnd
  split
  · exact hnone.of_keeps ((Keeps.refl 266240 _).foldl (fun _ _ ht => ht.finish _ _ _ _ rfl) _) rfl rfl
  · exact h

theorem finishCkpt_ends (s : State) (k : Bool) (n : Nat) : CkptEnded k n (s.finishCkpt k n) := by
  rw [finishCkpt_eq]
  exact (reported_rooted_ends s k n _).sizeKept.waitersEnd

theorem exec_checkpointEndDurable_of_durable (hp : (s.ckpt k).phase = .ending n q) (hup : s.perUp = true)
    (hd : s.per.journal.any (fun r => r.seq = q && !r.durable) = false) :
    exec (.checkpointEndDurable k) s = .next (s.finishCkpt k n) := by
  change execCheckpointEndDurable k s = _
  simp only [execCheckpointEndDurable, hp, hup, hd, Bool.not_true, Bool.or_self, Bool.false_eq_true, if_false]

theorem exec_checkpointFailure_of_imaging (hp : s.per.window.phase = .imaging n) :
    exec .checkpointFailure s = .next (s.failWindowCkpt 0) := by
  change execCheckpointFailure s = _
  simp only [execCheckpointFailure, State.ckptLosesPart, hp]

end

/-! ### Quickset entries that cannot be read (R291) -/

section
variable {s : State} {line : Nat}

theorem qs_qsFree (s : State) (line : Nat) : (s.qsFree line).qs = s.qs.filter (fun e => e.line != line) :=
  ((Keeps.refl 1048585 _).creditFreed rfl).same .qs rfl

@[simp] theorem lastEvent_raiseAt (s : State) (src sev code dom : Nat) (data : List (Nat × Nat)) (o : Option Nat) :
    (s.raiseAt src sev code dom data o).lastEvent = some (src, sev, dom) := by
  simp [State.lastEvent, State.raiseAt]

theorem exec_quicksetEntryError_frees {e : QsEntry} (he : s.qs? line = some e) :
    ∃ t, exec (.quicksetEntryError line) s = .next t ∧ t.qs.any (fun e => e.line = line) = false ∧
      t.lastEvent = some (126, sevError, noDom) := by
  change ∃ t, execQuicksetEntryError line s = .next t ∧ _
  simp only [execQuicksetEntryError, he]
  refine ⟨_, rfl, ?_, lastEvent_raiseAt _ _ _ _ _ _ _⟩
  rw [raiseAt_qs, qs_qsFree]
  simp

end

/-- Settles O33, by the life of a checkpoint: what follows its last record leaves its root and raises no event. -/
theorem journalsCheckpointsAndQuicksetErrors : Obligations.JournalsCheckpointsAndQuicksetErrors := by
  refine ⟨?copies, ?timer, ?now, ?image, ?durable, ?failure, ?quickset⟩
  case copies => exact fun _ _ => exec_journalCopyWriteComplete_seals
  case timer =>
    exact fun _ _ hdue hmay hidle =>
      ⟨_, exec_checkpointTimer_of_due hdue hmay, ckpt_startCkpt hidle (perUp_of_ckptMay hmay)⟩
  case now => exact fun _ => exec_checkpointnow_starts
  case image => exact fun _ _ _ => exec_checkpointImageWritten_ends
  case durable =>
    intro s k n q hp hup hd
    obtain ⟨hidle, hroot, hevent⟩ := finishCkpt_ends s k n
    exact ⟨_, exec_checkpointEndDurable_of_durable hp hup hd, hidle, hroot, hevent⟩
  case failure => exact fun _ _ => exec_checkpointFailure_of_imaging
  case quickset => exact fun _ _ _ => exec_quicksetEntryError_frees

end Sys2Proof.Proofs.Persistence

/-!
PROOFS. Persistence: the power-fail flush, recovery, the check rebuild and snapshots that are deleted (O34).
-/
namespace Sys2Proof.Proofs.Persistence
open Sys2Proof.Machine Sys2Proof.Machine.State

/-! ### A flush that starts (R302) -/

section
variable {s : State} {k : Nat}

@[simp] theorem lastEvent_set (f : Fld) (x : Nat) : (s.set f x).lastEvent = s.lastEvent := rfl

/-- The state with another power state. -/
def withPw (s : State) (x : PwState) : State := { s with pw := x }

@[simp] theorem get_withPw (x : PwState) (f : Fld) : (withPw s x).get f = s.get f := rfl

@[simp] theorem withPw_rg (x : PwState) : (withPw s x).rg = s.rg := rfl

/-- The supervisor has left On for a trigger. -/
def leftOn (s : State) (k : Nat) : State :=
  let u := (s.set F.pwrStatusState 4).set F.pwrStatusLastTrigger k
  withPw u { u.pw with stopAt := u.clk, l2At := none, cold := 0 }

theorem get_leftOn_perStatusState : (leftOn s k).get F.perStatusState = s.get F.perStatusState := by
  rw [leftOn, get_withPw, get_set_other _ _ (by decide), get_set_other _ _ (by decide)]

theorem get_leftOn_pwrStatusState : (leftOn s k).get F.pwrStatusState = 4 := by
  rw [leftOn, get_withPw, get_set_other _ _ (by decide), get_set_same _ _ (by decide)]
  rfl

theorem get_leftOn_pwrStatusLastTrigger (hk : k < 16) : (leftOn s k).get F.pwrStatusLastTrigger = k := by
  rw [leftOn, get_withPw, get_set_same _ _ (by decide)]
  exact Nat.mod_eq_of_lt hk

/-- The flush has begun: during recovery only its last steps run. -/
def flushBegun (s : State) (k : Nat) : State :=
  let u := s.set F.perStatusState 4
  (withPer u { u.per with flushStep := if s.get F.perStatusState = 0 then 6 else 1, trigger := k, flushStart := u.clk,
                          flushBytes := 0, skipped := [], overtaken := [] }).raise 112 sevNotice 0 noDom [d4 k]

theorem beginFlush_eq : s.beginFlush k = if 4 ≤ s.get F.perStatusState then s else flushBegun s k := rfl

theorem startFlush_eq : s.startFlush k = if s.get F.pwrStatusState != 3 then s
    else if (leftOn s k).get F.perStatusState = 4 then
      withPer (leftOn s k) { (leftOn s k).per with trigger := k }
    else (leftOn s k).beginFlush k := rfl

theorem startFlush_of_on (hon : s.get F.pwrStatusState = 3) (hst : s.get F.perStatusState < 4) :
    s.startFlush k = flushBegun (leftOn s k) k := by
  have hstay : ¬ (s.get F.pwrStatusState != 3) = true := by simp [hon]
  rw [startFlush_eq, if_neg hstay, get_leftOn_perStatusState, if_neg (Nat.ne_of_lt hst), beginFlush_eq,
    get_leftOn_perStatusState, if_neg (Nat.not_le.mpr hst)]

/-- What a flush that software starts has set by its first step. -/
structure FlushStarted (s t : State) : Prop where
  power : t.get F.pwrStatusState = 4
  trigger : t.get F.pwrStatusLastTrigger = 4
  status : t.get F.perStatusState = 4
  step : t.per.flushStep = if s.get F.perStatusState = 0 then 6 else 1
  rings : t.rg = s.rg
  event : t.lastEvent = some (112, sevNotice, noDom)

theorem flushStarted_flushBegun : FlushStarted s (flushBegun (leftOn s 4) 4) where
  power := by
    rw [flushBegun, get_raise, get_withPer, get_set_other _ _ (by decide), get_leftOn_pwrStatusState]
  trigger := by
    rw [flushBegun, get_raise, get_withPer, get_set_other _ _ (by decide), get_leftOn_pwrStatusLastTrigger (by decide)]
  status := by
    rw [flushBegun, get_raise, get_withPer, get_set_same _ _ (by decide)]
    rfl
  step := by
    rw [flushBegun, raise_per, withPer_per, get_leftOn_perStatusState]
  rings := by rw [flushBegun, raise_rg, withPer_rg, set_rg, leftOn, withPw_rg, set_rg, set_rg]
  event := by rw [flushBegun, TimeBase.lastEvent_raise]

theorem startFlush_starts (hon : s.get F.pwrStatusState = 3) (hst : s.get F.perStatusState < 4) :
    FlushStarted s (s.startFlush 4) := by
  rw [startFlush_of_on hon hst]
  exact flushStarted_flushBegun

end

/-! ### The steps of a flush (R303 to R307) -/

section
variable {s : State}

/-- The work of step `n` is done, and counted in PER_FLUSH_LAST. -/
def flushStepped (s : State) (n : Nat) : State :=
  let u := s.flushWork n
  ((withPer u { u.per with flushStep := n }).set F.perFlushLastTrigger u.per.trigger).set F.perFlushLastStepReached n

theorem exec_flushStepComplete_of_flushing (hst : s.get F.perStatusState = 4) (hcold : s.pw.cold = 0) :
    exec .flushStepComplete s = .next (flushStepped s (s.per.flushStep + 1)) := by
  change execFlushStepComplete s = _
  simp only [execFlushStepComplete, hst, hcold, bne_self_eq_false, Bool.false_and, Bool.or_self, Bool.false_eq_true,
    if_false]
  rfl

theorem flushStepped_reached {n : Nat} (h : n ≤ 8) :
    (flushStepped s n).per.flushStep = n ∧ (flushStepped s n).get F.perFlushLastStepReached = n :=
  ⟨rfl, (get_set_same _ n (by decide)).trans (Nat.mod_eq_of_lt (show n < 16 by omega))⟩

/-- The last step waits for the links in L2, which leaves the registers. -/
theorem flushStepped_flushed : (flushStepped s 8).get F.perStatusState = 5 := by
  have hwork : (s.flushWork 8).get F.perStatusState = 5 := by
    have hreg := MemoryWindow.reg_of_keeps ((Keeps.refl 1703936 (s.set F.perStatusState 5)).pmL2 rfl) rfl F.perStatusState.reg
    exact (congrArg (fun v => bits v 0 3) hreg).trans (get_set_same s 5 (by decide))
  rw [flushStepped, get_set_other _ _ (by decide), get_set_other _ _ (by decide), get_withPer, hwork]

end

/-! ### Recovery (R312 to R314) -/

section
variable {s : State} {bad : List Nat}

/-- The end of a recovery phase is reported. -/
def phaseReported (s : State) (bad : List Nat) : State :=
  (s.phaseWork bad (s.get F.perRecoveryPhase)).raise 120 sevInfo 0 noDom
    [d4 (s.get F.perRecoveryPhase), d8 (s.clk - s.per.recoverStart)]

theorem exec_recoveryPhaseComplete_of_recovering (hp : s.get F.perRecoveryPhase ≠ 0) (hst : s.get F.perStatusState < 4) :
    exec (.recoveryPhaseComplete bad) s = .next (((phaseReported s bad).set F.perRecoveryPhase
      (if s.get F.perRecoveryPhase = 8 || (phaseReported s bad).get F.perStatusState = 3 then 0
        else s.get F.perRecoveryPhase + 1)).set F.perRecoveryPosition 0) := by
  have hgo : (decide (s.get F.perRecoveryPhase = 0) || decide (4 ≤ s.get F.perStatusState)) = false := by simp [hp, hst]
  change execRecoveryPhaseComplete bad s = _
  simp only [execRecoveryPhaseComplete, hgo, Bool.false_eq_true, if_false]
  rfl

theorem exec_recoveryPhaseComplete_reports (hp : s.get F.perRecoveryPhase ≠ 0) (hst : s.get F.perStatusState < 4) :
    ∃ t, exec (.recoveryPhaseComplete bad) s = .next t ∧ t.lastEvent = some (120, sevInfo, noDom) ∧
      t.get F.perRecoveryPosition = 0 := by
  refine ⟨_, exec_recoveryPhaseComplete_of_recovering hp hst, ?event, get_set_same _ 0 (by decide)⟩
  rw [lastEvent_set, lastEvent_set, phaseReported, TimeBase.lastEvent_raise]

theorem exec_recoveryPhaseComplete_last (hp : s.get F.perRecoveryPhase = 8) (hst : s.get F.perStatusState < 4) :
    ∃ t, exec (.recoveryPhaseComplete bad) s = .next t ∧ t.get F.perRecoveryPhase = 0 := by
  refine ⟨_, exec_recoveryPhaseComplete_of_recovering (by rw [hp]; decide) hst, ?_⟩
  rw [get_set_other _ _ (by decide), get_set_same _ _ (by decide), hp]
  rfl

theorem exec_recoveryBoundExpiry_of_late (hst : s.get F.perStatusState = 0) (hp : s.get F.perRecoveryPhase ≠ 0)
    (hwin : s.get F.winStatusWindowState = 0) : exec .recoveryBoundExpiry s = .next (s.raise 118 sevError 0 noDom
      [d4 (ckptKind false), d4 (s.get F.perRecoveryPhase)]) :=
  congrArg Host.Outcome.next (if_pos (by simp [hst, hp, hwin]))

end

/-! ### The check rebuild (R316) -/

section
variable {s t : State} {loc : Nat} {bad : List Nat} {decoded : Bool}

/-- The pages that wait for the check rebuild are the same. -/
def SameRebuild (s t : State) : Prop := t.per.rebuild = s.per.rebuild

theorem SameRebuild.of_keeps {m : Nat} (h : Keeps m s t) (hm : m.testBit 11 = false) : SameRebuild s t :=
  congrArg PerState.rebuild (h.same .per hm)

theorem exec_checkRebuildPage_leaves (hl : s.per.rebuild.head? = some loc) (hup : s.perUp = true) :
    ∃ t, exec (.checkRebuildPage loc bad decoded) s = .next t ∧ t.per.rebuild = s.per.rebuild.tail := by
  change ∃ t, execCheckRebuildPage loc bad decoded s = .next t ∧ _
  simp only [execCheckRebuildPage, hl, hup, bne_self_eq_false, Bool.not_true, Bool.or_self, Bool.false_eq_true, if_false,
    List.drop_one]
  refine ⟨_, rfl, ?_⟩
  refine Eq.trans (SameRebuild.of_keeps ((((Keeps.refl 69 _).tileChecked _ rfl).showRebuild rfl).rebuildEnd rfl) rfl) ?_
  split
  · rfl
  · exact SameRebuild.of_keeps (((Keeps.refl 68 _).foldl (fun _ _ ht => (ht.putMedia _ _ rfl).raiseAt _ _ _ _ _ _ rfl) _).setSlot
      _ _ rfl) rfl

end

end Sys2Proof.Proofs.Persistence

/-!
PROOFS. Persistence: snapshots that are deleted, and the flush, recovery and deletion together (O34).
-/
namespace Sys2Proof.Proofs.Persistence
open Sys2Proof.Machine Sys2Proof.Machine.State

/-! ### Captures that leave the index (R321, R323) -/

section
variable {s : State} {m : Meta} {x : Snapshot} {c z : Capture} {k e : Nat}

/-- The last snapshot before `x` that reads a capture of it. -/
def heir (s : State) (x : Snapshot) (c : Capture) : Option Nat :=
  (s.md.snaps.filter (fun y => y.state = .active && y.epoch < x.epoch
    && !s.md.captures.any (fun z => z.page = c.page && z.whole = c.whole && y.epoch ≤ z.epoch && z.epoch < x.epoch
      && (z.whole || z.lines.map (·.idx) = c.lines.map (·.idx))))).foldl
    (fun (m : Option Nat) y => some (max (m.getD 0) y.epoch)) none

/-- The latest epoch of several snapshots is that of one of them, or the one known before. -/
theorem latest_lt {b : Nat} (l : List Snapshot) (hl : ∀ y ∈ l, y.epoch < b) (m : Option Nat) (hm : ∀ e, m = some e → e < b) :
    ∀ e, l.foldl (fun (m : Option Nat) (y : Snapshot) => some (max (m.getD 0) y.epoch)) m = some e → e < b := by
  induction l generalizing m with
  | nil => exact hm
  | cons y l ih =>
    refine ih (fun z hz => hl z (List.mem_cons_of_mem y hz)) _ fun e he => ?_
    have hy : y.epoch < b := hl y List.mem_cons_self
    have hold : m.getD 0 < b := by
      cases m with
      | none => exact Nat.zero_lt_of_lt hy
      | some a => exact hm a rfl
    cases he
    exact Nat.max_lt.mpr ⟨hold, hy⟩

/-- A snapshot that takes over a capture is an earlier one. -/
theorem heir_lt (h : heir s x c = some e) : e < x.epoch := by
  refine latest_lt _ (fun y hy => ?_) none (fun _ hn => by cases hn) e h
  have hp := (List.mem_filter.mp hy).2
  simp only [Bool.and_eq_true, decide_eq_true_eq] at hp
  exact hp.1.2

/-- A capture leaves the index, or stays there for an earlier snapshot. -/
def passOn (g : Capture → Option Nat) (s : State) (c : Capture) : State :=
  match g c with
  | some e => (s.journal (.snapDrop c)).journal (.snapIndex { c with epoch := e })
  | none => s.journal (.snapDrop c)

theorem not_mem_snapDrop_same : c ∉ ((JBody.snapDrop c).apply m).captures := by
  simp [JBody.apply]

theorem not_mem_snapDrop (h : c ∉ m.captures) (z : Capture) : c ∉ ((JBody.snapDrop z).apply m).captures :=
  fun hc => h (List.mem_of_mem_filter hc)

theorem not_mem_snapIndex (h : c ∉ m.captures) (hz : c ≠ z) : c ∉ ((JBody.snapIndex z).apply m).captures := by
  intro hc
  simp only [JBody.apply, putBy] at hc
  split at hc
  · obtain ⟨y, hy, hyc⟩ := List.mem_map.mp hc
    split at hyc
    · exact hz hyc.symm
    · exact h (hyc ▸ hy)
  · rcases List.mem_append.mp hc with hold | hnew
    · exact h hold
    · exact hz (List.mem_singleton.mp hnew)

theorem not_mem_snapState (h : c ∉ m.captures) (x : Snapshot) : c ∉ ((JBody.snapState x).apply m).captures := by
  intro hc
  simp only [JBody.apply] at hc
  split at hc
  · exact h (List.mem_of_mem_filter hc)
  · exact h hc

/-- What takes over a capture is one of another epoch. -/
theorem not_mem_passOn {g : Capture → Option Nat} (hg : ∀ z e, g z = some e → e ≠ c.epoch) (z : Capture)
    (h : c = z ∨ c ∉ s.md.captures) : c ∉ (passOn g s z).md.captures := by
  have hdrop : c ∉ (s.journal (.snapDrop z)).md.captures := by
    rw [Topiary.md_journal]
    rcases h with rfl | h
    · exact not_mem_snapDrop_same
    · exact not_mem_snapDrop h z
  unfold passOn
  split
  next e he =>
    rw [Topiary.md_journal]
    exact not_mem_snapIndex hdrop fun hc => hg z e he (congrArg Capture.epoch hc).symm
  next => exact hdrop

theorem not_mem_passOn_all {g : Capture → Option Nat} (hg : ∀ z e, g z = some e → e ≠ c.epoch) (l : List Capture)
    (h : c ∈ l ∨ c ∉ s.md.captures) : c ∉ (l.foldl (passOn g) s).md.captures := by
  induction l generalizing s with
  | nil => exact h.resolve_left List.not_mem_nil
  | cons z l ih =>
    refine ih ?_
    by_cases hl : c ∈ l
    · exact .inl hl
    · refine .inr (not_mem_passOn hg z ?_)
      exact h.imp_left fun hc => (List.mem_cons.mp hc).resolve_right hl

/-- The captures of the snapshot that lie where `c` lies leave the index. -/
def unitFreed (s : State) (x : Snapshot) (c : Capture) : State :=
  ((s.md.captures.filter (fun c => c.epoch = x.epoch)).filter (fun z => z.place = c.place)).foldl (passOn (heir s x)) s

/-- A unit of snapshot space that no capture uses is unmapped. -/
def spaceFreed (s : State) (c : Capture) : State :=
  match c.place with
  | .space u => if s.unitsUsed.contains u then s
    else s.journal (.mapSet (s.get F.ftNsSizeUnits + u) .unmapped s.fm.version)
  | _ => s

/-- A snapshot without captures is free. -/
def snapshotFreed (s : State) (x : Snapshot) : State :=
  if s.md.captures.any (fun c => c.epoch = x.epoch) then s else s.journal (.snapState { x with state := .free })

theorem not_mem_unitFreed (hc : c ∈ s.md.captures) (he : c.epoch = x.epoch) : c ∉ (unitFreed s x c).md.captures := by
  refine not_mem_passOn_all (fun z e hz => he ▸ Nat.ne_of_lt (heir_lt hz)) _ (.inl ?_)
  exact List.mem_filter.mpr ⟨List.mem_filter.mpr ⟨hc, decide_eq_true he⟩, decide_eq_true rfl⟩

theorem md_spaceFreed : (spaceFreed s c).md = s.md := by
  unfold spaceFreed
  split
  · split
    · rfl
    · exact Topiary.md_journal s _
  · rfl

theorem not_mem_snapshotFreed (h : c ∉ s.md.captures) : c ∉ (snapshotFreed s x).md.captures := by
  unfold snapshotFreed
  split
  · exact h
  · rw [Topiary.md_journal]
    exact not_mem_snapState h _

section
variable (hx : s.md.snaps.find? (fun x => x.slot = k && decide (x.state = SnapState.deleting)) = some x)
  (hj : s.journalFull false = false)
include hx hj

theorem exec_snapshotUnitFree_of_capture
    (hc : (s.md.captures.filter (fun c => c.epoch = x.epoch)).head? = some c) :
    exec (.snapshotUnitFree k) s = .next (snapshotFreed (spaceFreed (unitFreed s x c) c) x).showStaged := by
  change execSnapshotUnitFree k s = _
  simp only [execSnapshotUnitFree, hx, hj, hc, Bool.false_eq_true, if_false]
  rfl

theorem exec_snapshotUnitFree_drops
    (hc : (s.md.captures.filter (fun c => c.epoch = x.epoch)).head? = some c) :
    ∃ t, exec (.snapshotUnitFree k) s = .next t ∧ t.md.captures.contains c = false := by
  obtain ⟨hmem, he⟩ := List.mem_filter.mp (List.mem_of_head? hc)
  refine ⟨_, exec_snapshotUnitFree_of_capture hx hj hc, ?_⟩
  have hgone : c ∉ (spaceFreed (unitFreed s x c) c).md.captures := by
    rw [md_spaceFreed]
    exact not_mem_unitFreed hmem (of_decide_eq_true he)
  rw [State.showStaged, set_md, set_md]
  exact Bool.eq_false_iff.mpr fun h => not_mem_snapshotFreed hgone (List.contains_iff_mem.mp h)

theorem exec_snapshotUnitFree_of_none (hnone : s.md.captures.filter (fun c => c.epoch = x.epoch) = []) :
    exec (.snapshotUnitFree k) s = .next (s.journal (.snapState { x with state := .free })) := by
  change execSnapshotUnitFree k s = _
  simp only [execSnapshotUnitFree, hx, hj, hnone, List.head?_nil, Bool.false_eq_true, if_false]

theorem exec_snapshotUnitFree_frees (hnone : s.md.captures.filter (fun c => c.epoch = x.epoch) = []) :
    ∃ t, exec (.snapshotUnitFree k) s = .next t ∧ t.md.snaps.any (fun y => y.slot = k) = false := by
  have hslot : x.slot = k := by
    have hp := List.find?_some hx
    simp only [Bool.and_eq_true, decide_eq_true_eq] at hp
    exact hp.1
  refine ⟨_, exec_snapshotUnitFree_of_none hx hj hnone, ?_⟩
  rw [Topiary.md_journal]
  simp [JBody.apply, putBy, hslot]

end

end

/-- Settles O34, by the step of each command; a capture that leaves the index stays out because what takes it over is of an
earlier epoch. -/
theorem flushRecoveryAndSnapshotDeletion : Obligations.FlushRecoveryAndSnapshotDeletion := by
  refine ⟨?shutdown, ?step, ?last, ?phase, ?recovered, ?bound, ?rebuild, ?free, ?drop⟩
  case shutdown =>
    intro s hon hst
    obtain ⟨hpower, htrigger, hstatus, hstep, -, hevent⟩ := startFlush_starts hon hst
    exact ⟨_, rfl, hpower, htrigger, hstatus, hstep, hevent⟩
  case step =>
    intro s hst hcold hstep
    exact ⟨_, exec_flushStepComplete_of_flushing hst hcold, flushStepped_reached (by omega)⟩
  case last =>
    intro s hst hcold hstep
    obtain ⟨-, hreached⟩ := flushStepped_reached (s := s) (n := 8) (by decide)
    refine ⟨_, exec_flushStepComplete_of_flushing hst hcold, ?_⟩
    rw [hstep]
    exact ⟨flushStepped_flushed, hreached⟩
  case phase => exact fun _ _ => exec_recoveryPhaseComplete_reports
  case recovered => exact fun _ _ => exec_recoveryPhaseComplete_last
  case bound =>
    exact fun _ hst hp hwin => ⟨_, exec_recoveryBoundExpiry_of_late hst hp hwin, TimeBase.lastEvent_raise _ _ _ _ _ _, rfl⟩
  case rebuild => exact fun _ _ _ _ => exec_checkRebuildPage_leaves
  case free => exact fun _ _ _ => exec_snapshotUnitFree_frees
  case drop => exact fun _ _ _ _ => exec_snapshotUnitFree_drops

end Sys2Proof.Proofs.Persistence

/-!
PROOFS. The epoch mirror: lines, ends of epochs, acknowledgements, and the states that follow (O45).
-/
namespace Sys2Proof.Proofs.Mirror
open Sys2Proof.Machine Sys2Proof.Machine.State Sys2Proof.Proofs.Persistence

/-! ### A message of the peer that opens, or does not (R426, R427) -/

section
variable {s : State} {n e q role : Nat} {high : Bool} {g : State → State}

theorem mirrorOpen_of_opens (hrole : s.mirrorRole n role = true) (hdir : decide (2 ^ 63 ≤ q % 2 ^ 64) = high) :
    s.mirrorOpen n e q role high true g = g (s.popQueue n) := by
  simp only [State.mirrorOpen, hrole, hdir, bne_self_eq_false, Bool.not_true, Bool.or_self, Bool.false_eq_true, if_false]

theorem mirrorOpen_of_shut (hrole : s.mirrorRole n role = true) :
    s.mirrorOpen n e q role high false g = s.mirrorBad n e := by
  simp only [State.mirrorOpen, hrole, Bool.not_true, Bool.not_false, Bool.true_or, Bool.false_eq_true, if_false, if_true]

theorem per_popQueue : (s.popQueue n).per = s.per := ((Keeps.refl 4097 s).popQueue n rfl).same .per rfl

theorem per_showMirror : s.showMirror.per = s.per := ((Keeps.refl 1 s).showMirror rfl).same .per rfl

end

/-! ### At the receiver (R325, R326) -/

section
variable {s : State} {n e q : Nat} {x : MirrorLine} {l : List (Nat × BitVec 512)}

/-- Lines join the receive buffer. -/
def received (s : State) (l : List MirrorLine) : State :=
  (withPer s { s.per with receive := s.per.receive ++ l }).showMirror

theorem exec_mirrorLines_of_room (hrole : s.mirrorRole n 2 = true) (hdir : q % 2 ^ 64 < 2 ^ 63)
    (hroom : s.per.receive.length + l.length ≤ State.mirrorReceiveSize) : exec (.mirrorLines n e q l true) s
      = .next (received (s.popQueue n) (l.map (fun x => ⟨x.1, x.2, false, e⟩))) := by
  have hfits : ¬ State.mirrorReceiveSize < (s.popQueue n).per.receive.length + l.length := by
    rw [per_popQueue]
    exact Nat.not_lt.mpr hroom
  change execMirrorLines n e q l true s = _
  rw [execMirrorLines, mirrorOpen_of_opens hrole (decide_eq_false (Nat.not_le.mpr hdir)), if_neg hfits]
  rfl

/-- ApplyBegin is in the journal, and the epoch's lines have left the receive buffer. -/
def applyBegun (s : State) (e : Nat) : State :=
  let u := s.journal (.mirrorApply e true)
  (withPer u { u.per with receive := u.per.receive.filter (fun x => e < x.epoch) }).showMirror

/-- A line of the mirror enters Quickset under the domain of the peer's queue pair. -/
def mirrorWrite (n : Nat) (s : State) (x : MirrorLine) : State :=
  s.windowWrite { src := .device, line := x.line, dom := s.qpDomain n, mask := maskAll, data := x.data, poison := x.poison,
                  stamp := s.nowDtb }

theorem exec_mirrorEndOfEpoch (opens : Bool) : exec (.mirrorEndOfEpoch n e q opens) s
    = .next (s.mirrorOpen n e q 2 false opens (fun s =>
        ((s.journal (.mirrorApply e true)).per.receive.filter (fun x => x.epoch ≤ e)).foldl (mirrorWrite n)
          (applyBegun s e))) := rfl

theorem keeps_applyBegun : Keeps 6533 s (applyBegun (s.popQueue n) e) :=
  (keeps_withPer (((Keeps.refl 6533 s).popQueue n rfl).journal _ rfl) _ rfl).showMirror rfl

theorem qpDomain_applyBegun : (applyBegun (s.popQueue n) e).qpDomain n = s.qpDomain n := by
  have hnet : (applyBegun (s.popQueue n) e).net = s.net := keeps_applyBegun.same .net rfl
  rw [State.qpDomain, State.qpDomain, State.qp?, State.qp?, hnet]

theorem nowDtb_applyBegun : (applyBegun (s.popQueue n) e).nowDtb = s.nowDtb := by
  have htime : (applyBegun (s.popQueue n) e).time = s.time := keeps_applyBegun.same .time rfl
  rw [State.nowDtb, State.nowDtb, htime]

theorem receive_journal (s : State) (b : JBody) : (s.journal b).per.receive = s.per.receive := by
  obtain ⟨l, hl⟩ := (Journalled.journal s b).per
  rw [hl]

theorem exec_mirrorEndOfEpoch_of_line (hrole : s.mirrorRole n 2 = true) (hdir : q % 2 ^ 64 < 2 ^ 63)
    (hx : s.per.receive = [x]) (he : x.epoch ≤ e) :
    exec (.mirrorEndOfEpoch n e q true) s = .next ((State.showMirror { (s.popQueue n).journal (.mirrorApply e true) with
        per := { ((s.popQueue n).journal (.mirrorApply e true)).per with receive := [] } }).windowWrite
      { src := .device, line := x.line, dom := s.qpDomain n, mask := maskAll, data := x.data, poison := x.poison,
        stamp := s.nowDtb }) := by
  have hreceive : ((s.popQueue n).journal (.mirrorApply e true)).per.receive = [x] := by
    rw [receive_journal, per_popQueue, hx]
  have hbegun : applyBegun (s.popQueue n) e = State.showMirror { (s.popQueue n).journal (.mirrorApply e true) with
      per := { ((s.popQueue n).journal (.mirrorApply e true)).per with receive := [] } } := by
    simp [applyBegun, withPer, hreceive, he]
  have hdue : [x].filter (fun x => decide (x.epoch ≤ e)) = [x] := by simp [he]
  rw [exec_mirrorEndOfEpoch, mirrorOpen_of_opens hrole (decide_eq_false (Nat.not_le.mpr hdir)), hreceive, hdue,
    List.foldl_cons, List.foldl_nil, mirrorWrite, qpDomain_applyBegun, nowDtb_applyBegun, hbegun]

theorem mirrorState_none (s : State) (x : Nat) : s.mirrorState x none = s.set F.perMirrorStatusState x := rfl

/-- ApplyEnd is in the journal, and the acknowledgement has left. -/
def applyEnded (s : State) (e : Nat) : State := (s.journal (.mirrorApply e false)).sendMirror (.ack e) 0

theorem applying_applyEnded : (applyEnded s e).md.applying = none := by
  have hmd : (applyEnded s e).md = (s.journal (.mirrorApply e false)).md :=
    ((Keeps.refl 1083397 (s.journal (.mirrorApply e false))).sendMirror _ _ rfl).same .md rfl
  rw [hmd, Topiary.md_journal]
  rfl

theorem exec_mirrorApplyComplete_of_accepted (ha : s.md.applying = some e) (hheld : s.srcHeld .device = false)
    (hon : s.on F.perMirrorCfgEnable = true) (hrole : s.get F.perMirrorCfgRole = 2) : exec .mirrorApplyComplete s
      = .next (((applyEnded s e).set F.perMirrorStatusAckedEpoch e).set F.perMirrorStatusState 1) := by
  change execMirrorApplyComplete s = _
  simp only [execMirrorApplyComplete, ha, hheld, hon, hrole, bne_self_eq_false, Bool.not_true, Bool.or_self,
    Bool.false_eq_true, if_false]
  rfl

theorem exec_mirrorApplyComplete_acknowledges (ha : s.md.applying = some e) (he : e < 2 ^ 32)
    (hheld : s.srcHeld .device = false) (hon : s.on F.perMirrorCfgEnable = true) (hrole : s.get F.perMirrorCfgRole = 2) :
    ∃ t, exec .mirrorApplyComplete s = .next t ∧ t.get F.perMirrorStatusAckedEpoch = e ∧
      t.get F.perMirrorStatusState = 1 ∧ t.md.applying = none := by
  refine ⟨_, exec_mirrorApplyComplete_of_accepted ha hheld hon hrole, ?acked, ?sync, ?applied⟩
  case acked =>
    rw [get_set_other _ _ (by decide), get_set_same _ _ (by decide)]
    exact Nat.mod_eq_of_lt he
  case sync => exact get_set_same _ 1 (by decide)
  case applied =>
    rw [set_md, set_md]
    exact applying_applyEnded

end

/-! ### At the sender (R324, R325, R327) -/

section
variable {s : State} {n e q : Nat}

/-- The epoch is acknowledged, and the lines up to it have left the send queue. -/
def acked (s : State) (n e : Nat) : State :=
  let u := (s.popQueue n).set F.perMirrorStatusAckedEpoch e
  (withPer u { u.per with send := u.per.send.filter (fun x => e < x.epoch) }).mirrorClean.showMirror

/-- With no plot to be resent, an acknowledgement ends the resync. -/
def synced (s : State) : State :=
  if s.get F.perMirrorStatusState = 2 && s.per.resend = [] then
    (withPer s { s.per with queueing := true, sent := s.md.openEpoch }).mirrorState 1 none
  else s

theorem exec_mirrorAcknowledgement_of_opens (hrole : s.mirrorRole n 1 = true) (hdir : 2 ^ 63 ≤ q % 2 ^ 64) :
    exec (.mirrorAcknowledgement n e q true) s = .next (synced (acked s n e)) := by
  change execMirrorAcknowledgement n e q true s = _
  rw [execMirrorAcknowledgement, mirrorOpen_of_opens hrole (decide_eq_true hdir)]
  rfl

theorem journalled_mirrorClean (s : State) : Journalled s s.mirrorClean :=
  Journalled.foldl (fun s _ => .journal s _) _ s

theorem send_acked : (acked s n e).per.send = s.per.send.filter (fun x => e < x.epoch) := by
  unfold acked
  dsimp only
  obtain ⟨l, hl⟩ := (journalled_mirrorClean (withPer ((s.popQueue n).set F.perMirrorStatusAckedEpoch e)
    { ((s.popQueue n).set F.perMirrorStatusAckedEpoch e).per with
      send := ((s.popQueue n).set F.perMirrorStatusAckedEpoch e).per.send.filter (fun x => e < x.epoch) })).per
  rw [per_showMirror, hl, withPer_per, set_per, per_popQueue]

theorem ackedEpoch_acked (he : e < 2 ^ 32) : (acked s n e).get F.perMirrorStatusAckedEpoch = e := by
  unfold acked State.showMirror
  dsimp only
  rw [get_set_other _ _ (by decide), (journalled_mirrorClean _).get_eq, get_withPer, get_set_same _ _ (by decide)]
  exact Nat.mod_eq_of_lt he

theorem send_synced : (synced s).per.send = s.per.send := by
  unfold synced
  split <;> rfl

theorem ackedEpoch_synced : (synced s).get F.perMirrorStatusAckedEpoch = s.get F.perMirrorStatusAckedEpoch := by
  unfold synced
  split
  · rw [mirrorState_none, get_set_other _ _ (by decide), get_withPer]
  · rfl

theorem exec_mirrorAcknowledgement_drops (hrole : s.mirrorRole n 1 = true) (hdir : 2 ^ 63 ≤ q % 2 ^ 64)
    (he : e < 2 ^ 32) : ∃ t, exec (.mirrorAcknowledgement n e q true) s = .next t ∧
      t.get F.perMirrorStatusAckedEpoch = e ∧ t.per.send = s.per.send.filter (fun x => e < x.epoch) :=
  ⟨_, exec_mirrorAcknowledgement_of_opens hrole hdir, ackedEpoch_synced.trans (ackedEpoch_acked he),
    send_synced.trans send_acked⟩

theorem exec_mirrorRequestEpochAgain_of_queued (hrole : s.mirrorRole n 1 = true) (hdir : 2 ^ 63 ≤ q % 2 ^ 64)
    (hq : s.per.send.any (fun x => x.epoch = e) = true) :
    exec (.mirrorRequestEpochAgain n e q true) s = .next ((s.popQueue n).sendEpoch e) := by
  have hq' : (s.popQueue n).per.send.any (fun x => x.epoch = e) = true := by rw [per_popQueue, hq]
  change execMirrorRequestEpochAgain n e q true s = _
  rw [execMirrorRequestEpochAgain, mirrorOpen_of_opens hrole (decide_eq_true hdir), if_pos hq']

section
variable (hon : s.on F.perMirrorCfgEnable = true) (hrole : s.get F.perMirrorCfgRole = 1)
  (hqp : s.qpState (s.get F.perMirrorCfgPeerQp) = 3) (hkey : s.mirrorKey = true)
include hon hrole hqp hkey

theorem exec_mirrorEndMarkerSend_of_sync (hstate : s.get F.perMirrorStatusState = 1) (hsent : s.per.sent < s.md.openEpoch) :
    exec .mirrorEndMarkerSend s = .next (withPer (s.sendEpoch s.per.sent)
      { (s.sendEpoch s.per.sent).per with sent := s.per.sent + 1 }) := by
  change execMirrorEndMarkerSend s = _
  simp only [execMirrorEndMarkerSend, hon, hrole, hqp, hkey, hstate, hsent, bne_self_eq_false, Bool.not_true, Bool.or_self,
    Bool.false_eq_true, if_false, if_true]
  rfl

theorem exec_mirrorEndMarkerSend_of_resync (hstate : s.get F.perMirrorStatusState = 2) (hresend : s.per.resend = []) :
    exec .mirrorEndMarkerSend s = .next (s.sendMirror (.endMarker s.md.openEpoch) 0) := by
  have hsync : ¬ (2 = 1) := by decide
  change execMirrorEndMarkerSend s = _
  simp only [execMirrorEndMarkerSend, hon, hrole, hqp, hkey, hstate, hresend, hsync, bne_self_eq_false, Bool.not_true,
    Bool.or_self, Bool.false_eq_true, if_false, if_true]

end

end

/-! ### Resync, and writes of PER_MIRROR_CFG (R326, R327) -/

section
variable {s : State} {v : BitVec 64}

/-- The plots of the mirror's ranges that are not dirty yet, at the first resync. -/
def freshPlots (s : State) : List Nat :=
  let ranges := (List.range 16).flatMap (fun i =>
    if s.on (F.perMirrorRangeValid i) then
      (List.range (s.get (F.perMirrorRangePlots i))).map (· + s.get (F.perMirrorRangeBasePlot i))
    else [])
  if s.per.everEnabled then [] else ranges.filter (fun p => !s.md.mirrorDirty.contains p)

/-- A sender marks the fresh plots dirty. -/
def dirtied (s : State) : State :=
  if s.get F.perMirrorCfgRole = 1 then (freshPlots s).foldl (fun s p => s.journal (.mirrorDirty p true)) s else s

/-- The queue is empty and the dirty plots are to be sent again. -/
def resending (s : State) : State :=
  withPer s { s.per with send := [], resend := s.md.mirrorDirty.mergeSort, queueing := false, everEnabled := true }

theorem mirrorResync_eq (s : State) :
    s.mirrorResync = ((resending (dirtied s)).set F.perMirrorStatusState 2).showMirror := rfl

theorem journalled_dirtied (s : State) : Journalled s (dirtied s) := by
  unfold dirtied
  split
  · exact Journalled.foldl (fun s _ => .journal s _) _ s
  · exact .refl s

theorem state_mirrorResync (s : State) : s.mirrorResync.get F.perMirrorStatusState = 2 := by
  rw [mirrorResync_eq, State.showMirror, get_set_other _ _ (by decide), get_set_same _ _ (by decide)]
  rfl

theorem per_mirrorResync (s : State) : s.mirrorResync.per.send = [] ∧ s.mirrorResync.per.mirrorSeq = s.per.mirrorSeq := by
  obtain ⟨l, hl⟩ := (journalled_dirtied s).per
  rw [mirrorResync_eq, per_showMirror, set_per, resending, withPer_per, hl]
  exact ⟨rfl, rfl⟩

theorem reg_mirrorResync_perMirrorCfg (s : State) : s.mirrorResync.reg R.perMirrorCfg = s.reg R.perMirrorCfg := by
  rw [mirrorResync_eq, State.showMirror, reg_set_other _ _ (by decide), reg_set_other _ _ (by decide)]
  exact (journalled_dirtied s).reg R.perMirrorCfg (by decide)

/-- A field of one bit is the bit. -/
theorem bits_one (v : Word) (i : Nat) : (bits v i 1 != 0) = v.getLsbD i := by
  rw [← BitVec.testBit_toNat, Nat.testBit_eq_decide_div_mod_eq, bits, Nat.pow_one]
  rcases Nat.mod_two_eq_zero_or_one (v.toNat / 2 ^ i) with h | h <;> rw [h] <;> rfl

theorem enable_of_cfg {t : State} (h : t.reg R.perMirrorCfg = v &&& 0xFFFF0000FF07) :
    t.on F.perMirrorCfgEnable = v.getLsbD 2 := by
  have hget : t.get F.perMirrorCfgEnable = bits (v &&& 0xFFFF0000FF07) 2 1 := congrArg (fun w => bits w 2 1) h
  have hmask : (0xFFFF0000FF07 : BitVec 64).getLsbD 2 = true := by decide
  rw [State.on, hget, bits_one, BitVec.getLsbD_and, hmask, Bool.and_true]

theorem bits_cfg_role (v : BitVec 64) : bits (v &&& 0xFFFF0000FF07) 0 2 = bits v 0 2 := by
  have hmask : ∀ i < 2, (0xFFFF0000FF07 : BitVec 64).getLsbD i = true := by decide
  apply Nat.eq_of_testBit_eq
  intro i
  rw [testBit_bits, testBit_bits, Nat.zero_add, BitVec.testBit_toNat, BitVec.testBit_toNat, BitVec.getLsbD_and]
  by_cases hi : i < 2
  · rw [hmask i hi, Bool.and_true]
  · rw [decide_eq_false hi, Bool.false_and, Bool.false_and]

/-- PER_MIRROR_CFG holds what was written, and the sequence of the role begins. -/
def enabled (s : State) (v : BitVec 64) : State :=
  let u := s.setReg R.perMirrorCfg (v &&& 0xFFFF0000FF07)
  withPer u { u.per with mirrorSeq := if u.get F.perMirrorCfgRole = 2 then 2 ^ 63 else 0, receive := [] }

theorem exec_mirrorEnable (v : BitVec 64) : exec (.mirrorEnable v) s = .next
    (if s.on F.perMirrorCfgEnable || !v.getLsbD 2 then s
    else if (enabled s v).get F.perMirrorCfgRole = 1 || (enabled s v).get F.perMirrorCfgRole = 2 then
      (enabled s v).mirrorResync
    else enabled s v) := rfl

theorem role_of_cfg (v : BitVec 64) :
    (s.setReg R.perMirrorCfg (v &&& 0xFFFF0000FF07)).get F.perMirrorCfgRole = bits v 0 2 :=
  (get_setReg_same s F.perMirrorCfgRole _).trans (bits_cfg_role v)

theorem exec_mirrorEnable_of_sender (hoff : s.on F.perMirrorCfgEnable = false) (hv : v.getLsbD 2 = true)
    (hrole : bits v 0 2 = 1) : exec (.mirrorEnable v) s = .next (enabled s v).mirrorResync := by
  have hget : (enabled s v).get F.perMirrorCfgRole = 1 := by rw [enabled, get_withPer, role_of_cfg, hrole]
  rw [exec_mirrorEnable, hoff, hv, if_neg (by decide), hget, if_pos (by decide)]

theorem mirrorSeq_enabled (hrole : bits v 0 2 = 1) : (enabled s v).per.mirrorSeq = 0 := by
  rw [enabled, withPer_per, role_of_cfg, hrole, if_neg (by decide)]

theorem exec_mirrorEnable_resyncs (hoff : s.on F.perMirrorCfgEnable = false) (hv : v.getLsbD 2 = true)
    (hrole : bits v 0 2 = 1) :
    ∃ t, exec (.mirrorEnable v) s = .next t ∧ t.on F.perMirrorCfgEnable = true ∧ t.get F.perMirrorStatusState = 2 ∧
      t.reg R.perMirrorCfg = v &&& 0xFFFF0000FF07 ∧ t.per.send = [] ∧ t.per.mirrorSeq = 0 := by
  have hcfg : (enabled s v).mirrorResync.reg R.perMirrorCfg = v &&& 0xFFFF0000FF07 :=
    (reg_mirrorResync_perMirrorCfg _).trans (reg_setReg_same s R.perMirrorCfg _)
  obtain ⟨hsend, hseq⟩ := per_mirrorResync (enabled s v)
  exact ⟨_, exec_mirrorEnable_of_sender hoff hv hrole, (enable_of_cfg hcfg).trans hv, state_mirrorResync _, hcfg, hsend,
    hseq.trans (mirrorSeq_enabled hrole)⟩

/-- PER_MIRROR_CFG holds what was written, but for Role, which stays; the queues are empty. -/
def disabled (s : State) (v : BitVec 64) : State :=
  let u := (s.setReg R.perMirrorCfg (v &&& 0xFFFF0000FF07)).set F.perMirrorCfgRole (s.get F.perMirrorCfgRole)
  withPer u { u.per with send := [], receive := [], resend := [], queueing := false }

theorem exec_mirrorDisable (v : BitVec 64) : exec (.mirrorDisable v) s = .next
    (if !s.on F.perMirrorCfgEnable || v.getLsbD 2 then s
    else ((disabled s v).set F.perMirrorStatusState 0).showMirror) := rfl

theorem exec_mirrorDisable_of_enabled (hon : s.on F.perMirrorCfgEnable = true) (hv : v.getLsbD 2 = false) :
    exec (.mirrorDisable v) s = .next ((disabled s v).set F.perMirrorStatusState 0).showMirror := by
  rw [exec_mirrorDisable, hon, hv, if_neg (by decide)]

theorem exec_mirrorDisable_empties (hon : s.on F.perMirrorCfgEnable = true) (hv : v.getLsbD 2 = false) :
    ∃ t, exec (.mirrorDisable v) s = .next t ∧ t.on F.perMirrorCfgEnable = false ∧ t.get F.perMirrorStatusState = 0 ∧
      t.get F.perMirrorCfgRole = s.get F.perMirrorCfgRole ∧ t.per.send = [] ∧ t.per.receive = [] := by
  refine ⟨_, exec_mirrorDisable_of_enabled hon hv, ?enable, ?state, ?role, ?send, ?receive⟩
  case enable =>
    rw [State.showMirror, on_set_other _ _ (by decide), on_set_other _ _ (by decide), disabled, on_withPer,
      on_set_other _ _ (by decide), enable_of_cfg (reg_setReg_same s R.perMirrorCfg _), hv]
  case state =>
    rw [State.showMirror, get_set_other _ _ (by decide), get_set_same _ _ (by decide)]
    rfl
  case role =>
    rw [State.showMirror, get_set_other _ _ (by decide), get_set_other _ _ (by decide), disabled, get_withPer,
      get_set_same _ _ (by decide)]
    exact Nat.mod_eq_of_lt (bits_lt _ _ _)
  case send => rw [per_showMirror, set_per, disabled, withPer_per]
  case receive => rw [per_showMirror, set_per, disabled, withPer_per]

end

/-- Settles O45: the receiver's clauses, then the sender's; registers of the mirror are apart from those that the journal
writes. -/
theorem mirrorSendsAppliesAndAcknowledges : Obligations.MirrorSendsAppliesAndAcknowledges := by
  refine ⟨?lines, ?shut, ?endOfEpoch, ?applied, ?acked, ?again, ?marker, ?lastMarker, ?enable, ?disable⟩
  case lines =>
    intro s n e q l hrole hdir hroom
    refine ⟨_, exec_mirrorLines_of_room hrole hdir hroom, ?_⟩
    rw [received, per_showMirror, withPer_per, per_popQueue]
  case shut => exact fun _ _ _ _ _ hrole => congrArg Host.Outcome.next (mirrorOpen_of_shut hrole)
  case endOfEpoch => exact fun _ _ _ _ _ => exec_mirrorEndOfEpoch_of_line
  case applied => exact fun _ _ => exec_mirrorApplyComplete_acknowledges
  case acked => exact fun _ _ _ _ => exec_mirrorAcknowledgement_drops
  case again => exact fun _ _ _ _ => exec_mirrorRequestEpochAgain_of_queued
  case marker => exact fun _ => exec_mirrorEndMarkerSend_of_sync
  case lastMarker => exact fun _ => exec_mirrorEndMarkerSend_of_resync
  case enable => exact fun _ _ => exec_mirrorEnable_resyncs
  case disable => exact fun _ _ => exec_mirrorDisable_empties

end Sys2Proof.Proofs.Mirror

/-!
PROOFS. Descriptors: the opcodes that end at once, moves, cuts, snapshots and the administrative ones (O40).
-/
namespace Sys2Proof.Proofs.Descriptors
open Sys2Proof.Machine Sys2Proof.Machine.State Sys2Proof.Proofs.Persistence

/-! ### Descriptors by name (R366) -/

section
variable {s : State} {r h op st n : Nat} {d : Desc}

theorem desc?_key (hd : s.desc? r h = some d) : d.ring = r ∧ d.handle = h := by
  simpa using List.find?_some hd

theorem desc?_of_started (hd : s.startedDesc? r h op = some d) : s.desc? r h = some d ∧ d.phase = .started := by
  unfold State.startedDesc? at hd
  split at hd
  next x hx =>
    split at hd
    next hp =>
      cases hd
      exact ⟨hx, (of_decide_eq_true (Bool.and_eq_true_iff.mp hp).2)⟩
    next => cases hd
  next => cases hd

/-- The descriptor that takes another's place has its name. -/
def replaced (d x : Desc) : Desc := if x.ring = d.ring && x.handle = d.handle then d else x

theorem replaced_key (d x : Desc) : (replaced d x).ring = x.ring ∧ (replaced d x).handle = x.handle := by
  unfold replaced
  split
  next hkey =>
    simp only [Bool.and_eq_true, decide_eq_true_eq] at hkey
    exact ⟨hkey.1.symm, hkey.2.symm⟩
  next => exact ⟨rfl, rfl⟩

theorem desc?_setDesc (s : State) (d : Desc) (r h : Nat) : (s.setDesc d).desc? r h = (s.desc? r h).map (replaced d) := by
  have hname : (fun x : Desc => decide (x.ring = r) && decide (x.handle = h)) ∘ replaced d =
      fun x => decide (x.ring = r) && decide (x.handle = h) := by
    funext x
    obtain ⟨hring, hhandle⟩ := replaced_key d x
    rw [Function.comp_apply, hring, hhandle]
  exact List.find?_map.trans (congrArg (fun p => (s.rg.descs.find? p).map (replaced d)) hname)

theorem desc?_setDesc_same (hd : s.desc? r h = some d) (e : Desc) (hring : e.ring = d.ring) (hhandle : e.handle = d.handle) :
    (s.setDesc e).desc? r h = some e := by
  rw [desc?_setDesc, hd, Option.map_some, replaced, hring, hhandle]
  simp

theorem length_ringDescs_setDesc (s : State) (d : Desc) (r : Nat) :
    ((s.setDesc d).ringDescs r).length = (s.ringDescs r).length := by
  have hring : (fun x : Desc => decide (x.ring = r)) ∘ replaced d = fun x => decide (x.ring = r) := by
    funext x
    rw [Function.comp_apply, (replaced_key d x).1]
  have hmap : (s.setDesc d).ringDescs r = (s.rg.descs.map (replaced d)).filter (fun x => x.ring = r) := rfl
  rw [hmap, List.filter_map, List.length_map, hring]
  rfl

/-! ### Descriptors that end (R370) -/

/-- The descriptor once its work has ended. -/
def ended (d : Desc) (st n : Nat) : Desc := { d with phase := .finished (worse st d.worst) n }

theorem finish_of_started (hd : s.desc? r h = some d) (hp : d.phase = .started) (hw : s.srcWaits (.ring r h) = false) :
    s.finish r h st n = s.setDesc (ended d st n) := by
  simp only [State.finish, hd, hp, hw, Bool.false_eq_true, if_false]
  rfl

theorem finish_ends (hd : s.desc? r h = some d) (hp : d.phase = .started) (hw : s.srcWaits (.ring r h) = false) :
    ((s.finish r h st n).desc? r h).map (·.phase) = some (.finished (worse st d.worst) n) ∧
      (s.finish r h st n).regs = s.regs := by
  rw [finish_of_started hd hp hw]
  exact ⟨congrArg (Option.map (·.phase)) (desc?_setDesc_same hd (ended d st n) rfl rfl), rfl⟩

theorem exec_ringNop_of_started (hd : s.startedDesc? r h opNop = some d) :
    exec (.ringNop r h) s = .next (s.finish r h stOk 0) := by
  change execRingNop r h s = _
  simp only [execRingNop, hd]

end

/-! ### Moves and snapshot reads (R321, R373) -/

section
variable {s u : State} {r h st : Nat} {d : Desc} {x : Snapshot} {o : List (BitVec 8)}

theorem exec_move_of_refused (hd : s.startedDesc? r h opMove = some d) (href : s.opRefusal d = some st) :
    exec (.move r h o) s = .next (s.finish r h st 0) := by
  change execMove r h o s = _
  simp only [execMove, hd, href]

theorem exec_move_of_copied (hd : s.startedDesc? r h opMove = some d) (href : s.opRefusal d = none)
    (hready : s.ready (.ring r h) [(d.num 16 8, State.moveLen d)] = true)
    (hu : State.copyRange (.ring r h) (s.ringDom r) d.stamp (d.num 16 8) (d.num 24 8)
      ((s.taken (.ring r h)).linePoison (s.ringDom r)) (State.moveLen d / 16 + 4) 0
      ((s.taken (.ring r h)).loadRegion (s.ringDom r) (d.num 16 8) (State.moveLen d) o).1 none (s.taken (.ring r h))
        = (u, none)) :
    exec (.move r h o) s = .next (u.finish r h stOk (State.moveLen d)) := by
  change execMove r h o s = _
  simp only [execMove, hd, href, hready, hu, Bool.not_true, Bool.false_eq_true, if_false]

theorem exec_snapshotRead_of_stored (hd : s.startedDesc? r h opSnapRead = some d) (href : s.opRefusal d = none)
    (hx : s.md.snaps.find? (fun x => x.epoch = d.num 16 4) = some x) (hactive : x.state = .active)
    (hheld : s.modifiedLines (d.num 24 8) (State.moveLen d) = [])
    (hu : State.storeLines (.ring r h) (s.ringDom r) d.stamp (d.num 40 8) 0 ((List.range (State.moveLen d / 64)).map
      (fun k => s.snapLine (s.ringDom r) (d.num 24 8 / 64 + k)
        ((s.md.snaps.filter (fun y => x.epoch ≤ y.epoch)).map (·.epoch)).mergeSort)) none s = (u, none)) :
    exec (.snapshotRead r h) s = .next (u.finish r h stOk (State.moveLen d)) := by
  change execSnapshotRead r h s = _
  simp only [execSnapshotRead, hd, href, hx, hactive, hheld, hu, bne_self_eq_false, Bool.false_eq_true, if_false]

theorem exec_snapshotDelete_of_found (hd : s.startedDesc? r h opSnapDelete = some d) (hj : s.journalFull false = false)
    (hx : s.md.snaps.find? (fun x => x.epoch = d.num 16 4) = some x) : exec (.snapshotDelete r h) s
      = .next ((s.journal (.snapState { x with state := .deleting })).finish r h stOk 0) := by
  change execSnapshotDelete r h s = _
  simp only [execSnapshotDelete, hd, hj, hx, Bool.false_eq_true, if_false]

end

/-! ### Cuts (R72, R317, R319) -/

section
variable {s u : State} {r h : Nat} {d : Desc} {snap : Bool}

/-- A cut of the open epoch at a time to come is armed where there are slots for it; arming takes no time. -/
theorem startCut_of_armed (hepoch : d.num 16 4 = s.md.openEpoch)
    (hfree : s.md.armed.any (fun c => c.epoch = d.num 16 4) = false)
    (hlast : (if snap then s.md.lastSnapCut else s.md.lastEpochCut) = none) (hlater : s.time.dtb < d.launch)
    (hroom : snap = true → s.md.snaps.length + (s.md.armed.filter (·.snapshot)).length < 16)
    (hu : s.armCut? ⟨d.num 16 4, snap, d.launch, d.ring, d.handle⟩ d.dropLate = some u) : s.startCut d snap = u := by
  have htime : u.time = s.time := ((Keeps.refl 2437 s).armCut? hu rfl).same .time rfl
  have hnot : ¬ d.launch ≤ s.time.dtb := Nat.not_le.mpr hlater
  have hlate : ¬ d.launch + 1000000 < s.time.dtb := by omega
  have hfull : (snap && decide (16 ≤ s.md.snaps.length + (s.md.armed.filter (·.snapshot)).length)) = false := by
    cases snap with
    | false => rfl
    | true => exact decide_eq_false (Nat.not_le.mpr (hroom rfl))
  simp only [State.startCut, hfree, hlast, hu, hlate, hfull, hnot, htime, Option.any_none, decide_false, Bool.or_self,
    Bool.false_and, Bool.false_eq_true, if_false]
  exact if_neg (by simp [hepoch])

theorem exec_epochCut_of_unarmed (hd : s.startedDesc? r h opEpochCut = some d) (hj : s.journalFull false = false)
    (hnone : s.md.armed.any (fun c => c.ring = r && c.handle = h) = false) :
    exec (.epochCut r h) s = .next (s.startCut d false) := by
  change execEpochCut r h s = _
  simp only [execEpochCut, hd, hj, hnone, Bool.or_self, Bool.false_eq_true, if_false]

theorem exec_snapshotCut_of_unarmed (hd : s.startedDesc? r h opSnapCut = some d) (hj : s.journalFull false = false)
    (hnone : s.md.armed.any (fun c => c.ring = r && c.handle = h) = false) :
    exec (.snapshotCut r h) s = .next (s.startCut d true) := by
  change execSnapshotCut r h s = _
  simp only [execSnapshotCut, hd, hj, hnone, Bool.or_self, Bool.false_eq_true, if_false]

end

/-! ### Shutdown and checkpoint (R297, R302, R305) -/

section
variable {s : State} {r h : Nat} {d : Desc}

theorem exec_adminShutdown_of_started (hd : s.startedDesc? r h opShutdown = some d) :
    exec (.adminShutdown r h) s = .next (s.startFlush 4) := by
  change execAdminShutdown r h s = _
  simp only [execAdminShutdown, hd]

theorem ckptWait_tryCkpt (k : Bool) : (s.tryCkpt k).per.ckptWait = s.per.ckptWait := by
  unfold State.tryCkpt
  split
  · rw [per_startCkpt.1]
  · rfl

theorem rg_tryCkpt (k : Bool) : (s.tryCkpt k).rg = s.rg := ((Keeps.refl 2437 s).tryCkpt k rfl).same .rg rfl

/-- The descriptor waits for both checkpoints. -/
def awaitsCkpt (s : State) (r h : Nat) : State := withPer s { s.per with ckptWait := s.per.ckptWait ++ [(r, h)] }

theorem exec_adminCheckpoint_of_started (hd : s.startedDesc? r h opCheckpoint = some d)
    (hw : s.per.ckptWait.contains (r, h) = false) :
    exec (.adminCheckpoint r h) s = .next (awaitsCkpt ((s.tryCkpt false).tryCkpt true) r h) := by
  change execAdminCheckpoint r h s = _
  simp only [execAdminCheckpoint, hd, hw, Bool.false_eq_true, if_false]
  rfl

theorem exec_adminCheckpoint_waits (hd : s.startedDesc? r h opCheckpoint = some d)
    (hw : s.per.ckptWait.contains (r, h) = false) :
    ∃ t, exec (.adminCheckpoint r h) s = .next t ∧ t.per.ckptWait = s.per.ckptWait ++ [(r, h)] ∧ t.rg = s.rg := by
  refine ⟨_, exec_adminCheckpoint_of_started hd hw, ?_, ?_⟩
  · rw [awaitsCkpt, withPer_per, ckptWait_tryCkpt, ckptWait_tryCkpt]
  · rw [awaitsCkpt, withPer_rg, rg_tryCkpt, rg_tryCkpt]

end

end Sys2Proof.Proofs.Descriptors

/-!
PROOFS. Descriptors: what a completion, a notification and the end of a ring leave of RING_INDEX (O40).
-/
namespace Sys2Proof.Proofs.Descriptors
open Sys2Proof.Machine Sys2Proof.Machine.State Sys2Proof.Proofs.Persistence

/-- The state with other rings. -/
def withRg (s : State) (x : RingState) : State := { s with rg := x }

/-- The state with another cipher. -/
def withCip (s : State) (x : CipState) : State := { s with cip := x }

/-- The descriptor is in no context. -/
def descLeft (s : State) (d : Desc) : State :=
  withRg s { s.rg with descs := s.rg.descs.filter (fun x => !(x.ring = d.ring && x.handle = d.handle)) }

theorem dropDesc_eq (s : State) (d : Desc) : s.dropDesc d = ((descLeft s d).showRing d.ring).ringEmpty d.ring := rfl

/-- No entry of the ring waits to be notified. -/
def notified (s : State) (r : Nat) : State :=
  withRg s { s.rg with unnotified := s.rg.unnotified.filter (fun x => x.ring != r) }

theorem notifyRing_eq (s : State) (r : Nat) : s.notifyRing r =
    let u := (notified s r).cRing 0x42 1
    if u.get (F.ringNotifyKind r) = 1 then u.msix (u.get (F.ringNotifyLd r)) (u.get (F.ringNotifyVector r))
    else if u.get (F.ringNotifyKind r) = 2 then
      u.klInterrupt (u.get (F.ringNotifyLd r) % 2) (u.get (F.ringNotifyVector r)) r
    else u := rfl

/-! ### Operations that leave RING_INDEX -/

/-- An address below every RING_INDEX, or at another offset of a page. -/
def OffIndex (a : Nat) : Prop := a < R.ringIndex 0 ∨ a % 0x1000 ≠ 0x128

/-- RING_INDEX of every ring holds in `t` what it holds in `s`. -/
def SameIndex (s t : State) : Prop := ∀ r, t.reg (R.ringIndex r) = s.reg (R.ringIndex r)

namespace SameIndex

section
variable {s t u : State} {f : Fld} {m : Nat}

theorem refl (s : State) : SameIndex s s := fun _ => rfl

theorem trans (h : SameIndex s t) (g : SameIndex t u) : SameIndex s u := fun r => (g r).trans (h r)

theorem of_keeps (h : Keeps m s t) (hm : m.testBit 0 = false) : SameIndex s t :=
  fun _ => MemoryWindow.reg_of_keeps h hm _

theorem withRg (s : State) (x : RingState) : SameIndex s (Descriptors.withRg s x) := fun _ => rfl

theorem withCip (s : State) (x : CipState) : SameIndex s (Descriptors.withCip s x) := fun _ => rfl

theorem ite {c : Prop} [Decidable c] (ht : SameIndex s t) (hu : SameIndex s u) : SameIndex s (if c then t else u) := by
  split
  · exact ht
  · exact hu

theorem setReg (h : SameIndex s t) {a : Nat} (v : Word) (ha : OffIndex a) : SameIndex s (t.setReg a v) := by
  intro r
  have hne : R.ringIndex r ≠ a := by
    unfold OffIndex R.ringIndex at *
    omega
  exact (reg_setReg_other t v hne).trans (h r)

theorem set (h : SameIndex s t) (x : Nat) (hf : OffIndex f.reg) : SameIndex s (t.set f x) := h.setReg _ hf

theorem put (h : SameIndex s t) (b : Bool) (hf : OffIndex f.reg) : SameIndex s (t.put f b) := h.setReg _ hf

theorem tail_eq (h : SameIndex s t) (r : Nat) : t.get (F.ringIndexCqTail r) = s.get (F.ringIndexCqTail r) :=
  congrArg (fun v => bits v 48 16) (h r)

end

/-! #### Interrupts to agents -/

theorem offIndex_pmcBw (p : Nat) : OffIndex (R.pmcBwIn p) ∧ OffIndex (R.pmcBwOut p) ∧ OffIndex (R.pmcBwPeak p) := by
  unfold OffIndex R.pmcBwIn R.pmcBwOut R.pmcBwPeak
  omega

theorem offIndex_klAgentCredits (a : Nat) : OffIndex (R.klAgentCredits a) := by
  unfold OffIndex R.klAgentCredits
  omega

theorem traffic (s : State) (p i o : Nat) : SameIndex s (s.traffic p i o) := by
  obtain ⟨hin, hout, hpeak⟩ := offIndex_pmcBw p
  unfold State.traffic
  split
  · exact refl s
  · dsimp only
    refine set (set (set (set ?_ _ hin) _ hout) _ hpeak) _ hpeak
    exact fun _ => rfl

theorem showCredits (s : State) (k : Nat) : SameIndex s (s.showCredits k) :=
  ite ((refl s).setReg _ (offIndex_klAgentCredits _)) (refl s)

theorem klOut (s : State) (k : Nat) (x : KlTx) : SameIndex s (s.klOut k x) := by
  unfold State.klOut
  extract_lets p u v
  have hu : SameIndex s u := fun _ => rfl
  have hcount : SameIndex u ((u.cKl k 0x58 0 1).cKl k 0x5B x.vc (1 + x.slots)) :=
    of_keeps (((Keeps.refl 4 u).cKl k 0x58 0 1 rfl).cKl k 0x5B x.vc (1 + x.slots) rfl) rfl
  have hv : SameIndex s v := (hu.trans hcount).trans (traffic _ _ _ _)
  exact SameIndex.trans hv (showCredits _ k)

theorem klInterrupt (s : State) (a vector ring : Nat) : SameIndex s (s.klInterrupt a vector ring) := by
  unfold State.klInterrupt
  extract_lets x y
  exact ite (klOut s _ _) (ite (ite (refl s) fun _ => rfl) (refl s))

/-! #### Notification of a ring -/

theorem notifyRing (s : State) (r : Nat) : SameIndex s (s.notifyRing r) := by
  rw [notifyRing_eq]
  extract_lets u
  have hcount : Keeps 4 (notified s r) u := (Keeps.refl 4 _).cRing 0x42 1 rfl
  have hu : SameIndex s u := (withRg s _).trans (of_keeps hcount rfl)
  refine ite (hu.trans ?_) (ite (hu.trans (klInterrupt _ _ _ _)) hu)
  exact of_keeps ((Keeps.refl 1048584 u).msix _ _ rfl) rfl

theorem entryVisible (s : State) (r : Nat) (now : Bool) : SameIndex s (s.entryVisible r now) := by
  unfold State.entryVisible
  dsimp only
  split
  · exact SameIndex.trans (withRg s _) (notifyRing _ r)
  · exact withRg s _

/-! #### Keys that a ring no longer needs -/

theorem offIndex_cip (dom : Nat) : OffIndex (R.cipDomXts dom) ∧ OffIndex R.cipKeys ∧ OffIndex R.cipXtsSwitchCount := by
  unfold OffIndex R.cipDomXts R.cipKeys R.cipXtsSwitchCount
  omega

theorem showKeys (s : State) (dom : Nat) : SameIndex s (s.showKeys dom) := by
  obtain ⟨hdom, hkeys, -⟩ := offIndex_cip dom
  unfold State.showKeys
  extract_lets copies pinned live u
  have hu : SameIndex s u := ((refl s).set _ hdom).put _ hdom
  exact (hu.set _ hkeys).set _ hkeys

theorem loadKey (s : State) (core dom : Nat) (pinned : Bool) : SameIndex s (s.loadKey core dom pinned) := by
  obtain ⟨-, -, hswitch⟩ := offIndex_cip dom
  unfold State.loadKey
  extract_lets free oldest xts xts'
  have hbump : SameIndex s ((Descriptors.withCip s { s.cip with xts := xts' }).bump F.cipXtsSwitchCountCount) :=
    (withCip s _).set _ hswitch
  exact (hbump.trans (of_keeps ((Keeps.refl 4 _).cCip 0x52 1 rfl) rfl)).trans (showKeys _ dom)

theorem pinKey (s : State) (dom : Nat) : SameIndex s (s.pinKey dom) := by
  unfold State.pinKey
  split
  · exact refl s
  · split
    · exact (withCip s _).trans (showKeys (Descriptors.withCip s _) dom)
    · split
      · exact loadKey s _ dom true
      · exact refl s

theorem touchKey (s : State) (dom : Nat) : SameIndex s (s.touchKey dom) := by
  unfold State.touchKey
  split
  · exact ((withCip s _).trans (pinKey (Descriptors.withCip s _) dom)).trans (showKeys _ dom)
  · split
    · exact (withCip s _).trans (showKeys (Descriptors.withCip s _) dom)
    · exact refl s

/-! #### A ring that is shown, or becomes Disabled -/

theorem offIndex_ring (r : Nat) : OffIndex (R.ringStatus r) ∧ OffIndex (R.ringCtl r) ∧ OffIndex R.ringEngineStatus := by
  unfold OffIndex R.ringStatus R.ringCtl R.ringEngineStatus
  omega

theorem offIndex_ringBind {r : Nat} (hr : r < 4096) : OffIndex (R.ringBind r) := by
  unfold OffIndex R.ringBind R.ringIndex
  omega

theorem setRingState (s : State) (r x : Nat) : SameIndex s (s.setRingState r x) := by
  obtain ⟨hstatus, -, hengine⟩ := offIndex_ring r
  exact ((refl s).set _ hstatus).set _ hengine

theorem showRing (s : State) (r : Nat) : SameIndex s (s.showRing r) := by
  obtain ⟨hstatus, -, hengine⟩ := offIndex_ring r
  exact ((refl s).set _ hstatus).set _ hengine

theorem disabledRing (s : State) {r : Nat} (hr : r < 4096) : SameIndex s (s.disabledRing r) := by
  obtain ⟨-, hctl, -⟩ := offIndex_ring r
  have hdown : SameIndex s ((s.setRingState r ringDisabled).put (F.ringCtlEnable r) false) :=
    (setRingState s r _).put _ hctl
  unfold State.disabledRing
  extract_lets u rings
  have hu : SameIndex s u := hdown.trans (touchKey _ _)
  split
  next x _ =>
    change SameIndex s (Descriptors.withRg (u.applyBind r x.2) _)
    exact SameIndex.trans (hu.setReg _ (offIndex_ringBind hr)) (withRg _ _)
  next => exact hu

theorem ringEmpty (s : State) {r : Nat} (hr : r < 4096) : SameIndex s (s.ringEmpty r) := by
  unfold State.ringEmpty
  split
  · exact (disabledRing s hr).trans (of_keeps ((Keeps.refl 4 _).raise _ _ _ _ _ rfl) rfl)
  · exact refl s

theorem dropDesc (s : State) {d : Desc} (hr : d.ring < 4096) : SameIndex s (s.dropDesc d) := by
  rw [dropDesc_eq]
  exact ((withRg s _).trans (showRing (descLeft s d) d.ring)).trans (ringEmpty _ hr)

end SameIndex

/-! ### Descriptors that have left (R366) -/

section
variable {s : State} {r h : Nat} {d : Desc}

theorem descs_disabledRing (s : State) (r : Nat) : (s.disabledRing r).rg.descs = s.rg.descs := by
  unfold State.disabledRing
  extract_lets u rings
  have hu : u.rg = s.rg := ((((Keeps.refl 65541 s).setRingState r _ rfl).put _ _ rfl).touchKey _ rfl).same .rg rfl
  split
  · change u.rg.descs = _
    rw [hu]
  · rw [hu]

theorem descs_ringEmpty (s : State) (r : Nat) : (s.ringEmpty r).rg.descs = s.rg.descs := by
  unfold State.ringEmpty
  split
  · exact descs_disabledRing s r
  · rfl

theorem desc?_eq_of_descs {t : State} (ht : t.rg.descs = s.rg.descs) (r h : Nat) : t.desc? r h = s.desc? r h := by
  rw [State.desc?, State.desc?, ht]

theorem desc?_dropDesc (s : State) (d : Desc) : (s.dropDesc d).desc? d.ring d.handle = none := by
  have hdescs : (s.dropDesc d).rg.descs = (descLeft s d).rg.descs := by
    rw [dropDesc_eq, descs_ringEmpty, State.showRing, set_rg, set_rg]
  rw [desc?_eq_of_descs hdescs]
  refine List.find?_eq_none.mpr fun x hx => ?_
  exact Bool.eq_false_iff.mp ((Bool.not_eq_true' _).mp (List.mem_filter.mp hx).2)

theorem desc?_setDesc_none (hnone : s.desc? r h = none) (d : Desc) : (s.setDesc d).desc? r h = none := by
  rw [desc?_setDesc, hnone, Option.map_none]

/-- A start only replaces descriptors. -/
theorem desc?_startIn_none (l m : List Desc) (hnone : s.desc? r h = none) : (s.startIn l m).desc? r h = none := by
  induction m generalizing s l with
  | nil => exact hnone
  | cons d m ih =>
    unfold State.startIn
    refine ih _ ?_
    split
    · exact desc?_setDesc_none hnone _
    · exact hnone

end

end Sys2Proof.Proofs.Descriptors

/-!
PROOFS. Descriptors: completion entries, progress records and notification (O40).
-/
namespace Sys2Proof.Proofs.Descriptors
open Sys2Proof.Machine Sys2Proof.Machine.State Sys2Proof.Proofs.Persistence

/-! ### Completion entries (R366, R369) -/

section
variable {s : State} {r h st n : Nat} {d : Desc} {b : List Byte} {now : Bool}

/-- An entry has gone to the host, and CqTail has advanced. -/
def entryWritten (s : State) (r : Nat) (b : List Byte) : State :=
  let t := s.get (F.ringIndexCqTail r)
  let u := s.send (.hostWrite (s.cqSlot r t) b)
  (u.set (F.ringIndexCqTail r) ((t + 1) % 65536)).put (F.ringStatusPhase r) ((t + 1) % 65536 / u.cqSize r % 2 = 0)

theorem writeEntry_of_host (hmode : s.remoteMode r = false)
    (hhost : regionAt (s.cqSlot r (s.get (F.ringIndexCqTail r))) = .host) :
    s.writeEntry r b now = (entryWritten s r b).entryVisible r now := by
  simp only [State.writeEntry, hmode, State.storeRegion, hhost, Bool.false_eq_true, if_false]
  rfl

theorem tail_entryWritten :
    (entryWritten s r b).get (F.ringIndexCqTail r) = (s.get (F.ringIndexCqTail r) + 1) % 65536 := by
  have hreg : (F.ringIndexCqTail r).reg ≠ (F.ringStatusPhase r).reg := by
    change R.ringIndex r ≠ R.ringStatus r
    unfold R.ringIndex R.ringStatus
    omega
  rw [entryWritten, get_put_other _ _ (.inl hreg), get_set_same _ _ (show 48 + 16 ≤ 64 by decide)]
  exact Nat.mod_mod _ 65536

/-- A descriptor has left its context once its entry is written; those that waited for it start. -/
def completed (s : State) (d : Desc) (b : List Byte) : State :=
  (((s.writeEntry d.ring b d.irqNow).dropDesc d).startReady d.ring).cRing 0x41 1

theorem exec_descriptorComplete_of_finished (hd : s.desc? r h = some d) (hp : d.phase = .finished st n)
    (hlate : d.late = false) (hheld : s.srcHeld (.ring r h) = false) (hst : s.get F.perStatusState ≠ 4)
    (hhalt : s.get (F.ringStatusHaltCause r) ≠ 3) : exec (.descriptorComplete r h false) s
      = .next (completed s d (s.entryBytes r d.tag st n d.op false false)) := by
  obtain ⟨hring, -⟩ := desc?_key hd
  change execDescriptorComplete r h false s = _
  simp only [execDescriptorComplete, hd, hp, hlate, hheld, hst, hhalt, decide_false, Bool.or_self, Bool.and_false,
    Bool.false_eq_true, if_false]
  rw [completed, hring]

theorem desc?_completed : (completed s d b).desc? d.ring d.handle = none := by
  have hrg : (completed s d b).rg = (((s.writeEntry d.ring b d.irqNow).dropDesc d).startReady d.ring).rg :=
    ((Keeps.refl 4 _).cRing 0x41 1 rfl).same .rg rfl
  rw [desc?_eq_of_descs (congrArg RingState.descs hrg)]
  exact desc?_startIn_none _ _ (desc?_dropDesc _ d)

/-- The state follows from that with the entry sent. -/
theorem completed_follows (hr : d.ring < 4096) (hmode : s.remoteMode d.ring = false)
    (hhost : regionAt (s.cqSlot d.ring (s.get (F.ringIndexCqTail d.ring))) = .host) :
    SameIndex (entryWritten s d.ring b) (completed s d b) ∧ (entryWritten s d.ring b).out <+: (completed s d b).out := by
  rw [completed, writeEntry_of_host hmode hhost]
  refine ⟨?index, ?out⟩
  case index =>
    refine ((SameIndex.entryVisible _ d.ring d.irqNow).trans (SameIndex.dropDesc _ hr)).trans ?_
    exact SameIndex.of_keeps (((Keeps.refl 4100 _).startReady _ rfl).cRing 0x41 1 rfl) rfl
  case out =>
    exact (((((Keeps.refl 1511437 _).entryVisible _ _ rfl).dropDesc _ rfl).startReady _ rfl).cRing 0x41 1 rfl).out

theorem exec_descriptorComplete_writes (hr : r < 4096) (hd : s.desc? r h = some d) (hp : d.phase = .finished st n)
    (hlate : d.late = false) (hheld : s.srcHeld (.ring r h) = false) (hst : s.get F.perStatusState ≠ 4)
    (hhalt : s.get (F.ringStatusHaltCause r) ≠ 3) (hmode : s.remoteMode r = false)
    (hhost : regionAt (s.cqSlot r (s.get (F.ringIndexCqTail r))) = .host) :
    ∃ t, exec (.descriptorComplete r h false) s = .next t ∧ t.desc? r h = none ∧
      t.get (F.ringIndexCqTail r) = (s.get (F.ringIndexCqTail r) + 1) % 65536 ∧
      t.out.take (s.out.length + 1) = s.out ++ [.hostWrite (s.cqSlot r (s.get (F.ringIndexCqTail r)))
        (s.entryBytes r d.tag st n d.op false false)] := by
  refine ⟨_, exec_descriptorComplete_of_finished hd hp hlate hheld hst hhalt, ?_⟩
  obtain ⟨rfl, rfl⟩ := desc?_key hd
  obtain ⟨hindex, hout⟩ := completed_follows (b := s.entryBytes d.ring d.tag st n d.op false false) hr hmode hhost
  refine ⟨desc?_completed, (hindex.tail_eq _).trans tail_entryWritten, ?_⟩
  simpa [entryWritten] using (List.prefix_iff_eq_take.mp hout).symm

end

/-! ### Progress records (R374) -/

section
variable {s : State} {r h m p : Nat} {d : Desc}

/-- A period of the descriptor is counted. -/
def periodCounted (s : State) (d : Desc) : State := s.setDesc { d with periods := d.periods + 1 }

theorem get_periodCounted (f : Fld) : (periodCounted s d).get f = s.get f := rfl

theorem cqSize_periodCounted : (periodCounted s d).cqSize r = s.cqSize r := rfl

theorem cqUsed_periodCounted : (periodCounted s d).cqUsed r = s.cqUsed r := rfl

theorem length_ringDescs_periodCounted : ((periodCounted s d).ringDescs r).length = (s.ringDescs r).length :=
  length_ringDescs_setDesc _ _ _

section
variable (hd : s.desc? r h = some d) (hp : d.phase = .started) (hprog : d.progress = true) (hlong : longOp d.op = true)
  (hdue : d.begun + (d.periods + 1) * (max 1 (s.get (F.ringCoalesceProgressPeriod r)) * 10000000) ≤ s.clk)
  (hhalt : s.get (F.ringStatusHaltCause r) ≠ 3) (hst : s.get F.perStatusState ≠ 4)
include hd hp hprog hlong hdue hhalt hst

/-- A record is due: where the ring has room for it beside an entry for each of its descriptors it is written. -/
theorem exec_progressRecord_of_due : exec (.progressRecord r h m p) s = .next
    (if s.cqSize r ≤ s.cqUsed r + (s.ringDescs r).length then (periodCounted s d).bump (F.ringProgSkipCount r)
    else (periodCounted s d).writeEntry r
      ((periodCounted s d).entryBytes r d.tag stOk (min 999 m + p * 1024) d.op true false) false) := by
  have hstarted : (d.phase != .started) = false := by rw [hp, bne_self_eq_false]
  have hnow : ¬ s.clk < d.begun + (d.periods + 1) * (max 1 (s.get (F.ringCoalesceProgressPeriod r)) * 10000000) :=
    Nat.not_lt.mpr hdue
  rw [← cqSize_periodCounted (d := d), ← cqUsed_periodCounted (d := d), ← length_ringDescs_periodCounted (d := d)]
  change execProgressRecord r h m p s = _
  unfold periodCounted
  simp only [execProgressRecord, hd, hstarted, hprog, hlong, hnow, hhalt, hst, Bool.not_true, decide_false, Bool.or_self,
    Bool.false_eq_true, if_false]

theorem exec_progressRecord_of_room (hroom : s.cqUsed r + (s.ringDescs r).length < s.cqSize r) :
    exec (.progressRecord r h m p) s = .next ((periodCounted s d).writeEntry r
      ((periodCounted s d).entryBytes r d.tag stOk (min 999 m + p * 1024) d.op true false) false) := by
  rw [exec_progressRecord_of_due hd hp hprog hlong hdue hhalt hst, if_neg (Nat.not_le.mpr hroom)]

theorem exec_progressRecord_skips (hfull : s.cqSize r ≤ s.cqUsed r + (s.ringDescs r).length) :
    ∃ t, exec (.progressRecord r h m p) s = .next t ∧ (t.desc? r h).map (·.periods) = some (d.periods + 1) ∧
      t.get (F.ringProgSkipCount r) = satInc (F.ringProgSkipCount r).w (s.get (F.ringProgSkipCount r)) ∧
      t.out = s.out := by
  rw [exec_progressRecord_of_due hd hp hprog hlong hdue hhalt hst, if_pos hfull]
  refine ⟨_, rfl, ?periods, ?skipped, ?out⟩
  case periods =>
    have hcounted : (periodCounted s d).desc? r h = some { d with periods := d.periods + 1 } :=
      desc?_setDesc_same hd { d with periods := d.periods + 1 } rfl rfl
    rw [bump, desc?_eq_of_descs (congrArg RingState.descs (set_rg _ _ _)), hcounted, Option.map_some]
  case skipped => rw [get_bump_same _ (show 0 + 32 ≤ 64 by decide), get_periodCounted]
  case out => exact bump_out _ _

end

end

/-! ### Notification (R375) -/

section
variable {s : State} {r : Nat} {u : Unnotified}

theorem rg_notifyRing (s : State) (r : Nat) : (s.notifyRing r).rg = (notified s r).rg := by
  have hcount : Keeps 1441805 (notified s r) ((notified s r).cRing 0x42 1) := (Keeps.refl 1441805 _).cRing 0x42 1 rfl
  have hkeeps : Keeps 1441805 (notified s r) (s.notifyRing r) := by
    rw [notifyRing_eq]
    exact (hcount.msix _ _ rfl).ite ((hcount.klInterrupt _ _ _ rfl).ite hcount)
  exact hkeeps.same .rg rfl

theorem exec_notificationCoalesceTimer_of_due (hu : s.rg.unnotified.find? (fun x => x.ring = r) = some u)
    (hdue : u.since + s.get (F.ringCoalesceUs r) * 1000 ≤ s.clk) :
    exec (.notificationCoalesceTimer r) s = .next (s.notifyRing r) := by
  change execNotificationCoalesceTimer r s = _
  simp only [execNotificationCoalesceTimer, hu, hdue, if_true]

end

/-- Settles O40, by opcode and then by what follows a descriptor's end; after a completion entry only messages follow, and
RING_INDEX stands. -/
theorem descriptorsRunAndComplete : Obligations.DescriptorsRunAndComplete := by
  refine ⟨?nop, ?move, ?refused, ?epochCut, ?snapshotCut, ?delete, ?read, ?shutdown, ?checkpoint, ?complete, ?progress,
    ?skip, ?notify⟩
  case nop =>
    intro s r h d hd hw
    obtain ⟨hdesc, hp⟩ := desc?_of_started hd
    exact ⟨_, exec_ringNop_of_started hd, finish_ends hdesc hp hw⟩
  case move => exact fun _ _ _ _ _ _ => exec_move_of_copied
  case refused =>
    intro s r h st d o hd href hw
    obtain ⟨hdesc, hp⟩ := desc?_of_started hd
    exact ⟨_, exec_move_of_refused hd href, finish_ends hdesc hp hw⟩
  case epochCut =>
    rintro s u r h d hd hj hnone hfree hepoch hlast hlater rfl rfl hu
    rw [exec_epochCut_of_unarmed hd hj hnone,
      startCut_of_armed (snap := false) hepoch hfree hlast hlater Bool.false_ne_true.elim hu]
  case snapshotCut =>
    rintro s u r h d hd hj hnone hfree hepoch hlast hlater rfl rfl hroom hu
    rw [exec_snapshotCut_of_unarmed hd hj hnone,
      startCut_of_armed (snap := true) hepoch hfree hlast hlater (fun _ => hroom) hu]
  case delete => exact fun _ _ _ _ _ => exec_snapshotDelete_of_found
  case read => exact fun _ _ _ _ _ _ => exec_snapshotRead_of_stored
  case shutdown =>
    intro s r h d hd hon hst
    obtain ⟨hpower, htrigger, hstatus, -, hrings, hevent⟩ := startFlush_starts hon hst
    exact ⟨_, exec_adminShutdown_of_started hd, hpower, htrigger, hstatus, hrings, hevent⟩
  case checkpoint => exact fun _ _ _ _ => exec_adminCheckpoint_waits
  case complete => exact fun _ _ _ _ _ _ => exec_descriptorComplete_writes
  case progress =>
    exact fun _ _ _ _ _ _ _ hd hp hprog hlong hdue hhalt hst =>
      exec_progressRecord_of_room hd hp hprog hlong hdue hhalt hst
  case skip =>
    exact fun _ _ _ _ _ _ _ hd hp hprog hlong hdue hhalt hst =>
      exec_progressRecord_skips hd hp hprog hlong hdue hhalt hst
  case notify =>
    exact fun s r _ hu hdue => ⟨_, exec_notificationCoalesceTimer_of_due hu hdue,
      congrArg RingState.unnotified (rg_notifyRing s r)⟩

end Sys2Proof.Proofs.Descriptors

/-!
PROOFS. Hazel cores: loads, stores, atomics, reservations and barriers (O35).
-/
namespace Sys2Proof.Proofs.Cores
open Sys2Proof.Machine Sys2Proof.Machine.State

/-! ### Cores by name -/

theorem core_of_hz {s t : State} (ht : t.hz = s.hz) (h : Nat) : t.core h = s.core h := by
  rw [State.core, State.core, ht]

@[simp] theorem core_setCore_same (s : State) (h : Nat) (c : HzCore) : (s.setCore h c).core h = c := by
  rw [State.core, State.setCore, Store.find?_insert_same, Option.getD_some]

@[simp] theorem core_atPc (s : State) (h pc : Nat) : (s.atPc h pc).core h = { s.core h with pc := BitVec.ofNat 64 pc } :=
  core_setCore_same s h _

@[simp] theorem core_taken (s : State) (src : WinSrc) (h : Nat) : (s.taken src).core h = s.core h := rfl

@[simp] theorem cHz_hz (s : State) (c code n : Nat) : (s.cHz c code n).hz = s.hz :=
  ((Keeps.refl 4 s).cHz c code n rfl).same .hz rfl

@[simp] theorem core_cHz (s : State) (c code n h : Nat) : (s.cHz c code n).core h = s.core h :=
  core_of_hz (cHz_hz s c code n) h

@[simp] theorem core_countLoad (s : State) (c a h : Nat) : (s.countLoad c a).core h = s.core h :=
  core_of_hz (((Keeps.refl 4 s).countLoad c a rfl).same .hz rfl) h

section
variable {s : State} {h pc a n d x : Nat} {g store : Bool} {o b : List Byte}

theorem coreFree_iff : s.coreFree h = true ↔
    s.coreWorks h = true ∧ (s.core h).barrier = none ∧ (s.core h).fault = none := by
  simp [State.coreFree, and_assoc]

/-! ### Destination registers -/

/-- An integer register other than x0 takes the value of the bytes. -/
theorem setDst_of_int (h0 : d ≠ 0) (hd : d < 32) (s : State) (g : Bool) (b : List Byte) :
    s.setDst h d g b =
      s.setCore h { s.core h with x := (s.core h).x.set d (extend g b.length (ofBytes b)) } := by
  simp only [State.setDst, h0, hd, if_true, if_false]

theorem x_setDst (h0 : d ≠ 0) (hd : d < 32) (hx : (s.core h).x.length = 32) (g : Bool) (b : List Byte) :
    ((s.setDst h d g b).core h).x[d]? = some (extend g b.length (ofBytes b)) := by
  rw [setDst_of_int h0 hd, core_setCore_same]
  exact List.getElem?_set_self (hx ▸ hd)

theorem extend_leBytes_zero : extend false (leBytes 8 0).length (ofBytes (leBytes 8 0)) = 0 := by decide

theorem extend_leBytes_one : extend false (leBytes 8 1).length (ofBytes (leBytes 8 1)) = 1 := by decide

/-! ### What an access meets does not depend on the program counter -/

@[simp] theorem hazelStatus_atPc : (s.atPc h pc).hazelStatus h a n store = s.hazelStatus h a n store := rfl

@[simp] theorem srcHeld_atPc (src : WinSrc) : (s.atPc h pc).srcHeld src = s.srcHeld src := rfl

@[simp] theorem earlyMode_atPc : (s.atPc h pc).earlyMode a = s.earlyMode a := rfl

@[simp] theorem clk_atPc : (s.atPc h pc).clk = s.clk := rfl

@[simp] theorem bufferHit?_atPc : (s.atPc h pc).bufferHit? h a n = s.bufferHit? h a n := by
  simp only [State.bufferHit?, core_atPc]

@[simp] theorem ntHit?_atPc : (s.atPc h pc).ntHit? h a = s.ntHit? h a := by
  simp only [State.ntHit?, core_atPc]

@[simp] theorem coreQuiet_atPc : (s.atPc h pc).coreQuiet h = s.coreQuiet h := by
  simp only [State.coreQuiet, core_atPc, srcHeld_atPc]

theorem ntHit?_of_nil (hnt : (s.core h).nt = []) (a : Nat) : s.ntHit? h a = none := by
  simp only [State.ntHit?, hnt, List.find?_nil]

/-! ### The local map (Table 12.2) -/

theorem localBlock_iff : localBlock a = true ↔ 0xE00000000000 ≤ a ∧ a < 0xF00000000000 := by
  simp only [localBlock, Bool.and_eq_true, decide_eq_true_eq]

/-- The local map lies in no region of Table 1.6. -/
theorem regionAt_of_local (ha : localBlock a = true) : regionAt a = .nowhere := by
  obtain ⟨hlo, hhi⟩ := localBlock_iff.mp ha
  simp only [regionAt, Bool.and_eq_true, decide_eq_true_eq]
  repeat rw [if_neg (by omega)]

theorem ready_of_local (ha : localBlock a = true) (s : State) (src : WinSrc) : s.ready src [(a, n)] = true := by
  simp [State.ready, State.modifiedLines, regionAt_of_local ha]

theorem hazelRead_of_local (ha : localBlock a = true) (s : State) (o : List Byte) :
    s.hazelRead h a n o = (s.localRead h a n, false) := by
  simp only [State.hazelRead, ha, if_true]

theorem hazelWrite_of_scratch (ha : localBlock a = true) (hc : a < codeBase) (s : State) (b : List Byte) :
    s.hazelWrite h a b =
      s.setCore h { s.core h with scratch := putBytes b (a - scratchBase) (s.core h).scratch } := by
  simp only [State.hazelWrite, State.localWrite, ha, hc, if_true]

/-- An access to the local map is served only on a core that serves a kernel. -/
theorem kernelOf?_of_status (hst : s.hazelStatus h a n store = stOk) (ha : localBlock a = true) :
    ∃ k, s.kernelOf? h = some k := by
  have hrange : s.localRange h a n store = true := by
    unfold State.hazelStatus at hst
    simp only [ha, if_true] at hst
    split at hst
    · exact absurd hst (by decide)
    · split at hst
      · assumption
      · exact absurd hst (by decide)
  rw [← Option.isSome_iff_exists]
  unfold State.localRange at hrange
  split at hrange
  · exact absurd hrange Bool.false_ne_true
  next hk => rw [hk, Option.isSome_some]

/-- A read of the local map looks at the core's scratch and at the kernels. -/
theorem localRead_setCore (c : HzCore) (hc : c.scratch = (s.core h).scratch) :
    (s.setCore h c).localRead h a n = s.localRead h a n := by
  have hk : (s.setCore h c).kernelOf? h = s.kernelOf? h := rfl
  have hi : (s.setCore h c).image? = s.image? := rfl
  simp only [State.localRead, hk, hi, core_setCore_same, hc]

@[simp] theorem localRead_atPc : (s.atPc h pc).localRead h a n = s.localRead h a n :=
  localRead_setCore _ rfl

@[simp] theorem localRead_taken (src : WinSrc) : (s.taken src).localRead h a n = s.localRead h a n := rfl

theorem localRead_of_hz {t : State} (ht : t.hz = s.hz) : t.localRead h a n = s.localRead h a n := by
  simp only [State.localRead, State.kernelOf?, State.image?, State.core, ht]

@[simp] theorem localRead_cHz (c code k : Nat) : (s.cHz c code k).localRead h a n = s.localRead h a n :=
  localRead_of_hz (cHz_hz s c code k)

theorem localRead_of_scratch {k : Kernel} (hk : s.kernelOf? h = some k) (hc : a < codeBase) :
    s.localRead h a n = (List.range n).map
      (fun i => Store.read (fun _ => (0 : Byte)) (s.core h).scratch (a - scratchBase + i)) := by
  simp only [State.localRead, hk, hc, if_true]

/-- Bytes that were put read as they were put. -/
theorem read_putBytes (b : List Byte) (a : Nat) (c : List Host.Cell) :
    (List.range b.length).map (fun i => Store.read (fun _ => (0 : Byte)) (putBytes b a c) (a + i)) = b := by
  refine List.ext_getElem (by simp) fun i hi hb => ?_
  rw [List.getElem_map, List.getElem_range, read_putBytes_inside b a i c hb]
  exact List.getD_eq_getElem b 0 hb

theorem length_localRead {k : Kernel} (hk : s.kernelOf? h = some k) (hc : a < codeBase) :
    (s.localRead h a n).length = n := by
  rw [localRead_of_scratch hk hc, List.length_map, List.length_range]

/-- Scratch reads as it was last written. -/
theorem localRead_write {k : Kernel} (hk : s.kernelOf? h = some k) (ha : localBlock a = true) (hc : a < codeBase)
    (hn : b.length = n) : (s.hazelWrite h a b).localRead h a n = b := by
  have hk' : (s.hazelWrite h a b).kernelOf? h = some k := by
    rw [hazelWrite_of_scratch ha hc]
    exact hk
  rw [localRead_of_scratch hk' hc, hazelWrite_of_scratch ha hc, core_setCore_same, ← hn]
  exact read_putBytes b _ _

theorem core_hazelWrite (ha : localBlock a = true) (hc : a < codeBase) (s : State) (b : List Byte) :
    (s.hazelWrite h a b).core h =
      { s.core h with scratch := putBytes b (a - scratchBase) (s.core h).scratch } := by
  rw [hazelWrite_of_scratch ha hc, core_setCore_same]

@[simp] theorem length_leBytes (n v : Nat) : (leBytes n v).length = n := by
  induction n generalizing v with
  | zero => rfl
  | succ n ih => rw [leBytes, List.length_cons, ih]

/-! ### Loads (R336) -/

theorem exec_hazelLoad_of_local (hfree : s.coreFree h = true) (hst : s.hazelStatus h a n false = stOk)
    (ha : localBlock a = true) (hbuf : s.bufferHit? h a n = none) (hnt : s.ntHit? h a = none)
    (hheld : s.srcHeld (.hazel h) = false) :
    exec (.hazelLoad h pc a n g d o) s =
      .next ((((s.atPc h pc).taken (.hazel h)).setDst h d g (s.localRead h a n)).countLoad h a) := by
  change execHazelLoad h pc a n g d o s = _
  simp [execHazelLoad, hfree, hst, hbuf, hnt, hheld, ready_of_local ha, hazelRead_of_local ha, regionAt_of_local ha]

theorem exec_hazelLoad_of_buffered {b : BufStore} (hfree : s.coreFree h = true)
    (hst : s.hazelStatus h a n false = stOk) (hbuf : s.bufferHit? h a n = some b) (hlo : b.addr ≤ a)
    (hhi : a + n ≤ b.addr + b.bytes.length) (hpage : doorbell? a = none) :
    exec (.hazelLoad h pc a n g d o) s =
      .next (((s.atPc h pc).setDst h d g ((b.bytes.drop (a - b.addr)).take n)).countLoad h a) := by
  change execHazelLoad h pc a n g d o s = _
  simp [execHazelLoad, hfree, hst, hbuf, hlo, hhi, hpage]

/-! ### Stores (R338, R342) -/

theorem exec_hazelStore_of_room (hfree : s.coreFree h = true) (hst : s.hazelStatus h a b.length true = stOk)
    (hroom : (s.core h).buffer.length < 32) :
    exec (.hazelStore h pc a b) s = .next (((s.atPc h pc).setCore h
      { (s.atPc h pc).core h with
        buffer := (s.core h).buffer ++ [{ addr := a, bytes := b, early := s.earlyMode a, sent := none }] }).cHz h 0xA4 1) := by
  change execHazelStore h pc a b s = _
  simp [execHazelStore, hfree, hst, Nat.not_le.mpr hroom]

/-- The first non-temporal store of a line enters an empty combining buffer, unless it fills the line. -/
theorem exec_hazelNtStore_of_empty (hfree : s.coreFree h = true) (hst : s.hazelStatus h a b.length true = stOk)
    (ha : localBlock a = false) (hpage : doorbell? a = none) (hnt : (s.core h).nt = [])
    (hpart : maskRange (a % 64) b.length ≠ maskAll) :
    exec (.hazelNtStore h pc a b) s = .next (((s.atPc h pc).setCore h
      { (s.atPc h pc).core h with
        nt := [⟨a / 64, maskRange (a % 64) b.length,
          mergeLine 0 (BitVec.ofNat 512 (ofBytes b * 2 ^ (8 * (a % 64)))) (maskRange (a % 64) b.length), s.clk⟩] }).cHz h
        0xA4 1) := by
  change execHazelNtStore h pc a b s = _
  simp [execHazelNtStore, hfree, hst, ha, hpage, hnt, ntHit?_of_nil hnt, hpart, putBy]

/-! ### Barriers, and accesses ordered as behind one (R337, R340, R385) -/

theorem drainNt_of_nil (hnt : (s.core h).nt = []) : s.drainNt h = s := by
  rw [State.drainNt, hnt, List.foldl_nil]

theorem behindBarrier_of_quiet (hnt : (s.core h).nt = []) (hquiet : s.coreQuiet h = true)
    (hdrop : (s.core h).dropped = false) (f : State → State) : s.behindBarrier h pc f = f s := by
  simp [State.behindBarrier, drainNt_of_nil hnt, hquiet, hdrop]

theorem exec_hazelAmo_of_scratch {op : AmoOp} (hfree : s.coreFree h = true) (h8 : a % 8 = 0)
    (hst : s.hazelStatus h a 8 true = stOk) (ha : localBlock a = true) (hnt : (s.core h).nt = [])
    (hquiet : s.coreQuiet h = true) (hdrop : (s.core h).dropped = false) :
    exec (.hazelAmo h pc op a true (BitVec.ofNat 64 x) d o) s =
      .next (((((s.atPc h pc).taken (.hazel h)).setDst h d true (s.localRead h a 8)).hazelWrite h a
        (leBytes 8 (amoResult op 64 (ofBytes (s.localRead h a 8)) (x % 2 ^ 64)))).cHz h 0xA4 1) := by
  change execHazelAmo h pc op a true _ d o s = _
  simp [execHazelAmo, hfree, hst, h8, behindBarrier_of_quiet, hnt, hquiet, hdrop, ready_of_local ha, hazelRead_of_local ha,
    agentAtomic, regionAt_of_local ha]

/-- A core whose reservation is `r`. -/
def withResv (s : State) (h : Nat) (r : Option Nat) : State := s.setCore h { s.core h with resv := r }

@[simp] theorem core_withResv (s : State) (h : Nat) (r : Option Nat) :
    (withResv s h r).core h = { s.core h with resv := r } := core_setCore_same s h _

theorem exec_hazelLr_of_local (hfree : s.coreFree h = true) (h8 : a % 8 = 0)
    (hst : s.hazelStatus h a 8 false = stOk) (ha : localBlock a = true) (hnt : (s.core h).nt = [])
    (hquiet : s.coreQuiet h = true) (hdrop : (s.core h).dropped = false) :
    exec (.hazelLr h pc a true d o) s =
      .next (withResv ((((s.atPc h pc).taken (.hazel h)).setDst h d true (s.localRead h a 8)).countLoad h a) h
        (some (a / 64))) := by
  change execHazelLr h pc a true d o s = _
  simp [execHazelLr, hfree, hst, h8, behindBarrier_of_quiet, hnt, hquiet, hdrop, ready_of_local ha, hazelRead_of_local ha,
    State.narrowStore, regionAt_of_local ha, withResv]

theorem exec_hazelSc_of_reserved {v : BitVec 64} (hfree : s.coreFree h = true) (h8 : a % 8 = 0)
    (hst : s.hazelStatus h a 8 true = stOk) (hnt : (s.core h).nt = []) (hquiet : s.coreQuiet h = true)
    (hdrop : (s.core h).dropped = false) (hresv : (s.core h).resv = some (a / 64)) :
    exec (.hazelSc h pc a true v d) s =
      .next ((((withResv (s.atPc h pc) h none).setDst h d false (leBytes 8 0)).hazelWrite h a (leBytes 8 v.toNat)).cHz h
        0xA4 1) := by
  change execHazelSc h pc a true v d s = _
  have hv : v.toNat % 2 ^ (8 * 8) = v.toNat := Nat.mod_eq_of_lt v.isLt
  simp [-Nat.reducePow, -Nat.reduceMul, execHazelSc, hfree, hst, h8, behindBarrier_of_quiet, hnt, hquiet, hdrop, hresv,
    withResv, hv]

theorem exec_hazelSc_of_unreserved {v : BitVec 64} (hfree : s.coreFree h = true) (h8 : a % 8 = 0)
    (hst : s.hazelStatus h a 8 true = stOk) (hnt : (s.core h).nt = []) (hquiet : s.coreQuiet h = true)
    (hdrop : (s.core h).dropped = false) (hresv : (s.core h).resv ≠ some (a / 64)) :
    exec (.hazelSc h pc a true v d) s =
      .next ((withResv (s.atPc h pc) h none).setDst h d false (leBytes 8 1)) := by
  change execHazelSc h pc a true v d s = _
  simp [execHazelSc, hfree, hst, h8, behindBarrier_of_quiet, hnt, hquiet, hdrop, hresv, withResv]

theorem settle_of_busy (hbusy : s.coreQuiet h = false) : s.settle h = s := by
  simp [State.settle, hbusy]

/-- A fence is over once the core's accesses are acknowledged. -/
theorem settle_of_fence {k : BarrierKind} (hk : k = .fence ∨ k = .fenceI) (hquiet : s.coreQuiet h = true)
    (hfault : (s.core h).fault = none) (hbar : (s.core h).barrier = some k) (hdrop : (s.core h).dropped = false) :
    s.settle h = s.setCore h { s.core h with barrier := none } := by
  rcases hk with rfl | rfl <;> simp [State.settle, hquiet, hfault, hbar, hdrop]

/-- A core that waits behind a barrier at `pc`. -/
def waiting (s : State) (h pc : Nat) (k : BarrierKind) : State :=
  ((s.atPc h pc).setCore h { (s.atPc h pc).core h with barrier := some k }).cHz h 0xAB 1

theorem beginBarrier_of_nil (hnt : (s.core h).nt = []) (k : BarrierKind) :
    s.beginBarrier h pc k = (waiting s h pc k).settle h := by
  have hdrained : (s.atPc h pc).drainNt h = s.atPc h pc := drainNt_of_nil (by rwa [core_atPc])
  rw [State.beginBarrier, hdrained, waiting]

@[simp] theorem core_waiting (k : BarrierKind) :
    (waiting s h pc k).core h = { s.core h with pc := BitVec.ofNat 64 pc, barrier := some k } := by
  simp [waiting]

theorem srcHeld_of_same {t : State} (hwin : t.win = s.win) (hmt : t.mt = s.mt) (src : WinSrc) :
    t.srcHeld src = s.srcHeld src := by
  rw [State.srcHeld, State.srcHeld, hwin, hmt]

@[simp] theorem coreQuiet_waiting (k : BarrierKind) : (waiting s h pc k).coreQuiet h = s.coreQuiet h := by
  have hkeeps : Keeps 16388 s (waiting s h pc k) := (((Keeps.refl 16388 s).atPc h pc rfl).setCore h _ rfl).cHz h 0xAB 1 rfl
  have hheld : (waiting s h pc k).srcHeld (.hazel h) = s.srcHeld (.hazel h) :=
    srcHeld_of_same (hkeeps.same .win rfl) (hkeeps.same .mt rfl) _
  simp only [State.coreQuiet, core_waiting, hheld]

theorem core_beginBarrier_of_busy (hnt : (s.core h).nt = []) (hbusy : s.coreQuiet h = false) (k : BarrierKind) :
    (s.beginBarrier h pc k).core h = { s.core h with pc := BitVec.ofNat 64 pc, barrier := some k } := by
  rw [beginBarrier_of_nil hnt, settle_of_busy (by rwa [coreQuiet_waiting]), core_waiting]

theorem core_beginBarrier_of_quiet {k : BarrierKind} (hk : k = .fence ∨ k = .fenceI) (hfree : s.coreFree h = true)
    (hnt : (s.core h).nt = []) (hquiet : s.coreQuiet h = true) (hdrop : (s.core h).dropped = false) :
    (s.beginBarrier h pc k).core h = { s.core h with pc := BitVec.ofNat 64 pc, barrier := none } := by
  obtain ⟨-, -, hfault⟩ := coreFree_iff.mp hfree
  have hover := settle_of_fence (s := waiting s h pc k) hk (by rwa [coreQuiet_waiting]) (by rwa [core_waiting])
    (by rw [core_waiting]) (by rwa [core_waiting])
  rw [beginBarrier_of_nil hnt, hover, core_setCore_same, core_waiting]

theorem coreQuiet_of_stores (hbuf : (s.core h).buffer ≠ []) : s.coreQuiet h = false := by
  simp [State.coreQuiet, hbuf]

theorem exec_fence_of_free (hfree : s.coreFree h = true) :
    exec (.fence h pc) s = .next (s.beginBarrier h pc .fence) := by
  change execFence h pc s = _
  rw [execFence, if_pos hfree]

theorem exec_fenceI_of_free (hfree : s.coreFree h = true) :
    exec (.fenceI h pc) s = .next (s.beginBarrier h pc .fenceI) := by
  change execFenceI h pc s = _
  rw [execFenceI, if_pos hfree]

end

/-- Settles O35, access by access: what each leaves of its core, then what its memory reads. -/
theorem hazelCoresLoadStoreAndSynchronise : Obligations.HazelCoresLoadStoreAndSynchronise := by
  refine ⟨?load, ?forwarded, ?store, ?ntStore, ?amo, ?lr, ?sc, ?scFails, ?fence, ?fenceWaits, ?fenceI⟩
  case load =>
    intro s h pc a n d g o hfree hst ha hbuf hnt hheld h0 hd hx
    refine ⟨_, exec_hazelLoad_of_local hfree hst ha hbuf hnt hheld, ?_, ?_⟩
    · rw [core_countLoad, x_setDst h0 hd (by simpa using hx)]
    · simp [setDst_of_int h0 hd]
  case forwarded =>
    intro s h pc a n d g o b hfree hst hbuf hlo hhi hpage h0 hd hx
    refine ⟨_, exec_hazelLoad_of_buffered hfree hst hbuf hlo hhi hpage, ?_⟩
    rw [core_countLoad, x_setDst h0 hd (by simpa using hx)]
  case store =>
    intro s h pc a b hfree hst hroom
    refine ⟨_, exec_hazelStore_of_room hfree hst hroom, ?_, ?_, ?_⟩
    · rw [core_cHz, core_setCore_same]
    · rw [cHz_hz]
      rfl
    · simp
  case ntStore =>
    intro s h pc a b hfree hst ha hpage hnt hpart
    refine ⟨_, exec_hazelNtStore_of_empty hfree hst ha hpage hnt hpart, ?_⟩
    rw [core_cHz, core_setCore_same]
  case amo =>
    intro s h pc a x d op o hfree h8 hst ha hc hnt hquiet hdrop h0 hd hx
    obtain ⟨k, hk⟩ := kernelOf?_of_status hst ha
    refine ⟨_, exec_hazelAmo_of_scratch hfree h8 hst ha hnt hquiet hdrop, ?_, ?_⟩
    · rw [core_cHz, core_hazelWrite ha hc, x_setDst h0 hd (by simpa using hx), length_localRead hk hc]
    · rw [localRead_cHz, setDst_of_int h0 hd]
      exact localRead_write (k := k) hk ha hc (length_leBytes 8 _)
  case lr =>
    intro s h pc a d o hfree h8 hst ha hnt hquiet hdrop h0 hd hx
    refine ⟨_, exec_hazelLr_of_local hfree h8 hst ha hnt hquiet hdrop, ?_, ?_⟩
    · rw [core_withResv]
    · rw [core_withResv, core_countLoad, x_setDst h0 hd (by simpa using hx)]
  case sc =>
    intro s h pc a d v hfree h8 hst ha hc hnt hquiet hdrop h0 hd hx hresv
    obtain ⟨k, hk⟩ := kernelOf?_of_status hst ha
    refine ⟨_, exec_hazelSc_of_reserved hfree h8 hst hnt hquiet hdrop hresv, ?_, ?_, ?_⟩
    · simp [core_hazelWrite ha hc, setDst_of_int h0 hd]
    · rw [core_cHz, core_hazelWrite ha hc, x_setDst h0 hd (by simpa using hx), extend_leBytes_zero]
    · rw [localRead_cHz, setDst_of_int h0 hd]
      exact localRead_write (k := k) hk ha hc (length_leBytes 8 _)
  case scFails =>
    intro s h pc a d v hfree h8 hst hnt hquiet hdrop h0 hd hx hresv
    refine ⟨_, exec_hazelSc_of_unreserved hfree h8 hst hnt hquiet hdrop hresv, ?_, ?_, ?_⟩
    · simp [setDst_of_int h0 hd]
    · rw [x_setDst h0 hd (by simpa using hx), extend_leBytes_one]
    · rw [setDst_of_int h0 hd, core_setCore_same]
      exact ⟨by simp, rfl, rfl⟩
  case fence =>
    intro s h pc hfree hnt hquiet hdrop
    refine ⟨_, exec_fence_of_free hfree, ?_⟩
    rw [core_beginBarrier_of_quiet (.inl rfl) hfree hnt hquiet hdrop]
    exact ⟨rfl, rfl⟩
  case fenceWaits =>
    intro s h pc hfree hnt hbuf
    refine ⟨_, exec_fence_of_free hfree, ?_⟩
    rw [core_beginBarrier_of_busy hnt (coreQuiet_of_stores hbuf)]
    exact ⟨rfl, rfl⟩
  case fenceI =>
    intro s h pc hfree hnt hquiet hdrop
    refine ⟨_, exec_fenceI_of_free hfree, ?_⟩
    rw [core_beginBarrier_of_quiet (.inr rfl) hfree hnt hquiet hdrop]
    exact ⟨rfl, rfl⟩

end Sys2Proof.Proofs.Cores

/-!
PROOFS. Hazel cores: buffers that drain, stores that are acknowledged or dropped, and exceptions (O36).
-/
namespace Sys2Proof.Proofs.Cores
open Sys2Proof.Machine Sys2Proof.Machine.State Sys2Proof.Proofs.TimeBase

/-! ### Writes leave the combining buffers of every core -/

/-- Every core holds in `t` the combining buffers that it holds in `s`. -/
def SameNt (s t : State) : Prop := ∀ h, (t.core h).nt = (s.core h).nt

namespace SameNt

section
variable {s t u : State} {m : Nat}

theorem refl (s : State) : SameNt s s := fun _ => rfl

theorem trans (h : SameNt s t) (g : SameNt t u) : SameNt s u := fun c => (g c).trans (h c)

theorem of_hz (h : t.hz = s.hz) : SameNt s t := fun c => congrArg HzCore.nt (core_of_hz h c)

theorem of_keeps (h : Keeps m s t) (hm : m.testBit 14 = false) : SameNt s t := of_hz (h.same .hz hm)

theorem ite {c : Prop} [Decidable c] (ht : SameNt s t) (hu : SameNt s u) : SameNt s (if c then t else u) := by
  split
  · exact ht
  · exact hu

theorem foldl {α : Type} {f : State → α → State} (hf : ∀ s x, SameNt s (f s x)) (l : List α) (s : State) :
    SameNt s (l.foldl f s) := by
  induction l generalizing s with
  | nil => exact refl s
  | cons x l ih => exact (hf s x).trans (ih _)

end

theorem nt_core (s : State) (h : Nat) : (s.core h).nt = ((Store.find? s.hz.cores h).map HzCore.nt).getD [] := by
  rw [State.core]
  cases Store.find? s.hz.cores h <;> rfl

/-- A change of every core that keeps its number and its combining buffers shows in no combining buffer. -/
theorem nt_find?_map {f : Nat × HzCore → Nat × HzCore} (hkey : ∀ c, (f c).1 = c.1) (hnt : ∀ c, (f c).2.nt = c.2.nt)
    (l : List (Nat × HzCore)) (h : Nat) :
    (Store.find? (l.map f) h).map HzCore.nt = (Store.find? l h).map HzCore.nt := by
  induction l with
  | nil => rfl
  | cons c l ih =>
    simp only [List.map_cons, Store.find?, hkey]
    split
    · simp [hnt]
    · exact ih

/-- The end of a reservation leaves the buffers. -/
theorem breakResv (s : State) (line : Nat) (src : WinSrc) : SameNt s (s.breakResv line src) := by
  unfold State.breakResv
  refine ite (fun h => ?_) (refl s)
  have hmap := nt_find?_map (f := fun c => if c.2.resv = some line && !decide (src = WinSrc.hazel c.1)
    then (c.1, { c.2 with resv := none }) else c) (fun c => by split <;> rfl) (fun c => by split <;> rfl) s.hz.cores h
  rw [nt_core, nt_core]
  exact congrArg (·.getD []) hmap

theorem accept (s : State) (w : WinWrite) : SameNt s (s.accept w) := by
  unfold State.accept
  extract_lets e epoch s1 v s2 s3 s4 s5 m s6
  have hmerged : SameNt s s1 := by
    clear_value e
    cases e with
    | none => exact refl s
    | some x => exact of_keeps ((Keeps.refl 2437 s).mergeCapture _ _ _ _ rfl) rfl
  have hspent : SameNt s1 s2 := of_hz (((Keeps.refl 8 _).spendCredit w rfl).same .hz rfl)
  have hraised : SameNt s2 s3 := ite (of_hz rfl) (refl s2)
  have hcounted : Keeps 3093 s4 s5 :=
    (((((Keeps.refl 3093 s4).heatUp _ rfl).countBytes _ rfl).showQs rfl).cPer _ _ rfl).xtsLine _ _ rfl
  have hanswered : Keeps 1444237 s5 (s6.answer w) :=
    ((Keeps.refl 1444237 s5).mirrorQueue _ _ _ _ rfl).answer w rfl
  exact ((((hmerged.trans hspent).trans hraised).trans (breakResv s3 _ _)).trans (of_keeps hcounted rfl)).trans
    (of_keeps hanswered rfl)

theorem nearWrite (s : State) (w : WinWrite) : SameNt s (s.nearWrite w) := by
  unfold State.nearWrite
  extract_lets t x epoch joins
  refine trans (t := t) (trans (breakResv s _ _) (of_keeps ((Keeps.refl 1024 _).heatUp _ rfl) rfl)) ?_
  split
  · exact of_keeps ((Keeps.refl 3573 t).queuePage _ _ _ _ rfl) rfl
  next m _ =>
    extract_lets merged kind lines m'
    have hmerged : SameNt t merged := by
      unfold merged
      split
      · exact of_keeps ((Keeps.refl 2437 t).mergeCapture _ _ _ _ rfl) rfl
      · exact refl t
    exact hmerged.trans (of_hz rfl)

theorem windowWrite (s : State) (w : WinWrite) : SameNt s (s.windowWrite w) := by
  unfold State.windowWrite
  extract_lets t listed win holders snooped
  refine trans (t := t) (of_keeps ((Keeps.refl 8 s).dropWriter w rfl) rfl) ?_
  have hlisted : Keeps 1444237 t (listed.listLost w.line w.dom w.stamp) :=
    ((Keeps.refl 1444237 t).spendCredit w rfl).listLost _ _ _ rfl
  refine ite ?_ (ite (of_keeps (hlisted.answer w rfl) rfl) (ite (of_hz rfl) (ite ?_ (ite (of_hz rfl) ?_))))
  · exact of_keeps (((Keeps.refl 1441805 t).spendCredit w rfl).answer w rfl) rfl
  · exact trans (t := snooped) (of_hz rfl) (foldl (f := fun s l => s.send _) (fun _ _ => of_hz (send_hz _ _)) _ _)
  · exact ite (nearWrite t w) (accept t w)

theorem windowBytes (src : WinSrc) (dom stamp n a : Nat) (b : List Byte) (s : State) :
    SameNt s (State.windowBytes src dom stamp n a b s) := by
  induction n generalizing s a b with
  | zero => exact refl s
  | succ n ih =>
    unfold State.windowBytes
    exact ite (refl s) ((windowWrite s _).trans (ih _ _ _))

theorem storeRegion (s : State) (src : WinSrc) (dom stamp a : Nat) (b : List Byte) :
    SameNt s (s.storeRegion src dom stamp a b) := by
  unfold State.storeRegion
  split
  next => exact windowBytes src dom stamp _ a b s
  next => exact (of_keeps ((Keeps.refl 5 s).xtsLine dom _ rfl) rfl).trans fun _ => rfl
  next => exact of_hz rfl
  next => exact of_keeps ((Keeps.refl 1441797 s).agentWrite _ _ _ _ _ _ _ rfl) rfl
  next => exact of_keeps ((Keeps.refl 1441797 s).agentWrite _ _ _ _ _ _ _ rfl) rfl
  next => exact refl s

theorem dropStore (s : State) (kind index addr dom : Nat) (early : Bool) :
    SameNt s (s.dropStore kind index addr dom early) :=
  of_keeps ((Keeps.refl 5 s).dropStore _ _ _ _ _ rfl) rfl

end SameNt

section
variable {s : State} {h pc a l k d : Nat} {b : NtBuf} {x : BufStore} {rest : List BufStore}

/-- A combining buffer that drains is gone. -/
theorem nt_drainBuf (s : State) (h dom : Nat) (b : NtBuf) :
    ((s.drainBuf h dom b).core h).nt = (s.core h).nt.filter (fun x => x.line != b.line) := by
  unfold State.drainBuf
  extract_lets c t
  have ht : (t.core h).nt = (s.core h).nt.filter (fun x => x.line != b.line) :=
    congrArg HzCore.nt (core_setCore_same s h _)
  rw [← ht]
  split
  next => exact SameNt.windowWrite t _ h
  next => exact SameNt.ite (SameNt.dropStore t _ _ _ _ _) (SameNt.foldl (fun _ _ => SameNt.storeRegion _ _ _ _ _ _) _ t) h

theorem exec_combiningBufferIdle_of_due (hb : (s.core h).nt.find? (fun b => b.line = l) = some b)
    (hdue : b.since + 1000 ≤ s.clk) :
    exec (.combiningBufferIdle h l) s = .next (s.drainBuf h (s.coreDom h) b) := by
  change execCombiningBufferIdle h l s = _
  simp only [execCombiningBufferIdle, hb, hdue, if_true]

/-! ### The oldest store (R342, R344, R349) -/

/-- Nothing waits for the accesses of a core without a barrier or an exception. -/
theorem settle_of_free (hbar : (s.core h).barrier = none) (hfault : (s.core h).fault = none) : s.settle h = s := by
  simp [State.settle, hbar, hfault]

/-- A write to the local map changes no more of a core than its scratch. -/
theorem core_localWrite (s : State) (h a : Nat) (b : List Byte) :
    ∃ c, (s.localWrite h a b).core h = { s.core h with scratch := c } := by
  unfold State.localWrite
  split
  · exact ⟨_, core_setCore_same s h _⟩
  · split
    · exact ⟨_, rfl⟩
    · exact ⟨_, rfl⟩

theorem headStore_of_local (hsent : x.sent = none) (ha : localBlock x.addr = true) (s : State) (h : Nat) :
    s.headStore h x = (s.localWrite h x.addr x.bytes).setCore h
      { (s.localWrite h x.addr x.bytes).core h with
        buffer := ((s.localWrite h x.addr x.bytes).core h).buffer.drop 1 } := by
  simp [State.headStore, hsent, State.targetDead, regionAt_of_local ha, State.hazelWrite, ha]

theorem exec_storeAck_of_stores (hbuf : (s.core h).buffer = x :: rest) :
    exec (.storeAck h) s = .next ((s.headStore h x).settle h) := by
  change execStoreAck h s = _
  rw [execStoreAck, hbuf]

theorem core_headStore_of_local (hbuf : (s.core h).buffer = x :: rest) (hsent : x.sent = none)
    (ha : localBlock x.addr = true) : ∃ c, (s.headStore h x).core h = { s.core h with buffer := rest, scratch := c } := by
  obtain ⟨c, hc⟩ := core_localWrite s h x.addr x.bytes
  refine ⟨c, ?_⟩
  rw [headStore_of_local hsent ha, core_setCore_same, hc, hbuf, List.drop_one, List.tail_cons]

/-! ### Stores that are dropped (R344, R349, R355) -/

/-- What a dropped store is counted and reported as. -/
theorem dropStore_reports (s : State) (kind index addr dom : Nat) (early : Bool) :
    (s.dropStore kind index addr dom early).get F.espEarlyFaultCountCount = satInc 32 (s.get F.espEarlyFaultCountCount) ∧
    (s.dropStore kind index addr dom early).get F.espEarlyFaultAddrAddress = addr % 2 ^ 48 ∧
    (s.dropStore kind index addr dom early).lastEvent = some (250, sevWarning, dom) := by
  unfold State.dropStore
  extract_lets t u v
  refine ⟨?_, ?_, lastEvent_raise _ _ _ _ _ _⟩
  · rw [get_raise, get_set_other _ _ (.inl (by decide)), get_put_other _ _ (.inl (by decide)),
      get_put_other _ _ (.inl (by decide)), get_set_other _ _ (.inl (by decide)), get_set_other _ _ (.inl (by decide)),
      get_set_other _ _ (.inl (by decide)), get_bump_same _ (by decide)]
    rfl
  · rw [get_raise, get_set_other _ _ (.inl (by decide)), get_put_other _ _ (.inr (by decide)),
      get_put_other _ _ (.inr (by decide)), get_set_other _ _ (.inr (by decide)), get_set_other _ _ (.inr (by decide)),
      get_set_same _ _ (by decide)]
    rfl

@[simp] theorem core_dropStore (s : State) (kind index addr dom : Nat) (early : Bool) (h : Nat) :
    (s.dropStore kind index addr dom early).core h = s.core h :=
  core_of_hz (((Keeps.refl 5 s).dropStore _ _ _ _ _ rfl).same .hz rfl) h

/-- The fault registers of every core lie above those of early stores. -/
theorem below_hzCoreFault {f : Fld} (hf : f.reg ≤ R.espEarlyFaultSrc) (h : Nat) :
    f.reg ≠ R.hzCoreFaultAddr h ∧ f.reg ≠ R.hzCoreFaultInfo h := by
  unfold R.espEarlyFaultSrc at hf
  unfold R.hzCoreFaultAddr R.hzCoreFaultInfo
  omega

theorem hzCoreStatus_ne_hzCoreFault (h : Nat) :
    R.hzCoreStatus h ≠ R.hzCoreFaultAddr h ∧ R.hzCoreStatus h ≠ R.hzCoreFaultInfo h := by
  unfold R.hzCoreStatus R.hzCoreFaultAddr R.hzCoreFaultInfo
  omega

/-- The oldest store of a core leaves the buffer unanswered, noted in the core's fault registers. -/
def headLost (s : State) (h : Nat) (x : BufStore) (rest : List BufStore) : State :=
  let t := s.setCore h { s.core h with buffer := rest, dropped := decide (s.coreState h != coreDraining) }
  ((t.set (F.hzCoreFaultAddrAddress h) (x.addr % 2 ^ 48)).put (F.hzCoreFaultAddrValid h) true).put
    (F.hzCoreFaultInfoStoreDropped h) true

theorem get_headLost {f : Fld} (haddr : f.reg ≠ R.hzCoreFaultAddr h) (hinfo : f.reg ≠ R.hzCoreFaultInfo h) :
    (headLost s h x rest).get f = s.get f := by
  unfold headLost
  rw [get_put_other _ _ (.inl hinfo), get_put_other _ _ (.inl haddr), get_set_other _ _ (.inl haddr)]
  rfl

theorem coreDom_headLost : (headLost s h x rest).coreDom h = s.coreDom h := by
  obtain ⟨haddr, hinfo⟩ := hzCoreStatus_ne_hzCoreFault h
  exact get_headLost haddr hinfo

theorem exec_storeTimeout_of_due (hbuf : (s.core h).buffer = x :: rest) (hsent : x.sent = some k)
    (hhost : regionAt x.addr = .host) (hdue : k + s.storeTimeout x.addr ≤ s.clk) :
    exec (.storeTimeout h) s = .next ((((headLost s h x rest).dropStore 0 h x.addr (s.coreDom h) false).markDead x.addr
      0).settle h) := by
  change execStoreTimeout h s = _
  rw [← coreDom_headLost (x := x) (rest := rest)]
  simp [execStoreTimeout, hbuf, hsent, hhost, Nat.not_lt.mpr hdue, headLost]

theorem core_headLost : (headLost s h x rest).core h =
    { s.core h with buffer := rest, dropped := decide (s.coreState h != coreDraining) } :=
  (core_of_hz (by simp only [headLost, put_hz, set_hz]) h).trans (core_setCore_same s h _)

/-- A dead host target is listed, and nothing else changes. -/
theorem markDead_of_host (hhost : regionAt a = .host) (s : State) (link : Nat) :
    ∃ l, s.markDead a link = { s with hz := { s.hz with deadHosts := l } } := by
  unfold State.markDead
  rw [hhost]
  dsimp only
  split
  · exact ⟨s.hz.deadHosts, rfl⟩
  · exact ⟨_, rfl⟩

theorem core_markDead_of_host (hhost : regionAt a = .host) (s : State) (link h : Nat) :
    (s.markDead a link).core h = s.core h := by
  obtain ⟨l, hl⟩ := markDead_of_host hhost s link
  rw [hl]
  rfl

theorem get_markDead_of_host (hhost : regionAt a = .host) (s : State) (link : Nat) (f : Fld) :
    (s.markDead a link).get f = s.get f := by
  obtain ⟨l, hl⟩ := markDead_of_host hhost s link
  rw [hl]
  rfl

theorem lastEvent_markDead_of_host (hhost : regionAt a = .host) (s : State) (link : Nat) :
    (s.markDead a link).lastEvent = s.lastEvent := by
  obtain ⟨l, hl⟩ := markDead_of_host hhost s link
  rw [hl]
  rfl

/-- A core that works learns of a store that it has lost. -/
def toldCore (s : State) (h a : Nat) : State :=
  if s.coreWorks h then
    (s.setCore h { s.core h with dropped := true }).set (F.hzCoreFaultAddrAddress h) (a % 2 ^ 48)
  else s

theorem get_toldCore {f : Fld} (hf : f.reg ≠ R.hzCoreFaultAddr h) : (toldCore s h a).get f = s.get f := by
  unfold toldCore
  split
  · exact get_set_other _ _ (.inl hf)
  · rfl

theorem lastEvent_toldCore : (toldCore s h a).lastEvent = s.lastEvent := by
  unfold toldCore
  split
  · rw [State.lastEvent, set_obs]
    rfl
  · rfl

theorem exec_earlyStoreDrop_of_core (s : State) (h a d : Nat) :
    exec (.earlyStoreDrop (.core h) a d) s = .next (toldCore (s.dropStore 0 h a d true) h a) := rfl

/-- Whatever its source, an early store that is lost is counted and reported. -/
theorem exec_earlyStoreDrop_reports (s : State) (src : DropSource) (a d : Nat) :
    ∃ t, exec (.earlyStoreDrop src a d) s = .next t ∧
      t.get F.espEarlyFaultCountCount = satInc 32 (s.get F.espEarlyFaultCountCount) ∧
      t.get F.espEarlyFaultAddrAddress = a % 2 ^ 48 ∧ t.lastEvent = some (250, sevWarning, d) := by
  cases src with
  | mover r => exact ⟨_, rfl, dropStore_reports s 1 r a d true⟩
  | agent k => exact ⟨_, rfl, dropStore_reports s 2 k a d true⟩
  | network q => exact ⟨_, rfl, dropStore_reports s 3 q a d true⟩
  | core h =>
    refine ⟨_, exec_earlyStoreDrop_of_core s h a d, ?_⟩
    rw [get_toldCore (below_hzCoreFault (by decide) h).1, get_toldCore (below_hzCoreFault (by decide) h).1,
      lastEvent_toldCore]
    exact dropStore_reports s 0 h a d true

/-! ### Exceptions (R351, R403, R529) -/

theorem coreFault_of_stores (hnt : (s.core h).nt = []) (hbuf : (s.core h).buffer ≠ []) (f : CoreFault) :
    s.coreFault h f = s.setCore h { s.core h with fault := some f } := by
  rw [State.coreFault, drainNt_of_nil hnt]
  exact settle_of_busy (coreQuiet_of_stores (by rwa [core_setCore_same]))

theorem exec_hazelException_of_illegal (hfree : s.coreFree h = true) :
    exec (.hazelException h pc .illegal a) s = .next ((s.atPc h pc).coreFault h
      { code := 2, status := stBadDescriptor, pc := BitVec.ofNat 64 pc, addr := a, dropped := false }) := by
  change execHazelException h pc .illegal a s = _
  simp [execHazelException, hfree, causeCode]

theorem exec_hazelException_of_ebreak (hfree : s.coreFree h = true) (hdebug : s.get F.pvDebugStatusState = 3) :
    exec (.hazelException h pc .ebreak a) s =
      .next ((s.atPc h pc).setCore h { (s.atPc h pc).core h with halted := true }) := by
  change execHazelException h pc .ebreak a s = _
  simp [execHazelException, hfree, hdebug]

theorem exec_handlerReturn_of_handler (hfree : s.coreFree h = true) (hst : s.coreState h = coreHandler) :
    exec (.handlerReturn h) s =
      .next ((s.setCore h { s.core h with pc := ((s.core h).x[10]?).getD 0 }).set (F.hzCoreStatusState h) coreRunning) := by
  change execHandlerReturn h s = _
  simp [execHandlerReturn, hfree, hst]

end

/-- Settles O36, command by command: buffers that drain, the oldest store, lost stores, exceptions. -/
theorem hazelBuffersDrainAndFault : Obligations.HazelBuffersDrainAndFault := by
  refine ⟨?idle, ?ack, ?timeout, ?drop, ?waits, ?halts, ?resumes⟩
  case idle =>
    intro s h l b hb hdue
    refine ⟨_, exec_combiningBufferIdle_of_due hb hdue, ?_⟩
    have hl : b.line = l := by simpa using List.find?_some hb
    rw [nt_drainBuf, hl]
    simp
  case ack =>
    intro s h b l hbuf hsent ha hbar hfault
    refine ⟨_, exec_storeAck_of_stores hbuf, ?_⟩
    obtain ⟨c, hc⟩ := core_headStore_of_local hbuf hsent ha
    rw [settle_of_free (by rwa [hc]) (by rwa [hc]), hc]
  case timeout =>
    intro s h k b l _ hbuf hsent hhost hdue hbar hfault
    refine ⟨_, exec_storeTimeout_of_due hbuf hsent hhost hdue, ?_⟩
    obtain ⟨hcount, -, hevent⟩ := dropStore_reports (headLost s h b l) 0 h b.addr (s.coreDom h) false
    have hcore := (core_markDead_of_host hhost ((headLost s h b l).dropStore 0 h b.addr (s.coreDom h) false) 0 h).trans
      ((core_dropStore _ _ _ _ _ _ _).trans core_headLost)
    obtain ⟨haddr, hinfo⟩ := below_hzCoreFault (f := F.espEarlyFaultCountCount) (by decide) h
    rw [settle_of_free (by rwa [hcore]) (by rwa [hcore]), hcore, get_markDead_of_host hhost,
      lastEvent_markDead_of_host hhost, hcount, hevent, get_headLost haddr hinfo]
    exact ⟨rfl, rfl, rfl⟩
  case drop => exact exec_earlyStoreDrop_reports
  case waits =>
    intro s h pc a hfree hnt hbuf
    refine ⟨_, exec_hazelException_of_illegal hfree, ?_⟩
    rw [coreFault_of_stores (by rwa [core_atPc]) (by rwa [core_atPc]), core_setCore_same]
  case halts =>
    intro s h pc a hfree hdebug
    refine ⟨_, exec_hazelException_of_ebreak hfree hdebug, ?_⟩
    rw [core_setCore_same, core_atPc]
    exact ⟨rfl, rfl⟩
  case resumes =>
    intro s h hfree hst
    refine ⟨_, exec_handlerReturn_of_handler hfree hst, ?_, get_set_same _ _ (show 0 + 3 ≤ 64 by decide)⟩
    exact congrArg HzCore.pc (core_setCore_same s h _)

end Sys2Proof.Proofs.Cores

/-!
PROOFS. Ring pairs: the registers of keys that a ring touches, rings that become Disabled, and doorbells, enable and disable
(O39).
-/
namespace Sys2Proof.Proofs.Rings
open Sys2Proof.Machine Sys2Proof.Machine.State Sys2Proof.Proofs.Descriptors
open Sys2Proof.Proofs.TimeBase (Apart lastEvent_raise)
open Sys2Proof.Proofs.Persistence (lastEvent_set)

/-! ### What the key of a ring's domain writes (R442, R443) -/

section
variable {dom a : Nat}

/-- The registers that show the key of a domain, or count the keys loaded. -/
def KeyReg (dom a : Nat) : Prop := a = R.cipDomXts dom ∨ a = R.cipKeys ∨ a = R.cipXtsSwitchCount

theorem not_keyReg (h : R.cipXtsSwitchCount < a) (hoff : a % 0x1000 ≠ 4) : ¬ KeyReg dom a := by
  unfold KeyReg R.cipDomXts R.cipKeys
  unfold R.cipXtsSwitchCount at *
  omega

variable (ha : ¬ KeyReg dom a)
include ha

theorem reg_showKeys (s : State) : (s.showKeys dom).reg a = s.reg a := by
  obtain ⟨hdom, hkeys⟩ : a ≠ R.cipDomXts dom ∧ a ≠ R.cipKeys := ⟨fun e => ha (.inl e), fun e => ha (.inr (.inl e))⟩
  unfold State.showKeys State.put
  dsimp only
  rw [reg_set_other _ _ hkeys, reg_set_other _ _ hkeys, reg_set_other _ _ hdom, reg_set_other _ _ hdom]

theorem reg_loadKey (s : State) (core : Nat) (pinned : Bool) : (s.loadKey core dom pinned).reg a = s.reg a := by
  have hcount : a ≠ R.cipXtsSwitchCount := fun e => ha (.inr (.inr e))
  unfold State.loadKey State.bump
  dsimp only
  rw [reg_showKeys ha, MemoryWindow.reg_cCip, reg_set_other _ _ hcount]
  rfl

theorem reg_pinKey (s : State) : (s.pinKey dom).reg a = s.reg a := by
  unfold State.pinKey
  split
  · rfl
  · split
    · exact reg_showKeys ha _
    · split
      · exact reg_loadKey ha s _ true
      · rfl

theorem reg_touchKey (s : State) : (s.touchKey dom).reg a = s.reg a := by
  unfold State.touchKey
  split
  · exact (reg_showKeys ha _).trans (reg_pinKey ha (withCip s _))
  · split
    · exact reg_showKeys ha (withCip s _)
    · rfl

end

/-! ### The registers of a ring -/

section
variable (s : State) (x : RingState)

@[simp] theorem reg_withRg (a : Nat) : (withRg s x).reg a = s.reg a := rfl

@[simp] theorem get_withRg (f : Fld) : (withRg s x).get f = s.get f := rfl

@[simp] theorem withRg_rg : (withRg s x).rg = x := rfl

@[simp] theorem withRg_lastEvent : (withRg s x).lastEvent = s.lastEvent := rfl

end

section
variable {s t : State} {r x : Nat} {f : Fld}

theorem status_ne_engine (r : Nat) : R.ringStatus r ≠ R.ringEngineStatus := by
  unfold R.ringStatus R.ringEngineStatus
  omega

theorem status_ne_haltCount (r : Nat) : R.ringStatus r ≠ R.ringHaltCount := by
  unfold R.ringStatus R.ringHaltCount
  omega

theorem status_ne_ctl (r : Nat) : R.ringStatus r ≠ R.ringCtl r := by
  unfold R.ringStatus R.ringCtl
  omega

theorem status_ne_progSkip (r : Nat) : R.ringStatus r ≠ R.ringProgSkip r := by
  unfold R.ringStatus R.ringProgSkip
  omega

theorem index_ne_doorbells (r : Nat) : R.ringIndex r ≠ R.ringDbSqTail r ∧ R.ringIndex r ≠ R.ringDbCqHead r := by
  unfold R.ringIndex R.ringDbSqTail R.ringDbCqHead
  omega

theorem index_ne_control (r : Nat) : R.ringIndex r ≠ R.ringStatus r ∧ R.ringIndex r ≠ R.ringCtl r ∧
    R.ringIndex r ≠ R.ringProgSkip r := by
  unfold R.ringIndex R.ringStatus R.ringCtl R.ringProgSkip
  omega

/-- State shares no bit with HaltCause or InFlight, nor does HaltCause with State or InFlight. -/
theorem status_apart (r : Nat) : Apart (F.ringStatusHaltCause r) (F.ringStatusState r) ∧
    Apart (F.ringStatusInFlight r) (F.ringStatusState r) ∧ Apart (F.ringStatusState r) (F.ringStatusHaltCause r) ∧
    Apart (F.ringStatusInFlight r) (F.ringStatusHaltCause r) := by
  refine ⟨.inr ⟨?_, .inl ?_⟩, .inr ⟨?_, .inl ?_⟩, .inr ⟨?_, .inr ?_⟩, .inr ⟨?_, .inl ?_⟩⟩ <;>
    simp [F.ringStatusState, F.ringStatusHaltCause, F.ringStatusInFlight]

theorem status_ne_bind (hr : r < 4096) : R.ringStatus r ≠ R.ringBind r := by
  unfold R.ringStatus R.ringBind
  omega

theorem not_keyReg_ringStatus (dom r : Nat) : ¬ KeyReg dom (R.ringStatus r) := by
  unfold R.ringStatus
  exact not_keyReg (by unfold R.cipXtsSwitchCount; omega) (by omega)

theorem get_eq_of_reg (h : t.reg f.reg = s.reg f.reg) : t.get f = s.get f := by
  rw [State.get, State.get, h]

theorem ringState_eq_of_reg (h : t.reg (R.ringStatus r) = s.reg (R.ringStatus r)) : t.ringState r = s.ringState r :=
  get_eq_of_reg (f := F.ringStatusState r) h

theorem ringState_setRingState (hx : x < 8) : (s.setRingState r x).ringState r = x := by
  unfold State.setRingState State.ringState
  dsimp only
  rw [get_set_other _ _ (.inl (status_ne_engine r)), get_set_same _ _ (show 0 + 3 ≤ 64 by decide)]
  exact Nat.mod_eq_of_lt hx

theorem get_setRingState (hs : Apart (F.ringStatusState r) f) (he : f.reg ≠ R.ringEngineStatus) :
    (s.setRingState r x).get f = s.get f := by
  unfold State.setRingState
  dsimp only
  rw [get_set_other _ _ (.inl he), get_set_other _ _ hs]

theorem rg_setRingState : (s.setRingState r x).rg = s.rg := by
  unfold State.setRingState
  dsimp only
  rw [set_rg, set_rg]

theorem lastEvent_setRingState : (s.setRingState r x).lastEvent = s.lastEvent := by
  unfold State.setRingState
  dsimp only
  rw [lastEvent_set, lastEvent_set]

theorem get_showRing (hi : Apart (F.ringStatusInFlight r) f) (he : f.reg ≠ R.ringEngineStatus) :
    (s.showRing r).get f = s.get f := by
  unfold State.showRing
  rw [get_set_other _ _ (.inl he), get_set_other _ _ hi]

theorem ringState_showRing : (s.showRing r).ringState r = s.ringState r := by
  obtain ⟨-, hflight, -, -⟩ := status_apart r
  exact get_showRing hflight (status_ne_engine r)

theorem rg_showRing : (s.showRing r).rg = s.rg := by rw [State.showRing, set_rg, set_rg]

theorem lastEvent_showRing : (s.showRing r).lastEvent = s.lastEvent := by
  rw [State.showRing, lastEvent_set, lastEvent_set]

theorem ringDescs_eq_of_descs (h : t.rg.descs = s.rg.descs) : t.ringDescs r = s.ringDescs r := by
  rw [State.ringDescs, State.ringDescs, h]

end

/-! ### Rings that become Disabled (Table 11.2) -/

section
variable {s : State} {r : Nat}

theorem ringState_disabledRing (hr : r < 4096) : (s.disabledRing r).ringState r = ringDisabled := by
  have hdown : ((((s.setRingState r ringDisabled).put (F.ringCtlEnable r) false).touchKey (s.ringDom r))).ringState r
      = ringDisabled := by
    rw [ringState_eq_of_reg (reg_touchKey (not_keyReg_ringStatus _ r) _), State.ringState,
      get_put_other _ _ (.inl (status_ne_ctl r))]
    exact ringState_setRingState (by decide)
  unfold State.disabledRing
  extract_lets u rings
  split
  next x _ =>
    have hbind : (u.applyBind r x.2).ringState r = u.ringState r :=
      get_setReg_other _ _ (status_ne_bind hr)
    exact hbind.trans hdown
  next => exact hdown

theorem ringEmpty_of_descs (h : s.ringDescs r ≠ []) : s.ringEmpty r = s := by
  simp only [State.ringEmpty, h, decide_false, Bool.and_false, Bool.false_eq_true, if_false]

theorem ringEmpty_of_state (hd : s.ringState r ≠ ringDraining) (ha : s.ringState r ≠ ringAborting) : s.ringEmpty r = s := by
  simp only [State.ringEmpty, hd, ha, decide_false, Bool.or_self, Bool.false_and, Bool.false_eq_true, if_false]

/-- With no descriptor left, a Draining or Aborting ring becomes Disabled, with event 164. -/
theorem ringEmpty_disables (hr : r < 4096) (hstate : s.ringState r = ringDraining ∨ s.ringState r = ringAborting)
    (hnone : s.ringDescs r = []) : (s.ringEmpty r).ringState r = ringDisabled ∧
      (s.ringEmpty r).lastEvent = some (164, sevInfo, noDom) := by
  have hleaves : ((decide (s.ringState r = ringDraining) || decide (s.ringState r = ringAborting)) &&
      decide (s.ringDescs r = [])) = true := by
    simpa [hnone] using hstate
  unfold State.ringEmpty
  rw [if_pos hleaves]
  exact ⟨ringState_disabledRing hr, lastEvent_raise _ _ _ _ _ _⟩

end

/-! ### Doorbells (R357, R362) -/

section
variable {s : State} {r dom : Nat} {v : BitVec 16}

theorem exec_ringSqTailDoorbell_of_refused (hr : r < 4096) (href : s.pageRefused r dom = true) :
    exec (.ringSqTailDoorbell r dom v) s = .next (s.raise 160 sevNotice 0 noDom [d4 r, d4 dom]) := by
  change execRingSqTailDoorbell r dom v s = _
  rw [execRingSqTailDoorbell, if_neg (Nat.not_le.mpr hr), if_pos href, State.refusePage]

theorem exec_ringSqTailDoorbell_of_accepted (hr : r < 4096) (href : s.pageRefused r dom = false) :
    exec (.ringSqTailDoorbell r dom v) s = .next (s.ringTail r v.toNat) := by
  change execRingSqTailDoorbell r dom v s = _
  rw [execRingSqTailDoorbell, if_neg (Nat.not_le.mpr hr), if_neg (Bool.eq_false_iff.mp href)]

theorem exec_ringCqHeadDoorbell_of_accepted (hr : r < 4096) (href : s.pageRefused r dom = false) :
    exec (.ringCqHeadDoorbell r dom v) s = .next (s.ringHead r v.toNat) := by
  change execRingCqHeadDoorbell r dom v s = _
  rw [execRingCqHeadDoorbell, if_neg (Nat.not_le.mpr hr), if_neg (Bool.eq_false_iff.mp href)]

theorem ringTail_of_room {x : Nat} (hmode : s.remoteMode r = false) (hstate : s.ringState r = ringEnabled)
    (hnew : s.get (F.ringIndexSqTail r) ≠ x) (hroom : State.sub16 x (s.get (F.ringIndexSqHead r)) ≤ s.sqSize r) :
    s.ringTail r x = (s.set (F.ringIndexSqTail r) x).set (F.ringDbSqTailTail r) x := by
  simp only [State.ringTail, hmode, hstate, hnew, hroom, Bool.false_and, bne_self_eq_false, Bool.false_eq_true, if_false,
    if_true]

theorem ringHead_of_used {x : Nat} (hstate : s.ringState r ≠ ringDisabled) (hnew : s.get (F.ringIndexCqHead r) ≠ x)
    (hroom : State.sub16 (s.get (F.ringIndexCqTail r)) x ≤ s.cqUsed r) :
    s.ringHead r x = (s.set (F.ringIndexCqHead r) x).set (F.ringDbCqHeadHead r) x := by
  simp only [State.ringHead, hstate, hnew, hroom, if_false, if_true]

/-- The doorbell register holds the value written, and so does the index that follows it. -/
theorem exec_ringSqTailDoorbell_advances (hr : r < 4096) (href : s.pageRefused r dom = false)
    (hmode : s.remoteMode r = false) (hstate : s.ringState r = ringEnabled) (hnew : s.get (F.ringIndexSqTail r) ≠ v.toNat)
    (hroom : State.sub16 v.toNat (s.get (F.ringIndexSqHead r)) ≤ s.sqSize r) :
    ∃ t, exec (.ringSqTailDoorbell r dom v) s = .next t ∧ t.get (F.ringIndexSqTail r) = v.toNat ∧
      t.get (F.ringDbSqTailTail r) = v.toNat ∧ t.get (F.ringIndexSqHead r) = s.get (F.ringIndexSqHead r) := by
  rw [exec_ringSqTailDoorbell_of_accepted hr href, ringTail_of_room hmode hstate hnew hroom]
  obtain ⟨hne, -⟩ := index_ne_doorbells r
  refine ⟨_, rfl, ?tail, ?doorbell, ?head⟩
  case tail =>
    rw [get_set_other _ _ (.inl hne), get_set_same _ _ (show 16 + 16 ≤ 64 by decide)]
    exact Nat.mod_eq_of_lt v.isLt
  case doorbell =>
    rw [get_set_same _ _ (show 0 + 16 ≤ 64 by decide)]
    exact Nat.mod_eq_of_lt v.isLt
  case head =>
    rw [get_set_other _ _ (.inl hne),
      get_set_other _ _ (.inr ⟨show 16 + 16 ≤ 64 by decide, .inl (show 0 + 16 ≤ 16 by decide)⟩)]

theorem exec_ringCqHeadDoorbell_advances (hr : r < 4096) (href : s.pageRefused r dom = false)
    (hstate : s.ringState r ≠ ringDisabled) (hnew : s.get (F.ringIndexCqHead r) ≠ v.toNat)
    (hroom : State.sub16 (s.get (F.ringIndexCqTail r)) v.toNat ≤ s.cqUsed r) :
    ∃ t, exec (.ringCqHeadDoorbell r dom v) s = .next t ∧ t.get (F.ringIndexCqHead r) = v.toNat ∧
      t.get (F.ringDbCqHeadHead r) = v.toNat ∧ t.get (F.ringIndexCqTail r) = s.get (F.ringIndexCqTail r) := by
  rw [exec_ringCqHeadDoorbell_of_accepted hr href, ringHead_of_used hstate hnew hroom]
  obtain ⟨-, hne⟩ := index_ne_doorbells r
  refine ⟨_, rfl, ?head, ?doorbell, ?tail⟩
  case head =>
    rw [get_set_other _ _ (.inl hne), get_set_same _ _ (show 32 + 16 ≤ 64 by decide)]
    exact Nat.mod_eq_of_lt v.isLt
  case doorbell =>
    rw [get_set_same _ _ (show 0 + 16 ≤ 64 by decide)]
    exact Nat.mod_eq_of_lt v.isLt
  case tail =>
    rw [get_set_other _ _ (.inl hne),
      get_set_other _ _ (.inr ⟨show 32 + 16 ≤ 64 by decide, .inr (show 32 + 16 ≤ 48 by decide)⟩)]

end

/-! ### Enable (R361, Table 11.2) -/

section
variable {s : State} {r c : Nat}

/-- The indices of the ring are 0. -/
def indicesCleared (s : State) (r : Nat) : State :=
  ((s.setReg (R.ringIndex r) 0).set (F.ringDbSqTailTail r) 0).set (F.ringDbCqHeadHead r) 0

/-- Phase is 1, HaltCause none, Enable set, and no progress record skipped. -/
def statusCleared (s : State) (r : Nat) : State :=
  (((s.put (F.ringStatusPhase r) true).set (F.ringStatusHaltCause r) 0).put (F.ringCtlEnable r) true).set
    (F.ringProgSkipCount r) 0

/-- Nothing is kept of an earlier use of the ring. -/
def useForgotten (s : State) (r : Nat) : State :=
  withRg s { s.rg with flushed := s.rg.flushed.filter (fun x => x.1 != r),
                       unnotified := s.rg.unnotified.filter (fun x => x.ring != r) }

/-- The ring as it is before its state changes. -/
def ringPrepared (s : State) (r : Nat) : State := useForgotten (statusCleared (indicesCleared s r) r) r

/-- The ring is Enabled, and its domain may have become active. -/
def ringStarted (s : State) (r : Nat) : State :=
  ((ringPrepared s r).setRingState r ringEnabled).touchKey ((ringPrepared s r).ringDom r)

theorem exec_ringEnable_of_accepted (hr : r < 4096) (hstate : s.ringState r = ringDisabled)
    (hacc : s.enableRefusal r = none) : exec (.ringEnable r) s = .next (ringStarted s r) := by
  change execRingEnable r s = _
  simp only [execRingEnable, hr, if_true, State.enableRing, hstate, hacc, bne_self_eq_false, Bool.false_eq_true, if_false]
  rfl

theorem exec_ringEnable_of_refused (hr : r < 4096) (hstate : s.ringState r = ringDisabled)
    (href : s.enableRefusal r = some c) : exec (.ringEnable r) s
      = .next ((s.put (F.ringStatusEnableRefused r) true).raise 162 sevNotice 0 noDom [d4 r, d4 (Config.codeOf 10 c)]) := by
  change execRingEnable r s = _
  simp only [execRingEnable, hr, if_true, State.enableRing, hstate, href, bne_self_eq_false, Bool.false_eq_true, if_false]

theorem index_ringPrepared : (ringPrepared s r).reg (R.ringIndex r) = 0 := by
  obtain ⟨htail, hhead⟩ := index_ne_doorbells r
  obtain ⟨hstatus, hctl, hskip⟩ := index_ne_control r
  rw [ringPrepared, useForgotten, reg_withRg, statusCleared, State.put, State.put, reg_set_other _ _ hskip,
    reg_set_other _ _ hctl, reg_set_other _ _ hstatus, reg_set_other _ _ hstatus, indicesCleared, reg_set_other _ _ hhead,
    reg_set_other _ _ htail, reg_setReg_same]

theorem phase_ringPrepared : (ringPrepared s r).get (F.ringStatusPhase r) = 1 := by
  rw [ringPrepared, useForgotten, get_withRg, statusCleared, get_set_other _ _ (.inl (status_ne_progSkip r)),
    get_put_other _ _ (.inl (status_ne_ctl r)),
    get_set_other _ _ (.inr ⟨show 4 + 3 ≤ 64 by decide, .inr (show 4 + 3 ≤ 8 by decide)⟩),
    get_put_same _ _ (show 8 + 1 ≤ 64 by decide) Nat.one_pos, if_pos rfl]

theorem haltCause_ringPrepared : (ringPrepared s r).get (F.ringStatusHaltCause r) = 0 := by
  rw [ringPrepared, useForgotten, get_withRg, statusCleared, get_set_other _ _ (.inl (status_ne_progSkip r)),
    get_put_other _ _ (.inl (status_ne_ctl r)),
    get_set_same _ _ (show 4 + 3 ≤ 64 by decide), Nat.zero_mod]

theorem descs_useForgotten : (useForgotten s r).rg.descs = s.rg.descs := rfl

theorem descs_ringPrepared : (ringPrepared s r).rg.descs = s.rg.descs := by
  rw [ringPrepared, descs_useForgotten, statusCleared, set_rg, put_rg, set_rg, put_rg, indicesCleared, set_rg, set_rg,
    setReg_rg]

theorem reg_ringStarted_ringStatus :
    (ringStarted s r).reg (R.ringStatus r) = ((ringPrepared s r).setRingState r ringEnabled).reg (R.ringStatus r) := by
  rw [ringStarted, reg_touchKey (not_keyReg_ringStatus _ r)]

theorem get_ringStarted {lo w : Nat} (hlo : 3 ≤ lo) : (ringStarted s r).get ⟨R.ringStatus r, lo, w⟩
    = (ringPrepared s r).get ⟨R.ringStatus r, lo, w⟩ := by
  have hapart : Apart (F.ringStatusState r) ⟨R.ringStatus r, lo, w⟩ :=
    .inr ⟨show 0 + 3 ≤ 64 by decide, .inr (show 0 + 3 ≤ lo from hlo)⟩
  rw [get_eq_of_reg reg_ringStarted_ringStatus, get_setRingState hapart (status_ne_engine r)]

theorem exec_ringEnable_enables (hr : r < 4096) (hstate : s.ringState r = ringDisabled)
    (hacc : s.enableRefusal r = none) : ∃ t, exec (.ringEnable r) s = .next t ∧ t.ringState r = ringEnabled ∧
      t.reg (R.ringIndex r) = 0 ∧ t.on (F.ringStatusPhase r) = true ∧ t.get (F.ringStatusHaltCause r) = 0 ∧
      t.rg.descs = s.rg.descs := by
  refine ⟨_, exec_ringEnable_of_accepted hr hstate hacc, ?state, ?index, ?phase, ?cause, ?descs⟩
  case state => rw [ringState_eq_of_reg reg_ringStarted_ringStatus, ringState_setRingState (by decide)]
  case index =>
    have hsame : SameIndex (ringPrepared s r) (ringStarted s r) :=
      (SameIndex.setRingState _ r ringEnabled).trans (SameIndex.touchKey _ _)
    exact (hsame r).trans index_ringPrepared
  case phase =>
    have hget : (ringStarted s r).get (F.ringStatusPhase r) = 1 := (get_ringStarted (by decide)).trans phase_ringPrepared
    rw [State.on, hget]
    rfl
  case cause => exact (get_ringStarted (by decide)).trans haltCause_ringPrepared
  case descs =>
    have hkeeps : (ringStarted s r).rg = (ringPrepared s r).rg :=
      (((Keeps.refl 65541 _).setRingState r _ rfl).touchKey _ rfl).same .rg rfl
    rw [hkeeps, descs_ringPrepared]

end

/-! ### Disable (Table 11.2) -/

section
variable {s : State} {r : Nat}

/-- The ring is no longer to serve. -/
def ringLeft (s : State) (r x : Nat) : State := (s.put (F.ringCtlEnable r) false).setRingState r x

theorem rg_ringLeft (s : State) (r x : Nat) : (ringLeft s r x).rg = s.rg := by rw [ringLeft, rg_setRingState, put_rg]

theorem ringState_ringLeft {x : Nat} (hx : x < 8) : (ringLeft s r x).ringState r = x := ringState_setRingState hx

theorem exec_ringDisable_of_serving (hr : r < 4096) (hstate : s.ringState r = ringEnabled ∨ s.ringState r = ringHalted) :
    exec (.ringDisable r) s = .next ((ringLeft s r ringDraining).ringEmpty r) := by
  have hserves : (decide (s.ringState r = ringEnabled) || decide (s.ringState r = ringHalted)) = true := by
    simpa using hstate
  change execRingDisable r s = _
  rw [execRingDisable, if_pos hr, State.disableRing, if_pos hserves, ringLeft]

theorem exec_ringDisable_drains (hr : r < 4096) (hstate : s.ringState r = ringEnabled ∨ s.ringState r = ringHalted)
    (hsome : s.ringDescs r ≠ []) : ∃ t, exec (.ringDisable r) s = .next t ∧ t.ringState r = ringDraining ∧ t.rg = s.rg ∧
      t.on (F.ringCtlEnable r) = false := by
  have hrg := rg_ringLeft s r ringDraining
  refine ⟨ringLeft s r ringDraining, ?_, ringState_ringLeft (by decide), hrg, ?enable⟩
  · rw [exec_ringDisable_of_serving hr hstate, ringEmpty_of_descs]
    rwa [ringDescs_eq_of_descs (congrArg RingState.descs hrg)]
  case enable =>
    have hne : R.ringCtl r ≠ R.ringEngineStatus := by
      unfold R.ringCtl R.ringEngineStatus
      omega
    rw [State.on, ringLeft, get_setRingState (.inl (status_ne_ctl r).symm) hne,
      get_put_same _ _ (show 0 + 1 ≤ 64 by decide) Nat.one_pos]
    rfl

theorem exec_ringDisable_disables (hr : r < 4096) (hstate : s.ringState r = ringEnabled ∨ s.ringState r = ringHalted)
    (hnone : s.ringDescs r = []) : ∃ t, exec (.ringDisable r) s = .next t ∧ t.ringState r = ringDisabled ∧
      t.lastEvent = some (164, sevInfo, noDom) := by
  refine ⟨_, exec_ringDisable_of_serving hr hstate, ?_⟩
  refine ringEmpty_disables hr (.inl (ringState_ringLeft (by decide))) ?_
  rwa [ringDescs_eq_of_descs (congrArg RingState.descs (rg_ringLeft s r ringDraining))]

end

end Sys2Proof.Proofs.Rings

/-!
PROOFS. Ring pairs: abort, bindings, the fetch of descriptors and remote submission (O39).
-/
namespace Sys2Proof.Proofs.Rings
open Sys2Proof.Machine Sys2Proof.Machine.State Sys2Proof.Proofs.Descriptors
open Sys2Proof.Proofs.TimeBase (Apart lastEvent_raise)
open Sys2Proof.Proofs.Persistence (lastEvent_set)

/-! ### Abort (R364, Table 11.2) -/

section
variable {s : State} {r n : Nat} {d : Desc}

/-- The fetches of the ring that are under way have ended. -/
def fetchesEnded (s : State) (r : Nat) : State :=
  withRg s { s.rg with descs := s.rg.descs.filter (fun (d : Desc) => !(d.ring = r && decide (d.phase = DescPhase.fetching))) }

theorem descs_fetchesEnded : (fetchesEnded s r).rg.descs =
    s.rg.descs.filter (fun (d : Desc) => !(d.ring = r && decide (d.phase = DescPhase.fetching))) := rfl

/-- The number of descriptors that an abort flushes is kept for event 164. -/
def flushNoted (s : State) (r n : Nat) : State :=
  withRg s { s.rg with flushed := s.rg.flushed.filter (fun x => x.1 != r) ++ [(r, n)] }

theorem descs_flushNoted : (flushNoted s r n).rg.descs = s.rg.descs := rfl

/-- An abort before it ends any descriptor that is not being fetched. -/
def abortBegun (s : State) (r : Nat) : State := fetchesEnded (ringLeft s r ringAborting) r

/-- An abort that has ended `n` descriptors. -/
def abortShown (s : State) (r n : Nat) : State := (flushNoted s r n).showRing r

theorem descs_abortBegun : (abortBegun s r).rg.descs =
    s.rg.descs.filter (fun (d : Desc) => !(d.ring = r && decide (d.phase = DescPhase.fetching))) := by
  rw [abortBegun, descs_fetchesEnded, rg_ringLeft]

theorem ringState_abortBegun : (abortBegun s r).ringState r = ringAborting := by
  rw [State.ringState, abortBegun, fetchesEnded, get_withRg]
  exact ringState_ringLeft (by decide)

theorem descs_abortShown : (abortShown s r n).rg.descs = s.rg.descs := by
  rw [abortShown, rg_showRing, descs_flushNoted]

theorem ringState_abortShown : (abortShown s r n).ringState r = s.ringState r := by
  rw [abortShown, ringState_showRing, State.ringState, flushNoted, get_withRg]
  rfl

/-- The launches of some descriptors are cancelled, and they end with a status. -/
def launchesEnded (st : Nat) (l : List Desc) (s : State) : State :=
  l.foldl (fun s d => (s.cancelLaunch d st).finish d.ring d.handle st 0) s

/-- An abort ends the descriptors held for a launch with ABORTED_RESET, and then the others that have not started with
FLUSHED. -/
theorem exec_abort_of_on (hr : r < 4096) (hon : s.ringState r ≠ ringDisabled) (hnew : s.ringState r ≠ ringAborting)
    {held wait : List Desc} (hheld : (s.ringDescs r).filter (abortBegun s r).launchHeld = held)
    (hwait : (s.ringDescs r).filter (fun d => (abortBegun s r).unstarted d && !(abortBegun s r).launchHeld d) = wait) :
    exec (.abort r) s = .next ((abortShown
      (launchesEnded stFlushed wait (launchesEnded stAbortedReset held (abortBegun s r))) r
        (held.length + wait.length)).ringEmpty r) := by
  subst hheld hwait
  change execAbort r s = _
  simp only [execAbort, hr, if_true, State.abortRing, hon, hnew, decide_false, Bool.or_self, Bool.false_eq_true, if_false]
  rfl

theorem exec_abort_disables (hr : r < 4096) (hon : s.ringState r ≠ ringDisabled) (hnew : s.ringState r ≠ ringAborting)
    (hnone : s.ringDescs r = []) : ∃ t, exec (.abort r) s = .next t ∧ t.ringState r = ringDisabled ∧
      t.lastEvent = some (164, sevInfo, noDom) := by
  have hnothing (p : Desc → Bool) : (s.ringDescs r).filter p = [] := by rw [hnone, List.filter_nil]
  refine ⟨_, exec_abort_of_on hr hon hnew (hnothing _) (hnothing _), ringEmpty_disables hr (.inr ?state) ?none⟩
  case state => rw [ringState_abortShown, launchesEnded, launchesEnded, List.foldl_nil, List.foldl_nil, ringState_abortBegun]
  case none =>
    rw [State.ringDescs, descs_abortShown, launchesEnded, launchesEnded, List.foldl_nil, List.foldl_nil, descs_abortBegun,
      List.filter_comm]
    exact hnothing _

end

/-! ### A descriptor that has not started, as its ring aborts (R364) -/

section
variable {s t : State} {d : Desc} {st n r h : Nat}

/-- The slots of the hub stand below the registers of the ring engine. -/
theorem heldSlots_eq_of_reg (heq : ∀ a < R.ringEngineStatus, t.reg a = s.reg a) : t.heldSlots r h = s.heldSlots r h := by
  unfold State.heldSlots State.ownedSlots
  refine List.filter_congr fun i hi => ?_
  have hi128 : i < 128 := List.mem_range.mp hi
  have hget (f : Fld) (hf : f.reg < R.ringEngineStatus) : t.get f = s.get f := get_eq_of_reg (heq _ hf)
  have hstat : R.tbLaunchStat i < R.ringEngineStatus := by
    unfold R.tbLaunchStat R.ringEngineStatus
    omega
  have hctl : R.tbLaunchCtl i < R.ringEngineStatus := by
    unfold R.tbLaunchCtl R.ringEngineStatus
    omega
  have harg : R.tbLaunchArg i < R.ringEngineStatus := by
    unfold R.tbLaunchArg R.ringEngineStatus
    omega
  rw [State.on, State.on, hget (slotState .hub i) hstat, hget (slotOwner .hub i) hctl, hget (slotAction .hub i) hctl,
    heq (slotArg .hub i) harg]

theorem reg_abortBegun {a : Nat} (ha : a < R.ringEngineStatus) : (abortBegun s r).reg a = s.reg a := by
  obtain ⟨hctl, hstatus⟩ : a ≠ R.ringCtl r ∧ a ≠ R.ringStatus r := by
    unfold R.ringCtl R.ringStatus
    unfold R.ringEngineStatus at ha
    omega
  rw [abortBegun, fetchesEnded, reg_withRg, ringLeft, State.setRingState, reg_set_other _ _ (Nat.ne_of_lt ha),
    reg_set_other _ _ hstatus, State.put, reg_set_other _ _ hctl]

theorem keeps_abortBegun : Keeps 4097 s (abortBegun s r) :=
  (((Keeps.refl 4097 s).put _ _ rfl).setRingState _ _ rfl).upd (k := 4096) rfl rfl rfl rfl

/-- Nothing is armed for the descriptor, so cancelling its launch changes nothing. -/
theorem cancelLaunch_of_none (hheld : s.heldSlots d.ring d.handle = []) (harmed : s.md.armed = [])
    (hkernels : s.hz.kernels = []) : s.cancelLaunch d st = s := by
  simp only [State.cancelLaunch, hheld, harmed, hkernels, List.filter_nil, List.foldl_nil]

theorem finish_of_ready (hd : s.desc? r h = some d) (hp : d.phase = .ready) (hw : s.srcWaits (.ring r h) = false) :
    s.finish r h st n = s.setDesc (ended d st n) := by
  simp only [State.finish, hd, hp, hw, Bool.false_eq_true, if_false]
  rfl

theorem desc?_of_only (hdescs : s.rg.descs = [d]) : s.desc? d.ring d.handle = some d := by
  simp [State.desc?, hdescs]

theorem ringState_setDesc : (s.setDesc d).ringState r = s.ringState r := rfl

theorem descs_setDesc_only (hdescs : s.rg.descs = [d]) : (s.setDesc (ended d st n)).rg.descs = [ended d st n] := by
  simp [State.setDesc, hdescs, ended]

section
variable (hdescs : s.rg.descs = [d]) (hphase : d.phase = .ready)
include hdescs hphase

theorem descs_abortBegun_of_ready : (abortBegun s d.ring).rg.descs = [d] := by
  simp [descs_abortBegun, hdescs, hphase]

variable (harmed : s.md.armed = []) (hkernels : s.hz.kernels = []) (hheld : s.heldSlots d.ring d.handle = [])
  (hwaits : s.srcWaits (.ring d.ring d.handle) = false)
include harmed hkernels hheld hwaits

theorem launchesEnded_of_ready : launchesEnded st [d] s = s.setDesc (ended d st 0) := by
  rw [launchesEnded, List.foldl_cons, List.foldl_nil, cancelLaunch_of_none hheld harmed hkernels,
    finish_of_ready (desc?_of_only hdescs) hphase hwaits]

theorem exec_abort_of_ready (hr : d.ring < 4096) (hon : s.ringState d.ring ≠ ringDisabled)
    (hnew : s.ringState d.ring ≠ ringAborting) : exec (.abort d.ring) s = .next ((abortShown
      ((abortBegun s d.ring).setDesc (ended d stFlushed 0)) d.ring 1).ringEmpty d.ring) := by
  have hkeeps := keeps_abortBegun (s := s) (r := d.ring)
  have harmed' : (abortBegun s d.ring).md.armed = [] := (congrArg Meta.armed (hkeeps.same .md rfl)).trans harmed
  have hkernels' : (abortBegun s d.ring).hz.kernels = [] :=
    (congrArg HzState.kernels (hkeeps.same .hz rfl)).trans hkernels
  have hheld' : (abortBegun s d.ring).heldSlots d.ring d.handle = [] :=
    (heldSlots_eq_of_reg fun _ => reg_abortBegun).trans hheld
  have hwaits' : (abortBegun s d.ring).srcWaits (.ring d.ring d.handle) = false := by
    rwa [State.srcWaits, hkeeps.same .kt rfl]
  have hlaunch : (abortBegun s d.ring).launchHeld d = false := by simp [State.launchHeld, hphase, harmed', hkernels']
  have hunstarted : (abortBegun s d.ring).unstarted d = true := by simp [State.unstarted, hphase]
  have hmine (p : Desc → Bool) : (s.ringDescs d.ring).filter p = if p d then [d] else [] := by
    simp [State.ringDescs, hdescs, List.filter_cons]
  rw [exec_abort_of_on hr hon hnew (held := []) (wait := [d]), ← launchesEnded_of_ready
    (descs_abortBegun_of_ready hdescs hphase) hphase harmed' hkernels' hheld' hwaits']
  · rfl
  · rw [hmine, hlaunch]
    rfl
  · rw [hmine, hlaunch, hunstarted]
    rfl

theorem exec_abort_flushes (hr : d.ring < 4096) (hon : s.ringState d.ring ≠ ringDisabled)
    (hnew : s.ringState d.ring ≠ ringAborting) : ∃ t, exec (.abort d.ring) s = .next t ∧
      t.ringState d.ring = ringAborting ∧ t.rg.descs = [{ d with phase := .finished (worse stFlushed d.worst) 0 }] := by
  have hended : (abortShown ((abortBegun s d.ring).setDesc (ended d stFlushed 0)) d.ring 1).rg.descs =
      [ended d stFlushed 0] := by
    rw [descs_abortShown, descs_setDesc_only (descs_abortBegun_of_ready hdescs hphase)]
  refine ⟨_, exec_abort_of_ready hdescs hphase harmed hkernels hheld hwaits hr hon hnew, ?_⟩
  rw [ringEmpty_of_descs]
  · rw [ringState_abortShown, ringState_setDesc]
    exact ⟨ringState_abortBegun, hended⟩
  · rw [State.ringDescs, hended]
    simp [ended]

end

end

/-! ### Bindings (R356) -/

theorem exec_ringBindWrite_of_disabled {s : State} {r : Nat} (v : BitVec 32) (hr : r < 4096)
    (hstate : s.ringState r = ringDisabled) :
    exec (.ringBindWrite r v) s = .next (s.setReg (R.ringBind r) (v.setWidth 64 &&& 0xFFFFFF)) := by
  change execRingBindWrite r v s = _
  rw [execRingBindWrite, if_neg (Nat.not_le.mpr hr), if_pos hstate, State.applyBind]

/-! ### The fetch of descriptors (R363) -/

section
variable {s : State} {r n head : Nat}

/-- A descriptor whose read has been sent. -/
def fetched (s : State) (r index : Nat) : Desc :=
  { ring := r, handle := s.rg.nextHandle, index := index, words := [], stamp := 0, phase := .fetching, late := false,
    begun := 0, periods := 0, left := 0, worst := stOk, acc := 0 }

/-- The read of the descriptor at an offset from the first one not fetched is sent. -/
def fetchOne (r head : Nat) (s : State) (k : Nat) : State :=
  withRg s { s.rg with descs := s.rg.descs ++ [fetched s r ((head + k) % 65536)], nextHandle := s.rg.nextHandle + 1 }

/-- Reads only add descriptors, all of the ring and being fetched. -/
theorem descs_fetches (s : State) (l : List Nat) : ∃ m : List Desc,
    (l.foldl (fetchOne r head) s).rg.descs = s.rg.descs ++ m ∧
      m.map (fun d => (d.ring, decide (d.phase = DescPhase.fetching))) = List.replicate l.length (r, true) := by
  induction l generalizing s with
  | nil => exact ⟨[], (List.append_nil _).symm, rfl⟩
  | cons k l ih =>
    obtain ⟨m, hm, hmap⟩ := ih (fetchOne r head s k)
    refine ⟨fetched s r ((head + k) % 65536) :: m, ?_, ?_⟩
    · rw [List.foldl_cons, hm, fetchOne, withRg_rg, List.append_assoc]
      rfl
    · rw [List.map_cons, hmap]
      rfl

/-- The submission index of the first descriptor of a ring that is not fetched. -/
def fetchHead (s : State) (r : Nat) : Nat :=
  s.get (F.ringIndexSqHead r) + ((s.ringDescs r).filter (fun (d : Desc) => decide (d.phase = DescPhase.fetching))).length

/-- A read of `n` descriptors has been sent. -/
def fetchSent (s : State) (r n : Nat) : State :=
  (((List.range n).foldl (fetchOne r (fetchHead s r)) s).showRing r).cRing 0x40 n

theorem exec_descriptorFetch_of_allowed (hr : r < 4096) (hstate : s.ringState r = ringEnabled) (hpos : 0 < n) (hn : n ≤ 8)
    (hready : n ≤ State.sub16 (s.get (F.ringIndexSqTail r)) (fetchHead s r % 65536))
    (hflight : (s.ringDescs r).length + n ≤ s.get (F.ringBindInFlightMax r))
    (hroom : s.cqUsed r + (s.ringDescs r).length + n ≤ s.cqSize r) (hcontexts : s.rg.descs.length + n ≤ 16384)
    (hup : s.get F.perStatusState ≠ 4) (hself : s.on F.pvSelftestBusy = false) :
    exec (.descriptorFetch r n) s = .next (fetchSent s r n) := by
  have hready' : ¬ State.sub16 (s.get (F.ringIndexSqTail r)) (fetchHead s r % 65536) < n := Nat.not_lt.mpr hready
  unfold fetchHead at hready'
  change execDescriptorFetch r n s = _
  simp only [execDescriptorFetch, hstate, hready', Nat.not_le.mpr hr, Nat.ne_of_gt hpos, Nat.not_lt.mpr hn,
    Nat.not_lt.mpr hflight, Nat.not_lt.mpr hroom, Nat.not_lt.mpr hcontexts, hup, hself, bne_self_eq_false, decide_false,
    Bool.or_self, Bool.false_and, Bool.false_eq_true, if_false]
  rfl

theorem rg_fetchSent : (fetchSent s r n).rg = ((List.range n).foldl (fetchOne r (fetchHead s r)) s).rg :=
  (((Keeps.refl 5 _).showRing _ rfl).cRing _ _ rfl).same .rg rfl

theorem fetchSent_adds : (fetchSent s r n).rg.descs.take s.rg.descs.length = s.rg.descs ∧
    ((fetchSent s r n).rg.descs.drop s.rg.descs.length).map (fun d => (d.ring, decide (d.phase = DescPhase.fetching)))
      = List.replicate n (r, true) := by
  obtain ⟨m, hm, hmap⟩ := descs_fetches (r := r) (head := fetchHead s r) s (List.range n)
  rw [rg_fetchSent, hm, List.take_left, List.drop_left, hmap, List.length_range]
  exact ⟨rfl, rfl⟩

end

/-! ### The end of a fetch (R364, R366) -/

section
variable {s : State} {r c : Nat} {d : Desc} {w : List (BitVec 64)}

/-- The ring's fetches end, which may leave it empty. -/
def fetchesDropped (s : State) (r : Nat) : State := ((fetchesEnded s r).showRing r).ringEmpty r

section
variable (hd : (s.ringDescs r).find? (fun d => d.phase = .fetching) = some d) (hstate : s.ringState r = ringEnabled)
  (hplace : regionAt (s.sqSlot r d.index) ≠ .window)
include hd hstate hplace

theorem exec_descriptorReadComplete_of_read : exec (.descriptorReadComplete r (some w)) s =
    .next (((s.set (F.ringIndexSqHead r) ((d.index + 1) % 65536)).setDesc
      { d with words := w, stamp := s.nowDtb }).admitDesc { d with words := w, stamp := s.nowDtb }) := by
  change execDescriptorReadComplete r (some w) s = _
  simp only [execDescriptorReadComplete, hd, hstate, hplace, decide_false, bne_self_eq_false, Bool.false_and,
    Bool.false_eq_true, if_false]
  rfl

theorem exec_descriptorReadComplete_of_fault : exec (.descriptorReadComplete r none) s =
    .next (fetchesDropped (s.haltRing r 2) r) := by
  change execDescriptorReadComplete r none s = _
  simp only [execDescriptorReadComplete, hd, hstate, hplace, decide_false, bne_self_eq_false, Bool.false_and,
    Bool.false_eq_true, if_false]
  rfl

end

/-- The halt is counted and reported. -/
def haltReported (s : State) (r cause index : Nat) : State :=
  ((s.set (F.ringStatusHaltCause r) cause).bump F.ringHaltCountCount).raise 161 sevWarning 0 noDom [d4 r, d4 cause, d4 index]

theorem get_haltReported {cause index : Nat} {f : Fld} (hf : Apart (F.ringStatusHaltCause r) f)
    (hcount : f.reg ≠ R.ringHaltCount) : (haltReported s r cause index).get f = s.get f := by
  rw [haltReported, get_raise, get_bump_other _ (.inl hcount), get_set_other _ _ hf]

theorem haltCause_haltReported {cause index : Nat} (hc : cause < 8) :
    (haltReported s r cause index).get (F.ringStatusHaltCause r) = cause := by
  rw [haltReported, get_raise, get_bump_other _ (.inl (status_ne_haltCount r)), get_set_same _ _ (show 4 + 3 ≤ 64 by decide)]
  exact Nat.mod_eq_of_lt hc

/-- A serving ring that cannot read a descriptor halts. -/
theorem haltRing_of_enabled (hstate : s.ringState r = ringEnabled) : s.haltRing r 2 =
    (haltReported s r 2 (s.get (F.ringIndexSqHead r))).setRingState r ringHalted := by
  obtain ⟨hcause, -, -, -⟩ := status_apart r
  have hafter : (haltReported s r 2 (s.get (F.ringIndexSqHead r))).ringState r = ringEnabled :=
    (get_haltReported hcause (status_ne_haltCount r)).trans hstate
  have hon : (decide (s.ringState r = ringDisabled) || decide (s.ringState r = ringAborting)) = false := by
    rw [hstate]
    rfl
  unfold haltReported at *
  simp only [State.haltRing, hon, Bool.false_eq_true, if_false, Nat.reduceEqDiff]
  rw [if_neg]
  rw [hafter]
  decide

/-- A ring that is neither Draining nor Aborting stays as it is when its fetches end. -/
theorem fetchesDropped_of_halted (hstate : s.ringState r = ringHalted) :
    fetchesDropped s r = (fetchesEnded s r).showRing r := by
  have hafter : ((fetchesEnded s r).showRing r).ringState r = ringHalted := by
    rw [ringState_showRing, State.ringState, fetchesEnded, get_withRg]
    exact hstate
  refine ringEmpty_of_state ?_ ?_ <;> rw [hafter] <;> decide

theorem exec_descriptorReadComplete_halts (hd : (s.ringDescs r).find? (fun d => d.phase = .fetching) = some d)
    (hstate : s.ringState r = ringEnabled) (hplace : regionAt (s.sqSlot r d.index) ≠ .window) :
    ∃ t, exec (.descriptorReadComplete r none) s = .next t ∧ t.ringState r = ringHalted ∧
      t.get (F.ringStatusHaltCause r) = 2 ∧ t.lastEvent = some (161, sevWarning, noDom) ∧
      (t.ringDescs r).any (fun d => d.phase = .fetching) = false := by
  have hhalted : (s.haltRing r 2).ringState r = ringHalted := by
    rw [haltRing_of_enabled hstate, ringState_setRingState (by decide)]
  rw [exec_descriptorReadComplete_of_fault hd hstate hplace, fetchesDropped_of_halted hhalted]
  refine ⟨_, rfl, ?state, ?cause, ?event, ?descs⟩
  case state =>
    rw [ringState_showRing, State.ringState, fetchesEnded, get_withRg]
    exact hhalted
  case cause =>
    obtain ⟨-, -, hstatus, hflight⟩ := status_apart r
    rw [get_showRing hflight (status_ne_engine r), fetchesEnded, get_withRg, haltRing_of_enabled hstate,
      get_setRingState hstatus (status_ne_engine r), haltCause_haltReported (by decide)]
  case event =>
    rw [lastEvent_showRing, fetchesEnded, withRg_lastEvent, haltRing_of_enabled hstate, lastEvent_setRingState,
      haltReported, lastEvent_raise]
  case descs =>
    rw [State.ringDescs, rg_showRing, descs_fetchesEnded]
    simp +contextual

end

/-! ### Remote submission (R376, R377) -/

/-- A whole number of descriptors that the submission ring has room for is placed there. -/
theorem exec_remoteSubmission_of_room {s : State} {r n : Nat} {m : Nat × List (BitVec 8)} (hr : r < 4096)
    (hmode : s.remoteMode r = true) (hstate : s.ringState r = ringEnabled)
    (hm : (s.rg.queues.filter (fun (x : Queue) => 32 ≤ x.q && x.q < 96)).findSome? (fun (x : Queue) =>
      x.items.find? (fun i => i.1 = s.get (F.ringRemoteQp r))) = some m)
    (hlen : m.2.length = 64 * n) (hpos : 0 < n) (hmost : n ≤ 16)
    (hroom : State.sub16 ((s.popQueue (s.get (F.ringRemoteQp r))).get (F.ringIndexSqTail r))
        ((s.popQueue (s.get (F.ringRemoteQp r))).get (F.ringIndexSqHead r))
      + ((s.popQueue (s.get (F.ringRemoteQp r))).ringDescs r).length + n
        ≤ (s.popQueue (s.get (F.ringRemoteQp r))).sqSize r) :
    exec (.remoteSubmission r) s = .next ((s.popQueue (s.get (F.ringRemoteQp r))).placeDescs r n m.2) := by
  have hwhole : 64 * n % 64 = 0 := Nat.mul_mod_right 64 n
  have hcount : 64 * n / 64 = n := Nat.mul_div_cancel_left n (by decide)
  change execRemoteSubmission r s = _
  simp only [execRemoteSubmission, hm, hmode, hstate, hlen, hwhole, hcount, Nat.not_le.mpr hr, Nat.ne_of_gt hpos,
    Nat.not_lt.mpr hmost, Nat.not_lt.mpr hroom, bne_self_eq_false, Bool.not_true, decide_false, Bool.or_self,
    Bool.false_eq_true, if_false]

/-- Settles O39, by the life of a ring: what a ring does when it becomes empty is said once, and the key that it may release
or take up leaves its registers. -/
theorem ringPairsAreEnabledDrivenAndEmptied : Obligations.RingPairsAreEnabledDrivenAndEmptied := by
  refine ⟨?refused, ?tail, ?head, ?enable, ?refusal, ?drains, ?disables, ?aborted, ?flushed, ?bind, ?fetch, ?read, ?fault,
    ?remote⟩
  case refused => exact fun _ _ _ _ => exec_ringSqTailDoorbell_of_refused
  case tail => exact fun _ _ _ _ => exec_ringSqTailDoorbell_advances
  case head => exact fun _ _ _ _ => exec_ringCqHeadDoorbell_advances
  case enable => exact fun _ _ => exec_ringEnable_enables
  case refusal => exact fun _ _ _ => exec_ringEnable_of_refused
  case drains => exact fun _ _ => exec_ringDisable_drains
  case disables => exact fun _ _ => exec_ringDisable_disables
  case aborted => exact fun _ _ => exec_abort_disables
  case flushed =>
    exact fun _ _ hr hon hnew hdescs hphase harmed hkernels hheld hwaits =>
      exec_abort_flushes hdescs hphase harmed hkernels hheld hwaits hr hon hnew
  case bind => exact fun _ _ v => exec_ringBindWrite_of_disabled v
  case fetch =>
    exact fun _ _ _ hr hstate hpos hn hready hflight hroom hcontexts hup hself =>
      ⟨_, exec_descriptorFetch_of_allowed hr hstate hpos hn hready hflight hroom hcontexts hup hself, fetchSent_adds⟩
  case read => exact fun _ _ _ _ _ => exec_descriptorReadComplete_of_read
  case fault => exact fun _ _ _ _ => exec_descriptorReadComplete_halts
  case remote => exact fun _ _ _ _ => exec_remoteSubmission_of_room

end Sys2Proof.Proofs.Rings

/-!
PROOFS. Sanitize: how it starts, its phases and the batches of the Overwrite (O60).
-/
namespace Sys2Proof.Proofs.Maintain
open Sys2Proof.Machine Sys2Proof.Machine.State Sys2Proof.Proofs.Descriptors
open Sys2Proof.Proofs.Flash (Shown ShownOnly not_shown_of_channel)

/-! ### A sanitize starts (R617, R618) -/

section
variable {s : State} {n st r h : Nat} {d : Desc}

theorem exec_sanitize_of_mgmt (hn : n < s.ldCount) (hmgmt : s.isMgmt n = true) (hfree : s.sanitizeRefusal = none) :
    exec (.sanitize n) s = .next ((s.sanitizeStart 3).send (.mailbox n 0x4400 .success [])) := by
  change execSanitize n s = _
  simp only [execSanitize, State.mgmtOnly, hn, hmgmt, hfree, if_true]
  rfl

theorem exec_sanitize_of_refused (hn : n < s.ldCount) (hmgmt : s.isMgmt n = true) (href : s.sanitizeRefusal = some st) :
    exec (.sanitize n) s = .next (s.send (.mailbox n 0x4400 .invalidInput [st])) := by
  change execSanitize n s = _
  simp only [execSanitize, State.mgmtOnly, hn, hmgmt, href, if_true]
  rfl

theorem sanitizeStart_starts (s : State) (scope : Nat) : (s.sanitizeStart scope).get F.pvSanitizeState = 1 ∧
    (s.sanitizeStart scope).get F.pvSanitizeScope = scope % 4 ∧ (s.sanitizeStart scope).get F.pvSanitizePosition = 0 := by
  unfold State.sanitizeStart
  dsimp only
  refine ⟨?state, ?scope, ?position⟩
  case state =>
    rw [get_set_other _ _ (by decide), get_set_other _ _ (by decide), get_set_other _ _ (by decide),
      get_set_other _ _ (by decide), get_set_same _ _ (by decide)]
    rfl
  case scope =>
    rw [get_set_other _ _ (by decide), get_set_other _ _ (by decide), get_set_other _ _ (by decide),
      get_set_same _ _ (by decide)]
    rfl
  case position => rw [get_set_other _ _ (by decide), get_set_same _ _ (by decide), Nat.zero_mod]

theorem rg_sanitizeStart (s : State) (scope : Nat) : (s.sanitizeStart scope).rg = s.rg := by
  rw [State.sanitizeStart, set_rg, set_rg, set_rg, set_rg, set_rg]

theorem exec_adminSanitize_of_free (hd : s.startedDesc? r h opSanitize = some d) (hnew : d.left ≠ 1)
    (hfree : s.sanitizeRefusal = none) :
    exec (.adminSanitize r h) s = .next ((s.setDesc { d with left := 1 }).sanitizeStart (d.num 16 1)) := by
  change execAdminSanitize r h s = _
  simp only [execAdminSanitize, hd, hnew, hfree, if_false]

theorem exec_adminSanitize_of_refused (hd : s.startedDesc? r h opSanitize = some d) (hnew : d.left ≠ 1)
    (href : s.sanitizeRefusal = some st) : exec (.adminSanitize r h) s = .next (s.finish r h st 0) := by
  change execAdminSanitize r h s = _
  simp only [execAdminSanitize, hd, hnew, href, if_false]

theorem exec_adminSanitize_starts (hd : s.startedDesc? r h opSanitize = some d) (hnew : d.left ≠ 1)
    (hfree : s.sanitizeRefusal = none) : ∃ t, exec (.adminSanitize r h) s = .next t ∧ t.get F.pvSanitizeState = 1 ∧
      t.get F.pvSanitizeScope = d.num 16 1 % 4 ∧ t.get F.pvSanitizePosition = 0 ∧
      (t.desc? r h).map (·.left) = some 1 := by
  obtain ⟨hstate, hscope, hposition⟩ := sanitizeStart_starts (s.setDesc { d with left := 1 }) (d.num 16 1)
  refine ⟨_, exec_adminSanitize_of_free hd hnew hfree, hstate, hscope, hposition, ?_⟩
  rw [desc?_eq_of_descs (congrArg RingState.descs (rg_sanitizeStart _ _)),
    desc?_setDesc_same (desc?_of_started hd).1 { d with left := 1 } rfl rfl, Option.map_some]

end

/-! ### The phases of a sanitize (R617, Table 20.4) -/

section
variable {s : State} {n : Nat}

theorem state_sanitizeNext (s : State) (hn : n < 8) : (s.sanitizeNext n).get F.pvSanitizeState = n := by
  rw [State.sanitizeNext, get_set_other _ _ (by decide), get_set_other _ _ (by decide), get_set_same _ _ (by decide)]
  exact Nat.mod_eq_of_lt hn

theorem keeps_sanitizeNext (s : State) (n : Nat) : Keeps 1 s (s.sanitizeNext n) :=
  (((Keeps.refl 1 s).set _ _ rfl).set _ _ rfl).set _ _ rfl

section
variable (hup : s.perUp = true)
include hup

theorem exec_sanitizePhase_of_keys (hstate : s.get F.pvSanitizeState = 1) :
    exec .sanitizePhase s = .next (s.sanitizeKeys.sanitizeNext 2) := by
  change execSanitizePhase s = _
  simp only [execSanitizePhase, hup, hstate, Bool.not_true, Bool.false_eq_true, if_false]

theorem exec_sanitizePhase_of_clear (hstate : s.get F.pvSanitizeState = 2) (hscope : s.get F.pvSanitizeScope ≠ 2) :
    exec .sanitizePhase s = .next (s.sanitizeClear.sanitizeNext 3) := by
  change execSanitizePhase s = _
  simp only [execSanitizePhase, hup, hstate, hscope, Bool.not_true, Bool.false_eq_true, if_false]

theorem exec_sanitizePhase_of_overwritten (hstate : s.get F.pvSanitizeState = 3)
    (hdone : s.sanitizeTiles ≤ s.get F.pvSanitizePosition) (hscope : s.get F.pvSanitizeScope = 1) :
    exec .sanitizePhase s = .next (s.sanitizeNext 5) := by
  change execSanitizePhase s = _
  simp only [execSanitizePhase, hup, hstate, hscope, Nat.not_lt.mpr hdone, Bool.not_true, Bool.false_eq_true, if_false,
    if_true]

theorem exec_sanitizePhase_of_erase (hstate : s.get F.pvSanitizeState = 4) :
    exec .sanitizePhase s = .next (s.sanitizeErase.sanitizeNext 5) := by
  change execSanitizePhase s = _
  simp only [execSanitizePhase, hup, hstate, Bool.not_true, Bool.false_eq_true, if_false]

theorem exec_sanitizePhase_of_finish (hstate : s.get F.pvSanitizeState = 5) :
    exec .sanitizePhase s = .next s.sanitizeFinish := by
  change execSanitizePhase s = _
  simp only [execSanitizePhase, hup, hstate, Bool.not_true, Bool.false_eq_true, if_false]

end

/-! #### Clear -/

/-- What follows the emptying of the tables: they are shown, the line cache and held writes go, and a checkpoint is written. -/
def clearShown (s : State) : State :=
  let v := (((s.set F.mtTallyStatusUsed 0).setWays []).showQs.showRebuild).showMirror
  State.freshRoot { v with win := { v.win with held := [] } } false

theorem sanitizeClear_eq (s : State) : ∃ u : State, s.sanitizeClear = clearShown u ∧ u.qs = [] ∧ u.md.written = [] ∧
    u.md.snaps = [] := ⟨_, rfl, rfl, rfl, rfl⟩

theorem keeps_clearShown (s : State) : Keeps 2093 s (clearShown s) := by
  have hshown : Keeps 2093 s (((s.set F.mtTallyStatusUsed 0).setWays []).showQs.showRebuild).showMirror :=
    (((((Keeps.refl 2093 s).set _ _ rfl).setWays _ rfl).showQs rfl).showRebuild rfl).showMirror rfl
  exact (hshown.upd (k := 8) rfl rfl rfl rfl).freshRoot false rfl

theorem sanitizeClear_clears (s : State) : s.sanitizeClear.qs = [] ∧ s.sanitizeClear.md.written = [] ∧
    s.sanitizeClear.md.snaps = [] := by
  obtain ⟨u, hu, hqs, hwritten, hsnaps⟩ := sanitizeClear_eq s
  rw [hu, (keeps_clearShown u).same .qs rfl, (keeps_clearShown u).same .md rfl]
  exact ⟨hqs, hwritten, hsnaps⟩

theorem exec_sanitizePhase_clears (hup : s.perUp = true) (hstate : s.get F.pvSanitizeState = 2)
    (hscope : s.get F.pvSanitizeScope ≠ 2) : ∃ t, exec .sanitizePhase s = .next t ∧ t.get F.pvSanitizeState = 3 ∧
      t.qs = [] ∧ t.md.written = [] ∧ t.md.snaps = [] := by
  have hnext := keeps_sanitizeNext s.sanitizeClear 3
  refine ⟨_, exec_sanitizePhase_of_clear hup hstate hscope, state_sanitizeNext _ (by decide), ?_⟩
  rw [hnext.same .qs rfl, hnext.same .md rfl]
  exact sanitizeClear_clears s

/-! #### Erase -/

theorem sanitizeErase_eq (s : State) : ∃ u : State, s.sanitizeErase = u.showFlash.showFcache.showFull.showVictim ∧
    u.fm.map = [] ∧ u.fm.slots = [] ∧ u.fm.bands = [] := ⟨_, rfl, rfl, rfl, rfl⟩

theorem sanitizeErase_erases (s : State) : s.sanitizeErase.fm.map = [] ∧ s.sanitizeErase.fm.slots = [] ∧
    s.sanitizeErase.fm.bands = [] := by
  obtain ⟨u, hu, hmap, hslots, hbands⟩ := sanitizeErase_eq s
  have hshown : Keeps 5 u u.showFlash.showFcache.showFull.showVictim :=
    ((((Keeps.refl 5 u).showFlash rfl).showFcache rfl).showFull rfl).showVictim rfl
  rw [hu, hshown.same .fm rfl]
  exact ⟨hmap, hslots, hbands⟩

theorem exec_sanitizePhase_erases (hup : s.perUp = true) (hstate : s.get F.pvSanitizeState = 4) :
    ∃ t, exec .sanitizePhase s = .next t ∧ t.get F.pvSanitizeState = 5 ∧ t.fm.map = [] ∧ t.fm.slots = [] ∧
      t.fm.bands = [] := by
  refine ⟨_, exec_sanitizePhase_of_erase hup hstate, state_sanitizeNext _ (by decide), ?_⟩
  rw [(keeps_sanitizeNext s.sanitizeErase 5).same .fm rfl]
  exact sanitizeErase_erases s

/-! #### Finish -/

theorem not_shown_pvSanitize : ¬ Shown R.pvSanitize := not_shown_of_channel (by decide) (by decide)

theorem reg_finish (s : State) (r h st n a : Nat) : (s.finish r h st n).reg a = s.reg a :=
  MemoryWindow.reg_of_keeps ((Keeps.refl 266240 s).finish r h st n rfl) rfl a

/-- The registers as the Finish phase leaves them: the sanitize is over with status OK, and the F-tier is Online. -/
def finishShown (s : State) : State :=
  ((s.sanitizeNext 0).set F.pvSanitizeLastStatus stOk).showMeta.set F.ftStatusState 2

/-- The descriptors of the sanitize end. -/
def sanitizesEnded (s : State) : State :=
  (s.rg.descs.filter (fun d => d.op = opSanitize && d.phase = .started && d.left = 1)).foldl
    (fun s d => s.finish d.ring d.handle stOk 0) s

theorem sanitizeFinish_eq (s : State) : ∃ u : State, s.sanitizeFinish = sanitizesEnded (finishShown u) := ⟨_, rfl⟩

theorem get_sanitizesEnded (s : State) (f : Fld) : (sanitizesEnded s).get f = s.get f := by
  rw [State.get, State.get, sanitizesEnded]
  exact congrArg (fun v => bits v f.lo f.w) (MemoryWindow.reg_foldl (fun s d => reg_finish s _ _ _ _ _) _ s)

theorem get_finishShown {f : Fld} (hf : f.reg = R.pvSanitize) :
    (finishShown s).get f = ((s.sanitizeNext 0).set F.pvSanitizeLastStatus stOk).get f := by
  have hne : f.reg ≠ F.ftStatusState.reg := by
    rw [hf]
    decide
  rw [finishShown, get_set_other _ _ (.inl hne), (ShownOnly.showMeta _).get_eq (hf ▸ not_shown_pvSanitize)]

theorem sanitizeFinish_ends (s : State) : s.sanitizeFinish.get F.pvSanitizeState = 0 ∧
    s.sanitizeFinish.get F.pvSanitizeLastStatus = stOk ∧ s.sanitizeFinish.get F.ftStatusState = 2 := by
  obtain ⟨u, hu⟩ := sanitizeFinish_eq s
  rw [hu, get_sanitizesEnded, get_sanitizesEnded, get_sanitizesEnded, get_finishShown rfl, get_finishShown rfl]
  refine ⟨?state, ?status, ?tier⟩
  case state => rw [get_set_other _ _ (by decide), state_sanitizeNext _ (by decide)]
  case status =>
    rw [get_set_same _ _ (by decide)]
    rfl
  case tier =>
    rw [finishShown, get_set_same _ _ (by decide)]
    rfl

theorem exec_sanitizePhase_finishes (hup : s.perUp = true) (hstate : s.get F.pvSanitizeState = 5) :
    ∃ t, exec .sanitizePhase s = .next t ∧ t.get F.pvSanitizeState = 0 ∧ t.get F.pvSanitizeLastStatus = stOk ∧
      t.get F.ftStatusState = 2 :=
  ⟨_, exec_sanitizePhase_of_finish hup hstate, sanitizeFinish_ends s⟩

/-! #### Batches of the Overwrite -/

/-- A part has at most 32 channels. -/
theorem sanitizeTiles_lt (s : State) : s.sanitizeTiles < 2 ^ 32 := by
  have hdies : s.part.dies ≤ 8 := TimeBase.dies_le_eight s.part
  have hchans : s.sanitizeChans.length ≤ s.channels :=
    (List.length_filter_le _ _).trans_eq List.length_range
  unfold State.sanitizeTiles tilesPerChannel
  unfold State.channels at hchans
  omega

/-- A batch that has been overwritten. -/
def batchDone (s : State) (first n : Nat) : State :=
  ((s.overwriteTiles first n).set F.pvSanitizePosition (first + n)).set F.pvSanitizePercent
    (100 * (first + n) / s.sanitizeTiles)

theorem exec_sanitizeOverwriteBatch_of_left (hup : s.perUp = true) (hstate : s.get F.pvSanitizeState = 3)
    (hleft : s.get F.pvSanitizePosition < s.sanitizeTiles) : exec .sanitizeOverwriteBatch s =
      .next (batchDone s (s.get F.pvSanitizePosition) (min 65536 (s.sanitizeTiles - s.get F.pvSanitizePosition))) := by
  change execSanitizeOverwriteBatch s = _
  simp only [execSanitizeOverwriteBatch, hup, hstate, Nat.not_le.mpr hleft, Bool.not_true, bne_self_eq_false, decide_false,
    Bool.or_self, Bool.false_eq_true, if_false]
  rfl

theorem get_overwriteTiles (s : State) (first n : Nat) (f : Fld) : (s.overwriteTiles first n).get f = s.get f := rfl

theorem exec_sanitizeOverwriteBatch_moves (hup : s.perUp = true) (hstate : s.get F.pvSanitizeState = 3)
    (hposition : s.get F.pvSanitizePosition = n) (hleft : n < s.sanitizeTiles) :
    ∃ t, exec .sanitizeOverwriteBatch s = .next t ∧
      t.get F.pvSanitizePosition = n + min 65536 (s.sanitizeTiles - n) ∧ t.get F.pvSanitizeState = 3 := by
  subst hposition
  have hfits := sanitizeTiles_lt s
  refine ⟨_, exec_sanitizeOverwriteBatch_of_left hup hstate hleft, ?position, ?state⟩
  case position =>
    rw [batchDone, get_set_other _ _ (by decide), get_set_same _ _ (by decide)]
    exact Nat.mod_eq_of_lt (show _ < 2 ^ 32 by omega)
  case state => rw [batchDone, get_set_other _ _ (by decide), get_set_other _ _ (by decide), get_overwriteTiles, hstate]

end

end Sys2Proof.Proofs.Maintain

/-!
PROOFS. The self-test: the registers that writing back leaves, the way into maintenance, and its classes (O60).
-/
namespace Sys2Proof.Proofs.Maintain
open Sys2Proof.Machine Sys2Proof.Machine.State Sys2Proof.Proofs.Descriptors
open Sys2Proof.Proofs.Flash (Shown ShownOnly not_shown_of_channel)
open Sys2Proof.Proofs.Persistence (withPw get_withPw withPw_rg)

/-! ### Registers that writing back leaves (R112, R130) -/

/-- The registers in which the line cache and Quickset show their state, beside those of other bookkeeping. -/
def cacheRegs : List Nat := [R.lcStatus, R.lcLocked, R.winQsLevel, R.winStatus]

/-- `t` differs from `s`, among the registers, at most in those that bookkeeping, the line cache or Quickset shows. -/
structure CacheOnly (s t : State) : Prop where
  reg_eq : ∀ a, ¬ Shown a → a ∉ cacheRegs → t.reg a = s.reg a

namespace CacheOnly

section
variable {s t u : State} {f : Fld}

theorem of_shownOnly (h : ShownOnly s t) : CacheOnly s t := ⟨fun a ha _ => h a ha⟩

theorem refl (s : State) : CacheOnly s s := ⟨fun _ _ _ => rfl⟩

theorem trans (h : CacheOnly s t) (g : CacheOnly t u) : CacheOnly s u :=
  ⟨fun a ha hc => (g.reg_eq a ha hc).trans (h.reg_eq a ha hc)⟩

theorem ite {c : Prop} [Decidable c] (ht : CacheOnly s t) (hu : CacheOnly s u) : CacheOnly s (if c then t else u) := by
  split
  · exact ht
  · exact hu

theorem foldl {α : Type} {g : State → α → State} (hg : ∀ s x, CacheOnly s (g s x)) (l : List α) (s : State) :
    CacheOnly s (l.foldl g s) := ⟨fun a ha hc => MemoryWindow.reg_foldl (fun s x => (hg s x).reg_eq a ha hc) l s⟩

theorem set (h : CacheOnly s t) (x : Nat) (hf : f.reg ∈ cacheRegs := by decide) : CacheOnly s (t.set f x) :=
  ⟨fun a ha hc => (reg_set_other t x (ne_of_mem_of_not_mem hf hc).symm).trans (h.reg_eq a ha hc)⟩

theorem raiseAt (h : CacheOnly s t) (src sev code dom : Nat) (data : List (Nat × Nat)) (addr : Option Nat) :
    CacheOnly s (t.raiseAt src sev code dom data addr) :=
  ⟨fun a ha hc => (reg_raiseAt t src sev code dom data addr a).trans (h.reg_eq a ha hc)⟩

/-- Other contents of Quickset, the line cache and the media. -/
theorem withQueues (h : CacheOnly s t) (qs : List QsEntry) (lc : LcState) (mt : MtState) :
    CacheOnly s { t with qs := qs, lc := lc, mt := mt } := ⟨h.reg_eq⟩

theorem put (h : CacheOnly s t) (b : Bool) (hf : f.reg ∈ cacheRegs := by decide) : CacheOnly s (t.put f b) := h.set _ hf

end

section
variable (s : State)

theorem showCache : CacheOnly s s.showCache := by
  unfold State.showCache
  extract_lets n full u
  have hu : CacheOnly s u := (((refl s).set _).put _).set _
  exact ite (hu.raiseAt _ _ _ _ _ _) hu

theorem showQs : CacheOnly s s.showQs := (((refl s).set _).set _).put _

theorem onWay (sector : Nat) (f : Way → Way) : CacheOnly s (s.onWay sector f) := by
  unfold State.onWay State.setWays
  exact CacheOnly.trans (withQueues (refl s) s.qs _ s.mt) (showCache _)

end

end CacheOnly

theorem shownOnly_listLost (s : State) (line dom stamp : Nat) : ShownOnly s (s.listLost line dom stamp) := by
  unfold State.listLost
  split
  · exact ShownOnly.journal s _
  · split
    · exact ShownOnly.journal s _
    · exact ShownOnly.ite (ShownOnly.refl s) (ShownOnly.journal s _)

namespace CacheOnly

section
variable (s : State)

/-- A plot that turns read-only is journalled, and what it loses is listed and no longer shown in the cache. -/
theorem turnReadOnly (plot : Nat) : CacheOnly s (s.turnReadOnly plot) := by
  have hlost (l : List (Nat × Nat)) (u : State) : ShownOnly u (l.foldl (fun s x => s.listLost x.1 x.2 s.nowDtb) u) :=
    ShownOnly.foldl (fun s x => shownOnly_listLost s _ _ _) l u
  have hlostQs (l : List QsEntry) (u : State) : ShownOnly u (l.foldl (fun s e => s.listLost e.line e.dom s.nowDtb) u) :=
    ShownOnly.foldl (fun s e => shownOnly_listLost s _ _ _) l u
  have hplot : ShownOnly s (s.setPlot { s.plot plot with readOnly := true }) := ShownOnly.journal s _
  unfold State.turnReadOnly
  dsimp only
  refine CacheOnly.trans (CacheOnly.trans ?_ (showCache _)) (showQs _)
  refine CacheOnly.trans (CacheOnly.trans ?_ (of_shownOnly (hlost _ _))) (of_shownOnly (hlostQs _ _))
  exact ((of_shownOnly hplot).withQueues _ _ _).raiseAt _ _ _ _ _ _

/-- A plot is placed, or it waits, or it turns read-only. -/
theorem needSpan (i : Nat) : CacheOnly s (s.needSpan i) := by
  unfold State.needSpan
  refine ite (refl s) ?_
  split
  next h => exact of_shownOnly (ShownOnly.of_placePlot h)
  next =>
    split
    · exact of_shownOnly (ShownOnly.shrinkStep _)
    · exact ite (refl s) (turnReadOnly s i)

theorem pushWrite (kind : WriteKind) (page : Option Nat) (loc group epoch : Nat) (l : List LineData) :
    CacheOnly s (s.pushWrite kind page loc group epoch l) := withQueues (refl s) s.qs s.lc _

theorem queuePage (kind : WriteKind) (page epoch : Nat) (l : List LineData) :
    CacheOnly s (s.queuePage kind page epoch l) := by
  unfold State.queuePage
  extract_lets u
  exact (needSpan s _).trans (foldl (fun s x => pushWrite s kind (some page) 0 _ epoch x) _ u)

theorem writeBack (sector : Nat) : CacheOnly s (s.writeBack sector) := by
  have hcount (n : Nat) : ShownOnly s (s.cLc 0x23 n) := .of_keeps ((Keeps.refl 4 s).cLc 0x23 n rfl) rfl
  unfold State.writeBack
  split
  · exact refl s
  · exact ite (refl s) (((of_shownOnly (hcount _)).trans (queuePage _ _ _ _ _)).trans (onWay _ _ _))

theorem writeBackAll : CacheOnly s s.writeBackAll := by
  unfold State.writeBackAll
  exact foldl (fun s (w : Way) => writeBack s w.sector) _ s

end

end CacheOnly

/-! ### The self-test begins (R621) -/

section
variable {s : State} {r h : Nat} {d : Desc}

theorem exec_adminSelftest_of_classless (hd : s.startedDesc? r h opSelftest = some d) (hnew : d.left = 0)
    (hnone : d.num 16 4 = 0) : exec (.adminSelftest r h) s = .next (s.finish r h stBadDescriptor 0) := by
  change execAdminSelftest r h s = _
  simp only [execAdminSelftest, hd, hnew, hnone, decide_true, Bool.true_or, if_true]

section
variable (hd : s.startedDesc? r h opSelftest = some d) (hnew : d.left = 0) (hsome : d.num 16 4 ≠ 0)
  (hlow : d.num 16 4 < 2 ^ 11) (hhost : s.ringInHost r = true)
include hd hnew hsome hlow hhost

theorem exec_adminSelftest_of_serving (hmode : s.on F.pvModeMaintenance = false) (hquiesce : d.quiesce = false) :
    exec (.adminSelftest r h) s = .next (s.finish r h stBusyOnline 0) := by
  change execAdminSelftest r h s = _
  simp only [execAdminSelftest, hd, hnew, hsome, Nat.not_le.mpr hlow, hhost, hmode, hquiesce, decide_false, Bool.not_true,
    Bool.not_false, Bool.or_self, Bool.and_self, Bool.false_eq_true, if_false, if_true]

theorem exec_adminSelftest_of_quiesce (hquiesce : d.quiesce = true) (hidle : s.on F.pvSelftestBusy = false) :
    exec (.adminSelftest r h) s = .next (s.setDesc { d with left := 1 }).selfQuiesce := by
  change execAdminSelftest r h s = _
  simp only [execAdminSelftest, hd, hnew, hsome, Nat.not_le.mpr hlow, hhost, hquiesce, hidle, decide_false, Bool.not_true,
    Bool.or_self, Bool.and_false, Bool.false_eq_true, if_false, if_true]

end

/-- The self-test is busy, and none of its classes has run. -/
def selfBusy (s : State) : State :=
  ((s.put F.pvSelftestBusy true).set F.pvSelftestRun 0).set F.pvSelftestFailed 0

/-- The kernels that run, and those that wait, have ended. -/
def kernelsEnded (s : State) : State :=
  (s.hz.kernels.filter (fun k => k.phase != .ending)).foldl (fun s k =>
    if k.phase = .running then s.endKernel k stAbortedReset 0 (k.cores.headD 0) false
    else s.refuseKernel k stAbortedReset) s

/-- The cache writes through, its dirty lines are written back, and the way into maintenance waits for them. -/
def quiescing (s : State) : State := withPw (s.put F.lcCtlWriteThrough true).writeBackAll { s.pw with selfStep := 1 }

theorem selfQuiesce_eq (s : State) : s.selfQuiesce = quiescing (selfBusy (kernelsEnded s)) := rfl

theorem busy_selfBusy (s : State) : (selfBusy s).on F.pvSelftestBusy = true := by
  rw [selfBusy, on_set_other _ _ (by decide), on_set_other _ _ (by decide),
    on_put_same _ _ (by decide) (by decide)]

theorem get_writeBackAll_pvSelftest (s : State) {f : Fld} (hf : f.reg = R.pvSelftest) :
    s.writeBackAll.get f = s.get f := by
  have hreg : s.writeBackAll.reg f.reg = s.reg f.reg := by
    rw [hf]
    exact (CacheOnly.writeBackAll s).reg_eq _ (not_shown_of_channel (by decide) (by decide)) (by decide)
  rw [State.get, State.get, hreg]

/-- Writing back leaves PV_SELFTEST. -/
theorem selfQuiesce_begins (s : State) :
    s.selfQuiesce.pw.selfStep = 1 ∧ s.selfQuiesce.on F.pvSelftestBusy = true := by
  rw [selfQuiesce_eq]
  refine ⟨rfl, ?_⟩
  rw [State.on, quiescing, get_withPw, get_writeBackAll_pvSelftest _ rfl, get_put_other _ _ (by decide)]
  exact busy_selfBusy (kernelsEnded s)

/-! ### The device in maintenance (R621) -/

/-- The window is Offline, and the device in maintenance. -/
def windowOff (s : State) : State := (s.set F.winStatusWindowState 0).put F.pvModeMaintenance true

/-- In maintenance the classes asked for are left to run. -/
def inMaintenance (s : State) (units : Nat) : State :=
  withPw (windowOff s) { (windowOff s).pw with
    selfStep := 3, selfLeft := (List.range 11).filter (fun k => units.testBit k) }

theorem exec_adminSelftest_of_checkpointed (hd : s.startedDesc? r h opSelftest = some d) (hbegun : d.left ≠ 0)
    (hstep : s.pw.selfStep = 2) (hwindow : s.per.window.phase = .idle) (hftier : s.per.ftier.phase = .idle) :
    exec (.adminSelftest r h) s = .next (inMaintenance s (d.num 16 4)) := by
  change execAdminSelftest r h s = _
  simp only [execAdminSelftest, hd, hbegun, hstep, hwindow, hftier, OfNat.ofNat_ne_one, decide_true, Bool.and_self,
    if_false, if_true]
  rfl

theorem inMaintenance_enters (s : State) (units : Nat) : (inMaintenance s units).pw.selfStep = 3 ∧
    (inMaintenance s units).on F.pvModeMaintenance = true ∧ (inMaintenance s units).get F.winStatusWindowState = 0 ∧
    (inMaintenance s units).pw.selfLeft = (List.range 11).filter (fun k => units.testBit k) := by
  refine ⟨rfl, ?mode, ?window, rfl⟩
  case mode =>
    rw [State.on, inMaintenance, get_withPw]
    exact on_put_same _ _ (by decide) (by decide)
  case window =>
    rw [inMaintenance, get_withPw, windowOff, get_put_other _ _ (by decide), get_set_same _ _ (by decide), Nat.zero_mod]

end

/-! ### The classes of the self-test (R605, R621) -/

section
variable {s : State} {c k : Nat} {l : List Nat} {d : Desc} {u : BitVec 64}

/-- A class has run and passed; those in `l` are left. -/
def classPassed (s : State) (c : Nat) (l : List Nat) (step : Nat) : State :=
  withPw (s.setBit F.pvSelftestRun c true) { s.pw with selfLeft := l, selfStep := step }

theorem exec_selftestClassComplete_of_more (hstep : s.pw.selfStep = 3) (hleft : s.pw.selfLeft = c :: k :: l)
    (hd : s.selfDesc? = some d) :
    exec (.selftestClassComplete false u) s = .next (classPassed s c (k :: l) 3) := by
  change execSelftestClassComplete false u s = _
  simp only [execSelftestClassComplete, hstep, hleft, hd, Bool.false_eq_true, if_false, reduceCtorEq, setBit_pw]
  rfl

/-- The Result of a self-test: Run and Failed (R621). -/
def selfResult (s : State) : Nat := s.get F.pvSelftestRun + s.get F.pvSelftestFailed * 2 ^ 16

theorem exec_selftestClassComplete_of_last (hstep : s.pw.selfStep = 3) (hleft : s.pw.selfLeft = [c])
    (hd : s.selfDesc? = some d) : exec (.selftestClassComplete false u) s = .next
      ((classPassed s c [] 4).finish d.ring d.handle stOk (selfResult (classPassed s c [] 4))) := by
  change execSelftestClassComplete false u s = _
  simp only [execSelftestClassComplete, hstep, hleft, hd, Bool.false_eq_true, if_false, if_true, setBit_pw]
  rfl

theorem exec_selftestClassComplete_of_written {f : Bool} (hstep : s.pw.selfStep = 4) (hnone : s.selfDesc? = none) :
    exec (.selftestClassComplete f u) s
      = .next ((State.coldRequest { s with pw := { s.pw with selfStep := 0 } } 6).put F.pvSelftestBusy false) := by
  change execSelftestClassComplete f u s = _
  simp only [execSelftestClassComplete, hstep, hnone]

theorem withPw_kt (s : State) (x : PwState) : (withPw s x).kt = s.kt := rfl

theorem srcWaits_classPassed (s : State) (c : Nat) (l : List Nat) (step : Nat) (src : WinSrc) :
    (classPassed s c l step).srcWaits src = s.srcWaits src := by
  rw [State.srcWaits, State.srcWaits, classPassed, withPw_kt, setBit_kt]

theorem desc?_classPassed (s : State) (c : Nat) (l : List Nat) (step r h : Nat) :
    (classPassed s c l step).desc? r h = s.desc? r h :=
  desc?_eq_of_descs (by rw [classPassed, withPw_rg, setBit_rg]) r h

theorem pw_setDesc (s : State) (d : Desc) : (s.setDesc d).pw = s.pw := rfl

theorem exec_selftestClassComplete_ends (hstep : s.pw.selfStep = 3) (hleft : s.pw.selfLeft = [c])
    (hself : s.selfDesc? = some d) (hphase : d.phase = .started) (hd : s.desc? d.ring d.handle = some d)
    (hwaits : s.srcWaits (.ring d.ring d.handle) = false) :
    ∃ t, exec (.selftestClassComplete false u) s = .next t ∧ t.pw.selfStep = 4 ∧ t.pw.selfLeft = [] ∧
      t.desc? d.ring d.handle = some (ended d stOk (selfResult (classPassed s c [] 4))) := by
  have hdesc : (classPassed s c [] 4).desc? d.ring d.handle = some d := (desc?_classPassed _ _ _ _ _ _).trans hd
  have hfree : (classPassed s c [] 4).srcWaits (.ring d.ring d.handle) = false :=
    (srcWaits_classPassed _ _ _ _ _).trans hwaits
  refine ⟨_, exec_selftestClassComplete_of_last hstep hleft hself, ?_⟩
  rw [finish_of_started hdesc hphase hfree, pw_setDesc]
  exact ⟨rfl, rfl, desc?_setDesc_same hdesc (ended d stOk _) rfl rfl⟩

end

/-- Settles O60, by phase and then by step of the self-test; each phase is what it has emptied and what it then shows, and
writing back leaves PV_SELFTEST. -/
theorem sanitizeAndSelfTestRun : Obligations.SanitizeAndSelfTestRun := by
  refine ⟨?mailbox, ?mailboxRefused, ?ring, ?ringRefused, ?keys, ?clear, ?overwritten, ?erase, ?finish, ?batch, ?classless,
    ?serving, ?quiesce, ?maintenance, ?more, ?last, ?reset⟩
  case mailbox => exact fun _ _ => exec_sanitize_of_mgmt
  case mailboxRefused => exact fun _ _ _ => exec_sanitize_of_refused
  case ring => exact fun _ _ _ _ => exec_adminSanitize_starts
  case ringRefused => exact fun _ _ _ _ _ => exec_adminSanitize_of_refused
  case keys => exact fun _ => exec_sanitizePhase_of_keys
  case clear => exact fun _ => exec_sanitizePhase_clears
  case overwritten => exact fun _ => exec_sanitizePhase_of_overwritten
  case erase => exact fun _ => exec_sanitizePhase_erases
  case finish => exact fun _ => exec_sanitizePhase_finishes
  case batch => exact fun _ _ => exec_sanitizeOverwriteBatch_moves
  case classless => exact fun _ _ _ _ => exec_adminSelftest_of_classless
  case serving => exact fun _ _ _ _ => exec_adminSelftest_of_serving
  case quiesce =>
    exact fun _ _ _ _ hd hnew hsome hlow hhost hquiesce hidle =>
      ⟨_, exec_adminSelftest_of_quiesce hd hnew hsome hlow hhost hquiesce hidle, selfQuiesce_begins _⟩
  case maintenance =>
    exact fun _ _ _ _ hd hbegun hstep hwindow hftier =>
      ⟨_, exec_adminSelftest_of_checkpointed hd hbegun hstep hwindow hftier, inMaintenance_enters _ _⟩
  case more => exact fun _ _ _ _ _ _ => exec_selftestClassComplete_of_more
  case last =>
    intro s c d u hstep hleft hself hphase hd hwaits
    obtain ⟨t, hexec, hafter, hnone, hended⟩ :=
      exec_selftestClassComplete_ends (u := u) hstep hleft hself hphase hd hwaits
    refine ⟨t, hexec, hafter, hnone, ?_⟩
    rw [hended]
    rfl
  case reset => exact fun _ _ _ => exec_selftestClassComplete_of_written

end Sys2Proof.Proofs.Maintain

/-!
PROOFS. The HZ_ registers over the host functions (O38).
-/
namespace Sys2Proof.Proofs.Cores
open Sys2Proof.Machine Sys2Proof.Machine.State Sys2Proof.Proofs.Scope

/-- An address of the HZ block of the hub, or of the HZ blocks of a cluster and of its cores. -/
def HzAddr (a : Nat) : Prop :=
  (R.hzStatus ≤ a ∧ a < R.hzStatus + 0x1000) ∨ ∃ d, d < 8 ∧ R.hzClCtl d ≤ a ∧ a < R.hzClCtl d + 0x12000

/-- The HZ blocks lie in the address space, outside the pages of the keys and of the doorbells. -/
theorem hzAddr_bounds {a : Nat} (ha : HzAddr a) :
    a < 2 ^ 48 ∧ (a < 0xF0000C000000 ∨ 0xF00011000000 ≤ a) := by
  obtain ⟨hlo, hhi⟩ | ⟨d, hd, hlo, hhi⟩ := ha
  · unfold R.hzStatus at hlo hhi
    omega
  · unfold R.hzClCtl at hlo hhi
    omega

section
variable {s : State} {dom a w : Nat} {v : Word} {x : RegPlace} (ha : HzAddr a)
include ha

theorem doorbell?_of_hzAddr : doorbell? a = none := by
  obtain ⟨-, hrange⟩ := hzAddr_bounds ha
  unfold doorbell?
  rw [if_neg]
  simp only [Bool.and_eq_true, decide_eq_true_eq]
  omega

theorem keyPage?_of_hzAddr : keyPage? a = none := by
  obtain ⟨-, hrange⟩ := hzAddr_bounds ha
  unfold keyPage?
  rw [if_neg]
  simp only [Bool.and_eq_true, decide_eq_true_eq]
  omega

/-- The HZ registers do not respond over the function of another domain. -/
theorem pathTo_of_hzAddr (hdom : dom ≠ 0) : s.pathTo dom a = .nothing := by
  simp only [State.pathTo, hdom, if_false, doorbell?_of_hzAddr ha, keyPage?_of_hzAddr ha]

theorem exec_registerWrite_of_otherDomain (hdom : dom ≠ 0) : exec (.registerWrite dom a w v) s = .next s := by
  rw [exec_registerWrite_inside (hzAddr_bounds ha).1, hostWriteReg_of_nothing (pathTo_of_hzAddr ha hdom)]

theorem exec_registerAccessBadWidth_of_otherDomain (hdom : dom ≠ 0) (read : Bool) :
    exec (.registerAccessBadWidth dom a w read) s = .next s := by
  change execRegisterAccessBadWidth dom a w read s = _
  rw [execRegisterAccessBadWidth, if_neg (Nat.not_le.mpr (hzAddr_bounds ha).1), pathTo_of_hzAddr ha hdom]

theorem exec_registerWrite_of_domainZero (hx : exactReg? s.part a w = some x) :
    exec (.registerWrite 0 a w v) s = .next (s.writeReg x a (v &&& BitVec.ofNat 64 (2 ^ (8 * w) - 1))) := by
  have hpath : s.pathTo 0 a = .reaches := rfl
  rw [exec_registerWrite_inside (hzAddr_bounds ha).1]
  simp only [State.hostWriteReg, hpath, hx, keyPage?_of_hzAddr ha]

end

/-- Settles O38: over another domain's function an access of the HZ blocks meets nothing, and over that of domain 0 it meets no
page before its register. -/
theorem hazelRegistersRespondThroughDomainZeroOnly : Obligations.HazelRegistersRespondThroughDomainZeroOnly := by
  refine ⟨?hubWrite, ?clusterWrite, ?hubBadWidth, ?clusterBadWidth, ?hubZero, ?clusterZero⟩
  case hubWrite =>
    intro s dom a w v hdom hlo hhi
    exact exec_registerWrite_of_otherDomain (.inl ⟨hlo, hhi⟩) hdom
  case clusterWrite =>
    intro s dom d a w v hdom hd hlo hhi
    exact exec_registerWrite_of_otherDomain (.inr ⟨d, hd, hlo, hhi⟩) hdom
  case hubBadWidth =>
    intro s dom a w r hdom hlo hhi
    exact exec_registerAccessBadWidth_of_otherDomain (.inl ⟨hlo, hhi⟩) hdom r
  case clusterBadWidth =>
    intro s dom d a w r hdom hd hlo hhi
    exact exec_registerAccessBadWidth_of_otherDomain (.inr ⟨d, hd, hlo, hhi⟩) hdom r
  case hubZero =>
    intro s a w v x hlo hhi hx
    exact exec_registerWrite_of_domainZero (.inl ⟨hlo, hhi⟩) hx
  case clusterZero =>
    intro s d a w v x hd hlo hhi hx
    exact exec_registerWrite_of_domainZero (.inr ⟨d, hd, hlo, hhi⟩) hx

end Sys2Proof.Proofs.Cores

/-!
PROOFS. Hazel kernels by name, and what leaves the list of kernels (for O37).
-/
namespace Sys2Proof.Proofs.Cores
open Sys2Proof.Machine Sys2Proof.Machine.State

/-! ### Kernels by name -/

section
variable {s t : State} {n h m : Nat} {k : Kernel}

theorem kernel?_of_kernels (ht : t.hz.kernels = s.hz.kernels) (n : Nat) : t.kernel? n = s.kernel? n := by
  rw [State.kernel?, State.kernel?, ht]

theorem kernelOf?_of_kernels (ht : t.hz.kernels = s.hz.kernels) (h : Nat) : t.kernelOf? h = s.kernelOf? h := by
  rw [State.kernelOf?, State.kernelOf?, ht]

theorem mem_of_kernel? (hk : s.kernel? n = some k) : k ∈ s.hz.kernels := List.mem_of_find?_eq_some hk

theorem id_of_kernel? (hk : s.kernel? n = some k) : k.id = n := by simpa using List.find?_some hk

theorem mem_of_kernelOf? (hk : s.kernelOf? h = some k) : k ∈ s.hz.kernels := List.mem_of_find?_eq_some hk

/-- A kernel that replaces one of its number is found by that number. -/
theorem kernel?_setKernel_of_mem {x : Kernel} (hx : x ∈ s.hz.kernels) (hid : k.id = x.id) :
    (s.setKernel k).kernel? x.id = some k := by
  obtain ⟨y, hy⟩ : ∃ y, s.hz.kernels.find? (fun y => y.id = k.id) = some y := by
    rw [← Option.isSome_iff_exists, List.find?_isSome]
    exact ⟨x, hx, decide_eq_true hid.symm⟩
  have hsame : (fun y : Kernel => decide ((if y.id = k.id then k else y).id = k.id)) = fun y => decide (y.id = k.id) := by
    funext y
    split
    · simp [*]
    · rfl
  have hyid : y.id = k.id := by simpa using List.find?_some hy
  rw [← hid]
  simp only [State.kernel?, State.setKernel, List.find?_map, Function.comp_def, hsame, hy, Option.map_some, hyid, if_true]

/-! ### What leaves the list of kernels -/

theorem kernels_of_keeps (ht : Keeps m s t) (hm : m.testBit 14 = false) : t.hz.kernels = s.hz.kernels :=
  congrArg HzState.kernels (ht.same .hz hm)

theorem kernels_foldl {α : Type} {f : State → α → State} (hf : ∀ s x, (f s x).hz.kernels = s.hz.kernels) (l : List α)
    (s : State) : (l.foldl f s).hz.kernels = s.hz.kernels := by
  induction l generalizing s with
  | nil => rfl
  | cons x l ih => exact (ih (f s x)).trans (hf s x)

theorem kernels_breakResv (s : State) (line : Nat) (src : WinSrc) : (s.breakResv line src).hz.kernels = s.hz.kernels := by
  unfold State.breakResv
  split <;> rfl

theorem kernels_spendCredit (s : State) (w : WinWrite) : (s.spendCredit w).hz.kernels = s.hz.kernels :=
  kernels_of_keeps ((Keeps.refl 8 s).spendCredit w rfl) rfl

theorem kernels_heatUp (s : State) (p : Nat) : (s.heatUp p).hz.kernels = s.hz.kernels :=
  kernels_of_keeps ((Keeps.refl 1024 s).heatUp p rfl) rfl

theorem kernels_xtsLine (s : State) (dom n : Nat) : (s.xtsLine dom n).hz.kernels = s.hz.kernels :=
  kernels_of_keeps ((Keeps.refl 5 s).xtsLine dom n rfl) rfl

/-- What Quickset accepts changes no more of Hazel than reservations. -/
theorem kernels_accept (s : State) (w : WinWrite) : (s.accept w).hz.kernels = s.hz.kernels := by
  unfold State.accept
  extract_lets e epoch s1 v s2 s3 s4 s5 mirrored s6
  have hmerged : Keeps 2437 s s1 := by
    clear_value e
    cases e with
    | none => exact .refl 2437 s
    | some x => exact (Keeps.refl 2437 s).mergeCapture _ _ _ _ rfl
  have hqueued : s3.hz.kernels = s2.hz.kernels := by
    unfold s3
    split <;> rfl
  have hspent : s2.hz.kernels = s1.hz.kernels := kernels_spendCredit _ w
  have hcounted : Keeps 1445277 s4 s5 :=
    (((((Keeps.refl 1445277 s4).heatUp _ rfl).countBytes _ rfl).showQs rfl).cPer _ _ rfl).xtsLine _ _ rfl
  have hanswered : Keeps 1445277 s4 (s6.answer w) := (hcounted.mirrorQueue _ _ _ _ rfl).answer w rfl
  rw [kernels_of_keeps hanswered rfl, kernels_breakResv, hqueued, hspent, kernels_of_keeps hmerged rfl]

theorem kernels_nearWrite (s : State) (w : WinWrite) : (s.nearWrite w).hz.kernels = s.hz.kernels := by
  unfold State.nearWrite
  extract_lets t x epoch joins
  have ht : t.hz.kernels = s.hz.kernels := (kernels_heatUp _ _).trans (kernels_breakResv s _ _)
  rw [← ht]
  split
  · exact kernels_of_keeps ((Keeps.refl 3573 t).queuePage _ _ _ _ rfl) rfl
  next m _ =>
    extract_lets merged kind lines m'
    have hmerged : Keeps 2437 t merged := by
      unfold merged
      split
      · exact (Keeps.refl 2437 t).mergeCapture _ _ _ _ rfl
      · exact .refl 2437 t
    have hkernels : merged.hz.kernels = t.hz.kernels := kernels_of_keeps hmerged rfl
    exact hkernels

theorem kernels_windowWrite (s : State) (w : WinWrite) : (s.windowWrite w).hz.kernels = s.hz.kernels := by
  unfold State.windowWrite
  extract_lets t listed win holders snooped
  have ht : t.hz.kernels = s.hz.kernels := kernels_of_keeps ((Keeps.refl 8 s).dropWriter w rfl) rfl
  rw [← ht]
  split_ifs
  · exact kernels_of_keeps (((Keeps.refl 1441805 t).spendCredit w rfl).answer w rfl) rfl
  · exact kernels_of_keeps ((((Keeps.refl 1444237 t).spendCredit w rfl).listLost _ _ _ rfl).answer w rfl) rfl
  · rfl
  · exact kernels_foldl (f := fun s l => s.send _) (fun _ _ => rfl) _ snooped
  · rfl
  · exact kernels_nearWrite t w
  · exact kernels_accept t w

theorem kernels_windowBytes (src : WinSrc) (dom stamp n a : Nat) (b : List Byte) (s : State) :
    (State.windowBytes src dom stamp n a b s).hz.kernels = s.hz.kernels := by
  induction n generalizing s a b with
  | zero => rfl
  | succ n ih =>
    unfold State.windowBytes
    split
    · rfl
    · exact (ih _ _ _).trans (kernels_windowWrite s _)

theorem kernels_storeRegion (s : State) (src : WinSrc) (dom stamp a : Nat) (b : List Byte) :
    (s.storeRegion src dom stamp a b).hz.kernels = s.hz.kernels := by
  unfold State.storeRegion
  split
  next => exact kernels_windowBytes src dom stamp _ a b s
  next => exact kernels_xtsLine s dom _
  next => rfl
  next => exact kernels_of_keeps ((Keeps.refl 1441797 s).agentWrite _ _ _ _ _ _ _ rfl) rfl
  next => exact kernels_of_keeps ((Keeps.refl 1441797 s).agentWrite _ _ _ _ _ _ _ rfl) rfl
  next => rfl

theorem kernels_drainBuf (s : State) (h dom : Nat) (b : NtBuf) : (s.drainBuf h dom b).hz.kernels = s.hz.kernels := by
  unfold State.drainBuf
  extract_lets c t
  have ht : t.hz.kernels = s.hz.kernels := rfl
  rw [← ht]
  split
  next => exact kernels_windowWrite t _
  next =>
    split
    · exact kernels_of_keeps ((Keeps.refl 5 t).dropStore _ _ _ _ _ rfl) rfl
    · exact kernels_foldl (fun _ _ => kernels_storeRegion _ _ _ _ _ _) _ t

theorem kernels_resetCore (s : State) (h : Nat) : (s.resetCore h).hz.kernels = s.hz.kernels :=
  kernels_foldl (fun t b => kernels_drainBuf t h (t.coreDom h) b) _ s

theorem kernels_releaseCore (s : State) (h : Nat) : (s.releaseCore h).hz.kernels = s.hz.kernels := by
  simp only [State.releaseCore, setReg_hz, set_hz]
  rfl

@[simp] theorem showCluster_hz (s : State) (d : Nat) : (s.showCluster d).hz = s.hz :=
  ((Keeps.refl 1 s).showCluster d rfl).same .hz rfl

theorem kernels_cancelCore (s : State) (h id : Nat) : (s.cancelCore h id).hz.kernels = s.hz.kernels :=
  kernels_of_keeps ((Keeps.refl 1 s).cancelCore h id rfl) rfl

theorem kernels_loadCore (s : State) (k : Kernel) (i : KImage) (arg : List Byte) (h rank state : Nat) :
    (s.loadCore k i arg h rank state).hz.kernels = s.hz.kernels := by
  simp only [State.loadCore, set_hz]
  rfl

end

end Sys2Proof.Proofs.Cores

/-!
PROOFS. Hazel kernels: launch, start, synchronisation, ends and resets, and grants of shared memory (O37).
-/
namespace Sys2Proof.Proofs.Cores
open Sys2Proof.Machine Sys2Proof.Machine.State

section
variable {s : State} {n h : Nat} {k : Kernel}

/-! ### Launch (R394, R396) -/

/-- The kernel that a launch queues on a die. -/
def launched (s : State) (r h die : Nat) (d : Desc) : Kernel :=
  { id := s.hz.nextKernel, ring := r, handle := h, tag := d.tag, dom := s.ringDom r, group := some (d.num 36 2),
    die := die, image := d.num 16 8, arg := d.num 24 8, argLen := d.num 32 4, want := d.num 38 2,
    deadlineUs := d.num 40 4, timed := if d.timed then some d.launch else none, dropLate := d.dropLate,
    late := false, phase := .queued, crc := 0, sramKiB := 0, handler := none, cores := [], armed := [],
    left := [], syncs := [], pool := [], status := stOk, code := 0, core := 0, result := 0, begun := 0, silent := false }

theorem exec_hzLaunch_of_cluster {r die : Nat} {d : Desc} (hd : s.startedDesc? r h opHzLaunch = some d)
    (hnew : s.hz.kernels.any (fun k => k.ring = r && k.handle = h) = false) (hgroup : d.num 36 2 ≠ 0xFFFF)
    (hdie : s.launchDie (some (d.num 36 2)) = .ok die) :
    ∃ t, exec (.hzLaunch r h) s = .next t ∧ t.hz.kernels = s.hz.kernels ++ [launched s r h die d] := by
  change ∃ t, execHzLaunch r h s = .next t ∧ _
  simp only [execHzLaunch, hd, hnew, hgroup, hdie, Bool.false_eq_true, if_false]
  exact ⟨_, rfl, congrArg HzState.kernels (showCluster_hz _ _)⟩

/-! ### Start (R394 to R397) -/

theorem minCores_pos (i : KImage) : 0 < i.minCores := Nat.lt_of_lt_of_le Nat.one_pos (Nat.le_max_left 1 _)

/-- A launch whose image is accepted wants the cores that the image needs. -/
theorem want_pos_of_imageStatus {i : KImage} (hst : s.imageStatus k i = stOk) : 0 < k.want := by
  unfold State.imageStatus at hst
  split_ifs at hst with _ _ hwant
  · exact absurd hst (by decide)
  · exact absurd hst (by decide)
  · exact absurd hst (by decide)
  · simp only [Bool.or_eq_true, decide_eq_true_eq, not_or, Nat.not_lt] at hwant
    exact Nat.lt_of_lt_of_le (minCores_pos i) hwant.2

/-- The kernel as it starts at once, on as many free cores as it wants. -/
def started (s : State) (k : Kernel) (i : KImage) : Kernel :=
  { k with phase := .running, sramKiB := i.sramKiB, crc := i.crc, cores := (s.freeCores k.die).take k.want,
           handler := i.handler, armed := [], begun := s.clk, late := false }

theorem stageKernel_of_untimed {i : KImage} {g : List Byte} (htimed : k.timed = none) (hwant : 0 < k.want)
    (hfree : s.freeCores k.die ≠ []) : ∃ arg, s.stageKernel k i g =
      ((((started s k i).cores.zipIdx.foldl (fun u x => u.loadCore (started s k i) i arg x.1 x.2 coreRunning)
        (s.setKernel (started s k i))).bump F.hzLaunchCountCount).showCluster k.die) := by
  have hsome : (s.freeCores k.die).take k.want ≠ [] := by
    rw [Ne, List.take_eq_nil_iff]
    exact not_or.mpr ⟨by omega, hfree⟩
  unfold State.stageKernel
  simp only [htimed, Option.isNone_none, Bool.true_or, List.filter_true, hsome, if_false, Bool.false_and, Bool.false_eq_true,
    if_true, Bool.or_false, started]
  exact ⟨_, rfl⟩

theorem kernels_stageKernel {i : KImage} {g : List Byte} (htimed : k.timed = none) (hwant : 0 < k.want)
    (hfree : s.freeCores k.die ≠ []) : (s.stageKernel k i g).hz.kernels = (s.setKernel (started s k i)).hz.kernels := by
  obtain ⟨arg, hstage⟩ := stageKernel_of_untimed (i := i) (g := g) htimed hwant hfree
  rw [hstage, showCluster_hz, bump_hz]
  apply kernels_foldl
  exact fun u x => kernels_loadCore u (started s k i) i arg x.1 x.2 coreRunning

/-- The image cache of a cluster holds the image of a launch, used now. -/
def imageKept (s : State) (die : Nat) (i : KImage) : State :=
  { s with hz := { s.hz with
      images := s.hz.images.filter (fun x => !(x.die = die && x.addr = i.addr && x.crc = i.crc))
        ++ [{ i with used := s.clk }] } }

section
variable {die : Nat} {i : KImage} {image args : List Byte}
  (hk : s.hz.kernels.find? (fun k => k.die = die && k.phase = .queued) = some k) (hup : s.clusterOnline die = true)
  (hflush : s.get F.perStatusState ≠ 4) (hpower : s.packageLevel ≠ 4) (hreach : s.reach k.dom k.image 64 = stOk)
  (hcached : s.hz.images.find? (fun i => i.die = die && i.addr = k.image &&
    i.crc = (State.makeImage die k.image (s.imageBytes k.dom k.image image) s.clk).crc) = some i)
  (hst : s.imageStatus k { i with used := s.clk } = stOk) (hcores : i.minCores ≤ (s.freeCores die).length)
  (hpool : i.sramKiB ≤ s.poolFree die)
include hk hup hflush hpower hreach hcached hst hcores hpool

theorem exec_kernelStart_of_cached : exec (.kernelStart die image args) s
    = .next ((imageKept s die i).stageKernel k { i with used := s.clk } args) := by
  change execKernelStart die image args s = _
  have hcores' : ¬ (s.freeCores die).length < KImage.minCores { i with used := s.clk } := Nat.not_lt.mpr hcores
  have hpool' : ¬ s.poolFree die < KImage.sramKiB { i with used := s.clk } := Nat.not_lt.mpr hpool
  simp only [execKernelStart, hk, hup, hflush, hpower, hreach, hcached, hst, hcores', hpool', Option.getD_some,
    Option.isSome_some, Option.isNone_some, Bool.not_true, Bool.false_and, Bool.or_self, Bool.false_eq_true, bne_self_eq_false,
    decide_false, if_false, if_true]
  rfl

theorem exec_kernelStart_starts (htimed : k.timed = none) : ∃ t, exec (.kernelStart die image args) s = .next t ∧
    (t.kernel? k.id).map (fun y => (y.phase, y.cores)) = some (.running, (s.freeCores die).take k.want) := by
  refine ⟨_, exec_kernelStart_of_cached hk hup hflush hpower hreach hcached hst hcores hpool, ?_⟩
  have hdie : k.die = die := by
    have hfound := List.find?_some hk
    simp only [Bool.and_eq_true, decide_eq_true_eq] at hfound
    exact hfound.1
  have hfree : (imageKept s die i).freeCores k.die ≠ [] := by
    rw [hdie]
    exact List.length_pos_iff.mp (Nat.lt_of_lt_of_le (minCores_pos i) hcores)
  have hkernels := kernels_stageKernel (i := { i with used := s.clk }) (g := args) htimed (want_pos_of_imageStatus hst) hfree
  have hmem : k ∈ (imageKept s die i).hz.kernels := List.mem_of_find?_eq_some hk
  rw [kernel?_of_kernels hkernels, kernel?_setKernel_of_mem hmem, ← hdie]
  · rfl
  · rfl

end

/-! ### Cores that leave a kernel, and cores that wait for the others (R399) -/

theorem hzCoreStatus_ne_hzCluster (h d : Nat) : R.hzCoreStatus h ≠ R.hzClStatus d ∧ R.hzCoreStatus h ≠ R.hzStatus := by
  unfold R.hzCoreStatus R.hzClStatus R.hzStatus
  omega

theorem get_showCluster {f : Fld} {d : Nat} (hcluster : f.reg ≠ R.hzClStatus d) (hhub : f.reg ≠ R.hzStatus) (s : State) :
    (s.showCluster d).get f = s.get f := by
  unfold State.showCluster
  dsimp only
  rw [get_set_other _ _ (.inl hhub), get_set_other _ _ (.inl hcluster), get_set_other _ _ (.inl hcluster),
    get_set_other _ _ (.inl hcluster)]

/-- A released core is Idle, whatever cluster is shown next. -/
theorem coreState_released (s : State) (h d : Nat) : ((s.releaseCore h).showCluster d).coreState h = coreIdle := by
  obtain ⟨hcluster, hhub⟩ := hzCoreStatus_ne_hzCluster h d
  have hkernel : R.hzCoreStatus h ≠ R.hzCoreKernel h := by
    unfold R.hzCoreStatus R.hzCoreKernel
    omega
  unfold State.coreState
  rw [get_showCluster hcluster hhub, State.releaseCore, get_setReg_other _ _ hkernel,
    get_set_other _ _ (.inr ⟨show 8 + 10 ≤ 64 by decide, .inl (show 0 + 3 ≤ 8 by decide)⟩),
    get_set_other _ _ (.inr ⟨show 3 + 5 ≤ 64 by decide, .inl (show 0 + 3 ≤ 3 by decide)⟩),
    get_set_same _ _ (show 0 + 3 ≤ 64 by decide)]
  rfl

theorem kernels_waiting (s : State) (h pc : Nat) (b : BarrierKind) : (waiting s h pc b).hz.kernels = s.hz.kernels := by
  rw [waiting, cHz_hz]
  rfl

theorem settle_of_exit (hquiet : s.coreQuiet h = true) (hfault : (s.core h).fault = none)
    (hbar : (s.core h).barrier = some .exit) (hdrop : (s.core h).dropped = false) : s.settle h = s.leaveKernel h := by
  simp [State.settle, hquiet, hfault, hbar, hdrop]

theorem settle_of_coresSync (hquiet : s.coreQuiet h = true) (hfault : (s.core h).fault = none)
    (hbar : (s.core h).barrier = some .coresSync) (hdrop : (s.core h).dropped = false)
    (hk : s.kernelOf? h = some k) (hnew : k.syncs.contains h = false) : s.settle h = s.syncCore h := by
  simp only [State.settle, hquiet, hfault, hbar, hdrop, hk, hnew, Bool.not_true, Bool.false_eq_true, if_false, Option.map_some,
    Option.getD_some]

/-- A core that leaves its kernel is listed as having left, and is released. -/
theorem leaveKernel_of_kernel (hk : s.kernelOf? h = some k) : ∃ v, s.leaveKernel h
    = ((s.setKernel { k with left := k.left ++ [h], result := v }).releaseCore h).showCluster k.die := by
  rw [State.leaveKernel, hk]
  exact ⟨_, rfl⟩

/-- The first core that waits at CORES_SYNC goes on waiting while the kernel has another. -/
theorem syncCore_of_first (hk : s.kernelOf? h = some k) (hfirst : k.syncs = [])
    (hothers : k.cores.all (fun c => c = h) = false) : s.syncCore h = s.setKernel { k with syncs := [h] } := by
  have hmissing : k.cores.all (fun c => [h].contains c) = false := by
    rw [← hothers]
    congr 1
    funext c
    simp
  simp only [State.syncCore, hk, hfirst, List.nil_append, hmissing, Bool.false_eq_true, if_false]

section
variable {pc : Nat} (hfree : s.coreFree h = true) (hnt : (s.core h).nt = []) (hquiet : s.coreQuiet h = true)
  (hdrop : (s.core h).dropped = false) (hk : s.kernelOf? h = some k)
include hfree hnt hquiet hdrop hk

theorem exec_exit_leaves : ∃ t, exec (.exit h pc) s = .next t ∧ t.coreState h = coreIdle ∧
    (t.kernel? k.id).map (·.left) = some (k.left ++ [h]) := by
  obtain ⟨-, -, hfault⟩ := coreFree_iff.mp hfree
  have hexec : exec (.exit h pc) s = .next ((waiting s h pc .exit).leaveKernel h) := by
    change execExit h pc s = _
    rw [execExit, if_pos hfree, beginBarrier_of_nil hnt,
      settle_of_exit (by rwa [coreQuiet_waiting]) (by rwa [core_waiting]) (by rw [core_waiting]) (by rwa [core_waiting])]
  have hk' : (waiting s h pc .exit).kernelOf? h = some k := by rwa [kernelOf?_of_kernels (kernels_waiting s h pc .exit)]
  obtain ⟨v, hleft⟩ := leaveKernel_of_kernel hk'
  refine ⟨_, hexec, ?_, ?_⟩
  · rw [hleft, coreState_released]
  · have hkernels := (congrArg HzState.kernels (showCluster_hz _ k.die)).trans (kernels_releaseCore
      ((waiting s h pc .exit).setKernel { k with left := k.left ++ [h], result := v }) h)
    rw [hleft, kernel?_of_kernels hkernels, kernel?_setKernel_of_mem (mem_of_kernelOf? hk')]
    · rfl
    · rfl

theorem exec_coresSync_waits (hfirst : k.syncs = []) (hothers : k.cores.all (fun c => c = h) = false) :
    ∃ t, exec (.coresSync h pc) s = .next t ∧ (t.core h).barrier = some .coresSync ∧
      (t.kernel? k.id).map (·.syncs) = some [h] := by
  obtain ⟨-, -, hfault⟩ := coreFree_iff.mp hfree
  have hk' : (waiting s h pc .coresSync).kernelOf? h = some k := by
    rwa [kernelOf?_of_kernels (kernels_waiting s h pc .coresSync)]
  have hexec : exec (.coresSync h pc) s = .next ((waiting s h pc .coresSync).setKernel { k with syncs := [h] }) := by
    change execCoresSync h pc s = _
    rw [execCoresSync, if_pos hfree, beginBarrier_of_nil hnt, settle_of_coresSync (by rwa [coreQuiet_waiting])
      (by rwa [core_waiting]) (by rw [core_waiting]) (by rwa [core_waiting]) hk' (by rw [hfirst]; rfl),
      syncCore_of_first hk' hfirst hothers]
  refine ⟨_, hexec, congrArg HzCore.barrier (core_waiting .coresSync), ?_⟩
  rw [kernel?_setKernel_of_mem (mem_of_kernelOf? hk')]
  · rfl
  · rfl

end

/-! ### Kernels that are over (R400, R401, R405) -/

/-- The kernels without those of a number. -/
def kernelGone (s : State) (n : Nat) : State :=
  { s with hz := { s.hz with kernels := s.hz.kernels.filter (fun x => x.id != n) } }

theorem kernel?_kernelGone (s : State) (n : Nat) : (kernelGone s n).kernel? n = none := by
  simp [State.kernel?, kernelGone]

/-- A kernel that every core has left is gone, and counted; between the two no more ends than its descriptor. -/
theorem exec_kernelCompletion_of_left (hk : s.kernel? n = some k) (hphase : k.phase = .running)
    (hleft : k.cores.all (fun c => k.left.contains c) = true) (hgroup : k.group = none) :
    ∃ t, Keeps 266240 (kernelGone s n) t ∧ exec (.kernelCompletion n) s
      = .next ((t.bump (F.hzClKernelCountCount k.die)).showCluster k.die) := by
  change ∃ t, _ ∧ execKernelCompletion n s = _
  simp only [execKernelCompletion, hk, hphase, hleft, hgroup, bne_self_eq_false, Bool.false_and, Bool.not_true, Bool.or_self,
    Bool.false_eq_true, if_false]
  exact ⟨_, Keeps.ite (.refl _ _) ((Keeps.refl 266240 (kernelGone s n)).finish _ _ _ _ rfl), rfl⟩

theorem hzClKernelCount_ne_status (d : Nat) :
    R.hzClKernelCount d ≠ R.hzClStatus d ∧ R.hzClKernelCount d ≠ R.hzStatus := by
  unfold R.hzClKernelCount R.hzClStatus R.hzStatus
  omega

theorem exec_kernelCompletion_counts (hk : s.kernel? n = some k) (hphase : k.phase = .running)
    (hleft : k.cores.all (fun c => k.left.contains c) = true) (hgroup : k.group = none) :
    ∃ t, exec (.kernelCompletion n) s = .next t ∧ t.kernel? n = none ∧
      t.get (F.hzClKernelCountCount k.die) = satInc 32 (s.get (F.hzClKernelCountCount k.die)) := by
  obtain ⟨t, ht, hexec⟩ := exec_kernelCompletion_of_left hk hphase hleft hgroup
  obtain ⟨hcluster, hhub⟩ := hzClKernelCount_ne_status k.die
  refine ⟨_, hexec, ?_, ?_⟩
  · have hkernels := kernels_of_keeps ht rfl
    rw [kernel?_of_kernels (s := t) (by rw [showCluster_hz, bump_hz]), kernel?_of_kernels hkernels, kernel?_kernelGone]
  · have hcount : t.get (F.hzClKernelCountCount k.die) = s.get (F.hzClKernelCountCount k.die) :=
      Rings.get_eq_of_reg (MemoryWindow.reg_of_keeps ht rfl _)
    rw [get_showCluster hcluster hhub, get_bump_same _ (show 0 + 32 ≤ 64 by decide), hcount]
    rfl

/-- A kernel that ends is found ending with its status: the reset or release of its cores leaves the list of kernels. -/
theorem kernel?_endKernel (hk : k ∈ s.hz.kernels) (hphase : k.phase ≠ .ending) (status code c : Nat) (silent : Bool) :
    ((s.endKernel k status code c silent).kernel? k.id).map (fun x => (x.phase, x.status)) = some (.ending, status) := by
  unfold State.endKernel
  rw [if_neg hphase]
  extract_lets pc here armed live marked reset released counted
  have hreset : reset.hz.kernels = marked.hz.kernels := kernels_foldl kernels_resetCore live marked
  have hreleased : released.hz.kernels = reset.hz.kernels :=
    kernels_foldl (fun s c => (kernels_releaseCore _ c).trans (kernels_cancelCore s c k.id)) armed reset
  have hcounted : counted.hz.kernels = marked.hz.kernels := by
    unfold counted
    rw [bump_hz, bump_hz, hreleased, hreset]
  rw [kernel?_of_kernels (s := marked) (by rw [showCluster_hz, raise_hz, hcounted])]
  unfold marked
  rw [kernel?_setKernel_of_mem hk]
  · rfl
  · rfl

theorem exec_kernelDeadline_ends (hk : s.kernel? n = some k) (hphase : k.phase = .running) (hbound : k.deadlineUs ≠ 0)
    (hdue : k.begun + k.deadlineUs * 1000 ≤ s.clk) : ∃ t, exec (.kernelDeadline n) s = .next t ∧
      (t.kernel? n).map (fun x => (x.phase, x.status)) = some (.ending, stTimeout) := by
  have hexec : ∃ (u : State) (c : Nat), u.hz.kernels = s.hz.kernels ∧
      exec (.kernelDeadline n) s = .next (u.endKernel k stTimeout 0xFF c false).drew := by
    change ∃ (u : State) (c : Nat), _ ∧ execKernelDeadline n s = _
    simp only [execKernelDeadline, hk, hphase, hbound, Nat.not_lt.mpr hdue, bne_self_eq_false, decide_false, Bool.or_self,
      Bool.false_eq_true, if_false]
    refine ⟨_, _, ?_, rfl⟩
    apply kernels_foldl
    exact fun _ _ => by rw [set_hz, set_hz]
  obtain ⟨u, c, hu, hexec⟩ := hexec
  refine ⟨_, hexec, ?_⟩
  rw [← id_of_kernel? hk]
  exact kernel?_endKernel (by rw [hu]; exact mem_of_kernel? hk) (by rw [hphase]; decide) _ _ _ _

theorem exec_hzCoreReset_ends (hcore : h < s.part.cores) (hup : s.coreState h ≠ coreOffline)
    (hk : s.kernelOf? h = some k) (hphase : k.phase ≠ .ending) : ∃ t, exec (.hzCoreReset h) s = .next t ∧
      (t.kernel? k.id).map (fun x => (x.phase, x.status)) = some (.ending, stAbortedReset) := by
  refine ⟨(s.endKernel k stAbortedReset s.freeWord.toNat h false).drew, ?_, ?_⟩
  · change execHzCoreReset h s = _
    simp only [execHzCoreReset, hk, Nat.not_le.mpr hcore, hup, decide_false, Bool.or_self, Bool.false_eq_true, if_false]
  · exact kernel?_endKernel (mem_of_kernelOf? hk) hphase _ _ _ _

theorem exec_coreDrainComplete_of_drained (hstate : s.coreState h = coreDraining) (hquiet : s.coreQuiet h = true)
    (hk : s.kernelOf? h = none) :
    exec (.coreDrainComplete h) s = .next ((s.releaseCore h).showCluster (h / 32)) := by
  change execCoreDrainComplete h s = _
  simp only [execCoreDrainComplete, hstate, hquiet, hk, bne_self_eq_false, Bool.not_true, Bool.or_self, Bool.false_eq_true,
    if_false]

/-! ### Grants of shared memory (R388, R409) -/

/-- A grant is entered, and the keys of the old and of the new domain follow. -/
def granted (s : State) (unit : Nat) (v : Word) : State :=
  ((s.setReg (R.hzShmGrant unit) v).touchKey (s.get (F.hzShmGrantDomain unit))).touchKey
    ((s.setReg (R.hzShmGrant unit) v).get (F.hzShmGrantDomain unit))

theorem exec_hzShmGrantWrite_of_free {unit : Nat} (hunit : unit < s.part.pick 256 128)
    (hfree : s.on (F.hzShmGrantValid unit) = false) (v : BitVec 32) :
    exec (.hzShmGrantWrite unit v) s = .next (granted s unit (v.setWidth 64 &&& 0x7FF)) := by
  change execHzShmGrantWrite unit v s = _
  simp only [execHzShmGrantWrite, hfree, Nat.not_le.mpr hunit, Bool.false_and, decide_false, Bool.or_self, Bool.false_eq_true,
    if_false]
  rfl

theorem not_keyReg_hzShmGrant {unit : Nat} (hunit : unit < 256) (dom : Nat) : ¬ Rings.KeyReg dom (R.hzShmGrant unit) := by
  unfold Rings.KeyReg R.hzShmGrant R.cipDomXts R.cipKeys R.cipXtsSwitchCount
  omega

theorem reg_granted {unit : Nat} (hunit : unit < 256) (s : State) (v : Word) :
    (granted s unit v).reg (R.hzShmGrant unit) = v := by
  rw [granted, Rings.reg_touchKey (not_keyReg_hzShmGrant hunit _), Rings.reg_touchKey (not_keyReg_hzShmGrant hunit _),
    reg_setReg_same]

theorem exec_hzShmGrantWrite_of_busy {unit : Nat} (hvalid : s.on (F.hzShmGrantValid unit) = true)
    (hkernels : s.hz.kernels = [k]) (hdom : k.dom = s.get (F.hzShmGrantDomain unit)) (hphase : k.phase ≠ .ending)
    (v : BitVec 32) : exec (.hzShmGrantWrite unit v) s = .next s := by
  change execHzShmGrantWrite unit v s = _
  simp [execHzShmGrantWrite, hvalid, hkernels, hdom, hphase]

end

theorem shmUnits_le (p : Part) : p.pick 256 128 ≤ 256 := by cases p <;> decide

/-- Settles O37, command by command: launch and start, the cores that leave or wait, the ends of kernels, images and grants. -/
theorem hazelKernelsRun : Obligations.HazelKernelsRun := by
  refine ⟨?launch, ?start, ?exit, ?sync, ?completion, ?deadline, ?reset, ?drain, ?flush, ?grant, ?refused⟩
  case launch =>
    intro s r h k d hd hnew hgroup hdie
    obtain ⟨t, hexec, ht⟩ := exec_hzLaunch_of_cluster hd hnew hgroup hdie
    refine ⟨t, hexec, ?_, ?_⟩
    · rw [ht, List.length_append, List.length_singleton]
    · rw [ht, List.getLast?_concat]
      rfl
  case start =>
    intro s k x i m g hk hup hflush hpower hreach hcached hst hcores hpool htimed
    exact exec_kernelStart_starts hk hup hflush hpower hreach hcached hst hcores hpool htimed
  case exit =>
    intro s h pc k hfree hnt hquiet hdrop hk _
    exact exec_exit_leaves hfree hnt hquiet hdrop hk
  case sync =>
    intro s h pc k hfree hnt hquiet hdrop hk hfirst hothers
    exact exec_coresSync_waits hfree hnt hquiet hdrop hk hfirst hothers
  case completion =>
    intro s n k hk hphase hleft hgroup _
    exact exec_kernelCompletion_counts hk hphase hleft hgroup
  case deadline =>
    intro s n k hk hphase hbound hdue
    exact exec_kernelDeadline_ends hk hphase hbound hdue
  case reset =>
    intro s h k hcore hup hk hphase
    exact exec_hzCoreReset_ends hcore hup hk hphase
  case drain =>
    intro s h _ hstate hquiet hk
    exact ⟨_, exec_coreDrainComplete_of_drained hstate hquiet hk, coreState_released s h _⟩
  case flush => exact fun _ _ => rfl
  case grant =>
    intro s k v hunit hfree
    exact ⟨_, exec_hzShmGrantWrite_of_free hunit hfree v, reg_granted (Nat.lt_of_lt_of_le hunit (shmUnits_le _)) s _⟩
  case refused =>
    intro s k v x hvalid hkernels hdom hphase
    exact exec_hzShmGrantWrite_of_busy hvalid hkernels hdom hphase v

end Sys2Proof.Proofs.Cores

/-!
PROOFS. Network: queue pairs by number, the commits of queue pairs, regions and GIDs, links of ports, pause, frames and rate
control (O42).
-/
namespace Sys2Proof.Proofs.Network
open Sys2Proof.Machine Sys2Proof.Machine.State
open Sys2Proof.Proofs.TimeBase (lastEvent_raise)

/-! ### Queue pairs by number (R433) -/

section
variable {s t : State} {n : Nat} {q x : Qp}

theorem qp?_of_live (hq : s.liveQp? n = some q) : s.qp? n = some q := by
  unfold State.liveQp? at hq
  split at hq
  next x hx =>
    split at hq
    next =>
      cases hq
      exact hx
    next => cases hq
  next => cases hq

theorem num_of_qp? (hq : s.qp? n = some q) : q.num = n := by simpa using List.find?_some hq

theorem qp?_of_net (h : t.net = s.net) : t.qp? n = s.qp? n := by rw [State.qp?, State.qp?, h]

/-- The queue pair that takes another's place has its number. -/
def replacedQp (x y : Qp) : Qp := if y.num = x.num then x else y

theorem num_replacedQp (x y : Qp) : (replacedQp x y).num = y.num := by
  unfold replacedQp
  split
  next h => exact h.symm
  next => rfl

theorem qp?_setQp (s : State) (x : Qp) (n : Nat) : (s.setQp x).qp? n = (s.qp? n).map (replacedQp x) := by
  have hnum : (fun y : Qp => decide (y.num = n)) ∘ replacedQp x = fun y => decide (y.num = n) := by
    funext y
    rw [Function.comp_apply, num_replacedQp]
  exact List.find?_map.trans (congrArg (fun p => (s.net.qps.find? p).map (replacedQp x)) hnum)

theorem qp?_setQp_same (hq : s.qp? n = some q) (hx : x.num = n) : (s.setQp x).qp? n = some x := by
  rw [qp?_setQp, hq, Option.map_some, replacedQp, if_pos ((num_of_qp? hq).trans hx.symm)]

theorem qpState_of_qp? (hq : s.qp? n = some q) : s.qpState n = bits q.ctx0 0 3 := by
  rw [State.qpState, hq]
  rfl

theorem qpState_of_none (hq : s.qp? n = none) : s.qpState n = 0 := by
  rw [State.qpState, hq]
  rfl

/-- What takes the place of the entries of a number is found by it. -/
theorem find?_put {α : Type} {f : α → Nat} {x : α} (l : List α) (hx : f x = n) :
    (l.filter (fun y => f y != n) ++ [x]).find? (fun y => f y = n) = some x := by
  have hnone : (l.filter (fun y => f y != n)).find? (fun y => f y = n) = none := by simp
  rw [List.find?_append, hnone, Option.none_or]
  exact List.find?_cons_of_pos (decide_eq_true hx)

end

/-! ### Commits of queue pairs (R415, R433, Table 13.2) -/

section
variable {s : State} {n : Nat} {v : BitVec 64} {q : Qp}

/-- The context of a queue pair, CTX0 to CTX3. -/
def contexts (s : State) (n : Nat) : Option (Word × Word × Word × Word) :=
  (s.qp? n).map (fun q => (q.ctx0, q.ctx1, q.ctx2, q.ctx3))

theorem contexts_putQp (s : State) (n : Nat) (v : Word) :
    contexts (s.putQp n v) n = some (v, s.stagedQp 0, s.stagedQp 1, s.stagedQp 2) :=
  congrArg (Option.map fun q : Qp => (q.ctx0, q.ctx1, q.ctx2, q.ctx3)) (find?_put (f := Qp.num) s.net.qps (by rfl))

theorem contexts_committed (s : State) (n dom : Nat) (v : Word) :
    contexts ((s.putQp n v).touchKey dom) n = some (v, s.stagedQp 0, s.stagedQp 1, s.stagedQp 2) := by
  have hnet : ((s.putQp n v).touchKey dom).net = (s.putQp n v).net :=
    ((Keeps.refl 65541 (s.putQp n v)).touchKey dom rfl).same .net rfl
  rw [← contexts_putQp s n v, contexts, contexts, qp?_of_net hnet]

theorem mirrorEnable_committed (s : State) (n dom : Nat) (v : Word) :
    ((s.putQp n v).touchKey dom).on F.perMirrorCfgEnable = s.on F.perMirrorCfgEnable := by
  have hreg : ¬ Rings.KeyReg dom R.perMirrorCfg := by
    unfold Rings.KeyReg R.perMirrorCfg R.cipDomXts R.cipKeys R.cipXtsSwitchCount
    omega
  exact congrArg (fun w => bits w 2 1 != 0) (Rings.reg_touchKey hreg (s.putQp n v))

section
variable (hn : n < 65536) (hmove : State.qpMove (s.qpState n) (bits (v &&& 0x7FFFFFFFF) 0 3) = true)
  (hlo : 3 ≤ bits (s.stagedQp 2) 50 3) (hhi : bits (s.stagedQp 2) 50 3 ≤ 5)
include hn hmove hlo hhi

theorem exec_netQpCtx0Commit_to_init (hfree : s.qpState n = 0) (hwant : bits (v &&& 0x7FFFFFFFF) 0 3 = 1)
    (hbind : s.qpBinding (v &&& 0x7FFFFFFFF) = true) : exec (.netQpCtx0Commit n v) s
      = .next ((s.putQp n (v &&& 0x7FFFFFFFF)).touchKey (bits (v &&& 0x7FFFFFFFF) 3 10)) := by
  change execNetQpCtx0Commit n v s = _
  simp only [execNetQpCtx0Commit]
  generalize v &&& 0x7FFFFFFFF = w at *
  rw [hwant, hfree] at hmove
  simp [Nat.not_le.mpr hn, hmove, hfree, hwant, hbind, Nat.not_lt.mpr hlo, Nat.not_lt.mpr hhi]

theorem exec_netQpCtx0Commit_to_rts (hq : s.qp? n = some q) (hwant : bits (v &&& 0x7FFFFFFFF) 0 3 = 3)
    (hsame : bits q.ctx0 3 22 = bits (v &&& 0x7FFFFFFFF) 3 22) (hmirror : s.on F.perMirrorCfgEnable = false) :
    exec (.netQpCtx0Commit n v) s
      = .next ((s.putQp n (v &&& 0x7FFFFFFFF)).touchKey (bits (v &&& 0x7FFFFFFFF) 3 10)) := by
  change execNetQpCtx0Commit n v s = _
  simp only [execNetQpCtx0Commit]
  generalize v &&& 0x7FFFFFFFF = w at *
  rw [hwant] at hmove
  simp [Nat.not_le.mpr hn, hmove, hq, hwant, hsame, mirrorEnable_committed, hmirror, Nat.not_lt.mpr hlo, Nat.not_lt.mpr hhi]

end

theorem exec_netQpCtx0Commit_of_no_move (hn : n < 65536)
    (hmove : State.qpMove (s.qpState n) (bits (v &&& 0x7FFFFFFFF) 0 3) = false) :
    exec (.netQpCtx0Commit n v) s = .next (s.refuseCommit 0x48 n 0) := by
  change execNetQpCtx0Commit n v s = _
  simp only [execNetQpCtx0Commit, Nat.not_le.mpr hn, hmove, Bool.not_false, if_false, if_true]

theorem exec_netQpCtx0Commit_inits (hn : n < 65536) (hq : s.qp? n = none) (hwant : bits (v &&& 0x7FFFFFFFF) 0 3 = 1)
    (hbind : s.qpBinding (v &&& 0x7FFFFFFFF) = true) (hlo : 3 ≤ bits (s.stagedQp 2) 50 3)
    (hhi : bits (s.stagedQp 2) 50 3 ≤ 5) : ∃ t, exec (.netQpCtx0Commit n v) s = .next t ∧
      contexts t n = some (v &&& 0x7FFFFFFFF, s.stagedQp 0, s.stagedQp 1, s.stagedQp 2) := by
  have hfree := qpState_of_none hq
  have hmove : State.qpMove (s.qpState n) (bits (v &&& 0x7FFFFFFFF) 0 3) = true := by
    rw [hfree, hwant]
    decide
  exact ⟨_, exec_netQpCtx0Commit_to_init hn hmove hlo hhi hfree hwant hbind, contexts_committed s n _ _⟩

theorem exec_netQpCtx0Commit_readies (hn : n < 65536) (hq : s.qp? n = some q) (hwas : bits q.ctx0 0 3 = 2)
    (hwant : bits (v &&& 0x7FFFFFFFF) 0 3 = 3) (hsame : bits q.ctx0 3 22 = bits (v &&& 0x7FFFFFFFF) 3 22)
    (hlo : 3 ≤ bits (s.stagedQp 2) 50 3) (hhi : bits (s.stagedQp 2) 50 3 ≤ 5)
    (hmirror : s.on F.perMirrorCfgEnable = false) : ∃ t, exec (.netQpCtx0Commit n v) s = .next t ∧
      contexts t n = some (v &&& 0x7FFFFFFFF, s.stagedQp 0, s.stagedQp 1, s.stagedQp 2) := by
  have hmove : State.qpMove (s.qpState n) (bits (v &&& 0x7FFFFFFFF) 0 3) = true := by
    rw [qpState_of_qp? hq, hwas, hwant]
    decide
  exact ⟨_, exec_netQpCtx0Commit_to_rts hn hmove hlo hhi hq hwant hsame hmirror, contexts_committed s n _ _⟩

end

/-! ### Commits of regions and GIDs (R418, R433) -/

section
variable {s : State} {i base len : Nat} {v : BitVec 32}

/-- The region's next context: what is staged, under the next Variant. -/
def nextMr (s : State) (i base len : Nat) (v : BitVec 32) : Mr :=
  ⟨i, base, len, putBits ((v.setWidth 64) &&& 0x3FFF00) 0 8 (((s.mr? i).map (fun m => bits m.ctl 0 8)).getD 0 + 1)⟩

/-- A region takes the place of the one of its index. -/
def putMr (s : State) (m : Mr) : State :=
  { s with net := { s.net with mrs := s.net.mrs.filter (fun (x : Mr) => x.idx != m.idx) ++ [m] } }

theorem mr?_putMr (s : State) (m : Mr) : (putMr s m).mr? m.idx = some m := find?_put (f := Mr.idx) _ rfl

theorem regionAt_of_regionOf (h : regionOf base len = .window) : regionAt base = .window := by
  unfold regionOf at h
  split at h
  · exact h
  · cases h

theorem exec_netMrCtlCommit_of_granted (hi : i < 131072) (hbase : base = bits ((s.net.stageMr[0]?).getD 0) 0 48)
    (hlen : len = bits ((s.net.stageMr[1]?).getD 0) 0 48) (hbase0 : base % 4096 = 0) (hlen0 : len % 4096 = 0)
    (hregion : regionOf base len = .window) (hfits : base + len ≤ s.winPlots * plotBytes)
    (hgrant : s.windowGranted (bits (v.setWidth 64) 8 10) base len = true) :
    exec (.netMrCtlCommit i v) s = .next (putMr s (nextMr s i base len v)) := by
  subst hbase hlen
  change execNetMrCtlCommit i v s = _
  simp only [execNetMrCtlCommit, Nat.not_le.mpr hi, hbase0, hlen0, hregion, hfits, regionAt_of_regionOf hregion, hgrant,
    bne_self_eq_false, Bool.or_self, Bool.not_true, Bool.and_false, decide_true, Bool.false_eq_true, if_false]
  rfl

theorem exec_netGidCtlCommit_of_free (hi : i < 256) (hfree : v.getLsbD 17 = true ∨ s.net.qps = []) :
    exec (.netGidCtlCommit i v) s
      = .next { s with net := { s.net with gids := s.net.gids.filter (fun (x : Gid) => x.idx != i)
        ++ [⟨i, (s.net.stageGid[0]?).getD 0, (s.net.stageGid[1]?).getD 0, (v.setWidth 64) &&& 0x3FFFF⟩] } } := by
  have hnot : (!v.getLsbD 17 && (s.gid? i).isSome && s.net.qps.any (fun q => q.gidIndex = i)) = false := by
    rcases hfree with hvalid | hnone
    · rw [hvalid, Bool.not_true, Bool.false_and, Bool.false_and]
    · rw [hnone, List.any_nil, Bool.and_false]
  change execNetGidCtlCommit i v s = _
  simp only [execNetGidCtlCommit, Nat.not_le.mpr hi, hnot, Bool.false_eq_true, if_false]

end

/-! ### Links of ports (R410, R411, R432) -/

section
variable {s : State} {p a : Nat} {f : Fld}

theorem netStatus_ne_netPortStatus (p : Nat) : R.netStatus ≠ R.netPortStatus p := by
  unfold R.netStatus R.netPortStatus
  omega

theorem netPortStatus_ne_privet (hp : p < 16) : R.netPortStatus p ≠ R.pvUnitsLost ∧ R.netPortStatus p ≠ R.pvMode := by
  unfold R.netPortStatus R.pvUnitsLost R.pvMode
  omega

section
variable {t : State} (h : t.reg f.reg = s.reg f.reg)
include h

theorem get_of_reg : t.get f = s.get f := congrArg (fun v => bits v f.lo f.w) h

theorem on_of_reg : t.on f = s.on f := congrArg (fun n => n != 0) (get_of_reg h)

theorem bit_of_reg (k : Nat) : t.bit f k = s.bit f k := on_of_reg (f := ⟨f.reg, f.lo + k, 1⟩) h

end

theorem reg_setBit_other (s : State) (k : Nat) (b : Bool) (h : a ≠ f.reg) : (s.setBit f k b).reg a = s.reg a :=
  reg_set_other s _ h

theorem reg_toMode (s : State) (mode cause : Nat) (h : a ≠ R.pvMode) : (s.toMode mode cause).reg a = s.reg a := by
  unfold State.toMode
  split
  · exact (reg_set_other _ _ h).trans (reg_set_other _ _ h)
  · rfl

theorem reg_unitLost (s : State) (k : Nat) (hf : a ≠ f.reg) (hmode : a ≠ R.pvMode) :
    (s.unitLost f k).reg a = s.reg a :=
  (reg_toMode _ 1 1 hmode).trans (reg_setBit_other s k true hf)

/-- The port's link is shown in NET_STATUS and in NET_PORT_STATUS. -/
def linkShown (s : State) (p : Nat) (up : Bool) : State :=
  (s.setBit F.netStatusPortUp p up).put (F.netPortStatusUp p) up

theorem portUp_linkShown (s : State) (up : Bool) (hp : p < 64) : (linkShown s p up).bit F.netStatusPortUp p = up :=
  (on_put_other _ up (.inl (netStatus_ne_netPortStatus p))).trans
    (bit_setBit_same s up (show 0 + p < 64 by omega))

theorem up_linkShown (s : State) (p : Nat) (up : Bool) : (linkShown s p up).on (F.netPortStatusUp p) = up :=
  on_put_same _ up (show 1 + 1 ≤ 64 by decide) Nat.one_pos

/-- The port is Present at its speed, and not among the units that are lost. -/
def speedShown (s : State) (p speed : Nat) : State :=
  ((s.setBit F.pvUnitsLostEthPort p false).put (F.netPortStatusPresent p) true).set (F.netPortStatusSpeed p) speed

theorem reg_netStatus_speedShown (s : State) (p speed : Nat) :
    (speedShown s p speed).reg R.netStatus = s.reg R.netStatus :=
  ((reg_set_other _ _ (netStatus_ne_netPortStatus p)).trans (reg_set_other _ _ (netStatus_ne_netPortStatus p))).trans
    (reg_setBit_other s p false (by decide))

theorem up_speedShown (s : State) (speed : Nat) (hp : p < 16) :
    (speedShown s p speed).on (F.netPortStatusUp p) = s.on (F.netPortStatusUp p) := by
  obtain ⟨hlost, -⟩ := netPortStatus_ne_privet hp
  rw [speedShown, on_set_other _ _ (.inr (show 2 + 2 ≤ 64 ∧ (1 + 1 ≤ 2 ∨ 2 + 2 ≤ 1) by decide)),
    on_put_other _ _ (.inr (show 0 + 1 ≤ 64 ∧ (1 + 1 ≤ 0 ∨ 0 + 1 ≤ 1) by decide))]
  exact on_of_reg (reg_setBit_other s p false hlost)

theorem exec_portLinkUp_of_down (hp : p < 8) (hpresent : s.ethPresent p = true) (hdown : s.bit F.netStatusPortUp p = false)
    (hmode : s.get F.pvModeMode < 3) : exec (.portLinkUp p) s
      = .next ((speedShown (linkShown s p true) p (s.get F.netLaneCfgMode0)).raise 193 sevInfo 0 noDom
        [d4 p, d4 (s.get F.netLaneCfgMode0)]) := by
  change execPortLinkUp p s = _
  simp only [execPortLinkUp, hpresent, hdown, Nat.not_le.mpr hmode, hp, Bool.not_true, decide_false, Bool.or_self,
    Bool.false_eq_true, if_false, if_true]
  rfl

theorem exec_portLinkUp_trains (hp : p < 8) (hpresent : s.ethPresent p = true) (hdown : s.bit F.netStatusPortUp p = false)
    (hmode : s.get F.pvModeMode < 3) : ∃ t, exec (.portLinkUp p) s = .next t ∧ t.bit F.netStatusPortUp p = true ∧
      t.on (F.netPortStatusUp p) = true ∧ t.get (F.netPortStatusSpeed p) = s.get F.netLaneCfgMode0 ∧
      t.lastEvent = some (193, sevInfo, noDom) := by
  refine ⟨_, exec_portLinkUp_of_down hp hpresent hdown hmode, ?bit, ?up, ?speed, lastEvent_raise _ _ _ _ _ _⟩
  case bit =>
    rw [State.bit, on_raise]
    exact (bit_of_reg (f := F.netStatusPortUp) (reg_netStatus_speedShown _ p _) p).trans (portUp_linkShown s true (by omega))
  case up => rw [on_raise, up_speedShown _ _ (by omega), up_linkShown]
  case speed =>
    rw [get_raise, speedShown, get_set_same _ _ (show 2 + 2 ≤ 64 by decide)]
    exact Nat.mod_eq_of_lt (bits_lt _ 0 2)

/-- The port's link is down, which is counted and raises event 192. -/
def linkLost (s : State) (p : Nat) : State :=
  ((linkShown s p false).bump (F.netPortStatusLinkDowns p)).raise 192 sevWarning 0 noDom [d4 p]

theorem exec_portLinkDown_of_up (hup : s.bit F.netStatusPortUp p = true) :
    exec (.portLinkDown p) s = .next ((linkLost s p).unitLost F.pvUnitsLostEthPort p) := by
  change execPortLinkDown p s = _
  simp only [execPortLinkDown, hup, Bool.not_true, Bool.false_eq_true, if_false]
  rfl

theorem exec_portLinkDown_drops (hp : p < 16) (hup : s.bit F.netStatusPortUp p = true) :
    ∃ t, exec (.portLinkDown p) s = .next t ∧ t.bit F.netStatusPortUp p = false ∧ t.on (F.netPortStatusUp p) = false ∧
      t.get (F.netPortStatusLinkDowns p) =
        satInc (F.netPortStatusLinkDowns p).w (s.get (F.netPortStatusLinkDowns p)) := by
  obtain ⟨hlost, hmode⟩ := netPortStatus_ne_privet hp
  refine ⟨_, exec_portLinkDown_of_up hup, ?bit, ?up, ?downs⟩
  case bit =>
    have hstatus : ((linkLost s p).unitLost F.pvUnitsLostEthPort p).reg R.netStatus =
        (linkShown s p false).reg R.netStatus := by
      rw [reg_unitLost _ p (by decide) (by decide), linkLost, reg_raise, bump,
        reg_set_other _ _ (netStatus_ne_netPortStatus p)]
    exact (bit_of_reg hstatus p).trans (portUp_linkShown s false (by omega))
  case up =>
    rw [on_of_reg (reg_unitLost (linkLost s p) p hlost hmode), linkLost, on_raise, bump,
      on_set_other _ _ (.inr (show 16 + 16 ≤ 64 ∧ (1 + 1 ≤ 16 ∨ 16 + 16 ≤ 1) by decide)), up_linkShown]
  case downs =>
    rw [get_of_reg (reg_unitLost (linkLost s p) p hlost hmode), linkLost, get_raise,
      get_bump_same _ (show 16 + 16 ≤ 64 by decide), linkShown,
      get_put_other _ _ (.inr (show 1 + 1 ≤ 64 ∧ (16 + 16 ≤ 1 ∨ 1 + 1 ≤ 16) by decide)),
      get_of_reg (reg_setBit_other s p false (netStatus_ne_netPortStatus p).symm)]

end

/-! ### Pause (R429) -/

section
variable {s : State} {p : Nat} {b : Bool}

theorem lt_of_ethPresent (h : s.ethPresent p = true) : p < 16 := by
  unfold State.ethPresent at h
  split at h
  · omega
  · simp only [Bool.and_eq_true, decide_eq_true_eq] at h
    exact h.1.1

/-- The state with another network. -/
def withNet (s : State) (x : NetState) : State := { s with net := x }

theorem bit_withNet (s : State) (x : NetState) (f : Fld) (k : Nat) : (withNet s x).bit f k = s.bit f k := rfl

/-- NET_STATUS and NET_PORT_STATUS show whether the port is paused. -/
def pauseShown (s : State) (p : Nat) (b : Bool) : State :=
  (s.setBit F.netStatusPaused p b).put (F.netPortStatusPauseRx p) b

theorem paused_pauseShown (s : State) (b : Bool) (hp : p < 16) : (pauseShown s p b).bit F.netStatusPaused p = b :=
  (on_put_other _ b (.inl (netStatus_ne_netPortStatus p))).trans
    (bit_setBit_same s b (show 16 + p < 64 by omega))

theorem exec_pfcPauseReceive_pauses (hp : s.ethPresent p = true) (hnew : s.net.paused.filter (fun x => x.1 = p) = []) :
    exec (.pfcPauseReceive p true) s = .next (withNet (pauseShown s p true)
      { s.net with paused := s.net.paused.filter (fun x => x.1 != p) ++ [(p, s.clk)] }) := by
  change execPfcPauseReceive p true s = _
  simp only [execPfcPauseReceive, withNet, pauseShown, hp, hnew, put_net, setBit_net, put_clk, setBit_clk, Bool.not_true,
    Bool.false_eq_true, if_false, if_true]

theorem exec_pfcPauseReceive_resumes (hp : s.ethPresent p = true)
    (hnone : s.net.qps.filter (fun (q : Qp) => q.port = p) = []) :
    exec (.pfcPauseReceive p false) s = .next (withNet (pauseShown s p false)
      { s.net with paused := s.net.paused.filter (fun x => x.1 != p), said := s.net.said.filter (fun x => x != p) }) := by
  change execPfcPauseReceive p false s = _
  simp only [execPfcPauseReceive, hp, put_net, setBit_net, hnone, List.foldl_nil, Bool.not_true, Bool.false_eq_true, if_false]
  rfl

theorem exec_portPaused100ms_of_due (hdue : s.net.paused.any (fun x => x.1 = p && x.2 + 100000000 ≤ s.clk) = true)
    (hnew : s.net.said.contains p = false) : exec (.portPaused100ms p) s
      = .next ((withNet s { s.net with said := s.net.said ++ [p] }).raise 199 sevNotice 0 noDom [d4 p]) := by
  change execPortPaused100ms p s = _
  simp only [execPortPaused100ms, hdue, hnew, Bool.not_false, Bool.and_self, if_true]
  rfl

end

/-! ### Frames (R412, R414) -/

section
variable {s : State} {p n : Nat} {m : BitVec 48} {f : Frame} {g : BitVec 128}

theorem exec_ethFrameReceive_of_bad (hp : s.ethPresent p = true) (hup : s.bit F.netStatusPortUp p = true) :
    exec (.ethFrameReceive p n m false f) s = .next (s.bump F.netDropCountCount) := by
  change execEthFrameReceive p n m false f s = _
  simp only [execEthFrameReceive, hp, hup, Bool.not_true, Bool.not_false, Bool.or_self, Bool.true_or, Bool.false_eq_true,
    if_false, if_true]

/-- A frame that is taken counts at its port. -/
def frameCounted (s : State) (p n : Nat) : State :=
  ((s.cNet p 0x4A 1).cNet p 0x48 (units64 n)).traffic (8 + p) n 0

theorem net_frameCounted (s : State) (p n : Nat) : (frameCounted s p n).net = s.net :=
  ((((Keeps.refl 5 s).cNet p 0x4A 1 rfl).cNet p 0x48 (units64 n) rfl).traffic (8 + p) n 0 rfl).same .net rfl

theorem exec_ethFrameReceive_resolves (hp : s.ethPresent p = true) (hup : s.bit F.netStatusPortUp p = true) (hn : n ≤ 9216)
    (hm : m.toNat = s.get (F.netPortCfgMac p)) (hg : s.portGid p g = true) :
    exec (.ethFrameReceive p n m true (.resolve g)) s = .next ((frameCounted s p n).send (.resolved p g)) := by
  have hours : s.frameForUs p m (.resolve g) = true := by
    rw [State.frameForUs, decide_eq_true hm, Bool.true_or, Bool.true_or, Bool.true_or, Bool.true_or]
  have hport : (frameCounted s p n).portGid p g = true := by rw [State.portGid, net_frameCounted, ← hg, State.portGid]
  unfold frameCounted at *
  change execEthFrameReceive p n m true (.resolve g) s = _
  simp only [execEthFrameReceive, hp, hup, hours, hport, Nat.not_lt.mpr hn, Bool.not_true, Bool.or_self, decide_false,
    Bool.false_eq_true, if_false, if_true]

end

/-! ### Rate control (R430) -/

section
variable {s : State} {n : Nat} {q : Qp} (hq : s.liveQp? n = some q) (hon : s.on F.netCcCfgEnable = true)
include hq hon

theorem exec_cnpReceive_of_live :
    exec (.cnpReceive n) s = .next (s.setQp { q with
      target := q.rate,
      rate := max s.minRate (q.rate * (2 ^ 33 - q.alpha) / 2 ^ 33),
      alpha := q.alpha + (2 ^ 32 - q.alpha) / 2 ^ s.get F.netCcCfgG,
      lastCnp := s.clk }) := by
  change execCnpReceive n s = _
  simp only [execCnpReceive, hq, hon, Bool.not_true, Bool.false_eq_true, if_false]

theorem exec_ccAlphaTimer_of_due
    (hdue : max q.lastCnp q.lastAlpha + max 1 (s.get F.netCcCfgAlphaUs) * 1000 ≤ s.clk) : exec (.ccAlphaTimer n) s
      = .next (s.setQp { q with alpha := q.alpha - q.alpha / 2 ^ s.get F.netCcCfgG, lastAlpha := s.clk }) := by
  change execCcAlphaTimer n s = _
  simp only [execCcAlphaTimer, hq, hon, Nat.not_lt.mpr hdue, Bool.not_true, decide_false, Bool.or_self, Bool.false_eq_true,
    if_false]

theorem exec_ccIncreaseTimer_of_due (hdue : q.lastInc + max 1 (s.get F.netCcCfgIncUs) * 1000 ≤ s.clk) :
    exec (.ccIncreaseTimer n) s = .next (s.setQp { q with
      target := min (q.target + s.get F.netCcCfgRai * 100) (s.ethRate q.port),
      rate := max s.minRate ((q.rate + min (q.target + s.get F.netCcCfgRai * 100) (s.ethRate q.port)) / 2),
      lastInc := s.clk }) := by
  change execCcIncreaseTimer n s = _
  simp only [execCcIncreaseTimer, hq, hon, Nat.not_lt.mpr hdue, Bool.not_true, decide_false, Bool.or_self,
    Bool.false_eq_true, if_false]

end

/-- Settles O42, command by command: commits, links, pause, frames and the rate limiter. -/
theorem networkContextsRegionsAndPorts : Obligations.NetworkContextsRegionsAndPorts := by
  refine ⟨?init, ?rts, ?refused, ?region, ?gid, ?up, ?down, ?pause, ?resume, ?paused, ?bad, ?resolve, ?cnp, ?alpha,
    ?increase⟩
  case init => exact fun _ _ _ => exec_netQpCtx0Commit_inits
  case rts => exact fun _ _ _ _ => exec_netQpCtx0Commit_readies
  case refused => exact fun _ _ _ => exec_netQpCtx0Commit_of_no_move
  case region =>
    intro s i base len v hi hbase hlen hbase0 hlen0 hregion hfits hgrant
    exact ⟨_, exec_netMrCtlCommit_of_granted hi hbase hlen hbase0 hlen0 hregion hfits hgrant,
      mr?_putMr s (nextMr s i base len v), rfl⟩
  case gid => exact fun _ _ _ => exec_netGidCtlCommit_of_free
  case up => exact fun _ _ => exec_portLinkUp_trains
  case down => exact fun _ _ => exec_portLinkDown_drops
  case pause =>
    exact fun s _ hp hnew =>
      ⟨_, exec_pfcPauseReceive_pauses hp hnew, (bit_withNet _ _ _ _).trans (paused_pauseShown s true (lt_of_ethPresent hp)),
        rfl⟩
  case resume =>
    exact fun s _ hp hnone =>
      ⟨_, exec_pfcPauseReceive_resumes hp hnone, (bit_withNet _ _ _ _).trans (paused_pauseShown s false (lt_of_ethPresent hp)),
        rfl, rfl⟩
  case paused =>
    exact fun _ _ hdue hnew => ⟨_, exec_portPaused100ms_of_due hdue hnew, rfl, lastEvent_raise _ _ _ _ _ _⟩
  case bad => exact fun _ _ _ _ _ => exec_ethFrameReceive_of_bad
  case resolve =>
    intro s p n m g hp hup hn hm hg
    refine ⟨_, exec_ethFrameReceive_resolves hp hup hn hm hg, ?_, net_frameCounted s p n⟩
    rw [send_sent, List.getLast?_concat]
  case cnp => exact fun _ _ _ => exec_cnpReceive_of_live
  case alpha => exact fun _ _ _ => exec_ccAlphaTimer_of_due
  case increase => exact fun _ _ _ => exec_ccIncreaseTimer_of_due

end Sys2Proof.Proofs.Network

/-!
PROOFS. The responder of a queue pair: SEND, RDMA WRITE, RDMA READ and the atomics of a peer, and what answers them (O43).
-/
namespace Sys2Proof.Proofs.Network
open Sys2Proof.Machine Sys2Proof.Machine.State

/-! ### The expected packet (R416) -/

theorem psnDiff_self (p : Nat) : psnDiff p p = 0 := by
  rw [psnDiff, Nat.add_sub_cancel_left, Nat.mod_self]

theorem onPsn_of_expected (s : State) (q : Qp) (fresh duplicate : State → State) :
    s.onPsn q q.rqPsn fresh duplicate = fresh s := by
  simp only [State.onPsn, psnDiff_self, if_true]

/-! ### SEND and RDMA WRITE (R417, R421, R428) -/

section
variable {s : State} {a k : Nat} {q : Qp} {b : List (BitVec 8)}

theorem nowDtb_setQp (s : State) (q : Qp) : (s.setQp q).nowDtb = s.nowDtb := rfl

theorem writePacket_of_whole (s : State) (q : Qp) (psn a k : Nat) (b : List (BitVec 8)) :
    s.writePacket q psn ⟨psn, true, a, k, b.length, [], false⟩ b true false =
      ((s.setQp { q with inbound := none, ctx3 := putBits q.ctx3 0 24 (psnAdd psn 1), acks := q.acks ++ [(psn, none)] }
        ).storeRegion (.rdma q.num psn) q.domain s.nowDtb a b).showBulk q.port := by
  simp only [State.writePacket, State.performWrite, nowDtb_setQp, Qp.domain, Qp.port, List.nil_append, bne_self_eq_false,
    Bool.not_true, Bool.false_eq_true, if_false]

/-- One branch at a time: the kernel would evaluate the room of the queue to compare all of them at once. -/
theorem takeWrite_of_whole {psn : Nat} (hcheck : s.checkWrite q true a k b.length 0 b.length = none)
    (hroom : s.bulkBytes q.port + b.length ≤ s.queueRoom (96 + q.port) * 64) :
    s.takeWrite q psn true true a k b.length b false =
      s.writePacket q psn ⟨psn, true, a, k, b.length, [], false⟩ b true false := by
  unfold State.takeWrite
  extract_lets held
  rw [if_pos (rfl : true = true)]
  split
  next h => cases h
  next m h =>
    cases h
    rw [if_neg (by simp)]
    split
    next h => cases hcheck.symm.trans h
    next => exact if_neg (Nat.not_lt.mpr hroom)

end

section
variable {s u : State} {n a k : Nat} {q : Qp} {b : List (BitVec 8)}
  (hq : s.liveQp? n = some q) (hserves : s.netServes q = true)
include hq hserves

theorem exec_send_of_one_packet (hrx : q.rxEnable = true) (hlen : b.length ≤ 4096)
    (hroom : s.pushQueue? q.rxQueue n b = some u) :
    exec (.send n q.rqPsn true true b) s
      = .next ((u.setQp { q with inbound := none, ctx3 := putBits q.ctx3 0 24 (psnAdd q.rqPsn 1) }).send
        (.roceAck n q.rqPsn)) := by
  change execSend n q.rqPsn true true b s = _
  simp only [execSend, hq, hserves, onPsn_of_expected, hrx, List.nil_append, Nat.not_lt.mpr hlen, hroom, Bool.not_true,
    Bool.false_eq_true, if_false, if_true]

theorem exec_rdmaWrite_of_one_packet (hcheck : s.checkWrite q true a k b.length 0 b.length = none)
    (hroom : s.bulkBytes q.port + b.length ≤ s.queueRoom (96 + q.port) * 64) :
    exec (.rdmaWrite n q.rqPsn true true a k b.length b) s = .next
      (((s.setQp { q with inbound := none, ctx3 := putBits q.ctx3 0 24 (psnAdd q.rqPsn 1),
                          acks := q.acks ++ [(q.rqPsn, none)] }).storeRegion
        (.rdma q.num q.rqPsn) q.domain s.nowDtb a b).showBulk q.port) := by
  change execRdmaWrite n q.rqPsn true true a k b.length b s = _
  simp only [execRdmaWrite, hq, hserves, onPsn_of_expected, Bool.not_true, Bool.false_eq_true, if_false]
  rw [takeWrite_of_whole hcheck hroom, writePacket_of_whole]

end

/-! ### Acknowledgements (R421, R422) -/

section
variable {s : State} {n p : Nat} {q : Qp} {w : BitVec 64} {l : List (Nat × Option (BitVec 64))}
  (hq : s.liveQp? n = some q) (hheld : s.srcHeld (.rdma n p) = false) (hpaused : s.bit F.netStatusPaused q.port = false)
include hq hheld hpaused

theorem exec_rdmaWriteAckSend_of_write (hacks : q.acks = (p, none) :: l) :
    exec (.rdmaWriteAckSend n) s = .next ((s.setQp { q with acks := l }).send (.roceAck n p)) := by
  change execRdmaWriteAckSend n s = _
  simp only [execRdmaWriteAckSend, hq, hacks, hheld, hpaused, Bool.or_self, Bool.false_eq_true, if_false]

theorem exec_rdmaWriteAckSend_of_atomic (hacks : q.acks = (p, some w) :: l) :
    exec (.rdmaWriteAckSend n) s = .next ((s.setQp { q with acks := l }).send (.roceAtomicAck n p w)) := by
  change execRdmaWriteAckSend n s = _
  simp only [execRdmaWriteAckSend, hq, hacks, hheld, hpaused, Bool.or_self, Bool.false_eq_true, if_false]

end

/-! ### RDMA READ (R419, R423) -/

theorem mtu_pos (q : Qp) : 0 < q.mtu := Nat.two_pow_pos _

section
variable {s : State} {n a k len : Nat} {q : Qp} {r : PeerRead} {l : List PeerRead} {b : List (BitVec 8)}
  (hq : s.liveQp? n = some q)
include hq

theorem exec_rdmaRead_of_granted (hserves : s.netServes q = true) (hlen : len ≤ 2 ^ 30)
    (hroom : State.pendingReads q < q.maxDestRd) (hgrant : s.remoteRefusal q k a len 18 = none) :
    exec (.rdmaRead n q.rqPsn a k len) s = .next (s.setQp { q with
      reads := q.reads ++ [⟨q.rqPsn, a, len, 0⟩],
      ctx3 := putBits q.ctx3 0 24 (psnAdd q.rqPsn (q.packets len)) }) := by
  change execRdmaRead n q.rqPsn a k len s = _
  simp only [execRdmaRead, hq, hserves, onPsn_of_expected, Nat.not_lt.mpr hlen, Nat.not_le.mpr hroom, hgrant, Bool.not_true,
    Bool.false_eq_true, if_false]

theorem exec_readResponseSend_of_read (hreads : q.reads = r :: l) (hacks : q.acks = [])
    (hpaused : s.bit F.netStatusPaused q.port = false) (hleft : r.packets * q.mtu < r.len)
    (hheld : s.modifiedLines (r.addr + r.packets * q.mtu) (min q.mtu (r.len - r.packets * q.mtu)) = [])
    (hload : s.loadRegion q.domain (r.addr + r.packets * q.mtu) (min q.mtu (r.len - r.packets * q.mtu)) [] = (b, false)) :
    exec (.readResponseSend n) s = .next ((s.setQp { q with
      reads := if q.packets r.len ≤ r.packets + 1 then l else { r with packets := r.packets + 1 } :: l }).send
        (.roceReadResponse n (psnAdd r.psn r.packets) b)) := by
  have hsome : ¬ min q.mtu (r.len - r.packets * q.mtu) = 0 := by
    have := mtu_pos q
    omega
  change execReadResponseSend n s = _
  simp only [execReadResponseSend, hq, hreads, hacks, hpaused, hsome, hheld, hload, List.any_nil, bne_self_eq_false,
    Bool.or_self, Bool.false_eq_true, if_false]

end

/-! ### Atomics (R337, R422) -/

section
variable {s : State} {n a k : Nat} {q : Qp} {x y : BitVec 64} {b : List (BitVec 8)}

theorem atomicNew_fetchAdd (x y old : Word) : atomicNew opFetchAdd x y old.toNat = (old + x).toNat := by
  rw [atomicNew, if_pos rfl, BitVec.toNat_add]

theorem atomicNew_compareSwap (x y old : Word) :
    atomicNew opCompareSwap x y old.toNat = (if old = x then y else old).toNat := by
  have hop : ¬ opCompareSwap = opFetchAdd ∧ ¬ opCompareSwap = opSwap := by decide
  rw [atomicNew, if_neg hop.1, if_neg hop.2]
  by_cases h : old = x
  · rw [if_pos h, if_pos (congrArg BitVec.toNat h), Nat.mod_eq_of_lt y.isLt]
  · rw [if_neg h, if_neg (fun e => h (BitVec.eq_of_toNat_eq e)), Nat.mod_eq_of_lt old.isLt]

/-- An atomic has read its old value, which it keeps for its acknowledgement and in the atomic cache, and writes. -/
def atomicDone (s : State) (q : Qp) (n a : Nat) (old new : Word) : State :=
  (s.setQp { q with
    ctx3 := putBits q.ctx3 0 24 (psnAdd q.rqPsn 1),
    atomics := (q.atomics ++ [(q.rqPsn, old)]).drop (q.atomics.length + 1 - 16),
    acks := [(q.rqPsn, some old)] }).storeRegion (.rdma n q.rqPsn) q.domain s.nowDtb a (leBytes 8 new.toNat)

theorem peerAtomic_of_granted {op : Nat} {new : Word} (hq : s.liveQp? n = some q) (hserves : s.netServes q = true)
    (haligned : a % 8 = 0) (hroom : State.pendingReads q < q.maxDestRd) (hgrant : s.remoteRefusal q k a 8 20 = none)
    (hheld : s.modifiedLines a 8 = []) (hacks : q.acks = []) (hload : s.loadRegion q.domain a 8 [] = (b, false))
    (hnew : atomicNew op x y (BitVec.ofNat 64 (ofBytes b)).toNat = new.toNat) :
    s.peerAtomic op n q.rqPsn a k x y = atomicDone s q n a (BitVec.ofNat 64 (ofBytes b)) new := by
  simp only [State.peerAtomic, hq, hserves, onPsn_of_expected, haligned, Nat.not_le.mpr hroom, hgrant, hheld, hacks, hload, hnew,
    List.any_nil, List.nil_append, bne_self_eq_false, Bool.not_true, Bool.false_eq_true, if_false]
  rfl

end

/-- Settles O43, operation by operation; a packet at the expected PSN is fresh, and both atomics end in the same way. -/
theorem responderTakesPeerRequests : Obligations.ResponderTakesPeerRequests := by
  refine ⟨?send, ?write, ?ack, ?atomicAck, ?read, ?response, ?fetchAdd, ?compareSwap⟩
  case send => exact fun _ _ _ _ _ => exec_send_of_one_packet
  case write => exact fun _ _ _ _ _ _ => exec_rdmaWrite_of_one_packet
  case ack => exact fun _ _ _ _ _ hq hacks hheld hpaused => exec_rdmaWriteAckSend_of_write hq hheld hpaused hacks
  case atomicAck => exact fun _ _ _ _ _ _ hq hacks hheld hpaused => exec_rdmaWriteAckSend_of_atomic hq hheld hpaused hacks
  case read => exact fun _ _ _ _ _ _ => exec_rdmaRead_of_granted
  case response => exact fun _ _ _ _ _ _ => exec_readResponseSend_of_read
  case fetchAdd =>
    intro s n a k q x b hq hserves haligned hroom hgrant hheld hacks hload
    exact congrArg Host.Outcome.next (peerAtomic_of_granted hq hserves haligned hroom hgrant hheld hacks hload
      (atomicNew_fetchAdd x 0 _))
  case compareSwap =>
    intro s n a k q x y b hq hserves haligned hroom hgrant hheld hacks hload
    exact congrArg Host.Outcome.next (peerAtomic_of_granted hq hserves haligned hroom hgrant hheld hacks hload
      (atomicNew_compareSwap x y _))

end Sys2Proof.Proofs.Network

/-!
PROOFS. The requester of a queue pair: transfers of a ring, acknowledgements, retries, and queue pairs that fail (O44).
-/
namespace Sys2Proof.Proofs.Network
open Sys2Proof.Machine Sys2Proof.Machine.State Sys2Proof.Proofs.Descriptors
open Sys2Proof.Proofs.TimeBase (lastEvent_raise)

/-! ### Peer transfers of a ring (R425) -/

section
variable {s : State} {r h st : Nat} {d : Desc} {o : List (BitVec 8)} {x : Nat × List (BitVec 8)}

theorem exec_movePeerWrite_of_good (hd : s.startedDesc? r h opPeerWrite = some d) (hnew : s.peerStarted d = false)
    (href : s.peerRefusal d = none) (hready : s.ready (.ring r h) [(d.num 16 8, State.moveLen d)] = true)
    (hruns : (s.taken (.ring r h)).goodRuns (s.ringDom r) (d.num 16 8) (State.moveLen d / 32 + 4) 0
      ((s.taken (.ring r h)).loadRegion (s.ringDom r) (d.num 16 8) (State.moveLen d) o).1 = ([x], none)) :
    exec (.movePeerWrite r h o) s = .next (((s.taken (.ring r h)).setDesc
      { d with left := 1, worst := stOk, acc := State.moveLen d }).request (d.num 36 2) (.write (d.num 24 8 + x.1) x.2) r h
        (d.num 40 4) x.2.length) := by
  change execMovePeerWrite r h o s = _
  simp only [execMovePeerWrite, hd, hnew, href, hready, hruns, Option.isSome_none, Option.getD_none, List.length_singleton,
    List.cons_ne_nil, List.foldl_cons, List.foldl_nil, Bool.not_true, Bool.false_eq_true, if_false]

theorem exec_movePeerWrite_of_refused (hd : s.startedDesc? r h opPeerWrite = some d) (hnew : s.peerStarted d = false)
    (href : s.peerRefusal d = some st) : exec (.movePeerWrite r h o) s = .next (s.finish r h st 0) := by
  change execMovePeerWrite r h o s = _
  simp only [execMovePeerWrite, hd, hnew, href, Bool.false_eq_true, if_false]

theorem net_finish (s : State) (r h st n : Nat) : (s.finish r h st n).net = s.net :=
  ((Keeps.refl 266240 s).finish r h st n rfl).same .net rfl

/-- A transfer of at most 1 GiB is one request. -/
theorem parts_eq_one {n : Nat} (hpos : 0 < n) (hn : n ≤ 2 ^ 30) : (n + 2 ^ 30 - 1) / 2 ^ 30 = 1 := by omega

theorem exec_movePeerRead_of_one (hd : s.startedDesc? r h opPeerRead = some d) (hnew : s.peerStarted d = false)
    (href : s.peerRefusal d = none) (hpos : 0 < State.moveLen d) (hlen : State.moveLen d ≤ 2 ^ 30) :
    exec (.movePeerRead r h) s = .next ((s.setDesc { d with left := 1, acc := State.moveLen d }).request (d.num 36 2)
      (.read (d.num 16 8) (d.num 24 8)) r h (d.num 40 4) (State.moveLen d)) := by
  change execMovePeerRead r h s = _
  simp only [execMovePeerRead, hd, hnew, href, parts_eq_one hpos hlen, List.range_one, List.map_cons, List.map_nil,
    List.length_singleton, List.foldl_cons, List.foldl_nil, Nat.zero_mul, Nat.sub_zero, Nat.add_zero, Nat.min_eq_right hlen,
    Bool.false_eq_true, if_false]

end

/-! ### Acknowledgements and retries (R415) -/

section
variable {s : State} {n p : Nat} {q : Qp} {r : PeerReq} {dst : Nat} {x b : List (BitVec 8)} (hq : s.liveQp? n = some q)
include hq

/-- The one request is a WRITE that the PSN covers: no READ is being answered, and no request is left. -/
theorem exec_ackReceive_of_write (hrequests : q.requests = [r]) (hkind : r.kind = .write dst x) (hsent : r.sent.isSome = true)
    (hcovers : psnDiff p r.last < 2 ^ 23) : exec (.ackReceive n p b) s
      = .next (((s.setQp { q with requests := [], retries := q.retryCnt, rnr := q.rnrRetry }).peerDone r).pump n) := by
  have hcovers' : psnDiff p r.last < 8388608 := hcovers
  change execAckReceive n p b s = _
  simp [execAckReceive, hq, hrequests, hkind, hsent, hcovers']

theorem exec_qpRetryTimeout_of_due (hr : q.requests.find? (fun r => r.sent.isSome) = some r)
    (hdue : r.sent.getD 0 + q.timeout ≤ s.clk) : exec (.qpRetryTimeout n) s
      = .next (if q.retries = 0 then s.exhausted n else (s.setQp { q with retries := q.retries - 1 }).resend n r.psn) := by
  change execQpRetryTimeout n s = _
  simp only [execQpRetryTimeout, hq, hr, Nat.not_lt.mpr hdue, if_false]

theorem exec_nakReceive_of_sequence (hleft : q.retries ≠ 0) : exec (.nakReceive n p .sequence) s
      = .next ((s.setQp { q with retries := q.retries - 1 }).resend n p) := by
  change execNakReceive n p .sequence s = _
  simp only [execNakReceive, hq, hleft, if_false]

theorem exec_nakReceive_of_notReady (hfinite : q.rnrRetry ≠ 7) (hleft : q.rnr ≠ 0) : exec (.nakReceive n p .notReady) s
      = .next ((s.setQp { q with rnr := q.rnr - 1 }).resend n p) := by
  change execNakReceive n p .notReady s = _
  simp only [execNakReceive, hq, hfinite, hleft, if_false]

theorem exec_nakReceive_of_accessError : exec (.nakReceive n p .accessError) s
      = .next ((s.qpError n stTargetDead stTargetDead).raise 196 sevWarning 0 noDom [d4 n, d4 (syndrome .accessError)]) := by
  change execNakReceive n p .accessError s = _
  simp only [execNakReceive, hq]
  rfl

end

/-! ### Queue pairs that fail (R377, R415) -/

section
variable {s : State} {n a b : Nat} {q : Qp}

/-- A queue pair in Error holds nothing that is under way. -/
def errorQp (q : Qp) : Qp :=
  { q with ctx0 := putBits q.ctx0 0 3 4, requests := [], inbound := none, redo := none, acks := [], reads := [] }

/-- The descriptors whose requests wait on a queue pair end. -/
def requestsEnded (s : State) (q : Qp) (notStarted started : Nat) : State :=
  q.requests.foldl (fun s r =>
    if r.ring = 4096 then s else s.finish r.ring r.handle (if r.sent.isSome then started else notStarted) 0) s

theorem qpError_of_found (hq : s.qp? n = some q) : s.qpError n a b =
    ((((requestsEnded s q a b).setQp (errorQp q)).ringsOfQp n).mirrorDown n).showBulk q.port := by
  simp only [State.qpError, hq]
  rfl

theorem net_requestsEnded (s : State) (q : Qp) (a b : Nat) : (requestsEnded s q a b).net = s.net := by
  have hkeeps : Keeps 266240 s (requestsEnded s q a b) :=
    (Keeps.refl 266240 s).foldl (fun t r ht => ht.ite (ht.finish r.ring r.handle _ 0 rfl)) q.requests
  exact hkeeps.same .net rfl

theorem qpState_qpError (hq : s.qp? n = some q) : (s.qpError n a b).qpState n = 4 := by
  have hended : (requestsEnded s q a b).qp? n = some q := (qp?_of_net (net_requestsEnded s q a b)).trans hq
  have hset : ((requestsEnded s q a b).setQp (errorQp q)).qp? n = some (errorQp q) :=
    qp?_setQp_same hended (show q.num = n from num_of_qp? hq)
  have hnet := ((((Keeps.refl 1048581 ((requestsEnded s q a b).setQp (errorQp q))).ringsOfQp n rfl).mirrorDown n
    rfl).showBulk q.port rfl).same .net rfl
  have herror : (s.qpError n a b).qp? n = some (errorQp q) := by
    rw [qpError_of_found hq]
    exact (qp?_of_net hnet).trans hset
  rw [qpState_of_qp? herror]
  exact bits_putBits_same q.ctx0 4 (by decide)

end

/-- Settles O44, command by command; a failed queue pair stays in Error through what its failure ends. -/
theorem requesterTransfersAndRetries : Obligations.RequesterTransfersAndRetries := by
  refine ⟨?write, ?refused, ?read, ?ack, ?timeout, ?exhausted, ?sequence, ?notReady, ?fatal⟩
  case write => exact fun _ _ _ _ _ _ => exec_movePeerWrite_of_good
  case refused =>
    intro s r h st d o hd hnew href hwaits
    obtain ⟨hdesc, hphase⟩ := desc?_of_started hd
    obtain ⟨hended, hregs⟩ := finish_ends (st := st) (n := 0) hdesc hphase hwaits
    exact ⟨_, exec_movePeerWrite_of_refused hd hnew href, hended, hregs, net_finish s r h st 0⟩
  case read => exact fun _ _ _ _ => exec_movePeerRead_of_one
  case ack => exact fun _ _ _ _ _ _ _ _ => exec_ackReceive_of_write
  case timeout =>
    intro s n q r hq hr hdue hleft
    rw [exec_qpRetryTimeout_of_due hq hr hdue, if_neg hleft]
  case exhausted =>
    intro s n q r hq hr hdue hnone
    refine ⟨_, exec_qpRetryTimeout_of_due hq hr hdue, ?_⟩
    rw [if_pos hnone]
    exact ⟨qpState_qpError (qp?_of_live hq), lastEvent_raise _ _ _ _ _ _⟩
  case sequence => exact fun _ _ _ _ => exec_nakReceive_of_sequence
  case notReady => exact fun _ _ _ _ => exec_nakReceive_of_notReady
  case fatal =>
    exact fun _ _ _ _ hq =>
      ⟨_, exec_nakReceive_of_accessError hq, qpState_qpError (qp?_of_live hq), lastEvent_raise _ _ _ _ _ _⟩

end Sys2Proof.Proofs.Network

/-!
PROOFS. What a step is and what it accounts for (O1, O2, O6), what a command leaves alone (O7), which steps stop (O8), and the
closed facts about words, the reset state and the land grid (O3, O5, O9).
-/
namespace Sys2Proof.Proofs.Steps
open Sys2Proof.Machine
open Sys2Proof.Proofs.Scope

/-! ### One step -/

/-- Settles O1: the queue's front decides the branch of the step. -/
theorem stepRunsTheFrontCommand : Obligations.StepRunsTheFrontCommand :=
  fun _ _ _ => step_of_command

/-- What a step that goes on accounts for: the part, the messages, the free values, the queue and the clock. -/
structure Accounts (s t : State) : Prop where
  part : t.part = s.part
  out : s.out <+: t.out
  free : s.free ≤ t.free
  pending : t.pending = s.pending.tail
  clk : t.clk = (if s.pending = [] then s.clk + 1 else s.clk)

theorem accounts_idle {s : State} (hq : s.pending = []) : Accounts s s.idle where
  part := (idle_keeps s).part
  out := (idle_keeps s).out
  free := (idle_keeps s).free
  pending := by rw [(idle_keeps s).pending, hq, List.tail_nil]
  clk := by rw [(idle_keeps s).clk, if_pos hq]

theorem accounts_command {s t : State} {c : Instr} {rest : List Instr} (hq : s.pending = c :: rest)
    (hexec : exec c { s with pending := rest } = .next t) : Accounts s t := by
  have hkeeps := exec_keeps { s with pending := rest } c t hexec
  exact {
    part := hkeeps.part
    out := hkeeps.out
    free := hkeeps.free
    pending := by rw [hkeeps.pending, hq, List.tail_cons]
    clk := by rw [hkeeps.clk, hq, if_neg (List.cons_ne_nil c rest)] }

theorem step_accounts {s t : State} (hstep : step s = .next t) : Accounts s t := by
  cases hq : s.pending with
  | nil =>
    rw [step_of_idle hq] at hstep
    cases hstep
    exact accounts_idle hq
  | cons c rest => exact accounts_command hq ((step_of_command hq).symm.trans hstep)

/-- Settles O6, by what waits: a nanosecond, or the front command by the law of its meaning. -/
theorem stepsAccountForPartQueueClockAndMessages : Obligations.StepsAccountForPartQueueClockAndMessages := by
  intro s t hstep
  obtain ⟨hpart, hout, hfree, hpending, hclk⟩ := step_accounts hstep
  exact ⟨hpart, hout, hfree, hpending, hclk⟩

/-- The timebase after a nanosecond in which it runs (R50, R51, R61). -/
theorem tick_of_running {s : State} (h : s.time.running = true) :
    s.tick.time.dtb = s.time.dtb + (s.time.frac + s.tickStep) / 2 ^ 32 ∧ s.tick.time.frac = (s.time.frac + s.tickStep) % 2 ^ 32 ∧
      s.tick.time.dies.map (·.replica) = s.time.dies.map (fun x => x.replica + 1) := by
  have htime : s.tick.time = { s.time with
      dtb := s.time.dtb + (s.time.frac + s.tickStep) / 2 ^ 32
      frac := (s.time.frac + s.tickStep) % 2 ^ 32
      slew := s.time.slew - s.slewStep
      dies := s.time.dies.map (fun x => { x with replica := x.replica + 1 })
      privet := s.time.privet + 1
      standby := s.time.standby + 1
      ppsOut := s.time.ppsOut && decide (s.time.dtb + (s.time.frac + s.tickStep) / 2 ^ 32 < s.time.ppsOutEnd) } := by
    unfold State.tick
    dsimp only
    rw [if_pos h]
    rfl
  rw [htime]
  exact ⟨rfl, rfl, List.map_map⟩

/-- Settles O2: the clock and the queue by what an idle step keeps, the timebase by its nanosecond. -/
theorem idleStepTakesANanosecond : Obligations.IdleStepTakesANanosecond := by
  refine ⟨fun s hq => ⟨s.idle, step_of_idle hq, ?_⟩, fun _ => tick_of_running⟩
  have haccounts := accounts_idle hq
  exact ⟨(idle_keeps s).clk, by rw [haccounts.pending, hq, List.tail_nil]⟩

/-! ### What a command leaves alone -/

/-- Settles O7: the mask of the footprint has no bit of a part outside it. -/
theorem commandsKeepToTheirFootprint : Obligations.CommandsKeepToTheirFootprint := by
  intro c s t p hp hexec
  have hbit : (mask (footprint c)).testBit p.idx = false := by rw [testBit_mask, decide_eq_false hp]
  exact (exec_keeps s c t hexec).same p hbit

/-! ### Steps that stop (assumption 130) -/

/-- A register command outside the address space stops; there is no other command of which that is said. -/
theorem exec_of_outside {c : Instr} (h : outsideCommand c = true) (s : State) : exec c s = .fault .outsideAddressSpace := by
  cases c
  case registerWrite dom addr width value => exact if_pos (of_decide_eq_true h)
  case registerAccessBadWidth dom addr width read => exact if_pos (of_decide_eq_true h)
  all_goals exact absurd h Bool.false_ne_true

/-- The meaning of every other command is a next state, whatever the state. -/
theorem exec_of_inside {c : Instr} (h : outsideCommand c = false) (s : State) : ∃ t, exec c s = .next t := by
  cases c
  case registerWrite dom addr width value => exact ⟨_, if_neg (of_decide_eq_false h)⟩
  case registerAccessBadWidth dom addr width read => exact ⟨_, if_neg (of_decide_eq_false h)⟩
  all_goals exact ⟨_, rfl⟩

theorem inside_of_wf (c : Instr) : Laws.Inside.Statement c := by
  cases c
  case registerWrite dom addr width value => exact Laws.Inside.registerWrite dom addr width value
  case registerAccessBadWidth dom addr width read => exact Laws.Inside.registerAccessBadWidth dom addr width read
  all_goals exact fun _ => rfl

theorem stops_of_pending {s : State} {c : Instr} {rest : List Instr} (h : s.pending = c :: rest) :
    s.stops = outsideCommand c := by
  rw [State.stops, h]

theorem step_of_stops_false {s : State} (h : s.stops = false) : ∃ t, step s = .next t := by
  cases hq : s.pending with
  | nil => exact ⟨s.idle, step_of_idle hq⟩
  | cons c rest =>
    rw [step_of_command hq]
    exact exec_of_inside ((stops_of_pending hq).symm.trans h) _

theorem step_of_stops_true {s : State} (h : s.stops = true) : step s = .fault .outsideAddressSpace := by
  cases hq : s.pending with
  | nil =>
    have hgoes : s.stops = false := by rw [State.stops, hq]
    exact absurd (hgoes.symm.trans h) Bool.false_ne_true
  | cons c rest =>
    rw [step_of_command hq]
    exact exec_of_outside ((stops_of_pending hq).symm.trans h) _

/-- Settles O8: only a register command outside the address space stops, and a well-formed one is inside it. -/
theorem onlyAccessesOutsideTheAddressSpaceStop : Obligations.OnlyAccessesOutsideTheAddressSpaceStop :=
  ⟨fun _ => step_of_stops_false, fun _ => step_of_stops_true, fun c s hwf => exec_of_inside (inside_of_wf c hwf) s⟩

/-! ### Words, the reset state and the land grid -/

/-- Settles O3: the table gives no row bits, so both branches are the ones for no command. -/
theorem noWordSpellsACommand : Obligations.NoWordSpellsACommand :=
  fun _ _ _ => ⟨rfl, rfl⟩

/-- Settles O5: at reset every table is empty, whatever the part. -/
theorem invariantHoldsAtReset : Obligations.InvariantHoldsAtReset := by
  intro p
  have hinv : (State.resetOf p).Inv := ⟨rfl, rfl⟩
  exact ⟨hinv, rfl, rfl, rfl⟩

/-- Settles O9: the coordinates fall into the blocks of Tables 21.2 and 21.3, and stripe 7 is one that an MHL-4040 lacks. -/
theorem packageLandsFollowTheirTables : Obligations.PackageLandsFollowTheirTables := by
  unfold Obligations.PackageLandsFollowTheirTables
  decide

end Sys2Proof.Proofs.Steps

/-!
PROOFS. Registers past updates of other fields: the rules of Laws/State.lean with the separation of two fields of one register
found by evaluation, and what the moves of the service mode leave.
-/
namespace Sys2Proof.Proofs.Registers
open Sys2Proof.Machine Sys2Proof.Machine.State
open Sys2Proof.Proofs.TimeBase (Apart)

section
variable (s : State) {f g : Fld}

/-- Two fields of one register lie apart: what evaluation says of their places. -/
abbrev apartBits (f g : Fld) : Bool :=
  decide (f.lo + f.w ≤ 64 ∧ (g.lo + g.w ≤ f.lo ∨ f.lo + f.w ≤ g.lo))

theorem apart_of_bits (h : apartBits f g = true) : Apart f g := .inr (of_decide_eq_true h)

theorem get_set_apart (x : Nat) (h : apartBits f g = true := by rfl) : (s.set f x).get g = s.get g :=
  get_set_other s x (apart_of_bits h)

theorem get_put_apart (b : Bool) (h : apartBits f g = true := by rfl) : (s.put f b).get g = s.get g :=
  get_put_other s b (apart_of_bits h)

theorem get_bump_apart (h : apartBits f g = true := by rfl) : (s.bump f).get g = s.get g :=
  get_bump_other s (apart_of_bits h)

theorem on_set_apart (x : Nat) (h : apartBits f g = true := by rfl) : (s.set f x).on g = s.on g :=
  on_set_other s x (apart_of_bits h)

theorem on_put_apart (b : Bool) (h : apartBits f g = true := by rfl) : (s.put f b).on g = s.on g :=
  on_put_other s b (apart_of_bits h)

theorem on_bump_apart (h : apartBits f g = true := by rfl) : (s.bump f).on g = s.on g :=
  congrArg (fun n => n != 0) (get_bump_apart s h)

theorem bit_set_apart (x k : Nat) (h : apartBits f ⟨g.reg, g.lo + k, 1⟩ = true) : (s.set f x).bit g k = s.bit g k :=
  on_set_other s x (apart_of_bits h)

theorem bit_put_apart (b : Bool) (k : Nat) (h : apartBits f ⟨g.reg, g.lo + k, 1⟩ = true) : (s.put f b).bit g k = s.bit g k :=
  on_put_other s b (apart_of_bits h)

/-- A bit of a field does not see another bit of it set. -/
theorem bit_setBit_ne {j k : Nat} (b : Bool) (hjk : k ≠ j) (hj : f.lo + j < 64) : (s.setBit f j b).bit f k = s.bit f k :=
  on_put_other s b (.inr (show f.lo + j + 1 ≤ 64 ∧ (f.lo + k + 1 ≤ f.lo + j ∨ f.lo + j + 1 ≤ f.lo + k) by omega))

end

theorem lastEvent_of_obs {s t : State} (h : t.obs = s.obs) : t.lastEvent = s.lastEvent := by
  rw [State.lastEvent, State.lastEvent, h]

end Sys2Proof.Proofs.Registers

/-!
PROOFS. The cipher cluster: key commands of a domain, the XTS key switch, pins, replicas, and cores and lanes that are lost (O48).
-/
namespace Sys2Proof.Proofs.Cipher
open Sys2Proof.Machine Sys2Proof.Machine.State Sys2Proof.Proofs.Registers
open Sys2Proof.Proofs.TimeBase (lastEvent_raise)
open Sys2Proof.Proofs.Descriptors (withCip)
open Sys2Proof.Proofs.MemoryWindow (reg_foldl)
open Sys2Proof.Proofs.Network (reg_unitLost reg_setBit_other on_of_reg bit_of_reg get_of_reg)

/-! ### Key commands that start (R440, R441) -/

section
variable {s : State} {d k : Nat}

theorem startKey_of_free (hfree : s.keyBusy d = false) (op slot : Nat) (w : List (BitVec 8)) :
    s.startKey d op slot w =
      (withCip s { s.cip with cmds := s.cip.cmds ++ [⟨d, op, slot, w⟩] }).put (F.cipDomStatusBusy d) true :=
  if_neg (by rw [hfree]; exact Bool.false_ne_true)

theorem keyBusy_put (b : Bool) : (s.put (F.cipDomStatusBusy d) b).keyBusy d = b :=
  on_put_same s b (show 8 + 1 ≤ 64 by decide) Nat.one_pos

/-- A command that starts is under way, and changes no slot and no key. -/
theorem startKey_starts (hfree : s.keyBusy d = false) (op slot : Nat) (w : List (BitVec 8)) :
    (s.startKey d op slot w).keyBusy d = true ∧ (s.startKey d op slot w).cip.cmds = s.cip.cmds ++ [⟨d, op, slot, w⟩] ∧
      (s.startKey d op slot w).cip.slots = s.cip.slots ∧ (s.startKey d op slot w).cip.keys = s.cip.keys := by
  rw [startKey_of_free hfree, put_cip]
  exact ⟨keyBusy_put true, rfl, rfl, rfl⟩

theorem exec_loadGcmSlot_of_valid (hd : d < 1024) (hk : k < 8) : exec (.loadGcmSlot d k) s
    = .next (s.startKey d 1 k ((List.range 5).flatMap (fun i => leBytes 8 (s.get (F.cipDomWrapWrapped d i))))) :=
  congrArg Host.Outcome.next (if_neg (by simp [hd, hk]))

theorem exec_clearGcmSlot_of_valid (hd : d < 1024) (hk : k < 8) : exec (.clearGcmSlot d k) s = .next (s.startKey d 2 k []) :=
  congrArg Host.Outcome.next (if_neg (by simp [hd, hk]))

theorem exec_replaceXtsKey_of_allowed (hd : d < 1024) (hfree : s.keyBusy d = false) (huse : s.keyInUse d = false) :
    exec (.replaceXtsKey d 0) s = .next (s.startKey d 3 0 []) := by
  change execReplaceXtsKey d 0 s = _
  simp only [execReplaceXtsKey, Nat.not_le.mpr hd, hfree, huse, bne_self_eq_false, Bool.false_eq_true, if_false]

theorem exec_replaceXtsKey_of_function {m : Nat} (hd : d < 1024) (hm : m ≠ 0) : exec (.replaceXtsKey d m) s
    = .next (s.raise 225 sevNotice 0 noDom [d4 d, d4 3, d4 stDomainDenied]) := by
  have hm' : (m != 0) = true := bne_iff_ne.mpr hm
  change execReplaceXtsKey d m s = _
  simp only [execReplaceXtsKey, Nat.not_le.mpr hd, hm', if_true, if_false]
  rfl

end

/-! ### Key commands that end (R438, R440, R441) -/

section
variable {s : State} {d st slot : Nat}

theorem keyBusy_endKey : (s.endKey d st).keyBusy d = false :=
  (on_set_apart _ st).trans (keyBusy_put false)

theorem slotValid_endKey (hslot : slot < 8) :
    (s.endKey d st).bit (F.cipDomStatusSlotValid d) slot = s.bit (F.cipDomStatusSlotValid d) slot := by
  have hlast : apartBits (F.cipDomStatusLastStatus d) ⟨R.cipDomStatus d, 0 + slot, 1⟩ = true :=
    decide_eq_true (show 16 + 16 ≤ 64 ∧ (0 + slot + 1 ≤ 16 ∨ 16 + 16 ≤ 0 + slot) by omega)
  have hbusy : apartBits (F.cipDomStatusBusy d) ⟨R.cipDomStatus d, 0 + slot, 1⟩ = true :=
    decide_eq_true (show 8 + 1 ≤ 64 ∧ (0 + slot + 1 ≤ 8 ∨ 8 + 1 ≤ 0 + slot) by omega)
  exact (bit_set_apart _ st slot hlast).trans (bit_put_apart _ false slot hbusy)

theorem slots_endKey : (s.endKey d st).cip.slots = s.cip.slots := by
  rw [endKey, set_cip, put_cip]

/-- Event 224 tells of a changed key and changes nothing. -/
theorem keyChanged_reports (op slot : Nat) : (s.keyChanged d op slot).cip = s.cip ∧
    (∀ a, (s.keyChanged d op slot).reg a = s.reg a) ∧ (s.keyChanged d op slot).lastEvent = some (224, sevInfo, noDom) := by
  unfold State.keyChanged
  exact ⟨raise_cip .., reg_raise _ _ _ _ _ _, lastEvent_raise ..⟩

theorem slotValid_putSlot (hslot : slot < 8) (key : Option (List (BitVec 8))) :
    (s.putSlot d slot key).bit (F.cipDomStatusSlotValid d) slot = key.isSome :=
  bit_setBit_same _ _ (show 0 + slot < 64 by omega)

theorem slots_putSlot_none : (s.putSlot d slot none).cip.slots.any (fun x => x.1 = d && x.2.1 = slot) = false := by
  have hslots : (s.putSlot d slot none).cip.slots = s.cip.slots.filter (fun x => !(x.1 = d && x.2.1 = slot)) :=
    List.append_nil _
  rw [hslots, List.any_eq_false]
  intro x hx
  simpa only [Bool.not_eq_true', Bool.not_eq_true] using (List.mem_filter.mp hx).2

theorem slots_putSlot_some (key : List (BitVec 8)) : (s.putSlot d slot (some key)).cip.slots.contains (d, slot, key) = true :=
  List.contains_iff_mem.mpr (List.mem_append_right _ (List.mem_singleton_self _))

variable {c : KeyCmd} (hc : s.cip.cmds.find? (fun c => c.dom = d && c.op != 3) = some c)
include hc

theorem exec_keyCommandComplete_of_clear (hop : c.op = 2) : exec (.keyCommandComplete d) s
    = .next (((s.putSlot d c.slot none).endKey d stOk).keyChanged d 2 c.slot) := by
  change execKeyCommandComplete d s = _
  simp only [execKeyCommandComplete, hc, hop, if_true]

theorem exec_keyCommandComplete_of_load {x y : List (BitVec 8)} (hop : c.op = 1) (hx : Store.find? s.pv.keks d = some x)
    (hy : keyUnwrap x c.wrapped = some y) : exec (.keyCommandComplete d) s
    = .next (((s.putSlot d c.slot (some y)).endKey d stOk).keyChanged d 1 c.slot) := by
  have hne : ¬ c.op = 2 := by omega
  change execKeyCommandComplete d s = _
  simp only [execKeyCommandComplete, hc, hne, hx, hy, Option.bind_some, if_false]

theorem exec_keyCommandComplete_of_unwrapped (hop : c.op = 1)
    (hbad : (Store.find? s.pv.keks d).bind (fun x => keyUnwrap x c.wrapped) = none) : exec (.keyCommandComplete d) s
    = .next ((s.endKey d stAuthFailed).raise 230 sevWarning 0 noDom [d4 d, d4 c.slot]) := by
  have hne : ¬ c.op = 2 := by omega
  change execKeyCommandComplete d s = _
  simp only [execKeyCommandComplete, hc, hne, hbad, if_false]

end

section
variable {s : State} {d : Nat}

theorem exec_xtsKeySwitch_of_drained (hcmd : s.cip.cmds.any (fun c => c.dom = d && c.op = 3) = true)
    (hqs : s.qs.any (fun e => e.dom = d) = false) :
    exec (.xtsKeySwitch d) s = .next (((s.replaceKey d).endKey d stOk).keyChanged d 3 0) :=
  congrArg Host.Outcome.next (if_pos (by rw [hcmd, hqs]; rfl))

theorem cipDomXts_ne_cipDomStatus (d : Nat) : R.cipDomXts d ≠ R.cipDomStatus d := by
  unfold R.cipDomXts R.cipDomStatus
  omega

theorem generation_endKey (st : Nat) : (s.endKey d st).get (F.cipDomXtsGeneration d) = s.get (F.cipDomXtsGeneration d) :=
  (get_set_other _ _ (.inl (cipDomXts_ne_cipDomStatus d))).trans (get_put_other _ _ (.inl (cipDomXts_ne_cipDomStatus d)))

theorem generation_replaceKey :
    (s.replaceKey d).get (F.cipDomXtsGeneration d) = (s.get (F.cipDomXtsGeneration d) + 1) % 65536 :=
  (get_set_same _ _ (show 0 + 16 ≤ 64 by decide)).trans (Nat.mod_mod _ 65536)

end

/-! ### Where keys reside (R442, R443) -/

section
variable {s : State} {d c : Nat}

/-- The pins of a domain are given up: its entries stay as copies. -/
def unpinned (s : State) (d : Nat) : CipState :=
  { s.cip with xts := s.cip.xts.map (fun e => if e.dom = d then { e with pinned := false } else e)
               idle := s.cip.idle.filter (fun i => i.1 != d) }

theorem exec_keyPinRelease_of_due (hdue : s.cip.idle.any (fun i => i.1 = d && i.2 + 1000000000 ≤ s.clk) = true)
    (hidle : s.keyActive d = false) : exec (.keyPinRelease d) s = .next ((withCip s (unpinned s d)).showKeys d) :=
  congrArg Host.Outcome.next (if_pos (by rw [hdue, hidle]; rfl))

theorem cip_showKeys : (s.showKeys d).cip = s.cip := by
  rw [State.showKeys, set_cip, set_cip, put_cip, set_cip]

theorem not_pinned_unpinned : (unpinned s d).xts.any (fun e => e.dom = d && e.pinned) = false := by
  rw [unpinned, List.any_map, List.any_eq_false]
  intro e _
  by_cases he : e.dom = d <;> simp [he]

theorem places_unpinned : (unpinned s d).xts.map (fun e => (e.core, e.dom)) = s.cip.xts.map (fun e => (e.core, e.dom)) := by
  rw [unpinned, List.map_map]
  refine List.map_congr_left fun e _ => ?_
  by_cases he : e.dom = d <;> simp [he]

theorem idle_unpinned : (unpinned s d).idle.any (fun i => i.1 = d) = false := by
  rw [unpinned, List.any_filter, List.any_eq_false]
  intro i _
  by_cases hi : i.1 = d <;> simp [hi]

theorem cip_cCip (code n : Nat) : (s.cCip code n).cip = s.cip := ((Keeps.refl 4 s).cCip code n rfl).same .cip rfl

/-- A key that is loaded lies in its core, and what else is held was held before. -/
theorem xts_loadKey (pinned : Bool) : ∃ l, (∀ e ∈ l, e ∈ s.cip.xts) ∧ (s.loadKey c d pinned).cip.xts =
    l ++ [⟨c, d, pinned, s.clk⟩] := by
  refine ⟨_, fun e he => ?_, by rw [State.loadKey, cip_showKeys, cip_cCip, bump_cip]⟩
  split at he
  · exact he
  · exact List.mem_of_mem_filter he

theorem exec_keyReplicaLoad_of_room (hon : s.on F.cipCtlReplicaEnable = true) (hheld : s.cip.xts.any (fun e => e.dom = d) = true)
    (hcore : s.xtsOnline.find? (fun c => !(s.keysIn c).any (fun e => e.dom = d) && s.pinsIn c < 64) = some c) :
    exec (.keyReplicaLoad d) s = .next (s.loadKey c d false) := by
  change execKeyReplicaLoad d s = _
  simp only [execKeyReplicaLoad, hon, hheld, hcore, Bool.not_true, Bool.or_self, Bool.false_eq_true, if_false]

end

/-! ### Cores and lanes that are lost (R445, R446, R613) -/

section
variable {s : State} {c k d : Nat}

/-- The loss of a cipher core is reported, and named in PV_UNITS_LOST. -/
def coreReported (s : State) (gcm : Bool) (c : Nat) : State :=
  (s.raise 228 sevCritical 0 noDom [d4 (Config.codeOf 16 (if gcm then 1 else 0)), d4 c]).unitLost F.pvUnitsLostCipherCore 0

theorem cip_unitLost (f : Fld) (k : Nat) : (s.unitLost f k).cip = s.cip :=
  ((Keeps.refl 524289 s).unitLost f k rfl).same .cip rfl

theorem lastEvent_unitLost (f : Fld) (k : Nat) : (s.unitLost f k).lastEvent = s.lastEvent :=
  lastEvent_of_obs (((Keeps.refl 524289 s).unitLost f k rfl).same .obs rfl)

theorem cip_coreReported (gcm : Bool) : (coreReported s gcm c).cip = s.cip := cip_unitLost _ _

theorem lastEvent_coreReported (gcm : Bool) : (coreReported s gcm c).lastEvent = some (228, sevCritical, noDom) :=
  (lastEvent_unitLost _ _).trans (lastEvent_raise _ _ _ _ _ _)

theorem bit_coreReported (gcm : Bool) (k : Nat) : (coreReported s gcm c).bit F.cipStatusXtsOnline k =
    s.bit F.cipStatusXtsOnline k :=
  bit_of_reg (f := F.cipStatusXtsOnline) (reg_unitLost _ 0 (by decide) (by decide)) k

/-- The keys that a GCM core held go with it. -/
def gcmLost (s : State) (c : Nat) : State :=
  (withCip s { s.cip with gcm := s.cip.gcm.filter (fun e => e.core != c) }).setBit F.cipStatusGcmOnline c false

theorem gcm_gcmLost : (gcmLost s c).cip.gcm = s.cip.gcm.filter (fun e => e.core != c) := by
  rw [gcmLost, setBit_cip]
  rfl

theorem lastEvent_gcmLost : (gcmLost s c).lastEvent = s.lastEvent :=
  lastEvent_of_obs (by rw [gcmLost, setBit_obs]; rfl)

theorem exec_cipherCoreOffline_of_gcm (hc : c < 15) (hup : s.bit F.cipStatusGcmOnline c = true) :
    exec (.cipherCoreOffline true c) s = .next (gcmLost (coreReported s true c) c) := by
  have hne : ¬ c = 15 := by omega
  have hlt : ¬ 16 ≤ c := by omega
  change execCipherCoreOffline true c s = _
  simp only [execCipherCoreOffline, hne, hlt, hup, if_false, if_true]
  rfl

/-- The keys that an XTS core held go with it. -/
def xtsLost (s : State) (c : Nat) : State :=
  (withCip s { s.cip with xts := s.cip.xts.filter (fun e => e.core != c) }).setBit F.cipStatusXtsOnline c false

/-- The keys that a core had pinned. -/
def pinsOf (s : State) (c : Nat) : List XtsEntry := (s.keysIn c).filter (fun e => e.pinned)

/-- Those keys are pinned on the cores that remain. -/
def repinned (l : List XtsEntry) (s : State) : State := l.foldl (fun s e => s.pinKey e.dom) s

/-- KeyThrash, as a core that is lost leaves it. -/
def thrashShown (s : State) (room active : Nat) : State :=
  if room < active && !s.on F.cipStatusKeyThrash then
    (s.put F.cipStatusKeyThrash true).raise 227 sevWarning 0 noDom [d4 active, d4 s.xtsOnline.length]
  else s

/-- What is left once an XTS core is lost. -/
def xtsCoreGone (s : State) (c : Nat) : State :=
  thrashShown (repinned (pinsOf s c) (xtsLost s c)) (64 * (xtsLost s c).xtsOnline.length)
    ((pinsOf s c).map (·.dom) ++ ((xtsLost s c).cip.xts.filter (·.pinned)).map (·.dom)).eraseDups.length

theorem exec_cipherCoreOffline_of_xts (hc : c < 16) (hup : s.bit F.cipStatusXtsOnline c = true) :
    exec (.cipherCoreOffline false c) s = .next
      (if (xtsCoreGone (coreReported s false c) c).xtsOnline = [] then (xtsCoreGone (coreReported s false c) c).pipelineLost
        else xtsCoreGone (coreReported s false c) c) := by
  change execCipherCoreOffline false c s = _
  simp only [execCipherCoreOffline, Nat.not_le.mpr hc, hup, decide_true, Bool.not_true, Bool.false_eq_true, if_false,
    xtsCoreGone, thrashShown, repinned,
    pinsOf, xtsLost, coreReported, withCip]

/-- A core that is not online holds no key. -/
structure CoreGone (c : Nat) (s : State) : Prop where
  offline : s.bit F.cipStatusXtsOnline c = false
  empty : ∀ e ∈ s.cip.xts, e.core ≠ c

theorem coreGone_xtsLost (hc : c < 16) : CoreGone c (xtsLost s c) where
  offline := bit_setBit_same _ false (show 0 + c < 64 by omega)
  empty e he := by simpa using (List.mem_filter.mp he).2

theorem pinCore?_online (h : s.pinCore? = some k) : s.bit F.cipStatusXtsOnline k = true := by
  have hmem : ∀ (l : List Nat) (m : Option Nat), (∀ x ∈ l, s.bit F.cipStatusXtsOnline x = true) →
      (∀ x, m = some x → s.bit F.cipStatusXtsOnline x = true) → ∀ x, l.foldl (fun (m : Option Nat) c => match m with
        | some x => if s.pinsIn c < s.pinsIn x then some c else m
        | none => some c) m = some x → s.bit F.cipStatusXtsOnline x = true := by
    intro l
    induction l with
    | nil => exact fun m _ hm => hm
    | cons y l ih =>
      intro m hl hm
      refine ih _ (fun x hx => hl x (List.mem_cons_of_mem _ hx)) fun x hx => ?_
      have hy := hl y List.mem_cons_self
      dsimp only at hx
      split at hx
      · split at hx
        · cases hx; exact hy
        · exact hm x hx
      · cases hx; exact hy
  refine hmem _ none (fun x hx => ?_) (fun x hx => nomatch hx) k h
  exact (List.mem_filter.mp (List.mem_filter.mp hx).1).2

theorem cipStatus_not_keyReg (d : Nat) : ¬ Rings.KeyReg d R.cipStatus := by
  unfold Rings.KeyReg R.cipStatus R.cipDomXts R.cipKeys R.cipXtsSwitchCount
  omega

theorem bit_pinKey (f : Fld) (hf : f.reg = R.cipStatus) (k : Nat) : (s.pinKey d).bit f k = s.bit f k :=
  bit_of_reg (Rings.reg_pinKey (hf ▸ cipStatus_not_keyReg d) s) k

/-- An entry of a key that is pinned lies where an entry lay before, or in a core that is online. -/
theorem xts_pinKey (e : XtsEntry) (he : e ∈ (s.pinKey d).cip.xts) :
    (∃ x ∈ s.cip.xts, x.core = e.core) ∨ s.bit F.cipStatusXtsOnline e.core = true := by
  unfold State.pinKey at he
  split at he
  · exact .inl ⟨e, he, rfl⟩
  · split at he
    next x _ =>
      rw [cip_showKeys] at he
      obtain ⟨y, hy, rfl⟩ := List.mem_map.mp he
      exact .inl ⟨y, hy, by split <;> rfl⟩
    next =>
      split at he
      next c hcore =>
        obtain ⟨l, hl, heq⟩ := xts_loadKey (s := s) (c := c) (d := d) true
        rw [heq, List.mem_append, List.mem_singleton] at he
        obtain he | rfl := he
        · exact .inl ⟨e, hl e he, rfl⟩
        · exact .inr (pinCore?_online hcore)
      next => exact .inl ⟨e, he, rfl⟩

theorem CoreGone.pinKey (h : CoreGone c s) (d : Nat) : CoreGone c (s.pinKey d) where
  offline := (bit_pinKey _ rfl c).trans h.offline
  empty e he := by
    obtain ⟨x, hx, hcore⟩ | honline := xts_pinKey e he
    · exact hcore ▸ h.empty x hx
    · exact fun hec => Bool.false_ne_true (h.offline.symm.trans (hec ▸ honline))

theorem CoreGone.repinned (l : List XtsEntry) (h : CoreGone c s) : CoreGone c (repinned l s) := by
  induction l generalizing s with
  | nil => exact h
  | cons e l ih => exact ih (h.pinKey e.dom)

theorem bit_repinned (l : List XtsEntry) (k : Nat) : (repinned l s).bit F.cipStatusXtsOnline k =
    s.bit F.cipStatusXtsOnline k := by
  induction l generalizing s with
  | nil => rfl
  | cons e l ih => exact (ih (s := s.pinKey e.dom)).trans (bit_pinKey _ rfl k)

theorem bit_thrashShown (hk : k < 16) (room active : Nat) :
    (thrashShown s room active).bit F.cipStatusXtsOnline k = s.bit F.cipStatusXtsOnline k := by
  have happ : apartBits F.cipStatusKeyThrash ⟨R.cipStatus, 0 + k, 1⟩ = true :=
    decide_eq_true (show 31 + 1 ≤ 64 ∧ (0 + k + 1 ≤ 31 ∨ 31 + 1 ≤ 0 + k) by omega)
  unfold thrashShown
  split
  · rw [State.bit, on_raise]
    exact bit_put_apart s true k happ
  · rfl

theorem cip_thrashShown (room active : Nat) : (thrashShown s room active).cip = s.cip := by
  unfold thrashShown
  split
  · rw [raise_cip, put_cip]
  · rfl

theorem CoreGone.thrashShown (hc : c < 16) (h : CoreGone c s) (room active : Nat) : CoreGone c (thrashShown s room active) where
  offline := (bit_thrashShown hc room active).trans h.offline
  empty := by
    rw [cip_thrashShown]
    exact h.empty

theorem coreGone_xtsCoreGone (hc : c < 16) : CoreGone c (xtsCoreGone s c) :=
  ((coreGone_xtsLost hc).repinned _).thrashShown hc _ _

/-- A core that is online stays so when another is lost. -/
theorem bit_xtsCoreGone (hc : c < 16) (hk : k < 16) (hkc : k ≠ c) :
    (xtsCoreGone s c).bit F.cipStatusXtsOnline k = s.bit F.cipStatusXtsOnline k :=
  ((bit_thrashShown hk _ _).trans (bit_repinned _ k)).trans (bit_setBit_ne _ false hkc (show 0 + c < 64 by omega))

theorem xtsOnline_of_bit (hk : k < 16) (h : s.bit F.cipStatusXtsOnline k = true) : s.xtsOnline ≠ [] :=
  List.ne_nil_of_mem (List.mem_filter.mpr ⟨List.mem_range.mpr hk, h⟩)

theorem exec_cipherCoreOffline_of_others (hc : c < 16) (hk : k < 16) (hkc : k ≠ c) (hup : s.bit F.cipStatusXtsOnline c = true)
    (hother : s.bit F.cipStatusXtsOnline k = true) :
    exec (.cipherCoreOffline false c) s = .next (xtsCoreGone (coreReported s false c) c) := by
  have hstill : (xtsCoreGone (coreReported s false c) c).bit F.cipStatusXtsOnline k = true :=
    (bit_xtsCoreGone hc hk hkc).trans ((bit_coreReported false k).trans hother)
  rw [exec_cipherCoreOffline_of_xts hc hup, if_neg (xtsOnline_of_bit hk hstill)]

theorem exec_nearPathLaneFailure_of_new (hd : d < s.part.dies) (hnew : s.cip.lanes.contains d = false) :
    exec (.nearPathLaneFailure d) s = .next (((withCip s { s.cip with lanes := s.cip.lanes ++ [d] }).raise 229 sevCritical 0
      noDom [d4 d]).unitLost F.pvUnitsLostCipherCore 0) := by
  change execNearPathLaneFailure d s = _
  simp only [execNearPathLaneFailure, Nat.not_le.mpr hd, hnew, decide_false, Bool.or_self, Bool.false_eq_true, if_false]
  rfl

end

/-- Settles O48, command by command; a core that is lost takes its keys through what pins them again. -/
theorem keyCommandsAndKeyResidence : Obligations.KeyCommandsAndKeyResidence := by
  refine ⟨?load, ?clear, ?replace, ?function, ?cleared, ?loaded, ?unwrapped, ?switch, ?unpin, ?replica, ?gcm, ?xts, ?lane⟩
  case load =>
    intro s d k hd hk hfree
    obtain ⟨hbusy, hcmds, hslots, hkeys⟩ := startKey_starts hfree 1 k
      ((List.range 5).flatMap (fun i => leBytes 8 (s.get (F.cipDomWrapWrapped d i))))
    exact ⟨_, exec_loadGcmSlot_of_valid hd hk, hbusy, hcmds, hslots⟩
  case clear =>
    intro s d k hd hk hfree
    obtain ⟨hbusy, hcmds, hslots, hkeys⟩ := startKey_starts hfree 2 k []
    exact ⟨_, exec_clearGcmSlot_of_valid hd hk, hbusy, hcmds, hslots⟩
  case replace =>
    intro s d hd hfree huse
    obtain ⟨hbusy, hcmds, hslots, hkeys⟩ := startKey_starts hfree 3 0 []
    exact ⟨_, exec_replaceXtsKey_of_allowed hd hfree huse, hbusy, hcmds, hkeys⟩
  case function => exact fun s d m hd hm => exec_replaceXtsKey_of_function hd hm
  case cleared =>
    intro s d c _ hc hop hslot
    obtain ⟨hcip, hreg, hevent⟩ := keyChanged_reports (s := (s.putSlot d c.slot none).endKey d stOk) (d := d) 2 c.slot
    refine ⟨_, exec_keyCommandComplete_of_clear hc hop, ?_, ?_, ?_, hevent⟩
    · rw [hcip, slots_endKey]
      exact slots_putSlot_none
    · exact (bit_of_reg (hreg _) _).trans ((slotValid_endKey hslot).trans (slotValid_putSlot hslot none))
    · exact (on_of_reg (hreg _)).trans keyBusy_endKey
  case loaded =>
    intro s d c x y _ hc hop hslot hx hy
    obtain ⟨hcip, hreg, hevent⟩ := keyChanged_reports (s := (s.putSlot d c.slot (some y)).endKey d stOk) (d := d) 1 c.slot
    refine ⟨_, exec_keyCommandComplete_of_load hc hop hx hy, ?_, ?_, ?_, hevent⟩
    · rw [hcip, slots_endKey]
      exact slots_putSlot_some y
    · exact (bit_of_reg (hreg _) _).trans ((slotValid_endKey hslot).trans (slotValid_putSlot hslot (some y)))
    · exact (on_of_reg (hreg _)).trans keyBusy_endKey
  case unwrapped =>
    intro s d c _ hc hop hbad
    refine ⟨_, exec_keyCommandComplete_of_unwrapped hc hop hbad, ?_, ?_, lastEvent_raise _ _ _ _ _ _⟩
    · rw [raise_cip, slots_endKey]
    · exact (on_raise ..).trans keyBusy_endKey
  case switch =>
    intro s d _ hcmd hqs
    obtain ⟨-, hreg, hevent⟩ := keyChanged_reports (s := (s.replaceKey d).endKey d stOk) (d := d) 3 0
    refine ⟨_, exec_xtsKeySwitch_of_drained hcmd hqs, ?_, ?_, hevent⟩
    · exact (get_of_reg (hreg _)).trans ((generation_endKey stOk).trans generation_replaceKey)
    · exact (on_of_reg (hreg _)).trans keyBusy_endKey
  case unpin =>
    intro s d hdue hidle
    refine ⟨_, exec_keyPinRelease_of_due hdue hidle, ?_⟩
    rw [cip_showKeys]
    exact ⟨not_pinned_unpinned, places_unpinned, idle_unpinned⟩
  case replica =>
    intro s d c hon hheld hcore
    obtain ⟨l, _, hxts⟩ := xts_loadKey (s := s) (c := c) (d := d) false
    refine ⟨_, exec_keyReplicaLoad_of_room hon hheld hcore, ?_⟩
    rw [hxts]
    exact List.contains_iff_mem.mpr (List.mem_append_right l (List.mem_singleton_self _))
  case gcm =>
    intro s c hc hup
    exact ⟨_, exec_cipherCoreOffline_of_gcm hc hup, bit_setBit_same _ false (show 16 + c < 64 by omega),
      gcm_gcmLost.trans (congrArg (fun x => x.gcm.filter (fun e => e.core != c)) (cip_coreReported true)),
      lastEvent_gcmLost.trans (lastEvent_coreReported true)⟩
  case xts =>
    intro s c k hc hk hkc hup hother
    have hgone : CoreGone c (xtsCoreGone (coreReported s false c) c) := coreGone_xtsCoreGone hc
    refine ⟨_, exec_cipherCoreOffline_of_others hc hk hkc hup hother, hgone.offline, ?_⟩
    exact List.any_eq_false.mpr fun e he => by simpa using hgone.empty e he
  case lane =>
    intro s d hd hnew
    refine ⟨_, exec_nearPathLaneFailure_of_new hd hnew, ?_, ?_⟩
    · exact congrArg CipState.lanes (cip_unitLost _ _)
    · exact (lastEvent_unitLost _ _).trans (lastEvent_raise _ _ _ _ _ _)

end Sys2Proof.Proofs.Cipher

/-!
PROOFS. The power sequencer: steps up and down, drops and aborts, back-off, rail faults and the start hold (O53).
-/
namespace Sys2Proof.Proofs.Power
open Sys2Proof.Machine Sys2Proof.Machine.State Sys2Proof.Proofs.Registers
open Sys2Proof.Proofs.TimeBase (lastEvent_raise)
open Sys2Proof.Proofs.MemoryWindow (reg_foldl reg_of_keeps)
open Sys2Proof.Proofs.Network (get_of_reg bit_of_reg reg_setBit_other)
open Sys2Proof.Proofs.Persistence (withPw get_withPw withPer get_withPer leftOn flushBegun startFlush_eq beginFlush_eq)

/-! ### Rails that are enabled or shown good (R542 to R545) -/

section
variable {s : State} {n k : Nat} {a : Nat}

theorem reg_setPg (l : List Nat) (b : Bool) (ha : a ≠ R.pwrRailPg) : (s.setPg l b).reg a = s.reg a :=
  reg_foldl (fun s n => reg_setBit_other s n b ha) l s

theorem reg_setEn (l : List Nat) (b : Bool) (ha : a ≠ R.pwrRailEn) : (s.setEn l b).reg a = s.reg a :=
  reg_foldl (fun s n => reg_setBit_other s n b ha) l s

theorem supervisor_setPg (l : List Nat) (b : Bool) : (s.setPg l b).supervisor = s.supervisor :=
  get_of_reg (reg_setPg l b (by decide))

theorem pw_setPg (l : List Nat) (b : Bool) : (s.setPg l b).pw = s.pw := by
  unfold State.setPg
  induction l generalizing s with
  | nil => rfl
  | cons n l ih => rw [List.foldl_cons, ih, setBit_pw]

theorem clk_setPg (l : List Nat) (b : Bool) : (s.setPg l b).clk = s.clk := ((Keeps.refl 1 s).setPg l b rfl).clk

theorem withPw_pw (x : PwState) : (withPw s x).pw = x := rfl

theorem pg_setPg (hn : n < 24) (b : Bool) : (s.setPg [n] b).bit F.pwrRailPgRails n = b :=
  bit_setBit_same s b (show 0 + n < 64 by omega)

theorem reg_withPw (x : PwState) (a : Nat) : (withPw s x).reg a = s.reg a := rfl

theorem setBit_withPw (f : Fld) (b : Bool) (x : PwState) : (withPw s x).setBit f n b = withPw (s.setBit f n b) x := rfl

theorem reg_sinceNow : s.sinceNow.reg a = s.reg a := rfl

/-- Enabling rails does not meet the rest of the power state. -/
theorem setEn_withPw (l : List Nat) (b : Bool) (x : PwState) : (withPw s x).setEn l b = withPw (s.setEn l b) x := by
  unfold State.setEn
  induction l generalizing s with
  | nil => rfl
  | cons n l ih => rw [List.foldl_cons, List.foldl_cons, setBit_withPw, ih]

end

/-! ### Steps of a power-up (R545 to R547, R567) -/

section
variable {s : State} {n k a x : Nat}

/-- Every rail of a step has been good for its stable time. -/
def steady (s : State) (k : Nat) : Bool :=
  (s.stepRails k).all (fun n => s.pw.stepAt + s.stableNs n ≤ s.clk &&
    s.pw.drops.all (fun d => d.1 != n || d.2.2 + s.stableNs n ≤ s.clk))

/-- The sequence is complete. -/
def sequenced (s : State) : State :=
  let u := (s.set F.pwrStatusState pwOn).set F.pvModeStartPhase 3
  withPw u { u.pw with since := u.clk, due := true }

section
variable (hseq : s.supervisor = pwSequencing)
include hseq

theorem exec_sequenceStepComplete_of_inner (hhold : s.pw.hold = none) (hk : s.get F.pwrStatusStep = k) (hpos : 0 < k)
    (hlt : k < 9)
    (hsteady : steady s k = true) :
    exec .sequenceStepComplete s = .next ((s.setPg (s.stepRails k) true).enableStep (k + 1)) := by
  unfold steady at hsteady
  change execSequenceStepComplete s = _
  simp only [execSequenceStepComplete, hseq, hhold, hk, hsteady, Nat.pos_iff_ne_zero.mp hpos, hlt, bne_self_eq_false,
    Option.isSome_none, Bool.not_true, Bool.or_self, decide_false, Bool.false_and, Bool.false_eq_true, if_false, if_true]

theorem exec_sequenceStepComplete_of_last (hhold : s.pw.hold = none) (hk : s.get F.pwrStatusStep = 9)
    (hsteady : steady s 9 = true) :
    exec .sequenceStepComplete s = .next ((sequenced (s.setPg (s.stepRails 9) true)).raise 14 sevInfo 0 noDom
      [d4 ((sequenced (s.setPg (s.stepRails 9) true)).get F.pwrStatusAttempt),
       d8 ((sequenced (s.setPg (s.stepRails 9) true)).clk - (sequenced (s.setPg (s.stepRails 9) true)).pw.startAt)]) := by
  unfold steady at hsteady
  change execSequenceStepComplete s = _
  simp only [execSequenceStepComplete, hseq, hhold, hk, hsteady, bne_self_eq_false,
    Option.isSome_none, Bool.not_true, Bool.or_self, OfNat.ofNat_ne_zero, decide_false, Bool.false_and, Bool.false_eq_true,
    if_false, Nat.lt_irrefl, sequenced, withPw]

/-- A drop of the rail is counted, and its PG is low. -/
def dropped (s : State) (n c : Nat) : State :=
  (withPw s { s.pw with drops := s.pw.drops.filter (fun d => d.1 != n) ++ [(n, c, s.clk)] }).setPg [n] false

/-- The drops of a rail so far. -/
def dropCount (s : State) (n : Nat) : Nat := ((s.pw.drops.find? (fun d => d.1 = n)).map (·.2.1)).getD 0

theorem exec_seqPgDrop_of_enabled {c : Nat} (hn : n < 24) (hen : s.bit F.pwrRailEnRails n = true) (hc : dropCount s n + 1 = c) :
    exec (.seqPgDrop n) s = .next (if 3 ≤ c then (dropped s n c).abortSequence n 2 else dropped s n c) := by
  subst hc
  change execSeqPgDrop n s = _
  simp only [execSeqPgDrop, hseq, hen, Nat.not_le.mpr hn, bne_self_eq_false, decide_false, Bool.not_true, Bool.or_self,
    Bool.false_eq_true, if_false, dropped, dropCount, withPw]
  rfl

theorem exec_seqPgDrop_of_first (hn : n < 24) (hen : s.bit F.pwrRailEnRails n = true)
    (hfirst : s.pw.drops.find? (fun d => d.1 = n) = none) : exec (.seqPgDrop n) s = .next (dropped s n 1) :=
  (exec_seqPgDrop_of_enabled hseq (c := 1) hn hen (by rw [dropCount, hfirst]; rfl)).trans
    (congrArg Host.Outcome.next (if_neg (by decide)))

theorem exec_seqPgDrop_of_third (hn : n < 24) (hen : s.bit F.pwrRailEnRails n = true)
    (hthird : s.pw.drops.find? (fun d => d.1 = n) = some (n, 2, x)) :
    exec (.seqPgDrop n) s = .next ((dropped s n 3).abortSequence n 2) :=
  (exec_seqPgDrop_of_enabled hseq (c := 3) hn hen (by rw [dropCount, hthird]; rfl)).trans
    (congrArg Host.Outcome.next (if_pos (Nat.le_refl 3)))

theorem exec_sequenceWindowExpiry_of_late (hhold : s.pw.hold = none)
    (hrail : (s.stepRails (s.get F.pwrStatusStep)).contains n = true) (hlate : s.pw.stepAt + s.windowNs n ≤ s.clk) :
    exec (.sequenceWindowExpiry n) s = .next (s.abortSequence n 1) := by
  change execSequenceWindowExpiry n s = _
  simp only [execSequenceWindowExpiry, hseq, hhold, hrail, Nat.not_lt.mpr hlate, bne_self_eq_false, Option.isSome_none,
    Bool.not_true, decide_false, Bool.or_self, Bool.false_eq_true, if_false]

theorem exec_startHoldTimeout_of_late (hhold : s.pw.hold = some x) (hlate : x + ms 600000 ≤ s.clk) :
    exec .startHoldTimeout s
      = .next ((((s.railFault 0 5).raise 12 sevFatal 0 noDom [d4 0, d4 5]).spreadInc 6).powerDown pwLatchedOff) := by
  change execStartHoldTimeout s = _
  simp only [execStartHoldTimeout, hseq, hhold, Nat.not_lt.mpr hlate, bne_self_eq_false, decide_false, Bool.or_self,
    Bool.false_eq_true, if_false]

end

theorem supervisor_sequenced : (sequenced s).supervisor = pwOn := by
  rw [State.supervisor, sequenced, get_withPw, get_set_other _ _ (.inl (by decide)), get_set_same _ _ (by decide)]
  rfl

theorem since_sequenced : (sequenced s).pw.since = s.clk := by
  rw [sequenced, withPw_pw, set_clk, set_clk]

theorem startPhase_sequenced : (sequenced s).get F.pvModeStartPhase = 3 := by
  rw [sequenced, get_withPw, get_set_same _ _ (by decide)]
  rfl

theorem exec_backoffExpiry_of_late (hback : s.supervisor = pwBackoff) (ha : s.get F.pwrStatusAttempt = a)
    (hlate : s.pw.since + ms (250 * 2 ^ a) ≤ s.clk) : exec .backoffExpiry s = .next (s.powerOn (a + 1) 2) := by
  change execBackoffExpiry s = _
  simp only [execBackoffExpiry, hback, ha, Nat.not_lt.mpr hlate, bne_self_eq_false, decide_false, Bool.or_self,
    Bool.false_eq_true, if_false]

theorem exec_attemptCountReset_of_steady (hon : s.supervisor = pwOn) (hlong : s.pw.since + ms 600000 ≤ s.clk) :
    exec .attemptCountReset s = .next (s.set F.pwrStatusAttempt 0) :=
  congrArg Host.Outcome.next (if_pos (by simp only [hon, hlong, decide_true, Bool.and_self]))

end

/-! ### Steps of a power-down (R546) -/

section
variable {s u : State} {k : Nat}

/-- The rails that are not enabled: without a late one, all of them read low. -/
def idleRails (s : State) : List Nat := (List.range 24).filter (fun n => !s.bit F.pwrRailEnRails n && none != some n)

theorem exec_powerDownStep_of_low (hdown : s.supervisor = pwPoweringDown) (hu : u = s.setPg (idleRails s) false) :
    exec (.powerDownStep none) s = .next (withPw u { u.pw with stepAt := u.clk }).dropTop := by
  subst hu
  change execPowerDownStep none s = _
  simp only [execPowerDownStep, hdown, bne_self_eq_false, Bool.false_eq_true, if_false]
  rfl

theorem topStep?_withPw (x : PwState) : (withPw u x).topStep? = u.topStep? := rfl

theorem dropTop_of_some (x : PwState) (h : u.topStep? = some k) : (withPw u x).dropTop =
    (withPw (u.setEn (u.stepRails k) false) x).set F.pwrStatusStep k := by
  simp only [State.dropTop, topStep?_withPw, h]
  exact congrArg (State.set · F.pwrStatusStep k) (setEn_withPw _ false x)

theorem dropTop_of_none (x : PwState) (h : u.topStep? = none) : (withPw u x).dropTop = (withPw u x).powerDownEnds := by
  simp only [State.dropTop, topStep?_withPw, h]

end

/-! ### A rail that drops while On (R549) -/

section
variable {s : State} {n w k a : Nat}

theorem reg_spreadInc (c : Nat) : (s.spreadInc c).reg a = s.reg a :=
  reg_of_keeps ((Keeps.refl 8192 s).spreadInc c rfl) rfl a

/-- The fault of a rail in service is recorded, and the supervisor's state stands since now. -/
def faultNoted (s : State) (n : Nat) : State :=
  (((((s.railFault n 3).raise 13 sevCritical 0 noDom [d4 n, d4 (s.railOnFault n)]).spreadInc 7).setPg [n] false)).sinceNow

theorem exec_runningRailFault_of_flush (hon : s.supervisor = pwOn) (hused : s.railUsed n = true)
    (hen : s.bit F.pwrRailEnRails n = true) (hlong : 4000 ≤ w) (hflush : s.railOnFault n = 0) :
    exec (.runningRailFault n w) s = .next ((faultNoted s n).startFlush 2) := by
  change execRunningRailFault n w s = _
  simp only [execRunningRailFault, hon, hused, hen, hlong, hflush, faultNoted, Bool.not_true, Bool.or_self, decide_true,
    Bool.and_self,
    Bool.false_eq_true, if_false, if_true]

theorem get_railFault_rail (hn : n < 32) (kind : Nat) : (s.railFault n kind).get F.pwrFaultRail = n := by
  unfold State.railFault
  rw [get_put_other _ _ (by decide), get_set_other _ _ (by decide), get_set_other _ _ (by decide), get_set_other _ _ (by decide),
    get_set_same _ _ (by decide)]
  exact Nat.mod_eq_of_lt hn

theorem get_railFault_kind (hk : k < 8) : (s.railFault n k).get F.pwrFaultKind = k := by
  unfold State.railFault
  rw [get_put_other _ _ (by decide), get_set_other _ _ (by decide), get_set_other _ _ (by decide), get_set_same _ _ (by decide)]
  exact Nat.mod_eq_of_lt hk

theorem reg_railFault (kind : Nat) (ha : a ≠ R.pwrFault) : (s.railFault n kind).reg a = s.reg a := by
  unfold State.railFault State.put
  rw [reg_set_other _ _ ha, reg_set_other _ _ ha, reg_set_other _ _ ha, reg_set_other _ _ ha, reg_set_other _ _ ha]

theorem reg_faultNoted (ha : a ≠ R.pwrRailPg) : (faultNoted s n).reg a = (s.railFault n 3).reg a := by
  rw [faultNoted, reg_sinceNow, reg_setPg _ _ ha, reg_spreadInc, reg_raise]

theorem pg_faultNoted (hn : n < 24) : (faultNoted s n).bit F.pwrRailPgRails n = false :=
  (bit_of_reg reg_sinceNow n).trans (pg_setPg hn false)

theorem pw_withPer (x : PerState) : (withPer s x).pw = s.pw := rfl

/-- A flush that the supervisor starts from On. -/
structure Stopping (k : Nat) (s t : State) : Prop where
  supervisor : t.supervisor = pwStopping
  trigger : t.get F.pwrStatusLastTrigger = k
  others : ∀ a, a ≠ R.pwrStatus → a ≠ R.perStatus → t.reg a = s.reg a
  pfWarn : t.on F.pwrStatusPfWarn = s.on F.pwrStatusPfWarn
  warned : t.pw.pfWarn = s.pw.pfWarn

theorem stopping_leftOn (hk : k < 16) : Stopping k s (leftOn s k) where
  supervisor := Persistence.get_leftOn_pwrStatusState
  trigger := Persistence.get_leftOn_pwrStatusLastTrigger hk
  others a ha _ := by rw [leftOn, reg_withPw, reg_set_other _ _ ha, reg_set_other _ _ ha]
  pfWarn := by
    rw [leftOn, State.on, get_withPw]
    exact (on_set_other _ _ (by decide)).trans (on_set_other _ _ (by decide))
  warned := by rw [leftOn, withPw_pw, set_pw, set_pw]

theorem Stopping.flushBegun {t : State} (h : Stopping k s t) (c : Nat) : Stopping k s (flushBegun t c) := by
  have hreg : ∀ a, a ≠ R.perStatus → (Persistence.flushBegun t c).reg a = t.reg a := fun a ha => by
    rw [Persistence.flushBegun, reg_raise]
    exact reg_set_other t 4 ha
  exact {
    supervisor := (get_of_reg (hreg _ (by decide))).trans h.supervisor
    trigger := (get_of_reg (hreg _ (by decide))).trans h.trigger
    others a ha hp := (hreg a hp).trans (h.others a ha hp)
    pfWarn := (Network.on_of_reg (hreg _ (by decide))).trans h.pfWarn
    warned := by
      rw [Persistence.flushBegun, raise_pw, pw_withPer, set_pw]
      exact h.warned }

/-- From On the supervisor stops, whether the flush begins, already runs, or has ended. -/
theorem stopping_startFlush (hon : s.supervisor = pwOn) (hk : k < 16) : Stopping k s (s.startFlush k) := by
  have hleft := stopping_leftOn (s := s) hk
  have hstay : ¬ (s.get F.pwrStatusState != 3) = true := by
    rw [show s.get F.pwrStatusState = 3 from hon]
    exact Bool.false_ne_true
  rw [startFlush_eq, if_neg hstay, beginFlush_eq]
  split
  · exact ⟨hleft.supervisor, hleft.trigger, hleft.others, hleft.pfWarn, hleft.warned⟩
  · split
    · exact hleft
    · exact hleft.flushBegun k

end

/-- Settles O53, command by command; a rail fault is recorded before the flush that leaves it. -/
theorem sequencerStepsAbortsAndRestarts : Obligations.SequencerStepsAbortsAndRestarts := by
  refine ⟨?inner, ?last, ?first, ?third, ?window, ?down, ?downEnds, ?backoff, ?attempts, ?fault, ?hold⟩
  case inner => exact fun _ _ => exec_sequenceStepComplete_of_inner
  case last =>
    intro s hseq hhold hk hsteady
    refine ⟨_, exec_sequenceStepComplete_of_last hseq hhold hk hsteady, ?_, ?_, ?_, lastEvent_raise ..⟩
    · rw [State.supervisor, get_raise]
      exact supervisor_sequenced
    · rw [get_raise, startPhase_sequenced]
    · rw [raise_pw, since_sequenced, clk_setPg]
  case first =>
    intro s n hseq hn hen hfirst
    exact ⟨_, exec_seqPgDrop_of_first hseq hn hen hfirst, pg_setPg hn false, (supervisor_setPg [n] false).trans hseq,
      congrArg PwState.drops (pw_setPg [n] false)⟩
  case third => exact fun _ _ _ => exec_seqPgDrop_of_third
  case window => exact fun _ _ => exec_sequenceWindowExpiry_of_late
  case down =>
    intro s u k hdown hu hk
    rw [exec_powerDownStep_of_low hdown hu, dropTop_of_some _ hk]
    rfl
  case downEnds =>
    intro s u hdown hu hnone
    rw [exec_powerDownStep_of_low hdown hu, dropTop_of_none _ hnone]
    rfl
  case backoff => exact fun _ _ => exec_backoffExpiry_of_late
  case attempts => exact fun _ => exec_attemptCountReset_of_steady
  case fault =>
    intro s n w hon hn hused hen hlong hflush
    have hnoted : (faultNoted s n).supervisor = pwOn :=
      (get_of_reg ((reg_faultNoted (by decide)).trans (reg_railFault 3 (by decide)))).trans hon
    have hstop := stopping_startFlush hnoted (show 2 < 16 by decide)
    have hfault : ((faultNoted s n).startFlush 2).reg R.pwrFault = (s.railFault n 3).reg R.pwrFault :=
      (hstop.others _ (by decide) (by decide)).trans (reg_faultNoted (by decide))
    refine ⟨_, exec_runningRailFault_of_flush hon hused hen hlong hflush, hstop.supervisor, hstop.trigger, ?_, ?_, ?_⟩
    · exact (get_of_reg hfault).trans (get_railFault_rail (by omega) 3)
    · exact (get_of_reg hfault).trans (get_railFault_kind (by decide))
    · exact (bit_of_reg (hstop.others _ (by decide) (by decide)) n).trans (pg_faultNoted hn)
  case hold => exact fun _ _ => exec_startHoldTimeout_of_late

end Sys2Proof.Proofs.Power

/-!
PROOFS. Power-fail warnings, the flush limit, L2, input return, hold-up tests, sensors, throttling and trips (O54).
-/
namespace Sys2Proof.Proofs.Power
open Sys2Proof.Machine Sys2Proof.Machine.State Sys2Proof.Proofs.Registers
open Sys2Proof.Proofs.TimeBase (lastEvent_raise)
open Sys2Proof.Proofs.MemoryWindow (reg_foldl reg_of_keeps)
open Sys2Proof.Proofs.Network (get_of_reg bit_of_reg on_of_reg reg_setBit_other reg_toMode)
open Sys2Proof.Proofs.Persistence (withPw get_withPw withPer get_withPer)
open Sys2Proof.Proofs.Flash (Shown ShownOnly not_shown_of_lt not_shown_of_channel)
open Sys2Proof.Proofs.Maintain (CacheOnly cacheRegs)

/-! ### PF_WARN_N, the flush limit, L2 and the return of the input (R550 to R553) -/

section
variable {s : State} {n x : Nat}

theorem exec_pfWarnNTrigger_of_short (hboot : s.pw.booted = true) (hshort : n < max 1 (s.get F.pwrPfCfgFilterUs)) :
    exec (.pfWarnNTrigger n) s = .next (s.bump F.pwrPfGlitchCountCount) := by
  change execPfWarnNTrigger n s = _
  simp only [execPfWarnNTrigger, hboot, hshort, Bool.not_true, Bool.false_eq_true, if_false, if_true]

/-- The warning is shown. -/
def warnShown (s : State) : State := withPw (s.put F.pwrStatusPfWarn true) { s.pw with pfWarn := true }

/-- The warning is reported, and ends a hold-up test. -/
def warned (s : State) : State :=
  (((warnShown s).raise 10 sevNotice 0 noDom [d4 ((warnShown s).get F.pwrPfGlitchCountCount)]).spreadInc 8).abortTest

theorem reg_abortTest {a : Nat} (ha : a ≠ R.pwrHoldupStatus) : s.abortTest.reg a = s.reg a := by
  unfold State.abortTest
  split
  · exact reg_set_other (withPw s _) _ ha
  · rfl

theorem pw_abortTest : s.abortTest.pw.pfWarn = s.pw.pfWarn ∧ s.abortTest.pw.cold = s.pw.cold := by
  unfold State.abortTest
  split
  · rw [put_pw]
    exact ⟨rfl, rfl⟩
  · exact ⟨rfl, rfl⟩

theorem reg_warned {a : Nat} (ha : a ≠ R.pwrHoldupStatus) (hs : a ≠ R.pwrStatus) : (warned s).reg a = s.reg a := by
  rw [warned, reg_abortTest ha, reg_spreadInc, reg_raise, warnShown, reg_withPw]
  exact reg_set_other s _ hs

theorem pw_warnShown : (warnShown s).pw.pfWarn = true ∧ (warnShown s).pw.cold = s.pw.cold := ⟨rfl, rfl⟩

theorem pw_warned : (warned s).pw.pfWarn = true ∧ (warned s).pw.cold = s.pw.cold := by
  have hpw : (((warnShown s).raise 10 sevNotice 0 noDom [d4 ((warnShown s).get F.pwrPfGlitchCountCount)]).spreadInc 8).pw
      = (warnShown s).pw :=
    (((Keeps.refl 8192 _).spreadInc 8 rfl).same .pw rfl).trans (raise_pw ..)
  rw [warned, pw_abortTest.1, pw_abortTest.2, hpw]
  exact pw_warnShown

theorem status_warned : (warned s).reg R.pwrStatus = (s.put F.pwrStatusPfWarn true).reg R.pwrStatus := by
  rw [warned, reg_abortTest (by decide), reg_spreadInc, reg_raise, warnShown, reg_withPw]

theorem supervisor_warned : (warned s).supervisor = s.supervisor :=
  (get_of_reg (f := F.pwrStatusState) status_warned).trans (get_put_other s true (by decide))

theorem on_pfWarn_warned : (warned s).on F.pwrStatusPfWarn = true :=
  (on_of_reg (f := F.pwrStatusPfWarn) status_warned).trans (on_put_same s true (by decide) (by decide))

/-- A warning that lasts, by the state of the supervisor. -/
theorem exec_pfWarnNTrigger_of_long (hboot : s.pw.booted = true) (hlong : max 1 (s.get F.pwrPfCfgFilterUs) ≤ n) :
    ∃ cold told other, exec (.pfWarnNTrigger n) s = .next (if (warned s).supervisor = pwOn then
        if 2 ≤ (warned s).pw.cold then cold
        else State.startFlush (if (warned s).on F.pwrPfCfgVectorEnable then told else warned s) 1
      else other) :=
  ⟨_, _, _, congrArg Host.Outcome.next ((if_neg (by rw [hboot]; decide)).trans (if_neg (Nat.not_lt.mpr hlong)))⟩

theorem exec_pfWarnNTrigger_of_on (hboot : s.pw.booted = true) (hlong : max 1 (s.get F.pwrPfCfgFilterUs) ≤ n)
    (hon : s.supervisor = pwOn) (hcold : s.pw.cold < 2) (hvector : s.on F.pwrPfCfgVectorEnable = false) :
    exec (.pfWarnNTrigger n) s = .next ((warned s).startFlush 1) := by
  have hquiet : (warned s).on F.pwrPfCfgVectorEnable = false :=
    (on_of_reg (f := F.pwrPfCfgVectorEnable) (reg_warned (by decide) (by decide))).trans hvector
  obtain ⟨cold, told, other, hexec⟩ := exec_pfWarnNTrigger_of_long hboot hlong
  rw [hexec, if_pos (supervisor_warned.trans hon), if_neg (by rw [pw_warned.2]; omega), hquiet, if_neg Bool.false_ne_true]

theorem exec_flushLimitExpiry_of_late (hstop : s.supervisor = pwStopping) (hnone : s.pw.l2At = none)
    (hlate : s.pw.stopAt + ms (max 5 (s.get F.pwrPfCfgLimitMs)) ≤ s.clk) : exec .flushLimitExpiry s = .next s.pmL2 := by
  change execFlushLimitExpiry s = _
  simp only [execFlushLimitExpiry, hstop, hnone, Nat.not_lt.mpr hlate, bne_self_eq_false, Option.isSome_none, decide_false,
    Bool.or_self, Bool.false_eq_true, if_false]

theorem exec_l2Timeout_of_late (hstop : s.supervisor = pwStopping) (hl2 : s.pw.l2At = some x) (hlate : x + 10000 ≤ s.clk) :
    exec .l2Timeout s = .next (s.powerDown s.stopEnd) := by
  change execL2Timeout s = _
  simp only [execL2Timeout, hstop, hl2, Nat.not_lt.mpr hlate, bne_self_eq_false, decide_false, Bool.or_self,
    Bool.false_eq_true, if_false]

theorem exec_inputReturn_of_steady (hwait : s.supervisor = pwWaitInput) (hlong : s.pw.since + ms 100 ≤ s.clk) :
    exec .inputReturn s = .next (((withPw (s.put F.pwrStatusPfWarn false) { s.pw with pfWarn := false }).raise 15 sevInfo 0
      noDom [d8 (s.clk - s.pw.since)]).powerOn 0 2) := by
  change execInputReturn s = _
  simp only [execInputReturn, hwait, Nat.not_lt.mpr hlong, bne_self_eq_false, decide_false, Bool.or_self,
    Bool.false_eq_true, if_false, withPw, put_clk]

end

/-! ### Hold-up tests (R309 to R311, R555 to R557) -/

section
variable {s : State} {v v0 v1 x e : Nat}

theorem startTest_of_deferred (hoff : s.supervisor ≠ pwOn) (v : Nat) : s.startTest v = withPw s { s.pw with due := true } :=
  if_pos (bne_iff_ne.mpr hoff)

/-- In On a test begins: the load is applied now. -/
theorem startTest_of_on (hon : s.supervisor = pwOn) (hnone : s.pw.test = none) (v : Nat) :
    (s.startTest v).pw = { s.pw with test := some (v, s.clk), load := true, due := false, tested := s.clk } := by
  have hstart : s.startTest v =
      (withPw s { s.pw with test := some (v, s.clk), load := true, due := false, tested := s.clk }).spreadInc 11 := by
    unfold State.startTest
    rw [if_neg (by rw [hon]; decide), if_neg (by rw [hnone]; decide)]
    rfl
  rw [hstart]
  exact ((Keeps.refl 8192 _).spreadInc 11 rfl).same .pw rfl

theorem exec_holdupInterval_of_due (hdue : s.pw.due = true ∨ (s.get F.pwrHoldupCfgIntervalHours ≠ 0 ∧
      s.pw.tested + s.get F.pwrHoldupCfgIntervalHours * 3600000000000 ≤ s.clk)) :
    exec (.holdupInterval v) s = .next (s.startTest v) := by
  refine congrArg Host.Outcome.next (if_pos ?_)
  obtain hdue | ⟨hhours, htime⟩ := hdue
  · rw [hdue, Bool.true_or]
  · rw [bne_iff_ne.mpr hhours, decide_eq_true htime, Bool.and_self, Bool.or_true]

/-- The registers that a change of the verified energy shows, beside those of writing back. -/
def verifiedRegs : List Nat := [R.perStatus, R.perDirtyBudget, R.lcBudget, R.pvMode]

section
variable {a : Nat} (hv : a ∉ verifiedRegs) (hc : a ∉ cacheRegs) (hs : ¬ Shown a)
include hv hc hs

theorem reg_setBudget : s.setBudget.reg a = s.reg a := by
  have hbudget (b : Nat) : (((s.set F.perDirtyBudgetBytes b).set F.lcBudgetLines (b / 64)).showCache).reg a = s.reg a := by
    rw [(CacheOnly.showCache _).reg_eq a hs hc, reg_set_other _ _ (ne_of_mem_of_not_mem (by decide) hv).symm,
      reg_set_other _ _ (ne_of_mem_of_not_mem (by decide) hv).symm]
  unfold State.setBudget
  extract_lets b u
  have hu : u.reg a = s.reg a := hbudget b
  split
  · rw [reg_raise, hu]
  · exact hu

omit hs in
theorem reg_readOnlyMode (x y z : Nat) :
    (((s.set F.perStatusState x).set F.perStatusRoCause y).set F.winStatusWindowState z).reg a = s.reg a := by
  rw [reg_set_other _ _ (ne_of_mem_of_not_mem (by decide) hc).symm, reg_set_other _ _ (ne_of_mem_of_not_mem (by decide) hv).symm,
    reg_set_other _ _ (ne_of_mem_of_not_mem (by decide) hv).symm]

theorem reg_enterReadOnly (ro : Nat) : (s.enterReadOnly ro).reg a = s.reg a := by
  have hmode : a ≠ R.pvMode := (ne_of_mem_of_not_mem (by decide) hv).symm
  unfold State.enterReadOnly
  dsimp only
  split
  · rfl
  · rw [reg_raise, CacheOnly.writeBackAll _ |>.reg_eq a hs hc, reg_toMode _ _ _ hmode, reg_readOnlyMode hv hc]

omit hs in
theorem reg_leaveReadOnly (ro : Nat) : (s.leaveReadOnly ro).reg a = s.reg a := by
  have hmode : a ≠ R.pvMode := (ne_of_mem_of_not_mem (by decide) hv).symm
  have hset (u : State) (x y : Nat) : ((u.set F.pvModeMode x).set F.pvModeCause y).reg a = u.reg a :=
    (reg_set_other _ _ hmode).trans (reg_set_other _ _ hmode)
  unfold State.leaveReadOnly
  dsimp only
  split
  · split
    · split
      · rw [hset, reg_readOnlyMode hv hc]
      · rw [hset, reg_readOnlyMode hv hc]
    · exact reg_readOnlyMode hv hc 1 0 1
  · rfl

theorem reg_holdupChanged : s.holdupChanged.reg a = s.reg a := by
  have hshow : ((s.put F.perStatusHoldupVerified (s.on F.perHoldupVerified)).setBudget).reg a = s.reg a :=
    (reg_setBudget hv hc hs).trans (reg_set_other _ _ (ne_of_mem_of_not_mem (by decide) hv).symm)
  unfold State.holdupChanged
  dsimp only
  split
  · exact hshow
  · split
    · exact (reg_leaveReadOnly hv hc 1).trans hshow
    · exact (reg_enterReadOnly hv hc hs 1).trans hshow

end

theorem reg_holdupChanged_power {a : Nat} (ha : a = R.pwrHoldupStatus ∨ a = R.perHoldup) : s.holdupChanged.reg a = s.reg a := by
  obtain rfl | rfl := ha
  · exact reg_holdupChanged (by decide) (by decide) (not_shown_of_channel (by decide) (by decide))
  · exact reg_holdupChanged (by decide) (by decide) (not_shown_of_lt (by decide) (by decide))

theorem pw_holdupChanged : s.holdupChanged.pw = s.pw := ((Keeps.refl 3573 s).holdupChanged rfl).same .pw rfl

/-- The load is off. -/
def unloaded (s : State) : State := withPw s { s.pw with test := none, load := false }

/-- What the test measured is shown. -/
def measured (s : State) (c v0 e : Nat) (fails : Bool) : State :=
  ((((s.set F.pwrHoldupStatusCapMf c).set F.pwrHoldupStatusV0Mv v0).set F.pwrHoldupStatusResultMj e).put
    F.pwrHoldupStatusFailed fails).put F.pwrHoldupStatusAborted false

/-- The energy that a test verifies. -/
def verifying (s : State) (e : Nat) (b : Bool) : State := (s.set F.perHoldupVerifiedMj e).put F.perHoldupVerified b

/-- What a test verifies is reported: event 16 where it is less than declared, and event 17 else. -/
def reported (s : State) (c v0 e declared : Nat) (fails : Bool) : State :=
  if fails then (verifying s 0 false).raise 16 sevWarning 0 noDom [d4 v0, d4 c, d4 e]
  else if e < declared then (verifying s (min e declared) true).raise 16 sevWarning 0 noDom [d4 v0, d4 c, d4 e]
  else (verifying s (min e declared) true).raise 17 sevNotice 0 noDom [d4 (min e declared)]

/-- The energy between the two voltages that the load shows, in millijoules (R555). -/
def testEnergy (s : State) (v0 dv : Nat) : Nat :=
  min 100 (s.get F.pwrHoldupCfgEffPct) * s.get F.pwrHoldupCfgTestMa * 10 *
    (v0 * v0 - s.get F.pwrHoldupCfgVminMv * s.get F.pwrHoldupCfgVminMv) / (200 * dv * 1000000)

/-- The reasons for which a test fails (R556). -/
def testFails (s : State) (v0 dv : Nat) : Bool :=
  dv < 50 || v0 ≤ s.get F.pwrHoldupCfgVminMv || min 100 (s.get F.pwrHoldupCfgEffPct) = 0 || s.get F.pwrHoldupCfgTestMa = 0

/-- After 10 ms of load a voltage that fell is measured. -/
theorem exec_holdupTestComplete_of_fall (htest : s.pw.test = some (v0, x)) (hdue : x + ms 10 ≤ s.clk) (hfell : v1 < v0) :
    ∃ c, exec (.holdupTestComplete v1) s = .next (State.holdupChanged (reported
      (measured (unloaded s) c v0 (testEnergy s v0 (v0 - v1)) (testFails s v0 (v0 - v1))) c v0 (testEnergy s v0 (v0 - v1))
      (s.get F.perHoldupDeclaredMj) (testFails s v0 (v0 - v1)))) := by
  have hdv : ¬ v0 - v1 = 0 := by omega
  have hexec : ∃ c0 c1 e0, exec (.holdupTestComplete v1) s = .next (State.holdupChanged (reported
      (measured (if v0 - v1 = 0 then (unloaded s).drew else unloaded s) (if v0 - v1 = 0 then c0 else c1) v0
        (if v0 - v1 = 0 then e0 else testEnergy s v0 (v0 - v1)) (testFails s v0 (v0 - v1)))
      (if v0 - v1 = 0 then c0 else c1) v0 (if v0 - v1 = 0 then e0 else testEnergy s v0 (v0 - v1))
      (s.get F.perHoldupDeclaredMj) (testFails s v0 (v0 - v1)))) := by
    change ∃ c0 c1 e0, execHoldupTestComplete v1 s = _
    unfold execHoldupTestComplete
    rw [htest]
    exact ⟨_, _, _, congrArg Host.Outcome.next (if_neg (Nat.not_lt.mpr hdue))⟩
  obtain ⟨c0, c1, e0, hexec⟩ := hexec
  refine ⟨c1, ?_⟩
  rw [hexec, if_neg hdv, if_neg hdv, if_neg hdv]

theorem failed_measured (c : Nat) (fails : Bool) : (measured s c v0 e fails).on F.pwrHoldupStatusFailed = fails :=
  (on_put_other _ false (by decide)).trans (on_put_same _ fails (by decide) (by decide))

theorem test_measured (c : Nat) (fails : Bool) : (measured (unloaded s) c v0 e fails).pw.test = none := by
  rw [measured, put_pw, put_pw, set_pw, set_pw, set_pw, unloaded, withPw_pw]

theorem reported_of_fails (c declared : Nat) :
    reported s c v0 e declared true = (verifying s 0 false).raise 16 sevWarning 0 noDom [d4 v0, d4 c, d4 e] := if_pos rfl

theorem reported_of_verified (c declared : Nat) :
    ∃ src sev data, reported s c v0 e declared false = (verifying s (min e declared) true).raise src sev 0 noDom data := by
  unfold reported
  rw [if_neg Bool.false_ne_true]
  split
  · exact ⟨_, _, _, rfl⟩
  · exact ⟨_, _, _, rfl⟩

/-- What is left of a test by the energy that it verifies. -/
structure TestEnded (t u : State) (e : Nat) (b : Bool) : Prop where
  test : t.pw.test = u.pw.test
  failed : t.on F.pwrHoldupStatusFailed = u.on F.pwrHoldupStatusFailed
  verified : t.on F.perHoldupVerified = b
  energy : t.get F.perHoldupVerifiedMj = e

theorem testEnded_holdupChanged (u : State) (he : e < 2 ^ 24) (b : Bool) (src sev : Nat) (data : List (Nat × Nat)) :
    TestEnded (((verifying u e b).raise src sev 0 noDom data).holdupChanged) u e b where
  test := by rw [pw_holdupChanged, raise_pw, verifying, put_pw, set_pw]
  failed := by
    refine (on_of_reg (f := F.pwrHoldupStatusFailed) (reg_holdupChanged_power (.inl rfl))).trans ?_
    rw [on_raise, verifying, on_put_other _ _ (by decide), on_set_other _ _ (by decide)]
  verified := by
    refine (on_of_reg (f := F.perHoldupVerified) (reg_holdupChanged_power (.inr rfl))).trans ?_
    rw [on_raise, verifying, on_put_same _ _ (by decide) (by decide)]
  energy := by
    refine (get_of_reg (f := F.perHoldupVerifiedMj) (reg_holdupChanged_power (.inr rfl))).trans ?_
    rw [get_raise, verifying, get_put_other _ _ (by decide), get_set_same _ _ (by decide)]
    exact Nat.mod_eq_of_lt he

end

/-! ### Sensors (R559 to R564, R567) -/

section
variable {s : State} {n l f w : Nat} {x : Int}

theorem hold_showFailed (b : Bool) : (s.showFailed n b).pw = s.pw := ((Keeps.refl 1 s).showFailed n b rfl).same .pw rfl

theorem hold_countGood (c : Nat) : (s.countGood n c).pw.hold = s.pw.hold := by
  unfold State.countGood
  dsimp only
  split
  · rw [set_pw, hold_showFailed]
  · rfl

theorem hold_judgeSensor (c : Nat × Bool) : (s.judgeSensor n x c).pw.hold = s.pw.hold := by
  unfold State.judgeSensor
  split
  · exact hold_countGood _
  · split
    · rw [raise_pw, set_pw, hold_showFailed]
    · rfl

theorem hold_noteLonely : (s.noteLonely n).pw.hold = s.pw.hold := by
  unfold State.noteLonely
  split
  · rfl
  · rw [raise_pw]

theorem hold_valueSensor : (s.valueSensor n x).pw.hold = s.pw.hold := by
  unfold State.valueSensor
  dsimp only
  split
  · rw [put_pw, set_pw]
  · split
    · rw [hold_noteLonely, put_pw, set_pw]
    · rw [put_pw, set_pw]

theorem hold_showHottest : s.showHottest.pw = s.pw := ((Keeps.refl 1 s).showHottest rfl).same .pw rfl

theorem hold_judged (c : Nat × Bool) : ((s.judgeSensor n x c).valueSensor n x).pw.hold = s.pw.hold :=
  hold_valueSensor.trans (hold_judgeSensor c)

theorem hold_shownReading (b : Bool) (u : State) (v : Nat) (hu : u = s.put F.thmStatusNoNeighbour b) :
    ((u.set (F.thmSensorPeriod n) v).showHottest).pw = s.pw := by
  rw [hold_showHottest, set_pw, hu, put_pw]

theorem hold_reading (y : Nat) : ((s.set (F.thmSensorRaw n) y).put (F.thmSensorPresent n) true).pw = s.pw := by
  rw [put_pw, set_pw]

theorem hold_readSensor : (s.readSensor n x f).pw.hold = s.pw.hold :=
  (congrArg PwState.hold (hold_shownReading _ _ _ rfl)).trans
    ((hold_judged _).trans (congrArg PwState.hold (hold_reading _)))

theorem clearSince_cases (clear known : Bool) (c d : List (Nat × Nat)) :
    ∃ e, (if clear then if known then s else withPw s { s.pw with clearSince := c } else withPw s { s.pw with clearSince := d })
      = withPw s { s.pw with clearSince := e } := by
  cases clear
  · exact ⟨d, rfl⟩
  · cases known
    · exact ⟨c, rfl⟩
    · exact ⟨s.pw.clearSince, rfl⟩

/-- Tracking a loop notes since when it has been clear, and nothing else. -/
theorem trackClear_eq : ∃ c, s.trackClear l = withPw s { s.pw with clearSince := c } := clearSince_cases _ _ _ _

theorem hold_trackClear : (s.trackClear l).pw.hold = s.pw.hold := by
  obtain ⟨c, hc⟩ := trackClear_eq (s := s) (l := l)
  rw [hc, withPw_pw]

theorem reg_trackClear (a : Nat) : (s.trackClear l).reg a = s.reg a :=
  reg_of_keeps ((Keeps.refl 524288 s).trackClear l rfl) rfl a

theorem tempQ_of_reg {u : State} (h : u.reg (R.thmSensor n) = s.reg (R.thmSensor n)) : u.tempQ n = s.tempQ n :=
  congrArg State.quarter (get_of_reg (f := F.thmSensorTemp n) h)

theorem limitQ_of_reg {u : State} {g : Fld} (h : u.reg g.reg = s.reg g.reg) : u.limitQ g = s.limitQ g :=
  congrArg (fun (k : Nat) => ((k : Int) - 64) * 4) (get_of_reg h)

/-- What the sample of a NAND, board or other thermistor leads to, once it is read: the loop rises, or the device stops. -/
def sampleActs (s : State) (n : Nat) (t : Int) : State :=
  let s := if s.limitQ (F.thmLimitThrottleAt n) ≤ t then s.raiseLevel (loopOf n) (ms 100) (d4 n) else s
  let s := if n < 32 then (s.ageDie (n / 4)).retrainByTemp n else s
  let s := if s.pw.hold.isSome && s.coolStart then s.endHold.enableStep 1 else s
  let s := if s.limitQ (F.thmLimitStopAt n) ≤ t then s.thermalStop n else s
  if n < 56 && s.limitQ (F.thmLimitTripAt n) ≤ t then s.hardwareTrip else s

theorem exec_sensorSample_of_used (hboot : s.pw.booted = true) (hn : n < 96) (hused : s.sensorUsed n = true) :
    exec (.sensorSample n x f) s
      = .next (sampleActs ((s.readSensor n x f).trackClear (loopOf n)) n ((s.readSensor n x f).tempQ n)) := by
  have hmay : (!s.pw.booted || decide (96 ≤ n) || !s.sensorUsed n) = false := by simp [hboot, hn, hused]
  exact congrArg Host.Outcome.next (if_neg (by rw [hmay]; exact Bool.false_ne_true))

/-- Past the loop, a sample of a sensor off the dies below the stop limit does nothing more. -/
theorem sampleActs_of_calm {t : Int} {u : State} (hn : 32 ≤ n)
    (hu : u = if s.limitQ (F.thmLimitThrottleAt n) ≤ t then s.raiseLevel (loopOf n) (ms 100) (d4 n) else s)
    (hhold : u.pw.hold = none) (hstop : t < u.limitQ (F.thmLimitStopAt n)) (htrip : t < u.limitQ (F.thmLimitTripAt n)) :
    sampleActs s n t = u := by
  subst hu
  unfold sampleActs
  extract_lets s1 s2 s3 s4
  have h2 : s2 = s1 := if_neg (by omega)
  have h3 : s3 = s1 := by
    have hnone : s1.pw.hold = none := hhold
    unfold s3
    rw [h2, hnone]
    exact if_neg Bool.false_ne_true
  have h4 : s4 = s1 := by
    unfold s4
    rw [h3]
    exact if_neg (Int.not_le.mpr hstop)
  rw [h4, if_neg]
  rw [decide_eq_false (Int.not_le.mpr htrip), Bool.and_false]
  exact Bool.false_ne_true

/-! ### Throttling, the power estimate and trips (R563, R564, R567) -/

theorem reg_showLevels {a : Nat} (ha : a ≠ R.thmStatus) : s.showLevels.reg a = s.reg a := by
  unfold State.showLevels
  exact (reg_set_other _ _ ha).trans (reg_set_other _ _ ha)

/-- The level of a loop beside the package's stands in a register of its own. -/
theorem loopField_cases (hl : 0 < l) :
    ((State.loopField l).reg = R.thmMtierLevel ∧ l < 9 ∨ (State.loopField l).reg = R.thmNandLevel) ∧
    (State.loopField l).w = 3 ∧ (l < 25 → (State.loopField l).lo + (State.loopField l).w ≤ 64) := by
  unfold State.loopField
  rw [if_neg (by omega)]
  split
  · refine ⟨.inl ⟨rfl, by assumption⟩, rfl, fun _ => ?_⟩
    change 3 * (l - 1) + 3 ≤ 64
    omega
  · refine ⟨.inr rfl, rfl, fun h => ?_⟩
    change 3 * (l - 9) + 3 ≤ 64
    omega

theorem loopField_reg (hl : 0 < l) : (State.loopField l).reg ≠ R.thmStatus ∧ ¬ Shown (State.loopField l).reg := by
  obtain ⟨⟨hreg, _⟩ | hreg, -⟩ := loopField_cases hl <;> rw [hreg] <;>
    exact ⟨by decide, not_shown_of_channel (by decide) (by decide)⟩

/-- The level of a loop is shown, with the highest of its kind. -/
theorem level_showLevels (hl : 0 < l) (hlt : l < 25) (u : State) (x : Nat) :
    ((u.set (State.loopField l) x).showLevels).get (State.loopField l) = x % 8 := by
  obtain ⟨-, hw, hfit⟩ := loopField_cases hl
  rw [get_of_reg (reg_showLevels (loopField_reg hl).1), get_set_same _ _ (hfit hlt), hw]
  rfl

/-- A loop that has not risen yet rises. -/
theorem raiseLevel_of_free (hlow : s.get (State.loopField l) < 4) (hfree : Store.find? s.pw.rose l = none) (ns : Nat)
    (d : Nat × Nat) :
    s.raiseLevel l ns d = ((((withPw s { s.pw with rose := Store.insert l s.clk s.pw.rose }).set (State.loopField l)
      (s.get (State.loopField l) + 1)).showLevels).raise 18 sevWarning 0 noDom
        [d4 l, d4 (s.get (State.loopField l) + 1), d]) := by
  unfold State.raiseLevel
  rw [hfree]
  exact if_pos (by rw [decide_eq_true hlow]; rfl)

/-- A rise leaves everything that the sensors' limits and the hold are read from. -/
theorem limitQ_raiseLevel {g : Fld} (hg : g.reg ≠ R.thmStatus) (hother : g.reg ≠ (State.loopField l).reg)
    (hlow : s.get (State.loopField l) < 4) (hfree : Store.find? s.pw.rose l = none) (ns : Nat) (d : Nat × Nat) :
    (s.raiseLevel l ns d).limitQ g = s.limitQ g := by
  refine limitQ_of_reg ?_
  rw [raiseLevel_of_free hlow hfree, reg_raise, reg_showLevels hg, reg_set_other _ _ hother, reg_withPw]

theorem hold_raiseLevel (hlow : s.get (State.loopField l) < 4) (hfree : Store.find? s.pw.rose l = none) (ns : Nat)
    (d : Nat × Nat) :
    (s.raiseLevel l ns d).pw.hold = s.pw.hold := by
  rw [raiseLevel_of_free hlow hfree, raise_pw, State.showLevels, set_pw, set_pw, set_pw, withPw_pw]

theorem level_raiseLevel (hl : 0 < l) (hlt : l < 25) (hlow : s.get (State.loopField l) < 4)
    (hfree : Store.find? s.pw.rose l = none) (ns : Nat) (d : Nat × Nat) :
    (s.raiseLevel l ns d).get (State.loopField l) = s.get (State.loopField l) + 1 := by
  rw [raiseLevel_of_free hlow hfree, get_raise, level_showLevels hl hlt]
  omega

theorem lastEvent_raiseLevel (hlow : s.get (State.loopField l) < 4) (hfree : Store.find? s.pw.rose l = none) (ns : Nat)
    (d : Nat × Nat) :
    (s.raiseLevel l ns d).lastEvent = some (18, sevWarning, noDom) := by
  rw [raiseLevel_of_free hlow hfree]
  exact lastEvent_raise _ 18 sevWarning 0 noDom _

/-- A loop is lowered by one level. -/
def lowered (s : State) (l : Nat) : State :=
  (((withPw s { s.pw with clearSince := Store.insert l s.clk s.pw.clearSince }).set (State.loopField l)
    (s.get (State.loopField l) - 1)).showLevels).issueAll

theorem exec_throttleFall_of_clear {x : Nat} (hl : 0 < l) (hlt : l < 25) (hlevel : s.get (State.loopField l) ≠ 0)
    (hclear : Store.find? s.pw.clearSince l = some x) (hlong : x + ms 1000 ≤ s.clk) :
    exec (.throttleFall l) s = .next (if s.get (State.loopField l) = 1 then (lowered s l).raise 19 sevInfo 0 noDom [d4 l]
      else lowered s l) := by
  refine congrArg Host.Outcome.next (if_neg ?_)
  simp only [hclear, Nat.not_le.mpr hlt, hlevel, hlong, Nat.pos_iff_ne_zero.mp hl, decide_false, decide_true, Bool.not_true,
    Bool.or_self, Bool.false_and, Bool.false_eq_true, not_false_eq_true]

theorem level_lowered (hl : 0 < l) (hlt : l < 25) : (lowered s l).get (State.loopField l) = s.get (State.loopField l) - 1 := by
  have hfit : s.get (State.loopField l) < 2 ^ 3 := (loopField_cases hl).2.1 ▸ bits_lt _ _ _
  rw [lowered, get_of_reg (ShownOnly.issueAll _ _ (loopField_reg hl).2), level_showLevels hl hlt]
  omega

theorem clearSince_lowered : Store.find? (lowered s l).pw.clearSince l = some s.clk := by
  have hpw (u : State) : u.issueAll.pw = u.pw := ((Keeps.refl 2949 u).issueAll rfl).same .pw rfl
  rw [lowered, hpw, State.showLevels, set_pw, set_pw, set_pw, withPw_pw]
  exact Store.find?_insert_same _ _ _

theorem exec_powerEstimate_of_low (hlow : w * 100 ≤ s.get F.pwrPowerLimitW * 97) :
    exec (.powerEstimate w) s = .next (s.noteEstimate w (s.get F.pwrPowerLimitW)) :=
  congrArg Host.Outcome.next (if_neg (by omega))

/-- An estimate is kept in its field and, with the time of the last one that was low, in the power state. -/
theorem noteEstimate_eq (limit : Nat) : ∃ y, s.noteEstimate w limit = withPw (s.set F.pwrPowerEstimateW (min w 1023)) y :=
  ⟨_, rfl⟩

theorem get_noteEstimate (limit : Nat) : (s.noteEstimate w limit).get F.pwrPowerEstimateW = min w 1023 := by
  obtain ⟨y, hy⟩ := noteEstimate_eq (s := s) (w := w) limit
  rw [hy, get_withPw, get_set_same s _ (by decide)]
  exact Nat.mod_eq_of_lt (show min w 1023 < 1024 by omega)

theorem out_withPw (y : PwState) : (withPw s y).out = s.out := rfl

theorem out_noteEstimate (limit : Nat) : (s.noteEstimate w limit).out = s.out := by
  obtain ⟨y, hy⟩ := noteEstimate_eq (s := s) (w := w) limit
  rw [hy, out_withPw, set_out]

theorem exec_hardwareTrip_of_hot (hn : n < 56) (hused : s.sensorUsed n = true) (hrun : s.pw.inReset = false)
    (hboot : s.pw.booted = true) (hhot : s.limitQ (F.thmLimitTripAt n) ≤ s.tempQ n) :
    exec (.hardwareTrip n) s = .next s.hardwareTrip := by
  change execHardwareTrip n s = _
  have h96 : ¬ 96 ≤ n := by omega
  simp only [execHardwareTrip, hused, hrun, hboot, hhot, h96, Nat.not_le.mpr hn, decide_false, decide_true, Bool.not_true,
    Bool.or_self, Bool.and_self, Bool.false_eq_true, if_false, if_true]

theorem pw_hardwareTrip : s.hardwareTrip.pw.trip = true ∧ s.hardwareTrip.pw.inReset = true ∧ s.hardwareTrip.pw.tripAt = s.clk :=
  ⟨rfl, rfl, ((((Keeps.refl 3145343 s).cutRails rfl).resetPrivet 4 rfl).railsLow rfl).clk⟩

/-- Privet has left the reset of a trip, and is Off. -/
def tripShown (s : State) : State :=
  ((withPw s { s.pw with inReset := false }).put F.pwrStatusTripSeen true).set F.pwrStatusState pwOff

theorem exec_tripResetRelease_of_late (htrip : s.pw.trip = true) (hreset : s.pw.inReset = true)
    (hlate : s.pw.tripAt + ms 100 ≤ s.clk) :
    exec .tripResetRelease s = .next (((tripShown s).raise 21 sevFatal 0 noDom []).spreadInc 10) := by
  refine congrArg Host.Outcome.next (if_neg ?_)
  rw [htrip, hreset, decide_eq_false (Nat.not_lt.mpr hlate)]
  exact Bool.false_ne_true

theorem pw_tripShown : (tripShown s).pw.inReset = false := by
  rw [tripShown, set_pw, put_pw, withPw_pw]

theorem on_tripShown : (tripShown s).on F.pwrStatusTripSeen = true :=
  (on_set_other _ _ (.inr (by decide))).trans (on_put_same _ true (by decide) (by decide))

theorem supervisor_tripShown : (tripShown s).supervisor = pwOff := get_set_same _ pwOff (by decide)

/-- A report spread to the units shows none of it on the supervisor's side. -/
theorem pw_spreadInc (k : Nat) : (s.spreadInc k).pw = s.pw := ((Keeps.refl 8192 s).spreadInc k rfl).same .pw rfl

theorem lastEvent_spreadInc (k : Nat) : (s.spreadInc k).lastEvent = s.lastEvent :=
  lastEvent_of_obs (((Keeps.refl 8192 s).spreadInc k rfl).same .obs rfl)

end

/-! ### The obligation -/

section
variable {s : State} {n l f v0 v1 x : Nat} {y : Int}

theorem holdupTestComplete_of_verified {e : Nat} (htest : s.pw.test = some (v0, x)) (hdue : x + ms 10 ≤ s.clk)
    (hfell : v1 + 50 ≤ v0)
    (hmin : s.get F.pwrHoldupCfgVminMv < v0) (heff : s.get F.pwrHoldupCfgEffPct ≠ 0) (hma : s.get F.pwrHoldupCfgTestMa ≠ 0)
    (he : e = testEnergy s v0 (v0 - v1)) :
    ∃ t, exec (.holdupTestComplete v1) s = .next t ∧ t.pw.test = none ∧ t.on F.pwrHoldupStatusFailed = false ∧
      t.on F.perHoldupVerified = true ∧ t.get F.perHoldupVerifiedMj = min e (s.get F.perHoldupDeclaredMj) := by
  have hgood : testFails s v0 (v0 - v1) = false := by
    have heffMin : min 100 (s.get F.pwrHoldupCfgEffPct) ≠ 0 := by omega
    rw [testFails, decide_eq_false (by omega), decide_eq_false (by omega), decide_eq_false heffMin, decide_eq_false hma]
    rfl
  obtain ⟨c, hexec⟩ := exec_holdupTestComplete_of_fall htest hdue (v1 := v1) (by omega)
  obtain ⟨src, sev, data, hreport⟩ := reported_of_verified (s := measured (unloaded s) c v0 e false) (v0 := v0) (e := e) c
    (s.get F.perHoldupDeclaredMj)
  rw [hgood, ← he, hreport] at hexec
  have hlow : min e (s.get F.perHoldupDeclaredMj) < 2 ^ 24 :=
    Nat.lt_of_le_of_lt (Nat.min_le_right _ _) (bits_lt _ _ 24)
  have hended := testEnded_holdupChanged (measured (unloaded s) c v0 e false) hlow true src sev data
  exact ⟨_, hexec, hended.test.trans (test_measured c false), hended.failed.trans (failed_measured c false), hended.verified,
    hended.energy⟩

theorem holdupTestComplete_of_small (htest : s.pw.test = some (v0, x)) (hdue : x + ms 10 ≤ s.clk) (hfell : v1 < v0)
    (hsmall : v0 < v1 + 50) :
    ∃ t, exec (.holdupTestComplete v1) s = .next t ∧ t.pw.test = none ∧ t.on F.pwrHoldupStatusFailed = true ∧
      t.on F.perHoldupVerified = false ∧ t.get F.perHoldupVerifiedMj = 0 := by
  have hbad : testFails s v0 (v0 - v1) = true := by
    rw [testFails, decide_eq_true (show v0 - v1 < 50 by omega)]
    rfl
  obtain ⟨c, hexec⟩ := exec_holdupTestComplete_of_fall htest hdue hfell
  rw [hbad, reported_of_fails] at hexec
  have hended := testEnded_holdupChanged (measured (unloaded s) c v0 (testEnergy s v0 (v0 - v1)) true) (show 0 < 2 ^ 24 by decide)
    false 16 sevWarning [d4 v0, d4 c, d4 (testEnergy s v0 (v0 - v1))]
  exact ⟨_, hexec, hended.test.trans (test_measured c true), hended.failed.trans (failed_measured c true), hended.verified,
    hended.energy⟩

/-- A sample of a sensor off the dies that reaches no stop or trip limit: the loop rises where the throttle limit is reached. -/
theorem exec_sensorSample_of_off_die {u r : State} (hboot : s.pw.booted = true) (hn : 32 ≤ n) (hlt : n < 96)
    (hused : s.sensorUsed n = true) (hu : u = (s.readSensor n y f).trackClear (loopOf n))
    (hr : r = if u.limitQ (F.thmLimitThrottleAt n) ≤ u.tempQ n then u.raiseLevel (loopOf n) (ms 100) (d4 n) else u)
    (hhold : r.pw.hold = none) (hstop : u.tempQ n < r.limitQ (F.thmLimitStopAt n))
    (htrip : u.tempQ n < r.limitQ (F.thmLimitTripAt n)) :
    exec (.sensorSample n y f) s = .next r := by
  have htemp : (s.readSensor n y f).tempQ n = u.tempQ n := by
    rw [hu]
    exact (tempQ_of_reg (reg_trackClear _)).symm
  rw [exec_sensorSample_of_used hboot hlt hused, htemp, ← hu, sampleActs_of_calm hn hr hhold hstop htrip]

theorem hold_sampled {u : State} (hhold : s.pw.hold = none) (hu : u = (s.readSensor n y f).trackClear (loopOf n)) :
    u.pw.hold = none := by
  rw [hu, hold_trackClear, hold_readSensor, hhold]

/-- The limits of a sensor stand in another register than the level of its loop. -/
theorem limitQ_raiseLevel_nand {u : State} {g : Fld} (hn : 32 ≤ n) (hlt : n < 48) (hg : g.reg = R.thmLimit n)
    (hlow : u.get (loopField (loopOf n)) < 4) (hfree : Store.find? u.pw.rose (loopOf n) = none) (ns : Nat) (d : Nat × Nat) :
    (u.raiseLevel (loopOf n) ns d).limitQ g = u.limitQ g := by
  have hloop : loopOf n = 9 + (n - 32) := (if_neg (by omega)).trans (if_pos hlt)
  have hne : (loopField (loopOf n)).reg ≠ R.thmLimit n := by
    obtain ⟨⟨hreg, -⟩ | hreg, -⟩ := loopField_cases (l := loopOf n) (by omega) <;> rw [hreg]
    · exact Nat.ne_of_lt (show 0xF00080030008 < 0xF00080030600 + 4 * n by omega)
    · exact Nat.ne_of_lt (show 0xF00080030010 < 0xF00080030600 + 4 * n by omega)
  refine limitQ_raiseLevel ?_ ?_ hlow hfree ns d
  · rw [hg]
    exact (Nat.ne_of_lt (show 0xF00080030004 < 0xF00080030600 + 4 * n by omega)).symm
  · rw [hg]
    exact hne.symm

end

/-- Settles O54. Each clause is its command on the path that the clause names; a flush that starts is `Stopping` (O53), the energy
that a hold-up test verifies passes through the change of the dirty budget, and a level that rises or falls passes through the
levels shown beside it. -/
theorem powerFailHoldUpAndThermalSupervision : Obligations.PowerFailHoldUpAndThermalSupervision := by
  unfold Obligations.PowerFailHoldUpAndThermalSupervision
  refine ⟨fun s n hboot hshort => exec_pfWarnNTrigger_of_short hboot hshort, ?warn, ?limit, ?l2, ?input, ?test, ?deferred,
    ?interval,
    ?verified, ?failed, ?calm, ?rise, ?fall, ?estimate, ?trip, ?release⟩
  case warn =>
    intro s n hboot hlong hon hcold hvector
    have hstop := stopping_startFlush (s := warned s) (k := 1) (supervisor_warned.trans hon) (by decide)
    exact ⟨_, exec_pfWarnNTrigger_of_on hboot hlong hon hcold hvector, hstop.pfWarn.trans on_pfWarn_warned,
      hstop.warned.trans pw_warned.1, hstop.supervisor, hstop.trigger⟩
  case limit => exact fun s hstop hnone hlate => exec_flushLimitExpiry_of_late hstop hnone hlate
  case l2 => exact fun s x hstop hl2 hlate => exec_l2Timeout_of_late hstop hl2 hlate
  case input => exact fun s hwait hlong => exec_inputReturn_of_steady hwait hlong
  case test =>
    intro s v hon hnone
    have hpw := startTest_of_on hon hnone v
    refine ⟨_, rfl, ?_, ?_, ?_⟩ <;> rw [hpw]
  case deferred => exact fun s v hoff => congrArg Host.Outcome.next (startTest_of_deferred hoff v)
  case interval =>
    intro s v hon hnone hdue
    have hpw := startTest_of_on hon hnone v
    refine ⟨_, exec_holdupInterval_of_due hdue, ?_, ?_⟩ <;> rw [hpw]
  case verified => exact fun s v0 v1 x e htest hdue hfell hmin heff hma he =>
    holdupTestComplete_of_verified htest hdue hfell hmin heff hma he
  case failed => exact fun s v0 v1 x htest hdue hfell hsmall => holdupTestComplete_of_small htest hdue hfell hsmall
  case calm =>
    intro s u n f y hboot hn hlt hused hhold hu hlow hstop htrip
    exact exec_sensorSample_of_off_die hboot hn hlt hused hu (if_neg (Int.not_le.mpr hlow)).symm
      (hold_sampled hhold hu) hstop htrip
  case rise =>
    intro s u n f y hboot hn hlt hused hhold hu hhot hstop htrip hlow hfree
    have hloop : loopOf n = 9 + (n - 32) := (if_neg (by omega)).trans (if_pos hlt)
    refine ⟨_, exec_sensorSample_of_off_die hboot hn (by omega) hused hu (if_pos hhot).symm ?_ ?_ ?_,
      level_raiseLevel (by omega) (by omega) hlow hfree _ _, lastEvent_raiseLevel hlow hfree _ _⟩
    · rw [hold_raiseLevel hlow hfree, hold_sampled hhold hu]
    · rwa [limitQ_raiseLevel_nand hn hlt rfl hlow hfree]
    · rwa [limitQ_raiseLevel_nand hn hlt rfl hlow hfree]
  case fall =>
    intro s l x hl hlt hlevel hclear hlong
    refine ⟨_, exec_throttleFall_of_clear hl hlt hlevel hclear hlong, ?_, ?_⟩
    · split
      · rw [get_raise, level_lowered hl hlt]
      · exact level_lowered hl hlt
    · split
      · rw [raise_pw, clearSince_lowered]
      · exact clearSince_lowered
  case estimate => exact fun s w hlow => ⟨_, exec_powerEstimate_of_low hlow, get_noteEstimate _, out_noteEstimate _⟩
  case trip => exact fun s n hn hused hrun hboot hhot => ⟨_, exec_hardwareTrip_of_hot hn hused hrun hboot hhot, pw_hardwareTrip⟩
  case release =>
    intro s htrip hreset hlate
    refine ⟨_, exec_tripResetRelease_of_late htrip hreset hlate, ?_, ?_, ?_, ?_⟩
    · rw [pw_spreadInc, raise_pw, pw_tripShown]
    · exact (on_of_reg (f := F.pwrStatusTripSeen) (reg_spreadInc 10)).trans ((on_raise ..).trans on_tripShown)
    · exact (get_of_reg (f := F.pwrStatusState) (reg_spreadInc 10)).trans ((get_raise ..).trans supervisor_tripShown)
    · exact (lastEvent_spreadInc 10).trans (lastEvent_raise _ 21 sevFatal 0 noDom _)

end Sys2Proof.Proofs.Power

/-!
PROOFS. Boot of Privet, firmware transfer and activation, Commit and Revert (O50).
-/
namespace Sys2Proof.Proofs.Firmware
open Sys2Proof.Machine Sys2Proof.Machine.State Sys2Proof.Proofs.Registers
open Sys2Proof.Proofs.TimeBase (lastEvent_raise)
open Sys2Proof.Proofs.MemoryWindow (next_anyLd)
open Sys2Proof.Proofs.Network (get_of_reg on_of_reg)
open Sys2Proof.Proofs.Persistence (lastEvent_set)
open Sys2Proof.Proofs.Power (reg_spreadInc lastEvent_spreadInc)

/-- The state with another state of Privet. -/
def withPv (s : State) (x : PvState) : State := { s with pv := x }

section
variable {s : State} {n k o : Nat} {b : Bool} {d : List (BitVec 8)}

@[simp] theorem withPv_pv (x : PvState) : (withPv s x).pv = x := rfl
@[simp] theorem reg_withPv (x : PvState) (a : Nat) : (withPv s x).reg a = s.reg a := rfl
@[simp] theorem out_withPv (x : PvState) : (withPv s x).out = s.out := rfl

/-! ### Boot (R516 to R519) -/

/-- Where Privet may boot, its boot ends with the first start-up phase. -/
theorem exec_privetBoot_of_off {a b : FlashBank} {l : List Nat} {u : Bool} (hout : s.pw.inReset = false)
    (hboot : s.pw.booted = false) (hhere : s.pw.lost = false) :
    ∃ v : State, exec (.privetBoot a b l u) s = .next (v.set F.pvModeStartPhase 1).noteBooted :=
  ⟨_, congrArg Host.Outcome.next (if_neg (by rw [hout, hboot, hhere]; decide))⟩

theorem booted_noteBooted : s.noteBooted.pw.booted = true := rfl

theorem reg_noteBooted (a : Nat) : s.noteBooted.reg a = s.reg a := rfl

/-! ### The boot selection (R518) -/

/-- The number by which PV_STATUS shows the pending bank. -/
def pendingNum : Option Bool → Nat
  | none => 0
  | some false => 1
  | some true => 2

theorem showBoot_eq : s.showBoot = (s.set F.pvStatusPending (pendingNum s.pv.pending)).set F.pvStatusTrialCount s.pv.trials := by
  unfold State.showBoot pendingNum
  rfl

theorem pv_showBoot : s.showBoot.pv = s.pv := by
  rw [showBoot_eq, set_pv, set_pv]

theorem out_showBoot : s.showBoot.out = s.out := by
  rw [showBoot_eq, set_out, set_out]

theorem pending_showBoot : s.showBoot.get F.pvStatusPending = pendingNum s.pv.pending := by
  rw [showBoot_eq]
  refine (get_set_apart _ _).trans ((get_set_same s _ (by decide)).trans (Nat.mod_eq_of_lt ?_))
  obtain - | - | - := s.pv.pending <;> decide

theorem on_trial_showBoot : s.showBoot.on F.pvStatusTrial = s.on F.pvStatusTrial := by
  rw [showBoot_eq]
  exact (on_set_apart _ _).trans (on_set_apart _ _)

/-! ### Firmware transfer (R516, Table 3.9) -/

/-- The place of a byte of the bank that does not run. -/
def bankBase (s : State) : Nat := if !s.on F.pvStatusBootBank then 0x03200000 else 0x00100000

section
variable (hn : n < s.ldCount) (hmgmt : s.isMgmt n = true)
include hn hmgmt

theorem exec_transferFw_of_idle (a : Nat) (hidle : s.pv.transfer = none) (hfits : d.length ≤ 48 * 2 ^ 20) :
    exec (.transferFw n a 0 d) s = .next (if a = 0 then s.flashStep n (!s.on F.pvStatusBootBank) (bankBase s) d none true
      else if a = 1 then s.flashStep n (!s.on F.pvStatusBootBank) (bankBase s) d (some d.length) false
      else s.reply n 0x201 .invalidInput []) := by
  have hfit : 0 + d.length ≤ 48 * 2 ^ 20 := by omega
  change execTransferFw n a 0 d s = _
  simp only [execTransferFw, State.mgmtOnly, hn, hmgmt, hidle, hfit, Option.isNone_none, decide_true, Bool.and_true,
    decide_eq_true_eq, if_true, Nat.add_zero, bankBase]

theorem exec_transferFw_of_running (a : Nat) (hrun : s.pv.transfer = some k) (hfits : k + d.length ≤ 48 * 2 ^ 20) :
    exec (.transferFw n a k d) s = .next (if a = 2 then
        s.flashStep n (!s.on F.pvStatusBootBank) (bankBase s + k) d (some (k + d.length)) false
      else if a = 3 then s.flashStep n (!s.on F.pvStatusBootBank) (bankBase s + k) d none true
      else if a = 4 then s.dropTransfer.reply n 0x201 .success []
      else s.reply n 0x201 .invalidInput []) := by
  change execTransferFw n a k d s = _
  simp only [execTransferFw, State.mgmtOnly, hn, hmgmt, hrun, hfits, Option.isNone_some, Option.getD_some, decide_true,
    Bool.and_true, decide_eq_true_eq, Bool.false_eq_true, if_true, if_false, bankBase]

theorem exec_transferFw_of_gap (hrun : s.pv.transfer = some k) (hgap : o ≠ k) :
    exec (.transferFw n 2 o d) s = .next (s.reply n 0x201 .invalidInput []) := by
  change execTransferFw n 2 o d s = _
  simp only [execTransferFw, State.mgmtOnly, hn, hmgmt, hrun, hgap, Option.isNone_some, Option.getD_some, decide_false,
    Bool.and_false, Bool.false_eq_true, if_true, if_false, Nat.reduceEqDiff,
    Bool.false_and]

theorem exec_activateFw_of_written (hlast : s.pv.lastBank = some b) (hidle : s.pv.transfer = none) :
    exec (.activateFw n 1 (bankNum b + 1)) s
      = .next (((withPv s { s.pv with pending := some b, trials := 0 }).showBoot).reply n 0x202 .success []) := by
  change execActivateFw n 1 (bankNum b + 1) s = _
  simp only [execActivateFw, State.mgmtOnly, hn, hmgmt, hlast, hidle, Option.isNone_none, decide_true, Bool.and_true, if_true,
    withPv]

end

theorem pv_flashStep (addr : Nat) (t : Option Nat) (done : Bool) : (s.flashStep n b addr d t done).pv
    = { s.pv with transfer := t, lastBank := if done then some b else s.pv.lastBank } := rfl

theorem flashStep_whole (hidle : s.pv.transfer = none) (addr : Nat) : s.flashStep n b addr d none true
    = ((withPv s { s.pv with lastBank := some b }).send (.flashWrite addr d)).send (.mailbox n 0x201 .success []) := by
  have hpv : { s.pv with transfer := none, lastBank := some b } = { s.pv with lastBank := some b } := by rw [← hidle]
  unfold State.flashStep
  rw [← hpv]
  rfl

/-! ### Commit and Revert (R518, R521) -/

/-- A trial image is committed, and the units are told. -/
def committed (s : State) : State :=
  (((withPv s { s.pv with active := s.on F.pvStatusBootBank, pending := none, trials := 0 }).put F.pvStatusTrial
    false).showBoot).spreadInc 4

/-- What a commit reports. -/
def commitSaid (s : State) (bank : Bool) (i : FlashBank) : State :=
  s.raise 2 sevInfo 0 noDom [d8 (bankNum bank), d8 i.version, d8 s.pv.svn]

/-- A commit raises the fused version, where the image asks for it, and reports that as well. -/
def commitFused (s : State) (bank : Bool) (i : FlashBank) : State :=
  if FlashBank.updateSvn i && s.pv.svn < i.svn then
    commitSaid ((withPv s { s.pv with svn := i.svn }).set F.pvSvnFused i.svn) bank i
  else s

theorem exec_commit_of_trial {i : FlashBank} (himage : s.pv.image = some i) (htrial : s.on F.pvStatusTrial = true)
    (hserves : s.windowServes = true) :
    exec .commit s = .next (commitFused (commitSaid (committed s) (s.on F.pvStatusBootBank) i) (s.on F.pvStatusBootBank) i) := by
  change execCommit s = _
  unfold execCommit
  rw [himage]
  exact congrArg Host.Outcome.next (if_neg (by rw [htrial, hserves]; decide))

/-- A spread counter lies in the cells of the parameter store. -/
theorem pv_spreadInc : ∃ c, (s.spreadInc k).pv = { s.pv with cells := c } := by
  unfold State.spreadInc
  dsimp only
  split
  · exact ⟨s.pv.cells, rfl⟩
  · exact ⟨_, rfl⟩

theorem pv_committed :
    ∃ c, (committed s).pv = { s.pv with active := s.on F.pvStatusBootBank, pending := none, trials := 0, cells := c } := by
  obtain ⟨c, hc⟩ := pv_spreadInc (k := 4) (s :=
    ((withPv s { s.pv with active := s.on F.pvStatusBootBank, pending := none, trials := 0 }).put F.pvStatusTrial false).showBoot)
  exact ⟨c, by rw [committed, hc, pv_showBoot, put_pv, withPv_pv]⟩

theorem trial_committed : (committed s).on F.pvStatusTrial = false := by
  refine (on_of_reg (f := F.pvStatusTrial) (reg_spreadInc 4)).trans ?_
  rw [on_trial_showBoot]
  exact on_put_same _ false (by decide) (by decide)

/-- What a commit leaves of the selection record, and the event that it raised. -/
structure Committed (s t : State) : Prop where
  active : t.pv.active = s.on F.pvStatusBootBank
  pending : t.pv.pending = none
  trials : t.pv.trials = 0
  trial : t.on F.pvStatusTrial = false
  told : t.lastEvent = some (2, sevInfo, noDom)

theorem committed_commitFused (bank : Bool) (i : FlashBank) : Committed s
    (commitFused (commitSaid (committed s) bank i) bank i) := by
  obtain ⟨c, hpv⟩ : ∃ c, (commitSaid (committed s) bank i).pv
      = { s.pv with active := s.on F.pvStatusBootBank, pending := none, trials := 0, cells := c } :=
    pv_committed.imp fun c hc => (raise_pv ..).trans hc
  have htrial : (commitSaid (committed s) bank i).on F.pvStatusTrial = false := (on_raise ..).trans trial_committed
  generalize hu : commitSaid (committed s) bank i = u at hpv htrial
  unfold commitFused
  split
  · refine ⟨?_, ?_, ?_, ?_, lastEvent_raise _ 2 sevInfo 0 noDom _⟩
    · rw [commitSaid, raise_pv, set_pv, withPv_pv, hpv]
    · rw [commitSaid, raise_pv, set_pv, withPv_pv, hpv]
    · rw [commitSaid, raise_pv, set_pv, withPv_pv, hpv]
    · exact (on_raise ..).trans ((on_set_other _ _ (.inl (by decide))).trans htrial)
  · refine ⟨by rw [hpv], by rw [hpv], by rw [hpv], htrial, ?_⟩
    rw [← hu]
    exact lastEvent_raise _ 2 sevInfo 0 noDom _

theorem exec_revert_of_settled (hsettled : s.on F.pvStatusTrial = false) :
    exec .revert s = .next (State.showBoot (withPv s { s.pv with pending := none, trials := 0 })) :=
  congrArg Host.Outcome.next (if_neg (by rw [hsettled]; decide))

end

/-- Settles O50. A transfer takes the branch of its action, and the boot selection record is shown as `showBoot_eq` says. -/
theorem firmwareUpdateStartsAndCommits : Obligations.FirmwareUpdateStartsAndCommits := by
  unfold Obligations.FirmwareUpdateStartsAndCommits
  refine ⟨?boot, ?info, ?whole, ?first, ?next, ?last, ?gap, ?activate, ?commit, ?revert⟩
  case boot =>
    intro s a b k u hout hboot hhere
    obtain ⟨v, hexec⟩ := exec_privetBoot_of_off (a := a) (b := b) (l := k) (u := u) hout hboot hhere
    exact ⟨_, hexec, booted_noteBooted,
      (get_of_reg (f := F.pvModeStartPhase) (reg_noteBooted _)).trans (get_set_same v 1 (by decide))⟩
  case info => exact fun s n hn => next_anyLd _ hn
  case whole =>
    intro s n d hn hmgmt hidle hfits
    have hbase : bankBase s = if s.on F.pvStatusBootBank then 0x00100000 else 0x03200000 := by
      unfold bankBase
      cases s.on F.pvStatusBootBank <;> rfl
    rw [exec_transferFw_of_idle hn hmgmt 0 hidle hfits, if_pos rfl, hbase, flashStep_whole hidle]
    rfl
  case first =>
    intro s n d hn hmgmt hidle hfits
    exact ⟨_, exec_transferFw_of_idle hn hmgmt 1 hidle hfits, pv_flashStep _ _ _⟩
  case next =>
    intro s n k d hn hmgmt hrun hfits
    exact ⟨_, exec_transferFw_of_running hn hmgmt 2 hrun hfits, pv_flashStep _ _ _⟩
  case last =>
    intro s n k d hn hmgmt hrun hfits
    exact ⟨_, exec_transferFw_of_running hn hmgmt 3 hrun hfits, pv_flashStep _ _ _⟩
  case gap => exact fun s n k o d hn hmgmt hrun hgap => exec_transferFw_of_gap hn hmgmt hrun hgap
  case activate =>
    intro s n slot b hn hmgmt hlast hidle hslot
    subst hslot
    refine ⟨_, exec_activateFw_of_written hn hmgmt hlast hidle, ?_, ?_, ?_, ?_⟩
    · rw [State.reply, send_pv, pv_showBoot, withPv_pv]
    · rw [State.reply, send_pv, pv_showBoot, withPv_pv]
    · refine (get_send ..).trans (pending_showBoot.trans ?_)
      cases b <;> rfl
    · rw [State.reply, send_sent, out_showBoot, out_withPv]
  case commit =>
    intro s i himage htrial hserves
    obtain ⟨hactive, hpending, htrials, hsettled, htold⟩ := committed_commitFused (s := s) (s.on F.pvStatusBootBank) i
    exact ⟨_, exec_commit_of_trial himage htrial hserves, hactive, hpending, htrials, hsettled, htold⟩
  case revert => exact fun s hsettled => ⟨_, exec_revert_of_settled hsettled, pv_showBoot, pending_showBoot⟩

end Sys2Proof.Proofs.Firmware

/-!
PROOFS. Control, Payload and Idle flits, L1, CRC errors and replay of a Kilius port (O47).
-/
namespace Sys2Proof.Proofs.Kilius
open Sys2Proof.Machine Sys2Proof.Machine.State Sys2Proof.Proofs.Registers
open Sys2Proof.Proofs.Network (get_of_reg)
open Sys2Proof.Proofs.MemoryWindow (reg_foldl)

/-! ### Ports (R464) -/

section
variable {s : State} {k : Nat} {p : KlPort} {f : Flit}

theorem klPort_setKl_same (hk : k < s.kl.length) (p : KlPort) : (s.setKl k p).klPort k = p := by
  unfold State.klPort State.setKl
  dsimp only
  rw [List.getElem?_set_self hk, Option.getD_some]

/-- A port that holds a request is one of the model's. -/
theorem lt_length_of_pm {q : PmReq} (hq : (s.klPort k).pm = some q) : k < s.kl.length := by
  refine Decidable.by_contra fun hk => ?_
  have hnone : s.klPort k = KlPort.reset := by
    unfold State.klPort
    rw [List.getElem?_eq_none (Nat.le_of_not_lt hk), Option.getD_none]
  rw [hnone] at hq
  cases hq

theorem reg_setKl (p : KlPort) (a : Nat) : (s.setKl k p).reg a = s.reg a := rfl

theorem klState_setKl (p : KlPort) (j : Nat) : (s.setKl k p).klState j = s.klState j := rfl

theorem klState_set_same {x : Nat} (hx : x < 8) : (s.set (F.klLinkStatusState k) x).klState k = x :=
  (get_set_same s x (show 0 + 3 ≤ 64 by decide)).trans (Nat.mod_eq_of_lt hx)

/-! ### Flits that a port can receive (R464) -/

section
variable (hpart : s.part.port k = true) (hgood : State.badFlit f = false)
include hpart hgood

/-- A good flit of a port that is Up or in L1 is handled past its acknowledgement. -/
theorem flitIn_of_good (hstate : s.klState k = portUp ∨ s.klState k = portL1) (g : State → State) :
    s.flitIn k f g = g ((s.cKl k 0x59 0 1).takeAck k f) := by
  have hin : (s.klState k = portUp || s.klState k = portL1 : Bool) = true := by
    rw [Bool.or_eq_true]
    exact hstate.imp decide_eq_true decide_eq_true
  unfold State.flitIn
  rw [hpart, hin, hgood, if_neg (by decide), if_neg Bool.false_ne_true]

theorem exec_align_of_training (hstate : s.klState k = portTraining) (hstep : s.get (F.klLinkStatusTrainStep k) = 7)
    (hback : (s.klPort k).backoff = none) (hop : f.ctlOp = 1) :
    exec (.align k f) s = .next (if (s.klPort k).aligned + 1 < 16 then
        (s.setKl k { s.klPort k with aligned := (s.klPort k).aligned + 1 }).send (.klControl k 1 0x535554494C494B)
      else s.setKl k { s.klPort k with aligned := (s.klPort k).aligned + 1 }) := by
  change execAlign k f s = _
  simp only [execAlign, hpart, hgood, hstate, hstep, hback, hop, Bool.not_true, bne_self_eq_false, Option.isSome_none,
    Bool.or_self, Bool.false_eq_true, if_false]

theorem exec_delayprobe_of_port (hup : s.klState k ≠ portReset) (hdown : s.klState k ≠ portDown) :
    exec (.delayprobe k f) s
      = .next (s.send (.klControl k 3 (f.ctlArg % 256 + 256 * (s.freeWord.toNat % 2 ^ 24)))).drew := by
  change execDelayprobe k f s = _
  simp only [execDelayprobe, hpart, hgood, hup, hdown, Bool.not_true, decide_false, Bool.or_self, Bool.false_eq_true, if_false]

theorem exec_delayecho_of_new (hstate : s.klState k = portRetraining) (hprobe : f.ctlArg % 256 < 16)
    (hnew : (s.klPort k).echoes.any (fun x => x.1 = f.ctlArg % 256) = false) (n : Nat) :
    exec (.delayecho k f n) s = .next (s.setKl k { s.klPort k with
      echoes := (s.klPort k).echoes ++ [(f.ctlArg % 256, (n - f.ctlArg / 256 % 2 ^ 24) / 2)] }) := by
  change execDelayecho k f n s = _
  simp only [execDelayecho, hpart, hgood, hstate, hnew, Nat.not_le.mpr hprobe, decide_true, Bool.or_true, Bool.not_true,
    decide_false, Bool.or_self, Bool.false_eq_true, if_false]

/-! ### Power states (R465, R475) -/

section
variable {u : State} {q : PmReq} (hstate : s.klState k = portUp ∨ s.klState k = portL1)
  (hu : u = (s.cKl k 0x59 0 1).takeAck k f)
include hstate hu

theorem exec_pmreq_of_granted (hup : u.klState k = portUp) (hwant : f.ctlArg % 4 = 1) (hmay : u.mayL1 k = true) :
    ∃ p, exec (.pmreq k f) s
      = .next (State.setKl ((u.send (.klControl k 5 1)).set (F.klLinkStatusState k) portL1) k p) := by
  subst hu
  refine ⟨_, congrArg Host.Outcome.next ((flitIn_of_good hpart hgood hstate _).trans ((if_neg ?_).trans (if_pos ?_)))⟩
  · rw [hup]
    decide
  · rw [hmay, decide_eq_true hwant, Bool.and_self]

theorem exec_pmreq_of_other (hup : u.klState k = portUp) (hwant : f.ctlArg % 4 ≠ 1) :
    exec (.pmreq k f) s = .next (u.send (.klControl k 6 (f.ctlArg % 4))) := by
  subst hu
  refine congrArg Host.Outcome.next ((flitIn_of_good hpart hgood hstate _).trans ((if_neg ?_).trans (if_neg ?_)))
  · rw [hup]
    decide
  · rw [decide_eq_false hwant, Bool.false_and]
    exact Bool.false_ne_true

theorem exec_pmack_of_asked (hq : (u.klPort k).pm = some q) (hone : q.want = 1) (hwant : f.ctlArg % 4 = 1) :
    exec (.pmack k f) s = .next ((u.set (F.klLinkStatusState k) portL1).setKl k
      { (u.set (F.klLinkStatusState k) portL1).klPort k with since := u.clk, pm := none }) := by
  refine congrArg Host.Outcome.next ((flitIn_of_good hpart hgood hstate _).trans ?_)
  rw [← hu]
  dsimp only
  rw [hq]
  exact (if_neg (by rw [hone, hwant]; decide)).trans (if_pos hone)

theorem exec_pmnak_of_asked (hq : (u.klPort k).pm = some q) (hwant : q.want = f.ctlArg % 4) :
    exec (.pmnak k f) s = .next (u.setKl k { u.klPort k with pm := none, lastPayload := u.clk }) := by
  refine congrArg Host.Outcome.next ((flitIn_of_good hpart hgood hstate _).trans ?_)
  rw [← hu]
  dsimp only
  rw [hq]
  exact if_pos hwant

end

end

theorem exec_pmreqRetry_of_late {q : PmReq} (hup : s.portIsUp k = true) (hq : (s.klPort k).pm = some q)
    (hlate : q.last + 1000 ≤ s.clk) (hfew : q.sent < 5) :
    exec (.pmreqRetry k) s = .next ((s.setKl k { s.klPort k with pm := some { q with sent := q.sent + 1, last := s.clk } }).send
      (.klControl k 4 q.want)) := by
  change execPmreqRetry k s = _
  simp only [execPmreqRetry, hq, hup, Nat.not_lt.mpr hlate, hfew, Bool.not_true, decide_false, Bool.or_self,
    Bool.false_eq_true, if_false, if_true]

theorem exec_l1IdleTimer_of_idle (hup : s.portIsUp k = true) (hmay : s.mayL1 k = true) (hnone : (s.klPort k).pm = none) :
    exec (.l1IdleTimer k) s
      = .next ((s.setKl k { s.klPort k with pm := some ⟨1, 1, s.clk, s.clk⟩ }).send (.klControl k 4 1)) := by
  change execL1IdleTimer k s = _
  simp only [execL1IdleTimer, hup, hmay, hnone, Bool.not_true, Option.isSome_none, Bool.or_self, Bool.false_eq_true, if_false]

section
variable (hpart : s.part.port k = true) (hstate : s.klState k = portL1)
include hpart hstate

theorem exec_l1Exit_of_asked : exec (.l1Exit k true true) s = .next (s.leaveL1 k) := by
  change execL1Exit k true true s = _
  simp only [execL1Exit, hpart, hstate, Bool.not_true, bne_self_eq_false, Bool.false_and, Bool.or_self, Bool.false_eq_true,
    if_false, if_true]

theorem exec_l1Exit_of_failed (hwait : (s.klPort k).txWait ≠ []) :
    exec (.l1Exit k false false) s = .next (s.startLinkRetrain k 4) := by
  change execL1Exit k false false s = _
  simp only [execL1Exit, hpart, hstate, hwait, Bool.not_true, bne_self_eq_false, decide_false, Bool.and_false, Bool.or_self,
    Bool.false_eq_true, if_false]

end

/-! ### CRC errors and replay (R467, R469, R470) -/

theorem exec_ackTimeout_of_late {x : KlSent} {l : List KlSent} (hup : s.portIsUp k = true) (hbuf : (s.klPort k).txBuf = x :: l)
    (hlate : x.last + max 64 (s.get (F.klReplayCfgAckTimeoutNs k)) ≤ s.clk) :
    exec (.ackTimeout k) s = .next (s.replayFrom k x.seq) := by
  change execAckTimeout k s = _
  simp only [execAckTimeout, hbuf, hup, Nat.not_lt.mpr hlate, Bool.not_true, decide_false, Bool.or_self, Bool.false_eq_true,
    if_false]

/-- The CRC error is counted and Nak is set. -/
def crcCounted (s : State) (k : Nat) (errs : List Nat) : State :=
  (((s.setKl k { s.klPort k with errs := errs, badRun := (s.klPort k).badRun + 1 }).bump (F.klCrcErrCountCount k)).setNak k)

/-- A CRC error, by the limit of errors in a second and by the run of errors. -/
theorem exec_flitCrcError_of_up {b : List (BitVec 8)} (hup : s.portIsUp k = true) (hbad : flitGood b = false) :
    ∃ (errs : List Nat) (limit : Bool) (d : List (Nat × Nat)), exec (.flitCrcError k b) s = .next (
      if limit then ((crcCounted s k errs).raise 244 sevNotice 0 noDom d).startLinkRetrain k 1
      else if 8 ≤ (s.klPort k).badRun + 1 then (crcCounted s k errs).startLinkRetrain k 3
      else crcCounted s k errs) :=
  ⟨_, _, _, congrArg Host.Outcome.next (if_neg (by rw [hup, hbad]; decide))⟩

theorem reg_sendProbes (a : Nat) : (s.sendProbes k).reg a = s.reg a := by
  unfold State.sendProbes
  dsimp only
  rw [reg_foldl (a := a) (fun s i => reg_send s (.klControl k 2 i) a)]
  exact reg_setKl _ a

/-- A retraining shows its state and counts itself. -/
theorem reg_startLinkRetrain (n a : Nat) :
    (s.startLinkRetrain k n).reg a
      = ((s.set (F.klLinkStatusState k) portRetraining).bump (F.klRetrainCountCount k)).reg a := by
  unfold State.startLinkRetrain
  dsimp only
  rw [reg_sendProbes, reg_setKl]

theorem klState_startLinkRetrain (n : Nat) : (s.startLinkRetrain k n).klState k = portRetraining := by
  have hne : (F.klLinkStatusState k).reg ≠ (F.klRetrainCountCount k).reg :=
    Nat.ne_of_lt (show 0xF000000E0004 + 0x400 * k < 0xF000000E0044 + 0x400 * k by omega)
  rw [State.klState, get_of_reg (reg_startLinkRetrain n _), get_bump_other _ (.inl hne)]
  exact klState_set_same (by decide)

/-- Retraining counts in a register of its own. -/
theorem crcCount_startLinkRetrain (n : Nat) :
    (s.startLinkRetrain k n).get (F.klCrcErrCountCount k) = s.get (F.klCrcErrCountCount k) := by
  have hcount : (F.klCrcErrCountCount k).reg ≠ (F.klRetrainCountCount k).reg :=
    Nat.ne_of_lt (show 0xF000000E0038 + 0x400 * k < 0xF000000E0044 + 0x400 * k by omega)
  have hstate : (F.klCrcErrCountCount k).reg ≠ (F.klLinkStatusState k).reg :=
    Nat.ne_of_gt (show 0xF000000E0004 + 0x400 * k < 0xF000000E0038 + 0x400 * k by omega)
  rw [get_of_reg (reg_startLinkRetrain n _), get_bump_other _ (.inl hcount), get_set_other _ _ (.inl hstate)]

theorem crcCount_crcCounted (errs : List Nat) : (crcCounted s k errs).get (F.klCrcErrCountCount k)
    = satInc (F.klCrcErrCountCount k).w (s.get (F.klCrcErrCountCount k)) := by
  have hne : (F.klCrcErrCountCount k).reg ≠ (F.klNakCountCount k).reg :=
    Nat.ne_of_lt (show 0xF000000E0038 + 0x400 * k < 0xF000000E0040 + 0x400 * k by omega)
  have hcount (p : KlPort) : ((s.setKl k p).bump (F.klCrcErrCountCount k)).get (F.klCrcErrCountCount k)
      = satInc (F.klCrcErrCountCount k).w (s.get (F.klCrcErrCountCount k)) := by
    rw [get_bump_same _ (show 0 + 32 ≤ 64 by decide), get_of_reg (reg_setKl p _)]
  unfold crcCounted State.setNak
  split
  · exact hcount _
  · rw [get_bump_other _ (.inl hne), get_of_reg (reg_setKl _ _), hcount]

end

/-- Settles O47. A good flit of a port that can receive one is handled past its acknowledgement (`flitIn_of_good`); a CRC error
ends in a retraining or in its count alone. -/
theorem kiliusFlitsPowerStatesAndReplay : Obligations.KiliusFlitsPowerStatesAndReplay := by
  unfold Obligations.KiliusFlitsPowerStatesAndReplay
  refine ⟨?align, ?probe, ?echo, ?granted, ?other, ?ack, ?nak, ?retry, ?payload, ?idle, ?discard, ?count, ?run, ?timeout, ?timer,
    ?exit, ?failed⟩
  case align =>
    intro s k f hk hpart hstate hstep hback hgood hop
    refine ⟨_, exec_align_of_training hpart hgood hstate hstep hback hop, ?_, ?_⟩
    · split
      · exact congrArg KlPort.aligned (klPort_setKl_same hk _)
      · exact congrArg KlPort.aligned (klPort_setKl_same hk _)
    · split <;> rfl
  case probe => exact fun s k f hpart hup hdown hgood => exec_delayprobe_of_port hpart hgood hup hdown
  case echo => exact fun s k n f hpart hstate hgood hprobe hnew => exec_delayecho_of_new hpart hgood hstate hprobe hnew n
  case granted =>
    intro s u k f hpart hstate hgood hu hup hwant hmay
    obtain ⟨p, hexec⟩ := exec_pmreq_of_granted hpart hgood hstate hu hup hwant hmay
    exact ⟨_, hexec, (klState_setKl _ _).trans (klState_set_same (by decide)), rfl⟩
  case other => exact fun s u k f hpart hstate hgood hu hup hwant => exec_pmreq_of_other hpart hgood hstate hu hup hwant
  case ack =>
    intro s u k f q hpart hstate hgood hu hq hone hwant
    exact ⟨_, exec_pmack_of_asked hpart hgood hstate hu hq hone hwant, (klState_setKl _ _).trans (klState_set_same (by decide)),
      congrArg KlPort.pm (klPort_setKl_same (lt_length_of_pm hq) _)⟩
  case nak => exact fun s u k f q hpart hstate hgood hu hq hwant => exec_pmnak_of_asked hpart hgood hstate hu hq hwant
  case retry => exact fun s k q hup hq hlate hfew => exec_pmreqRetry_of_late hup hq hlate hfew
  case payload =>
    exact fun s k f hpart hstate hgood htype =>
      congrArg Host.Outcome.next ((flitIn_of_good hpart hgood hstate _).trans (if_pos htype))
  case idle =>
    intro s k f hpart hstate hgood htype
    refine congrArg Host.Outcome.next ((flitIn_of_good hpart hgood hstate _).trans (if_neg ?_))
    rw [htype]
    exact Bool.false_ne_true
  case discard =>
    intro s k f hpart hstate hgood htype hop
    refine congrArg Host.Outcome.next ((flitIn_of_good hpart hgood hstate _).trans (if_pos ?_))
    rw [htype, decide_eq_false (Nat.not_le.mpr hop), Bool.and_false]
    rfl
  case count =>
    intro s k b hk hup hbad
    obtain ⟨errs, limit, d, hexec⟩ := exec_flitCrcError_of_up hup hbad
    refine ⟨_, hexec, ?_⟩
    split
    · exact (crcCount_startLinkRetrain 1).trans ((get_raise ..).trans (crcCount_crcCounted errs))
    · split
      · exact (crcCount_startLinkRetrain 3).trans (crcCount_crcCounted errs)
      · exact crcCount_crcCounted errs
  case run =>
    intro s k b hk hup hbad hrun
    obtain ⟨errs, limit, d, hexec⟩ := exec_flitCrcError_of_up hup hbad
    refine ⟨_, hexec, ?_⟩
    split
    · exact klState_startLinkRetrain 1
    · rw [if_pos (by omega)]
      exact klState_startLinkRetrain 3
  case timeout => exact fun s k x l hup hbuf hlate => exec_ackTimeout_of_late hup hbuf hlate
  case timer => exact fun s k hup hmay hnone => exec_l1IdleTimer_of_idle hup hmay hnone
  case exit => exact fun s k hpart hstate => exec_l1Exit_of_asked hpart hstate
  case failed => exact fun s k hpart hstate hwait => exec_l1Exit_of_failed hpart hstate hwait

end Sys2Proof.Proofs.Kilius

/-!
PROOFS. Requests of an agent, its posted writes, and its answers to the requests of the hub (O55).
-/
namespace Sys2Proof.Proofs.Agents
open Sys2Proof.Machine Sys2Proof.Machine.State Sys2Proof.Proofs.Registers

/-! ### Bytes and lines of a request (R484) -/

theorem fit_self (b : List (BitVec 8)) : State.fit b.length b = b := List.take_left' rfl

/-- A range within a line has one part. -/
theorem lineParts_of_line {p n : Nat} (h : p % 64 + n < 64) : lineParts p (n + 1) = [(p, n + 1)] := by
  have hslots : dataSlots p (n + 1) = 1 := by
    unfold dataSlots
    omega
  have hlow : max p (p / 64 * 64) = p := by omega
  have hhigh : min (p + (n + 1)) ((p / 64 + 1) * 64) - p = n + 1 := by omega
  unfold lineParts
  rw [hslots, List.range_one, List.map_cons, List.map_nil]
  dsimp only
  rw [Nat.add_zero, hlow, hhigh]

theorem atomicNew_fetchAdd_nat (x : Word) (old : Nat) : atomicNew opFetchAdd x 0 old = (old + x.toNat) % 2 ^ 64 := by
  rw [atomicNew, if_pos rfl]

theorem atomicNew_swap_nat (x : Word) (old : Nat) : atomicNew opSwap x 0 old = x.toNat := by
  rw [atomicNew, if_neg (by decide), if_pos rfl, Nat.mod_eq_of_lt x.isLt]

theorem atomicNew_compareSwap_nat (x y : Word) (old : Nat) :
    atomicNew opCompareSwap x y old = if old = x.toNat then y.toNat else old % 2 ^ 64 := by
  rw [atomicNew, if_neg (by decide), if_neg (by decide)]
  split
  · exact Nat.mod_eq_of_lt y.isLt
  · rfl

section
variable {s u : State} {a g p n st k : Nat} {b l : List (BitVec 8)}

/-! ### What a request on VC 0 meets (R487, R504) -/

/-- A request is noted among those that wait for an answer. -/
def requested (s : State) (a g p len : Nat) : State :=
  (s.setAgentSt a { s.agentSt a with requests := ((s.agentSt a).requests + 1) % 2 ^ 32, waiting := (s.agentSt a).waiting
    ++ [(((s.agentSt a).requests + 1) % 2 ^ 32, g, dataSlots p len)] }).showOut a

section
variable {op len right : Nat} (hheard : s.agentHeard a = true) (hfresh : (s.agentSt a).waiting.any (fun w => w.2.1 = g) = false)
  (hu : u = requested s a g p len) (respond : Nat → KlTx) (perform : State → State)
include hheard hfresh hu

theorem agentRequest_of_allowed (hstate : u.get (F.klAgentStatusState a) = 2)
    (hnone : u.agentRefusal a p len right false = none) :
    s.agentRequest a g op p len right respond perform = perform u := by
  subst hu
  unfold requested at hstate hnone ⊢
  simp only [State.agentRequest, hheard, hfresh, hstate, hnone, Bool.not_true, Bool.false_eq_true, if_false]

theorem agentRequest_of_refused (hstate : u.get (F.klAgentStatusState a) = 2)
    (hsome : u.agentRefusal a p len right false = some st) :
    s.agentRequest a g op p len right respond perform = (u.denyAgent a op p len st).answerAgent a g (respond st) := by
  subst hu
  unfold requested at hstate hsome ⊢
  simp only [State.agentRequest, hheard, hfresh, hstate, hsome, Bool.not_true, Bool.false_eq_true, if_false]

theorem agentRequest_of_up (hstate : u.get (F.klAgentStatusState a) = 1) :
    s.agentRequest a g op p len right respond perform =
      (u.bump (F.klAgentDenyCountCount a)).answerAgent a g (respond stDomainDenied) := by
  subst hu
  unfold requested at hstate ⊢
  simp only [State.agentRequest, hheard, hfresh, hstate, Bool.not_true, Bool.false_eq_true, if_false]

end

/-! ### Requests performed (R485, R488) -/

/-- A Read of one line of the window that no host holds modified. -/
theorem agentRead_of_line (o : Option (List (BitVec 8))) (hregion : regionAt p = .window)
    (hheld : s.modifiedLines p (n + 1) = []) (hline : p % 64 + n < 64)
    (hload : s.loadRegion (s.agentDom a) p (n + 1) [] = (l, false)) :
    s.agentRead a g p (n + 1) o = s.answerAgent a g (.readData g stOk 0 (slotBytes p l)) := by
  simp only [State.agentRead, hregion, hheld, lineParts_of_line hline, hload, List.map_cons, List.map_nil, List.zipIdx_cons,
    List.zipIdx_nil, List.foldl_cons, List.foldl_nil, List.flatMap_cons, List.flatMap_nil, List.append_nil, bne_self_eq_false,
    Bool.false_eq_true, if_false, if_true, Nat.add_zero]

/-- A reservation that a store breaks does not meet the clock. -/
theorem nowDtb_breakResv (src : WinSrc) : (s.breakResv k src).nowDtb = s.nowDtb := by
  unfold State.nowDtb
  rw [((Keeps.refl 16384 s).breakResv k src rfl).same .time rfl]

theorem agentAtomicOp_of_free (op : Nat) (x y : Word) (hheld : s.modifiedLines p 8 = []) (hquiet : s.win.held = [])
    (hload : s.loadRegion (s.agentDom a) p 8 [] = (l, false)) :
    s.agentAtomicOp op a g p x y = ((s.breakResv (p / 64) (.kilius a g false)).storeRegion .device (s.agentDom a) s.nowDtb p
      (leBytes 8 (atomicNew op x y (ofBytes l)))).answerAgent a g (.atomicData g stOk (BitVec.ofNat 64 (ofBytes l))) := by
  simp only [State.agentAtomicOp, hheld, hquiet, hload, nowDtb_breakResv, List.any_nil, bne_self_eq_false, Bool.false_eq_true,
    if_false]

section
variable (hheard : s.agentHeard a = true) (hfresh : (s.agentSt a).waiting.any (fun w => w.2.1 = g) = false)
  (hu : u = requested s a g p 8) (hstate : u.get (F.klAgentStatusState a) = 2) (hnone : u.agentRefusal a p 8 2 false = none)
  (hheld : u.modifiedLines p 8 = []) (hquiet : u.win.held = []) (hload : u.loadRegion (u.agentDom a) p 8 [] = (l, false))
include hheard hfresh hu hstate hnone hheld hquiet hload

/-- An atomic that no check refuses and nothing delays. -/
theorem agentAtomicIn_of_allowed (op : Nat) (x y : Word) : s.agentAtomicIn op a g p 7 x y =
    ((u.breakResv (p / 64) (.kilius a g false)).storeRegion .device (u.agentDom a) u.nowDtb p
      (leBytes 8 (atomicNew op x y (ofBytes l)))).answerAgent a g (.atomicData g stOk (BitVec.ofNat 64 (ofBytes l))) :=
  (agentRequest_of_allowed hheard hfresh hu _ _ hstate hnone).trans (agentAtomicOp_of_free op x y hheld hquiet hload)

end

theorem get_setAgentSt (x : AgentState) (f : Fld) : (s.setAgentSt a x).get f = s.get f := rfl

theorem out_setAgentSt (x : AgentState) : (s.setAgentSt a x).out = s.out := rfl

/-! ### Posted writes (R494, R496) -/

theorem exec_kiliusWrite_of_allowed (hheard : s.agentHeard a = true) (hpos : 0 < b.length) (hlen : b.length ≤ 256)
    (hstate : s.get (F.klAgentStatusState a) = 2)
    (hu : u = s.setAgentSt a { s.agentSt a with posted := ((s.agentSt a).posted + 1) % 2 ^ 32 })
    (hnone : u.agentRefusal a p b.length 1 true = none) :
    exec (.kiliusWrite a p (b.length - 1) k b) s = .next ((u.setAgentSt a { u.agentSt a with
      queue := (u.agentSt a).queue ++ [(((s.agentSt a).posted + 1) % 2 ^ 32, p, k, b)] }).postedGo a) := by
  have hfit : State.fit ((b.length - 1) % 256 + 1) b = b := by
    rw [show (b.length - 1) % 256 + 1 = b.length by omega, fit_self]
  have hadmitted : u.get (F.klAgentStatusState a) = 2 := by
    rw [hu]
    exact hstate
  change execKiliusWrite a p (b.length - 1) k b s = _
  unfold execKiliusWrite
  dsimp only
  rw [hheard, if_neg (by decide), hfit, ← hu, hadmitted, if_neg (by decide), hnone]

theorem exec_kiliusWrite_of_dropped (hheard : s.agentHeard a = true) (hstate : s.get (F.klAgentStatusState a) ≠ 2) (p n k : Nat)
    (b : List (BitVec 8)) : ∃ x, exec (.kiliusWrite a p n k b) s = .next ((s.setAgentSt a x).bump (F.klAgentDropCountCount a)) :=
  ⟨_, congrArg Host.Outcome.next ((if_neg (by rw [hheard]; decide)).trans (if_pos (bne_iff_ne.mpr hstate)))⟩

/-! ### Answers to the hub's requests (R487, R488) -/

/-- The request that an answer ends is gone. -/
def unasked (s : State) (a g : Nat) : State :=
  { s with kt := { s.kt with reqs := s.kt.reqs.filter (fun r => !(r.agent = a && r.tag = g)) } }

theorem response_of_match {q : HubReq} (hheard : s.agentHeard a = true) (hq : s.hubReq? a g k = some q)
    (f : State → HubReq → State) : s.response a g k f = ((f (unasked s a g) q).settleRequests).hubRequests a := by
  unfold State.response
  rw [hheard, if_neg (by decide), hq]
  rfl

theorem response_of_none (hheard : s.agentHeard a = true) (hq : s.hubReq? a g k = none) (f : State → HubReq → State) :
    s.response a g k f = s.bump (F.klAgentLateCountCount a) := by
  unfold State.response
  rw [hheard, if_neg (by decide), hq]

theorem exec_agentRequestTimeout_of_late {x : Nat} {q : HubReq}
    (hq : s.kt.reqs.find? (fun r => r.agent = a && r.tag = g) = some q) (hsent : q.sent = some x) (hheard : s.agentHeard a = true)
    (hstate : s.get (F.klAgentStatusState a) = 2) (hlate : x + s.agentTimeout a ≤ s.clk) :
    exec (.agentRequestTimeout a g) s = .next (s.agentDead a (some q.addr)) := by
  change execAgentRequestTimeout a g s = _
  simp only [execAgentRequestTimeout, hq, hsent, hheard, hstate, Nat.not_lt.mpr hlate, Bool.not_true, bne_self_eq_false,
    decide_false, Bool.or_self, Bool.false_eq_true, if_false]

theorem exec_hostApertureTimeout_of_write {x : Nat} (ha : a < s.part.sites)
    (hfind : (s.agentSt a).host.find? (fun h => h.1 = g) = some (g, true, x)) (hlate : x + 50000000 ≤ s.clk) :
    exec (.hostApertureTimeout a g) s = .next ((s.setAgentSt a { s.agentSt a with
      host := (s.agentSt a).host.filter (fun h => h.1 != g) }).answerAgent a g (.cmp g stTimeout)) := by
  change execHostApertureTimeout a g s = _
  simp only [execHostApertureTimeout, Nat.not_le.mpr ha, hfind, Nat.not_lt.mpr hlate, if_false, if_true]

end

/-- Settles O55. A request that is new is met by its checks and then performed, and an answer as `response_of_match` says. -/
theorem agentRequestsArePerformedAndAnswered : Obligations.AgentRequestsArePerformedAndAnswered := by
  unfold Obligations.AgentRequestsArePerformedAndAnswered
  refine ⟨?read, ?denied, ?up, ?write, ?fetchAdd, ?swap, ?compareSwap, ?posted, ?dropped, ?cmp, ?late, ?readData, ?atomicData,
    ?timeout, ?aperture⟩
  case read =>
    intro s u a g p n o l hheard hfresh hn hu hstate hnone hregion hheld hline hload
    have hlen : n % 256 + 1 = n + 1 := by omega
    change execKiliusRead a g p n o s = _
    unfold execKiliusRead
    rw [hlen]
    exact congrArg Host.Outcome.next ((agentRequest_of_allowed hheard hfresh hu _ _ hstate hnone).trans
      (agentRead_of_line o hregion hheld hline hload))
  case denied =>
    intro s u a g p n st o hheard hfresh hn hu hstate hsome
    have hlen : n % 256 + 1 = n + 1 := by omega
    change execKiliusRead a g p n o s = _
    unfold execKiliusRead
    rw [hlen]
    exact congrArg Host.Outcome.next (agentRequest_of_refused hheard hfresh hu _ _ hstate hsome)
  case up =>
    intro s u a g p n o hheard hfresh hn hu hstate
    have hlen : n % 256 + 1 = n + 1 := by omega
    change execKiliusRead a g p n o s = _
    unfold execKiliusRead
    rw [hlen]
    exact congrArg Host.Outcome.next (agentRequest_of_up hheard hfresh hu _ _ hstate)
  case write =>
    intro s u a g p k b x hheard hfresh hpos hlen hu hstate hnone hregion
    have hfit : State.fit ((b.length - 1) % 256 + 1) b = b := by
      rw [show (b.length - 1) % 256 + 1 = b.length by omega, fit_self]
    change execWritenp a g p (b.length - 1) k b x s = _
    unfold execWritenp
    rw [hfit]
    refine congrArg Host.Outcome.next ((agentRequest_of_allowed hheard hfresh hu _ _ hstate hnone).trans ?_)
    unfold State.agentWriteNp
    rw [hregion]
  case fetchAdd =>
    intro s u a g p x l hheard hfresh hu hstate hnone hheld hquiet hload
    rw [← atomicNew_fetchAdd_nat x (ofBytes l)]
    exact congrArg Host.Outcome.next (agentAtomicIn_of_allowed hheard hfresh hu hstate hnone hheld hquiet hload opFetchAdd x 0)
  case swap =>
    intro s u a g p x l hheard hfresh hu hstate hnone hheld hquiet hload
    rw [← atomicNew_swap_nat x (ofBytes l)]
    exact congrArg Host.Outcome.next (agentAtomicIn_of_allowed hheard hfresh hu hstate hnone hheld hquiet hload opSwap x 0)
  case compareSwap =>
    intro s u a g p x y l hheard hfresh hu hstate hnone hheld hquiet hload
    rw [← atomicNew_compareSwap_nat x y (ofBytes l)]
    exact congrArg Host.Outcome.next
      (agentAtomicIn_of_allowed hheard hfresh hu hstate hnone hheld hquiet hload opCompareSwap x y)
  case posted =>
    exact fun s u a p k b hheard hpos hlen hstate hu hnone => exec_kiliusWrite_of_allowed hheard hpos hlen hstate hu hnone
  case dropped =>
    intro s a p n k b ha hheard hstate
    obtain ⟨x, hexec⟩ := exec_kiliusWrite_of_dropped hheard hstate p n k b
    exact ⟨_, hexec, (get_bump_same _ (show 0 + 32 ≤ 64 by decide)).trans (congrArg _ (get_setAgentSt x _)),
      (bump_out _ _).trans (out_setAgentSt x)⟩
  case cmp =>
    intro s a g st h q hheard hq hst hsrc
    refine congrArg Host.Outcome.next ((response_of_match hheard hq _).trans ?_)
    dsimp only
    rw [if_neg (Nat.not_le.mpr hst), hsrc]
    rfl
  case late => exact fun s a g st hheard hq => congrArg Host.Outcome.next (response_of_none hheard hq _)
  case readData =>
    intro s a g st k r h b q hheard hq hst hsrc
    refine congrArg Host.Outcome.next ((response_of_match hheard hq _).trans ?_)
    dsimp only
    rw [if_neg (by rw [decide_eq_false (Nat.not_le.mpr hst), Bool.false_and]; exact Bool.false_ne_true), hsrc]
    rfl
  case atomicData =>
    intro s a g st v q hheard hq hst
    refine congrArg Host.Outcome.next ((response_of_match hheard hq _).trans ?_)
    dsimp only
    rw [if_neg (Nat.not_le.mpr hst)]
    rfl
  case timeout =>
    exact fun s a g x q hq hsent hheard hstate hlate => exec_agentRequestTimeout_of_late hq hsent hheard hstate hlate
  case aperture =>
    intro s a g x h ha hfind hh hlate
    subst hh
    exact exec_hostApertureTimeout_of_write ha hfind hlate

end Sys2Proof.Proofs.Agents

/-!
PROOFS. Messages of an agent, its admission and its permission table, and the links of the mesh (O56).
-/
namespace Sys2Proof.Proofs.Agents
open Sys2Proof.Machine Sys2Proof.Machine.State Sys2Proof.Proofs.Registers
open Sys2Proof.Proofs.TimeBase (lastEvent_raise)
open Sys2Proof.Proofs.Network (get_of_reg on_of_reg reg_toMode)
open Sys2Proof.Proofs.MemoryWindow (reg_foldl)

section
variable {s u : State} {a g n v : Nat}

/-! ### Messages (R482, R492 to R495) -/

theorem agentSt_setAgentSt_same (ha : a < s.kt.agents.length) (x : AgentState) : (s.setAgentSt a x).agentSt a = x := by
  unfold State.agentSt State.setAgentSt
  dsimp only
  rw [List.getElem?_set_self ha, Option.getD_some]

theorem agentSt_set (f : Fld) (x : Nat) : (s.set f x).agentSt a = s.agentSt a := rfl

theorem exec_barrier_of_few (hheard : s.agentHeard a = true) (hfew : (s.agentSt a).barriers.length < 8) (p n : Nat) :
    exec (.barrier a g p n) s = .next ((s.setAgentSt a { s.agentSt a with
      barriers := (s.agentSt a).barriers ++ [⟨g, p, n⟩] }).set (F.klAgentStatusBarriersWaiting a)
        ((s.agentSt a).barriers.length + 1)) :=
  congrArg Host.Outcome.next ((if_neg (by rw [hheard]; decide)).trans (if_neg (Nat.not_le.mpr hfew)))

theorem exec_barrierComplete_of_met {b : KlBarrier} (ha : a < s.part.sites)
    (hfind : (s.agentSt a).barriers.find? (fun b => b.tag = g) = some b) (hmet : s.barrierMet a b = true) :
    exec (.barrierComplete a g) s = .next (((s.setAgentSt a { s.agentSt a with
        barriers := (s.agentSt a).barriers.filter (fun y => y != b) }).set (F.klAgentStatusBarriersWaiting a)
          ((s.agentSt a).barriers.filter (fun y => y != b)).length).klSend (8 + a) (.barrierDone g (s.barrierStatus a b))) := by
  change execBarrierComplete a g s = _
  simp only [execBarrierComplete, Nat.not_le.mpr ha, hfind, hmet, Bool.not_true, Bool.false_eq_true, if_false]

theorem exec_hostinterrupt_of_allowed (hheard : s.agentHeard a = true) (hallow : s.on (F.klAgentCtlHostIrqAllow a) = true)
    (hld : s.ldEnabled n = true) (hdom : s.ldDomain n = s.agentDom a) :
    exec (.hostinterrupt a n v) s = .next (s.msix n v) := by
  refine congrArg Host.Outcome.next ((if_neg (by rw [hheard]; decide)).trans (if_pos ?_))
  rw [hallow, hld, decide_eq_true hdom]
  rfl

theorem exec_postederror_of_ring {i x r h d p st : Nat} (hheard : s.agentHeard a = true)
    (hfind : (s.agentSt a).early.find? (fun e => e.1 = i) = some (i, x, .ring r h, d)) :
    exec (.postederror a p st i) s = .next ((s.setAgentSt a { s.agentSt a with
      early := (s.agentSt a).early.filter (fun y => y.1 != i) }).dropStore 1 r x d true) := by
  change execPostederror a p st i s = _
  simp only [execPostederror, hheard, hfind, Bool.not_true, Bool.false_eq_true, if_false]

theorem exec_launchfired_of_armed {i x y : Nat} {l : Bool} (hheard : s.agentHeard a = true)
    (harmed : s.time.agentSlots.any (fun z => z.1 = a && z.2.1 = i) = true) :
    exec (.launchfired a i x y l) s = .next (State.setBit { s with time := { s.time with
      agentSlots := s.time.agentSlots.filter (fun z => !(z.1 = a && z.2.1 = i)) } } (F.klAgentStatusSlotsArmed a) i false) :=
  congrArg Host.Outcome.next (if_neg (by rw [hheard, harmed]; decide))

theorem exec_event_of_allowed {c : Nat} {b : List (BitVec 8)} (hheard : s.agentHeard a = true)
    (hallow : s.on (F.klAgentCtlEventAllow a) = true)
    (hfew : ((s.agentSt a).events.filter (fun t => s.clk < t + 1000000000)).length < 1000) :
    exec (.event a v c b) s = .next ((s.setAgentSt a { s.agentSt a with
      events := (s.agentSt a).events.filter (fun t => s.clk < t + 1000000000) ++ [s.clk] }).raise (252 + a) (min v sevError) c
        (s.agentDom a) (d4 c :: (State.fit 32 b).map (fun b => (1, b.toNat)))) :=
  congrArg Host.Outcome.next ((if_neg (by rw [hheard, hallow]; decide)).trans (if_neg (Nat.not_le.mpr hfew)))

/-! ### Admission and permissions (R498, R502, R513) -/

/-- A write of KL_AGENT_CTL with Admit, over the registers as its permissions left them. -/
theorem exec_admitAgent_of_up {x : BitVec 32} (ha : a < s.part.sites) (hu : u = s.agentCtl a (x.setWidth 64))
    (hbit : bits (x.setWidth 64) 16 1 = 1) (hstate : u.get (F.klAgentStatusState a) = 1) (hdom : u.agentDom a ≠ 0) :
    ∃ d, exec (.admitAgent a x) s = .next ((u.set (F.klAgentStatusState a) 2).raise 248 sevInfo 0 noDom d) := by
  subst hu
  change ∃ d, execAdmitAgent a x s = _
  simp only [execAdmitAgent, Nat.not_le.mpr ha, hbit, hstate, hdom, Nat.one_ne_zero, if_false]
  exact ⟨_, rfl⟩

theorem exec_revoke_of_admitted {x : BitVec 32} (ha : a < s.part.sites) (hu : u = s.agentCtl a (x.setWidth 64))
    (hbit : bits (x.setWidth 64) 17 1 = 1) (hstate : u.get (F.klAgentStatusState a) = 2) :
    exec (.revoke a x) s = .next (((u.set (F.klAgentStatusState a) 1).endRequests a stAbortedReset).raise 248 sevInfo 0 noDom
      [d4 a, d4 (((u.set (F.klAgentStatusState a) 1).endRequests a stAbortedReset).agentDom a), d4 1]) := by
  subst hu
  refine congrArg Host.Outcome.next ((if_neg (Nat.not_le.mpr ha)).trans (if_neg ?_))
  rw [hbit, hstate]
  decide

section
variable {e : Nat} {x y : BitVec 64} (ha : a < s.part.sites) (he : e < 16)
  (hx : x = (Store.find? s.kt.aptBase (16 * a + e)).getD (s.reg (R.klAptBase a e)))
include ha he hx

theorem exec_klAptCommit_of_window (hregion : regionOf (bits x 12 36 * 4096) (max 1 (bits y 0 32) * 4096) = .window) :
    exec (.klAptCommit a e y) s = .next ((s.setReg (R.klAptBase a e) (x &&& 0xFFFFFFFFF000)).setReg (R.klAptCtl a e)
      (y &&& 0x80000007FFFFFFFF)) := by
  change execKlAptCommit a e y s = _
  simp only [execKlAptCommit, ← hx, hregion, Nat.not_le.mpr ha, Nat.not_le.mpr he, decide_false, Bool.or_self,
    Bool.false_eq_true, if_false, if_true]

theorem exec_klAptCommit_of_nowhere (hregion : regionOf (bits x 12 36 * 4096) (max 1 (bits y 0 32) * 4096) = .nowhere) :
    exec (.klAptCommit a e y) s = .next (s.raise 251 sevNotice 0 noDom
      [d4 a, d8 (bits x 12 36 * 4096), d4 (Config.codeOf 21 5), d4 (Config.codeOf 21 6)]) := by
  change execKlAptCommit a e y s = _
  simp only [execKlAptCommit, ← hx, hregion, Nat.not_le.mpr ha, Nat.not_le.mpr he, decide_false, Bool.or_self,
    Bool.false_eq_true, if_false]

end

/-! ### The mesh (R510) -/

/-- The mesh's failure counts with another one for a link. -/
def meshCount (s : State) (d r x : Nat) (l : List (Nat × Nat × Nat × Nat)) : State :=
  { s with kt := { s.kt with mesh := s.kt.mesh.filter (fun y =>
    !(decide (y.1 = d) && decide (y.2.1 = r) && decide (y.2.2.1 = x))) ++ l } }

theorem exec_meshFlitError_of_first {d r x : Nat} (hd : d < s.part.dies) (hr : r < 8) (hx : x < 4) :
    exec (.meshFlitError d r x false) s = .next ((meshCount s d r x [(d, r, x, 1)]).bump F.espLinkRetryCountCount) := by
  refine congrArg Host.Outcome.next ((if_neg ?_).trans (if_pos ?_))
  · rw [decide_eq_true hd, decide_eq_true hr, decide_eq_false (Nat.not_le.mpr hx), Bool.and_self, Bool.or_true]
    exact Bool.false_ne_true
  · rw [if_neg Bool.false_ne_true]
    decide

/-- The failure of a link of the hub's mesh is kept. -/
def meshFailed (s : State) (r x : Nat) : State :=
  (((s.set F.espLinkFailRouter r).set F.espLinkFailDirection x).set F.espLinkFailDie 15).put F.espLinkFailValid true

/-- A link of the hub's mesh is reported lost. -/
def meshReported (s : State) (r x : Nat) (d : List (Nat × Nat)) : State :=
  ((meshFailed s r x).raise 254 sevCritical 0 noDom d).put F.espStatusMeshOk false

theorem exec_meshFlitError_of_last {r x : Nat} (hr : r < 48) (hx : x < 4)
    (hfind : (s.kt.mesh.find? (fun y => y.1 = 15 && y.2.1 = r && y.2.2.1 = x)).map (·.2.2.2) = some 15) :
    ∃ v d, exec (.meshFlitError 15 r x true) s = .next ((meshReported v r x d).safeMode 7) := by
  change ∃ v d, execMeshFlitError 15 r x true s = _
  simp only [execMeshFlitError, hr, hfind, Nat.not_le.mpr hx, decide_true, decide_false, Bool.and_self, Bool.true_or,
    Bool.not_true, Bool.or_self, Bool.false_eq_true, Option.getD_some, Nat.reduceAdd, Nat.lt_irrefl, if_true, if_false]
  exact ⟨_, _, rfl⟩

theorem reg_meshReported (r x : Nat) (d : List (Nat × Nat)) :
    (meshReported s r x d).reg R.espLinkFail = (meshFailed s r x).reg R.espLinkFail :=
  (reg_set_other _ _ (by decide)).trans (reg_raise ..)

theorem lastEvent_meshReported (r x : Nat) (d : List (Nat × Nat)) :
    (meshReported s r x d).lastEvent = some (254, sevCritical, noDom) :=
  (lastEvent_of_obs (put_obs _ F.espStatusMeshOk false)).trans (lastEvent_raise _ 254 sevCritical 0 noDom d)

theorem router_meshFailed {r : Nat} (hr : r < 48) (x : Nat) : (meshFailed s r x).get F.espLinkFailRouter = r := by
  rw [meshFailed, get_put_apart, get_set_apart, get_set_apart, get_set_same _ _ (by decide)]
  exact Nat.mod_eq_of_lt (show r < 64 by omega)

theorem direction_meshFailed {x : Nat} (hx : x < 4) (r : Nat) : (meshFailed s r x).get F.espLinkFailDirection = x := by
  rw [meshFailed, get_put_apart, get_set_apart, get_set_same _ _ (by decide)]
  exact Nat.mod_eq_of_lt hx

theorem die_meshFailed (r x : Nat) : (meshFailed s r x).get F.espLinkFailDie = 15 := by
  rw [meshFailed, get_put_apart, get_set_same _ _ (by decide)]
  rfl

theorem valid_meshFailed (r x : Nat) : (meshFailed s r x).on F.espLinkFailValid = true := by
  rw [meshFailed, on_put_same _ _ (by decide) (by decide)]

/-- The registers that Safe mode shows. -/
def safeRegs : List Nat :=
  [R.pvMode, R.winStatus, R.ftStatus, R.netStatus] ++ (List.range 8).map R.hzClStatus ++ (List.range 2).map R.klAgentStatus
    ++ (List.range 16).map R.netPortStatus ++ (List.range 11).map R.klLinkStatus

/-- A register outside those that a list of updates shows. -/
theorem reg_foldl_range {f : State → Nat → State} {r : Nat → Nat} {b k : Nat} (hf : ∀ s i, b ≠ r i → (f s i).reg b = s.reg b)
    (hb : b ∉ (List.range k).map r) (s : State) : ((List.range k).foldl f s).reg b = s.reg b := by
  have hne : ∀ i ∈ List.range k, b ≠ r i := fun i hi e => hb (e ▸ List.mem_map_of_mem hi)
  generalize List.range k = l at hne
  induction l generalizing s with
  | nil => rfl
  | cons i l ih =>
    rw [List.foldl_cons, ih _ (fun j hj => hne j (List.mem_cons_of_mem i hj)), hf s i (hne i List.mem_cons_self)]

theorem reg_safeMode {b : Nat} (hb : b ∉ safeRegs) (c : Nat) : (s.safeMode c).reg b = s.reg b := by
  simp only [safeRegs, List.mem_append, not_or, List.mem_cons, List.not_mem_nil, or_false] at hb
  obtain ⟨⟨⟨⟨⟨hmode, hwin, hft, hnet⟩, hcl⟩, hag⟩, hport⟩, hlink⟩ := hb
  unfold State.safeMode
  split
  · rfl
  · rw [reg_foldl_range (r := R.klLinkStatus) (f := fun s p => s.set (F.klLinkStatusState p) 0)
    (fun s i h => reg_set_other s _ h) hlink,
      reg_foldl_range (r := R.netPortStatus) (f := fun s p => s.put (F.netPortStatusUp p) false)
        (fun s i h => reg_set_other s _ h) hport,
      reg_foldl_range (r := R.klAgentStatus) (f := fun s p => s.set (F.klAgentStatusState p) 0)
        (fun s i h => reg_set_other s _ h) hag,
      reg_foldl_range (r := R.hzClStatus) (f := fun s p => s.set (F.hzClStatusState p) 0) (fun s i h => reg_set_other s _ h) hcl,
      reg_set_other _ _ hnet, reg_set_other _ _ hft, reg_set_other _ _ hwin, reg_toMode _ _ _ hmode]

theorem obs_safeMode (c : Nat) : (s.safeMode c).obs = s.obs := ((Keeps.refl 1 s).safeMode c rfl).same .obs rfl

end

/-- Settles O56. Each message is its command past the checks that it passes; the link of the mesh that is lost is shown before
Safe mode, which leaves its registers (`reg_safeMode`). -/
theorem agentMessagesAdmissionAndMesh : Obligations.AgentMessagesAdmissionAndMesh := by
  unfold Obligations.AgentMessagesAdmissionAndMesh
  refine ⟨?barrier, ?met, ?interrupt, ?error, ?launch, ?event, ?admission, ?revoke, ?commit, ?nowhere, ?first, ?last⟩
  case barrier =>
    intro s a g p n ha hheard hfew
    refine ⟨_, exec_barrier_of_few hheard hfew p n, ?_, ?_, ?_⟩
    · rw [agentSt_set, agentSt_setAgentSt_same ha]
    · rw [get_set_same _ _ (show 12 + 4 ≤ 64 by decide)]
      exact Nat.mod_eq_of_lt (show (s.agentSt a).barriers.length + 1 < 16 by omega)
    · rw [set_out, out_setAgentSt]
  case met => exact fun s a g b ha hfind hmet => exec_barrierComplete_of_met ha hfind hmet
  case interrupt => exact fun s a n v hheard hallow hld hdom => exec_hostinterrupt_of_allowed hheard hallow hld hdom
  case error => exact fun s a p st i x r h d hheard hfind => exec_postederror_of_ring hheard hfind
  case launch => exact fun s a i x y l hheard harmed => exec_launchfired_of_armed hheard harmed
  case event => exact fun s a v c b hheard hallow hfew => exec_event_of_allowed hheard hallow hfew
  case admission =>
    intro s u a v ha hu hbit hstate hdom
    have hne : (F.klAgentCtlDomain a).reg ≠ (F.klAgentStatusState a).reg :=
      Nat.ne_of_lt (show 0xF000000F0000 + 0x1000 * a < 0xF000000F0004 + 0x1000 * a by omega)
    obtain ⟨d, hexec⟩ := exec_admitAgent_of_up ha hu hbit hstate hdom
    refine ⟨_, hexec, ?_, ?_, lastEvent_raise _ 248 sevInfo 0 noDom d⟩
    · rw [get_raise, get_set_same _ _ (show 0 + 2 ≤ 64 by decide)]
      rfl
    · exact (get_raise ..).trans (get_set_other _ _ (.inl hne))
  case revoke =>
    exact fun s u a v ha hu hbit hstate =>
      ⟨_, exec_revoke_of_admitted ha hu hbit hstate, lastEvent_raise _ 248 sevInfo 0 noDom _, rfl⟩
  case commit =>
    intro s a e v x ha he hx hregion
    have hne : R.klAptBase a e ≠ R.klAptCtl a e :=
      Nat.ne_of_lt (show 0xF000000F0100 + 0x1000 * a + 16 * e < 0xF000000F0108 + 0x1000 * a + 16 * e by omega)
    refine ⟨_, exec_klAptCommit_of_window ha he hx hregion, ?_, reg_setReg_same _ _ _, ?_⟩
    · rw [reg_setReg_other _ _ hne, reg_setReg_same]
    · rw [setReg_out, setReg_out]
  case nowhere => exact fun s a e v x ha he hx hregion => exec_klAptCommit_of_nowhere ha he hx hregion
  case first => exact fun s d r x hd hr hx => exec_meshFlitError_of_first hd hr hx
  case last =>
    intro s r x hr hx hfind
    obtain ⟨v, d, hexec⟩ := exec_meshFlitError_of_last hr hx hfind
    have hfail : ((meshReported v r x d).safeMode 7).reg R.espLinkFail = (meshFailed v r x).reg R.espLinkFail :=
      (reg_safeMode (by decide) 7).trans (reg_meshReported r x d)
    have hstatus : ((meshReported v r x d).safeMode 7).reg R.espStatus = (meshReported v r x d).reg R.espStatus :=
      reg_safeMode (by decide) 7
    refine ⟨_, hexec, ?_, ?_, ?_, ?_, ?_, ?_⟩
    · exact (get_of_reg (f := F.espLinkFailRouter) hfail).trans (router_meshFailed hr x)
    · exact (get_of_reg (f := F.espLinkFailDirection) hfail).trans (direction_meshFailed hx r)
    · exact (get_of_reg (f := F.espLinkFailDie) hfail).trans (die_meshFailed r x)
    · exact (on_of_reg (f := F.espLinkFailValid) hfail).trans (valid_meshFailed r x)
    · exact (on_of_reg (f := F.espStatusMeshOk) hstatus).trans (on_put_same _ false (by decide) (by decide))
    · exact (lastEvent_of_obs (obs_safeMode 7)).trans (lastEvent_meshReported r x d)

end Sys2Proof.Proofs.Agents

/-!
PROOFS. The loss of a media die (O59).
-/
namespace Sys2Proof.Proofs.Lifecycle
open Sys2Proof.Machine Sys2Proof.Machine.State

/-- The index at which the bytes-out counter of a bandwidth window would lie at PV_UNITS_LOST. -/
def strayIndex : Nat := 33542080

theorem pmcBwOut_strayIndex : R.pmcBwOut strayIndex = R.pvUnitsLost := by decide

/-- A read of that index, as if from a CXL link, whose page lies on channel 0. -/
def strayRead : OutRead :=
  { id := 0, src := .cxl strayIndex 0, ld := 0, line := 0, dom := 0, stamp := 0, since := 0, stage := .decoding, loc := 0,
    retried := false, late := false, fills := false, cacheable := false }

/-- After reset, with channel 0 the only one of die 0 that is not yet offline, its F-channels offline, that read outstanding, and
a bandwidth window open over its index. -/
def strayWindow : State :=
  let s := [1, 2, 3].foldl (fun s c => s.set (F.mtChStatusState c) 4) State.reset
  let s := (List.range 8).foldl (fun s c => s.set (F.ftChStatusState c) 3) s
  { s with obs := { s.obs with bw := [{ idx := strayIndex, until_ := 0, us := 0, usIn := 0, usOut := 0 }] },
           win := { s.win with reads := [strayRead] } }

theorem strayWindow_whole : strayWindow.bit F.pvUnitsLostMediaDie 0 = false := by decide +kernel

/-- Channel 0 goes offline after die 0 is marked: the read ends with poison, its 64 bytes are counted at PV_UNITS_LOST, and the
carry takes the mark away. -/
theorem strayWindow_dieGone : (strayWindow.dieGone 0).bit F.pvUnitsLostMediaDie 0 = false := by decide +kernel

/-- Refutes O59, in the loss of a media die: a state may hold a bandwidth window of any index, and a counter of one beyond the 64
ports can lie at PV_UNITS_LOST. The reads that end as the channels of the die go offline are counted in such a window after the
die has been marked, and the count takes the mark away. -/
theorem not_powerResetsAndLossesOfUnits : ¬ Obligations.PowerResetsAndLossesOfUnits := by
  unfold Obligations.PowerResetsAndLossesOfUnits
  rintro ⟨_, _, _, _, _, _, _, _, _, _, _, _, _, hloss, _⟩
  obtain ⟨t, hexec, hmarked⟩ := hloss strayWindow 0 (by decide) strayWindow_whole
  have hstep : exec (.mediaDieLoss 0) strayWindow = .next (strayWindow.dieGone 0) := rfl
  obtain rfl := Host.Outcome.next.inj (hstep.symm.trans hexec)
  rw [strayWindow_dieGone] at hmarked
  cases hmarked

end Sys2Proof.Proofs.Lifecycle
